-- ==== Sys2Proof/Word.lean ====
section
/-! DEFINITION. The word types of the part: bytes, 32-bit register words, and the sparse map every table of the machine is
held in. -/

namespace Sys2Proof

/-- A byte of memory or of a message. -/
abbrev Byte := BitVec 8

/-- A 32-bit register word (R9). -/
abbrev Word := BitVec 32

/-- A sparse table: pairs of a key and a value, kept sorted by key with no key twice. -/
abbrev Map (α : Type) := List (Nat × α)

/-- A sparse table of numbers in which an absent key reads 0 and no entry holds 0. -/
abbrev Tab := Map Nat

end Sys2Proof
end

