-- ==== Sys2Proof/Syntax.lean ====
section
/-! DEFINITION. The commands of the part: one constructor per row of the table of operations and events
(spec/opcode_table.json), with the operands the row's rule gives it. -/

namespace Sys2Proof

/-- The blocks with a command mailbox (BLOCK_CMD_DESC and BLOCK_CMD_CTRL, in the manner of R121). -/
inductive Mbox where
  | msr | val | wlz | bol | pav | ethSa | gav | epl | upd | pmu
deriving DecidableEq, Repr

/-- How a descriptor reached its engine: a ring pair, or a block's mailbox used by an internal master. -/
inductive Via where
  | ring (n : Fin 64)
  | mailbox (b : Mbox) (master : BitVec 6)
deriving DecidableEq, Repr

/-- A descriptor in hand (R53): how it came, its 64 bytes as a little-endian number, and the bytes its engine reads from
the buffer at addr (empty when the opcode reads none). -/
structure Desc where
  via : Via
  w : BitVec 512
  data : List Byte
deriving DecidableEq, Repr

/-- By which view an access comes (R30, R34): an internal address, a host BAR, Minuet's 32-bit view, or a configuration request
of the host to the PCIe function (R3, R44, R45), whose address is a byte offset in configuration space. -/
inductive Port where
  | internal | bar0 | bar2 | bar4 | minuet | config
deriving DecidableEq, Repr

/-- An atomic operation of a RISC-V core (R35): the AMO operations, load-reserved and store-conditional. -/
inductive Amo where
  | swap | add | xor | and | or | min | max | minu | maxu | lr | sc
deriving DecidableEq, Repr

/-- What the Hall's or DRAM's error correction finds on an access (R38, R491). -/
inductive Ecc where
  | clean | corrected | uncorrectable
deriving DecidableEq, Repr

/-- A master's access to memory, a window or a register (R38): the bytes written, or for a read through the outbound window
the bytes that the host's memory answers; an atomic one carries its operation and its operand; what error correction finds, and
the DRAM row it finds it in, as R494 encodes one. -/
structure Access where
  master : BitVec 6
  port : Port
  addr : BitVec 48
  size : Nat
  write : Bool
  atomic : Option Amo
  data : List Byte
  ecc : Ecc
  row : Word
deriving DecidableEq, Repr

/-- What a target of interrupts shows the ICU when it is offered one (R84, R93): mstatus.MIE, the privilege and pc it has, its fast
vector, and whether it is in WFI (the Bolero sequencer: idle). -/
structure CoreSeen where
  mie : Bool
  priv : BitVec 2
  pc : BitVec 64
  fastVector : BitVec 64
  wfi : Bool
deriving DecidableEq, Repr

/-- How a lane fails (R156): an uncorrectable error in its state, a re-run that fails again, or an uncorrectable error in
its input buffer, which ends one frame. -/
inductive LaneFault where
  | state | rerun | buffer
deriving DecidableEq, Repr

/-- A PHY payload received on a PLC channel (R285) with what the receiver measures of it: whether it decoded, the symbol
time stamp, margin, impulse count, drift flag, and the best modulation and tone mask (R288, R293). -/
structure PlcRx where
  bytes : List Byte
  decoded : Bool
  stamp : BitVec 64
  margin : BitVec 8
  impulses : BitVec 16
  drift : Bool
  bestMod : BitVec 4
  bestMask : BitVec 24
deriving DecidableEq, Repr

/-- A PSDU received on a radio channel (R310), FCS included, with its stamp and RSSI in dBm (R309). -/
structure MzkRx where
  bytes : List Byte
  stamp : BitVec 64
  rssi : Int
deriving DecidableEq, Repr

/-- The parameters of a CONN_UPD that the device begins (R334): the event counter of its instant, then the new values. -/
structure ConnUpd where
  instant : BitVec 16
  interval : BitVec 16
  sup : BitVec 16
  ofs : BitVec 16
  map : BitVec 64
deriving DecidableEq, Repr

/-- A frame received on an Ethernet port, from the destination address on without the FCS: whether the FCS is good, and the
stamp of its SFD (R355, R370). -/
structure EthRx where
  bytes : List Byte
  fcsOk : Bool
  stamp : BitVec 64
deriving DecidableEq, Repr

/-- A message received from the pair partner (R424): mflags, tx_seq, ack_seq, term, whether its CRC is good, its payload. -/
structure EplRx where
  mflags : BitVec 8
  txSeq : Word
  ackSeq : Word
  term : Word
  crcOk : Bool
  payload : List Byte
deriving DecidableEq, Repr

/-- What a start finds (R458, R459): which slots fail their checks (bit 0 A, 1 B), whether a block was repaired from its NAND
backup, whether the known-answer tests of KEYC and of each lane pass (bit l: lane l fails), whether the image cannot read the
settings store, the GiB of DRAM initialisation finds, and cores that fail BIST (bit t: core t). -/
structure BootSeen where
  slotFails : BitVec 2
  repaired : Bool
  keycKat : Bool
  laneFails : BitVec 16
  unreadable : Bool
  dramGib : BitVec 8
  coreFails : BitVec 8
deriving DecidableEq, Repr

/-- One constructor per row of the table. -/
inductive Instr where
  -- Registers, fabric, FIFOs (01)
  | registerWrite (m : BitVec 6) (off : BitVec 26) (size : Nat) (v : BitVec 64)
  | regPairLoRead (m : BitVec 6) (off : BitVec 26)
  | regPairHiWrite (m : BitVec 6) (off : BitVec 26) (v : Word)
  | regPairLoWrite (m : BitVec 6) (off : BitVec 26) (v : Word)
  | rcFieldRead (m : BitVec 6) (off : BitVec 26)
  | fabricAccess (a : Access)
  | fifoFlush (off : BitVec 26)
  | fifoFlushComplete (off : BitVec 26)
  | packetFifoTransfer (src dst : BitVec 26) (arrived : Nat) (ok : Bool)
  -- XDI and the PCIe function (02)
  | perstAssert
  | perstDeassert
  | pcieHotReset
  | pcieFlr
  | pcieLinkDown
  | pcieLinkUp (l1 : Bool)
  | busMasterDisable
  | busMasterEnable
  | hostReadTimeout
  | d3hotEnter
  | d0Return
  | xdiHostVerWrite (v : Word)
  | ringCfgEnable (n : Fin 64) (v : Word)
  | ringCfgDisable (n : Fin 64) (v : Word)
  | ringDisableComplete (n : Fin 64)
  | descriptorFlushTimeout (n : Fin 64) (idx : Nat)
  | sqDoorbell (n : Fin 64) (v : Word)
  | cqDoorbell (n : Fin 64) (v : Word)
  | descriptorFetch (n : Fin 64) (ds : List (BitVec 512))
  | fenceRelease (n : Fin 64)
  | completionPost (n : Fin 64)
  | nop (d : Desc)
  | xdiExpCtrlWrite (v : Word)
  | expBuf (d : Desc)
  | exportRecordDeliver
  | batchTimeout (n : Fin 64)
  | xdiExpCommitWrite (v : BitVec 64)
  | commitJournal
  | hmbGrant (d : Desc)
  | hmbRevoke (d : Desc)
  | hmbRevokeDone
  -- ICU (03)
  | icuEdgeEvent (n : Fin 512)
  | icuLevelAssert (n : Fin 512)
  | modWindowTimeFire (dest : Nat)
  | icuOffer (t : Fin 10) (seen : CoreSeen)
  | icuClaim (t : Fin 10) (m : BitVec 6)
  | icuDone (t : Fin 10) (src : BitVec 9)
  | icuEnableWrite (w : Fin 16) (v : Word)
  | icuMaskWrite (w : Fin 16) (v : Word)
  | icuPendWrite (w : Fin 16) (v hwSet hwClear : Word)
  | icuSrcCmdSet (n : Fin 512)
  | icuSrcCmdClear (n : Fin 512)
  | icuSrcCfgWrite (n : Fin 512) (v : Word)
  | icuModeWrite (t : Fin 10) (v : Word)
  | icuHdoneWrite (v : BitVec 8)
  | msixVectorUnmask (vec : Option (Fin 256)) (fnMask msixEn : Bool)
  | l1ExitDone
  | pmeRepeat
  | hostReattachMessages
  -- The meter state table (04)
  | msrEnable (v : Word)
  | mtrLookup (d : Desc)
  | mtrRead (d : Desc)
  | mtrWrite (d : Desc)
  | mtrAdmit (d : Desc)
  | mtrRelease (d : Desc)
  | mtrRetire (d : Desc)
  | mtrFree (d : Desc)
  | mtrMove (d : Desc)
  | mtrScan (d : Desc)
  | mtrPin (d : Desc)
  | msrRecSelWrite (v : Word)
  | msrRecCommit (v : Word)
  | sweepVisit (i : BitVec 20)
  | msrCheckpointPeriod
  | msrCkptNow
  | msrCheckpointDone (ok : Bool)
  | msrRebuildDone (copy0 copy1 : Bool)
  | msrCleanAll
  -- Reel (05)
  | laneFrame (l : Fin 16)
  | laneReplayWaitEnd (l : Fin 16)
  | reelExqHeadWrite (e : Fin 8) (v : Word)
  | commitPacket (l : Fin 16)
  | reservationDurable
  | commitStallRelease
  | stormReqClear
  | reelSteerWrite (w : Fin 8) (v : Word)
  | steerHandover (k : Fin 64)
  | laneTransientFault (l : Fin 16)
  | lanePermanentFault (l : Fin 16) (kind : LaneFault)
  | laneHang (l : Fin 16)
  | laneKatNow (l : Fin 16)
  | laneKatDone (l : Fin 16) (pass : Bool)
  | reelEnable (v : Word)
  | reelRunningStart
  -- Validation (06)
  | valEnable (v : Word)
  | valLoad (d : Desc)
  | valSwap (d : Desc)
  | valSwapDone
  | valInject (d : Desc)
  | valPath (d : Desc)
  | valReseq (d : Desc)
  -- Waltz (07)
  | waltzEnable (v : Word)
  | waltzRunningStart
  | waltzFeed
  | intervalClose
  | episodeClose
  | restorationReport
  | inferencePeriodic
  | inferNow
  | inferencePassDone
  | scorePeriodic
  | scoreNow
  | scoringPassDone
  | waltzRebuildDone
  | wlzNodeLoad (d : Desc)
  | wlzResults (d : Desc)
  | wlzRestoreRead (d : Desc)
  | wlzSuspRead (d : Desc)
  | wlzInfer (d : Desc)
  | wlzScore (d : Desc)
  | wlzAssign (d : Desc)
  | wlzProfile (d : Desc)
  | wlzRebuild (d : Desc)
  | wlzGroupLoad (d : Desc)
  -- Bolero (08)
  | bolEnable (v : Word)
  | bolCmd (d : Desc)
  | bolApdu (d : Desc)
  | bolCampLoad (d : Desc)
  | bolCampMembers (d : Desc)
  | bolCampStart (d : Desc)
  | bolCampActivate (d : Desc)
  | bolCampWait (d : Desc)
  | bolCampReport (d : Desc)
  | bolCampAbort (d : Desc)
  | bolCampFree (d : Desc)
  | bolGroupSet (d : Desc)
  | bolCmdStatus (d : Desc)
  | ackRequest
  | ackDelayExpiry
  | ackNotice
  | pushStatusNotice
  | cmdAttemptTimeout (i : BitVec 20)
  | tokenWaitExpiry (frame : Nat)
  | announceRepeat (slot : Fin 64) (path : Nat)
  | campaignBlockPace (slot : Fin 64) (path : Nat)
  | statusWindowEnd (slot : Fin 64) (path : Nat)
  | activateAtReached (slot : Fin 64)
  | activationWindowEnd (slot : Fin 64) (path : Nat)
  -- Pavane (09)
  | keyRequest (who : BitVec 6) (handle : Word) (eui : BitVec 64) (purpose : BitVec 8) (gen : BitVec 16) (advance : Bool)
  | keyImport (d : Desc)
  | keyStage (d : Desc)
  | keyCommit (d : Desc)
  | keyAbandon (d : Desc)
  | keyDestroy (d : Desc)
  | keyInfo (d : Desc)
  | keyList (d : Desc)
  | keySuccessor (d : Desc)
  | keyRootWrap (d : Desc)
  | keyInit (d : Desc)
  | keyZeroise (d : Desc)
  | pavUnlock
  | pavUnlockDone
  | pavLock
  | pavCacheFlush
  | pavKatNow (pass : Bool)
  | tamperTrip (sensor : Fin 10) (detail : BitVec 16) (stays : Bool)
  | tamperArm
  | zeroiseNow
  | tamperLogClear
  | nvmProgramDone (ok : Bool)
  -- Polka (10)
  | plcSuperframeStart (n : Fin 16)
  | plcDataSegment (n : Fin 16) (m : PlcRx)
  | plcSack (n : Fin 16) (m : PlcRx)
  | plcAssocReq (n : Fin 16) (m : PlcRx)
  | plcAlive (n : Fin 16) (m : PlcRx)
  | plcTmReq (n : Fin 16) (m : PlcRx)
  | plcTmRsp (n : Fin 16) (m : PlcRx)
  | plcLeave (n : Fin 16) (m : PlcRx)
  | plcReassemblyExpiry (n : Fin 16) (src : BitVec 16) (fid : BitVec 8)
  | plcStandingGrantMiss (n : Fin 16) (src : BitVec 16)
  | plcZcEdge (n : Fin 16) (falling : Bool)
  | plcDlRelease (n : Fin 16)
  | plcDlRetryExpiry (n : Fin 16) (frame : Nat)
  | plcEnable (n : Fin 16) (v : Word)
  | plcListenEnd (n : Fin 16)
  | plcBeaconForce (n : Fin 16)
  | plcAtSelWrite (n : Fin 16) (v : Word)
  | plcTransientFault (n : Fin 16)
  | plcPermanentFault (n : Fin 16) (cause : BitVec 8)
  | plcRxBeacon (n : Fin 16) (sfn : BitVec 16)
  -- Mazurka (11)
  | mzkBeaconSend (n : Fin 12)
  | mzkRxData (n : Fin 12) (m : MzkRx)
  | mzkRxMack (n : Fin 12) (m : MzkRx)
  | mzkMackTimeout (n : Fin 12) (csma : Bool)
  | mzkRxAssocReq (n : Fin 12) (m : MzkRx)
  | mzkRxRouteAck (n : Fin 12) (m : MzkRx)
  | mzkRouteAckTimeout (n : Fin 12) (meter : BitVec 16)
  | mzkRxKeep (n : Fin 12) (m : MzkRx)
  | mzkRxLeave (n : Fin 12) (m : MzkRx)
  | mzkCellSilent (n : Fin 12) (short : BitVec 16)
  | mzkEventAnchor (n : Fin 12) (conn : BitVec 13) (e : Nat) (upd : Option ConnUpd)
  | mzkAdvSend (n : Fin 12)
  | mzkRxConnReq (n : Fin 12) (m : MzkRx)
  | mzkConnUpdInstant (n : Fin 12) (conn : BitVec 13)
  | mzkSupTimeout (n : Fin 12) (conn : BitVec 13)
  | mzkConnHoldExpiry (n : Fin 12) (conn : BitVec 13)
  | mzkResumeTimeout (n : Fin 12)
  | mzkDcRelease (n : Fin 12)
  | mzkDlRelease (n : Fin 12)
  | mzkEnable (n : Fin 12) (v : Word)
  | mzkListenEnd (n : Fin 12)
  | mzkBeaconForce (n : Fin 12)
  | mzkTransientFault (n : Fin 12)
  | mzkPermanentFault (n : Fin 12) (cause : BitVec 8)
  | mzkRxBeacon (n : Fin 12) (bseq routeVer : BitVec 16)
  | mzkSilentEvent (n : Fin 12) (conn : BitVec 13)
  -- The TSU (12)
  | tsuSchemeWrite (scheme : Bool)
  | tsuRateWrite (v : BitVec 64)
  | tsuAdjStep
  | tsuAdjSlew
  | tsuAdjSet
  | slewEnd
  | ppsEdge (falling : Bool)
  | ppsHoldover
  | rtcSecondSync
  | rtcSecWrite (v : Word)
  | pulseArm (k : Fin 4)
  | pulseLeadingEdge (k : Fin 4)
  | pulseTrailingEdge (k : Fin 4)
  | teBuf (d : Desc)
  | teAdj (d : Desc)
  | timeEventDeliver
  | tsuNowRead (m : BitVec 6)
  | tsuConvWrite (m : BitVec 6) (v : BitVec 64)
  | tsuEvtPop
  -- Ethernet (13)
  | ethEnable (n : Fin 12) (v : Word)
  | ethFrameReceive (n : Fin 12) (m : EthRx)
  | pauseExpiry (n : Fin 12) (cls : Fin 8)
  | pauseStorm (n : Fin 12)
  | pauseResend (n : Fin 12) (part : Fin 2)
  | xonPauseSend (n : Fin 12) (part : Fin 2)
  | ethTxqPost (q : Fin 8) (v : Word)
  | ethTxDone (n : Fin 12)
  | tunnelDownlinkSend (conc : BitVec 12)
  | keepaliveSend
  | concSilent (conc : BitVec 12)
  | fdbAgeOut (mac : BitVec 48) (vid : BitVec 12)
  | ethConcSelWrite (v : Word)
  | ethConcCommit
  | saInstall (c : Desc)
  | saTxSwitch (c : Desc)
  | saDelete (c : Desc)
  | ethWakeCfgWrite (v : Word)
  | ethWake (n : Fin 12) (frame : Option (List Byte))
  | ethLinkChange (n : Fin 12) (up : Bool) (rate : BitVec 3)
  | ethTransientFault (n : Fin 12) (fec : Bool)
  | ethPermanentFault (n : Fin 12) (cause : BitVec 8)
  | pauseIgnoreEnd (n : Fin 12)
  -- Gavotte (14)
  | gavEnable (v : Word)
  | gavMount (rootOk dieOk : Bool)
  | gavMountDone
  | gavSectorProgram
  | gavPartialFlush
  | gavProgramDone (ok : Bool)
  | gavJournalSector (ok : Bool)
  | gavSysvalWrite (id : BitVec 8) (v : BitVec 72)
  | gavGcStart (die : Fin 128)
  | gavGcCopyDone (die : Fin 128) (reads : List (Nat × Bool)) (targetOk : Bool)
  | gavGcErase (die : Fin 128)
  | gavEraseDone (die : Fin 128) (ok : Bool)
  | gavDieFault (die : Fin 128) (permanent : Bool) (lost : List Nat)
  | arcRead (d : Desc) (reads : List (Nat × Bool))
  | arcBlkRead (d : Desc) (reads : List (Nat × Bool))
  | arcBlkWrite (d : Desc)
  | arcTrim (d : Desc)
  | arcSdiscard (d : Desc)
  | arcFlush (d : Desc)
  | gavFormat (d : Desc)
  | gavInfo (d : Desc)
  | gavSdiscardSeq (d : Desc)
  | gavGcNow (d : Desc)
  | gavMarkLostClear (d : Desc)
  -- EPL (15)
  | eplLinkUp
  | eplLinkDown
  | eplHelloTimer
  | eplHelloTimeout
  | eplRetransmitTimeout
  | hello (m : EplRx)
  | lease (m : EplRx)
  | leaseAck (m : EplRx)
  | tokenRelease (m : EplRx)
  | digest (m : EplRx)
  | digestResult (m : EplRx)
  | selftest (m : EplRx)
  | recheck (m : EplRx)
  | msrDelta (m : EplRx)
  | keyEvent (m : EplRx)
  | keySummary (m : EplRx)
  | settings (m : EplRx) (readable : Bool)
  | bolero (m : EplRx)
  | resync (m : EplRx)
  | winRd (m : EplRx)
  | winRdRsp (m : EplRx)
  | winWr (m : EplRx)
  | leaseRenewTimer
  | leaseExpiry
  | tokenTakeover
  | deadTimer
  | witnessLeaseExpiry
  | swapHandover
  | digestBatchClose
  | digestCompare
  | selftestDone (keyc commit digest : Bool) (laneFail : BitVec 16)
  | mergeDelayApply
  | keySummaryTimer
  | pairInfo (d : Desc)
  | pairSwap (d : Desc)
  | pairWitnessGrant (d : Desc)
  | pairResync (d : Desc)
  | pairMismatchRead (d : Desc)
  -- UPD (16)
  | bootStart (r : BootSeen)
  | bootComplete
  | updOpen (d : Desc)
  | updData (d : Desc)
  | updVerify (d : Desc)
  | updActivate (d : Desc)
  | updClose (d : Desc)
  | updAccept (d : Desc)
  | updRevert (d : Desc)
  | updAcceptDefaults (d : Desc)
  | updStatus (d : Desc)
  | updSetPut (d : Desc)
  | updSetGet (d : Desc)
  | updLeaseExpiry
  | updActivateDelay
  | updAutoAccept
  | settingsRevertHold
  | qspiProgramDone (ok : Bool)
  -- Modes, power, resets, DRAM and cores (17)
  | aonpor
  | mainpor (straps : BitVec 4)
  | pinrst (straps : BitVec 4)
  | softrst
  | wdtrst
  | domrst (dom : Fin 15)
  | pmuModeSetRun (d : Desc)
  | pmuModeSetCommission (d : Desc)
  | pmuStormForceSet (d : Desc)
  | pmuStormForceClear (d : Desc)
  | pmuModeSetDormant (d : Desc)
  | pmuResetSoft (d : Desc)
  | pmuResetDomain (d : Desc)
  | pmuResourceRetire (d : Desc)
  | pmuResourceRestore (d : Desc) (pass : Bool)
  | pmuResourceQuery (d : Desc)
  | modeChange
  | islandedCondSet
  | islandedCondClear
  | stormBudgetExhausted
  | stormBudgetHalf
  | thermalSample (tj : BitVec 8) (sensor : Fin 8)
  | thermalThrottleLift
  | thermalStop
  | thermalRestart
  | coreWarnSet (mv : BitVec 10)
  | coreWarnClear (mv : BitVec 10)
  | coreUndervoltReset (straps : BitVec 4)
  | pwrWarnFall
  | pwrWarnRise
  | wdtEnable (v : Word)
  | wdtKick (v : Word)
  | wdtPrewarn
  | rtcAlarmWake
  | perstWake
  | pmuOffMaskWrite (v : Word)
  | dramEccCorrected (row : Word)
  | dramEccUncorrectable (row : Word) (addr : BitVec 48)
  | coreEccError (t : Fin 8) (permanent : Bool)
  | coreProbeTimeout (t : Fin 8)
  | vaonLoss
  | vaonRestore
  | vbatLoss
  | vbatRestore
  -- Sarabande and the trouble log (18)
  | srbEnable
  | srbSample (hw : Option (BitVec 8 × BitVec 8 × BitVec 64))
  | srbFeedWrite (v : Word)
  | snapshotTimer (sec : BitVec 48)
  | srbSnapNow
  | snapshotWritten
  | srbWselWrite (v : Word)
  | logRecord
  | logAppend (m : BitVec 6) (v : Word)
  | logBuf (d : Desc)
  | logBufTimeout
  | srbCopy (d : Desc)
  | logMark (d : Desc)
  | logClear (d : Desc)
  | logCtrlClear (m : BitVec 6)
  | logHeadWrite (v : Word)
  | logSelWrite (v : Word)
  | suppressedSummaryTimer (src : BitVec 6)
deriving DecidableEq, Repr
end Sys2Proof
end

