-- ==== Sys2Proof/Machine/Store.lean ====
section
/-! DEFINITION. The data helpers every block uses: sparse maps in canonical form, little-endian byte strings, bit fields of
numbers, signed readings, the CRC-32C of R7, and byte memory. -/

namespace Sys2Proof.Machine

/-! ### Sparse maps -/

/-- The value stored at a key, if any. -/
def mget? {α : Type} : Map α → Nat → Option α
  | [], _ => none
  | (k, v) :: t, a => if k = a then some v else mget? t a

/-- The value stored at a key, or a default. -/
def mgetD {α : Type} (m : Map α) (a : Nat) (dflt : α) : α := (mget? m a).getD dflt

/-- The map without the key. -/
def mdel {α : Type} (m : Map α) (a : Nat) : Map α := m.filter (fun e => e.1 ≠ a)

/-- Insert an entry before the first larger key. -/
def mins {α : Type} : Map α → Nat → α → Map α
  | [], a, v => [(a, v)]
  | (k, w) :: t, a, v => if a < k then (a, v) :: (k, w) :: t else (k, w) :: mins t a v

/-- The map with the value at the key. -/
def mput {α : Type} (m : Map α) (a : Nat) (v : α) : Map α := mins (mdel m a) a v

/-- Keys strictly rising: the canonical form of a map. -/
def mwf {α : Type} : Map α → Bool
  | [] => true
  | [_] => true
  | (k, _) :: (l, w) :: t => k < l && mwf ((l, w) :: t)

/-- Change the value at a key that is present. -/
def mmod {α : Type} (m : Map α) (a : Nat) (f : α → α) : Map α :=
  match mget? m a with
  | none => m
  | some v => mput m a (f v)

/-- Read a number table: an absent key reads 0. -/
def tget (t : Tab) (a : Nat) : Nat := (mget? t a).getD 0

/-- Write a number table: writing 0 removes the entry. -/
def tset (t : Tab) (a v : Nat) : Tab := if v = 0 then mdel t a else mput t a v

/-- The canonical form of a number table: keys strictly rising, no entry 0. -/
def Tab.wf (t : Tab) : Bool := mwf t && t.all (fun e => e.2 != 0)

/-! ### Bit fields of numbers -/

/-- Bits [lo + w - 1 : lo] of a number. -/
def bits (b lo w : Nat) : Nat := (b >>> lo) % 2 ^ w

/-- A number with bits [lo + w - 1 : lo] replaced. -/
def setBits (b lo w v : Nat) : Nat :=
  b % 2 ^ lo + (v % 2 ^ w) * 2 ^ lo + (b >>> (lo + w)) * 2 ^ (lo + w)

/-- Bit i of a number. -/
def bit (b i : Nat) : Bool := (b >>> i) % 2 == 1

/-- Bytes [o, o + n) of a little-endian record. -/
def byts (b o n : Nat) : Nat := bits b (8 * o) (8 * n)

/-- A record with bytes [o, o + n) replaced. -/
def setByts (b o n v : Nat) : Nat := setBits b (8 * o) (8 * n) v

/-- The number as a signed w-bit value. -/
def sgn (w v : Nat) : Int := if 2 ^ (w - 1) ≤ v % 2 ^ w then (v % 2 ^ w : Int) - 2 ^ w else (v % 2 ^ w : Int)

/-- The w-bit encoding of a signed value. -/
def uns (w : Nat) (i : Int) : Nat := (i % (2 ^ w : Int)).toNat

/-- 1 for true, 0 for false. -/
def b2n (b : Bool) : Nat := if b then 1 else 0

/-- a - b in w-bit serial-number arithmetic. -/
def serSub (w a b : Nat) : Nat := (a + 2 ^ w - b % 2 ^ w) % 2 ^ w

/-- Addition that stops at a maximum. -/
def satAdd (m a b : Nat) : Nat := if a + b ≤ m then a + b else m

/-- The number of ones among the low n bits. -/
def popcount (n b : Nat) : Nat := ((List.range n).filter (fun i => bit b i)).length

/-! ### Byte strings -/

/-- The little-endian number of a byte string. -/
def leNat : List Byte → Nat
  | [] => 0
  | b :: t => b.toNat + 256 * leNat t

/-- The big-endian number of a byte string. -/
def beNat (l : List Byte) : Nat := l.foldl (fun a b => a * 256 + b.toNat) 0

/-- n bytes of a number, little-endian. -/
def leBytes : Nat → Nat → List Byte
  | 0, _ => []
  | n + 1, v => BitVec.ofNat 8 v :: leBytes n (v / 256)

/-- n bytes of a number, big-endian. -/
def beBytes (n v : Nat) : List Byte := (leBytes n v).reverse

/-- Byte i of a string; 0 past its end. -/
def byteAt (l : List Byte) (i : Nat) : Nat := ((l[i]?).getD 0).toNat

/-- The little-endian number of n bytes of a string from offset o. -/
def leAt (l : List Byte) (o n : Nat) : Nat := leNat ((l.drop o).take n)

/-- The big-endian number of n bytes of a string from offset o. -/
def beAt (l : List Byte) (o n : Nat) : Nat := beNat ((l.drop o).take n)

/-- A string cut or padded with zeros to n bytes. -/
def padTo (n : Nat) (l : List Byte) : List Byte := l.take n ++ List.replicate (n - l.length) 0

/-- n zero bytes. -/
def zeros (n : Nat) : List Byte := List.replicate n 0

/-- A string cut into pieces of n bytes, the last one possibly shorter; `fuel` bounds the pieces. -/
def chunksF : Nat → Nat → List Byte → List (List Byte)
  | 0, _, _ => []
  | _ + 1, _, [] => []
  | fuel + 1, n, l => l.take n :: chunksF fuel n (l.drop n)

/-- A string cut into pieces of n bytes. -/
def chunks (n : Nat) (l : List Byte) : List (List Byte) := chunksF (l.length + 1) n l

/-- Fold over 0 … n - 1. -/
def foldN {α : Type} : Nat → (Nat → α → α) → α → α
  | 0, _, a => a
  | n + 1, f, a => f n (foldN n f a)

/-! ### CRC-32C (R7) -/

/-- CRC-32C's remainders of the 16 four-bit values (the polynomial 0x82F63B78, lowest bit first), value x at bit 32x (R7). -/
def crcTable : Nat :=
  0xf36e6f75e330a81ad3d3e1abc38d26c4b21572c9a24bb5a692a8fc1782f63b787198540d61c693625125dad3417b1dbc30e349b120bd8ede105ec76f00000000

/-- Four bits of the CRC. -/
def crcNibble (c : Nat) : Nat := (c >>> 4) ^^^ (crcTable >>> (32 * (c % 16))) % 0x100000000

/-- One byte of the CRC. -/
def crcByte (c : Nat) (b : Byte) : Nat := crcNibble (crcNibble (c ^^^ b.toNat))

/-- CRC-32C over the bytes from a stated initial value, with the final complement (R7). -/
def crc32c (init : Nat) (l : List Byte) : Nat := (l.foldl crcByte init) ^^^ 0xFFFFFFFF

/-! ### Byte memory -/

/-- Memory: (address, byte) pairs, addresses strictly rising, no byte 0 listed. -/
abbrev Memory := List Host.Cell

/-- What an unlisted address reads as: 0 (the Hall is zeroed by a reset of FAB, R487; DRAM: DESIGN CHOICE, log entry 3). -/
def Memory.dflt : Byte := 0

/-- Read one byte. -/
def Memory.read (m : Memory) (a : Nat) : Byte := (mget? m a).getD Memory.dflt

/-- Write one byte; writing the default removes the entry. -/
def Memory.write (m : Memory) (a : Nat) (b : Byte) : Memory := if b = Memory.dflt then mdel m a else mput m a b

/-- The canonical form: addresses strictly rising and no entry equal to what an unlisted address reads as. -/
def Memory.wf (m : Memory) : Bool := mwf m && m.all (fun e => e.2 != Memory.dflt)

/-- Read n bytes upwards from an address. -/
def Memory.readBytes (m : Memory) (a : Nat) : Nat → List Byte
  | 0 => []
  | n + 1 => m.read a :: Memory.readBytes m (a + 1) n

/-- Write bytes upwards from an address. -/
def Memory.writeBytes : Memory → Nat → List Byte → Memory
  | m, _, [] => m
  | m, a, b :: t => Memory.writeBytes (m.write a b) (a + 1) t

end Sys2Proof.Machine
end

