-- ==== Sys2Proof/Machine/Crypto.lean ====
section
/-! DEFINITION. The cryptography the spec names by its standards: AES (FIPS 197), AES-CMAC (SP 800-38B), the counter-mode KDF
of R254, AES Key Wrap (SP 800-38F), AES-CCM and AES-GCM (R127), SHA-384 (FIPS 180-4) and ECDSA over P-384 (FIPS 186). The
standards' own details are PRESUMED (log entry 5). -/

namespace Sys2Proof.Machine

/-! ### AES -/

/-- The S-box of FIPS 197 as one number: byte x of the table at bit 8x. -/
def aesSboxTable : Nat :=
  0x16bb54b00f2d99416842e6bf0d89a18cdf2855cee9871e9b948ed9691198f8e19e1dc186b95735610ef6034866b53e708a8bbd4b1f74dde8c6b4a61c2e2578ba08ae7a65eaf4566ca94ed58d6d37c8e779e4959162acd3c25c2406490a3a32e0db0b5ede14b8ee4688902a22dc4f816073195d643d7ea7c41744975fec130ccdd2f3ff1021dab6bcf5389d928f40a351a89f3c507f02f94585334d43fbaaefd0cf584c4a39becb6a5bb1fc20ed00d153842fe329b3d63b52a05a6e1b1a2c830975b227ebe28012079a059618c323c7041531d871f1e5a534ccf73f362693fdb7c072a49cafa2d4adf04759fa7dc982ca76abd7fe2b670130c56f6bf27b777c63

/-- The inverse S-box, laid out alike. -/
def aesInvSboxTable : Nat :=
  0x7d0c2155631469e126d677ba7e042b17619953833cbbebc8b0f52aae4d3be0a0ef9cc9939f7ae52d0d4ab519a97f51605fec8027591012b131c7078833a8dd1ff45acd78fec0db9a2079d2c64b3e56fc1bbe18aa0e62b76f89c5291d711af1476edf751ce837f9e28535ade72274ac9673e6b4f0cecff297eadc674f4111913a6b8a130103bdafc1020f3fca8f1e2cd00645b3b80558e4f70ad3bc8c00abd890849d8da75746155edab9edfd5048706c92b6655dcc5ca4d41698688664f6f87225d18b6d49a25b76b224d92866a12e084ec3fa420b954cee3d23c2a632947b54cbe9dec444438e3487ff2f9b8239e37cfbd7f3819ea340bf38a53630d56a0952

/-- A byte through a table of 256. -/
def aesByte (t x : Nat) : Nat := (t >>> (8 * (x % 256))) % 256

/-- Exclusive or, byte by byte. -/
def xorL (a b : List Nat) : List Nat := List.zipWith (· ^^^ ·) a b

/-- The bytes of a string as numbers. -/
def toNats (l : List Byte) : List Nat := l.map BitVec.toNat

/-- Numbers as bytes. -/
def toBytes (l : List Nat) : List Byte := l.map (BitVec.ofNat 8)

/-- Bytes as one number, the first lowest. -/
def packL : List Nat → Nat
  | [] => 0
  | b :: t => b + 256 * packL t

/-- The 16 bytes of a block, the first lowest. -/
def unpack16 (s : Nat) : List Nat := (List.range 16).map (fun k => (s >>> (8 * k)) % 256)

/-- The same number in each of the 16 bytes of a block. -/
def aesEach (b : Nat) : Nat := b * 0x01010101010101010101010101010101

/-- The same number in each of the four columns of a block. -/
def aesColumns (w : Nat) : Nat := w * 0x00000001000000010000000100000001

/-- A word through the S-box. -/
def aesSubWord (w : Nat) : Nat :=
  aesByte aesSboxTable w + aesByte aesSboxTable (w >>> 8) * 0x100 + aesByte aesSboxTable (w >>> 16) * 0x10000
    + aesByte aesSboxTable (w >>> 24) * 0x1000000

/-- Multiply every byte of a block by x in GF(2^8). -/
def aesXtime (s : Nat) : Nat := ((s &&& aesEach 0x7F) * 2) ^^^ (((s >>> 7) &&& aesEach 1) * 0x1B)

/-- The key schedule: words of 4 bytes, the first byte lowest, oldest word first. -/
def aesExpand (key : List Nat) : List Nat :=
  let nk := key.length / 4
  let w0 := (List.range nk).map (fun i => packL ((key.drop (4 * i)).take 4))
  let step := fun (n : Nat) (s : List Nat × Nat) =>
    let i := nk + n
    let prev := s.1.headD 0
    let old := (s.1[nk - 1]?).getD 0
    if i % nk = 0 then
      ((old ^^^ aesSubWord ((prev >>> 8) + (prev % 256) * 0x1000000) ^^^ s.2) :: s.1, aesXtime s.2)
    else if nk = 8 && i % nk = 4 then ((old ^^^ aesSubWord prev) :: s.1, s.2)
    else ((old ^^^ prev) :: s.1, s.2)
  ((foldN (3 * nk + 28) step (w0.reverse, 1)).1).reverse

/-- The round key of a round. -/
def roundKey (ws : List Nat) (r : Nat) : Nat :=
  ((ws.drop (4 * r)).take 4).foldr (fun w a => w + 0x100000000 * a) 0

/-- Every byte k of a block becomes a table's byte of the block's byte src k: SubBytes and ShiftRows in one. -/
def aesSub (t : Nat) (src : Nat → Nat) (s : Nat) : Nat :=
  foldN 16 (fun k a => a + aesByte t (s >>> (8 * src k)) * 2 ^ (8 * k)) 0

/-- ShiftRows: where byte k of a block comes from. -/
def aesShift (k : Nat) : Nat := (k + 4 * (k % 4)) % 16

/-- The inverse of ShiftRows. -/
def aesUnshift (k : Nat) : Nat := (k + 12 * (k % 4)) % 16

/-- Each column of a block turned by one byte: byte r takes byte r + 1. -/
def aesTurn (s : Nat) : Nat := ((s >>> 8) &&& aesColumns 0xFFFFFF) + (s &&& aesColumns 0xFF) * 0x1000000

/-- MixColumns. -/
def aesMix (s : Nat) : Nat :=
  let t := aesTurn s
  let u := aesTurn t
  aesXtime (s ^^^ t) ^^^ t ^^^ u ^^^ aesTurn u

/-- The inverse of MixColumns. -/
def aesUnmix (s : Nat) : Nat :=
  let u := aesTurn (aesTurn s)
  aesMix (s ^^^ aesXtime (aesXtime (s ^^^ u)))

/-- Encrypt one block under an expanded key. -/
def aesEncW (ws : List Nat) (b : List Nat) : List Nat :=
  let nr := ws.length / 4 - 1
  let s := foldN (nr - 1) (fun i s => aesMix (aesSub aesSboxTable aesShift s) ^^^ roundKey ws (i + 1)) (packL b ^^^ roundKey ws 0)
  unpack16 (aesSub aesSboxTable aesShift s ^^^ roundKey ws nr)

/-- Decrypt one block under an expanded key. -/
def aesDecW (ws : List Nat) (b : List Nat) : List Nat :=
  let nr := ws.length / 4 - 1
  let s := foldN (nr - 1) (fun i s => aesSub aesInvSboxTable aesUnshift (aesUnmix (s ^^^ roundKey ws (nr - 1 - i))))
    (aesSub aesInvSboxTable aesUnshift (packL b ^^^ roundKey ws nr))
  unpack16 (s ^^^ roundKey ws 0)

/-- Encrypt one 16-byte block. -/
def aesEnc (key block : List Byte) : List Byte := toBytes (aesEncW (aesExpand (toNats key)) (toNats block))

/-! ### AES-CMAC -/

/-- Doubling in GF(2^128) of CMAC, on a big-endian number. -/
def cmacDbl (n : Nat) : Nat := if bit n 127 then (2 * n) % 2 ^ 128 ^^^ 0x87 else 2 * n

/-- A 16-byte string of a big-endian number. -/
def be16 (n : Nat) : List Nat := toNats (beBytes 16 n)

/-- AES-CMAC: the 16-byte tag. -/
def cmac (key msg : List Byte) : List Byte :=
  let ws := aesExpand (toNats key)
  let k1 := cmacDbl (beNat (toBytes (aesEncW ws (List.replicate 16 0))))
  let k2 := cmacDbl k1
  let n := (msg.length + 15) / 16
  let whole := msg.length != 0 && msg.length % 16 == 0
  let head := if n = 0 then [] else msg.take (16 * (n - 1))
  let last := msg.drop head.length
  let lastB := if whole then xorL (toNats last) (be16 k1)
    else xorL (toNats (padTo 16 (last ++ [(0x80 : Byte)]))) (be16 k2)
  let x := (chunks 16 head).foldl (fun x b => aesEncW ws (xorL x (toNats b))) (List.replicate 16 0)
  toBytes (aesEncW ws (xorL x lastB))

/-! ### The KDF and key wrap (R254, R255) -/

/-- The key label of R255. -/
def keyLabel (ctr purpose : Nat) (ident : List Byte) (gen kid outBits : Nat) : List Byte :=
  beBytes 4 ctr ++ leBytes 1 purpose ++ leBytes 1 1 ++ padTo 8 ident ++ leBytes 2 gen ++ leBytes 1 0 ++ leBytes 4 kid
    ++ beBytes 4 outBits

/-- The KDF of R254. -/
def kdf (parent : List Byte) (purpose : Nat) (ident : List Byte) (gen kid outBits : Nat) : List Byte :=
  (List.range (outBits / 128)).flatMap (fun i => cmac parent (keyLabel (i + 1) purpose ident gen kid outBits))

/-- AES Key Wrap with the default initial value. -/
def kwWrap (kek key : List Byte) : List Byte :=
  let ws := aesExpand (toNats kek)
  let n := key.length / 8
  let step := fun (t : Nat) (s : List Nat × List (List Nat)) =>
    let i := t % n
    let b := aesEncW ws (s.1 ++ (s.2[i]?).getD [])
    (xorL (b.take 8) (toNats (beBytes 8 (t + 1))), s.2.set i (b.drop 8))
  let r := foldN (6 * n) step (List.replicate 8 0xA6, (chunks 8 key).map toNats)
  toBytes (r.1 ++ r.2.flatten)

/-- Unwrap; none where the integrity check fails. -/
def kwUnwrap (kek c : List Byte) : Option (List Byte) :=
  let ws := aesExpand (toNats kek)
  let n := c.length / 8 - 1
  let step := fun (j : Nat) (s : List Nat × List (List Nat)) =>
    let t := 6 * n - 1 - j
    let i := t % n
    let b := aesDecW ws (xorL s.1 (toNats (beBytes 8 (t + 1))) ++ (s.2[i]?).getD [])
    (b.take 8, s.2.set i (b.drop 8))
  let r := foldN (6 * n) step (toNats (c.take 8), (chunks 8 (c.drop 8)).map toNats)
  if r.1 == List.replicate 8 0xA6 then some (toBytes r.2.flatten) else none

/-! ### CCM and GCM (R127) -/

/-- Counter mode over a string: block i under pfx ++ (start + i) in w bytes. -/
def ctrMode (ws : List Nat) (pfx : List Byte) (start w : Nat) (l : List Byte) : List Byte :=
  ((chunks 16 l).mapIdx (fun i b =>
    toBytes (xorL (toNats b) (aesEncW ws (toNats (pfx ++ beBytes w (start + i))))))).flatten

/-- A string padded with zeros to whole blocks. -/
def pad16 (l : List Byte) : List Byte := l ++ zeros ((16 - l.length % 16) % 16)

/-- The CCM tag before its encryption (SP 800-38C). -/
def ccmMac (ws : List Nat) (nonce aad msg : List Byte) (tagLen : Nat) : List Byte :=
  let q := 15 - nonce.length
  let fl := (if aad.isEmpty then 0 else 64) + 8 * ((tagLen - 2) / 2) + (q - 1)
  let b0 := leBytes 1 fl ++ nonce ++ beBytes q msg.length
  let a := if aad.isEmpty then [] else pad16 (beBytes 2 aad.length ++ aad)
  toBytes ((chunks 16 (b0 ++ a ++ pad16 msg)).foldl (fun x b => aesEncW ws (xorL x (toNats b))) (List.replicate 16 0))

/-- CCM encryption: ciphertext, then the tag. -/
def ccmSeal (key nonce aad msg : List Byte) (tagLen : Nat) : List Byte :=
  let ws := aesExpand (toNats key)
  let q := 15 - nonce.length
  let pfx := leBytes 1 (q - 1) ++ nonce
  let t := (ccmMac ws nonce aad msg tagLen).take tagLen
  ctrMode ws pfx 1 q msg ++ ctrMode ws pfx 0 q t

/-- CCM decryption; none where the tag does not match. -/
def ccmOpen (key nonce aad sealed : List Byte) (tagLen : Nat) : Option (List Byte) :=
  if sealed.length < tagLen then none
  else
    let ws := aesExpand (toNats key)
    let q := 15 - nonce.length
    let pfx := leBytes 1 (q - 1) ++ nonce
    let n := sealed.length - tagLen
    let m := ctrMode ws pfx 1 q (sealed.take n)
    let t := ctrMode ws pfx 0 q (sealed.drop n)
    if t == (ccmMac ws nonce aad m tagLen).take tagLen then some m else none

/-- Multiplication in GF(2^128) of GHASH, on big-endian numbers. -/
def ghMul (x y : Nat) : Nat :=
  (foldN 128 (fun i (s : Nat × Nat) =>
    (if s.1 % 2 = 1 then s.1 / 2 ^^^ (0xE1 * 2 ^ 120) else s.1 / 2, if bit x (127 - i) then s.2 ^^^ s.1 else s.2)) (y, 0)).2

/-- The GCM tag (SP 800-38D), 96-bit IV. -/
def gcmTag (ws : List Nat) (iv aad ct : List Byte) : List Byte :=
  let h := beNat (toBytes (aesEncW ws (List.replicate 16 0)))
  let blocks := chunks 16 (pad16 aad ++ pad16 ct ++ beBytes 8 (8 * aad.length) ++ beBytes 8 (8 * ct.length))
  let s := blocks.foldl (fun y b => ghMul (y ^^^ beNat b) h) 0
  toBytes (xorL (be16 s) (aesEncW ws (toNats (iv ++ beBytes 4 1))))

/-- GCM encryption: ciphertext, then the 16-byte tag. -/
def gcmSeal (key iv aad msg : List Byte) : List Byte :=
  let ws := aesExpand (toNats key)
  let ct := ctrMode ws iv 2 4 msg
  ct ++ gcmTag ws iv aad ct

/-- GCM decryption with a tag of tagLen bytes; none where the tag does not match. -/
def gcmOpen (key iv aad sealed : List Byte) (tagLen : Nat) : Option (List Byte) :=
  if sealed.length < tagLen then none
  else
    let ws := aesExpand (toNats key)
    let n := sealed.length - tagLen
    let ct := sealed.take n
    if sealed.drop n == (gcmTag ws iv aad ct).take tagLen then some (ctrMode ws iv 2 4 ct) else none

/-! ### SHA-384 -/

/-- The first n primes, by trial division. -/
def firstPrimes (n fuel : Nat) : List Nat :=
  foldN fuel (fun i ps =>
    let c := i + 2
    if ps.length < n && ps.all (fun p => c % p != 0) then ps ++ [c] else ps) []

/-- The largest r with r^k ≤ n, for n below 2^(k·b). -/
def iroot (k b n : Nat) : Nat :=
  foldN b (fun i r =>
    let t := r + 2 ^ (b - 1 - i)
    if t ^ k ≤ n then t else r) 0

/-- The first 64 bits of the fractional part of a k-th root of a prime. -/
def rootFrac (k p : Nat) : Nat := iroot k 72 (p * 2 ^ (64 * k)) % 2 ^ 64

/-- The 80 round constants. -/
def shaK : List Nat := (firstPrimes 80 420).map (rootFrac 3)

/-- The initial hash of SHA-384: the square roots of the 9th to 16th primes. -/
def shaH0 : List Nat := ((firstPrimes 16 60).drop 8).map (rootFrac 2)

/-- Rotate a 64-bit word right. -/
def rotr64 (x k : Nat) : Nat := x / 2 ^ k + (x % 2 ^ k) * 2 ^ (64 - k)

/-- Add modulo 2^64. -/
def add64 (a b : Nat) : Nat := (a + b) % 2 ^ 64

/-- The message schedule of a block. -/
def shaSched (b : List Byte) : List Nat :=
  let w0 := (chunks 8 b).map beNat
  foldN 64 (fun _ ws =>
    let i := ws.length
    let g := fun j => (ws[i - j]?).getD 0
    let s0 := rotr64 (g 15) 1 ^^^ rotr64 (g 15) 8 ^^^ (g 15 / 2 ^ 7)
    let s1 := rotr64 (g 2) 19 ^^^ rotr64 (g 2) 61 ^^^ (g 2 / 2 ^ 6)
    ws ++ [(g 16 + s0 + g 7 + s1) % 2 ^ 64]) w0

/-- One round. -/
def shaRound (s : List Nat) (kw : Nat × Nat) : List Nat :=
  match s with
  | [a, b, c, d, e, f, g, h] =>
    let s1 := rotr64 e 14 ^^^ rotr64 e 18 ^^^ rotr64 e 41
    let ch := (e &&& f) ^^^ ((2 ^ 64 - 1 - e) &&& g)
    let t1 := h + s1 + ch + kw.1 + kw.2
    let s0 := rotr64 a 28 ^^^ rotr64 a 34 ^^^ rotr64 a 39
    let mj := (a &&& b) ^^^ (a &&& c) ^^^ (b &&& c)
    [(t1 + s0 + mj) % 2 ^ 64, a, b, c, (d + t1) % 2 ^ 64, e, f, g]
  | _ => s

/-- SHA-384 of a string: 48 bytes. -/
def sha384 (l : List Byte) : List Byte :=
  let padded := l ++ [(0x80 : Byte)] ++ zeros ((128 - (l.length + 17) % 128) % 128) ++ beBytes 16 (8 * l.length)
  let h := (chunks 128 padded).foldl (fun h b =>
    List.zipWith add64 h ((List.zip shaK (shaSched b)).foldl shaRound h)) shaH0
  (h.take 6).flatMap (beBytes 8)

/-! ### ECDSA over P-384 -/

/-- The prime of P-384. -/
def p384p : Nat := 2 ^ 384 - 2 ^ 128 - 2 ^ 96 + 2 ^ 32 - 1

/-- The group order. -/
def p384n : Nat :=
  0xFFFFFFFFFFFFFFFFFFFFFFFFFFFFFFFFFFFFFFFFFFFFFFFFC7634D81F4372DDF581A0DB248B0A77AECEC196ACCC52973

/-- The base point. -/
def p384g : Nat × Nat :=
  (0xAA87CA22BE8B05378EB1C71EF320AD746E1D3B628BA79B9859F741E082542A385502F25DBF55296C3A545E3872760AB7,
   0x3617DE4A96262C6F5D9E98BF9292DC29F8F41DBD289A147CE9DA3113B5F0B8C00A60B1CE1D7E819D7A431D7C90EA0E5F)

/-- The coefficient b; the coefficient a is -3. -/
def p384b : Nat :=
  0xB3312FA7E23EE7E4988E056BE3F82D19181D9C6EFE8141120314088F5013875AC656398D8A2ED19D2A85C8EDD3EC2AEF

/-- a^e mod m, e below 2^384. -/
def powMod (a e m : Nat) : Nat :=
  foldN 384 (fun i r =>
    let r2 := r * r % m
    if bit e (383 - i) then r2 * a % m else r2) 1

/-- The inverse modulo a prime. -/
def invMod (a m : Nat) : Nat := powMod a (m - 2) m

/-- Add two points; none is the point at infinity. -/
def ecAdd (p q : Option (Nat × Nat)) : Option (Nat × Nat) :=
  match p, q with
  | none, q => q
  | p, none => p
  | some (x1, y1), some (x2, y2) =>
    if x1 = x2 && (y1 + y2) % p384p = 0 then none
    else
      let l := if x1 = x2 then (3 * x1 * x1 + p384p - 3) * invMod (2 * y1) p384p % p384p
        else (y2 + p384p - y1) * invMod (x2 + p384p - x1) p384p % p384p
      let x3 := (l * l + 2 * p384p - x1 - x2) % p384p
      some (x3, (l * (x1 + p384p - x3) + p384p - y1) % p384p)

/-- Multiply a point, k below 2^384. -/
def ecMul (k : Nat) (p : Nat × Nat) : Option (Nat × Nat) :=
  foldN 384 (fun i r =>
    let r2 := ecAdd r r
    if bit k (383 - i) then ecAdd r2 (some p) else r2) none

/-- Whether a pair lies on the curve. -/
def onP384 (p : Nat × Nat) : Bool :=
  p.1 < p384p && p.2 < p384p && (p.2 * p.2) % p384p == (p.1 * p.1 * p.1 + (p384p - 3) * p.1 + p384b) % p384p

/-- Verify an ECDSA P-384 signature of 48-byte r and s, big-endian, over a SHA-384 digest, under a key of 48-byte x and y. -/
def ecdsaVerify (pub digest sig : List Byte) : Bool :=
  let q := (beAt pub 0 48, beAt pub 48 48)
  let r := beAt sig 0 48
  let s := beAt sig 48 48
  if pub.length = 96 && sig.length = 96 && onP384 q && 1 ≤ r && r < p384n && 1 ≤ s && s < p384n then
    let w := invMod s p384n
    let e := beNat digest
    match ecAdd (ecMul (e * w % p384n) p384g) (ecMul (r * w % p384n) q) with
    | none => false
    | some (x, _) => x % p384n == r
  else false

end Sys2Proof.Machine
end

