-- ==== Sys2Proof/Config.lean ====
section
/-! DEFINITION. What the spec leaves open or lets each part fix: free values and constants with no body, so that no proof can
rest on what they are. -/

namespace Sys2Proof

/-- The k-th free value drawn: random bits (R251, R274, R425) and values the spec does not state. Log entry 2. -/
opaque Config.freeValue : Nat → BitVec 256

/-- The device root fused at manufacture (R251). -/
opaque Config.deviceRoot : BitVec 256

/-- The die's EUI-64, as in the PCIe Device Serial Number (R44, R256). -/
opaque Config.dieEui : BitVec 64

/-- The retire cause code of a kind of resource (0–7 as PMU_RESOURCE) whose chapter gives none, by reason: 1 threshold,
2 permanent fault, 3 by command (R493). -/
opaque Config.retireCause (kind reason : Nat) : BitVec 8

/-- The symbols after the preamble of a PLC frame of a number of bytes in a band, a modulation and on a tone mask: header, code and
interleaver are the PHY's own, which the spec leaves to IEEE 1901.2 (R280; log entry 2). -/
opaque Config.plcSymbols (band mod mask bytes : Nat) : Nat

/-- The storm_spread that radio beacons announce, for which no register stands (R312; log entry 2). -/
opaque Config.stormSpread : BitVec 8

/-- The default conn_interval above its minimum of 1,000 ms, and sup_timeout above its minimum of three intervals, which R330
names and no rule gives (log entry 2). -/
opaque Config.connInterval : BitVec 16
opaque Config.supTimeout : BitVec 16

/-- The fused image keys, and the fused SHA-384 hashes of the public keys, by slot (R454, R455). -/
opaque Config.imageKey (slot : Nat) : BitVec 256
opaque Config.pubKeyHash (slot : Nat) : BitVec 384

end Sys2Proof
end

