-- ==== Sys2Proof/Machine/Fields.lean ====
section
/-! DEFINITION. The register fields of the part: one constant per field that the chapters' register tables name
(generated by a script of this package's author from the tables "Bits | Field | Type | Reset | Kept over | Meaning" of
spec/), and the table of them by block window (R31). Fields named reserved have no constant: they read 0 (R11). A _LO/_HI
pair that holds one quantity (R10) is one field of up to 64 bits at the offset of its _LO register. -/

namespace Sys2Proof.Machine

/-- The type codes of R12. -/
inductive FTy where
  | rw | ro | w1c | w1s | rc | wo | rwl
deriving DecidableEq, Repr

/-- The "Kept over" column (R13): none; HOSTRST and FLR; every reset but AONPOR ("all"); all except MAINPOR; SOFTRST,
WDTRST, DOMRST, HOSTRST and FLR (the letters K and L of the TSU and LOG tables). -/
inductive Kept where
  | none | hf | all | xmain | soft
deriving DecidableEq, Repr

/-- A register field: its bit address (8 × byte offset + bit), width, reset value, type code, kept-over class, and for
a register array the stride in bytes and the count, twice. -/
structure Fld where
  key : Nat
  width : Nat
  reset : Nat
  ty : FTy
  kept : Kept
  stride : Nat := 0
  count : Nat := 1
  stride2 : Nat := 0
  count2 : Nat := 1
deriving DecidableEq, Repr

/-- True of the sources that the chapters call level sources (R77, R159, R219, R304, R339, R366, R387, R496, R518). -/
def isLevelSource (n : Nat) : Bool :=
  n == 102 || (128 ≤ n && n < 192 && n % 4 == 2) || n == 232 || (320 ≤ n && n < 352 && n % 2 == 1)
    || (352 ≤ n && n < 376 && n % 2 == 1) || n == 388 || (392 ≤ n && n < 416 && n % 2 == 1) || n == 473 || n == 477

/-- The reset value of element n of a register array whose table gives it per element (ICU_ENABLEw, ICU_SRCn_CFG,
REEL_STEERw, REEL_LANEl_CTRL, the Waltz base registers of R187, ETH_CTRL and ETH_PART); every other array has one value. -/
def idxReset (key n dflt : Nat) : Nat :=
  if key = 1050624 then (if n < 2 then 0xFFFFFFFF else 0) else
  if key = 1081356 then (if n < 64 then 0xA else 0xF) else
  if key = 1081375 then (if isLevelSource n then 1 else 0) else
  if key = 2622464 then (if n % 2 = 0 then 0 else 8) else
  if key = 2622468 then (if n % 2 = 0 then 1 else 9) else
  if key = 2622472 then (if n % 2 = 0 then 2 else 10) else
  if key = 2622476 then (if n % 2 = 0 then 3 else 11) else
  if key = 2622480 then (if n % 2 = 0 then 4 else 12) else
  if key = 2622484 then (if n % 2 = 0 then 5 else 13) else
  if key = 2622488 then (if n % 2 = 0 then 6 else 14) else
  if key = 2622492 then (if n % 2 = 0 then 7 else 15) else
  if key = 2654208 then (n % 8) else
  if key = 3670092 then (if n = 1 then 0x1000 else if n = 2 then 0x2000 else if n = 3 then 0x40000 else if n = 5 then 0x2000 else 0) else
  if key = 3670112 then (if n = 4 then 0x105 else if n = 5 then 1 else 0x104) else
  if key = 6815766 then (if n < 4 then 1 else 0) else
  if key = 6815765 then (if n < 4 then 0 else 1) else
  if key = 6815872 then (if n < 4 then 0x400 else 0x600) else
  dflt

/-- Element n of a register array. -/
def Fld.at (f : Fld) (n : Nat) : Fld :=
  { f with key := f.key + 8 * f.stride * n, reset := idxReset f.key n f.reset, stride := f.stride2, count := f.count2,
           stride2 := 0, count2 := 1 }

namespace F

def SYS_ID_part : Fld := { key := 0x0 * 8 + 16, width := 16, reset := 0x9640, ty := .ro, kept := .all }
def SYS_ID_stepping : Fld := { key := 0x0 * 8 + 8, width := 8, reset := 0xB0, ty := .ro, kept := .all }
def SYS_ID_pkg : Fld := { key := 0x0 * 8 + 4, width := 4, reset := 0x1, ty := .ro, kept := .all }
def SYS_ID_fuse_rev : Fld := { key := 0x0 * 8 + 0, width := 4, reset := 0x0, ty := .ro, kept := .all }
def SYS_ERR_STATUS_amo_reg : Fld := { key := 0x10 * 8 + 8, width := 1, reset := 0x0, ty := .w1c, kept := .hf }
def SYS_ERR_STATUS_rom_write : Fld := { key := 0x10 * 8 + 7, width := 1, reset := 0x0, ty := .w1c, kept := .hf }
def SYS_ERR_STATUS_hall_ue : Fld := { key := 0x10 * 8 + 6, width := 1, reset := 0x0, ty := .w1c, kept := .hf }
def SYS_ERR_STATUS_hall_ce : Fld := { key := 0x10 * 8 + 5, width := 1, reset := 0x0, ty := .w1c, kept := .hf }
def SYS_ERR_STATUS_host_absent : Fld := { key := 0x10 * 8 + 4, width := 1, reset := 0x0, ty := .w1c, kept := .hf }
def SYS_ERR_STATUS_epl_unreach : Fld := { key := 0x10 * 8 + 3, width := 1, reset := 0x0, ty := .w1c, kept := .hf }
def SYS_ERR_STATUS_dom_off : Fld := { key := 0x10 * 8 + 2, width := 1, reset := 0x0, ty := .w1c, kept := .hf }
def SYS_ERR_STATUS_unmapped : Fld := { key := 0x10 * 8 + 1, width := 1, reset := 0x0, ty := .w1c, kept := .hf }
def SYS_ERR_STATUS_bad_access : Fld := { key := 0x10 * 8 + 0, width := 1, reset := 0x0, ty := .w1c, kept := .hf }
def SYS_ERR_SRC_valid : Fld := { key := 0x14 * 8 + 31, width := 1, reset := 0x0, ty := .w1c, kept := .hf }
def SYS_ERR_SRC_master : Fld := { key := 0x14 * 8 + 8, width := 6, reset := 0x0, ty := .ro, kept := .hf }
def SYS_ERR_SRC_kind : Fld := { key := 0x14 * 8 + 4, width := 4, reset := 0x0, ty := .ro, kept := .hf }
def SYS_ERR_SRC_write : Fld := { key := 0x14 * 8 + 0, width := 1, reset := 0x0, ty := .ro, kept := .hf }
def SYS_ERR_ADDR_LO_addr_lo : Fld := { key := 0x18 * 8 + 0, width := 32, reset := 0x0, ty := .ro, kept := .hf }
def SYS_ERR_ADDR_HI_addr_hi : Fld := { key := 0x1C * 8 + 0, width := 16, reset := 0x0, ty := .ro, kept := .hf }
def SYS_HALL_CE_COUNT_count : Fld := { key := 0x20 * 8 + 0, width := 32, reset := 0x0, ty := .rc, kept := .hf }
def SYS_APER_BASE_LO_base_lo : Fld := { key := 0x28 * 8 + 30, width := 2, reset := 0x0, ty := .rw, kept := .hf }
def SYS_APER_BASE_HI_base_hi : Fld := { key := 0x2C * 8 + 0, width := 16, reset := 0x1, ty := .rw, kept := .hf }
def SYS_MNT_WIN_LO_base_lo : Fld := { key := 0x30 * 8 + 30, width := 2, reset := 0x0, ty := .rw, kept := .all }
def SYS_MNT_WIN_HI_base_hi : Fld := { key := 0x34 * 8 + 0, width := 16, reset := 0x1, ty := .rw, kept := .all }
def XDI_DB_SQ_tail : Fld := { key := 0x31000 * 8 + 0, width := 16, reset := 0x0, ty := .wo, kept := .none, stride := 0x8, count := 64 }
def XDI_DB_CQ_idle : Fld := { key := 0x31004 * 8 + 31, width := 1, reset := 0x0, ty := .wo, kept := .none, stride := 0x8, count := 64 }
def XDI_DB_CQ_head : Fld := { key := 0x31004 * 8 + 0, width := 16, reset := 0x0, ty := .wo, kept := .none, stride := 0x8, count := 64 }
def XDI_HOST_VER_version : Fld := { key := 0x30000 * 8 + 0, width := 16, reset := 0x0, ty := .rw, kept := .none }
def XDI_NEG_VER_valid : Fld := { key := 0x30004 * 8 + 31, width := 1, reset := 0x0, ty := .ro, kept := .none }
def XDI_NEG_VER_version : Fld := { key := 0x30004 * 8 + 0, width := 16, reset := 0x0, ty := .ro, kept := .none }
def XDI_STATUS_host_present : Fld := { key := 0x30008 * 8 + 31, width := 1, reset := 0x0, ty := .ro, kept := .none }
def XDI_STATUS_link_up : Fld := { key := 0x30008 * 8 + 30, width := 1, reset := 0x0, ty := .ro, kept := .none }
def XDI_STATUS_bme : Fld := { key := 0x30008 * 8 + 29, width := 1, reset := 0x0, ty := .ro, kept := .none }
def XDI_STATUS_d3hot : Fld := { key := 0x30008 * 8 + 28, width := 1, reset := 0x0, ty := .ro, kept := .none }
def XDI_STATUS_absent_reason : Fld := { key := 0x30008 * 8 + 25, width := 3, reset := 0x0, ty := .ro, kept := .hf }
def XDI_STATUS_attach_count : Fld := { key := 0x30008 * 8 + 0, width := 16, reset := 0x0, ty := .ro, kept := .hf }
def XDI_ERR_commit_rej : Fld := { key := 0x3000C * 8 + 3, width := 1, reset := 0x0, ty := .w1c, kept := .none }
def XDI_ERR_exp_ctrl_rej : Fld := { key := 0x3000C * 8 + 2, width := 1, reset := 0x0, ty := .w1c, kept := .none }
def XDI_ERR_ver_locked : Fld := { key := 0x3000C * 8 + 1, width := 1, reset := 0x0, ty := .w1c, kept := .none }
def XDI_ERR_outb_overflow : Fld := { key := 0x3000C * 8 + 0, width := 1, reset := 0x0, ty := .w1c, kept := .none }
def XDI_OUTB_BASE_LO_base_lo : Fld := { key := 0x30010 * 8 + 12, width := 20, reset := 0x0, ty := .rw, kept := .none }
def XDI_OUTB_BASE_HI_base_hi : Fld := { key := 0x30014 * 8 + 0, width := 32, reset := 0x0, ty := .rw, kept := .none }
def XDI_DB_ERR_bad_value : Fld := { key := 0x30018 * 8 + 16, width := 16, reset := 0x0, ty := .rc, kept := .none }
def XDI_DB_ERR_disabled : Fld := { key := 0x30018 * 8 + 0, width := 16, reset := 0x0, ty := .rc, kept := .none }
def XDI_EXP_CTRL_started : Fld := { key := 0x3001C * 8 + 31, width := 1, reset := 0x0, ty := .ro, kept := .none }
def XDI_EXP_CTRL_count : Fld := { key := 0x3001C * 8 + 0, width := 5, reset := 0x0, ty := .rw, kept := .none }
def XDI_EXP_COMMIT_LO_commit : Fld := { key := 0x30020 * 8 + 0, width := 64, reset := 0x0, ty := .rw, kept := .hf }
def XDI_EXP_LIVE_LO_live : Fld := { key := 0x30028 * 8 + 0, width := 64, reset := 0x0, ty := .ro, kept := .hf }
def XDI_EXP_NEXT_LO_next : Fld := { key := 0x30030 * 8 + 0, width := 64, reset := 0x1, ty := .ro, kept := .hf }
def XDI_HMB_STAT_active : Fld := { key := 0x30038 * 8 + 31, width := 1, reset := 0x0, ty := .ro, kept := .none }
def XDI_HMB_STAT_units : Fld := { key := 0x30038 * 8 + 0, width := 14, reset := 0x0, ty := .ro, kept := .none }
def XDI_RP_SQ_BASE_LO_base_lo : Fld := { key := 0x30800 * 8 + 12, width := 20, reset := 0x0, ty := .rw, kept := .none, stride := 0x20, count := 64 }
def XDI_RP_CQ_BASE_LO_base_lo : Fld := { key := 0x30808 * 8 + 12, width := 20, reset := 0x0, ty := .rw, kept := .none, stride := 0x20, count := 64 }
def XDI_RP_SQ_BASE_HI_base_hi : Fld := { key := 0x30804 * 8 + 0, width := 32, reset := 0x0, ty := .rw, kept := .none, stride := 0x20, count := 64 }
def XDI_RP_CQ_BASE_HI_base_hi : Fld := { key := 0x3080C * 8 + 0, width := 32, reset := 0x0, ty := .rw, kept := .none, stride := 0x20, count := 64 }
def XDI_RP_CFG_enable : Fld := { key := 0x30810 * 8 + 31, width := 1, reset := 0x0, ty := .rw, kept := .none, stride := 0x20, count := 64 }
def XDI_RP_CFG_batch : Fld := { key := 0x30810 * 8 + 30, width := 1, reset := 0x0, ty := .rw, kept := .none, stride := 0x20, count := 64 }
def XDI_RP_CFG_type : Fld := { key := 0x30810 * 8 + 24, width := 4, reset := 0x0, ty := .rw, kept := .none, stride := 0x20, count := 64 }
def XDI_RP_CFG_vector : Fld := { key := 0x30810 * 8 + 16, width := 8, reset := 0x0, ty := .rw, kept := .none, stride := 0x20, count := 64 }
def XDI_RP_CFG_sq_size : Fld := { key := 0x30810 * 8 + 12, width := 4, reset := 0x0, ty := .rw, kept := .none, stride := 0x20, count := 64 }
def XDI_RP_CFG_cq_size : Fld := { key := 0x30810 * 8 + 8, width := 4, reset := 0x0, ty := .rw, kept := .none, stride := 0x20, count := 64 }
def XDI_RP_CFG_batch_to : Fld := { key := 0x30810 * 8 + 0, width := 8, reset := 0x0, ty := .rw, kept := .none, stride := 0x20, count := 64 }
def XDI_RP_STAT_active : Fld := { key := 0x30814 * 8 + 31, width := 1, reset := 0x0, ty := .ro, kept := .none, stride := 0x20, count := 64 }
def XDI_RP_STAT_paused : Fld := { key := 0x30814 * 8 + 30, width := 1, reset := 0x0, ty := .ro, kept := .none, stride := 0x20, count := 64 }
def XDI_RP_STAT_bad_cfg : Fld := { key := 0x30814 * 8 + 4, width := 1, reset := 0x0, ty := .w1c, kept := .none, stride := 0x20, count := 64 }
def XDI_RP_STAT_host_fault : Fld := { key := 0x30814 * 8 + 3, width := 1, reset := 0x0, ty := .w1c, kept := .none, stride := 0x20, count := 64 }
def XDI_RP_STAT_cq_stall : Fld := { key := 0x30814 * 8 + 2, width := 1, reset := 0x0, ty := .w1c, kept := .none, stride := 0x20, count := 64 }
def XDI_RP_STAT_bad_cq_head : Fld := { key := 0x30814 * 8 + 1, width := 1, reset := 0x0, ty := .w1c, kept := .none, stride := 0x20, count := 64 }
def XDI_RP_STAT_bad_sq_tail : Fld := { key := 0x30814 * 8 + 0, width := 1, reset := 0x0, ty := .w1c, kept := .none, stride := 0x20, count := 64 }
def XDI_RP_SQ_HEAD_head : Fld := { key := 0x30818 * 8 + 0, width := 16, reset := 0x0, ty := .ro, kept := .none, stride := 0x20, count := 64 }
def XDI_RP_CQ_TAIL_phase : Fld := { key := 0x3081C * 8 + 16, width := 1, reset := 0x1, ty := .ro, kept := .none, stride := 0x20, count := 64 }
def XDI_RP_CQ_TAIL_tail : Fld := { key := 0x3081C * 8 + 0, width := 16, reset := 0x0, ty := .ro, kept := .none, stride := 0x20, count := 64 }
def ICU_STRAY_DONE_host : Fld := { key := 0x20000 * 8 + 31, width := 1, reset := 0x0, ty := .ro, kept := .hf }
def ICU_STRAY_DONE_last_src : Fld := { key := 0x20000 * 8 + 16, width := 9, reset := 0x0, ty := .ro, kept := .hf }
def ICU_STRAY_DONE_count : Fld := { key := 0x20000 * 8 + 0, width := 16, reset := 0x0, ty := .rc, kept := .hf }
def ICU_SRC_CMD_op : Fld := { key := 0x20004 * 8 + 31, width := 1, reset := 0x0, ty := .wo, kept := .hf }
def ICU_SRC_CMD_source : Fld := { key := 0x20004 * 8 + 0, width := 9, reset := 0x0, ty := .wo, kept := .hf }
def ICU_HDONE_vector : Fld := { key := 0x20008 * 8 + 0, width := 8, reset := 0x0, ty := .wo, kept := .hf }
def ICU_WITHDRAWN_count : Fld := { key := 0x2000C * 8 + 0, width := 16, reset := 0x0, ty := .rc, kept := .hf }
def ICU_ENABLE_enable : Fld := { key := 0x20100 * 8 + 0, width := 32, reset := 0x0, ty := .rw, kept := .hf, stride := 0x4, count := 16 }
def ICU_MASK_mask : Fld := { key := 0x20140 * 8 + 0, width := 32, reset := 0x0, ty := .rw, kept := .hf, stride := 0x4, count := 16 }
def ICU_PEND_pending : Fld := { key := 0x20180 * 8 + 0, width := 32, reset := 0x0, ty := .rw, kept := .hf, stride := 0x4, count := 16 }
def ICU_INPUT_input : Fld := { key := 0x201C0 * 8 + 0, width := 32, reset := 0x0, ty := .ro, kept := .hf, stride := 0x4, count := 16 }
def ICU_SRC_CFG_kind : Fld := { key := 0x21000 * 8 + 31, width := 1, reset := 0x0, ty := .ro, kept := .hf, stride := 0x4, count := 512 }
def ICU_SRC_CFG_fast : Fld := { key := 0x21000 * 8 + 30, width := 1, reset := 0x0, ty := .rw, kept := .hf, stride := 0x4, count := 512 }
def ICU_SRC_CFG_target : Fld := { key := 0x21000 * 8 + 12, width := 4, reset := 0xF, ty := .rw, kept := .hf, stride := 0x4, count := 512 }
def ICU_SRC_CFG_vector : Fld := { key := 0x21000 * 8 + 0, width := 8, reset := 0x0, ty := .rw, kept := .hf, stride := 0x4, count := 512 }
def ICU_T_MODE_class_mode : Fld := { key := 0x22000 * 8 + 0, width := 1, reset := 0x0, ty := .rw, kept := .hf, stride := 0x20, count := 10 }
def ICU_T_CLAIM_valid : Fld := { key := 0x22004 * 8 + 31, width := 1, reset := 0x0, ty := .rc, kept := .hf, stride := 0x20, count := 10 }
def ICU_T_CLAIM_fast : Fld := { key := 0x22004 * 8 + 30, width := 1, reset := 0x0, ty := .rc, kept := .hf, stride := 0x20, count := 10 }
def ICU_T_CLAIM_source : Fld := { key := 0x22004 * 8 + 0, width := 9, reset := 0x0, ty := .rc, kept := .hf, stride := 0x20, count := 10 }
def ICU_T_DONE_source : Fld := { key := 0x22008 * 8 + 0, width := 9, reset := 0x0, ty := .wo, kept := .hf, stride := 0x20, count := 10 }
def ICU_T_MOD_time : Fld := { key := 0x2200C * 8 + 16, width := 10, reset := 0x0, ty := .rw, kept := .hf, stride := 0x20, count := 10 }
def ICU_HV_MOD_time : Fld := { key := 0x23000 * 8 + 16, width := 10, reset := 0x0, ty := .rw, kept := .hf, stride := 0x8, count := 256 }
def ICU_T_MOD_count : Fld := { key := 0x2200C * 8 + 0, width := 8, reset := 0x0, ty := .rw, kept := .hf, stride := 0x20, count := 10 }
def ICU_HV_MOD_count : Fld := { key := 0x23000 * 8 + 0, width := 8, reset := 0x0, ty := .rw, kept := .hf, stride := 0x8, count := 256 }
def ICU_T_STAT_norm_act : Fld := { key := 0x22010 * 8 + 31, width := 1, reset := 0x0, ty := .ro, kept := .hf, stride := 0x20, count := 10 }
def ICU_T_STAT_fast_act : Fld := { key := 0x22010 * 8 + 30, width := 1, reset := 0x0, ty := .ro, kept := .hf, stride := 0x20, count := 10 }
def ICU_T_STAT_wfi : Fld := { key := 0x22010 * 8 + 29, width := 1, reset := 0x0, ty := .ro, kept := .hf, stride := 0x20, count := 10 }
def ICU_T_STAT_mode_rej : Fld := { key := 0x22010 * 8 + 28, width := 1, reset := 0x0, ty := .w1c, kept := .hf, stride := 0x20, count := 10 }
def ICU_T_STAT_fast_src : Fld := { key := 0x22010 * 8 + 16, width := 9, reset := 0x0, ty := .ro, kept := .hf, stride := 0x20, count := 10 }
def ICU_T_STAT_norm_src : Fld := { key := 0x22010 * 8 + 0, width := 9, reset := 0x0, ty := .ro, kept := .hf, stride := 0x20, count := 10 }
def ICU_HV_STAT_wait_ack : Fld := { key := 0x23004 * 8 + 31, width := 1, reset := 0x0, ty := .ro, kept := .hf, stride := 0x8, count := 256 }
def ICU_HV_STAT_idle_hint : Fld := { key := 0x23004 * 8 + 30, width := 1, reset := 0x0, ty := .ro, kept := .hf, stride := 0x8, count := 256 }
def ICU_HV_STAT_window : Fld := { key := 0x23004 * 8 + 29, width := 1, reset := 0x0, ty := .ro, kept := .hf, stride := 0x8, count := 256 }
def ICU_HV_STAT_held : Fld := { key := 0x23004 * 8 + 0, width := 16, reset := 0x0, ty := .ro, kept := .hf, stride := 0x8, count := 256 }
def MSR_CTRL_enable : Fld := { key := 0x40000 * 8 + 31, width := 1, reset := 0x0, ty := .rw, kept := .hf }
def MSR_CTRL_note_unknown : Fld := { key := 0x40000 * 8 + 30, width := 1, reset := 0x1, ty := .rw, kept := .hf }
def MSR_CTRL_sweep_en : Fld := { key := 0x40000 * 8 + 29, width := 1, reset := 0x1, ty := .rw, kept := .hf }
def MSR_CTRL_dwn_cap : Fld := { key := 0x40000 * 8 + 24, width := 2, reset := 0x3, ty := .rw, kept := .hf }
def MSR_STATUS_ready : Fld := { key := 0x40004 * 8 + 31, width := 1, reset := 0x0, ty := .ro, kept := .hf }
def MSR_STATUS_rebuilding : Fld := { key := 0x40004 * 8 + 30, width := 1, reset := 0x0, ty := .ro, kept := .hf }
def MSR_STATUS_rebuild_fail : Fld := { key := 0x40004 * 8 + 29, width := 1, reset := 0x0, ty := .ro, kept := .hf }
def MSR_STATUS_ckpt_busy : Fld := { key := 0x40004 * 8 + 28, width := 1, reset := 0x0, ty := .ro, kept := .hf }
def MSR_STATUS_comm_count : Fld := { key := 0x40004 * 8 + 0, width := 17, reset := 0x0, ty := .ro, kept := .hf }
def MSR_BASE_LO_base_lo : Fld := { key := 0x40008 * 8 + 28, width := 4, reset := 0x0, ty := .rwl, kept := .hf }
def MSR_BASE_HI_base_hi : Fld := { key := 0x4000C * 8 + 0, width := 16, reset := 0x100, ty := .rwl, kept := .hf }
def MSR_IDT_BASE_LO_idt_lo : Fld := { key := 0x40010 * 8 + 25, width := 7, reset := 0x8, ty := .rwl, kept := .hf }
def MSR_IDT_BASE_HI_idt_hi : Fld := { key := 0x40014 * 8 + 0, width := 16, reset := 0x100, ty := .rwl, kept := .hf }
def MSR_TIMERS_commission_to : Fld := { key := 0x40018 * 8 + 16, width := 16, reset := 0x3C, ty := .rw, kept := .hf }
def MSR_TIMERS_adrift_to : Fld := { key := 0x40018 * 8 + 0, width := 16, reset := 0xF0, ty := .rw, kept := .hf }
def MSR_LIMITS_auth_limit : Fld := { key := 0x4001C * 8 + 16, width := 8, reset := 0x10, ty := .rw, kept := .hf }
def MSR_LIMITS_unk_limit : Fld := { key := 0x4001C * 8 + 0, width := 16, reset := 0x1000, ty := .rw, kept := .hf }
def MSR_CKPT_ckpt_now : Fld := { key := 0x40020 * 8 + 31, width := 1, reset := 0x0, ty := .w1s, kept := .hf }
def MSR_CKPT_period : Fld := { key := 0x40020 * 8 + 0, width := 16, reset := 0x12C, ty := .rw, kept := .hf }
def MSR_CKPT_SEQ_LO_ckpt_seq : Fld := { key := 0x40028 * 8 + 0, width := 64, reset := 0x0, ty := .ro, kept := .hf }
def MSR_ERR_unk_drop : Fld := { key := 0x40030 * 8 + 16, width := 16, reset := 0x0, ty := .rc, kept := .hf }
def MSR_ERR_area_bad : Fld := { key := 0x40030 * 8 + 5, width := 1, reset := 0x0, ty := .w1c, kept := .hf }
def MSR_ERR_ckpt_fail : Fld := { key := 0x40030 * 8 + 4, width := 1, reset := 0x0, ty := .w1c, kept := .hf }
def MSR_ERR_idt_full : Fld := { key := 0x40030 * 8 + 3, width := 1, reset := 0x0, ty := .w1c, kept := .hf }
def MSR_ERR_corrupt_seen : Fld := { key := 0x40030 * 8 + 2, width := 1, reset := 0x0, ty := .w1c, kept := .hf }
def MSR_ERR_cmd_rej : Fld := { key := 0x40030 * 8 + 1, width := 1, reset := 0x0, ty := .w1c, kept := .hf }
def MSR_ERR_pin_rej : Fld := { key := 0x40030 * 8 + 0, width := 1, reset := 0x0, ty := .w1c, kept := .hf }
def MSR_CORRUPT_count : Fld := { key := 0x40034 * 8 + 20, width := 12, reset := 0x0, ty := .rc, kept := .hf }
def MSR_CORRUPT_last_index : Fld := { key := 0x40034 * 8 + 0, width := 20, reset := 0x0, ty := .ro, kept := .hf }
def MSR_CACHE_HIT_hits : Fld := { key := 0x40038 * 8 + 0, width := 32, reset := 0x0, ty := .rc, kept := .hf }
def MSR_CACHE_MISS_misses : Fld := { key := 0x4003C * 8 + 0, width := 32, reset := 0x0, ty := .rc, kept := .hf }
def MSR_CACHE_CTRL_clean_all : Fld := { key := 0x40040 * 8 + 31, width := 1, reset := 0x0, ty := .w1s, kept := .hf }
def MSR_CACHE_CTRL_pinned : Fld := { key := 0x40040 * 8 + 0, width := 13, reset := 0x0, ty := .ro, kept := .hf }
def MSR_CMD_DESC_LO_desc_lo : Fld := { key := 0x40048 * 8 + 6, width := 26, reset := 0x0, ty := .rw, kept := .hf }
def MSR_CMD_DESC_HI_desc_hi : Fld := { key := 0x4004C * 8 + 0, width := 16, reset := 0x0, ty := .rw, kept := .hf }
def MSR_CMD_CTRL_go : Fld := { key := 0x40050 * 8 + 31, width := 1, reset := 0x0, ty := .w1s, kept := .hf }
def MSR_CMD_CTRL_done : Fld := { key := 0x40050 * 8 + 30, width := 1, reset := 0x0, ty := .w1c, kept := .hf }
def MSR_POP_count : Fld := { key := 0x40080 * 8 + 0, width := 21, reset := 0x0, ty := .ro, kept := .hf, stride := 0x4, count := 8 }
def MSR_ATTCNT_count : Fld := { key := 0x40100 * 8 + 0, width := 14, reset := 0x0, ty := .ro, kept := .hf, stride := 0x4, count := 28 }
def MSR_REC_SEL_loaded : Fld := { key := 0x41000 * 8 + 30, width := 1, reset := 0x0, ty := .ro, kept := .hf }
def MSR_REC_SEL_index : Fld := { key := 0x41000 * 8 + 0, width := 20, reset := 0x0, ty := .rw, kept := .hf }
def MSR_REC_CTRL_commit : Fld := { key := 0x41004 * 8 + 31, width := 1, reset := 0x0, ty := .w1s, kept := .hf }
def MSR_REC_CTRL_stale : Fld := { key := 0x41004 * 8 + 30, width := 1, reset := 0x0, ty := .w1c, kept := .hf }
def MSR_REC_CTRL_force : Fld := { key := 0x41004 * 8 + 0, width := 1, reset := 0x0, ty := .rw, kept := .hf }
def REEL_CTRL_enable : Fld := { key := 0x50000 * 8 + 31, width := 1, reset := 0x0, ty := .rw, kept := .hf }
def REEL_CTRL_storm_auto : Fld := { key := 0x50000 * 8 + 30, width := 1, reset := 0x1, ty := .rw, kept := .hf }
def REEL_CTRL_storm_quiet : Fld := { key := 0x50000 * 8 + 29, width := 1, reset := 0x1, ty := .rw, kept := .hf }
def REEL_CTRL_storm_hold : Fld := { key := 0x50000 * 8 + 16, width := 8, reset := 0x1E, ty := .rw, kept := .hf }
def REEL_CTRL_run_lanes : Fld := { key := 0x50000 * 8 + 0, width := 5, reset := 0x8, ty := .rw, kept := .hf }
def REEL_STATUS_running : Fld := { key := 0x50004 * 8 + 31, width := 1, reset := 0x0, ty := .ro, kept := .hf }
def REEL_STATUS_storm : Fld := { key := 0x50004 * 8 + 30, width := 1, reset := 0x0, ty := .ro, kept := .hf }
def REEL_STATUS_throttled : Fld := { key := 0x50004 * 8 + 29, width := 1, reset := 0x0, ty := .ro, kept := .hf }
def REEL_STATUS_storm_req : Fld := { key := 0x50004 * 8 + 28, width := 1, reset := 0x0, ty := .ro, kept := .hf }
def REEL_STATUS_recovering : Fld := { key := 0x50004 * 8 + 27, width := 1, reset := 0x0, ty := .ro, kept := .hf }
def REEL_STATUS_stg_full : Fld := { key := 0x50004 * 8 + 26, width := 1, reset := 0x0, ty := .ro, kept := .hf }
def REEL_STATUS_res_wait : Fld := { key := 0x50004 * 8 + 25, width := 1, reset := 0x0, ty := .ro, kept := .hf }
def REEL_STATUS_area_bad : Fld := { key := 0x50004 * 8 + 24, width := 1, reset := 0x0, ty := .w1c, kept := .hf }
def REEL_STATUS_active_count : Fld := { key := 0x50004 * 8 + 0, width := 5, reset := 0x0, ty := .ro, kept := .hf }
def REEL_LANES_retired : Fld := { key := 0x50008 * 8 + 16, width := 16, reset := 0x0, ty := .ro, kept := .xmain }
def REEL_LANES_active : Fld := { key := 0x50008 * 8 + 0, width := 16, reset := 0x0, ty := .ro, kept := .hf }
def REEL_STORM_storm_off : Fld := { key := 0x5000C * 8 + 16, width := 16, reset := 0xC8, ty := .rw, kept := .hf }
def REEL_STORM_storm_on : Fld := { key := 0x5000C * 8 + 0, width := 16, reset := 0x7D0, ty := .rw, kept := .hf }
def REEL_KEY_gen_ahead : Fld := { key := 0x50010 * 8 + 0, width := 16, reset := 0x1, ty := .rw, kept := .hf }
def REEL_ERR_CFG_window : Fld := { key := 0x50014 * 8 + 16, width := 16, reset := 0x3C, ty := .rw, kept := .hf }
def REEL_ERR_CFG_retire_thr : Fld := { key := 0x50014 * 8 + 0, width := 8, reset := 0x10, ty := .rw, kept := .hf }
def REEL_EXC_ACTION_discard : Fld := { key := 0x50018 * 8 + 0, width := 16, reset := 0x210C, ty := .rw, kept := .hf }
def REEL_RESTORE_CNT_count : Fld := { key := 0x5001C * 8 + 0, width := 20, reset := 0x0, ty := .ro, kept := .hf }
def REEL_SEQ_NEXT_LO_seq_next : Fld := { key := 0x50020 * 8 + 0, width := 64, reset := 0x0, ty := .ro, kept := .hf }
def REEL_SEQ_RES_LO_seq_res : Fld := { key := 0x50028 * 8 + 0, width := 64, reset := 0x0, ty := .ro, kept := .hf }
def REEL_STG_PUB_LO_stg_pub : Fld := { key := 0x50040 * 8 + 0, width := 64, reset := 0x0, ty := .ro, kept := .hf }
def REEL_WLZ_ACK_LO_wlz_ack : Fld := { key := 0x50048 * 8 + 0, width := 64, reset := 0x0, ty := .ro, kept := .hf }
def REEL_STG_BASE_LO_base_lo : Fld := { key := 0x50030 * 8 + 30, width := 2, reset := 0x0, ty := .rwl, kept := .hf }
def REEL_STG_BASE_HI_base_hi : Fld := { key := 0x50034 * 8 + 0, width := 16, reset := 0x102, ty := .rwl, kept := .hf }
def REEL_STG_SIZE_size_gib : Fld := { key := 0x50038 * 8 + 0, width := 5, reset := 0x8, ty := .rwl, kept := .hf }
def REEL_COMMIT_STAT_refused : Fld := { key := 0x50050 * 8 + 16, width := 16, reset := 0x0, ty := .rc, kept := .hf }
def REEL_COMMIT_STAT_stall_ms : Fld := { key := 0x50050 * 8 + 0, width := 16, reset := 0x0, ty := .rc, kept := .hf }
def REEL_STEER_lane0 : Fld := { key := 0x50080 * 8 + 0, width := 4, reset := 0x0, ty := .rw, kept := .hf, stride := 0x4, count := 8 }
def REEL_STEER_lane1 : Fld := { key := 0x50080 * 8 + 4, width := 4, reset := 0x0, ty := .rw, kept := .hf, stride := 0x4, count := 8 }
def REEL_STEER_lane2 : Fld := { key := 0x50080 * 8 + 8, width := 4, reset := 0x0, ty := .rw, kept := .hf, stride := 0x4, count := 8 }
def REEL_STEER_lane3 : Fld := { key := 0x50080 * 8 + 12, width := 4, reset := 0x0, ty := .rw, kept := .hf, stride := 0x4, count := 8 }
def REEL_STEER_lane4 : Fld := { key := 0x50080 * 8 + 16, width := 4, reset := 0x0, ty := .rw, kept := .hf, stride := 0x4, count := 8 }
def REEL_STEER_lane5 : Fld := { key := 0x50080 * 8 + 20, width := 4, reset := 0x0, ty := .rw, kept := .hf, stride := 0x4, count := 8 }
def REEL_STEER_lane6 : Fld := { key := 0x50080 * 8 + 24, width := 4, reset := 0x0, ty := .rw, kept := .hf, stride := 0x4, count := 8 }
def REEL_STEER_lane7 : Fld := { key := 0x50080 * 8 + 28, width := 4, reset := 0x0, ty := .rw, kept := .hf, stride := 0x4, count := 8 }
def REEL_EXQ_BASE_LO_base_lo : Fld := { key := 0x50100 * 8 + 12, width := 20, reset := 0x0, ty := .rw, kept := .hf, stride := 0x20, count := 8 }
def REEL_EXQ_BASE_HI_base_hi : Fld := { key := 0x50104 * 8 + 0, width := 16, reset := 0x1, ty := .rw, kept := .hf, stride := 0x20, count := 8 }
def REEL_EXQ_CFG_enable : Fld := { key := 0x50108 * 8 + 31, width := 1, reset := 0x0, ty := .rw, kept := .hf, stride := 0x20, count := 8 }
def REEL_EXQ_CFG_size : Fld := { key := 0x50108 * 8 + 0, width := 4, reset := 0x4, ty := .rw, kept := .hf, stride := 0x20, count := 8 }
def REEL_EXQ_HEAD_head : Fld := { key := 0x5010C * 8 + 0, width := 14, reset := 0x0, ty := .rw, kept := .hf, stride := 0x20, count := 8 }
def REEL_EXQ_TAIL_tail : Fld := { key := 0x50110 * 8 + 0, width := 14, reset := 0x0, ty := .ro, kept := .hf, stride := 0x20, count := 8 }
def REEL_LANE_CTRL_kat_now : Fld := { key := 0x51000 * 8 + 31, width := 1, reset := 0x0, ty := .w1s, kept := .hf, stride := 0x100, count := 16 }
def REEL_LANE_CTRL_exq : Fld := { key := 0x51000 * 8 + 0, width := 3, reset := 0x0, ty := .rw, kept := .hf, stride := 0x100, count := 16 }
def REEL_LANE_STAT_active : Fld := { key := 0x51004 * 8 + 31, width := 1, reset := 0x0, ty := .ro, kept := .hf, stride := 0x100, count := 16 }
def REEL_LANE_STAT_retired : Fld := { key := 0x51004 * 8 + 30, width := 1, reset := 0x0, ty := .ro, kept := .xmain, stride := 0x100, count := 16 }
def REEL_LANE_STAT_testing : Fld := { key := 0x51004 * 8 + 29, width := 1, reset := 0x0, ty := .ro, kept := .hf, stride := 0x100, count := 16 }
def REEL_LANE_STAT_retire_cause : Fld := { key := 0x51004 * 8 + 16, width := 8, reset := 0x0, ty := .ro, kept := .xmain, stride := 0x100, count := 16 }
def REEL_LANE_STAT_transients : Fld := { key := 0x51004 * 8 + 0, width := 16, reset := 0x0, ty := .ro, kept := .hf, stride := 0x100, count := 16 }
def REEL_LANE_OK_committed : Fld := { key := 0x51010 * 8 + 0, width := 32, reset := 0x0, ty := .rc, kept := .hf, stride := 0x100, count := 16 }
def REEL_LANE_AUTH_auth_fail : Fld := { key := 0x51014 * 8 + 0, width := 32, reset := 0x0, ty := .rc, kept := .hf, stride := 0x100, count := 16 }
def REEL_LANE_DUP_duplicate : Fld := { key := 0x51018 * 8 + 0, width := 32, reset := 0x0, ty := .rc, kept := .hf, stride := 0x100, count := 16 }
def REEL_LANE_OLD_old : Fld := { key := 0x5101C * 8 + 0, width := 32, reset := 0x0, ty := .rc, kept := .hf, stride := 0x100, count := 16 }
def REEL_LANE_EXC_posted : Fld := { key := 0x51020 * 8 + 0, width := 32, reset := 0x0, ty := .rc, kept := .hf, stride := 0x100, count := 16 }
def REEL_LANE_REFUSED_refused : Fld := { key := 0x51024 * 8 + 0, width := 32, reset := 0x0, ty := .rc, kept := .hf, stride := 0x100, count := 16 }
def REEL_LANE_ERR_aborted : Fld := { key := 0x51028 * 8 + 16, width := 16, reset := 0x0, ty := .rc, kept := .hf, stride := 0x100, count := 16 }
def REEL_LANE_ERR_transient_total : Fld := { key := 0x51028 * 8 + 0, width := 16, reset := 0x0, ty := .rc, kept := .hf, stride := 0x100, count := 16 }
def VAL_CTRL_enable : Fld := { key := 0x60000 * 8 + 31, width := 1, reset := 0x0, ty := .rw, kept := .hf }
def VAL_CTRL_bank : Fld := { key := 0x60000 * 8 + 30, width := 1, reset := 0x0, ty := .ro, kept := .hf }
def VAL_CTRL_quar_mode : Fld := { key := 0x60000 * 8 + 24, width := 2, reset := 0x0, ty := .rw, kept := .hf }
def VAL_CTRL_budget_act : Fld := { key := 0x60000 * 8 + 20, width := 4, reset := 0x3, ty := .rw, kept := .hf }
def VAL_CTRL_fault_act : Fld := { key := 0x60000 * 8 + 16, width := 4, reset := 0x3, ty := .rw, kept := .hf }
def VAL_CTRL_quar_thr : Fld := { key := 0x60000 * 8 + 0, width := 16, reset := 0x0, ty := .rw, kept := .hf }
def VAL_STATUS_ready : Fld := { key := 0x60004 * 8 + 31, width := 1, reset := 0x0, ty := .ro, kept := .hf }
def VAL_STATUS_swapping : Fld := { key := 0x60004 * 8 + 30, width := 1, reset := 0x0, ty := .ro, kept := .hf }
def VAL_STATUS_unit_conflict : Fld := { key := 0x60004 * 8 + 29, width := 1, reset := 0x0, ty := .ro, kept := .hf }
def VAL_STATUS_old_chains : Fld := { key := 0x60004 * 8 + 0, width := 5, reset := 0x0, ty := .ro, kept := .hf }
def VAL_SETSEL0_set0 : Fld := { key := 0x60008 * 8 + 0, width := 4, reset := 0x0, ty := .rw, kept := .hf }
def VAL_SETSEL0_set1 : Fld := { key := 0x60008 * 8 + 4, width := 4, reset := 0x0, ty := .rw, kept := .hf }
def VAL_SETSEL0_set2 : Fld := { key := 0x60008 * 8 + 8, width := 4, reset := 0x0, ty := .rw, kept := .hf }
def VAL_SETSEL0_set3 : Fld := { key := 0x60008 * 8 + 12, width := 4, reset := 0x0, ty := .rw, kept := .hf }
def VAL_SETSEL0_set4 : Fld := { key := 0x60008 * 8 + 16, width := 4, reset := 0x0, ty := .rw, kept := .hf }
def VAL_SETSEL0_set5 : Fld := { key := 0x60008 * 8 + 20, width := 4, reset := 0x0, ty := .rw, kept := .hf }
def VAL_SETSEL0_set6 : Fld := { key := 0x60008 * 8 + 24, width := 4, reset := 0x0, ty := .rw, kept := .hf }
def VAL_SETSEL0_set7 : Fld := { key := 0x60008 * 8 + 28, width := 4, reset := 0x0, ty := .rw, kept := .hf }
def VAL_SETSEL1_set0 : Fld := { key := 0x6000C * 8 + 0, width := 4, reset := 0x0, ty := .rw, kept := .hf }
def VAL_SETSEL1_set1 : Fld := { key := 0x6000C * 8 + 4, width := 4, reset := 0x0, ty := .rw, kept := .hf }
def VAL_SETSEL1_set2 : Fld := { key := 0x6000C * 8 + 8, width := 4, reset := 0x0, ty := .rw, kept := .hf }
def VAL_SETSEL1_set3 : Fld := { key := 0x6000C * 8 + 12, width := 4, reset := 0x0, ty := .rw, kept := .hf }
def VAL_SETSEL1_set4 : Fld := { key := 0x6000C * 8 + 16, width := 4, reset := 0x0, ty := .rw, kept := .hf }
def VAL_SETSEL1_set5 : Fld := { key := 0x6000C * 8 + 20, width := 4, reset := 0x0, ty := .rw, kept := .hf }
def VAL_SETSEL1_set6 : Fld := { key := 0x6000C * 8 + 24, width := 4, reset := 0x0, ty := .rw, kept := .hf }
def VAL_SETSEL1_set7 : Fld := { key := 0x6000C * 8 + 28, width := 4, reset := 0x0, ty := .rw, kept := .hf }
def VAL_PAIR_unit : Fld := { key := 0x60010 * 8 + 0, width := 1, reset := 0x0, ty := .rwl, kept := .hf }
def VAL_DEDUP_window_ms : Fld := { key := 0x60014 * 8 + 16, width := 16, reset := 0x7D0, ty := .rw, kept := .hf }
def VAL_ERR_budget : Fld := { key := 0x60018 * 8 + 16, width := 16, reset := 0x0, ty := .rc, kept := .hf }
def VAL_ERR_fault : Fld := { key := 0x60018 * 8 + 0, width := 16, reset := 0x0, ty := .rc, kept := .hf }
def VAL_LAST_FAULT_lane : Fld := { key := 0x6001C * 8 + 28, width := 4, reset := 0x0, ty := .ro, kept := .hf }
def VAL_LAST_FAULT_pc : Fld := { key := 0x6001C * 8 + 6, width := 14, reset := 0x0, ty := .ro, kept := .hf }
def VAL_LAST_FAULT_op : Fld := { key := 0x6001C * 8 + 0, width := 6, reset := 0x0, ty := .ro, kept := .hf }
def VAL_CMD_DESC_LO_desc_lo : Fld := { key := 0x60020 * 8 + 6, width := 26, reset := 0x0, ty := .rw, kept := .hf }
def VAL_CMD_DESC_HI_desc_hi : Fld := { key := 0x60024 * 8 + 0, width := 16, reset := 0x0, ty := .rw, kept := .hf }
def VAL_CMD_CTRL_go : Fld := { key := 0x60028 * 8 + 31, width := 1, reset := 0x0, ty := .w1s, kept := .hf }
def VAL_CMD_CTRL_done : Fld := { key := 0x60028 * 8 + 30, width := 1, reset := 0x0, ty := .w1c, kept := .hf }
def VAL_CMD_CTRL_cmd_rej : Fld := { key := 0x60028 * 8 + 29, width := 1, reset := 0x0, ty := .w1c, kept := .hf }
def VAL_VERDICT_frames : Fld := { key := 0x60040 * 8 + 0, width := 32, reset := 0x0, ty := .rc, kept := .hf, stride := 0x4, count := 16 }
def VAL_PATHCMT_commits : Fld := { key := 0x60080 * 8 + 0, width := 32, reset := 0x0, ty := .rc, kept := .hf, stride := 0x4, count := 4 }
def VAL_PATHDUP_duplicates : Fld := { key := 0x60090 * 8 + 0, width := 32, reset := 0x0, ty := .rc, kept := .hf, stride := 0x4, count := 4 }
def VAL_CNT_count : Fld := { key := 0x60100 * 8 + 0, width := 32, reset := 0x0, ty := .rc, kept := .hf, stride := 0x4, count := 64 }
def WLZ_CTRL_enable : Fld := { key := 0x70000 * 8 + 31, width := 1, reset := 0x0, ty := .rw, kept := .hf }
def WLZ_CTRL_infer_auto : Fld := { key := 0x70000 * 8 + 30, width := 1, reset := 0x1, ty := .rw, kept := .hf }
def WLZ_CTRL_score_auto : Fld := { key := 0x70000 * 8 + 29, width := 1, reset := 0x1, ty := .rw, kept := .hf }
def WLZ_CTRL_mains : Fld := { key := 0x70000 * 8 + 28, width := 1, reset := 0x0, ty := .rwl, kept := .hf }
def WLZ_CTRL_auto_rebuild : Fld := { key := 0x70000 * 8 + 27, width := 1, reset := 0x1, ty := .rw, kept := .hf }
def WLZ_CTRL_base_s : Fld := { key := 0x70000 * 8 + 0, width := 12, reset := 0x384, ty := .rwl, kept := .hf }
def WLZ_STATUS_running : Fld := { key := 0x70004 * 8 + 31, width := 1, reset := 0x0, ty := .ro, kept := .hf }
def WLZ_STATUS_closing : Fld := { key := 0x70004 * 8 + 30, width := 1, reset := 0x0, ty := .ro, kept := .hf }
def WLZ_STATUS_inferring : Fld := { key := 0x70004 * 8 + 29, width := 1, reset := 0x0, ty := .ro, kept := .hf }
def WLZ_STATUS_scoring : Fld := { key := 0x70004 * 8 + 28, width := 1, reset := 0x0, ty := .ro, kept := .hf }
def WLZ_STATUS_rebuilding : Fld := { key := 0x70004 * 8 + 27, width := 1, reset := 0x0, ty := .ro, kept := .hf }
def WLZ_STATUS_catching_up : Fld := { key := 0x70004 * 8 + 26, width := 1, reset := 0x0, ty := .ro, kept := .hf }
def WLZ_STATUS_hist_valid : Fld := { key := 0x70004 * 8 + 25, width := 1, reset := 0x0, ty := .ro, kept := .soft }
def WLZ_STATUS_settled : Fld := { key := 0x70004 * 8 + 24, width := 1, reset := 0x0, ty := .ro, kept := .hf }
def WLZ_BASE_LO_base_lo : Fld := { key := 0x70008 * 8 + 12, width := 20, reset := 0x0, ty := .rwl, kept := .hf, stride := 0x8, count := 6 }
def WLZ_BASE_HI_base_hi : Fld := { key := 0x7000C * 8 + 0, width := 16, reset := 0x0, ty := .rwl, kept := .hf, stride := 0x8, count := 6 }
def WLZ_SIZES_groups : Fld := { key := 0x70038 * 8 + 17, width := 13, reset := 0x1000, ty := .rwl, kept := .hf }
def WLZ_SIZES_nodes : Fld := { key := 0x70038 * 8 + 0, width := 17, reset := 0x10000, ty := .rwl, kept := .hf }
def WLZ_CLOSE_revise : Fld := { key := 0x7003C * 8 + 16, width := 16, reset := 0x60, ty := .rw, kept := .hf }
def WLZ_CLOSE_close_delay : Fld := { key := 0x7003C * 8 + 0, width := 16, reset := 0xA8C, ty := .rw, kept := .hf }
def WLZ_COVER_nt_min : Fld := { key := 0x70040 * 8 + 16, width := 16, reset := 0xC8, ty := .rw, kept := .hf }
def WLZ_COVER_unsettled_max : Fld := { key := 0x70040 * 8 + 8, width := 8, reset := 0xD, ty := .rw, kept := .hf }
def WLZ_COVER_cov_min : Fld := { key := 0x70040 * 8 + 0, width := 8, reset := 0xF3, ty := .rw, kept := .hf }
def WLZ_PHASE_conf_thr : Fld := { key := 0x70044 * 8 + 16, width := 8, reset := 0xA0, ty := .rw, kept := .hf }
def WLZ_PHASE_tol_us : Fld := { key := 0x70044 * 8 + 0, width := 16, reset := 0x320, ty := .rw, kept := .hf }
def WLZ_INFER_infer_now : Fld := { key := 0x70048 * 8 + 31, width := 1, reset := 0x0, ty := .w1s, kept := .hf }
def WLZ_INFER_iter_max : Fld := { key := 0x70048 * 8 + 26, width := 4, reset := 0x3, ty := .rw, kept := .hf }
def WLZ_INFER_min_points : Fld := { key := 0x70048 * 8 + 16, width := 10, reset := 0x1E0, ty := .rw, kept := .hf }
def WLZ_INFER_period : Fld := { key := 0x70048 * 8 + 0, width := 16, reset := 0x2A0, ty := .rw, kept := .hf }
def WLZ_INFER_THR_margin : Fld := { key := 0x7004C * 8 + 16, width := 16, reset := 0x666, ty := .rw, kept := .hf }
def WLZ_INFER_THR_r_min : Fld := { key := 0x7004C * 8 + 0, width := 16, reset := 0x6666, ty := .rw, kept := .hf }
def WLZ_SCORE_score_now : Fld := { key := 0x70050 * 8 + 31, width := 1, reset := 0x0, ty := .w1s, kept := .hf }
def WLZ_SCORE_period : Fld := { key := 0x70050 * 8 + 16, width := 15, reset := 0x60, ty := .rw, kept := .hf }
def WLZ_SCORE_susp_thr : Fld := { key := 0x70050 * 8 + 0, width := 16, reset := 0x8000, ty := .rw, kept := .hf }
def WLZ_SCORE_W_w4 : Fld := { key := 0x70054 * 8 + 24, width := 8, reset := 0x1A, ty := .rw, kept := .hf }
def WLZ_SCORE_W_w3 : Fld := { key := 0x70054 * 8 + 16, width := 8, reset := 0x26, ty := .rw, kept := .hf }
def WLZ_SCORE_W_w2 : Fld := { key := 0x70054 * 8 + 8, width := 8, reset := 0x40, ty := .rw, kept := .hf }
def WLZ_SCORE_W_w1 : Fld := { key := 0x70054 * 8 + 0, width := 8, reset := 0x80, ty := .rw, kept := .hf }
def WLZ_DROP_tamper_unit : Fld := { key := 0x70058 * 8 + 16, width := 16, reset := 0x2000, ty := .rw, kept := .hf }
def WLZ_DROP_drop_min : Fld := { key := 0x70058 * 8 + 0, width := 16, reset := 0x3333, ty := .rw, kept := .hf }
def WLZ_RESTORE_rest_thr : Fld := { key := 0x7005C * 8 + 24, width := 8, reset := 0xE6, ty := .rw, kept := .hf }
def WLZ_RESTORE_out_thr : Fld := { key := 0x7005C * 8 + 16, width := 8, reset := 0x80, ty := .rw, kept := .hf }
def WLZ_RESTORE_report_ms : Fld := { key := 0x7005C * 8 + 0, width := 11, reset := 0x708, ty := .rw, kept := .hf }
def WLZ_EPISODE_CFG_update_ms : Fld := { key := 0x70060 * 8 + 16, width := 16, reset := 0x3E8, ty := .rw, kept := .hf }
def WLZ_EPISODE_CFG_quiet_s : Fld := { key := 0x70060 * 8 + 0, width := 16, reset := 0x78, ty := .rw, kept := .hf }
def WLZ_EPISODE_open : Fld := { key := 0x70064 * 8 + 31, width := 1, reset := 0x0, ty := .ro, kept := .hf }
def WLZ_EPISODE_episode : Fld := { key := 0x70064 * 8 + 0, width := 16, reset := 0x0, ty := .ro, kept := .hf }
def WLZ_LAST_CLOSED_b : Fld := { key := 0x70068 * 8 + 0, width := 32, reset := 0x0, ty := .ro, kept := .hf }
def WLZ_INFER_STAT_passes : Fld := { key := 0x7006C * 8 + 28, width := 4, reset := 0x0, ty := .ro, kept := .hf }
def WLZ_INFER_STAT_reassigned : Fld := { key := 0x7006C * 8 + 0, width := 20, reset := 0x0, ty := .ro, kept := .hf }
def WLZ_RUN_TIME_infer_ms : Fld := { key := 0x70070 * 8 + 16, width := 16, reset := 0x0, ty := .ro, kept := .hf }
def WLZ_RUN_TIME_score_ms : Fld := { key := 0x70070 * 8 + 0, width := 16, reset := 0x0, ty := .ro, kept := .hf }
def WLZ_CNT_A_unassigned : Fld := { key := 0x70074 * 8 + 16, width := 16, reset := 0x0, ty := .rc, kept := .hf }
def WLZ_CNT_A_odd_interval : Fld := { key := 0x70074 * 8 + 0, width := 16, reset := 0x0, ty := .rc, kept := .hf }
def WLZ_CNT_B_late : Fld := { key := 0x70078 * 8 + 16, width := 16, reset := 0x0, ty := .rc, kept := .hf }
def WLZ_CNT_B_zc_reject : Fld := { key := 0x70078 * 8 + 0, width := 16, reset := 0x0, ty := .rc, kept := .hf }
def WLZ_ERR_cfg_bad : Fld := { key := 0x7007C * 8 + 5, width := 1, reset := 0x0, ty := .w1c, kept := .hf }
def WLZ_ERR_susp_trunc : Fld := { key := 0x7007C * 8 + 4, width := 1, reset := 0x0, ty := .w1c, kept := .hf }
def WLZ_ERR_rebuild_fail : Fld := { key := 0x7007C * 8 + 3, width := 1, reset := 0x0, ty := .w1c, kept := .hf }
def WLZ_ERR_cmd_rej : Fld := { key := 0x7007C * 8 + 2, width := 1, reset := 0x0, ty := .w1c, kept := .hf }
def WLZ_ERR_table_bad : Fld := { key := 0x7007C * 8 + 1, width := 1, reset := 0x0, ty := .w1c, kept := .hf }
def WLZ_ERR_area_bad : Fld := { key := 0x7007C * 8 + 0, width := 1, reset := 0x0, ty := .w1c, kept := .hf }
def WLZ_CMD_DESC_LO_desc_lo : Fld := { key := 0x70080 * 8 + 6, width := 26, reset := 0x0, ty := .rw, kept := .hf }
def WLZ_CMD_DESC_HI_desc_hi : Fld := { key := 0x70084 * 8 + 0, width := 16, reset := 0x0, ty := .rw, kept := .hf }
def WLZ_CMD_CTRL_go : Fld := { key := 0x70088 * 8 + 31, width := 1, reset := 0x0, ty := .w1s, kept := .hf }
def WLZ_CMD_CTRL_done : Fld := { key := 0x70088 * 8 + 30, width := 1, reset := 0x0, ty := .w1c, kept := .hf }
def BOL_CTRL_enable : Fld := { key := 0x80000 * 8 + 31, width := 1, reset := 0x0, ty := .rw, kept := .hf }
def BOL_CTRL_storm_pause : Fld := { key := 0x80000 * 8 + 30, width := 1, reset := 0x1, ty := .rw, kept := .hf }
def BOL_CTRL_token_wait : Fld := { key := 0x80000 * 8 + 16, width := 8, reset := 0x64, ty := .rw, kept := .hf }
def BOL_CTRL_ack_delay : Fld := { key := 0x80000 * 8 + 8, width := 8, reset := 0x32, ty := .rw, kept := .hf }
def BOL_STATUS_running : Fld := { key := 0x80004 * 8 + 31, width := 1, reset := 0x0, ty := .ro, kept := .hf }
def BOL_STATUS_token : Fld := { key := 0x80004 * 8 + 30, width := 1, reset := 0x0, ty := .ro, kept := .hf }
def BOL_STATUS_paused : Fld := { key := 0x80004 * 8 + 29, width := 1, reset := 0x0, ty := .ro, kept := .hf }
def BOL_STATUS_epoch_end : Fld := { key := 0x80004 * 8 + 28, width := 1, reset := 0x0, ty := .ro, kept := .hf }
def BOL_STATUS_campaigns : Fld := { key := 0x80004 * 8 + 0, width := 7, reset := 0x0, ty := .ro, kept := .hf }
def BOL_AREA_BASE_LO_base_lo : Fld := { key := 0x80008 * 8 + 30, width := 2, reset := 0x0, ty := .rwl, kept := .hf }
def BOL_AREA_BASE_HI_base_hi : Fld := { key := 0x8000C * 8 + 0, width := 16, reset := 0x106, ty := .rwl, kept := .hf }
def BOL_EPOCH_epoch : Fld := { key := 0x80010 * 8 + 0, width := 8, reset := 0x0, ty := .ro, kept := .hf }
def BOL_PACE_tunnel : Fld := { key := 0x80014 * 8 + 24, width := 8, reset := 0x32, ty := .rw, kept := .hf }
def BOL_PACE_radio : Fld := { key := 0x80014 * 8 + 16, width := 8, reset := 0x28, ty := .rw, kept := .hf }
def BOL_PACE_plc : Fld := { key := 0x80014 * 8 + 8, width := 8, reset := 0x8, ty := .rw, kept := .hf }
def BOL_PACE_announce_gap : Fld := { key := 0x80014 * 8 + 0, width := 8, reset := 0xA, ty := .rw, kept := .hf }
def BOL_RETRY_cmd_to : Fld := { key := 0x80018 * 8 + 16, width := 16, reset := 0x7530, ty := .rw, kept := .hf }
def BOL_RETRY_retries : Fld := { key := 0x80018 * 8 + 0, width := 4, reset := 0x3, ty := .rw, kept := .hf }
def BOL_ERR_ack_unmatched : Fld := { key := 0x8001C * 8 + 16, width := 16, reset := 0x0, ty := .rc, kept := .hf }
def BOL_ERR_ackq_drop : Fld := { key := 0x8001C * 8 + 3, width := 1, reset := 0x0, ty := .w1c, kept := .hf }
def BOL_ERR_seal_fail : Fld := { key := 0x8001C * 8 + 2, width := 1, reset := 0x0, ty := .w1c, kept := .hf }
def BOL_ERR_cmd_rej : Fld := { key := 0x8001C * 8 + 1, width := 1, reset := 0x0, ty := .w1c, kept := .hf }
def BOL_ERR_area_bad : Fld := { key := 0x8001C * 8 + 0, width := 1, reset := 0x0, ty := .w1c, kept := .hf }
def BOL_CMD_DESC_LO_desc_lo : Fld := { key := 0x80020 * 8 + 6, width := 26, reset := 0x0, ty := .rw, kept := .hf }
def BOL_CMD_DESC_HI_desc_hi : Fld := { key := 0x80024 * 8 + 0, width := 16, reset := 0x0, ty := .rw, kept := .hf }
def BOL_CMD_CTRL_go : Fld := { key := 0x80028 * 8 + 31, width := 1, reset := 0x0, ty := .w1s, kept := .hf }
def BOL_CMD_CTRL_done : Fld := { key := 0x80028 * 8 + 30, width := 1, reset := 0x0, ty := .w1c, kept := .hf }
def BOL_TX_FRAMES_frames : Fld := { key := 0x80030 * 8 + 0, width := 32, reset := 0x0, ty := .rc, kept := .hf }
def BOL_TX_REPAIR_repairs : Fld := { key := 0x80034 * 8 + 0, width := 32, reset := 0x0, ty := .rc, kept := .hf }
def BOL_ACKQ_DROP_dropped : Fld := { key := 0x80038 * 8 + 0, width := 32, reset := 0x0, ty := .rc, kept := .hf }
def BOL_CAMP_STAT_phase : Fld := { key := 0x80100 * 8 + 28, width := 4, reset := 0x0, ty := .ro, kept := .hf, stride := 0x4, count := 64 }
def BOL_CAMP_STAT_kind : Fld := { key := 0x80100 * 8 + 26, width := 2, reset := 0x0, ty := .ro, kept := .hf, stride := 0x4, count := 64 }
def BOL_CAMP_STAT_round : Fld := { key := 0x80100 * 8 + 21, width := 5, reset := 0x0, ty := .ro, kept := .hf, stride := 0x4, count := 64 }
def BOL_CAMP_STAT_settled_ok : Fld := { key := 0x80100 * 8 + 0, width := 21, reset := 0x0, ty := .ro, kept := .hf, stride := 0x4, count := 64 }
def PAV_CTRL_unlock : Fld := { key := 0x90000 * 8 + 31, width := 1, reset := 0x0, ty := .w1s, kept := .hf }
def PAV_CTRL_lock : Fld := { key := 0x90000 * 8 + 30, width := 1, reset := 0x0, ty := .w1s, kept := .hf }
def PAV_CTRL_cache_flush : Fld := { key := 0x90000 * 8 + 29, width := 1, reset := 0x0, ty := .w1s, kept := .hf }
def PAV_CTRL_kat_now : Fld := { key := 0x90000 * 8 + 28, width := 1, reset := 0x0, ty := .w1s, kept := .hf }
def PAV_STATUS_unlocked : Fld := { key := 0x90004 * 8 + 31, width := 1, reset := 0x0, ty := .ro, kept := .hf }
def PAV_STATUS_unlocking : Fld := { key := 0x90004 * 8 + 30, width := 1, reset := 0x0, ty := .ro, kept := .hf }
def PAV_STATUS_zeroised : Fld := { key := 0x90004 * 8 + 29, width := 1, reset := 0x1, ty := .ro, kept := .all }
def PAV_STATUS_kat_fail : Fld := { key := 0x90004 * 8 + 28, width := 1, reset := 0x0, ty := .ro, kept := .hf }
def PAV_STATUS_nvm_bad : Fld := { key := 0x90004 * 8 + 27, width := 1, reset := 0x0, ty := .ro, kept := .hf }
def PAV_STATUS_staged : Fld := { key := 0x90004 * 8 + 20, width := 4, reset := 0x0, ty := .ro, kept := .hf }
def PAV_SLOTS_districts : Fld := { key := 0x90008 * 8 + 14, width := 13, reset := 0x0, ty := .ro, kept := .hf }
def PAV_SLOTS_used : Fld := { key := 0x90008 * 8 + 0, width := 14, reset := 0x0, ty := .ro, kept := .hf }
def PAV_ERR_unwrap_bad : Fld := { key := 0x9000C * 8 + 16, width := 16, reset := 0x0, ty := .ro, kept := .hf }
def PAV_ERR_cmd_rej : Fld := { key := 0x9000C * 8 + 2, width := 1, reset := 0x0, ty := .w1c, kept := .hf }
def PAV_ERR_nvm_error : Fld := { key := 0x9000C * 8 + 1, width := 1, reset := 0x0, ty := .w1c, kept := .hf }
def PAV_ERR_deriv_fail : Fld := { key := 0x9000C * 8 + 0, width := 1, reset := 0x0, ty := .w1c, kept := .hf }
def PAV_DERIV_CNT_derivations : Fld := { key := 0x90010 * 8 + 0, width := 32, reset := 0x0, ty := .rc, kept := .hf }
def PAV_CACHE_HIT_hits : Fld := { key := 0x90014 * 8 + 0, width := 32, reset := 0x0, ty := .rc, kept := .hf }
def PAV_CACHE_MISS_misses : Fld := { key := 0x90018 * 8 + 0, width := 32, reset := 0x0, ty := .rc, kept := .hf }
def PAV_FAIL_CNT_failed : Fld := { key := 0x9001C * 8 + 0, width := 32, reset := 0x0, ty := .rc, kept := .hf }
def PAV_LAST_DESTROY_handle : Fld := { key := 0x90030 * 8 + 0, width := 32, reset := 0x0, ty := .ro, kept := .hf }
def PAV_CMD_DESC_LO_desc_lo : Fld := { key := 0x90020 * 8 + 6, width := 26, reset := 0x0, ty := .rw, kept := .hf }
def PAV_CMD_DESC_HI_desc_hi : Fld := { key := 0x90024 * 8 + 0, width := 16, reset := 0x0, ty := .rw, kept := .hf }
def PAV_CMD_CTRL_go : Fld := { key := 0x90028 * 8 + 31, width := 1, reset := 0x0, ty := .w1s, kept := .hf }
def PAV_CMD_CTRL_done : Fld := { key := 0x90028 * 8 + 30, width := 1, reset := 0x0, ty := .w1c, kept := .hf }
def PAV_TMP_CFG_sw1_level : Fld := { key := 0x98000 * 8 + 25, width := 1, reset := 0x0, ty := .rwl, kept := .all }
def PAV_TMP_CFG_sw0_level : Fld := { key := 0x98000 * 8 + 24, width := 1, reset := 0x0, ty := .rwl, kept := .all }
def PAV_TMP_CFG_filter : Fld := { key := 0x98000 * 8 + 20, width := 4, reset := 0x4, ty := .rwl, kept := .all }
def PAV_TMP_CFG_class : Fld := { key := 0x98000 * 8 + 0, width := 20, reset := 0x55000, ty := .rwl, kept := .all }
def PAV_TMP_CTRL_arm : Fld := { key := 0x98004 * 8 + 31, width := 1, reset := 0x0, ty := .w1s, kept := .all }
def PAV_TMP_CTRL_zeroise_now : Fld := { key := 0x98004 * 8 + 30, width := 1, reset := 0x0, ty := .w1s, kept := .all }
def PAV_TMP_CTRL_log_clear : Fld := { key := 0x98004 * 8 + 29, width := 1, reset := 0x0, ty := .w1s, kept := .all }
def PAV_TMP_STAT_zcause : Fld := { key := 0x98008 * 8 + 28, width := 4, reset := 0x3, ty := .ro, kept := .all }
def PAV_TMP_STAT_boot_stopped : Fld := { key := 0x98008 * 8 + 27, width := 1, reset := 0x0, ty := .w1c, kept := .all }
def PAV_TMP_STAT_seen : Fld := { key := 0x98008 * 8 + 16, width := 10, reset := 0x0, ty := .w1c, kept := .all }
def PAV_TMP_STAT_live : Fld := { key := 0x98008 * 8 + 0, width := 10, reset := 0x0, ty := .ro, kept := .all }
def PAV_TMP_LOGSTAT_lost : Fld := { key := 0x9800C * 8 + 16, width := 16, reset := 0x0, ty := .rc, kept := .all }
def PAV_TMP_LOGSTAT_entries : Fld := { key := 0x9800C * 8 + 0, width := 7, reset := 0x0, ty := .ro, kept := .all }
def PLK_CTRL_enable : Fld := { key := 0xA0000 * 8 + 31, width := 1, reset := 0x0, ty := .rw, kept := .hf, stride := 0x1000, count := 16 }
def PLK_CTRL_band : Fld := { key := 0xA0000 * 8 + 30, width := 1, reset := 0x0, ty := .rwl, kept := .hf, stride := 0x1000, count := 16 }
def PLK_CTRL_assoc_open : Fld := { key := 0xA0000 * 8 + 29, width := 1, reset := 0x1, ty := .rw, kept := .hf, stride := 0x1000, count := 16 }
def PLK_CTRL_beacon_force : Fld := { key := 0xA0000 * 8 + 28, width := 1, reset := 0x0, ty := .w1s, kept := .hf, stride := 0x1000, count := 16 }
def PLK_CTRL_zc_edge : Fld := { key := 0xA0000 * 8 + 27, width := 1, reset := 0x0, ty := .rw, kept := .hf, stride := 0x1000, count := 16 }
def PLK_CTRL_beacon_mod : Fld := { key := 0xA0000 * 8 + 20, width := 4, reset := 0x1, ty := .rw, kept := .hf, stride := 0x1000, count := 16 }
def PLK_STATUS_running : Fld := { key := 0xA0004 * 8 + 31, width := 1, reset := 0x0, ty := .ro, kept := .hf, stride := 0x1000, count := 16 }
def PLK_STATUS_beaconing : Fld := { key := 0xA0004 * 8 + 30, width := 1, reset := 0x0, ty := .ro, kept := .hf, stride := 0x1000, count := 16 }
def PLK_STATUS_listening : Fld := { key := 0xA0004 * 8 + 29, width := 1, reset := 0x0, ty := .ro, kept := .hf, stride := 0x1000, count := 16 }
def PLK_STATUS_foreign_bcn : Fld := { key := 0xA0004 * 8 + 28, width := 1, reset := 0x0, ty := .w1c, kept := .hf, stride := 0x1000, count := 16 }
def PLK_STATUS_link_up : Fld := { key := 0xA0004 * 8 + 27, width := 1, reset := 0x0, ty := .ro, kept := .hf, stride := 0x1000, count := 16 }
def PLK_STATUS_zc_ok : Fld := { key := 0xA0004 * 8 + 26, width := 1, reset := 0x0, ty := .ro, kept := .hf, stride := 0x1000, count := 16 }
def PLK_STATUS_retired : Fld := { key := 0xA0004 * 8 + 25, width := 1, reset := 0x0, ty := .ro, kept := .xmain, stride := 0x1000, count := 16 }
def PLK_STATUS_busy : Fld := { key := 0xA0004 * 8 + 24, width := 1, reset := 0x0, ty := .ro, kept := .hf, stride := 0x1000, count := 16 }
def PLK_STATUS_retire_cause : Fld := { key := 0xA0004 * 8 + 16, width := 8, reset := 0x0, ty := .ro, kept := .xmain, stride := 0x1000, count := 16 }
def PLK_STATUS_cfg_bad : Fld := { key := 0xA0004 * 8 + 15, width := 1, reset := 0x0, ty := .w1c, kept := .hf, stride := 0x1000, count := 16 }
def PLK_STATUS_assoc_count : Fld := { key := 0xA0004 * 8 + 0, width := 12, reset := 0x0, ty := .ro, kept := .hf, stride := 0x1000, count := 16 }
def PLK_SF_slot_q : Fld := { key := 0xA0008 * 8 + 24, width := 8, reset := 0x7D, ty := .rwl, kept := .hf, stride := 0x1000, count := 16 }
def PLK_SF_bp_slots : Fld := { key := 0xA0008 * 8 + 18, width := 6, reset := 0x4, ty := .rwl, kept := .hf, stride := 0x1000, count := 16 }
def PLK_SF_dl_slots : Fld := { key := 0xA0008 * 8 + 12, width := 6, reset := 0x10, ty := .rwl, kept := .hf, stride := 0x1000, count := 16 }
def PLK_SF_cont_slots : Fld := { key := 0xA0008 * 8 + 6, width := 6, reset := 0x8, ty := .rwl, kept := .hf, stride := 0x1000, count := 16 }
def PLK_SF_guard_us : Fld := { key := 0xA0008 * 8 + 0, width := 6, reset := 0x14, ty := .rwl, kept := .hf, stride := 0x1000, count := 16 }
def PLK_GRANT_seg_max : Fld := { key := 0xA000C * 8 + 24, width := 8, reset := 0x40, ty := .rw, kept := .hf, stride := 0x1000, count := 16 }
def PLK_GRANT_dl_retry : Fld := { key := 0xA000C * 8 + 20, width := 4, reset := 0x3, ty := .rw, kept := .hf, stride := 0x1000, count := 16 }
def PLK_GRANT_reasm_sf : Fld := { key := 0xA000C * 8 + 16, width := 4, reset := 0x8, ty := .rw, kept := .hf, stride := 0x1000, count := 16 }
def PLK_GRANT_miss_lost : Fld := { key := 0xA000C * 8 + 12, width := 4, reset := 0x7, ty := .rw, kept := .hf, stride := 0x1000, count := 16 }
def PLK_GRANT_grant_slots : Fld := { key := 0xA000C * 8 + 8, width := 4, reset := 0x2, ty := .rw, kept := .hf, stride := 0x1000, count := 16 }
def PLK_GRANT_gp_log2 : Fld := { key := 0xA000C * 8 + 0, width := 4, reset := 0x8, ty := .rw, kept := .hf, stride := 0x1000, count := 16 }
def PLK_TM_bcast_mod : Fld := { key := 0xA0010 * 8 + 28, width := 4, reset := 0x1, ty := .rw, kept := .hf, stride := 0x1000, count := 16 }
def PLK_TM_tone_mask : Fld := { key := 0xA0010 * 8 + 0, width := 24, reset := 0x0, ty := .rw, kept := .hf, stride := 0x1000, count := 16 }
def PLK_TMCTL_tm_life : Fld := { key := 0xA0014 * 8 + 16, width := 16, reset := 0x80, ty := .rw, kept := .hf, stride := 0x1000, count := 16 }
def PLK_TMCTL_margin_q : Fld := { key := 0xA0014 * 8 + 8, width := 8, reset := 0xC, ty := .rw, kept := .hf, stride := 0x1000, count := 16 }
def PLK_ZC_per_max : Fld := { key := 0xA0018 * 8 + 16, width := 16, reset := 0x55F0, ty := .rw, kept := .hf, stride := 0x1000, count := 16 }
def PLK_ZC_per_min : Fld := { key := 0xA0018 * 8 + 0, width := 16, reset := 0x3A98, ty := .rw, kept := .hf, stride := 0x1000, count := 16 }
def PLK_ZC_CAL_zc_cal : Fld := { key := 0xA001C * 8 + 0, width := 32, reset := 0x0, ty := .rw, kept := .hf, stride := 0x1000, count := 16 }
def PLK_ERR_CFG_window : Fld := { key := 0xA0020 * 8 + 16, width := 16, reset := 0x3C, ty := .rw, kept := .hf, stride := 0x1000, count := 16 }
def PLK_ERR_CFG_retire_thr : Fld := { key := 0xA0020 * 8 + 0, width := 8, reset := 0x8, ty := .rw, kept := .hf, stride := 0x1000, count := 16 }
def PLK_SFN_sfn : Fld := { key := 0xA0024 * 8 + 0, width := 16, reset := 0x0, ty := .ro, kept := .hf, stride := 0x1000, count := 16 }
def PLK_EVENT_zc_lost : Fld := { key := 0xA0028 * 8 + 7, width := 1, reset := 0x0, ty := .w1c, kept := .hf, stride := 0x1000, count := 16 }
def PLK_EVENT_tm_fallback : Fld := { key := 0xA0028 * 8 + 6, width := 1, reset := 0x0, ty := .w1c, kept := .hf, stride := 0x1000, count := 16 }
def PLK_EVENT_retired : Fld := { key := 0xA0028 * 8 + 5, width := 1, reset := 0x0, ty := .w1c, kept := .hf, stride := 0x1000, count := 16 }
def PLK_EVENT_fault : Fld := { key := 0xA0028 * 8 + 4, width := 1, reset := 0x0, ty := .w1c, kept := .hf, stride := 0x1000, count := 16 }
def PLK_EVENT_foreign_bcn : Fld := { key := 0xA0028 * 8 + 3, width := 1, reset := 0x0, ty := .w1c, kept := .hf, stride := 0x1000, count := 16 }
def PLK_EVENT_foreign_assoc : Fld := { key := 0xA0028 * 8 + 2, width := 1, reset := 0x0, ty := .w1c, kept := .hf, stride := 0x1000, count := 16 }
def PLK_EVENT_lost : Fld := { key := 0xA0028 * 8 + 1, width := 1, reset := 0x0, ty := .w1c, kept := .hf, stride := 0x1000, count := 16 }
def PLK_EVENT_assoc : Fld := { key := 0xA0028 * 8 + 0, width := 1, reset := 0x0, ty := .w1c, kept := .hf, stride := 0x1000, count := 16 }
def PLK_CNT_SEG_seg_ok : Fld := { key := 0xA0030 * 8 + 16, width := 16, reset := 0x0, ty := .rc, kept := .hf, stride := 0x1000, count := 16 }
def PLK_CNT_SEG_seg_bad : Fld := { key := 0xA0030 * 8 + 0, width := 16, reset := 0x0, ty := .rc, kept := .hf, stride := 0x1000, count := 16 }
def PLK_CNT_FRAME_frames : Fld := { key := 0xA0034 * 8 + 16, width := 16, reset := 0x0, ty := .rc, kept := .hf, stride := 0x1000, count := 16 }
def PLK_CNT_FRAME_drops : Fld := { key := 0xA0034 * 8 + 0, width := 16, reset := 0x0, ty := .rc, kept := .hf, stride := 0x1000, count := 16 }
def PLK_CNT_NOISE_impulses : Fld := { key := 0xA0038 * 8 + 16, width := 16, reset := 0x0, ty := .rc, kept := .hf, stride := 0x1000, count := 16 }
def PLK_CNT_NOISE_reasm_expired : Fld := { key := 0xA0038 * 8 + 0, width := 16, reset := 0x0, ty := .rc, kept := .hf, stride := 0x1000, count := 16 }
def PLK_CNT_TIMING_drift : Fld := { key := 0xA003C * 8 + 16, width := 16, reset := 0x0, ty := .rc, kept := .hf, stride := 0x1000, count := 16 }
def PLK_CNT_TIMING_missed_grants : Fld := { key := 0xA003C * 8 + 0, width := 16, reset := 0x0, ty := .rc, kept := .hf, stride := 0x1000, count := 16 }
def PLK_AT_SEL_valid : Fld := { key := 0xA0080 * 8 + 31, width := 1, reset := 0x0, ty := .ro, kept := .hf, stride := 0x1000, count := 16 }
def PLK_AT_SEL_addr : Fld := { key := 0xA0080 * 8 + 0, width := 12, reset := 0x0, ty := .rw, kept := .hf, stride := 0x1000, count := 16 }
def PLK_AT_EUI_LO_eui : Fld := { key := 0xA0084 * 8 + 0, width := 64, reset := 0x0, ty := .ro, kept := .hf, stride := 0x1000, count := 16 }
def PLK_AT_INFO_state : Fld := { key := 0xA008C * 8 + 28, width := 4, reset := 0x0, ty := .ro, kept := .hf, stride := 0x1000, count := 16 }
def PLK_AT_INFO_misses : Fld := { key := 0xA008C * 8 + 24, width := 4, reset := 0x0, ty := .ro, kept := .hf, stride := 0x1000, count := 16 }
def PLK_AT_INFO_ul_mod : Fld := { key := 0xA008C * 8 + 20, width := 4, reset := 0x0, ty := .ro, kept := .hf, stride := 0x1000, count := 16 }
def PLK_AT_INFO_offset : Fld := { key := 0xA008C * 8 + 10, width := 10, reset := 0x0, ty := .ro, kept := .hf, stride := 0x1000, count := 16 }
def MZK_CTRL_enable : Fld := { key := 0xB0000 * 8 + 31, width := 1, reset := 0x0, ty := .rw, kept := .hf, stride := 0x1000, count := 12 }
def MZK_CTRL_mode : Fld := { key := 0xB0000 * 8 + 30, width := 1, reset := 0x0, ty := .rwl, kept := .hf, stride := 0x1000, count := 12 }
def MZK_CTRL_plan : Fld := { key := 0xB0000 * 8 + 29, width := 1, reset := 0x0, ty := .rwl, kept := .hf, stride := 0x1000, count := 12 }
def MZK_CTRL_rate : Fld := { key := 0xB0000 * 8 + 27, width := 2, reset := 0x3, ty := .rwl, kept := .hf, stride := 0x1000, count := 12 }
def MZK_CTRL_assoc_open : Fld := { key := 0xB0000 * 8 + 26, width := 1, reset := 0x1, ty := .rw, kept := .hf, stride := 0x1000, count := 12 }
def MZK_CTRL_beacon_force : Fld := { key := 0xB0000 * 8 + 25, width := 1, reset := 0x0, ty := .w1s, kept := .hf, stride := 0x1000, count := 12 }
def MZK_CTRL_pan_id : Fld := { key := 0xB0000 * 8 + 0, width := 16, reset := 0x9640, ty := .rwl, kept := .hf, stride := 0x1000, count := 12 }
def MZK_STATUS_running : Fld := { key := 0xB0004 * 8 + 31, width := 1, reset := 0x0, ty := .ro, kept := .hf, stride := 0x1000, count := 12 }
def MZK_STATUS_transmitting : Fld := { key := 0xB0004 * 8 + 30, width := 1, reset := 0x0, ty := .ro, kept := .hf, stride := 0x1000, count := 12 }
def MZK_STATUS_listening : Fld := { key := 0xB0004 * 8 + 29, width := 1, reset := 0x0, ty := .ro, kept := .hf, stride := 0x1000, count := 12 }
def MZK_STATUS_foreign_coord : Fld := { key := 0xB0004 * 8 + 28, width := 1, reset := 0x0, ty := .w1c, kept := .hf, stride := 0x1000, count := 12 }
def MZK_STATUS_link_up : Fld := { key := 0xB0004 * 8 + 27, width := 1, reset := 0x0, ty := .ro, kept := .hf, stride := 0x1000, count := 12 }
def MZK_STATUS_suspended : Fld := { key := 0xB0004 * 8 + 26, width := 1, reset := 0x0, ty := .ro, kept := .hf, stride := 0x1000, count := 12 }
def MZK_STATUS_retired : Fld := { key := 0xB0004 * 8 + 25, width := 1, reset := 0x0, ty := .ro, kept := .xmain, stride := 0x1000, count := 12 }
def MZK_STATUS_dc_hold : Fld := { key := 0xB0004 * 8 + 24, width := 1, reset := 0x0, ty := .ro, kept := .hf, stride := 0x1000, count := 12 }
def MZK_STATUS_retire_cause : Fld := { key := 0xB0004 * 8 + 16, width := 8, reset := 0x0, ty := .ro, kept := .xmain, stride := 0x1000, count := 12 }
def MZK_STATUS_cfg_bad : Fld := { key := 0xB0004 * 8 + 15, width := 1, reset := 0x0, ty := .w1c, kept := .hf, stride := 0x1000, count := 12 }
def MZK_STATUS_count : Fld := { key := 0xB0004 * 8 + 0, width := 14, reset := 0x0, ty := .ro, kept := .hf, stride := 0x1000, count := 12 }
def MZK_PHY_preamble : Fld := { key := 0xB0008 * 8 + 22, width := 10, reset := 0x8, ty := .rwl, kept := .hf, stride := 0x1000, count := 12 }
def MZK_PHY_map_base : Fld := { key := 0xB0008 * 8 + 15, width := 7, reset := 0x0, ty := .rwl, kept := .hf, stride := 0x1000, count := 12 }
def MZK_PHY_fixed_ch : Fld := { key := 0xB0008 * 8 + 8, width := 7, reset := 0x0, ty := .rwl, kept := .hf, stride := 0x1000, count := 12 }
def MZK_PHY_dc_limit : Fld := { key := 0xB0008 * 8 + 0, width := 8, reset := 0x0, ty := .rw, kept := .hf, stride := 0x1000, count := 12 }
def MZK_CELL_bi : Fld := { key := 0xB000C * 8 + 24, width := 8, reset := 0xA, ty := .rwl, kept := .hf, stride := 0x1000, count := 12 }
def MZK_CELL_max_hops : Fld := { key := 0xB000C * 8 + 20, width := 4, reset := 0x4, ty := .rw, kept := .hf, stride := 0x1000, count := 12 }
def MZK_CELL_child_max : Fld := { key := 0xB000C * 8 + 14, width := 6, reset := 0x20, ty := .rw, kept := .hf, stride := 0x1000, count := 12 }
def MZK_CELL_cell_silent : Fld := { key := 0xB000C * 8 + 0, width := 12, reset := 0xE10, ty := .rw, kept := .hf, stride := 0x1000, count := 12 }
def MZK_SCHED_stride_us : Fld := { key := 0xB0010 * 8 + 16, width := 16, reset := 0x1B58, ty := .rwl, kept := .hf, stride := 0x1000, count := 12 }
def MZK_SCHED_w_max_us : Fld := { key := 0xB0010 * 8 + 4, width := 12, reset := 0xBB8, ty := .rw, kept := .hf, stride := 0x1000, count := 12 }
def MZK_SCHED_rec_miss : Fld := { key := 0xB0010 * 8 + 1, width := 3, reset := 0x3, ty := .rw, kept := .hf, stride := 0x1000, count := 12 }
def MZK_TIMING_ev_max_us : Fld := { key := 0xB0014 * 8 + 18, width := 14, reset := 0x1964, ty := .rw, kept := .hf, stride := 0x1000, count := 12 }
def MZK_TIMING_t_ifs : Fld := { key := 0xB0014 * 8 + 10, width := 8, reset := 0x32, ty := .rw, kept := .hf, stride := 0x1000, count := 12 }
def MZK_TIMING_dev_ppm : Fld := { key := 0xB0014 * 8 + 5, width := 5, reset := 0x14, ty := .rw, kept := .hf, stride := 0x1000, count := 12 }
def MZK_TIMING_lpl_listen : Fld := { key := 0xB0014 * 8 + 0, width := 5, reset := 0x6, ty := .rw, kept := .hf, stride := 0x1000, count := 12 }
def MZK_ADV_adv_ch2 : Fld := { key := 0xB0018 * 8 + 25, width := 7, reset := 0x3F, ty := .rw, kept := .hf, stride := 0x1000, count := 12 }
def MZK_ADV_adv_ch1 : Fld := { key := 0xB0018 * 8 + 18, width := 7, reset := 0x1F, ty := .rw, kept := .hf, stride := 0x1000, count := 12 }
def MZK_ADV_adv_ch0 : Fld := { key := 0xB0018 * 8 + 11, width := 7, reset := 0x0, ty := .rw, kept := .hf, stride := 0x1000, count := 12 }
def MZK_ADV_adv_int : Fld := { key := 0xB0018 * 8 + 3, width := 8, reset := 0xA, ty := .rw, kept := .hf, stride := 0x1000, count := 12 }
def MZK_HOLD_conn_hold : Fld := { key := 0xB001C * 8 + 24, width := 8, reset := 0x18, ty := .rw, kept := .hf, stride := 0x1000, count := 12 }
def MZK_HOLD_dl_events : Fld := { key := 0xB001C * 8 + 16, width := 8, reset := 0x4, ty := .rw, kept := .hf, stride := 0x1000, count := 12 }
def MZK_HOLD_resume_ms : Fld := { key := 0xB001C * 8 + 0, width := 16, reset := 0x1F4, ty := .rw, kept := .hf, stride := 0x1000, count := 12 }
def MZK_EPOCH_epoch_s : Fld := { key := 0xB0020 * 8 + 0, width := 32, reset := 0x0, ty := .rwl, kept := .all, stride := 0x1000, count := 12 }
def MZK_CAL_tx_cal : Fld := { key := 0xB0024 * 8 + 20, width := 12, reset := 0x0, ty := .rw, kept := .hf, stride := 0x1000, count := 12 }
def MZK_CAL_rx_cal : Fld := { key := 0xB0024 * 8 + 8, width := 12, reset := 0x0, ty := .rw, kept := .hf, stride := 0x1000, count := 12 }
def MZK_CAL_cca_dbm : Fld := { key := 0xB0024 * 8 + 0, width := 8, reset := 0xA6, ty := .rw, kept := .hf, stride := 0x1000, count := 12 }
def MZK_TUNE_settle_us : Fld := { key := 0xB0028 * 8 + 8, width := 8, reset := 0x64, ty := .rw, kept := .hf, stride := 0x1000, count := 12 }
def MZK_TUNE_spi_div : Fld := { key := 0xB0028 * 8 + 0, width := 8, reset := 0x6, ty := .rw, kept := .hf, stride := 0x1000, count := 12 }
def MZK_ERR_CFG_window : Fld := { key := 0xB002C * 8 + 16, width := 16, reset := 0x3C, ty := .rw, kept := .hf, stride := 0x1000, count := 12 }
def MZK_ERR_CFG_retire_thr : Fld := { key := 0xB002C * 8 + 0, width := 8, reset := 0x8, ty := .rw, kept := .hf, stride := 0x1000, count := 12 }
def MZK_EVENT_tune_err : Fld := { key := 0xB0030 * 8 + 9, width := 1, reset := 0x0, ty := .w1c, kept := .hf, stride := 0x1000, count := 12 }
def MZK_EVENT_ctr_end : Fld := { key := 0xB0030 * 8 + 8, width := 1, reset := 0x0, ty := .w1c, kept := .hf, stride := 0x1000, count := 12 }
def MZK_EVENT_key_fail : Fld := { key := 0xB0030 * 8 + 7, width := 1, reset := 0x0, ty := .w1c, kept := .hf, stride := 0x1000, count := 12 }
def MZK_EVENT_recovery : Fld := { key := 0xB0030 * 8 + 6, width := 1, reset := 0x0, ty := .w1c, kept := .hf, stride := 0x1000, count := 12 }
def MZK_EVENT_retired : Fld := { key := 0xB0030 * 8 + 5, width := 1, reset := 0x0, ty := .w1c, kept := .hf, stride := 0x1000, count := 12 }
def MZK_EVENT_fault : Fld := { key := 0xB0030 * 8 + 4, width := 1, reset := 0x0, ty := .w1c, kept := .hf, stride := 0x1000, count := 12 }
def MZK_EVENT_foreign_coord : Fld := { key := 0xB0030 * 8 + 3, width := 1, reset := 0x0, ty := .w1c, kept := .hf, stride := 0x1000, count := 12 }
def MZK_EVENT_foreign_assoc : Fld := { key := 0xB0030 * 8 + 2, width := 1, reset := 0x0, ty := .w1c, kept := .hf, stride := 0x1000, count := 12 }
def MZK_EVENT_lost : Fld := { key := 0xB0030 * 8 + 1, width := 1, reset := 0x0, ty := .w1c, kept := .hf, stride := 0x1000, count := 12 }
def MZK_EVENT_assoc : Fld := { key := 0xB0030 * 8 + 0, width := 1, reset := 0x0, ty := .w1c, kept := .hf, stride := 0x1000, count := 12 }
def MZK_CNT_RX_frames_ok : Fld := { key := 0xB0040 * 8 + 16, width := 16, reset := 0x0, ty := .rc, kept := .hf, stride := 0x1000, count := 12 }
def MZK_CNT_RX_rx_bad : Fld := { key := 0xB0040 * 8 + 0, width := 16, reset := 0x0, ty := .rc, kept := .hf, stride := 0x1000, count := 12 }
def MZK_CNT_SEC_mic_fail : Fld := { key := 0xB0044 * 8 + 16, width := 16, reset := 0x0, ty := .rc, kept := .hf, stride := 0x1000, count := 12 }
def MZK_CNT_SEC_link_replay : Fld := { key := 0xB0044 * 8 + 0, width := 16, reset := 0x0, ty := .rc, kept := .hf, stride := 0x1000, count := 12 }
def MZK_CNT_SCHED_missed : Fld := { key := 0xB0048 * 8 + 16, width := 16, reset := 0x0, ty := .rc, kept := .hf, stride := 0x1000, count := 12 }
def MZK_CNT_SCHED_skipped : Fld := { key := 0xB0048 * 8 + 0, width := 16, reset := 0x0, ty := .rc, kept := .hf, stride := 0x1000, count := 12 }
def MZK_CNT_MISC_drops : Fld := { key := 0xB004C * 8 + 16, width := 16, reset := 0x0, ty := .rc, kept := .hf, stride := 0x1000, count := 12 }
def MZK_CNT_MISC_csma_fail : Fld := { key := 0xB004C * 8 + 0, width := 16, reset := 0x0, ty := .rc, kept := .hf, stride := 0x1000, count := 12 }
def MZK_CNT_KEY_key_idx : Fld := { key := 0xB0050 * 8 + 16, width := 16, reset := 0x0, ty := .rc, kept := .hf, stride := 0x1000, count := 12 }
def MZK_CNT_KEY_key_fail : Fld := { key := 0xB0050 * 8 + 0, width := 16, reset := 0x0, ty := .rc, kept := .hf, stride := 0x1000, count := 12 }
def MZK_TUNEK_LO_spi_lo : Fld := { key := 0xB0800 * 8 + 0, width := 32, reset := 0x0, ty := .rw, kept := .hf, stride := 0x1000, count := 12, stride2 := 8, count2 := 128 }
def MZK_TUNEK_HI_spi_hi : Fld := { key := 0xB0804 * 8 + 0, width := 24, reset := 0x0, ty := .rw, kept := .hf, stride := 0x1000, count := 12, stride2 := 8, count2 := 128 }
def MZK_TUNEK_HI_len : Fld := { key := 0xB0804 * 8 + 24, width := 3, reset := 0x0, ty := .rw, kept := .hf, stride := 0x1000, count := 12, stride2 := 8, count2 := 128 }
def MZK_TBL_BASE_LO_base_lo : Fld := { key := 0xBC000 * 8 + 24, width := 8, reset := 0x60, ty := .rwl, kept := .hf }
def MZK_TBL_BASE_HI_base_hi : Fld := { key := 0xBC004 * 8 + 0, width := 16, reset := 0x106, ty := .rwl, kept := .hf }
def MZK_COMMON_area_bad : Fld := { key := 0xBC008 * 8 + 31, width := 1, reset := 0x0, ty := .w1c, kept := .hf }
def TSU_CTRL_scheme : Fld := { key := 0xC0000 * 8 + 31, width := 1, reset := 0x1, ty := .rw, kept := .soft }
def TSU_CTRL_pps_edge : Fld := { key := 0xC0000 * 8 + 30, width := 1, reset := 0x0, ty := .rw, kept := .soft }
def TSU_CTRL_servo : Fld := { key := 0xC0000 * 8 + 28, width := 2, reset := 0x1, ty := .rw, kept := .soft }
def TSU_CTRL_rtc_sync : Fld := { key := 0xC0000 * 8 + 27, width := 1, reset := 0x1, ty := .rw, kept := .soft }
def TSU_STATUS_scheme : Fld := { key := 0xC0004 * 8 + 31, width := 1, reset := 0x0, ty := .ro, kept := .soft }
def TSU_STATUS_handover_pend : Fld := { key := 0xC0004 * 8 + 30, width := 1, reset := 0x0, ty := .ro, kept := .soft }
def TSU_STATUS_tstate : Fld := { key := 0xC0004 * 8 + 28, width := 2, reset := 0x0, ty := .ro, kept := .soft }
def TSU_STATUS_slewing : Fld := { key := 0xC0004 * 8 + 27, width := 1, reset := 0x0, ty := .ro, kept := .soft }
def TSU_STATUS_acquire : Fld := { key := 0xC0004 * 8 + 26, width := 1, reset := 0x1, ty := .ro, kept := .soft }
def TSU_STATUS_clamp : Fld := { key := 0xC0004 * 8 + 25, width := 1, reset := 0x0, ty := .w1c, kept := .soft }
def TSU_STATUS_rate_rej : Fld := { key := 0xC0004 * 8 + 24, width := 1, reset := 0x0, ty := .w1c, kept := .soft }
def TSU_STATUS_adj_rej : Fld := { key := 0xC0004 * 8 + 23, width := 1, reset := 0x0, ty := .w1c, kept := .soft }
def TSU_STATUS_lock_run : Fld := { key := 0xC0004 * 8 + 0, width := 4, reset := 0x0, ty := .ro, kept := .soft }
def TSU_TICK_LO_tick : Fld := { key := 0xC0008 * 8 + 0, width := 64, reset := 0x0, ty := .ro, kept := .soft }
def TSU_NOW_NS_ns : Fld := { key := 0xC0010 * 8 + 0, width := 32, reset := 0x0, ty := .ro, kept := .soft }
def TSU_NOW_SEC_LO_sec : Fld := { key := 0xC0014 * 8 + 0, width := 48, reset := 0x0, ty := .ro, kept := .soft }
def TSU_NOW_TICK_LO_tick : Fld := { key := 0xC001C * 8 + 0, width := 64, reset := 0x0, ty := .ro, kept := .soft }
def TSU_CONV_TICK_LO_tick : Fld := { key := 0xC0150 * 8 + 0, width := 64, reset := 0x0, ty := .rw, kept := .soft }
def TSU_CONV_NS_ns : Fld := { key := 0xC0158 * 8 + 0, width := 32, reset := 0x0, ty := .ro, kept := .soft }
def TSU_CONV_SEC_LO_sec : Fld := { key := 0xC015C * 8 + 0, width := 48, reset := 0x0, ty := .ro, kept := .soft }
def TSU_RATE_LO_rate : Fld := { key := 0xC0024 * 8 + 0, width := 64, reset := 0x0, ty := .rw, kept := .soft }
def TSU_ADJ_LO_s : Fld := { key := 0xC0030 * 8 + 0, width := 64, reset := 0x0, ty := .rw, kept := .soft }
def TSU_SET_NS_ns : Fld := { key := 0xC0038 * 8 + 0, width := 32, reset := 0x0, ty := .rw, kept := .soft }
def TSU_SET_SEC_LO_sec : Fld := { key := 0xC003C * 8 + 0, width := 48, reset := 0x0, ty := .rw, kept := .soft }
def TSU_ADJ_CTRL_go : Fld := { key := 0xC0044 * 8 + 31, width := 1, reset := 0x0, ty := .w1s, kept := .soft }
def TSU_ADJ_CTRL_mode : Fld := { key := 0xC0044 * 8 + 29, width := 2, reset := 0x0, ty := .rw, kept := .soft }
def TSU_NSC_INCR_incr : Fld := { key := 0xC0048 * 8 + 0, width := 32, reset := 0x1000000, ty := .rw, kept := .soft }
def TSU_SERVO_kp : Fld := { key := 0xC004C * 8 + 24, width := 8, reset := 0xC0, ty := .rw, kept := .soft }
def TSU_SERVO_ki : Fld := { key := 0xC004C * 8 + 16, width := 8, reset := 0x40, ty := .rw, kept := .soft }
def TSU_SERVO_lock_n : Fld := { key := 0xC004C * 8 + 12, width := 4, reset := 0x4, ty := .rw, kept := .soft }
def TSU_SERVO_lock_ns : Fld := { key := 0xC004C * 8 + 0, width := 12, reset := 0x14, ty := .rw, kept := .soft }
def TSU_SERVO2_step_thr : Fld := { key := 0xC0050 * 8 + 16, width := 16, reset := 0xA, ty := .rw, kept := .soft }
def TSU_SERVO2_rate_max : Fld := { key := 0xC0050 * 8 + 0, width := 16, reset := 0xC8, ty := .rw, kept := .soft }
def TSU_PPS_pps_cal : Fld := { key := 0xC0054 * 8 + 16, width := 16, reset := 0x0, ty := .rw, kept := .soft }
def TSU_PPS_pps_tol : Fld := { key := 0xC0054 * 8 + 0, width := 16, reset := 0xFA, ty := .rw, kept := .soft }
def TSU_SLEW_slew_ppb : Fld := { key := 0xC0058 * 8 + 0, width := 32, reset := 0x186A0, ty := .rw, kept := .soft }
def TSU_ISLCAL_bhe : Fld := { key := 0xC005C * 8 + 24, width := 8, reset := 0x0, ty := .rw, kept := .soft }
def TSU_ISLCAL_age : Fld := { key := 0xC005C * 8 + 16, width := 8, reset := 0x0, ty := .rw, kept := .soft }
def TSU_ISLCAL_feb : Fld := { key := 0xC005C * 8 + 8, width := 8, reset := 0x0, ty := .rw, kept := .soft }
def TSU_ISLCAL_keyc : Fld := { key := 0xC005C * 8 + 0, width := 8, reset := 0x0, ty := .rw, kept := .soft }
def TSU_RTC_SEC_sec : Fld := { key := 0xC0070 * 8 + 0, width := 32, reset := 0x0, ty := .rw, kept := .all }
def TSU_RTC_FRAC_rtc_valid : Fld := { key := 0xC0074 * 8 + 31, width := 1, reset := 0x0, ty := .ro, kept := .all }
def TSU_RTC_FRAC_frac : Fld := { key := 0xC0074 * 8 + 0, width := 15, reset := 0x0, ty := .ro, kept := .all }
def TSU_PULSE_CTRL_arm : Fld := { key := 0xC0080 * 8 + 31, width := 1, reset := 0x0, ty := .rw, kept := .soft, stride := 0x20, count := 4 }
def TSU_PULSE_CTRL_polarity : Fld := { key := 0xC0080 * 8 + 30, width := 1, reset := 0x0, ty := .rw, kept := .soft, stride := 0x20, count := 4 }
def TSU_PULSE_CTRL_pulse_evt : Fld := { key := 0xC0080 * 8 + 29, width := 1, reset := 0x0, ty := .rw, kept := .soft, stride := 0x20, count := 4 }
def TSU_PULSE_START_NS_ns : Fld := { key := 0xC0084 * 8 + 0, width := 32, reset := 0x0, ty := .rw, kept := .soft, stride := 0x20, count := 4 }
def TSU_PULSE_START_SEC_LO_sec : Fld := { key := 0xC0088 * 8 + 0, width := 48, reset := 0x0, ty := .rw, kept := .soft, stride := 0x20, count := 4 }
def TSU_PULSE_PER_NS_per_ns : Fld := { key := 0xC0090 * 8 + 0, width := 32, reset := 0x0, ty := .rw, kept := .soft, stride := 0x20, count := 4 }
def TSU_PULSE_PER_SEC_per_sec : Fld := { key := 0xC0094 * 8 + 0, width := 16, reset := 0x0, ty := .rw, kept := .soft, stride := 0x20, count := 4 }
def TSU_PULSE_WIDTH_width : Fld := { key := 0xC0098 * 8 + 0, width := 32, reset := 0x0, ty := .rw, kept := .soft, stride := 0x20, count := 4 }
def TSU_PULSE_STAT_cfg_bad : Fld := { key := 0xC009C * 8 + 31, width := 1, reset := 0x0, ty := .w1c, kept := .soft, stride := 0x20, count := 4 }
def TSU_PULSE_STAT_late : Fld := { key := 0xC009C * 8 + 30, width := 1, reset := 0x0, ty := .w1c, kept := .soft, stride := 0x20, count := 4 }
def TSU_PULSE_STAT_skipped : Fld := { key := 0xC009C * 8 + 0, width := 16, reset := 0x0, ty := .rc, kept := .soft, stride := 0x20, count := 4 }
def TSU_PTP_CTRL_tc_en : Fld := { key := 0xC0100 * 8 + 31, width := 1, reset := 0x0, ty := .rw, kept := .soft }
def TSU_PTP_CTRL_overflow : Fld := { key := 0xC0100 * 8 + 0, width := 16, reset := 0x0, ty := .rc, kept := .soft }
def TSU_PTP_CNT_corrected : Fld := { key := 0xC0104 * 8 + 16, width := 16, reset := 0x0, ty := .rc, kept := .soft }
def TSU_PTP_CNT_skipped : Fld := { key := 0xC0104 * 8 + 0, width := 16, reset := 0x0, ty := .rc, kept := .soft }
def TSU_PPS_LAST_LO_tick : Fld := { key := 0xC0140 * 8 + 0, width := 64, reset := 0x0, ty := .ro, kept := .soft }
def TSU_PPS_ERR_e : Fld := { key := 0xC0148 * 8 + 0, width := 32, reset := 0x0, ty := .ro, kept := .soft }
def TSU_CNT_pps_rej : Fld := { key := 0xC014C * 8 + 24, width := 8, reset := 0x0, ty := .rc, kept := .soft }
def TSU_CNT_extrap : Fld := { key := 0xC014C * 8 + 16, width := 8, reset := 0x0, ty := .rc, kept := .soft }
def TSU_CNT_steps : Fld := { key := 0xC014C * 8 + 0, width := 16, reset := 0x0, ty := .rc, kept := .soft }
def ETH_CTRL_enable : Fld := { key := 0xD0000 * 8 + 31, width := 1, reset := 0x0, ty := .rw, kept := .hf, stride := 0x1000, count := 12 }
def ETH_CTRL_mode : Fld := { key := 0xD0000 * 8 + 28, width := 3, reset := 0x0, ty := .rwl, kept := .hf, stride := 0x1000, count := 12 }
def ETH_CTRL_rs_fec : Fld := { key := 0xD0000 * 8 + 27, width := 1, reset := 0x1, ty := .rwl, kept := .hf, stride := 0x1000, count := 12 }
def ETH_CTRL_an_en : Fld := { key := 0xD0000 * 8 + 26, width := 1, reset := 0x1, ty := .rwl, kept := .hf, stride := 0x1000, count := 12 }
def ETH_CTRL_pause_rx_en : Fld := { key := 0xD0000 * 8 + 25, width := 1, reset := 0x1, ty := .rw, kept := .hf, stride := 0x1000, count := 12 }
def ETH_CTRL_pause_tx_en : Fld := { key := 0xD0000 * 8 + 24, width := 1, reset := 0x1, ty := .rw, kept := .hf, stride := 0x1000, count := 12 }
def ETH_CTRL_pfc_en : Fld := { key := 0xD0000 * 8 + 23, width := 1, reset := 0x0, ty := .rwl, kept := .hf, stride := 0x1000, count := 12 }
def ETH_CTRL_uplink : Fld := { key := 0xD0000 * 8 + 22, width := 1, reset := 0x0, ty := .rw, kept := .hf, stride := 0x1000, count := 12 }
def ETH_CTRL_tunnel : Fld := { key := 0xD0000 * 8 + 21, width := 1, reset := 0x0, ty := .rwl, kept := .hf, stride := 0x1000, count := 12 }
def ETH_CTRL_max_frame : Fld := { key := 0xD0000 * 8 + 0, width := 14, reset := 0x2400, ty := .rwl, kept := .hf, stride := 0x1000, count := 12 }
def ETH_STATUS_link_up : Fld := { key := 0xD0004 * 8 + 31, width := 1, reset := 0x0, ty := .ro, kept := .hf, stride := 0x1000, count := 12 }
def ETH_STATUS_running : Fld := { key := 0xD0004 * 8 + 30, width := 1, reset := 0x0, ty := .ro, kept := .hf, stride := 0x1000, count := 12 }
def ETH_STATUS_fec_lock : Fld := { key := 0xD0004 * 8 + 29, width := 1, reset := 0x0, ty := .ro, kept := .hf, stride := 0x1000, count := 12 }
def ETH_STATUS_paused : Fld := { key := 0xD0004 * 8 + 28, width := 1, reset := 0x0, ty := .ro, kept := .hf, stride := 0x1000, count := 12 }
def ETH_STATUS_pause_storm : Fld := { key := 0xD0004 * 8 + 27, width := 1, reset := 0x0, ty := .w1c, kept := .hf, stride := 0x1000, count := 12 }
def ETH_STATUS_retired : Fld := { key := 0xD0004 * 8 + 26, width := 1, reset := 0x0, ty := .ro, kept := .xmain, stride := 0x1000, count := 12 }
def ETH_STATUS_rate : Fld := { key := 0xD0004 * 8 + 23, width := 3, reset := 0x0, ty := .ro, kept := .hf, stride := 0x1000, count := 12 }
def ETH_STATUS_retire_cause : Fld := { key := 0xD0004 * 8 + 15, width := 8, reset := 0x0, ty := .ro, kept := .xmain, stride := 0x1000, count := 12 }
def ETH_STATUS_cfg_bad : Fld := { key := 0xD0004 * 8 + 14, width := 1, reset := 0x0, ty := .w1c, kept := .hf, stride := 0x1000, count := 12 }
def ETH_FLOW_pause_quanta : Fld := { key := 0xD0008 * 8 + 16, width := 16, reset := 0xFFFF, ty := .rw, kept := .hf, stride := 0x1000, count := 12 }
def ETH_FLOW_xoff : Fld := { key := 0xD0008 * 8 + 12, width := 4, reset := 0xC, ty := .rw, kept := .hf, stride := 0x1000, count := 12 }
def ETH_FLOW_xon : Fld := { key := 0xD0008 * 8 + 8, width := 4, reset := 0x8, ty := .rw, kept := .hf, stride := 0x1000, count := 12 }
def ETH_FLOW2_pfc_mask0 : Fld := { key := 0xD000C * 8 + 24, width := 8, reset := 0xFF, ty := .rw, kept := .hf, stride := 0x1000, count := 12 }
def ETH_FLOW2_pfc_mask1 : Fld := { key := 0xD000C * 8 + 16, width := 8, reset := 0xFF, ty := .rw, kept := .hf, stride := 0x1000, count := 12 }
def ETH_FLOW2_pause_max : Fld := { key := 0xD000C * 8 + 0, width := 16, reset := 0x1F4, ty := .rw, kept := .hf, stride := 0x1000, count := 12 }
def ETH_PART_p0_units : Fld := { key := 0xD0010 * 8 + 0, width := 13, reset := 0x400, ty := .rwl, kept := .hf, stride := 0x1000, count := 12 }
def ETH_ERR_CFG_window : Fld := { key := 0xD0014 * 8 + 16, width := 16, reset := 0x3C, ty := .rw, kept := .hf, stride := 0x1000, count := 12 }
def ETH_ERR_CFG_retire_thr : Fld := { key := 0xD0014 * 8 + 0, width := 8, reset := 0x20, ty := .rw, kept := .hf, stride := 0x1000, count := 12 }
def ETH_EVENT_cfg_bad : Fld := { key := 0xD0018 * 8 + 6, width := 1, reset := 0x0, ty := .w1c, kept := .hf, stride := 0x1000, count := 12 }
def ETH_EVENT_sec_pn_end : Fld := { key := 0xD0018 * 8 + 5, width := 1, reset := 0x0, ty := .w1c, kept := .hf, stride := 0x1000, count := 12 }
def ETH_EVENT_sec_pn_thr : Fld := { key := 0xD0018 * 8 + 4, width := 1, reset := 0x0, ty := .w1c, kept := .hf, stride := 0x1000, count := 12 }
def ETH_EVENT_pause_storm : Fld := { key := 0xD0018 * 8 + 3, width := 1, reset := 0x0, ty := .w1c, kept := .hf, stride := 0x1000, count := 12 }
def ETH_EVENT_retired : Fld := { key := 0xD0018 * 8 + 2, width := 1, reset := 0x0, ty := .w1c, kept := .hf, stride := 0x1000, count := 12 }
def ETH_EVENT_fault : Fld := { key := 0xD0018 * 8 + 1, width := 1, reset := 0x0, ty := .w1c, kept := .hf, stride := 0x1000, count := 12 }
def ETH_EVENT_link_change : Fld := { key := 0xD0018 * 8 + 0, width := 1, reset := 0x0, ty := .w1c, kept := .hf, stride := 0x1000, count := 12 }
def ETH_MAC_LO_mac : Fld := { key := 0xD001C * 8 + 0, width := 48, reset := 0x0, ty := .rw, kept := .hf, stride := 0x1000, count := 12 }
def ETH_CNT_RX0_rx_frames : Fld := { key := 0xD0024 * 8 + 0, width := 32, reset := 0x0, ty := .rc, kept := .hf, stride := 0x1000, count := 12 }
def ETH_CNT_RX1_rx_bad : Fld := { key := 0xD0028 * 8 + 16, width := 16, reset := 0x0, ty := .rc, kept := .hf, stride := 0x1000, count := 12 }
def ETH_CNT_RX1_no_match : Fld := { key := 0xD0028 * 8 + 0, width := 16, reset := 0x0, ty := .rc, kept := .hf, stride := 0x1000, count := 12 }
def ETH_CNT_DROP_drop_p0 : Fld := { key := 0xD002C * 8 + 16, width := 16, reset := 0x0, ty := .rc, kept := .hf, stride := 0x1000, count := 12 }
def ETH_CNT_DROP_drop_p1 : Fld := { key := 0xD002C * 8 + 0, width := 16, reset := 0x0, ty := .rc, kept := .hf, stride := 0x1000, count := 12 }
def ETH_CNT_TX_tx_frames : Fld := { key := 0xD0030 * 8 + 0, width := 32, reset := 0x0, ty := .rc, kept := .hf, stride := 0x1000, count := 12 }
def ETH_CNT_CTL_pause_rx : Fld := { key := 0xD0034 * 8 + 16, width := 16, reset := 0x0, ty := .rc, kept := .hf, stride := 0x1000, count := 12 }
def ETH_CNT_CTL_pause_tx : Fld := { key := 0xD0034 * 8 + 0, width := 16, reset := 0x0, ty := .rc, kept := .hf, stride := 0x1000, count := 12 }
def ETH_CNT_CTL2_ctl_ignored : Fld := { key := 0xD0038 * 8 + 16, width := 16, reset := 0x0, ty := .rc, kept := .hf, stride := 0x1000, count := 12 }
def ETH_CNT_CTL2_fec_uncorr : Fld := { key := 0xD0038 * 8 + 0, width := 16, reset := 0x0, ty := .rc, kept := .hf, stride := 0x1000, count := 12 }
def ETH_SEC_CTRL_enable : Fld := { key := 0xD0100 * 8 + 31, width := 1, reset := 0x0, ty := .rwl, kept := .hf, stride := 0x1000, count := 4 }
def ETH_SEC_CTRL_cipher : Fld := { key := 0xD0100 * 8 + 29, width := 2, reset := 0x0, ty := .rwl, kept := .hf, stride := 0x1000, count := 4 }
def ETH_SEC_CTRL_validate : Fld := { key := 0xD0100 * 8 + 27, width := 2, reset := 0x2, ty := .rw, kept := .hf, stride := 0x1000, count := 4 }
def ETH_SEC_CTRL_replay : Fld := { key := 0xD0100 * 8 + 26, width := 1, reset := 0x1, ty := .rw, kept := .hf, stride := 0x1000, count := 4 }
def ETH_SEC_CTRL_include_sci : Fld := { key := 0xD0100 * 8 + 25, width := 1, reset := 0x1, ty := .rw, kept := .hf, stride := 0x1000, count := 4 }
def ETH_SEC_CTRL_rx_sc_en : Fld := { key := 0xD0100 * 8 + 20, width := 4, reset := 0x0, ty := .rw, kept := .hf, stride := 0x1000, count := 4 }
def ETH_SEC_WIN_window : Fld := { key := 0xD0104 * 8 + 0, width := 32, reset := 0x0, ty := .rw, kept := .hf, stride := 0x1000, count := 4 }
def ETH_SEC_SCI_LO_sci : Fld := { key := 0xD0108 * 8 + 0, width := 64, reset := 0x0, ty := .rw, kept := .hf, stride := 0x1000, count := 4 }
def ETH_SEC_RXSCI_LO_sci : Fld := { key := 0xD0120 * 8 + 0, width := 64, reset := 0x0, ty := .rw, kept := .hf, stride := 0x1000, count := 4, stride2 := 8, count2 := 4 }
def ETH_SEC_STAT_tx_slot : Fld := { key := 0xD0110 * 8 + 31, width := 1, reset := 0x0, ty := .ro, kept := .hf, stride := 0x1000, count := 4 }
def ETH_SEC_STAT_tx_held : Fld := { key := 0xD0110 * 8 + 30, width := 1, reset := 0x0, ty := .ro, kept := .hf, stride := 0x1000, count := 4 }
def ETH_SEC_STAT_installed : Fld := { key := 0xD0110 * 8 + 0, width := 10, reset := 0x0, ty := .ro, kept := .hf, stride := 0x1000, count := 4 }
def ETH_SEC_PNTHR_LO_pn_thr : Fld := { key := 0xD0114 * 8 + 0, width := 64, reset := 0xC0000000, ty := .rw, kept := .hf, stride := 0x1000, count := 4 }
def ETH_SEC_CNT_bad_icv : Fld := { key := 0xD011C * 8 + 24, width := 8, reset := 0x0, ty := .rc, kept := .hf, stride := 0x1000, count := 4 }
def ETH_SEC_CNT_late : Fld := { key := 0xD011C * 8 + 16, width := 8, reset := 0x0, ty := .rc, kept := .hf, stride := 0x1000, count := 4 }
def ETH_SEC_CNT_untagged : Fld := { key := 0xD011C * 8 + 8, width := 8, reset := 0x0, ty := .rc, kept := .hf, stride := 0x1000, count := 4 }
def ETH_SEC_CNT_no_sa : Fld := { key := 0xD011C * 8 + 0, width := 8, reset := 0x0, ty := .rc, kept := .hf, stride := 0x1000, count := 4 }
def ETH_COMMON_backhaul_present : Fld := { key := 0xDC000 * 8 + 31, width := 1, reset := 0x0, ty := .ro, kept := .hf }
def ETH_TUN_CTRL_addr_en : Fld := { key := 0xDC004 * 8 + 28, width := 4, reset := 0x0, ty := .rw, kept := .hf }
def ETH_TUN_CTRL_udp_port : Fld := { key := 0xDC004 * 8 + 0, width := 16, reset := 0xBE00, ty := .rwl, kept := .hf }
def ETH_TUN_CFG_hop_limit : Fld := { key := 0xDC008 * 8 + 24, width := 8, reset := 0x40, ty := .rw, kept := .hf }
def ETH_TUN_CFG_tclass : Fld := { key := 0xDC008 * 8 + 16, width := 8, reset := 0x0, ty := .rw, kept := .hf }
def ETH_TUN_CFG_ka_s : Fld := { key := 0xDC008 * 8 + 8, width := 8, reset := 0x1E, ty := .rw, kept := .hf }
def ETH_TUN_CFG_conc_silent : Fld := { key := 0xDC008 * 8 + 0, width := 8, reset := 0xC, ty := .rw, kept := .hf }
def ETH_TUN_ADDR_addr : Fld := { key := 0xDC010 * 8 + 0, width := 32, reset := 0x0, ty := .rwl, kept := .hf, stride := 0x10, count := 4, stride2 := 4, count2 := 4 }
def ETH_TUN_CNT0_dgram_bad : Fld := { key := 0xDC050 * 8 + 16, width := 16, reset := 0x0, ty := .rc, kept := .hf }
def ETH_TUN_CNT0_conc_mismatch : Fld := { key := 0xDC050 * 8 + 0, width := 16, reset := 0x0, ty := .rc, kept := .hf }
def ETH_TUN_CNT1_csum_bad : Fld := { key := 0xDC054 * 8 + 16, width := 16, reset := 0x0, ty := .rc, kept := .hf }
def ETH_TUN_CNT1_ext_drop : Fld := { key := 0xDC054 * 8 + 0, width := 16, reset := 0x0, ty := .rc, kept := .hf }
def ETH_TUN_CNT2_frames_in : Fld := { key := 0xDC058 * 8 + 0, width := 32, reset := 0x0, ty := .rc, kept := .hf }
def ETH_TUN_EVT_conc_lost : Fld := { key := 0xDC05C * 8 + 31, width := 1, reset := 0x0, ty := .w1c, kept := .hf }
def ETH_TUN_EVT_conc_up : Fld := { key := 0xDC05C * 8 + 30, width := 1, reset := 0x0, ty := .w1c, kept := .hf }
def ETH_TUN_EVT_learned : Fld := { key := 0xDC05C * 8 + 29, width := 1, reset := 0x0, ty := .w1c, kept := .hf }
def ETH_TUN_EVT_last_conc : Fld := { key := 0xDC05C * 8 + 0, width := 12, reset := 0x0, ty := .ro, kept := .hf }
def ETH_CONC_SEL_loaded : Fld := { key := 0xDC060 * 8 + 31, width := 1, reset := 0x0, ty := .ro, kept := .hf }
def ETH_CONC_SEL_conc : Fld := { key := 0xDC060 * 8 + 0, width := 12, reset := 0x0, ty := .rw, kept := .hf }
def ETH_CONC_CTRL_commit : Fld := { key := 0xDC064 * 8 + 31, width := 1, reset := 0x0, ty := .w1s, kept := .hf }
def ETH_FWD_CFG_learn_full : Fld := { key := 0xDC0A0 * 8 + 31, width := 1, reset := 0x0, ty := .w1c, kept := .hf }
def ETH_FWD_CFG_age_s : Fld := { key := 0xDC0A0 * 8 + 0, width := 16, reset := 0x12C, ty := .rw, kept := .hf }
def ETH_FWD_CNT_flooded : Fld := { key := 0xDC0A4 * 8 + 0, width := 16, reset := 0x0, ty := .rc, kept := .hf }
def ETH_FWD_enable : Fld := { key := 0xDC0C0 * 8 + 31, width := 1, reset := 0x0, ty := .rw, kept := .hf, stride := 0x4, count := 8 }
def ETH_FWD_bh_port : Fld := { key := 0xDC0C0 * 8 + 28, width := 2, reset := 0x0, ty := .rw, kept := .hf, stride := 0x4, count := 8 }
def ETH_FWD_agg_mask : Fld := { key := 0xDC0C0 * 8 + 20, width := 8, reset := 0x0, ty := .rw, kept := .hf, stride := 0x4, count := 8 }
def ETH_FWD_vid : Fld := { key := 0xDC0C0 * 8 + 0, width := 12, reset := 0x0, ty := .rw, kept := .hf, stride := 0x4, count := 8 }
def ETH_AF_LO_addr_lo : Fld := { key := 0xDC100 * 8 + 0, width := 32, reset := 0x0, ty := .rw, kept := .hf, stride := 0x8, count := 64 }
def ETH_AF_HI_enable : Fld := { key := 0xDC104 * 8 + 31, width := 1, reset := 0x0, ty := .rw, kept := .hf, stride := 0x8, count := 64 }
def ETH_AF_HI_ports : Fld := { key := 0xDC104 * 8 + 16, width := 12, reset := 0x0, ty := .rw, kept := .hf, stride := 0x8, count := 64 }
def ETH_AF_HI_addr_hi : Fld := { key := 0xDC104 * 8 + 0, width := 16, reset := 0x0, ty := .rw, kept := .hf, stride := 0x8, count := 64 }
def ETH_RULE_MATCH0_vid : Fld := { key := 0xDC400 * 8 + 20, width := 12, reset := 0x0, ty := .rw, kept := .hf, stride := 0x10, count := 32 }
def ETH_RULE_MATCH0_vid_en : Fld := { key := 0xDC400 * 8 + 19, width := 1, reset := 0x0, ty := .rw, kept := .hf, stride := 0x10, count := 32 }
def ETH_RULE_MATCH0_untagged : Fld := { key := 0xDC400 * 8 + 18, width := 1, reset := 0x0, ty := .rw, kept := .hf, stride := 0x10, count := 32 }
def ETH_RULE_MATCH0_pcp : Fld := { key := 0xDC400 * 8 + 15, width := 3, reset := 0x0, ty := .rw, kept := .hf, stride := 0x10, count := 32 }
def ETH_RULE_MATCH0_pcp_en : Fld := { key := 0xDC400 * 8 + 14, width := 1, reset := 0x0, ty := .rw, kept := .hf, stride := 0x10, count := 32 }
def ETH_RULE_MATCH0_ports : Fld := { key := 0xDC400 * 8 + 0, width := 12, reset := 0x0, ty := .rw, kept := .hf, stride := 0x10, count := 32 }
def ETH_RULE_MATCH1_ethertype : Fld := { key := 0xDC404 * 8 + 16, width := 16, reset := 0x0, ty := .rw, kept := .hf, stride := 0x10, count := 32 }
def ETH_RULE_MATCH1_et_en : Fld := { key := 0xDC404 * 8 + 15, width := 1, reset := 0x0, ty := .rw, kept := .hf, stride := 0x10, count := 32 }
def ETH_RULE_MATCH1_nh_en : Fld := { key := 0xDC404 * 8 + 14, width := 1, reset := 0x0, ty := .rw, kept := .hf, stride := 0x10, count := 32 }
def ETH_RULE_MATCH1_nh : Fld := { key := 0xDC404 * 8 + 0, width := 8, reset := 0x0, ty := .rw, kept := .hf, stride := 0x10, count := 32 }
def ETH_RULE_MATCH2_udp_port : Fld := { key := 0xDC408 * 8 + 16, width := 16, reset := 0x0, ty := .rw, kept := .hf, stride := 0x10, count := 32 }
def ETH_RULE_MATCH2_up_en : Fld := { key := 0xDC408 * 8 + 15, width := 1, reset := 0x0, ty := .rw, kept := .hf, stride := 0x10, count := 32 }
def ETH_RULE_MATCH2_af_en : Fld := { key := 0xDC408 * 8 + 14, width := 1, reset := 0x0, ty := .rw, kept := .hf, stride := 0x10, count := 32 }
def ETH_RULE_MATCH2_af : Fld := { key := 0xDC408 * 8 + 0, width := 6, reset := 0x0, ty := .rw, kept := .hf, stride := 0x10, count := 32 }
def ETH_RULE_ACTION_enable : Fld := { key := 0xDC40C * 8 + 31, width := 1, reset := 0x0, ty := .rw, kept := .hf, stride := 0x10, count := 32 }
def ETH_RULE_ACTION_drop : Fld := { key := 0xDC40C * 8 + 30, width := 1, reset := 0x0, ty := .rw, kept := .hf, stride := 0x10, count := 32 }
def ETH_RULE_ACTION_queue : Fld := { key := 0xDC40C * 8 + 0, width := 4, reset := 0x0, ty := .rw, kept := .hf, stride := 0x10, count := 32 }
def ETH_RXQ_BASE_LO_base_lo : Fld := { key := 0xDC600 * 8 + 12, width := 20, reset := 0x0, ty := .rw, kept := .hf, stride := 0x20, count := 16 }
def ETH_TXQ_BASE_LO_base_lo : Fld := { key := 0xDC800 * 8 + 12, width := 20, reset := 0x0, ty := .rw, kept := .hf, stride := 0x20, count := 8 }
def ETH_RXQ_BASE_HI_base_hi : Fld := { key := 0xDC604 * 8 + 0, width := 16, reset := 0x1, ty := .rw, kept := .hf, stride := 0x20, count := 16 }
def ETH_TXQ_BASE_HI_base_hi : Fld := { key := 0xDC804 * 8 + 0, width := 16, reset := 0x1, ty := .rw, kept := .hf, stride := 0x20, count := 8 }
def ETH_RXQ_CFG_enable : Fld := { key := 0xDC608 * 8 + 31, width := 1, reset := 0x0, ty := .rw, kept := .hf, stride := 0x20, count := 16 }
def ETH_TXQ_CFG_enable : Fld := { key := 0xDC808 * 8 + 31, width := 1, reset := 0x0, ty := .rw, kept := .hf, stride := 0x20, count := 8 }
def ETH_RXQ_CFG_slot : Fld := { key := 0xDC608 * 8 + 4, width := 4, reset := 0x0, ty := .rw, kept := .hf, stride := 0x20, count := 16 }
def ETH_TXQ_CFG_slot : Fld := { key := 0xDC808 * 8 + 4, width := 4, reset := 0x0, ty := .rw, kept := .hf, stride := 0x20, count := 8 }
def ETH_RXQ_CFG_size : Fld := { key := 0xDC608 * 8 + 0, width := 4, reset := 0x4, ty := .rw, kept := .hf, stride := 0x20, count := 16 }
def ETH_TXQ_CFG_size : Fld := { key := 0xDC808 * 8 + 0, width := 4, reset := 0x4, ty := .rw, kept := .hf, stride := 0x20, count := 8 }
def ETH_RXQ_HEAD_head : Fld := { key := 0xDC60C * 8 + 0, width := 12, reset := 0x0, ty := .rw, kept := .hf, stride := 0x20, count := 16 }
def ETH_TXQ_HEAD_head : Fld := { key := 0xDC80C * 8 + 0, width := 12, reset := 0x0, ty := .ro, kept := .hf, stride := 0x20, count := 8 }
def ETH_RXQ_TAIL_tail : Fld := { key := 0xDC610 * 8 + 0, width := 12, reset := 0x0, ty := .ro, kept := .hf, stride := 0x20, count := 16 }
def ETH_TXQ_TAIL_tail : Fld := { key := 0xDC810 * 8 + 0, width := 12, reset := 0x0, ty := .rw, kept := .hf, stride := 0x20, count := 8 }
def ETH_SA_DESC_LO_desc_lo : Fld := { key := 0xDC900 * 8 + 6, width := 26, reset := 0x0, ty := .rw, kept := .hf }
def ETH_SA_DESC_HI_desc_hi : Fld := { key := 0xDC904 * 8 + 0, width := 16, reset := 0x0, ty := .rw, kept := .hf }
def ETH_SA_CTRL_go : Fld := { key := 0xDC908 * 8 + 31, width := 1, reset := 0x0, ty := .w1s, kept := .hf }
def ETH_SA_CTRL_done : Fld := { key := 0xDC908 * 8 + 30, width := 1, reset := 0x0, ty := .w1c, kept := .hf }
def ETH_WAKE_CFG_link_wake : Fld := { key := 0xDD000 * 8 + 16, width := 8, reset := 0x0, ty := .rw, kept := .all }
def ETH_WAKE_CFG_arm : Fld := { key := 0xDD000 * 8 + 8, width := 8, reset := 0x0, ty := .rw, kept := .all }
def ETH_WAKE_CFG_pat_en : Fld := { key := 0xDD000 * 8 + 0, width := 4, reset := 0x0, ty := .rw, kept := .all }
def ETH_WAKE_STAT_woke : Fld := { key := 0xDD004 * 8 + 31, width := 1, reset := 0x0, ty := .w1c, kept := .all }
def ETH_WAKE_STAT_cause : Fld := { key := 0xDD004 * 8 + 28, width := 3, reset := 0x0, ty := .ro, kept := .all }
def ETH_WAKE_STAT_port : Fld := { key := 0xDD004 * 8 + 24, width := 4, reset := 0x0, ty := .ro, kept := .all }
def ETH_WAKE_STAT_cfg_bad : Fld := { key := 0xDD004 * 8 + 23, width := 1, reset := 0x0, ty := .w1c, kept := .all }
def ETH_WAKE_STAT_pattern : Fld := { key := 0xDD004 * 8 + 0, width := 4, reset := 0x0, ty := .ro, kept := .all }
def GAV_CTRL_enable : Fld := { key := 0xE0000 * 8 + 31, width := 1, reset := 0x0, ty := .rw, kept := .hf }
def GAV_CTRL_gc_en : Fld := { key := 0xE0000 * 8 + 30, width := 1, reset := 0x1, ty := .rw, kept := .hf }
def GAV_STATUS_running : Fld := { key := 0xE0004 * 8 + 31, width := 1, reset := 0x0, ty := .ro, kept := .hf }
def GAV_STATUS_mounting : Fld := { key := 0xE0004 * 8 + 30, width := 1, reset := 0x0, ty := .ro, kept := .hf }
def GAV_STATUS_unformatted : Fld := { key := 0xE0004 * 8 + 29, width := 1, reset := 0x0, ty := .ro, kept := .hf }
def GAV_STATUS_mount_fail : Fld := { key := 0xE0004 * 8 + 28, width := 1, reset := 0x0, ty := .ro, kept := .hf }
def GAV_STATUS_host_ro : Fld := { key := 0xE0004 * 8 + 27, width := 1, reset := 0x0, ty := .ro, kept := .hf }
def GAV_STATUS_retention_cut : Fld := { key := 0xE0004 * 8 + 26, width := 1, reset := 0x0, ty := .w1c, kept := .hf }
def GAV_STATUS_gc_active : Fld := { key := 0xE0004 * 8 + 25, width := 1, reset := 0x0, ty := .ro, kept := .hf }
def GAV_STATUS_gc_deferred : Fld := { key := 0xE0004 * 8 + 24, width := 1, reset := 0x0, ty := .ro, kept := .hf }
def GAV_STATUS_area_bad : Fld := { key := 0xE0004 * 8 + 23, width := 1, reset := 0x0, ty := .w1c, kept := .hf }
def GAV_STATUS_stalled : Fld := { key := 0xE0004 * 8 + 22, width := 1, reset := 0x0, ty := .ro, kept := .hf }
def GAV_GEOM0_luns : Fld := { key := 0xE0008 * 8 + 30, width := 2, reset := 0x0, ty := .ro, kept := .hf }
def GAV_GEOM0_planes : Fld := { key := 0xE0008 * 8 + 28, width := 2, reset := 0x0, ty := .ro, kept := .hf }
def GAV_GEOM0_page : Fld := { key := 0xE0008 * 8 + 26, width := 2, reset := 0x0, ty := .ro, kept := .hf }
def GAV_GEOM0_ppb : Fld := { key := 0xE0008 * 8 + 14, width := 12, reset := 0x0, ty := .ro, kept := .hf }
def GAV_GEOM1_blocks : Fld := { key := 0xE000C * 8 + 0, width := 15, reset := 0x0, ty := .ro, kept := .hf }
def GAV_TGT_present : Fld := { key := 0xE0010 * 8 + 0, width := 32, reset := 0x0, ty := .ro, kept := .hf }
def GAV_GC_gc_low : Fld := { key := 0xE0014 * 8 + 24, width := 8, reset := 0x18, ty := .rw, kept := .hf }
def GAV_GC_gc_high : Fld := { key := 0xE0014 * 8 + 16, width := 8, reset := 0x28, ty := .rw, kept := .hf }
def GAV_GC_gc_crit : Fld := { key := 0xE0014 * 8 + 8, width := 8, reset := 0x8, ty := .rw, kept := .hf }
def GAV_GC_spare_low : Fld := { key := 0xE0014 * 8 + 0, width := 8, reset := 0x40, ty := .rw, kept := .hf }
def GAV_GC_W_wv : Fld := { key := 0xE0018 * 8 + 16, width := 8, reset := 0x40, ty := .rw, kept := .hf }
def GAV_GC_W_wa : Fld := { key := 0xE0018 * 8 + 8, width := 8, reset := 0x10, ty := .rw, kept := .hf }
def GAV_GC_W_ww : Fld := { key := 0xE0018 * 8 + 0, width := 8, reset := 0x8, ty := .rw, kept := .hf }
def GAV_FLUSH_flush_ms : Fld := { key := 0xE001C * 8 + 16, width := 16, reset := 0x64, ty := .rw, kept := .hf }
def GAV_FLUSH_pe_rated : Fld := { key := 0xE001C * 8 + 4, width := 12, reset := 0x177, ty := .rw, kept := .hf }
def GAV_FLUSH_read_retries : Fld := { key := 0xE001C * 8 + 0, width := 4, reset := 0x8, ty := .rw, kept := .hf }
def GAV_ERR_CFG_window : Fld := { key := 0xE0020 * 8 + 16, width := 16, reset := 0xE10, ty := .rw, kept := .hf }
def GAV_ERR_CFG_retire_thr : Fld := { key := 0xE0020 * 8 + 0, width := 8, reset := 0x8, ty := .rw, kept := .hf }
def GAV_FLUSHED_LO_flushed : Fld := { key := 0xE0024 * 8 + 0, width := 64, reset := 0x0, ty := .ro, kept := .hf }
def GAV_OLDEST_LO_oldest : Fld := { key := 0xE002C * 8 + 0, width := 64, reset := 0x0, ty := .ro, kept := .hf }
def GAV_NSEQ_LO_nseq : Fld := { key := 0xE0034 * 8 + 0, width := 64, reset := 0x0, ty := .ro, kept := .hf }
def GAV_AREA_BASE_LO_base_lo : Fld := { key := 0xE003C * 8 + 30, width := 2, reset := 0x0, ty := .rwl, kept := .hf }
def GAV_AREA_BASE_HI_base_hi : Fld := { key := 0xE0040 * 8 + 0, width := 16, reset := 0x107, ty := .rwl, kept := .hf }
def GAV_AREA_CFG_xring : Fld := { key := 0xE0044 * 8 + 8, width := 8, reset := 0x10, ty := .rwl, kept := .hf }
def GAV_AREA_CFG_mapc : Fld := { key := 0xE0044 * 8 + 0, width := 8, reset := 0x20, ty := .rwl, kept := .hf }
def GAV_CAP0_rec_gib : Fld := { key := 0xE0048 * 8 + 16, width := 16, reset := 0x0, ty := .ro, kept := .hf }
def GAV_CAP0_host_gib : Fld := { key := 0xE0048 * 8 + 0, width := 16, reset := 0x0, ty := .ro, kept := .hf }
def GAV_CAP1_ext_gib : Fld := { key := 0xE004C * 8 + 16, width := 16, reset := 0x0, ty := .ro, kept := .hf }
def GAV_CAP1_e_gib : Fld := { key := 0xE004C * 8 + 0, width := 16, reset := 0x0, ty := .ro, kept := .hf }
def GAV_SPARE_spare : Fld := { key := 0xE0050 * 8 + 0, width := 32, reset := 0x0, ty := .ro, kept := .hf }
def GAV_EVENT_sdisc_done : Fld := { key := 0xE0054 * 8 + 5, width := 1, reset := 0x0, ty := .w1c, kept := .hf }
def GAV_EVENT_lost : Fld := { key := 0xE0054 * 8 + 4, width := 1, reset := 0x0, ty := .w1c, kept := .hf }
def GAV_EVENT_die_retired : Fld := { key := 0xE0054 * 8 + 3, width := 1, reset := 0x0, ty := .w1c, kept := .hf }
def GAV_EVENT_blk_retired : Fld := { key := 0xE0054 * 8 + 2, width := 1, reset := 0x0, ty := .w1c, kept := .hf }
def GAV_EVENT_spare_low : Fld := { key := 0xE0054 * 8 + 1, width := 1, reset := 0x0, ty := .w1c, kept := .hf }
def GAV_EVENT_stall : Fld := { key := 0xE0054 * 8 + 0, width := 1, reset := 0x0, ty := .w1c, kept := .hf }
def GAV_CNT_READ_retried : Fld := { key := 0xE0058 * 8 + 16, width := 16, reset := 0x0, ty := .rc, kept := .hf }
def GAV_CNT_READ_lost : Fld := { key := 0xE0058 * 8 + 0, width := 16, reset := 0x0, ty := .rc, kept := .hf }
def GAV_CNT_BLK_retired : Fld := { key := 0xE005C * 8 + 16, width := 16, reset := 0x0, ty := .rc, kept := .hf }
def GAV_CNT_BLK_collected : Fld := { key := 0xE005C * 8 + 0, width := 16, reset := 0x0, ty := .rc, kept := .hf }
def GAV_CMD_DESC_LO_desc_lo : Fld := { key := 0xE0060 * 8 + 6, width := 26, reset := 0x0, ty := .rw, kept := .hf }
def GAV_CMD_DESC_HI_desc_hi : Fld := { key := 0xE0064 * 8 + 0, width := 16, reset := 0x0, ty := .rw, kept := .hf }
def GAV_CMD_CTRL_go : Fld := { key := 0xE0068 * 8 + 31, width := 1, reset := 0x0, ty := .w1s, kept := .hf }
def GAV_CMD_CTRL_done : Fld := { key := 0xE0068 * 8 + 30, width := 1, reset := 0x0, ty := .w1c, kept := .hf }
def GAV_CMD_CTRL_cmd_rej : Fld := { key := 0xE0068 * 8 + 29, width := 1, reset := 0x0, ty := .w1c, kept := .hf }
def GAV_DIE_RET_retired : Fld := { key := 0xE0070 * 8 + 0, width := 32, reset := 0x0, ty := .ro, kept := .xmain, stride := 0x4, count := 4 }
def GAV_RETRY_feature : Fld := { key := 0xE0080 * 8 + 24, width := 8, reset := 0x0, ty := .rw, kept := .hf, stride := 0x4, count := 8 }
def GAV_RETRY_params : Fld := { key := 0xE0080 * 8 + 0, width := 24, reset := 0x0, ty := .rw, kept := .hf, stride := 0x4, count := 8 }
def EPL_CTRL_pair_en : Fld := { key := 0xF0000 * 8 + 31, width := 1, reset := 0x0, ty := .rw, kept := .hf }
def EPL_CTRL_prefer_active : Fld := { key := 0xF0000 * 8 + 30, width := 1, reset := 0x0, ty := .rw, kept := .hf }
def EPL_CTRL_key_follow : Fld := { key := 0xF0000 * 8 + 29, width := 1, reset := 0x1, ty := .rw, kept := .hf }
def EPL_CTRL_auto_resync : Fld := { key := 0xF0000 * 8 + 28, width := 1, reset := 0x1, ty := .rw, kept := .hf }
def EPL_CTRL_max_ver : Fld := { key := 0xF0000 * 8 + 0, width := 16, reset := 0x101, ty := .rw, kept := .hf }
def EPL_STATUS_link_up : Fld := { key := 0xF0004 * 8 + 31, width := 1, reset := 0x0, ty := .ro, kept := .hf }
def EPL_STATUS_paired : Fld := { key := 0xF0004 * 8 + 30, width := 1, reset := 0x0, ty := .ro, kept := .hf }
def EPL_STATUS_role : Fld := { key := 0xF0004 * 8 + 28, width := 2, reset := 0x0, ty := .ro, kept := .hf }
def EPL_STATUS_token : Fld := { key := 0xF0004 * 8 + 27, width := 1, reset := 0x0, ty := .ro, kept := .hf }
def EPL_STATUS_witness_req : Fld := { key := 0xF0004 * 8 + 26, width := 1, reset := 0x0, ty := .ro, kept := .hf }
def EPL_STATUS_witness_held : Fld := { key := 0xF0004 * 8 + 25, width := 1, reset := 0x0, ty := .ro, kept := .hf }
def EPL_STATUS_standby_ready : Fld := { key := 0xF0004 * 8 + 24, width := 1, reset := 0x0, ty := .ro, kept := .hf }
def EPL_STATUS_resyncing : Fld := { key := 0xF0004 * 8 + 23, width := 1, reset := 0x0, ty := .ro, kept := .hf }
def EPL_STATUS_partner_retired : Fld := { key := 0xF0004 * 8 + 22, width := 1, reset := 0x0, ty := .ro, kept := .xmain }
def EPL_STATUS_key_skew : Fld := { key := 0xF0004 * 8 + 21, width := 1, reset := 0x0, ty := .w1c, kept := .hf }
def EPL_STATUS_clash : Fld := { key := 0xF0004 * 8 + 20, width := 1, reset := 0x0, ty := .w1c, kept := .hf }
def EPL_STATUS_split : Fld := { key := 0xF0004 * 8 + 19, width := 1, reset := 0x0, ty := .w1c, kept := .hf }
def EPL_STATUS_divergence : Fld := { key := 0xF0004 * 8 + 18, width := 1, reset := 0x0, ty := .w1c, kept := .hf }
def EPL_STATUS_selftest_fail : Fld := { key := 0xF0004 * 8 + 17, width := 1, reset := 0x0, ty := .w1c, kept := .hf }
def EPL_STATUS_area_bad : Fld := { key := 0xF0004 * 8 + 16, width := 1, reset := 0x0, ty := .w1c, kept := .hf }
def EPL_STATUS_neg_ver : Fld := { key := 0xF0004 * 8 + 0, width := 16, reset := 0x0, ty := .ro, kept := .hf }
def EPL_LEASE_lease_ms : Fld := { key := 0xF0008 * 8 + 24, width := 8, reset := 0x28, ty := .rw, kept := .hf }
def EPL_LEASE_renew_ms : Fld := { key := 0xF0008 * 8 + 16, width := 8, reset := 0xA, ty := .rw, kept := .hf }
def EPL_LEASE_guard_ms : Fld := { key := 0xF0008 * 8 + 8, width := 8, reset := 0x5, ty := .rw, kept := .hf }
def EPL_LEASE_dead_ms : Fld := { key := 0xF0008 * 8 + 0, width := 8, reset := 0xA, ty := .rw, kept := .hf }
def EPL_TOKEN_term : Fld := { key := 0xF000C * 8 + 0, width := 32, reset := 0x0, ty := .ro, kept := .all }
def EPL_DIGEST_digest_to : Fld := { key := 0xF0010 * 8 + 16, width := 16, reset := 0x3E8, ty := .rw, kept := .hf }
def EPL_DIGEST_cmp_delay : Fld := { key := 0xF0010 * 8 + 8, width := 8, reset := 0x32, ty := .rw, kept := .hf }
def EPL_DIGEST_cmp_window : Fld := { key := 0xF0010 * 8 + 0, width := 8, reset := 0x4, ty := .rw, kept := .hf }
def EPL_MIRROR_merge_ms : Fld := { key := 0xF0014 * 8 + 16, width := 16, reset := 0x7D0, ty := .rw, kept := .hf }
def EPL_MIRROR_ksum_s : Fld := { key := 0xF0014 * 8 + 8, width := 8, reset := 0x3C, ty := .rw, kept := .hf }
def EPL_AREA_BASE_LO_base_lo : Fld := { key := 0xF0018 * 8 + 30, width := 2, reset := 0x0, ty := .rwl, kept := .hf }
def EPL_AREA_BASE_HI_base_hi : Fld := { key := 0xF001C * 8 + 0, width := 16, reset := 0x108, ty := .rwl, kept := .hf }
def EPL_ERR_CFG_window : Fld := { key := 0xF0020 * 8 + 16, width := 16, reset := 0xE10, ty := .rw, kept := .hf }
def EPL_ERR_CFG_retire_thr : Fld := { key := 0xF0020 * 8 + 0, width := 8, reset := 0x4, ty := .rw, kept := .hf }
def EPL_EVENT_resync_done : Fld := { key := 0xF0024 * 8 + 10, width := 1, reset := 0x0, ty := .w1c, kept := .hf }
def EPL_EVENT_key_skew : Fld := { key := 0xF0024 * 8 + 9, width := 1, reset := 0x0, ty := .w1c, kept := .hf }
def EPL_EVENT_partner_retired : Fld := { key := 0xF0024 * 8 + 8, width := 1, reset := 0x0, ty := .w1c, kept := .hf }
def EPL_EVENT_self_retired : Fld := { key := 0xF0024 * 8 + 7, width := 1, reset := 0x0, ty := .w1c, kept := .xmain }
def EPL_EVENT_divergence : Fld := { key := 0xF0024 * 8 + 6, width := 1, reset := 0x0, ty := .w1c, kept := .hf }
def EPL_EVENT_mismatch : Fld := { key := 0xF0024 * 8 + 5, width := 1, reset := 0x0, ty := .w1c, kept := .hf }
def EPL_EVENT_witness_req : Fld := { key := 0xF0024 * 8 + 4, width := 1, reset := 0x0, ty := .w1c, kept := .hf }
def EPL_EVENT_token_change : Fld := { key := 0xF0024 * 8 + 3, width := 1, reset := 0x0, ty := .w1c, kept := .hf }
def EPL_EVENT_role_change : Fld := { key := 0xF0024 * 8 + 2, width := 1, reset := 0x0, ty := .w1c, kept := .hf }
def EPL_EVENT_split : Fld := { key := 0xF0024 * 8 + 1, width := 1, reset := 0x0, ty := .w1c, kept := .hf }
def EPL_EVENT_link_change : Fld := { key := 0xF0024 * 8 + 0, width := 1, reset := 0x0, ty := .w1c, kept := .hf }
def EPL_CNT_LINK_retrans : Fld := { key := 0xF0028 * 8 + 16, width := 16, reset := 0x0, ty := .rc, kept := .hf }
def EPL_CNT_LINK_crc_bad : Fld := { key := 0xF0028 * 8 + 0, width := 16, reset := 0x0, ty := .rc, kept := .hf }
def EPL_CNT_DIG_mismatched : Fld := { key := 0xF002C * 8 + 16, width := 16, reset := 0x0, ty := .rc, kept := .hf }
def EPL_CNT_DIG_unheard : Fld := { key := 0xF002C * 8 + 0, width := 16, reset := 0x0, ty := .rc, kept := .hf }
def EPL_CNT_MIR_applied : Fld := { key := 0xF0030 * 8 + 16, width := 16, reset := 0x0, ty := .rc, kept := .hf }
def EPL_CNT_MIR_key_wait : Fld := { key := 0xF0030 * 8 + 0, width := 16, reset := 0x0, ty := .rc, kept := .hf }
def EPL_PARTNER_valid : Fld := { key := 0xF0034 * 8 + 31, width := 1, reset := 0x0, ty := .ro, kept := .hf }
def EPL_PARTNER_active : Fld := { key := 0xF0034 * 8 + 30, width := 1, reset := 0x0, ty := .ro, kept := .hf }
def EPL_PARTNER_token : Fld := { key := 0xF0034 * 8 + 29, width := 1, reset := 0x0, ty := .ro, kept := .hf }
def EPL_PARTNER_retired : Fld := { key := 0xF0034 * 8 + 28, width := 1, reset := 0x0, ty := .ro, kept := .hf }
def EPL_PARTNER_unit : Fld := { key := 0xF0034 * 8 + 16, width := 1, reset := 0x0, ty := .ro, kept := .hf }
def EPL_PARTNER_max_ver : Fld := { key := 0xF0034 * 8 + 0, width := 16, reset := 0x0, ty := .ro, kept := .hf }
def EPL_PARTNER_EUI_LO_eui : Fld := { key := 0xF0038 * 8 + 0, width := 64, reset := 0x0, ty := .ro, kept := .hf }
def EPL_CMD_DESC_LO_desc_lo : Fld := { key := 0xF0040 * 8 + 6, width := 26, reset := 0x0, ty := .rw, kept := .hf }
def EPL_CMD_DESC_HI_desc_hi : Fld := { key := 0xF0044 * 8 + 0, width := 16, reset := 0x0, ty := .rw, kept := .hf }
def EPL_CMD_CTRL_go : Fld := { key := 0xF0048 * 8 + 31, width := 1, reset := 0x0, ty := .w1s, kept := .hf }
def EPL_CMD_CTRL_done : Fld := { key := 0xF0048 * 8 + 30, width := 1, reset := 0x0, ty := .w1c, kept := .hf }
def EPL_CMD_CTRL_cmd_rej : Fld := { key := 0xF0048 * 8 + 29, width := 1, reset := 0x0, ty := .w1c, kept := .hf }
def UPD_CTRL_accept_s : Fld := { key := 0x100000 * 8 + 16, width := 16, reset := 0xE10, ty := .rw, kept := .all }
def UPD_CTRL_revert_hold : Fld := { key := 0x100000 * 8 + 8, width := 8, reset := 0x1E, ty := .rw, kept := .all }
def UPD_CTRL_lease_s : Fld := { key := 0x100000 * 8 + 0, width := 8, reset := 0x1E, ty := .rw, kept := .all }
def UPD_STATUS_boot_result : Fld := { key := 0x100004 * 8 + 28, width := 4, reset := 0x0, ty := .ro, kept := .none }
def UPD_STATUS_provisional : Fld := { key := 0x100004 * 8 + 27, width := 1, reset := 0x0, ty := .ro, kept := .none }
def UPD_STATUS_slot : Fld := { key := 0x100004 * 8 + 26, width := 1, reset := 0x0, ty := .ro, kept := .none }
def UPD_STATUS_rom_recovery : Fld := { key := 0x100004 * 8 + 25, width := 1, reset := 0x0, ty := .ro, kept := .none }
def UPD_STATUS_set_skew : Fld := { key := 0x100004 * 8 + 24, width := 1, reset := 0x0, ty := .w1c, kept := .hf }
def UPD_STATUS_prog_fail : Fld := { key := 0x100004 * 8 + 23, width := 1, reset := 0x0, ty := .w1c, kept := .hf }
def UPD_STATUS_sver : Fld := { key := 0x100004 * 8 + 0, width := 16, reset := 0x0, ty := .ro, kept := .none }
def UPD_SESSION_open : Fld := { key := 0x100008 * 8 + 31, width := 1, reset := 0x0, ty := .ro, kept := .hf }
def UPD_SESSION_source : Fld := { key := 0x100008 * 8 + 29, width := 2, reset := 0x0, ty := .ro, kept := .hf }
def UPD_SESSION_master : Fld := { key := 0x100008 * 8 + 23, width := 6, reset := 0x0, ty := .ro, kept := .hf }
def UPD_SESSION_lease_left : Fld := { key := 0x100008 * 8 + 16, width := 7, reset := 0x0, ty := .ro, kept := .hf }
def UPD_SESSION_id : Fld := { key := 0x100008 * 8 + 0, width := 16, reset := 0x0, ty := .ro, kept := .hf }
def UPD_FUSE_f : Fld := { key := 0x10000C * 8 + 24, width := 8, reset := 0x0, ty := .ro, kept := .all }
def UPD_FUSE_revoked : Fld := { key := 0x10000C * 8 + 20, width := 4, reset := 0x0, ty := .ro, kept := .all }
def UPD_AREA_BASE_LO_base_lo : Fld := { key := 0x100010 * 8 + 30, width := 2, reset := 0x0, ty := .rw, kept := .hf }
def UPD_AREA_BASE_HI_base_hi : Fld := { key := 0x100014 * 8 + 0, width := 16, reset := 0x109, ty := .rw, kept := .hf }
def UPD_CMD_DESC_LO_desc_lo : Fld := { key := 0x100018 * 8 + 6, width := 26, reset := 0x0, ty := .rw, kept := .hf }
def UPD_CMD_DESC_HI_desc_hi : Fld := { key := 0x10001C * 8 + 0, width := 16, reset := 0x0, ty := .rw, kept := .hf }
def UPD_CMD_CTRL_go : Fld := { key := 0x100020 * 8 + 31, width := 1, reset := 0x0, ty := .w1s, kept := .hf }
def UPD_CMD_CTRL_done : Fld := { key := 0x100020 * 8 + 30, width := 1, reset := 0x0, ty := .w1c, kept := .hf }
def UPD_CMD_CTRL_cmd_rej : Fld := { key := 0x100020 * 8 + 29, width := 1, reset := 0x0, ty := .w1c, kept := .hf }
def PMU_CTRL_base : Fld := { key := 0x10000 * 8 + 31, width := 1, reset := 0x0, ty := .rw, kept := .hf }
def PMU_CTRL_dram_keep : Fld := { key := 0x10000 * 8 + 30, width := 1, reset := 0x1, ty := .rw, kept := .hf }
def PMU_CTRL_storm_force : Fld := { key := 0x10000 * 8 + 29, width := 1, reset := 0x0, ty := .rw, kept := .hf }
def PMU_CTRL_off_mask : Fld := { key := 0x10000 * 8 + 22, width := 6, reset := 0x0, ty := .rw, kept := .hf }
def PMU_STATUS_mode : Fld := { key := 0x10004 * 8 + 29, width := 3, reset := 0x1, ty := .ro, kept := .hf }
def PMU_STATUS_prev_mode : Fld := { key := 0x10004 * 8 + 26, width := 3, reset := 0x1, ty := .ro, kept := .hf }
def PMU_STATUS_isl_cond : Fld := { key := 0x10004 * 8 + 25, width := 1, reset := 0x0, ty := .ro, kept := .hf }
def PMU_STATUS_storm_req : Fld := { key := 0x10004 * 8 + 24, width := 1, reset := 0x0, ty := .ro, kept := .hf }
def PMU_STATUS_throttled : Fld := { key := 0x10004 * 8 + 23, width := 1, reset := 0x0, ty := .ro, kept := .hf }
def PMU_STATUS_therm_throttle : Fld := { key := 0x10004 * 8 + 22, width := 1, reset := 0x0, ty := .ro, kept := .hf }
def PMU_STATUS_core_warn : Fld := { key := 0x10004 * 8 + 21, width := 1, reset := 0x0, ty := .ro, kept := .hf }
def PMU_STATUS_pwr_warn : Fld := { key := 0x10004 * 8 + 20, width := 1, reset := 0x0, ty := .ro, kept := .hf }
def PMU_DOM_dom_rej : Fld := { key := 0x10008 * 8 + 31, width := 1, reset := 0x0, ty := .w1c, kept := .hf }
def PMU_DOM_rst : Fld := { key := 0x10008 * 8 + 16, width := 15, reset := 0x0, ty := .w1s, kept := .hf }
def PMU_DOM_on : Fld := { key := 0x10008 * 8 + 0, width := 15, reset := 0x0, ty := .ro, kept := .hf }
def PMU_RST_soft : Fld := { key := 0x1000C * 8 + 31, width := 1, reset := 0x0, ty := .w1s, kept := .none }
def PMU_RST_CAUSE_kind : Fld := { key := 0x10010 * 8 + 28, width := 4, reset := 0x0, ty := .ro, kept := .all }
def PMU_RST_CAUSE_wake : Fld := { key := 0x10010 * 8 + 24, width := 4, reset := 0x0, ty := .ro, kept := .all }
def PMU_RST_CAUSE_soft_src : Fld := { key := 0x10010 * 8 + 20, width := 4, reset := 0x0, ty := .ro, kept := .all }
def PMU_RST_CAUSE_thermal_stop : Fld := { key := 0x10010 * 8 + 19, width := 1, reset := 0x0, ty := .ro, kept := .all }
def PMU_RST_CAUSE_supply_reset : Fld := { key := 0x10010 * 8 + 18, width := 1, reset := 0x0, ty := .ro, kept := .all }
def PMU_RST_CAUSE_count : Fld := { key := 0x10010 * 8 + 0, width := 16, reset := 0x0, ty := .ro, kept := .all }
def PMU_SUPPLY_dips : Fld := { key := 0x10014 * 8 + 24, width := 8, reset := 0x0, ty := .rc, kept := .hf }
def PMU_SUPPLY_warn_seen : Fld := { key := 0x10014 * 8 + 23, width := 1, reset := 0x0, ty := .w1c, kept := .hf }
def PMU_SUPPLY_pwr_warn_seen : Fld := { key := 0x10014 * 8 + 22, width := 1, reset := 0x0, ty := .w1c, kept := .hf }
def PMU_SUPPLY_vcore_mv : Fld := { key := 0x10014 * 8 + 0, width := 10, reset := 0x0, ty := .ro, kept := .hf }
def PMU_THERM_throttle_c : Fld := { key := 0x10018 * 8 + 24, width := 8, reset := 0x6C, ty := .rw, kept := .all }
def PMU_THERM_stop_c : Fld := { key := 0x10018 * 8 + 16, width := 8, reset := 0x73, ty := .ro, kept := .all }
def PMU_THERM_restart_c : Fld := { key := 0x10018 * 8 + 8, width := 8, reset := 0x5F, ty := .rw, kept := .all }
def PMU_THERM_tmax : Fld := { key := 0x10018 * 8 + 0, width := 8, reset := 0x0, ty := .rc, kept := .all }
def PMU_TEMP_sensor : Fld := { key := 0x1001C * 8 + 8, width := 4, reset := 0x0, ty := .ro, kept := .all }
def PMU_TEMP_tj : Fld := { key := 0x1001C * 8 + 0, width := 8, reset := 0x0, ty := .ro, kept := .all }
def PMU_STORM_budget : Fld := { key := 0x10020 * 8 + 20, width := 12, reset := 0x4B0, ty := .ro, kept := .all }
def PMU_STORM_max_s : Fld := { key := 0x10020 * 8 + 12, width := 8, reset := 0x78, ty := .rw, kept := .all }
def PMU_STORM_refill : Fld := { key := 0x10020 * 8 + 8, width := 4, reset := 0x4, ty := .rw, kept := .all }
def PMU_STORM_storm_min_s : Fld := { key := 0x10020 * 8 + 0, width := 8, reset := 0xA, ty := .rw, kept := .all }
def PMU_WDT_enable : Fld := { key := 0x10024 * 8 + 31, width := 1, reset := 0x0, ty := .rwl, kept := .hf }
def PMU_WDT_pre_warned : Fld := { key := 0x10024 * 8 + 30, width := 1, reset := 0x0, ty := .w1c, kept := .hf }
def PMU_WDT_wdt : Fld := { key := 0x10024 * 8 + 0, width := 16, reset := 0x64, ty := .rw, kept := .hf }
def PMU_WDT_KICK_key : Fld := { key := 0x10028 * 8 + 0, width := 16, reset := 0x0, ty := .wo, kept := .none }
def PMU_WAKE_rtc_en : Fld := { key := 0x1002C * 8 + 31, width := 1, reset := 0x0, ty := .rw, kept := .all }
def PMU_WAKE_perst_en : Fld := { key := 0x1002C * 8 + 30, width := 1, reset := 0x0, ty := .rw, kept := .all }
def PMU_WAKE_AT_at : Fld := { key := 0x10030 * 8 + 0, width := 32, reset := 0x0, ty := .rw, kept := .all }
def PMU_ISL_isl_ms : Fld := { key := 0x10034 * 8 + 0, width := 16, reset := 0x1388, ty := .rw, kept := .hf }
def PMU_CORE_retired : Fld := { key := 0x10038 * 8 + 16, width := 8, reset := 0x0, ty := .ro, kept := .xmain }
def PMU_CORE_transients : Fld := { key := 0x10038 * 8 + 0, width := 16, reset := 0x0, ty := .rc, kept := .hf }
def PMU_CORE_CFG_window : Fld := { key := 0x1003C * 8 + 16, width := 16, reset := 0x3C, ty := .rw, kept := .hf }
def PMU_CORE_CFG_retire_thr : Fld := { key := 0x1003C * 8 + 0, width := 8, reset := 0x10, ty := .rw, kept := .hf }
def PMU_CMD_DESC_LO_desc_lo : Fld := { key := 0x10040 * 8 + 6, width := 26, reset := 0x0, ty := .rw, kept := .hf }
def PMU_CMD_DESC_HI_desc_hi : Fld := { key := 0x10044 * 8 + 0, width := 16, reset := 0x0, ty := .rw, kept := .hf }
def PMU_CMD_CTRL_go : Fld := { key := 0x10048 * 8 + 31, width := 1, reset := 0x0, ty := .w1s, kept := .hf }
def PMU_CMD_CTRL_done : Fld := { key := 0x10048 * 8 + 30, width := 1, reset := 0x0, ty := .w1c, kept := .hf }
def PMU_CMD_CTRL_cmd_rej : Fld := { key := 0x10048 * 8 + 29, width := 1, reset := 0x0, ty := .w1c, kept := .hf }
def DMC_STATUS_ready : Fld := { key := 0x120000 * 8 + 31, width := 1, reset := 0x0, ty := .ro, kept := .hf }
def DMC_STATUS_self_refresh : Fld := { key := 0x120000 * 8 + 30, width := 1, reset := 0x0, ty := .ro, kept := .hf }
def DMC_STATUS_fitted_gib : Fld := { key := 0x120000 * 8 + 8, width := 8, reset := 0x0, ty := .ro, kept := .hf }
def DMC_ECC_corrected : Fld := { key := 0x120004 * 8 + 16, width := 16, reset := 0x0, ty := .rc, kept := .hf }
def DMC_ECC_uncorrected : Fld := { key := 0x120004 * 8 + 8, width := 8, reset := 0x0, ty := .rc, kept := .hf }
def DMC_ECC_unrepaired : Fld := { key := 0x120004 * 8 + 0, width := 8, reset := 0x0, ty := .rc, kept := .xmain }
def DMC_ROW_CFG_row_win : Fld := { key := 0x120008 * 8 + 16, width := 16, reset := 0x18, ty := .rw, kept := .hf }
def DMC_ROW_CFG_row_thr : Fld := { key := 0x120008 * 8 + 0, width := 8, reset := 0x4, ty := .rw, kept := .hf }
def DMC_LAST_ERR_row : Fld := { key := 0x12000C * 8 + 0, width := 32, reset := 0x0, ty := .ro, kept := .hf }
def DMC_RMAP_SEL_valid : Fld := { key := 0x120010 * 8 + 31, width := 1, reset := 0x0, ty := .ro, kept := .xmain }
def DMC_RMAP_SEL_entry : Fld := { key := 0x120010 * 8 + 0, width := 9, reset := 0x0, ty := .rw, kept := .xmain }
def DMC_RMAP_DATA_row : Fld := { key := 0x120014 * 8 + 0, width := 32, reset := 0x0, ty := .ro, kept := .xmain }
def SRB_CTRL_enable : Fld := { key := 0x110000 * 8 + 31, width := 1, reset := 0x0, ty := .rw, kept := .hf }
def SRB_CTRL_snap_now : Fld := { key := 0x110000 * 8 + 30, width := 1, reset := 0x0, ty := .w1s, kept := .hf }
def SRB_CTRL_snap_s : Fld := { key := 0x110000 * 8 + 0, width := 16, reset := 0x3C, ty := .rw, kept := .hf }
def SRB_STATUS_running : Fld := { key := 0x110004 * 8 + 31, width := 1, reset := 0x0, ty := .ro, kept := .hf }
def SRB_STATUS_area_bad : Fld := { key := 0x110004 * 8 + 30, width := 1, reset := 0x0, ty := .w1c, kept := .hf }
def SRB_STATUS_snap_merged : Fld := { key := 0x110004 * 8 + 29, width := 1, reset := 0x0, ty := .w1c, kept := .hf }
def SRB_AREA_BASE_LO_base_lo : Fld := { key := 0x110008 * 8 + 30, width := 2, reset := 0x0, ty := .rwl, kept := .hf }
def SRB_AREA_BASE_HI_base_hi : Fld := { key := 0x11000C * 8 + 0, width := 16, reset := 0x10A, ty := .rwl, kept := .hf }
def SRB_AREA_CFG_ring_mib : Fld := { key := 0x110010 * 8 + 0, width := 11, reset := 0x40, ty := .rwl, kept := .hf }
def SRB_NEXT_LO_rseq : Fld := { key := 0x110018 * 8 + 0, width := 64, reset := 0x0, ty := .ro, kept := .hf }
def SRB_OLDEST_LO_rseq : Fld := { key := 0x110020 * 8 + 0, width := 64, reset := 0x0, ty := .ro, kept := .hf }
def SRB_FEED_fm : Fld := { key := 0x110028 * 8 + 26, width := 6, reset := 0x0, ty := .wo, kept := .none }
def SRB_FEED_value : Fld := { key := 0x110028 * 8 + 0, width := 24, reset := 0x0, ty := .wo, kept := .none }
def SRB_HIST_CFG_enable : Fld := { key := 0x110100 * 8 + 31, width := 1, reset := 0x0, ty := .rw, kept := .hf, stride := 0x10, count := 32 }
def SRB_HIST_CFG_mode : Fld := { key := 0x110100 * 8 + 30, width := 1, reset := 0x0, ty := .rw, kept := .hf, stride := 0x10, count := 32 }
def SRB_HIST_CFG_cumulative : Fld := { key := 0x110100 * 8 + 29, width := 1, reset := 0x0, ty := .rw, kept := .hf, stride := 0x10, count := 32 }
def SRB_HIST_CFG_filter : Fld := { key := 0x110100 * 8 + 8, width := 8, reset := 0xFF, ty := .rw, kept := .hf, stride := 0x10, count := 32 }
def SRB_HIST_CFG_measurand : Fld := { key := 0x110100 * 8 + 0, width := 8, reset := 0x0, ty := .rw, kept := .hf, stride := 0x10, count := 32 }
def SRB_HIST_BASE_LO_base : Fld := { key := 0x110104 * 8 + 0, width := 64, reset := 0x0, ty := .rw, kept := .hf, stride := 0x10, count := 32 }
def SRB_HIST_WIDTH_width : Fld := { key := 0x11010C * 8 + 0, width := 32, reset := 0x1, ty := .rw, kept := .hf, stride := 0x10, count := 32 }
def SRB_EXT_CFG_enable : Fld := { key := 0x110400 * 8 + 31, width := 1, reset := 0x0, ty := .rw, kept := .hf, stride := 0x4, count := 32 }
def SRB_EXT_CFG_cumulative : Fld := { key := 0x110400 * 8 + 30, width := 1, reset := 0x0, ty := .rw, kept := .hf, stride := 0x4, count := 32 }
def SRB_EXT_CFG_filter : Fld := { key := 0x110400 * 8 + 8, width := 8, reset := 0xFF, ty := .rw, kept := .hf, stride := 0x4, count := 32 }
def SRB_EXT_CFG_measurand : Fld := { key := 0x110400 * 8 + 0, width := 8, reset := 0x0, ty := .rw, kept := .hf, stride := 0x4, count := 32 }
def SRB_WSEL_loaded : Fld := { key := 0x110500 * 8 + 31, width := 1, reset := 0x0, ty := .ro, kept := .hf }
def SRB_WSEL_tracker : Fld := { key := 0x110500 * 8 + 5, width := 1, reset := 0x0, ty := .rw, kept := .hf }
def SRB_WSEL_idx : Fld := { key := 0x110500 * 8 + 0, width := 5, reset := 0x0, ty := .rw, kept := .hf }
def LOG_CTRL_clear : Fld := { key := 0x118000 * 8 + 31, width := 1, reset := 0x0, ty := .w1s, kept := .soft }
def LOG_CTRL_limit_en : Fld := { key := 0x118000 * 8 + 30, width := 1, reset := 0x1, ty := .rw, kept := .soft }
def LOG_CTRL_min_sev : Fld := { key := 0x118000 * 8 + 28, width := 2, reset := 0x0, ty := .rw, kept := .soft }
def LOG_CTRL_irq_sev : Fld := { key := 0x118000 * 8 + 26, width := 2, reset := 0x2, ty := .rw, kept := .soft }
def LOG_CTRL_drain_to : Fld := { key := 0x118000 * 8 + 16, width := 10, reset := 0x64, ty := .rw, kept := .soft }
def LOG_CTRL_mark : Fld := { key := 0x118000 * 8 + 0, width := 16, reset := 0x6000, ty := .rw, kept := .soft }
def LOG_STATUS_full : Fld := { key := 0x118004 * 8 + 31, width := 1, reset := 0x0, ty := .ro, kept := .soft }
def LOG_STATUS_in_reserve : Fld := { key := 0x118004 * 8 + 30, width := 1, reset := 0x0, ty := .ro, kept := .soft }
def LOG_STATUS_drain_ring : Fld := { key := 0x118004 * 8 + 29, width := 1, reset := 0x0, ty := .ro, kept := .soft }
def LOG_STATUS_head_rej : Fld := { key := 0x118004 * 8 + 28, width := 1, reset := 0x0, ty := .w1c, kept := .soft }
def LOG_STATUS_fw_bad : Fld := { key := 0x118004 * 8 + 27, width := 1, reset := 0x0, ty := .w1c, kept := .soft }
def LOG_STATUS_level : Fld := { key := 0x118004 * 8 + 0, width := 16, reset := 0x0, ty := .ro, kept := .soft }
def LOG_LIMIT_burst : Fld := { key := 0x118008 * 8 + 24, width := 8, reset := 0x40, ty := .rw, kept := .soft }
def LOG_LIMIT_rate : Fld := { key := 0x118008 * 8 + 16, width := 8, reset := 0x10, ty := .rw, kept := .soft }
def LOG_LIMIT_reserve : Fld := { key := 0x118008 * 8 + 0, width := 16, reset := 0x400, ty := .rw, kept := .soft }
def LOG_HEAD_head : Fld := { key := 0x11800C * 8 + 0, width := 32, reset := 0x1, ty := .rw, kept := .soft }
def LOG_TAIL_tail : Fld := { key := 0x118010 * 8 + 0, width := 32, reset := 0x1, ty := .ro, kept := .soft }
def LOG_LOST_lost : Fld := { key := 0x118014 * 8 + 16, width := 16, reset := 0x0, ty := .rc, kept := .soft }
def LOG_LOST_suppressed : Fld := { key := 0x118014 * 8 + 0, width := 16, reset := 0x0, ty := .rc, kept := .soft }
def LOG_LOST2_fw_refused : Fld := { key := 0x118018 * 8 + 16, width := 16, reset := 0x0, ty := .rc, kept := .soft }
def LOG_LOST2_filtered : Fld := { key := 0x118018 * 8 + 0, width := 16, reset := 0x0, ty := .rc, kept := .soft }
def LOG_APPEND_offset : Fld := { key := 0x11801C * 8 + 5, width := 21, reset := 0x0, ty := .wo, kept := .none }
def LOG_SEL_loaded : Fld := { key := 0x118020 * 8 + 31, width := 1, reset := 0x0, ty := .ro, kept := .soft }
def LOG_SEL_slot : Fld := { key := 0x118020 * 8 + 0, width := 15, reset := 0x0, ty := .rw, kept := .soft }
def MSR_REC_DATA_w : Fld := { key := 0x41100 * 8 + 0, width := 32, reset := 0x0, ty := .rw, kept := .hf, stride := 0x4, count := 64 }
def XDI_MSIX_ADDR_LO_w : Fld := { key := 0x32000 * 8 + 0, width := 32, reset := 0x0, ty := .rw, kept := .none, stride := 0x10, count := 256 }
def XDI_MSIX_ADDR_HI_w : Fld := { key := 0x32004 * 8 + 0, width := 32, reset := 0x0, ty := .rw, kept := .none, stride := 0x10, count := 256 }
def XDI_MSIX_DATA_w : Fld := { key := 0x32008 * 8 + 0, width := 32, reset := 0x0, ty := .rw, kept := .none, stride := 0x10, count := 256 }
def XDI_MSIX_VCTL_mask : Fld := { key := 0x3200C * 8 + 0, width := 1, reset := 0x1, ty := .rw, kept := .none, stride := 0x10, count := 256 }
def XDI_MSIX_PBA_pending : Fld := { key := 0x33000 * 8 + 0, width := 32, reset := 0x0, ty := .ro, kept := .none, stride := 0x4, count := 8 }
def TSU_EVT_w : Fld := { key := 0xC0170 * 8 + 0, width := 32, reset := 0x0, ty := .ro, kept := .soft, stride := 0x4, count := 8 }
def ETH_CONC_DATA_w : Fld := { key := 0xDC080 * 8 + 0, width := 32, reset := 0x0, ty := .rw, kept := .hf, stride := 0x4, count := 8 }
def ETH_WP_PAT_w : Fld := { key := 0xDD100 * 8 + 0, width := 32, reset := 0x0, ty := .rw, kept := .all, stride := 0x100, count := 4, stride2 := 4, count2 := 32 }
def ETH_WP_MASK_w : Fld := { key := 0xDD180 * 8 + 0, width := 32, reset := 0x0, ty := .rw, kept := .all, stride := 0x100, count := 4, stride2 := 4, count2 := 4 }
def SRB_WIN_w : Fld := { key := 0x110600 * 8 + 0, width := 32, reset := 0x0, ty := .ro, kept := .hf, stride := 0x4, count := 80 }
def LOG_REC_w : Fld := { key := 0x118040 * 8 + 0, width := 32, reset := 0x0, ty := .ro, kept := .soft, stride := 0x4, count := 8 }
def REEL_FQX_CTRL_flush : Fld := { key := 0x50200 * 8 + 31, width := 1, reset := 0x0, ty := .w1s, kept := .none, stride := 0x10, count := 2 }
def REEL_FQX_CTRL_wm_irq_en : Fld := { key := 0x50200 * 8 + 30, width := 1, reset := 0x0, ty := .rw, kept := .none, stride := 0x10, count := 2 }
def REEL_FQX_CTRL_cut_en : Fld := { key := 0x50200 * 8 + 29, width := 1, reset := 0x1, ty := .rw, kept := .none, stride := 0x10, count := 2 }
def REEL_FQX_CTRL_cut_thr : Fld := { key := 0x50200 * 8 + 0, width := 16, reset := 0x40, ty := .rw, kept := .none, stride := 0x10, count := 2 }
def REEL_FQX_MARK_high : Fld := { key := 0x50204 * 8 + 16, width := 16, reset := 0xFFFF, ty := .rw, kept := .none, stride := 0x10, count := 2 }
def REEL_FQX_MARK_low : Fld := { key := 0x50204 * 8 + 0, width := 16, reset := 0x0, ty := .rw, kept := .none, stride := 0x10, count := 2 }
def REEL_FQX_LEVEL_peak : Fld := { key := 0x50208 * 8 + 16, width := 16, reset := 0x0, ty := .rc, kept := .none, stride := 0x10, count := 2 }
def REEL_FQX_LEVEL_level : Fld := { key := 0x50208 * 8 + 0, width := 16, reset := 0x0, ty := .ro, kept := .none, stride := 0x10, count := 2 }
def REEL_FQX_STAT_lost : Fld := { key := 0x5020C * 8 + 16, width := 16, reset := 0x0, ty := .rc, kept := .none, stride := 0x10, count := 2 }
def REEL_FQX_STAT_flushed_trunc : Fld := { key := 0x5020C * 8 + 3, width := 1, reset := 0x0, ty := .w1c, kept := .none, stride := 0x10, count := 2 }
def REEL_FQX_STAT_abort_seen : Fld := { key := 0x5020C * 8 + 2, width := 1, reset := 0x0, ty := .w1c, kept := .none, stride := 0x10, count := 2 }
def REEL_FQX_STAT_wm_low_hit : Fld := { key := 0x5020C * 8 + 1, width := 1, reset := 0x0, ty := .w1c, kept := .none, stride := 0x10, count := 2 }
def REEL_FQX_STAT_wm_high_hit : Fld := { key := 0x5020C * 8 + 0, width := 1, reset := 0x0, ty := .w1c, kept := .none, stride := 0x10, count := 2 }
def REEL_FQ_CTRL_flush : Fld := { key := 0x51040 * 8 + 31, width := 1, reset := 0x0, ty := .w1s, kept := .none, stride := 0x100, count := 16 }
def REEL_FQ_CTRL_wm_irq_en : Fld := { key := 0x51040 * 8 + 30, width := 1, reset := 0x0, ty := .rw, kept := .none, stride := 0x100, count := 16 }
def REEL_FQ_CTRL_cut_en : Fld := { key := 0x51040 * 8 + 29, width := 1, reset := 0x1, ty := .rw, kept := .none, stride := 0x100, count := 16 }
def REEL_FQ_CTRL_cut_thr : Fld := { key := 0x51040 * 8 + 0, width := 16, reset := 0x40, ty := .rw, kept := .none, stride := 0x100, count := 16 }
def REEL_FQ_MARK_high : Fld := { key := 0x51044 * 8 + 16, width := 16, reset := 0xFFFF, ty := .rw, kept := .none, stride := 0x100, count := 16 }
def REEL_FQ_MARK_low : Fld := { key := 0x51044 * 8 + 0, width := 16, reset := 0x0, ty := .rw, kept := .none, stride := 0x100, count := 16 }
def REEL_FQ_LEVEL_peak : Fld := { key := 0x51048 * 8 + 16, width := 16, reset := 0x0, ty := .rc, kept := .none, stride := 0x100, count := 16 }
def REEL_FQ_LEVEL_level : Fld := { key := 0x51048 * 8 + 0, width := 16, reset := 0x0, ty := .ro, kept := .none, stride := 0x100, count := 16 }
def REEL_FQ_STAT_lost : Fld := { key := 0x5104C * 8 + 16, width := 16, reset := 0x0, ty := .rc, kept := .none, stride := 0x100, count := 16 }
def REEL_FQ_STAT_flushed_trunc : Fld := { key := 0x5104C * 8 + 3, width := 1, reset := 0x0, ty := .w1c, kept := .none, stride := 0x100, count := 16 }
def REEL_FQ_STAT_abort_seen : Fld := { key := 0x5104C * 8 + 2, width := 1, reset := 0x0, ty := .w1c, kept := .none, stride := 0x100, count := 16 }
def REEL_FQ_STAT_wm_low_hit : Fld := { key := 0x5104C * 8 + 1, width := 1, reset := 0x0, ty := .w1c, kept := .none, stride := 0x100, count := 16 }
def REEL_FQ_STAT_wm_high_hit : Fld := { key := 0x5104C * 8 + 0, width := 1, reset := 0x0, ty := .w1c, kept := .none, stride := 0x100, count := 16 }
def WLZ_FQ_CTRL_flush : Fld := { key := 0x700A0 * 8 + 31, width := 1, reset := 0x0, ty := .w1s, kept := .none, stride := 0x10, count := 2 }
def WLZ_FQ_CTRL_wm_irq_en : Fld := { key := 0x700A0 * 8 + 30, width := 1, reset := 0x0, ty := .rw, kept := .none, stride := 0x10, count := 2 }
def WLZ_FQ_CTRL_cut_en : Fld := { key := 0x700A0 * 8 + 29, width := 1, reset := 0x1, ty := .rw, kept := .none, stride := 0x10, count := 2 }
def WLZ_FQ_CTRL_cut_thr : Fld := { key := 0x700A0 * 8 + 0, width := 16, reset := 0x40, ty := .rw, kept := .none, stride := 0x10, count := 2 }
def WLZ_FQ_MARK_high : Fld := { key := 0x700A4 * 8 + 16, width := 16, reset := 0xFFFF, ty := .rw, kept := .none, stride := 0x10, count := 2 }
def WLZ_FQ_MARK_low : Fld := { key := 0x700A4 * 8 + 0, width := 16, reset := 0x0, ty := .rw, kept := .none, stride := 0x10, count := 2 }
def WLZ_FQ_LEVEL_peak : Fld := { key := 0x700A8 * 8 + 16, width := 16, reset := 0x0, ty := .rc, kept := .none, stride := 0x10, count := 2 }
def WLZ_FQ_LEVEL_level : Fld := { key := 0x700A8 * 8 + 0, width := 16, reset := 0x0, ty := .ro, kept := .none, stride := 0x10, count := 2 }
def WLZ_FQ_STAT_lost : Fld := { key := 0x700AC * 8 + 16, width := 16, reset := 0x0, ty := .rc, kept := .none, stride := 0x10, count := 2 }
def WLZ_FQ_STAT_flushed_trunc : Fld := { key := 0x700AC * 8 + 3, width := 1, reset := 0x0, ty := .w1c, kept := .none, stride := 0x10, count := 2 }
def WLZ_FQ_STAT_abort_seen : Fld := { key := 0x700AC * 8 + 2, width := 1, reset := 0x0, ty := .w1c, kept := .none, stride := 0x10, count := 2 }
def WLZ_FQ_STAT_wm_low_hit : Fld := { key := 0x700AC * 8 + 1, width := 1, reset := 0x0, ty := .w1c, kept := .none, stride := 0x10, count := 2 }
def WLZ_FQ_STAT_wm_high_hit : Fld := { key := 0x700AC * 8 + 0, width := 1, reset := 0x0, ty := .w1c, kept := .none, stride := 0x10, count := 2 }
def PLK_FQ0_CTRL_flush : Fld := { key := 0xA0040 * 8 + 31, width := 1, reset := 0x0, ty := .w1s, kept := .none, stride := 0x1000, count := 16 }
def PLK_FQ0_CTRL_wm_irq_en : Fld := { key := 0xA0040 * 8 + 30, width := 1, reset := 0x0, ty := .rw, kept := .none, stride := 0x1000, count := 16 }
def PLK_FQ0_CTRL_cut_en : Fld := { key := 0xA0040 * 8 + 29, width := 1, reset := 0x1, ty := .rw, kept := .none, stride := 0x1000, count := 16 }
def PLK_FQ0_CTRL_cut_thr : Fld := { key := 0xA0040 * 8 + 0, width := 16, reset := 0x40, ty := .rw, kept := .none, stride := 0x1000, count := 16 }
def PLK_FQ0_MARK_high : Fld := { key := 0xA0044 * 8 + 16, width := 16, reset := 0xFFFF, ty := .rw, kept := .none, stride := 0x1000, count := 16 }
def PLK_FQ0_MARK_low : Fld := { key := 0xA0044 * 8 + 0, width := 16, reset := 0x0, ty := .rw, kept := .none, stride := 0x1000, count := 16 }
def PLK_FQ0_LEVEL_peak : Fld := { key := 0xA0048 * 8 + 16, width := 16, reset := 0x0, ty := .rc, kept := .none, stride := 0x1000, count := 16 }
def PLK_FQ0_LEVEL_level : Fld := { key := 0xA0048 * 8 + 0, width := 16, reset := 0x0, ty := .ro, kept := .none, stride := 0x1000, count := 16 }
def PLK_FQ0_STAT_lost : Fld := { key := 0xA004C * 8 + 16, width := 16, reset := 0x0, ty := .rc, kept := .none, stride := 0x1000, count := 16 }
def PLK_FQ0_STAT_flushed_trunc : Fld := { key := 0xA004C * 8 + 3, width := 1, reset := 0x0, ty := .w1c, kept := .none, stride := 0x1000, count := 16 }
def PLK_FQ0_STAT_abort_seen : Fld := { key := 0xA004C * 8 + 2, width := 1, reset := 0x0, ty := .w1c, kept := .none, stride := 0x1000, count := 16 }
def PLK_FQ0_STAT_wm_low_hit : Fld := { key := 0xA004C * 8 + 1, width := 1, reset := 0x0, ty := .w1c, kept := .none, stride := 0x1000, count := 16 }
def PLK_FQ0_STAT_wm_high_hit : Fld := { key := 0xA004C * 8 + 0, width := 1, reset := 0x0, ty := .w1c, kept := .none, stride := 0x1000, count := 16 }
def MZK_FQ0_CTRL_flush : Fld := { key := 0xB0060 * 8 + 31, width := 1, reset := 0x0, ty := .w1s, kept := .none, stride := 0x1000, count := 12 }
def MZK_FQ0_CTRL_wm_irq_en : Fld := { key := 0xB0060 * 8 + 30, width := 1, reset := 0x0, ty := .rw, kept := .none, stride := 0x1000, count := 12 }
def MZK_FQ0_CTRL_cut_en : Fld := { key := 0xB0060 * 8 + 29, width := 1, reset := 0x1, ty := .rw, kept := .none, stride := 0x1000, count := 12 }
def MZK_FQ0_CTRL_cut_thr : Fld := { key := 0xB0060 * 8 + 0, width := 16, reset := 0x40, ty := .rw, kept := .none, stride := 0x1000, count := 12 }
def MZK_FQ0_MARK_high : Fld := { key := 0xB0064 * 8 + 16, width := 16, reset := 0xFFFF, ty := .rw, kept := .none, stride := 0x1000, count := 12 }
def MZK_FQ0_MARK_low : Fld := { key := 0xB0064 * 8 + 0, width := 16, reset := 0x0, ty := .rw, kept := .none, stride := 0x1000, count := 12 }
def MZK_FQ0_LEVEL_peak : Fld := { key := 0xB0068 * 8 + 16, width := 16, reset := 0x0, ty := .rc, kept := .none, stride := 0x1000, count := 12 }
def MZK_FQ0_LEVEL_level : Fld := { key := 0xB0068 * 8 + 0, width := 16, reset := 0x0, ty := .ro, kept := .none, stride := 0x1000, count := 12 }
def MZK_FQ0_STAT_lost : Fld := { key := 0xB006C * 8 + 16, width := 16, reset := 0x0, ty := .rc, kept := .none, stride := 0x1000, count := 12 }
def MZK_FQ0_STAT_flushed_trunc : Fld := { key := 0xB006C * 8 + 3, width := 1, reset := 0x0, ty := .w1c, kept := .none, stride := 0x1000, count := 12 }
def MZK_FQ0_STAT_abort_seen : Fld := { key := 0xB006C * 8 + 2, width := 1, reset := 0x0, ty := .w1c, kept := .none, stride := 0x1000, count := 12 }
def MZK_FQ0_STAT_wm_low_hit : Fld := { key := 0xB006C * 8 + 1, width := 1, reset := 0x0, ty := .w1c, kept := .none, stride := 0x1000, count := 12 }
def MZK_FQ0_STAT_wm_high_hit : Fld := { key := 0xB006C * 8 + 0, width := 1, reset := 0x0, ty := .w1c, kept := .none, stride := 0x1000, count := 12 }
def TSU_FQ_CTRL_flush : Fld := { key := 0xC0120 * 8 + 31, width := 1, reset := 0x0, ty := .w1s, kept := .none, stride := 0x10, count := 2 }
def TSU_FQ_CTRL_wm_irq_en : Fld := { key := 0xC0120 * 8 + 30, width := 1, reset := 0x0, ty := .rw, kept := .none, stride := 0x10, count := 2 }
def TSU_FQ_CTRL_cut_en : Fld := { key := 0xC0120 * 8 + 29, width := 1, reset := 0x1, ty := .rw, kept := .none, stride := 0x10, count := 2 }
def TSU_FQ_CTRL_cut_thr : Fld := { key := 0xC0120 * 8 + 0, width := 16, reset := 0x40, ty := .rw, kept := .none, stride := 0x10, count := 2 }
def TSU_FQ_MARK_high : Fld := { key := 0xC0124 * 8 + 16, width := 16, reset := 0xFFFF, ty := .rw, kept := .none, stride := 0x10, count := 2 }
def TSU_FQ_MARK_low : Fld := { key := 0xC0124 * 8 + 0, width := 16, reset := 0x0, ty := .rw, kept := .none, stride := 0x10, count := 2 }
def TSU_FQ_LEVEL_peak : Fld := { key := 0xC0128 * 8 + 16, width := 16, reset := 0x0, ty := .rc, kept := .none, stride := 0x10, count := 2 }
def TSU_FQ_LEVEL_level : Fld := { key := 0xC0128 * 8 + 0, width := 16, reset := 0x0, ty := .ro, kept := .none, stride := 0x10, count := 2 }
def TSU_FQ_STAT_lost : Fld := { key := 0xC012C * 8 + 16, width := 16, reset := 0x0, ty := .rc, kept := .none, stride := 0x10, count := 2 }
def TSU_FQ_STAT_flushed_trunc : Fld := { key := 0xC012C * 8 + 3, width := 1, reset := 0x0, ty := .w1c, kept := .none, stride := 0x10, count := 2 }
def TSU_FQ_STAT_abort_seen : Fld := { key := 0xC012C * 8 + 2, width := 1, reset := 0x0, ty := .w1c, kept := .none, stride := 0x10, count := 2 }
def TSU_FQ_STAT_wm_low_hit : Fld := { key := 0xC012C * 8 + 1, width := 1, reset := 0x0, ty := .w1c, kept := .none, stride := 0x10, count := 2 }
def TSU_FQ_STAT_wm_high_hit : Fld := { key := 0xC012C * 8 + 0, width := 1, reset := 0x0, ty := .w1c, kept := .none, stride := 0x10, count := 2 }
def ETH_FQ0_CTRL_flush : Fld := { key := 0xD0040 * 8 + 31, width := 1, reset := 0x0, ty := .w1s, kept := .none, stride := 0x1000, count := 12 }
def ETH_FQ0_CTRL_wm_irq_en : Fld := { key := 0xD0040 * 8 + 30, width := 1, reset := 0x0, ty := .rw, kept := .none, stride := 0x1000, count := 12 }
def ETH_FQ0_CTRL_cut_en : Fld := { key := 0xD0040 * 8 + 29, width := 1, reset := 0x1, ty := .rw, kept := .none, stride := 0x1000, count := 12 }
def ETH_FQ0_CTRL_cut_thr : Fld := { key := 0xD0040 * 8 + 0, width := 16, reset := 0x40, ty := .rw, kept := .none, stride := 0x1000, count := 12 }
def ETH_FQ0_MARK_high : Fld := { key := 0xD0044 * 8 + 16, width := 16, reset := 0xFFFF, ty := .rw, kept := .none, stride := 0x1000, count := 12 }
def ETH_FQ0_MARK_low : Fld := { key := 0xD0044 * 8 + 0, width := 16, reset := 0x0, ty := .rw, kept := .none, stride := 0x1000, count := 12 }
def ETH_FQ0_LEVEL_peak : Fld := { key := 0xD0048 * 8 + 16, width := 16, reset := 0x0, ty := .rc, kept := .none, stride := 0x1000, count := 12 }
def ETH_FQ0_LEVEL_level : Fld := { key := 0xD0048 * 8 + 0, width := 16, reset := 0x0, ty := .ro, kept := .none, stride := 0x1000, count := 12 }
def ETH_FQ0_STAT_lost : Fld := { key := 0xD004C * 8 + 16, width := 16, reset := 0x0, ty := .rc, kept := .none, stride := 0x1000, count := 12 }
def ETH_FQ0_STAT_flushed_trunc : Fld := { key := 0xD004C * 8 + 3, width := 1, reset := 0x0, ty := .w1c, kept := .none, stride := 0x1000, count := 12 }
def ETH_FQ0_STAT_abort_seen : Fld := { key := 0xD004C * 8 + 2, width := 1, reset := 0x0, ty := .w1c, kept := .none, stride := 0x1000, count := 12 }
def ETH_FQ0_STAT_wm_low_hit : Fld := { key := 0xD004C * 8 + 1, width := 1, reset := 0x0, ty := .w1c, kept := .none, stride := 0x1000, count := 12 }
def ETH_FQ0_STAT_wm_high_hit : Fld := { key := 0xD004C * 8 + 0, width := 1, reset := 0x0, ty := .w1c, kept := .none, stride := 0x1000, count := 12 }
def ETH_FQ1_CTRL_flush : Fld := { key := 0xD0050 * 8 + 31, width := 1, reset := 0x0, ty := .w1s, kept := .none, stride := 0x1000, count := 12 }
def ETH_FQ1_CTRL_wm_irq_en : Fld := { key := 0xD0050 * 8 + 30, width := 1, reset := 0x0, ty := .rw, kept := .none, stride := 0x1000, count := 12 }
def ETH_FQ1_CTRL_cut_en : Fld := { key := 0xD0050 * 8 + 29, width := 1, reset := 0x1, ty := .rw, kept := .none, stride := 0x1000, count := 12 }
def ETH_FQ1_CTRL_cut_thr : Fld := { key := 0xD0050 * 8 + 0, width := 16, reset := 0x40, ty := .rw, kept := .none, stride := 0x1000, count := 12 }
def ETH_FQ1_MARK_high : Fld := { key := 0xD0054 * 8 + 16, width := 16, reset := 0xFFFF, ty := .rw, kept := .none, stride := 0x1000, count := 12 }
def ETH_FQ1_MARK_low : Fld := { key := 0xD0054 * 8 + 0, width := 16, reset := 0x0, ty := .rw, kept := .none, stride := 0x1000, count := 12 }
def ETH_FQ1_LEVEL_peak : Fld := { key := 0xD0058 * 8 + 16, width := 16, reset := 0x0, ty := .rc, kept := .none, stride := 0x1000, count := 12 }
def ETH_FQ1_LEVEL_level : Fld := { key := 0xD0058 * 8 + 0, width := 16, reset := 0x0, ty := .ro, kept := .none, stride := 0x1000, count := 12 }
def ETH_FQ1_STAT_lost : Fld := { key := 0xD005C * 8 + 16, width := 16, reset := 0x0, ty := .rc, kept := .none, stride := 0x1000, count := 12 }
def ETH_FQ1_STAT_flushed_trunc : Fld := { key := 0xD005C * 8 + 3, width := 1, reset := 0x0, ty := .w1c, kept := .none, stride := 0x1000, count := 12 }
def ETH_FQ1_STAT_abort_seen : Fld := { key := 0xD005C * 8 + 2, width := 1, reset := 0x0, ty := .w1c, kept := .none, stride := 0x1000, count := 12 }
def ETH_FQ1_STAT_wm_low_hit : Fld := { key := 0xD005C * 8 + 1, width := 1, reset := 0x0, ty := .w1c, kept := .none, stride := 0x1000, count := 12 }
def ETH_FQ1_STAT_wm_high_hit : Fld := { key := 0xD005C * 8 + 0, width := 1, reset := 0x0, ty := .w1c, kept := .none, stride := 0x1000, count := 12 }
def SRB_FQ0_CTRL_flush : Fld := { key := 0x110030 * 8 + 31, width := 1, reset := 0x0, ty := .w1s, kept := .none }
def SRB_FQ0_CTRL_wm_irq_en : Fld := { key := 0x110030 * 8 + 30, width := 1, reset := 0x0, ty := .rw, kept := .none }
def SRB_FQ0_CTRL_cut_en : Fld := { key := 0x110030 * 8 + 29, width := 1, reset := 0x1, ty := .rw, kept := .none }
def SRB_FQ0_CTRL_cut_thr : Fld := { key := 0x110030 * 8 + 0, width := 16, reset := 0x40, ty := .rw, kept := .none }
def SRB_FQ0_MARK_high : Fld := { key := 0x110034 * 8 + 16, width := 16, reset := 0xFFFF, ty := .rw, kept := .none }
def SRB_FQ0_MARK_low : Fld := { key := 0x110034 * 8 + 0, width := 16, reset := 0x0, ty := .rw, kept := .none }
def SRB_FQ0_LEVEL_peak : Fld := { key := 0x110038 * 8 + 16, width := 16, reset := 0x0, ty := .rc, kept := .none }
def SRB_FQ0_LEVEL_level : Fld := { key := 0x110038 * 8 + 0, width := 16, reset := 0x0, ty := .ro, kept := .none }
def SRB_FQ0_STAT_lost : Fld := { key := 0x11003C * 8 + 16, width := 16, reset := 0x0, ty := .rc, kept := .none }
def SRB_FQ0_STAT_flushed_trunc : Fld := { key := 0x11003C * 8 + 3, width := 1, reset := 0x0, ty := .w1c, kept := .none }
def SRB_FQ0_STAT_abort_seen : Fld := { key := 0x11003C * 8 + 2, width := 1, reset := 0x0, ty := .w1c, kept := .none }
def SRB_FQ0_STAT_wm_low_hit : Fld := { key := 0x11003C * 8 + 1, width := 1, reset := 0x0, ty := .w1c, kept := .none }
def SRB_FQ0_STAT_wm_high_hit : Fld := { key := 0x11003C * 8 + 0, width := 1, reset := 0x0, ty := .w1c, kept := .none }

end F

/-- The fields of the SYS window, part 1 of 1. -/
def fldsSYS0 : List Fld :=
  [F.SYS_ID_part, F.SYS_ID_stepping, F.SYS_ID_pkg, F.SYS_ID_fuse_rev,
   F.SYS_ERR_STATUS_amo_reg, F.SYS_ERR_STATUS_rom_write, F.SYS_ERR_STATUS_hall_ue, F.SYS_ERR_STATUS_hall_ce,
   F.SYS_ERR_STATUS_host_absent, F.SYS_ERR_STATUS_epl_unreach, F.SYS_ERR_STATUS_dom_off, F.SYS_ERR_STATUS_unmapped,
   F.SYS_ERR_STATUS_bad_access, F.SYS_ERR_SRC_valid, F.SYS_ERR_SRC_master, F.SYS_ERR_SRC_kind,
   F.SYS_ERR_SRC_write, F.SYS_ERR_ADDR_LO_addr_lo, F.SYS_ERR_ADDR_HI_addr_hi, F.SYS_HALL_CE_COUNT_count,
   F.SYS_APER_BASE_LO_base_lo, F.SYS_APER_BASE_HI_base_hi, F.SYS_MNT_WIN_LO_base_lo, F.SYS_MNT_WIN_HI_base_hi]

/-- The fields of the SYS window (R31). -/
def fldsSYS : List Fld := fldsSYS0

/-- The fields of the PMU window, part 1 of 1. -/
def fldsPMU0 : List Fld :=
  [F.PMU_CTRL_base, F.PMU_CTRL_dram_keep, F.PMU_CTRL_storm_force, F.PMU_CTRL_off_mask,
   F.PMU_STATUS_mode, F.PMU_STATUS_prev_mode, F.PMU_STATUS_isl_cond, F.PMU_STATUS_storm_req,
   F.PMU_STATUS_throttled, F.PMU_STATUS_therm_throttle, F.PMU_STATUS_core_warn, F.PMU_STATUS_pwr_warn,
   F.PMU_DOM_dom_rej, F.PMU_DOM_rst, F.PMU_DOM_on, F.PMU_RST_soft,
   F.PMU_RST_CAUSE_kind, F.PMU_RST_CAUSE_wake, F.PMU_RST_CAUSE_soft_src, F.PMU_RST_CAUSE_thermal_stop,
   F.PMU_RST_CAUSE_supply_reset, F.PMU_RST_CAUSE_count, F.PMU_SUPPLY_dips, F.PMU_SUPPLY_warn_seen,
   F.PMU_SUPPLY_pwr_warn_seen, F.PMU_SUPPLY_vcore_mv, F.PMU_THERM_throttle_c, F.PMU_THERM_stop_c,
   F.PMU_THERM_restart_c, F.PMU_THERM_tmax, F.PMU_TEMP_sensor, F.PMU_TEMP_tj,
   F.PMU_STORM_budget, F.PMU_STORM_max_s, F.PMU_STORM_refill, F.PMU_STORM_storm_min_s,
   F.PMU_WDT_enable, F.PMU_WDT_pre_warned, F.PMU_WDT_wdt, F.PMU_WDT_KICK_key,
   F.PMU_WAKE_rtc_en, F.PMU_WAKE_perst_en, F.PMU_WAKE_AT_at, F.PMU_ISL_isl_ms,
   F.PMU_CORE_retired, F.PMU_CORE_transients, F.PMU_CORE_CFG_window, F.PMU_CORE_CFG_retire_thr,
   F.PMU_CMD_DESC_LO_desc_lo, F.PMU_CMD_DESC_HI_desc_hi, F.PMU_CMD_CTRL_go, F.PMU_CMD_CTRL_done,
   F.PMU_CMD_CTRL_cmd_rej]

/-- The fields of the PMU window (R31). -/
def fldsPMU : List Fld := fldsPMU0

/-- The fields of the ICU window, part 1 of 1. -/
def fldsICU0 : List Fld :=
  [F.ICU_STRAY_DONE_host, F.ICU_STRAY_DONE_last_src, F.ICU_STRAY_DONE_count, F.ICU_SRC_CMD_op,
   F.ICU_SRC_CMD_source, F.ICU_HDONE_vector, F.ICU_WITHDRAWN_count, F.ICU_ENABLE_enable,
   F.ICU_MASK_mask, F.ICU_PEND_pending, F.ICU_INPUT_input, F.ICU_SRC_CFG_kind,
   F.ICU_SRC_CFG_fast, F.ICU_SRC_CFG_target, F.ICU_SRC_CFG_vector, F.ICU_T_MODE_class_mode,
   F.ICU_T_CLAIM_valid, F.ICU_T_CLAIM_fast, F.ICU_T_CLAIM_source, F.ICU_T_DONE_source,
   F.ICU_T_MOD_time, F.ICU_HV_MOD_time, F.ICU_T_MOD_count, F.ICU_HV_MOD_count,
   F.ICU_T_STAT_norm_act, F.ICU_T_STAT_fast_act, F.ICU_T_STAT_wfi, F.ICU_T_STAT_mode_rej,
   F.ICU_T_STAT_fast_src, F.ICU_T_STAT_norm_src, F.ICU_HV_STAT_wait_ack, F.ICU_HV_STAT_idle_hint,
   F.ICU_HV_STAT_window, F.ICU_HV_STAT_held]

/-- The fields of the ICU window (R31). -/
def fldsICU : List Fld := fldsICU0

/-- The fields of the XDI window, part 1 of 1. -/
def fldsXDI0 : List Fld :=
  [F.XDI_DB_SQ_tail, F.XDI_DB_CQ_idle, F.XDI_DB_CQ_head, F.XDI_HOST_VER_version,
   F.XDI_NEG_VER_valid, F.XDI_NEG_VER_version, F.XDI_STATUS_host_present, F.XDI_STATUS_link_up,
   F.XDI_STATUS_bme, F.XDI_STATUS_d3hot, F.XDI_STATUS_absent_reason, F.XDI_STATUS_attach_count,
   F.XDI_ERR_commit_rej, F.XDI_ERR_exp_ctrl_rej, F.XDI_ERR_ver_locked, F.XDI_ERR_outb_overflow,
   F.XDI_OUTB_BASE_LO_base_lo, F.XDI_OUTB_BASE_HI_base_hi, F.XDI_DB_ERR_bad_value, F.XDI_DB_ERR_disabled,
   F.XDI_EXP_CTRL_started, F.XDI_EXP_CTRL_count, F.XDI_EXP_COMMIT_LO_commit, F.XDI_EXP_LIVE_LO_live,
   F.XDI_EXP_NEXT_LO_next, F.XDI_HMB_STAT_active, F.XDI_HMB_STAT_units, F.XDI_RP_SQ_BASE_LO_base_lo,
   F.XDI_RP_CQ_BASE_LO_base_lo, F.XDI_RP_SQ_BASE_HI_base_hi, F.XDI_RP_CQ_BASE_HI_base_hi, F.XDI_RP_CFG_enable,
   F.XDI_RP_CFG_batch, F.XDI_RP_CFG_type, F.XDI_RP_CFG_vector, F.XDI_RP_CFG_sq_size,
   F.XDI_RP_CFG_cq_size, F.XDI_RP_CFG_batch_to, F.XDI_RP_STAT_active, F.XDI_RP_STAT_paused,
   F.XDI_RP_STAT_bad_cfg, F.XDI_RP_STAT_host_fault, F.XDI_RP_STAT_cq_stall, F.XDI_RP_STAT_bad_cq_head,
   F.XDI_RP_STAT_bad_sq_tail, F.XDI_RP_SQ_HEAD_head, F.XDI_RP_CQ_TAIL_phase, F.XDI_RP_CQ_TAIL_tail,
   F.XDI_MSIX_ADDR_LO_w, F.XDI_MSIX_ADDR_HI_w, F.XDI_MSIX_DATA_w, F.XDI_MSIX_VCTL_mask,
   F.XDI_MSIX_PBA_pending]

/-- The fields of the XDI window (R31). -/
def fldsXDI : List Fld := fldsXDI0

/-- The fields of the MSR window, part 1 of 1. -/
def fldsMSR0 : List Fld :=
  [F.MSR_CTRL_enable, F.MSR_CTRL_note_unknown, F.MSR_CTRL_sweep_en, F.MSR_CTRL_dwn_cap,
   F.MSR_STATUS_ready, F.MSR_STATUS_rebuilding, F.MSR_STATUS_rebuild_fail, F.MSR_STATUS_ckpt_busy,
   F.MSR_STATUS_comm_count, F.MSR_BASE_LO_base_lo, F.MSR_BASE_HI_base_hi, F.MSR_IDT_BASE_LO_idt_lo,
   F.MSR_IDT_BASE_HI_idt_hi, F.MSR_TIMERS_commission_to, F.MSR_TIMERS_adrift_to, F.MSR_LIMITS_auth_limit,
   F.MSR_LIMITS_unk_limit, F.MSR_CKPT_ckpt_now, F.MSR_CKPT_period, F.MSR_CKPT_SEQ_LO_ckpt_seq,
   F.MSR_ERR_unk_drop, F.MSR_ERR_area_bad, F.MSR_ERR_ckpt_fail, F.MSR_ERR_idt_full,
   F.MSR_ERR_corrupt_seen, F.MSR_ERR_cmd_rej, F.MSR_ERR_pin_rej, F.MSR_CORRUPT_count,
   F.MSR_CORRUPT_last_index, F.MSR_CACHE_HIT_hits, F.MSR_CACHE_MISS_misses, F.MSR_CACHE_CTRL_clean_all,
   F.MSR_CACHE_CTRL_pinned, F.MSR_CMD_DESC_LO_desc_lo, F.MSR_CMD_DESC_HI_desc_hi, F.MSR_CMD_CTRL_go,
   F.MSR_CMD_CTRL_done, F.MSR_POP_count, F.MSR_ATTCNT_count, F.MSR_REC_SEL_loaded,
   F.MSR_REC_SEL_index, F.MSR_REC_CTRL_commit, F.MSR_REC_CTRL_stale, F.MSR_REC_CTRL_force,
   F.MSR_REC_DATA_w]

/-- The fields of the MSR window (R31). -/
def fldsMSR : List Fld := fldsMSR0

/-- The fields of the REEL window, part 1 of 2. -/
def fldsREEL0 : List Fld :=
  [F.REEL_CTRL_enable, F.REEL_CTRL_storm_auto, F.REEL_CTRL_storm_quiet, F.REEL_CTRL_storm_hold,
   F.REEL_CTRL_run_lanes, F.REEL_STATUS_running, F.REEL_STATUS_storm, F.REEL_STATUS_throttled,
   F.REEL_STATUS_storm_req, F.REEL_STATUS_recovering, F.REEL_STATUS_stg_full, F.REEL_STATUS_res_wait,
   F.REEL_STATUS_area_bad, F.REEL_STATUS_active_count, F.REEL_LANES_retired, F.REEL_LANES_active,
   F.REEL_STORM_storm_off, F.REEL_STORM_storm_on, F.REEL_KEY_gen_ahead, F.REEL_ERR_CFG_window,
   F.REEL_ERR_CFG_retire_thr, F.REEL_EXC_ACTION_discard, F.REEL_RESTORE_CNT_count, F.REEL_SEQ_NEXT_LO_seq_next,
   F.REEL_SEQ_RES_LO_seq_res, F.REEL_STG_PUB_LO_stg_pub, F.REEL_WLZ_ACK_LO_wlz_ack, F.REEL_STG_BASE_LO_base_lo,
   F.REEL_STG_BASE_HI_base_hi, F.REEL_STG_SIZE_size_gib, F.REEL_COMMIT_STAT_refused, F.REEL_COMMIT_STAT_stall_ms,
   F.REEL_STEER_lane0, F.REEL_STEER_lane1, F.REEL_STEER_lane2, F.REEL_STEER_lane3,
   F.REEL_STEER_lane4, F.REEL_STEER_lane5, F.REEL_STEER_lane6, F.REEL_STEER_lane7,
   F.REEL_EXQ_BASE_LO_base_lo, F.REEL_EXQ_BASE_HI_base_hi, F.REEL_EXQ_CFG_enable, F.REEL_EXQ_CFG_size,
   F.REEL_EXQ_HEAD_head, F.REEL_EXQ_TAIL_tail, F.REEL_LANE_CTRL_kat_now, F.REEL_LANE_CTRL_exq,
   F.REEL_LANE_STAT_active, F.REEL_LANE_STAT_retired, F.REEL_LANE_STAT_testing, F.REEL_LANE_STAT_retire_cause,
   F.REEL_LANE_STAT_transients, F.REEL_LANE_OK_committed, F.REEL_LANE_AUTH_auth_fail, F.REEL_LANE_DUP_duplicate,
   F.REEL_LANE_OLD_old, F.REEL_LANE_EXC_posted, F.REEL_LANE_REFUSED_refused, F.REEL_LANE_ERR_aborted]

/-- The fields of the REEL window, part 2 of 2. -/
def fldsREEL1 : List Fld :=
  [F.REEL_LANE_ERR_transient_total, F.REEL_FQX_CTRL_flush, F.REEL_FQX_CTRL_wm_irq_en, F.REEL_FQX_CTRL_cut_en,
   F.REEL_FQX_CTRL_cut_thr, F.REEL_FQX_MARK_high, F.REEL_FQX_MARK_low, F.REEL_FQX_LEVEL_peak,
   F.REEL_FQX_LEVEL_level, F.REEL_FQX_STAT_lost, F.REEL_FQX_STAT_flushed_trunc, F.REEL_FQX_STAT_abort_seen,
   F.REEL_FQX_STAT_wm_low_hit, F.REEL_FQX_STAT_wm_high_hit, F.REEL_FQ_CTRL_flush, F.REEL_FQ_CTRL_wm_irq_en,
   F.REEL_FQ_CTRL_cut_en, F.REEL_FQ_CTRL_cut_thr, F.REEL_FQ_MARK_high, F.REEL_FQ_MARK_low,
   F.REEL_FQ_LEVEL_peak, F.REEL_FQ_LEVEL_level, F.REEL_FQ_STAT_lost, F.REEL_FQ_STAT_flushed_trunc,
   F.REEL_FQ_STAT_abort_seen, F.REEL_FQ_STAT_wm_low_hit, F.REEL_FQ_STAT_wm_high_hit]

/-- The fields of the REEL window (R31). -/
def fldsREEL : List Fld := fldsREEL0 ++ fldsREEL1

/-- The fields of the VAL window, part 1 of 1. -/
def fldsVAL0 : List Fld :=
  [F.VAL_CTRL_enable, F.VAL_CTRL_bank, F.VAL_CTRL_quar_mode, F.VAL_CTRL_budget_act,
   F.VAL_CTRL_fault_act, F.VAL_CTRL_quar_thr, F.VAL_STATUS_ready, F.VAL_STATUS_swapping,
   F.VAL_STATUS_unit_conflict, F.VAL_STATUS_old_chains, F.VAL_SETSEL0_set0, F.VAL_SETSEL0_set1,
   F.VAL_SETSEL0_set2, F.VAL_SETSEL0_set3, F.VAL_SETSEL0_set4, F.VAL_SETSEL0_set5,
   F.VAL_SETSEL0_set6, F.VAL_SETSEL0_set7, F.VAL_SETSEL1_set0, F.VAL_SETSEL1_set1,
   F.VAL_SETSEL1_set2, F.VAL_SETSEL1_set3, F.VAL_SETSEL1_set4, F.VAL_SETSEL1_set5,
   F.VAL_SETSEL1_set6, F.VAL_SETSEL1_set7, F.VAL_PAIR_unit, F.VAL_DEDUP_window_ms,
   F.VAL_ERR_budget, F.VAL_ERR_fault, F.VAL_LAST_FAULT_lane, F.VAL_LAST_FAULT_pc,
   F.VAL_LAST_FAULT_op, F.VAL_CMD_DESC_LO_desc_lo, F.VAL_CMD_DESC_HI_desc_hi, F.VAL_CMD_CTRL_go,
   F.VAL_CMD_CTRL_done, F.VAL_CMD_CTRL_cmd_rej, F.VAL_VERDICT_frames, F.VAL_PATHCMT_commits,
   F.VAL_PATHDUP_duplicates, F.VAL_CNT_count]

/-- The fields of the VAL window (R31). -/
def fldsVAL : List Fld := fldsVAL0

/-- The fields of the WLZ window, part 1 of 2. -/
def fldsWLZ0 : List Fld :=
  [F.WLZ_CTRL_enable, F.WLZ_CTRL_infer_auto, F.WLZ_CTRL_score_auto, F.WLZ_CTRL_mains,
   F.WLZ_CTRL_auto_rebuild, F.WLZ_CTRL_base_s, F.WLZ_STATUS_running, F.WLZ_STATUS_closing,
   F.WLZ_STATUS_inferring, F.WLZ_STATUS_scoring, F.WLZ_STATUS_rebuilding, F.WLZ_STATUS_catching_up,
   F.WLZ_STATUS_hist_valid, F.WLZ_STATUS_settled, F.WLZ_BASE_LO_base_lo, F.WLZ_BASE_HI_base_hi,
   F.WLZ_SIZES_groups, F.WLZ_SIZES_nodes, F.WLZ_CLOSE_revise, F.WLZ_CLOSE_close_delay,
   F.WLZ_COVER_nt_min, F.WLZ_COVER_unsettled_max, F.WLZ_COVER_cov_min, F.WLZ_PHASE_conf_thr,
   F.WLZ_PHASE_tol_us, F.WLZ_INFER_infer_now, F.WLZ_INFER_iter_max, F.WLZ_INFER_min_points,
   F.WLZ_INFER_period, F.WLZ_INFER_THR_margin, F.WLZ_INFER_THR_r_min, F.WLZ_SCORE_score_now,
   F.WLZ_SCORE_period, F.WLZ_SCORE_susp_thr, F.WLZ_SCORE_W_w4, F.WLZ_SCORE_W_w3,
   F.WLZ_SCORE_W_w2, F.WLZ_SCORE_W_w1, F.WLZ_DROP_tamper_unit, F.WLZ_DROP_drop_min,
   F.WLZ_RESTORE_rest_thr, F.WLZ_RESTORE_out_thr, F.WLZ_RESTORE_report_ms, F.WLZ_EPISODE_CFG_update_ms,
   F.WLZ_EPISODE_CFG_quiet_s, F.WLZ_EPISODE_open, F.WLZ_EPISODE_episode, F.WLZ_LAST_CLOSED_b,
   F.WLZ_INFER_STAT_passes, F.WLZ_INFER_STAT_reassigned, F.WLZ_RUN_TIME_infer_ms, F.WLZ_RUN_TIME_score_ms,
   F.WLZ_CNT_A_unassigned, F.WLZ_CNT_A_odd_interval, F.WLZ_CNT_B_late, F.WLZ_CNT_B_zc_reject,
   F.WLZ_ERR_cfg_bad, F.WLZ_ERR_susp_trunc, F.WLZ_ERR_rebuild_fail, F.WLZ_ERR_cmd_rej]

/-- The fields of the WLZ window, part 2 of 2. -/
def fldsWLZ1 : List Fld :=
  [F.WLZ_ERR_table_bad, F.WLZ_ERR_area_bad, F.WLZ_CMD_DESC_LO_desc_lo, F.WLZ_CMD_DESC_HI_desc_hi,
   F.WLZ_CMD_CTRL_go, F.WLZ_CMD_CTRL_done, F.WLZ_FQ_CTRL_flush, F.WLZ_FQ_CTRL_wm_irq_en,
   F.WLZ_FQ_CTRL_cut_en, F.WLZ_FQ_CTRL_cut_thr, F.WLZ_FQ_MARK_high, F.WLZ_FQ_MARK_low,
   F.WLZ_FQ_LEVEL_peak, F.WLZ_FQ_LEVEL_level, F.WLZ_FQ_STAT_lost, F.WLZ_FQ_STAT_flushed_trunc,
   F.WLZ_FQ_STAT_abort_seen, F.WLZ_FQ_STAT_wm_low_hit, F.WLZ_FQ_STAT_wm_high_hit]

/-- The fields of the WLZ window (R31). -/
def fldsWLZ : List Fld := fldsWLZ0 ++ fldsWLZ1

/-- The fields of the BOL window, part 1 of 1. -/
def fldsBOL0 : List Fld :=
  [F.BOL_CTRL_enable, F.BOL_CTRL_storm_pause, F.BOL_CTRL_token_wait, F.BOL_CTRL_ack_delay,
   F.BOL_STATUS_running, F.BOL_STATUS_token, F.BOL_STATUS_paused, F.BOL_STATUS_epoch_end,
   F.BOL_STATUS_campaigns, F.BOL_AREA_BASE_LO_base_lo, F.BOL_AREA_BASE_HI_base_hi, F.BOL_EPOCH_epoch,
   F.BOL_PACE_tunnel, F.BOL_PACE_radio, F.BOL_PACE_plc, F.BOL_PACE_announce_gap,
   F.BOL_RETRY_cmd_to, F.BOL_RETRY_retries, F.BOL_ERR_ack_unmatched, F.BOL_ERR_ackq_drop,
   F.BOL_ERR_seal_fail, F.BOL_ERR_cmd_rej, F.BOL_ERR_area_bad, F.BOL_CMD_DESC_LO_desc_lo,
   F.BOL_CMD_DESC_HI_desc_hi, F.BOL_CMD_CTRL_go, F.BOL_CMD_CTRL_done, F.BOL_TX_FRAMES_frames,
   F.BOL_TX_REPAIR_repairs, F.BOL_ACKQ_DROP_dropped, F.BOL_CAMP_STAT_phase, F.BOL_CAMP_STAT_kind,
   F.BOL_CAMP_STAT_round, F.BOL_CAMP_STAT_settled_ok]

/-- The fields of the BOL window (R31). -/
def fldsBOL : List Fld := fldsBOL0

/-- The fields of the PAV window, part 1 of 1. -/
def fldsPAV0 : List Fld :=
  [F.PAV_CTRL_unlock, F.PAV_CTRL_lock, F.PAV_CTRL_cache_flush, F.PAV_CTRL_kat_now,
   F.PAV_STATUS_unlocked, F.PAV_STATUS_unlocking, F.PAV_STATUS_zeroised, F.PAV_STATUS_kat_fail,
   F.PAV_STATUS_nvm_bad, F.PAV_STATUS_staged, F.PAV_SLOTS_districts, F.PAV_SLOTS_used,
   F.PAV_ERR_unwrap_bad, F.PAV_ERR_cmd_rej, F.PAV_ERR_nvm_error, F.PAV_ERR_deriv_fail,
   F.PAV_DERIV_CNT_derivations, F.PAV_CACHE_HIT_hits, F.PAV_CACHE_MISS_misses, F.PAV_FAIL_CNT_failed,
   F.PAV_LAST_DESTROY_handle, F.PAV_CMD_DESC_LO_desc_lo, F.PAV_CMD_DESC_HI_desc_hi, F.PAV_CMD_CTRL_go,
   F.PAV_CMD_CTRL_done, F.PAV_TMP_CFG_sw1_level, F.PAV_TMP_CFG_sw0_level, F.PAV_TMP_CFG_filter,
   F.PAV_TMP_CFG_class, F.PAV_TMP_CTRL_arm, F.PAV_TMP_CTRL_zeroise_now, F.PAV_TMP_CTRL_log_clear,
   F.PAV_TMP_STAT_zcause, F.PAV_TMP_STAT_boot_stopped, F.PAV_TMP_STAT_seen, F.PAV_TMP_STAT_live,
   F.PAV_TMP_LOGSTAT_lost, F.PAV_TMP_LOGSTAT_entries]

/-- The fields of the PAV window (R31). -/
def fldsPAV : List Fld := fldsPAV0

/-- The fields of the PLK window, part 1 of 2. -/
def fldsPLK0 : List Fld :=
  [F.PLK_CTRL_enable, F.PLK_CTRL_band, F.PLK_CTRL_assoc_open, F.PLK_CTRL_beacon_force,
   F.PLK_CTRL_zc_edge, F.PLK_CTRL_beacon_mod, F.PLK_STATUS_running, F.PLK_STATUS_beaconing,
   F.PLK_STATUS_listening, F.PLK_STATUS_foreign_bcn, F.PLK_STATUS_link_up, F.PLK_STATUS_zc_ok,
   F.PLK_STATUS_retired, F.PLK_STATUS_busy, F.PLK_STATUS_retire_cause, F.PLK_STATUS_cfg_bad,
   F.PLK_STATUS_assoc_count, F.PLK_SF_slot_q, F.PLK_SF_bp_slots, F.PLK_SF_dl_slots,
   F.PLK_SF_cont_slots, F.PLK_SF_guard_us, F.PLK_GRANT_seg_max, F.PLK_GRANT_dl_retry,
   F.PLK_GRANT_reasm_sf, F.PLK_GRANT_miss_lost, F.PLK_GRANT_grant_slots, F.PLK_GRANT_gp_log2,
   F.PLK_TM_bcast_mod, F.PLK_TM_tone_mask, F.PLK_TMCTL_tm_life, F.PLK_TMCTL_margin_q,
   F.PLK_ZC_per_max, F.PLK_ZC_per_min, F.PLK_ZC_CAL_zc_cal, F.PLK_ERR_CFG_window,
   F.PLK_ERR_CFG_retire_thr, F.PLK_SFN_sfn, F.PLK_EVENT_zc_lost, F.PLK_EVENT_tm_fallback,
   F.PLK_EVENT_retired, F.PLK_EVENT_fault, F.PLK_EVENT_foreign_bcn, F.PLK_EVENT_foreign_assoc,
   F.PLK_EVENT_lost, F.PLK_EVENT_assoc, F.PLK_CNT_SEG_seg_ok, F.PLK_CNT_SEG_seg_bad,
   F.PLK_CNT_FRAME_frames, F.PLK_CNT_FRAME_drops, F.PLK_CNT_NOISE_impulses, F.PLK_CNT_NOISE_reasm_expired,
   F.PLK_CNT_TIMING_drift, F.PLK_CNT_TIMING_missed_grants, F.PLK_AT_SEL_valid, F.PLK_AT_SEL_addr,
   F.PLK_AT_EUI_LO_eui, F.PLK_AT_INFO_state, F.PLK_AT_INFO_misses, F.PLK_AT_INFO_ul_mod]

/-- The fields of the PLK window, part 2 of 2. -/
def fldsPLK1 : List Fld :=
  [F.PLK_AT_INFO_offset, F.PLK_FQ0_CTRL_flush, F.PLK_FQ0_CTRL_wm_irq_en, F.PLK_FQ0_CTRL_cut_en,
   F.PLK_FQ0_CTRL_cut_thr, F.PLK_FQ0_MARK_high, F.PLK_FQ0_MARK_low, F.PLK_FQ0_LEVEL_peak,
   F.PLK_FQ0_LEVEL_level, F.PLK_FQ0_STAT_lost, F.PLK_FQ0_STAT_flushed_trunc, F.PLK_FQ0_STAT_abort_seen,
   F.PLK_FQ0_STAT_wm_low_hit, F.PLK_FQ0_STAT_wm_high_hit]

/-- The fields of the PLK window (R31). -/
def fldsPLK : List Fld := fldsPLK0 ++ fldsPLK1

/-- The fields of the MZK window, part 1 of 2. -/
def fldsMZK0 : List Fld :=
  [F.MZK_CTRL_enable, F.MZK_CTRL_mode, F.MZK_CTRL_plan, F.MZK_CTRL_rate,
   F.MZK_CTRL_assoc_open, F.MZK_CTRL_beacon_force, F.MZK_CTRL_pan_id, F.MZK_STATUS_running,
   F.MZK_STATUS_transmitting, F.MZK_STATUS_listening, F.MZK_STATUS_foreign_coord, F.MZK_STATUS_link_up,
   F.MZK_STATUS_suspended, F.MZK_STATUS_retired, F.MZK_STATUS_dc_hold, F.MZK_STATUS_retire_cause,
   F.MZK_STATUS_cfg_bad, F.MZK_STATUS_count, F.MZK_PHY_preamble, F.MZK_PHY_map_base,
   F.MZK_PHY_fixed_ch, F.MZK_PHY_dc_limit, F.MZK_CELL_bi, F.MZK_CELL_max_hops,
   F.MZK_CELL_child_max, F.MZK_CELL_cell_silent, F.MZK_SCHED_stride_us, F.MZK_SCHED_w_max_us,
   F.MZK_SCHED_rec_miss, F.MZK_TIMING_ev_max_us, F.MZK_TIMING_t_ifs, F.MZK_TIMING_dev_ppm,
   F.MZK_TIMING_lpl_listen, F.MZK_ADV_adv_ch2, F.MZK_ADV_adv_ch1, F.MZK_ADV_adv_ch0,
   F.MZK_ADV_adv_int, F.MZK_HOLD_conn_hold, F.MZK_HOLD_dl_events, F.MZK_HOLD_resume_ms,
   F.MZK_EPOCH_epoch_s, F.MZK_CAL_tx_cal, F.MZK_CAL_rx_cal, F.MZK_CAL_cca_dbm,
   F.MZK_TUNE_settle_us, F.MZK_TUNE_spi_div, F.MZK_ERR_CFG_window, F.MZK_ERR_CFG_retire_thr,
   F.MZK_EVENT_tune_err, F.MZK_EVENT_ctr_end, F.MZK_EVENT_key_fail, F.MZK_EVENT_recovery,
   F.MZK_EVENT_retired, F.MZK_EVENT_fault, F.MZK_EVENT_foreign_coord, F.MZK_EVENT_foreign_assoc,
   F.MZK_EVENT_lost, F.MZK_EVENT_assoc, F.MZK_CNT_RX_frames_ok, F.MZK_CNT_RX_rx_bad]

/-- The fields of the MZK window, part 2 of 2. -/
def fldsMZK1 : List Fld :=
  [F.MZK_CNT_SEC_mic_fail, F.MZK_CNT_SEC_link_replay, F.MZK_CNT_SCHED_missed, F.MZK_CNT_SCHED_skipped,
   F.MZK_CNT_MISC_drops, F.MZK_CNT_MISC_csma_fail, F.MZK_CNT_KEY_key_idx, F.MZK_CNT_KEY_key_fail,
   F.MZK_TUNEK_LO_spi_lo, F.MZK_TUNEK_HI_spi_hi, F.MZK_TUNEK_HI_len, F.MZK_TBL_BASE_LO_base_lo,
   F.MZK_TBL_BASE_HI_base_hi, F.MZK_COMMON_area_bad, F.MZK_FQ0_CTRL_flush, F.MZK_FQ0_CTRL_wm_irq_en,
   F.MZK_FQ0_CTRL_cut_en, F.MZK_FQ0_CTRL_cut_thr, F.MZK_FQ0_MARK_high, F.MZK_FQ0_MARK_low,
   F.MZK_FQ0_LEVEL_peak, F.MZK_FQ0_LEVEL_level, F.MZK_FQ0_STAT_lost, F.MZK_FQ0_STAT_flushed_trunc,
   F.MZK_FQ0_STAT_abort_seen, F.MZK_FQ0_STAT_wm_low_hit, F.MZK_FQ0_STAT_wm_high_hit]

/-- The fields of the MZK window (R31). -/
def fldsMZK : List Fld := fldsMZK0 ++ fldsMZK1

/-- The fields of the TSU window, part 1 of 2. -/
def fldsTSU0 : List Fld :=
  [F.TSU_CTRL_scheme, F.TSU_CTRL_pps_edge, F.TSU_CTRL_servo, F.TSU_CTRL_rtc_sync,
   F.TSU_STATUS_scheme, F.TSU_STATUS_handover_pend, F.TSU_STATUS_tstate, F.TSU_STATUS_slewing,
   F.TSU_STATUS_acquire, F.TSU_STATUS_clamp, F.TSU_STATUS_rate_rej, F.TSU_STATUS_adj_rej,
   F.TSU_STATUS_lock_run, F.TSU_TICK_LO_tick, F.TSU_NOW_NS_ns, F.TSU_NOW_SEC_LO_sec,
   F.TSU_NOW_TICK_LO_tick, F.TSU_CONV_TICK_LO_tick, F.TSU_CONV_NS_ns, F.TSU_CONV_SEC_LO_sec,
   F.TSU_RATE_LO_rate, F.TSU_ADJ_LO_s, F.TSU_SET_NS_ns, F.TSU_SET_SEC_LO_sec,
   F.TSU_ADJ_CTRL_go, F.TSU_ADJ_CTRL_mode, F.TSU_NSC_INCR_incr, F.TSU_SERVO_kp,
   F.TSU_SERVO_ki, F.TSU_SERVO_lock_n, F.TSU_SERVO_lock_ns, F.TSU_SERVO2_step_thr,
   F.TSU_SERVO2_rate_max, F.TSU_PPS_pps_cal, F.TSU_PPS_pps_tol, F.TSU_SLEW_slew_ppb,
   F.TSU_ISLCAL_bhe, F.TSU_ISLCAL_age, F.TSU_ISLCAL_feb, F.TSU_ISLCAL_keyc,
   F.TSU_RTC_SEC_sec, F.TSU_RTC_FRAC_rtc_valid, F.TSU_RTC_FRAC_frac, F.TSU_PULSE_CTRL_arm,
   F.TSU_PULSE_CTRL_polarity, F.TSU_PULSE_CTRL_pulse_evt, F.TSU_PULSE_START_NS_ns, F.TSU_PULSE_START_SEC_LO_sec,
   F.TSU_PULSE_PER_NS_per_ns, F.TSU_PULSE_PER_SEC_per_sec, F.TSU_PULSE_WIDTH_width, F.TSU_PULSE_STAT_cfg_bad,
   F.TSU_PULSE_STAT_late, F.TSU_PULSE_STAT_skipped, F.TSU_PTP_CTRL_tc_en, F.TSU_PTP_CTRL_overflow,
   F.TSU_PTP_CNT_corrected, F.TSU_PTP_CNT_skipped, F.TSU_PPS_LAST_LO_tick, F.TSU_PPS_ERR_e]

/-- The fields of the TSU window, part 2 of 2. -/
def fldsTSU1 : List Fld :=
  [F.TSU_CNT_pps_rej, F.TSU_CNT_extrap, F.TSU_CNT_steps, F.TSU_EVT_w,
   F.TSU_FQ_CTRL_flush, F.TSU_FQ_CTRL_wm_irq_en, F.TSU_FQ_CTRL_cut_en, F.TSU_FQ_CTRL_cut_thr,
   F.TSU_FQ_MARK_high, F.TSU_FQ_MARK_low, F.TSU_FQ_LEVEL_peak, F.TSU_FQ_LEVEL_level,
   F.TSU_FQ_STAT_lost, F.TSU_FQ_STAT_flushed_trunc, F.TSU_FQ_STAT_abort_seen, F.TSU_FQ_STAT_wm_low_hit,
   F.TSU_FQ_STAT_wm_high_hit]

/-- The fields of the TSU window (R31). -/
def fldsTSU : List Fld := fldsTSU0 ++ fldsTSU1

/-- The fields of the ETH window, part 1 of 3. -/
def fldsETH0 : List Fld :=
  [F.ETH_CTRL_enable, F.ETH_CTRL_mode, F.ETH_CTRL_rs_fec, F.ETH_CTRL_an_en,
   F.ETH_CTRL_pause_rx_en, F.ETH_CTRL_pause_tx_en, F.ETH_CTRL_pfc_en, F.ETH_CTRL_uplink,
   F.ETH_CTRL_tunnel, F.ETH_CTRL_max_frame, F.ETH_STATUS_link_up, F.ETH_STATUS_running,
   F.ETH_STATUS_fec_lock, F.ETH_STATUS_paused, F.ETH_STATUS_pause_storm, F.ETH_STATUS_retired,
   F.ETH_STATUS_rate, F.ETH_STATUS_retire_cause, F.ETH_STATUS_cfg_bad, F.ETH_FLOW_pause_quanta,
   F.ETH_FLOW_xoff, F.ETH_FLOW_xon, F.ETH_FLOW2_pfc_mask0, F.ETH_FLOW2_pfc_mask1,
   F.ETH_FLOW2_pause_max, F.ETH_PART_p0_units, F.ETH_ERR_CFG_window, F.ETH_ERR_CFG_retire_thr,
   F.ETH_EVENT_cfg_bad, F.ETH_EVENT_sec_pn_end, F.ETH_EVENT_sec_pn_thr, F.ETH_EVENT_pause_storm,
   F.ETH_EVENT_retired, F.ETH_EVENT_fault, F.ETH_EVENT_link_change, F.ETH_MAC_LO_mac,
   F.ETH_CNT_RX0_rx_frames, F.ETH_CNT_RX1_rx_bad, F.ETH_CNT_RX1_no_match, F.ETH_CNT_DROP_drop_p0,
   F.ETH_CNT_DROP_drop_p1, F.ETH_CNT_TX_tx_frames, F.ETH_CNT_CTL_pause_rx, F.ETH_CNT_CTL_pause_tx,
   F.ETH_CNT_CTL2_ctl_ignored, F.ETH_CNT_CTL2_fec_uncorr, F.ETH_SEC_CTRL_enable, F.ETH_SEC_CTRL_cipher,
   F.ETH_SEC_CTRL_validate, F.ETH_SEC_CTRL_replay, F.ETH_SEC_CTRL_include_sci, F.ETH_SEC_CTRL_rx_sc_en,
   F.ETH_SEC_WIN_window, F.ETH_SEC_SCI_LO_sci, F.ETH_SEC_RXSCI_LO_sci, F.ETH_SEC_STAT_tx_slot,
   F.ETH_SEC_STAT_tx_held, F.ETH_SEC_STAT_installed, F.ETH_SEC_PNTHR_LO_pn_thr, F.ETH_SEC_CNT_bad_icv]

/-- The fields of the ETH window, part 2 of 3. -/
def fldsETH1 : List Fld :=
  [F.ETH_SEC_CNT_late, F.ETH_SEC_CNT_untagged, F.ETH_SEC_CNT_no_sa, F.ETH_COMMON_backhaul_present,
   F.ETH_TUN_CTRL_addr_en, F.ETH_TUN_CTRL_udp_port, F.ETH_TUN_CFG_hop_limit, F.ETH_TUN_CFG_tclass,
   F.ETH_TUN_CFG_ka_s, F.ETH_TUN_CFG_conc_silent, F.ETH_TUN_ADDR_addr, F.ETH_TUN_CNT0_dgram_bad,
   F.ETH_TUN_CNT0_conc_mismatch, F.ETH_TUN_CNT1_csum_bad, F.ETH_TUN_CNT1_ext_drop, F.ETH_TUN_CNT2_frames_in,
   F.ETH_TUN_EVT_conc_lost, F.ETH_TUN_EVT_conc_up, F.ETH_TUN_EVT_learned, F.ETH_TUN_EVT_last_conc,
   F.ETH_CONC_SEL_loaded, F.ETH_CONC_SEL_conc, F.ETH_CONC_CTRL_commit, F.ETH_FWD_CFG_learn_full,
   F.ETH_FWD_CFG_age_s, F.ETH_FWD_CNT_flooded, F.ETH_FWD_enable, F.ETH_FWD_bh_port,
   F.ETH_FWD_agg_mask, F.ETH_FWD_vid, F.ETH_AF_LO_addr_lo, F.ETH_AF_HI_enable,
   F.ETH_AF_HI_ports, F.ETH_AF_HI_addr_hi, F.ETH_RULE_MATCH0_vid, F.ETH_RULE_MATCH0_vid_en,
   F.ETH_RULE_MATCH0_untagged, F.ETH_RULE_MATCH0_pcp, F.ETH_RULE_MATCH0_pcp_en, F.ETH_RULE_MATCH0_ports,
   F.ETH_RULE_MATCH1_ethertype, F.ETH_RULE_MATCH1_et_en, F.ETH_RULE_MATCH1_nh_en, F.ETH_RULE_MATCH1_nh,
   F.ETH_RULE_MATCH2_udp_port, F.ETH_RULE_MATCH2_up_en, F.ETH_RULE_MATCH2_af_en, F.ETH_RULE_MATCH2_af,
   F.ETH_RULE_ACTION_enable, F.ETH_RULE_ACTION_drop, F.ETH_RULE_ACTION_queue, F.ETH_RXQ_BASE_LO_base_lo,
   F.ETH_TXQ_BASE_LO_base_lo, F.ETH_RXQ_BASE_HI_base_hi, F.ETH_TXQ_BASE_HI_base_hi, F.ETH_RXQ_CFG_enable,
   F.ETH_TXQ_CFG_enable, F.ETH_RXQ_CFG_slot, F.ETH_TXQ_CFG_slot, F.ETH_RXQ_CFG_size]

/-- The fields of the ETH window, part 3 of 3. -/
def fldsETH2 : List Fld :=
  [F.ETH_TXQ_CFG_size, F.ETH_RXQ_HEAD_head, F.ETH_TXQ_HEAD_head, F.ETH_RXQ_TAIL_tail,
   F.ETH_TXQ_TAIL_tail, F.ETH_SA_DESC_LO_desc_lo, F.ETH_SA_DESC_HI_desc_hi, F.ETH_SA_CTRL_go,
   F.ETH_SA_CTRL_done, F.ETH_WAKE_CFG_link_wake, F.ETH_WAKE_CFG_arm, F.ETH_WAKE_CFG_pat_en,
   F.ETH_WAKE_STAT_woke, F.ETH_WAKE_STAT_cause, F.ETH_WAKE_STAT_port, F.ETH_WAKE_STAT_cfg_bad,
   F.ETH_WAKE_STAT_pattern, F.ETH_CONC_DATA_w, F.ETH_WP_PAT_w, F.ETH_WP_MASK_w,
   F.ETH_FQ0_CTRL_flush, F.ETH_FQ0_CTRL_wm_irq_en, F.ETH_FQ0_CTRL_cut_en, F.ETH_FQ0_CTRL_cut_thr,
   F.ETH_FQ0_MARK_high, F.ETH_FQ0_MARK_low, F.ETH_FQ0_LEVEL_peak, F.ETH_FQ0_LEVEL_level,
   F.ETH_FQ0_STAT_lost, F.ETH_FQ0_STAT_flushed_trunc, F.ETH_FQ0_STAT_abort_seen, F.ETH_FQ0_STAT_wm_low_hit,
   F.ETH_FQ0_STAT_wm_high_hit, F.ETH_FQ1_CTRL_flush, F.ETH_FQ1_CTRL_wm_irq_en, F.ETH_FQ1_CTRL_cut_en,
   F.ETH_FQ1_CTRL_cut_thr, F.ETH_FQ1_MARK_high, F.ETH_FQ1_MARK_low, F.ETH_FQ1_LEVEL_peak,
   F.ETH_FQ1_LEVEL_level, F.ETH_FQ1_STAT_lost, F.ETH_FQ1_STAT_flushed_trunc, F.ETH_FQ1_STAT_abort_seen,
   F.ETH_FQ1_STAT_wm_low_hit, F.ETH_FQ1_STAT_wm_high_hit]

/-- The fields of the ETH window (R31). -/
def fldsETH : List Fld := fldsETH0 ++ fldsETH1 ++ fldsETH2

/-- The fields of the GAV window, part 1 of 1. -/
def fldsGAV0 : List Fld :=
  [F.GAV_CTRL_enable, F.GAV_CTRL_gc_en, F.GAV_STATUS_running, F.GAV_STATUS_mounting,
   F.GAV_STATUS_unformatted, F.GAV_STATUS_mount_fail, F.GAV_STATUS_host_ro, F.GAV_STATUS_retention_cut,
   F.GAV_STATUS_gc_active, F.GAV_STATUS_gc_deferred, F.GAV_STATUS_area_bad, F.GAV_STATUS_stalled,
   F.GAV_GEOM0_luns, F.GAV_GEOM0_planes, F.GAV_GEOM0_page, F.GAV_GEOM0_ppb,
   F.GAV_GEOM1_blocks, F.GAV_TGT_present, F.GAV_GC_gc_low, F.GAV_GC_gc_high,
   F.GAV_GC_gc_crit, F.GAV_GC_spare_low, F.GAV_GC_W_wv, F.GAV_GC_W_wa,
   F.GAV_GC_W_ww, F.GAV_FLUSH_flush_ms, F.GAV_FLUSH_pe_rated, F.GAV_FLUSH_read_retries,
   F.GAV_ERR_CFG_window, F.GAV_ERR_CFG_retire_thr, F.GAV_FLUSHED_LO_flushed, F.GAV_OLDEST_LO_oldest,
   F.GAV_NSEQ_LO_nseq, F.GAV_AREA_BASE_LO_base_lo, F.GAV_AREA_BASE_HI_base_hi, F.GAV_AREA_CFG_xring,
   F.GAV_AREA_CFG_mapc, F.GAV_CAP0_rec_gib, F.GAV_CAP0_host_gib, F.GAV_CAP1_ext_gib,
   F.GAV_CAP1_e_gib, F.GAV_SPARE_spare, F.GAV_EVENT_sdisc_done, F.GAV_EVENT_lost,
   F.GAV_EVENT_die_retired, F.GAV_EVENT_blk_retired, F.GAV_EVENT_spare_low, F.GAV_EVENT_stall,
   F.GAV_CNT_READ_retried, F.GAV_CNT_READ_lost, F.GAV_CNT_BLK_retired, F.GAV_CNT_BLK_collected,
   F.GAV_CMD_DESC_LO_desc_lo, F.GAV_CMD_DESC_HI_desc_hi, F.GAV_CMD_CTRL_go, F.GAV_CMD_CTRL_done,
   F.GAV_CMD_CTRL_cmd_rej, F.GAV_DIE_RET_retired, F.GAV_RETRY_feature, F.GAV_RETRY_params]

/-- The fields of the GAV window (R31). -/
def fldsGAV : List Fld := fldsGAV0

/-- The fields of the EPL window, part 1 of 2. -/
def fldsEPL0 : List Fld :=
  [F.EPL_CTRL_pair_en, F.EPL_CTRL_prefer_active, F.EPL_CTRL_key_follow, F.EPL_CTRL_auto_resync,
   F.EPL_CTRL_max_ver, F.EPL_STATUS_link_up, F.EPL_STATUS_paired, F.EPL_STATUS_role,
   F.EPL_STATUS_token, F.EPL_STATUS_witness_req, F.EPL_STATUS_witness_held, F.EPL_STATUS_standby_ready,
   F.EPL_STATUS_resyncing, F.EPL_STATUS_partner_retired, F.EPL_STATUS_key_skew, F.EPL_STATUS_clash,
   F.EPL_STATUS_split, F.EPL_STATUS_divergence, F.EPL_STATUS_selftest_fail, F.EPL_STATUS_area_bad,
   F.EPL_STATUS_neg_ver, F.EPL_LEASE_lease_ms, F.EPL_LEASE_renew_ms, F.EPL_LEASE_guard_ms,
   F.EPL_LEASE_dead_ms, F.EPL_TOKEN_term, F.EPL_DIGEST_digest_to, F.EPL_DIGEST_cmp_delay,
   F.EPL_DIGEST_cmp_window, F.EPL_MIRROR_merge_ms, F.EPL_MIRROR_ksum_s, F.EPL_AREA_BASE_LO_base_lo,
   F.EPL_AREA_BASE_HI_base_hi, F.EPL_ERR_CFG_window, F.EPL_ERR_CFG_retire_thr, F.EPL_EVENT_resync_done,
   F.EPL_EVENT_key_skew, F.EPL_EVENT_partner_retired, F.EPL_EVENT_self_retired, F.EPL_EVENT_divergence,
   F.EPL_EVENT_mismatch, F.EPL_EVENT_witness_req, F.EPL_EVENT_token_change, F.EPL_EVENT_role_change,
   F.EPL_EVENT_split, F.EPL_EVENT_link_change, F.EPL_CNT_LINK_retrans, F.EPL_CNT_LINK_crc_bad,
   F.EPL_CNT_DIG_mismatched, F.EPL_CNT_DIG_unheard, F.EPL_CNT_MIR_applied, F.EPL_CNT_MIR_key_wait,
   F.EPL_PARTNER_valid, F.EPL_PARTNER_active, F.EPL_PARTNER_token, F.EPL_PARTNER_retired,
   F.EPL_PARTNER_unit, F.EPL_PARTNER_max_ver, F.EPL_PARTNER_EUI_LO_eui, F.EPL_CMD_DESC_LO_desc_lo]

/-- The fields of the EPL window, part 2 of 2. -/
def fldsEPL1 : List Fld :=
  [F.EPL_CMD_DESC_HI_desc_hi, F.EPL_CMD_CTRL_go, F.EPL_CMD_CTRL_done, F.EPL_CMD_CTRL_cmd_rej]

/-- The fields of the EPL window (R31). -/
def fldsEPL : List Fld := fldsEPL0 ++ fldsEPL1

/-- The fields of the UPD window, part 1 of 1. -/
def fldsUPD0 : List Fld :=
  [F.UPD_CTRL_accept_s, F.UPD_CTRL_revert_hold, F.UPD_CTRL_lease_s, F.UPD_STATUS_boot_result,
   F.UPD_STATUS_provisional, F.UPD_STATUS_slot, F.UPD_STATUS_rom_recovery, F.UPD_STATUS_set_skew,
   F.UPD_STATUS_prog_fail, F.UPD_STATUS_sver, F.UPD_SESSION_open, F.UPD_SESSION_source,
   F.UPD_SESSION_master, F.UPD_SESSION_lease_left, F.UPD_SESSION_id, F.UPD_FUSE_f,
   F.UPD_FUSE_revoked, F.UPD_AREA_BASE_LO_base_lo, F.UPD_AREA_BASE_HI_base_hi, F.UPD_CMD_DESC_LO_desc_lo,
   F.UPD_CMD_DESC_HI_desc_hi, F.UPD_CMD_CTRL_go, F.UPD_CMD_CTRL_done, F.UPD_CMD_CTRL_cmd_rej]

/-- The fields of the UPD window (R31). -/
def fldsUPD : List Fld := fldsUPD0

/-- The fields of the SRB window, part 1 of 2. -/
def fldsSRB0 : List Fld :=
  [F.SRB_CTRL_enable, F.SRB_CTRL_snap_now, F.SRB_CTRL_snap_s, F.SRB_STATUS_running,
   F.SRB_STATUS_area_bad, F.SRB_STATUS_snap_merged, F.SRB_AREA_BASE_LO_base_lo, F.SRB_AREA_BASE_HI_base_hi,
   F.SRB_AREA_CFG_ring_mib, F.SRB_NEXT_LO_rseq, F.SRB_OLDEST_LO_rseq, F.SRB_FEED_fm,
   F.SRB_FEED_value, F.SRB_HIST_CFG_enable, F.SRB_HIST_CFG_mode, F.SRB_HIST_CFG_cumulative,
   F.SRB_HIST_CFG_filter, F.SRB_HIST_CFG_measurand, F.SRB_HIST_BASE_LO_base, F.SRB_HIST_WIDTH_width,
   F.SRB_EXT_CFG_enable, F.SRB_EXT_CFG_cumulative, F.SRB_EXT_CFG_filter, F.SRB_EXT_CFG_measurand,
   F.SRB_WSEL_loaded, F.SRB_WSEL_tracker, F.SRB_WSEL_idx, F.LOG_CTRL_clear,
   F.LOG_CTRL_limit_en, F.LOG_CTRL_min_sev, F.LOG_CTRL_irq_sev, F.LOG_CTRL_drain_to,
   F.LOG_CTRL_mark, F.LOG_STATUS_full, F.LOG_STATUS_in_reserve, F.LOG_STATUS_drain_ring,
   F.LOG_STATUS_head_rej, F.LOG_STATUS_fw_bad, F.LOG_STATUS_level, F.LOG_LIMIT_burst,
   F.LOG_LIMIT_rate, F.LOG_LIMIT_reserve, F.LOG_HEAD_head, F.LOG_TAIL_tail,
   F.LOG_LOST_lost, F.LOG_LOST_suppressed, F.LOG_LOST2_fw_refused, F.LOG_LOST2_filtered,
   F.LOG_APPEND_offset, F.LOG_SEL_loaded, F.LOG_SEL_slot, F.SRB_WIN_w,
   F.LOG_REC_w, F.SRB_FQ0_CTRL_flush, F.SRB_FQ0_CTRL_wm_irq_en, F.SRB_FQ0_CTRL_cut_en,
   F.SRB_FQ0_CTRL_cut_thr, F.SRB_FQ0_MARK_high, F.SRB_FQ0_MARK_low, F.SRB_FQ0_LEVEL_peak]

/-- The fields of the SRB window, part 2 of 2. -/
def fldsSRB1 : List Fld :=
  [F.SRB_FQ0_LEVEL_level, F.SRB_FQ0_STAT_lost, F.SRB_FQ0_STAT_flushed_trunc, F.SRB_FQ0_STAT_abort_seen,
   F.SRB_FQ0_STAT_wm_low_hit, F.SRB_FQ0_STAT_wm_high_hit]

/-- The fields of the SRB window (R31). -/
def fldsSRB : List Fld := fldsSRB0 ++ fldsSRB1

/-- The fields of the DMC window, part 1 of 1. -/
def fldsDMC0 : List Fld :=
  [F.DMC_STATUS_ready, F.DMC_STATUS_self_refresh, F.DMC_STATUS_fitted_gib, F.DMC_ECC_corrected,
   F.DMC_ECC_uncorrected, F.DMC_ECC_unrepaired, F.DMC_ROW_CFG_row_win, F.DMC_ROW_CFG_row_thr,
   F.DMC_LAST_ERR_row, F.DMC_RMAP_SEL_valid, F.DMC_RMAP_SEL_entry, F.DMC_RMAP_DATA_row]

/-- The fields of the DMC window (R31). -/
def fldsDMC : List Fld := fldsDMC0

/-- The register fields of the 64 KiB window w (R31); none where the window holds no block. -/
def fieldsOfWindow (w : Nat) : List Fld :=
  match w with
  | 0 => fldsSYS
  | 1 => fldsPMU
  | 2 => fldsICU
  | 3 => fldsXDI
  | 4 => fldsMSR
  | 5 => fldsREEL
  | 6 => fldsVAL
  | 7 => fldsWLZ
  | 8 => fldsBOL
  | 9 => fldsPAV
  | 10 => fldsPLK
  | 11 => fldsMZK
  | 12 => fldsTSU
  | 13 => fldsETH
  | 14 => fldsGAV
  | 15 => fldsEPL
  | 16 => fldsUPD
  | 17 => fldsSRB
  | 18 => fldsDMC
  | _ => []

/-- The _LO registers of the _LO/_HI pairs (R10, R547): offset of the first, stride, count, second stride, second count. -/
def pairTable : List (Nat × Nat × Nat × Nat × Nat) :=
  [(0x18, 0x0, 1, 0, 1), (0x28, 0x0, 1, 0, 1), (0x30, 0x0, 1, 0, 1),
   (0x30010, 0x0, 1, 0, 1), (0x30020, 0x0, 1, 0, 1), (0x30028, 0x0, 1, 0, 1),
   (0x30030, 0x0, 1, 0, 1), (0x30800, 0x20, 64, 0, 1), (0x30808, 0x20, 64, 0, 1),
   (0x40008, 0x0, 1, 0, 1), (0x40010, 0x0, 1, 0, 1),
   (0x40028, 0x0, 1, 0, 1), (0x40048, 0x0, 1, 0, 1), (0x50020, 0x0, 1, 0, 1),
   (0x50028, 0x0, 1, 0, 1), (0x50030, 0x0, 1, 0, 1), (0x50040, 0x0, 1, 0, 1),
   (0x50048, 0x0, 1, 0, 1), (0x50100, 0x20, 8, 0, 1), (0x60020, 0x0, 1, 0, 1),
   (0x70008, 0x8, 6, 0, 1), (0x70080, 0x0, 1, 0, 1), (0x80008, 0x0, 1, 0, 1),
   (0x80020, 0x0, 1, 0, 1), (0x90020, 0x0, 1, 0, 1), (0xA0084, 0x1000, 16, 0, 1),
   (0xB0800, 0x1000, 12, 8, 128), (0xBC000, 0x0, 1, 0, 1), (0xC0008, 0x0, 1, 0, 1),
   (0xC0014, 0x0, 1, 0, 1), (0xC001C, 0x0, 1, 0, 1), (0xC0024, 0x0, 1, 0, 1),
   (0xC0030, 0x0, 1, 0, 1), (0xC003C, 0x0, 1, 0, 1), (0xC0088, 0x20, 4, 0, 1),
   (0xC0140, 0x0, 1, 0, 1), (0xC0150, 0x0, 1, 0, 1), (0xC015C, 0x0, 1, 0, 1),
   (0xD001C, 0x1000, 12, 0, 1), (0xD0108, 0x1000, 4, 0, 1), (0xD0114, 0x1000, 4, 0, 1),
   (0xD0120, 0x1000, 4, 8, 4), (0xDC100, 0x8, 64, 0, 1), (0xDC600, 0x20, 16, 0, 1),
   (0xDC800, 0x20, 8, 0, 1), (0xDC900, 0x0, 1, 0, 1), (0xE0024, 0x0, 1, 0, 1),
   (0xE002C, 0x0, 1, 0, 1), (0xE0034, 0x0, 1, 0, 1), (0xE003C, 0x0, 1, 0, 1),
   (0xE0060, 0x0, 1, 0, 1), (0xF0018, 0x0, 1, 0, 1), (0xF0038, 0x0, 1, 0, 1),
   (0xF0040, 0x0, 1, 0, 1), (0x100010, 0x0, 1, 0, 1), (0x100018, 0x0, 1, 0, 1),
   (0x10040, 0x0, 1, 0, 1), (0x110008, 0x0, 1, 0, 1), (0x110018, 0x0, 1, 0, 1),
   (0x110020, 0x0, 1, 0, 1), (0x110104, 0x10, 32, 0, 1)]

/-- The FIFO register sets of R29: offset of CTRL of the first, stride, count. -/
def fifoTable : List (Nat × Nat × Nat) :=
  [(0x50200, 0x10, 2), (0x51040, 0x100, 16), (0x700A0, 0x10, 2), (0xA0040, 0x1000, 16), (0xB0060, 0x1000, 12), (0xC0120, 0x10, 2), (0xD0040, 0x1000, 12), (0xD0050, 0x1000, 12), (0x110030, 0x0, 1)]

end Sys2Proof.Machine
end

