-- ==== Sys2Proof/Machine/State.lean ====
section
/-! DEFINITION. The state of the part as plain data: the register file, byte memory, the FIFOs, and for every block the
state its chapter gives it beyond its registers; the reasons a step can stop; the state right after reset. -/

namespace Sys2Proof.Machine

/-- The eight operating modes (R5), in the code order of R468. -/
inductive Mode where
  | dormant | boot | recovery | commission | run | storm | islanded | shadow
deriving DecidableEq, Repr

/-- The eight reset kinds of R6, and the exit from Dormant, which counts as a PINRST for every Kept over column (R481). -/
inductive RstKind where
  | aonpor | mainpor | pinrst | hostrst | flr | softrst | wdtrst | domrst | dormantExit
deriving DecidableEq, Repr

/-- What the device sends out: the observable outputs, newest last (the model's own record, log entry 4). -/
inductive Out where
  /-- A write of the bytes to host memory at a host bus address. -/
  | hostWrite (addr : Nat) (bytes : List Byte)
  /-- An MSI-X message of a vector (R94). -/
  | msix (vector : Nat)
  /-- A PME message (R96). -/
  | pme
  /-- A configuration request answered with Configuration Request Retry Status (R45). -/
  | cfgRetry
  /-- Data returned to a master's read, with an error flag (R38). -/
  | readData (master : Nat) (addr : Nat) (bytes : List Byte) (err : Bool)
  /-- An error response to a master's write (R38). -/
  | writeError (master : Nat) (addr : Nat)
  /-- A message to the pair partner, as its bytes (R424). -/
  | epl (bytes : List Byte)
  /-- An MPDU sent on a PLC channel (R285) in a modulation on a tone mask (R299). -/
  | plc (ch mod mask : Nat) (bytes : List Byte)
  /-- A frame sent on a radio channel on an RF channel (R310), with its preamble in octets and its copies (R325). -/
  | radio (ch rf preamble copies : Nat) (bytes : List Byte)
  /-- Bytes sent over a radio channel's SPI port (R308). -/
  | spi (ch : Nat) (bytes : List Byte)
  /-- A frame sent on an Ethernet port. -/
  | eth (port : Nat) (bytes : List Byte)
  /-- A time pulse output edge (R359): the level driven. -/
  | pulse (k : Nat) (level : Bool)
  /-- A page of sectors programmed into NAND at a physical place (R395). -/
  | nand (op : Nat) (place : Nat)
deriving DecidableEq, Repr

/-- A FIFO with a register set of R29: items oldest first, an item the consumer has begun, a flush in progress, and the count
of items lost to flushes that its block keeps (R23; no register shows it, log entry 56). -/
structure Fifo where
  items : List (List Byte) := []
  begun : Bool := false
  flushing : Bool := false
  flushed : Nat := 0
deriving DecidableEq, Repr

/-- What a block issues into the fabric on behalf of a master and awaits the partner's answer for (R426). -/
structure WinWait where
  tag : Nat
  master : Nat
  addr : Nat
  size : Nat
deriving DecidableEq, Repr

/-- SYS and the fabric: the _HI writes held and the _HI values captured per master and pair (R547), the windows whose RWL
fields have committed (R12); a core's reservation of bytes (R35), by master; writes of engines to registers or the EPL window
on their way (R41), as (master, internal address, bytes). -/
structure Sys where
  holdHi : Map Nat := []
  capHi : Map Nat := []
  committed : Tab := []
  alertDue : Bool := false
  reserve : Map (Nat × Nat) := []
  posted : List (Nat × Nat × List Byte) := []
deriving DecidableEq, Repr

/-- Where an active source is active (R85, R94). -/
inductive ActAt where
  | target (t : Nat)
  | vector (v : Nat)
deriving DecidableEq, Repr

/-- A moderation window (R92): open since a tick with a count of events, or fired and delivering. -/
structure ModWin where
  openAt : Nat
  events : Nat
  fired : Bool
deriving DecidableEq, Repr

/-- The interrupt side of a Quadrille core that R84 describes: MIE, privilege and pc as the core last showed them, whether a
normal-class handler runs, the two banks of x1, x5–x7, x10–x17 and x28–x31 and which is in use, the fast trap registers. -/
structure CoreIrq where
  mie : Bool := false
  priv : Nat := 3
  pc : BitVec 64 := 0
  inNormal : Bool := false
  shadowBank : Bool := false
  mainRegs : List (BitVec 64) := [0, 0, 0, 0, 0, 0, 0, 0, 0, 0, 0, 0, 0, 0, 0, 0]
  shadowRegs : List (BitVec 64) := [0, 0, 0, 0, 0, 0, 0, 0, 0, 0, 0, 0, 0, 0, 0, 0]
  fastPc : BitVec 64 := 0
  fastCause : BitVec 64 := 0
  fastMie : Bool := false
  fastPriv : Nat := 0
  fastVector : BitVec 64 := 0
deriving DecidableEq, Repr

/-- The interrupt controller beyond its registers. Slots and offers are keyed 2t + 1 for the fast class of target t and 2t
otherwise; windows are keyed t for a target and 16 + v for a vector. `pulse` holds the AON clock's count of a source's last edge
pulse (R98), `owing` that the messages of R97 after an absence have not been sent yet. -/
structure Icu where
  active : Map ActAt := []
  slot : Map Nat := []
  offer : Map Nat := []
  lastClaim : Map Nat := []
  win : Map ModWin := []
  heldCfg : Map Nat := []
  heldMsg : Tab := []
  l1Wait : Tab := []
  cores : Map CoreIrq := []
  fnMask : Bool := false
  msixEn : Bool := false
  pmeStatus : Bool := false
  pmeEn : Bool := false
  linkL1 : Bool := false
  pulse : Map Nat := []
  owing : Bool := true
  pendAt : Map Nat := []
deriving DecidableEq, Repr

/-- A descriptor fetched from a submission queue (R56); on an export ring, the status it ends with once its turn comes. -/
structure Fetched where
  idx : Nat
  w : BitVec 512
  ends : Option Nat := none
deriving DecidableEq, Repr

/-- A completion waiting to be written to a completion queue (R57, R59), with the data writes that go before it when the
function could not issue them. A silent one is the data of a quiet descriptor alone. `exp` marks a completion of export delivery,
`buf` the buffer and the byte in it that its records begin at (R63). -/
structure Cpl where
  seq : Nat
  result : Nat
  result2 : Nat
  tag : Nat
  status : Nat
  info : Nat
  irqNow : Bool
  data : List (Nat × List Byte) := []
  silent : Bool := false
  exp : Bool := false
  buf : Option (BitVec 512 × Nat) := none
deriving DecidableEq, Repr

/-- A buffer posted on an EXP_BUF, TE_BUF or LOG_BUF descriptor: its descriptor, how many bytes are filled, the sequence
and tick of its first record, how many records it holds, whether one of them is replayed. -/
structure PostedBuf where
  w : BitVec 512
  filled : Nat := 0
  firstSeq : Nat := 0
  firstTick : Nat := 0
  records : Nat := 0
  replay : Bool := false
  body : List Byte := []
deriving DecidableEq, Repr

/-- A ring pair (R50) beyond its registers: the doorbell values, the descriptors fetched and started, completions waiting,
posted buffers, the fence group's verdict, and a disable in progress. -/
structure Pair where
  sqTail : Nat := 0
  cqHead : Nat := 0
  fetched : List Fetched := []
  started : List Fetched := []
  waiting : List Cpl := []
  bufs : List PostedBuf := []
  groupBad : Bool := false
  disabling : Option Nat := none
deriving DecidableEq, Repr

/-- The configuration space of the PCIe function (R3, R44) beyond what the other commands hold: the command register, the base
addresses, Device Control (payload and read request sizes, relaxed ordering), Device Control 2 (completion timeout, LTR
enable), Link Control (ASPM), the LTR maxima, and the AER status, mask and severity registers. -/
structure PciCfg where
  cmd : Nat := 0
  bar0 : Nat := 0
  bar2 : Nat := 0
  bar4 : Nat := 0
  devCtl : Nat := 0x2810
  devCtl2 : Nat := 0
  linkCtl : Nat := 0
  ltr : Nat := 0
  aerUncStatus : Nat := 0
  aerUncMask : Nat := 0
  aerUncSeverity : Nat := 0x00462030
  aerCorStatus : Nat := 0
  aerCorMask : Nat := 0x00002000
deriving DecidableEq, Repr

/-- XDI beyond its registers: the pairs; the K rings, LIVE at the last start, a gap waiting for its completion, gaps reported and
sequences delivered above NEXT (R63, R65, R66, R70); the COMMIT value awaiting its journal entry (R68); the granted chunks (R71); consecutive completion timeouts
(R46); PERST#, the HOST domain's training state and the absence that timeouts caused; a negotiation that Boot holds (R49);
descriptors whose engine runs on though their completion is discarded, by pair (R52, R74); whether COMMIT has come from the
journal since the last reset of HOST's own device (R76). -/
structure Xdi where
  pairs : Map Pair := []
  kRings : List Nat := []
  liveAtStart : Nat := 0
  gap : Option (Nat × Nat) := none
  gapsReported : List (Nat × Nat) := []
  ahead : List Nat := []
  commitDirty : Bool := false
  chunks : List (Nat × Nat) := []
  revoking : List Desc := []
  ctoRun : Nat := 0
  ctoAbsent : Bool := false
  perst : Bool := true
  trainReady : Bool := false
  negDue : Bool := false
  gone : List (Nat × BitVec 512) := []
  commitKnown : Bool := false
  cfg : PciCfg := {}
deriving DecidableEq, Repr

/-- A line of the hot cache (R106): the record of an index, and whether it is newer than DRAM. -/
structure Line where
  idx : Nat
  img : Nat
  dirty : Bool
deriving DecidableEq, Repr

/-- A checkpoint copy in NAND (R118): the sequence it stands for and the records it holds. -/
structure Ckpt where
  seq : Nat
  recs : Map Nat
deriving DecidableEq, Repr

/-- A change of a record that waits its turn (R107, R145–R147): a command's, a transition of the block's own, a record window's
snapshot, a counter-only change (auth_fail returns to 0, and rule_fail rises where named), an authentication failure by its
attachment, or an engine's fields as first bit, width and value. -/
inductive Queued where
  | cmd (c : Desc)
  | own (i tgt reason : Nat)
  | window (i snap : Nat) (force : Bool)
  | count (i : Nat) (ruleFail : Bool)
  | auth (i attach : Nat)
  | fields (i : Nat) (l : List (Nat × Nat × Nat))
  | assign (c : Desc) (i : Nat) (l : List (Nat × Nat × Nat))
deriving DecidableEq, Repr

/-- The MSR block beyond its registers. Records are 256 B little-endian numbers by index; an index absent from `dram` holds a
Free record, as a rebuild left it where `rebuilt` (R118). `tableAt` is the base at which DRAM holds a valid table. The hot cache holds per set at most 16 lines, the most
recently used first. The free list is every index from `virgin` upward but `skip`, then `freed` (R100). `queue` are
the changes that wait, in arrival order, `lostHeld` reports of lost attachments held in Storm (R111). -/
structure Msr where
  dram : Map Nat := []
  tableAt : Option Nat := none
  cache : Map (List Line) := []
  virgin : Nat := 0
  skip : List Nat := []
  freed : List Nat := []
  rebuilt : Bool := false
  queue : List Queued := []
  lostHeld : List Nat := []
  writing : Option Ckpt := none
  copies : Map Ckpt := []
  newer : Nat := 1
deriving DecidableEq, Repr

/-- The commit unit beyond its registers (R144–R147, R394): the mark asked for, the next extension unit, the units not yet
flushed as (sequence, first, count), the tick a stall began, and REEL_STG_PUB and REEL_WLZ_ACK as DRAM keeps them over a warm
reset (R148). -/
structure CommitUnit where
  resReq : Nat := 0
  unitNext : Nat := 0
  units : List (Nat × Nat × Nat) := []
  stallAt : Option Nat := none
  kept : Option (Nat × Nat) := none
deriving DecidableEq, Repr

/-- A commit packet (R144): the lane, the index, the record as read, the frame with its payload in plain behind its prefix, the
resolved generation, the handle its key came under, the verdict and marks of validation; whether it is an injection, and of a frame
held while its meter was Quarantined. -/
structure Packet where
  lane : Nat
  index : Nat
  rd : Nat
  pre : List Byte
  frame : List Byte
  advance : Bool
  handle : Nat
  verdict : Nat
  mask : Nat := 0
  notify : Bool := false
  quar : Bool := false
  lessRegs : Bool := false
  ruleFail : Bool := false
  inject : Bool := false
  heldQuar : Bool := false
deriving DecidableEq, Repr

/-- Where a frame beyond its input buffer stands (R135, R144, R152, R259): waiting for the key store; in plain, at the replay check
behind an earlier frame of its index or at the rule chain for running (R158); in a commit packet; or facing a full exception ring with entries to post. -/
inductive LaneStage where
  | keyWait
  | replayWait (plain : List Byte) (handle : Nat)
  | packet (p : Packet)
  | post (entries : List (List Byte))
deriving DecidableEq, Repr

/-- A frame a lane works on: its item in the input buffer (prefix and frame), its index where known. -/
structure Work where
  item : List Byte
  index : Option Nat
  stage : LaneStage
deriving DecidableEq, Repr

/-- A lane beyond its registers: at most four frames, oldest first, and the ticks of its transient faults in the window. -/
structure Lane where
  work : List Work := []
  faults : List Nat := []
deriving DecidableEq, Repr

/-- Reel beyond its registers: the lanes; keys given to a lane at a retirement; keys whose frames are held, with the old lane
(R134); RESTORED commits per 1 ms bucket of the window, when their count falls below storm_off if none follows; entries that
wait for a ring without a lane; whether running has stood since Reel was enabled (R158); rings whose disabling waits for an entry
(R160). -/
structure Reel where
  lanes : Map Lane := []
  ovr : Map Nat := []
  moving : Map Nat := []
  restored : List (Nat × Nat) := []
  fell : Nat := 0
  started : Bool := false
  exqOff : List Nat := []
deriving DecidableEq, Repr

/-- A rule bank (R164, R167): the standard bank of the bundled microcode, whose tests and actions the spec gives and whose
instructions it does not, or a loaded image as a little-endian number with its count of instructions. -/
inductive Bank where
  | standard
  | image (img nwords : Nat)
deriving DecidableEq, Repr

/-- An entry of the de-duplication filter (R172). -/
structure DedupEnt where
  index : Nat
  fcnt : Nat
  stamp : Nat
  path : Nat
  bestPath : Nat
  bestQ : Nat
  mask : Nat := 0
  count : Nat := 0
deriving DecidableEq, Repr

/-- VAL beyond its registers: the banks (0 A, 1 B), the VAL_SWAP waiting for its old
chains, the filter by local index bits [15:0], a VAL_RESEQ waiting for its mark, the VAL_INJECTs that wait for the key store, the
commit unit or a full feed. -/
structure Val where
  banks : Map Bank := []
  swap : Option Desc := none
  filter : Map DedupEnt := []
  reseq : Option Desc := none
  inject : List Desc := []
deriving DecidableEq, Repr

/-- What an episode's feeds counted at a node (R208, R211). -/
structure NodeRest where
  affected : Nat := 0
  restored : Nat := 0
  flags : Nat := 0
  firstGasp : Nat := 0
  firstRestore : Nat := 0
  lastChange : Nat := 0
deriving DecidableEq, Repr

/-- An inference run (R201–R204): its descriptor, the one group it is limited to, passes done, meters reassigned, mismatches found,
meters assigned by command during the pass, its first tick. -/
structure InferRun where
  cmd : Option Desc
  group : Option Nat := none
  passes : Nat := 0
  moved : Nat := 0
  mism : Nat := 0
  assigned : List Nat := []
  start : Nat
deriving DecidableEq, Repr

/-- Waltz beyond its registers and the areas it keeps in memory. Counts per node (R186); the close that waits for its feeds, as (b,
sequence) (R197); the catch-up's next and last sequence (R191); a rebuild (its descriptor, first interval); runs in progress; the
episode's opening tick, opening second, last feed and first RESTORED ticks, highest sequence, counts per node, affected meters
without a node; the next report's tick, reports written, the last one's buffer; base intervals of the last inference and scoring;
scoring passes; the tick of the last source 225; node loads that wait for a close (R213); sequences applied above REEL_WLZ_ACK
(R190); supply-failed feeds as (meter, node, interval, whether counted) (R205). -/
structure Wlz where
  members : Map Nat := []
  unsettled : Map Nat := []
  sumEwma : Map Int := []
  closeAt : Option (Nat × Nat) := none
  catchUp : Option (Nat × Nat) := none
  rebuild : Option (Option Desc × Nat) := none
  infer : Option InferRun := none
  score : Option (Option Desc × Nat) := none
  epOpen : Nat := 0
  epOpenS : Nat := 0
  epLast : Nat := 0
  epRestored : Option Nat := none
  epSeq : Nat := 0
  rest : Map NodeRest := []
  orphans : Nat := 0
  reportDue : Nat := 0
  reports : Nat := 0
  lastReport : Option Nat := none
  inferB : Nat := 0
  scoreB : Nat := 0
  passNo : Nat := 0
  revAt : Option Nat := none
  recounted : Bool := false
  loads : List Desc := []
  ahead : List Nat := []
  failed : List (Nat × Nat × Nat × Bool) := []
deriving DecidableEq, Repr

/-- An acknowledgement request of a lane (R229): the meter, the arrival attachment, the frame's stamp and type. -/
structure AckReq where
  index : Nat
  eui : Nat
  attach : Nat
  stamp : Nat
  ftype : Nat
deriving DecidableEq, Repr

/-- A notice of the commit unit (R144 step 6): an ACK or PUSH_STATUS frame's meter, generation and payload. -/
structure Notice where
  ftype : Nat
  index : Nat
  eui : Nat
  gen : Nat
  body : List Byte
deriving DecidableEq, Repr

/-- Why a downlink frame is sent: an attempt of a meter's command, an answer of R229, an APDU command, or a campaign's
broadcast on a path (an activation or not). -/
inductive DlFor where
  | cmd (cseq : Nat)
  | reply
  | apdu (c : Desc)
  | push (slot path : Nat) (activation : Bool)
deriving DecidableEq, Repr

/-- A downlink frame waiting for release (R223, R232): where it goes, what it carries, and its sealed bytes once sealed. -/
structure DlFrame where
  id : Nat
  path : Nat
  attach : Nat
  index : Nat
  why : DlFor
  dtype : Nat
  dest : Nat
  group : Nat
  ackReq : Bool
  act : Bool
  payload : List Byte
  fcnt : Nat := 0
  body : List Byte := []
deriving DecidableEq, Repr

/-- Who a pending command answers to: a descriptor, a COMMAND campaign's member, or a campaign that delivers group keys. -/
inductive CmdFrom where
  | desc (c : Desc)
  | member (slot pos : Nat)
  | groupKey
deriving DecidableEq, Repr

/-- A pending command of the table at +0x5200_0000 (R231). -/
structure BCmd where
  index : Nat
  code : Nat
  cargs : List Byte
  noAck : Bool
  src : CmdFrom
  cseq : Nat := 0
  tries : Nat := 0
  fcnt : Nat := 0
deriving DecidableEq, Repr

/-- Bolero beyond its registers and its area in DRAM: the ack queue, the notices of the commit unit, the frames not yet
released, the pending commands in submission order, the descriptors that wait for a campaign's next phase, the members
that reported since the last window's end (slot × 2^20 + position), each member's path by slot × 2^20 + position, the generation each downlink counter counts under, the meters
whose reserved last counter is used, source blocks already sealed, whether the area's content was lost, and the slots in
use when it was; the group table as the settings store keeps it, as handle + bgen × 2^32 by group (R246); whether the epoch must
advance before the next seal, whether it should have passed 0xFF, and the counters that count anew since (R225): a meter's index, or
2^20 + a group; and members that a group key is still to be sent to, as (slot, position) (R237). -/
structure Bol where
  passed : List AckReq := []
  ackq : List AckReq := []
  notices : List Notice := []
  outq : List DlFrame := []
  nextId : Nat := 0
  cmds : List BCmd := []
  waiters : List (Nat × Desc) := []
  heard : List Nat := []
  mpath : Tab := []
  dlGen : Tab := []
  spent : List Nat := []
  sealedSrc : Map (List Byte) := []
  areaLost : Bool := true
  lostSlots : List Nat := []
  groups : Tab := []
  epochDue : Bool := false
  ended : Bool := false
  fresh : List Nat := []
  keyWait : List (Nat × Nat) := []
deriving DecidableEq, Repr

/-- A stored key in the internal key RAM (R261): its handle, parent, kid, generation, kind, its NVM slot, the key itself
(empty where its slot failed to unwrap), and the staged shadow with its key. -/
structure KeyEnt where
  handle : Nat
  parent : Nat
  kid : Nat
  gen : Nat
  kind : Nat
  slot : Nat
  key : List Byte
  bad : Bool := false
  shadow : Option Nat := none
  newKey : List Byte := []
deriving DecidableEq, Repr

/-- One NVM operation of the key store (R260): program or erase (value 0) a word of a slot, write the control page, or erase
a 4 KiB page of 64 slots or the control page. -/
inductive NvmAct where
  | word (slot w : Nat) (v : Nat)
  | ctl (issue check : Nat)
  | page (p : Nat)
  | ctlErase
deriving DecidableEq, Repr

/-- The key operations that take NVM time (R262, R263, R266, R274). -/
inductive KeyWork where
  | import | stage | stageFail | commit | abandon | destroy | init
deriving DecidableEq, Repr

/-- A key operation in progress: its descriptor, the NVM operations left, whether its commit or destroy point is passed. -/
structure KeyOp where
  cmd : Desc
  work : KeyWork
  acts : List NvmAct
  point : Bool := false
  ent : KeyEnt
  killed : List Nat := []
deriving DecidableEq, Repr

/-- A request for a derived key (R257): who asks, the district or group handle, the EUI-64 or group number, purpose,
generation, and whether it is made under the generation-advance row of R140. -/
structure KeyReq where
  who : Nat
  handle : Nat
  eui : Nat
  purpose : Nat
  gen : Nat
  advance : Bool
deriving DecidableEq, Repr

/-- An entry of the derived-key cache (R258). -/
structure CacheEnt where
  entry : Nat
  ident : Nat
  purpose : Nat
  gen : Nat
  key : List Byte
  handles : List Nat
deriving DecidableEq, Repr

/-- The last answer to an engine's own request: the key and the handle it came under, or a failure. -/
structure KeyGiven where
  ok : Bool
  key : List Byte
  handle : Nat
deriving DecidableEq, Repr

/-- Pavane beyond its registers. NVM slots are 64 B little-endian records, 0 when blank; the cache holds per set at most 16
entries, the most recently used first; `waiting` are operations that wait for an unlock or for the operation in progress; `bad` are the
slots marked bad (R261), `cutStage` the shadow that a KEY_STAGE cut short was filling (R264). -/
structure Pav where
  kek : Option (List Byte) := none
  nvm : Tab := []
  issue : Nat := 0
  check : Nat := 0
  ram : Map KeyEnt := []
  cache : Map (List CacheEnt) := []
  succ : List (Nat × Nat) := []
  op : Option KeyOp := none
  waiting : List (Nat × Desc) := []
  reqWait : List KeyReq := []
  given : Map KeyGiven := []
  bad : List Nat := []
  cutStage : Option Nat := none
  tlog : List Nat := []
deriving DecidableEq, Repr

/-- The AON real-time clock (R349): its count of 1/32,768 s at a moment of the AON clock. -/
structure Rtc where
  units : Nat := 0
  clk : Nat := 0
deriving DecidableEq, Repr

/-- A binding of a short address on a PLC channel (R290), bound or freed at a superframe: its EUI-64, unused standing grants,
standing offset, the uplink map named to it and when, the downlink map it named and when, whether a TM_REQ is open, DL
frames in a row without a SACK. Superframes are counted without wrap. -/
structure PlcBind where
  eui : Nat
  freed : Option Nat := none
  misses : Nat := 0
  offset : Nat := 0
  ulMod : Nat := 0
  ulMask : Nat := 0
  ulAt : Option Nat := none
  dlMod : Nat := 0
  dlMask : Nat := 0
  dlAt : Option Nat := none
  asked : Bool := false
  noSack : Nat := 0
deriving DecidableEq, Repr

/-- A partial uplink frame (R294): its sender, fid and segment count, the segments held, the superframe it began in, and stamp
and offset of segment 0. -/
structure PlcPart where
  src : Nat
  fid : Nat
  count : Nat
  segs : Map (List Byte)
  since : Nat
  stamp : Nat := 0
  zc : Nat := 0x7FFFFFFF
  quality : Nat := 255
deriving DecidableEq, Repr

/-- A downlink frame in a channel's queue (R300): its fid once sent, the segments sent, those the meter holds, how many superframes it
was sent in. -/
structure PlcJob where
  frame : DlFrame
  fid : Option Nat := none
  sent : Nat := 0
  held : Nat := 0
  tries : Nat := 0
deriving DecidableEq, Repr

/-- A PLC channel beyond its registers: superframes counted, bindings by short address, partial frames, frames passed on
(source, fid, count, superframe), acknowledgements for the next beacon by source × 256 + fid, meters with more to send, grants
moved to the next superframe, queued control MPDUs (destination, type, data), the queue, the next fid, whether no superframe was numbered yet, the last zero-crossing
edge, the last captures with whether each was valid, captures lost (R26), the run of valid periods, whether the listen heard another
coordinator, the ticks of transient faults; in a PAIR_SWAP, whether this unit's last beacon is still to come, or the partner's
(R434). -/
structure Plc where
  sf : Nat := 0
  binds : Map PlcBind := []
  parts : List PlcPart := []
  passed : List (Nat × Nat × Nat × Nat) := []
  acks : Tab := []
  more : List Nat := []
  moved : List (Nat × Nat) := []
  ctl : List (Nat × Nat × List Byte) := []
  uni : List PlcJob := []
  bcast : List PlcJob := []
  fid : Nat := 0
  fresh : Bool := true
  zcLast : Option Nat := none
  zcCaps : List (Nat × Bool) := []
  zcGone : Nat := 0
  zcRun : Nat := 0
  alien : Bool := false
  faults : List Nat := []
  last : Bool := false
  partner : Bool := false
deriving DecidableEq, Repr

/-- The PLC channels. -/
abbrev Plk := Map Plc

/-- A parameter change of a Schedule connection under way (R334): its instant, the new parameters, whether the meter
acknowledged it. -/
structure RadUpd where
  instant : Nat
  interval : Nat
  sup : Nat
  ofs : Nat
  map : Nat
  acked : Bool := false
deriving DecidableEq, Repr

/-- The frame of a Schedule connection the meter has not acknowledged (R329): a poll, a parameter change, or a downlink frame
with the events it was sent in. -/
inductive RadOut where
  | poll
  | upd
  | dl (frame : DlFrame) (events : Nat)
deriving DecidableEq, Repr

/-- A binding or connection of a radio channel (R321, R330), by short address or connection number: its EUI-64, when it ended,
the quality of its hop to its parent, its link entry where it has no record yet, the parents it moved from whose routes are not
yet deleted, whether it was reported lost, the parameters of a connection without a record, the alternating
numbers of R329, the unacknowledged frame, a parameter change, the last event's start. -/
structure RadBind where
  eui : Nat
  freed : Option Nat := none
  hopq : Nat := 0
  own : Option Nat := none
  old : List Nat := []
  lost : Bool := false
  par : Option (Nat × Nat × Nat × Nat) := none
  sn : Bool := false
  nesn : Bool := false
  flight : Option RadOut := none
  upd : Option RadUpd := none
  evAt : Int := 0
deriving DecidableEq, Repr

/-- What a Cell-mode unicast frame carries: a downlink frame, or a control frame of a type at a level. -/
inductive RadJob where
  | dl (frame : DlFrame)
  | ctl (mtype level : Nat) (body : List Byte)
deriving DecidableEq, Repr

/-- A Cell-mode unicast frame (R320, R335): its final address, the hop it must take when no route exists, transmissions in this
attempt, attempts, its auxiliary header and body once sealed, its sequence number while sent. -/
structure RadTx where
  job : RadJob
  final : Nat
  via : Option Nat := none
  tries : Nat := 0
  attempts : Nat := 0
  pay : Option (List Byte × List Byte) := none
  seq : Nat := 0
deriving DecidableEq, Repr

/-- A parent change (R323): the meter, its new parent with quality and depth, the ROUTE frames (ancestor, entries) not yet
acknowledged, those of step 1, attempts of the first, the route version, whether it has come to step 4 (deletes). -/
structure RadChange where
  meter : Nat
  parent : Nat
  quality : Nat
  depth : Nat
  toAck : List (Nat × List (Nat × Nat))
  all : List (Nat × List (Nat × Nat))
  tries : Nat := 0
  ver : Nat
  drop : Bool := false
deriving DecidableEq, Repr

/-- A radio channel beyond its registers: bindings, beacon and route numbers, the sequence number, Cell unicast frames with
the first perhaps in the air, broadcast frames, Schedule unicast frames, parent changes, the advertising channel in turn,
where the last event ends in device time, the RF channel tuned to, transmissions of the last hour (tick, airtime), ticks of
transient faults, whether another coordinator was heard since the start-up listen began, whether it listens for one CONN_REQ,
whether the partner's last beacon of a PAIR_SWAP is still to come (R434). -/
structure Rad where
  binds : Map RadBind := []
  bseq : Nat := 0
  routeVer : Nat := 0
  seq : Nat := 0
  txq : List RadTx := []
  flying : Bool := false
  bcast : List DlFrame := []
  uni : List DlFrame := []
  changes : List RadChange := []
  advIdx : Nat := 0
  evEnd : Int := 0
  tuned : Option Nat := none
  air : List (Nat × Nat) := []
  faults : List Nat := []
  alien : Bool := false
  accept : Bool := false
  partner : Bool := false
deriving DecidableEq, Repr

/-- Mazurka beyond its registers and its link table in DRAM: the channels, and the indices whose downlink link counter is
used up under a key index (R316). -/
structure Mzk where
  chans : Map Rad := []
  spent : List Nat := []
deriving DecidableEq, Repr

/-- A segment of device time (R342, R343): its first tick, its base in ns, its scheme (tick or nanosecond counter), the rate
with any slew in 32.32 ppb, and the counter's increment. -/
structure Seg where
  start : Nat
  base : Int
  byTick : Bool
  rate : Int
  incr : Nat
deriving DecidableEq, Repr

/-- A slew in progress (R347): its ns, its rate in ppb, its first tick, and the TE_ADJ descriptor that asked for it. -/
structure Slew where
  s : Int
  ppb : Nat
  start : Nat
  cmd : Option Desc
deriving DecidableEq, Repr

/-- A pulse output (R359): the next pulse time and the trailing edge of a pulse under way, in ns of device time, with the tick
of its leading edge. -/
structure Pulse where
  next : Int := 0
  trail : Option Int := none
  leadTick : Nat := 0
deriving DecidableEq, Repr

/-- The TSU beyond its registers: at most 8 segments, newest first; the slew; the servo's integral term in 32.32 ppb; the last
capture and the last valid one; pulses; events ever posted and events lost since the last delivery; per master the captures
of TSU_NOW and TSU_CONV (R367). -/
structure Tsu where
  segs : List Seg := [{ start := 0, base := 946684800000000000, byTick := false, rate := 0, incr := 0x1000000 }]
  slew : Option Slew := none
  integral : Int := 0
  lastCap : Option Nat := none
  lastValid : Nat := 0
  pulses : Map Pulse := []
  posted : Nat := 0
  teLost : Nat := 0
  nowCap : Map (Nat × Nat × Nat) := []
  convCap : Map (Nat × Nat) := []
deriving DecidableEq, Repr

/-- A MACsec SA (R381, R382): association number, next PN to send or lowest PN to accept, SSCI, salt, SAK. -/
structure EthSa where
  an : Nat
  pn : Nat
  ssci : Nat
  salt : List Byte
  key : List Byte
deriving DecidableEq, Repr

/-- A tunnel datagram that waits for its port (R374): the concentrator, and its entries with the tick after which an actuating
one may no longer start; no entries make a keepalive. -/
structure EthGram where
  conc : Nat
  entries : List (DlFrame × Option Nat)
deriving DecidableEq, Repr

/-- A port beyond its registers and partitions: classes paused, control frames ignored after a pause storm, partitions above
xoff, waiting tunnel datagrams, SA slots, the transmit queue served last, the source served last (0 tunnel datagrams, 1 forwarded
frames, 2 transmit queues), ticks of transient faults. -/
structure EthPort where
  pause : Nat := 0
  ignoring : Bool := false
  xoff : Nat := 0
  grams : List EthGram := []
  sas : Map EthSa := []
  lastQ : Nat := 7
  lastSrc : Nat := 2
  faults : List Nat := []
deriving DecidableEq, Repr

/-- The Ethernet block beyond its registers: the ports, the concentrator table as 32 B numbers, the next tseq to each
concentrator, and the learning table (MAC, VLAN, port). -/
structure Eth where
  ports : Map EthPort := []
  concs : Map Nat := []
  tseq : Map Nat := []
  fdb : List (Nat × Nat × Nat) := []
deriving DecidableEq, Repr

/-- A journal entry (R400). -/
inductive JEnt where
  | sect (lsn place : Nat)
  | trim (lsn count nseq : Nat)
  | seg (s : Nat)
  | openBlk (die blk : Nat)
  | eraseBegin (die blk : Nat)
  | free (die blk erases : Nat)
  | retire (die blk : Nat)
  | sdisc (begun : Bool) (lsn count : Nat)
  | sysval (id v : Nat)
deriving DecidableEq, Repr

/-- A sector programmed in NAND (R390): its metadata, and its 4 KiB of data as a little-endian number. -/
structure NandSect where
  lsn : Nat
  nseq : Nat
  kind : Nat
  part : Bool := false
  data : Nat := 0
deriving DecidableEq, Repr

/-- What a block is in (R403–R412): free, open for a stream, closed, retired, being erased, or an anchor block. -/
inductive BlkUse where
  | free | opened | closed | retired | erasing | anchor
deriving DecidableEq, Repr

/-- A block: its use, its erases since the last format, its next sector to program, its highest nseq. -/
structure NandBlk where
  use : BlkUse := .free
  erases : Nat := 0
  next : Nat := 0
  nb : Nat := 0
deriving DecidableEq, Repr

/-- A program under way or waiting for a block (R395, R410): where, what, its stream, the records or units done with it, the
host write it belongs to. -/
structure GavProg where
  place : Option Nat
  sect : NandSect
  stream : Nat
  upto : Nat := 0
  cmd : Option Desc := none
deriving DecidableEq, Repr

/-- A collection (R406): the source block, its phase, the SECT entries of its copies. -/
inductive GcPhase where
  | copy | journal | erase
deriving DecidableEq, Repr
structure GcRun where
  src : Nat
  phase : GcPhase := .copy
  sects : List JEnt := []
deriving DecidableEq, Repr

/-- A secure discard (R408): its descriptor (none after a mount), its ranges of lsn, its range of pseq, lsns rewritten in
part, whether its entries are durable, the blocks left to collect. -/
structure SdOp where
  cmd : Option Desc
  ranges : List (Nat × Nat)
  seqs : Option (Nat × Nat) := none
  part : List Nat := []
  begun : Bool := false
  blocks : List Nat := []
deriving DecidableEq, Repr

/-- Gavotte beyond its registers. What NAND keeps: the board's NAND (R389), whether an anchor exists, sectors by physical place
(R398), blocks by die × 16,384 + block, format count, the durable map, SYSVALs, discards begun, anchors as (die, block), region
sizes, the next nseq, units programmed, retired dies. What a reset ends: the map, journal entries not yet durable, open blocks by
stream (0 records, 1 extension, 2 host, 4 map segments, 5 journal, 256 + die the collector's), the round robin, programs, collections,
waiting descriptors, records and units issued and done, the segment cache (most recent first, with dirty) and its host slots,
journal sectors since the root checkpoint, block retirements by die, a mount's outcome. -/
structure Gav where
  luns : Nat := 2
  planes : Nat := 2
  page : Nat := 1
  ppb : Nat := 1024
  blocks : Nat := 4096
  present : Nat := 0xFFFFFFFF
  formatted : Bool := false
  clean : Bool := false
  sects : Map NandSect := []
  blks : Map NandBlk := []
  formats : Nat := 0
  dmap : Tab := []
  sysval : Map Nat := []
  sdiscs : List (Nat × Nat) := []
  anchors : List (Nat × Nat) := []
  recGib : Nat := 0
  extGib : Nat := 0
  hostGib : Nat := 0
  eGib : Nat := 0
  nseq : Nat := 0
  extDone : Nat := 0
  deadDies : List Nat := []
  segAt : Map Nat := []
  cut : Nat := 0
  map : Tab := []
  jpend : List JEnt := []
  opened : Map Nat := []
  robin : Map Nat := []
  prog : List GavProg := []
  gc : Map GcRun := []
  collecting : List Nat := []
  gcNow : List (Desc × List Nat) := []
  doomed : List Nat := []
  discards : List SdOp := []
  writes : List (Desc × Nat) := []
  trims : List (Desc × JEnt) := []
  flushes : List (Desc × Nat) := []
  recIssued : Nat := 0
  recDone : Nat := 0
  extIssued : Nat := 0
  segs : List (Nat × Bool) := []
  hostSegs : List (Nat × Nat) := []
  jSects : Nat := 0
  jBlks : List Nat := []
  dieEv : Map (List Nat) := []
  mounted : Option Bool := none
deriving DecidableEq, Repr

/-- A message to the partner before the link numbers it (R424, R425). -/
structure EplMsg where
  mtype : Nat
  mflags : Nat
  payload : List Byte
deriving DecidableEq, Repr

/-- A mismatch round (R437): its batch, the mismatched identities, this unit's and the partner's failed parts once known, the
entries this unit recomputed, the partner's, and whether the self-test runs. -/
structure EplRound where
  batch : Nat
  idents : List (List Byte) := []
  own : Option Nat := none
  partner : Option Nat := none
  mine : List (List Byte) := []
  theirs : Option (List (List Byte)) := none
deriving DecidableEq, Repr

/-- A resynchronisation this standby asked for (R442): mode, the command that asked, the indices received. -/
structure EplResync where
  mode : Nat
  cmd : Option Desc
  got : List Nat := []
deriving DecidableEq, Repr

/-- The pair link beyond its registers. `expiry` is the holder's own expiry (none while it holds without a lease), `view` the
other unit's, `handAt` the handover instant of a TOKEN_RELEASE, `swap` the instant of a PAIR_SWAP and its command. `unacked`
are messages sent by link sequence, `waiting` those not sent yet. `cmp` holds this unit's own digest entries with the tick
they were made, `rx` the parts of batches arriving, `due` the batches complete since a tick. `dead`: the link has been down for dead_ms; `synced`:
this unit's records follow the active's; `selfRetired` is held in AON (R444); `ksum` the parts of a KEY_SUMMARY; `ready` the standby_ready of the partner's last HELLO; `handed`
whether this unit became active by the partner's TOKEN_RELEASE (R434). -/
structure Epl where
  lanes : Bool := false
  formed : Bool := false
  session : Nat := 0
  seen : List Nat := []
  expiry : Option Nat := none
  view : Option Nat := none
  handAt : Option Nat := none
  swap : Option (Nat × Option Desc) := none
  grant : Option Nat := none
  renewNo : Nat := 0
  leases : Map Nat := []
  txNext : Nat := 0
  unacked : List (Nat × EplMsg) := []
  sends : Nat := 0
  rxLast : Option Nat := none
  waiting : List EplMsg := []
  overflow : Bool := false
  downAt : Option Nat := none
  batchNo : Nat := 0
  batch : List (List Byte) := []
  cmp : List (Nat × List Byte) := []
  rx : Map (Map (List Byte)) := []
  due : List (Nat × Nat × List (List Byte)) := []
  round : Option EplRound := none
  later : List (Nat × List (List Byte)) := []
  diverged : List (List Byte) := []
  faults : List Nat := []
  held : List (Nat × List Byte) := []
  keyHeld : List (List Byte) := []
  resync : Option EplResync := none
  reads : List WinWait := []
  nextTag : Nat := 0
  dead : Bool := false
  synced : Bool := false
  selfRetired : Bool := false
  ksum : List Byte := []
  partnerSession : Nat := 0
  ready : Bool := false
  handed : Bool := false
deriving DecidableEq, Repr

/-- A boot record (R452): its sequence, committed and provisional slots (next 0xFF: none), starts remaining, flags, versions,
rollback indices, cause of the last revert. -/
structure BootRec where
  seq : Nat := 0
  active : Nat := 0
  next : Nat := 0xFF
  tries : Nat := 0
  bflags : Nat := 0
  activeVer : Nat := 0
  nextVer : Nat := 0
  activeRb : Nat := 0
  nextRb : Nat := 0
  lastCause : Nat := 0
deriving DecidableEq, Repr

/-- A settings item (R460). -/
structure SetItem where
  id : Nat
  iver : Nat
  iflags : Nat
  data : List Byte
deriving DecidableEq, Repr

/-- A copy of the settings store (R460). -/
structure SetCopy where
  sver : Nat
  gen : Nat
  committed : Bool
  owner : Nat
  items : List SetItem := []
deriving DecidableEq, Repr

/-- The bundle a slot and its backup hold (R451, R453): what its header says, and its bytes (none for the image the board comes
with, log entry 10). -/
structure SlotImg where
  ver : Nat
  rb : Nat
  sver : Nat
  sverMin : Nat
  keySlot : Nat := 0
  sigSlot : Nat := 0
  bytes : List Byte := []
deriving DecidableEq, Repr

/-- What follows once a boot record is written (R463–R465). -/
inductive RecAfter where
  | none
  | activate (force : Bool)
  | accept
  | revert
  | defaults
deriving DecidableEq, Repr

/-- A program of QSPI (and NAND) under way or waiting (R463): a slot with its backup, a boot record, a settings item with the result
its command completes with, the state word of an accepted copy. -/
inductive QspiOp where
  | slot (c : Desc) (s : Nat) (img : SlotImg)
  | record (r : BootRec) (after : RecAfter) (c : Option Desc)
  | item (i : SetItem) (mirror : Bool) (c : Option Desc) (res : Nat)
  | commitCopy (c : Option Desc)
deriving DecidableEq, Repr

/-- UPD beyond its registers (chapter 16). What QSPI, NAND and the fuses keep: boot record copies, slots, settings copies, the
anti-rollback count, revoked keys, the tables persisted in the NAND system region by the 16 B of their directory entry. AON SRAM: the slot of the last verified start. Programs waiting; the session's length, bundle,
next id, staged 4 KiB blocks, whether UPD_VERIFY passed, when its lease ends; a restart that a delay holds back, with its force
flag; the hold of R465; whether Boot has loaded its components; a Recovery request (R444, R492); an activation delay that ended in Storm. -/
structure Upd where
  recs : Map BootRec := [(0, { seq := 1, activeVer := 0x01000000 })]
  slots : Map SlotImg := [(0, { ver := 0x01000000, rb := 0, sver := 1, sverMin := 1 })]
  stores : Map SetCopy := [(0, { sver := 1, gen := 1, committed := true, owner := 0 })]
  fuses : Nat := 0
  revoked : Nat := 0
  tables : Map Tab := []
  lastOk : Option Nat := none
  ops : List QspiOp := []
  length : Nat := 0
  bundleId : Nat := 0
  nextId : Nat := 1
  got : List Nat := []
  verified : Bool := false
  leaseAt : Option Nat := none
  restart : Option Bool := none
  hold : Bool := false
  booted : Bool := false
  recovery : Bool := false
  due : Bool := false
deriving DecidableEq, Repr

/-- The PMU and the DMC beyond their registers (chapter 17). The Storm budget in ns at a moment of the AON clock (R474); the
watchdog's first half passed (R486); who asked for a SOFTRST, as soft_src (R485); DOMRST commands waiting, by domain (R494);
ticks of core faults by core (R492); retire causes by kind × 2^32 + index (R493); whether VAON and VBAT are present (R528);
ticks of corrected errors by DRAM row; the repair table (R491); the 4 B words of DRAM that read poisoned; the straps as last
sampled and whether QSPI is read in 1-4-4 DTR mode (R530). -/
structure Pmu where
  budget : Nat := 120000000000
  budgetAt : Nat := 0
  half : Bool := false
  soft : Option Nat := none
  domCmds : Map Desc := []
  coreFaults : Map (List Nat) := []
  causes : Map Nat := []
  vaon : Bool := true
  vbat : Bool := true
  rowErrs : Map (List Nat) := []
  rows : List Nat := []
  poison : List Nat := []
  straps : Nat := 0
  qspiDtr : Bool := false
deriving DecidableEq, Repr

/-- A trouble-log event a block has offered and the log has not taken yet (R511): its tick, the writer's identity, severity,
code and parameters. -/
structure LogEv where
  tick : Nat
  src : Nat
  sev : Nat
  code : Nat
  p0 : Nat
  p1 : Nat
  p2 : Nat
deriving DecidableEq, Repr

/-- The rate limiter of one source identity (R513): tokens used since the bucket was last full at `base`; records
suppressed, the last one's code, the ticks of the first and last. -/
structure LogBucket where
  used : Nat := 0
  base : Nat := 0
  supp : Nat := 0
  lastCode : Nat := 0
  firstTick : Nat := 0
  lastTick : Nat := 0
deriving DecidableEq, Repr

/-- The trouble log beyond its registers: the slots by number (32 B little-endian records, R510), events offered, the run of
lost records and the tick of its first (R512), the buckets, the lseq next to be drained, and the heads that CQ entries of
unacknowledged LOG_BUF completions carry (R515). -/
structure TroubleLog where
  slots : Tab := []
  offered : List LogEv := []
  lostRun : Nat := 0
  lostFirst : Nat := 0
  buckets : Map LogBucket := []
  drain : Nat := 1
  acks : List (Nat × Nat) := []
deriving DecidableEq, Repr

/-- A histogram set's counts (R502): bins, samples, signed sum, the tick its interval began, FIFO drops at that moment. -/
structure HistSet where
  bins : Tab := []
  count : Nat := 0
  sum : Int := 0
  start : Nat := 0
  drops : Nat := 0
deriving DecidableEq, Repr

/-- An extreme tracker (R504). -/
structure ExtTracker where
  count : Nat := 0
  sum : Int := 0
  last : Int := 0
  min : Int := 0
  max : Int := 0
  minTick : Nat := 0
  maxTick : Nat := 0
  start : Nat := 0
  drops : Nat := 0
deriving DecidableEq, Repr

/-- Sarabande beyond its registers: the sets, the trackers, SRB_FQ0 drops ever, a captured snapshot waiting to be written,
the ring's next unit, the records held in the ring as (rseq, unit, units), and of the samples taken at the newest tick counted:
that tick, the samples, and the sets and trackers as they stood before them (R505). -/
structure Srb where
  hist : Map HistSet := []
  ext : Map ExtTracker := []
  drops : Nat := 0
  capture : List (List Byte) := []
  ringPos : Nat := 0
  held : List (Nat × Nat × Nat) := []
  curTick : Nat := 0
  cur : List (Nat × Nat × Int) := []
  curHist : Map HistSet := []
  curExt : Map ExtTracker := []
deriving DecidableEq, Repr

/-- The device: everything but the queue of waiting commands. -/
structure Dev where
  /-- Register fields, stored as value xor reset value under the field's bit address. -/
  regs : Tab := []
  /-- Hall, AON SRAM, boot ROM and DRAM bytes (R32) outside the tables that blocks keep in DRAM. -/
  mem : Memory := []
  /-- FIFO contents by the offset of their CTRL register (R29). -/
  fifos : Map Fifo := []
  /-- The tick, in ns (R341, R350): it starts at 0 after PINRST, MAINPOR, AONPOR and Dormant. -/
  tick : Nat := 0
  /-- The AON domain's own time, in ns since AONPOR (R349). -/
  clk : Nat := 0
  /-- How many free values have been drawn (the model's own field, log entry 2). -/
  fresh : Nat := 0
  /-- What has been sent out, newest last (the model's own field, log entry 4). -/
  out : List Out := []
  sys : Sys := {}
  icu : Icu := {}
  xdi : Xdi := {}
  msr : Msr := {}
  cu : CommitUnit := {}
  reel : Reel := {}
  val : Val := {}
  wlz : Wlz := {}
  bol : Bol := {}
  pav : Pav := {}
  rtc : Rtc := {}
  plk : Plk := {}
  mzk : Mzk := {}
  tsu : Tsu := {}
  eth : Eth := {}
  gav : Gav := {}
  epl : Epl := {}
  upd : Upd := {}
  pmu : Pmu := {}
  log : TroubleLog := {}
  srb : Srb := {}
deriving DecidableEq, Repr

/-- The machine: the device, and the commands waiting for it, first in first out. -/
structure State where
  dev : Dev
  pending : List Instr
deriving DecidableEq, Repr

/-- Why a step can stop for good. No meaning of this model raises one. -/
inductive Fault where
  /-- Raised by nothing: every command of the table has an effect the spec gives. Safe. -/
  | none
deriving DecidableEq, Repr

/-- Why a step can be refused. -/
inductive Refusal where
  /-- The command has no meaning in the model yet; raised by Dispatch alone. Safe. -/
  | notModelled (mnemonic : String)
deriving DecidableEq, Repr

/-- The device right after AONPOR (R6, R13): every register at its reset value, memory with nothing listed. -/
def Dev.reset : Dev := {}

/-- The machine right after reset, with no command waiting. -/
def State.reset : State := { dev := Dev.reset, pending := [] }

end Sys2Proof.Machine
end

