-- ==== Sys2Proof/Machine/Flags.lean ====
section
/-! DEFINITION. Reading and writing register fields, and the three ways hardware marks an event in one: a sticky flag set, a
saturating counter raised, a bit of a word changed. -/

namespace Sys2Proof.Machine

/-- The value of a register field. -/
def Dev.rd (d : Dev) (f : Fld) : Nat := tget d.regs f.key ^^^ f.reset

/-- Store a field (hardware's own write): the value cut to the field's width. -/
def Dev.wr (d : Dev) (f : Fld) (v : Nat) : Dev :=
  { d with regs := tset d.regs f.key ((v % 2 ^ f.width) ^^^ f.reset) }

/-- Whether a one-bit field reads 1. -/
def Dev.on (d : Dev) (f : Fld) : Bool := d.rd f != 0

/-- Set a flag (R14: an event that sets a sticky bit is never lost). -/
def Dev.setF (d : Dev) (f : Fld) : Dev := d.wr f 1

/-- Clear a flag. -/
def Dev.clrF (d : Dev) (f : Fld) : Dev := d.wr f 0

/-- Write a flag. -/
def Dev.flag (d : Dev) (f : Fld) (b : Bool) : Dev := d.wr f (b2n b)

/-- Raise a counter by k, saturating at the field's largest value. -/
def Dev.bump (d : Dev) (f : Fld) (k : Nat := 1) : Dev := d.wr f (satAdd (2 ^ f.width - 1) (d.rd f) k)

/-- Raise a counter by k, wrapping. -/
def Dev.incr (d : Dev) (f : Fld) (k : Nat := 1) : Dev := d.wr f (d.rd f + k)

/-- Lower a count by one, not below 0. -/
def Dev.decr (d : Dev) (f : Fld) : Dev := d.wr f (d.rd f - 1)

/-- Set or clear bit i of a field. -/
def Dev.wrBit (d : Dev) (f : Fld) (i : Nat) (b : Bool) : Dev := d.wr f (setBits (d.rd f) i 1 (b2n b))

/-- A value where 0 acts as another one. -/
def zeroAs (v dflt : Nat) : Nat := if v = 0 then dflt else v

end Sys2Proof.Machine
end

