-- ==== Sys2Proof/Machine/Operands.lean ====
section
/-! DEFINITION. The operand forms: the fields of a 64 B descriptor (R53), the version and mode tests many opcodes make, and
the translation of an access's address through a host BAR or Minuet's view (R30, R34). -/

namespace Sys2Proof.Machine

/-- The descriptor as a little-endian number. -/
def Desc.n (c : Desc) : Nat := c.w.toNat

/-- Byte 0: the opcode. -/
def wOpcode (w : BitVec 512) : Nat := byts w.toNat 0 1

/-- Byte 1: the flags. -/
def wFlags (w : BitVec 512) : Nat := byts w.toNat 1 1

/-- flags[0]: fence (R56). -/
def wFence (w : BitVec 512) : Bool := bit (wFlags w) 0

/-- flags[1]: the completion bypasses moderation. -/
def wIrqNow (w : BitVec 512) : Bool := bit (wFlags w) 1

/-- flags[2]: no completion on success. -/
def wQuiet (w : BitVec 512) : Bool := bit (wFlags w) 2

/-- Bytes 2–3: the host's tag. -/
def wTag (w : BitVec 512) : Nat := byts w.toNat 2 2

/-- Bytes 4–7: the handle. -/
def wHandle (w : BitVec 512) : Nat := byts w.toNat 4 4

/-- Bytes 8–15: the buffer's address. -/
def wAddr (w : BitVec 512) : Nat := byts w.toNat 8 8

/-- Bytes 16–19: the buffer's length. -/
def wLen (w : BitVec 512) : Nat := byts w.toNat 16 4

/-- n bytes of the descriptor from byte o, o counted as the chapters count the args (24–63). -/
def wArg (w : BitVec 512) (o n : Nat) : Nat := byts w.toNat o n

/-- Whether every byte of the descriptor from byte a up to byte b (excluded) is 0. -/
def wZero (w : BitVec 512) (a b : Nat) : Bool := byts w.toNat a (b - a) == 0

/-- A mask of w-byte positions 4–63: the bytes an opcode uses; every other one must be 0 (unused fields must be 0). -/
def wUnusedZero (w : BitVec 512) (used : List (Nat × Nat)) : Bool :=
  (List.range 60).all fun i =>
    let o := i + 4
    used.any (fun r => r.1 ≤ o && o < r.2) || byts w.toNat o 1 == 0

/-- The reserved bits and bytes of every descriptor (R53, R54). -/
def wReservedOk (w : BitVec 512) : Bool := byts w.toNat 20 4 == 0 && bits (wFlags w) 3 5 == 0

/-- The internal address an access reaches, or none where its view reaches nothing there (R30, R34). `aper` is the base of
BAR4's aperture, `mnt` of Minuet's window. A configuration request reaches no memory. -/
def viewAddr (p : Port) (a aper mnt : Nat) : Option Nat :=
  match p with
  | .internal => if a < 2 ^ 48 then some a else none
  | .bar0 => if a < 0x4000000 then some a else none
  | .bar2 => if a < 0x4000000 then some (0x100000000 + a) else none
  | .bar4 => if a < 0x40000000 then some (aper + a) else none
  | .config => none
  | .minuet =>
    if a < 0x40000000 then some a else if a < 0x80000000 then some (mnt + (a - 0x40000000)) else none

end Sys2Proof.Machine
end

