-- ==== Sys2Proof/Machine/Ops.lean ====
section
/-! DEFINITION. The operations every block uses: sending something out, drawing a free value, power domains and modes, memory
reads and writes, FIFOs with their watermarks (R21–R29), generic register access by type codes (R9–R14), resets of a domain's
registers (R13). -/

namespace Sys2Proof.Machine

/-! ### Outputs, free values, time -/

/-- A command has run: the device is as its meaning left it, the queue as it was. -/
def ran (s : State) (d : Dev) : Host.Outcome State Fault Refusal := .next { s with dev := d }

/-- Record something sent out. -/
def Dev.emit (d : Dev) (o : Out) : Dev := { d with out := d.out ++ [o] }

/-- Record several things sent out. -/
def Dev.emits (d : Dev) (os : List Out) : Dev := { d with out := d.out ++ os }

/-- The free value the next draw gives. -/
def Dev.freeVal (d : Dev) (w : Nat) : Nat := (Config.freeValue d.fresh).toNat % 2 ^ w

/-- Offer an event to the trouble log (R511); LOG_RECORD writes it. -/
def Dev.trouble (d : Dev) (src sev code : Nat) (p0 p1 p2 : Nat := 0) : Dev :=
  { d with log := { d.log with offered := d.log.offered ++
    [{ tick := d.tick, src := src, sev := sev, code := code, p0 := p0 % 2 ^ 32, p1 := p1 % 2 ^ 32, p2 := p2 % 2 ^ 32 }] } }

/-- The identity under which PMU, EPL, UPD, DMC, SYS and ICU log: Minuet's (log entry 6). -/
def minuetId : Nat := 0x09

/-- An access that cannot be served (R38, R40): its SYS_ERR_STATUS bit, and the capture if it is free, which is logged (R511). -/
def Dev.errCapture (d : Dev) (kind master addr : Nat) (write : Bool) : Dev :=
  let d := d.setF { F.SYS_ERR_STATUS_bad_access with key := F.SYS_ERR_STATUS_bad_access.key + kind }
  if d.on F.SYS_ERR_SRC_valid then d
  else
    let d := (((d.setF F.SYS_ERR_SRC_valid).wr F.SYS_ERR_SRC_master master).wr F.SYS_ERR_SRC_kind kind).flag F.SYS_ERR_SRC_write write
    let d := (d.wr F.SYS_ERR_ADDR_LO_addr_lo addr).wr F.SYS_ERR_ADDR_HI_addr_hi (addr / 2 ^ 32)
    d.trouble minuetId 2 9 (2 ^ 31 + master % 64 * 256 + kind * 16 + b2n write) addr (addr / 2 ^ 32 % 65536)

/-- Advance past one free value. -/
def Dev.drawn (d : Dev) : Dev := { d with fresh := d.fresh + 1 }

/-- The tick as a 64-bit count. -/
def Dev.now (d : Dev) : Nat := d.tick

/-- The AON real-time clock in units of 1/32,768 s (R349). -/
def Dev.rtcUnits (d : Dev) : Nat := d.rtc.units + (d.clk - d.rtc.clk) * 32768 / 1000000000

/-- ns in a millisecond. -/
def msNs : Nat := 1000000

/-- ns in a second. -/
def sNs : Nat := 1000000000

/-! ### Modes and power domains -/

/-- The power domains in the bit order of PMU_DOM (R498). -/
inductive Dom where
  | aon | fab | qda | qdb | reel | keyc | wlz | gav | dmc | bhe | age | feb | host | epl | aux
deriving DecidableEq, Repr

/-- The bit of a domain in PMU_DOM. -/
def Dom.idx : Dom → Nat
  | .aon => 0 | .fab => 1 | .qda => 2 | .qdb => 3 | .reel => 4 | .keyc => 5 | .wlz => 6 | .gav => 7 | .dmc => 8
  | .bhe => 9 | .age => 10 | .feb => 11 | .host => 12 | .epl => 13 | .aux => 14

/-- Whether a domain is powered. -/
def Dev.domOn (d : Dev) (x : Dom) : Bool := bit (d.rd F.PMU_DOM_on) x.idx

/-- The code of a mode (R468). -/
def Mode.code : Mode → Nat
  | .dormant => 0 | .boot => 1 | .recovery => 2 | .commission => 3 | .run => 4 | .storm => 5 | .islanded => 6 | .shadow => 7

/-- The mode of a code. -/
def Mode.ofCode : Nat → Mode
  | 0 => .dormant | 1 => .boot | 2 => .recovery | 3 => .commission | 4 => .run | 5 => .storm | 6 => .islanded | _ => .shadow

/-- The mode the device is in. -/
def Dev.mode (d : Dev) : Mode := Mode.ofCode (d.rd F.PMU_STATUS_mode)

/-- Whether the device serves meters: Commission, Run, Storm, Islanded or Shadow. -/
def Mode.serving : Mode → Bool
  | .commission | .run | .storm | .islanded | .shadow => true
  | .dormant | .boot | .recovery => false

/-- Whether this unit sends to meters and concentrators: serving, no standby (R445), and not retired by itself (R444). -/
def Dev.onAir (d : Dev) : Bool := d.mode.serving && d.mode != .shadow && d.rd F.EPL_STATUS_role != 3

/-- Whether the hold of R483 applies. -/
def Dev.hold (d : Dev) : Bool := d.on F.PMU_STATUS_core_warn || d.on F.PMU_STATUS_pwr_warn

/-- The fitted DRAM in bytes. -/
def Dev.dramBytes (d : Dev) : Nat := d.rd F.DMC_STATUS_fitted_gib * 0x40000000

/-- The first internal address of DRAM (R32). -/
def dramBase : Nat := 0x010000000000

/-- The first internal address of the Hall (R32). -/
def hallBase : Nat := 0x000100000000

/-- Whether an area lies inside fitted DRAM (R37). -/
def Dev.inDram (d : Dev) (base size : Nat) : Bool := dramBase ≤ base && base + size ≤ dramBase + d.dramBytes

/-- Whether an area lies inside the Hall. -/
def inHall (base size : Nat) : Bool := hallBase ≤ base && base + size ≤ hallBase + 0x3000000

/-! ### Memory of the device's own accesses -/

/-- Read n bytes as a little-endian number. -/
def Dev.memRd (d : Dev) (a n : Nat) : Nat := leNat (d.mem.readBytes a n)

/-- Write n bytes of a number, little-endian. -/
def Dev.memWr (d : Dev) (a n v : Nat) : Dev := { d with mem := d.mem.writeBytes a (leBytes n v) }

/-- Write a byte string. -/
def Dev.memWrB (d : Dev) (a : Nat) (l : List Byte) : Dev := { d with mem := d.mem.writeBytes a l }

/-! ### FIFOs (R21–R29) -/

/-- A field of the register set of the FIFO whose CTRL register is at an offset. -/
def fqFld (off : Nat) (f : Fld) : Fld := { f with key := f.key - F.WLZ_FQ_CTRL_flush.key / 32 * 32 + 8 * off, count := 1 }

/-- A FIFO register set stands at the offset: the offset of its CTRL register. -/
def fifoAt (off : Nat) : Option Nat :=
  fifoTable.findSome? fun (b, s, c) =>
    if off < b then none
    else
      let i := if s = 0 then 0 else (off - b) / s
      if i < c && off - b - s * i < 16 then some (b + s * i) else none

/-- The FIFOs that carry packets (R24): the ports' buffers, the crossings and the lanes' input buffers. -/
def fifoPackets (off : Nat) : Bool :=
  (0x50000 ≤ off && off < 0x60000) || (0xA0000 ≤ off && off < 0xC0000) || (0xD0000 ≤ off && off < 0xE0000)

/-- The FIFO's contents. -/
def Dev.fifo (d : Dev) (off : Nat) : Fifo := mgetD d.fifos off {}

/-- The size of one level unit in bytes; 0 where the unit is an item (R29, R305, R340, R369, R420). -/
def fifoUnit (off : Nat) : Nat :=
  if 0xA0000 ≤ off && off < 0xC0000 then 64 else if 0xD0000 ≤ off && off < 0xE0000 then 64
  else if 0x50000 ≤ off && off < 0x60000 then 64 else 0

/-- The level of a FIFO's contents in its unit: items, or the 64 B units its items take; the ingest prefix of a meter frame
takes no room in a port's buffer. -/
def fifoLevelOf (off : Nat) (items : List (List Byte)) : Nat :=
  let pre := if 0xA0000 ≤ off && off < 0xE0000 && !(0xC0000 ≤ off && off < 0xD0000) then 32 else 0
  if fifoUnit off = 0 then items.length else (items.map (fun i => (i.length - pre + 63) / 64)).sum

/-- The units that partial frames take in a PLC channel's receive buffer (R294). -/
def Dev.fifoParts (d : Dev) (off : Nat) : Nat :=
  if 0xA0000 ≤ off && off < 0xB0000 then
    ((mgetD d.plk ((off - 0xA0000) / 0x1000) {}).parts.map (fun p => (p.segs.map (fun e => (e.2.length + 63) / 64)).sum)).sum
  else 0

/-- The freshest-wins FIFOs: time-stamp captures, time events, and SRB_FQ0 (R26, R366, R501). -/
def fifoFreshest (off : Nat) : Bool := off == 0xC0120 || off == 0xC0130 || off == 0x110030

/-- The capacity in level units of a FIFO with a fixed one. -/
def fifoCap (off : Nat) : Nat :=
  if off = 0xC0120 then 16 else if off = 0xC0130 then 256
  else if off = 0x110030 || off = 0x700A0 || off = 0x700B0 then 4096
  else if 0xA0000 ≤ off && off < 0xB0000 then 256
  else if 0xB0000 ≤ off && off < 0xC0000 then 128
  else if off = 0x50200 then 512 else if off = 0x50210 then 1024
  else if 0x51000 ≤ off && off < 0x52000 then 1024
  else 0xFFFF

/-- The ICU source a FIFO's watermarks assert, if its chapter gives it one (R159, R219, R304, R339, R366, R387, R496, R518). -/
def fifoSource (off : Nat) : Option Nat :=
  if off = 0x50200 || off = 0x50210 then some 102
  else if 0x51000 ≤ off && off < 0x52000 then some (130 + 4 * ((off - 0x51000) / 0x100))
  else if off = 0x700A0 || off = 0x700B0 then some 232
  else if 0xA0000 ≤ off && off < 0xB0000 then some (321 + 2 * ((off - 0xA0000) / 0x1000))
  else if 0xB0000 ≤ off && off < 0xC0000 then some (353 + 2 * ((off - 0xB0000) / 0x1000))
  else if off = 0xC0130 then some 388
  else if 0xD0000 ≤ off && off < 0xDC000 then some (393 + 2 * ((off - 0xD0000) / 0x1000))
  else if off = 0x110030 then some 473
  else none

/-- Whether a FIFO asserts its source: a sticky watermark bit with wm_irq_en (R28, R29). -/
def Dev.fifoAsserts (d : Dev) (off : Nat) : Bool :=
  d.on (fqFld off F.WLZ_FQ_CTRL_wm_irq_en)
    && (d.on (fqFld off F.WLZ_FQ_STAT_wm_low_hit) || d.on (fqFld off F.WLZ_FQ_STAT_wm_high_hit))

/-- The FIFOs that share a source. -/
def fifosOfSource (n : Nat) : List Nat :=
  if n = 102 then [0x50200, 0x50210]
  else if 128 ≤ n && n < 192 then [0x51040 + 0x100 * ((n - 128) / 4)]
  else if n = 232 then [0x700A0, 0x700B0]
  else if 320 ≤ n && n < 352 then [0xA0040 + 0x1000 * ((n - 320) / 2)]
  else if 352 ≤ n && n < 376 then [0xB0060 + 0x1000 * ((n - 352) / 2)]
  else if n = 388 then [0xC0130]
  else if 392 ≤ n && n < 416 then [0xD0040 + 0x1000 * ((n - 392) / 2), 0xD0050 + 0x1000 * ((n - 392) / 2)]
  else if n = 473 then [0x110030]
  else []

/-- The level input of a level source as its blocks hold it (R77): a FIFO's watermarks, or the log's level at its mark
(source 477, R518). -/
def Dev.levelIn (d : Dev) (n : Nat) : Bool :=
  if n = 477 then d.rd F.LOG_CTRL_mark ≤ d.rd F.LOG_STATUS_level
  else (fifosOfSource n).any d.fifoAsserts

/-- Show a level source's input in ICU_INPUTw. -/
def Dev.syncInput (d : Dev) (n : Nat) : Dev := d.wrBit (F.ICU_INPUT_input.at (n / 32)) (n % 32) (d.levelIn n)

/-- Show the input of a FIFO's source. -/
def Dev.syncFifo (d : Dev) (off : Nat) : Dev :=
  match fifoSource off with
  | none => d
  | some n => d.syncInput n

/-- Store a FIFO's contents and bring LEVEL, the sticky watermark bits (R28) and the source's input up to date. -/
def Dev.fifoStore (d : Dev) (off : Nat) (q : Fifo) : Dev :=
  let old := d.rd (fqFld off F.WLZ_FQ_LEVEL_level)
  let new := fifoLevelOf off q.items + d.fifoParts off
  let high := d.rd (fqFld off F.WLZ_FQ_MARK_high)
  let low := d.rd (fqFld off F.WLZ_FQ_MARK_low)
  let d := { d with fifos := mput d.fifos off q }
  let d := d.wr (fqFld off F.WLZ_FQ_LEVEL_level) new
  let d := if d.rd (fqFld off F.WLZ_FQ_LEVEL_peak) < new then d.wr (fqFld off F.WLZ_FQ_LEVEL_peak) new else d
  let d := if old < high && high ≤ new && high != 0xFFFF then d.setF (fqFld off F.WLZ_FQ_STAT_wm_high_hit) else d
  let d := if low < old && new ≤ low then d.setF (fqFld off F.WLZ_FQ_STAT_wm_low_hit) else d
  d.syncFifo off

/-- Whether an item fits. -/
def Dev.fifoRoom (d : Dev) (off cap : Nat) (item : List Byte) : Bool :=
  fifoLevelOf off ((d.fifo off).items ++ [item]) + d.fifoParts off ≤ cap

/-- A consumer of a FIFO that had begun a packet receives an abort marker in place of the rest (R24). -/
def Dev.fifoAbort (d : Dev) (off : Nat) : Dev := d.setF (fqFld off F.WLZ_FQ_STAT_abort_seen)

/-- Put an item in. A full freshest-wins FIFO drops its oldest item and counts it (R26); another full FIFO takes nothing
(its producer is back-pressured, R27). -/
def Dev.fifoPush (d : Dev) (off cap : Nat) (item : List Byte) : Dev :=
  let q := d.fifo off
  if d.fifoRoom off cap item then d.fifoStore off { q with items := q.items ++ [item] }
  else if fifoFreshest off then
    (d.fifoStore off { q with items := q.items.drop 1 ++ [item] }).bump (fqFld off F.WLZ_FQ_STAT_lost)
  else d

/-- Take the oldest item out. -/
def Dev.fifoPop (d : Dev) (off : Nat) : Dev :=
  let q := d.fifo off
  d.fifoStore off { q with items := q.items.drop 1, begun := false }

/-- A flush that completes (R22–R24): empty, its items counted as flushed; where the consumer was part-way through an item,
flushed_trunc sets, and a packet so cut ends in an abort marker. -/
def Dev.fifoEmpty (d : Dev) (off : Nat) : Dev :=
  let q := d.fifo off
  let d := d.fifoStore off { flushed := q.flushed + q.items.length }
  if q.begun then
    let d := d.setF (fqFld off F.WLZ_FQ_STAT_flushed_trunc)
    if fifoPackets off then d.fifoAbort off else d
  else d

/-- The oldest item. -/
def Dev.fifoHead (d : Dev) (off : Nat) : Option (List Byte) := (d.fifo off).items.head?

/-! ### Registers by type codes (R9–R14, R546, R547) -/

/-- Whether a field of a (possibly repeated) row covers part of the 32-bit register at a byte offset; if so, the field of
that element. -/
def Fld.inWord (f : Fld) (off : Nat) : Option Fld :=
  let base := f.key / 32 * 4
  if off < base then none
  else
    let r := off - base
    let i := if f.stride = 0 then 0 else r / f.stride
    if i < f.count then
      let g := f.at i
      let r2 := r - f.stride * i
      let j := if g.stride = 0 then 0 else r2 / g.stride
      if j < g.count then
        let r3 := r2 - g.stride * j
        if r3 = 0 || (r3 = 4 && 32 < f.width) then some (if g.stride = 0 then g else g.at j) else none
      else none
    else none

/-- Whether a field applies to the kind of FIFO whose register set holds it (R29): cut_en, cut_thr and abort_seen to packet FIFOs,
lost to freshest-wins FIFOs. -/
def fqApplies (off : Nat) (f : Fld) : Bool :=
  match fifoAt off with
  | none => true
  | some fq =>
    let cut := f.key == (fqFld fq F.WLZ_FQ_CTRL_cut_en).key || f.key == (fqFld fq F.WLZ_FQ_CTRL_cut_thr).key
      || f.key == (fqFld fq F.WLZ_FQ_STAT_abort_seen).key
    (!cut || fifoPackets fq) && (f.key != (fqFld fq F.WLZ_FQ_STAT_lost).key || fifoFreshest fq)

/-- The fields of the register at a byte offset; those that do not apply to a FIFO's kind are reserved (R29). -/
def fieldsAt (off : Nat) : List Fld :=
  ((fieldsOfWindow (off / 0x10000)).filterMap (fun f => f.inWord off)).filter (fqApplies off)

/-- A register exists at the offset: some field of the tables lies in it. -/
def regExists (off : Nat) : Bool := off % 4 == 0 && !(fieldsAt off).isEmpty

/-- The bits of a field that lie in the 32-bit register at an offset: first bit of the field, first bit of the word, width. -/
def Fld.part (f : Fld) (off : Nat) : Nat × Nat × Nat :=
  if f.key / 32 * 4 = off then (0, f.key % 32, min f.width (32 - f.key % 32)) else (32, 0, f.width - 32)

/-- Write-only fields read 0 (R12). -/
def Dev.fldReads (d : Dev) (f : Fld) : Nat := if f.ty = .wo then 0 else d.rd f

/-- The word a register reads (R11: unnamed bits 0). -/
def Dev.regWord (d : Dev) (off : Nat) : Nat :=
  (fieldsAt off).foldl (fun w f =>
    let p := f.part off
    w + bits (d.fldReads f) p.1 p.2.2 * 2 ^ p.2.1) 0

/-- The window whose enable commits a field's RWL bits (R12): per channel or port in PLK, MZK and ETH, per block elsewhere. -/
def commitKey (off : Nat) : Nat :=
  let b := off / 0x10000
  if b = 0xA || b = 0xB || b = 0xD then off / 0x1000 else b * 0x10

/-- Whether the RWL fields of a window have committed (R12). The commit of the fields kept over every reset but AONPOR is held
apart, under the window's number plus 0x10000, since it ends at AONPOR only. -/
def Dev.isCommitted (d : Dev) (off : Nat) (k : Kept) : Bool :=
  tget d.sys.committed (commitKey off + if k = .all then 0x10000 else 0) != 0

/-- Commit the RWL fields of a window. -/
def Dev.commitRwl (d : Dev) (off : Nat) : Dev :=
  let c := tset (tset d.sys.committed (commitKey off) 1) (commitKey off + 0x10000) 1
  { d with sys := { d.sys with committed := c } }

/-- The value a write leaves in a field by its type code (R12); w is the written value of the field. -/
def fldWritten (ty : FTy) (committed : Bool) (old w : Nat) : Nat :=
  match ty with
  | .rw => w
  | .rwl => if committed then old else w
  | .w1c => old - (old &&& w)
  | .w1s => old ||| w
  | .ro | .rc | .wo => old

/-- Values that a field's meaning says a write may not leave: "other writes ignored" keeps the old value, "writes above x
act as x" clips. -/
def fldLegal (f : Fld) (old v : Nat) : Nat :=
  let isOf (g : Fld) : Bool := g.key ≤ f.key && g.stride != 0 && (f.key - g.key) % (8 * g.stride) == 0
    && (f.key - g.key) / (8 * g.stride) < g.count
  if f.key = F.PMU_THERM_throttle_c.key then min v 113
  else if f.key = F.EPL_DIGEST_cmp_window.key then (if 1 ≤ v && v ≤ 5 then v else old)
  else if f.key = F.REEL_CTRL_run_lanes.key then (if 1 ≤ v && v ≤ 16 then v else old)
  else if f.key = F.REEL_STG_SIZE_size_gib.key then (if 1 ≤ v && v ≤ 24 then v else old)
  else if f.key = F.MSR_CTRL_dwn_cap.key then (if 1 ≤ v then v else old)
  else if isOf F.PLK_GRANT_seg_max then (if 64 ≤ v && v ≤ 240 then v else old)
  else if f.key = F.VAL_CTRL_budget_act.key || f.key = F.VAL_CTRL_fault_act.key then (if 3 ≤ v && v ≤ 5 then v else old)
  else if isOf F.REEL_EXQ_CFG_size || isOf F.ETH_RXQ_CFG_size || isOf F.ETH_TXQ_CFG_size then (if v ≤ 8 then v else old)
  else v

/-- Write one register's fields by their type codes. -/
def Dev.regWrite32 (d : Dev) (off v : Nat) : Dev :=
  (fieldsAt off).foldl (fun d f =>
    let p := f.part off
    let old := d.rd f
    let piece := fldWritten f.ty (d.isCommitted off f.kept) (bits old p.1 p.2.2) (bits v p.2.1 p.2.2)
    d.wr f (fldLegal f old (setBits old p.1 p.2.2 piece))) d

/-- Clear the clear-on-read fields of a register (R12). -/
def Dev.regClearRc (d : Dev) (off : Nat) : Dev :=
  (fieldsAt off).foldl (fun d f =>
    if f.ty = .rc then
      let p := f.part off
      d.wr f (setBits (d.rd f) p.1 p.2.2 0)
    else d) d

/-- Whether a _LO register of a pair stands at an offset. -/
def isPairLo (off : Nat) : Bool :=
  pairTable.any fun (b, s, c, s2, c2) =>
    if off < b then false
    else
      let r := off - b
      let i := if s = 0 then 0 else r / s
      let r2 := r - s * i
      let j := if s2 = 0 then 0 else r2 / s2
      i < c && j < c2 && r2 - s2 * j == 0

/-- The key of a master's hold or capture of a pair. -/
def holdKey (m off : Nat) : Nat := m * 2 ^ 26 + off

/-! ### Resets of registers (R13) -/

/-- Whether a field keeps its value over a reset kind. -/
def Kept.ovr (k : Kept) (r : RstKind) : Bool :=
  match k with
  | .none => false
  | .hf => r == .hostrst || r == .flr
  | .all => r != .aonpor
  | .xmain => r != .aonpor && r != .mainpor
  | .soft => r == .hostrst || r == .flr || r == .softrst || r == .wdtrst || r == .domrst

/-- Reset the registers of a 64 KiB window over a reset kind: the fields whose byte offset satisfies `sel` and that the
kind does not keep return to their reset values; RWL commits end with them. -/
def Dev.resetWindow (d : Dev) (w : Nat) (r : RstKind) (sel : Nat → Bool) : Dev :=
  let fs := fieldsOfWindow w
  let keeps (k : Nat) : Bool :=
    !sel (k / 8) || (fs.filter (fun f => (f.inWord (k / 32 * 4)).any (fun g => g.key == k))).any (fun f => f.kept.ovr r)
  let inW (k : Nat) : Bool := k / 8 / 0x10000 == w
  let d := { d with regs := d.regs.filter (fun e => !inW e.1 || keeps e.1) }
  if r == .hostrst || r == .flr then d
  else { d with sys := { d.sys with committed := d.sys.committed.filter (fun e =>
      e.1 % 0x10000 / 0x10 != w || !sel (e.1 % 0x10000 * 0x1000) || (0x10000 ≤ e.1 && r != .aonpor)) } }

/-- Drop the bytes of memory in a range: they read as memory that nothing has written. -/
def Dev.memGone (d : Dev) (lo hi : Nat) : Dev := { d with mem := d.mem.filter (fun c => !(lo ≤ c.1 && c.1 < hi)) }

end Sys2Proof.Machine
end

