-- ==== Sys2Proof/Machine/Icu.lean ====
section
/-! DEFINITION. The interrupt controller (chapter 03): events, delivery to internal targets and to the host, moderation,
races, and the meanings of its commands. -/

namespace Sys2Proof.Machine

/-- Key of the fast or normal slot of a target. -/
def slotKey (t : Nat) (fast : Bool) : Nat := 2 * t + b2n fast

/-- The bit of a source in an array of words. -/
def Dev.srcBit (d : Dev) (f : Fld) (n : Nat) : Bool := bit (d.rd (f.at (n / 32))) (n % 32)

/-- Write the bit of a source. -/
def Dev.wrSrcBit (d : Dev) (f : Fld) (n : Nat) (b : Bool) : Dev := d.wrBit (f.at (n / 32)) (n % 32) b

/-- Where a source is routed: 0–9 an internal target, 10 the host, 15 nowhere (R78, R79). Sources 0–63 go to the host. -/
def Dev.srcTarget (d : Dev) (n : Nat) : Nat := if n < 64 then 0xA else d.rd (F.ICU_SRC_CFG_target.at n)

/-- The vector of a source routed to the host; that of pair n for sources 0–63 (R79). -/
def Dev.srcVector (d : Dev) (n : Nat) : Nat :=
  if n < 64 then d.rd (F.XDI_RP_CFG_vector.at n) else d.rd (F.ICU_SRC_CFG_vector.at n)

/-- Whether a target is in class mode (R98). -/
def Dev.classMode (d : Dev) (t : Nat) : Bool := d.on (F.ICU_T_MODE_class_mode.at t)

/-- Whether a source is of the fast class of its target: its fast bit, where the target is in class mode (R82, R83). -/
def Dev.srcFast (d : Dev) (n : Nat) : Bool := d.on (F.ICU_SRC_CFG_fast.at n) && d.classMode (d.srcTarget n)

/-- Whether a source is deliverable (R80), its routing aside. -/
def Dev.deliverable (d : Dev) (n : Nat) : Bool :=
  d.srcBit F.ICU_ENABLE_enable n && !d.srcBit F.ICU_MASK_mask n && d.srcBit F.ICU_PEND_pending n
    && (mget? d.icu.active n).isNone

/-- The pending sources, lowest first. -/
def Dev.pendingSources (d : Dev) : List Nat :=
  (List.range 16).flatMap fun w =>
    let p := d.rd (F.ICU_PEND_pending.at w)
    if p = 0 then [] else ((List.range 32).filter (fun b => bit p b)).map (fun b => 32 * w + b)

/-- The deliverable sources of an internal target. -/
def Dev.deliverableTo (d : Dev) (t : Nat) : List Nat :=
  d.pendingSources.filter (fun n => d.deliverable n && d.srcTarget n == t)

/-- The deliverable sources of a host vector. -/
def Dev.deliverableVec (d : Dev) (v : Nat) : List Nat :=
  d.pendingSources.filter (fun n => d.deliverable n && d.srcTarget n == 0xA && d.srcVector n == v)

/-- The moderation count and time in ns of a destination: a target t, or vector v at 16 + v (R91). -/
def Dev.modOf (d : Dev) (dest : Nat) : Nat × Nat :=
  let f (a : Fld) (b : Fld) : Nat × Nat :=
    let c := d.rd a
    let t := d.rd b
    (c, if t = 0 && c != 0 then 1024000 else t * 1000)
  if dest < 16 then f (F.ICU_T_MOD_count.at dest) (F.ICU_T_MOD_time.at dest)
  else f (F.ICU_HV_MOD_count.at (dest - 16)) (F.ICU_HV_MOD_time.at (dest - 16))

/-- Moderation off: count 0 and time 0 (R91). -/
def modOff (m : Nat × Nat) : Bool := m.1 == 0 && m.2 == 0

/-- Store a destination's window, and show a vector's in ICU_HVv_STAT. -/
def Dev.setWin (d : Dev) (dest : Nat) (w : Option ModWin) : Dev :=
  let d := { d with icu := { d.icu with win :=
    match w with
    | none => mdel d.icu.win dest
    | some x => mput d.icu.win dest x } }
  if dest < 16 then d
  else
    let v := dest - 16
    match w with
    | none => (d.clrF (F.ICU_HV_STAT_window.at v)).wr (F.ICU_HV_STAT_held.at v) 0
    | some x => (d.setF (F.ICU_HV_STAT_window.at v)).wr (F.ICU_HV_STAT_held.at v) (min x.events 0xFFFF)

/-! ### Handing a message to the endpoint (R94–R97) -/

/-- Send a message of a vector: the MSI-X write itself. -/
def Dev.msixSend (d : Dev) (v : Nat) : Dev :=
  (d.wrBit (F.XDI_MSIX_PBA_pending.at (v / 32)) (v % 32) false).emit (.msix v)

/-- A message of a vector comes due at the endpoint: held while the host is absent, while the messages of a re-attach are owed, in
Function Mask or with MSI-X off (R95, R97), noted as PME in D3hot (R96), held in the pending-bit array while the vector is
masked, sent after an L1 exit with the link in L1, otherwise sent. -/
def Dev.msixDue (d : Dev) (v : Nat) : Dev :=
  let held := { d with icu := { d.icu with heldMsg := tset d.icu.heldMsg v 1 } }
  if !d.on F.XDI_STATUS_host_present then held
  else if d.on F.XDI_STATUS_d3hot then
    let d := { held with icu := { held.icu with pmeStatus := true } }
    if d.icu.pmeEn then d.emit .pme else d
  else if d.icu.owing || d.icu.fnMask || !d.icu.msixEn then held
  else if d.on (F.XDI_MSIX_VCTL_mask.at v) then held.wrBit (F.XDI_MSIX_PBA_pending.at (v / 32)) (v % 32) true
  else if d.icu.linkL1 then { d with icu := { d.icu with l1Wait := tset d.icu.l1Wait v 1 } }
  else d.msixSend v

/-- A host vector fires: its deliverable sources become active, their pending bits clear, the window closes, the idle hint
is used up, and one message goes to the endpoint, whose acknowledgement is awaited (R92–R94). -/
def Dev.vecFire (d : Dev) (v : Nat) : Dev :=
  let srcs := d.deliverableVec v
  let d := d.setWin (16 + v) none
  match srcs with
  | [] => d
  | _ =>
    let d := srcs.foldl (fun d n =>
      ({ d with icu := { d.icu with active := mput d.icu.active n (.vector v) } }).wrSrcBit F.ICU_PEND_pending n false) d
    ((d.setF (F.ICU_HV_STAT_wait_ack.at v)).clrF (F.ICU_HV_STAT_idle_hint.at v)).msixDue v

/-! ### Events (R80, R92, R93) -/

/-- Whether an open window of a destination has reached its count or its time, or moderation is off. -/
def Dev.winRipe (d : Dev) (dest : Nat) (w : ModWin) : Bool :=
  let m := d.modOf dest
  modOff m || (m.1 != 0 && m.1 ≤ w.events) || (w.openAt + m.2 ≤ d.tick)

/-- Whether vector v would fire now if it awaits no acknowledgement: its window is ripe or bypassed, or no window is open and a
source is deliverable all the same, since it was pended, masked or disabled, before (R89, log entry 57). -/
def Dev.vecRipe (d : Dev) (v : Nat) : Bool :=
  match mget? d.icu.win (16 + v) with
  | some w => w.fired || d.winRipe (16 + v) w || d.on (F.ICU_HV_STAT_idle_hint.at v)
  | none => !(d.deliverableVec v).isEmpty

/-- Fire vector v if it is ripe and no acknowledgement is awaited (R92). -/
def Dev.vecKick (d : Dev) (v : Nat) : Dev :=
  if d.vecRipe v && !d.on (F.ICU_HV_STAT_wait_ack.at v) then d.vecFire v else d

/-- Let the vector of a source routed to the host fire, if it is due (R89). -/
def Dev.kickSource (d : Dev) (n : Nat) : Dev :=
  if d.srcTarget n == 0xA && d.deliverable n then d.vecKick (d.srcVector n) else d

/-- The same for the 32 sources of a word. -/
def Dev.kickWord (d : Dev) (w : Nat) : Dev := foldN 32 (fun b (d : Dev) => d.kickSource (32 * w + b)) d

/-- Whether a target has a deliverable source of the normal class left over (R92). -/
def Dev.leftOver (d : Dev) (t : Nat) : Bool := (d.deliverableTo t).any (fun n => !d.srcFast n)

/-- An event of a source at its destination: a window opens or counts it, and fires when ripe or bypassed (R92, R93). `left` says
that the target had a deliverable source left over before the event. -/
def Dev.modEvent (d : Dev) (n : Nat) (irqNow left : Bool) : Dev :=
  let t := d.srcTarget n
  if t == 0xA then
    let v := d.srcVector n
    let w := (mget? d.icu.win (16 + v)).getD { openAt := d.tick, events := 0, fired := false }
    let w := { w with events := w.events + 1, fired := w.fired || irqNow }
    (d.setWin (16 + v) (some w)).vecKick v
  else if t < 10 && !d.srcFast n then
    match mget? d.icu.win t with
    | none =>
      if left then d
      else
        let w : ModWin := { openAt := d.tick, events := 1, fired := false }
        d.setWin t (some { w with fired := d.winRipe t w || d.on (F.ICU_T_STAT_wfi.at t) })
    | some w =>
      let w := { w with events := w.events + 1 }
      d.setWin t (some { w with fired := w.fired || d.winRipe t w })
  else d

/-- Note the tick at which a source becomes pending, for the time from pend to claim (R500). -/
def Dev.pendNote (d : Dev) (n : Nat) : Dev :=
  if d.srcBit F.ICU_PEND_pending n then d else { d with icu := { d.icu with pendAt := mput d.icu.pendAt n d.tick } }

/-- Set a source's pending bit as an event. -/
def Dev.pendEvent (d : Dev) (n : Nat) (irqNow : Bool) : Dev :=
  let left := d.leftOver (d.srcTarget n)
  let d := d.pendNote n
  (d.wrSrcBit F.ICU_PEND_pending n true).modEvent n irqNow left

/-- An edge pulse of a source, with the bypass of a descriptor's irq_now (R80, R93); ICU_INPUTw shows it for one cycle (R98). -/
def Dev.raiseIrq (d : Dev) (n : Nat) (irqNow : Bool) : Dev :=
  let d := { d with icu := { d.icu with pulse := mput (d.icu.pulse.filter (fun e => e.2 == d.clk)) n d.clk } }
  if d.srcBit F.ICU_ENABLE_enable n then d.pendEvent n irqNow else d

/-- An edge pulse of a source. -/
def Dev.raise (d : Dev) (n : Nat) : Dev := d.raiseIrq n false

/-- A level source sampled while asserted (R80, R87): pending sets, and a rise of it is an event. -/
def Dev.sampleLevel (d : Dev) (n : Nat) : Dev :=
  if d.srcBit F.ICU_ENABLE_enable n && d.levelIn n && (mget? d.icu.active n).isNone then
    if d.srcBit F.ICU_PEND_pending n then d else d.pendEvent n false
  else d

/-! ### Offers (R82–R84, R88) -/

/-- The first of a list of sources after the last one claimed, round-robin (R83). -/
def roundRobin (last : Option Nat) (l : List Nat) : Option Nat :=
  match last with
  | none => l.head?
  | some k => (l.filter (fun n => k < n)).head? <|> l.head?

/-- The source of a class a target may be offered now, moderation passed (R82, R83, R92). -/
def Dev.choose (d : Dev) (t : Nat) (fast : Bool) : Option Nat :=
  let free := (mget? d.icu.slot (slotKey t fast)).isNone
  let passes := fast || modOff (d.modOf t) || ((mget? d.icu.win t).map (·.fired)).getD false
    || ((mget? d.icu.win t).isNone && !(d.deliverableTo t).isEmpty)
  if !free || !passes then none
  else if d.classMode t then
    roundRobin (mget? d.icu.lastClaim (slotKey t fast)) ((d.deliverableTo t).filter (fun n => d.srcFast n == fast))
  else if fast then none else (d.deliverableTo t).head?

/-- What the ICU offers a target: a fast source first, else a normal one while no fast one is offered (R82, R83). -/
def Dev.offerFor (d : Dev) (t : Nat) : Option (Bool × Nat) :=
  match d.choose t true with
  | some n => some (true, n)
  | none => (d.choose t false).map (fun n => (false, n))

/-- What a target shows when it is offered a source: a core's MIE, privilege, pc and fast vector, unless its fast handler runs. -/
def CoreIrq.see (c : CoreIrq) (x : CoreSeen) : CoreIrq :=
  if c.shadowBank then c else { c with mie := x.mie, priv := x.priv.toNat, pc := x.pc, fastVector := x.fastVector }

/-- A core takes a fast interrupt (R84): with MIE 1 or inside a normal-class handler it moves to the shadow bank and saves
pc, cause, MIE and privilege into its fast trap registers. -/
def CoreIrq.fastEntry (c : CoreIrq) (src : Nat) : CoreIrq :=
  if (c.mie || c.inNormal) && !c.shadowBank then
    { c with shadowBank := true, fastPc := c.pc, fastCause := BitVec.ofNat 64 src, fastMie := c.mie, fastPriv := c.priv,
             pc := c.fastVector }
  else c

/-- A fast handler ends with MRET (R84): pc, MIE and privilege come back from the fast trap registers, and the main bank. -/
def CoreIrq.fastReturn (c : CoreIrq) : CoreIrq :=
  if c.shadowBank then { c with shadowBank := false, pc := c.fastPc, mie := c.fastMie, priv := c.fastPriv } else c

/-- Change what the ICU holds of a core. -/
def Dev.setCore (d : Dev) (t : Nat) (f : CoreIrq → CoreIrq) : Dev :=
  { d with icu := { d.icu with cores := mput d.icu.cores t (f (mgetD d.icu.cores t {})) } }

/-- Withdraw the standing offers a predicate on slot key and source picks, counting each (R88). -/
def Dev.withdraw (d : Dev) (p : Nat → Nat → Bool) : Dev :=
  let gone := d.icu.offer.filter (fun e => p e.1 e.2)
  let d := { d with icu := { d.icu with offer := d.icu.offer.filter (fun e => !p e.1 e.2) } }
  d.bump F.ICU_WITHDRAWN_count gone.length

/-- Withdraw host messages not yet sent whose vector has no source left that is enabled and unmasked (R95). DESIGN CHOICE (log
entry 57): a message that stands for several sources stays while one of them is left. -/
def Dev.withdrawMsgs (d : Dev) : Dev :=
  let live (v : Nat) : Bool := d.icu.active.any (fun e =>
    e.2 == ActAt.vector v && d.srcBit F.ICU_ENABLE_enable e.1 && !d.srcBit F.ICU_MASK_mask e.1)
  let goes (v : Nat) : Bool := !live v
  let gone := (d.icu.heldMsg ++ d.icu.l1Wait).filter (fun e => goes e.1)
  let back := d.icu.active.filter (fun e => match e.2 with
    | .vector v => gone.any (fun g => g.1 == v)
    | .target _ => false)
  let d := { d with icu := { d.icu with
    heldMsg := d.icu.heldMsg.filter (fun e => !goes e.1), l1Wait := d.icu.l1Wait.filter (fun e => !goes e.1),
    active := d.icu.active.filter (fun e => !(back.any (fun b => b.1 == e.1))) } }
  let d := back.foldl (fun d e => d.wrSrcBit F.ICU_PEND_pending e.1 true) d
  let d := gone.foldl (fun d g => (d.clrF (F.ICU_HV_STAT_wait_ack.at g.1)).wrBit
    (F.XDI_MSIX_PBA_pending.at (g.1 / 32)) (g.1 % 32) false) d
  d.bump F.ICU_WITHDRAWN_count gone.length

/-- Show a target's slots in ICU_Tt_STAT. -/
def Dev.showSlots (d : Dev) (t : Nat) : Dev :=
  let norm := mget? d.icu.slot (slotKey t false)
  let fast := mget? d.icu.slot (slotKey t true)
  let d := (d.flag (F.ICU_T_STAT_norm_act.at t) norm.isSome).wr (F.ICU_T_STAT_norm_src.at t) (norm.getD 0)
  (d.flag (F.ICU_T_STAT_fast_act.at t) fast.isSome).wr (F.ICU_T_STAT_fast_src.at t) (fast.getD 0)

/-- The target a write of ICU_SRCn_CFG leaves: 0xB–0xE are ignored (R98). -/
def Dev.newTarget (d : Dev) (n v : Nat) : Nat :=
  if 0xB ≤ bits v 12 4 && bits v 12 4 ≤ 0xE then d.srcTarget n else bits v 12 4

/-- Store the class, target and vector of a source. -/
def Dev.srcCfgStore (d : Dev) (n v : Nat) : Dev :=
  ((d.wr (F.ICU_SRC_CFG_fast.at n) (bits v 30 1)).wr (F.ICU_SRC_CFG_target.at n) (d.newTarget n v)).wr
    (F.ICU_SRC_CFG_vector.at n) (bits v 0 8)

/-- Apply a reroute that was held while the source was active (R89). -/
def Dev.applyHeldCfg (d : Dev) (n : Nat) : Dev :=
  match mget? d.icu.heldCfg n with
  | none => d
  | some v => ({ d with icu := { d.icu with heldCfg := mdel d.icu.heldCfg n } }).srcCfgStore n v

/-- A stray completion (R86, R94), logged (R511). -/
def Dev.stray (d : Dev) (src : Nat) (host : Bool) : Dev :=
  let d := ((d.bump F.ICU_STRAY_DONE_count).wr F.ICU_STRAY_DONE_last_src src).flag F.ICU_STRAY_DONE_host host
  d.trouble minuetId 1 0x0A (d.regWord (F.ICU_STRAY_DONE_count.key / 32 * 4))

/-- Acknowledgement of a vector (R94): its active sources go inactive, level sources are re-sampled, and the vector fires once more
if it became ripe meanwhile (R92). -/
def Dev.vecAck (d : Dev) (v : Nat) : Dev :=
  let srcs := (d.icu.active.filter (fun e => e.2 == ActAt.vector v)).map (·.1)
  let d := { d with icu := { d.icu with active := d.icu.active.filter (fun e => e.2 != ActAt.vector v) } }
  let d := srcs.foldl (fun d n =>
    let d := d.applyHeldCfg n
    let d := if isLevelSource n then d.sampleLevel n else d
    if d.srcTarget n == 0xA && d.srcVector n == v then d else d.kickSource n) d
  (d.clrF (F.ICU_HV_STAT_wait_ack.at v)).vecKick v

/-- Host-side interrupt state cleared when the host becomes absent and at HOSTRST and FLR (R97, R98). -/
def Dev.icuHostGone (d : Dev) (pairs : List Nat) : Dev :=
  let d := { d with icu := { d.icu with
    active := d.icu.active.filter (fun e => !(pairs.contains e.1 && e.1 < 64)),
    win := d.icu.win.filter (fun e => e.1 < 16), l1Wait := [], heldMsg := [], owing := true } }
  let d := foldN 8 (fun k (d : Dev) => d.wr (F.XDI_MSIX_PBA_pending.at k) 0) d
  let d := pairs.foldl (fun d n => if n < 64 then d.wrSrcBit F.ICU_PEND_pending n false else d) d
  let w := d.regs
  { d with regs := w.filter (fun e =>
      !((F.ICU_HV_STAT_held.at 0).key ≤ e.1 && e.1 < (F.ICU_HV_STAT_held.at 256).key
        && e.1 / 32 % 2 == (F.ICU_HV_STAT_held.at 0).key / 32 % 2)) }

/-! ### Meanings -/

/-- The edge sources that the chapters assign (R77, R159, R181, R219, R249, R278, R304, R339, R366, R387, R419, R449, R467, R496,
R497, R518); no other one ever asserts, and software sources pend only through ICU_SRC_CMD. -/
def edgeAssigned (n : Nat) : Bool :=
  !isLevelSource n &&
  (n < 64 || (96 ≤ n && n ≤ 106) || (128 ≤ n && n ≤ 196) || (208 ≤ n && n ≤ 215) || (224 ≤ n && n ≤ 236)
    || (256 ≤ n && n ≤ 262) || (288 ≤ n && n ≤ 294) || (320 ≤ n && n ≤ 387) || (392 ≤ n && n ≤ 422) || (424 ≤ n && n ≤ 432)
    || (448 ≤ n && n ≤ 460) || (464 ≤ n && n ≤ 470) || (472 ≤ n && n ≤ 478) || (480 ≤ n && n ≤ 484))

/-- ICU_EDGE_EVENT (R80): an edge pulse. -/
def Dev.icuEdgeEvent (d : Dev) (n : Nat) : Dev := if edgeAssigned n then d.raise n else d

/-- ICU_LEVEL_ASSERT (R80): a level source asserted and not active. -/
def Dev.icuLevelAssert (d : Dev) (n : Nat) : Dev := if isLevelSource n then d.sampleLevel n else d

/-- MOD_WINDOW_TIME_FIRE (R92): the window's time has passed; a vector awaiting its acknowledgement waits for it. -/
def Dev.modWindowTimeFire (d : Dev) (dest : Nat) : Dev :=
  match mget? d.icu.win dest with
  | none => d
  | some w =>
    if w.openAt + (d.modOf dest).2 ≤ d.tick then
      if dest < 16 then d.setWin dest (some { w with fired := true })
      else (d.setWin dest (some { w with fired := true })).vecKick (dest - 16)
    else d

/-- Offer a target a source of a class, unless one stands. -/
def Dev.offerClass (d : Dev) (t : Nat) (fast : Bool) : Dev :=
  match mget? d.icu.offer (slotKey t fast), d.choose t fast with
  | none, some n => { d with icu := { d.icu with offer := mput d.icu.offer (slotKey t fast) n } }
  | _, _ => d

/-- A fired window of a target closes once nothing deliverable is left (R92). -/
def Dev.winDrained (d : Dev) (t : Nat) : Dev :=
  if (d.deliverableTo t).isEmpty && ((mget? d.icu.win t).map (·.fired)).getD false then d.setWin t none else d

/-- ICU_OFFER (R82–R84): a fast source, or a normal one while no fast one is offered; a core that shows MIE 1 or runs a normal
handler takes the fast one. A retired core gets none (R492). -/
def Dev.icuOffer (d : Dev) (t : Nat) (seen : CoreSeen) : Dev :=
  if t < 8 && bit (d.rd F.PMU_CORE_retired) t then d
  else
    let d := d.flag (F.ICU_T_STAT_wfi.at t) seen.wfi
    let d := if t < 8 then d.setCore t (·.see seen) else d
    let d := d.offerClass t true
    match mget? d.icu.offer (slotKey t true) with
    | some n => if t < 8 then d.setCore t (·.fastEntry n) else d
    | none => (d.offerClass t false).winDrained t

/-- What a claim by target t takes (R85): the class and the source. -/
def Dev.claimable (d : Dev) (t : Nat) : Option (Bool × Nat) :=
  match mget? d.icu.offer (slotKey t true) with
  | some n => some (true, n)
  | none =>
    match mget? d.icu.offer (slotKey t false) with
    | some n => some (false, n)
    | none => d.offerFor t

/-- ICU_CLAIM (R85): the claim returns the standing offer, or the next deliverable source where one was withdrawn (R88). -/
def Dev.icuClaim (d : Dev) (t m : Nat) : Dev :=
  let addr := 0x22004 + 0x20 * t
  match d.claimable t with
  | none => d.emit (.readData m addr (leBytes 4 0) false)
  | some (fast, n) =>
    let d := d.wrSrcBit F.ICU_PEND_pending n false
    let d := { d with icu := { d.icu with
      active := mput d.icu.active n (.target t), slot := mput d.icu.slot (slotKey t fast) n,
      offer := mdel d.icu.offer (slotKey t fast), lastClaim := mput d.icu.lastClaim (slotKey t fast) n } }
    let d := d.showSlots t
    let d := d.winDrained t
    let d := if !fast && t < 8 then d.setCore t (fun c => { c with inNormal := true }) else d
    d.emit (.readData m addr (leBytes 4 (2 ^ 31 + b2n fast * 2 ^ 30 + n)) false)

/-- ICU_DONE (R86, R87). The completion stands for the MRET that ends the handler (log entry 57): a fast handler's core returns to
the main bank, a normal one's leaves the handler (R84). -/
def Dev.icuDone (d : Dev) (t src : Nat) : Dev :=
  if mget? d.icu.active src == some (.target t) then
    let fast := mget? d.icu.slot (slotKey t true) == some src
    let d := { d with icu := { d.icu with
      active := mdel d.icu.active src, slot := mdel d.icu.slot (slotKey t fast) } }
    let d := d.showSlots t
    let d := if t < 8 then d.setCore t (fun c => if fast then c.fastReturn else { c with inNormal := false }) else d
    let d := d.applyHeldCfg src
    (if isLevelSource src then d.sampleLevel src else d).kickSource src
  else d.stray src false

/-- ICU_ENABLE_WRITE (R88, R89): standing offers of sources now disabled are withdrawn; a pending source now enabled is delivered. -/
def Dev.icuEnableWrite (d : Dev) (w v : Nat) : Dev :=
  let d := d.wr (F.ICU_ENABLE_enable.at w) v
  (d.withdraw (fun _ n => n / 32 == w && !bit v (n % 32))).withdrawMsgs.kickWord w

/-- ICU_MASK_WRITE (R88, R89): standing offers of sources now masked are withdrawn; a pending source now unmasked is delivered. -/
def Dev.icuMaskWrite (d : Dev) (w v : Nat) : Dev :=
  let d := d.wr (F.ICU_MASK_mask.at w) v
  (d.withdraw (fun _ n => n / 32 == w && bit v (n % 32))).withdrawMsgs.kickWord w

/-- ICU_PEND_WRITE (R80, R81, R89): a plain store; hardware's changes of the same cycle win their bits. An edge pulse among them,
and a level source's rise by the store, are events; a pending source routed to the host is delivered. DESIGN CHOICE (log entry
57): an offer whose pending bit the store clears goes, uncounted. -/
def Dev.icuPendWrite (d : Dev) (w v hwSet hwClear : Nat) : Dev :=
  let old := d.rd (F.ICU_PEND_pending.at w)
  let left := (List.range 10).filter d.leftOver
  let new := (v ||| hwSet) - ((v ||| hwSet) &&& (hwClear - (hwClear &&& hwSet)))
  let d := foldN 32 (fun b (d : Dev) => if bit new b then d.pendNote (32 * w + b) else d) d
  let d := d.wr (F.ICU_PEND_pending.at w) new
  let d := { d with icu := { d.icu with offer := d.icu.offer.filter (fun e => d.srcBit F.ICU_PEND_pending e.2) } }
  let d := foldN 32 (fun b (d : Dev) =>
    let n := 32 * w + b
    if (bit hwSet b && !isLevelSource n) || (isLevelSource n && bit new b && !bit old b) then
      d.modEvent n false (left.contains (d.srcTarget n)) else d) d
  d.kickWord w

/-- ICU_SRC_CMD_SET (R90): pends one source; the set is an event. -/
def Dev.icuSrcCmdSet (d : Dev) (n : Nat) : Dev := d.pendEvent n false

/-- ICU_SRC_CMD_CLEAR (R90): clears one pending bit; active state stays. DESIGN CHOICE (log entry 57): a standing offer of the
source goes with it, uncounted. -/
def Dev.icuSrcCmdClear (d : Dev) (n : Nat) : Dev :=
  let d := d.wrSrcBit F.ICU_PEND_pending n false
  { d with icu := { d.icu with offer := d.icu.offer.filter (fun e => e.2 != n) } }

/-- ICU_SRC_CFG_WRITE (R79, R89): for sources 0–63 only the class changes; an active source's change is held to its
completion; an offered source whose target changes has its offer withdrawn. -/
def Dev.icuSrcCfgWrite (d : Dev) (n v : Nat) : Dev :=
  if n < 64 then d.wr (F.ICU_SRC_CFG_fast.at n) (bits v 30 1)
  else if (mget? d.icu.active n).isSome then { d with icu := { d.icu with heldCfg := mput d.icu.heldCfg n v } }
  else
    let moves := d.newTarget n v != d.srcTarget n
    let d := if moves then d.withdraw (fun _ k => k == n) else d
    (d.srcCfgStore n v).kickSource n

/-- ICU_MODE_WRITE (R98): class mode exists on the cores; the write is refused while a source is active. DESIGN CHOICE (log entry
57): offers that stand while the mode changes are withdrawn and counted. -/
def Dev.icuModeWrite (d : Dev) (t v : Nat) : Dev :=
  if (mget? d.icu.slot (slotKey t true)).isSome || (mget? d.icu.slot (slotKey t false)).isSome then
    d.setF (F.ICU_T_STAT_mode_rej.at t)
  else if t < 8 then
    let turns := d.on (F.ICU_T_MODE_class_mode.at t) != bit v 0
    (if turns then d.withdraw (fun k _ => k / 2 == t) else d).wr (F.ICU_T_MODE_class_mode.at t) (bits v 0 1)
  else d

/-- ICU_HDONE_WRITE (R94): a vector not waiting makes it a stray with source 0x1FF. -/
def Dev.icuHdoneWrite (d : Dev) (v : Nat) : Dev :=
  if d.on (F.ICU_HV_STAT_wait_ack.at v) then d.vecAck v else d.stray 0x1FF true

/-- Send every held message whose vector may now send (R95); in D3hot none is sent (R96). -/
def Dev.releaseHeld (d : Dev) : Dev :=
  if d.on F.XDI_STATUS_d3hot then d
  else
  let vs := d.icu.heldMsg.map (·.1)
  vs.foldl (fun d v => ({ d with icu := { d.icu with heldMsg := mdel d.icu.heldMsg v } }).msixDue v) d

/-- MSIX_VECTOR_UNMASK (R95): a vector's Mask bit cleared, or Function Mask and MSI-X Enable written. -/
def Dev.msixVectorUnmask (d : Dev) (vec : Option Nat) (fnMask msixEn : Bool) : Dev :=
  let d := match vec with
    | none => d
    | some v => d.clrF (F.XDI_MSIX_VCTL_mask.at v)
  ({ d with icu := { d.icu with fnMask := fnMask, msixEn := msixEn } }).releaseHeld

/-- L1_EXIT_DONE (R96): the link reaches L0 and the waiting messages are sent. -/
def Dev.l1ExitDone (d : Dev) : Dev :=
  let vs := d.icu.l1Wait.map (·.1)
  let d := { d with icu := { d.icu with linkL1 := false, l1Wait := [] } }
  vs.foldl (fun d v => d.msixDue v) d

/-- PME_REPEAT (R96): repeated until PME_Status is cleared. -/
def Dev.pmeRepeat (d : Dev) : Dev := if d.icu.pmeStatus && d.icu.pmeEn then d.emit .pme else d

/-- The vectors with work outstanding: a deliverable or active source routed to them. -/
def Dev.busyVectors (d : Dev) : List Nat :=
  (List.range 256).filter fun v => d.icu.active.any (fun e => e.2 == ActAt.vector v) || !(d.deliverableVec v).isEmpty

/-- HOST_REATTACH_MESSAGES (R97): after re-attach with MSI-X on, each vector with work sends one message, past moderation;
a masked vector sets its pending bit instead. -/
def Dev.hostReattachMessages (d : Dev) : Dev :=
  if d.icu.owing && d.on F.XDI_STATUS_host_present && !d.on F.XDI_STATUS_d3hot && d.icu.msixEn && !d.icu.fnMask then
    let vs := d.busyVectors
    let d := { d with icu := { d.icu with heldMsg := [], owing := false } }
    vs.foldl (fun d v =>
      let srcs := d.deliverableVec v
      let d := d.setWin (16 + v) none
      let d := srcs.foldl (fun d n =>
        ({ d with icu := { d.icu with active := mput d.icu.active n (.vector v) } }).wrSrcBit F.ICU_PEND_pending n false) d
      (d.setF (F.ICU_HV_STAT_wait_ack.at v)).msixDue v) d
  else d

end Sys2Proof.Machine
end

