-- ==== Sys2Proof/Machine/Region.lean ====
section
/-! DEFINITION. What an internal address reaches (R31, R32), how an access that cannot be served ends (R38), and the accesses of
the device's own engines, which reach every region like those of any master (R41). -/

namespace Sys2Proof.Machine

/-! ### Errors (R38) -/

/-- A write that cannot be served. An internal master receives an error response. -/
def Dev.badWrite (d : Dev) (kind m addr : Nat) : Dev :=
  let d := d.errCapture kind m addr true
  if m = 0 then d else d.emit (.writeError m addr)

/-- A read that cannot be served: the host receives zeros, or ones where the target is off or not reached; other masters an
error response. -/
def Dev.badRead (d : Dev) (kind m addr n : Nat) : Dev :=
  let ones := kind = 2 || kind = 3
  (d.errCapture kind m addr false).emit
    (.readData m addr (if m = 0 then List.replicate n (if ones then 0xFF else 0) else []) (m != 0))

/-! ### Which block a register lies in (R31) -/

/-- Whether the domain that holds a register is on. AON's registers need FAB alone, as do the common Ethernet registers (R388) and
the RTC registers of TSU. -/
def Dev.regOn (d : Dev) (off : Nat) : Bool :=
  let own := match off / 0x10000 with
    | 3 => d.domOn .host
    | 5 | 6 => d.domOn .reel
    | 7 => d.domOn .wlz
    | 9 => d.domOn .keyc
    | 0xA | 0xB => d.domOn .feb
    | 0xC => d.domOn .keyc || off == 0xC0070 || off == 0xC0074
    | 0xD => if off < 0xD4000 then d.domOn .bhe else if off < 0xDC000 then d.domOn .age else true
    | 0xE => d.domOn .gav
    | 0xF => d.domOn .epl
    | 0x12 => d.domOn .dmc
    | _ => true
  d.domOn .fab && own

/-- The tamper log's window in PAV: 64 entries of 16 B (R273). -/
def inTamperLog (off : Nat) : Bool := 0x98400 ≤ off && off < 0x98800

/-- Whether a register stands at an offset. -/
def regHere (off : Nat) : Bool := regExists off || (inTamperLog off && off % 4 == 0)

/-- Why a register cannot be reached: its domain is off, or none stands there. -/
def Dev.regMiss (d : Dev) (off : Nat) : Option Nat :=
  if !d.regOn off then some 2 else if !regHere off then some 1 else none

/-! ### The internal map (R32) -/

/-- What an internal address reaches. -/
inductive Region where
  | reg (off : Nat)
  | sram | rom | hall | dram
  | partner (a : Nat)
  | outbound (off : Nat)
  | nothing
deriving DecidableEq, Repr

/-- The region of an access of n bytes. DESIGN CHOICE (log entry 56): an access that runs over the end of a region reaches
nothing, as a whole. -/
def Dev.regionOf (d : Dev) (a n : Nat) : Region :=
  if a + n ≤ 0x4000000 then .reg a
  else if 0x8000000 ≤ a && a + n ≤ 0x8040000 then .sram
  else if 0xC000000 ≤ a && a + n ≤ 0xC020000 then .rom
  else if inHall a n then .hall
  else if d.inDram a n then .dram
  else if 0x400000000000 ≤ a && a + n ≤ 0x800000000000 then .partner (a - 0x400000000000)
  else if 0x800000000000 ≤ a && a + n ≤ 2 ^ 48 then .outbound (a - 0x800000000000)
  else .nothing

/-- Leave self-refresh for an access (R38, R491). -/
def Dev.dramWake (d : Dev) : Dev :=
  if d.on F.DMC_STATUS_self_refresh then (d.clrF F.DMC_STATUS_self_refresh).raise 484 else d

/-- Whether the function may write host memory: host present and not in D3hot (R46, R73). -/
def Dev.hostReach (d : Dev) : Bool := d.on F.XDI_STATUS_host_present && !d.on F.XDI_STATUS_d3hot

/-- The host address of an offset in the outbound window (R32). -/
def Dev.outbAddr (d : Dev) (o : Nat) : Nat :=
  d.rd F.XDI_OUTB_BASE_HI_base_hi * 2 ^ 32 + d.rd F.XDI_OUTB_BASE_LO_base_lo * 4096 + o

/-- Whether n bytes of DRAM touch the MSR table. -/
def Dev.nearTable (d : Dev) (a n : Nat) : Bool :=
  match d.msr.tableAt with
  | none => false
  | some b => a < b + 0x10000000 && b < a + n

/-! ### Accesses of engines (R41) -/

/-- Why an engine's access cannot be served, as the bit of SYS_ERR_STATUS it sets (R38); none where it can. -/
def Dev.engMiss (d : Dev) (a n : Nat) (write : Bool) : Option Nat :=
  match d.regionOf a n with
  | .reg off =>
    if write && (off % 4 != 0 || n % 4 != 0) then some 0
    else ((List.range ((off + n - 1) / 4 + 1 - off / 4)).filterMap (fun k => d.regMiss (4 * (off / 4 + k)))).head?
  | .sram => if d.domOn .fab then none else some 2
  | .rom => if write then some 7 else none
  | .hall => if d.domOn .fab then none else some 2
  | .dram => if d.domOn .dmc then none else some 2
  | .partner _ => if d.on F.EPL_STATUS_link_up then none else some 3
  | .outbound o => if 2 ^ 64 < d.outbAddr o + n then some 1 else if d.hostReach then none else some 4
  | .nothing => some 1

/-- An engine's write of bytes at an internal address, and whether it was served. Memory takes them at once; the registers, the
EPL window and the MSR table take them when the fabric delivers them (log entry 56). -/
def Dev.engWrite (d : Dev) (m a : Nat) (l : List Byte) : Dev × Bool :=
  if l.isEmpty then (d, true)
  else
    let post : Dev := { d with sys := { d.sys with posted := d.sys.posted ++ [(m, a, l)] } }
    match d.engMiss a l.length true with
    | some kind => (d.errCapture kind m a true, false)
    | none =>
      match d.regionOf a l.length with
      | .reg _ | .partner _ | .nothing => (post, true)
      | .outbound o => (d.emit (.hostWrite (d.outbAddr o) l), true)
      | .dram => if d.nearTable a l.length then (post, true) else (d.dramWake.memWrB a l, true)
      | .sram | .rom | .hall => (d.memWrB a l, true)

/-- An engine's read of n bytes at an internal address; none where it is not served. Where the bytes come from a register, from
outside the chip or from the MSR table, `given` are what answers. -/
def Dev.engRead (d : Dev) (m a n : Nat) (given : List Byte) : Dev × Option (List Byte) :=
  match d.engMiss a n false with
  | some kind => (d.errCapture kind m a false, none)
  | none =>
    match d.regionOf a n with
    | .reg _ | .partner _ | .outbound _ | .nothing => (d, some given)
    | .dram => if d.nearTable a n then (d, some given) else (d.dramWake, some (d.mem.readBytes a n))
    | .sram | .rom | .hall => (d, some (d.mem.readBytes a n))

end Sys2Proof.Machine
end

