-- ==== Sys2Proof/Machine/Xdi.lean ====
section
/-! DEFINITION. The Xenas Descriptor Interface (chapter 02): presence of the host, version negotiation, ring pairs, the
descriptor and completion flow every engine shares, the XDI_EXP registers, the host memory buffer. -/

namespace Sys2Proof.Machine

/-! ### Pairs -/

/-- The pair's state. -/
def Dev.pair (d : Dev) (n : Nat) : Pair := mgetD d.xdi.pairs n {}

/-- Store a pair's state. -/
def Dev.setPair (d : Dev) (n : Nat) (p : Pair) : Dev := { d with xdi := { d.xdi with pairs := mput d.xdi.pairs n p } }

/-- Whether a pair is enabled and running (XDI_RPn_STAT.active). -/
def Dev.active (d : Dev) (n : Nat) : Bool := d.on (F.XDI_RP_STAT_active.at n)

/-- The ring type of a pair (R50). -/
def Dev.ringType (d : Dev) (n : Nat) : Nat := d.rd (F.XDI_RP_CFG_type.at n)

/-- Entries of the submission queue: 16 × 2^sq_size, the code at most 0xC. -/
def Dev.sqSize (d : Dev) (n : Nat) : Nat := 16 * 2 ^ (min (d.rd (F.XDI_RP_CFG_sq_size.at n)) 12)

/-- Entries of the completion queue. -/
def Dev.cqSize (d : Dev) (n : Nat) : Nat := 16 * 2 ^ (min (d.rd (F.XDI_RP_CFG_cq_size.at n)) 12)

/-- The negotiated version; 0 while none is valid (R47). -/
def Dev.xdiVer (d : Dev) : Nat := if d.on F.XDI_NEG_VER_valid then d.rd F.XDI_NEG_VER_version else 0

/-- The pairs enabled with a type. -/
def Dev.enabledOf (d : Dev) (ty : Nat) : List Nat :=
  (List.range 64).filter (fun n => d.on (F.XDI_RP_CFG_enable.at n) && d.ringType n == ty)

/-- The opcodes defined for a ring type (R55 and the opcode tables of the chapters it names). -/
def opcodeDefined (ty op : Nat) : Bool :=
  op == 0 ||
  match ty with
  | 1 => op == 2 || op == 3 || (0x10 ≤ op && op ≤ 0x19) || (0x40 ≤ op && op ≤ 0x43) || op == 0x46
      || (0x60 ≤ op && op ≤ 0x69) || (0x80 ≤ op && op ≤ 0x82) || (0xA0 ≤ op && op ≤ 0xA4) || (0xC0 ≤ op && op ≤ 0xC4)
  | 2 => op == 1
  | 3 => op ≤ 6
  | 4 => op ≤ 0x0B
  | 5 => op ≤ 0x0C
  | 6 => op ≤ 4
  | 7 => op ≤ 2
  | 8 => op ≤ 0x0B
  | _ => false

/-! ### Completions (R57–R60) -/

/-- The mailbox registers of a block: DESC_LO, DESC_HI, go, done, the source that pends (R121 and the chapters' own). -/
def mboxRegs : Mbox → Fld × Fld × Fld × Fld × Nat
  | .msr => (F.MSR_CMD_DESC_LO_desc_lo, F.MSR_CMD_DESC_HI_desc_hi, F.MSR_CMD_CTRL_go, F.MSR_CMD_CTRL_done, 213)
  | .val => (F.VAL_CMD_DESC_LO_desc_lo, F.VAL_CMD_DESC_HI_desc_hi, F.VAL_CMD_CTRL_go, F.VAL_CMD_CTRL_done, 195)
  | .wlz => (F.WLZ_CMD_DESC_LO_desc_lo, F.WLZ_CMD_DESC_HI_desc_hi, F.WLZ_CMD_CTRL_go, F.WLZ_CMD_CTRL_done, 231)
  | .bol => (F.BOL_CMD_DESC_LO_desc_lo, F.BOL_CMD_DESC_HI_desc_hi, F.BOL_CMD_CTRL_go, F.BOL_CMD_CTRL_done, 256)
  | .pav => (F.PAV_CMD_DESC_LO_desc_lo, F.PAV_CMD_DESC_HI_desc_hi, F.PAV_CMD_CTRL_go, F.PAV_CMD_CTRL_done, 288)
  | .ethSa => (F.ETH_SA_DESC_LO_desc_lo, F.ETH_SA_DESC_HI_desc_hi, F.ETH_SA_CTRL_go, F.ETH_SA_CTRL_done, 419)
  | .gav => (F.GAV_CMD_DESC_LO_desc_lo, F.GAV_CMD_DESC_HI_desc_hi, F.GAV_CMD_CTRL_go, F.GAV_CMD_CTRL_done, 424)
  | .epl => (F.EPL_CMD_DESC_LO_desc_lo, F.EPL_CMD_DESC_HI_desc_hi, F.EPL_CMD_CTRL_go, F.EPL_CMD_CTRL_done, 448)
  | .upd => (F.UPD_CMD_DESC_LO_desc_lo, F.UPD_CMD_DESC_HI_desc_hi, F.UPD_CMD_CTRL_go, F.UPD_CMD_CTRL_done, 464)
  | .pmu => (F.PMU_CMD_DESC_LO_desc_lo, F.PMU_CMD_DESC_HI_desc_hi, F.PMU_CMD_CTRL_go, F.PMU_CMD_CTRL_done, 106)

/-- The internal address of the descriptor a mailbox names. -/
def Dev.mboxAddr (d : Dev) (b : Mbox) : Nat :=
  let r := mboxRegs b
  d.rd r.1 * 64 + d.rd r.2.1 * 2 ^ 32

/-- The 32 B of a completion (R57); under 1.x the sequence has 32 bits (R48). -/
def cplBytes (seq result result2 tag sqHead status info pairPhase : Nat) : List Byte :=
  leBytes 8 seq ++ leBytes 8 result ++ leBytes 8 result2 ++ leBytes 2 tag ++ leBytes 2 sqHead ++ leBytes 2 status
    ++ leBytes 1 info ++ leBytes 1 pairPhase

/-- A completion queued on a pair: its data writes go out at once, or wait with it in D3hot (R73). -/
def Dev.queueCpl (d : Dev) (n : Nat) (c : Cpl) : Dev :=
  if d.active n then
    let now := d.hostReach
    let d := if now then d.emits (c.data.map (fun x => .hostWrite x.1 x.2)) else d
    let p := d.pair n
    if now && c.silent then d
    else d.setPair n { p with waiting := p.waiting ++ [if now then { c with data := [] } else c] }
  else d

/-- Mark a descriptor as ended: it leaves the started list, and a status other than OK and OK_PARTIAL spoils the fence
group, the fenced descriptor itself excepted (R56). -/
def Pair.ended (p : Pair) (w : BitVec 512) (status : Nat) : Pair :=
  { p with started := p.started.eraseP (fun f => f.w == w),
           groupBad := p.groupBad || (1 < status && !wFence w) }

/-- Everything a descriptor's end reports. -/
structure Done where
  status : Nat
  seq : Nat := 0
  result : Nat := 0
  result2 : Nat := 0
  info : Nat := 0
  data : List (Nat × List Byte) := []
  exp : Bool := false
  buf : Option (BitVec 512 × Nat) := none

/-- Status codes common to all ring types (R58). -/
def stOkPartial : Nat := 1
def stFlushed : Nat := 2
def stBadOpcode : Nat := 3
def stBadField : Nat := 4
def stHostFault : Nat := 5
def stBusy : Nat := 6
def stNoResource : Nat := 7
def stVersion : Nat := 8
def stBacklogGap : Nat := 9
def stMediaError : Nat := 10
def stToken : Nat := 11
def stAborted : Nat := 12

/-- End a ring's descriptor: a completion with its data; on success none when quiet (R53; DESIGN CHOICE, log entry 58: a quiet one
that ends OK_PARTIAL completes); none on a pair no longer active, nor of a descriptor flushed or begun before an absence
(R52, R74). -/
def Dev.finishRing (d : Dev) (n : Nat) (w : BitVec 512) (r : Done) : Dev :=
  if d.xdi.gone.contains (n, w) then { d with xdi := { d.xdi with gone := d.xdi.gone.erase (n, w) } }
  else
    let d := d.setPair n ((d.pair n).ended w r.status)
    let d := if r.status = stHostFault && d.active n then d.setF (F.XDI_RP_STAT_host_fault.at n) else d
    d.queueCpl n { seq := r.seq, result := r.result, result2 := r.result2, tag := wTag w, status := r.status, info := r.info,
                   irqNow := wIrqNow w, data := r.data, silent := wQuiet w && r.status == 0, exp := r.exp, buf := r.buf }

/-- On an export ring, end the descriptors at the front whose status is known: completions keep the ring's order (R56). -/
def Dev.settleExp : Nat → Nat → Dev → Dev
  | 0, _, d => d
  | fuel + 1, n, d =>
    match (d.pair n).started with
    | f :: _ =>
      match f.ends with
      | some st => Dev.settleExp fuel n (d.finishRing n f.w { status := st })
      | none => d
    | [] => d

/-- The master identity of the block behind a mailbox (R39); EPL, UPD and PMU act as Minuet (log entry 6). -/
def mboxMaster : Mbox → Nat
  | .msr => 0x2A | .val => 0x20 | .wlz => 0x21 | .bol => 0x22 | .pav => 0x25 | .ethSa => 0x26 | .gav => 0x23
  | .epl | .upd | .pmu => minuetId

/-- End a mailbox's descriptor: the data, which the engine writes at internal addresses, and the 32 B completion at the descriptor's
address + 64, done set, go cleared and the source pending (R121). A write that is not served ends it with an error status
(R38; HOST_FAULT, log entry 56). -/
def Dev.finishMbox (d : Dev) (b : Mbox) (w : BitVec 512) (r : Done) : Dev :=
  let e := r.data.foldl (fun (e : Dev × Bool) x =>
    let y := e.1.engWrite (mboxMaster b) x.1 x.2
    (y.1, e.2 && y.2)) (d, true)
  let st := if e.2 then r.status else stHostFault
  let d := (e.1.engWrite (mboxMaster b) (e.1.mboxAddr b + 64) (cplBytes r.seq r.result r.result2 (wTag w) 0 st r.info 0)).1
  let m := mboxRegs b
  ((d.clrF m.2.2.1).setF m.2.2.2.1).raise m.2.2.2.2

/-- End a descriptor, as it came. A ring's descriptor whose buffer was read ends a run of completion timeouts (R46). -/
def Dev.finish (d : Dev) (c : Desc) (r : Done) : Dev :=
  match c.via with
  | .ring n =>
    let d := if c.data.isEmpty then d else { d with xdi := { d.xdi with ctoRun := 0 } }
    let d := d.finishRing n.val c.w r
    if d.ringType n.val = 2 then Dev.settleExp (d.pair n.val).started.length n.val d else d
  | .mailbox b _ => d.finishMbox b c.w r

/-- End a descriptor with a status alone. -/
def Dev.fail (d : Dev) (c : Desc) (status : Nat) : Dev := d.finish c { status := status }

/-- End a descriptor with OK and a result. -/
def Dev.okRes (d : Dev) (c : Desc) (result : Nat := 0) (result2 : Nat := 0) : Dev :=
  d.finish c { status := 0, result := result, result2 := result2 }

/-- End a descriptor with a status alone when its turn comes: on an export ring completions keep the ring's order (R56). -/
def Dev.endInTurn (d : Dev) (c : Desc) (status : Nat) : Dev :=
  match c.via with
  | .ring n =>
    let p := d.pair n.val
    if d.ringType n.val = 2 && p.started.any (fun f => f.w == c.w && f.ends.isNone) then
      let i := p.started.findIdx (fun f => f.w == c.w && f.ends.isNone)
      let d := d.setPair n.val { p with started := p.started.modify i (fun f => { f with ends := some status }) }
      Dev.settleExp p.started.length n.val d
    else d.fail c status
  | .mailbox _ _ => d.fail c status

/-- Run an opcode on the bytes its engine reads from the descriptor's buffer. From host memory they come with the command; in D3hot
the descriptor waits at its read, so it is as if not yet begun (R73). From a mailbox's internal address the engine reads the
descriptor's len bytes itself (R121), at most the 8 MiB of the largest buffer; a read that is not served ends the descriptor
with an error status (R38; HOST_FAULT, log entry 56). -/
def Dev.withData (d : Dev) (c : Desc) (k : Dev → Desc → Dev) : Dev :=
  match c.via with
  | .ring _ => if d.on F.XDI_STATUS_d3hot && !c.data.isEmpty then d else k d c
  | .mailbox b _ =>
    let n := min (wLen c.w) 0x800000
    if n = 0 then k d c
    else
      match d.engRead (mboxMaster b) (wAddr c.w) n c.data with
      | (d, some l) => k d { c with data := l }
      | (d, none) => d.fail c stHostFault

/-- Run an opcode whose unused fields must be 0: any of them set ends it with BAD_FIELD. `used` lists the byte ranges it
uses of bytes 4–63. -/
def Dev.withFields (d : Dev) (c : Desc) (used : List (Nat × Nat)) (k : Dev → Dev) : Dev :=
  if wUnusedZero c.w used && wReservedOk c.w then k d else d.fail c stBadField

/-! ### Starting descriptors (R54, R56) -/

/-- End the fetched descriptor at the front with a status, on an export ring in its turn. -/
def Dev.endFetched (d : Dev) (n : Fin 64) (f : Fetched) (status : Nat) : Dev :=
  let p := d.pair n.val
  if d.ringType n.val = 2 then
    let d := d.setPair n.val { p with fetched := p.fetched.drop 1, started := p.started ++ [{ f with ends := some status }] }
    Dev.settleExp (p.started.length + 1) n.val d
  else (d.setPair n.val { p with fetched := p.fetched.drop 1 }).finish { via := .ring n, w := f.w, data := [] } { status := status }

/-- Whether rings are served as in ROM Recovery (R459): there, and in Recovery once no core is left (R492). -/
def Dev.romServes (d : Dev) : Bool :=
  d.on F.UPD_STATUS_rom_recovery || (d.mode == .recovery && d.rd F.PMU_CORE_retired == 0xFF)

/-- What the check of a descriptor ends it with before it starts, if anything: the opcode is checked first (R54). A command ring has
NOP only in ROM Recovery (R459; BAD_OPCODE: DESIGN CHOICE, log entry 10). -/
def Dev.refusedAs (d : Dev) (n : Nat) (w : BitVec 512) : Option Nat :=
  if !opcodeDefined (d.ringType n) (wOpcode w) || (d.romServes && d.ringType n == 1 && wOpcode w != 0) then some stBadOpcode
  else if !wReservedOk w || (d.ringType n == 2 && wQuiet w) then some stBadField
  else none

/-- Start fetched descriptors in ring order up to the next fence; each is checked first (R54). A fenced one is checked when its
fence is released, so that it judges its own group alone (R56). -/
def Dev.startReady : Nat → Fin 64 → Dev → Dev
  | 0, _, d => d
  | fuel + 1, n, d =>
    match (d.pair n.val).fetched with
    | [] => d
    | f :: rest =>
      if wFence f.w then d
      else
        match d.refusedAs n.val f.w with
        | some st => Dev.startReady fuel n (d.endFetched n f st)
        | none =>
          let p := d.pair n.val
          Dev.startReady fuel n (d.setPair n.val { p with fetched := rest, started := p.started ++ [f] })

/-! ### Export start and stop (R63, R69) -/

/-- Whether any export ring is enabled. -/
def Dev.anyExp (d : Dev) : Bool := !(d.enabledOf 2).isEmpty

/-- Delivery starts when at least K export rings are enabled: the K lowest are taken, NEXT becomes COMMIT + 1. -/
def Dev.expStart (d : Dev) : Dev :=
  let k := d.rd F.XDI_EXP_CTRL_count
  let rs := d.enabledOf 2
  if !d.on F.XDI_EXP_CTRL_started && 1 ≤ k && k ≤ rs.length then
    let d := { d with xdi := { d.xdi with kRings := rs.take k, liveAtStart := d.rd F.XDI_EXP_LIVE_LO_live,
                                          gap := none, gapsReported := [], ahead := [] } }
    let d := (d.setF F.XDI_EXP_CTRL_started).wr F.XDI_EXP_NEXT_LO_next (d.rd F.XDI_EXP_COMMIT_LO_commit + 1)
    rs.foldl (fun d n => d.flag (F.XDI_RP_STAT_paused.at n) (d.on F.XDI_STATUS_d3hot)) d
  else d

/-- What a stop of delivery leaves of a ring of the K that stays enabled (R63): partly filled blocks are abandoned, and completions
not yet written are dropped, since none is written while started is 0; their buffers stand posted from the first record
whose completion was not written. -/
def Pair.expHalt (p : Pair) (batch : Bool) : Pair :=
  let back := p.waiting.filterMap (fun c => if c.exp then c.buf else none)
  let ws := (back.map (fun e => e.1)).eraseDups
  let first := (back.head?.map (fun e => e.2)).getD 0
  let again := ws.mapIdx (fun i w => ({ w := w, filled := if i = 0 && !batch then first else 0 } : PostedBuf))
  let bufs := again ++ p.bufs.filter (fun b => !ws.contains b.w)
  { p with
    waiting := p.waiting.filter (fun c => !c.exp)
    started := (ws.filter (fun w => !p.started.any (fun f => f.w == w))).map (fun w => ({ idx := 0, w := w } : Fetched)) ++ p.started
    bufs := if batch then bufs.map (fun b => { b with filled := 0, records := 0, replay := false, body := [] }) else bufs }

/-- Delivery stops on all K rings (R63). -/
def Dev.expStop (d : Dev) : Dev :=
  let d := d.xdi.kRings.foldl (fun d n =>
    let p := d.pair n
    (d.setPair n (if p.disabling.isSome then p else p.expHalt (d.on (F.XDI_RP_CFG_batch.at n)))).flag
      (F.XDI_RP_STAT_paused.at n) (d.active n)) d
  ({ d with xdi := { d.xdi with kRings := [], gap := none } }).clrF F.XDI_EXP_CTRL_started

/-! ### Presence (R46, R73, R97) -/

/-- The descriptors of the pairs whose engines run on when the pairs end: started, and no buffers that XDI itself holds (R74). -/
def Dev.running (d : Dev) (ns : List Nat) : List (Nat × BitVec 512) :=
  ns.flatMap fun n =>
    let p := d.pair n
    (p.started.filter (fun f => f.ends.isNone && !p.bufs.any (fun b => b.w == f.w) && !d.xdi.revoking.any (fun c => c.w == f.w))).map (fun f => (n, f.w))

/-- The host becomes absent for a reason: every pair inactive with no completion written, the grant ended, delivery
stopped, host-side interrupt state cleared. DESIGN CHOICE (log entry 58): XDI_RPn_CFG.enable of those pairs reads 0. -/
def Dev.hostGone (d : Dev) (reason : Nat) : Dev :=
  let was := (List.range 64).filter d.active
  let gone := d.running was
  let d := (d.clrF F.XDI_STATUS_host_present).wr F.XDI_STATUS_absent_reason reason
  let d := d.icuHostGone was
  let d := was.foldl (fun d n => ((d.clrF (F.XDI_RP_STAT_active.at n)).clrF (F.XDI_RP_STAT_paused.at n)).clrF
    (F.XDI_RP_CFG_enable.at n)) d
  let d := { d with xdi := { d.xdi with pairs := [], kRings := [], gap := none, chunks := [], revoking := [], gone := d.xdi.gone ++ gone } }
  ((d.clrF F.XDI_EXP_CTRL_started).clrF F.XDI_HMB_STAT_active).wr F.XDI_HMB_STAT_units 0

/-- Absent where it was present. -/
def Dev.hostLeaves (d : Dev) (reason : Nat) : Dev :=
  if d.on F.XDI_STATUS_host_present then d.hostGone reason else d

/-- Present where the link is up with Bus Master Enable 1 and no timeout absence stands. -/
def Dev.hostArrives (d : Dev) : Dev :=
  if !d.on F.XDI_STATUS_host_present && d.on F.XDI_STATUS_link_up && d.on F.XDI_STATUS_bme && !d.xdi.ctoAbsent then
    ((d.setF F.XDI_STATUS_host_present).incr F.XDI_STATUS_attach_count)
  else d

/-- What configuration space keeps over an FLR: the payload size, Link Control and the sticky AER registers, as the PCI Express
rules for FLR say (R73; PRESUMED, log entry 59). -/
def PciCfg.overFlr (c : PciCfg) : PciCfg :=
  { devCtl := setBits 0x2810 5 3 (bits c.devCtl 5 3), linkCtl := c.linkCtl, aerUncStatus := c.aerUncStatus,
    aerUncMask := c.aerUncMask, aerUncSeverity := c.aerUncSeverity, aerCorStatus := c.aerCorStatus, aerCorMask := c.aerCorMask }

/-- HOSTRST and FLR on XDI: its registers but those kept, its pairs, configuration space, the timeout absence (R13, R46, R73, R97). -/
def Dev.xdiReset (d : Dev) (k : RstKind) (reason : Nat) : Dev :=
  let was := (List.range 64).filter d.active
  let gone := d.running was
  let d := d.icuHostGone was
  let d := d.resetWindow 3 k (fun _ => true)
  let d := { d with icu := { d.icu with linkL1 := false, fnMask := false, msixEn := false, pmeStatus := false,
                                        pmeEn := false } }
  let d := { d with xdi := { d.xdi with pairs := [], kRings := [], gap := none, chunks := [], revoking := [],
                                        ctoRun := 0, ctoAbsent := false, trainReady := false, negDue := false,
                                        gone := d.xdi.gone ++ gone, cfg := if k == RstKind.flr then d.xdi.cfg.overFlr else {} } }
  d.wr F.XDI_STATUS_absent_reason reason

/-! ### Meanings -/

/-- PCIE_LINK_DOWN (R73): surprise removal. -/
def Dev.pcieLinkDown (d : Dev) : Dev :=
  let d := d.hostLeaves 1
  let d := { d with xdi := { d.xdi with ctoAbsent := false, ctoRun := 0 }, icu := { d.icu with linkL1 := false } }
  (d.clrF F.XDI_STATUS_link_up).clrF F.XDI_STATUS_d3hot

/-- Whether the endpoint trains its link and its HOST domain answers configuration requests (R45). -/
def Dev.hostReady (d : Dev) : Bool := d.domOn .host && d.xdi.trainReady

/-- PCIE_LINK_UP (R45, R46, R96): the link is up, in L0 or in L1, once the endpoint is ready to train; messages that wait for an L1
exit go on waiting for its end. -/
def Dev.pcieLinkUp (d : Dev) (l1 : Bool) : Dev :=
  if !d.hostReady then d
  else
    let l1 := if d.icu.l1Wait.isEmpty then l1 else d.icu.linkL1
    (({ d with icu := { d.icu with linkL1 := l1 } }).setF F.XDI_STATUS_link_up).hostArrives

/-- BUS_MASTER_DISABLE (R73): as surprise removal; a timeout absence ends with the next enable (R46). -/
def Dev.busMasterDisable (d : Dev) : Dev :=
  let d := d.hostLeaves 5
  ({ d with xdi := { d.xdi with ctoAbsent := false, ctoRun := 0 } }).clrF F.XDI_STATUS_bme

/-- BUS_MASTER_ENABLE (R45, R46): a configuration write, which the HOST domain takes once it is ready. -/
def Dev.busMasterEnable (d : Dev) : Dev := if d.hostReady then (d.setF F.XDI_STATUS_bme).hostArrives else d

/-- HOST_READ_TIMEOUT (R44, R46): AER reports it; the third in a row makes the host absent. -/
def Dev.hostReadTimeout (d : Dev) : Dev :=
  if !d.on F.XDI_STATUS_host_present then d
  else
    let run := d.xdi.ctoRun + 1
    let d := { d with xdi := { d.xdi with ctoRun := run, cfg := { d.xdi.cfg with aerUncStatus := d.xdi.cfg.aerUncStatus ||| 2 ^ 14 } } }
    if run = 3 then
      let d := d.hostGone 6
      { d with xdi := { d.xdi with ctoAbsent := true, ctoRun := 0 } }
    else d

/-- D3HOT_ENTER (R73): pairs keep their state and pause. -/
def Dev.d3hotEnter (d : Dev) : Dev :=
  let d := d.setF F.XDI_STATUS_d3hot
  ((List.range 64).filter d.active).foldl (fun d n => d.setF (F.XDI_RP_STAT_paused.at n)) d

/-- D0_RETURN (R73, R96): pairs resume, an export pair only while started is 1; fired vectors send once. -/
def Dev.d0Return (d : Dev) : Dev :=
  let d := d.clrF F.XDI_STATUS_d3hot
  let d := ((List.range 64).filter d.active).foldl (fun d n =>
    d.flag (F.XDI_RP_STAT_paused.at n) (d.ringType n == 2 && !d.on F.XDI_EXP_CTRL_started)) d
  if d.on F.XDI_STATUS_bme && d.icu.msixEn then d.releaseHeld else d

/-- The highest implemented version not above the host's (R47). -/
def negotiate (v : Nat) : Nat :=
  if 0x0200 ≤ v then 0x0200 else if 0x0101 ≤ v then 0x0101 else if 0x0100 ≤ v then 0x0100 else 0

/-- Complete a negotiation; Boot holds it (R49). -/
def Dev.negotiateNow (d : Dev) : Dev :=
  let boot := d.mode == .boot
  let d := { d with xdi := { d.xdi with negDue := boot } }
  if boot then d.clrF F.XDI_NEG_VER_valid
  else (d.wr F.XDI_NEG_VER_version (negotiate (d.rd F.XDI_HOST_VER_version))).setF F.XDI_NEG_VER_valid

/-- XDI_HOST_VER_WRITE (R47, R49). DESIGN CHOICE (log entry 58): a pair counts as enabled by its enable bit, so one in its disable
does not. -/
def Dev.xdiHostVerWrite (d : Dev) (v : Nat) : Dev :=
  if (List.range 64).any (fun n => d.on (F.XDI_RP_CFG_enable.at n)) then d.setF F.XDI_ERR_ver_locked
  else (d.wr F.XDI_HOST_VER_version (bits v 0 16)).negotiateNow

/-- The most pairs of a type that may be enabled (R50). -/
def typeLimit : Nat → Nat
  | 1 => 4 | 2 => 16 | 3 => 8 | 4 => 2 | 5 => 8 | 6 => 1 | 7 => 1 | 8 => 1 | _ => 0

/-- The conditions of R51 for enabling pair n with a CFG value. DESIGN CHOICE (log entry 58): type 0, Disabled, cannot be enabled. -/
def Dev.enableOk (d : Dev) (n v : Nat) : Bool :=
  let ty := bits v 24 4
  let sq := d.rd (F.XDI_RP_SQ_BASE_HI_base_hi.at n) * 2 ^ 32 + d.rd (F.XDI_RP_SQ_BASE_LO_base_lo.at n) * 4096
  let cq := d.rd (F.XDI_RP_CQ_BASE_HI_base_hi.at n) * 2 ^ 32 + d.rd (F.XDI_RP_CQ_BASE_LO_base_lo.at n) * 4096
  d.on F.XDI_NEG_VER_valid && d.rd F.XDI_NEG_VER_version != 0
    && sq + 64 * 16 * 2 ^ (min (bits v 12 4) 12) ≤ 2 ^ 64 && cq + 32 * 16 * 2 ^ (min (bits v 8 4) 12) ≤ 2 ^ 64
    && bits v 12 4 ≤ 12 && bits v 8 4 ≤ 12 && 1 ≤ ty && ty ≤ 8 && (d.enabledOf ty).length + 1 ≤ typeLimit ty
    && (if n = 0 then ty == 1 else d.on (F.XDI_RP_CFG_enable.at 0) && d.ringType 0 == 1 && d.active 0)
    && (!bit v 30 || (ty == 2 && d.xdiVer == 0x0200))
    && (if d.mode == .recovery then ty == 1 || ty == 8 else d.mode != .boot)

/-- Store the fields of XDI_RPn_CFG but enable. -/
def Dev.storeCfg (d : Dev) (n v : Nat) : Dev :=
  ((((((d.wr (F.XDI_RP_CFG_batch.at n) (bits v 30 1)).wr (F.XDI_RP_CFG_type.at n) (bits v 24 4)).wr
    (F.XDI_RP_CFG_vector.at n) (bits v 16 8)).wr (F.XDI_RP_CFG_sq_size.at n) (bits v 12 4)).wr
    (F.XDI_RP_CFG_cq_size.at n) (bits v 8 4)).wr (F.XDI_RP_CFG_batch_to.at n) (bits v 0 8))

/-- RING_CFG_ENABLE (R51): a write of XDI_RPn_CFG with enable 1. On an enabled pair only the vector changes; during a
disable it is refused. -/
def Dev.ringCfgEnable (d : Dev) (n v : Nat) : Dev :=
  if (d.pair n).disabling.isSome then d.setF (F.XDI_RP_STAT_bad_cfg.at n)
  else if d.on (F.XDI_RP_CFG_enable.at n) then d.wr (F.XDI_RP_CFG_vector.at n) (bits v 16 8)
  else
    let d := d.storeCfg n v
    if d.enableOk n v then
      let d := (d.setF (F.XDI_RP_CFG_enable.at n)).setF (F.XDI_RP_STAT_active.at n)
      let d := ((d.wr (F.XDI_RP_SQ_HEAD_head.at n) 0).wr (F.XDI_RP_CQ_TAIL_tail.at n) 0).wr (F.XDI_RP_CQ_TAIL_phase.at n) 1
      let d := d.setPair n {}
      let d := d.flag (F.XDI_RP_STAT_paused.at n)
        (d.on F.XDI_STATUS_d3hot || (bits v 24 4 == 2 && !d.on F.XDI_EXP_CTRL_started))
      if bits v 24 4 = 2 then d.expStart else d
    else d.setF (F.XDI_RP_STAT_bad_cfg.at n)

/-- RING_CFG_DISABLE (R52): fetch stops, fetched descriptors complete with FLUSHED; a ring of the K stops delivery (R63). -/
def Dev.ringCfgDisable (d : Dev) (n : Fin 64) (v : Nat) : Dev :=
  let kept := d.on (F.XDI_RP_CFG_enable.at n.val) || (d.pair n.val).disabling.isSome
  let d := if kept then d.wr (F.XDI_RP_CFG_vector.at n.val) (bits v 16 8) else d.storeCfg n.val v
  if d.on (F.XDI_RP_CFG_enable.at n.val) then
    let d := d.clrF (F.XDI_RP_CFG_enable.at n.val)
    let fs := (d.pair n.val).fetched
    let d := d.setPair n.val { d.pair n.val with disabling := some d.tick }
    let d := fs.foldl (fun d f => d.endFetched n f stFlushed) d
    if d.xdi.kRings.contains n.val then
      let bs := if d.on (F.XDI_RP_CFG_batch.at n.val)
        then (d.pair n.val).bufs.filter (fun b => 0 < b.records) else []
      let d := d.setPair n.val { d.pair n.val with bufs := (d.pair n.val).bufs.filter (fun b => !bs.contains b) }
      let d := bs.foldl (fun d b => d.finish { via := .ring n, w := b.w, data := [] } { status := stFlushed }) d
      d.expStop.expStart
    else d
  else d

/-- DESCRIPTOR_FLUSH_TIMEOUT (R52): a started descriptor not complete 10 ms after the disable completes with FLUSHED; what its engine
ends with later completes nothing. -/
def Dev.descriptorFlushTimeout (d : Dev) (n : Fin 64) (idx : Nat) : Dev :=
  let p := d.pair n.val
  match p.disabling, p.started.find? (fun f => f.idx == idx) with
  | some t, some f =>
    if t + 10 * msNs ≤ d.tick then
      let held := p.bufs.any (fun b => b.w == f.w) || f.ends.isSome
      let d := d.setPair n.val { p with bufs := p.bufs.filter (fun b => b.w != f.w) }
      let d := d.finish { via := .ring n, w := f.w, data := [] } { status := stFlushed }
      if held then d else { d with xdi := { d.xdi with gone := d.xdi.gone ++ [(n.val, f.w)] } }
    else d
  | _, _ => d

/-- SQ_DOORBELL (R62). -/
def Dev.sqDoorbell (d : Dev) (n v : Nat) : Dev :=
  let tail := bits v 0 16
  if !d.active n || (d.pair n).disabling.isSome then d.bump F.XDI_DB_ERR_disabled
  else if d.sqSize n ≤ tail then (d.setF (F.XDI_RP_STAT_bad_sq_tail.at n)).bump F.XDI_DB_ERR_bad_value
  else d.setPair n { d.pair n with sqTail := tail }

/-- Whether a CQ head value lies in the span from the current head to the tail. -/
def Dev.cqHeadOk (d : Dev) (n head : Nat) : Bool :=
  let sz := d.cqSize n
  let cur := (d.pair n).cqHead
  head < sz && (head + sz - cur) % sz ≤ (d.rd (F.XDI_RP_CQ_TAIL_tail.at n) + sz - cur) % sz

/-- The part of CQ_DOORBELL that XDI and the ICU act on (R61, R62, R93, R94): entries freed, the vector acknowledged, the
idle hint set under 1.1 and 2.0. -/
def Dev.cqDoorbellBase (d : Dev) (n v : Nat) : Dev :=
  let head := bits v 0 16
  if !d.active n || (d.pair n).disabling.isSome then d.bump F.XDI_DB_ERR_disabled
  else if !d.cqHeadOk n head then (d.setF (F.XDI_RP_STAT_bad_cq_head.at n)).bump F.XDI_DB_ERR_bad_value
  else
    let d := d.setPair n { d.pair n with cqHead := head }
    let vec := d.rd (F.XDI_RP_CFG_vector.at n)
    (if bit v 31 && 0x0101 ≤ d.xdiVer then d.setF (F.ICU_HV_STAT_idle_hint.at vec) else d).vecAck vec

/-- Whether the CQ is full (R60). -/
def Dev.cqFull (d : Dev) (n : Nat) : Bool :=
  (d.rd (F.XDI_RP_CQ_TAIL_tail.at n) + 1) % d.cqSize n == (d.pair n).cqHead

/-- Descriptors posted and not fetched. -/
def Dev.sqAvail (d : Dev) (n : Nat) : Nat :=
  ((d.pair n).sqTail + d.sqSize n - d.rd (F.XDI_RP_SQ_HEAD_head.at n)) % d.sqSize n

/-- DESCRIPTOR_FETCH (R54, R56, R60): at most 8 of the posted descriptors arrive, take their place in ring order, and are
checked and started up to a fence. A full CQ with completions held stops fetch except on an export ring. -/
def Dev.descriptorFetch (d : Dev) (n : Fin 64) (ds : List (BitVec 512)) : Dev :=
  let stall := d.cqFull n.val && !(d.pair n.val).waiting.isEmpty && d.ringType n.val != 2
  if !d.active n.val || !d.on (F.XDI_RP_CFG_enable.at n.val) || !d.hostReach || stall then d
  else
    let take := ds.take (min 8 (d.sqAvail n.val))
    let h := d.rd (F.XDI_RP_SQ_HEAD_head.at n.val)
    let fs := take.mapIdx (fun i w => ({ idx := (h + i) % d.sqSize n.val, w := w } : Fetched))
    let d := { d with xdi := { d.xdi with ctoRun := 0 } }
    let d := d.wr (F.XDI_RP_SQ_HEAD_head.at n.val) ((h + take.length) % d.sqSize n.val)
    let p := d.pair n.val
    let d := d.setPair n.val { p with fetched := p.fetched ++ fs }
    Dev.startReady ((d.pair n.val).fetched.length + 1) n d

/-- FENCE_RELEASE (R56): every earlier descriptor has completed; a spoiled group ends the fenced descriptor ABORTED,
otherwise it starts; the descriptors behind it follow. -/
def Dev.fenceRelease (d : Dev) (n : Fin 64) : Dev :=
  let p := d.pair n.val
  match p.fetched with
  | f :: rest =>
    if wFence f.w && p.started.isEmpty then
      let d := d.setPair n.val { p with groupBad := false }
      let d := match d.refusedAs n.val f.w with
        | some st => d.endFetched n f st
        | none =>
          if p.groupBad then d.endFetched n f stAborted
          else d.setPair n.val { p with fetched := rest, started := [f], groupBad := false }
      Dev.startReady (rest.length + 1) n d
    else d
  | [] => d

/-- COMPLETION_POST (R57, R59, R60): the oldest waiting completion is written behind its data, the phase inverting at each
wrap, and source n pends; a full CQ holds it and sets cq_stall. A quiet descriptor's data go out with no completion. -/
def Dev.completionPost (d : Dev) (n : Nat) : Dev :=
  let p := d.pair n
  match p.waiting with
  | [] => d
  | c :: rest =>
    if !d.active n || !d.hostReach then d
    else if c.silent then (d.emits (c.data.map (fun x => .hostWrite x.1 x.2))).setPair n { p with waiting := rest }
    else if d.cqFull n then d.setF (F.XDI_RP_STAT_cq_stall.at n)
    else
      let tail := d.rd (F.XDI_RP_CQ_TAIL_tail.at n)
      let ph := d.rd (F.XDI_RP_CQ_TAIL_phase.at n)
      let base := d.rd (F.XDI_RP_CQ_BASE_HI_base_hi.at n) * 2 ^ 32 + d.rd (F.XDI_RP_CQ_BASE_LO_base_lo.at n) * 4096
      let seq := if d.xdiVer == 0x0200 then c.seq else c.seq % 2 ^ 32
      let d := d.emits (c.data.map (fun x => .hostWrite x.1 x.2))
      let d := d.emit (.hostWrite (base + 32 * tail) (cplBytes seq c.result c.result2 c.tag
        (d.rd (F.XDI_RP_SQ_HEAD_head.at n)) c.status c.info (4 * n + ph)))
      let next := (tail + 1) % d.cqSize n
      let d := (d.wr (F.XDI_RP_CQ_TAIL_tail.at n) next).wr (F.XDI_RP_CQ_TAIL_phase.at n) (if next = 0 then 1 - ph else ph)
      (d.setPair n { p with waiting := rest }).raiseIrq n c.irqNow

/-- RING_DISABLE_COMPLETE (R52): every started descriptor has ended; completions are written while the CQ has room, and those still
held are dropped. In D3hot the writes wait, and so does the end of the disable. -/
def Dev.ringDisableComplete (d : Dev) (n : Nat) : Dev :=
  let p := d.pair n
  if p.disabling.isSome && p.started.isEmpty && (p.waiting.isEmpty || d.hostReach) then
    let d := foldN p.waiting.length (fun _ (d : Dev) => d.completionPost n) d
    (d.setPair n {}).clrF (F.XDI_RP_STAT_active.at n) |>.clrF (F.XDI_RP_STAT_paused.at n)
  else d

/-- NOP (R55). -/
def Dev.nop (d : Dev) (c : Desc) : Dev := d.endInTurn c 0

/-- XDI_EXP_CTRL_WRITE (R63). -/
def Dev.xdiExpCtrlWrite (d : Dev) (v : Nat) : Dev :=
  if d.anyExp || 16 < bits v 0 5 then d.setF F.XDI_ERR_exp_ctrl_rej else d.wr F.XDI_EXP_CTRL_count (bits v 0 5)

/-- XDI_EXP_COMMIT_WRITE (R68). -/
def Dev.xdiExpCommitWrite (d : Dev) (v : Nat) : Dev :=
  if d.rd F.XDI_EXP_LIVE_LO_live < v || (d.anyExp && v < d.rd F.XDI_EXP_COMMIT_LO_commit) then d.setF F.XDI_ERR_commit_rej
  else
    let d := d.wr F.XDI_EXP_COMMIT_LO_commit v
    { d with xdi := { d.xdi with commitDirty := true } }

/-- EXP_BUF (R66, R67): handle and args 0; len by the ring's batch bit. -/
def Dev.expBuf (d : Dev) (c : Desc) : Dev :=
  match c.via with
  | .mailbox _ _ => d.fail c stBadOpcode
  | .ring n =>
    let len := wLen c.w
    let ok := if d.on (F.XDI_RP_CFG_batch.at n.val) then len % 4096 == 0 && 4096 ≤ len && len ≤ 0x100000
      else len % 64 == 0 && 64 ≤ len && len ≤ 0x100000
    if ok && wUnusedZero c.w [(8, 20)] then
      let p := d.pair n.val
      if d.xdi.gone.contains (n.val, c.w) then { d with xdi := { d.xdi with gone := d.xdi.gone.erase (n.val, c.w) } }
      else d.setPair n.val { p with bufs := p.bufs ++ [{ w := c.w }] }
    else d.endInTurn c stBadField

/-- The chunks of an HMB list: bus address and length in 2 MiB units of each 16 B entry (R71). -/
def hmbChunks (l : List Byte) : List (Nat × Nat) := (chunks 16 l).map (fun e => (leAt e 0 8, leAt e 8 4))

/-- Whether the chunks are aligned, not empty, apart from one another and at most 8,192 units (R71). -/
def hmbOk (l : List Byte) : Bool :=
  let cs := hmbChunks l
  (chunks 16 l).all (fun e => leAt e 12 4 == 0)
    && cs.all (fun c => c.1 % 0x200000 == 0 && 1 ≤ c.2)
    && (cs.map (·.2)).sum ≤ 8192
    && cs.Pairwise (fun a b => a.1 + a.2 * 0x200000 ≤ b.1 ∨ b.1 + b.2 * 0x200000 ≤ a.1)

/-- HMB_GRANT (R71); a list that cannot be read ends it with HOST_FAULT (R58). DESIGN CHOICE (log entry 58): the version and an
active grant are tested before the fields, and len = 0 is BAD_FIELD. -/
def Dev.hmbGrant (d : Dev) (c : Desc) : Dev :=
  if d.xdiVer < 0x0101 then d.fail c stVersion
  else if d.on F.XDI_HMB_STAT_active then d.fail c stBusy
  else
    d.withFields c [(8, 20)] fun d =>
      if !(wLen c.w % 16 == 0 && 0 < wLen c.w && wLen c.w ≤ 65536) then d.fail c stBadField
      else if c.data.length != wLen c.w then d.fail c stHostFault
      else if hmbOk c.data then
        let units := ((hmbChunks c.data).map (·.2)).sum
        let d := { d with xdi := { d.xdi with chunks := hmbChunks c.data } }
        ((d.setF F.XDI_HMB_STAT_active).wr F.XDI_HMB_STAT_units units).okRes c units
      else d.fail c stBadField

/-- HMB_REVOKE (R72): with no grant active it completes at once. -/
def Dev.hmbRevoke (d : Dev) (c : Desc) : Dev :=
  d.withFields c [] fun d =>
    if d.on F.XDI_HMB_STAT_active then { d with xdi := { d.xdi with revoking := d.xdi.revoking ++ [c] } } else d.okRes c

/-- HMB_REVOKE_DONE (R72): the last access has been issued; the grant ends and every revoke that waits completes. -/
def Dev.hmbRevokeDone (d : Dev) : Dev :=
  let cs := d.xdi.revoking
  if cs.isEmpty then d
  else
    let d := { d with xdi := { d.xdi with revoking := [], chunks := [] } }
    cs.foldl (fun d c => d.okRes c) ((d.clrF F.XDI_HMB_STAT_active).wr F.XDI_HMB_STAT_units 0)

end Sys2Proof.Machine
end

