-- ==== Sys2Proof/Machine/Log.lean ====
section
/-! DEFINITION. The trouble log and Sarabande (chapter 18): offering events and samples, admission to the log by severity,
room and rate, draining to the host, histogram sets, trackers, snapshots and the recorder ring. -/

namespace Sys2Proof.Machine

/-! ### Offering (used by every block) -/

/-- A resource retires, by fault or command: logged, and the PMU's source pends with its cause kept (R490, R493, R496,
R511). -/
def Dev.retireLog (d : Dev) (src kind idx cause : Nat) : Dev :=
  let d := { d with pmu := { d.pmu with causes := mput d.pmu.causes (kind * 2 ^ 32 + idx) cause } }
  (d.trouble src 3 3 kind idx cause).raise 104

/-- The offset of SRB_FQ0's register set. -/
def srbFq : Nat := 0x110030

/-- Send a sample towards Sarabande: it enters SRB_FQ0, whose oldest item a full FIFO drops (R26, R501); nothing is kept while
Sarabande is not running. -/
def Dev.sample (d : Dev) (meas idx value : Nat) : Dev :=
  if d.on F.SRB_STATUS_running then
    let item := leBytes 1 meas ++ leBytes 1 idx ++ leBytes 8 value ++ leBytes 8 d.tick
    let d := if d.fifoRoom srbFq 4096 item then d else { d with srb := { d.srb with drops := d.srb.drops + 1 } }
    d.fifoPush srbFq 4096 item
  else d

/-- The sample a claim by target t gives, the time from pend to claim (R500); `old` is the device before the claim. -/
def Dev.claimSample (d old : Dev) (t : Nat) : Dev :=
  match old.claimable t with
  | none => d
  | some x => d.sample 0x10 t (old.tick - mgetD old.icu.pendAt x.2 old.tick)

/-- ICU_CLAIM (R85), with its sample. -/
def Dev.icuClaimTimed (d : Dev) (t m : Nat) : Dev := (d.icuClaim t m).claimSample d t

/-! ### The log's records (R510, R512) -/

/-- The fabric's own identity for SRB and LOG (R39). -/
def srbId : Nat := 0x29

/-- The log's level: tail - head. -/
def Dev.logLevel (d : Dev) : Nat := serSub 32 (d.rd F.LOG_TAIL_tail) (d.rd F.LOG_HEAD_head)

/-- The slots kept for severities 2 and 3; a field above 32,767 acts as 32,767 (R521). -/
def Dev.logReserve (d : Dev) : Nat := min (d.rd F.LOG_LIMIT_reserve) 32767

/-- Show the level, its flags and source 477's input (R518, R521); reaching the reserve pends source 475. -/
def Dev.logShow (d : Dev) : Dev :=
  let l := d.logLevel
  let was := d.on F.LOG_STATUS_in_reserve
  let now := decide (32768 - d.logReserve ≤ l)
  let d := ((d.wr F.LOG_STATUS_level l).flag F.LOG_STATUS_full (l == 32768)).flag F.LOG_STATUS_in_reserve now
  let d := if now && !was then d.raise 475 else d
  d.syncInput 477

/-- The 32 bytes of a log record (R510). -/
def logBytes (e : LogEv) (lseq lflags : Nat) : List Byte :=
  let b := leBytes 8 e.tick ++ leBytes 4 lseq ++ leBytes 1 (e.src % 64 + 64 * e.sev) ++ leBytes 1 e.code ++ leBytes 1 lflags
    ++ leBytes 1 0 ++ leBytes 4 e.p0 ++ leBytes 4 e.p1 ++ leBytes 4 e.p2
  b ++ leBytes 3 (crc32c 0xFFFFFFFF b) ++ leBytes 1 0xA5

/-- Put one record into the next slot: lseq counts up, source 474 pends at irq_sev or above. -/
def Dev.logPut (d : Dev) (e : LogEv) (lflags : Nat) : Dev :=
  let lseq := d.rd F.LOG_TAIL_tail
  let d := { d with log := { d.log with slots := tset d.log.slots (lseq % 32768) (leNat (logBytes e lseq lflags)) } }
  let d := d.incr F.LOG_TAIL_tail
  let d := if d.rd F.LOG_CTRL_irq_sev ≤ e.sev then d.raise 474 else d
  d.logShow

/-- The lost summary ahead of the first record written after a run of losses (R512). -/
def Dev.logLostSummary (d : Dev) : Dev :=
  if d.log.lostRun = 0 then d
  else
    let e : LogEv := { tick := d.tick, src := srbId, sev := 2, code := 0xF0, p0 := d.log.lostRun,
                       p1 := d.log.lostFirst % 2 ^ 32, p2 := 0 }
    ({ d with log := { d.log with lostRun := 0 } }).logPut e 0

/-- A record lost for want of room: counted, its run begun or lengthened, source 476 (R512, R518). -/
def Dev.logLose (d : Dev) : Dev :=
  let d := { d with log := { d.log with lostRun := d.log.lostRun + 1,
                                        lostFirst := if d.log.lostRun = 0 then d.tick else d.log.lostFirst } }
  (d.bump F.LOG_LOST_lost).raise 476

/-- Whether a record of a severity has room (R512). -/
def Dev.logRoom (d : Dev) (sev : Nat) : Bool :=
  let l := d.logLevel
  l < 32768 && (2 ≤ sev || l < 32768 - d.logReserve)

/-- Write a suppressed summary of a source, if one is due and a slot is free (R512, R513). -/
def Dev.logSuppSummary (d : Dev) (src : Nat) : Dev :=
  let b := mgetD d.log.buckets src {}
  if b.supp = 0 then d
  else
    let d := if d.logLevel < 32768 then d.logLostSummary else d
    if d.logLevel < 32768 then
      let e : LogEv := { tick := d.tick, src := src, sev := 1, code := 0xF1, p0 := b.supp, p1 := b.lastCode,
                         p2 := b.firstTick % 2 ^ 32 }
      ({ d with log := { d.log with buckets := mput d.log.buckets src { b with supp := 0 } } }).logPut e 0
    else d

/-- A source's bucket brought to now: full again, or with the tokens that have fallen due (R513). -/
def Dev.logRefilled (d : Dev) (src : Nat) : LogBucket :=
  let b := mgetD d.log.buckets src {}
  let gained := (d.tick - b.base) * (zeroAs (d.rd F.LOG_LIMIT_rate) 1) / sNs
  if b.used ≤ gained then { b with used := 0, base := d.tick } else b

/-- The tokens a bucket holds now. -/
def Dev.logTokens (d : Dev) (b : LogBucket) : Nat :=
  let gained := (d.tick - b.base) * (zeroAs (d.rd F.LOG_LIMIT_rate) 1) / sNs
  (zeroAs (d.rd F.LOG_LIMIT_burst) 1) - (b.used - gained)

/-- Admit a record (R512, then R513): filtered below min_sev, lost without room, suppressed without a token, otherwise written
behind the summaries that precede it. -/
def Dev.logAdmit (d : Dev) (e : LogEv) (lflags : Nat := 0) : Dev :=
  if e.sev < d.rd F.LOG_CTRL_min_sev then d.bump F.LOG_LOST2_filtered
  else if !d.logRoom e.sev then d.logLose
  else if e.sev = 3 || !d.on F.LOG_CTRL_limit_en then
    let d := d.logLostSummary
    let d := if e.sev = 3 then d else d.logSuppSummary e.src
    if d.logRoom e.sev then d.logPut e lflags else d.logLose
  else
    let b := d.logRefilled e.src
    if d.logTokens b = 0 then
      let b := { b with supp := b.supp + 1, lastCode := e.code, lastTick := d.tick,
                        firstTick := if b.supp = 0 then d.tick else b.firstTick }
      ({ d with log := { d.log with buckets := mput d.log.buckets e.src b } }).bump F.LOG_LOST_suppressed
    else
      let b := if b.used = 0 then { b with used := 1, base := d.tick } else { b with used := b.used + 1 }
      let d := { d with log := { d.log with buckets := mput d.log.buckets e.src b } }
      let d := d.logLostSummary
      let d := d.logSuppSummary e.src
      if d.logRoom e.sev then d.logPut e lflags else d.logLose

/-! ### Draining (R515) -/

/-- The log-drain ring, if one is enabled and active. -/
def Dev.logRing (d : Dev) : Option Nat := ((d.enabledOf 6).filter d.active).head?

/-- End the front LOG_BUF of the log-drain ring: the records it took stay in the log until the host's CQ head passes this
completion. -/
def Dev.logBufEnd (d : Dev) (n : Nat) (b : PostedBuf) (status : Nat) : Dev :=
  let p := d.pair n
  let idx := (d.rd (F.XDI_RP_CQ_TAIL_tail.at n) + (p.waiting.filter (fun (c : Cpl) => !c.silent)).length) % d.cqSize n
  let d := d.setPair n { p with bufs := p.bufs.drop 1 }
  let d := { d with log := { d.log with acks := d.log.acks ++ [(idx, d.log.drain)] } }
  d.finish { via := .ring (Fin.ofNat 64 n), w := b.w, data := [] }
    { status := status, seq := b.firstSeq, result := wAddr b.w, result2 := b.records, data := [(wAddr b.w, b.body)] }

/-- Copy the next record into the front posted buffer; a full buffer completes. -/
def Dev.logDrainOne (d : Dev) : Dev :=
  match d.logRing with
  | none => d
  | some n =>
    match (d.pair n).bufs with
    | [] => d
    | b :: rest =>
      if d.log.drain == d.rd F.LOG_TAIL_tail then d
      else
        let rec32 := leBytes 32 (tget d.log.slots (d.log.drain % 32768))
        let b := { b with body := b.body ++ rec32, filled := b.filled + 32, records := b.records + 1,
                          firstSeq := if b.records = 0 then d.log.drain else b.firstSeq,
                          firstTick := if b.records = 0 then d.tick else b.firstTick }
        let d := { d with log := { d.log with drain := (d.log.drain + 1) % 2 ^ 32 } }
        if wLen b.w ≤ b.filled then d.logBufEnd n b 0 else d.setPair n { d.pair n with bufs := b :: rest }

/-- Drain what the posted buffers take. -/
def Dev.logDrain (d : Dev) : Dev := foldN (d.logLevel + 1) (fun _ d => d.logDrainOne) d

/-- LOG_HEAD moves to an lseq; suppressed summaries that waited for a slot are written (R512, R516). -/
def Dev.logHeadTo (d : Dev) (h : Nat) : Dev :=
  let full := d.logLevel == 32768
  let d := (d.wr F.LOG_HEAD_head h).logShow
  if full then
    let due := d.log.buckets.filter (fun e => e.2.supp != 0 && e.2.lastTick + sNs ≤ d.tick)
    due.foldl (fun d e => d.logSuppSummary e.1) d
  else d

/-- Show whether a log-drain ring is enabled; a newly enabled one drains from the head (R515, R521). -/
def Dev.logRingSync (d : Dev) : Dev :=
  let now := !(d.enabledOf 6).isEmpty
  if now && !d.on F.LOG_STATUS_drain_ring then
    ({ d with log := { d.log with drain := d.rd F.LOG_HEAD_head, acks := [] } }).setF F.LOG_STATUS_drain_ring
  else d.flag F.LOG_STATUS_drain_ring now

/-- The host's CQ head moved from one entry to another: records of the LOG_BUF completions passed leave the log (R515). -/
def Dev.logAck (d : Dev) (n fromIdx toIdx : Nat) : Dev :=
  if d.logRing == some n then
    let sz := d.cqSize n
    let passed := fun (a : Nat × Nat) => (a.1 + sz - fromIdx) % sz < (toIdx + sz - fromIdx) % sz
    let gone := d.log.acks.filter passed
    let d := { d with log := { d.log with acks := d.log.acks.filter (fun a => !passed a) } }
    gone.foldl (fun d a =>
      let k := serSub 32 a.2 (d.rd F.LOG_HEAD_head)
      if k ≤ d.logLevel then d.logHeadTo a.2 else d) d
  else d

/-! ### Meanings of the log -/

/-- CQ_DOORBELL (R61, R62, R515). -/
def Dev.cqDoorbell (d : Dev) (n v : Nat) : Dev :=
  let old := (d.pair n).cqHead
  let d := d.cqDoorbellBase n v
  let new := (d.pair n).cqHead
  if old = new then d else (d.logAck n old new).logDrain

/-- LOG_RECORD (R512, R513): the oldest event offered is admitted or refused. -/
def Dev.logRecord (d : Dev) : Dev :=
  match d.log.offered with
  | [] => d
  | e :: rest => (({ d with log := { d.log with offered := rest } }).logAdmit e).logDrain

/-- Refuse a firmware append (R514). -/
def Dev.logFwBad (d : Dev) : Dev := ((d.setF F.LOG_STATUS_fw_bad).bump F.LOG_LOST2_fw_refused).raise 478

/-- LOG_APPEND (R514): m writes the Hall offset of a record. -/
def Dev.logAppend (d : Dev) (m v : Nat) : Dev :=
  let a := hallBase + bits v 5 21 * 32
  if !inHall a 32 then d.logFwBad
  else
    let b := d.mem.readBytes a 32
    let code := byteAt b 13
    if leAt b 28 3 == crc32c 0xFFFFFFFF (b.take 28) % 2 ^ 24 && 0x80 ≤ code && code ≤ 0xEF && bit (byteAt b 14) 0 then
      let t := leAt b 0 8
      let e : LogEv := { tick := if t = 0 then d.tick else t, src := m, sev := byteAt b 12 / 64, code := code,
                         p0 := leAt b 16 4, p1 := leAt b 20 4, p2 := leAt b 24 4 }
      (d.logAdmit e (byteAt b 14)).logDrain
    else d.logFwBad

/-- LOG_BUF (R515): posted; it takes records at once. -/
def Dev.logBuf (d : Dev) (c : Desc) : Dev :=
  match c.via with
  | .mailbox _ _ => d.fail c stBadOpcode
  | .ring n =>
    d.withFields c [(8, 20)] fun d =>
      if wLen c.w % 32 == 0 && 32 ≤ wLen c.w && wLen c.w ≤ 0x100000 then
        let p := d.pair n.val
        (d.setPair n.val { p with bufs := p.bufs ++ [{ w := c.w }] }).logDrain
      else d.fail c stBadField

/-- LOG_BUF_TIMEOUT (R515): drain_to ms after its first record the front buffer completes with OK_PARTIAL. -/
def Dev.logBufTimeout (d : Dev) : Dev :=
  match d.logRing with
  | none => d
  | some n =>
    match (d.pair n).bufs with
    | [] => d
    | b :: _ =>
      if b.records != 0 && b.firstTick + zeroAs (d.rd F.LOG_CTRL_drain_to) 1 * msNs ≤ d.tick then d.logBufEnd n b stOkPartial
      else d

/-- LOG_MARK (R515): a mark under source 0x00 with severity 0; result its lseq. Where the mark is refused no lseq exists and
the result is a free value (log entry 2). -/
def Dev.logMark (d : Dev) (c : Desc) : Dev :=
  d.withFields c [(24, 36)] fun d =>
    let t := d.rd F.LOG_TAIL_tail
    let d := d.logAdmit { tick := d.tick, src := 0, sev := 0, code := 0xF2, p0 := wArg c.w 24 4, p1 := wArg c.w 28 4,
                          p2 := wArg c.w 32 4 }
    let t2 := d.rd F.LOG_TAIL_tail
    if t2 = t then (d.drawn.okRes c (d.freeVal 64)) else ((d.okRes c ((t2 + 2 ^ 32 - 1) % 2 ^ 32)).logDrain)

/-- Empty the log and write a cleared record for a writer (R515, R516, R521). -/
def Dev.logEmpty (d : Dev) (src : Nat) : Dev :=
  let gone := d.logLevel
  let t := d.rd F.LOG_TAIL_tail
  let d := { d with log := { d.log with acks := [], drain := t } }
  let d := d.logHeadTo t
  (d.logAdmit { tick := d.tick, src := src, sev := 1, code := 0xF3, p0 := gone, p1 := 0, p2 := 0 }).logDrain

/-- LOG_CLEAR (R515). -/
def Dev.logClear (d : Dev) (c : Desc) : Dev :=
  d.withFields c [] fun d =>
    let gone := d.logLevel
    (d.logEmpty 0).okRes c gone

/-- LOG_CTRL_CLEAR (R521): clear written by a master. -/
def Dev.logCtrlClear (d : Dev) (m : Nat) : Dev := d.logEmpty m

/-- LOG_HEAD_WRITE (R515): refused with a log-drain ring enabled or outside head to tail. -/
def Dev.logHeadWrite (d : Dev) (v : Nat) : Dev :=
  if d.on F.LOG_STATUS_drain_ring || d.logLevel < serSub 32 v (d.rd F.LOG_HEAD_head) then d.setF F.LOG_STATUS_head_rej
  else d.logHeadTo v

/-- LOG_SEL_WRITE (R522). -/
def Dev.logSelWrite (d : Dev) (v : Nat) : Dev :=
  let s := bits v 0 15
  let r := tget d.log.slots s
  let d := (d.wr F.LOG_SEL_slot s).setF F.LOG_SEL_loaded
  foldN 8 (fun i d => d.wr (F.LOG_REC_w.at i) (bits r (32 * i) 32)) d

/-- SUPPRESSED_SUMMARY_TIMER (R513): 1 s after a source's last suppression. -/
def Dev.suppressedSummaryTimer (d : Dev) (src : Nat) : Dev :=
  let b := mgetD d.log.buckets src {}
  if b.supp != 0 && b.lastTick + sNs ≤ d.tick then (d.logSuppSummary src).logDrain else d

/-! ### Histogram sets and trackers (R500–R504) -/

/-- Clamp to the signed 64-bit range. -/
def sat64 (i : Int) : Int := max (-(2 ^ 63)) (min (2 ^ 63 - 1) i)

/-- The measurands that exist (R500). -/
def measurandOk (m : Nat) : Bool := (1 ≤ m && m ≤ 0x10) || (0x40 ≤ m && m ≤ 0x7F)

/-- The measurands that have an index (R500). -/
def measurandIndexed (m : Nat) : Bool :=
  m == 1 || m == 2 || m == 3 || m == 5 || m == 7 || m == 8 || m == 9 || m == 0xB || m == 0xC || m == 0x10

/-- Whether a measurand and filter match a sample (R500, R502). -/
def measMatch (cfgM cfgF m idx : Nat) : Bool :=
  measurandOk m && cfgM == m && (cfgF == 0xFF || !measurandIndexed m || cfgF == idx)

/-- The number of bits of a number. -/
def bitLength (n : Nat) : Nat := if n = 0 then 0 else Nat.log2 n + 1

/-- The bin of a sample (R503). -/
def histBin (log2Mode : Bool) (width : Nat) (base v : Int) : Nat :=
  let x := v - base
  if x < 0 then 0
  else if log2Mode then
    let u := x.toNat >>> (width % 64)
    if u = 0 then 1 else min 63 (1 + bitLength u)
  else min 63 (1 + x.toNat / zeroAs width 1)

/-- One sample in one histogram set. -/
def HistSet.add (h : HistSet) (bin : Nat) (v : Int) : HistSet :=
  { h with bins := tset h.bins bin (satAdd 0xFFFFFFFF (tget h.bins bin) 1), count := satAdd 0xFFFFFFFF h.count 1,
           sum := sat64 (h.sum + v) }

/-- One sample in one tracker (R504): a later equal value moves no tick. -/
def ExtTracker.add (t : ExtTracker) (v : Int) (tick : Nat) : ExtTracker :=
  if t.count = 0 then
    { t with count := 1, sum := sat64 v, last := v, min := v, max := v, minTick := tick, maxTick := tick }
  else
    { t with count := satAdd 0xFFFFFFFF t.count 1, sum := sat64 (t.sum + v), last := v,
             min := if v < t.min then v else t.min, minTick := if v < t.min then tick else t.minTick,
             max := if t.max < v then v else t.max, maxTick := if t.max < v then tick else t.maxTick }

/-- A sample in every matching enabled set and tracker. -/
def Dev.srbAdd (d : Dev) (m idx : Nat) (v : Int) (tick : Nat) : Dev :=
  let d := foldN 32 (fun s d =>
    if d.on (F.SRB_HIST_CFG_enable.at s)
        && measMatch (d.rd (F.SRB_HIST_CFG_measurand.at s)) (d.rd (F.SRB_HIST_CFG_filter.at s)) m idx then
      let bin := histBin (d.on (F.SRB_HIST_CFG_mode.at s)) (d.rd (F.SRB_HIST_WIDTH_width.at s))
        (sgn 64 (d.rd (F.SRB_HIST_BASE_LO_base.at s))) v
      { d with srb := { d.srb with hist := mput d.srb.hist s ((mgetD d.srb.hist s {}).add bin v) } }
    else d) d
  foldN 32 (fun t d =>
    if d.on (F.SRB_EXT_CFG_enable.at t)
        && measMatch (d.rd (F.SRB_EXT_CFG_measurand.at t)) (d.rd (F.SRB_EXT_CFG_filter.at t)) m idx then
      { d with srb := { d.srb with ext := mput d.srb.ext t ((mgetD d.srb.ext t {}).add v tick) } }
    else d) d

/-- Count a sample; those taken at the present tick are kept apart as well, since a snapshot captured at it leaves them to the
next interval (R505). -/
def Dev.srbCount (d : Dev) (m idx : Nat) (v : Int) (tick : Nat) : Dev :=
  if tick != d.tick then d.srbAdd m idx v tick
  else
    let s := d.srb
    let s := if s.cur.isEmpty || s.curTick != tick then { s with curTick := tick, cur := [], curHist := s.hist, curExt := s.ext } else s
    { d with srb := { s with cur := s.cur ++ [(m, idx, v)] } }.srbAdd m idx v tick

/-- Take the oldest item of SRB_FQ0 and count it. -/
def Dev.srbTakeItem (d : Dev) : Dev :=
  match d.fifoHead srbFq with
  | none => d
  | some it => (d.fifoPop srbFq).srbCount (leAt it 0 1) (leAt it 1 1) (sgn 64 (leAt it 2 8)) (leAt it 10 8)

/-- Count what SRB_FQ0 holds of earlier ticks. -/
def Dev.srbDrainOld (d : Dev) : Dev :=
  foldN (d.fifo srbFq).items.length (fun _ (d : Dev) =>
    if (d.fifoHead srbFq).any (fun it => leAt it 10 8 < d.tick) then d.srbTakeItem else d) d

/-- A set restarted (R505, R520). -/
def Dev.histRestart (d : Dev) (s : Nat) : Dev :=
  let h : HistSet := { start := d.tick, drops := d.srb.drops }
  { d with srb := { d.srb with hist := mput d.srb.hist s h, curHist := mput d.srb.curHist s h } }

/-- A tracker restarted. -/
def Dev.extRestart (d : Dev) (t : Nat) : Dev :=
  let x : ExtTracker := { start := d.tick, drops := d.srb.drops }
  { d with srb := { d.srb with ext := mput d.srb.ext t x, curExt := mput d.srb.curExt t x } }

/-! ### Records and the ring (R505–R508) -/

/-- The header of a recorder record but rseq, check and vmark (R507), then its body; check and vmark are set when written. -/
def srbRecord (rtype units idx meas filt rflags rseq start stop samples lost : Nat) (body0 body : List Byte) : List Byte :=
  leBytes 1 rtype ++ leBytes 1 units ++ leBytes 1 idx ++ leBytes 1 meas ++ leBytes 1 filt ++ leBytes 1 rflags ++ zeros 2
    ++ leBytes 8 rseq ++ leBytes 8 start ++ leBytes 8 stop ++ leBytes 4 samples ++ leBytes 4 lost ++ padTo 20 body0
    ++ zeros 4 ++ body

/-- A record with its check and vmark in place. -/
def srbSealed (r : List Byte) : List Byte :=
  r.take 60 ++ leBytes 3 (crc32c 0xFFFFFFFF (r.take 60 ++ r.drop 64)) ++ leBytes 1 0xA5 ++ r.drop 64

/-- A record with an rseq. -/
def srbWithSeq (r : List Byte) (rseq : Nat) : List Byte := r.take 8 ++ leBytes 8 rseq ++ r.drop 16

/-- The record of histogram set s now (R507). -/
def Dev.histRecord (d : Dev) (s : Nat) (byCmd : Bool) : List Byte :=
  let h := mgetD d.srb.hist s {}
  let full := h.count == 0xFFFFFFFF || h.bins.any (fun e => e.2 == 0xFFFFFFFF)
  let fl := b2n (d.on (F.SRB_HIST_CFG_mode.at s)) + 2 * b2n (d.on (F.SRB_HIST_CFG_cumulative.at s)) + 4 * b2n byCmd
    + 8 * b2n full
  srbRecord 1 5 s (d.rd (F.SRB_HIST_CFG_measurand.at s)) (d.rd (F.SRB_HIST_CFG_filter.at s)) fl (d.rd F.SRB_NEXT_LO_rseq)
    h.start d.tick h.count (min (d.srb.drops - h.drops) 0xFFFFFFFF)
    (leBytes 8 (d.rd (F.SRB_HIST_BASE_LO_base.at s)) ++ leBytes 4 (d.rd (F.SRB_HIST_WIDTH_width.at s)) ++ leBytes 8 (uns 64 h.sum))
    ((List.range 64).flatMap (fun b => leBytes 4 (tget h.bins b)))

/-- The record of tracker t now. -/
def Dev.extRecord (d : Dev) (t : Nat) (byCmd : Bool) : List Byte :=
  let x := mgetD d.srb.ext t {}
  let fl := 2 * b2n (d.on (F.SRB_EXT_CFG_cumulative.at t)) + 4 * b2n byCmd + 8 * b2n (x.count == 0xFFFFFFFF)
  srbRecord 2 2 t (d.rd (F.SRB_EXT_CFG_measurand.at t)) (d.rd (F.SRB_EXT_CFG_filter.at t)) fl (d.rd F.SRB_NEXT_LO_rseq)
    x.start d.tick x.count (min (d.srb.drops - x.drops) 0xFFFFFFFF) (leBytes 8 (uns 64 x.sum) ++ leBytes 8 (uns 64 x.last))
    (leBytes 8 (uns 64 x.min) ++ leBytes 8 (uns 64 x.max) ++ leBytes 8 x.minTick ++ leBytes 8 x.maxTick ++ zeros 32)

/-- Capture every enabled set, then every enabled tracker, ascending; those not cumulative restart (R505). -/
def Dev.srbCaptureAll (d : Dev) (byCmd : Bool) : Dev :=
  let d := (List.range 32).foldl (fun d s =>
    if d.on (F.SRB_HIST_CFG_enable.at s) then
      let d := { d with srb := { d.srb with capture := d.srb.capture ++ [d.histRecord s byCmd] } }
      if d.on (F.SRB_HIST_CFG_cumulative.at s) then d else d.histRestart s
    else d) d
  (List.range 32).foldl (fun d t =>
    if d.on (F.SRB_EXT_CFG_enable.at t) then
      let d := { d with srb := { d.srb with capture := d.srb.capture ++ [d.extRecord t byCmd] } }
      if d.on (F.SRB_EXT_CFG_cumulative.at t) then d else d.extRestart t
    else d) d

/-- Capture a snapshot (R505): the samples of earlier ticks belong to it, those of the present tick to the next interval. -/
def Dev.srbCapture (d : Dev) (byCmd : Bool) : Dev :=
  let d := d.srbDrainOld
  if d.srb.cur.isEmpty || d.srb.curTick != d.tick then d.srbCaptureAll byCmd
  else
    let now := d.srb.cur
    let d := { d with srb := { d.srb with hist := d.srb.curHist, ext := d.srb.curExt, cur := [] } }.srbCaptureAll byCmd
    now.foldl (fun (d : Dev) (x : Nat × Nat × Int) => d.srbCount x.1 x.2.1 x.2.2 d.tick) d

/-- Request a snapshot: merged into one still being written (R505). -/
def Dev.srbRequest (d : Dev) (byCmd : Bool) : Dev :=
  if !d.on F.SRB_STATUS_running then d
  else if d.srb.capture.isEmpty then d.srbCapture byCmd
  else d.setF F.SRB_STATUS_snap_merged

/-- ring_mib in 64 B units: 1–1,024; other values act as 64 (R520). -/
def Dev.srbUnits (d : Dev) : Nat :=
  let m := d.rd F.SRB_AREA_CFG_ring_mib
  (if 1 ≤ m && m ≤ 1024 then m else 64) * 16384

/-- The area's base. -/
def Dev.srbArea (d : Dev) : Nat := d.rd F.SRB_AREA_BASE_HI_base_hi * 2 ^ 32 + d.rd F.SRB_AREA_BASE_LO_base_lo * 2 ^ 30

/-- The internal address of a ring unit (R506). -/
def Dev.srbUnitAddr (d : Dev) (u : Nat) : Nat := d.srbArea + 0x10000 + 64 * u

/-- OLDEST after the held records changed. -/
def Dev.srbShowOldest (d : Dev) : Dev :=
  d.wr F.SRB_OLDEST_LO_rseq
    (match d.srb.held with
     | [] => d.rd F.SRB_NEXT_LO_rseq
     | e :: _ => e.1)

/-- Write one record to the ring (R506, R508): never across the end; records it overwrites are gone. -/
def Dev.srbWriteRecord (d : Dev) (r : List Byte) : Dev :=
  let units := r.length / 64
  let pos := if d.srbUnits < d.srb.ringPos + units then 0 else d.srb.ringPos
  let rseq := d.rd F.SRB_NEXT_LO_rseq
  let d := d.memWrB (d.srbUnitAddr pos) (srbSealed (srbWithSeq r rseq))
  let apart := fun (e : Nat × Nat × Nat) => e.2.1 + e.2.2 ≤ pos || pos + units ≤ e.2.1
  let wrapped := pos < d.srb.ringPos
  let held := d.srb.held.filter (fun e => apart e && !(wrapped && d.srb.ringPos ≤ e.2.1))
  let d := { d with srb := { d.srb with ringPos := pos + units, held := held ++ [(rseq, pos, units)] } }
  (d.incr F.SRB_NEXT_LO_rseq).srbShowOldest

/-- Write the captured records; source 472 (R505). -/
def Dev.srbWriteCapture (d : Dev) : Dev :=
  let rs := d.srb.capture
  if rs.isEmpty then d
  else
    let d := rs.foldl (fun d r => d.srbWriteRecord r) d
    (({ d with srb := { d.srb with capture := [] } }).clrF F.SRB_CTRL_snap_now).raise 472

/-- Whether a record in the ring is sound: vmark and check (R508). -/
def srbSound (r : List Byte) : Bool :=
  byteAt r 63 == 0xA5 && leAt r 60 3 == crc32c 0xFFFFFFFF (r.take 60 ++ r.drop 64) % 2 ^ 24

/-- The newest run of records whose rseq follow one another, given in falling order. -/
def srbRun : List (Nat × Nat × Nat) → List (Nat × Nat × Nat)
  | [] => []
  | [x] => [x]
  | x :: y :: rest => if y.1 + 1 = x.1 then x :: srbRun (y :: rest) else [x]

/-- The ring scan at enable (R517): the sound hardware records found in the ring, by rseq, as far back as they follow one another:
older ones lie in units that later records have passed over. A vmark is a byte that memory lists, so only the units that end in
one are tried. -/
def Dev.srbScan (d : Dev) : List (Nat × Nat × Nat) :=
  let lo := d.srbUnitAddr 0
  let found := d.mem.filterMap fun e =>
    if lo ≤ e.1 && e.1 < lo + 64 * d.srbUnits && (e.1 - lo) % 64 == 63 && e.2 == 0xA5 then
      let u := (e.1 - lo) / 64
      let n := (d.mem.read (d.srbUnitAddr u + 1)).toNat
      let r := d.mem.readBytes (d.srbUnitAddr u) (64 * n)
      if 1 ≤ n && u + n ≤ d.srbUnits && srbSound r then some (leAt r 8 8, u, n) else none
    else none
  (srbRun (found.mergeSort (fun a b => b.1 ≤ a.1))).reverse

/-! ### Meanings of Sarabande -/

/-- SRB_ENABLE (R506, R517, R520). -/
def Dev.srbEnable (d : Dev) : Dev :=
  if d.on F.SRB_STATUS_running then d
  else if !d.inDram d.srbArea (0x10000 + 64 * d.srbUnits) then d.setF F.SRB_STATUS_area_bad
  else
    let held := d.srbScan
    let d := (d.setF F.SRB_CTRL_enable).commitRwl 0x110000
    let last := held.getLast?
    let pos := (last.map (fun e => e.2.1 + e.2.2)).getD 0
    let d := { d with srb := { d.srb with held := held, capture := [], ringPos := pos } }
    let d := (d.wr F.SRB_NEXT_LO_rseq ((last.map (fun e => e.1 + 1)).getD 0)).srbShowOldest
    let d := foldN 32 (fun s d => (d.histRestart s).extRestart s) d
    d.setF F.SRB_STATUS_running

/-- SRB_SAMPLE (R500–R504): a hardware sample, where one is given, enters SRB_FQ0; then Sarabande takes the oldest item and
counts it. -/
def Dev.srbSample (d : Dev) (hw : Option (Nat × Nat × Nat)) : Dev :=
  let d := match hw with
    | none => d
    | some (m, i, v) => d.sample m i v
  if d.on F.SRB_STATUS_running then d.srbTakeItem else d

/-- SRB_FEED_WRITE (R501, R520): one firmware sample, its value sign-extended. -/
def Dev.srbFeedWrite (d : Dev) (v : Nat) : Dev := d.sample (0x40 + bits v 26 6) 0 (uns 64 (sgn 24 v))

/-- SNAPSHOT_TIMER (R505): at a whole device second that is a multiple of snap_s. -/
def Dev.snapshotTimer (d : Dev) (sec : Nat) : Dev :=
  let s := d.rd F.SRB_CTRL_snap_s
  if s != 0 && sec % s == 0 then d.srbRequest false else d

/-- SRB_SNAP_NOW (R505, R520): Sarabande takes snapshots while it runs. -/
def Dev.srbSnapNow (d : Dev) : Dev :=
  if d.on F.SRB_STATUS_running then (d.setF F.SRB_CTRL_snap_now).srbRequest true else d

/-- SNAPSHOT_WRITTEN (R505). A snapshot with nothing enabled writes no record and still ends. -/
def Dev.snapshotWritten (d : Dev) : Dev :=
  if d.srb.capture.isEmpty then
    if d.on F.SRB_CTRL_snap_now && d.on F.SRB_STATUS_running then (d.clrF F.SRB_CTRL_snap_now).raise 472 else d
  else d.srbWriteCapture

/-- SRB_WSEL_WRITE (R520): the live record of the set or tracker goes into the window. -/
def Dev.srbWselWrite (d : Dev) (v : Nat) : Dev :=
  let tr := bit v 5
  let i := bits v 0 5
  let d := ((d.wr F.SRB_WSEL_idx i).flag F.SRB_WSEL_tracker tr).setF F.SRB_WSEL_loaded
  let r := srbSealed (if tr then d.extRecord i false else d.histRecord i false)
  foldN 80 (fun w d => d.wr (F.SRB_WIN_w.at w) (leAt r (4 * w) 4)) d

/-- The records SRB_COPY takes: whole, sound, within the units (R515). -/
def Dev.srbTake (d : Dev) : List (Nat × Nat × Nat) → Nat → List (Nat × List Byte)
  | [], _ => []
  | (q, u, n) :: rest, left =>
    let r := d.mem.readBytes (d.srbUnitAddr u) (64 * n)
    if srbSound r && leAt r 8 8 == q then (if n ≤ left then (q, r) :: Dev.srbTake d rest (left - n) else [])
    else Dev.srbTake d rest left

/-- SRB_COPY (R515, R516). -/
def Dev.srbCopy (d : Dev) (c : Desc) : Dev :=
  d.withFields c [(8, 20), (24, 37)] fun d =>
    let units := wArg c.w 32 4
    if wArg c.w 36 1 < 2 && wLen c.w % 64 == 0 && units ≤ wLen c.w / 64 then
      let d := if wArg c.w 36 1 == 1 then (d.srbRequest true).srbWriteCapture else d
      let rest := d.srb.held.filter (fun e => wArg c.w 24 8 ≤ e.1)
      let got := d.srbTake rest units
      let next := match got.getLast? with
        | some x => x.1 + 1
        | none => match rest with
          | [] => d.rd F.SRB_NEXT_LO_rseq
          | e :: _ => e.1
      d.finish c { status := 0, result := got.length, result2 := next, data := [(wAddr c.w, got.flatMap (·.2))] }
    else d.fail c stBadField

end Sys2Proof.Machine
end

