-- ==== Sys2Proof/Machine/Link.lean ====
section
/-! DEFINITION. Sending to the pair partner (R423–R426): the message format, the link sequence, the limit of unacknowledged
bytes, the four classes, and what the active unit mirrors (R438). -/

namespace Sys2Proof.Machine

/-- A message's bytes (R424): the 16 B header, the payload, the CRC-32C over both. -/
def eplBytes (m : EplMsg) (seq ack term : Nat) : List Byte :=
  let b := leBytes 1 m.mtype ++ leBytes 1 m.mflags ++ leBytes 2 m.payload.length ++ leBytes 4 seq ++ leBytes 4 ack
    ++ leBytes 4 term ++ m.payload
  b ++ leBytes 4 (crc32c 0xFFFFFFFF b)

/-- The size of a message on the link. -/
def eplSize (m : EplMsg) : Nat := 20 + m.payload.length

/-- The class of a message (R426), 0 the highest. -/
def eplClass (mtype : Nat) : Nat :=
  if 1 ≤ mtype && mtype ≤ 4 then 0
  else if 0xF ≤ mtype && mtype ≤ 0x11 then 1
  else if mtype = 9 || mtype = 0xA || mtype = 0xC || mtype = 0xD then 2
  else 3

/-- Put a message on the wire under a link sequence. -/
def Dev.eplEmit (d : Dev) (seq : Nat) (m : EplMsg) : Dev :=
  d.emit (.epl (eplBytes m seq (d.epl.rxLast.getD 0) (d.rd F.EPL_TOKEN_term)))

/-- Bytes sent and not acknowledged. -/
def Epl.inFlight (e : Epl) : Nat := (e.unacked.map (fun x => eplSize x.2)).sum

/-- The message to send next: the oldest of the highest class (R426). -/
def Epl.next (e : Epl) : Option EplMsg :=
  ((List.range 4).filterMap (fun k => e.waiting.find? (fun m => eplClass m.mtype == k))).head?

/-- Send what waits while the link is up and the limit of 1 MiB allows. -/
def Dev.eplDrainF : Nat → Dev → Dev
  | 0, d => d
  | fuel + 1, d =>
    match d.epl.next with
    | none => d
    | some m =>
      if d.epl.inFlight + eplSize m ≤ 0x100000 then
        let seq := d.epl.txNext
        let d := { d with epl := { d.epl with waiting := d.epl.waiting.erase m, unacked := d.epl.unacked ++ [(seq, m)],
                                              txNext := (seq + 1) % 2 ^ 32 } }
        Dev.eplDrainF fuel (d.eplEmit seq m)
      else d

/-- Send what waits, if the link is up. -/
def Dev.eplDrain (d : Dev) : Dev :=
  if d.on F.EPL_STATUS_link_up then Dev.eplDrainF (d.epl.waiting.length + 1) d else d

/-- Queue a message. While the link is down only mirrored data waits, in a buffer of 64 MiB (R442). -/
def Dev.eplSend (d : Dev) (mtype : Nat) (payload : List Byte) (mflags : Nat := 0) : Dev :=
  let m : EplMsg := { mtype := mtype, mflags := mflags, payload := payload }
  if d.on F.EPL_STATUS_link_up then ({ d with epl := { d.epl with waiting := d.epl.waiting ++ [m] } }).eplDrain
  else if eplClass mtype != 2 then d
  else if ((d.epl.waiting.map eplSize).sum) + eplSize m ≤ 0x4000000 then
    { d with epl := { d.epl with waiting := d.epl.waiting ++ [m] } }
  else { d with epl := { d.epl with overflow := true } }

/-- Whether this unit mirrors: active in a formed pair whose partner is not retired (R438, R443). -/
def Dev.mirrors (d : Dev) : Bool :=
  d.epl.formed && d.rd F.EPL_STATUS_role == 1 && !d.on F.EPL_STATUS_partner_retired

/-- Send mirrored data, if this unit mirrors. -/
def Dev.eplMirror (d : Dev) (mtype : Nat) (payload : List Byte) : Dev := if d.mirrors then d.eplSend mtype payload else d

/-- Whether the actuation token is held (R232): a device without a configured pair holds it permanently. -/
def Dev.tokenHeld (d : Dev) : Bool := !d.on F.EPL_CTRL_pair_en || d.on F.EPL_STATUS_token

/-- Whether actuating frames may be released: the token held and no swap begun (R232, R434). -/
def Dev.tokenFree (d : Dev) : Bool := d.tokenHeld && d.epl.swap.isNone

/-- Whether an actuating frame of an airtime in ns may start (R232, R434): the token held, no swap begun, and the lease not
expiring within the airtime plus 1 ms. -/
def Dev.mayActuate (d : Dev) (air : Nat) : Bool :=
  d.tokenFree
    && (!d.on F.EPL_CTRL_pair_en || (match d.epl.expiry with
      | none => true
      | some x => d.tick + air + msNs < x))

/-! ### Tables that persist (R167, R217, R246, R460) -/

/-- Directory items of the settings store. DESIGN CHOICE (log entry 61): which of the ids 0x1000–0x10FF names which table. -/
def tabRules : Nat := 0x1000
def tabNodes : Nat := 0x1001
def tabGroups : Nat := 0x1002
def tabPush : Nat := 0x1003

/-- An image as a table: its bytes as a number, and how many they are. -/
def imgTab (l : List Byte) : Tab := [(0, leNat l), (1, l.length)]
def tabImg (t : Tab) : List Byte := leBytes (tget t 1) (tget t 0)

/-- Minuet writes a table into the NAND system region and its directory entry into the settings store; the command that asked
completes with a result when that is programmed. The entry's 16 B are a free value (log entry 61). -/
def Dev.tableSave (d : Dev) (id : Nat) (t : Tab) (c : Option Desc) (res : Nat) : Dev :=
  let k := d.freeVal 128
  let i : SetItem := { id := id, iver := 0, iflags := 0, data := leBytes 16 k }
  let u := { d.upd with tables := mput d.upd.tables k t, ops := d.upd.ops ++ [.item i true c res] }
  { d.drawn with upd := u }

end Sys2Proof.Machine
end

