-- ==== Sys2Proof/Machine/Pav.lean ====
section
/-! DEFINITION. Pavane (chapter 09): the NVM key store and its unlock, import, staged replacement and destruction, key
requests through the derived-key cache, district succession, tamper and zeroisation. -/

namespace Sys2Proof.Machine

/-- Statuses of the key rings (R277). -/
def keyBadHandle : Nat := 0x8041
def keyUnwrapSt : Nat := 0x8042
def keyKatFail : Nat := 0x8043
def keyExists : Nat := 0x8044
def keyGen : Nat := 0x8045
def keyLocked : Nat := 0x8046
def keyTamper : Nat := 0x8047
def keyNotStaged : Nat := 0x8048
def keyStagedSt : Nat := 0x8049
def keyLimit : Nat := 0x804A
def keyKind : Nat := 0x804B
def keyMode : Nat := 0x804C

/-! ### NVM slots (R260) -/

/-- Whether a slot is committed: its mark and its CRC. -/
def slotCommitted (s : Nat) : Bool :=
  byts s 58 2 == 0xA55A && byts s 60 4 == crc32c 0xFFFFFFFF (leBytes 60 s)

/-- A slot's record for a key: bytes 0–55, the commit word blank. -/
def slotBody (wrapped : List Byte) (handle parent kid gen kind big : Nat) : Nat :=
  leNat (padTo 40 wrapped ++ leBytes 4 handle ++ leBytes 4 parent ++ leBytes 4 kid ++ leBytes 2 gen ++ leBytes 1 kind
    ++ leBytes 1 big)

/-- The commit word of a slot with a commit sequence. -/
def commitWord (body cseq : Nat) : Nat :=
  let h := leBytes 56 body ++ leBytes 2 cseq ++ leBytes 2 0xA55A
  leNat (leBytes 2 cseq ++ leBytes 2 0xA55A ++ leBytes 4 (crc32c 0xFFFFFFFF h))

/-- Word w of a slot. -/
def slotWord (s w : Nat) : Nat := byts s (8 * w) 8

/-- The NVM operations that program bytes 0–55 of a slot. DESIGN CHOICE (log entry 38): the words that name the key come first. -/
def progBody (slot body : Nat) : List NvmAct := [5, 6, 0, 1, 2, 3, 4].map (fun w => .word slot w (slotWord body w))

/-- The NVM operations that erase a slot, its commit word first. -/
def eraseSlot (slot : Nat) : List NvmAct := (.word slot 7 0) :: (List.range 7).map (fun w => .word slot w 0)

/-- cseq a higher than b (R261). -/
def cseqHigher (a b : Nat) : Bool := 1 ≤ serSub 16 a b && serSub 16 a b ≤ 0x7FFF

/-- The active slot of each handle: the committed slot of highest cseq (R261 step 1), as (handle, slot number). -/
def activeSlots (nvm : Tab) : List (Nat × Nat) :=
  (nvm.filter (fun e => slotCommitted e.2)).foldl (fun acc e =>
    let h := byts e.2 40 4
    match acc.find? (fun a => a.1 == h) with
    | none => acc ++ [(h, e.1)]
    | some a =>
      if cseqHigher (byts e.2 56 2) (byts (tget nvm a.2) 56 2) then acc.map (fun x => if x.1 == h then (h, e.1) else x)
      else acc) []

/-- The lowest blank slot. -/
def Dev.freeSlot (d : Dev) : Option Nat := (List.range 8192).find? (fun i => tget d.pav.nvm i == 0)

/-! ### The key RAM -/

/-- Whether the store is unlocked. -/
def Dev.unlocked (d : Dev) : Bool := d.on F.PAV_STATUS_unlocked

/-- The key a handle names, while the store is unlocked (R253). -/
def Dev.keyOf (d : Dev) (h : Nat) : Option KeyEnt :=
  if bits h 13 3 != 0 then none
  else
    match mget? d.pav.ram (h % 8192) with
    | none => none
    | some e => if e.handle == h then some e else none

/-- Store a key's entry. -/
def Dev.putKey (d : Dev) (e : KeyEnt) : Dev := { d with pav := { d.pav with ram := mput d.pav.ram (e.handle % 8192) e } }

/-- One key of the store as KEY_INFO reports it: its entry record and state (0 active, 1 staged, 2 bad). -/
def KeyEnt.state (e : KeyEnt) : Nat := if e.bad then 2 else if e.shadow.isSome then 1 else 0

/-- A slot's record as a key's entry, the key itself not unwrapped. -/
def nvmEnt (h slot s : Nat) : KeyEnt :=
  { handle := h, parent := byts s 44 4, kid := byts s 48 4, gen := byts s 52 2, kind := byts s 54 1, slot := slot, key := [] }

/-- The keys of the store: from the key RAM, or while locked from the NVM slots, an uncommitted one as staged (R276). -/
def Dev.keyCatalog (d : Dev) : List (KeyEnt × Nat) :=
  if d.unlocked then d.pav.ram.map (fun e => (e.2, e.2.state))
  else
    let act := activeSlots d.pav.nvm
    let rows := act.map fun a =>
      let s := tget d.pav.nvm a.2
      let staged := d.pav.nvm.any (fun e => !slotCommitted e.2 && byts e.2 40 4 == a.1)
      (nvmEnt a.1 a.2 s, if d.pav.bad.contains a.2 then 2 else if staged then 1 else 0)
    let lone := d.pav.nvm.foldl (fun (l : List (KeyEnt × Nat)) e =>
      let h := byts e.2 40 4
      if slotCommitted e.2 || h = 0 || act.any (fun a => a.1 == h) || l.any (fun x => x.1.handle == h) then l
      else l ++ [(nvmEnt h e.1 e.2, 1)]) []
    (rows ++ lone).mergeSort (fun a b => a.1.handle % 8192 ≤ b.1.handle % 8192)

/-- Show the slot and staging counts (R279). -/
def Dev.pavShow (d : Dev) : Dev :=
  let cat := d.keyCatalog
  ((d.wr F.PAV_SLOTS_used d.pav.nvm.length).wr F.PAV_SLOTS_districts (cat.filter (fun e => e.1.kind == 4)).length).wr
    F.PAV_STATUS_staged (if d.unlocked then (d.pav.ram.filter (fun e => e.2.shadow.isSome)).length
      else min 8 (cat.filter (fun e => e.2 == 1)).length)

/-- The check value of a key: the first 3 B of AES-CMAC under it over 16 zero bytes (R276), as a little-endian number. -/
def keyCheck (key : List Byte) : Nat := leAt (cmac key (zeros 16)) 0 3

/-- Drop cache entries. -/
def Dev.cacheFlush (d : Dev) (gone : CacheEnt → Bool) : Dev :=
  { d with pav := { d.pav with cache := d.pav.cache.map (fun s => (s.1, s.2.filter (fun e => !gone e))) } }

/-- Lock the store: key RAM and cache cleared. -/
def Dev.pavLockStore (d : Dev) : Dev :=
  ({ d with pav := { d.pav with ram := [], cache := [] } }).clrF F.PAV_STATUS_unlocked |>.pavShow

/-! ### Key requests (R257–R259, R267) -/

/-- The ident of a request: the EUI-64, or the group bytes (R256). -/
def reqIdent (purpose eui : Nat) : List Byte :=
  if purpose = 8 then leBytes 2 (eui % 4096) ++ List.replicate 6 (0xFF : Byte) else leBytes 8 eui

/-- Derive a key under a stored key (R256). -/
def deriveUnder (e : KeyEnt) (purpose eui gen : Nat) : List Byte :=
  if purpose = 8 then kdf e.key 8 (reqIdent 8 eui) gen e.kid 128
  else
    let root := kdf e.key 0 (leBytes 8 eui) 0 e.kid 128
    if purpose = 0 then root else kdf root purpose (leBytes 8 eui) gen e.kid 128

/-- The set of a cache entry (R258). -/
def cacheSet (entry purpose eui gen : Nat) : Nat :=
  crc32c 0xFFFFFFFF (leBytes 2 entry ++ reqIdent purpose eui ++ leBytes 1 purpose ++ leBytes 2 gen) % 4096

/-- The answer to a request: it waits while the store is locked, it fails, or it delivers a key and the handle it came under. -/
inductive KeyAns where
  | wait
  | fail
  | key (k : List Byte) (handle : Nat)
deriving DecidableEq, Repr

/-- A failed request (R259). -/
def Dev.keyFail (d : Dev) : Dev := (d.bump F.PAV_FAIL_CNT_failed).setF F.PAV_ERR_deriv_fail

/-- Serve a request for a frame, link, transport or broadcast key. -/
def Dev.keyServe (d : Dev) (handle eui purpose gen : Nat) (advance : Bool) : Dev × KeyAns :=
  if !d.unlocked then (d, .wait)
  else
    let want := if purpose = 8 then 5 else 4
    let known := purpose == 1 || purpose == 2 || purpose == 3 || purpose == 7 || purpose == 8
    match d.keyOf handle with
    | none => (d.keyFail, .fail)
    | some e0 =>
      if !known || e0.bad || e0.kind != want then (d.keyFail, .fail)
      else
        let e := match d.pav.succ.find? (fun l => advance && l.1 == handle) with
          | none => e0
          | some l => (d.keyOf l.2).getD e0
        if e.bad then (d.keyFail, .fail)
        else
          let ent := e.handle % 8192
          let set := cacheSet ent purpose eui gen
          let ways := mgetD d.pav.cache set []
          let isIt := fun (c : CacheEnt) => c.entry == ent && c.ident == eui && c.purpose == purpose && c.gen == gen
          match ways.find? isIt with
          | some c =>
            let d := { d with pav := { d.pav with cache := mput d.pav.cache set (c :: ways.filter (fun x => !isIt x)) } }
            (d.bump F.PAV_CACHE_HIT_hits, .key c.key e.handle)
          | none =>
            let k := deriveUnder e purpose eui gen
            let c : CacheEnt := { entry := ent, ident := eui, purpose := purpose, gen := gen, key := k,
                                  handles := [e.handle, e.parent] }
            let d := { d with pav := { d.pav with cache := mput d.pav.cache set ((c :: ways).take 16) } }
            ((d.bump F.PAV_CACHE_MISS_misses).bump F.PAV_DERIV_CNT_derivations, .key k e.handle)

/-- Whether the stored keys behind a handle are still valid: the chain a commit re-examines (R142). A locked store invalidates
no chain (R259). -/
def Dev.chainOk (d : Dev) (handle : Nat) : Bool :=
  if d.unlocked then
    match d.keyOf handle with
    | none => false
    | some e => !e.bad
  else (activeSlots d.pav.nvm).any (fun a => a.1 == handle)

/-- Answer an engine's own request, or let it wait. -/
def Dev.keyAnswer (d : Dev) (r : KeyReq) : Dev :=
  let a := d.keyServe r.handle r.eui r.purpose r.gen r.advance
  let put := fun (d : Dev) (g : KeyGiven) => { d with pav := { d.pav with given := mput d.pav.given r.who g } }
  match a.2 with
  | .wait => { a.1 with pav := { a.1.pav with reqWait := a.1.pav.reqWait ++ [r] } }
  | .fail => put a.1 { ok := false, key := [], handle := r.handle }
  | .key k h => put a.1 { ok := true, key := k, handle := h }

/-! ### Operations in progress -/

/-- Store a slot; a blank one bears no bad mark. -/
def Dev.slotPut (d : Dev) (slot s : Nat) : Dev :=
  { d with pav := { d.pav with nvm := tset d.pav.nvm slot s, bad := if s = 0 then d.pav.bad.filter (fun x => x != slot) else d.pav.bad } }

/-- Write one word of a slot. -/
def Dev.slotWordPut (d : Dev) (slot w v : Nat) : Dev := d.slotPut slot (setByts (tget d.pav.nvm slot) (8 * w) 8 v)

/-- Erase a slot at once. -/
def Dev.blankSlot (d : Dev) (slot : Nat) : Dev := d.slotPut slot 0

/-- A reset cuts the NVM operation in progress: its word stands as it was, or is done, or is torn (R260, R264); which of these, and
what a torn word reads, are free values, but a torn commit word never has a good CRC. -/
def Dev.pavCut (d : Dev) : Dev :=
  match d.pav.op with
  | none => d
  | some o =>
    let d := if o.work == .stage || o.work == .stageFail then { d with pav := { d.pav with cutStage := o.ent.shadow } } else d
    match o.acts with
    | .word s w v :: _ =>
      let how := d.freeVal 2
      let d := d.drawn
      if how = 0 then d
      else if how = 1 then d.slotWordPut s w v
      else
        let x := (d.drawn).freeVal 64
        let t := (d.slotWordPut s w x).drawn.drawn
        if slotCommitted (tget t.pav.nvm s) && w = 7 then t.slotWordPut s 7 (x ^^^ 2 ^ 32) else t
    | _ => d

/-- The keys that go with a key: itself and its children, as handles (R266). -/
def Dev.keyFamily (d : Dev) (h : Nat) : List Nat :=
  h :: (d.pav.ram.filter (fun e => e.2.parent == h && h != 0)).map (fun e => e.2.handle)

/-- Mirror an event of the key store (R425, R438): op 0 commit, 1 destroy, and under EPL 1.1 2 successor set, 3 cleared. -/
def Dev.keyEvent (d : Dev) (op kind gen kid kid2 : Nat) : Dev :=
  if 2 ≤ op && d.rd F.EPL_STATUS_neg_ver < 0x0101 then d
  else d.eplMirror 0xA (leBytes 1 op ++ leBytes 1 kind ++ leBytes 2 gen ++ leBytes 4 kid ++ leBytes 4 kid2)

/-- The destroy point of R266: key and descendants leave the key RAM, the cache and the successor links. What lanes and the
commit unit hold is judged against the key RAM when it commits (R142). -/
def Dev.destroyPoint (d : Dev) (hs : List Nat) : Dev :=
  let gone := (d.pav.ram.map (·.2)).filter (fun e => hs.contains e.handle)
  let d := gone.foldl (fun d e => d.keyEvent 1 e.kind e.gen e.kid 0) d
  let d := { d with pav := { d.pav with ram := d.pav.ram.filter (fun e => !hs.contains e.2.handle),
                                        succ := d.pav.succ.filter (fun l => !hs.contains l.1 && !hs.contains l.2) } }
  (d.cacheFlush (fun c => c.handles.any (fun h => h != 0 && hs.contains h))).pavShow

/-- The commit point of R263: the key RAM holds the new key, derived entries of the old one are flushed. -/
def Dev.commitPoint (d : Dev) (e : KeyEnt) : Dev :=
  let e2 := { e with key := e.newKey, newKey := [], gen := (e.gen + 1) % 65536, slot := e.shadow.getD e.slot, shadow := none }
  let d := if d.unlocked then d.putKey e2 else d
  ((d.cacheFlush (fun c => c.handles.contains e.handle)).pavShow).keyEvent 0 e.kind e2.gen e.kid 0

/-- Serve the requests that waited for the store (R259). -/
def Dev.reqsGo (d : Dev) : Dev :=
  if !d.unlocked then d
  else
    let l := d.pav.reqWait
    l.foldl (fun d r => d.keyAnswer r) { d with pav := { d.pav with reqWait := [] } }

/-- Finish the operation in progress with a status; nothing is in progress after it. -/
def Dev.opEnd (d : Dev) (o : KeyOp) (r : Done) : Dev :=
  (({ d with pav := { d.pav with op := none } }).pavShow).finish o.cmd r

/-- What an operation does when its last NVM operation is done. -/
def Dev.opDone (d : Dev) (o : KeyOp) : Dev :=
  match o.work with
  | .import =>
    let d := if d.unlocked then d.putKey o.ent else d
    d.opEnd o { status := 0, result := o.ent.handle, result2 := keyCheck o.ent.key }
  | .stage =>
    let d := if d.unlocked then d.putKey o.ent else d
    d.opEnd o { status := 0, result := (o.ent.gen + 1) % 65536 }
  | .stageFail => d.opEnd o { status := keyKatFail }
  | .commit => d.opEnd o { status := 0, result := (o.ent.gen + 1) % 65536 }
  | .abandon =>
    let d := if d.unlocked then d.putKey { o.ent with shadow := none, newKey := [] } else d
    d.opEnd o { status := 0 }
  | .destroy =>
    ((d.wr F.PAV_LAST_DESTROY_handle o.ent.handle).raise 293).opEnd o { status := 0, result := o.killed.length }
  | .init =>
    let kek := leBytes 32 (d.freeVal 256)
    let d := d.drawn
    let d := { d with pav := { d.pav with kek := some kek, nvm := [], issue := 1, check := keyCheck kek, ram := [],
                                          cache := [], succ := [], bad := [], cutStage := none } }
    let d := ((d.clrF F.PAV_STATUS_zeroised).clrF F.PAV_STATUS_nvm_bad).setF F.PAV_STATUS_unlocked
    (d.opEnd o { status := 0 }).reqsGo

/-- The slot an operation is filling. -/
def KeyOp.filling (o : KeyOp) : Option Nat :=
  match o.work with
  | .import => some o.ent.slot
  | .stage | .stageFail => o.ent.shadow
  | _ => none

/-- Whether a tamper event cuts the operation in progress: a KEY_ABANDON goes on (R272). -/
def Dev.opCut (d : Dev) : Bool := d.pav.op.any (fun o => !(o.work == .abandon))

/-- Abort or cut short the operation in progress for a tamper event (R272): before its point nothing of it stands and partial
slots are erased; after it, the remaining erases run at once, or at the next unlock if the event zeroises. -/
def Dev.opTamper (d : Dev) (zero : Bool) : Dev :=
  match d.pav.op.filter (fun o => !(o.work == .abandon)) with
  | none => d
  | some o =>
    if o.point then
      let d := if zero then d else o.acts.foldl (fun d a =>
        match a with
        | .word s w v => d.slotWordPut s w v
        | _ => d) d
      d.opEnd o { status := keyTamper, result := 1 }
    else
      let d := match o.filling with
        | none => d
        | some s => d.blankSlot s
      d.opEnd o { status := keyTamper, result := 0 }

/-! ### Tamper and zeroisation (R271–R273) -/

/-- Write the tamper log: it fills and stops (R273). -/
def Dev.tamperLog (d : Dev) (sensor cls action detail : Nat) : Dev :=
  if 64 ≤ d.pav.tlog.length then d.bump F.PAV_TMP_LOGSTAT_lost
  else
    let u := d.rtcUnits
    let e := leNat (leBytes 4 (u / 32768) ++ leBytes 2 (u % 32768) ++ leBytes 1 sensor ++ leBytes 1 cls
      ++ leBytes 1 (d.rd F.PMU_STATUS_mode) ++ leBytes 1 action ++ leBytes 2 detail)
    let d := { d with pav := { d.pav with tlog := d.pav.tlog ++ [e] } }
    d.wr F.PAV_TMP_LOGSTAT_entries d.pav.tlog.length

/-- Pavane's identity (R39). -/
def pavId : Nat := 0x25

/-- Zeroise (R271): KEK, key RAM, cache and successor links cleared, the store locked, source 291. -/
def Dev.zeroise (d : Dev) (cause : Nat) : Dev :=
  let d := { d with pav := { d.pav with kek := none, succ := [] } }
  let d := ((d.pavLockStore.setF F.PAV_STATUS_zeroised).wr F.PAV_TMP_STAT_zcause cause).raise 291
  d.trouble pavId 3 0x0C 4 0 0

/-- Zeroisation by command, through the register or KEY_ZEROISE. -/
def Dev.zeroiseCmd (d : Dev) : Dev :=
  ((d.tamperLog 0x10 2 (3 + 4 * b2n d.opCut) 0).opTamper true).zeroise 2

/-- The class a sensor has: 0 disabled, 1 Alert, 2 Zeroise; 3 acts as 2. -/
def Dev.sensorClass (d : Dev) (s : Nat) : Nat := min 2 (bits (d.rd F.PAV_TMP_CFG_class) (2 * s) 2)

/-! ### Operations (R276) -/

/-- Start an NVM operation. -/
def Dev.opStart (d : Dev) (o : KeyOp) : Dev := { d with pav := { d.pav with op := some o } }

/-- The import record's own errors (R262): its reserved bits and the padding of a 128-bit key. -/
def importFieldsBad (r : List Byte) : Bool :=
  let kind := byteAt r 3
  let kfl := byteAt r 10
  byteAt r 2 != 1 || !(kind == 3 || kind == 4 || kind == 5) || leAt r 4 4 == 0 || (kind != 5 && kfl % 2 == 0)
    || kfl / 2 != 0 || byteAt r 11 != 0 || leAt r 56 8 != 0 || (kfl % 2 == 0 && leAt r 40 16 != 0)

/-- The key an import record carries, unwrapped under the wrap key of its parent (R256 purpose 0x21, R262). -/
def importKey (r parentKey : List Byte) (parentKid : Nat) : Option (List Byte) :=
  let ident := (r.drop 3).take 1 ++ (r.drop 10).take 1 ++ (r.drop 4).take 4 ++ zeros 2
  let wk := kdf parentKey 0x21 ident (leAt r 8 2) parentKid 256
  kwUnwrap wk ((r.drop 16).take (if byteAt r 10 % 2 = 1 then 40 else 24))

/-- The device import key (R251, R256). -/
def deviceImportKey : List Byte :=
  kdf (leBytes 32 Config.deviceRoot.toNat) 0x20 (leBytes 8 Config.dieEui.toNat) 0 0 256

/-- The most keys of a kind (R252). -/
def kindMax (kind : Nat) : Nat := if kind = 3 then 64 else 4096

/-- KEY_IMPORT once it is served (R262). -/
def Dev.keyImportNow (d : Dev) (c : Desc) : Dev :=
  d.withFields c [(4, 20)] fun d =>
    let r := c.data
    let parent := d.keyOf (wHandle c.w)
    let kind := byteAt r 3
    let kid := leAt r 4 4
    if wLen c.w != 64 then d.fail c stBadField
    else if r.length != 64 then d.fail c stHostFault
    else if leAt r 0 2 != 0x4B57 then d.fail c keyUnwrapSt
    else if importFieldsBad r then d.fail c stBadField
    else if wHandle c.w != 0 && (parent.map (fun e => e.bad)).getD true then d.fail c keyBadHandle
    else if (kind == 3) != (wHandle c.w == 0) || (parent.map (fun e => e.kind != 3)).getD false then d.fail c keyKind
    else if leAt r 12 4 != (parent.map (fun e => e.kid)).getD 0 then d.fail c stBadField
    else
      match d.pav.ram.find? (fun e => e.2.kind == kind && e.2.kid == kid) with
      | some e => d.finish c { status := keyExists, result := e.2.handle }
      | none =>
        let entry := (List.range 8192).find? (fun n => n != 0 && (mget? d.pav.ram n).isNone)
        let held := (d.pav.ram.filter (fun e => e.2.kind == kind)).length
        match entry, d.freeSlot with
        | some entry, some slot =>
          if kindMax kind ≤ held then d.fail c keyLimit
          else
            match importKey r ((parent.map (fun e => e.key)).getD deviceImportKey) ((parent.map (fun e => e.kid)).getD 0) with
            | none => d.fail c keyUnwrapSt
            | some key =>
              let cnt := if d.pav.issue % 65536 = 0 then d.pav.issue + 1 else d.pav.issue
              let h := cnt % 65536 * 65536 + entry
              let e : KeyEnt := { handle := h, parent := wHandle c.w, kid := kid, gen := leAt r 8 2, kind := kind,
                                  slot := slot, key := key }
              let body := slotBody (kwWrap (d.pav.kek.getD []) key) h e.parent kid e.gen kind (byteAt r 10 % 2)
              d.opStart { cmd := c, work := .import, ent := e,
                          acts := (.ctl ((cnt + 1) % 2 ^ 32) d.pav.check) :: progBody slot body
                            ++ [.word slot 7 (commitWord body 1)] }
        | _, _ => d.fail c keyLimit

/-- KEY_STAGE once it is served (R263). -/
def Dev.keyStageNow (d : Dev) (c : Desc) : Dev :=
  d.withFields c [(4, 20), (24, 56)] fun d =>
    match d.keyOf (wHandle c.w) with
    | none => d.fail c keyBadHandle
    | some e =>
      let r := c.data
      let parent := d.keyOf e.parent
      let pkey := if e.parent = 0 then deviceImportKey else (parent.map (fun p => p.key)).getD []
      let pkid := (parent.map (fun p => p.kid)).getD 0
      if e.shadow.isSome then d.fail c keyStagedSt
      else if wLen c.w != 64 then d.fail c stBadField
      else if r.length != 64 then d.fail c stHostFault
      else if leAt r 0 2 != 0x4B57 then d.fail c keyUnwrapSt
      else if importFieldsBad r then d.fail c stBadField
      else if byteAt r 3 != e.kind || leAt r 4 4 != e.kid || leAt r 12 4 != pkid || leAt r 8 2 != (e.gen + 1) % 65536 then
        d.fail c keyGen
      else
        match d.freeSlot with
        | none => d.fail c keyLimit
        | some slot =>
          if 8 ≤ (d.pav.ram.filter (fun x => x.2.shadow.isSome)).length then d.fail c keyLimit
          else
            match importKey r pkey pkid with
            | none => d.fail c keyUnwrapSt
            | some key =>
              let body := slotBody (kwWrap (d.pav.kek.getD []) key) e.handle e.parent e.kid ((e.gen + 1) % 65536) e.kind
                (byteAt r 10 % 2)
              let ok := cmac key (leBytes 16 (wArg c.w 24 16)) == leBytes 16 (wArg c.w 40 16)
              let e2 := { e with shadow := some slot, newKey := key }
              if ok then d.opStart { cmd := c, work := .stage, ent := e2, acts := progBody slot body }
              else d.opStart { cmd := c, work := .stageFail, ent := e2,
                               acts := progBody slot body ++ (eraseSlot slot).drop 1 }

/-- KEY_COMMIT once it is served (R263). -/
def Dev.keyCommitNow (d : Dev) (c : Desc) : Dev :=
  d.withFields c [(4, 8)] fun d =>
    match d.keyOf (wHandle c.w) with
    | none => d.fail c keyBadHandle
    | some e =>
      match e.shadow with
      | none => d.fail c keyNotStaged
      | some sh =>
        let cseq := (byts (tget d.pav.nvm e.slot) 56 2 + 1) % 65536
        let w := commitWord (tget d.pav.nvm sh % 2 ^ 448) cseq
        d.opStart { cmd := c, work := .commit, ent := e, acts := .word sh 7 w :: eraseSlot e.slot }

/-- KEY_ABANDON once it is served (R263). -/
def Dev.keyAbandonNow (d : Dev) (c : Desc) : Dev :=
  d.withFields c [(4, 8)] fun d =>
    match d.keyOf (wHandle c.w) with
    | none => d.fail c keyBadHandle
    | some e =>
      match e.shadow with
      | none => d.fail c keyNotStaged
      | some sh => d.opStart { cmd := c, work := .abandon, ent := e, acts := (eraseSlot sh).drop 1 }

/-- KEY_DESTROY once it is served (R266). -/
def Dev.keyDestroyNow (d : Dev) (c : Desc) : Dev :=
  d.withFields c [(4, 8)] fun d =>
    match d.keyOf (wHandle c.w) with
    | none => d.fail c keyBadHandle
    | some e =>
      let hs := d.keyFamily e.handle
      let kids := (hs.drop 1).filterMap d.keyOf
      let rest := fun (s : Nat) => (eraseSlot s).drop 1
      let acts := [NvmAct.word e.slot 7 0] ++ kids.map (fun k => .word k.slot 7 0) ++ rest e.slot
        ++ kids.flatMap (fun k => rest k.slot) ++ (e :: kids).flatMap (fun k => (k.shadow.toList).flatMap rest)
      d.opStart { cmd := c, work := .destroy, ent := e, acts := acts, killed := hs }

/-- KEY_INFO once it is served (R276). -/
def Dev.keyInfoNow (d : Dev) (c : Desc) : Dev :=
  d.withFields c [(4, 8)] fun d =>
    match d.keyCatalog.find? (fun e => e.1.handle == wHandle c.w) with
    | none => d.fail c keyBadHandle
    | some (e, st) =>
      let chk := if e.key.isEmpty then 0 else keyCheck e.key
      d.okRes c (e.kind + st * 2 ^ 8 + e.gen * 2 ^ 16 + e.kid * 2 ^ 32) (e.parent + chk * 2 ^ 32)

/-- KEY_LIST once it is served (R276). -/
def Dev.keyListNow (d : Dev) (c : Desc) : Dev :=
  d.withFields c [(8, 20), (24, 28)] fun d =>
    if wLen c.w % 16 != 0 then d.fail c stBadField
    else
      let all := d.keyCatalog.filter (fun e => wArg c.w 24 4 ≤ e.1.handle % 8192)
      let got := all.take (wLen c.w / 16)
      let body := got.flatMap (fun e => leBytes 4 e.1.handle ++ leBytes 4 e.1.parent ++ leBytes 4 e.1.kid ++ leBytes 2 e.1.gen
        ++ leBytes 1 e.1.kind ++ leBytes 1 e.2)
      let next := if got.length = all.length then 8192
        else (got.getLast?.map (fun e => e.1.handle % 8192 + 1)).getD (wArg c.w 24 4)
      d.finish c { status := 0, result := got.length, result2 := next, data := [(wAddr c.w, body)] }

/-- KEY_SUCCESSOR once it is served (R267). -/
def Dev.keySuccessorNow (d : Dev) (c : Desc) : Dev :=
  d.withFields c [(4, 8), (24, 28)] fun d =>
    let eh := wArg c.w 24 4
    let dd := d.keyOf (wHandle c.w)
    let ee := d.keyOf eh
    if dd.isNone || (eh != 0 && ee.isNone) then d.fail c keyBadHandle
    else if (dd.map (fun e => e.kind != 4)).getD false || (eh != 0 && (ee.map (fun e => e.kind != 4)).getD false) then
      d.fail c keyKind
    else if eh != 0 && (eh == wHandle c.w || d.pav.succ.any (fun l => l.1 == eh)) then d.fail c stBadField
    else
      let others := d.pav.succ.filter (fun l => l.1 != wHandle c.w)
      if eh != 0 && 4096 ≤ others.length then d.fail c keyLimit
      else
        let links := if eh = 0 then others else others ++ [(wHandle c.w, eh)]
        let kid (x : Option KeyEnt) : Nat := (x.map (·.kid)).getD 0
        let gen := (dd.map (·.gen)).getD 0
        let d := { d with pav := { d.pav with succ := links } }
        (if eh = 0 then d.keyEvent 3 4 gen (kid dd) 0 else d.keyEvent 2 4 gen (kid dd) (kid ee)).okRes c

/-- KEY_ROOT_WRAP once it is served (R268). -/
def Dev.keyRootWrapNow (d : Dev) (c : Desc) : Dev :=
  d.withFields c [(4, 20), (24, 38)] fun d =>
    if wLen c.w < 48 then d.fail c stBadField
    else
      match d.keyOf (wHandle c.w), d.keyOf (wArg c.w 32 4) with
      | some e, some o =>
        if e.bad || o.bad then d.fail c keyBadHandle
        else if e.kind != 4 || o.kind != 4 then d.fail c keyKind
        else
          let eui := wArg c.w 24 8
          let g := wArg c.w 36 2
          let body := leBytes 8 eui ++ leBytes 4 e.kid ++ leBytes 2 g ++ zeros 2
            ++ kwWrap (deriveUnder o 7 eui g) (deriveUnder e 0 eui 0) ++ zeros 8
          let d := d.bump F.PAV_DERIV_CNT_derivations 2
          d.finish c { status := 0, data := [(wAddr c.w, body)] }
      | _, _ => d.fail c keyBadHandle

/-- KEY_INIT once it is served (R274): 129 page erases, then the control page. -/
def Dev.keyInitNow (d : Dev) (c : Desc) : Dev :=
  d.withFields c [(24, 28)] fun d =>
    if wArg c.w 24 4 != 0x1E179640 then d.fail c stBadField
    else if !d.on F.PAV_STATUS_zeroised && !d.keyCatalog.isEmpty then d.fail c keyLocked
    else
      let d := d.drawn.tamperLog 0x11 (d.freeVal 8) 1 0
      d.opStart { cmd := c, work := .init, acts := (List.range 128).map NvmAct.page ++ [.ctlErase],
                  ent := { handle := 0, parent := 0, kid := 0, gen := 0, kind := 0, slot := 0, key := [] } }

/-- KEY_ZEROISE once it is served (R271). -/
def Dev.keyZeroiseNow (d : Dev) (c : Desc) : Dev :=
  d.withFields c [(24, 28)] fun d =>
    if wArg c.w 24 4 != 0x2E509640 then d.fail c stBadField else d.zeroiseCmd.okRes c

/-- Serve an operation by its opcode. -/
def Dev.keyNow (d : Dev) (op : Nat) (c : Desc) : Dev :=
  match op with
  | 1 => d.keyImportNow c
  | 2 => d.keyStageNow c
  | 3 => d.keyCommitNow c
  | 4 => d.keyAbandonNow c
  | 5 => d.keyDestroyNow c
  | 6 => d.keyInfoNow c
  | 7 => d.keyListNow c
  | 8 => d.keySuccessorNow c
  | 9 => d.keyRootWrapNow c
  | 10 => d.keyInitNow c
  | _ => d.keyZeroiseNow c

/-- Serve an operation, or let it end or wait as the mode and the lock say (R275): one operation at a time in arrival order,
none while an unlock is in progress. -/
def Dev.keyArrive (d : Dev) (op : Nat) (c : Desc) : Dev :=
  let always := op == 6 || op == 7 || op == 10 || op == 11
  if d.mode == .recovery && !always then d.fail c keyMode
  else if d.on F.PAV_STATUS_unlocking || d.pav.op.isSome then
    { d with pav := { d.pav with waiting := d.pav.waiting ++ [(op, c)] } }
  else if !d.unlocked && !always then d.fail c keyLocked
  else d.keyNow op c

/-- Serve the operations that wait. -/
def Dev.keyNext (d : Dev) : Dev :=
  foldN d.pav.waiting.length (fun _ d =>
    if d.pav.op.isSome || d.on F.PAV_STATUS_unlocking then d
    else
      match d.pav.waiting with
      | [] => d
      | (op, c) :: rest => ({ d with pav := { d.pav with waiting := rest } }).keyArrive op c) d

/-! ### Meanings -/

/-- KEY_REQUEST (R257, R259). -/
def Dev.keyRequest (d : Dev) (r : KeyReq) : Dev := d.keyAnswer r

/-- NVM_PROGRAM_DONE (R260, R263, R266): the front NVM operation is done, reaching commit and destroy points; or it failed. The
status of an operation whose word failed is not stated: a free value (log entry 2). -/
def Dev.nvmProgramDone (d : Dev) (ok : Bool) : Dev :=
  match d.pav.op with
  | none => d
  | some o =>
    if !ok then
      let d := ((d.setF F.PAV_ERR_nvm_error).raise 292).trouble pavId 3 0x0C 2 o.ent.handle 0
      let d := match o.filling with
        | none => d
        | some s => d.blankSlot s
      (d.drawn.opEnd o { status := d.freeVal 16 }).keyNext
    else
      match o.acts with
      | [] => (d.opDone o).keyNext
      | a :: rest =>
        let d := match a with
          | .word s w v => d.slotWordPut s w v
          | .ctl i k => { d with pav := { d.pav with issue := i, check := k } }
          | .page p => { d with pav := { d.pav with nvm := d.pav.nvm.filter (fun e => e.1 / 64 != p),
                                                    bad := d.pav.bad.filter (fun x => x / 64 != p) } }
          | .ctlErase => { d with pav := { d.pav with issue := 0, check := 0 } }
        let first := !o.point && (o.work == .commit || o.work == .destroy)
        let d := if !first then d
          else if o.work == .commit then d.commitPoint o.ent
          else d.destroyPoint o.killed
        let o := { o with acts := rest, point := o.point || first }
        if rest.isEmpty then (d.opDone o).keyNext else d.opStart o

/-- KEY_IMPORT (R262). -/
def Dev.keyImport (d : Dev) (c : Desc) : Dev := d.keyArrive 1 c
/-- KEY_STAGE (R263). -/
def Dev.keyStage (d : Dev) (c : Desc) : Dev := d.keyArrive 2 c
/-- KEY_COMMIT (R263). -/
def Dev.keyCommit (d : Dev) (c : Desc) : Dev := d.keyArrive 3 c
/-- KEY_ABANDON (R263). -/
def Dev.keyAbandon (d : Dev) (c : Desc) : Dev := d.keyArrive 4 c
/-- KEY_DESTROY (R266). -/
def Dev.keyDestroy (d : Dev) (c : Desc) : Dev := d.keyArrive 5 c
/-- KEY_INFO (R276). -/
def Dev.keyInfo (d : Dev) (c : Desc) : Dev := d.keyArrive 6 c
/-- KEY_LIST (R276). -/
def Dev.keyList (d : Dev) (c : Desc) : Dev := d.keyArrive 7 c
/-- KEY_SUCCESSOR (R267). -/
def Dev.keySuccessor (d : Dev) (c : Desc) : Dev := d.keyArrive 8 c
/-- KEY_ROOT_WRAP (R268). -/
def Dev.keyRootWrap (d : Dev) (c : Desc) : Dev := d.keyArrive 9 c
/-- KEY_INIT (R274). -/
def Dev.keyInit (d : Dev) (c : Desc) : Dev := d.keyArrive 10 c
/-- KEY_ZEROISE (R271, R276). -/
def Dev.keyZeroise (d : Dev) (c : Desc) : Dev := (d.keyArrive 11 c).keyNext

/-- PAV_UNLOCK (R261); in Recovery, where the store is locked, it is refused (R275). -/
def Dev.pavUnlock (d : Dev) : Dev :=
  if d.mode == Mode.recovery then d.raise 289 else (d.setF F.PAV_CTRL_unlock).setF F.PAV_STATUS_unlocking

/-- The unlock's reading of the NVM (R261 steps 1–5). -/
def Dev.unlockStore (d : Dev) : Dev :=
  let act := activeSlots d.pav.nvm
  let shadow := d.pav.nvm.any (fun e => !slotCommitted e.2 && (d.pav.cutStage == some e.1
    || act.any (fun a => a.1 == byts e.2 40 4 && (byts e.2 54 1 == 0 || byts e.2 52 2 == (byts (tget d.pav.nvm a.2) 52 2 + 1) % 65536))))
  let live := act.filter (fun a =>
    let p := byts (tget d.pav.nvm a.2) 44 4
    p == 0 || act.any (fun x => x.1 == p))
  let nvm := d.pav.nvm.filter (fun e => live.any (fun a => a.2 == e.1))
  let ents := live.map fun a =>
    let s := tget nvm a.2
    let key := kwUnwrap (d.pav.kek.getD []) (leBytes (if byts s 55 1 % 2 = 1 then 40 else 24) s)
    ({ handle := a.1, parent := byts s 44 4, kid := byts s 48 4, gen := byts s 52 2, kind := byts s 54 1, slot := a.2,
       key := key.getD [], bad := key.isNone } : KeyEnt)
  let bad := ents.filter (fun e => e.bad)
  let d := { d with pav := { d.pav with
    nvm := nvm, ram := [], cache := [], bad := bad.map (fun (e : KeyEnt) => e.slot), cutStage := none,
    succ := d.pav.succ.filter (fun l => ents.any (fun e => e.handle == l.1 && e.kind == 4)
      && ents.any (fun e => e.handle == l.2 && e.kind == 4)) } }
  let d := ents.foldl (fun d e => d.putKey e) d
  let d := d.wr F.PAV_ERR_unwrap_bad (min bad.length 65535)
  let d := if bad.isEmpty then d else d.raise 292
  let d := bad.foldl (fun d e => d.trouble pavId 3 0x0C 1 e.handle 0) d
  let d := if shadow then d.raise 294 else d
  (d.setF F.PAV_STATUS_unlocked).pavShow

/-- PAV_UNLOCK_DONE (R261, R275): the unlock completes or is refused; source 289; what waited is served. -/
def Dev.pavUnlockDone (d : Dev) : Dev :=
  if !d.on F.PAV_STATUS_unlocking || d.pav.op.isSome then d
  else
    let d := (d.clrF F.PAV_STATUS_unlocking).clrF F.PAV_CTRL_unlock
    let d := match d.pav.kek with
      | none => d
      | some k =>
        if d.on F.PAV_STATUS_zeroised || d.on F.PAV_STATUS_kat_fail || d.mode == Mode.recovery then d
        else if keyCheck k != d.pav.check then d.setF F.PAV_STATUS_nvm_bad
        else (d.clrF F.PAV_STATUS_nvm_bad).unlockStore
    (d.raise 289).reqsGo.keyNext

/-- A sensor that was tripped may have come back: what its input now is is a free value (R279, log entry 38). -/
def Dev.tamperSettle (d : Dev) : Dev :=
  let live := d.rd F.PAV_TMP_STAT_live
  if live = 0 then d else (d.wr F.PAV_TMP_STAT_live (live &&& d.freeVal 10)).drawn

/-- PAV_LOCK (R275, R279). -/
def Dev.pavLock (d : Dev) : Dev := d.pavLockStore

/-- PAV_CACHE_FLUSH (R279). -/
def Dev.pavCacheFlush (d : Dev) : Dev := { d with pav := { d.pav with cache := [] } }

/-- The known-answer test's outcome (R275): a failure sets kat_fail. -/
def Dev.pavKat (d : Dev) (pass : Bool) : Dev :=
  if pass then d.clrF F.PAV_STATUS_kat_fail
  else (d.setF F.PAV_STATUS_kat_fail).trouble pavId 3 0x0C 3 0 0

/-- PAV_KAT_NOW (R275, R279). -/
def Dev.pavKatNow (d : Dev) (pass : Bool) : Dev := d.pavKat pass

/-- TAMPER_TRIP (R271–R273): the sensor's class logs, alerts or zeroises. In Dormant the AON domain logs alone: no source
reaches the powered-off controller, and source 290 pends at the next Boot. In Boot, before unlock, Boot stops. -/
def Dev.tamperTrip (d : Dev) (s detail : Nat) (stays : Bool) : Dev :=
  let cls := d.sensorClass s
  if cls = 0 then d
  else
    let d := (d.wrBit F.PAV_TMP_STAT_seen s true).wrBit F.PAV_TMP_STAT_live s stays
    let busy := d.opCut
    let booting := d.mode == .boot && !d.unlocked
    let d := d.tamperLog s cls (1 + 2 * b2n (cls == 2) + 4 * b2n busy + 8 * b2n booting) detail
    let d := d.opTamper (cls == 2)
    let d := if booting then d.setF F.PAV_TMP_STAT_boot_stopped else d
    let d := if cls = 1 then (if d.mode == .dormant then { d with sys := { d.sys with alertDue := true } } else d.raise 290)
      else d.zeroise 1
    d.keyNext

/-- TAMPER_ARM (R271): the classes are committed until AONPOR. A sensor of class Zeroise that is tripped when its class
commits zeroises. -/
def Dev.tamperArm (d : Dev) : Dev :=
  let d := (d.setF F.PAV_TMP_CTRL_arm).commitRwl 0x98000
  let hit := (List.range 10).find? (fun s => bit (d.rd F.PAV_TMP_STAT_live) s && d.sensorClass s == 2)
  match hit with
  | none => d
  | some s => (((d.tamperLog s 2 (3 + 4 * b2n d.opCut) 0).opTamper true).zeroise 1).keyNext

/-- ZEROISE_NOW (R271). -/
def Dev.zeroiseNow (d : Dev) : Dev := d.zeroiseCmd.keyNext

/-- TAMPER_LOG_CLEAR (R273). -/
def Dev.tamperLogClear (d : Dev) : Dev :=
  ({ d with pav := { d.pav with tlog := [] } }).wr F.PAV_TMP_LOGSTAT_entries 0

end Sys2Proof.Machine
end

