-- ==== Sys2Proof/Machine/Tsu.lean ====
section
/-! DEFINITION. Time (chapter 12): device time as segments of ticks, the two schemes and their handover, steps, sets and slews,
PPS and the servo, pulse outputs, time events. -/

namespace Sys2Proof.Machine

/-! ### Device time -/

/-- A segment's time at a tick, in ns (R342). -/
def Seg.timeAt (g : Seg) (t : Nat) : Int :=
  let dt : Int := (t : Int) - g.start
  if g.byTick then g.base + dt + Int.fdiv (dt * g.rate) (2 ^ 32 * 1000000000) else g.base + Int.fdiv (dt * g.incr) (2 ^ 24)

/-- The segment a stamp is converted with: the newest that starts at or before it, otherwise the oldest (R343). -/
def Dev.segFor (d : Dev) (t : Nat) : Option Seg :=
  match d.tsu.segs.find? (fun g => g.start ≤ t) with
  | some g => some g
  | none => d.tsu.segs.getLast?

/-- Device time at a tick, in ns. -/
def Dev.timeAt (d : Dev) (t : Nat) : Int := ((d.segFor t).map (fun g => g.timeAt t)).getD 0

/-- Device time now, in ns. -/
def Dev.devNs (d : Dev) : Int := d.timeAt d.tick

/-- Whole device seconds now (48 bits). -/
def Dev.devSec (d : Dev) : Nat := (d.devNs / 1000000000).toNat % 2 ^ 48

/-- The first DWN second: 2000-01-01 00:00:00 TAI (R341). -/
def dwnEpoch : Nat := 946684800

/-- Device seconds as DWN seconds (R341). -/
def dwnOf (sec : Nat) : Nat := serSub 32 sec dwnEpoch

/-- DWN seconds now. -/
def Dev.dwnNow (d : Dev) : Nat := dwnOf d.devSec

/-- Convert a stamp, counting an extrapolation (R343). -/
def Dev.convert (d : Dev) (t : Nat) : Dev × Int :=
  let held := d.tsu.segs.any (fun g => g.start ≤ t)
  (if held then d else d.bump F.TSU_CNT_extrap, d.timeAt t)

/-- DWN seconds of a stamp. -/
def Dev.dwnAt (d : Dev) (t : Nat) : Nat := dwnOf ((d.timeAt t / 1000000000).toNat)

/-- The signed 64-bit rate of TSU_RATE. -/
def Dev.rateReg (d : Dev) : Int := sgn 64 (d.rd F.TSU_RATE_LO_rate)

/-- The rate in whole ppb, truncated. -/
def ratePpb (r : Int) : Int := Int.tdiv r (2 ^ 32)

/-! ### Time events (R362) -/

/-- The offset of TSU_FQ1's register set. -/
def tsuFq1 : Nat := 0xC0130

/-- Show the oldest event in TSU_EVT0–7 (R367). -/
def Dev.evtShow (d : Dev) : Dev :=
  let it := (d.fifoHead tsuFq1).getD []
  foldN 8 (fun j d => d.wr (F.TSU_EVT_w.at j) (leAt it (4 * j) 4)) d

/-- Post a time event; a full TSU_FQ1 drops its oldest, which the next delivery counts. -/
def Dev.timeEvent (d : Dev) (etype detail : Nat) (value : Int) : Dev :=
  let ns := d.devNs
  let item := leBytes 1 etype ++ leBytes 1 (d.rd F.TSU_STATUS_tstate) ++ leBytes 2 detail
    ++ leBytes 4 (ns % 1000000000).toNat ++ leBytes 6 (ns / 1000000000).toNat ++ zeros 2 ++ leBytes 8 d.tick
    ++ leBytes 8 (uns 64 value)
  let lost := b2n (!d.fifoRoom tsuFq1 256 item)
  let d := { d with tsu := { d.tsu with posted := d.tsu.posted + 1, teLost := d.tsu.teLost + lost } }
  (d.fifoPush tsuFq1 256 item).evtShow

/-! ### Segments -/

/-- Begin a segment at a tick, no later than now, in the form a function gives it (R343). -/
def Dev.newSegAt (d : Dev) (t : Nat) (f : Seg → Seg) : Dev :=
  let old := (d.segFor t).getD { start := 0, base := 0, byTick := false, rate := 0, incr := 0x1000000 }
  let g := f { old with start := t, base := old.timeAt t }
  { d with tsu := { d.tsu with segs := (g :: d.tsu.segs).take 8 } }

/-- Begin a segment now. -/
def Dev.newSeg (d : Dev) (f : Seg → Seg) : Dev := d.newSegAt d.tick f

/-- The pulse period of an output in ns (R359). -/
def Dev.pulsePeriod (d : Dev) (k : Nat) : Nat :=
  d.rd (F.TSU_PULSE_PER_SEC_per_sec.at k) * 1000000000 + d.rd (F.TSU_PULSE_PER_NS_per_ns.at k)

/-- An output's state. -/
def Dev.pulse (d : Dev) (k : Nat) : Pulse := mgetD d.tsu.pulses k {}

/-- Store an output's state. -/
def Dev.setPulse (d : Dev) (k : Nat) (p : Pulse) : Dev :=
  { d with tsu := { d.tsu with pulses := mput d.tsu.pulses k p } }

/-- A forward step moved time to `now`: pulses passed are skipped and counted (R361). -/
def Dev.pulseSkip (d : Dev) (k : Nat) (now : Int) : Dev :=
  if !d.on (F.TSU_PULSE_CTRL_arm.at k) then d
  else
    let p := d.pulse k
    let per := d.pulsePeriod k
    if now ≤ p.next then d
    else if per = 0 then (d.bump (F.TSU_PULSE_STAT_skipped.at k)).clrF (F.TSU_PULSE_CTRL_arm.at k)
    else
      let n := ((now - p.next - 1) / per + 1).toNat
      (d.setPulse k { p with next := p.next + n * per }).bump (F.TSU_PULSE_STAT_skipped.at k) n

/-- End a slew in progress without its event, giving the part not yet applied (R346). -/
def Dev.slewRest (d : Dev) : Int :=
  match d.tsu.slew with
  | none => 0
  | some w =>
    let dt : Int := (d.tick : Int) - w.start
    let done := min ((dt * w.ppb) / 1000000000) w.s.natAbs
    w.s - (if w.s < 0 then -done else done)

/-- Forget the slew; the rate is TSU_RATE's own again. A TE_ADJ that asked for it completes. -/
def Dev.slewForget (d : Dev) : Dev :=
  let cmd := d.tsu.slew.bind (fun w => w.cmd)
  let d := ({ d with tsu := { d.tsu with slew := none } }).clrF F.TSU_STATUS_slewing |>.clrF F.TSU_ADJ_CTRL_go
  match cmd with
  | none => d
  | some c => d.okRes c d.tick

/-- Apply a change of time now: a new segment, source 379, a STEP event, the pulses it passes (R347, R361). -/
def Dev.applyStep (d : Dev) (s : Int) : Dev :=
  let d := d.newSeg (fun g => { g with base := g.base + s, rate := if g.byTick then d.rateReg else g.rate })
  let d := (d.bump F.TSU_CNT_steps).raise 379
  let d := d.timeEvent 3 0 s
  if 0 < s then foldN 4 (fun k d => d.pulseSkip k d.devNs) d else d

/-- The scheme the mode and TSU_CTRL ask for (R344): true is the tick scheme. -/
def Dev.schemeWanted (d : Dev) : Bool :=
  d.on F.TSU_CTRL_scheme && d.mode != .boot && d.mode != .recovery

/-- The handover, where the scheme in force is not the one wanted (R345, R346). -/
def Dev.handover (d : Dev) : Dev :=
  let want := d.schemeWanted
  if want == d.on F.TSU_STATUS_scheme then d
  else
    let rest := d.slewRest
    let slewing := d.tsu.slew.isSome
    let d := if slewing then (d.slewForget).applyStep rest else d
    let r := d.rateReg
    let d := if want then d.newSeg (fun g => { g with byTick := true, rate := r })
      else
        let inc := (2 ^ 24 + Int.fdiv (2 ^ 24 * r + 2 ^ 31 * 1000000000) (2 ^ 32 * 1000000000)).toNat % 2 ^ 32
        (d.wr F.TSU_NSC_INCR_incr inc).newSeg (fun g => { g with byTick := false, incr := inc })
    let d := ((d.flag F.TSU_STATUS_scheme want).setF F.TSU_STATUS_acquire).clrF F.TSU_STATUS_handover_pend
    (d.raise 381).timeEvent 4 (b2n want) 0

/-- TSU_NSC_INCR written: under the counter's scheme a new segment begins, since time changes only by a step or set (R343). -/
def Dev.nscIncrWritten (d : Dev) : Dev :=
  if d.on F.TSU_STATUS_scheme then d else d.newSeg (fun g => { g with incr := d.rd F.TSU_NSC_INCR_incr })

/-- The start of the tick after PINRST, MAINPOR, AONPOR or Dormant: the counter loaded from the RTC where it is valid (R350). -/
def Dev.tsuStart (d : Dev) : Dev :=
  let u := d.rtcUnits
  let valid := d.on F.TSU_RTC_FRAC_rtc_valid
  let base : Int := if valid then ((u / 32768 + dwnEpoch) * 1000000000 + u % 32768 * 1000000000 / 32768 : Nat)
    else (dwnEpoch * 1000000000 : Nat)
  let d := { d with tick := 0, tsu := { segs := [{ start := 0, base := base, byTick := false, rate := 0, incr := 0x1000000 }] } }
  let d := d.wr F.TSU_STATUS_tstate (b2n valid)
  if valid then d.timeEvent 8 0 0 else d

/-! ### Adjustments (R347) -/

/-- How an adjustment request ended. -/
inductive AdjEnd where
  | applied | slewing | range | busy | modeStep
deriving DecidableEq, Repr

/-- An adjustment: mode 1 slew, 2 set, otherwise step. -/
def Dev.adjust (d : Dev) (mode : Nat) (s : Int) (sec ns : Nat) (cmd : Option Desc) : Dev × AdjEnd :=
  if d.tsu.slew.isSome then (d.setF F.TSU_STATUS_adj_rej, .busy)
  else if mode = 2 then
    let t := sec * 1000000000 + ns
    if t / 1000000000 < dwnEpoch || 2 ^ 48 ≤ t / 1000000000 then (d.setF F.TSU_STATUS_adj_rej, .range)
    else
      let ts := d.rd F.TSU_STATUS_tstate
      let d := if ts < 2 then d.wr F.TSU_STATUS_tstate 1 else d
      (d.applyStep ((t : Int) - d.devNs), .applied)
  else if mode = 1 then
    if !d.on F.TSU_STATUS_scheme then (d.applyStep s, .modeStep)
    else
      let ppb := zeroAs (d.rd F.TSU_SLEW_slew_ppb) 1
      let sl : Int := if s < 0 then -((ppb : Int) * 2 ^ 32) else (ppb : Int) * 2 ^ 32
      let d := { d with tsu := { d.tsu with slew := some { s := s, ppb := ppb, start := d.tick, cmd := cmd } } }
      let d := (d.newSeg (fun g => { g with rate := d.rateReg + sl })).setF F.TSU_STATUS_slewing
      (d, .slewing)
  else (d.applyStep s, .applied)

/-- An adjustment through TSU_ADJ_CTRL. -/
def Dev.adjReg (d : Dev) (mode : Nat) : Dev :=
  let r := d.adjust mode (sgn 64 (d.rd F.TSU_ADJ_LO_s)) (d.rd F.TSU_SET_SEC_LO_sec) (d.rd F.TSU_SET_NS_ns) none
  if r.2 == .slewing then r.1.setF F.TSU_ADJ_CTRL_go else r.1

/-! ### Meanings -/

/-- TSU_SCHEME_WRITE (R344, R345). -/
def Dev.tsuSchemeWrite (d : Dev) (scheme : Bool) : Dev := (d.flag F.TSU_CTRL_scheme scheme).handover

/-- TSU_RATE_WRITE (R343, R354). -/
def Dev.tsuRateWrite (d : Dev) (v : Nat) : Dev :=
  if d.rd F.TSU_CTRL_servo = 1 then d.setF F.TSU_STATUS_rate_rej
  else
    let d := d.wr F.TSU_RATE_LO_rate v
    let r := d.rateReg
    let sl : Int := match d.tsu.slew with
      | none => 0
      | some w => if w.s < 0 then -((w.ppb : Int) * 2 ^ 32) else (w.ppb : Int) * 2 ^ 32
    (d.newSeg (fun g => if g.byTick then { g with rate := r + sl } else g)).timeEvent 7 0 (ratePpb r)

/-- TSU_ADJ_STEP (R347). -/
def Dev.tsuAdjStep (d : Dev) : Dev := d.adjReg 0

/-- TSU_ADJ_SLEW (R347). -/
def Dev.tsuAdjSlew (d : Dev) : Dev := d.adjReg 1

/-- TSU_ADJ_SET (R347). -/
def Dev.tsuAdjSet (d : Dev) : Dev := d.adjReg 2

/-- SLEW_END (R347): at the tick where the accumulated change reaches s, what is missing of it is stepped. Where a later segment
has begun since, the slew ends there, less what it gained beyond s. -/
def Dev.slewEnd (d : Dev) : Dev :=
  match d.tsu.slew with
  | none => d
  | some w =>
    let due := w.start + (w.s.natAbs * 1000000000 + w.ppb - 1) / w.ppb
    if d.tick < due then d
    else
      let r := d.rateReg
      let e := max due ((d.tsu.segs.head?.map (·.start)).getD 0)
      let more : Int := ((e - due) * w.ppb / 1000000000 : Nat)
      let past : Int := if w.s < 0 then -more else more
      let plain := (d.segFor w.start).map (fun g =>
        ({ g with rate := r } : Seg).timeAt e + w.s)
      let d := { d with tsu := { d.tsu with slew := none } }
      let sameSeg := (d.tsu.segs.head?.map (fun g => g.start == w.start)).getD false
      let d := d.newSegAt e (fun g => { g with rate := r, base := if sameSeg then plain.getD g.base else g.base - past })
      let d := (d.clrF F.TSU_STATUS_slewing).clrF F.TSU_ADJ_CTRL_go
      let d := (d.raise 380).timeEvent 9 0 w.s
      match w.cmd with
      | none => d
      | some c => d.okRes c e

/-- Set the rate: clamped to rate_max, a segment begun (R352). -/
def Dev.servoRate (d : Dev) (r : Int) : Dev :=
  let lim : Int := (d.rd F.TSU_SERVO2_rate_max * 1000 : Nat) * 2 ^ 32
  let ovr := lim < r || r < -lim
  let r := max (-lim) (min lim r)
  let d := if ovr then (d.setF F.TSU_STATUS_clamp).raise 386 else d
  let d := d.wr F.TSU_RATE_LO_rate (uns 64 r)
  let sl : Int := match d.tsu.slew with
    | none => 0
    | some w => if w.s < 0 then -((w.ppb : Int) * 2 ^ 32) else (w.ppb : Int) * 2 ^ 32
  d.newSeg (fun g => { g with rate := r + sl })

/-- A servo step; it cancels the rest of a slew (R364). -/
def Dev.servoStep (d : Dev) (s : Int) : Dev := (if d.tsu.slew.isSome then d.slewForget else d).applyStep s

/-- The hardware servo on a valid capture (R352): dist is the tick distance from the previous valid capture where it was 1 s
earlier. Also whether it stepped. -/
def Dev.servo (d : Dev) (e : Int) (dist : Option Nat) : Dev × Bool :=
  let thr : Int := (d.rd F.TSU_SERVO2_step_thr * 1000 : Nat)
  let big := thr < e.natAbs
  if d.on F.TSU_STATUS_acquire then
    match dist with
    | none => (d, false)
    | some dd =>
      let r := Int.fdiv ((1000000000 - (dd : Int)) * 1000000000 * 2 ^ 32) dd
      let d := ({ d with tsu := { d.tsu with integral := r } }).clrF F.TSU_STATUS_acquire
      let d := d.servoRate r
      if big then (d.servoStep (-e), true) else (d, false)
  else if big then (d.servoStep (-e), true)
  else
    let i := d.tsu.integral - (d.rd F.TSU_SERVO_ki : Int) * e * 2 ^ 24
    let d := { d with tsu := { d.tsu with integral := i } }
    (d.servoRate (i - (d.rd F.TSU_SERVO_kp : Int) * e * 2 ^ 24), false)

/-- Lock gained or lost on a capture (R352). -/
def Dev.lockTrack (d : Dev) (e : Int) : Dev :=
  if e.natAbs ≤ d.rd F.TSU_SERVO_lock_ns then
    let run := min 15 (d.rd F.TSU_STATUS_lock_run + 1)
    let d := d.wr F.TSU_STATUS_lock_run run
    if d.rd F.TSU_STATUS_tstate != 2 && zeroAs (d.rd F.TSU_SERVO_lock_n) 1 ≤ run then
      ((d.wr F.TSU_STATUS_tstate 2).raise 378).timeEvent 5 1 0
    else d
  else
    let d := d.wr F.TSU_STATUS_lock_run 0
    if d.rd F.TSU_STATUS_tstate = 2 then ((d.wr F.TSU_STATUS_tstate 1).raise 378).timeEvent 5 0 0 else d

/-- PPS_EDGE (R351, R352, R354): an edge of the programmed polarity is captured, its sampled count with KEYC's calibration added, in
whole ns (R356). An invalid capture is counted and
otherwise ignored. -/
def Dev.ppsEdge (d : Dev) (falling : Bool) : Dev :=
  if falling != d.on F.TSU_CTRL_pps_edge then d
  else
    let c := d.tick + d.rd F.TSU_ISLCAL_keyc / 4
    let hold := d.rd F.TSU_STATUS_tstate == 3
    let dist := if hold then none else d.tsu.lastCap.map (fun p => c - p)
    let tol := d.rd F.TSU_PPS_pps_tol * 1000
    let valid := match dist with
      | none => true
      | some x => 1000000000 ≤ x + tol && x ≤ 1000000000 + tol
    let d := (d.fifoPush 0xC0120 16 (leBytes 8 c)).fifoPop 0xC0120
    if !valid then d.bump F.TSU_CNT_pps_rej
    else
      let d := if hold then (d.wr F.TSU_STATUS_tstate 1).raise 377 else d
      let x := d.timeAt c - sgn 16 (d.rd F.TSU_PPS_pps_cal)
      let e := x - (x + 500000000) / 1000000000 * 1000000000
      let d := { d with tsu := { d.tsu with lastCap := some c, lastValid := c } }
      let d := ((d.wr F.TSU_PPS_ERR_e (uns 32 e)).wr F.TSU_PPS_LAST_LO_tick c).sample 0x0A 0 (uns 64 e)
      let act := d.rd F.TSU_CTRL_servo == 1 && d.on F.TSU_STATUS_scheme
      let r := if act then d.servo e dist else (d, false)
      let d := if act then r.1.lockTrack e else r.1
      (d.timeEvent 1 (1 + 2 * b2n r.2) e).raise 376

/-- PPS_HOLDOVER (R351): no valid capture for 2 s. -/
def Dev.ppsHoldover (d : Dev) : Dev :=
  if d.rd F.TSU_STATUS_tstate != 3 && d.tsu.lastValid + 2000000000 ≤ d.tick then
    let d := { d with tsu := { d.tsu with lastCap := none } }
    let d := ((d.wr F.TSU_STATUS_tstate 3).setF F.TSU_STATUS_acquire).wr F.TSU_STATUS_lock_run 0
    (d.raise 377).timeEvent 2 0 (ratePpb d.rateReg)
  else d

/-- Set the RTC to DWN seconds, its fraction 0. -/
def Dev.rtcSet (d : Dev) (dwn : Nat) : Dev :=
  ({ d with rtc := { units := dwn * 32768, clk := d.clk } }).setF F.TSU_RTC_FRAC_rtc_valid

/-- RTC_SECOND_SYNC (R349). -/
def Dev.rtcSecondSync (d : Dev) : Dev :=
  if d.on F.TSU_STATUS_scheme && d.rd F.TSU_STATUS_tstate != 0 && d.on F.TSU_CTRL_rtc_sync then d.rtcSet d.dwnNow else d

/-- RTC_SEC_WRITE (R349). -/
def Dev.rtcSecWrite (d : Dev) (v : Nat) : Dev := d.rtcSet v

/-- Drive a pulse output. -/
def Dev.pulseDrive (d : Dev) (k : Nat) (active : Bool) : Dev :=
  d.emit (.pulse k (active != d.on (F.TSU_PULSE_CTRL_polarity.at k)))

/-- PULSE_ARM (R359, R360). -/
def Dev.pulseArm (d : Dev) (k : Nat) : Dev :=
  let w := d.rd (F.TSU_PULSE_WIDTH_width.at k)
  let per := d.pulsePeriod k
  let bad := w < 10 || (per != 0 && per ≤ w) || (per != 0 && per < 1000)
    || 1000000000 ≤ d.rd (F.TSU_PULSE_PER_NS_per_ns.at k)
  if bad then (d.setF (F.TSU_PULSE_STAT_cfg_bad.at k)).clrF (F.TSU_PULSE_CTRL_arm.at k)
  else
    let start : Int := (d.rd (F.TSU_PULSE_START_SEC_LO_sec.at k) * 1000000000 + d.rd (F.TSU_PULSE_START_NS_ns.at k) : Nat)
    let now := d.devNs
    if start < now && per = 0 then (d.setF (F.TSU_PULSE_STAT_late.at k)).clrF (F.TSU_PULSE_CTRL_arm.at k)
    else
      let next := if start < now then start + ((now - start - 1) / per + 1) * per else start
      (d.setPulse k { d.pulse k with next := next }).setF (F.TSU_PULSE_CTRL_arm.at k)

/-- PULSE_LEADING_EDGE (R359, R360). -/
def Dev.pulseLeadingEdge (d : Dev) (k : Nat) : Dev :=
  let p := d.pulse k
  if d.on (F.TSU_PULSE_CTRL_arm.at k) && p.next ≤ d.devNs then
    let per := d.pulsePeriod k
    let d := d.setPulse k { next := p.next + per, trail := some (p.next + d.rd (F.TSU_PULSE_WIDTH_width.at k)),
                            leadTick := d.tick }
    let d := if per = 0 then d.clrF (F.TSU_PULSE_CTRL_arm.at k) else d
    let d := d.pulseDrive k true
    if d.on (F.TSU_PULSE_CTRL_pulse_evt.at k) then (d.timeEvent 6 k 0).raise (382 + k) else d
  else d

/-- PULSE_TRAILING_EDGE (R359, R361): never earlier than 10 ns after the leading edge. -/
def Dev.pulseTrailingEdge (d : Dev) (k : Nat) : Dev :=
  let p := d.pulse k
  match p.trail with
  | none => d
  | some t =>
    if t ≤ d.devNs && p.leadTick + 10 ≤ d.tick then (d.setPulse k { p with trail := none }).pulseDrive k false else d

/-- TE_BUF (R363). -/
def Dev.teBuf (d : Dev) (c : Desc) : Dev :=
  match c.via with
  | .mailbox _ _ => d.fail c stBadOpcode
  | .ring n =>
    d.withFields c [(8, 20)] fun d =>
      if wLen c.w % 32 == 0 && 32 ≤ wLen c.w && wLen c.w ≤ 65536 then
        let p := d.pair n.val
        d.setPair n.val { p with bufs := p.bufs ++ [{ w := c.w }] }
      else d.fail c stBadField

/-- TE_ADJ (R347, R363). -/
def Dev.teAdj (d : Dev) (c : Desc) : Dev :=
  d.withFields c [(24, 33), (36, 46)] fun d =>
    if 2 < wArg c.w 32 1 then d.fail c stBadField
    else
      let r := d.adjust (wArg c.w 32 1) (sgn 64 (wArg c.w 24 8)) (wArg c.w 40 6) (wArg c.w 36 4) (some c)
      match r.2 with
      | .applied => r.1.okRes c d.tick
      | .slewing => r.1
      | .range => r.1.fail c 0x8051
      | .busy => r.1.fail c stBusy
      | .modeStep => r.1.finish c { status := 0x8052, result := d.tick }

/-- TIME_EVENT_DELIVER (R363): the oldest event goes into the space posted, with a completion of its own. -/
def Dev.timeEventDeliver (d : Dev) : Dev :=
  match ((d.enabledOf 7).filter d.active).head?, d.fifoHead tsuFq1 with
  | some n, some it =>
    match (d.pair n).bufs with
    | [] => d
    | b :: rest =>
      if !d.hostReach || d.cqFull n then d
      else
        let addr := wAddr b.w + b.filled
        let full := wLen b.w ≤ b.filled + 32
        let num := d.tsu.posted + 1 - (d.fifo tsuFq1).items.length
        let lost := d.tsu.teLost
        let p := d.pair n
        let d := d.setPair n { p with bufs := if full then rest else { b with filled := b.filled + 32 } :: rest }
        let d := ({ d with tsu := { d.tsu with teLost := 0 } }).fifoPop tsuFq1 |>.evtShow
        let cpl : Cpl := { seq := num, result := addr, result2 := lost, tag := wTag b.w, status := 0, info := 2 * b2n full,
                           irqNow := wIrqNow b.w, data := [(addr, it)] }
        let d := if full then d.setPair n ((d.pair n).ended b.w 0) else d
        d.queueCpl n cpl
  | _, _ => d

/-- TSU_NOW_READ (R367): device time and tick captured for the master. -/
def Dev.tsuNowRead (d : Dev) (m : Nat) : Dev :=
  let t := d.devNs
  let ns := (t % 1000000000).toNat
  let d := { d with tsu := { d.tsu with nowCap := mput d.tsu.nowCap m (ns, d.devSec, d.tick) } }
  d.emit (.readData m 0xC0010 (leBytes 4 ns) false)

/-- TSU_CONV_WRITE (R343, R367): the tick converted for the master. -/
def Dev.tsuConvWrite (d : Dev) (m v : Nat) : Dev :=
  let d := d.wr F.TSU_CONV_TICK_LO_tick v
  let r := d.convert v
  let ns := (r.2 % 1000000000).toNat
  let sec := (r.2 / 1000000000).toNat % 2 ^ 48
  let d := { r.1 with tsu := { r.1.tsu with convCap := mput r.1.tsu.convCap m (ns, sec) } }
  (d.wr F.TSU_CONV_NS_ns ns).wr F.TSU_CONV_SEC_LO_sec sec

/-- TSU_EVT_POP (R367): a read of TSU_EVT7 removes the oldest event. -/
def Dev.tsuEvtPop (d : Dev) : Dev := (d.fifoPop tsuFq1).evtShow

end Sys2Proof.Machine
end

