-- ==== Sys2Proof/Machine/Record.lean ====
section
/-! DEFINITION. The meter record (R103), the hot cache (R104, R106), the identity table (R101), the free list (R100), and the
commit unit's part that every change of state shares: sequences, reservation marks, the staging ring, archive records
(R109, R144–R147, R393). -/

namespace Sys2Proof.Machine

/-! ### Fields of a record (R103): first bit and width -/

namespace R

def eui : Nat × Nat := (0, 64)
def localIndex : Nat × Nat := (64, 20)
def state : Nat × Nat := (84, 3)
def pinned : Nat × Nat := (87, 1)
def dwnVer : Nat × Nat := (88, 2)
def dwnMax : Nat × Nat := (90, 2)
def dualMode : Nat × Nat := (92, 1)
def passThrough : Nat × Nat := (93, 1)
def reason : Nat × Nat := (96, 8)
def attach : Nat × Nat := (128, 64)
def attachAlt : Nat × Nat := (192, 64)
def eventCounter : Nat × Nat := (256, 16)
def connInterval : Nat × Nat := (272, 16)
def supTimeout : Nat × Nat := (288, 16)
def anchorOfs : Nat × Nat := (304, 16)
def chanMap : Nat × Nat := (320, 64)
def districtHandle : Nat × Nat := (384, 32)
def keyGen : Nat × Nat := (416, 16)
def rekeyDue : Nat × Nat := (432, 1)
def frameCounter : Nat × Nat := (448, 32)
def authFail : Nat × Nat := (480, 16)
def ruleFail : Nat × Nat := (496, 16)
def replay : Nat × Nat := (512, 64)
def meterTime : Nat × Nat := (576, 32)
def lastSeen : Nat × Nat := (608, 32)
/-- Register k, k = 0–7. -/
def reg (k : Nat) : Nat × Nat := (640 + 64 * k, 64)
def lastInterval : Nat × Nat := (1152, 32)
def intervalS : Nat × Nat := (1184, 16)
def gapCount : Nat × Nat := (1200, 16)
/-- Voltage of phase k, k = 0–2. -/
def volt (k : Nat) : Nat × Nat := (1216 + 16 * k, 16)
def node : Nat × Nat := (1280, 16)
def phase : Nat × Nat := (1296, 2)
def phaseConf : Nat × Nat := (1298, 1)
def nodeInferred : Nat × Nat := (1299, 1)
def zcOffset : Nat × Nat := (1312, 32)
def suspicion : Nat × Nat := (1344, 16)
def campaign : Nat × Nat := (1376, 6)
def inCampaign : Nat × Nat := (1382, 1)
def blocksHeld : Nat × Nat := (1384, 15)
def meterFw : Nat × Nat := (1408, 32)
def admittedAt : Nat × Nat := (1440, 32)
def stateSince : Nat × Nat := (1472, 32)
def fwScratch : Nat × Nat := (1536, 384)
def lastSeq : Nat × Nat := (1920, 64)
def recGen : Nat × Nat := (1984, 32)
def crc : Nat × Nat := (2016, 32)

end R

/-- A field of a record. -/
def rg (r : Nat) (f : Nat × Nat) : Nat := bits r f.1 f.2

/-- A record with a field replaced. -/
def rs (r : Nat) (f : Nat × Nat) (v : Nat) : Nat := setBits r f.1 f.2 v

/-- A record with several fields replaced, given as first bit, width and value. -/
def rsAll (r : Nat) (l : List (Nat × Nat × Nat)) : Nat := l.foldl (fun r e => setBits r e.1 e.2.1 e.2.2) r

/-- The crc a record must hold (R103). -/
def recCrc (r : Nat) : Nat := crc32c 0xFFFFFFFF (leBytes 252 r)

/-- A record with its crc. -/
def recSeal (r : Nat) : Nat := rs r R.crc (recCrc r)

/-- A record without a meter (R545: node and zc_offset at none, every other field 0) at an index in a state. -/
def blankRec (i st : Nat) : Nat := rsAll 0 [(64, 20, i), (84, 3, st), (1280, 16, 0xFFFF), (1312, 32, 0x7FFFFFFF)]

/-- What the table holds for an index never written: a sound Free record (R100), which a rebuild writes once with its reason 0x0E
(R118). -/
def freeRec (rebuilt : Bool) (i : Nat) : Nat :=
  recSeal (if rebuilt then rsAll (blankRec i 7) [(96, 8, 0xE), (1984, 32, 1)] else blankRec i 7)

/-- States (R103). -/
def stUnknown : Nat := 0
def stCommissioning : Nat := 1
def stActive : Nat := 2
def stAdrift : Nat := 3
def stQuarantined : Nat := 4
def stRetired : Nat := 5
def stFree : Nat := 7

/-! ### The attachment word (R105) -/

def atKind (a : Nat) : Nat := bits a 0 3
def atPort (a : Nat) : Nat := bits a 4 4
def atChan (a : Nat) : Nat := bits a 8 12
def atShort (a : Nat) : Nat := bits a 20 16
def atConn (a : Nat) : Nat := bits a 36 16

/-- The attachment word of its parts. -/
def mkAttach (kind port chan short conn : Nat) : Nat :=
  kind % 8 + port % 16 * 16 + chan % 4096 * 256 + short % 65536 * 2 ^ 20 + conn % 65536 * 2 ^ 36

/-- Whether two attachment words name the same attachment: kind, port, channel, and the address their kind uses. -/
def sameAttach (a b : Nat) : Bool :=
  atKind a == atKind b && atPort a == atPort b && atChan a == atChan b
    && (if atKind a = 3 then atConn a == atConn b else atShort a == atShort b)

/-- Whether an attachment word keeps to R105. -/
def attachOk (a : Nat) : Bool :=
  let k := atKind a
  k ≤ 4 && bits a 3 1 == 0 && bits a 52 12 == 0 && (if k = 4 then 4 ≤ atPort a && atPort a ≤ 11 else atPort a == 0)
    && (if k = 3 then atConn a ≤ 8191 else atConn a == 0)
    && (if k = 1 then atChan a < 16 else if k = 2 || k = 3 then atChan a < 12 else true)

/-- The channel counter of an attachment (R122: PLC channels 0–15, radio channels 16–27). -/
def attKey (a : Nat) : Option Nat :=
  if atKind a = 1 && atChan a < 16 then some (atChan a)
  else if (atKind a = 2 || atKind a = 3) && atChan a < 12 then some (16 + atChan a) else none

/-- The most meters of one attachment point (R114). -/
def attLimit (kind : Nat) : Nat := if kind = 1 then 2048 else if kind = 2 then 1024 else if kind = 3 then 8192 else 4096

/-! ### The hot cache (R104, R106, R107) -/

/-- The hot-cache line of an index. -/
def Dev.msrLine (d : Dev) (i : Nat) : Option Line := (mgetD d.msr.cache (i % 4096) []).find? (fun l => l.idx == i)

/-- The image of a record in DRAM. -/
def Dev.msrDram (d : Dev) (i : Nat) : Nat := (mget? d.msr.dram i).getD (freeRec d.msr.rebuilt i)

/-- The record as it stands: the cached line, or the image in DRAM. -/
def Dev.msrPeek (d : Dev) (i : Nat) : Nat := ((d.msrLine i).map (·.img)).getD (d.msrDram i)

/-- Whether an image in DRAM passes the checks of a fill (R104). -/
def recSound (i r : Nat) : Bool := rg r R.crc == recCrc r && rg r R.localIndex == i

/-- Whether a record is corrupt (R104): not held in the cache, and its image fails a check. -/
def Dev.msrCorrupt (d : Dev) (i : Nat) : Bool :=
  (d.msrLine i).isNone && (mget? d.msr.dram i).any (fun r => !recSound i r)

/-- The line that leaves a full set: the least recently used one that is not pinned. -/
def evictable (ways : List Line) : Option Line := (ways.filter (fun l => rg l.img R.pinned == 0)).getLast?

/-- Put a line in front of its set; a full set writes its victim back when dirty. -/
def Dev.msrLineIn (d : Dev) (l : Line) : Dev :=
  let set := l.idx % 4096
  let ways := (mgetD d.msr.cache set []).filter (fun x => x.idx != l.idx)
  if ways.length < 16 then { d with msr := { d.msr with cache := mput d.msr.cache set (l :: ways) } }
  else
    match evictable ways with
    | none => { d with msr := { d.msr with cache := mput d.msr.cache set (l :: ways) } }
    | some v =>
      let dram := if v.dirty then mput d.msr.dram v.idx v.img else d.msr.dram
      { d with msr := { d.msr with dram := dram, cache := mput d.msr.cache set (l :: ways.filter (fun x => x.idx != v.idx)) } }

/-- The records that are pinned, held in the cache (R106): a reset and a rebuild leave it empty, and they come back clean. -/
def Dev.msrPinned (d : Dev) : Dev :=
  (d.msr.dram.filter (fun e => rg e.2 R.pinned == 1 && recSound e.1 e.2)).foldl (fun (d : Dev) e =>
    if (d.msrLine e.1).isSome then d else d.msrLineIn { idx := e.1, img := e.2, dirty := false }) d

/-- Read a record through the hot cache: a hit, or a fill with its checks; none where it is corrupt (R104, R106). -/
def Dev.msrGet (d : Dev) (i : Nat) : Dev × Option Nat :=
  match d.msrLine i with
  | some l => ((d.msrLineIn l).bump F.MSR_CACHE_HIT_hits, some l.img)
  | none =>
    let d := d.bump F.MSR_CACHE_MISS_misses
    let r := d.msrDram i
    if d.msrCorrupt i then
      let d := (d.bump F.MSR_CORRUPT_count).wr F.MSR_CORRUPT_last_index i
      ((d.setF F.MSR_ERR_corrupt_seen).raise 212, none)
    else (d.msrLineIn { idx := i, img := r, dirty := false }, some r)

/-- Every record that the block holds explicitly, the cached lines over DRAM. -/
def Dev.msrRecs (d : Dev) : Map Nat :=
  (d.msr.cache.flatMap (·.2)).foldl (fun m l => mput m l.idx l.img) d.msr.dram

/-- Write back every dirty line; the lines stay valid (R117, R122). -/
def Dev.msrClean (d : Dev) : Dev :=
  let dirty := (d.msr.cache.flatMap (·.2)).filter (·.dirty)
  { d with msr := { d.msr with dram := dirty.foldl (fun m l => mput m l.idx l.img) d.msr.dram,
                               cache := d.msr.cache.map (fun s => (s.1, s.2.map (fun l => { l with dirty := false }))) } }

/-- The channel counter a record counts in: none for a Free one (R114). -/
def recAttKey (r : Nat) : Option Nat := if rg r R.state = stFree then none else attKey (rg r R.attach)

/-- Bring the population counters from an old to a new image of one record. -/
def Dev.msrCount (d : Dev) (old new : Nat) : Dev :=
  let a := rg old R.state
  let b := rg new R.state
  let d := if a = b then d else (d.decr (F.MSR_POP_count.at a)).incr (F.MSR_POP_count.at b)
  let d := d.wr F.MSR_STATUS_comm_count (d.rd (F.MSR_POP_count.at stCommissioning))
  let d := if recAttKey old = recAttKey new then d
    else
      let d := ((recAttKey old).map (fun k => d.decr (F.MSR_ATTCNT_count.at k))).getD d
      ((recAttKey new).map (fun k => d.incr (F.MSR_ATTCNT_count.at k))).getD d
  if rg old R.pinned = rg new R.pinned then d
  else if rg new R.pinned = 1 then d.incr F.MSR_CACHE_CTRL_pinned else d.decr F.MSR_CACHE_CTRL_pinned

/-- Recount the population from the table (R104). -/
def Dev.msrRecount (d : Dev) : Dev :=
  let rs := d.msrRecs.map (·.2)
  let cnt (p : Nat → Bool) : Nat := (rs.filter p).length
  let d := foldN 7 (fun s d => d.wr (F.MSR_POP_count.at s) (cnt (fun r => rg r R.state == s))) d
  let d := d.wr (F.MSR_POP_count.at 7) (0x100000 - cnt (fun r => rg r R.state != 7))
  let d := d.wr F.MSR_STATUS_comm_count (d.rd (F.MSR_POP_count.at stCommissioning))
  let d := d.wr F.MSR_CACHE_CTRL_pinned (cnt (fun r => rg r R.pinned == 1))
  foldN 28 (fun k d => d.wr (F.MSR_ATTCNT_count.at k) (cnt (fun r => recAttKey r == some k))) d

/-- Pinned records of the set of an index (R106). -/
def Dev.pinsOf (d : Dev) (i : Nat) : Nat :=
  (d.msrRecs.filter (fun e => e.1 % 4096 == i % 4096 && rg e.2 R.pinned == 1)).length

/-- The groups of R440 in which two images of a record differ, among those `mask` admits. -/
def deltaMask (old new mask : Nat) : Nat :=
  let diff (l : List (Nat × Nat)) : Bool := l.any (fun f => rg old f != rg new f)
  let g := [diff [R.eui, R.localIndex, R.state, R.reason, R.dualMode, R.passThrough, R.admittedAt, R.stateSince],
    diff [(128, 256)], diff [R.districtHandle], diff [R.keyGen, R.rekeyDue, R.frameCounter, R.replay], diff [(1280, 96)],
    diff [(1376, 32)], diff [R.fwScratch], rg old R.state != stFree && rg new R.state == stFree]
  (g.zipIdx.map (fun e => if e.1 && bit mask e.2 then 2 ^ e.2 else 0)).sum

/-- The 16 B common part of a delta (R439). -/
def deltaHead (i dkind pseq : Nat) : List Byte := leBytes 4 i ++ leBytes 1 dkind ++ zeros 3 ++ leBytes 8 pseq

/-- The kid of a stored key, 0 where no such key is stored. -/
def Dev.kidOf (d : Dev) (handle : Nat) : Nat := ((d.keyOf handle).map (·.kid)).getD 0

/-- The active unit mirrors a change of a record as a record delta (R438, R440). -/
def Dev.mirrorRecord (d : Dev) (i old new mask : Nat) : Dev :=
  let g := deltaMask old new mask
  if g = 0 then d
  else d.eplMirror 9 (deltaHead i 1 (rg new R.lastSeq) ++ leBytes 4 g ++ leBytes 4 (d.kidOf (rg new R.districtHandle))
    ++ leBytes 256 new)

/-- One change of a record (R107): rec_gen rises once, the crc follows, the line is dirty, the counters follow, and the
groups of `mask` that changed are mirrored. -/
def Dev.msrPut (d : Dev) (i r : Nat) (mask : Nat := 0xFF) : Dev :=
  let bad := d.msrCorrupt i
  let old := d.msrPeek i
  let new := recSeal (rs r R.recGen (rg old R.recGen + 1))
  let d := d.msrLineIn { idx := i, img := new, dirty := true }
  (if bad then d.msrRecount else d.msrCount old new).mirrorRecord i old new mask

/-! ### The identity table (R101) -/

/-- The internal address of the identity table. -/
def Dev.idtBase (d : Dev) : Nat := d.rd F.MSR_IDT_BASE_HI_idt_hi * 2 ^ 32 + d.rd F.MSR_IDT_BASE_LO_idt_lo * 2 ^ 25

/-- The internal address of record 0 (R99). -/
def Dev.msrBase (d : Dev) : Nat := d.rd F.MSR_BASE_HI_base_hi * 2 ^ 32 + d.rd F.MSR_BASE_LO_base_lo * 2 ^ 28

/-- A bucket of an EUI-64: h1 and h2 differ by the CRC's initial value. -/
def idtHash (init eui : Nat) : Nat := crc32c init (leBytes 8 eui) % 2 ^ 19
def idtH1 (eui : Nat) : Nat := idtHash 0xFFFFFFFF eui
def idtH2 (eui : Nat) : Nat := idtHash 0x5A5A5A5A eui

/-- Slot s of bucket b as a 16 B number. -/
def Dev.idtEnt (d : Dev) (b s : Nat) : Nat := d.memRd (d.idtBase + 64 * b + 16 * s) 16

/-- Write a slot. -/
def Dev.idtSet (d : Dev) (b s e : Nat) : Dev := d.memWr (d.idtBase + 64 * b + 16 * s) 16 e

/-- Whether an entry is valid, its EUI-64, its index. -/
def idtValid (e : Nat) : Bool := bit e 95
def idtEui (e : Nat) : Nat := bits e 0 64
def idtIndex (e : Nat) : Nat := bits e 64 20

/-- An entry. -/
def mkIdt (eui i : Nat) : Nat := eui % 2 ^ 64 + (i % 2 ^ 20) * 2 ^ 64 + 2 ^ 95

/-- The lowest free slot of a bucket. -/
def Dev.idtFreeSlot (d : Dev) (b : Nat) : Option Nat := (List.range 4).find? (fun s => !idtValid (d.idtEnt b s))

/-- Occupied slots of a bucket. -/
def Dev.idtUsed (d : Dev) (b : Nat) : Nat := ((List.range 4).filter (fun s => idtValid (d.idtEnt b s))).length

/-- Where an EUI-64 stands: bucket and slot. -/
def Dev.idtWhere (d : Dev) (eui : Nat) : Option (Nat × Nat) :=
  ((List.range 8).map (fun k => (if k < 4 then idtH1 eui else idtH2 eui, k % 4))).find? (fun p =>
    let e := d.idtEnt p.1 p.2
    idtValid e && idtEui e == eui)

/-- The index of an EUI-64. -/
def Dev.idtFind (d : Dev) (eui : Nat) : Option Nat := (d.idtWhere eui).map (fun p => idtIndex (d.idtEnt p.1 p.2))

/-- The chain of at most 16 moves; none where it does not complete. -/
def Dev.idtChain (d : Dev) : Nat → Nat → Nat → Nat → Option Dev
  | 0, _, _, _ => none
  | fuel + 1, m, cur, ent =>
    let out := d.idtEnt cur (m % 4)
    let d := d.idtSet cur (m % 4) ent
    let a := idtH1 (idtEui out)
    let alt := if a = cur then idtH2 (idtEui out) else a
    match d.idtFreeSlot alt with
    | some s => some (d.idtSet alt s out)
    | none => Dev.idtChain d fuel (m + 1) alt out

/-- Insert an EUI-64; on failure the table is unchanged, idt_full set, and the answer false. -/
def Dev.idtInsert (d : Dev) (eui i : Nat) : Dev × Bool :=
  let h1 := idtH1 eui
  let h2 := idtH2 eui
  let b := if d.idtUsed h2 < d.idtUsed h1 then h2 else h1
  match d.idtFreeSlot b with
  | some s => (d.idtSet b s (mkIdt eui i), true)
  | none =>
    match d.idtChain 16 0 h1 (mkIdt eui i) with
    | some e => (e, true)
    | none => (d.setF F.MSR_ERR_idt_full, false)

/-- Remove an EUI-64. -/
def Dev.idtRemove (d : Dev) (eui : Nat) : Dev :=
  match d.idtWhere eui with
  | none => d
  | some p => d.idtSet p.1 p.2 0

/-- The slots of the table that hold anything, by slot number. -/
def Dev.idtSlots (d : Dev) : List Nat :=
  let base := d.idtBase
  ((d.mem.filter (fun c => base ≤ c.1 && c.1 < base + 2 ^ 25)).map (fun c => (c.1 - base) / 16)).eraseDups

/-- Remove every entry that names an index (R104). -/
def Dev.idtPurge (d : Dev) (i : Nat) : Dev :=
  d.idtSlots.foldl (fun d k =>
    let e := d.idtEnt (k / 4) (k % 4)
    if idtValid e && idtIndex e == i then d.idtSet (k / 4) (k % 4) 0 else d) d

/-! ### The free list (R100) -/

/-- Indices in the table. -/
def msrSize : Nat := 0x100000

/-- Whether an index is in the free list. -/
def Msr.inFree (m : Msr) (i : Nat) : Bool :=
  m.freed.contains i || (m.virgin ≤ i && i < msrSize && !m.skip.contains i)

/-- Skip the indices already taken by name at the head of the list. -/
def Msr.settle : Nat → Msr → Msr
  | 0, m => m
  | fuel + 1, m =>
    if m.skip.contains m.virgin then
      Msr.settle fuel { m with virgin := m.virgin + 1, skip := m.skip.filter (fun x => x != m.virgin) }
    else m

/-- The head of the free list. -/
def Msr.freeHead (m : Msr) : Option Nat := if m.virgin < msrSize then some m.virgin else m.freed.head?

/-- Take an index out of the free list. -/
def Msr.freeTake (m : Msr) (i : Nat) : Msr :=
  if m.freed.contains i then { m with freed := m.freed.filter (fun x => x != i) }
  else
    let m := { m with skip := i :: m.skip }
    Msr.settle (m.skip.length) m

/-- Put an index at the tail of the free list. -/
def Msr.freePut (m : Msr) (i : Nat) : Msr :=
  let m := if m.inFree i then m.freeTake i else m
  { m with freed := m.freed ++ [i] }

/-! ### Archive records (R393) -/

/-- The fields of an archive record; `payload` are bytes 76–123. -/
structure Arch where
  pseq : Nat
  eui : Nat
  index : Nat
  rkind : Nat
  verdict : Nat := 0
  keyGen : Nat
  xflags : Nat := 0
  fcnt : Nat
  ftime : Nat := 0
  rxS : Nat
  rxNs : Nat
  ruleMask : Nat := 0
  node : Nat
  plen : Nat
  quality : Nat := 0
  aflags : Nat := 0
  d0 : Nat := 0
  d1 : Nat := 0
  zc : Nat := 0x7FFFFFFF
  attach : Nat
  concS : Nat := 0
  concNs : Nat := 0
  payload : List Byte
deriving DecidableEq, Repr

/-- The ident word of an archive and export record. -/
def mkIdent (index rkind verdict : Nat) : Nat := index % 2 ^ 20 + rkind % 16 * 2 ^ 20 + verdict % 256 * 2 ^ 24

/-- The 128 B of an archive record. -/
def archBytes (a : Arch) : List Byte :=
  let b := leBytes 8 a.pseq ++ leBytes 8 a.eui ++ leBytes 4 (mkIdent a.index a.rkind a.verdict) ++ leBytes 2 a.keyGen
    ++ leBytes 2 a.xflags ++ leBytes 4 a.fcnt ++ leBytes 4 a.ftime ++ leBytes 4 a.rxS ++ leBytes 4 a.rxNs
    ++ leBytes 2 a.ruleMask ++ leBytes 2 a.node ++ leBytes 2 a.plen ++ leBytes 1 a.quality ++ leBytes 1 a.aflags
    ++ leBytes 4 a.d0 ++ leBytes 4 a.d1 ++ leBytes 4 a.zc ++ leBytes 8 a.attach ++ leBytes 4 a.concS ++ leBytes 4 a.concNs
    ++ padTo 48 a.payload
  b ++ leBytes 3 (crc32c 0xFFFFFFFF b) ++ leBytes 1 0xA5

/-- Whether a slot is sound for the sequence its position implies (R393). -/
def archSound (l : List Byte) (seq : Nat) : Bool :=
  byteAt l 127 == 0xA5 && leAt l 124 3 == crc32c 0xFFFFFFFF (l.take 124) % 2 ^ 24 && leAt l 0 8 == seq

/-- The 20 B body of a state-change record (R174). -/
def stateBody (frm tgt reason attach since node : Nat) : List Byte :=
  leBytes 1 frm ++ leBytes 1 tgt ++ leBytes 1 reason ++ leBytes 1 0 ++ leBytes 8 attach ++ leBytes 4 since ++ leBytes 2 node
    ++ leBytes 2 0

/-! ### Sequences and the staging ring (R144–R147) -/

/-- Slots of the staging ring. -/
def Dev.stgSlots (d : Dev) : Nat := d.rd F.REEL_STG_SIZE_size_gib * 0x800000

/-- The address of slot 0. -/
def Dev.stgBase (d : Dev) : Nat := d.rd F.REEL_STG_BASE_HI_base_hi * 2 ^ 32 + d.rd F.REEL_STG_BASE_LO_base_lo * 2 ^ 30

/-- The address of the slot of a sequence. -/
def Dev.stgAddr (d : Dev) (seq : Nat) : Nat := d.stgBase + seq % d.stgSlots * 128

/-- Units of the extension ring, and its address (R394, R421). -/
def Dev.extUnits (d : Dev) : Nat := d.rd F.GAV_AREA_CFG_xring * 0x100000
def Dev.extBase (d : Dev) : Nat :=
  d.rd F.GAV_AREA_BASE_HI_base_hi * 2 ^ 32 + d.rd F.GAV_AREA_BASE_LO_base_lo * 2 ^ 30 + 0x8000000

/-- What holds the commit unit back from n sequences and some extension units: true an awaited mark (R147), false a full
ring (R146, R394); it holds back too while its mark has not been read. -/
def Dev.stgBlock (d : Dev) (n units : Nat) : Option Bool :=
  let last := d.rd F.REEL_SEQ_NEXT_LO_seq_next + n - 1
  let low := ((d.cu.units.find? (fun u => d.rd F.GAV_FLUSHED_LO_flushed < u.1)).map (·.2.1)).getD d.cu.unitNext
  if d.rd F.REEL_SEQ_RES_LO_seq_res < last || d.rd F.REEL_SEQ_NEXT_LO_seq_next = 0 then some true
  else if d.stgSlots ≤ last - d.rd F.GAV_FLUSHED_LO_flushed then some false
  else if units != 0 && low + d.extUnits < d.cu.unitNext + units then some false
  else none

/-- The commit unit stalls (R146, R147). -/
def Dev.stgStall (d : Dev) (onMark : Bool) : Dev :=
  let d := { d with cu := { d.cu with stallAt := d.cu.stallAt <|> some d.tick } }
  if onMark then d.setF F.REEL_STATUS_res_wait else d.setF F.REEL_STATUS_stg_full

/-- The stall ends; its milliseconds are counted. -/
def Dev.stgResume (d : Dev) : Dev :=
  let d := d.bump F.REEL_COMMIT_STAT_stall_ms ((d.cu.stallAt.map (fun t => (d.tick - t) / msNs)).getD 0)
  ({ d with cu := { d.cu with stallAt := none } }).clrF F.REEL_STATUS_res_wait |>.clrF F.REEL_STATUS_stg_full

/-- Journal M + 2^20 once assignment has passed M − 2^19 (R147), as SYSVAL 0x01 (R402). -/
def Dev.stgJournal (d : Dev) : Dev :=
  let m := d.rd F.REEL_SEQ_RES_LO_seq_res
  if d.cu.resReq = m && m < d.rd F.REEL_SEQ_NEXT_LO_seq_next - 1 + 0x80000 then
    { d with cu := { d.cu with resReq := m + 0x100000 }, gav := { d.gav with jpend := d.gav.jpend ++ [.sysval 1 (m + 0x100000)] } }
  else d

/-- Assign the next export sequence (R144 step 3). -/
def Dev.stgTake (d : Dev) : Dev × Nat :=
  let s := d.rd F.REEL_SEQ_NEXT_LO_seq_next
  ((d.wr F.REEL_SEQ_NEXT_LO_seq_next (s + 1)).wr F.XDI_EXP_LIVE_LO_live s |>.stgJournal, s)

/-- Write an archive record into its slot (R144 step 4). -/
def Dev.stgWrite (d : Dev) (a : Arch) : Dev := d.memWrB (d.stgAddr a.pseq) (archBytes a)

/-- REEL_WLZ_ACK (R190): the highest published S with every feed up to it applied. While Waltz runs it is one below the lowest
sequence still in a Waltz FIFO or in its catch-up; while it stands the register holds (R191). -/
def Dev.wlzAckShow (d : Dev) : Dev :=
  if !d.on F.WLZ_STATUS_running then d
  else
    let waiting := ((d.fifo 0x700A0).items ++ (d.fifo 0x700B0).items).map (fun i => leAt i 0 8)
      ++ (d.wlz.catchUp.map (fun x => x.1)).toList
    let s := waiting.foldl (fun a x => min a (x - 1)) (d.rd F.REEL_STG_PUB_LO_stg_pub)
    if d.rd F.REEL_WLZ_ACK_LO_wlz_ack < s then
      let d := d.wr F.REEL_WLZ_ACK_LO_wlz_ack s
      { d with wlz := { d.wlz with ahead := d.wlz.ahead.filter (fun x => s < x) } }
    else d

/-- The commit point's publication (R144 step 5). -/
def Dev.stgPublish (d : Dev) (s : Nat) : Dev := (d.wr F.REEL_STG_PUB_LO_stg_pub s).wlzAckShow

/-! ### State changes (R109, R110) -/

/-- The source a transition pends (R109). -/
def changeSource (tgt reason : Nat) : Option Nat :=
  if tgt = 0 && reason = 0 then some 208
  else if tgt = 2 && reason = 2 then some 209
  else if (tgt = 0 && reason = 3) || (tgt = 3 && (reason = 4 || reason = 5)) then some 210
  else if tgt = 4 && (reason = 6 || reason = 7 || reason = 0xA) then some 211
  else none

/-- Whether the table of R109 holds a transition; reasons 0x0C and 0x0D keep the state (R110). -/
def transitionOk (frm tgt reason : Nat) : Bool :=
  if reason = 0 then (frm == 7 && tgt == 0) || ((frm == 0 || frm == 5) && tgt == 7)
  else if reason = 1 then (frm == 7 || frm == 0 || frm == 5) && tgt == 1
  else if reason = 2 then frm == 1 && tgt == 2
  else if reason = 3 then frm == 1 && tgt == 0
  else if reason = 4 || reason = 5 then frm == 2 && tgt == 3
  else if reason = 6 || reason = 7 || reason = 0xA then (frm == 2 || frm == 3) && tgt == 4
  else if reason = 8 then frm == 4 && tgt == 2
  else if reason = 9 then frm ≤ 5 && tgt == 5
  else if reason = 0xB then frm == 3 && tgt == 2
  else if reason = 0xC || reason = 0xD then frm == tgt && frm != 7
  else if reason = 0xF then tgt == 7
  else false

/-- Device time now as the export record gives it: DWN seconds and ns. -/
def Dev.nowSN (d : Dev) : Nat × Nat := (d.dwnNow, (d.devNs % 1000000000).toNat)

/-- One state change of a record, its fields already edited: the next sequence, the archive record in its slot, the record
written once, published, the source pended. `xflags` carries bit 11 for a mirrored change (R173). -/
def Dev.stateChange (d : Dev) (i r tgt reason : Nat) (frm : Nat) (xflags : Nat := 0) (mask : Nat := 0xFF) : Dev :=
  let (d, s) := d.stgTake
  let now := d.nowSN
  let att := rg r R.attach
  let node := rg r R.node
  let d := d.stgWrite { pseq := s, eui := rg r R.eui, index := i, rkind := 0xF, keyGen := rg r R.keyGen, xflags := xflags,
                        fcnt := rg r R.frameCounter, rxS := now.1, rxNs := now.2, node := node, plen := 20, attach := att,
                        payload := stateBody frm tgt reason att now.1 node }
  let r := rsAll r [(84, 3, tgt), (96, 8, reason), (1472, 32, now.1), (1920, 64, s)]
  let d := (d.msrPut i r mask).stgPublish s
  ((changeSource tgt reason).map d.raise).getD d

end Sys2Proof.Machine
end

