-- ==== Sys2Proof/Machine/Msr.lean ====
section
/-! DEFINITION. The MSR block's commands (chapter 04): enable, the opcodes MTR_*, the record window, the sweep, attachments
lost and channels retired, checkpoints. -/

namespace Sys2Proof.Machine

/-- Statuses of the MTR opcodes (R120). -/
def mtrNotFound : Nat := 0x8001
def mtrExists : Nat := 0x8002
def mtrBadState : Nat := 0x8003
def mtrAttLimit : Nat := 0x8004
def mtrMode : Nat := 0x8005
def mtrStale : Nat := 0x8006
def mtrCorrupt : Nat := 0x8007
def mtrIndexHeld : Nat := 0x8008

/-! ### Enable (R99, R118) -/

/-- MSR_ENABLE: a write of MSR_CTRL. Its enable at 1 commits the RWL fields or is refused; a table valid in DRAM at its place
serves at once, otherwise it is rebuilt (R118). -/
def Dev.msrEnable (d : Dev) (v : Nat) : Dev :=
  let was := d.on F.MSR_CTRL_enable
  let d := d.regWrite32 0x40000 v
  if was || !bit v 31 then d
  else if d.inDram d.msrBase 0x10000000 && d.inDram d.idtBase 0x2000000 then
    let d := d.commitRwl 0x40000
    if d.msr.tableAt = some d.msrBase then (d.setF F.MSR_STATUS_ready).msrPinned.msrRecount
    else (d.clrF F.MSR_STATUS_ready).setF F.MSR_STATUS_rebuilding
  else (d.clrF F.MSR_CTRL_enable).setF F.MSR_ERR_area_bad

/-! ### Changes that may have to wait (R107, R109, R111, R115) -/

/-- The record a waiting change names; an admission names the one it would admit. -/
def Dev.queuedIndex (d : Dev) : Queued → Option Nat
  | .cmd c =>
    if wOpcode c.w = 0x13 then
      d.idtFind (wArg c.w 24 8) <|> (if bit (wArg c.w 32 4) 31 then d.msr.freeHead else some (bits (wArg c.w 32 4) 0 20))
    else some (wArg c.w 24 4)
  | .own i _ _ | .window i _ _ | .count i _ | .auth i _ | .fields i _ | .assign _ i _ => some i

/-- Whether a change of a record waits: a later one on it waits behind (R107). -/
def Dev.queuedOn (d : Dev) (i : Nat) : Bool := d.msr.queue.any (fun q => d.queuedIndex q == some i)

/-- A change joins the queue. -/
def Dev.enqueue (d : Dev) (q : Queued) : Dev := { d with msr := { d.msr with queue := d.msr.queue ++ [q] } }

/-- An engine writes fields of a record, in its turn. -/
def Dev.recEdit (d : Dev) (i : Nat) (l : List (Nat × Nat × Nat)) : Dev :=
  if d.queuedOn i then d.enqueue (.fields i l) else d.msrPut i (rsAll (d.msrPeek i) l)

/-- An assignment by command writes fields of a record, in its turn, and completes with the new rec_gen (R217). -/
def Dev.recAssign (d : Dev) (c : Desc) (i : Nat) (l : List (Nat × Nat × Nat)) : Dev :=
  if d.queuedOn i then d.enqueue (.assign c i l)
  else
    let d := d.msrPut i (rsAll (d.msrPeek i) l)
    d.okRes c (rg (d.msrPeek i) R.recGen)

/-- auth_fail returns to 0 and rule_fail rises, as one counter-only change, where either does (R102, R165). -/
def Dev.counterOnly (d : Dev) (i : Nat) (ruleFail : Bool) : Dev :=
  let r := d.msrPeek i
  if d.queuedOn i then d.enqueue (.count i ruleFail)
  else if ruleFail || rg r R.authFail != 0 then
    let n := if ruleFail then satAdd 0xFFFF (rg r R.ruleFail) 1 else rg r R.ruleFail
    d.msrPut i (rs (rs r R.authFail 0) R.ruleFail n)
  else d

/-- An authentication failure (R102, R109, R138): counted on the record only on its own attachments; reaching auth_limit
quarantines, in the same change. -/
def Dev.authFailed (d : Dev) (i attach : Nat) : Dev :=
  let r := d.msrPeek i
  if d.queuedOn i then d.enqueue (.auth i attach)
  else if atKind attach != 0 && (sameAttach attach (rg r R.attach) || sameAttach attach (rg r R.attachAlt)) then
    let n := satAdd 0xFFFF (rg r R.authFail) 1
    let r2 := rs r R.authFail n
    let lim := d.rd F.MSR_LIMITS_auth_limit
    if lim != 0 && lim ≤ n && d.mode != .shadow && transitionOk (rg r R.state) stQuarantined 6 then
      match d.stgBlock 1 0 with
      | none => d.stateChange i r2 stQuarantined 6 (rg r R.state)
      | some m => (d.stgStall m).enqueue (.auth i attach)
    else d.msrPut i r2
  else d

/-- Whether the limits of R114 let index i take a primary attachment. -/
def Dev.attRoom (d : Dev) (i a : Nat) : Bool :=
  if atKind a = 0 then true
  else
    let same := d.msrRecs.filter (fun e => e.1 != i && rg e.2 R.state != stFree && atKind (rg e.2 R.attach) == atKind a
      && atChan (rg e.2 R.attach) == atChan a)
    same.length < attLimit (atKind a)

/-- a is at least n DWN seconds before b, in signed 32-bit arithmetic. -/
def dwnOlder (a b n : Nat) : Bool := (n : Int) ≤ sgn 32 (serSub 32 b a)

/-- The record after a change of the block's own, if the change is still due when its write arrives (R111, R115; a standby
makes none, R429): 0x03 and
0x04 by their timers, 0x0C a swap of attachments, the others by the table of R109. -/
def Dev.changeDue (d : Dev) (i tgt reason : Nat) : Option Nat :=
  let r := d.msrPeek i
  if d.msrCorrupt i || d.mode == .shadow || !transitionOk (rg r R.state) tgt reason then none
  else if reason = 3 then
    let c := d.rd F.MSR_TIMERS_commission_to * 10
    if c != 0 && dwnOlder (rg r R.admittedAt) d.dwnNow c then some r else none
  else if reason = 4 then
    let a := d.rd F.MSR_TIMERS_adrift_to * 60
    if a != 0 && d.mode != .storm && dwnOlder (rg r R.lastSeen) d.dwnNow a then some r else none
  else if reason = 0xC then some (rs (rs r R.attach (rg r R.attachAlt)) R.attachAlt (rg r R.attach))
  else some r

/-- Make a change of the block's own in its turn, or let it wait for the commit unit. A swap that R114 no longer lets the record
take when its turn comes moves it to Adrift instead (R115). -/
def Dev.tryChange (d : Dev) (i tgt reason : Nat) : Dev :=
  if d.queuedOn i then d.enqueue (.own i tgt reason)
  else
    let full := reason == 0xC && !d.attRoom i (rg (d.msrPeek i) R.attachAlt)
    let tgt := if full then stAdrift else tgt
    let reason := if full then 5 else reason
    match d.changeDue i tgt reason with
    | none => d
    | some r =>
      match d.stgBlock 1 0 with
      | none => d.stateChange i r tgt reason (rg (d.msrPeek i) R.state)
      | some m => (d.stgStall m).enqueue (.own i tgt reason)

/-- An engine reports a record's attachment lost (R109, R111): held in Storm. -/
def Dev.attachLost (d : Dev) (i : Nat) : Dev :=
  if d.mode == .storm then { d with msr := { d.msr with lostHeld := d.msr.lostHeld ++ [i] } }
  else d.tryChange i stAdrift 5

/-- Storm ends: the held reports apply; a frame accepted since has taken its report out (R111). -/
def Dev.applyLostHeld (d : Dev) : Dev :=
  let l := d.msr.lostHeld
  l.foldl (fun d i => d.tryChange i stAdrift 5) { d with msr := { d.msr with lostHeld := [] } }

/-- A channel is retired (R115, R336): records attached to it swap to their alternate attachment of the other medium when
dual_mode, within R114 (Dev.tryChange); every other Active one goes Adrift. -/
def Dev.channelRecords (d : Dev) (plc : Bool) (ch : Nat) : Dev :=
  let isPlc (a : Nat) : Bool := atKind a == 1
  let isRadio (a : Nat) : Bool := atKind a == 2 || atKind a == 3
  let on (a : Nat) : Bool := (if plc then isPlc a else isRadio a) && atChan a == ch
  (d.msrRecs.filter (fun e => rg e.2 R.state != stFree && on (rg e.2 R.attach))).foldl (fun d e =>
    let alt := rg e.2 R.attachAlt
    if rg e.2 R.dualMode = 1 && (if plc then isRadio alt else isPlc alt)
    then d.tryChange e.1 (rg e.2 R.state) 0xC
    else d.tryChange e.1 stAdrift 5) d

/-! ### The opcodes (R116, R119, R120, R545) -/

/-- Run an opcode where the block serves it (R113): enabled, the table ready, and the mode one that changes state unless the
opcode only reads. -/
def Dev.mtrServed (d : Dev) (c : Desc) (reads : Bool) (k : Dev → Dev) : Dev :=
  let modeOk := reads || (match d.mode with
    | .commission | .run | .storm | .islanded => true
    | .dormant | .boot | .recovery | .shadow => false)
  if d.on F.MSR_CTRL_enable && d.on F.MSR_STATUS_ready && modeOk then k d else d.fail c mtrMode

/-- Run an opcode on the record of an index, which must not be corrupt or, unless `freeOk`, Free. -/
def Dev.mtrOn (d : Dev) (c : Desc) (i : Nat) (freeOk : Bool) (k : Dev → Nat → Dev) : Dev :=
  match d.msrGet i with
  | (d, none) => d.finish c { status := mtrCorrupt, result := i }
  | (d, some r) => if rg r R.state = stFree && !freeOk then d.fail c mtrNotFound else k d r

/-- Make an opcode's change of state, or let the descriptor wait for the commit unit (R145–R147). -/
def Dev.mtrChange (d : Dev) (c : Desc) (k : Dev → Dev) : Dev :=
  match d.stgBlock 1 0 with
  | none => k d
  | some m => (d.stgStall m).enqueue (.cmd c)

/-- An opcode that changes a record takes its turn behind every change that waits (R107). -/
def Dev.mtrTurn (d : Dev) (c : Desc) (k : Dev → Dev) : Dev :=
  if d.msr.queue.isEmpty then k d else d.enqueue (.cmd c)

/-- The index of an opcode's args, bytes 24–27. -/
def argIndex (w : BitVec 512) : Nat := wArg w 24 4

/-- MTR_LOOKUP. -/
def Dev.mtrLookup (d : Dev) (c : Desc) : Dev :=
  let byIndex := wArg c.w 32 1
  d.withFields c (if byIndex = 0 then [(24, 33)] else [(32, 33), (36, 40)]) fun d =>
    d.mtrServed c true fun d =>
      let found (d : Dev) (i : Nat) : Dev := d.mtrOn c i false fun d r =>
        d.okRes c (i + rg r R.state * 2 ^ 20) (rg r R.eui)
      if byIndex = 0 then
        match d.idtFind (wArg c.w 24 8) with
        | none => d.fail c mtrNotFound
        | some i => found d i
      else if byIndex = 1 && wArg c.w 36 4 < msrSize then found d (wArg c.w 36 4)
      else d.fail c stBadField

/-- MTR_READ: a corrupt record's image is written before MTR_CORRUPT. -/
def Dev.mtrRead (d : Dev) (c : Desc) : Dev :=
  d.withFields c [(8, 20), (24, 28)] fun d =>
    let i := argIndex c.w
    if wLen c.w < 256 || msrSize ≤ i then d.fail c stBadField
    else d.mtrServed c true fun d =>
      match d.msrGet i with
      | (d, none) => d.finish c { status := mtrCorrupt, result := i, data := [(wAddr c.w, leBytes 256 (d.msrPeek i))] }
      | (d, some r) =>
        if rg r R.state = stFree then d.fail c mtrNotFound
        else d.finish c { status := 0, result := rg r R.recGen, data := [(wAddr c.w, leBytes 256 r)] }

/-- Bytes a mask may not cover on a sound record: eui64, local_index and state, last_seq, rec_gen, crc. -/
def maskLocked (m : Nat) : Bool := bits m 0 11 != 0 || bits m 0xF0 16 != 0

/-- A record with the masked bytes of an image. -/
def maskMerge (r img m : Nat) : Nat :=
  leNat ((leBytes 256 r).zipIdx.map (fun e => if bit m e.2 then BitVec.ofNat 8 (byts img e.2 1) else e.1))

/-- MTR_WRITE of a corrupt record with a complete mask (R104). -/
def Dev.mtrRewrite (d : Dev) (c : Desc) (i img : Nat) : Dev :=
  let eui := rg img R.eui
  let held := d.idtFind eui
  if held.isSome && held != some i then
    d.finish c { status := mtrExists, result := held.getD 0 }
  else
    let p := d.idtPurge i
    let (e, ok) := if rg img R.state = stFree then (p, true) else p.idtInsert eui i
    if !ok then (d.setF F.MSR_ERR_idt_full).fail c stNoResource
    else
      let m := if rg img R.state = stFree then (if e.msr.inFree i then e.msr else e.msr.freePut i)
        else if e.msr.inFree i then e.msr.freeTake i else e.msr
      let e := ({ e with msr := m }).msrPut i img
      (e.msrRecount).okRes c (rg (e.msrPeek i) R.recGen)

/-- MTR_WRITE. -/
def Dev.mtrWrite (d : Dev) (c : Desc) : Dev :=
  d.withFields c [(8, 20), (24, 64)] fun d =>
    let i := argIndex c.w
    let exp := wArg c.w 28 4
    let mask := wArg c.w 32 32
    if wLen c.w != 256 || msrSize ≤ i then d.fail c stBadField
    else d.mtrServed c false fun d => d.mtrTurn c fun d =>
      match d.msrGet i with
      | (d, none) =>
        let gen := rg (d.msrPeek i) R.recGen
        if mask != 2 ^ 256 - 1 then d.finish c { status := mtrCorrupt, result := i }
        else if exp != 0xFFFFFFFF && exp != gen then d.finish c { status := mtrStale, result := gen }
        else if c.data.length != 256 then d.fail c stHostFault
        else d.mtrRewrite c i (leNat c.data)
      | (d, some r) =>
        if maskLocked mask then d.fail c stBadField
        else if rg r R.state = stFree then d.fail c mtrNotFound
        else if exp != 0xFFFFFFFF && exp != rg r R.recGen then d.finish c { status := mtrStale, result := rg r R.recGen }
        else if c.data.length != 256 then d.fail c stHostFault
        else
          let d := d.msrPut i (maskMerge r (leNat c.data) mask)
          d.okRes c (rg (d.msrPeek i) R.recGen)

/-- The whole record of an admission (R545). -/
def admitRec (r i eui handle keyGen dual pass att alt now : Nat) : Nat :=
  let kept := if rg r R.state = stFree then 0 else rg r R.fwScratch
  rsAll (blankRec i stCommissioning)
    [(0, 64, eui), (87, 1, rg r R.pinned), (92, 1, dual), (93, 1, pass), (128, 64, att), (192, 64, alt), (384, 32, handle),
     (416, 16, keyGen), (1440, 32, now), (1536, 384, kept)]

/-- The limit of records in Commissioning (R113). -/
def Dev.commRoom (d : Dev) : Bool :=
  d.rd F.MSR_STATUS_comm_count < (if d.mode == .commission then 65536 else 64)

/-- MTR_ADMIT: every check before an index is taken (R100, R116). -/
def Dev.mtrAdmit (d : Dev) (c : Desc) : Dev :=
  d.withFields c [(4, 8), (24, 39), (40, 56)] fun d =>
    let eui := wArg c.w 24 8
    let want := wArg c.w 32 4
    let any := bit want 31
    let fl := wArg c.w 38 1
    let att := wArg c.w 40 8
    let alt := wArg c.w 48 8
    if bits want 20 11 != 0 || 3 < fl || !attachOk att || !attachOk alt then d.fail c stBadField
    else d.mtrServed c false fun d => d.mtrTurn c fun d =>
      let enrol (d : Dev) (i r : Nat) (new : Bool) : Dev :=
        if !d.attRoom i att then (d.raise 214).fail c mtrAttLimit
        else if !d.commRoom then d.fail c mtrAttLimit
        else d.mtrChange c fun d =>
          let (e, ok) := if new then d.idtInsert eui i else (d, true)
          if !ok then e.fail c stNoResource
          else
            let e := if new then { e with msr := e.msr.freeTake i } else e
            let r2 := admitRec r i eui (wHandle c.w) (wArg c.w 36 2) (fl % 2) (fl / 2) att alt e.dwnNow
            (e.stateChange i r2 stCommissioning 1 (rg r R.state)).okRes c i
      match d.idtFind eui with
      | some i => d.mtrOn c i true fun d r =>
          if (rg r R.state = stUnknown || rg r R.state = stRetired) && (any || bits want 0 20 = i) then enrol d i r false
          else d.finish c { status := mtrExists, result := i }
      | none =>
        match (if any then d.msr.freeHead else some (bits want 0 20)) with
        | none => (d.raise 214).fail c mtrAttLimit
        | some i => d.mtrOn c i true fun d r =>
            if rg r R.state = stFree then enrol d i r true
            else d.finish c { status := mtrIndexHeld, result := i, result2 := rg r R.eui }

/-- An opcode that makes one transition of a record (R109). -/
def Dev.mtrTransit (d : Dev) (c : Desc) (tgt reason : Nat) (edit : Nat → Nat) (after : Dev → Nat → Dev) : Dev :=
  d.withFields c [(24, 28)] fun d =>
    let i := argIndex c.w
    if msrSize ≤ i then d.fail c stBadField
    else d.mtrServed c false fun d => d.mtrTurn c fun d =>
      d.mtrOn c i false fun d r =>
        if transitionOk (rg r R.state) tgt reason then
          d.mtrChange c fun d => (after (d.stateChange i (edit r) tgt reason (rg r R.state)) r).okRes c
        else d.finish c { status := mtrBadState, result := rg r R.state }

/-- MTR_RELEASE: rule_fail returns to 0 (R165). -/
def Dev.mtrRelease (d : Dev) (c : Desc) : Dev :=
  d.mtrTransit c stActive 8 (fun r => rs r R.ruleFail 0) (fun d _ => d)

/-- MTR_RETIRE. -/
def Dev.mtrRetire (d : Dev) (c : Desc) : Dev :=
  d.mtrTransit c stRetired 9 (fun r => r) (fun d _ => d)

/-- MTR_FREE of a corrupt record (R104): its identity entries go, the index joins the tail, the record is made Free anew, and
the population is recounted. -/
def Dev.mtrFreeCorrupt (d : Dev) (c : Desc) (i : Nat) : Dev :=
  d.mtrChange c fun d =>
    let r := d.msrPeek i
    let d := d.idtPurge i
    let d := { d with msr := d.msr.freePut i }
    let new := rs (blankRec i stFree) R.recGen (rg r R.recGen)
    let d := d.stateChange i (rs new R.eui (rg r R.eui)) stFree 0xF (rg r R.state)
    d.msrRecount.okRes c

/-- MTR_FREE. -/
def Dev.mtrFree (d : Dev) (c : Desc) : Dev :=
  let i := argIndex c.w
  let run := d.mtrTransit c stFree 0 (fun r => r) (fun d r =>
    let d := d.idtRemove (rg r R.eui)
    { d with msr := d.msr.freePut i })
  if wUnusedZero c.w [(24, 28)] && wReservedOk c.w && i < msrSize && d.msrCorrupt i then
    d.mtrServed c false fun d => d.mtrTurn c fun d => (d.msrGet i).1.mtrFreeCorrupt c i
  else run

/-- MTR_MOVE (R119, R110): attachments change with reason 0x0D. -/
def Dev.mtrMove (d : Dev) (c : Desc) : Dev :=
  d.withFields c [(24, 28), (32, 48)] fun d =>
    let i := argIndex c.w
    let att := wArg c.w 32 8
    let alt := wArg c.w 40 8
    if msrSize ≤ i || !attachOk att || !attachOk alt then d.fail c stBadField
    else d.mtrServed c false fun d => d.mtrTurn c fun d =>
      d.mtrOn c i false fun d r =>
        if !d.attRoom i att then (d.raise 214).fail c mtrAttLimit
        else d.mtrChange c fun d =>
          (d.stateChange i (rs (rs r R.attach att) R.attachAlt alt) (rg r R.state) 0xD (rg r R.state)).okRes c

/-- MTR_SCAN: count indices are examined from the start; the buffer's room ends it early. -/
def Dev.mtrScan (d : Dev) (c : Desc) : Dev :=
  d.withFields c [(8, 20), (24, 33)] fun d =>
    let start := argIndex c.w
    let mask := wArg c.w 32 1
    if msrSize ≤ start || wLen c.w % 256 != 0 then d.fail c stBadField
    else d.mtrServed c true fun d =>
      let stop := min msrSize (start + wArg c.w 28 4)
      let cand := if bit mask 7 then (List.range (stop - start)).map (· + start)
        else (d.msrRecs.map (·.1)).filter (fun i => start ≤ i && i < stop)
      let hits := cand.filter (fun i => bit mask (rg (d.msrPeek i) R.state))
      let room := wLen c.w / 256
      let out := hits.take room
      let next := ((hits.drop room).head?).getD stop
      d.finish c { status := 0, result := out.length, result2 := next,
                   data := if out.isEmpty then [] else [(wAddr c.w, out.flatMap (fun i => leBytes 256 (d.msrPeek i)))] }

/-- MTR_PIN (R106). -/
def Dev.mtrPin (d : Dev) (c : Desc) : Dev :=
  d.withFields c [(24, 29)] fun d =>
    let i := argIndex c.w
    let fl := wArg c.w 28 1
    if msrSize ≤ i || 1 < fl then d.fail c stBadField
    else d.mtrServed c false fun d => d.mtrTurn c fun d => d.mtrOn c i false fun d r =>
      if fl = 1 && rg r R.pinned = 0 && (4096 ≤ d.rd F.MSR_CACHE_CTRL_pinned || 8 ≤ d.pinsOf i) then
        (d.setF F.MSR_ERR_pin_rej).fail c stNoResource
      else (d.msrPut i (rs r R.pinned fl)).okRes c

/-- A waiting opcode's turn comes again. -/
def Dev.mtrAgain (d : Dev) (c : Desc) : Dev :=
  let op := wOpcode c.w
  if op = 0x12 then d.mtrWrite c else if op = 0x13 then d.mtrAdmit c else if op = 0x14 then d.mtrRelease c
  else if op = 0x15 then d.mtrRetire c else if op = 0x16 then d.mtrFree c else if op = 0x17 then d.mtrMove c else d.mtrPin c

/-! ### The record window (R108) -/

/-- The record window's commit of a snapshot in its turn; commit reads 1 until it is done. A corrupt record takes nothing (R104). -/
def Dev.windowCommit (d : Dev) (i snap : Nat) (force : Bool) : Dev :=
  let cur := d.msrPeek i
  if d.queuedOn i then (d.setF F.MSR_REC_CTRL_commit).enqueue (.window i snap force)
  else
    let d := d.clrF F.MSR_REC_CTRL_commit
    if d.msrCorrupt i then d
    else if rg cur R.recGen = rg snap R.recGen || force then d.msrPut i (maskMerge cur snap (2 ^ 0xF0 - 2 ^ 11))
    else d.setF F.MSR_REC_CTRL_stale

/-- MSR_REC_SEL_WRITE. -/
def Dev.msrRecSelWrite (d : Dev) (v : Nat) : Dev :=
  let i := bits v 0 20
  let r := d.msrPeek i
  let d := (d.wr F.MSR_REC_SEL_index i).setF F.MSR_REC_SEL_loaded
  foldN 64 (fun k d => d.wr (F.MSR_REC_DATA_w.at k) (byts r (4 * k) 4)) d

/-- The snapshot in MSR_REC_DATA. -/
def Dev.recSnap (d : Dev) : Nat :=
  leNat ((List.range 64).flatMap (fun k => leBytes 4 (d.rd (F.MSR_REC_DATA_w.at k))))

/-- MSR_REC_COMMIT: a write of MSR_REC_CTRL with commit 1. -/
def Dev.msrRecCommit (d : Dev) (v : Nat) : Dev :=
  let d := d.wr F.MSR_REC_CTRL_force (bits v 0 1)
  let d := if bit v 30 then d.clrF F.MSR_REC_CTRL_stale else d
  if !d.on F.MSR_REC_SEL_loaded || d.on F.MSR_REC_CTRL_commit then d
  else d.windowCommit (d.rd F.MSR_REC_SEL_index) d.recSnap (d.on F.MSR_REC_CTRL_force)

/-! ### The queue moves on (R107, R145–R147) -/

/-- One waiting change takes its turn. -/
def Dev.queueRun (d : Dev) : Queued → Dev
  | .cmd c => d.mtrAgain c
  | .own i tgt reason => d.tryChange i tgt reason
  | .window i snap force => d.windowCommit i snap force
  | .count i ruleFail => d.counterOnly i ruleFail
  | .auth i attach => d.authFailed i attach
  | .fields i l => d.recEdit i l
  | .assign c i l => d.recAssign c i l

/-- The commit unit takes up what waited for it, in arrival order; what it cannot make yet waits again. -/
def Dev.stgGoOn (d : Dev) : Dev :=
  let l := d.msr.queue
  let d := d.stgResume
  l.foldl (fun (d : Dev) q => d.queueRun q) { d with msr := { d.msr with queue := [] } }

/-! ### The sweep (R111) -/

/-- SWEEP_VISIT. -/
def Dev.sweepVisit (d : Dev) (i : Nat) : Dev :=
  let runs := d.on F.MSR_CTRL_enable && d.on F.MSR_STATUS_ready && d.on F.MSR_CTRL_sweep_en && d.mode.serving
    && d.mode != .shadow
  let st := rg (d.msrPeek i) R.state
  if !runs then d
  else if st = stActive then d.tryChange i stAdrift 4
  else if st = stCommissioning then d.tryChange i stUnknown 3
  else d

/-! ### Checkpoints (R118) -/

/-- A checkpoint of the table starts: XDI_EXP_LIVE as it stands is its sequence. -/
def Dev.ckptStart (d : Dev) : Dev :=
  if d.on F.MSR_STATUS_ready && d.msr.writing.isNone then
    ({ d with msr := { d.msr with writing := some { seq := d.rd F.XDI_EXP_LIVE_LO_live, recs := d.msrRecs } } }).setF
      F.MSR_STATUS_ckpt_busy
  else d

/-- MSR_CHECKPOINT_PERIOD: with period 0 there is none. -/
def Dev.msrCheckpointPeriod (d : Dev) : Dev := if d.rd F.MSR_CKPT_period = 0 then d else d.ckptStart

/-- MSR_CKPT_NOW: ckpt_now reads 1 until complete. -/
def Dev.msrCkptNow (d : Dev) : Dev := if d.on F.MSR_STATUS_ready then d.ckptStart.setF F.MSR_CKPT_ckpt_now else d

/-- MSR_CHECKPOINT_DONE: the copies alternate; SYSVAL 0x04 names the newer one (R402). -/
def Dev.msrCheckpointDone (d : Dev) (ok : Bool) : Dev :=
  match d.msr.writing with
  | none => d
  | some k =>
    let copy := 1 - d.msr.newer
    let d := (d.clrF F.MSR_STATUS_ckpt_busy).clrF F.MSR_CKPT_ckpt_now
    let d := { d with msr := { d.msr with writing := none } }
    if ok then
      let d := { d with msr := { d.msr with copies := mput d.msr.copies copy k, newer := copy },
                        gav := { d.gav with jpend := d.gav.jpend ++ [JEnt.sysval 4 (k.seq + copy * 2 ^ 64)] } }
      d.wr F.MSR_CKPT_SEQ_LO_ckpt_seq k.seq
    else (d.setF F.MSR_ERR_ckpt_fail).raise 215

/-- MSR_CLEAN_ALL. -/
def Dev.msrCleanAll (d : Dev) : Dev := d.msrClean.clrF F.MSR_CACHE_CTRL_clean_all

end Sys2Proof.Machine
end

