-- ==== Sys2Proof/Machine/Val.lean ====
section
/-! DEFINITION. The uplink frame (R123–R128) and validation (chapter 06): the rule-step engine, rule banks, the standard
chain, verdicts, what a commit writes, the de-duplication filter, and VAL's commands but injection. -/

namespace Sys2Proof.Machine

/-! ### The DWN uplink frame (R123–R128) -/

/-- The parts of an uplink frame. -/
structure Frame where
  ver : Nat
  ftype : Nat
  euiForm : Bool
  ackReq : Bool
  suite : Nat
  idx : Nat
  eui : Nat
  keyGen : Nat
  fcnt : Nat
  ftime : Nat
  plen : Nat
  hdr : List Byte
  body : List Byte
  tag : List Byte
deriving DecidableEq, Repr

/-- Length of the tag of a suite (R127). -/
def tagLen (suite : Nat) : Nat := if suite = 0 then 8 else 16

/-- Split a frame's bytes. -/
def parseFrame (l : List Byte) : Frame :=
  let fc := byteAt l 0
  let e := bit fc 6
  let o := if e then 10 else 5
  let h := if e then 22 else 17
  let plen := leAt l (o + 10) 2
  { ver := fc % 4, ftype := bits fc 2 4, euiForm := e, ackReq := bit (byteAt l 1) 0, suite := bits (byteAt l 1) 1 2,
    idx := if e then 0 else leAt l 2 3 % 0x100000, eui := if e then leAt l 2 8 else 0, keyGen := leAt l o 2,
    fcnt := leAt l (o + 2) 4, ftime := leAt l (o + 6) 4, plen := plen, hdr := l.take h, body := (l.drop h).take plen,
    tag := l.drop (h + plen) }

/-- The versions, payload lengths and multiples of a type (R125). -/
def typeOk (t ver plen : Nat) : Bool :=
  match t with
  | 0 => plen == 16
  | 1 => plen == 48
  | 2 => plen == 64
  | 3 => 8 ≤ plen && plen ≤ 128 && plen % 8 == 0
  | 4 => plen == 16
  | 5 => plen == 16
  | 6 => 8 ≤ plen && plen ≤ 64
  | 7 => 2 ≤ ver && 8 ≤ plen && plen ≤ 256
  | 8 => 1 ≤ plen && plen ≤ 400
  | _ => false

/-- The format checks before any key derivation (R123, R128). -/
def frameOk (l : List Byte) : Bool :=
  let f := parseFrame l
  let fc := byteAt l 0
  let h := if f.euiForm then 22 else 17
  17 ≤ l.length && l.length ≤ 512 && h ≤ l.length && f.ver != 0 && !bit fc 7 && bits (byteAt l 1) 3 5 == 0
    && (f.euiForm || leAt l 2 3 < 0x100000) && typeOk f.ftype f.ver f.plen
    && (f.suite == 0 || (f.suite == 1 && 2 ≤ f.ver) || (f.suite == 2 && f.ver == 3))
    && l.length == h + f.plen + tagLen f.suite && (f.ftype != 0 || (f.euiForm && f.ver == 1))

/-! ### The ingest prefix (R131) -/

def pfStamp (p : List Byte) : Nat := leAt p 0 8
def pfAttach (p : List Byte) : Nat := leAt p 8 8
def pfZc (p : List Byte) : Nat := leAt p 16 4
def pfQuality (p : List Byte) : Nat := byteAt p 22
def pfConc (p : List Byte) : Bool := bit (byteAt p 23) 1

/-- The 32 B prefix of a frame. -/
def mkPrefix (stamp attach zc flen quality pflags concS concNs : Nat) : List Byte :=
  leBytes 8 stamp ++ leBytes 8 attach ++ leBytes 4 zc ++ leBytes 2 flen ++ leBytes 1 quality ++ leBytes 1 pflags
    ++ leBytes 4 concS ++ leBytes 4 concNs

/-- The path of an arrival (R172). -/
def pathOf (attach : Nat) : Nat := if atKind attach = 0 then 0 else min (atKind attach - 1) 3

/-! ### Space N (R162) -/

/-- Frame register k minus the record's: signed, for the types that carry it. -/
def dReg (f : Frame) (r k : Nat) : Int :=
  let at' (o : Nat) : Int := sgn 64 (serSub 64 (leAt f.body o 8) (rg r (R.reg k)))
  if f.ftype = 1 then at' (8 + 8 * k)
  else if f.ftype = 2 then at' (8 * k)
  else if k = 0 && (f.ftype = 0 || f.ftype = 5) then at' 8
  else if k = 0 && f.ftype = 4 then at' 0
  else 0

/-- interval − last_interval − 1. -/
def gapOf (f : Frame) (r : Nat) : Int :=
  if f.ftype = 1 then (leAt f.body 0 4 : Int) - rg r R.lastInterval - 1 else 0

/-- Whether the record has never had a reading. -/
def firstOf (r : Nat) : Bool := rg r R.lastInterval == 0 && (List.range 4).all (fun k => rg r (R.reg k) == 0)

/-- ftime − now in signed seconds. -/
def skewOf (f : Frame) (now : Nat) : Int := (f.ftime : Int) - now

/-- The 64 B of space N. -/
def spaceN (f : Frame) (r now : Nat) : Nat :=
  leNat ((List.range 4).flatMap (fun k => leBytes 8 (uns 64 (dReg f r k))) ++ leBytes 8 (uns 64 (gapOf f r))
    ++ leBytes 8 (uns 64 (skewOf f now)) ++ leBytes 8 (b2n (firstOf r)) ++ leBytes 8 f.ftype)

/-! ### The rule-step engine (R161, R163, R166) -/

/-- How a rule ends. -/
inductive RuleEnd where
  | act (a : Nat)
  | budget
  | fault (pc op : Nat)
deriving DecidableEq, Repr

/-- The engine's state within a rule, and what it has done in the chain: steps, notify, the counters named by cnt. -/
structure Eng where
  g : List Nat
  steps : Nat
  notify : Bool
  cnts : List Nat
deriving DecidableEq, Repr

/-- The size in bytes of an operand space; 0 where the code names none. -/
def spaceSize (s : Nat) : Nat :=
  match s with
  | 0 => 22
  | 1 => 400
  | 2 => 256
  | 3 => 32
  | 4 => 512
  | 5 => 16
  | 6 => 64
  | _ => 0

/-- Sign-extend a 14-bit immediate into 64 bits. -/
def imm64 (v : Nat) : Nat := uns 64 (sgn 14 v)

/-- The result of a two-register operation, for the ops that are one. -/
def aluOp (op x y imm : Nat) : Option Nat :=
  let m := 2 ^ 64
  match op with
  | 0x05 => some (imm64 imm)
  | 0x08 => some ((x + y) % m)
  | 0x09 => some (serSub 64 x y)
  | 0x0A => some (x &&& y)
  | 0x0B => some (x ||| y)
  | 0x0C => some (x ^^^ y)
  | 0x0D => some (x * 2 ^ (imm % 64) % m)
  | 0x0E => some (x / 2 ^ (imm % 64))
  | 0x0F => some (x * y % m)
  | 0x10 => some (min x y)
  | 0x11 => some (max x y)
  | 0x12 => some ((sgn 64 x - sgn 64 y).natAbs % m)
  | 0x14 => some ((x + imm64 imm) % m)
  | _ => none

/-- Whether a branch is taken, for the ops that branch. -/
def branchOp (op x y : Nat) : Option Bool :=
  match op with
  | 0x18 => some (x < y)
  | 0x19 => some (y ≤ x)
  | 0x1A => some (x == y)
  | 0x1B => some (x != y)
  | 0x1C => some (sgn 64 x < sgn 64 y)
  | 0x1D => some (sgn 64 y ≤ sgn 64 x)
  | _ => none

/-- Run one rule from program word start + pc; `fuel` bounds its steps, since every branch is forward. -/
def runRule (prog : Nat → Nat) (sp : Nat → Nat) (start len : Nat) : Nat → Nat → Eng → RuleEnd × Eng
  | 0, _, e => (.act 1, e)
  | fuel + 1, pc, e =>
    if len ≤ pc then (.act 1, e)
    else if 4096 ≤ e.steps then (.budget, e)
    else
      let w := prog (start + pc)
      let op := bits w 26 6
      let dst := bits w 22 4
      let x := (e.g[bits w 18 4]?).getD 0
      let y := (e.g[bits w 14 4]?).getD 0
      let imm := bits w 0 14
      let e := { e with steps := e.steps + 1 }
      let put (v : Nat) : Eng := if dst = 0 then e else { e with g := e.g.set dst v }
      let next (e : Eng) : RuleEnd × Eng := runRule prog sp start len fuel (pc + 1) e
      if op = 0 then next e
      else if 1 ≤ op && op ≤ 4 then
        let n := 2 ^ (op - 1)
        if imm + n ≤ spaceSize (bits w 14 4) then next (put (byts (sp (bits w 14 4)) imm n)) else (.fault (start + pc) op, e)
      else if op = 0x20 then
        let a := imm % 16
        if 1 ≤ a && a ≤ 5 then (.act a, e) else (.fault (start + pc) op, e)
      else if op = 0x21 then next { e with notify := true }
      else if op = 0x23 then next { e with cnts := e.cnts ++ [imm % 64] }
      else
        match aluOp op x y imm, branchOp op x y with
        | some v, _ => next (put v)
        | none, some taken =>
          if imm = 0 then (.fault (start + pc) op, e)
          else runRule prog sp start len fuel (if taken then pc + imm else pc + 1) e
        | none, none => (.fault (start + pc) op, e)

/-- What a chain returns (R165, R166): the verdict byte, the action, the rule mask, and what the engine did. -/
structure ChainEnd where
  verdict : Nat
  action : Nat
  mask : Nat
  eng : Eng
  fault : Option (Nat × Nat) := none
deriving DecidableEq, Repr

/-- The rules from r on of a set (R164, R165): `rule r` gives a rule's end, none where the rule is skipped. -/
def runChain (rule : Nat → Eng → Option (RuleEnd × Eng)) : Nat → Nat → Nat → Eng → ChainEnd
  | 0, _, mask, e => { verdict := if mask = 0 then 0xF1 else 0xF2, action := if mask = 0 then 1 else 2, mask := mask, eng := e }
  | fuel + 1, r, mask, e =>
    match rule r e with
    | none => runChain rule fuel (r + 1) mask e
    | some (.act 1, e) => runChain rule fuel (r + 1) mask e
    | some (.act 2, e) => runChain rule fuel (r + 1) (mask ||| 2 ^ r) e
    | some (.act a, e) => { verdict := 16 * r + a, action := a, mask := mask, eng := e }
    | some (.budget, e) => { verdict := 16 * r + 7, action := 7, mask := mask, eng := e }
    | some (.fault pc op, e) => { verdict := 16 * r + 8, action := 8, mask := mask, eng := e, fault := some (pc, op) }

/-- Rule r of set s of an image: start, length, type mask, enable. -/
def imgEntry (img s r : Nat) : Nat × Nat × Nat × Bool :=
  let o := 64 + 128 * s + 8 * r
  (byts img o 2, byts img (o + 2) 2, byts img (o + 4) 2, bit (byts img (o + 6) 1) 0)

/-- A rule of an image, entered at the cost of one step. -/
def imgRule (img s ftype : Nat) (sp : Nat → Nat) (r : Nat) (e : Eng) : Option (RuleEnd × Eng) :=
  let (start, len, tmask, en) := imgEntry img s r
  if len = 0 || !en || !bit tmask ftype then none
  else if 4096 ≤ e.steps then some (.budget, e)
  else
    let params := byts img (2112 + 512 * s) 512
    some (runRule (fun k => byts img (10304 + 4 * k) 4) (fun c => if c = 4 then params else sp c) start len (len + 1) 0
      { e with g := List.replicate 16 0, steps := e.steps + 1 })

/-- The standard chain's tests (R167), by rule number: the action, and the counters it raises. -/
def standardRule (f : Frame) (r now rule : Nat) : Option (Nat × List Nat) :=
  let reads := f.ftype == 1 || f.ftype == 2
  let first := firstOf r
  let iv := leAt f.body 4 2
  let skew := (skewOf f now).natAbs
  match rule with
  | 0 =>
    if f.ftype = 1 then
      some (if 0 ≤ dReg f r 0 && (25000 * iv : Int) < dReg f r 0 * 3600 then 3 else 1, []) else none
  | 1 =>
    if reads then some (if !first && (List.range 4).any (fun k => dReg f r k < 0) then 3 else 1, []) else none
  | 2 =>
    if f.ftype = 1 then
      if !first && gapOf f r < 0 then some (4, [2])
      else if (!first && 96 < gapOf f r) || (rg r R.intervalS != 0 && rg r R.intervalS != iv) then some (2, [])
      else some (1, [])
    else none
  | 3 =>
    if reads || f.ftype = 3 then
      if 3600 < skew then some (3, [])
      else if 120 < skew || (f.ftype == 1 && f.ftime + 120 < leAt f.body 0 4 * iv) then some (2, [])
      else some (1, [])
    else none
  | 4 =>
    if f.ftype = 1 then
      let bad (k : Nat) : Bool :=
        let v := leAt f.body (40 + 2 * k) 2
        v != 0xFFFF && (v < 1955 || 2530 < v)
      some (if bad 0 || bad 1 || bad 2 then 2 else 1, [])
    else none
  | _ => none

/-- A rule of the standard bank: set 0 holds the chain, the other sets none. -/
def stdRule (f : Frame) (r now s rule : Nat) (e : Eng) : Option (RuleEnd × Eng) :=
  if s = 0 then
    (standardRule f r now rule).map (fun a => (RuleEnd.act a.1, { e with cnts := e.cnts ++ a.2 }))
  else none

/-! ### Banks (R164) -/

/-- Whether a rule of an image lies in the program and its branches end within it. -/
def imgRuleOk (img nwords s r : Nat) : Bool :=
  let (start, len, _, _) := imgEntry img s r
  len == 0 || (start + len ≤ nwords && (List.range len).all (fun pc =>
    let w := byts img (10304 + 4 * (start + pc)) 4
    let op := bits w 26 6
    let imm := bits w 0 14
    !(0x18 ≤ op && op ≤ 0x1D) || (imm != 0 && pc + imm ≤ len)))

/-- The checks of a bank image. -/
def bankOk (l : List Byte) : Bool :=
  let img := leNat l
  let nwords := leAt l 4 4
  10304 ≤ l.length && leAt l 0 2 == 0x5642 && leAt l 2 2 == 1 && 1 ≤ nwords && nwords ≤ 16384
    && l.length == 10304 + 4 * nwords && leAt l 8 4 == crc32c 0xFFFFFFFF (l.drop 64)
    && (List.range 16).all (fun s => byts img (64 + 128 * s + 112) 16 == 0
          && (List.range 14).all (fun r => imgRuleOk img nwords s r))

/-- The active bank's number. -/
def Dev.bankNo (d : Dev) : Nat := d.rd F.VAL_CTRL_bank

/-- The rule set of a frame type. -/
def Dev.setOf (d : Dev) (t : Nat) : Nat :=
  let f0 := [F.VAL_SETSEL0_set0, F.VAL_SETSEL0_set1, F.VAL_SETSEL0_set2, F.VAL_SETSEL0_set3, F.VAL_SETSEL0_set4,
    F.VAL_SETSEL0_set5, F.VAL_SETSEL0_set6, F.VAL_SETSEL0_set7, F.VAL_SETSEL1_set0, F.VAL_SETSEL1_set1, F.VAL_SETSEL1_set2,
    F.VAL_SETSEL1_set3, F.VAL_SETSEL1_set4, F.VAL_SETSEL1_set5, F.VAL_SETSEL1_set6, F.VAL_SETSEL1_set7]
  ((f0[t]?).map d.rd).getD 0

/-- Space T (R161). -/
def Dev.spaceT (d : Dev) (stamp : Nat) : Nat :=
  let t := d.timeAt stamp
  leNat (leBytes 8 d.dwnNow ++ leBytes 4 (d.dwnAt stamp) ++ leBytes 4 (t % 1000000000).toNat)

/-- Run the chain of a frame on the active bank. The standard bank's step count is a free value of at most 160 (R167). -/
def Dev.chain (d : Dev) (f : Frame) (pre : List Byte) (r : Nat) : Dev × ChainEnd :=
  let e : Eng := { g := [], steps := 0, notify := false, cnts := [] }
  let s := d.setOf f.ftype
  let now := d.dwnNow
  match mgetD d.val.banks d.bankNo .standard with
  | .standard =>
    let c := runChain (stdRule f r now s) 14 0 0 e
    (d.drawn, { c with eng := { c.eng with steps := d.freeVal 8 % 161 } })
  | .image img _ =>
    let hdr := leNat f.hdr
    let body := leNat f.body
    let pn := leNat pre
    let t := d.spaceT (pfStamp pre)
    let n := spaceN f r now
    let sp (c : Nat) : Nat := if c = 0 then hdr else if c = 1 then body else if c = 2 then r else if c = 3 then pn
      else if c = 5 then t else n
    (d, runChain (imgRule img s f.ftype sp) 14 0 0 e)

/-! ### Verdicts (R165, R166, R169, R170) -/

/-- What validation decides of a frame: whether it commits and how it is posted. -/
structure Judged where
  verdict : Nat
  mask : Nat := 0
  notify : Bool := false
  commit : Bool
  hold : Bool := false
  quar : Bool := false
  lessRegs : Bool := false
  ruleFail : Bool := false
deriving DecidableEq, Repr

/-- Judge a frame that passed authentication and the replay check: the chain runs, the counters follow, and the device's own
decisions override it. -/
def Dev.judge (d : Dev) (lane : Nat) (f : Frame) (pre : List Byte) (r : Nat) : Dev × Judged :=
  if f.ftype = 8 && rg r R.passThrough = 0 then
    (d.bump (F.VAL_VERDICT_frames.at 4), { verdict := 0xE4, commit := false })
  else
    let (d, c) := d.chain f pre r
    let d := c.eng.cnts.foldl (fun d k => d.bump (F.VAL_CNT_count.at k)) d
    let d := d.sample 2 lane c.eng.steps
    let d := if c.action = 7 then (d.bump F.VAL_ERR_budget).raise 194 else d
    let d := match c.fault with
      | none => d
      | some (pc, op) => ((((d.wr F.VAL_LAST_FAULT_lane lane).wr F.VAL_LAST_FAULT_pc pc).wr F.VAL_LAST_FAULT_op op).bump
          F.VAL_ERR_fault).raise 193
    let fails := c.action != 1
    let act := if c.action = 7 then d.rd F.VAL_CTRL_budget_act else if c.action = 8 then d.rd F.VAL_CTRL_fault_act
      else c.action
    let thr := d.rd F.VAL_CTRL_quar_thr
    let base : Judged := { verdict := c.verdict, mask := c.mask, notify := c.eng.notify, commit := false, ruleFail := fails }
    let count (d : Dev) (a : Nat) : Dev := d.bump (F.VAL_VERDICT_frames.at a)
    if rg r R.state = stQuarantined then
      match d.rd F.VAL_CTRL_quar_mode with
      | 1 => (count d 2, { base with verdict := 0xE2, commit := true, lessRegs := true })
      | 2 => (count d 4, base)
      | _ => (count d 3, { base with verdict := 0xE3, hold := true })
    else if fails && thr != 0 && thr ≤ satAdd 0xFFFF (rg r R.ruleFail) 1 then
      (count d 5, { base with verdict := 0xE5, commit := true, quar := true, lessRegs := true })
    else
      let d := count d c.action
      if act = 3 then (d, { base with hold := true })
      else if act = 4 then (d, base)
      else if act = 5 then (d, { base with commit := true, quar := true, lessRegs := true })
      else (d, { base with commit := true })

/-! ### What a commit writes (R168) -/

/-- Registers a frame carries, as (register, value). -/
def frameRegs (f : Frame) : List (Nat × Nat) :=
  match f.ftype with
  | 0 => [(0, leAt f.body 8 8)]
  | 1 => (List.range 4).map (fun k => (k, leAt f.body (8 + 8 * k) 8))
  | 2 => (List.range 8).map (fun k => (k, leAt f.body (8 * k) 8))
  | 4 => [(0, leAt f.body 0 8)]
  | 5 => [(0, leAt f.body 8 8)]
  | _ => []

/-- Voltages a frame carries for phases present, as (phase, value). -/
def frameVolts (f : Frame) : List (Nat × Nat) :=
  let o := if f.ftype = 1 then 40 else 8
  if f.ftype = 1 || f.ftype = 4 then
    ((List.range 3).map (fun k => (k, leAt f.body (o + 2 * k) 2))).filter (fun v => v.2 != 0xFFFF)
  else []

/-- The default delta of a frame on a record, as first bit, width and value. -/
def frameDelta (f : Frame) (pre : List Byte) (r now dwnCap : Nat) (lessRegs : Bool) : List (Nat × Nat × Nat) :=
  let set (x : Nat × Nat) (v : Nat) : Nat × Nat × Nat := (x.1, x.2, v)
  let times := [set R.meterTime f.ftime, set R.lastSeen now]
  let regs := if lessRegs then [] else
    (frameRegs f).map (fun e => set (R.reg e.1) e.2) ++ (frameVolts f).map (fun e => set (R.volt e.1) e.2)
  let own :=
    if f.ftype = 0 then
      let offer := byteAt f.body 0 % 4
      [set R.dwnMax offer, set R.dwnVer (min offer dwnCap), set R.meterFw (leAt f.body 4 4), set R.intervalS (leAt f.body 2 2)]
    else if f.ftype = 1 then
      [set R.lastInterval (leAt f.body 0 4), set R.intervalS (leAt f.body 4 2)]
        ++ (if 0 < gapOf f r && !firstOf r then [set R.gapCount (satAdd 0xFFFF (rg r R.gapCount) (gapOf f r).toNat)] else [])
        ++ (if pfZc pre != 0x7FFFFFFF then [set R.zcOffset (pfZc pre)] else [])
    else []
  own ++ regs ++ times

/-! ### The de-duplication filter (R172) -/

/-- A commit writes its meter's entry. -/
def Dev.dedupCommit (d : Dev) (i fcnt : Nat) (pre : List Byte) : Dev :=
  let p := pathOf (pfAttach pre)
  let e : DedupEnt := { index := i, fcnt := fcnt, stamp := pfStamp pre, path := p, bestPath := p, bestQ := pfQuality pre }
  ({ d with val := { d.val with filter := mput d.val.filter (i % 65536) e } }).bump (F.VAL_PATHCMT_commits.at p)

/-- A DUPLICATE updates it, within the window. -/
def Dev.dedupDup (d : Dev) (i fcnt : Nat) (pre : List Byte) : Dev :=
  let p := pathOf (pfAttach pre)
  let q := pfQuality pre
  let win := d.rd F.VAL_DEDUP_window_ms
  let d := d.bump (F.VAL_PATHDUP_duplicates.at p)
  match mget? d.val.filter (i % 65536) with
  | none => d
  | some e =>
    let apart := ((pfStamp pre : Int) - e.stamp).natAbs
    if e.index = i && e.fcnt = fcnt && win != 0 && apart ≤ win * msNs then
      let e2 := { e with mask := e.mask ||| 2 ^ p, count := min 255 (e.count + 1), bestPath := if e.bestQ < q then p else e.bestPath,
                         bestQ := max e.bestQ q }
      { d with val := { d.val with filter := mput d.val.filter (i % 65536) e2 } }
    else d

/-! ### Commands (R164, R176, R179, R180) -/

def valBadImage : Nat := 0x8011
def valInjectRefused : Nat := 0x8013
def valMode : Nat := 0x8014
def valNotFound : Nat := 0x8015

/-- Every opcode but VAL_PATH ends with VAL_MODE in Boot or Recovery. -/
def Dev.valServed (d : Dev) (c : Desc) (k : Dev → Dev) : Dev :=
  if d.mode == .boot || d.mode == .recovery then d.fail c valMode else k d

/-- VAL_ENABLE: a write of VAL_CTRL (R176): one with enable 1 is refused whole where a journaled unit differs from the register's, and
otherwise commits the RWL fields. -/
def Dev.valEnable (d : Dev) (v : Nat) : Dev :=
  let first := bit v 31 && !d.on F.VAL_CTRL_enable
  if first && (mget? d.gav.sysval 1).any (fun m => bits m 63 1 != d.rd F.VAL_PAIR_unit) then
    (d.setF F.VAL_STATUS_unit_conflict).raise 196
  else
    let d := d.regWrite32 0x60000 v
    if first then d.commitRwl 0x60000 else d

/-- VAL_LOAD. With persist the bank goes to the settings store, and the command completes when it is there (R167). -/
def Dev.valLoad (d : Dev) (c : Desc) : Dev :=
  d.withFields c [(8, 20), (24, 25)] fun d =>
    if 1 < wArg c.w 24 1 then d.fail c stBadField
    else d.valServed c fun d =>
      if d.on F.VAL_STATUS_swapping then d.finish c { status := stBusy, result := d.bankNo }
      else if c.data.length != wLen c.w then d.fail c stHostFault
      else if !bankOk c.data then d.fail c valBadImage
      else
        let b : Bank := .image (leNat c.data) (leAt c.data 4 4)
        let d := { d with val := { d.val with banks := mput d.val.banks (1 - d.bankNo) b } }
        if wArg c.w 24 1 = 1 then d.tableSave tabRules (imgTab c.data) (some c) (leAt c.data 4 4)
        else d.okRes c (leAt c.data 4 4)

/-- VAL_SWAP: it waits until no chain runs on the old bank. -/
def Dev.valSwap (d : Dev) (c : Desc) : Dev :=
  d.withFields c [] fun d => d.valServed c fun d =>
    if d.on F.VAL_STATUS_swapping then d.finish c { status := stBusy, result := d.bankNo }
    else if (mget? d.val.banks (1 - d.bankNo)).isNone then d.fail c valBadImage
    else
      let d := (d.wr F.VAL_CTRL_bank (1 - d.bankNo)).setF F.VAL_STATUS_swapping
      { d with val := { d.val with swap := some c } }

/-- VAL_SWAP_DONE (R179). -/
def Dev.valSwapDone (d : Dev) : Dev :=
  match d.val.swap with
  | none => d
  | some c =>
    let d := ({ d with val := { d.val with swap := none } }).clrF F.VAL_STATUS_swapping
    ((d.wr F.VAL_STATUS_old_chains 0).raise 192).okRes c d.bankNo

/-- VAL_PATH. -/
def Dev.valPath (d : Dev) (c : Desc) : Dev :=
  d.withFields c [(24, 28)] fun d =>
    let i := argIndex c.w
    if msrSize ≤ i then d.fail c stBadField
    else
      match mget? d.val.filter (i % 65536) with
      | none => d.fail c valNotFound
      | some e =>
        if e.index != i then d.fail c valNotFound
        else d.okRes c (i + e.path * 2 ^ 20 + e.mask * 2 ^ 24 + e.bestPath * 2 ^ 28) (e.bestQ + e.count * 2 ^ 8 + e.fcnt * 2 ^ 32)

/-- VAL_RESEQ (R176): the register's unit is adopted, the sequence space starts anew, a new mark is journaled; it completes when
the mark is durable. Gavotte starts a new record stream (R396), SYSVAL 0x05. -/
def Dev.valReseq (d : Dev) (c : Desc) : Dev :=
  d.withFields c [] fun d => d.valServed c fun d =>
    if !d.on F.VAL_STATUS_unit_conflict then d.fail c valMode
    else
      let base := d.rd F.VAL_PAIR_unit * 2 ^ 63
      let d := (d.wr F.REEL_SEQ_NEXT_LO_seq_next (base + 1)).wr F.REEL_SEQ_RES_LO_seq_res base
      let d := ((d.wr F.REEL_STG_PUB_LO_stg_pub base).wr F.REEL_WLZ_ACK_LO_wlz_ack base).wr F.XDI_EXP_LIVE_LO_live base
      let d := (d.wr F.XDI_EXP_COMMIT_LO_commit base).wr F.GAV_FLUSHED_LO_flushed base
      let d := { d.wr F.XDI_EXP_NEXT_LO_next (base + 1) with xdi := { d.xdi with ahead := [], gap := none, gapsReported := [] } }
      let d := d.wr F.GAV_OLDEST_LO_oldest (base + 1)
      let d := d.clrF F.VAL_STATUS_unit_conflict
      { d with val := { d.val with reseq := some c }, cu := { d.cu with resReq := base + 0x100000, units := [] },
               gav := { d.gav with
                 map := d.gav.map.filter (fun e => e.1 < 262144 || 262144 * (1 + d.gav.recGib + d.gav.extGib) ≤ e.1),
                 recIssued := 0, recDone := 0,
                 jpend := d.gav.jpend ++ [.trim 262144 (262144 * (d.gav.recGib + d.gav.extGib)) d.gav.nseq,
                   .sysval 1 (base + 0x100000), .sysval 2 base, .sysval 5 (base + 1)] } }

end Sys2Proof.Machine
end

