-- ==== Sys2Proof/Machine/Reel.lean ====
section
/-! DEFINITION. Reel (chapter 05): the active set and steering, a lane's work on a frame, exception rings, the commit, recovery,
restoration storms, lane faults and retirement; and injection (R171), which shares the commit. -/

namespace Sys2Proof.Machine

/-! ### Lanes and steering (R132–R134) -/

/-- A lane's state. -/
def Dev.lane (d : Dev) (l : Nat) : Lane := mgetD d.reel.lanes l {}

/-- Store a lane's state. -/
def Dev.setLane (d : Dev) (l : Nat) (x : Lane) : Dev := { d with reel := { d.reel with lanes := mput d.reel.lanes l x } }

/-- Whether a lane is retired. -/
def Dev.laneRetired (d : Dev) (l : Nat) : Bool := bit (d.rd F.REEL_LANES_retired) l

/-- The active set (R132). A lane under test is out of it (R160). -/
def Dev.activeLanes (d : Dev) : List Nat :=
  let ok := (List.range 16).filter (fun l => !d.laneRetired l)
  let set := if !d.mode.serving then [] else if d.on F.REEL_STATUS_throttled then ok.take 8
    else if d.mode == .storm then ok else ok.take (d.rd F.REEL_CTRL_run_lanes)
  set.filter (fun l => !d.on (F.REEL_LANE_STAT_testing.at l))

/-- The steering field of a key's preferred lane. -/
def steerFld (k : Nat) : Fld :=
  let f := match k % 8 with
    | 0 => F.REEL_STEER_lane0
    | 1 => F.REEL_STEER_lane1
    | 2 => F.REEL_STEER_lane2
    | 3 => F.REEL_STEER_lane3
    | 4 => F.REEL_STEER_lane4
    | 5 => F.REEL_STEER_lane5
    | 6 => F.REEL_STEER_lane6
    | _ => F.REEL_STEER_lane7
  f.at (k / 8)

/-- The lane of a key: its preferred one, the one given at a retirement, or by position (R133, R157). -/
def Dev.laneFor (d : Dev) (k : Nat) : Option Nat :=
  let act := d.activeLanes
  let pref := d.rd (steerFld k)
  if act.contains pref then some pref
  else
    match mget? d.reel.ovr k with
    | some o => if act.contains o then some o else act[k % act.length]?
    | none => if act.isEmpty then none else act[k % act.length]?

/-- The steering key of a frame behind its prefix (R133). -/
def itemKey (item : List Byte) : Nat :=
  let f := parseFrame (item.drop 32)
  if f.euiForm then idtH1 f.eui % 64 else f.idx % 64

/-- A lane's input buffer. -/
def laneFq (l : Nat) : Nat := 0x51040 + 0x100 * l

/-- Whether a frame is in the commit unit or past it, facing a ring: a retirement leaves it in its lane (R149, R157). -/
def stageInCommit : LaneStage → Bool
  | .packet _ | .post _ => true
  | .keyWait | .replayWait _ _ => false

/-- Whether a lane has a frame of a key in flight: one in its input buffer, of a retired lane one in the commit unit. -/
def Dev.laneHolds (d : Dev) (l k : Nat) : Bool :=
  if d.laneRetired l then (d.lane l).work.any (fun w => stageInCommit w.stage && itemKey w.item == k)
  else (d.fifo (laneFq l)).items.any (fun i => itemKey i == k)

/-- Show the active set. -/
def Dev.showActive (d : Dev) : Dev :=
  let act := d.activeLanes
  let d := (d.wr F.REEL_LANES_active (act.foldl (fun a l => a + 2 ^ l) 0)).wr F.REEL_STATUS_active_count act.length
  foldN 16 (fun l d => d.flag (F.REEL_LANE_STAT_active.at l) (act.contains l)) d

/-- After a change of steering: the active set shows, and a key whose lane changed is held until its old lane has none of its
frames (R134); one that is back at that lane is held no more. `before` are the lanes of the keys before. -/
def Dev.resteer (d : Dev) (before : List (Option Nat)) : Dev :=
  let d := d.showActive
  foldN 64 (fun k d =>
    let back := (mget? d.reel.moving k).any (fun old => d.laneFor k == some old)
    let d := if back then { d with reel := { d.reel with moving := mdel d.reel.moving k } } else d
    match (before[k]?).getD none with
    | none => d
    | some old =>
      if d.laneFor k != some old && d.laneHolds old k && (mget? d.reel.moving k).isNone
      then { d with reel := { d.reel with moving := mput d.reel.moving k old } } else d) d

/-- The lanes of all keys. -/
def Dev.laneMap (d : Dev) : List (Option Nat) := (List.range 64).map d.laneFor

/-- The lane a crossing's frame goes to now: none while its key is held (R134). -/
def Dev.steerItem (d : Dev) (item : List Byte) : Option Nat :=
  let k := itemKey item
  if (mget? d.reel.moving k).isSome then none else d.laneFor k

/-! ### The exception path (R151, R152) -/

/-- The eight-bit class discards (R151): by REEL_EXC_ACTION, or 0x01 and 0x0B in a quiet Storm. -/
def Dev.excDiscards (d : Dev) (cls : Nat) : Bool :=
  bit (d.rd F.REEL_EXC_ACTION_discard) cls
    || (d.mode == .storm && d.on F.REEL_CTRL_storm_quiet && (cls == 1 || cls == 0xB))

/-- The 640 B of an exception entry. -/
def excEntry (seq cls lane verdict eflags index eui gen detail : Nat) (item : List Byte) : List Byte :=
  padTo 640 (leBytes 8 seq ++ leBytes 1 cls ++ leBytes 1 lane ++ leBytes 1 verdict ++ leBytes 1 eflags ++ leBytes 4 index
    ++ leBytes 8 eui ++ leBytes 4 gen ++ leBytes 4 detail ++ zeros 32 ++ item)

/-- The index word of an entry. -/
def excIndex (i : Option Nat) : Nat := (i.map (fun k => k + 2 ^ 31)).getD 0

/-- Post an entry to a lane's ring; none where the ring is full or disabled. -/
def Dev.postExc (d : Dev) (l : Nat) (e : List Byte) : Option Dev :=
  let q := d.rd (F.REEL_LANE_CTRL_exq.at l)
  let n := 64 * 2 ^ (d.rd (F.REEL_EXQ_CFG_size.at q))
  let t := d.rd (F.REEL_EXQ_TAIL_tail.at q)
  if !d.on (F.REEL_EXQ_CFG_enable.at q) || (t + 1) % n = d.rd (F.REEL_EXQ_HEAD_head.at q) % n then none
  else
    let base := d.rd (F.REEL_EXQ_BASE_HI_base_hi.at q) * 2 ^ 32 + d.rd (F.REEL_EXQ_BASE_LO_base_lo.at q) * 4096
    let d := (d.memWrB (base + 640 * t) e).wr (F.REEL_EXQ_TAIL_tail.at q) ((t + 1) % n)
    some ((d.bump (F.REEL_LANE_EXC_posted.at l)).raise (128 + 4 * l))

/-- Take a frame out of a lane and its input buffer. -/
def Dev.laneRelease (d : Dev) (l : Nat) (item : List Byte) : Dev :=
  let x := d.lane l
  let d := d.setLane l { x with work := x.work.eraseP (fun w => w.item == item) }
  let q := d.fifo (laneFq l)
  d.fifoStore (laneFq l) { q with items := q.items.erase item }

/-- Put a frame's stage, adding it to the lane's work where new. -/
def Dev.laneStage (d : Dev) (l : Nat) (w : Work) : Dev :=
  let x := d.lane l
  let ws := if x.work.any (fun v => v.item == w.item) then x.work.map (fun v => if v.item == w.item then w else v)
    else x.work ++ [w]
  d.setLane l { x with work := ws }

/-- Post a frame's entries one after the other; a full ring leaves it waiting (R152), otherwise it leaves the lane. -/
def Dev.lanePosts (d : Dev) (l : Nat) (w : Work) : List (List Byte) → Dev
  | [] => d.laneRelease l w.item
  | e :: t =>
    match d.postExc l e with
    | some d => Dev.lanePosts d l w t
    | none => d.laneStage l { w with stage := .post (e :: t) }

/-- Refuse a frame with a class: discarded and counted, or posted. -/
def Dev.laneRefuse (d : Dev) (l : Nat) (w : Work) (cls : Nat) (entry : List Byte) : Dev :=
  if d.excDiscards cls then (d.bump (F.REEL_LANE_REFUSED_refused.at l)).laneRelease l w.item else d.lanePosts l w [entry]

/-- The entry of a refused frame: bare, or in plain once authenticated. -/
def refuseEntry (l cls verdict eflags detail : Nat) (idx : Option Nat) (r : Option Nat) (f : Frame) (item : List Byte) :
    List Byte :=
  excEntry 0 cls l verdict eflags (excIndex idx) ((r.map (fun x => rg x R.eui)).getD f.eui)
    ((r.map (fun x => rg x R.recGen)).getD 0) detail item

/-! ### Replay and generations (R139, R140) -/

/-- The outcome of the replay test. -/
inductive Replay where
  | accept (late : Bool) (f b : Nat)
  | dup
  | stale
deriving DecidableEq, Repr

/-- The replay test of counter c against F and B (R139). -/
def replayTest (f b c : Nat) : Replay :=
  if f < c then .accept false c (if c - f < 64 then (b * 2 ^ (c - f) + 1) % 2 ^ 64 else 1)
  else if f - c ≤ 63 then if bit b (f - c) then .dup else .accept true f (b + 2 ^ (f - c))
  else .stale

/-- The generation test (R140): 0 same, 1 advance, 2 ahead, 3 old. -/
def Dev.genTest (d : Dev) (g rg' : Nat) : Nat :=
  let x := serSub 16 g rg'
  let ahead := min (d.rd F.REEL_KEY_gen_ahead) 0x7FFF
  if x = 0 then 0 else if x ≤ ahead then 1 else if x ≤ 0x7FFF then 2 else 3

/-! ### A lane's work on a frame (R128, R135–R140, R151) -/

/-- Open a frame with its key (R127). -/
def openFrame (f : Frame) (fc : Nat) (key : List Byte) (eui : Nat) : Option (List Byte) :=
  let base := leBytes 8 eui ++ leBytes 4 f.fcnt
  if f.suite = 2 then gcmOpen key base f.hdr (f.body ++ f.tag) 16
  else ccmOpen key (base ++ leBytes 1 fc) f.hdr (f.body ++ f.tag) (tagLen f.suite)

/-- Pass Bolero an acknowledgement request (R229). -/
def Dev.passAck (d : Dev) (f : Frame) (pre : List Byte) (i eui : Nat) : Dev :=
  if f.ftype = 0 || f.ackReq then
    { d with bol := { d.bol with passed := d.bol.passed ++
      [{ index := i, eui := eui, attach := pfAttach pre, stamp := pfStamp pre, ftype := f.ftype }] } }
  else d

/-- The replay check and all after it, for an authenticated frame in plain (R112, R139, R140, R165). No rule chain starts while
running is clear: the frame waits before it (R158). -/
def Dev.laneJudge (d : Dev) (l : Nat) (item plain : List Byte) (i handle : Nat) : Dev :=
  let pre := item.take 32
  let whole := plain.drop 32
  let f := parseFrame whole
  let r := d.msrPeek i
  let w : Work := { item := item, index := some i, stage := .keyWait }
  let refuse (d : Dev) (cls verdict eflags detail : Nat) : Dev :=
    d.laneRefuse l w cls (refuseEntry l cls verdict eflags detail (some i) (some r) f plain)
  let g := d.genTest f.keyGen (rg r R.keyGen)
  let both := f.keyGen + rg r R.keyGen * 65536
  if g = 2 then refuse (d.counterOnly i false) 7 0 1 both
  else if g = 3 then refuse ((d.counterOnly i false).bump (F.REEL_LANE_OLD_old.at l)) 8 0 1 both
  else
    match replayTest (if g = 0 then rg r R.frameCounter else 0) (if g = 0 then rg r R.replay else 0) f.fcnt with
    | .dup =>
      let d := (d.bump (F.REEL_LANE_DUP_duplicate.at l)).dedupDup i f.fcnt pre
      (d.counterOnly i false).laneRelease l item
    | .stale => ((d.bump (F.REEL_LANE_OLD_old.at l)).counterOnly i false).laneRelease l item
    | .accept _ _ _ =>
      if f.ftype != 0 && f.ver != rg r R.dwnVer then refuse (d.counterOnly i false) 6 0 1 (f.ver + rg r R.dwnVer * 256)
      else if !d.on F.REEL_STATUS_running then d.laneStage l { w with stage := .replayWait plain handle }
      else
        let (d, j) := d.judge l f pre r
        if j.commit then
          let p : Packet :=
            { lane := l, index := i, rd := r, pre := pre, frame := whole, advance := g == 1, handle := handle,
              verdict := j.verdict, mask := j.mask, notify := j.notify, quar := j.quar, lessRegs := j.lessRegs,
              ruleFail := j.ruleFail }
          d.laneStage l { w with stage := .packet p }
        else
          let d := d.counterOnly i j.ruleFail
          if j.hold then refuse d 4 j.verdict (1 + 4 * b2n j.notify) 0 else d.laneRelease l item

/-- From the record on: the state, the generation, the key, authentication (R102, R109, R137–R140, R151). -/
def Dev.laneKeyed (d : Dev) (l : Nat) (item : List Byte) (i r : Nat) : Dev :=
  let pre := item.take 32
  let raw := item.drop 32
  let f := parseFrame raw
  let w : Work := { item := item, index := some i, stage := .keyWait }
  let refuse (d : Dev) (cls detail : Nat) : Dev :=
    d.laneRefuse l w cls (refuseEntry l cls 0 0 detail (some i) (some r) f item)
  let st := rg r R.state
  let both := f.keyGen + rg r R.keyGen * 65536
  if st = stFree then refuse d 2 0
  else if st = stRetired then (d.bump (F.REEL_LANE_REFUSED_refused.at l)).laneRelease l item
  else if st = stUnknown then refuse d (if f.ftype = 0 then 1 else 0xC) 0
  else if st = stCommissioning && f.ftype != 0 then refuse d 0xC 0
  else
    let g := d.genTest f.keyGen (rg r R.keyGen)
    if g = 2 then refuse d 7 both
    else if g = 3 then refuse (d.bump (F.REEL_LANE_OLD_old.at l)) 8 both
    else
      match d.keyServe (rg r R.districtHandle) (rg r R.eui) 1 f.keyGen (g == 1) with
      | (d, .wait) => d.laneStage l w
      | (d, .fail) => ((d.tryChange i stQuarantined 0xA).bump (F.REEL_LANE_REFUSED_refused.at l)).laneRelease l item
      | (d, .key key handle) =>
        match openFrame f (byteAt raw 0) key (rg r R.eui) with
        | none =>
          let d := (d.bump (F.REEL_LANE_AUTH_auth_fail.at l)).authFailed i (pfAttach pre)
          refuse d 3 0
        | some pt =>
          let plain := pre ++ f.hdr ++ pt ++ f.tag
          let d := d.passAck f pre i (rg r R.eui)
          if (d.lane l).work.any (fun v => v.index == some i && v.item != item)
          then d.laneStage l { w with stage := .replayWait plain handle }
          else d.laneJudge l item plain i handle

/-- A join from an EUI-64 the table does not hold (R100, R109, R116): it makes an Unknown record where note_unknown, unk_limit,
the free list and the identity table let it; a corrupt record at the head of the list stays as it is (R104). Answers the device, the
class and the index. -/
def Dev.joinUnknown (d : Dev) (eui : Nat) : Dev × Nat × Option Nat :=
  let none' (d : Dev) (cls : Nat) : Dev × Nat × Option Nat := (d.bump F.MSR_ERR_unk_drop, cls, none)
  if !d.on F.MSR_CTRL_note_unknown || d.rd F.MSR_LIMITS_unk_limit ≤ d.rd (F.MSR_POP_count.at 0) then none' d 1
  else
    match d.msr.freeHead with
    | none => none' (d.raise 214) 0xB
    | some i =>
      match d.msrGet i with
      | (d, none) => (d.bump F.MSR_ERR_unk_drop, 0xA, some i)
      | (d, some old) =>
      let (e, ok) := d.idtInsert eui i
      if !ok then none' e 1
      else
        let r := rsAll (blankRec i stUnknown) [(0, 64, eui), (87, 1, rg old R.pinned), (1536, 384, rg old R.fwScratch)]
        let e := { e with msr := e.msr.freeTake i }
        (e.stateChange i r stUnknown 0 stFree, 1, some i)

/-- Take a frame through the lane's stages. An entry about a corrupt record, or about an Unknown record made for this frame,
holds no generation: the lane has read none (R152). -/
def Dev.laneRun (d : Dev) (l : Nat) (item : List Byte) : Dev :=
  let raw := item.drop 32
  let f := parseFrame raw
  let w : Work := { item := item, index := none, stage := .keyWait }
  let refuse (d : Dev) (cls : Nat) (i : Option Nat) (r : Option Nat) : Dev :=
    d.laneRefuse l w cls (refuseEntry l cls 0 0 0 i r f item)
  let onIndex (d : Dev) (i : Nat) : Dev :=
    match d.msrGet i with
    | (d, none) => refuse d 0xA (some i) none
    | (d, some r) => d.laneKeyed l item i r
  if !frameOk raw then refuse d 0xD none none
  else if f.euiForm then
    match d.idtFind f.eui with
    | some i => onIndex d i
    | none =>
      if f.ftype != 0 then refuse d 1 none none
      else if d.mode == .shadow then refuse (d.bump F.MSR_ERR_unk_drop) 1 none none
      else
        match d.stgBlock 1 0 with
        | some m => d.stgStall m
        | none =>
          let (d, cls, i) := d.joinUnknown f.eui
          refuse d cls i none
  else onIndex d f.idx

/-- Whether a lane takes work now: Reel runs or only waits at its rule chains, the lane is neither retired nor under test (one that
left the active set finishes its frames before it parks), no hold of R483 stands, and none of its frames faces a full ring (R132,
R134, R149, R152, R158). -/
def Dev.laneReady (d : Dev) (l : Nat) : Bool :=
  d.reel.started && d.mode.serving && !d.laneRetired l && !d.on (F.REEL_LANE_STAT_testing.at l) && !d.hold
    && !(d.lane l).work.any (fun w => match w.stage with
      | .post _ => true
      | .keyWait => false
      | .replayWait _ _ => false
      | .packet _ => false)

/-- LANE_FRAME: a frame that waits for the key store goes on first; otherwise the oldest frame not yet in work is taken, while
fewer than four are. -/
def Dev.laneFrame (d : Dev) (l : Nat) : Dev :=
  if !d.laneReady l then d
  else
    let x := d.lane l
    match x.work.find? (fun w => w.stage == .keyWait) with
    | some w => d.laneRun l w.item
    | none =>
      match (d.fifo (laneFq l)).items.find? (fun i => !x.work.any (fun w => w.item == i)) with
      | none => d
      | some item => if x.work.length < 4 then d.laneRun l item else d

/-- LANE_REPLAY_WAIT_END (R135): the frame's index has no earlier frame in the lane any more; a frame that waited at its rule chain
goes on the same way (R158). -/
def Dev.laneReplayWaitEnd (d : Dev) (l : Nat) : Dev :=
  let free (ws : List Work) (w : Work) : Bool := !(ws.takeWhile (fun v => v.item != w.item)).any (fun v => v.index == w.index)
  let x := d.lane l
  match x.work.find? (fun w => (match w.stage with
      | .replayWait _ _ => true
      | .keyWait => false
      | .packet _ => false
      | .post _ => false) && free x.work w) with
  | none => d
  | some w =>
    match w.stage, w.index with
    | .replayWait plain h, some i => if d.reel.started then d.laneJudge l w.item plain i h else d
    | _, _ => d

/-- Whether a lane waits on a ring. -/
def Dev.exqAwaited (d : Dev) (e : Nat) : Bool :=
  (List.range 16).any (fun l => d.rd (F.REEL_LANE_CTRL_exq.at l) == e && (d.lane l).work.any (fun w => match w.stage with
    | .post _ => true
    | .keyWait | .replayWait _ _ | .packet _ => false))

/-- Lanes that wait on a ring post in lane order, as far as their rings have room; then a disabling that waited takes effect
(R152, R160). -/
def Dev.exqRetry (d : Dev) : Dev :=
  let d := (List.range 16).foldl (fun (d : Dev) l =>
    (d.lane l).work.foldl (fun (d : Dev) w =>
      match w.stage with
      | .post es => d.lanePosts l w es
      | .keyWait => d
      | .replayWait _ _ => d
      | .packet _ => d) d) d
  let off := d.reel.exqOff.filter (fun e => !d.exqAwaited e)
  off.foldl (fun (d : Dev) e => d.clrF (F.REEL_EXQ_CFG_enable.at e))
    { d with reel := { d.reel with exqOff := d.reel.exqOff.filter (fun e => d.exqAwaited e) } }

/-- REEL_EXQ_HEAD_WRITE. -/
def Dev.reelExqHeadWrite (d : Dev) (e v : Nat) : Dev := (d.wr (F.REEL_EXQ_HEAD_head.at e) (bits v 0 14)).exqRetry

/-- A write of REEL_EXQe_CFG: while a lane waits on the ring, disabling it takes effect after that lane's entry (R160). A ring that is
disabled when the lane comes to it takes its enabling at once, since no entry can come before. -/
def Dev.exqCfgWrite (d : Dev) (e v : Nat) : Dev :=
  let was := d.on (F.REEL_EXQ_CFG_enable.at e)
  let hold := was && !bit v 31 && d.exqAwaited e
  let offs := d.reel.exqOff.filter (fun x => x != e) ++ (if hold then [e] else [])
  let d := ({ d with reel := { d.reel with exqOff := offs } }).regWrite32 (0x50108 + 0x20 * e) v
  (if hold then d.setF (F.REEL_EXQ_CFG_enable.at e) else d).exqRetry

/-! ### The commit (R144, R145, R168, R393, R394) -/

/-- How a packet ends at the commit unit: it must wait, it is refused with a class, or it committed at a sequence. -/
inductive Commit where
  | wait
  | refused (cls : Nat) (why : Nat)
  | done (s : Nat)
deriving DecidableEq, Repr

/-- Extension units of a payload (R394). -/
def extNeed (plen : Nat) : Nat := if 48 < plen then min 6 ((plen - 40 + 63) / 64) else 0

/-- d_reg as the archive holds it (R174): 0xFFFF_FFFF when above or negative. -/
def encD (x : Int) : Nat := if x < 0 || 0xFFFFFFFF < x then 0xFFFFFFFF else x.toNat

/-- The archive record of a packet, its payload bytes aside; the node is that of the record `r` at commit (R174). -/
def Dev.packetArch (d : Dev) (p : Packet) (r s : Nat) (late : Bool) : Arch :=
  let f := parseFrame p.frame
  let att := pfAttach p.pre
  let t := d.timeAt (pfStamp p.pre)
  let rflags := if f.ftype = 1 then leAt f.body 6 2 % 16 else 0
  let flagged := p.mask != 0 || p.verdict == 0xD2
  let quar := p.quar || p.verdict == 0xE2
  let d0 := dReg f p.rd 0
  let d1 := dReg f p.rd 1
  { pseq := s, eui := rg p.rd R.eui, index := p.index, rkind := f.ftype, verdict := p.verdict, keyGen := f.keyGen,
    xflags := rflags + 16 * b2n flagged + 32 * b2n quar + 64 * b2n late + 128 * b2n p.advance + 256 * pathOf att
      + 1024 * b2n (pfConc p.pre),
    fcnt := f.fcnt, ftime := f.ftime, rxS := d.dwnAt (pfStamp p.pre), rxNs := (t % 1000000000).toNat, ruleMask := p.mask,
    node := rg r R.node, plen := f.plen, quality := pfQuality p.pre,
    aflags := b2n (extNeed f.plen != 0) + 2 * b2n (firstOf p.rd) + 4 * b2n (decide (d0 < 0)) + 8 * b2n (decide (d1 < 0))
      + 16 * b2n (pfConc p.pre),
    d0 := if f.ftype = 1 then encD d0 else 0, d1 := if f.ftype = 1 then encD d1 else 0, zc := pfZc p.pre, attach := att,
    concS := if pfConc p.pre then leAt p.pre 24 4 else 0, concNs := if pfConc p.pre then leAt p.pre 28 4 else 0,
    payload := f.body }

/-- Write payload bytes 40 onward into extension units; answers the locator's bytes (R394). -/
def Dev.extWrite (d : Dev) (s : Nat) (body : List Byte) (n : Nat) : Dev × List Byte :=
  let u0 := d.cu.unitNext
  let rest := padTo (64 * n) (body.drop 40)
  let d := foldN n (fun k d => d.memWrB (d.extBase + (u0 + k) % d.extUnits * 64) ((rest.drop (64 * k)).take 64)) d
  ({ d with cu := { d.cu with unitNext := u0 + n, units := d.cu.units ++ [(s, u0, n)] } },
   leBytes 8 (u0 % 2 ^ 40 + (n - 1) * 2 ^ 40))

/-- Whether the state lets a packet commit (R109, R116, R149, R169, R171): a quar_mode 1 commit needs the meter Quarantined still, an
injection of a frame held for that admits it, and a join in Commissioning must be at the admitted generation (`same`). -/
def commitState (p : Packet) (ftype st : Nat) (same : Bool) : Bool :=
  if p.verdict = 0xE2 then st == stQuarantined
  else st == stActive || st == stAdrift || (st == stCommissioning && ftype == 0 && same) || (st == stQuarantined && p.heldQuar)

/-- The Waltz FIFO of a packet's feed: RESTORED and LAST_GASP go to the restoration FIFO, every other one and every marker
to the interval FIFO (R191); none while Waltz stands. -/
def Dev.feedFifo (d : Dev) (p : Packet) : Option Nat :=
  let t := (parseFrame p.frame).ftype
  if !d.on F.WLZ_STATUS_running then none
  else if (t = 4 || t = 5) && !p.lessRegs then some 0x700B0 else some 0x700A0

/-- What the commit unit puts into the FIFO (R144, R191): the slot, the frame's stamp, the meter's phase in the record `r` at commit, d_reg0 and d_reg1 for a
type Waltz uses, and a marker with the sequence alone otherwise. -/
def Dev.feedItem (d : Dev) (p : Packet) (r s : Nat) : List Byte :=
  let t := (parseFrame p.frame).ftype
  if (t = 1 || t = 4 || t = 5) && !p.lessRegs then
    let f := parseFrame p.frame
    leBytes 128 (d.memRd (d.stgAddr s) 128) ++ leBytes 8 (pfStamp p.pre) ++ leBytes 1 (rg r R.phase)
      ++ leBytes 8 (uns 64 (dReg f p.rd 0)) ++ leBytes 8 (uns 64 (dReg f p.rd 1))
  else leBytes 8 s

/-- Set or clear storm_req (R153, R154); the PMU mirrors it and pends source 97 (R496, R498). -/
def Dev.stormReqShow (d : Dev) (b : Bool) : Dev :=
  ((d.flag F.REEL_STATUS_storm_req b).flag F.PMU_STATUS_storm_req b).raise 97

/-- The restoration detector counts a RESTORED commit (R153). -/
def Dev.countRestored (d : Dev) : Dev :=
  let ms := d.tick / msNs
  let live := d.reel.restored.filter (fun b => ms < b.1 + 1000)
  let bs := match live.reverse with
    | [] => [(ms, 1)]
    | b :: t => if b.1 = ms then (t.reverse ++ [(ms, b.2 + 1)]) else live ++ [(ms, 1)]
  let n := (bs.map (·.2)).sum
  let off := d.rd F.REEL_STORM_storm_off
  let fell := (bs.foldl (fun (a : Nat × Nat) b => if a.1 < off then a else (a.1 - b.2, (b.1 + 1000) * msNs)) (n, d.reel.fell)).2
  let d := { d with reel := { d.reel with restored := bs, fell := if off ≤ n then fell else d.reel.fell } }
  let d := d.wr F.REEL_RESTORE_CNT_count n
  let on := d.rd F.REEL_STORM_storm_on
  if d.on F.REEL_CTRL_storm_auto && on != 0 && on ≤ n && !d.on F.REEL_STATUS_storm_req then
    { d.stormReqShow true with reel := { d.reel with fell := max d.reel.fell d.tick } }
  else d

/-- A refusal at the commit unit (R144 step 2): no sequence, counted. -/
def Dev.commitRefuse (d : Dev) (p : Packet) (cls why : Nat) : Dev × Commit :=
  let d := d.bump F.REEL_COMMIT_STAT_refused
  (if p.inject then d else d.counterOnly p.index p.ruleFail, .refused cls why)

/-- The commit delta of R439: the frame fields of a record, for the standby. -/
def Dev.commitDelta (d : Dev) (i s : Nat) : Dev :=
  let r := d.msrPeek i
  d.eplMirror 9 (deltaHead i 0 s ++ leBytes 2 (rg r R.keyGen) ++ leBytes 1 (rg r R.rekeyDue)
    ++ leBytes 1 (rg r R.dwnVer + 4 * rg r R.dwnMax) ++ leBytes 4 (rg r R.frameCounter) ++ leBytes 4 (rg r R.meterTime)
    ++ leBytes 4 (rg r R.lastSeen) ++ leBytes 64 (rg r (640, 512)) ++ leBytes 4 (rg r R.lastInterval)
    ++ leBytes 2 (rg r R.intervalS) ++ leBytes 2 (rg r R.gapCount) ++ leBytes 6 (rg r (1216, 48)) ++ zeros 2
    ++ leBytes 4 (rg r R.zcOffset) ++ leBytes 4 (rg r R.meterFw))

/-- A digest entry of R435 from the parts of a frame record: identity, then CRC-32C with either initial value. -/
def digestEntry (eui keyGen rkind fcnt ftime plen : Nat) (body : List Byte) : List Byte :=
  let b := leBytes 8 eui ++ leBytes 1 rkind ++ leBytes 2 keyGen ++ leBytes 4 fcnt ++ leBytes 4 ftime ++ leBytes 2 plen ++ body
  leBytes 8 eui ++ leBytes 2 keyGen ++ leBytes 1 rkind ++ zeros 1 ++ leBytes 4 fcnt ++ leBytes 4 (crc32c 0xFFFFFFFF b)
    ++ leBytes 4 (crc32c 0x5A5A5A5A b)

/-- A committed frame record joins the batch and the compare table of a formed pair (R435, R436). -/
def Dev.digestAdd (d : Dev) (eui : Nat) (f : Frame) : Dev :=
  if d.on F.EPL_STATUS_paired then
    let e := digestEntry eui f.keyGen f.ftype f.fcnt f.ftime f.plen f.body
    { d with epl := { d.epl with batch := d.epl.batch ++ [e], cmp := d.epl.cmp ++ [(d.tick, e)] } }
  else d

/-- The counter of the event whose anchor precedes a stamp, for a frame of a Schedule-mode connection (R327). -/
def Dev.eventCounterAt (d : Dev) (attach stamp r : Nat) : Nat :=
  let n := atChan attach
  let i := rg r R.connInterval * 1000000
  let p := (atConn attach * zeroAs (d.rd (F.MZK_SCHED_stride_us.at n)) 1 * 1000 + rg r R.anchorOfs * 100000) % i
  let t := d.timeAt stamp - (dwnEpoch + d.rd (F.MZK_EPOCH_epoch_s.at n)) * 1000000000 - p
  uns 16 (t / i)

/-- Commit a packet that passed the rechecks: steps 3 to 6 of R144. `late`, F and B come from the replay test. -/
def Dev.commitNow (d : Dev) (p : Packet) (r : Nat) (late : Bool) (fc b : Nat) : Dev × Commit :=
  let f := parseFrame p.frame
  let st := rg r R.state
  let n := extNeed f.plen
  let (d, s) := d.stgTake
  let a := d.packetArch p r s late
  let (d, loc) := if n = 0 then (d, []) else d.extWrite s f.body n
  let delta := frameDelta f p.pre p.rd d.dwnNow (d.rd F.MSR_CTRL_dwn_cap) p.lessRegs
  let ver := (delta.find? (fun e => e.1 == R.dwnVer.1)).map (·.2.2)
  let payload := if n != 0 then f.body.take 40 ++ loc else f.body ++ leBytes 1 (if f.ftype = 0 then ver.getD 0 else 0)
  let d := d.stgWrite { a with payload := payload }
  let d := match d.feedFifo p with
    | none => d
    | some q => d.fifoPush q 4096 (d.feedItem p r s)
  let due := (rg r R.rekeyDue == 1 && !p.advance) || 0xFFFFFF00 ≤ f.fcnt
  let r1 := rsAll r (delta ++ [(448, 32, fc), (512, 64, b), (416, 16, f.keyGen), (432, 1, b2n due), (480, 16, 0), (1920, 64, s)])
  let r1 := if p.advance then rs r1 R.districtHandle p.handle else r1
  let r1 := if p.ruleFail then rs r1 R.ruleFail (satAdd 0xFFFF (rg r R.ruleFail) 1) else r1
  let r1 := if atKind (pfAttach p.pre) = 3 then
      rs r1 R.eventCounter (d.eventCounterAt (pfAttach p.pre) (pfStamp p.pre) r) else r1
  let d := { d with msr := { d.msr with lostHeld := d.msr.lostHeld.filter (fun x => x != p.index) } }
  let d :=
    if st = stCommissioning || (st = stAdrift && !p.quar) then
      (d.stgPublish s).stateChange p.index r1 stActive (if st = stAdrift then 0xB else 2) st 0 0xE7
    else (d.msrPut p.index r1 0xE7).stgPublish s
  let d := (d.commitDelta p.index s).digestAdd (rg r R.eui) f
  let d := if p.quar then
      let x := d.msrPeek p.index
      d.stateChange p.index x stQuarantined 7 (rg x R.state)
    else d
  let d := if f.ftype = 6 || f.ftype = 7 then
      { d with bol := { d.bol with notices := d.bol.notices ++
        [{ ftype := f.ftype, index := p.index, eui := rg r R.eui, gen := f.keyGen, body := f.body }] } } else d
  let d := if f.ftype = 5 then d.countRestored else d
  let d := d.dedupCommit p.index f.fcnt p.pre
  (d.sample 1 p.lane (d.tick - pfStamp p.pre), .done s)

/-- The commit unit's passage of one packet (R144). -/
def Dev.commitTry (d : Dev) (p : Packet) : Dev × Commit :=
  let f := parseFrame p.frame
  match d.msrGet p.index with
  | (d, none) => d.commitRefuse { p with ruleFail := false, inject := true } 0xA 0x14
  | (d, some r) =>
    let st := rg r R.state
    if d.queuedOn p.index then (d, .wait)
    else if !commitState p f.ftype st (f.keyGen == rg r R.keyGen) then d.commitRefuse p 0xE 0x14
    else if !d.chainOk p.handle then (d.tryChange p.index stQuarantined 0xA).commitRefuse p 0xE 0x13
    else
      let g := d.genTest f.keyGen (rg r R.keyGen)
      if 2 ≤ g then d.commitRefuse p (if g = 2 then 7 else 8) 0x12
      else
        let p := { p with advance := g == 1 }
        match replayTest (if g = 0 then rg r R.frameCounter else 0) (if g = 0 then rg r R.replay else 0) f.fcnt with
        | .dup => (d.dedupDup p.index f.fcnt p.pre).commitRefuse p 0xE 0x11
        | .stale => d.commitRefuse p 0xE 0x10
        | .accept late fc b =>
          let changes := b2n (st == stCommissioning || (st == stAdrift && !p.quar)) + b2n p.quar
          let full := (d.feedFifo p).any (fun q => 4096 ≤ (d.fifo q).items.length)
          match d.stgBlock (1 + changes) (extNeed f.plen) with
          | some m => (d.stgStall m, .wait)
          | none =>
            if changes != 0 && d.mode == .shadow then d.commitRefuse p 0xE 0x14
            else if full then (d, .wait) else d.commitNow p r late fc b

/-- The entries a commit posts (R141, R165, R170): APDU, or RULE on notify; REKEY_DUE when rekey_due rose. -/
def Dev.commitEntries (d : Dev) (p : Packet) (s : Nat) (due : Bool) : List (List Byte) × Nat :=
  let f := parseFrame p.frame
  let fl := 3 + 4 * b2n p.notify
  let mk (cls eflags : Nat) : List Byte := excEntry s cls p.lane p.verdict eflags (excIndex (some p.index)) (rg p.rd R.eui)
    (rg p.rd R.recGen) 0 (p.pre ++ p.frame)
  let cls := (if due then [(9, fl)] else []) ++ (if f.ftype = 8 then [(5, fl)] else if p.notify then [(4, fl)] else [])
  ((cls.filter (fun c => !d.excDiscards c.1)).map (fun c => mk c.1 c.2), (cls.filter (fun c => d.excDiscards c.1)).length)

/-- COMMIT_PACKET: the lane's oldest packet passes the commit unit. -/
def Dev.commitPacket (d : Dev) (l : Nat) : Dev :=
  let pk (w : Work) : Option Packet := match w.stage with
    | .packet p => some p
    | .keyWait => none
    | .replayWait _ _ => none
    | .post _ => none
  match (d.lane l).work.find? (fun w => (pk w).isSome) with
  | none => d
  | some w =>
    match pk w with
    | none => d
    | some p =>
      let was := rg (d.msrPeek p.index) R.rekeyDue
      match d.commitTry p with
      | (d, .wait) => d
      | (d, .refused cls why) =>
        let f := parseFrame p.frame
        let d := if why = 0x11 then d.bump (F.REEL_LANE_DUP_duplicate.at l)
          else if why = 0x10 || cls = 8 then d.bump (F.REEL_LANE_OLD_old.at l) else d
        let g := rg (d.msrPeek p.index) R.keyGen
        let detail := if cls = 7 || cls = 8 then f.keyGen + g * 65536 else 0
        d.laneRefuse l w cls (refuseEntry l cls p.verdict (1 + 4 * b2n p.notify) detail (some p.index) (some p.rd) f
          (p.pre ++ p.frame))
      | (d, .done s) =>
        let due := was == 0 && rg (d.msrPeek p.index) R.rekeyDue == 1
        let (es, n) := d.commitEntries p s due
        let d := (d.bump (F.REEL_LANE_OK_committed.at l)).bump (F.REEL_LANE_REFUSED_refused.at l) n
        d.lanePosts l w es

/-! ### Injection (R171, R179) -/

/-- Whether an exception entry qualifies. -/
def injectOk (e : List Byte) : Bool :=
  let v := byteAt e 10
  byteAt e 8 == 4 && bit (byteAt e 11) 0 && !bit (byteAt e 11) 1
    && (v == 0xE3 || (v / 16 < 14 && (v % 16 == 3 || v % 16 == 7 || v % 16 == 8))) && bit (leAt e 12 4) 31

/-- An injection waits for the key store, the commit unit or a full feed. -/
def Dev.injectWait (d : Dev) (c : Desc) : Dev := { d with val := { d.val with inject := d.val.inject ++ [c] } }

/-- VAL_INJECT. A REKEY_DUE entry of its commit waits in the lane of the held frame where that lane's ring is full (R141, R152). -/
def Dev.valInject (d : Dev) (c : Desc) : Dev :=
  d.withFields c [(8, 20), (24, 25)] fun d =>
    let act := wArg c.w 24 1
    if (act != 1 && act != 2) || wLen c.w != 640 then d.fail c stBadField
    else d.valServed c fun d =>
      let e := c.data
      let refuse (d : Dev) (why : Nat) : Dev := d.finish c { status := valInjectRefused, result := why }
      if e.length != 640 then d.fail c stHostFault
      else if !injectOk e then refuse d 0x15
      else
        let i := leAt e 12 4 % 0x100000
        let pre := (e.drop 64).take 32
        let frame := (e.drop 96).take (leAt pre 20 2)
        let f := parseFrame frame
        let r := d.msrPeek i
        let g := d.genTest f.keyGen (rg r R.keyGen)
        if d.msrCorrupt i || !typeOk f.ftype f.ver f.plen then refuse d 0x14
        else if 2 ≤ g then refuse d 0x12
        else
          match d.keyServe (rg r R.districtHandle) (rg r R.eui) 1 f.keyGen (g == 1) with
          | (d, .wait) => d.injectWait c
          | (d, .fail) => refuse d 0x13
          | (d, .key _ h) =>
            let p : Packet := { lane := byteAt e 9, index := i, rd := r, pre := pre, frame := frame, advance := g == 1,
                                handle := h, verdict := 0xD0 + act, inject := true, heldQuar := byteAt e 10 == 0xE3 }
            match d.commitTry p with
            | (d, .wait) => d.injectWait c
            | (d, .refused _ why) => refuse d why
            | (d, .done s) =>
              let due := rg r R.rekeyDue == 0 && rg (d.msrPeek i) R.rekeyDue == 1
              let entry := excEntry s 9 p.lane p.verdict 3 (excIndex (some i)) (rg r R.eui) (rg r R.recGen) 0 (pre ++ frame)
              let l := p.lane % 16
              let d := if !due then d else if d.excDiscards 9 then d.bump (F.REEL_LANE_REFUSED_refused.at l)
                else d.lanePosts l { item := entry, index := none, stage := .keyWait } [entry]
              d.okRes c s

/-- Waiting injections try again. -/
def Dev.injectGoOn (d : Dev) : Dev :=
  let l := d.val.inject
  l.foldl (fun (d : Dev) c => d.valInject c) { d with val := { d.val with inject := [] } }

/-- What waits for the commit unit takes its turn. -/
def Dev.commitGoOn (d : Dev) : Dev := d.stgGoOn.injectGoOn

/-! ### Marks, recovery, running (R147, R148, R158) -/

/-- RESERVATION_DURABLE: the mark asked for is in NAND; a commit unit that waited on it goes on, a VAL_RESEQ completes. -/
def Dev.reservationDurable (d : Dev) : Dev :=
  let m := d.cu.resReq
  if m ≤ d.rd F.REEL_SEQ_RES_LO_seq_res then d
  else
    let d := { d with gav := { d.gav with sysval := mput d.gav.sysval 1 m,
                                          jpend := d.gav.jpend.filter (fun e => e != JEnt.sysval 1 m) } }
    let d := d.wr F.REEL_SEQ_RES_LO_seq_res m
    let d := match d.val.reseq with
      | none => d
      | some c => ({ d with val := { d.val with reseq := none } }).okRes c (d.rd F.REEL_SEQ_NEXT_LO_seq_next)
    if d.on F.REEL_STATUS_res_wait then d.commitGoOn else d

/-- COMMIT_STALL_RELEASE: Gavotte's flush has freed slots (R146). -/
def Dev.commitStallRelease (d : Dev) : Dev :=
  if d.on F.REEL_STATUS_stg_full && d.stgBlock 1 0 != some false then d.commitGoOn else d

/-- Publish the sound slots after the last published one whose meter's last_seq has reached them (R148 step 1). -/
def Dev.recoverScan (d : Dev) : Nat → Nat → Nat
  | 0, pub => pub
  | fuel + 1, pub =>
    let s := pub + 1
    let l := leBytes 128 (d.memRd (d.stgAddr s) 128)
    if archSound l s && s ≤ rg (d.msrPeek (leAt l 16 4 % 0x100000)) R.lastSeq then Dev.recoverScan d fuel s else pub

/-- The commit unit is in recovery until its re-feed of Waltz ends, where Waltz runs (R148); DEDUCED (log entry 34). -/
def Dev.recoverEnd (d : Dev) : Dev :=
  if d.rd F.REEL_SEQ_NEXT_LO_seq_next = 0 then d else d.clrF F.REEL_STATUS_recovering

/-- The commit unit's recovery, once its mark can be read and its ring is placed: from DRAM after a warm reset (R148), from the
mark after a loss of DRAM (R147), from the first sequence of the unit where no mark was ever journaled. -/
def Dev.commitRecoverNow (d : Dev) : Dev :=
  if d.rd F.REEL_SEQ_NEXT_LO_seq_next != 0 || !d.on F.GAV_STATUS_running then d
  else
    let m := (mget? d.gav.sysval 1).getD (d.rd F.VAL_PAIR_unit * 2 ^ 63)
    let d := { d.wr F.REEL_SEQ_RES_LO_seq_res m with cu := { d.cu with resReq := m } }
    let (pub, ack) := match d.cu.kept with
      | none => (m, m)
      | some (pub, ack) => (d.recoverScan (m - pub) pub, ack)
    let d := (d.wr F.REEL_STG_PUB_LO_stg_pub pub).wr F.REEL_WLZ_ACK_LO_wlz_ack ack
    let d := (d.wr F.REEL_SEQ_NEXT_LO_seq_next (pub + 1)).wr F.XDI_EXP_LIVE_LO_live pub
    let d := { d with cu := { d.cu with kept := none, units := d.cu.units.filter (fun u => u.1 ≤ pub) } }
    let d := if d.on F.WLZ_STATUS_running && ack < pub then
        (({ d with wlz := { d.wlz with catchUp := some (ack + 1, pub) } }).setF F.WLZ_STATUS_catching_up).setF F.REEL_STATUS_recovering
      else d.clrF F.REEL_STATUS_recovering
    d.stgJournal.commitGoOn

/-- Recovery where Reel is enabled: its ring is placed then (R146). -/
def Dev.commitRecover (d : Dev) : Dev := if d.on F.REEL_CTRL_enable then d.commitRecoverNow else d

/-- REEL_ENABLE: a write of REEL_CTRL; enable 1 commits the RWL fields or is refused (R146). -/
def Dev.reelEnable (d : Dev) (v : Nat) : Dev :=
  let before := d.laneMap
  let was := d.on F.REEL_CTRL_enable
  let d := d.regWrite32 0x50000 v
  let d := d.resteer before
  if was || !bit v 31 then d
  else if d.inDram d.stgBase (d.rd F.REEL_STG_SIZE_size_gib * 0x40000000) then (d.commitRwl 0x50000).commitRecover
  else (d.clrF F.REEL_CTRL_enable).setF F.REEL_STATUS_area_bad

/-- The conditions of R158 for running. -/
def Dev.reelMayRun (d : Dev) : Bool :=
  d.on F.REEL_CTRL_enable && d.on F.MSR_STATUS_ready && d.on F.VAL_CTRL_enable && d.on F.VAL_STATUS_ready && d.unlocked
    && d.rd F.REEL_SEQ_NEXT_LO_seq_next != 0 && !d.on F.REEL_STATUS_recovering && d.mode.serving

/-- REEL_RUNNING_START. -/
def Dev.reelRunningStart (d : Dev) : Dev :=
  if d.reelMayRun then ({ d with reel := { d.reel with started := true } }).setF F.REEL_STATUS_running else d

/-- running falls when VAL is disabled or not ready, and the lanes go on up to their rule chains; when Reel is disabled or the mode
leaves service the lanes stop (R158). -/
def Dev.reelRunningCheck (d : Dev) : Dev :=
  let live := d.on F.REEL_CTRL_enable && d.mode.serving
  let d := { d with reel := { d.reel with started := d.reel.started && live } }
  if live && d.on F.VAL_CTRL_enable && d.on F.VAL_STATUS_ready then d else d.clrF F.REEL_STATUS_running

/-- STORM_REQ_CLEAR (R154): storm_hold seconds below storm_off without a break. -/
def Dev.stormReqClear (d : Dev) : Dev :=
  let hold := zeroAs (d.rd F.REEL_CTRL_storm_hold) 1
  if d.on F.REEL_STATUS_storm_req && d.reel.fell + hold * sNs ≤ d.tick then
    let live := d.reel.restored.filter (fun b => d.tick / msNs < b.1 + 1000)
    let d := { d with reel := { d.reel with restored := live } }
    (d.wr F.REEL_RESTORE_CNT_count (live.map (·.2)).sum).stormReqShow false
  else d

/-- REEL_STEER_WRITE. -/
def Dev.reelSteerWrite (d : Dev) (w v : Nat) : Dev :=
  let before := d.laneMap
  (d.regWrite32 (0x50080 + 4 * w) v).resteer before

/-- The frames of a retired lane's input buffer that are not in the commit unit and of the keys named move to their new lanes, in
arrival order (R157). -/
def Dev.laneMove (d : Dev) (l : Nat) (keys : Nat → Bool) : Dev :=
  let q := d.fifo (laneFq l)
  let x := d.lane l
  let goes (i : List Byte) : Bool := keys (itemKey i) && !x.work.any (fun w => w.item == i) && (d.laneFor (itemKey i)).isSome
  (q.items.filter goes).foldl (fun (d : Dev) i =>
    match d.laneFor (itemKey i) with
    | none => d
    | some t =>
      let q := d.fifo (laneFq t)
      d.fifoStore (laneFq t) { q with items := q.items ++ [i] })
    (d.fifoStore (laneFq l) { q with items := q.items.filter (fun i => !goes i) })

/-- STEER_HANDOVER (R134): the old lane has none of the key's frames in flight; a retired one's buffered frames of the key go ahead of
later arrivals (R157). -/
def Dev.steerHandover (d : Dev) (k : Nat) : Dev :=
  match mget? d.reel.moving k with
  | none => d
  | some old =>
    if d.laneHolds old k then d
    else
      let d := { d with reel := { d.reel with moving := mdel d.reel.moving k } }
      if d.laneRetired old then d.laneMove old (fun j => j == k) else d

/-! ### Lane faults (R156, R157) -/

/-- The keys of a retired lane, each in turn to the active lane that then holds the fewest, the lowest-numbered first (R157). -/
def Dev.keysGiven (d : Dev) (mine : List Nat) : Map Nat :=
  let act := d.activeLanes
  (mine.foldl (fun (a : Map Nat × List Nat) k =>
    let e := { d with reel := { d.reel with ovr := a.1 } }
    let count (l : Nat) : Nat := ((List.range 64).filter (fun j =>
      (!mine.contains j || a.2.contains j) && e.laneFor j == some l)).length
    let best := act.foldl (fun (b : Option Nat) l => match b with
      | none => some l
      | some x => if count l < count x then some l else b) none
    match best with
    | none => a
    | some l => (mput a.1 k l, a.2 ++ [k])) (d.reel.ovr, [])).1

/-- A lane retires (R157): it leaves the active set, its keys go to other lanes under R134, its buffered frames of keys that are not
held move at once, the others at their handover; packets in the commit unit complete. -/
def Dev.laneRetire (d : Dev) (l cause : Nat) : Dev :=
  if d.laneRetired l then d
  else
    let before := d.laneMap
    let d := d.wr F.REEL_LANES_retired (d.rd F.REEL_LANES_retired + 2 ^ l)
    let d := (d.setF (F.REEL_LANE_STAT_retired.at l)).wr (F.REEL_LANE_STAT_retire_cause.at l) cause
    let d := (d.raise (131 + 4 * l)).retireLog (0x10 + l) 0 l cause
    let mine := (List.range 64).filter (fun k => (before[k]?).getD none == some l)
    let x := d.lane l
    let d := { d with reel := { d.reel with ovr := d.keysGiven mine } }
    let d := (d.setLane l { x with work := x.work.filter (fun w => stageInCommit w.stage) }).resteer before
    d.laneMove l (fun k => (mget? d.reel.moving k).isNone)

/-- A lane fails its known-answer test (R156, R158): a permanent fault with cause 5. -/
def Dev.laneKatFail (d : Dev) (l : Nat) : Dev := (d.raise (129 + 4 * l)).laneRetire l 5

/-- LANE_TRANSIENT_FAULT: counted in the window, retiring at retire_thr. -/
def Dev.laneTransientFault (d : Dev) (l : Nat) : Dev :=
  let win := zeroAs (d.rd F.REEL_ERR_CFG_window) 1 * sNs
  let x := d.lane l
  let fs := (x.faults.filter (fun t => d.tick < t + win)) ++ [d.tick]
  let d := d.setLane l { x with faults := fs }
  let d := (d.wr (F.REEL_LANE_STAT_transients.at l) (min fs.length 0xFFFF)).bump (F.REEL_LANE_ERR_transient_total.at l)
  let d := (d.raise (129 + 4 * l)).trouble (0x10 + l) 1 4 0 l fs.length
  let thr := d.rd F.REEL_ERR_CFG_retire_thr
  if thr != 0 && thr ≤ fs.length then d.laneRetire l 1 else d

/-- LANE_PERMANENT_FAULT: an error in the input buffer ends the oldest frame not in the commit unit as aborted (R25). -/
def Dev.lanePermanentFault (d : Dev) (l : Nat) (kind : LaneFault) : Dev :=
  match kind with
  | .buffer =>
    let x := d.lane l
    let busy (i : List Byte) : Bool := x.work.any (fun w => w.item == i && stageInCommit w.stage)
    match (d.fifo (laneFq l)).items.find? (fun i => !busy i) with
    | none => d
    | some i => ((d.laneRelease l i).bump (F.REEL_LANE_ERR_aborted.at l)).setF (fqFld (laneFq l) F.WLZ_FQ_STAT_abort_seen)
  | .state => (d.raise (129 + 4 * l)).laneRetire l 2
  | .rerun => (d.raise (129 + 4 * l)).laneRetire l 3

/-- LANE_HANG. -/
def Dev.laneHang (d : Dev) (l : Nat) : Dev := (d.raise (129 + 4 * l)).laneRetire l 4

/-- LANE_KAT_NOW (R160): the lane leaves the active set for its test. -/
def Dev.laneKatNow (d : Dev) (l : Nat) : Dev :=
  let before := d.laneMap
  ((d.setF (F.REEL_LANE_CTRL_kat_now.at l)).setF (F.REEL_LANE_STAT_testing.at l)).resteer before

/-- LANE_KAT_DONE (R156, R158): a failed test retires the lane with cause 5. -/
def Dev.laneKatDone (d : Dev) (l : Nat) (pass : Bool) : Dev :=
  let before := d.laneMap
  let d := ((d.clrF (F.REEL_LANE_CTRL_kat_now.at l)).clrF (F.REEL_LANE_STAT_testing.at l)).resteer before
  if pass then d else d.laneKatFail l

end Sys2Proof.Machine
end

