-- ==== Sys2Proof/Machine/Gav.lean ====
section
/-! DEFINITION. Gavotte (chapter 14): placement of sectors in NAND, flushing from staging, the map and its journal, garbage
collection, secure discard, faults and retirement, the mount, the archive ring and the commands. -/

namespace Sys2Proof.Machine

/-! ### Geometry and registers -/

/-- Gavotte's identity as a writer (R511). -/
def gavId : Nat := 0x23

/-- The count of a sequence: pseq bits [62:0] (R395). -/
def cnt63 (s : Nat) : Nat := s % 2 ^ 63

/-- The unit bit of the sequence space in use, in place. -/
def Dev.unitBase (d : Dev) : Nat := d.rd F.REEL_STG_PUB_LO_stg_pub / 2 ^ 63 * 2 ^ 63

/-- Published records by count. -/
def Dev.pubCount (d : Dev) : Nat := cnt63 (d.rd F.REEL_STG_PUB_LO_stg_pub)

/-- Sectors per page, per block, and those of a block before its summary page (R389, R390). -/
def Gav.spp (g : Gav) : Nat := 2 * 2 ^ g.page
def Gav.spb (g : Gav) : Nat := g.ppb * g.spp
def Gav.dpb (g : Gav) : Nat := (g.ppb - 1) * g.spp

/-- LUNs per target; a die is target × LUNs + LUN. -/
def Gav.lunsOf (g : Gav) : Nat := 2 ^ g.luns

/-- Whether a die stands fitted and is not retired. -/
def Dev.dieFit (d : Dev) (die : Nat) : Bool :=
  die < 32 * d.gav.lunsOf && bit d.gav.present (die / d.gav.lunsOf) && !bit (d.rd (F.GAV_DIE_RET_retired.at (die / 32))) (die % 32)

/-- A die in use: one whose retirement was lifted waits for its test at the next mount (R412). -/
def Dev.dieUp (d : Dev) (die : Nat) : Bool := d.dieFit die && !d.gav.deadDies.contains die

/-- The dies in service, ascending. -/
def Dev.diesUp (d : Dev) : List Nat := (List.range 128).filter d.dieUp

/-- The key of a block. -/
def blkKey (die blk : Nat) : Nat := die * 16384 + blk

/-- The state of a block. -/
def Gav.blk (g : Gav) (k : Nat) : NandBlk := mgetD g.blks k {}

/-- The physical sector number of sector s of a block (R398). -/
def Gav.placeOf (g : Gav) (k s : Nat) : Nat := (k / 16384 * g.blocks + k % 16384) * g.spb + s

/-- The block of a physical sector. -/
def Gav.blkAt (g : Gav) (place : Nat) : Nat :=
  let b := place / g.spb
  blkKey (b / g.blocks) (b % g.blocks)

/-- The erases of a block. -/
def Gav.erasesOf (g : Gav) (k : Nat) : Nat := g.formats + (g.blk k).erases

/-- The rated erases (R404, R420). -/
def Dev.peRated (d : Dev) : Nat := 8 * zeroAs (d.rd F.GAV_FLUSH_pe_rated) 1

/-- The blocks of a die that are listed. -/
def Gav.dieBlks (g : Gav) (die : Nat) : List (Nat × NandBlk) :=
  g.blks.filter (fun e => e.1 / 16384 == die)

/-- Free blocks of a die. -/
def Gav.freeCount (g : Gav) (die : Nat) : Nat :=
  g.blocks - ((g.dieBlks die).filter (fun e => e.2.use != .free)).length

/-- The die's free block with the lowest erase count, ties to the lower number (R407). -/
def Gav.freePick (g : Gav) (die : Nat) : Option Nat :=
  let known := g.dieBlks die
  let virgin := (List.range g.blocks).find? (fun b => known.all (fun e => e.1 % 16384 != b))
  let used := (known.filter (fun e => e.2.use == .free)).foldl (fun (best : Option (Nat × Nat)) e =>
    match best with
    | none => some (e.2.erases, e.1)
    | some b => if e.2.erases < b.1 then some (e.2.erases, e.1) else best) none
  match virgin, used with
  | none, none => none
  | some v, none => some (blkKey die v)
  | none, some u => some u.2
  | some v, some u => if u.1 = 0 && u.2 < blkKey die v then some u.2 else some (blkKey die v)

/-- The first lsns and sizes of the record and extension regions, and the first lsn of the host region (R391). -/
def recFirst : Nat := 262144
def Gav.recRegion (g : Gav) : Nat := g.recGib * 262144
def Gav.extFirst (g : Gav) : Nat := 262144 * (1 + g.recGib)
def Gav.extRegion (g : Gav) : Nat := g.extGib * 262144
def Gav.hostFirst (g : Gav) : Nat := 262144 * (1 + g.recGib + g.extGib)
def Gav.hostSectors (g : Gav) : Nat := g.hostGib * 262144
def Gav.recLsn (g : Gav) (k : Nat) : Nat := recFirst + k % g.recRegion
def Gav.extLsn (g : Gav) (e : Nat) : Nat := g.extFirst + e % g.extRegion

/-- Append a journal entry. -/
def Dev.journal (d : Dev) (e : JEnt) : Dev := { d with gav := { d.gav with jpend := d.gav.jpend ++ [e] } }

/-! ### Allocation (R390, R407) -/

/-- Take the next NAND sequences. -/
def Dev.nseqTake (d : Dev) (n : Nat) : Dev :=
  let d := { d with gav := { d.gav with nseq := d.gav.nseq + n } }
  d.wr F.GAV_NSEQ_LO_nseq d.gav.nseq

/-- The dies a stream may open a block on, in its order: the collector's stream its own die, another stream round-robin. -/
def Dev.streamDies (d : Dev) (st : Nat) : List Nat :=
  if 256 ≤ st then [st - 256]
  else
    let up := d.diesUp
    let last := mgetD d.gav.robin st 127
    up.filter (fun x => last < x) ++ up.filter (fun x => x ≤ last)

/-- The open block of a stream, opening one where there is none (R400 OPEN); none when no die has a free block. -/
def Dev.streamBlk (d : Dev) (st : Nat) : Option (Dev × Nat) :=
  match mget? d.gav.opened st with
  | some k => some (d, k)
  | none =>
    match (d.streamDies st).findSome? (fun x => d.gav.freePick x) with
    | none => none
    | some k =>
      let b := d.gav.blk k
      let g := { d.gav with blks := mput d.gav.blks k { b with use := .opened, next := 0, nb := 0 },
                            opened := mput d.gav.opened st k, robin := mput d.gav.robin st (k / 16384) }
      some (({ d with gav := g }).journal (.openBlk (k / 16384) (k % 16384)), k)

/-- Close an open block: its summary takes its last page (R390). -/
def Dev.closeBlk (d : Dev) (k : Nat) : Dev :=
  let b := d.gav.blk k
  let d := d.nseqTake d.gav.spp
  { d with gav := { d.gav with blks := mput d.gav.blks k { b with use := .closed, next := d.gav.spb, nb := d.gav.nseq - 1 },
                               opened := d.gav.opened.filter (fun e => e.2 != k) } }

/-- The next sector of a stream and its nseq. -/
def Dev.sectorTake (d : Dev) (st : Nat) : Option (Dev × Nat × Nat) :=
  match d.streamBlk st with
  | none => none
  | some (d, k) =>
    let b := d.gav.blk k
    let q := d.gav.nseq
    let d := { d with gav := { d.gav with blks := mput d.gav.blks k { b with next := b.next + 1, nb := q } } }
    let d := d.nseqTake 1
    some (if d.gav.dpb ≤ b.next + 1 then d.closeBlk k else d, d.gav.placeOf k b.next, q)

/-- Flushing or writing stalls for want of a free block (R405). -/
def Dev.gavStall (d : Dev) : Dev :=
  if d.on F.GAV_STATUS_stalled then d else ((d.setF F.GAV_STATUS_stalled).setF F.GAV_EVENT_stall).raise 425

/-! ### The map and its cache (R398, R399) -/

/-- A mapped entry of the map. -/
def mapped (place : Nat) : Nat := place + 2 ^ 63

/-- A lost entry. -/
def lostEntry : Nat := 2 ^ 62

/-- The physical sector an entry names, if it is mapped and not lost. -/
def entryPlace (e : Nat) : Option Nat := if bit e 63 && !bit e 62 then some (e % 2 ^ 40) else none

/-- The 4 KiB image of a map segment. -/
def Dev.segImage (d : Dev) (s : Nat) : List Byte :=
  let ents := (List.range 504).flatMap (fun i => leBytes 8 (tget d.gav.map (504 * s + i)))
  leBytes 2 0x4D53 ++ [1, 0] ++ leBytes 4 s ++ leBytes 8 d.gav.nseq ++ leBytes 4 (crc32c 0xFFFFFFFF ents) ++ zeros 44 ++ ents

/-- Write a segment to NAND; the root table in DRAM names its place (R398, R421). -/
def Dev.segWrite (d : Dev) (s : Nat) : Dev :=
  let img := d.segImage s
  match d.sectorTake 4 with
  | none => d.gavStall
  | some (d, place, q) =>
    let x : NandSect := { lsn := 2 ^ 64 - 1, nseq := q, kind := 4, data := leNat img }
    let d := { d with gav := { d.gav with sects := mput d.gav.sects place x, segAt := mput d.gav.segAt s place } }
    (d.memWr (d.extBase - 0x8000000 + 8 * s) 8 (mapped place)).journal (.seg s)

/-- The host slots of the granted memory: bus addresses of 4 KiB. -/
def Dev.hostSlot (d : Dev) : Option Nat :=
  (d.xdi.chunks.flatMap (fun c => (List.range (c.2 * 512)).map (fun i => c.1 + 4096 * i))).find? fun a =>
    d.gav.hostSegs.all (fun e => e.2 != a)

/-- A segment read from its host slot (R72, R399), which ends a run of completion timeouts (R46). Its crc, seg and nseq are checked; one
that fails, like one the function cannot read, comes from NAND instead. Both copies hold the map as it stands, so the outcome of
the check changes nothing here. -/
def Dev.segFromHost (d : Dev) (s : Nat) : Dev :=
  if d.gav.hostSegs.any (fun e => e.1 == s) && d.hostReach then { d with xdi := { d.xdi with ctoRun := 0 } } else d

/-- Bring a segment to the front of the DRAM cache; the least recently used one beyond its size goes, dirty to NAND, clean to a
free host slot while the function may write it and no revoke waits (R72, R73). -/
def Dev.segTouch (d : Dev) (s : Nat) (dirty : Bool) : Dev :=
  let was := (d.gav.segs.find? (fun e => e.1 == s)).any (·.2)
  let d := d.segFromHost s
  let l := (s, dirty || was) :: d.gav.segs.filter (fun e => e.1 != s)
  let d := { d with gav := { d.gav with segs := l, hostSegs := d.gav.hostSegs.filter (fun e => e.1 != s) } }
  if l.length ≤ d.rd F.GAV_AREA_CFG_mapc * 16384 then d
  else
    match l.getLast? with
    | none => d
    | some v =>
      let d := { d with gav := { d.gav with segs := l.dropLast } }
      if v.2 then d.segWrite v.1
      else
        match if d.hostReach && d.xdi.revoking.isEmpty then d.hostSlot else none with
        | none => d
        | some a =>
          ({ d with gav := { d.gav with hostSegs := d.gav.hostSegs ++ [(v.1, a)] } }).emit (.hostWrite a (d.segImage v.1))

/-- Change an entry of the map. -/
def Dev.mapSet (d : Dev) (lsn e : Nat) : Dev :=
  let d := d.segTouch (lsn / 504) true
  { d with gav := { d.gav with map := tset d.gav.map lsn e } }

/-- Change an entry to a sector just programmed and journal it (R400 SECT). -/
def Dev.mapSect (d : Dev) (lsn place : Nat) : Dev := (d.mapSet lsn (mapped place)).journal (.sect lsn place)

/-- Remove a range from the map (a trim). -/
def Dev.mapTrim (d : Dev) (lsn n : Nat) : Dev :=
  let d := { d with gav := { d.gav with map := d.gav.map.filter (fun e => !(lsn ≤ e.1 && e.1 < lsn + n)) } }
  d.journal (.trim lsn n d.gav.nseq)

/-- Program a sector outside the flush path (a copy, a rewritten sector) and map it; a full NAND stalls it. -/
def Dev.sectorWrite (d : Dev) (st lsn kind : Nat) (part : Bool) (data : Nat) : Dev :=
  match d.sectorTake st with
  | none => d.gavStall
  | some (d, place, q) =>
    let x : NandSect := { lsn := lsn, nseq := q, kind := kind, part := part, data := data }
    ({ d with gav := { d.gav with sects := mput d.gav.sects place x } }).mapSect lsn place

/-- What reading an lsn gives: its data (zeros where unmapped), or none where it is lost (R392, R411). -/
def Gav.readLsn (g : Gav) (lsn : Nat) : Option Nat :=
  let e := tget g.map lsn
  if bit e 62 then none else some (((entryPlace e).bind (fun p => (mget? g.sects p).map (·.data))).getD 0)

/-- The stream a logical sector is written to. -/
def Gav.streamOf (g : Gav) (lsn : Nat) : Nat := if lsn < g.extFirst then 0 else if lsn < g.hostFirst then 1 else 2

/-! ### Faults, spare, retirement (R410–R413) -/

/-- Blocks needed to hold E, and the spare (R413). -/
def Dev.spareNow (d : Dev) : Int :=
  let g := d.gav
  let bad := (g.blks.filter (fun e => d.dieUp (e.1 / 16384) && e.2.use == .retired)).length
  let good : Int := (d.diesUp.length * g.blocks : Nat) - (bad : Int)
  let need := if g.dpb = 0 then 0 else (g.eGib * 262144 + g.dpb - 1) / g.dpb
  good - need - (d.diesUp.length * (d.rd F.GAV_GC_gc_high + 4) : Nat)

/-- Trim the oldest record sectors: n of them. -/
def Dev.recCut (d : Dev) (n : Nat) : Dev :=
  let k := cnt63 (d.rd F.GAV_OLDEST_LO_oldest) / 32
  let d := foldN n (fun i d => d.mapTrim (d.gav.recLsn (k + i)) 1) d
  let first := d.unitBase + min (32 * (k + n)) (cnt63 (d.rd F.GAV_FLUSHED_LO_flushed) + 1)
  ((d.wr F.GAV_OLDEST_LO_oldest first).setF F.GAV_STATUS_retention_cut).raise 430

/-- Show the spare; a fall below spare_low is an event, below 0 makes the host region read-only and cuts retention by as many
blocks of record sectors as are short (R413). -/
def Dev.spareShow (d : Dev) : Dev :=
  let old := sgn 32 (d.rd F.GAV_SPARE_spare)
  let new := d.spareNow
  let low : Int := (d.rd F.GAV_GC_spare_low * 16 : Nat)
  let d := d.wr F.GAV_SPARE_spare (uns 32 new)
  let d := if low ≤ old && new < low then (d.setF F.GAV_EVENT_spare_low).raise 429 else d
  if 0 ≤ new then { d.clrF F.GAV_STATUS_host_ro with gav := { d.gav with cut := 0 } }
  else
    let d := if d.on F.GAV_STATUS_host_ro then d else (d.setF F.GAV_STATUS_host_ro).raise 430
    let short := new.natAbs
    if short ≤ d.gav.cut then d
    else ({ d with gav := { d.gav with cut := short } }).recCut ((short - d.gav.cut) * d.gav.dpb)

/-- Mark a sector lost (R411). -/
def Dev.markLost (d : Dev) (lsn : Nat) : Dev :=
  let die := ((entryPlace (tget d.gav.map lsn)).map (fun p => d.gav.blkAt p / 16384)).getD 0
  let d := d.mapSet lsn lostEntry
  let d := { d with gav := { d.gav with dmap := tset d.gav.dmap lsn lostEntry } }
  let d := ((d.bump F.GAV_CNT_READ_lost).setF F.GAV_EVENT_lost).raise 428
  (d.trouble gavId 2 6 (lsn % 2 ^ 32) (lsn / 2 ^ 32) die).sample 9 die 1

/-- The retired bit of a die. -/
def Dev.setDieRet (d : Dev) (die : Nat) (b : Bool) : Dev := d.wrBit (F.GAV_DIE_RET_retired.at (die / 32)) (die % 32) b

/-- Whether a block may be an anchor: blocks 0–7 of LUN 0 of a target, its die in service, the block not retired (R401). -/
def Dev.anchorBlk (d : Dev) (die from' : Nat) : Option (Nat × Nat) :=
  ((List.range 8).find? (fun b => from' ≤ b && (d.gav.blk (blkKey die b)).use != .retired)).map (fun b => (die, b))

/-- The two anchor placements by the rules of R401. -/
def Dev.anchorPick (d : Dev) : List (Nat × Nat) :=
  let ts := (List.range 32).filter (fun t => d.dieUp (t * d.gav.lunsOf))
  let at0 (t : Nat) : Option (Nat × Nat) := d.anchorBlk (t * d.gav.lunsOf) 0
  match ts with
  | [] => []
  | t :: rest =>
    let second :=
      match rest.find? (fun u => u / 4 != t / 4), rest with
      | some u, _ => at0 u
      | none, u :: _ => at0 u
      | none, [] =>
        if 2 ≤ d.gav.lunsOf && d.dieUp (t * d.gav.lunsOf + 1) then d.anchorBlk (t * d.gav.lunsOf + 1) 0
        else d.anchorBlk (t * d.gav.lunsOf) (((at0 t).map (fun (x : Nat × Nat) => x.2)).getD 0 + 1)
    (at0 t).toList ++ second.toList

/-- Keep the anchors where they are while they may stay, else move to the placements of the rules (R401). -/
def Dev.anchorsMove (d : Dev) : Dev :=
  let ok := d.gav.anchors.filter (fun a => d.dieUp a.1 && (d.gav.blk (blkKey a.1 a.2)).use != .retired)
  if !d.gav.formatted || ok.length = d.gav.anchors.length then d
  else
    let new := (ok ++ d.anchorPick.filter (fun a => !ok.contains a)).take 2
    let blks := (new.filter (fun a => !ok.contains a)).foldl (fun m a =>
      mput m (blkKey a.1 a.2) { mgetD m (blkKey a.1 a.2) {} with use := .anchor }) d.gav.blks
    { d with gav := { d.gav with anchors := new, blks := blks } }

/-- Retire a die (R412): its readable data moves, its unreadable data (`lost`, by lsn) is marked lost, its blocks leave the
pools. -/
def Dev.dieRetire (d : Dev) (die cause : Nat) (lost : List Nat) : Dev :=
  if !d.dieFit die then d
  else
    let d := d.setDieRet die true
    let g := { d.gav with opened := d.gav.opened.filter (fun e => e.2 / 16384 != die), gc := mdel d.gav.gc die,
                          collecting := d.gav.collecting.filter (fun x => x != die),
                          deadDies := if d.gav.deadDies.contains die then d.gav.deadDies else d.gav.deadDies ++ [die],
                          doomed := d.gav.doomed.filter (fun k => k / 16384 != die),
                          discards := d.gav.discards.map (fun o => { o with blocks := o.blocks.filter (fun k => k / 16384 != die) }),
                          prog := d.gav.prog.map (fun p =>
                            if p.place.any (fun x => d.gav.blkAt x / 16384 == die) then { p with place := none } else p) }
    let d := { d with gav := g }
    let here := d.gav.map.filter (fun e => (entryPlace e.2).any (fun p => d.gav.blkAt p / 16384 == die))
    let d := here.foldl (fun d e =>
      if lost.contains e.1 then d.markLost e.1
      else
        match (entryPlace e.2).bind (fun p => mget? d.gav.sects p) with
        | none => d
        | some x => d.sectorWrite (d.gav.streamOf e.1) e.1 x.kind x.part x.data) d
    let segsHere := (d.gav.segAt.filter (fun e => d.gav.blkAt e.2 / 16384 == die)).map (·.1)
    let d := segsHere.foldl (fun d s => d.segWrite s) d
    let d := ((d.setF F.GAV_EVENT_die_retired).raise 426).retireLog gavId 4 die cause
    (d.anchorsMove.flag F.GAV_STATUS_gc_active (!d.gav.gc.isEmpty)).spareShow

/-- Count a block retirement of a die in its window; the threshold retires the die (R412). -/
def Dev.dieCount (d : Dev) (die : Nat) : Dev :=
  let win := zeroAs (d.rd F.GAV_ERR_CFG_window) 1 * sNs
  let l := (mgetD d.gav.dieEv die []).filter (fun t => d.tick < t + win) ++ [d.tick]
  let d := { d with gav := { d.gav with dieEv := mput d.gav.dieEv die l } }
  let thr := d.rd F.GAV_ERR_CFG_retire_thr
  if thr != 0 && thr ≤ l.length then d.dieRetire die (Config.retireCause 4 1).toNat [] else d

/-- Retire a block (R410): cause 0 program, 1 erase, 2 unreadable, 3 wear. Wear is no fault of the die. -/
def Dev.blkRetire (d : Dev) (k cause : Nat) : Dev :=
  let b := d.gav.blk k
  let d := { d with gav := { d.gav with blks := mput d.gav.blks k { b with use := .retired },
                                        opened := d.gav.opened.filter (fun e => e.2 != k),
                                        doomed := d.gav.doomed.filter (fun x => x != k) } }
  let d := d.journal (.retire (k / 16384) (k % 16384))
  let d := ((d.bump F.GAV_CNT_BLK_retired).setF F.GAV_EVENT_blk_retired).raise 427
  let d := (d.trouble gavId 2 5 (k / 16384) (k % 16384) cause).anchorsMove.spareShow
  if cause = 3 then d else d.dieCount (k / 16384)

/-- The levels of the retry table in use (R411, R420). -/
def Dev.retryLevels (d : Dev) : Nat :=
  let n := min (d.rd F.GAV_FLUSH_read_retries) 8
  ((List.range n).takeWhile (fun r => d.rd (F.GAV_RETRY_params.at r) != 0 || d.rd (F.GAV_RETRY_feature.at r) != 0)).length

/-- What hard reads do (R411): each names an lsn and whether a retry level recovers it. A recovered read is counted; a sector that no
level reads is lost, and its block goes once its data has been moved. -/
def Dev.hardReads (d : Dev) (sel : Nat → Bool) (reads : List (Nat × Bool)) : Dev :=
  reads.foldl (fun (d : Dev) (r : Nat × Bool) =>
    match entryPlace (tget d.gav.map r.1) with
    | none => d
    | some p =>
      if !sel r.1 then d
      else
        let k := d.gav.blkAt p
        if r.2 && 0 < d.retryLevels then
          (d.bump F.GAV_CNT_READ_retried).trouble gavId 1 4 4 (k / 16384) ((mgetD d.gav.dieEv (k / 16384) []).length)
        else
          let d := d.markLost r.1
          if d.gav.doomed.contains k then d else { d with gav := { d.gav with doomed := d.gav.doomed ++ [k] } }) d

/-! ### Flushing (R395, R396) -/

/-- The data of record sector k with the records up to a count: slots of staging, zeros beyond (R395). -/
def Dev.recData (d : Dev) (k upto : Nat) : Nat :=
  leNat ((List.range 32).flatMap (fun i =>
    let c := 32 * k + i
    leBytes 128 (if 0 < c && c ≤ upto then d.memRd (d.stgAddr (d.unitBase + c)) 128 else 0)))

/-- The data of extension sector e with the units below a count. -/
def Dev.extData (d : Dev) (e upto : Nat) : Nat :=
  leNat ((List.range 64).flatMap (fun i =>
    let u := 64 * e + i
    leBytes 64 (if u < upto then d.memRd (d.extBase + u % d.extUnits * 64) 64 else 0)))

/-- Issue a program; with no free block anywhere flushing stalls. -/
def Dev.progIssue (d : Dev) (st : Nat) (x : NandSect) (upto : Nat) (cmd : Option Desc) : Dev :=
  match d.sectorTake st with
  | none =>
    let p : GavProg := { place := none, sect := x, stream := st, upto := upto, cmd := cmd }
    ({ d with gav := { d.gav with prog := d.gav.prog ++ [p] } }).gavStall
  | some (d, place, q) =>
    let p : GavProg := { place := some place, sect := { x with nseq := q }, stream := st, upto := upto, cmd := cmd }
    { d with gav := { d.gav with prog := d.gav.prog ++ [p] } }

/-- Whether Gavotte flushes and serves the archive now (R415). -/
def Dev.gavServing (d : Dev) : Bool := d.on F.GAV_STATUS_running && d.mode != .recovery

/-- Issue the records up to a count of the next record sector. -/
def Dev.recIssue (d : Dev) (upto : Nat) : Dev :=
  let k := (d.gav.recIssued + 1) / 32
  if d.gav.recRegion = 0 then d.gavStall
  else
    let x : NandSect := { lsn := d.gav.recLsn k, nseq := 0, kind := 0, part := upto != 32 * k + 31, data := d.recData k upto }
    let d := d.progIssue 0 x upto none
    { d with gav := { d.gav with recIssued := upto } }

/-- Issue the units below a count of the next extension sector. -/
def Dev.extIssue (d : Dev) (upto : Nat) : Dev :=
  let e := d.gav.extIssued / 64
  if d.gav.extRegion = 0 then d.gavStall
  else
    let x : NandSect := { lsn := d.gav.extLsn e, nseq := 0, kind := 1, part := upto != 64 * e + 64, data := d.extData e upto }
    let d := d.progIssue 1 x upto none
    { d with gav := { d.gav with extIssued := upto } }

/-- GAV_SECTOR_PROGRAM: the next sector whose slots are all published, or whose units are all written. -/
def Dev.gavSectorProgram (d : Dev) : Dev :=
  let k := (d.gav.recIssued + 1) / 32
  let e := d.gav.extIssued / 64
  if !d.gavServing then d
  else if 32 * k + 31 ≤ d.pubCount then d.recIssue (32 * k + 31)
  else if 64 * e + 64 ≤ d.cu.unitNext then d.extIssue (64 * e + 64)
  else d

/-- Issue what is published of the next record sector and written of the next extension sector. -/
def Dev.partialIssue (d : Dev) : Dev :=
  let k := (d.gav.recIssued + 1) / 32
  let d := if d.gav.recIssued < d.pubCount then d.recIssue (min d.pubCount (32 * k + 31)) else d
  let e := d.gav.extIssued / 64
  if d.gav.extIssued < d.cu.unitNext then d.extIssue (min d.cu.unitNext (64 * e + 64)) else d

/-- GAV_PARTIAL_FLUSH: flush_ms have passed since the first publication not yet programmed. -/
def Dev.gavPartialFlush (d : Dev) : Dev := if d.gavServing then d.partialIssue else d

/-- GAV_FLUSHED: every record up to it, and every unit those records name, programmed with good status (R395). -/
def Dev.flushedShow (d : Dev) : Dev :=
  let lim := d.gav.recDone
  let held := (d.cu.units.find? (fun u => d.gav.extDone < u.2.1 + u.2.2)).map (fun u => cnt63 u.1 - 1)
  let s := d.unitBase + min lim (held.getD lim)
  let d := if d.rd F.GAV_FLUSHED_LO_flushed < s then d.wr F.GAV_FLUSHED_LO_flushed s else d
  let done := d.gav.flushes.filter (fun x => x.2 ≤ d.rd F.GAV_FLUSHED_LO_flushed)
  let d := { d with gav := { d.gav with flushes := d.gav.flushes.filter (fun x => d.rd F.GAV_FLUSHED_LO_flushed < x.2) },
                    cu := { d.cu with units := d.cu.units.filter (fun u => d.rd F.GAV_FLUSHED_LO_flushed < u.1) } }
  done.foldl (fun d x => d.okRes x.1) d

/-- A host write loses one program to go; the last one completes it (R392). -/
def Dev.writeDone (d : Dev) (c : Desc) : Dev :=
  match d.gav.writes.find? (fun w => w.1 == c) with
  | none => d
  | some (_, n) =>
    let rest := d.gav.writes.erase (c, n)
    if n ≤ 1 then ({ d with gav := { d.gav with writes := rest } }).okRes c (wArg c.w 32 4)
    else { d with gav := { d.gav with writes := rest ++ [(c, n - 1)] } }

/-- A sector is programmed with good status. -/
def Dev.progGood (d : Dev) (p : GavProg) (place : Nat) : Dev :=
  let d := ({ d with gav := { d.gav with sects := mput d.gav.sects place p.sect } }).mapSect p.sect.lsn place
  if p.sect.kind = 0 then
    let k := p.upto / 32
    let d := { d with gav := { d.gav with recDone := max d.gav.recDone p.upto } }
    let first := d.unitBase + 32 * (k + 1 - d.gav.recRegion)
    let d := if d.gav.recRegion ≤ k && d.rd F.GAV_OLDEST_LO_oldest < first then d.wr F.GAV_OLDEST_LO_oldest first else d
    d.flushedShow
  else if p.sect.kind = 1 then ({ d with gav := { d.gav with extDone := max d.gav.extDone p.upto } }).flushedShow
  else (p.cmd.map d.writeDone).getD d

/-- GAV_PROGRAM_DONE: the oldest program ends. A failed one retires its block and is programmed again (R410); one that waits for a
block tries again. -/
def Dev.gavProgramDone (d : Dev) (ok : Bool) : Dev :=
  match d.gav.prog with
  | [] => d
  | p :: rest =>
    match p.place with
    | none =>
      match d.sectorTake p.stream with
      | none => d.gavStall
      | some (d, place, q) =>
        { d with gav := { d.gav with prog := { p with place := some place, sect := { p.sect with nseq := q } } :: rest } }
    | some place =>
      if ok then ({ d with gav := { d.gav with prog := rest } }).progGood p place
      else
        let d := d.blkRetire (d.gav.blkAt place) 0
        match d.sectorTake p.stream with
        | none => ({ d with gav := { d.gav with prog := { p with place := none } :: rest } }).gavStall
        | some (d, place, q) =>
          { d with gav := { d.gav with prog := { p with place := some place, sect := { p.sect with nseq := q } } :: rest } }

/-! ### The journal (R400, R402) -/

/-- A root checkpoint: dirty segments are written, the journal before it is free to be collected (R400). -/
def Dev.rootCheckpoint (d : Dev) : Dev :=
  let dirty := (d.gav.segs.filter (·.2)).map (·.1)
  let d := dirty.foldl (fun d s => d.segWrite s) d
  let close (m : Map NandBlk) : Map NandBlk := d.gav.jBlks.foldl (fun m k =>
    let b := mgetD m k {}
    if b.use == .opened then mput m k { b with use := .closed } else m) m
  { d with gav := { d.gav with segs := d.gav.segs.map (fun e => (e.1, false)), jSects := 0, jBlks := [],
                               opened := mdel d.gav.opened 5, blks := close d.gav.blks } }

/-- An entry becomes durable. -/
def Gav.durable (g : Gav) (e : JEnt) : Gav :=
  match e with
  | .sect lsn place => { g with dmap := tset g.dmap lsn (mapped place) }
  | .trim lsn n _ => { g with dmap := g.dmap.filter (fun x => !(lsn ≤ x.1 && x.1 < lsn + n)) }
  | .sdisc true lsn n => { g with sdiscs := g.sdiscs ++ [(lsn, n)] }
  | .sdisc false lsn n => { g with sdiscs := g.sdiscs.erase (lsn, n) }
  | .sysval id v => { g with sysval := mput g.sysval id v }
  | _ => g

/-- The blocks that hold any copy of a sector of the ranges, current or stale, or a stale copy of a sector rewritten in part. -/
def Gav.discardBlks (g : Gav) (ranges : List (Nat × Nat)) (part : List Nat) : List Nat :=
  let ks := g.sects.filterMap (fun e =>
    let l := e.2.lsn
    if ranges.any (fun r => r.1 ≤ l && l < r.1 + r.2) || (part.contains l && entryPlace (tget g.map l) != some e.1)
    then some (g.blkAt e.1) else none)
  ks.eraseDups

/-- A secure discard ends (R408 step 5). -/
def Dev.discardEnd (d : Dev) (o : SdOp) : Dev :=
  let d := o.ranges.foldl (fun d r => d.journal (.sdisc false r.1 r.2)) d
  let d := d.raise 432
  match o.cmd with
  | none => d.setF F.GAV_EVENT_sdisc_done
  | some c => d.okRes c

/-- End the discards with no block left. -/
def Dev.discardsEnd (d : Dev) : Dev :=
  let done := d.gav.discards.filter (fun o => o.begun && o.blocks.isEmpty)
  let d := { d with gav := { d.gav with discards := d.gav.discards.filter (fun o => !(o.begun && o.blocks.isEmpty)) } }
  done.foldl (fun d o => d.discardEnd o) d

/-- The extension units a slot's locator names (R394): first and count. -/
def locUnits (l : List Byte) : Nat × Nat :=
  if bit (byteAt l 47) 0 then (leAt l 116 5, leAt l 121 1 % 8 + 1) else (0, 0)

/-- Zero the staging slots of a range of sequences, and the units they name (R408 step 2). -/
def Dev.zeroStaged (d : Dev) (lo hi : Nat) : Dev :=
  foldN (min (hi + 1 - lo) d.stgSlots) (fun i d =>
    let s := hi - i
    let l := leBytes 128 (d.memRd (d.stgAddr s) 128)
    if s < lo || leAt l 0 8 != s then d
    else
      let u := locUnits l
      let d := foldN u.2 (fun j d => d.memWrB (d.extBase + (u.1 + j) % d.extUnits * 64) (zeros 64)) d
      d.memWrB (d.stgAddr s) (zeros 128)) d

/-- The steps of a discard once its begin entries are durable (R408 steps 2–4). -/
def Dev.discardBegin (d : Dev) (o : SdOp) : Dev :=
  let d := match o.seqs with
    | none => d
    | some (lo, hi) => d.zeroStaged lo (min hi (d.rd F.REEL_STG_PUB_LO_stg_pub))
  let ks := d.gav.discardBlks o.ranges o.part
  let d := (ks.filter (fun k => (d.gav.blk k).use == .opened)).foldl (fun d k => d.closeBlk k) d
  { d with gav := { d.gav with discards := d.gav.discards ++ [{ o with begun := true, blocks := ks.filter (fun k => (d.gav.blk k).use != .retired) }] } }

/-- Whether a discard's begin entries are durable. -/
def Gav.discardDurable (g : Gav) (o : SdOp) : Bool := o.ranges.all (fun r => !g.jpend.contains (.sdisc true r.1 r.2))

/-- What waits for the journal goes on: trims complete, discards begin. -/
def Dev.afterJournal (d : Dev) : Dev :=
  let done := d.gav.trims.filter (fun x => !d.gav.jpend.contains x.2)
  let d := { d with gav := { d.gav with trims := d.gav.trims.filter (fun x => d.gav.jpend.contains x.2) } }
  let d := done.foldl (fun d x => d.okRes x.1) d
  let ready := d.gav.discards.filter (fun o => !o.begun && d.gav.discardDurable o)
  let d := { d with gav := { d.gav with discards := d.gav.discards.filter (fun o => o.begun || !d.gav.discardDurable o) } }
  (ready.foldl (fun d o => d.discardBegin o) d).discardsEnd

/-- GAV_JOURNAL_SECTOR: the oldest entries, at most 256, become durable together; a failed program retires the block and leaves
them pending. After 256 MiB a root checkpoint follows. -/
def Dev.gavJournalSector (d : Dev) (ok : Bool) : Dev :=
  if !d.on F.GAV_STATUS_running || d.gav.jpend.isEmpty then d
  else
    let now := d.gav.jpend.take 256
    match d.sectorTake 5 with
    | none => d.gavStall
    | some (d, place, q) =>
      let k := d.gav.blkAt place
      let d := { d with gav := { d.gav with jBlks := if d.gav.jBlks.contains k then d.gav.jBlks else d.gav.jBlks ++ [k] } }
      if !ok then d.blkRetire k 0
      else
        let x : NandSect := { lsn := 2 ^ 64 - 1, nseq := q, kind := 5 }
        let g := now.foldl Gav.durable d.gav
        let g := { g with jpend := g.jpend.drop now.length, sects := mput g.sects place x, jSects := g.jSects + 1 }
        let d := { d with gav := g }
        (if 65536 ≤ d.gav.jSects then d.rootCheckpoint else d).afterJournal

/-- GAV_SYSVAL_WRITE: another block's durable value is journaled; the reserved ids have no writer. -/
def Dev.gavSysvalWrite (d : Dev) (id v : Nat) : Dev :=
  if 1 ≤ id && id ≤ 5 then d.journal (.sysval id v) else d

/-! ### Garbage collection (R404–R407) -/

/-- The sectors of a block that the map names. -/
def Gav.validIn (g : Gav) (k : Nat) : List (Nat × Nat) :=
  g.map.filterMap (fun e => (entryPlace e.2).bind (fun p => if g.blkAt p = k then some (e.1, p) else none))

/-- The map segments whose place lies in a block. -/
def Gav.segsIn (g : Gav) (k : Nat) : List Nat := (g.segAt.filter (fun e => g.blkAt e.2 == k)).map (·.1)

/-- The closed blocks of a die that may be collected: no anchor, no journal block since the root checkpoint. -/
def Gav.closedOf (g : Gav) (die : Nat) : List (Nat × NandBlk) :=
  (g.dieBlks die).filter (fun e => e.2.use == .closed && !g.jBlks.contains e.1)

/-- The score of a closed block in units of 2⁻²² (R404): inv, age and wear with 16 fractional bits, weights in 1/64. -/
def Dev.gcScore (d : Dev) (die k : Nat) : Int :=
  let g := d.gav
  let valid := (g.validIn k).length + (g.segsIn k).length
  let inv := if g.spb = 0 then 0 else (g.spb - valid) * 65536 / g.spb
  let no := ((g.closedOf die).map (fun e => e.2.nb)).foldl min g.nseq
  let age := if g.nseq = no then 0 else (g.nseq - (g.blk k).nb) * 65536 / (g.nseq - no)
  let wear := min 65536 (g.erasesOf k * 65536 / d.peRated)
  (d.rd F.GAV_GC_W_wv * inv + d.rd F.GAV_GC_W_wa * age : Nat) - (d.rd F.GAV_GC_W_ww * wear : Nat)

/-- The block with the highest score above 0, ties to the lower number. -/
def Dev.gcBest (d : Dev) (die : Nat) : Option Nat :=
  ((d.gav.closedOf die).foldl (fun (best : Option (Int × Nat)) e =>
    let s := d.gcScore die e.1
    if s ≤ 0 then best
    else
      match best with
      | none => some (s, e.1)
      | some b => if b.1 < s then some (s, e.1) else best) none).map (·.2)

/-- Begin collecting a block. -/
def Dev.gcBegin (d : Dev) (die k : Nat) : Dev :=
  ({ d with gav := { d.gav with gc := mput d.gav.gc die { src := k } } }).setF F.GAV_STATUS_gc_active

/-- GAV_GC_START: a die takes a block it must collect (a secure discard's, a failing one), or, at gc_low and until gc_high, the
best one; Storm defers it while more than gc_crit blocks are free (R405). -/
def Dev.gavGcStart (d : Dev) (die : Nat) : Dev :=
  if !d.gavServing || !d.dieUp die || (mget? d.gav.gc die).isSome then d
  else
    let must := (d.gav.discards.flatMap (·.blocks) ++ d.gav.doomed).find? (fun k =>
      k / 16384 == die && (d.gav.blk k).use == .closed)
    match must with
    | some k => d.gcBegin die k
    | none =>
      let free := d.gav.freeCount die
      let now := d.gav.gcNow.any (fun x => x.2.contains die)
      let want := now || (d.on F.GAV_CTRL_gc_en
        && (free ≤ d.rd F.GAV_GC_gc_low || (d.gav.collecting.contains die && free < d.rd F.GAV_GC_gc_high)))
      let defer := d.mode == .storm && !now && d.rd F.GAV_GC_gc_crit < free
      if !want then d
      else if defer then d.setF F.GAV_STATUS_gc_deferred
      else
        match d.gcBest die with
        | none => d
        | some k =>
          let d := { d with gav := { d.gav with collecting := if d.gav.collecting.contains die then d.gav.collecting else d.gav.collecting ++ [die] } }
          (d.clrF F.GAV_STATUS_gc_deferred).gcBegin die k

/-- Copy one valid sector into the die's collector stream; answers its SECT entry. -/
def Dev.gcCopy (d : Dev) (die lsn src : Nat) : Dev × List JEnt :=
  match mget? d.gav.sects src with
  | none => (d, [])
  | some x =>
    match d.sectorTake (256 + die) with
    | none => (d.gavStall, [])
    | some (d, place, q) =>
      let d := { d with gav := { d.gav with sects := mput d.gav.sects place { x with nseq := q } } }
      (d.mapSect lsn place, [.sect lsn place])

/-- GAV_GC_COPY_DONE: every sector the map names in the block has been copied; a target that failed is retired, and the copying
begins again in the next block (R410). -/
def Dev.gavGcCopyDone (d : Dev) (die : Nat) (reads : List (Nat × Bool)) (targetOk : Bool) : Dev :=
  match mget? d.gav.gc die with
  | none => d
  | some r =>
    if r.phase != .copy then d
    else if !targetOk then
      match mget? d.gav.opened (256 + die) with
      | none => d
      | some t => d.blkRetire t 0
    else
      let d := d.hardReads (fun lsn => (entryPlace (tget d.gav.map lsn)).any (fun p => d.gav.blkAt p == r.src)) reads
      let (d, js) := (d.gav.validIn r.src).foldl (fun (a : Dev × List JEnt) e =>
        let x := a.1.gcCopy die e.1 e.2
        (x.1, a.2 ++ x.2)) (d, [])
      let d := (d.gav.segsIn r.src).foldl (fun d s => d.segWrite s) d
      let left := !(d.gav.validIn r.src).isEmpty || !(d.gav.segsIn r.src).isEmpty
      let r := { r with sects := r.sects ++ js, phase := if left then .copy else .journal }
      { d with gav := { d.gav with gc := mput d.gav.gc die r } }

/-- A collection of a die is over: the die stops at gc_high, GAV_GC_NOW and discards look for their end, a stall for want of a
block ends. -/
def Dev.gcFinish (d : Dev) (die k : Nat) : Dev :=
  let free := d.gav.freeCount die
  let high := d.rd F.GAV_GC_gc_high ≤ free
  let g := { d.gav with
    gc := mdel d.gav.gc die,
    collecting := if high then d.gav.collecting.filter (fun x => x != die) else d.gav.collecting,
    gcNow := d.gav.gcNow.map (fun x => (x.1, if high then x.2.filter (fun y => y != die) else x.2)),
    discards := d.gav.discards.map (fun o => { o with blocks := o.blocks.filter (fun x => x != k) }) }
  let d := { d with gav := g }
  let d := d.flag F.GAV_STATUS_gc_active (!d.gav.gc.isEmpty)
  let d := if 0 < free then d.clrF F.GAV_STATUS_stalled else d
  let done := d.gav.gcNow.filter (fun x => x.2.isEmpty)
  let d := { d with gav := { d.gav with gcNow := d.gav.gcNow.filter (fun x => !x.2.isEmpty) } }
  (done.foldl (fun d x => d.okRes x.1) d).discardsEnd

/-- GAV_GC_ERASE: from the journal completion that carries the block's last SECT entry; not while the hold of R483 stands. A block
with an unreadable sector is retired instead, its data moved (R411), unless a secure discard needs its erase. -/
def Dev.gavGcErase (d : Dev) (die : Nat) : Dev :=
  match mget? d.gav.gc die with
  | none => d
  | some r =>
    if r.phase != .journal || r.sects.any d.gav.jpend.contains || d.hold then d
    else if d.gav.doomed.contains r.src && !(d.gav.discards.any (fun o => o.blocks.contains r.src)) then
      (d.blkRetire r.src 2).gcFinish die r.src
    else
      let b := d.gav.blk r.src
      let d := { d with gav := { d.gav with blks := mput d.gav.blks r.src { b with use := .erasing },
                                            gc := mput d.gav.gc die { r with phase := .erase } } }
      d.journal (.eraseBegin die (r.src % 16384))

/-- The sectors of a block are gone. -/
def Gav.wipe (g : Gav) (k : Nat) : Gav := { g with sects := g.sects.filter (fun e => g.blkAt e.1 != k) }

/-- GAV_ERASE_DONE: FREE is journaled with the erase count; a failed erase, an unreadable sector found and 1.5 × pe_rated erases
retire the block (R407, R410, R411). -/
def Dev.gavEraseDone (d : Dev) (die : Nat) (ok : Bool) : Dev :=
  match mget? d.gav.gc die with
  | none => d
  | some r =>
    if r.phase != .erase then d
    else if !ok then (d.blkRetire r.src 1).gcFinish die r.src
    else
      let b := d.gav.blk r.src
      let worn := 3 * d.peRated ≤ 2 * d.gav.erasesOf r.src
      let doomed := d.gav.doomed.contains r.src
      let d := { d with gav := (d.gav.wipe r.src) }
      let d := { d with gav := { d.gav with blks := mput d.gav.blks r.src { use := .free, erases := b.erases + 1 } } }
      let d := d.bump F.GAV_CNT_BLK_collected
      let d := if worn then d.blkRetire r.src 3 else if doomed then d.blkRetire r.src 2
        else d.journal (.free die (r.src % 16384) (d.gav.erasesOf r.src))
      d.gcFinish die r.src

/-- GAV_DIE_FAULT (R412): a permanent fault retires the die at once; a transient one is logged. -/
def Dev.gavDieFault (d : Dev) (die : Nat) (permanent : Bool) (lost : List Nat) : Dev :=
  if !d.dieUp die then d
  else if permanent then d.dieRetire die (Config.retireCause 4 2).toNat lost
  else d.trouble gavId 1 4 4 die ((mgetD d.gav.dieEv die []).length)

/-! ### Enable, mount, clean stop (R403, R409, R415, R421) -/

/-- What NAND keeps when Gavotte stops for a reset or a loss of power (R409): sectors programmed with good status stay mapped by the
scan of open blocks, entries not durable are gone, blocks whose FREE was not durable are erased again at the mount. -/
def Gav.stopped (g : Gav) : Gav :=
  let dmap := g.jpend.foldl (fun m e => match e with
    | .sect lsn place => tset m lsn (mapped place)
    | _ => m) g.dmap
  let again := g.jpend.filterMap (fun e => match e with
    | .free die blk _ => some (blkKey die blk)
    | _ => none)
  let torn := (g.blks.filter (fun e => e.2.use == .erasing)).map (·.1)
  let blks := g.blks.map (fun e =>
    if e.2.use == .erasing then (e.1, { use := BlkUse.free, erases := e.2.erases + 1 })
    else if e.2.use == .opened then (e.1, { e.2 with use := .closed })
    else if again.contains e.1 && e.2.use == .free then (e.1, { e.2 with erases := e.2.erases + 1 })
    else e)
  { luns := g.luns, planes := g.planes, page := g.page, ppb := g.ppb, blocks := g.blocks, present := g.present,
    formatted := g.formatted, clean := g.clean, sects := g.sects.filter (fun e => !torn.contains (g.blkAt e.1)), blks := blks,
    formats := g.formats, dmap := dmap, sysval := g.sysval, sdiscs := g.sdiscs, doomed := g.doomed, anchors := g.anchors, recGib := g.recGib, extGib := g.extGib,
    hostGib := g.hostGib, eGib := g.eGib, nseq := g.nseq, extDone := g.extDone, deadDies := g.deadDies, segAt := g.segAt }

/-- Show the geometry that the parameter pages gave (R389). -/
def Dev.gavGeom (d : Dev) : Dev :=
  let d := (d.wr F.GAV_GEOM0_luns d.gav.luns).wr F.GAV_GEOM0_planes d.gav.planes
  let d := (d.wr F.GAV_GEOM0_page d.gav.page).wr F.GAV_GEOM0_ppb d.gav.ppb
  (d.wr F.GAV_GEOM1_blocks d.gav.blocks).wr F.GAV_TGT_present d.gav.present

/-- Show the region sizes. -/
def Dev.gavCaps (d : Dev) : Dev :=
  let d := (d.wr F.GAV_CAP0_rec_gib d.gav.recGib).wr F.GAV_CAP0_host_gib d.gav.hostGib
  (d.wr F.GAV_CAP1_ext_gib d.gav.extGib).wr F.GAV_CAP1_e_gib d.gav.eGib

/-- The records held from a count on: the highest count with every record below it since the first held programmed. -/
def Gav.topRecord (g : Gav) (first unit : Nat) : Nat :=
  let recs := g.dmap.filterMap (fun e =>
    if recFirst ≤ e.1 && e.1 < g.extFirst then (entryPlace e.2).bind (fun p => mget? g.sects p) else none)
  let counts := recs.flatMap (fun x => (List.range 32).filterMap (fun i =>
    let l := leBytes 128 (bits x.data (1024 * i) 1024)
    let s := leAt l 0 8
    if byteAt l 127 = 0xA5 && s / 2 ^ 63 = unit then some (cnt63 s) else none))
  (counts.filter (fun c => first ≤ c)).foldl max (first - 1)

/-- Free and erase every block of a die that failed earlier and passes its test (R412). -/
def Gav.dieFree (g : Gav) (die : Nat) : Gav :=
  { g with blks := g.blks.map (fun e => if e.1 / 16384 == die then (e.1, { use := BlkUse.free, erases := e.2.erases + 1 }) else e),
           sects := g.sects.filter (fun e => g.blkAt e.1 / 16384 != die), deadDies := g.deadDies.filter (fun x => x != die) }

/-- GAV_MOUNT (R403): `rootOk` that a root checkpoint and the journal can be read, `dieOk` that dies retired before the power-on pass
their test. -/
def Dev.gavMount (d : Dev) (rootOk dieOk : Bool) : Dev :=
  if !d.on F.GAV_STATUS_mounting then d
  else
    let d := d.gavGeom
    let back := d.gav.deadDies.filter d.dieFit
    let d := if dieOk then { d with gav := back.foldl (fun g x => g.dieFree x) d.gav }
      else back.foldl (fun d x => d.dieRetire x (Config.retireCause 4 2).toNat []) d
    let anchored := d.gav.formatted && d.gav.anchors.any (fun a => d.dieUp a.1)
    if !anchored then { d with gav := { d.gav with mounted := some false } }
    else if !rootOk then ({ d with gav := { d.gav with mounted := some true } }).setF F.GAV_STATUS_mount_fail
    else
      let ops := if d.gav.sdiscs.isEmpty then []
        else [{ cmd := none, ranges := d.gav.sdiscs, begun := true, blocks := d.gav.discardBlks d.gav.sdiscs [] }]
      let g := { d.gav with map := d.gav.dmap, mounted := some true, extIssued := d.gav.extDone, discards := ops, clean := false }
      let d := ({ d with gav := g }).anchorsMove.gavCaps
      let d := d.wr F.GAV_NSEQ_LO_nseq d.gav.nseq
      let unit := ((mget? d.gav.sysval 1).getD (d.rd F.VAL_PAIR_unit * 2 ^ 63)) / 2 ^ 63
      let first := max 1 (cnt63 ((mget? d.gav.sysval 5).getD 1))
      let top := d.gav.topRecord first unit
      let oldest := max first (32 * (top / 32 + 1 - d.gav.recRegion))
      let d := (d.wr F.GAV_FLUSHED_LO_flushed (unit * 2 ^ 63 + top)).wr F.GAV_OLDEST_LO_oldest (unit * 2 ^ 63 + oldest)
      let d := { d with gav := { d.gav with recIssued := top, recDone := top },
                        cu := { d.cu with unitNext := max d.cu.unitNext d.gav.extDone } }
      d.spareShow.discardsEnd

/-- XDI_EXP_COMMIT and NEXT at a mount (R68, R76): from the journal after a reset that reached XDI's device, otherwise as they are,
and journaled again where the journal lags. -/
def Dev.commitLoad (d : Dev) : Dev :=
  let known := d.xdi.commitKnown
  let v := (mget? d.gav.sysval 2).getD 0
  if known then { d with xdi := { d.xdi with commitDirty := d.xdi.commitDirty || v != d.rd F.XDI_EXP_COMMIT_LO_commit } }
  else
    let d := { d with xdi := { d.xdi with commitKnown := true } }
    (d.wr F.XDI_EXP_COMMIT_LO_commit v).wr F.XDI_EXP_NEXT_LO_next (v + 1)

/-- BOL_EPOCH from the journal; 0xFF is the last (R225). -/
def Dev.epochLoad (d : Dev) (v : Nat) : Dev := (d.wr F.BOL_EPOCH_epoch v).flag F.BOL_STATUS_epoch_end (v == 0xFF)

/-- Whether an owner's newer value still waits for the journal (R402). -/
def Gav.sysvalDue (g : Gav) (id : Nat) : Bool :=
  g.jpend.any (fun e => match e with
    | .sysval i _ => i == id
    | _ => false)

/-- GAV_MOUNT_DONE: running, or unformatted where no anchor was found; the commit unit can read its mark (R158). -/
def Dev.gavMountDone (d : Dev) : Dev :=
  match d.gav.mounted with
  | none => d
  | some ok =>
    let d := ({ d with gav := { d.gav with mounted := none } }).clrF F.GAV_STATUS_mounting
    let d := d.raise 431
    if !ok then d.setF F.GAV_STATUS_unformatted
    else if d.on F.GAV_STATUS_mount_fail then d
    else
      let d := d.setF F.GAV_STATUS_running
      let d := d.commitLoad
      let d := if d.gav.sysvalDue 3 then d else ((mget? d.gav.sysval 3).map (fun v => d.epochLoad v)).getD d
      let d := if d.gav.sysvalDue 4 then d else ((mget? d.gav.sysval 4).map (fun v =>
        ({ d with msr := { d.msr with newer := v / 2 ^ 64 } }).wr F.MSR_CKPT_SEQ_LO_ckpt_seq v)).getD d
      d.commitRecover

/-- Program every owed record and unit, then the whole journal (R409, R415). -/
def Dev.gavFlushAll (d : Dev) : Dev :=
  let n := d.pubCount - d.gav.recIssued + (d.cu.unitNext - d.gav.extIssued)
  let d := foldN n (fun _ d => d.partialIssue) d
  let d := foldN (2 * d.gav.prog.length) (fun _ d => d.gavProgramDone true) d
  foldN (d.gav.jpend.length / 256 + 1) (fun _ d => d.gavJournalSector true) d

/-- The stop before Dormant (R415, R480): everything flushed, a root checkpoint, a clean stop recorded. -/
def Dev.gavCleanStop (d : Dev) : Dev :=
  if !d.on F.GAV_STATUS_running then d
  else
    let d := d.gavFlushAll.rootCheckpoint
    let d := foldN (d.gav.jpend.length / 256 + 1) (fun _ d => d.gavJournalSector true) d
    { d with gav := { d.gav with clean := true } }

/-- GAV_ENABLE: a write of GAV_CTRL; enable 1 mounts. DESIGN CHOICE (log entry 16): enable 0 stops Gavotte as Dormant does, with
everything flushed and a clean stop recorded (R415). -/
def Dev.gavEnable (d : Dev) (v : Nat) : Dev :=
  let was := d.on F.GAV_CTRL_enable
  let d := if was && !bit v 31 then ((d.gavCleanStop.clrF F.GAV_STATUS_running).clrF F.GAV_STATUS_mounting) else d
  let d := d.regWrite32 0xE0000 v
  let x := d.rd F.GAV_AREA_CFG_xring
  let m := d.rd F.GAV_AREA_CFG_mapc
  if was || !d.on F.GAV_CTRL_enable then d
  else if 1 ≤ x && x ≤ 32 && 1 ≤ m && m ≤ 32 && d.inDram (d.extBase - 0x8000000) (0x8000000 + (x + m) * 0x4000000) then
    (d.commitRwl 0xE0000).setF F.GAV_STATUS_mounting
  else (d.clrF F.GAV_CTRL_enable).setF F.GAV_STATUS_area_bad

/-- Minuet enables Gavotte, its control register's other fields as they stand. -/
def Dev.gavBoot (d : Dev) : Dev :=
  if d.on F.GAV_CTRL_enable then d else d.gavEnable (d.regWord 0xE0000 % 2 ^ 31 + 2 ^ 31)

/-! ### Reading records (R397) -/

/-- What reading a record gives. -/
inductive RecRead where
  | found (l : List Byte)
  | absent
  | lost
deriving DecidableEq, Repr

/-- A record from staging where it is still there, otherwise from NAND. -/
def Dev.archRead (d : Dev) (s : Nat) : RecRead :=
  let l := leBytes 128 (d.memRd (d.stgAddr s) 128)
  let c := cnt63 s
  if s ≤ d.rd F.REEL_STG_PUB_LO_stg_pub && s / 2 ^ 63 = d.unitBase / 2 ^ 63 && archSound l s then .found l
  else if s < d.rd F.GAV_OLDEST_LO_oldest || d.gav.recRegion = 0 || d.rd F.GAV_FLUSHED_LO_flushed < s then .absent
  else
    match d.gav.readLsn (d.gav.recLsn (c / 32)) with
    | none => .lost
    | some v =>
      let l := leBytes 128 (bits v (1024 * (c % 32)) 1024)
      if archSound l s then .found l else .absent

/-- The payload bytes of a record from byte 40 on, where it names extension units (R394): from DRAM while unflushed, otherwise from
NAND; none where a sector is lost. -/
def Dev.archExt (d : Dev) (l : List Byte) : Option (List Byte) :=
  let u := locUnits l
  (List.range u.2).foldl (fun (a : Option (List Byte)) i =>
    let n := u.1 + i
    match a with
    | none => none
    | some b =>
      if d.gav.extDone ≤ n || d.cu.unitNext ≤ n + d.extUnits then
        some (b ++ leBytes 64 (d.memRd (d.extBase + n % d.extUnits * 64) 64))
      else if d.gav.extRegion = 0 then none
      else (d.gav.readLsn (d.gav.extLsn (n / 64))).map (fun v => b ++ leBytes 64 (bits v (512 * (n % 64)) 512))) (some [])

/-! ### Ring opcodes and commands (R416–R418) -/

def gavRange : Nat := 0x8071
def gavMode : Nat := 0x8072
def gavNoSpace : Nat := 0x8073
def gavUnformatted : Nat := 0x8074

/-- Every opcode but GAV_FORMAT and GAV_INFO needs a format, and a mount in a mode of full service (R415, R418). -/
def Dev.gavServed (d : Dev) (c : Desc) (k : Dev → Dev) : Dev :=
  if d.on F.GAV_STATUS_unformatted then d.fail c gavUnformatted
  else if !d.gavServing then d.fail c gavMode
  else k d

/-- ARC_READ. -/
def Dev.arcRead (d : Dev) (c : Desc) (reads : List (Nat × Bool)) : Dev :=
  d.withFields c [(8, 20), (24, 36)] fun d => d.gavServed c fun d =>
    let first := wArg c.w 24 8
    let n := wArg c.w 32 4
    if wLen c.w != 128 * n then d.fail c stBadField
    else if first < d.rd F.GAV_OLDEST_LO_oldest then d.fail c gavRange
    else
      let k := cnt63 first / 32
      let d := d.hardReads (fun lsn => (List.range (n / 32 + 2)).any (fun i => d.gav.recLsn (k + i) == lsn)) reads
      let rs := (List.range n).map (fun i => d.archRead (first + i))
      let ok := rs.takeWhile (fun r => r != .lost)
      let body := ok.flatMap (fun r => match r with
        | .found l => l
        | _ => zeros 128)
      let data := [(wAddr c.w, body)]
      if ok.length = n then d.finish c { status := 0, result := n, data := data }
      else d.finish c { status := stMediaError, result := ok.length, result2 := first + ok.length, data := data }

/-- Whether a range of host sectors lies in the host region. -/
def Dev.hostRangeOk (d : Dev) (c : Desc) : Bool := wArg c.w 24 8 + wArg c.w 32 4 ≤ d.gav.hostSectors

/-- ARC_BLK_READ. -/
def Dev.arcBlkRead (d : Dev) (c : Desc) (reads : List (Nat × Bool)) : Dev :=
  d.withFields c [(8, 20), (24, 36)] fun d => d.gavServed c fun d =>
    let n := wArg c.w 32 4
    let lsn := d.gav.hostFirst + wArg c.w 24 8
    if wLen c.w != 4096 * n then d.fail c stBadField
    else if !d.hostRangeOk c then d.fail c gavRange
    else
      let d := d.hardReads (fun l => lsn ≤ l && l < lsn + n) reads
      let ok := ((List.range n).map (fun i => d.gav.readLsn (lsn + i))).takeWhile (·.isSome)
      let data := [(wAddr c.w, ok.flatMap (fun v => leBytes 4096 (v.getD 0)))]
      d.finish c { status := if ok.length = n then 0 else stMediaError, result := ok.length, data := data }

/-- ARC_BLK_WRITE: it completes when every sector has been programmed (R392). -/
def Dev.arcBlkWrite (d : Dev) (c : Desc) : Dev :=
  d.withFields c [(8, 20), (24, 36)] fun d => d.gavServed c fun d =>
    let n := wArg c.w 32 4
    let lsn := d.gav.hostFirst + wArg c.w 24 8
    if wLen c.w != 4096 * n then d.fail c stBadField
    else if !d.hostRangeOk c then d.fail c gavRange
    else if c.data.length != wLen c.w then d.fail c stHostFault
    else if d.on F.GAV_STATUS_host_ro then d.fail c gavNoSpace
    else if n = 0 then d.okRes c
    else
      let d := { d with gav := { d.gav with writes := d.gav.writes ++ [(c, n)] } }
      ((chunks 4096 c.data).zip (List.range n)).foldl (fun d p =>
        d.progIssue 2 { lsn := lsn + p.2, nseq := 0, kind := 2, data := leNat p.1 } 0 (some c)) d

/-- ARC_TRIM: it completes when the trim is durable. -/
def Dev.arcTrim (d : Dev) (c : Desc) : Dev :=
  d.withFields c [(24, 36)] fun d => d.gavServed c fun d =>
    if !d.hostRangeOk c then d.fail c gavRange
    else
      let lsn := d.gav.hostFirst + wArg c.w 24 8
      let e := JEnt.trim lsn (wArg c.w 32 4) d.gav.nseq
      let d := d.mapTrim lsn (wArg c.w 32 4)
      { d with gav := { d.gav with trims := d.gav.trims ++ [(c, e)] } }

/-- A secure discard begins: trims and SDISC entries are journaled (R408 step 1). -/
def Dev.discard (d : Dev) (o : SdOp) : Dev :=
  let d := o.ranges.foldl (fun d r => (d.mapTrim r.1 r.2).journal (.sdisc true r.1 r.2)) d
  { d with gav := { d.gav with discards := d.gav.discards ++ [o] } }

/-- ARC_SDISCARD. -/
def Dev.arcSdiscard (d : Dev) (c : Desc) : Dev :=
  d.withFields c [(24, 36)] fun d => d.gavServed c fun d =>
    if !d.hostRangeOk c then d.fail c gavRange
    else d.discard { cmd := some c, ranges := [(d.gav.hostFirst + wArg c.w 24 8, wArg c.w 32 4)] }

/-- ARC_FLUSH. -/
def Dev.arcFlush (d : Dev) (c : Desc) : Dev :=
  d.withFields c [] fun d => d.gavServed c fun d =>
    let s := d.rd F.REEL_STG_PUB_LO_stg_pub
    if s ≤ d.rd F.GAV_FLUSHED_LO_flushed then d.okRes c
    else { d with gav := { d.gav with flushes := d.gav.flushes ++ [(c, s)] } }

/-- E in GiB: 90 % of the data capacity of the good blocks, whole GiB, at most 24,576 (R391). -/
def Dev.capacityE (d : Dev) : Nat :=
  let g := d.gav
  let bad := (g.blks.filter (fun e => d.dieUp (e.1 / 16384) && e.2.use == .retired)).length
  min 24576 ((d.diesUp.length * g.blocks - bad) * g.spb * 9 / 10 / 262144)

/-- R417: what a format leaves of Gavotte: the good blocks free with their erase counts, the regions sized, nothing mapped. -/
def Dev.gavErased (d : Dev) (r x h : Nat) : Gav :=
  let g := d.gav
  let blks := (g.blks.filter (fun e => e.2.use == .retired || e.2.erases != 0)).map (fun e =>
    (e.1, { e.2 with use := if e.2.use == .retired then .retired else .free, next := 0, nb := 0 }))
  { luns := g.luns, planes := g.planes, page := g.page, ppb := g.ppb, blocks := g.blocks, present := g.present,
    formatted := true, blks := blks, formats := g.formats + 1, recGib := r, extGib := x, hostGib := h,
    eGib := d.capacityE, nseq := g.nseq, deadDies := g.deadDies, recIssued := d.pubCount, recDone := d.pubCount,
    extIssued := d.cu.unitNext, extDone := d.cu.unitNext }

/-- R403: the anchors are written to their first choice of blocks. -/
def Dev.anchorsWrite (d : Dev) : Dev :=
  let d := { d with gav := { d.gav with anchors := d.anchorPick } }
  let blks := d.gav.anchors.foldl (fun m a => mput m (blkKey a.1 a.2) { mgetD m (blkKey a.1 a.2) {} with use := .anchor }) d.gav.blks
  { d with gav := { d.gav with blks := blks } }

/-- GAV_FORMAT: every good block erased (with them what other blocks keep in the system region), the regions sized, anchors written. -/
def Dev.gavFormat (d : Dev) (c : Desc) : Dev :=
  d.withFields c [(24, 40)] fun d =>
    let r := wArg c.w 28 4
    let x := wArg c.w 32 4
    let h := wArg c.w 36 4
    if d.on F.REEL_CTRL_enable then d.fail c gavMode
    else if wArg c.w 24 4 != 0x464D9640 || d.capacityE < r + x + h + 1 then d.fail c stBadField
    else
      let d := ({ d with gav := d.gavErased r x h, upd := { d.upd with tables := [] }, msr := { d.msr with copies := [] } }).gavGeom
      let d := d.anchorsWrite.gavCaps
      let d := (d.wr F.GAV_FLUSHED_LO_flushed (d.rd F.REEL_STG_PUB_LO_stg_pub)).wr F.GAV_OLDEST_LO_oldest
        (d.rd F.REEL_STG_PUB_LO_stg_pub + 1)
      let d := (d.clrF F.GAV_STATUS_unformatted).flag F.GAV_STATUS_running (d.on F.GAV_CTRL_enable)
      d.spareShow.okRes c d.gav.eGib

/-- GAV_INFO. -/
def Dev.gavInfo (d : Dev) (c : Desc) : Dev :=
  d.withFields c [] fun d =>
    d.okRes c (d.rd F.GAV_CAP1_e_gib + d.diesUp.length * 2 ^ 16) (uns 64 (sgn 32 (d.rd F.GAV_SPARE_spare)))

/-- R417: whether record sector k holds a record outside the range of counts a to b, so that it is rewritten in part. -/
def sdKeeps (a b k : Nat) : Bool := 32 * k < a || b < 32 * k + 31

/-- R417: the 64-byte units that the extended records of counts a to b occupy. -/
def Dev.sdUnits (d : Dev) (a b : Nat) : List Nat :=
  ((List.range (b + 1 - a)).filterMap (fun i =>
    match d.archRead (d.unitBase + a + i) with
    | .found l => if bit (byteAt l 47) 0 then some (locUnits l) else none
    | _ => none)).flatMap (fun u => (List.range u.2).map (fun i => u.1 + i))

/-- R417: a mapped sector is rewritten with what f leaves of its data. -/
def Dev.sectorErasePart (d : Dev) (st lsn kind : Nat) (f : Nat → Nat) : Dev :=
  match entryPlace (tget d.gav.map lsn), d.gav.readLsn lsn with
  | some _, some v => d.sectorWrite st lsn kind false (f v)
  | _, _ => d

/-- R417: the records of counts a to b are removed from record sector k. -/
def Dev.sdEraseRecs (d : Dev) (a b k : Nat) : Dev :=
  d.sectorErasePart 0 (d.gav.recLsn k) 0 (fun v =>
    foldN 32 (fun i v => if a ≤ 32 * k + i && 32 * k + i ≤ b then setBits v (1024 * i) 1024 0 else v) v)

/-- R417: the units are removed from extension sector e. -/
def Dev.sdEraseUnits (d : Dev) (units : List Nat) (e : Nat) : Dev :=
  d.sectorErasePart 1 (d.gav.extLsn e) 1 (fun v =>
    foldN 64 (fun i v => if units.contains (64 * e + i) then setBits v (512 * i) 512 0 else v) v)

/-- GAV_SDISCARD_SEQ: whole record sectors are trimmed; those covered in part are rewritten without the discarded slots, extension
sectors without the discarded units. -/
def Dev.gavSdiscardSeq (d : Dev) (c : Desc) : Dev :=
  d.withFields c [(24, 40)] fun d => d.gavServed c fun d =>
    let lo := wArg c.w 24 8
    let hi := wArg c.w 32 8
    if lo < d.rd F.GAV_OLDEST_LO_oldest || hi < lo then d.fail c gavRange
    else
      let a := cnt63 lo
      let b := min (cnt63 hi) d.pubCount
      let ks := (List.range (b / 32 + 1 - a / 32)).map (fun i => a / 32 + i)
      let part := ks.filter (sdKeeps a b)
      let units := d.sdUnits a b
      let d := part.foldl (fun d k => d.sdEraseRecs a b k) d
      let es := (units.map (· / 64)).eraseDups
      let d := es.foldl (fun d e => d.sdEraseUnits units e) d
      let whole := ks.filter (fun k => !sdKeeps a b k)
      d.discard { cmd := some c, ranges := whole.map (fun k => (d.gav.recLsn k, 1)), seqs := some (lo, hi),
                  part := part.map d.gav.recLsn ++ es.map d.gav.extLsn }

/-- GAV_GC_NOW. -/
def Dev.gavGcNow (d : Dev) (c : Desc) : Dev :=
  d.withFields c [(24, 40)] fun d => d.gavServed c fun d =>
    let m := wArg c.w 24 16
    let dies := d.diesUp.filter (fun x => bit m x && d.gav.freeCount x < d.rd F.GAV_GC_gc_high)
    if dies.isEmpty then d.okRes c
    else { d with gav := { d.gav with gcNow := d.gav.gcNow ++ [(c, dies)] } }

/-- GAV_MARK_LOST_CLEAR. -/
def Dev.gavMarkLostClear (d : Dev) (c : Desc) : Dev :=
  d.withFields c [(24, 36)] fun d => d.gavServed c fun d =>
    let lsn := wArg c.w 24 8
    let n := wArg c.w 32 4
    if d.gav.hostFirst + d.gav.hostSectors < lsn + n then d.fail c gavRange
    else
      let hit := (d.gav.map.filter (fun e => lsn ≤ e.1 && e.1 < lsn + n && bit e.2 62)).map (·.1)
      (hit.foldl (fun d l => d.mapTrim l 1) d).okRes c

end Sys2Proof.Machine
end

