-- ==== Sys2Proof/Machine/Wlz.lean ====
section
/-! DEFINITION. Waltz (chapter 7): node and group tables, profiles, phase votes, the interval balance and its revisions, topology
inference, anomaly scoring, restoration reports, the commands. -/

namespace Sys2Proof.Machine

/-! ### Areas and tables (R183–R188) -/

/-- The address of Waltz area a: 0 nodes, 1 groups, 2 suspicion list, 3 profiles, 4 history, 5 reports. -/
def Dev.wlzBase (d : Dev) (a : Nat) : Nat :=
  d.rd (F.WLZ_BASE_HI_base_hi.at a) * 2 ^ 32 + d.rd (F.WLZ_BASE_LO_base_lo.at a) * 2 ^ 12

/-- The size of area a (R187). -/
def Dev.wlzSize (d : Dev) (a : Nat) : Nat :=
  let nodes := d.rd F.WLZ_SIZES_nodes
  if a = 0 then 64 + 64 * nodes
  else if a = 1 then 64 + 512 * d.rd F.WLZ_SIZES_groups + 32992
  else if a = 2 then 64 + 65536 * 32
  else if a = 3 then 0x100000 * 3072
  else if a = 4 then nodes * 2048 * 32
  else 2 * 0x210000

/-- Whether the areas pass R187. -/
def Dev.wlzAreasOk (d : Dev) : Bool :=
  (List.range 5).all (fun a => d.inDram (d.wlzBase a) (d.wlzSize a)) && inHall (d.wlzBase 5) (d.wlzSize 5)
    && (List.range 6).all (fun a => (List.range a).all (fun b =>
      d.wlzBase a + d.wlzSize a ≤ d.wlzBase b || d.wlzBase b + d.wlzSize b ≤ d.wlzBase a))

/-- Node records in force. -/
def Dev.nodeCount (d : Dev) : Nat :=
  let h := d.memRd (d.wlzBase 0) 8
  if byts h 0 3 = 0x14E54 then byts h 4 4 else 0

/-- A node record as a number, and its fields. -/
def Dev.nodeRec (d : Dev) (n : Nat) : Nat := d.memRd (d.wlzBase 0 + 64 + 64 * n) 64
def nKind (r : Nat) : Nat := byts r 2 1
def nFlags (r : Nat) : Nat := byts r 3 1
def nParent (r : Nat) : Nat := byts r 4 2
def nGroup (r : Nat) : Nat := byts r 6 2
def nSupply (r : Nat) : Nat := byts r 8 4
def nRated (r : Nat) : Nat := byts r 12 4
def nNl (r : Nat) : Nat := byts r 16 2
def nLl (r : Nat) : Nat := byts r 20 4

/-- Whether a node is one that meters and supplies can name. -/
def Dev.nodeOk (d : Dev) (n : Nat) : Bool := n < d.nodeCount && nKind (d.nodeRec n) != 0

/-- The node a meter supplies. -/
def Dev.supplies (d : Dev) (i : Nat) : Option Nat :=
  (List.range d.nodeCount).find? (fun n =>
    let s := nSupply (d.nodeRec n)
    nKind (d.nodeRec n) != 0 && bit s 31 && s % 2 ^ 20 == i)

/-- The nodes of a candidate group. -/
def Dev.groupNodes (d : Dev) (g : Nat) : List Nat :=
  ((List.range 256).map (fun k => d.memRd (d.wlzBase 1 + 64 + 512 * g + 2 * k) 2)).filter d.nodeOk

/-- The attachment map's entry of an attachment word: group, ref_phase, shift_ns (R188); none before a table is loaded. -/
def Dev.attEntry (d : Dev) (att : Nat) : Option (Nat × Nat × Int) :=
  let e := match attKey att with
    | some k => some k
    | none => if atKind att = 4 then some (28 + atChan att) else none
  match e with
  | none => none
  | some e =>
    if d.memRd (d.wlzBase 1) 2 != 0x4754 then none
    else
      let v := d.memRd (d.wlzBase 1 + 64 + 512 * d.rd F.WLZ_SIZES_groups + 8 * e) 8
      some (byts v 0 2, byts v 2 1, sgn 32 (byts v 4 4))

/-- Whether a record's state lets it count as a member (R185). -/
def memberState (r : Nat) : Bool :=
  rg r R.state == stActive || rg r R.state == stAdrift || rg r R.state == stQuarantined

/-- Whether a record is a member of a node. -/
def Dev.isMember (d : Dev) (i r n : Nat) : Bool := rg r R.node == n && memberState r && (d.supplies i).isNone

/-! ### Profiles (R192) -/

/-- A meter's profile slot. -/
def Dev.profAddr (d : Dev) (i : Nat) : Nat := d.wlzBase 3 + i * 3072

/-- A slot with nothing in it: every point missing, no best node, no correlation. -/
def Dev.profBlank (d : Dev) (i : Nat) : Nat :=
  let p := i % 2 ^ 20 + 2 ^ 31
  let p := setByts (setByts (setByts p 32 4 0xFFFFFFFF) 48 2 0x8000) 50 2 ((d.supplies i).getD 0xFFFF)
  setByts p 1472 1408 (2 ^ 11264 - 1)

/-- The slot of a meter; one never written counts as blank (log). -/
def Dev.prof (d : Dev) (i : Nat) : Nat :=
  let p := d.memRd (d.profAddr i) 3072
  if bit p 31 then p else d.profBlank i

/-- Write a slot. -/
def Dev.profPut (d : Dev) (i p : Nat) : Dev := d.memWr (d.profAddr i) 3072 p

def pfLast (p : Nat) : Nat := byts p 4 4
def pfEwma (p : Nat) : Nat := byts p 8 4
def pfFlag (p k : Nat) : Bool := bit (byts p 46 2) k
def pfSetFlag (p k : Nat) (b : Bool) : Nat := setByts p 46 2 (setBits (byts p 46 2) k 1 (b2n b))

/-- Whether the rings of a slot reach base interval b. -/
def pfHas (p b : Nat) : Bool := b ≤ pfLast p && pfLast p < b + 704

/-- The voltage point of b: 0 missing. -/
def pfVolt (p b : Nat) : Nat := if pfHas p b then byts p (64 + 2 * (b % 704)) 2 else 0

/-- The energy point of b: 0xFFFF missing. -/
def pfEnergy (p b : Nat) : Nat := if pfHas p b then byts p (1472 + 2 * (b % 704)) 2 else 0xFFFF

/-- Mark the point of b missing. -/
def pfMissing (p b : Nat) : Nat := setByts (setByts p (64 + 2 * (b % 704)) 2 0) (1472 + 2 * (b % 704)) 2 0xFFFF

/-- Bring a slot's rings up to b. -/
def pfAdvance (p b : Nat) : Nat :=
  if b ≤ pfLast p then p
  else setByts (foldN (min 704 (b - pfLast p)) (fun k p => pfMissing p (b - k)) p) 4 4 b

/-! ### Counts per node (R186) -/

/-- Change a node's counts; a member beyond 65,535 counts as unassigned instead (R185). -/
def Dev.nodeAdd (d : Dev) (n : Nat) (up : Bool) (unsettled : Bool) (ewma : Int) : Dev :=
  let add (m : Map Nat) : Map Nat := mput m n (if up then mgetD m n 0 + 1 else mgetD m n 0 - 1)
  if up && mgetD d.wlz.members n 0 = 65535 then d.bump F.WLZ_CNT_A_unassigned
  else
    let w := d.wlz
    let e := mgetD w.sumEwma n 0 + (if up then ewma else -ewma)
    { d with wlz := { w with
      members := add w.members, unsettled := if unsettled then add w.unsettled else w.unsettled, sumEwma := mput w.sumEwma n e } }

/-- Recount every node from the MSR (R186). -/
def Dev.wlzRecount (d : Dev) : Dev :=
  let d := { d with wlz := { d.wlz with members := [], unsettled := [], sumEwma := [], recounted := true } }
  d.msrRecs.foldl (fun d e =>
    let n := rg e.2 R.node
    if !d.nodeOk n || !d.isMember e.1 e.2 n then d
    else
      let p := d.prof e.1
      d.nodeAdd n true (pfFlag p 2) (pfEwma p / 16)) d

/-- A meter moves from one node to another: the counts at once. -/
def Dev.nodeMove (d : Dev) (i old new : Nat) : Dev :=
  let p := d.prof i
  let e : Int := (pfEwma p / 16 : Nat)
  let d := if d.nodeOk old then d.nodeAdd old false (pfFlag p 2) e else d
  if d.nodeOk new then d.nodeAdd new true (pfFlag p 2) e else d

/-! ### History (R196–R199) -/

/-- The base interval in seconds, the interval now open, the last one due to close. -/
def Dev.baseS (d : Dev) : Nat := d.rd F.WLZ_CTRL_base_s
def Dev.curB (d : Dev) : Nat := d.dwnNow / d.baseS + 1
def Dev.dueB (d : Dev) : Nat := (d.dwnNow - d.rd F.WLZ_CLOSE_close_delay) / d.baseS
def Dev.lastB (d : Dev) : Nat := d.rd F.WLZ_LAST_CLOSED_b

/-- The revision window. -/
def Dev.revise (d : Dev) : Nat := min (d.rd F.WLZ_CLOSE_revise) 1024

def Dev.histAddr (d : Dev) (n b : Nat) : Nat := d.wlzBase 4 + (n * 2048 + b % 2048) * 32

/-- The entry of node n for b; one with another tag, or never opened, counts as cleared. -/
def Dev.hist (d : Dev) (n b : Nat) : Nat :=
  let e := d.memRd (d.histAddr n b) 32
  if byts e 0 4 = b && byts e 28 2 % 4 != 0 then e else setByts (setByts b 4 4 0xFFFFFFFF) 28 2 1

def Dev.histPut (d : Dev) (n b e : Nat) : Dev := d.memWr (d.histAddr n b) 32 e

/-- Fields of an entry. -/
def hSupply (e : Nat) : Option Nat := if byts e 4 4 = 0xFFFFFFFF then none else some (byts e 4 4)
def hLoad (e : Nat) : Int := sgn 32 (byts e 8 4)
def hChild (e : Nat) : Nat := byts e 12 4
def hSubst (e : Nat) : Nat := byts e 16 4
def hReporting (e : Nat) : Nat := byts e 20 2
def hMembers (e : Nat) : Nat := byts e 22 2
def hLoss (e : Nat) : Int := sgn 32 (byts e 24 4)
def hFlags (e : Nat) : Nat := byts e 28 2
def hFlag (e k : Nat) : Bool := bit (hFlags e) k
def hSetFlag (e k : Nat) (b : Bool) : Nat := setByts e 28 2 (setBits (hFlags e) k 1 (b2n b))

/-- Members of a node by the counts in force. -/
def Dev.membersOf (d : Dev) (n : Nat) : Nat := mgetD d.wlz.members n 0

/-- The substitute for members that did not report (R197). -/
def Dev.substOf (d : Dev) (n reporting : Nat) : Nat :=
  let m := d.membersOf n
  if m = 0 then 0 else (m - min reporting m) * ((mgetD d.wlz.sumEwma n 0).toNat / m)

/-- Whether an inference run has completed since the last load, or the node is in no candidate group (R197). -/
def Dev.settledSince (d : Dev) (n : Nat) : Bool := nGroup (d.nodeRec n) == 0xFFFF || d.on F.WLZ_STATUS_settled

/-- The energy an entry passes to the parent. -/
def hInflow (e : Nat) : Int :=
  match hSupply e with
  | none => hLoad e + hSubst e + hChild e
  | some s => s

/-- Close base interval b of one node (R197). -/
def Dev.closeNode (d : Dev) (n b : Nat) (rebuilt : Bool) : Dev :=
  let e := d.hist n b
  let m := d.membersOf n
  let r := min (hReporting e) m
  let subst := d.substOf n (hReporting e)
  let e := setByts e 16 4 subst
  let loss := match hSupply e with
    | none => 0
    | some s => (s : Int) - hLoad e - hChild e - subst
  let e := hSetFlag (setByts e 24 4 (uns 32 loss)) 3 (hSupply e).isNone
  let e := if 0 < m && r * 256 < d.rd F.WLZ_COVER_cov_min * m then hSetFlag e 4 true else e
  let topo := d.rd F.WLZ_COVER_unsettled_max * m < mgetD d.wlz.unsettled n 0 * 256 || !d.settledSince n
  let e := if topo then hSetFlag e 5 true else e
  let e := hSetFlag (hSetFlag (setByts e 22 2 m) 1 true) 0 false
  let e := if rebuilt then hSetFlag e 12 true else e
  let d := d.histPut n b e
  let par := nParent (d.nodeRec n)
  if par = 0xFFFF then d
  else
    let q := d.hist par b
    let q := setByts q 12 4 (hChild q + (max (hInflow e) 0).toNat)
    d.histPut par b (if (hSupply e).isNone then hSetFlag q 6 true else q)

/-- Close base interval b over every node, in descending order. -/
def Dev.closeAll (d : Dev) (b : Nat) (rebuilt : Bool) : Dev :=
  let n := d.nodeCount
  foldN n (fun i d => d.closeNode (n - 1 - i) b rebuilt) d

/-- The open base intervals: those after the last closed one, or from the first that would close (log entry 34). -/
def Dev.openB (d : Dev) : List Nat :=
  let lo := max 1 (if d.lastB = 0 then d.dueB else d.lastB + 1)
  (List.range (min 2048 (d.curB + 1 - lo))).map (fun k => d.curB - k)

/-- Set flag k in the entries of node n for the open base intervals, with or without a feed yet (R213). -/
def Dev.markOpen (d : Dev) (n k : Nat) : Dev :=
  d.openB.foldl (fun d b => d.histPut n b (hSetFlag (d.hist n b) k true)) d

/-! ### The node table's load (R183, R184) -/

def wlzBadTable : Nat := 0x8021
def wlzMode : Nat := 0x8022
def wlzRange : Nat := 0x8023
def wlzNoReport : Nat := 0x8024
def wlzNotRunning : Nat := 0x8025

/-- Every opcode ends with WLZ_MODE in Boot or Recovery. -/
def Dev.wlzServed (d : Dev) (c : Desc) (k : Dev → Dev) : Dev :=
  if d.mode == .boot || d.mode == .recovery then d.fail c wlzMode else k d

/-- An opcode that needs Waltz to run. -/
def Dev.wlzRunning (d : Dev) (c : Desc) (k : Dev → Dev) : Dev :=
  d.wlzServed c fun d => if !d.on F.WLZ_STATUS_running then d.fail c wlzNotRunning else k d

/-- A refused image (R184). -/
def Dev.tableBad (d : Dev) (c : Desc) (which : Nat) : Dev :=
  ((d.setF F.WLZ_ERR_table_bad).raise 233).finish c { status := wlzBadTable, result2 := which }

/-- The depths of nodes 0 … n - 1 by an image's parents, none at a bad parent, and the first node of an image that R184 refuses. -/
def nodeBad (img : Nat) (n groups : Nat) : Option Nat :=
  let rc (k : Nat) : Nat := byts img (64 + 64 * k) 64
  let depth : List Nat := (List.range n).foldl (fun ds k =>
    let p := nParent (rc k)
    ds ++ [if p = 0xFFFF then 1 else (ds[p]?).getD 8 + 1]) []
  (List.range n).find? (fun k =>
    let r := rc k
    let p := nParent r
    byts r 0 2 != k || 6 < nKind r || !(p == 0xFFFF || (p < k && nKind (rc p) != 0)) || 8 < (depth[k]?).getD 9
      || !(nGroup r == 0xFFFF || nGroup r < groups) || (nKind r == 4 && nFlags r % 4 == 0)
      || (bit (nSupply r) 31 && (List.range k).any (fun j =>
        bit (nSupply (rc j)) 31 && nSupply (rc j) % 2 ^ 20 == nSupply r % 2 ^ 20)))

/-- Put a node table in force (also when Minuet reloads a saved one, R215). -/
def Dev.nodesApply (d : Dev) (img : List Byte) : Dev :=
  let d := (d.memWrB (d.wlzBase 0) img).clrF F.WLZ_STATUS_settled
  let d := d.msrRecs.foldl (fun d e =>
    let p := d.memRd (d.profAddr e.1) 3072
    if bit p 31 then d.profPut e.1 (setByts p 50 2 ((d.supplies e.1).getD 0xFFFF)) else d) d
  (foldN d.nodeCount (fun n d => d.markOpen n 13) d).wlzRecount

/-- WLZ_NODE_LOAD; during a close it waits for the close (R213). -/
def Dev.wlzNodeLoad (d : Dev) (c : Desc) : Dev :=
  d.withFields c [(8, 20), (24, 25)] fun d => d.wlzServed c fun d =>
    if d.wlz.closeAt.isSome then { d with wlz := { d.wlz with loads := d.wlz.loads ++ [c] } }
    else
      let l := c.data
      let n := leAt l 4 4
      let ok := leAt l 0 2 == 0x4E54 && byteAt l 2 == 1 && 1 ≤ n && n ≤ d.rd F.WLZ_SIZES_nodes && l.length == 64 + 64 * n
        && leAt l 8 4 == crc32c 0xFFFFFFFF (l.drop 64)
      if 1 < wArg c.w 24 1 then d.fail c stBadField
      else if l.length != wLen c.w then d.fail c stHostFault
      else if !ok then d.tableBad c 0xFFFF
      else
        match nodeBad (leNat l) n (d.rd F.WLZ_SIZES_groups) with
        | some k => d.tableBad c k
        | none =>
          let d := d.nodesApply l
          if wArg c.w 24 1 = 1 then d.tableSave tabNodes (imgTab l) (some c) n else d.okRes c n

/-- Loads that waited for a close take effect. -/
def Dev.loadsGo (d : Dev) : Dev :=
  let l := d.wlz.loads
  l.foldl (fun (d : Dev) c => d.wlzNodeLoad c) { d with wlz := { d.wlz with loads := [] } }

/-! ### Closing (R197) -/

/-- The close in wait takes place; loads that waited for it follow (R213). -/
def Dev.closeNow (d : Dev) (b : Nat) : Dev :=
  let d := (d.closeAll b false).wr F.WLZ_LAST_CLOSED_b b
  let d := ({ d with wlz := { d.wlz with closeAt := none } }).clrF F.WLZ_STATUS_closing
  ((d.setF F.WLZ_STATUS_hist_valid).raise 224).loadsGo

/-- INTERVAL_CLOSE: due close_delay after the interval's end; it waits for the feeds up to the sequence held then (R197). Where no
interval was ever closed the first close is of the latest one due (log). -/
def Dev.intervalClose (d : Dev) : Dev :=
  if !d.on F.WLZ_STATUS_running then d
  else
    let (b, s) := d.wlz.closeAt.getD
      (if d.lastB = 0 then d.dueB else d.lastB + 1, d.rd F.REEL_SEQ_NEXT_LO_seq_next - 1)
    if d.dueB < b || b = 0 then d
    else if s ≤ d.rd F.REEL_WLZ_ACK_LO_wlz_ack then d.closeNow b
    else ({ d with wlz := { d.wlz with closeAt := some (b, s) } }).setF F.WLZ_STATUS_closing

/-- Apply a revision's consequences at a closed entry (R199 steps 2–4). -/
def Dev.reviseNode (d : Dev) (n b e : Nat) (old : Int) (supplyChanged : Bool) : Dev :=
  let subst := d.substOf n (hReporting e)
  let e := setByts e 16 4 subst
  let loss := match hSupply e with
    | none => 0
    | some s => (s : Int) - hLoad e - hChild e - subst
  let e := hSetFlag (setByts e 24 4 (uns 32 loss)) 3 (hSupply e).isNone
  let e := setByts (hSetFlag e 2 true) 28 2 (setBits (hFlags (hSetFlag e 2 true)) 9 3 (min 7 (bits (hFlags e) 9 3 + 1)))
  let d := d.histPut n b e
  let par := nParent (d.nodeRec n)
  let d :=
    if supplyChanged && par != 0xFFFF then
      let dx := max (hInflow e) 0 - max old 0
      let q := d.hist par b
      let q := setByts q 12 4 (uns 32 (hChild q + dx))
      let q := if (hSupply q).isSome then setByts q 24 4 (uns 32 (hLoss q - dx)) else q
      d.histPut par b (hSetFlag q 2 true)
    else d
  if d.wlz.revAt.any (fun t => d.tick < t + sNs) then d
  else ({ d with wlz := { d.wlz with revAt := some d.tick } }).raise 225

/-! ### The feed (R189–R192) -/

/-- What a slot gives Waltz. -/
structure Feed where
  seq : Nat
  index : Nat
  node : Nat
  ftype : Nat
  rxS : Nat
  interval : Nat := 0
  intervalS : Nat := 0
  rflags : Nat := 0
  first : Bool := false
  d0 : Int := 0
  d1 : Int := 0
  volts : List Nat := []
  zc : Nat := 0x7FFFFFFF
  attach : Nat := 0
deriving DecidableEq, Repr

/-- The feed of an archive record; d_reg0 and d_reg1 as given. -/
def feedOf (l : List Byte) (d0 d1 : Int) : Feed :=
  let body := l.drop 76
  { seq := leAt l 0 8, index := leAt l 16 4 % 2 ^ 20, node := leAt l 42 2, ftype := bits (leAt l 16 4) 20 4, rxS := leAt l 32 4,
    interval := leAt body 0 4, intervalS := leAt body 4 2, rflags := leAt body 6 2, first := bit (byteAt l 47) 1, d0 := d0,
    d1 := d1, volts := (List.range 3).map (fun k => leAt body (40 + 2 * k) 2), zc := leAt l 56 4, attach := leAt l 60 8 }

/-- The base intervals a feed fills, each with its energies; whether they are spread, whether they add to a point (R191). -/
def Dev.feedPoints (d : Dev) (f : Feed) : Option (List (Nat × Int × Int) × Bool × Bool) :=
  let base := d.baseS
  let m := f.intervalS / base
  if f.intervalS = base then some ([(f.interval, f.d0, f.d1)], false, false)
  else if f.intervalS = m * base && 2 ≤ m && m ≤ 4 then
    let part (x : Int) (k : Nat) : Int := if k + 1 = m then Int.tdiv x m + Int.tmod x m else Int.tdiv x m
    some ((List.range m).map (fun k => (f.interval * m - m + 1 + k, part f.d0 k, part f.d1 k)), true, false)
  else if f.intervalS != 0 && base % f.intervalS = 0 then
    some ([((f.interval * f.intervalS + base - 1) / base, f.d0, f.d1)], false, true)
  else none

/-- The mean of the phases present, 0 when none is. -/
def meanVolt (vs : List Nat) : Nat :=
  let l := vs.filter (fun v => v != 0xFFFF)
  if l.isEmpty then 0 else l.sum / l.length

/-- Write one base interval's point into a meter's profile: voltage, and energy unless only the voltage is used; whether the energy point
was missing. The node's sum_ewma follows the meter's (R192). -/
def Dev.profPoint (d : Dev) (f : Feed) (b : Nat) (e : Int) (add voltOnly : Bool) : Dev × Bool :=
  let p := d.prof f.index
  let missing := pfEnergy p b == 0xFFFF
  if b + 704 ≤ pfLast p then (d, missing)
  else
    let p1 := pfAdvance p b
    let v := meanVolt f.volts
    let p1 := if v = 0 then p1 else setByts p1 (64 + 2 * (b % 704)) 2 v
    if voltOnly then (d.profPut f.index p1, missing)
    else
      let x := if add && !missing then (pfEnergy p b : Int) + e else e
      let p1 := setByts p1 (1472 + 2 * (b % 704)) 2 (min 65534 x.toNat)
      let old : Int := pfEwma p
      let new : Int := if missing then old + Int.tdiv (16 * e - old) 8 else old
      let d := d.profPut f.index (setByts p1 8 4 (uns 32 new))
      let d := if d.nodeOk f.node && (d.supplies f.index).isNone then
          let s := mgetD d.wlz.sumEwma f.node 0 + (Int.tdiv new 16 - Int.tdiv old 16)
          { d with wlz := { d.wlz with sumEwma := mput d.wlz.sumEwma f.node s } }
        else d
      (d, missing)

/-- What the supply meter's word on interval b of node n makes of the supply-failed feeds there (R205, C3): each counts as tamper
while the supply meter has reported energy for b and has not last-gasped in it. -/
def Dev.failedJudge (d : Dev) (n b : Nat) : Dev :=
  let e := d.hist n b
  let up := (hSupply e).isSome && !hFlag e 8
  d.wlz.failed.foldl (fun (d : Dev) x =>
    let (i, m, c, was) := x
    if m != n || c != b || was == up then { d with wlz := { d.wlz with failed := d.wlz.failed ++ [x] } }
    else
      let p := d.prof i
      let t := byts p 44 2
      let d := d.profPut i (setByts p 44 2 (if up then satAdd 65535 t 1 else t - 1))
      { d with wlz := { d.wlz with failed := d.wlz.failed ++ [(i, m, c, up)] } }) { d with wlz := { d.wlz with failed := [] } }

/-- Add a feed's energy for b to history: an open interval's entry, or a revision of a closed one (R196, R199). -/
def Dev.histFeed (d : Dev) (f : Feed) (b : Nat) (e0 e1 : Int) (missing spread rebuilt : Bool) : Dev :=
  let mark (e : Nat) : Nat :=
    let e := if spread then hSetFlag e 7 true else e
    if rebuilt then hSetFlag e 12 true else e
  let closed := !rebuilt && b ≤ d.lastB
  match d.supplies f.index with
  | some n =>
    let e := d.hist n b
    let x := if bit (nSupply (d.nodeRec n)) 30 then e1 else e0
    let old := hInflow e
    let e := mark (setByts e 4 4 (uns 32 (((hSupply e).getD 0 : Nat) + x)))
    (if closed then d.reviseNode n b e old true else d.histPut n b e).failedJudge n b
  | none =>
    if !d.nodeOk f.node then d.bump F.WLZ_CNT_A_unassigned
    else
      let e := d.hist f.node b
      let old := hInflow e
      let e := mark (setByts e 8 4 (uns 32 (hLoad e + e0 - e1)))
      let e := if missing then setByts e 20 2 (min 65535 (hReporting e + 1)) else e
      if closed then d.reviseNode f.node b e old false else d.histPut f.node b e

/-- Fields and their values as the MSR's changes list them. -/
def wlzFields (l : List ((Nat × Nat) × Nat)) : List (Nat × Nat × Nat) := l.map (fun x => (x.1.1, x.1.2, x.2))

/-- Write node, phase and their marks to the MSR: nothing in Shadow (R214). -/
def Dev.wlzMsr (d : Dev) (i : Nat) (l : List ((Nat × Nat) × Nat)) : Dev :=
  if d.mode == .shadow then d
  else
    match d.msrGet i with
    | (d, none) => d
    | (d, some _) => d.recEdit i (wlzFields l)

/-- A meter that is not confirmed, at a node of kind 0x4, takes the node's phase (R194, R212). -/
def Dev.nodePhase (d : Dev) (i : Nat) : Dev :=
  let r := d.msrPeek i
  let n := rg r R.node
  let ph := nFlags (d.nodeRec n) % 4
  if rg r R.phaseConf = 0 && d.nodeOk n && nKind (d.nodeRec n) = 4 && rg r R.phase != ph then d.wlzMsr i [(R.phase, ph)] else d

/-- A phase sample (R193, R194). Once zc_count is saturated the oldest of the last 32 values stands at position 31. -/
def Dev.phaseVote (d : Dev) (f : Feed) : Dev :=
  let p := d.prof f.index
  match d.attEntry f.attach with
  | none => d
  | some (_, ref, shift) =>
    if f.zc = 0x7FFFFFFF || ref = 0 || 3 < ref || pfFlag p 3 then d
    else
      let per : Int := if d.on F.WLZ_CTRL_mains then 16666667 else 20000000
      let o := (sgn 32 f.zc + shift) % per
      let dist (c : Int) : Int := if o < c then c - o else o - c
      let cs := [min (dist 0) (dist per), dist (per / 3), dist (2 * per / 3)]
      let k := if cs.all (fun x => cs.headD 0 ≤ x) then 0 else if cs[1]! ≤ cs[2]! then 1 else 2
      if ((d.rd F.WLZ_PHASE_tol_us * 1000 : Nat) : Int) < (cs[k]!) then d.bump F.WLZ_CNT_B_zc_reject
      else
        let v := (ref - 1 + k) % 3
        let c := byts p 22 2
        let p := if c = 65535 then setByts (setByts (setByts p 2880 120 (byts p 2884 120)) 3004 4 (byts p 2880 4)) 3000 4 f.zc
          else setByts (setByts p (2880 + 4 * (c % 32)) 4 f.zc) 22 2 (c + 1)
        let p := foldN 3 (fun j p =>
          let x := byts p (16 + 2 * j) 2
          setByts p (16 + 2 * j) 2 (x - x / 16 + (if j = v then 1024 else 0))) p
        let d := d.profPut f.index p
        let w (j : Nat) : Nat := byts p (16 + 2 * j) 2
        let best := if w 1 ≤ w 0 && w 2 ≤ w 0 then 0 else if w 2 ≤ w 1 then 1 else 2
        let sure := d.rd F.WLZ_PHASE_conf_thr * 64 ≤ w best
          && (List.range 3).all (fun j => j == best || 4 * w j ≤ w best)
        let r := d.msrPeek f.index
        let conf := rg r R.phaseConf == 1
        if sure then
          if conf && rg r R.phase = best + 1 then d
          else
            let d := d.wlzMsr f.index [(R.phase, best + 1), (R.phaseConf, 1)]
            if conf && d.mode != .shadow then d.raise 235 else d
        else d

/-- Count a feed's tamper events (R205, C3): the meter's own flag at once, a failed supply as the node's supply meter bears it
out. DEDUCED (log entry 34): that is judged by what the interval holds at the end, not at the feed's arrival. -/
def Dev.countTamper (d : Dev) (f : Feed) (b : Nat) : Dev :=
  let p := d.prof f.index
  let d := if bit f.rflags 3 then d.profPut f.index (setByts p 44 2 (satAdd 65535 (byts p 44 2) 1)) else d
  if bit f.rflags 2 && d.nodeOk f.node then
    ({ d with wlz := { d.wlz with failed := d.wlz.failed ++ [(f.index, f.node, b, false)] } }).failedJudge f.node b
  else d

/-- An INTERVAL feed (R191). `past` for one of a catch-up, which skips what is older than the revision window. -/
def Dev.intervalFeed (d : Dev) (f : Feed) (past : Bool) : Dev :=
  match d.feedPoints f with
  | none => d.bump F.WLZ_CNT_A_odd_interval
  | some (pts, spread, add) =>
    let old (b : Nat) : Bool := b + d.revise < d.lastB
    if past && pts.all (fun x => old x.1) then d.bump F.WLZ_CNT_B_late
    else
      let voltOnly := f.first || decide (f.d0 < 0)
      let d := (d.phaseVote f).nodePhase f.index
      let d := pts.foldl (fun d x =>
        let b := x.1
        if d.curB * d.baseS + f.intervalS < b * d.baseS then d.bump F.WLZ_CNT_B_late
        else
          let (d, missing) := d.profPoint f b x.2.1 add voltOnly
          if voltOnly then d
          else if old b then d.bump F.WLZ_CNT_B_late
          else d.histFeed f b x.2.1 x.2.2 missing spread false) d
      d.countTamper f ((pts.getLast?.map (·.1)).getD 0)

/-! ### Restoration feeds and reports (R208–R211) -/

/-- Clear every profile's episode marks (at the wrap of the episode number). -/
def Dev.clearEpisodes (d : Dev) : Dev :=
  d.msrRecs.foldl (fun d e =>
    let p := d.memRd (d.profAddr e.1) 3072
    if bit p 31 then d.profPut e.1 (setByts p 24 4 0) else d) d

/-- EPISODE_OPEN. -/
def Dev.episodeOpen (d : Dev) : Dev :=
  let n := d.rd F.WLZ_EPISODE_episode
  let d := if n = 0xFFFF then d.clearEpisodes.wr F.WLZ_EPISODE_episode 1 else d.wr F.WLZ_EPISODE_episode (n + 1)
  let d := { d with wlz := { d.wlz with epOpen := d.tick, epOpenS := d.dwnNow, epRestored := none, epSeq := 0, rest := [], orphans := 0,
                                        reportDue := d.tick + min (d.rd F.WLZ_RESTORE_report_ms) 1990 * msNs } }
  (d.setF F.WLZ_EPISODE_open).raise 227

/-- The earlier of two times, 0 standing for none. -/
def earlier (a b : Nat) : Nat := if a = 0 then b else if b = 0 then a else min a b

/-- A LAST_GASP or RESTORED feed; the first RESTORED makes a report due report_ms later (R209). -/
def Dev.restoreFeed (d : Dev) (f : Feed) : Dev :=
  let d := if d.on F.WLZ_EPISODE_open then d else d.episodeOpen
  let ep := d.rd F.WLZ_EPISODE_episode
  let gasp := f.ftype = 4
  let w := { d.wlz with epLast := d.tick, epSeq := max d.wlz.epSeq f.seq,
                        epRestored := if gasp then d.wlz.epRestored else d.wlz.epRestored <|> some d.tick,
                        reportDue := if gasp || d.wlz.epRestored.isSome then d.wlz.reportDue
                          else min d.wlz.reportDue (d.tick + min (d.rd F.WLZ_RESTORE_report_ms) 1990 * msNs) }
  let d := { d with wlz := w }
  match d.supplies f.index with
  | some n =>
    let r := mgetD d.wlz.rest n {}
    let d := { d with wlz := { d.wlz with rest := mput d.wlz.rest n { r with flags := r.flags ||| (if gasp then 1 else 2) } } }
    if gasp then
      let b := f.rxS / d.baseS + 1
      (d.histPut n b (hSetFlag (d.hist n b) 8 true)).failedJudge n b
    else d
  | none =>
    let p := d.prof f.index
    let seenG := byts p 24 2 == ep
    let seenR := byts p 26 2 == ep
    let d := d.profPut f.index (if gasp then setByts p 24 2 ep else setByts p 26 2 ep)
    let affected := !seenG && !seenR
    let restored := !gasp && !seenR
    if !d.nodeOk f.node then
      { d with wlz := { d.wlz with orphans := d.wlz.orphans + b2n affected } }
    else
      let r := mgetD d.wlz.rest f.node {}
      let r := { r with affected := r.affected + b2n affected, restored := r.restored + b2n restored,
                        firstGasp := if gasp && !seenG then earlier r.firstGasp f.rxS else r.firstGasp,
                        firstRestore := if restored then earlier r.firstRestore f.rxS else r.firstRestore,
                        lastChange := if affected || restored then max r.lastChange f.rxS else r.lastChange }
      { d with wlz := { d.wlz with rest := mput d.wlz.rest f.node r } }

/-- A node's counts with those of its descendants: members and the rest. -/
structure RollUp where
  members : Nat := 0
  rest : NodeRest := {}
deriving DecidableEq, Repr

/-- Roll the counts up in descending node order (R210). -/
def Dev.rollUp (d : Dev) : Map RollUp :=
  let n := d.nodeCount
  let own : Map RollUp := (List.range n).map (fun k =>
    (k, { members := d.membersOf k, rest := mgetD d.wlz.rest k {} }))
  foldN n (fun i m =>
    let k := n - 1 - i
    let x := mgetD m k {}
    let par := nParent (d.nodeRec k)
    if par = 0xFFFF then m
    else
      let q := mgetD m par {}
      mput m par
        { members := q.members + x.members,
          rest := { q.rest with affected := q.rest.affected + x.rest.affected, restored := q.rest.restored + x.rest.restored,
                                firstGasp := earlier q.rest.firstGasp x.rest.firstGasp,
                                firstRestore := earlier q.rest.firstRestore x.rest.firstRestore,
                                lastChange := max q.rest.lastChange x.rest.lastChange } }) own

/-- rstate of a node (R210). -/
def Dev.rstate (d : Dev) (m a r : Nat) : Nat :=
  if a = 0 then 0
  else if d.rd F.WLZ_RESTORE_rest_thr * a ≤ 256 * r then 3
  else if d.rd F.WLZ_RESTORE_out_thr * m ≤ 256 * a then 1
  else 2

/-- Write a report into the next buffer (R209, R211). -/
def Dev.reportWrite (d : Dev) : Dev :=
  let recs := (d.rollUp.filter (fun e => 0 < e.2.rest.affected || e.2.rest.flags != 0)).map (fun e =>
    let x := e.2.rest
    leBytes 2 e.1 ++ leBytes 1 (d.rstate e.2.members x.affected x.restored) ++ leBytes 1 x.flags ++ leBytes 4 e.2.members
      ++ leBytes 4 x.affected ++ leBytes 4 x.restored ++ leBytes 4 x.firstGasp ++ leBytes 4 x.firstRestore
      ++ leBytes 4 x.lastChange ++ zeros 4)
  let body := recs.flatten
  let buf := match d.wlz.lastReport with
    | some 0 => 1
    | _ => 0
  let no := d.wlz.reports + 1
  let now := d.nowSN
  let head := leBytes 2 0x5250 ++ [1, 0] ++ leBytes 2 (d.rd F.WLZ_EPISODE_episode) ++ leBytes 2 no ++ leBytes 4 recs.length
    ++ leBytes 4 d.wlz.orphans ++ leBytes 4 d.wlz.epOpenS ++ leBytes 4 now.1 ++ leBytes 4 now.2 ++ leBytes 8 d.wlz.epSeq
    ++ leBytes 4 (crc32c 0xFFFFFFFF body) ++ zeros 24
  let d := d.memWrB (d.wlzBase 5 + 0x210000 * buf) (head ++ body)
  ({ d with wlz := { d.wlz with reports := no, lastReport := some buf } }).raise 226

/-- RESTORATION_REPORT: due report_ms after the opening, report_ms after the first RESTORED feed if that comes later, then every
update_ms (R209). -/
def Dev.restorationReport (d : Dev) : Dev :=
  if !d.on F.WLZ_STATUS_running || !d.on F.WLZ_EPISODE_open || d.tick < d.wlz.reportDue then d
  else
    let due := d.wlz.reportDue
    let upd := due + zeroAs (d.rd F.WLZ_EPISODE_CFG_update_ms) 1000 * msNs
    let rest := (d.wlz.epRestored.map (· + min (d.rd F.WLZ_RESTORE_report_ms) 1990 * msNs)).getD 0
    let next := if due < rest then min rest upd else upd
    let d := d.reportWrite
    { d with wlz := { d.wlz with reportDue := next } }

/-- EPISODE_CLOSE: quiet_s after the last restoration feed, with a final report (R208, R209). -/
def Dev.episodeClose (d : Dev) : Dev :=
  if !d.on F.WLZ_STATUS_running || !d.on F.WLZ_EPISODE_open || d.tick < d.wlz.epLast + d.rd F.WLZ_EPISODE_CFG_quiet_s * sNs then d
  else (d.reportWrite.clrF F.WLZ_EPISODE_open).raise 228

/-! ### Applying feeds, catching up, rebuilding (R190, R191, R215) -/

/-- d_reg as the archive encodes it: a negative value is not held there, so it is a free value below 0. -/
def Dev.archReg (d : Dev) (l : List Byte) (off flag : Nat) : Dev × Int :=
  if bit (byteAt l 47) flag then (d.drawn, -((d.freeVal 32 : Nat) : Int) - 1) else (d, leAt l off 4)

/-- Whether a record's commit used its readings (R191): INTERVAL, LAST_GASP and RESTORED, unless quarantine kept them out. -/
def archFeeds (l : List Byte) : Bool :=
  let t := bits (leAt l 16 4) 20 4
  (t == 1 || t == 4 || t == 5) && !bit (leAt l 22 2) 5

/-- Apply one feed. -/
def Dev.applyFeed (d : Dev) (f : Feed) (past : Bool) : Dev :=
  if f.ftype = 1 then d.intervalFeed f past else d.restoreFeed f

/-- Apply the next sequence of the catch-up, from staging or the archive (R191); one applied already is not applied again (R190).
The last one ends it. -/
def Dev.catchOne (d : Dev) : Dev :=
  match d.wlz.catchUp with
  | none => d
  | some (s, tgt) =>
    let next := if s < tgt then some (s + 1, tgt) else none
    let d := if d.wlz.ahead.contains s then d else match d.archRead s with
      | .found l =>
        if archFeeds l then
          let (d, d0) := d.archReg l 48 2
          let (d, d1) := d.archReg l 52 3
          d.applyFeed (feedOf l d0 d1) true
        else d
      | .absent => d
      | .lost => d.setF F.WLZ_ERR_rebuild_fail
    let d := ({ d with wlz := { d.wlz with catchUp := next } }).wlzAckShow
    if next.isSome then d else (((d.clrF F.WLZ_STATUS_catching_up).recoverEnd).raise 234)

/-- A close that waits takes place before a feed beyond its sequence (R213). -/
def Dev.closeBefore (d : Dev) (s : Nat) : Dev :=
  match d.wlz.closeAt with
  | some (b, x) => if x < s && x ≤ d.rd F.REEL_WLZ_ACK_LO_wlz_ack then d.closeNow b else d
  | none => d

/-- Apply a FIFO's oldest item; what is applied above REEL_WLZ_ACK is remembered until ACK reaches it (R190). -/
def Dev.feedFrom (d : Dev) (q : Nat) (item : List Byte) : Dev :=
  let s := leAt item 0 8
  let d := d.closeBefore s
  let d := if item.length < 128 then d
    else
      let d := d.applyFeed (feedOf item (sgn 64 (leAt item 137 8)) (sgn 64 (leAt item 145 8))) false
      { d with wlz := { d.wlz with ahead := d.wlz.ahead ++ [s] } }
  (d.fifoPop q).wlzAckShow

/-- WALTZ_FEED: a restoration feed ahead of any interval feed; with none waiting, the catch-up's next one. -/
def Dev.waltzFeed (d : Dev) : Dev :=
  if !d.on F.WLZ_STATUS_running then d
  else
    match d.fifoHead 0x700B0, d.fifoHead 0x700A0 with
    | some x, _ => d.feedFrom 0x700B0 x
    | none, some x => d.feedFrom 0x700A0 x
    | none, none => d.catchOne

/-- Forget points and entries from base interval lo on, before a rebuild. -/
def Dev.forget (d : Dev) (lo hi : Nat) : Dev :=
  let d := foldN d.nodeCount (fun n d => foldN (min 2048 (hi + 1 - lo)) (fun k d =>
    let b := hi - k
    if byts (d.memRd (d.histAddr n b) 32) 0 4 = b then d.histPut n b 0 else d) d) d
  d.msrRecs.foldl (fun d e =>
    let p := d.memRd (d.profAddr e.1) 3072
    if bit p 31 then d.profPut e.1 (foldN (min 704 (hi + 1 - lo)) (fun k p => if pfHas p (hi - k) then pfMissing p (hi - k) else p) p)
    else d) d

/-- Apply one archive record to a rebuild: the placement is the MSR's now; whether it was used. -/
def Dev.rebuildOne (d : Dev) (s lo : Nat) : Dev × Nat :=
  match d.archRead s with
  | .lost => (d.setF F.WLZ_ERR_rebuild_fail, 0)
  | .absent => (d, 0)
  | .found l =>
    if !archFeeds l || bits (leAt l 16 4) 20 4 != 1 then (d, 0)
    else
      let (d, d0) := d.archReg l 48 2
      let (d, d1) := d.archReg l 52 3
      let f := feedOf l d0 d1
      let f := { f with node := rg (d.msrPeek f.index) R.node }
      match d.feedPoints f with
      | none => (d, 0)
      | some (pts, spread, add) =>
        let voltOnly := f.first || decide (d0 < 0)
        let d := (pts.filter (fun x => lo ≤ x.1 && x.1 ≤ d.curB)).foldl (fun d x =>
          let (d, missing) := d.profPoint f x.1 x.2.1 add voltOnly
          if voltOnly then d else d.histFeed f x.1 x.2.1 x.2.2 missing spread true) d
        (d, 1)

/-- Rebuild profiles and history from the archive for base intervals from lo on, up to what Waltz has applied (R215). -/
def Dev.rebuildAll (d : Dev) (lo : Nat) : Dev × Nat :=
  let lo := if lo = 0 then d.curB - 2047 else lo
  let d := d.forget lo d.curB
  let first := d.rd F.GAV_OLDEST_LO_oldest
  let (d, n) := foldN (d.rd F.REEL_WLZ_ACK_LO_wlz_ack + 1 - first) (fun k a =>
    let x := a.1.rebuildOne (first + k) lo
    (x.1, a.2 + x.2)) (d, 0)
  let (d, n) := d.wlz.ahead.foldl (fun (a : Dev × Nat) s =>
    let x := a.1.rebuildOne s lo
    (x.1, a.2 + x.2)) (d, n)
  let top := if d.lastB = 0 then d.dueB else d.lastB
  let d := foldN (top + 1 - lo) (fun k d => d.closeAll (lo + k) true) d
  ((d.wr F.WLZ_LAST_CLOSED_b top).setF F.WLZ_STATUS_hist_valid, n)

/-- WALTZ_REBUILD_DONE: a rebuild completes, otherwise a catch-up. -/
def Dev.waltzRebuildDone (d : Dev) : Dev :=
  if !d.on F.WLZ_STATUS_running then d
  else match d.wlz.rebuild with
  | some (c, lo) =>
    let (d, n) := d.rebuildAll lo
    let d := (({ d with wlz := { d.wlz with rebuild := none } }).clrF F.WLZ_STATUS_rebuilding).raise 234
    (c.map (fun c => d.okRes c n)).getD d
  | none =>
    match d.wlz.catchUp with
    | none => d
    | some (s, tgt) => foldN (tgt + 1 - s) (fun _ d => d.catchOne) d

/-! ### Enable and running (R214) -/

/-- Waltz stands where a condition of R214 ends: its FIFOs empty, since REEL_WLZ_ACK holds and the catch-up feeds their items again
(R191); a close in wait is given up, and loads that waited take effect; runs in progress wait (log entry 34). -/
def Dev.wlzRunCheck (d : Dev) : Dev :=
  if !d.on F.WLZ_STATUS_running || (d.on F.WLZ_CTRL_enable && d.on F.MSR_STATUS_ready && d.mode.serving && d.domOn .wlz) then d
  else
    let none' (d : Dev) (q : Nat) : Dev := d.fifoStore q { d.fifo q with items := [] }
    let d := none' (none' (d.clrF F.WLZ_STATUS_running) 0x700A0) 0x700B0
    let d := { d with wlz := { d.wlz with catchUp := none, closeAt := none } }
    ((d.clrF F.WLZ_STATUS_catching_up).clrF F.WLZ_STATUS_closing).recoverEnd.loadsGo

/-- Whether base_s is allowed. -/
def baseOk (s : Nat) : Bool := s != 0 && s % 60 == 0 && s ≤ 3600 && 86400 % s == 0

/-- WALTZ_ENABLE: a write of WLZ_CTRL. Its enable at 1 starts the recount, with no report since (R218); at 0 Waltz stands. -/
def Dev.waltzEnable (d : Dev) (v : Nat) : Dev :=
  let was := d.on F.WLZ_CTRL_enable
  let d := d.regWrite32 0x70000 v
  if was || !d.on F.WLZ_CTRL_enable then d.wlzRunCheck
  else if !baseOk d.baseS then ((d.clrF F.WLZ_CTRL_enable).setF F.WLZ_ERR_cfg_bad).raise 233
  else if !d.wlzAreasOk then ((d.clrF F.WLZ_CTRL_enable).setF F.WLZ_ERR_area_bad).raise 233
  else
    let d := (d.commitRwl 0x70000).wlzRecount
    { d with wlz := { d.wlz with lastReport := none } }

/-- WALTZ_RUNNING_START: feeds since REEL_WLZ_ACK are caught up; a lost history is rebuilt (R191, R215). -/
def Dev.waltzRunningStart (d : Dev) : Dev :=
  if d.on F.WLZ_STATUS_running || !d.on F.WLZ_CTRL_enable || !d.on F.MSR_STATUS_ready || !d.wlz.recounted || !d.mode.serving
      || !d.domOn .wlz then d
  else
    let a := d.rd F.REEL_WLZ_ACK_LO_wlz_ack
    let p := d.rd F.REEL_STG_PUB_LO_stg_pub
    let d := d.setF F.WLZ_STATUS_running
    let d := if a < p then ({ d with wlz := { d.wlz with catchUp := some (a + 1, p) } }).setF F.WLZ_STATUS_catching_up else d
    if d.on F.WLZ_CTRL_auto_rebuild && !d.on F.WLZ_STATUS_hist_valid then
      ({ d with wlz := { d.wlz with rebuild := some (none, 0) } }).setF F.WLZ_STATUS_rebuilding
    else d

/-! ### Correlation (R202) -/

/-- The integer square root, by fuel. -/
def isqrtF : Nat → Nat → Nat
  | 0, _ => 0
  | k + 1, n => if n = 0 then 0 else
    let r := 2 * isqrtF k (n / 4)
    if (r + 1) * (r + 1) ≤ n then r + 1 else r

/-- The integer square root. -/
def isqrt (n : Nat) : Nat := isqrtF (bitLength n + 1) n

/-- Deviations from the mean over the valid points; missing points 0 (R202). -/
def devs (l : List (Option Int)) : List Int :=
  let v := l.filterMap id
  let mean := if v.isEmpty then 0 else Int.fdiv v.sum v.length
  l.map (fun x => match x with
    | none => 0
    | some y => max (-32768) (min 32767 (y - mean)))

/-- The Q15 correlation of two deviation vectors: 0 when either has no energy; truncated. -/
def corr (x y : List Int) : Int :=
  let dot := ((x.zip y).map (fun p => p.1 * p.2)).sum
  let sx := (x.map (fun a => a * a)).sum
  let sy := (y.map (fun a => a * a)).sum
  if sx = 0 || sy = 0 then 0
  else max (-32768) (min 32767 (Int.tdiv (dot * 32768) (isqrt (sx * sy).toNat)))

/-! ### Inference (R201–R204) -/

/-- The 672 base intervals ending at the last closed one. -/
def Dev.window (d : Dev) : List Nat := (List.range 672).map (fun k => d.lastB + 1 + k - 672)

/-- A meter's voltage points over the window. -/
def Dev.voltWin (d : Dev) (i : Nat) : List (Option Int) :=
  let p := d.prof i
  d.window.map (fun b => if pfVolt p b = 0 then none else some (pfVolt p b : Int))

/-- Points needed. -/
def Dev.minPoints (d : Dev) : Nat := min (d.rd F.WLZ_INFER_min_points) 672

/-- The mean of some meters' voltages, point by point. -/
def Dev.meanWin (d : Dev) (ms : List Nat) : List (Option Int) :=
  let ws := ms.map d.voltWin
  (List.range 672).map (fun k =>
    let v := ws.filterMap (fun w => (w[k]?).bind id)
    if v.isEmpty then none else some (Int.fdiv v.sum v.length))

/-- The reference profile of a candidate; none where it has no members (R201). -/
def Dev.reference (d : Dev) (n : Nat) : Option (List (Option Int)) :=
  let s := nSupply (d.nodeRec n)
  let w := if bit s 31 then d.voltWin (s % 2 ^ 20) else []
  if d.minPoints ≤ (w.filterMap id).length && bit s 31 then some w
  else
    let ms := d.msrRecs.filter (fun e => d.isMember e.1 e.2 n)
    let fixed := ms.filter (fun e => rg e.2 R.nodeInferred == 0)
    let use := if fixed.isEmpty then ms else fixed
    if use.isEmpty then none else some (d.meanWin (use.map (·.1)))

/-- A meter's candidate group (R201). -/
def Dev.groupOf (d : Dev) (r : Nat) : Nat :=
  let n := rg r R.node
  if n != 0xFFFF && d.nodeOk n then nGroup (d.nodeRec n) else ((d.attEntry (rg r R.attach)).map (·.1)).getD 0xFFFF

/-- A pass's findings for one meter. -/
structure Placing where
  best : Int := 0
  second : Int := 0
  nBest : Nat := 0xFFFF
  nSecond : Nat := 0xFFFF
  self : Option Int := none
  short : Bool := false
deriving DecidableEq, Repr

/-- Correlate one meter with the candidates of its group. -/
def Dev.place (d : Dev) (i r : Nat) (cands : List (Nat × Option (List (Option Int)))) : Placing :=
  let w := d.voltWin i
  if (w.filterMap id).length < d.minPoints then { short := true }
  else
    let x := devs w
    let score (c : Nat × Option (List (Option Int))) : Int := ((c.2.map (fun y => corr x (devs y)))).getD 0
    cands.foldl (fun p c =>
      let s := score c
      let p := if c.1 = rg r R.node then { p with self := some s } else p
      if p.nBest = 0xFFFF || p.best < s then { p with best := s, nBest := c.1, second := p.best, nSecond := p.nBest }
      else if p.nSecond = 0xFFFF || p.second < s then { p with second := s, nSecond := c.1 }
      else p) {}

/-- Set a meter's unsettled flag and its node's count. -/
def Dev.setUnsettled (d : Dev) (i n : Nat) (b : Bool) : Dev :=
  let p := d.prof i
  let d := d.profPut i (pfSetFlag p 2 b)
  if pfFlag p 2 = b || !d.nodeOk n then d
  else
    let c := mgetD d.wlz.unsettled n 0
    { d with wlz := { d.wlz with unsettled := mput d.wlz.unsettled n (if b then c + 1 else c - 1) } }

/-- Write a pass's findings into a meter's slot and decide its placement (R203). -/
def Dev.placeDecide (d : Dev) (run : InferRun) (i : Nat) (x : Placing) : Dev × InferRun :=
  let p := d.prof i
  if x.short then (d.profPut i (setByts (pfSetFlag p 0 true) 48 2 0x8000), run)
  else
    let rmin : Int := (d.rd F.WLZ_INFER_THR_r_min : Nat)
    let p := setByts (setByts p 28 2 (uns 16 x.best)) 30 2 (uns 16 x.second)
    let p := setByts (setByts p 32 2 x.nBest) 34 2 x.nSecond
    let p := setByts (pfSetFlag p 0 false) 48 2 ((x.self.map (uns 16)).getD 0x8000)
    let d := d.profPut i (pfSetFlag p 4 (x.self.any (fun s => decide (s < rmin))))
    let r := d.msrPeek i
    let node := rg r R.node
    let settled := decide (rmin ≤ x.best) && decide (((d.rd F.WLZ_INFER_THR_margin : Nat) : Int) ≤ x.best - x.second) && x.nBest != 0xFFFF
    if run.assigned.contains i then (d, run)
    else if node = 0xFFFF || rg r R.nodeInferred = 1 then
      if !settled then (d.setUnsettled i node true, run)
      else
        let d := d.setUnsettled i node false
        if x.nBest = node || d.mode == .shadow then (d, run)
        else
          let nr := d.nodeRec x.nBest
          let d := (d.nodeMove i node x.nBest).wlzMsr i ([(R.node, x.nBest), (R.nodeInferred, 1)]
            ++ (if nKind nr = 4 && rg r R.phaseConf = 0 then [(R.phase, nFlags nr % 4)] else []))
          let d := (if d.nodeOk node then d.markOpen node 5 else d).markOpen x.nBest 5
          (d, { run with moved := run.moved + 1 })
    else if settled then
      let off := x.nBest != node
      let d := d.profPut i (pfSetFlag (d.prof i) 1 off)
      if off then (d.raise 236, { run with mism := run.mism + 1 }) else (d, run)
    else (d, run)

/-- Start an inference run with a recount (R186, R204). -/
def Dev.inferStart (d : Dev) (c : Option Desc) (g : Option Nat) : Dev :=
  let d := d.wlzRecount
  ({ d with wlz := { d.wlz with infer := some { cmd := c, group := g, start := d.tick }, inferB := d.lastB } }).setF F.WLZ_STATUS_inferring

/-- Start a scoring pass. -/
def Dev.scoreStart (d : Dev) (c : Option Desc) : Dev :=
  ({ d with wlz := { d.wlz with score := some (c, d.tick), scoreB := d.lastB } }).setF F.WLZ_STATUS_scoring

/-- Whether a run may start: running, and not in Storm. -/
def Dev.mayInfer (d : Dev) : Bool := d.on F.WLZ_STATUS_running && d.mode != .storm

/-- INFERENCE_PERIODIC. -/
def Dev.inferencePeriodic (d : Dev) : Dev :=
  let per := d.rd F.WLZ_INFER_period
  if d.mayInfer && d.on F.WLZ_CTRL_infer_auto && per != 0 && d.wlz.inferB + per ≤ d.lastB && d.wlz.infer.isNone then
    d.inferStart none none
  else d

/-- INFER_NOW: it reads 1 until done. -/
def Dev.inferNow (d : Dev) : Dev :=
  if !d.mayInfer then d
  else
    let d := d.setF F.WLZ_INFER_infer_now
    if d.wlz.infer.isNone then d.inferStart none none else d

/-- INFERENCE_PASS_DONE: a further pass runs while the pass reassigned a meter, up to iter_max and not in Storm; otherwise the run
ends, and a scoring pass follows (R203, R204, R206). A meter without a group takes no part but has pflags bit 0 (R201). -/
def Dev.inferencePassDone (d : Dev) : Dev :=
  if !d.on F.WLZ_STATUS_running then d
  else match d.wlz.infer with
  | none => d
  | some run =>
    let all := d.msrRecs.filter (fun e =>
      (rg e.2 R.state == stActive || rg e.2 R.state == stAdrift) && (d.supplies e.1).isNone
        && run.group.all (fun g => g == d.groupOf e.2))
    let ms := all.filter (fun e => d.groupOf e.2 < d.rd F.WLZ_SIZES_groups)
    let d := (all.filter (fun e => !(d.groupOf e.2 < d.rd F.WLZ_SIZES_groups))).foldl (fun (d : Dev) e =>
      d.profPut e.1 (pfSetFlag (d.prof e.1) 0 (((d.voltWin e.1).filterMap id).length < d.minPoints))) d
    let found := ms.map (fun e =>
      (e.1, d.place e.1 e.2 ((d.groupNodes (d.groupOf e.2)).map (fun n => (n, d.reference n)))))
    let (d, new) := found.foldl (fun (a : Dev × InferRun) x => a.1.placeDecide a.2 x.1 x.2) (d, { run with assigned := run.assigned })
    let new := { new with passes := run.passes + 1, assigned := [] }
    let most := min 8 (zeroAs (d.rd F.WLZ_INFER_iter_max) 1)
    if run.moved < new.moved && new.passes < most && d.mode != .storm then { d with wlz := { d.wlz with infer := some new } }
    else
      let d := { d with wlz := { d.wlz with infer := none } }
      let d := (d.wr F.WLZ_INFER_STAT_passes new.passes).wr F.WLZ_INFER_STAT_reassigned new.moved
      let d := d.wr F.WLZ_RUN_TIME_infer_ms (min 0xFFFF ((d.tick - run.start) / msNs))
      let d := ((d.setF F.WLZ_STATUS_settled).clrF F.WLZ_STATUS_inferring).clrF F.WLZ_INFER_infer_now
      let d := d.raise 229
      let d := (run.cmd.map (fun c => d.okRes c new.moved new.mism)).getD d
      if d.mode != .storm && d.wlz.score.isNone then d.scoreStart none else d

/-! ### Scoring (R205–R207) -/

/-- SCORE_PERIODIC. -/
def Dev.scorePeriodic (d : Dev) : Dev :=
  let per := d.rd F.WLZ_SCORE_period
  if d.mayInfer && d.on F.WLZ_CTRL_score_auto && per != 0 && d.wlz.scoreB + per ≤ d.lastB && d.wlz.score.isNone then
    d.scoreStart none
  else d

/-- SCORE_NOW: it reads 1 until done. -/
def Dev.scoreNow (d : Dev) : Dev :=
  if !d.mayInfer then d
  else
    let d := d.setF F.WLZ_SCORE_score_now
    if d.wlz.score.isNone then d.scoreStart none else d

/-- The loss model's technical loss (R198); where E_ref is 0 with a rated throughput, the quotient is not stated: a free value. -/
def Dev.techLoss (d : Dev) (nr : Nat) (supply : Nat) : Nat :=
  let eref := nRated nr * d.baseS / 3600
  let nl := nNl nr * d.baseS / 3600
  if nRated nr = 0 then nl
  else if eref = 0 then nl + d.freeVal 32
  else nl + nLl nr * supply * supply / (1000000 * eref)

/-- A node's nontechnical loss and supply over the window, masked points none. -/
def Dev.nodeWin (d : Dev) (n : Nat) : List (Option (Int × Int)) :=
  let nr := d.nodeRec n
  d.window.map (fun b =>
    let e := d.hist n b
    match hSupply e with
    | none => none
    | some s =>
      if !hFlag e 1 || hFlag e 3 || hFlag e 4 || hFlag e 5 then none else some (hLoss e - d.techLoss nr s, (s : Int)))

/-- The components of a meter's score, recent, and the score. -/
structure Scored where
  c1 : Nat
  c2 : Nat
  c3 : Nat
  c4 : Nat
  recent : Nat
  score : Nat
  masked : Bool
deriving DecidableEq, Repr

/-- Score one meter (R205). A mean over no point, and C4 with r_min 0, have no stated value: free values. -/
def Dev.scoreMeter (d : Dev) (i node : Nat) : Scored :=
  let p := d.prof i
  let en := d.window.map (fun b => let e := pfEnergy p b; if e = 0xFFFF then none else some (e : Int))
  let nw := if d.nodeOk node then d.nodeWin node else d.window.map (fun _ => none)
  let both := (en.zip nw).map (fun x => match x.1, x.2 with
    | some a, some b => some (a, b.1, b.2)
    | _, _ => none)
  let ok := both.filterMap id
  let nt := (ok.map (fun x => x.2.1)).sum
  let sup := (ok.map (fun x => x.2.2)).sum
  let q := corr (devs (both.map (fun x => x.map (·.1)))) (devs (both.map (fun x => x.map (fun y => y.2.1))))
  let few := ok.length < d.minPoints
  let low := decide (nt * 10000 < ((d.rd F.WLZ_COVER_nt_min : Nat) : Int) * sup)
  let c1 := if few || low || !d.nodeOk node || bit (nFlags (d.nodeRec node)) 2 then 0 else 2 * (max 0 q).toNat
  let pts := en.filterMap id
  let recent := if pts.isEmpty then d.freeVal 16 else (Int.fdiv pts.sum pts.length).toNat
  let ltm := byts p 12 4
  let dm := d.rd F.WLZ_DROP_drop_min
  let num : Int := 65536 * ((ltm : Int) - 16 * recent) - dm * ltm
  let c2 := if ltm = 0 || num < 0 then 0 else (Int.tdiv (65535 * num) ((65536 - dm : Nat) * ltm)).toNat
  let c3 := min 65535 (byts p 44 2 * d.rd F.WLZ_DROP_tamper_unit)
  let self := byts p 48 2
  let rmin := d.rd F.WLZ_INFER_THR_r_min
  let s := sgn 16 self
  let c4 := if self = 0x8000 || (rmin : Int) ≤ s then 0
    else if rmin = 0 then d.freeVal 16
    else min 65535 (Int.tdiv (65535 * ((rmin : Int) - s)) rmin).toNat
  let sc := (d.rd F.WLZ_SCORE_W_w1 * c1 + d.rd F.WLZ_SCORE_W_w2 * c2 + d.rd F.WLZ_SCORE_W_w3 * c3 + d.rd F.WLZ_SCORE_W_w4 * c4) / 256
  { c1 := c1, c2 := c2, c3 := c3, c4 := c4, recent := recent, score := min 65535 sc, masked := (nw.filterMap id).length < 336 }

/-- Insert in descending score, ties to the lower index. -/
def rankIn (x : Nat × Nat × List Byte) : List (Nat × Nat × List Byte) → List (Nat × Nat × List Byte)
  | [] => [x]
  | y :: t => if y.1 < x.1 || (y.1 = x.1 && x.2.1 < y.2.1) then x :: y :: t else y :: rankIn x t

/-- One meter's part of a scoring pass: its slot, its suspicion where it changed, its list record. -/
def Dev.scoreOne (d : Dev) (i : Nat) : Dev × Option (Nat × Nat × List Byte) :=
  let r := d.msrPeek i
  let node := rg r R.node
  let x := d.scoreMeter i node
  let d := d.drawn
  let p := d.prof i
  let ltm := byts p 12 4
  let ltm' : Int := if ltm = 0 then 16 * x.recent else (ltm : Int) + Int.tdiv (16 * (x.recent : Int) - ltm) 32
  let p := setByts (setByts (setByts (setByts p 36 2 x.c1) 38 2 x.c2) 40 2 x.c3) 42 2 x.c4
  let d := d.profPut i (setByts (setByts p 12 4 (uns 32 ltm')) 44 2 0)
  let was := rg r R.suspicion
  let d := if was = x.score then d else d.wlzMsr i [(R.suspicion, x.score)]
  let thr := d.rd F.WLZ_SCORE_susp_thr
  if x.score < thr then (d, none)
  else
    let b := leBytes 8 (rg r R.eui) ++ leBytes 4 i ++ leBytes 2 x.score ++ leBytes 2 node ++ leBytes 2 x.c1 ++ leBytes 2 x.c2
      ++ leBytes 2 x.c3 ++ leBytes 2 x.c4 ++ leBytes 4 d.lastB ++ leBytes 1 (rg r R.phase)
      ++ leBytes 1 (b2n (was < thr) + 2 * b2n (pfFlag p 1) + 4 * b2n x.masked) ++ zeros 2
    (d, some (x.score, i, b))

/-- SCORING_PASS_DONE: after an inference that is due too (R213). -/
def Dev.scoringPassDone (d : Dev) : Dev :=
  if !d.on F.WLZ_STATUS_running then d
  else match d.wlz.score, d.wlz.infer with
  | none, _ => d
  | some _, some _ => d
  | some (c, start), none =>
    let ms := (d.msrRecs.filter (fun e => memberState e.2)).map (·.1)
    let (d, l) := ms.foldl (fun (a : Dev × List (Nat × Nat × List Byte)) i =>
      let x := a.1.scoreOne i
      (x.1, (x.2.map (fun y => rankIn y a.2)).getD a.2)) (d, [])
    let kept := l.take 65536
    let body := kept.flatMap (·.2.2)
    let no := (d.wlz.passNo + 1) % 65536
    let head := leBytes 2 0x5350 ++ [1, 0] ++ leBytes 2 no ++ zeros 2 ++ leBytes 4 kept.length ++ leBytes 4 d.lastB
      ++ leBytes 4 (crc32c 0xFFFFFFFF body) ++ zeros 44
    let d := d.memWrB (d.wlzBase 2) (head ++ body)
    let open' := d.wlz.failed.filter (fun x => !x.2.2.2 && decide (d.lastB ≤ x.2.2.1 + d.revise))
    let d := { d with wlz := { d.wlz with score := none, passNo := no, failed := open' } }
    let d := if kept.length < l.length then d.setF F.WLZ_ERR_susp_trunc else d
    let d := (d.clrF F.WLZ_STATUS_scoring).clrF F.WLZ_SCORE_score_now
    let d := d.wr F.WLZ_RUN_TIME_score_ms (min 0xFFFF ((d.tick - start) / msNs))
    let d := if kept.isEmpty then d else d.raise 230
    (c.map (fun c => d.okRes c kept.length)).getD d

/-! ### Commands (R184, R188, R217, R218) -/

/-- The first group of an image that R188 refuses. -/
def Dev.groupBad (d : Dev) (l : List Byte) (n : Nat) : Option Nat :=
  (List.range n).find? (fun g =>
    let ns := ((List.range 256).map (fun k => leAt l (64 + 512 * g + 2 * k) 2)).filter (fun x => x != 0xFFFF)
    ns.any (fun x => !d.nodeOk x) || ns.eraseDups.length != ns.length)

/-- Put a group table in force. -/
def Dev.groupsApply (d : Dev) (img : List Byte) : Dev := (d.memWrB (d.wlzBase 1) img).clrF F.WLZ_STATUS_settled

/-- WLZ_GROUP_LOAD. -/
def Dev.wlzGroupLoad (d : Dev) (c : Desc) : Dev :=
  d.withFields c [(8, 20), (24, 25)] fun d => d.wlzServed c fun d =>
    let l := c.data
    let n := d.rd F.WLZ_SIZES_groups
    let ok := leAt l 0 2 == 0x4754 && byteAt l 2 == 1 && leAt l 4 4 == n && l.length == 64 + 512 * n + 32992
      && leAt l 8 4 == crc32c 0xFFFFFFFF (l.drop 64)
    if 1 < wArg c.w 24 1 then d.fail c stBadField
    else if l.length != wLen c.w then d.fail c stHostFault
    else if !ok then d.tableBad c 0xFFFF
    else
      match d.groupBad l n with
      | some g => d.tableBad c g
      | none =>
        let d := d.groupsApply l
        if wArg c.w 24 1 = 1 then d.tableSave tabGroups (imgTab l) (some c) n else d.okRes c n

/-- A result record (R198, R200). -/
def Dev.resultRec (d : Dev) (n b : Nat) : List Byte :=
  let nr := d.nodeRec n
  let e := d.hist n b
  let supply := byts e 4 4
  let tech := match hSupply e with
    | none => nNl nr * d.baseS / 3600
    | some s => d.techLoss nr s
  let ppm : Int := match hSupply e with
    | none => 0x7FFFFFFF
    | some s => if s = 0 || hFlag e 3 then 0x7FFFFFFF else Int.tdiv (hLoss e * 1000000) s
  let l := leBytes 2 n ++ leBytes 1 (nKind nr) ++ leBytes 1 (bits (hFlags e) 9 3) ++ leBytes 4 b ++ leBytes 4 supply
    ++ leBytes 4 (byts e 8 4) ++ leBytes 4 (hChild e) ++ leBytes 4 (hSubst e) ++ leBytes 4 (byts e 24 4) ++ leBytes 4 tech
    ++ leBytes 4 (uns 32 (hLoss e - tech)) ++ leBytes 4 (uns 32 ppm) ++ leBytes 2 (hReporting e)
    ++ leBytes 2 (if hFlag e 1 then hMembers e else d.membersOf n) ++ leBytes 2 (hFlags e)
  l ++ leBytes 2 (crc32c 0xFFFFFFFF l)

/-- Whether base interval b lies where history can hold it (R218). -/
def Dev.rangeOk (d : Dev) (b : Nat) : Bool := d.lastB ≤ b + 2047 && b ≤ d.curB

/-- WLZ_RESULTS: interval by interval, nodes ascending, as many records as fit. -/
def Dev.wlzResults (d : Dev) (c : Desc) : Dev :=
  d.withFields c [(8, 20), (24, 40)] fun d => d.wlzRunning c fun d =>
    let n0 := wArg c.w 24 4
    let nn := min (wArg c.w 28 4) (d.nodeCount - n0)
    let b0 := wArg c.w 32 4
    let bn := wArg c.w 36 4
    if wLen c.w % 48 != 0 then d.fail c stBadField
    else if bn != 0 && !(d.rangeOk b0 && d.rangeOk (b0 + bn - 1)) then d.fail c wlzRange
    else
      let total := nn * bn
      let k := min total (wLen c.w / 48)
      let recs := (List.range k).flatMap (fun j => d.resultRec (n0 + j % nn) (b0 + j / nn))
      let more := k < total
      let next := if more then (b0 + k / nn, n0 + k % nn) else (b0 + bn, n0)
      let d := d.drawn
      d.finish c { status := 0, result := k, result2 := next.1 % 2 ^ 32 + next.2 % 2 ^ 16 * 2 ^ 32 + b2n more * 2 ^ 63,
                   data := [(wAddr c.w, recs)] }

/-- WLZ_RESTORE_READ. -/
def Dev.wlzRestoreRead (d : Dev) (c : Desc) : Dev :=
  d.withFields c [(8, 20)] fun d => d.wlzRunning c fun d =>
    match d.wlz.lastReport with
    | none => d.fail c wlzNoReport
    | some buf =>
      let a := d.wlzBase 5 + 0x210000 * buf
      let listed := d.memRd (a + 8) 4
      if wLen c.w < 64 + listed * 32 then d.fail c stBadField
      else d.finish c { status := 0, result := d.memRd (a + 6) 2, result2 := listed,
                        data := [(wAddr c.w, d.mem.readBytes a (64 + listed * 32))] }

/-- WLZ_SUSP_READ. -/
def Dev.wlzSuspRead (d : Dev) (c : Desc) : Dev :=
  d.withFields c [(8, 20), (24, 32)] fun d => d.wlzRunning c fun d =>
    let a := d.wlzBase 2
    let have' := d.memRd (a + 8) 4
    let first := wArg c.w 24 4
    if wLen c.w < 64 then d.fail c stBadField
    else
      let n := min (min (wArg c.w 28 4) (have' - first)) ((wLen c.w - 64) / 32)
      d.finish c { status := 0, result := n, result2 := d.memRd (a + 4) 2,
                   data := [(wAddr c.w, d.mem.readBytes a 64 ++ d.mem.readBytes (a + 64 + 32 * first) (32 * n))] }

/-- WLZ_INFER. -/
def Dev.wlzInfer (d : Dev) (c : Desc) : Dev :=
  d.withFields c [(24, 25), (28, 30)] fun d => d.wlzRunning c fun d =>
    let g := wArg c.w 28 2
    if d.mode == .storm then d.fail c wlzMode
    else if 1 < wArg c.w 24 1 || (wArg c.w 24 1 = 1 && d.rd F.WLZ_SIZES_groups ≤ g) || (wArg c.w 24 1 = 0 && g != 0) then
      d.fail c stBadField
    else if d.wlz.infer.isSome then d.finish c { status := stBusy, result := 1 }
    else d.inferStart (some c) (if wArg c.w 24 1 = 1 then some g else none)

/-- WLZ_SCORE. -/
def Dev.wlzScore (d : Dev) (c : Desc) : Dev :=
  d.withFields c [] fun d => d.wlzRunning c fun d =>
    if d.mode == .storm then d.fail c wlzMode
    else if d.wlz.score.isSome then d.finish c { status := stBusy, result := 2 }
    else d.scoreStart (some c)

/-- WLZ_ASSIGN (R195, R217). -/
def Dev.wlzAssign (d : Dev) (c : Desc) : Dev :=
  d.withFields c [(24, 32)] fun d => d.wlzRunning c fun d =>
    let i := wArg c.w 24 4
    let node := wArg c.w 28 2
    let ph := wArg c.w 30 1
    let fl := wArg c.w 31 1
    let bad := msrSize ≤ i || 3 < ph || 15 < fl || (bit fl 0 && bit fl 2) || (bit fl 1 && bit fl 3)
      || (bit fl 0 && node != 0xFFFF && !d.nodeOk node)
    if d.mode == .shadow then d.fail c wlzMode
    else if bad then d.fail c stBadField
    else
      match d.msrGet i with
      | (d, none) => d.fail c stBadField
      | (d, some r) =>
        if rg r R.state = stFree then d.fail c stBadField
        else
          let old := rg r R.node
          let new := if bit fl 0 then node else old
          let d := if new != old && memberState r && (d.supplies i).isNone then d.nodeMove i old new else d
          let nr := d.nodeRec new
          let l := (if bit fl 0 then [(R.node, node), (R.nodeInferred, 0)] else if bit fl 2 then [(R.nodeInferred, 1)] else [])
            ++ (if bit fl 1 then [(R.phase, ph), (R.phaseConf, 1)]
              else if rg r R.phaseConf = 0 && d.nodeOk new && nKind nr = 4 then [(R.phase, nFlags nr % 4)] else [])
          let p := d.prof i
          let p := if bit fl 1 then pfSetFlag p 3 true else if bit fl 3 then setByts (pfSetFlag p 3 false) 16 6 0 else p
          let d := d.profPut i p
          let d := { d with wlz := { d.wlz with infer := d.wlz.infer.map (fun (x : InferRun) => { x with assigned := i :: x.assigned }) } }
          d.recAssign c i (wlzFields l)

/-- WLZ_PROFILE. -/
def Dev.wlzProfile (d : Dev) (c : Desc) : Dev :=
  d.withFields c [(8, 20), (24, 28)] fun d => d.wlzRunning c fun d =>
    let i := wArg c.w 24 4
    if msrSize ≤ i || wLen c.w < 3072 then d.fail c stBadField
    else d.finish c { status := 0, data := [(wAddr c.w, leBytes 3072 (d.prof i))] }

/-- WLZ_REBUILD. -/
def Dev.wlzRebuild (d : Dev) (c : Desc) : Dev :=
  d.withFields c [(24, 28)] fun d => d.wlzRunning c fun d =>
    let b := wArg c.w 24 4
    if d.mode == .storm then d.fail c wlzMode
    else if b != 0 && !d.rangeOk b then d.fail c wlzRange
    else if d.wlz.rebuild.isSome then d.finish c { status := stBusy, result := 3 }
    else ({ d with wlz := { d.wlz with rebuild := some (some c, b) } }).setF F.WLZ_STATUS_rebuilding

end Sys2Proof.Machine
end

