-- ==== Sys2Proof/Machine/Bol.lean ====
section
/-! DEFINITION. Bolero (chapter 08): the area in DRAM, downlink counters and sealed frames, acknowledgements, unicast commands
under the actuation token, campaigns with the repair code, and BOL's commands. -/

namespace Sys2Proof.Machine

/-! ### The area (R221, R222) -/

/-- The internal address of the area. -/
def Dev.bolArea (d : Dev) : Nat := d.rd F.BOL_AREA_BASE_HI_base_hi * 2 ^ 32 + d.rd F.BOL_AREA_BASE_LO_base_lo * 2 ^ 30

/-- Read n bytes at an offset of the area. -/
def Dev.bolRd (d : Dev) (off n : Nat) : Nat := d.memRd (d.bolArea + off) n

/-- Write n bytes at an offset of the area; the active unit mirrors them (R438), in messages of at most 8,192 B (R424). -/
def Dev.bolWr (d : Dev) (off n v : Nat) : Dev :=
  let d := d.memWr (d.bolArea + off) n v
  if d.mirrors then
    ((List.range ((n + 8183) / 8184)).zip (chunks 8184 (leBytes n v))).foldl (fun (d : Dev) e =>
      d.eplSend 0xD (zeros 4 ++ leBytes 4 (off + 8184 * e.1) ++ e.2) (b2n (8184 * (e.1 + 1) < n))) d
  else d

/-- The offset of a meter's entry in the downlink table. -/
def dlOff (i : Nat) : Nat := 0x50000000 + 16 * i

/-- The offset of a group's entry. -/
def grpOff (g : Nat) : Nat := 0x51000000 + 16 * g

def Dev.grpHandle (d : Dev) (g : Nat) : Nat := d.bolRd (grpOff g) 4
def Dev.grpBgen (d : Dev) (g : Nat) : Nat := d.bolRd (grpOff g + 4) 2
def Dev.grpCtr (d : Dev) (g : Nat) : Nat := d.bolRd (grpOff g + 8) 4

/-- Write a group entry; mirrored with the kid in place of the handle (R425). -/
def Dev.grpPut (d : Dev) (g handle bgen ctr : Nat) : Dev :=
  let e (h : Nat) : List Byte := leBytes 4 h ++ leBytes 2 bgen ++ zeros 2 ++ leBytes 4 ctr ++ zeros 4
  (d.memWrB (d.bolArea + grpOff g) (e handle)).eplMirror 0xD (leBytes 1 1 ++ zeros 3 ++ leBytes 4 (grpOff g) ++ e (d.kidOf handle))

/-- The path of an attachment (R221), if it has one. -/
def attPath (a : Nat) : Option Nat :=
  if atKind a = 1 then some (atChan a) else if atKind a = 2 || atKind a = 3 then some (16 + atChan a)
  else if atKind a = 4 then some (28 + atChan a) else none

/-! ### Counters (R225) -/

/-- EPOCH_ADVANCE: the next epoch is journaled; it stops at 0xFF. -/
def Dev.epochAdvance (d : Dev) : Dev :=
  let e := d.rd F.BOL_EPOCH_epoch
  if e = 0xFF then (d.setF F.BOL_STATUS_epoch_end).raise 261
  else
    let d := (d.wr F.BOL_EPOCH_epoch (e + 1)).journal (.sysval 3 (e + 1))
    (if e + 1 = 0xFF then d.setF F.BOL_STATUS_epoch_end else d).raise 261

/-- A new epoch for every counter. Where there is none after 0xFF the counters can no longer advance, but those that later count for
a new generation or a new bgen (R225). -/
def Dev.epochNew (d : Dev) : Dev :=
  let d := if d.rd F.BOL_EPOCH_epoch = 0xFF then { d with bol := { d.bol with ended := true, fresh := [] } } else d
  d.epochAdvance

/-- The epoch that a lost area calls for, once the journal can be read (R225). -/
def Dev.epochStart (d : Dev) : Dev :=
  if d.bol.epochDue && d.on F.GAV_STATUS_running then ({ d with bol := { d.bol with epochDue := false } }).epochNew else d

/-- A counter counts anew. -/
def Dev.ctrFresh (d : Dev) (k : Nat) : Dev := { d with bol := { d.bol with fresh := k :: d.bol.fresh.filter (fun x => x != k) } }

/-- Whether the counter k can advance. -/
def Dev.ctrLive (d : Dev) (k : Nat) : Bool := !d.bol.ended || d.bol.fresh.contains k

/-- Whether a new epoch waits for its journal entry. -/
def Dev.epochPending (d : Dev) : Bool := d.gav.sysvalDue 3

/-- What the next frame of a counter may take: a value, an epoch first, or nothing more. -/
inductive Ctr where
  | use (v : Nat)
  | advance
  | ended
deriving DecidableEq, Repr

/-- The next value of a counter that stands at `cur`; `last` admits the reserved 0xFFFF_FFFF. A counter that has passed the
epoch's last count, or was mirrored from a later epoch, waits for its epoch; one that cannot advance has only the reserved value. -/
def Dev.ctrNext (d : Dev) (cur : Nat) (last live : Bool) : Ctr :=
  let e := d.rd F.BOL_EPOCH_epoch
  if !live then (if last then .use 0xFFFFFFFF else .ended)
  else if cur / 2 ^ 24 = e then (if cur = 0xFFFFFFFF && !last then .ended else .use cur)
  else if e < cur / 2 ^ 24 then .advance
  else .use (e * 2 ^ 24)

/-! ### Downlink frames (R223, R224, R226) -/

/-- What sealing a frame comes to. -/
inductive SealRes where
  | ok (f : DlFrame)
  | wait
  | fail (status : Nat)
deriving DecidableEq, Repr

def bolNoAck : Nat := 0x8031
def bolRefused : Nat := 0x8032
def bolBadState : Nat := 0x8033
def bolSlot : Nat := 0x8034
def bolMode : Nat := 0x8035
def bolTooBig : Nat := 0x8036
def bolCounter : Nat := 0x8037
def bolVersion : Nat := 0x8038
def bolKey : Nat := 0x8039

/-- The fixed part of a downlink header up to fl. -/
def dlHead (f : DlFrame) (ver suite : Nat) : List Byte :=
  leBytes 1 (ver + 4 * f.dtype + 64 * f.dest) ++ leBytes 1 (b2n f.ackReq + 2 * suite + 8 * b2n f.act)

/-- A failed seal (R224). -/
def Dev.sealFailed (d : Dev) : Dev := (d.setF F.BOL_ERR_seal_fail).raise 262

/-- The plaintext of a frame: in a GROUP_KEY command KEYC writes the group key into bytes 16–31 of the cargs. -/
def Dev.dlPlain (d : Dev) (f : DlFrame) : Dev × Option (List Byte) :=
  if f.dtype = 1 && byteAt f.payload 2 = 0xA then
    match d.keyServe (d.grpHandle (leAt f.payload 4 2)) (leAt f.payload 4 2) 8 (leAt f.payload 6 2) false with
    | (d, .key k _) => (d, some (f.payload.take 20 ++ k ++ f.payload.drop 36))
    | (d, _) => (d, none)
  else (d, some f.payload)

/-- Seal a unicast frame under the meter's downlink frame key. -/
def Dev.sealUnicast (d : Dev) (f : DlFrame) (isGenAdvance : Bool) : Dev × SealRes :=
  let r := d.msrPeek f.index
  let gen := rg r R.keyGen
  let known := tget d.bol.dlGen f.index
  let cur := if known = 0 || known = gen + 1 then d.bolRd (dlOff f.index) 4 else d.rd F.BOL_EPOCH_epoch * 2 ^ 24
  let d := if known = 0 || known = gen + 1 then d else d.ctrFresh f.index
  let now (d : Dev) : Dev := { d with bol := { d.bol with dlGen := tset d.bol.dlGen f.index (gen + 1) } }
  match d.ctrNext cur (isGenAdvance && !d.bol.spent.contains f.index) (d.ctrLive f.index) with
  | .advance => (d.epochAdvance, .wait)
  | .ended => (now d, .fail bolCounter)
  | .use v =>
    match d.dlPlain f with
    | (d, none) => (d.sealFailed, .fail bolKey)
    | (d, some plain) =>
      match d.keyServe (rg r R.districtHandle) (rg r R.eui) 2 gen false with
      | (d, .wait) => (d, .wait)
      | (d, .fail) => (d.sealFailed, .fail bolKey)
      | (d, .key k _) =>
        let ver := rg r R.dwnVer
        let suite := if ver = 1 then 0 else 1
        let hd := dlHead f ver suite
        let hdr := hd ++ (if f.dest = 0 then leBytes 3 f.index else leBytes 8 (rg r R.eui)) ++ leBytes 2 gen ++ leBytes 4 v
          ++ leBytes 4 d.dwnNow ++ leBytes 2 plain.length
        let nonce := leBytes 8 (rg r R.eui) ++ leBytes 4 v ++ hd.take 1
        let body := hdr ++ ccmSeal k nonce hdr plain (if suite = 0 then 8 else 16)
        let next := if v = 0xFFFFFFFF then v else v + 1
        let d := d.bolWr (dlOff f.index) 4 next
        let d := { now d with bol := { (now d).bol with
                                              spent := if v = 0xFFFFFFFF then f.index :: d.bol.spent else d.bol.spent } }
        (d, .ok { f with fcnt := v, body := body })

/-- Seal a broadcast frame under the group broadcast key. -/
def Dev.sealBroadcast (d : Dev) (f : DlFrame) : Dev × SealRes :=
  let g := f.group
  let bgen := d.grpBgen g
  match d.ctrNext (d.grpCtr g) false (d.ctrLive (2 ^ 20 + g)) with
  | .advance => (d.epochAdvance, .wait)
  | .ended => (d, .fail bolCounter)
  | .use v =>
    match d.keyServe (d.grpHandle g) g 8 bgen false with
    | (d, .wait) => (d, .wait)
    | (d, .fail) => (d.sealFailed, .fail bolKey)
    | (d, .key k _) =>
      let hd := dlHead f 2 1
      let hdr := hd ++ leBytes 2 g ++ leBytes 2 bgen ++ leBytes 4 v ++ leBytes 4 d.dwnNow ++ leBytes 2 f.payload.length
      let nonce := leBytes 4 0xFFFFFFFF ++ leBytes 2 g ++ leBytes 2 bgen ++ leBytes 4 v ++ hd.take 1
      ((d.grpPut g (d.grpHandle g) bgen (v + 1)), .ok { f with fcnt := v, body := hdr ++ ccmSeal k nonce hdr f.payload 16 })

/-- Seal a frame, once Pavane is unlocked and the epoch is in NAND (R225). -/
def Dev.sealFrame (d : Dev) (f : DlFrame) : Dev × SealRes :=
  if !d.unlocked || d.epochPending || d.bol.epochDue then (d, .wait)
  else if f.dest = 2 then d.sealBroadcast f
  else d.sealUnicast f (f.dtype == 1 && byteAt f.payload 2 == 9)

/-- A frame joins those waiting for release. -/
def Dev.dlQueue (d : Dev) (f : DlFrame) : Dev :=
  { d with bol := { d.bol with outq := d.bol.outq ++ [{ f with id := d.bol.nextId }], nextId := d.bol.nextId + 1 } }

/-- A unicast frame to a meter over an attachment. -/
def mkDl (path attach index : Nat) (why : DlFor) (dtype dest : Nat) (ackReq act : Bool) (payload : List Byte) : DlFrame :=
  { id := 0, path := path, attach := attach, index := index, why := why, dtype := dtype, dest := dest, group := 0,
    ackReq := ackReq, act := act, payload := payload }

/-! ### Commands (R227, R231) -/

/-- Whether a code is actuating. -/
def actuating (code : Nat) : Bool := 1 ≤ code && code ≤ 4

/-- The cargs bytes a code names; a code without an entry in R227 has none. -/
def cargsUsed (code : Nat) : Option Nat :=
  match code with
  | 1 => some 4
  | 2 => some 5
  | 3 => some 12
  | 4 => some 8
  | 5 => some 0
  | 6 => some 6
  | 7 => some 4
  | 8 => some 2
  | 9 => some 2
  | 10 => some 4
  | 11 => some 0
  | _ => none

/-- Whether a code and its cargs keep to R227. -/
def cargsOk (code : Nat) (cargs : List Byte) : Bool :=
  match cargsUsed code with
  | none => false
  | some n => (cargs.drop n).all (· == 0) && (code != 6 || (1 ≤ leAt cargs 4 2 && leAt cargs 4 2 ≤ 96))
      && (code != 2 || byteAt cargs 4 ≤ 1)

/-- Whether a code needs a meter of version 2 or higher: tariff traffic and group keys (R231, R236). -/
def codeNeeds2 (code : Nat) : Bool := code == 4 || code == 0xA

/-- The command in flight for a meter: the oldest pending one. -/
def Dev.cmdOf (d : Dev) (i : Nat) : Option BCmd := d.bol.cmds.find? (fun b => b.index == i)

/-- Replace the command in flight for a meter. -/
def replaceFirst (p : BCmd → Bool) (b : BCmd) : List BCmd → List BCmd
  | [] => []
  | x :: t => if p x then b :: t else x :: replaceFirst p b t

/-- An entry of the pending command table (its layout is the model's, log entry 60). -/
def cmdEntry (b : BCmd) : List Byte :=
  leBytes 4 b.index ++ leBytes 1 b.code ++ leBytes 1 (b2n b.noAck + 2) ++ leBytes 2 b.cseq ++ leBytes 4 b.fcnt ++ leBytes 1 b.tries
    ++ zeros 19 ++ padTo 32 b.cargs

/-- The pending commands as the area's table holds them, in submission order; they are not mirrored (R221, R245). -/
def Dev.cmdsSet (d : Dev) (l : List BCmd) : Dev :=
  let at' (k : Nat) : Nat := d.bolArea + 0x52000000 + 64 * k
  let n := d.bol.cmds.length
  let d := ((List.range l.length).zip l).foldl (fun (d : Dev) e => d.memWrB (at' e.1) (cmdEntry e.2)) d
  let d := (List.range (n - l.length)).foldl (fun (d : Dev) k => d.memWrB (at' (l.length + k)) (zeros 64)) d
  { d with bol := { d.bol with cmds := l } }

def Dev.cmdPut (d : Dev) (b : BCmd) : Dev := d.cmdsSet (replaceFirst (fun x => x.index == b.index) b d.bol.cmds)

/-- Whether the record's state lets a command go to it (R231). -/
def cmdState (st : Nat) (force : Bool) : Bool := st == stActive || st == stAdrift || (st == stQuarantined && force)

/-! ### Campaign slots (R221, R234, R236) -/

/-- The offset of slot c. -/
def cOff (c : Nat) : Nat := c * 0x1400000

/-- Read and write the control block (its layout is the model's, log entry 60). -/
def Dev.cRd (d : Dev) (c o n : Nat) : Nat := d.bolRd (cOff c + o) n
def Dev.cWr (d : Dev) (c o n v : Nat) : Dev := d.bolWr (cOff c + o) n v

/-- The slot's own phase: FREE, LOADED, 2 while its paths run, DONE, ABORTED. -/
def Dev.cPhase (d : Dev) (c : Nat) : Nat := d.cRd c 0 1
def Dev.cKind (d : Dev) (c : Nat) : Nat := d.cRd c 1 1
def Dev.cCode (d : Dev) (c : Nat) : Nat := d.cRd c 2 1
def Dev.cMaxRounds (d : Dev) (c : Nat) : Nat := d.cRd c 3 1
def Dev.cRepExtra (d : Dev) (c : Nat) : Nat := d.cRd c 4 1
def Dev.cSilentMax (d : Dev) (c : Nat) : Nat := d.cRd c 5 1
def Dev.cGroup (d : Dev) (c : Nat) : Nat := d.cRd c 6 2
def Dev.cCtag (d : Dev) (c : Nat) : Nat := d.cRd c 8 4
def Dev.cSelector (d : Dev) (c : Nat) : Nat := d.cRd c 12 4
def Dev.cLen (d : Dev) (c : Nat) : Nat := d.cRd c 16 4
def Dev.cMembers (d : Dev) (c : Nat) : Nat := d.cRd c 20 4
def Dev.cActivateAt (d : Dev) (c : Nat) : Nat := d.cRd c 36 4
def Dev.cCargs (d : Dev) (c : Nat) : List Byte := d.mem.readBytes (d.bolArea + cOff c + 64) 32

/-- The status window of a path in ms. -/
def Dev.cWindow (d : Dev) (c p : Nat) : Nat := d.cRd c (if p < 16 then 24 else if p < 28 then 28 else 32) 4

/-- Blocks of the image, and of segment s (R239). -/
def Dev.cBlocks (d : Dev) (c : Nat) : Nat := (d.cLen c + 255) / 256
def Dev.cSegs (d : Dev) (c : Nat) : Nat := (d.cBlocks c + 63) / 64
def Dev.cSegBlocks (d : Dev) (c s : Nat) : Nat := min 64 (d.cBlocks c - 64 * s)

/-- Path entries of the control block: 12 B at +0x1000. -/
def pOff (p : Nat) : Nat := 0x1000 + 12 * p
def Dev.pPhase (d : Dev) (c p : Nat) : Nat := d.cRd c (pOff p) 1
def Dev.pRound (d : Dev) (c p : Nat) : Nat := d.cRd c (pOff p + 1) 1
def Dev.pCount (d : Dev) (c p : Nat) : Nat := d.cRd c (pOff p + 2) 1
def Dev.pPos (d : Dev) (c p : Nat) : Nat := d.cRd c (pOff p + 4) 4
def Dev.pLeft (d : Dev) (c p : Nat) : Nat := d.cRd c (pOff p + 8) 2
def Dev.pPut (d : Dev) (c p phase round count pos left : Nat) : Dev :=
  d.cWr c (pOff p) 12 (phase + round * 2 ^ 8 + count * 2 ^ 16 + pos * 2 ^ 32 + left * 2 ^ 64)

/-- The paths a campaign uses. -/
def Dev.cPaths (d : Dev) (c : Nat) : List Nat := (List.range 4124).filter (fun p => d.pPhase c p != 0)

/-- Member entries (R236). -/
def mOff (k : Nat) : Nat := 0x810000 + 8 * k
def Dev.mEnt (d : Dev) (c k : Nat) : Nat := d.cRd c (mOff k) 8
def meIndex (e : Nat) : Nat := bits e 0 20
def meState (e : Nat) : Nat := bits e 20 4
def meSilent (e : Nat) : Nat := byts e 6 1
def Dev.mPut (d : Dev) (c k e : Nat) : Dev := d.cWr c (mOff k) 8 e
def Dev.mSet (d : Dev) (c k st reason : Nat) : Dev := d.mPut c k (setBits (setBits (d.mEnt c k) 20 4 st) 24 8 reason)

/-- Settled: neither pending nor receiving. -/
def settled (e : Nat) : Bool := 2 ≤ meState e

/-- The path a member is on, as path + 1; 0 before the start. -/
def mKey (c k : Nat) : Nat := c * 2 ^ 20 + k

/-- The positions of the members on a path that are not excluded. -/
def Dev.onPath (d : Dev) (c p : Nat) : List Nat :=
  (List.range (d.cMembers c)).filter (fun k => tget d.bol.mpath (mKey c k) == p + 1 && meState (d.mEnt c k) != 5)

/-- The path need table: per segment the code being collected in [3:0], the one being served in [7:4] (R241). -/
def needOff (p s : Nat) : Nat := 0x1010000 + 512 * p + s

/-- The earliest phase any path is in (R234). -/
def Dev.campPhase (d : Dev) (c : Nat) : Nat :=
  if d.cPhase c != 2 then d.cPhase c
  else
    match (d.cPaths c).map (d.pPhase c) with
    | [] => if d.cKind c = 2 then 8 else 6
    | x :: t => t.foldl min x

/-- The highest round on any path. -/
def Dev.campRound (d : Dev) (c : Nat) : Nat := ((d.cPaths c).map (d.pRound c)).foldl max 0

/-- How many members are in the given states. -/
def Dev.campCount (d : Dev) (c : Nat) (sts : List Nat) : Nat :=
  ((List.range (d.cMembers c)).filter (fun k => sts.contains (meState (d.mEnt c k)))).length

/-- in_campaign cleared in every member's record that names the slot (R236). -/
def Dev.campLeave (d : Dev) (c : Nat) : Dev :=
  (List.range (d.cMembers c)).foldl (fun d k =>
    let i := meIndex (d.mEnt c k)
    let r := d.msrPeek i
    if !d.msrCorrupt i && rg r R.inCampaign = 1 && rg r R.campaign = c then d.recEdit i (wlzFields [(R.inCampaign, 0)]) else d) d

/-- The slots that are not FREE. -/
def Dev.campsShow (d : Dev) : Dev :=
  d.wr F.BOL_STATUS_campaigns ((List.range 64).filter (fun c => d.cPhase c != 0)).length

/-- Show a campaign in its register. -/
def Dev.campRegs (d : Dev) (c : Nat) : Dev :=
  let d := d.wr (F.BOL_CAMP_STAT_phase.at c) (d.campPhase c)
  let d := d.wr (F.BOL_CAMP_STAT_kind.at c) (d.cKind c)
  let d := d.wr (F.BOL_CAMP_STAT_round.at c) (d.campRound c)
  (d.wr (F.BOL_CAMP_STAT_settled_ok.at c) (d.campCount c [2, 3, 8])).campsShow

/-- Show a campaign. A change of phase pends its sources and completes the descriptors that wait for it (R242, R249); a campaign
whose paths are all done is DONE. -/
def Dev.campShow (d : Dev) (c : Nat) : Dev :=
  let d := if d.cPhase c = 2 && d.campPhase c = 8 then (d.campLeave c).cWr c 0 1 8 else d
  let ph := d.campPhase c
  let old := d.rd (F.BOL_CAMP_STAT_phase.at c)
  let d := d.campRegs c
  if ph = old then d
  else
    let d := d.raise 257
    let d := if ph = 8 || ph = 9 then d.raise 258 else d
    let now := d.bol.waiters.filter (fun w => w.1 == c)
    let d := { d with bol := { d.bol with waiters := d.bol.waiters.filter (fun w => w.1 != c) } }
    let res := ph + min (d.campRound c) 31 * 16
    let res2 := d.campCount c [2, 3, 8] + d.campCount c [4, 7, 9, 10] * 2 ^ 21 + d.campCount c [5, 6] * 2 ^ 42
    now.foldl (fun d w => d.okRes w.2 res res2) d

/-- End a campaign as ABORTED. -/
def Dev.campAborted (d : Dev) (c : Nat) : Dev :=
  let d := (d.campLeave c).cWr c 0 1 9
  let d := { d with bol := { d.bol with outq := d.bol.outq.filter (fun f => match f.why with
    | .push s _ _ => s != c
    | _ => true) } }
  d.campShow c

/-- A path is DONE when every member on it is settled, in a COMMAND campaign, and in ACTIVATE when no member complete is left to report
(R237), once a TARIFF activation was sent there (R233). In ACTIVATE a path's `left` holds [0] activation sent, [1] window over. -/
def Dev.pathDone (d : Dev) (c p : Nat) : Dev :=
  let on := d.onPath c p
  let sent := d.cKind c != 1 || bit (d.pLeft c p) 0
  let over' := on.all (fun k => meState (d.mEnt c k) != 2) || bit (d.pLeft c p) 1
  if d.cPhase c = 2 && d.pPhase c p != 0
      && (if d.cKind c = 2 then on.all (fun k => settled (d.mEnt c k)) else d.pPhase c p == 7 && sent && over') then
    d.pPut c p 8 (d.pRound c p) 0 (d.pPos c p) 0
  else d

/-- A member settles, or is excluded. -/
def Dev.memberEnd (d : Dev) (c k st reason : Nat) : Dev :=
  ((d.mSet c k st reason).pathDone c (tget d.bol.mpath (mKey c k) - 1)).campShow c

/-- Members whose records are retired or freed are excluded with reason 0x05 (R236, R243). -/
def Dev.campPurge (d : Dev) : Dev :=
  if !d.on F.BOL_STATUS_running || d.mode == .shadow then d
  else ((List.range 64).filter (fun c => d.cPhase c == 2)).foldl (fun (d : Dev) c =>
    (List.range (d.cMembers c)).foldl (fun (d : Dev) k =>
      let e := d.mEnt c k
      let st := rg (d.msrPeek (meIndex e)) R.state
      if meState e != 5 && (st = stRetired || st = stFree) then d.memberEnd c k 5 5 else d) d) d

/-- A group key is delivered where the entry does not show it as confirmed (R237). -/
def Dev.keyHeldBy (d : Dev) (i g : Nat) : Bool :=
  let e := d.bolRd (dlOff i) 12
  bit (byts e 10 1) 0 && byts e 6 2 == g && byts e 8 2 == d.grpBgen g

/-! ### The life of a unicast command -/

/-- An actuating command ends at submission for want of the token (R232). -/
def Dev.cmdToken (d : Dev) (i : Nat) : Dev :=
  d.bolWr (dlOff i) 16 (setByts (setByts (d.bolRd (dlOff i) 16) 11 1 4) 12 4 d.dwnNow)

/-- End a command: it leaves the table, its meter's entry shows the outcome, and whoever sent it is answered. -/
def Dev.cmdFinish (d : Dev) (b : BCmd) (status outcome result result2 : Nat) : Dev :=
  let d := d.cmdsSet (d.bol.cmds.eraseP (fun x => x.index == b.index))
  let d := { d with bol := { d.bol with outq := d.bol.outq.filter (fun f => f.index != b.index || (match f.why with
                                          | .cmd s => s != b.cseq
                                          | _ => true)) } }
  let o := dlOff b.index
  let e := d.bolRd o 16
  let d := d.bolWr o 16 (setByts (setByts (setBits e 81 1 0) 11 1 outcome) 12 4 d.dwnNow)
  let d := if status = bolNoAck || status = bolRefused || status = stToken then d.raise 259 else d
  match b.src with
  | .desc c => d.finish c { status := status, result := result, result2 := result2 }
  | .groupKey => d
  | .member c k =>
    d.memberEnd c k (if status = 0 then 8 else if status = bolRefused then 9 else if status = bolNoAck then 10 else 7) 0

/-- The attempts of the command in flight for a meter go on: its cseq is taken at the first one, each attempt takes a frame to
the primary attachment, or for retries of a dual_mode meter alternately to the other one; after retries + 1 attempts it ends
with BOL_NO_ACK, and the next queued one starts. -/
def Dev.cmdGo : Nat → Nat → Dev → Dev
  | 0, _, d => d
  | fuel + 1, i, d =>
    match d.cmdOf i with
    | none => d
    | some b =>
      if d.rd F.BOL_RETRY_retries < b.tries then Dev.cmdGo fuel i (d.cmdFinish b bolNoAck 3 b.cseq b.fcnt)
      else
        let e := d.bolRd (dlOff i) 16
        let cseq := if b.tries = 0 then byts e 4 2 else b.cseq
        let d := if b.tries = 0 then
            d.bolWr (dlOff i) 16 (setByts (setBits (setByts e 4 2 (cseq + 1)) 81 1 1) 11 1 6) else d
        let r := d.msrPeek i
        let alt := rg r R.attachAlt
        let att := if b.tries % 2 = 1 && rg r R.dualMode = 1 && (attPath alt).isSome then alt else rg r R.attach
        let b := { b with cseq := cseq, tries := b.tries + 1 }
        let d := d.cmdPut b
        match attPath att with
        | none => d
        | some p =>
          let f := mkDl p att i (.cmd cseq) 1 0 (!b.noAck) (actuating b.code)
            (leBytes 2 cseq ++ leBytes 1 b.code ++ zeros 1 ++ b.cargs)
          match d.sealFrame f with
          | (d, .wait) => d.dlQueue f
          | (d, .ok f) => (d.cmdPut { b with fcnt := f.fcnt }).dlQueue f
          | (d, .fail st) => Dev.cmdGo fuel i (d.cmdFinish b st 5 cseq 0)

/-- A command joins the table; the first for its meter starts. -/
def Dev.cmdAdd (d : Dev) (b : BCmd) : Dev :=
  let idle := (d.cmdOf b.index).isNone
  let d := d.cmdsSet (d.bol.cmds ++ [b])
  if idle then Dev.cmdGo 8 b.index d else d

/-- Whether the table takes one more command for a meter (R231). -/
def Dev.cmdRoom (d : Dev) (i : Nat) : Bool :=
  (d.bol.cmds.filter (fun b => b.index == i)).length < 5 && d.bol.cmds.length < 262144

/-- Group keys that waited for room are sent while their paths announce (R237). -/
def Dev.groupKeysGo (d : Dev) : Dev :=
  let l := d.bol.keyWait
  l.foldl (fun (d : Dev) x =>
    let (s, k) := x
    let i := meIndex (d.mEnt s k)
    let g := d.cGroup s
    if d.cPhase s != 2 || d.pPhase s (tget d.bol.mpath (mKey s k) - 1) != 2 || meState (d.mEnt s k) = 5 || d.keyHeldBy i g then d
    else if d.cmdRoom i then
      d.cmdAdd { index := i, code := 0xA, cargs := leBytes 2 g ++ leBytes 2 (d.grpBgen g) ++ zeros 28, noAck := false, src := .groupKey }
    else { d with bol := { d.bol with keyWait := d.bol.keyWait ++ [x] } }) { d with bol := { d.bol with keyWait := [] } }

/-- End a command and start the meter's next one. -/
def Dev.cmdEnd (d : Dev) (b : BCmd) (status outcome result result2 : Nat) : Dev :=
  (Dev.cmdGo 8 b.index (d.cmdFinish b status outcome result result2)).groupKeysGo

/-- The next attempt of a meter's command, or its end. -/
def Dev.cmdNext (d : Dev) (i : Nat) : Dev := (Dev.cmdGo 8 i d).groupKeysGo

/-- The command an attempt's frame belongs to, if it is still in flight. -/
def Dev.cmdOfFrame (d : Dev) (f : DlFrame) : Option BCmd :=
  match f.why with
  | .cmd cseq => (d.cmdOf f.index).filter (fun b => b.cseq == cseq && b.tries != 0)
  | _ => none

/-- A frame's transmission: APDU and no_ack commands complete (R247); a TARIFF activation counts its path as sent (R233). -/
def Dev.dlSent (d : Dev) (f : DlFrame) : Dev :=
  match f.why with
  | .apdu c => d.okRes c f.fcnt
  | .push c p a =>
    if a && d.cPhase c = 2 && d.pPhase c p = 7 && !bit (d.pLeft c p) 0 then
      ((d.pPut c p 7 (d.pRound c p) (d.pCount c p) (d.pPos c p) (d.pLeft c p + 1)).pathDone c p).campShow c
    else d
  | .reply => d
  | .cmd _ =>
    match d.cmdOfFrame f with
    | none => d
    | some b => if b.noAck then d.cmdEnd b 0 1 b.cseq f.fcnt else d

/-- A frame comes back undeliverable: an attempt without an ACK (R231, R300). -/
def Dev.dlReturned (d : Dev) (f : DlFrame) : Dev :=
  match f.why with
  | .apdu c => d.fail c bolNoAck
  | .push _ _ _ => d
  | .reply => d
  | .cmd _ => if (d.cmdOfFrame f).isSome then d.cmdNext f.index else d

/-- A frame is discarded for want of the token (R232, R233): the command ends with TOKEN and is not retried; an activation
broadcast is repeated later. -/
def Dev.dlToken (d : Dev) (f : DlFrame) : Dev :=
  match f.why with
  | .apdu c => d.fail c stToken
  | .reply => d
  | .push c p a =>
    if a && d.pPhase c p = 7 then d.pPut c p 7 (d.pRound c p) (d.pCount c p - 1) (d.pPos c p) (d.pLeft c p) else d
  | .cmd _ =>
    match d.cmdOfFrame f with
    | none => d
    | some b => d.cmdEnd b stToken 4 b.cseq f.fcnt

/-- Frames of a campaign or an answer whose seal fails: the campaign is ABORTED without CANCEL (R243). -/
def Dev.dlFail (d : Dev) (f : DlFrame) (status : Nat) : Dev :=
  match f.why with
  | .apdu c => d.fail c status
  | .reply => d
  | .push c _ _ => if status = bolKey then d.campAborted c else d
  | .cmd _ =>
    match d.cmdOfFrame f with
    | none => d
    | some b => d.cmdEnd b status 5 b.cseq 0

/-- Seal and queue a frame, or end what it stands for. -/
def Dev.dlPut (d : Dev) (f : DlFrame) : Dev :=
  match d.sealFrame f with
  | (d, .wait) => d.dlQueue f
  | (d, .ok f) => d.dlQueue f
  | (d, .fail st) => d.dlFail f st

/-- Whether campaigns are paused by Storm. -/
def Dev.bolPaused (d : Dev) : Bool := d.mode == .storm && d.on F.BOL_CTRL_storm_pause

/-- The oldest frame for a path that may be released now, sealed: an actuating one only while the token is held (R232), none
in a hold (R483), none of a campaign while Storm pauses them (R244). -/
def Dev.dlTake (d : Dev) (path : Nat) (ok : DlFrame → Bool) : Dev × Option DlFrame :=
  match d.bol.outq.find? (fun f => f.path == path && !d.hold && ok f && (!f.act || d.tokenFree)
      && !(d.bolPaused && (match f.why with
        | .push _ _ _ => true
        | _ => false))) with
  | none => (d, none)
  | some f =>
    let drop (d : Dev) : Dev := { d with bol := { d.bol with outq := d.bol.outq.filter (fun x => x.id != f.id) } }
    let out (d : Dev) (f : DlFrame) : Dev × Option DlFrame := ((drop d).bump F.BOL_TX_FRAMES_frames, some f)
    if f.body != [] then out d f
    else
      match d.sealFrame f with
      | (d, .wait) => (d, none)
      | (d, .ok f) => out d f
      | (d, .fail st) => ((drop d).dlFail f st, none)

/-! ### Running (R244–R246) -/

/-- Whether Bolero serves commands: running, in a mode where it is on, and in Shadow only what changes nothing. -/
def Dev.bolServed (d : Dev) (c : Desc) (reads : Bool) (k : Dev → Dev) : Dev :=
  if d.on F.BOL_STATUS_running && d.mode.serving && (reads || d.mode != .shadow) then k d else d.fail c bolMode

/-- Whether Bolero may send. -/
def Dev.bolSends (d : Dev) : Bool := d.on F.BOL_STATUS_running && d.onAir

/-- Show the token and the pause. -/
def Dev.bolShow (d : Dev) : Dev :=
  let d := d.flag F.BOL_STATUS_token d.tokenHeld
  if d.on F.BOL_STATUS_running then d.flag F.BOL_STATUS_paused d.bolPaused else d

/-! ### Campaign broadcasts (R237–R241) -/

/-- A broadcast of a campaign on a path. -/
def Dev.campPush (d : Dev) (c p dtype : Nat) (payload : List Byte) (act : Bool) : Dev :=
  if d.cPhase c != 2 && d.cPhase c != 9 then d
  else d.dlPut { (mkDl p 0 0 (.push c p act) dtype 2 false act payload) with group := d.cGroup c }

/-- PUSH_CTRL (R238). -/
def Dev.pushCtrl (d : Dev) (c p op : Nat) (rest : List Byte) (act : Bool := false) : Dev :=
  d.campPush c p 3 (leBytes 4 (d.cCtag c) ++ leBytes 1 op ++ leBytes 1 (d.cKind c) ++ leBytes 2 (d.pRound c p) ++ rest) act

/-- The image. -/
def Dev.cImage (d : Dev) (c : Nat) : List Byte := d.mem.readBytes (d.bolArea + cOff c + 0x10000) (d.cLen c)

def Dev.pushAnnounce (d : Dev) (c p : Nat) : Dev :=
  d.pushCtrl c p 0 (leBytes 4 (d.cLen c) ++ leBytes 4 (crc32c 0xFFFFFFFF (d.cImage c)) ++ leBytes 4 (d.cSelector c))

/-- The path enters STATUS: STATUS_REQ with the path's window. -/
def Dev.campStatus (d : Dev) (c p : Nat) : Dev :=
  (d.pPut c p 4 (d.pRound c p) 0 0 0).pushCtrl c p 1 (leBytes 4 (d.cWindow c p))

/-- The activation broadcast; of a TARIFF campaign it is actuating (R235). -/
def Dev.pushActivate (d : Dev) (c p : Nat) : Dev := d.pushCtrl c p 2 (leBytes 4 (d.cActivateAt c)) (d.cKind c == 1)

/-- Source block b, padded with zeros (R239). -/
def Dev.cBlock (d : Dev) (c b : Nat) : List Byte :=
  padTo 256 (d.mem.readBytes (d.bolArea + cOff c + 0x10000 + 256 * b) (min 256 (d.cLen c - 256 * b)))

/-- PUSH_BLOCK (R238). -/
def Dev.pushBlock (d : Dev) (c s j k : Nat) (data : List Byte) : List Byte :=
  leBytes 4 (d.cCtag c) ++ leBytes 2 s ++ leBytes 2 j ++ leBytes 1 k ++ leBytes 1 (b2n (s + 1 == d.cSegs c)) ++ zeros 2 ++ data

/-- Multiplication in GF(2^8) with polynomial 0x11D (R239). -/
def gf11d (a b : Nat) : Nat :=
  (foldN 8 (fun k (s : Nat × Nat) =>
    let x := if bit b (7 - k) then s.1 ^^^ s.2 else s.1
    (x, if s.2 < 128 then 2 * s.2 else (2 * s.2) ^^^ 0x11D)) (0, a)).1

/-- The next x of the coefficient generator (R239). -/
def xorshift (x : Nat) : Nat :=
  let x := x ^^^ (x * 2 ^ 13 % 2 ^ 32)
  let x := x ^^^ (x / 2 ^ 17)
  x ^^^ (x * 2 ^ 5 % 2 ^ 32)

/-- n coefficients from x. -/
def coeffsF : Nat → Nat → List Nat
  | 0, _ => []
  | n + 1, x => xorshift x % 256 :: coeffsF n (xorshift x)

/-- The coefficients of repair j of segment s of g blocks (R239). -/
def coeffs (ctag s j g : Nat) : List Nat :=
  let x := crc32c 0xFFFFFFFF (leBytes 4 ctag ++ leBytes 2 s ++ leBytes 2 j)
  coeffsF g (if x = 0 then 1 else x)

/-- The first j from j whose coefficients are not all zero. DESIGN CHOICE (log entry 60): 1 follows 65,535. -/
def nextJ (ctag s g : Nat) : Nat → Nat → Nat
  | 0, j => j
  | fuel + 1, j =>
    let j := if 65535 < j then 1 else j
    if (coeffs ctag s j g).all (· == 0) then nextJ ctag s g fuel (j + 1) else j

/-- A repair block: the sum of c_k × B_k, byte by byte. -/
def repairData (cs : List Nat) (blocks : List (List Byte)) : List Byte :=
  (cs.zip blocks).foldl (fun (a : List Byte) e =>
    List.zipWith (fun (x y : Byte) => x ^^^ BitVec.ofNat 8 (gf11d y.toNat e.1)) a e.2) (zeros 256)

/-- Repair blocks for a code (R241). -/
def repairCount (code extra : Nat) : Nat :=
  if code = 0 then 0 else (if code = 1 then 1 else if code = 2 then 4 else 16) + extra

/-- The next segment from s that path p is to repair. -/
def Dev.nextNeed (d : Dev) (c p s : Nat) : Option Nat :=
  ((List.range (d.cSegs c)).filter (fun x => s ≤ x)).find? (fun x => d.cRd c (needOff p x) 1 / 16 != 0)

/-- Members whose records left the population are excluded, and members that moved take their new path (R237, R243). -/
def Dev.campRefresh (d : Dev) (c p : Nat) : Dev :=
  (d.onPath c p).foldl (fun d k =>
    let r := d.msrPeek (meIndex (d.mEnt c k))
    let st := rg r R.state
    if st = stRetired || st = stFree then d.mSet c k 5 5
    else
      let att := if (attPath (rg r R.attach)).isSome then rg r R.attach else rg r R.attachAlt
      match attPath att with
      | none => if settled (d.mEnt c k) then d else d.mSet c k 5 6
      | some q =>
        if q = p then d
        else
          let d := { d with bol := { d.bol with mpath := tset d.bol.mpath (mKey c k) (q + 1) } }
          if d.pPhase c q = 0 || (d.pPhase c q = 6 && !settled (d.mEnt c k)) then
            (d.pPut c q 4 (d.pRound c p) 0 0 0).campStatus c q
          else d) d

/-- Every member on a path is settled: the path is ARMED. -/
def Dev.campArm (d : Dev) (c p : Nat) : Dev := d.pPut c p 6 (d.pRound c p) 0 0 0

/-- The next round of a path begins with REPAIR: with nothing to repair it is at once at its STATUS. -/
def Dev.campRepair (d : Dev) (c p : Nat) : Dev :=
  let d := (List.range (d.cSegs c)).foldl (fun d s =>
    let x := d.cRd c (needOff p s) 1
    if x = 0 then d else d.cWr c (needOff p s) 1 (x % 16 * 16)) d
  let round := d.pRound c p + 1
  let d := (d.pPut c p 5 round 0 0 0).campRefresh c p
  match d.nextNeed c p 0 with
  | none => d.campStatus c p
  | some s => d.pPut c p 5 round 0 s (repairCount (d.cRd c (needOff p s) 1 / 16) (d.cRepExtra c))

/-- Whether the event of a campaign's path takes effect: Bolero sends, is not paused, and the campaign runs. -/
def Dev.campLive (d : Dev) (c p : Nat) : Bool :=
  d.bolSends && !d.bolPaused && d.cPhase c == 2 && d.pPhase c p != 0

/-- ANNOUNCE_REPEAT: the second and third announcement; one gap after the third, SOURCE (members without the group key are
excluded with reason 0x04). -/
def Dev.announceRepeat (d : Dev) (c p : Nat) : Dev :=
  if !d.campLive c p || d.pPhase c p != 2 then d
  else if d.pCount c p < 3 then ((d.pPut c p 2 0 (d.pCount c p + 1) 0 0).pushAnnounce c p).groupKeysGo
  else
    let d := (d.onPath c p).foldl (fun d k =>
      if d.keyHeldBy (meIndex (d.mEnt c k)) (d.cGroup c) then d else d.mSet c k 5 4) d
    (d.pPut c p 3 0 0 0 0).campShow c

/-- A source block on a path; it is sealed once for all paths. -/
def Dev.pushSource (d : Dev) (c p b : Nat) : Dev :=
  let key := c * 65536 + b
  let f : DlFrame := { (mkDl p 0 0 (.push c p false) 4 2 false false (d.pushBlock c (b / 64) 0 (b % 64) (d.cBlock c b))) with
    group := d.cGroup c }
  match mget? d.bol.sealedSrc key with
  | some body => d.dlQueue { f with body := body }
  | none =>
    match d.sealFrame f with
    | (d, .wait) => d.dlQueue f
    | (d, .ok f) => ({ d with bol := { d.bol with sealedSrc := mput d.bol.sealedSrc key f.body } }).dlQueue f
    | (d, .fail st) => d.dlFail f st

/-- Whether a path of Bolero still holds an unreleased campaign frame: pacing slips (R240, R300). -/
def Dev.pathHeld (d : Dev) (c p : Nat) : Bool :=
  d.bol.outq.any (fun f => f.path == p && (match f.why with
    | .push s _ _ => s == c
    | _ => false))

/-- The next member of a COMMAND campaign on a path (R234): its command under R231. -/
def Dev.campNextMember (d : Dev) (c p : Nat) : Dev :=
  match (d.onPath c p).find? (fun k => d.pPos c p ≤ k && meState (d.mEnt c k) == 0) with
  | none => d
  | some k =>
    let i := meIndex (d.mEnt c k)
    let code := d.cCode c
    let d := d.pPut c p 3 0 0 (k + 1) 0
    let st := rg (d.msrPeek i) R.state
    if st = stRetired || st = stFree then d.memberEnd c k 5 5
    else if d.msrCorrupt i || !cmdState st false then d.memberEnd c k 5 1
    else if codeNeeds2 code && rg (d.msrPeek i) R.dwnVer < 2 then d.memberEnd c k 7 0
    else if actuating code && !d.tokenFree then ((d.cmdToken i).raise 259).memberEnd c k 7 0
    else if !d.cmdRoom i then d.pPut c p 3 0 0 k 0
    else d.cmdAdd { index := i, code := code, cargs := d.cCargs c, noAck := false, src := .member c k }

/-- A repair block of the path's segment, then the next segment, or STATUS after the last. -/
def Dev.pushRepair (d : Dev) (c p : Nat) : Dev :=
  let s := d.pPos c p
  let g := d.cSegBlocks c s
  let j := nextJ (d.cCtag c) s g 8 (d.cRd c (0x400 + 2 * s) 2 + 1)
  let data := repairData (coeffs (d.cCtag c) s j g) ((List.range g).map (fun k => d.cBlock c (64 * s + k)))
  let round := d.pRound c p
  let left := d.pLeft c p - 1
  let d := (d.cWr c (0x400 + 2 * s) 2 j).bump F.BOL_TX_REPAIR_repairs
  let d := d.campPush c p 4 (d.pushBlock c s j g data) false
  if d.cPhase c != 2 then d
  else if left != 0 then d.pPut c p 5 round 0 s left
  else
    match d.nextNeed c p (s + 1) with
    | some t => d.pPut c p 5 round 0 t (repairCount (d.cRd c (needOff p t) 1 / 16) (d.cRepExtra c))
    | none => (d.campStatus c p).campShow c

/-- CAMPAIGN_BLOCK_PACE: the path's next source block, command, repair block or activation repeat. -/
def Dev.campaignBlockPace (d : Dev) (c p : Nat) : Dev :=
  if !d.campLive c p || d.pathHeld c p then d
  else if d.pPhase c p = 3 then
    if d.cKind c = 2 then d.campNextMember c p
    else
      let b := d.pPos c p
      let d := d.pushSource c p b
      if d.cPhase c != 2 then d
      else if b + 1 < d.cBlocks c then d.pPut c p 3 0 0 (b + 1) 0
      else (((d.pPut c p 3 0 0 (b + 1) 0).campRefresh c p).campStatus c p).campShow c
  else if d.pPhase c p = 5 then d.pushRepair c p
  else if d.pPhase c p = 7 && d.pCount c p < 3 then
    (d.pPut c p 7 (d.pRound c p) (d.pCount c p + 1) 0 (d.pLeft c p)).pushActivate c p
  else d

/-- STATUS_WINDOW_END: members that stayed silent are counted, and the path arms or repairs (R237). -/
def Dev.statusWindowEnd (d : Dev) (c p : Nat) : Dev :=
  if !d.campLive c p || d.pPhase c p != 4 then d
  else
    let d := (d.onPath c p).foldl (fun d k =>
      let e := d.mEnt c k
      if settled e || d.bol.heard.contains (mKey c k) then d
      else
        let n := satAdd 255 (meSilent e) 1
        let d := d.mPut c k (setByts e 6 1 n)
        if d.cSilentMax c ≤ n then d.mSet c k 6 0 else d) d
    let on := (d.onPath c p).map (mKey c)
    let d := { d with bol := { d.bol with heard := d.bol.heard.filter (fun x => !on.contains x) } }
    let allSettled (d : Dev) : Bool := (d.onPath c p).all (fun k => settled (d.mEnt c k))
    let d :=
      if allSettled d then d.campArm c p
      else if d.cMaxRounds c ≤ d.pRound c p then
        ((d.onPath c p).foldl (fun d k => if settled (d.mEnt c k) then d else d.mSet c k 7 0) d).campArm c p
      else
        let d := d.campRepair c p
        if allSettled d then d.campArm c p else d
    d.campShow c

/-- An ARMED campaign enters ACTIVATE: the first activation broadcast on every path. -/
def Dev.campActivate (d : Dev) (c : Nat) : Dev :=
  let ps := d.cPaths c
  if ps.isEmpty then (d.cWr c 0 1 8).campShow c
  else (ps.foldl (fun d p => ((d.pPut c p 7 (d.pRound c p) 1 0 0).pushActivate c p).pathDone c p) d).campShow c

/-- ACTIVATE_AT_REACHED. -/
def Dev.activateAtReached (d : Dev) (c : Nat) : Dev :=
  if d.bolSends && !d.bolPaused && d.campPhase c = 6 && d.cActivateAt c != 0
      && sgn 32 (serSub 32 (d.cActivateAt c) d.dwnNow) ≤ 0
  then d.campActivate c else d

/-- ACTIVATION_WINDOW_END: the path is done, once a TARIFF activation was sent on it. -/
def Dev.activationWindowEnd (d : Dev) (c p : Nat) : Dev :=
  if !d.campLive c p || d.pPhase c p != 7 then d
  else ((d.pPut c p 7 (d.pRound c p) (d.pCount c p) (d.pPos c p) (setBits (d.pLeft c p) 1 1 1)).pathDone c p).campShow c

/-! ### Acknowledgements and notices (R228, R229, R236) -/

/-- Count a discarded acknowledgement request. -/
def Dev.ackDrop (d : Dev) : Dev := (d.bump F.BOL_ACKQ_DROP_dropped).setF F.BOL_ERR_ackq_drop

/-- Whether Storm discards a request. -/
def Dev.ackStorm (d : Dev) (q : AckReq) : Bool := d.bolPaused && (q.ftype == 4 || q.ftype == 5)

/-- ACK_REQUEST: a lane's oldest request joins the queue. -/
def Dev.ackRequest (d : Dev) : Dev :=
  match d.bol.passed with
  | [] => d
  | q :: t =>
    let d := { d with bol := { d.bol with passed := t } }
    if !d.bolSends then d
    else if d.ackStorm q || 65536 ≤ d.bol.ackq.length then d.ackDrop
    else { d with bol := { d.bol with ackq := d.bol.ackq ++ [q] } }

/-- ACK_DELAY_EXPIRY: ack_delay after its frame's stamp, the oldest request is answered. -/
def Dev.ackDelayExpiry (d : Dev) : Dev :=
  match d.bol.ackq with
  | [] => d
  | q :: t =>
    let delay := zeroAs (d.rd F.BOL_CTRL_ack_delay) 1 * msNs
    if d.tick < q.stamp + delay then d
    else
      let d := { d with bol := { d.bol with ackq := t } }
      if !d.bolSends then d
      else if d.ackStorm q then d.ackDrop
      else
        match attPath q.attach, (if q.ftype = 0 then d.idtFind q.eui else some q.index) with
        | some p, some i =>
          match d.msrGet i with
          | (d, none) => d
          | (d, some r) =>
            if q.ftype = 0 then
              if rg r R.state = stActive || rg r R.state = stAdrift || rg r R.state = stQuarantined then
                d.dlPut (mkDl p q.attach i .reply 0 1 false false
                  (leBytes 3 i ++ leBytes 1 (rg r R.dwnVer) ++ zeros 4))
              else d
            else d.dlPut (mkDl p q.attach i .reply 2 0 false false
              (leBytes 4 (rg r R.frameCounter) ++ leBytes 8 (rg r R.replay)))
        | _, _ => d

/-- What an acknowledged command changes: GEN_ADVANCE restarts the counter for the new generation, GROUP_KEY confirms the
key (R222, R228). -/
def Dev.cmdAcked (d : Dev) (b : BCmd) : Dev :=
  if b.code = 9 then
    let d := (d.bolWr (dlOff b.index) 4 (d.rd F.BOL_EPOCH_epoch * 2 ^ 24)).ctrFresh b.index
    { d with bol := { d.bol with dlGen := tset d.bol.dlGen b.index (leAt b.cargs 0 2 + 1),
                                 spent := d.bol.spent.filter (fun x => x != b.index) } }
  else if b.code = 0xA then
    let e := d.bolRd (dlOff b.index) 16
    d.bolWr (dlOff b.index) 16 (setBits (setByts (setByts e 6 2 (leAt b.cargs 0 2)) 8 2 (leAt b.cargs 2 2)) 80 1 1)
  else d

/-- ACK_NOTICE: the oldest ACK notice completes the command in flight it names, or matches nothing. -/
def Dev.ackNotice (d : Dev) : Dev :=
  match d.bol.notices.find? (fun x => x.ftype == 6) with
  | none => d
  | some x =>
    let d := { d with bol := { d.bol with notices := d.bol.notices.erase x } }
    let cseq := leAt x.body 0 2
    let res := byteAt x.body 3
    let good := res = 0 || res = 1 || res = 5
    let hit := (d.cmdOf x.index).filter (fun b => b.cseq == cseq && b.tries != 0)
    match hit with
    | some b =>
      let result := cseq + res * 2 ^ 16 + leAt x.body 4 4 * 2 ^ 32
      if good then (d.cmdAcked b).cmdEnd b 0 1 result b.fcnt else d.cmdEnd b bolRefused 2 result b.fcnt
    | none =>
      let d := d.bump F.BOL_ERR_ack_unmatched
      let e := d.bolRd (dlOff x.index) 16
      if byts e 4 2 = (cseq + 1) % 65536 then d.bolWr (dlOff x.index) 16 (setByts e 11 1 (if good then 1 else 2)) else d

/-- The codes of a PUSH_STATUS per segment (R238): beyond the payload, complete. -/
def statusCode (body : List Byte) (s : Nat) : Nat := bits (byteAt body (8 + s / 4)) (2 * (s % 4)) 2

/-- A member's PUSH_STATUS (R236): its state, what it holds, that it was heard, and the segments it lacks. -/
def Dev.pushMember (d : Dev) (x : Notice) (c k : Nat) : Dev :=
  let p := tget d.bol.mpath (mKey c k) - 1
  let pst := byteAt x.body 4
  let held := leAt x.body 6 2
  let e := d.mEnt c k
  let st := if pst = 0 then 1 else if pst = 1 then 2 else if pst = 2 then 4 else if pst = 3 then 3 else meState e
  let st := if settled e && st < 2 then meState e else st
  let d := d.mPut c k (setByts (setByts (setBits e 20 4 st) 4 2 held) 6 1 0)
  let d := { d with bol := { d.bol with heard := if d.bol.heard.contains (mKey c k) then d.bol.heard
                                                 else mKey c k :: d.bol.heard } }
  let d := if d.msrCorrupt x.index then d
    else d.recEdit x.index (wlzFields [(R.blocksHeld, min held 0x7FFF)])
  let d := (List.range (d.cSegs c)).foldl (fun d s =>
    let y := d.cRd c (needOff p s) 1
    let code := statusCode x.body s
    if y % 16 < code then d.cWr c (needOff p s) 1 (y / 16 * 16 + code) else d) d
  (d.pathDone c p).campShow c

/-- PUSH_STATUS_NOTICE: the oldest PUSH_STATUS notice updates its member. -/
def Dev.pushStatusNotice (d : Dev) : Dev :=
  match d.bol.notices.find? (fun x => x.ftype == 7) with
  | none => d
  | some x =>
    let d := { d with bol := { d.bol with notices := d.bol.notices.erase x } }
    let r := d.msrPeek x.index
    let c := rg r R.campaign
    let ctag := leAt x.body 0 4
    let k? := (List.range (d.cMembers c)).find? (fun k => meIndex (d.mEnt c k) == x.index && meState (d.mEnt c k) != 5)
    match (if rg r R.inCampaign = 1 && d.cPhase c = 2 && d.cCtag c = ctag then k? else none) with
    | none => d.bump F.BOL_ERR_ack_unmatched
    | some k => d.pushMember x c k

/-- CMD_ATTEMPT_TIMEOUT: cmd_to after an attempt; an attempt whose frame still waits in Bolero has not begun its time. -/
def Dev.cmdAttemptTimeout (d : Dev) (i : Nat) : Dev :=
  match d.cmdOf i with
  | none => d
  | some b =>
    let waiting := d.bol.outq.any (fun f => f.index == i && f.why == .cmd b.cseq)
    if !d.bolSends || b.tries = 0 || waiting then d else d.cmdNext i

/-- TOKEN_WAIT_EXPIRY: a held actuating frame ends with TOKEN. -/
def Dev.tokenWaitExpiry (d : Dev) (id : Nat) : Dev :=
  match d.bol.outq.find? (fun f => f.id == id && f.act) with
  | none => d
  | some f =>
    if d.tokenFree then d
    else ({ d with bol := { d.bol with outq := d.bol.outq.filter (fun x => x.id != id) } }).dlToken f

/-- Every held actuating frame ends with TOKEN (R434). -/
def Dev.tokenHeldEnd (d : Dev) : Dev :=
  let l := d.bol.outq.filter (·.act)
  l.foldl (fun d f => d.dlToken f) { d with bol := { d.bol with outq := d.bol.outq.filter (fun f => !f.act) } }

/-! ### Starting (R221, R225, R245, R246) -/

/-- Paths restart their current step: STATUS with a fresh window; SOURCE and REPAIR go on where they stand (R245). -/
def Dev.campsResume (d : Dev) : Dev :=
  (List.range 64).foldl (fun d c =>
    if d.cPhase c != 2 then d
    else
      let d := (List.range (d.cMembers c)).foldl (fun d k =>
        if tget d.bol.mpath (mKey c k) != 0 || meState (d.mEnt c k) = 5 then d
        else
          match attPath (rg (d.msrPeek (meIndex (d.mEnt c k))) R.attach) with
          | none => d
          | some p => { d with bol := { d.bol with mpath := tset d.bol.mpath (mKey c k) (p + 1) } }) d
      let d := (d.cPaths c).foldl (fun d p => if d.pPhase c p = 4 then d.campStatus c p else if d.cKind c = 2 then d.pathDone c p else d) d
      d.campShow c) d

/-- Bolero runs once the MSR is ready, Pavane unlocked and the area fitted. A lost area ends its campaigns, and raises the epoch once
Gavotte runs, before any frame is sealed (R225, R246). -/
def Dev.bolSync (d : Dev) : Dev :=
  if d.on F.BOL_CTRL_enable && !d.on F.BOL_STATUS_running && d.on F.MSR_STATUS_ready && d.unlocked
      && d.inDram d.bolArea 0x53000000 then
    let d := d.setF F.BOL_STATUS_running
    let d := if d.bol.areaLost then
        let lost := d.bol.lostSlots
        let d := { d with bol := { d.bol with areaLost := false, lostSlots := [], dlGen := [], spent := [], mpath := [], epochDue := true } }
        let d := d.msrRecs.foldl (fun d e =>
          if rg e.2 R.inCampaign = 1 && lost.contains (rg e.2 R.campaign) && !d.msrCorrupt e.1 then
            d.recEdit e.1 (wlzFields [(R.inCampaign, 0)])
          else d) d
        lost.foldl (fun d c => (d.cWr c 0 1 9).campShow c) d
      else d
    let d := (List.range 64).foldl (fun d c => if d.cPhase c = 0 then d else d.campRegs c) d
    (if d.mode != .shadow then d.campsResume else d).epochStart.bolShow
  else d.epochStart

/-- BOL_ENABLE: a write of BOL_CTRL. -/
def Dev.bolEnable (d : Dev) (v : Nat) : Dev :=
  let was := d.on F.BOL_CTRL_enable
  let d := d.regWrite32 0x80000 v
  if !d.on F.BOL_CTRL_enable then ((d.clrF F.BOL_STATUS_running).clrF F.BOL_STATUS_paused).bolShow
  else if was then d.bolShow
  else if d.inDram d.bolArea 0x53000000 then ((d.commitRwl 0x80000).bolSync).bolShow
  else ((d.clrF F.BOL_CTRL_enable).setF F.BOL_ERR_area_bad).raise 262

/-! ### The opcodes (R247) -/

/-- BOL_CMD. -/
def Dev.bolCmd (d : Dev) (c : Desc) : Dev :=
  d.withFields c [(24, 30), (32, 64)] fun d =>
    let i := argIndex c.w
    let code := wArg c.w 28 1
    let fl := wArg c.w 29 1
    let cargs := leBytes 32 (wArg c.w 32 32)
    if msrSize ≤ i || 3 < fl || !cargsOk code cargs then d.fail c stBadField
    else d.bolServed c false fun d =>
      match d.msrGet i with
      | (d, none) => d.finish c { status := bolBadState, result := rg (d.msrPeek i) R.state }
      | (d, some r) =>
        if !cmdState (rg r R.state) (bit fl 0) then d.finish c { status := bolBadState, result := rg r R.state }
        else if codeNeeds2 code && rg r R.dwnVer < 2 then d.fail c bolVersion
        else if actuating code && !d.tokenFree then
          ((d.cmdToken i).raise 259).fail c stToken
        else if !d.cmdRoom i then d.fail c stNoResource
        else d.cmdAdd { index := i, code := code, cargs := cargs, noAck := bit fl 1, src := .desc c }

/-- BOL_APDU. -/
def Dev.bolApdu (d : Dev) (c : Desc) : Dev :=
  d.withFields c [(8, 20), (24, 28)] fun d =>
    let i := argIndex c.w
    if msrSize ≤ i || wLen c.w = 0 || 400 < wLen c.w then d.fail c stBadField
    else d.bolServed c false fun d =>
      match d.msrGet i with
      | (d, none) => d.finish c { status := bolBadState, result := rg (d.msrPeek i) R.state }
      | (d, some r) =>
        if !cmdState (rg r R.state) false then d.finish c { status := bolBadState, result := rg r R.state }
        else if c.data.length != wLen c.w then d.fail c stHostFault
        else
          match attPath (rg r R.attach) with
          | none => d.fail c bolNoAck
          | some p => d.dlPut (mkDl p (rg r R.attach) i (.apdu c) 5 0 false false c.data)

/-- Whether a tariff table keeps to R235. -/
def tariffOk (l : List Byte) : Bool :=
  let dt := byteAt l 8
  let pts := byteAt l 9
  let hol := leAt l 10 2
  1 ≤ dt && dt ≤ 4 && 1 ≤ pts && pts ≤ 48 && hol ≤ 64 && l.length == 19 + 2 * dt * pts + 4 * hol
    && ((l.drop 12).take 7).all (fun b => b.toNat < dt)
    && ((chunks 2 ((l.drop 19).take (2 * dt * pts))).all (fun e => leAt e 0 2 < 0x2000 && leAt e 0 2 % 0x800 < 1440))

/-- BOL_CAMP_LOAD. -/
def Dev.bolCampLoad (d : Dev) (c : Desc) : Dev :=
  let kind := wArg c.w 25 1
  d.withFields c (if kind = 2 then [(8, 20), (24, 26), (28, 32), (36, 37)] else [(8, 20), (24, 36)]) fun d =>
    let s := wArg c.w 24 1
    let code := wArg c.w 36 1
    if 63 < s || 2 < kind || 4095 < wArg c.w 26 2 || wLen c.w = 0 || (kind == 2 && wLen c.w != 32) then d.fail c stBadField
    else d.bolServed c false fun d =>
      if 0x800000 < wLen c.w then d.fail c bolTooBig
      else if d.cPhase s != 0 then d.fail c bolSlot
      else if c.data.length != wLen c.w then d.fail c stHostFault
      else if (kind == 1 && !tariffOk c.data) || (kind == 2 && !cargsOk code c.data) then d.fail c stBadField
      else
        let d := d.bolWr (cOff s) 96 (1 + kind * 2 ^ 8 + code * 2 ^ 16 + wArg c.w 26 2 * 2 ^ 48 + wArg c.w 28 4 * 2 ^ 64
          + wArg c.w 32 4 * 2 ^ 96 + wLen c.w * 2 ^ 128 + (if kind = 2 then leNat c.data * 2 ^ 512 else 0))
        let d := if kind = 2 then d else d.bolWr (cOff s + 0x10000) c.data.length (leNat c.data)
        (d.campShow s).okRes c (d.cBlocks s)

/-- Add one member; answers the device and whether it was excluded. -/
def Dev.campAdd (d : Dev) (s i : Nat) : Dev × Bool :=
  let r := d.msrPeek i
  let reason :=
    if d.msrCorrupt i || !cmdState (rg r R.state) false then 1
    else if d.cKind s != 2 && rg r R.dwnVer < 2 then 2
    else if rg r R.inCampaign = 1 then 3 else 0
  let n := d.cMembers s
  let d := d.mPut s n (i + (if reason = 0 then 0 else 5 * 2 ^ 20 + reason * 2 ^ 24))
  (d.cWr s 20 4 (n + 1), reason != 0)

/-- BOL_CAMP_MEMBERS. -/
def Dev.bolCampMembers (d : Dev) (c : Desc) : Dev :=
  let mode := wArg c.w 25 1
  d.withFields c (if mode = 0 then [(8, 20), (24, 26)] else if mode = 1 then [(4, 8), (24, 26)] else [(24, 26), (28, 32)]) fun d =>
    let s := wArg c.w 24 1
    if 63 < s || 2 < mode || (mode == 0 && wLen c.w % 4 != 0) then d.fail c stBadField
    else d.bolServed c false fun d =>
      if d.cPhase s != 1 then d.fail c bolSlot
      else if mode = 0 && c.data.length != wLen c.w then d.fail c stHostFault
      else
        let named := (chunks 4 c.data).map (fun e => leAt e 0 4)
        let recs := d.msrRecs.filter (fun e => rg e.2 R.state != stFree)
        let want :=
          if mode = 0 then named
          else if mode = 1 then (recs.filter (fun e => rg e.2 R.districtHandle == wHandle c.w)).map (·.1)
          else (recs.filter (fun e => (attPath (rg e.2 R.attach)).any (fun p => wArg c.w 28 2 ≤ p && p ≤ wArg c.w 30 2))).map (·.1)
        if want.any (fun i => msrSize ≤ i) then d.fail c stBadField
        else
          let have' := (List.range (d.cMembers s)).map (fun k => meIndex (d.mEnt s k))
          let new := (want.filter (fun i => !have'.contains i)).eraseDups
          let x := new.foldl (fun (a : Dev × Nat × Nat) i =>
            let y := a.1.campAdd s i
            (y.1, a.2.1 + b2n (!y.2), a.2.2 + b2n y.2)) (d, 0, 0)
          (x.1.campShow s).okRes c x.2.1 x.2.2

/-- BOL_CAMP_START. -/
def Dev.bolCampStart (d : Dev) (c : Desc) : Dev :=
  d.withFields c [(24, 44)] fun d =>
    let s := wArg c.w 24 1
    if 63 < s then d.fail c stBadField
    else d.bolServed c false fun d =>
      if d.cPhase s != 1 then d.fail c bolSlot
      else
        let d := d.cWr s 3 3 (zeroAs (wArg c.w 25 1) 6 + wArg c.w 26 1 * 2 ^ 8 + zeroAs (wArg c.w 27 1) 3 * 2 ^ 16)
        let d := ((d.cWr s 24 12 (wArg c.w 28 12)).cWr s 36 4 (wArg c.w 40 4)).cWr s 0 1 2
        let start (d : Dev) (k : Nat) : Dev :=
          let e := d.mEnt s k
          let i := meIndex e
          let r := d.msrPeek i
          if meState e = 5 then d
          else if d.msrCorrupt i || !cmdState (rg r R.state) false then d.mSet s k 5 1
          else if rg r R.inCampaign = 1 then d.mSet s k 5 3
          else
            let att := if (attPath (rg r R.attach)).isSome then rg r R.attach else rg r R.attachAlt
            match attPath att with
            | none => d.mSet s k 5 6
            | some p =>
              let d := d.recEdit i (wlzFields [(R.campaign, s), (R.inCampaign, 1)])
              let d := { d with bol := { d.bol with mpath := tset d.bol.mpath (mKey s k) (p + 1) } }
              if d.pPhase s p != 0 then d else d.pPut s p (if d.cKind s = 2 then 3 else 2) 0 0 0 0
        let d := (List.range (d.cMembers s)).foldl start d
        let d := if d.cKind s = 2 then d
          else
            let g := d.cGroup s
            let want := (List.range (d.cMembers s)).filter (fun k =>
              meState (d.mEnt s k) != 5 && !d.keyHeldBy (meIndex (d.mEnt s k)) g)
            let d := ({ d with bol := { d.bol with keyWait := d.bol.keyWait ++ want.map (fun k => (s, k)) } }).groupKeysGo
            (d.cPaths s).foldl (fun d p => (d.pPut s p 2 0 1 0 0).pushAnnounce s p) d
        (d.campShow s).okRes c

/-- Run an opcode on a slot whose shown phase is one of those given. -/
def Dev.campOn (d : Dev) (c : Desc) (reads : Bool) (phases : List Nat) (k : Dev → Nat → Dev) : Dev :=
  let s := wArg c.w 24 1
  if 63 < s then d.fail c stBadField
  else d.bolServed c reads fun d => if phases.contains (d.campPhase s) then k d s else d.fail c bolSlot

/-- BOL_CAMP_ACTIVATE. -/
def Dev.bolCampActivate (d : Dev) (c : Desc) : Dev :=
  d.withFields c [(24, 25)] fun d => d.campOn c false [6] fun d s => (d.campActivate s).okRes c

/-- BOL_CAMP_WAIT. -/
def Dev.bolCampWait (d : Dev) (c : Desc) : Dev :=
  d.withFields c [(24, 25)] fun d => d.campOn c true [1, 2, 3, 4, 5, 6, 7, 8, 9] fun d s =>
    { d with bol := { d.bol with waiters := d.bol.waiters ++ [(s, c)] } }

/-- BOL_CAMP_REPORT. -/
def Dev.bolCampReport (d : Dev) (c : Desc) : Dev :=
  d.withFields c [(8, 20), (24, 25)] fun d =>
    if wLen c.w % 8 != 0 then d.fail c stBadField
    else d.campOn c true [1, 2, 3, 4, 5, 6, 7, 8, 9] fun d s =>
      let n := min (wLen c.w / 8) (d.cMembers s)
      let l := d.mem.readBytes (d.bolArea + cOff s + mOff 0) (8 * n)
      d.finish c { status := 0, result := n, data := if n = 0 then [] else [(wAddr c.w, l)] }

/-- BOL_CAMP_ABORT: CANCEL three times on every path. -/
def Dev.bolCampAbort (d : Dev) (c : Desc) : Dev :=
  d.withFields c [(24, 25)] fun d => d.campOn c false [1, 2, 3, 4, 5, 6, 7] fun d s =>
    let cancel := d.cPhase s == 2 && d.cKind s != 2
    let ps := d.cPaths s
    let d := d.cmdsSet (d.bol.cmds.filter (fun b => b.tries != 0 || (match b.src with
      | .member x _ => x != s
      | _ => true)))
    let d := d.campAborted s
    let d := if cancel then ps.foldl (fun d p => foldN 3 (fun _ d => d.pushCtrl s p 3 (zeros 4)) d) d else d
    d.okRes c

/-- BOL_CAMP_FREE. -/
def Dev.bolCampFree (d : Dev) (c : Desc) : Dev :=
  d.withFields c [(24, 25)] fun d => d.campOn c false [1, 8, 9] fun d s =>
    let d := d.campLeave s
    let zero (d : Dev) (o n : Nat) : Dev := d.bolWr (cOff s + o) n 0
    let d := zero (zero (zero (zero d (mOff 0) (8 * d.cMembers s)) 0x1010000 (4124 * 512)) 0x10000 (d.cLen s)) 0 0x10000
    let mine (x : Nat) : Bool := x / 2 ^ 20 == s
    let d := { d with bol := { d.bol with mpath := d.bol.mpath.filter (fun e => !mine e.1),
                                          heard := d.bol.heard.filter (fun x => !mine x),
                                          sealedSrc := d.bol.sealedSrc.filter (fun e => e.1 / 65536 != s) } }
    (d.campShow s).okRes c

/-- BOL_GROUP_SET. The group table goes to the settings store (R246), and the command completes when it is there. A bgen that would repeat takes a new epoch first (R225). -/
def Dev.bolGroupSet (d : Dev) (c : Desc) : Dev :=
  d.withFields c [(4, 8), (24, 26)] fun d =>
    let g := wArg c.w 24 2
    if 4095 < g then d.fail c stBadField
    else d.bolServed c false fun d =>
      if d.grpHandle g = wHandle c.w then d.okRes c (d.grpBgen g)
      else
        let bgen := (d.grpBgen g + 1) % 65536
        let worn := bgen = 0 && d.rd F.BOL_EPOCH_epoch = 0xFF
        let d := (if bgen = 0 then d.epochAdvance else d).ctrFresh (2 ^ 20 + g)
        let d := { d with bol := { d.bol with groups := tset d.bol.groups g (wHandle c.w + bgen * 2 ^ 32) } }
        (d.grpPut g (wHandle c.w) bgen (if worn then 0xFFFFFFFF else d.rd F.BOL_EPOCH_epoch * 2 ^ 24)).tableSave tabPush d.bol.groups (some c) bgen

/-- BOL_CMD_STATUS. -/
def Dev.bolCmdStatus (d : Dev) (c : Desc) : Dev :=
  d.withFields c [(24, 28)] fun d =>
    let i := argIndex c.w
    if msrSize ≤ i then d.fail c stBadField
    else d.bolServed c true fun d =>
      let e := d.bolRd (dlOff i) 16
      d.okRes c (serSub 16 (byts e 4 2) 1 + byts e 11 1 * 2 ^ 16) (byts e 12 4)

end Sys2Proof.Machine
end

