-- ==== Sys2Proof/Machine/Plk.lean ====
section
/-! DEFINITION. Polka (chapter 10): the superframe with its beacon, grants and downlink region, segments and reassembly,
association, tone maps, zero crossings, faults and retirement, and PLK's commands. -/

namespace Sys2Proof.Machine

/-! ### A channel -/

def Dev.plc (d : Dev) (n : Nat) : Plc := mgetD d.plk n {}

def Dev.setPlc (d : Dev) (n : Nat) (c : Plc) : Dev := { d with plk := mput d.plk n c }

/-- Change a channel's state. -/
def Dev.modPlc (d : Dev) (n : Nat) (f : Plc → Plc) : Dev := d.setPlc n (f (d.plc n))

/-- The offset of a channel's receive buffer. -/
def plcFq (n : Nat) : Nat := 0xA0040 + 0x1000 * n

/-- Set a bit of PLK_EVENT; its source pends (R304). -/
def Dev.plcEvent (d : Dev) (n : Nat) (f : Fld) : Dev := (d.setF (f.at n)).raise (320 + 2 * n)

/-- The slot length in ns (R283). -/
def Dev.plcSlot (d : Dev) (n : Nat) : Nat := d.rd (F.PLK_SF_slot_q.at n) * 250000

/-- The airtime in ns of a frame of a band: preamble and symbols (R280); an MPDU of 64 B data in DQPSK on all 36 CENELEC A tones takes
31.1 ms (R283). -/
def plcAirOf (band mod mask bytes : Nat) : Nat :=
  let k := if band = 0 && mod = 2 && mask = 0 && bytes = 84 then 36 else Config.plcSymbols band mod mask bytes
  if band = 0 then 6080000 + 695000 * k else 2030000 + 231700 * k

/-- The airtime of a frame of a channel. -/
def Dev.plcAir (d : Dev) (n mod mask bytes : Nat) : Nat := plcAirOf (d.rd (F.PLK_CTRL_band.at n)) mod mask bytes

def Dev.plcMask (d : Dev) (n : Nat) : Nat := d.rd (F.PLK_TM_tone_mask.at n)

/-- Whether a channel runs: its STATUS says so and its domain is on (R478). -/
def Dev.plcRuns (d : Dev) (n : Nat) : Bool := d.on (F.PLK_STATUS_running.at n) && d.domOn .feb

/-- Whether the channel sends now; no new transmission starts in a hold (R483). -/
def Dev.plcSends (d : Dev) (n : Nat) : Bool :=
  d.plcRuns n && d.on (F.PLK_STATUS_beaconing.at n) && d.onAir && !d.hold

/-- Bring LEVEL and busy up to date with the receive buffer: busy from 75 %, until below 50 % (R295). -/
def Dev.plcRefresh (d : Dev) (n : Nat) : Dev :=
  let d := d.fifoStore (plcFq n) (d.fifo (plcFq n))
  let l := fifoLevelOf (plcFq n) (d.fifo (plcFq n)).items + d.fifoParts (plcFq n)
  if 192 ≤ l then d.setF (F.PLK_STATUS_busy.at n) else if l < 128 then d.clrF (F.PLK_STATUS_busy.at n) else d

/-! ### MPDUs (R285) -/

/-- An MPDU of the device. -/
def plcMpdu (mtype mflags dst sfn fid seg : Nat) (data : List Byte) : List Byte :=
  let b := leBytes 1 (mtype + 16) ++ leBytes 1 mflags ++ leBytes 2 0 ++ leBytes 2 dst ++ leBytes 2 sfn ++ leBytes 3 0xFFFFF
    ++ leBytes 1 fid ++ leBytes 1 seg ++ leBytes 1 data.length ++ zeros 2 ++ data
  b ++ leBytes 4 (crc32c 0xFFFFFFFF b)

/-- The parts of a received MPDU. -/
structure PlcHdr where
  mtype : Nat
  more : Bool
  src : Nat
  dst : Nat
  zcDelay : Nat
  fid : Nat
  seg : Nat
  count : Nat
  data : List Byte

def plcHdr (l : List Byte) : PlcHdr :=
  { mtype := byteAt l 0 % 16, more := bit (byteAt l 1) 0, src := leAt l 2 2, dst := leAt l 4 2, zcDelay := leAt l 8 3, fid := byteAt l 11,
    seg := byteAt l 12 % 8, count := bits (byteAt l 12) 3 3 + 1, data := (l.drop 16).take (byteAt l 13) }

/-- Whether an uplink MPDU's data has its type's length, and zeros where the type has them (R286). -/
def plcDataOk (mtype : Nat) (l : List Byte) : Bool :=
  match mtype with
  | 3 => l.length == 4 && leAt l 2 2 == 0
  | 4 => l.length == 16 && byteAt l 8 < 2 && leAt l 9 7 == 0
  | 6 | 7 | 9 => l.isEmpty
  | 8 => l.length == 8 && byteAt l 0 < 7 && byteAt l 1 == 0 && leAt l 6 2 == 0
  | _ => true

/-- The checks of R285 on a received MPDU. -/
def plcOk (m : PlcRx) : Bool :=
  let l := m.bytes
  let n := l.length
  m.decoded && 20 ≤ n && n == 20 + byteAt l 13 && leAt l (n - 4) 4 == crc32c 0xFFFFFFFF (l.take (n - 4))
    && byteAt l 0 / 16 == 1 && byteAt l 0 % 16 < 0xA && byteAt l 1 < 8 && byteAt l 10 < 16 && byteAt l 12 < 64
    && leAt l 14 2 == 0 && byteAt l 12 % 8 < bits (byteAt l 12) 3 3 + 1 && plcDataOk (byteAt l 0 % 16) ((l.drop 16).take (byteAt l 13))

/-- Whether an address is bound. -/
def Plc.bound (c : Plc) (a : Nat) : Option PlcBind := (mget? c.binds a).filter (fun b => b.freed.isNone)

/-- Show how many bindings are held. -/
def Dev.plcCount (d : Dev) (n : Nat) : Dev :=
  d.wr (F.PLK_STATUS_assoc_count.at n) (((d.plc n).binds.filter (fun e => e.2.freed.isNone)).length)

/-- A control MPDU for the next downlink region. -/
def Dev.plcCtl (d : Dev) (n dst mtype : Nat) (data : List Byte) : Dev :=
  if d.mode == .shadow then d else d.modPlc n (fun (c : Plc) => { c with ctl := c.ctl ++ [(dst, mtype, data)] })

/-- ASSOC_RSP (R286). -/
def Dev.assocRsp (d : Dev) (n dst eui status short offset : Nat) : Dev :=
  d.plcCtl n dst 5 (leBytes 8 eui ++ leBytes 1 status ++ zeros 1 ++ leBytes 2 short ++ leBytes 2 offset
    ++ leBytes 1 (min 10 (d.rd (F.PLK_GRANT_gp_log2.at n))) ++ leBytes 1 (d.rd (F.PLK_GRANT_grant_slots.at n)))

/-- TM_RSP: the map the meter must use (R298). -/
def Dev.tmRsp (d : Dev) (n a : Nat) (m : PlcRx) : Dev :=
  let data := leBytes 1 m.bestMod.toNat ++ zeros 1 ++ leBytes 3 m.bestMask.toNat ++ leBytes 1 m.margin.toNat ++ zeros 2
  match (d.plc n).bound a with
  | none => d.plcCtl n a 8 data
  | some b =>
    let b' := { b with ulMod := m.bestMod.toNat, ulMask := m.bestMask.toNat, ulAt := some (d.plc n).sf }
    let d := d.modPlc n (fun (c : Plc) => { c with binds := mput c.binds a b' })
    d.plcCtl n a 8 data

def Dev.tmLife (d : Dev) (n : Nat) : Nat := zeroAs (d.rd (F.PLK_TMCTL_tm_life.at n)) 1

/-- What every sound MPDU does: the sender's unused grants start over, more asks for a grant, a better map is named (R292,
R293, R298). -/
def Dev.plcHeard (d : Dev) (n : Nat) (h : PlcHdr) (m : PlcRx) : Dev :=
  let d := d.bump (F.PLK_CNT_NOISE_impulses.at n) m.impulses.toNat
  let d := if m.drift then d.bump (F.PLK_CNT_TIMING_drift.at n) else d
  match (d.plc n).bound h.src with
  | none => d
  | some b =>
    let rest := (d.plc n).more.filter (fun x => x != h.src)
    let more := if h.more then rest ++ [h.src] else rest
    let d := d.modPlc n (fun (c : Plc) => { c with binds := mput c.binds h.src { b with misses := 0 }, more := more })
    let due : Bool := (b.ulAt.map (fun t => decide (t + d.tmLife n ≤ (d.plc n).sf))).getD true
    if (b.ulMod != m.bestMod.toNat || b.ulMask != m.bestMask.toNat) && due && h.mtype != 7 then d.tmRsp n h.src m else d

/-- Receive an MPDU of a type: one that fails R285, or is of another type, is discarded and counted; one to another address than the
device's is not its own. -/
def Dev.plcRx (d : Dev) (n mtype : Nat) (m : PlcRx) (k : Dev → PlcHdr → Dev) : Dev :=
  if !d.plcRuns n then d
  else
    let h := plcHdr m.bytes
    if plcOk m && h.mtype == mtype then (if h.dst = 0 then k (d.plcHeard n h m) h else d)
    else
      let d := d.bump (F.PLK_CNT_NOISE_impulses.at n) m.impulses.toNat
      d.bump (F.PLK_CNT_SEG_seg_bad.at n)

/-! ### Uplink (R294, R295, R297) -/

/-- zc_offset of a segment (R297). -/
def Dev.zcOffset (d : Dev) (n stamp delay : Nat) : Nat :=
  match (((d.plc n).zcCaps.filter (fun t => t.2 && t.1 ≤ stamp)).map (·.1)).getLast? with
  | none => 0x7FFFFFFF
  | some t =>
    if delay = 0xFFFFF || !d.on (F.PLK_STATUS_zc_ok.at n) || d.rd (F.PLK_ZC_per_max.at n) * 1000 < stamp - t then 0x7FFFFFFF
    else uns 32 ((stamp : Int) - t - 20 * delay + sgn 32 (d.rd (F.PLK_ZC_CAL_zc_cal.at n)))

/-- A frame whose segments are all held leaves its parts and stands in the receive buffer behind its prefix. -/
def Dev.plcComplete (d : Dev) (n : Nat) (p : PlcPart) : Dev :=
  let frame := p.segs.flatMap (·.2)
  let pre := mkPrefix p.stamp (mkAttach 1 0 n p.src 0) p.zc frame.length p.quality 0 0 0
  let d := d.modPlc n (fun (c : Plc) => { c with parts := c.parts.filter (fun x => x.src != p.src || x.fid != p.fid),
                                                 passed := c.passed ++ [(p.src, p.fid, p.count, c.sf)] })
  let q := d.fifo (plcFq n)
  d.fifoStore (plcFq n) { q with items := q.items ++ [pre ++ frame] }

/-- Acknowledge a segment in the next beacon. -/
def Dev.plcAck (d : Dev) (n src fid seg : Nat) : Dev :=
  d.modPlc n (fun (c : Plc) => { c with acks := tset c.acks (src * 256 + fid) (tget c.acks (src * 256 + fid) ||| 2 ^ seg) })

/-- PLC_DATA_SEGMENT. -/
def Dev.plcDataSegment (d : Dev) (n : Nat) (m : PlcRx) : Dev :=
  d.plcRx n 1 m fun d h =>
    let d := (d.bump (F.PLK_CNT_SEG_seg_ok.at n)).sample 0x0B n m.margin.toNat
    let d := if ((d.plc n).bound h.src).isNone && d.mode != .shadow then d.assocRsp n h.src 0 3 0 0 else d
    let c := d.plc n
    let again := c.passed.any (fun x => x.1 == h.src && x.2.1 == h.fid && x.2.2.1 == h.count)
    if again then d.plcAck n h.src h.fid h.seg
    else
      let old := c.parts.find? (fun p => p.src == h.src && p.fid == h.fid)
      let p : PlcPart := match old.filter (fun p => p.count == h.count) with
        | some p => p
        | none => { src := h.src, fid := h.fid, count := h.count, segs := [], since := c.sf }
      let rest := c.parts.filter (fun x => x.src != h.src || x.fid != h.fid)
      if p.segs.any (fun e => e.1 == h.seg) then d.plcAck n h.src h.fid h.seg
      else
        let used := fifoLevelOf (plcFq n) (d.fifo (plcFq n)).items
          + ((d.setPlc n { c with parts := p :: rest }).fifoParts (plcFq n))
        if 256 < used + (h.data.length + 63) / 64 then d.bump (F.PLK_CNT_FRAME_drops.at n)
        else
          let p := { p with segs := mput p.segs h.seg h.data, quality := min p.quality m.margin.toNat }
          let p := if h.seg = 0 then { p with stamp := m.stamp.toNat, zc := d.zcOffset n m.stamp.toNat h.zcDelay } else p
          let d := d.plcAck n h.src h.fid h.seg
          let d := d.modPlc n (fun (c : Plc) => { c with parts := rest ++ [p] })
          (if p.segs.length = p.count then d.plcComplete n p else d).plcRefresh n

/-- PLC_REASSEMBLY_EXPIRY. -/
def Dev.plcReassemblyExpiry (d : Dev) (n src fid : Nat) : Dev :=
  let c := d.plc n
  match c.parts.find? (fun p => p.src == src && p.fid == fid) with
  | none => d
  | some p =>
    if c.sf < p.since + zeroAs (d.rd (F.PLK_GRANT_reasm_sf.at n)) 1 then d
    else
      let d := d.setPlc n { c with parts := c.parts.filter (fun x => x.src != src || x.fid != fid) }
      (d.bump (F.PLK_CNT_NOISE_reasm_expired.at n)).plcRefresh n

/-! ### Association (R290, R291, R293) -/

/-- A binding ends: the address is free, held for 1,024 superframes. -/
def Dev.plcUnbind (d : Dev) (n a : Nat) : Dev :=
  (d.modPlc n (fun (c : Plc) => { c with binds := mmod c.binds a (fun b => { b with freed := some c.sf }),
                                         more := c.more.filter (fun x => x != a) })).plcCount n

/-- The record a binding belongs to. -/
def Dev.recOf (d : Dev) (eui : Nat) : Option Nat := if d.on F.MSR_STATUS_ready then d.idtFind eui else none

/-- The short address or connection number a new EUI-64 takes among lo … top: the one its record names if free, else the lowest
free for `hold`, else the one freed longest ago. `used` gives when an address was freed, none when bound; an address never
used counts as free throughout. -/
def pickShort (lo top hold now : Nat) (named : Option Nat) (used : Nat → Option (Option Nat)) : Option Nat :=
  let isFree (a : Nat) : Bool := match used a with
    | none => true
    | some x => x.isSome
  let long (a : Nat) : Bool := match used a with
    | none => true
    | some (some t) => t + hold ≤ now
    | some none => false
  let all := (List.range (top + 1 - lo)).map (· + lo)
  match named.filter (fun a => lo ≤ a && a ≤ top && isFree a) with
  | some a => some a
  | none =>
    match all.find? long with
    | some a => some a
    | none =>
      (all.filter isFree).foldl (fun (best : Option Nat) a =>
        let at' (x : Nat) : Nat := ((used x).getD none).getD 0
        match best with
        | none => some a
        | some b => if at' a < at' b then some a else some b) none

/-- Write a binding into its record where an attachment names this channel (R291): answers whether the record names another
channel of the medium instead. `also` lists what else goes with it. -/
def Dev.bindRecord (d : Dev) (i : Nat) (medium mine : Nat → Bool) (edit : Nat → Nat) (also : List (Nat × Nat × Nat) := []) :
    Dev × Bool :=
  if d.msrCorrupt i then (d, false)
  else
    let r := d.msrPeek i
    let a := rg r R.attach
    let b := rg r R.attachAlt
    if mine a then (d.recEdit i (wlzFields [(R.attach, edit a)] ++ also), false)
    else if mine b then (d.recEdit i (wlzFields [(R.attachAlt, edit b)] ++ also), false)
    else (d, medium a || medium b)

/-- An attachment word with another short address. -/
def withShort (short a : Nat) : Nat := setBits a 20 16 short

/-- PLC_ASSOC_REQ (R290, R291, R301): an address the same EUI-64 gave up less than 1,024 superframes ago is its own again. -/
def Dev.plcAssocReq (d : Dev) (n : Nat) (m : PlcRx) : Dev :=
  d.plcRx n 4 m fun d h =>
    if d.mode == .shadow then d
    else
      let eui := leAt h.data 0 8
      let c := d.plc n
      let isMine (a : Nat) : Bool := atKind a == 1 && atChan a == n
      match c.binds.find? (fun e => e.2.eui == eui && e.2.freed.isNone) with
      | some e => d.assocRsp n 0xFFFE eui 0 e.1 e.2.offset
      | none =>
        if !d.on (F.PLK_CTRL_assoc_open.at n) then d.assocRsp n 0xFFFE eui 2 0 0
        else
          let i := d.recOf eui
          let r := (i.map d.msrPeek).getD 0
          let isFree (a : Nat) : Bool := ((mget? c.binds a).map (fun b => b.freed.isSome)).getD true
          let named := if isMine (rg r R.attach) then some (atShort (rg r R.attach))
            else if isMine (rg r R.attachAlt) then some (atShort (rg r R.attachAlt)) else none
          let back := (c.binds.find? (fun e => e.2.eui == eui && e.2.freed.any (fun t => c.sf < t + 1024))).map (·.1)
          match pickShort 1 2048 1024 c.sf (named.filter isFree <|> back) (fun a => (mget? c.binds a).map (·.freed)) with
          | none => d.assocRsp n 0xFFFE eui 1 0 0
          | some a =>
            let offset := d.freeVal 10 % 2 ^ (min 10 (d.rd (F.PLK_GRANT_gp_log2.at n)))
            let d := d.drawn.setPlc n { c with binds := mput c.binds a { eui := eui, offset := offset } }
            let d := ((d.plcCount n).plcEvent n F.PLK_EVENT_assoc)
            let elsewhere := d.plk.any (fun e => e.1 != n && e.2.binds.any (fun b => b.2.eui == eui && b.2.freed.isNone))
            let x := match i with
              | none => (d, false)
              | some i => d.bindRecord i (fun a => atKind a == 1) isMine (withShort a)
            let d := if x.2 || elsewhere then x.1.plcEvent n F.PLK_EVENT_foreign_assoc else x.1
            d.assocRsp n 0xFFFE eui 0 a offset

/-- PLC_ALIVE. -/
def Dev.plcAlive (d : Dev) (n : Nat) (m : PlcRx) : Dev :=
  d.plcRx n 6 m fun d h => if ((d.plc n).bound h.src).isNone && d.mode != .shadow then d.assocRsp n h.src 0 3 0 0 else d

/-- PLC_LEAVE. -/
def Dev.plcLeave (d : Dev) (n : Nat) (m : PlcRx) : Dev :=
  d.plcRx n 9 m fun d h => if ((d.plc n).bound h.src).isSome then d.plcUnbind n h.src else d

/-- PLC_STANDING_GRANT_MISS: at miss_lost the attachment is reported lost and the binding ends. -/
def Dev.plcStandingGrantMiss (d : Dev) (n a : Nat) : Dev :=
  match (d.plc n).bound a with
  | none => d
  | some b =>
    if !d.plcSends n then d
    else
      let k := b.misses + 1
      let d := d.bump (F.PLK_CNT_TIMING_missed_grants.at n)
      let d := d.modPlc n (fun (c : Plc) => { c with binds := mput c.binds a { b with misses := k } })
      let lim := d.rd (F.PLK_GRANT_miss_lost.at n)
      if lim = 0 || k < lim then d
      else
        let d := (d.plcEvent n F.PLK_EVENT_lost).plcUnbind n a
        ((d.recOf b.eui).map d.attachLost).getD d

/-- PLC_AT_SEL_WRITE. -/
def Dev.plcAtSelWrite (d : Dev) (n v : Nat) : Dev :=
  let a := bits v 0 12
  let c := d.plc n
  let d := (d.wr (F.PLK_AT_SEL_addr.at n) a).setF (F.PLK_AT_SEL_valid.at n)
  let put (d : Dev) (eui st misses mod off : Nat) : Dev :=
    ((((d.wr (F.PLK_AT_EUI_LO_eui.at n) eui).wr (F.PLK_AT_INFO_state.at n) st).wr (F.PLK_AT_INFO_misses.at n) misses).wr
      (F.PLK_AT_INFO_ul_mod.at n) mod).wr (F.PLK_AT_INFO_offset.at n) off
  match mget? c.binds a with
  | none => put d 0 0 0 0 0
  | some b =>
    match b.freed with
    | none => put d b.eui 1 (min b.misses 15) b.ulMod b.offset
    | some t => put d 0 (if c.sf < t + 1024 then 2 else 0) 0 0 0

/-! ### Tone maps and SACK (R286, R298) -/

/-- PLC_TM_REQ. -/
def Dev.plcTmReq (d : Dev) (n : Nat) (m : PlcRx) : Dev :=
  d.plcRx n 7 m fun d h => if d.mode == .shadow then d else d.tmRsp n h.src m

/-- PLC_TM_RSP: the downlink map to the meter. -/
def Dev.plcTmRsp (d : Dev) (n : Nat) (m : PlcRx) : Dev :=
  d.plcRx n 8 m fun d h =>
    d.modPlc n (fun (c : Plc) => { c with binds := mmod c.binds h.src (fun (b : PlcBind) =>
      { b with dlMod := byteAt h.data 0 % 16, dlMask := leAt h.data 2 3, dlAt := some c.sf, asked := false, noSack := 0 }) })

/-- The address a unicast frame goes to, while it is bound to the record's EUI-64 (R300). -/
def Dev.plcDest (d : Dev) (n : Nat) (f : DlFrame) : Option Nat :=
  let a := atShort f.attach
  ((d.plc n).bound a).bind (fun b => if b.eui == rg (d.msrPeek f.index) R.eui then some a else none)

/-- The segments of a downlink frame. -/
def Dev.plcSegs (d : Dev) (n : Nat) (f : DlFrame) : List (List Byte) := chunks (d.rd (F.PLK_GRANT_seg_max.at n)) f.body

/-- PLC_SACK: a frame all of whose segments the meter holds is done. -/
def Dev.plcSack (d : Dev) (n : Nat) (m : PlcRx) : Dev :=
  d.plcRx n 3 m fun d h =>
    let fid := byteAt h.data 0
    let held := byteAt h.data 1
    let isIt (j : PlcJob) : Bool := j.fid == some fid && atShort j.frame.attach == h.src
    let upd (j : PlcJob) : PlcJob := if isIt j then { j with held := j.held ||| held } else j
    let done (j : PlcJob) : Bool := isIt j && j.held % 2 ^ (d.plcSegs n j.frame).length == 2 ^ (d.plcSegs n j.frame).length - 1
    d.modPlc n (fun (c : Plc) => { c with uni := (c.uni.map upd).filter (fun j => !done j),
                                          binds := mmod c.binds h.src (fun b => { b with noSack := 0 }) })

/-! ### Downlink (R300) -/

/-- PLC_DL_RELEASE: the oldest frame Bolero holds for the channel joins its queue, if there is room for its kind. -/
def Dev.plcDlRelease (d : Dev) (n : Nat) : Dev :=
  let c := d.plc n
  if !d.plcRuns n || d.mode == .shadow then d
  else
    match d.dlTake n (fun f => if f.dest = 2 then c.bcast.length < 16 else c.uni.length < 64) with
    | (d, none) => d
    | (d, some f) =>
      if f.dest = 2 then d.modPlc n (fun (c : Plc) => { c with bcast := c.bcast ++ [{ frame := f }] })
      else if (d.plcDest n f).isNone then d.dlReturned f
      else d.modPlc n (fun (c : Plc) => { c with uni := c.uni ++ [{ frame := f }] })

/-- A job of the queue comes back to Bolero; an APDU that was on the air has already completed. -/
def Dev.plcReturn (d : Dev) (n : Nat) (j : PlcJob) : Dev :=
  let all := 2 ^ (d.plcSegs n j.frame).length - 1
  let isApdu := match j.frame.why with
    | .apdu _ => true
    | _ => false
  if isApdu && j.sent = all then d else d.dlReturned j.frame

/-- PLC_DL_RETRY_EXPIRY. -/
def Dev.plcDlRetryExpiry (d : Dev) (n id : Nat) : Dev :=
  match (d.plc n).uni.find? (fun j => j.frame.id == id) with
  | none => d
  | some j =>
    if j.tries < d.rd (F.PLK_GRANT_dl_retry.at n) then d
    else
      let d := d.modPlc n (fun (c : Plc) => { c with uni := c.uni.filter (fun x => x.frame.id != id) })
      let d := if j.held = 0 then
          d.modPlc n (fun (c : Plc) => { c with binds := mmod c.binds (atShort j.frame.attach)
                                                  (fun (b : PlcBind) => { b with noSack := b.noSack + 1 }) })
        else d
      d.plcReturn n j

/-- The map of a unicast frame to an address: the meter's own while it is fresh, otherwise ROBO with a TM_REQ (R298). -/
def Dev.plcMap (d : Dev) (n a : Nat) : Dev × Nat × Nat :=
  match (d.plc n).bound a with
  | none => (d, 0, d.plcMask n)
  | some b =>
    let fresh : Bool := (b.dlAt.map (fun t => decide ((d.plc n).sf < t + d.tmLife n))).getD false
    if fresh && b.noSack < 2 && !b.asked then (d, b.dlMod, b.dlMask ||| d.plcMask n)
    else if b.asked then (d, 0, d.plcMask n)
    else
      let d := d.modPlc n (fun (c : Plc) => { c with binds := mput c.binds a { b with asked := true } })
      ((d.plcCtl n a 7 []).plcEvent n F.PLK_EVENT_tm_fallback, 0, d.plcMask n)

/-- What a downlink region has come to: the device, the time left in ns, what goes out, the addresses that get a SACK grant. -/
structure DlPlan where
  d : Dev
  left : Nat
  out : List Out
  sacks : List Nat

/-- The queue after one job of it was worked on: `none` removes it. -/
def Dev.putJob (d : Dev) (n : Nat) (bc : Bool) (id : Nat) (j : Option PlcJob) : Dev :=
  let f (l : List PlcJob) : List PlcJob := l.filterMap (fun (x : PlcJob) => if x.frame.id == id then j else some x)
  d.modPlc n (fun (c : Plc) => if bc then { c with bcast := f c.bcast } else { c with uni := f c.uni })

/-- Whether the device has further frames for an address behind the job named. -/
def Dev.plcMore (d : Dev) (n id dst : Nat) : Bool :=
  if dst = 0xFFFF then (d.plc n).bcast.any (fun j => j.frame.id != id)
  else (d.plc n).uni.any (fun j => j.frame.id != id && d.plcDest n j.frame == some dst)

/-- Send of a job what the downlink region still takes: an actuating frame as one burst under the token test (R232, R300). -/
def Dev.plcSend (n sfn : Nat) (x : DlPlan) (j : PlcJob) : DlPlan :=
  let d := x.d
  let f := j.frame
  let bc := f.dest == 2
  match (if bc then some 0xFFFF else d.plcDest n f) with
  | none => { x with d := (d.putJob n bc f.id none).plcReturn n j }
  | some dst =>
    let (d, mod, mask) := if bc then (d, d.rd (F.PLK_TM_bcast_mod.at n), d.plcMask n) else d.plcMap n dst
    let segs := (d.plcSegs n f).zipIdx
    let fid := j.fid.getD (d.plc n).fid
    let d := if j.fid.isSome then d else d.modPlc n (fun (c : Plc) => { c with fid := (c.fid + 1) % 256 })
    let missing := segs.filter (fun s => !bit j.held s.2 && (!bc || !bit j.sent s.2))
    let air (s : List Byte × Nat) : Nat := d.plcAir n mod mask (20 + s.1.length)
    let go := missing.foldl (fun (a : Nat × List (List Byte × Nat)) s =>
      if air s ≤ a.1 then (a.1 - air s, a.2 ++ [s]) else (0, a.2)) (x.left, [])
    let send := if f.act && go.2.length != missing.length then [] else go.2
    let burst := (send.map air).sum
    if send.isEmpty then { x with d := d.putJob n bc f.id (some { j with fid := some fid }) }
    else if f.act && !d.mayActuate burst then { x with d := (d.putJob n bc f.id none).dlToken f }
    else
      let mpdu (s : List Byte × Nat) : List Byte :=
        plcMpdu 2 (b2n (s.2 + 1 != segs.length || d.plcMore n f.id dst) + 2 * b2n f.act + 4 * b2n (bit j.sent s.2)) dst sfn fid
          (s.2 + 8 * (segs.length - 1)) s.1
      let sent := send.foldl (fun a s => a ||| 2 ^ s.2) j.sent
      let all := 2 ^ segs.length - 1
      let j2 : PlcJob := { j with fid := some fid, sent := sent, tries := j.tries + 1 }
      let d := d.putJob n bc f.id (if bc && sent = all then none else some j2)
      let d := if j.sent != all && sent = all then d.dlSent f else d
      { d := d, left := x.left - burst, out := x.out ++ send.map (fun s => .plc n mod mask (mpdu s)),
        sacks := if bc then x.sacks else x.sacks ++ [dst] }

/-- The downlink region of a superframe (R300): control MPDUs, unicast frames already begun, then the others in release order,
then broadcasts. -/
def Dev.plcDownlink (d : Dev) (n sfn : Nat) : DlPlan :=
  let c := d.plc n
  let x : DlPlan := { d := d.setPlc n { c with ctl := [] }, left := d.rd (F.PLK_SF_dl_slots.at n) * d.plcSlot n, out := [],
                      sacks := [] }
  let x := c.ctl.foldl (fun (x : DlPlan) m =>
    let l := plcMpdu m.2.1 (b2n (c.uni.any (fun j => x.d.plcDest n j.frame == some m.1))) m.1 sfn 0 0 m.2.2
    let air := x.d.plcAir n 0 (x.d.plcMask n) l.length
    if air ≤ x.left then { x with left := x.left - air, out := x.out ++ [.plc n 0 (x.d.plcMask n) l] }
    else { x with d := x.d.modPlc n (fun (c : Plc) => { c with ctl := c.ctl ++ [m] }) }) x
  let begun := c.uni.filter (fun j => j.fid.isSome)
  let new := c.uni.filter (fun j => j.fid.isNone)
  (begun ++ new ++ c.bcast).foldl (Dev.plcSend n sfn) x

/-- A grant: address, slots, kind (R287). -/
structure Grant where
  a : Nat
  slots : Nat
  kind : Nat
deriving DecidableEq, Repr

/-- The grants a superframe wants, in the order of R292; in Storm and while busy only re-sends. -/
def Dev.plcWants (d : Dev) (n sfn : Nat) (sacks : List Nat) : List Grant :=
  let c := d.plc n
  let resend := c.parts.map (fun p => ({ a := p.src, slots := min 15 (p.count - p.segs.length), kind := 2 } : Grant))
  let gs := max 1 (d.rd (F.PLK_GRANT_grant_slots.at n))
  let per := 2 ^ (min 10 (d.rd (F.PLK_GRANT_gp_log2.at n)))
  let standing := (c.binds.filter (fun e => e.2.freed.isNone && sfn % per == e.2.offset % per)).map (fun e =>
    ({ a := e.1, slots := gs, kind := 0 } : Grant))
  let demand := (c.moved.filter (fun m => !c.more.contains m.1)).map (fun m => ({ a := m.1, slots := m.2, kind := 1 } : Grant))
    ++ c.more.map (fun a => { a := a, slots := gs, kind := 1 }) ++ sacks.map (fun a => { a := a, slots := 1, kind := 1 })
  if d.mode == .storm || d.on (F.PLK_STATUS_busy.at n) then resend else resend ++ standing ++ demand

/-- The segments of a frame the device holds (R287): of one passed on, all. -/
def Plc.heldBits (c : Plc) (src fid : Nat) : Nat :=
  match c.parts.find? (fun p => p.src == src && p.fid == fid) with
  | some p => p.segs.foldl (fun a s => a ||| 2 ^ s.1) 0
  | none => ((c.passed.filter (fun x => x.1 == src && x.2.1 == fid)).getLast?.map (fun x => 2 ^ x.2.2.1 - 1)).getD 0

/-- Place grants from a slot up to an end; in Storm every other slot is contention. Answers the placed ones with their first
slot, and those that do not fit. -/
def placeGrants (storm : Bool) (stop : Nat) : Nat → List Grant → List (Grant × Nat) × List Grant
  | _, [] => ([], [])
  | at', g :: t =>
    let k := if storm then 1 else g.slots
    if at' + k ≤ stop then
      let r := placeGrants storm stop (at' + k + b2n storm) t
      (({ g with slots := k }, at') :: r.1, r.2)
    else
      let r := placeGrants storm stop at' t
      (r.1, g :: r.2)

/-- The beacon of a superframe (R287), as large as its region takes: grants first, then acknowledgements. A grant that does not fit
moves on as a demand grant, unless the next superframe wants it again of itself. -/
def Dev.plcBeacon (d : Dev) (n sfn : Nat) (sacks : List Nat) : Dev × List Byte :=
  let mod := d.rd (F.PLK_CTRL_beacon_mod.at n)
  let room := d.rd (F.PLK_SF_bp_slots.at n) * d.plcSlot n
  let cap := ((List.range 62).filter (fun k => d.plcAir n mod (d.plcMask n) (28 + 4 * k) ≤ room)).foldl max 0
  let start := d.rd (F.PLK_SF_bp_slots.at n) + d.rd (F.PLK_SF_dl_slots.at n)
  let stop := 64 - d.rd (F.PLK_SF_cont_slots.at n)
  let storm := d.mode == .storm
  let p := placeGrants storm stop start (d.plcWants n sfn sacks)
  let gs := p.1.take cap
  let ovr := (p.1.drop cap).map (·.1) ++ p.2
  let held := storm || d.on (F.PLK_STATUS_busy.at n)
  let c := d.plc n
  let ack := c.acks.take (cap - gs.length)
  let late := (ovr.filter (fun g => g.kind != 2 && !c.more.contains g.a)).map (fun g => (g.a, g.slots))
  let d := d.setPlc n { c with acks := c.acks.drop (cap - gs.length), moved := ((if held then c.moved else []) ++ late).eraseDups }
  let flags := b2n storm + 2 * b2n (d.on (F.PLK_STATUS_busy.at n)) + 4 * b2n (!d.on (F.PLK_CTRL_assoc_open.at n))
  let data := leBytes 1 flags ++ leBytes 1 (d.rd (F.PLK_SF_slot_q.at n)) ++ leBytes 1 (d.rd (F.PLK_SF_bp_slots.at n))
    ++ leBytes 1 (d.rd (F.PLK_SF_dl_slots.at n)) ++ leBytes 1 (d.rd (F.PLK_SF_cont_slots.at n)) ++ leBytes 1 gs.length
    ++ leBytes 1 ack.length ++ zeros 1
    ++ gs.flatMap (fun g => leBytes 4 (g.1.a % 4096 + g.2 * 2 ^ 12 + g.1.slots * 2 ^ 18 + g.1.kind * 2 ^ 22))
    ++ ack.flatMap (fun e => leBytes 4 (e.1 / 256 % 4096 + e.1 % 256 * 2 ^ 12
      + (e.2 ||| c.heldBits (e.1 / 256) (e.1 % 256)) % 256 * 2 ^ 20))
  (d, plcMpdu 0 0 0xFFFF sfn 0 0 data)

/-- PLC_SUPERFRAME_START. In Shadow and while listening the superframe is only counted; the unit that hands over in a PAIR_SWAP sends its
last beacon at the first boundary in Shadow (R434). -/
def Dev.plcSuperframeStart (d : Dev) (n : Nat) : Dev :=
  if !d.plcRuns n then d
  else
    let reasm := zeroAs (d.rd (F.PLK_GRANT_reasm_sf.at n)) 1
    let d := d.modPlc n (fun (c : Plc) => { c with sf := c.sf + 1, passed := c.passed.filter (fun x => c.sf < x.2.2.2 + reasm) })
    if d.mode == .shadow then
      let last := (d.plc n).last
      let d := (d.incr (F.PLK_SFN_sfn.at n)).modPlc n (fun (c : Plc) => { c with fresh := false, last := false })
      if last then
        let (d, beacon) := d.plcBeacon n (d.rd (F.PLK_SFN_sfn.at n)) []
        d.emits [.plc n (d.rd (F.PLK_CTRL_beacon_mod.at n)) (d.plcMask n) beacon]
      else d.modPlc n (fun (c : Plc) => { c with acks := [] })
    else if !d.plcSends n then (if (d.plc n).fresh then d else d.incr (F.PLK_SFN_sfn.at n))
    else
      let sfn := if (d.plc n).fresh then d.rd (F.PLK_SFN_sfn.at n) else (d.rd (F.PLK_SFN_sfn.at n) + 1) % 65536
      let d := (d.wr (F.PLK_SFN_sfn.at n) sfn).modPlc n (fun (c : Plc) => { c with fresh := false })
      let x := d.plcDownlink n sfn
      let (d, beacon) := x.d.plcBeacon n sfn x.sacks
      d.emits (.plc n (d.rd (F.PLK_CTRL_beacon_mod.at n)) (d.plcMask n) beacon :: x.out)

/-! ### Zero crossings (R282) -/

/-- PLC_ZC_EDGE: the capture FIFO is freshest-wins (R26). -/
def Dev.plcZcEdge (d : Dev) (n : Nat) (falling : Bool) : Dev :=
  if d.on (F.PLK_CTRL_zc_edge.at n) != falling then d
  else
    let c := d.plc n
    let lo := d.rd (F.PLK_ZC_per_min.at n) * 1000
    let hi := d.rd (F.PLK_ZC_per_max.at n) * 1000
    let ok := (c.zcLast.map (fun t => lo ≤ d.tick - t && d.tick - t ≤ hi)).getD false
    let run := if ok then min 8 (c.zcRun + 1) else 0
    let full := c.zcCaps.length = 16
    let caps := (if full then c.zcCaps.drop 1 else c.zcCaps) ++ [(d.tick, ok)]
    let d := d.setPlc n { c with zcLast := some d.tick, zcRun := run, zcCaps := caps, zcGone := satAdd 0xFFFF c.zcGone (b2n full) }
    let was := d.on (F.PLK_STATUS_zc_ok.at n)
    let d := d.flag (F.PLK_STATUS_zc_ok.at n) (run == 8)
    if was && run != 8 then d.plcEvent n F.PLK_EVENT_zc_lost else d

/-! ### Enable, listening, foreign beacons (R283, R302) -/

/-- The channel begins its start-up listen, or in Shadow listens on. -/
def Dev.plcListen (d : Dev) (n : Nat) : Dev :=
  if d.on (F.PLK_CTRL_enable.at n) && !d.on (F.PLK_STATUS_retired.at n) && d.mode.serving then
    (((d.setF (F.PLK_STATUS_running.at n)).setF (F.PLK_STATUS_listening.at n)).clrF (F.PLK_STATUS_beaconing.at n)).modPlc n
      (fun (c : Plc) => { c with alien := false })
  else
    ((d.clrF (F.PLK_STATUS_running.at n)).clrF (F.PLK_STATUS_listening.at n)).clrF (F.PLK_STATUS_beaconing.at n)

/-- PLC_ENABLE: a write of PLK_CTRL. -/
def Dev.plcEnable (d : Dev) (n v : Nat) : Dev :=
  let off := 0xA0000 + 0x1000 * n
  let was := d.on (F.PLK_CTRL_enable.at n)
  let d := d.regWrite32 off v
  if !d.on (F.PLK_CTRL_enable.at n) then d.plcListen n
  else if was then d
  else
    let slots := d.rd (F.PLK_SF_bp_slots.at n) + d.rd (F.PLK_SF_dl_slots.at n) + d.rd (F.PLK_SF_cont_slots.at n)
    if 62 < slots || d.rd (F.PLK_SF_bp_slots.at n) = 0 || d.rd (F.PLK_SF_slot_q.at n) < 40 then
      (d.clrF (F.PLK_CTRL_enable.at n)).setF (F.PLK_STATUS_cfg_bad.at n)
    else
      let d := (d.commitRwl off).setF (F.PLK_STATUS_link_up.at n)
      let d := if d.mode == .shadow then d
        else (d.wr (F.PLK_SFN_sfn.at n) 0).modPlc n (fun (c : Plc) => { c with fresh := true })
      d.plcListen n

/-- PLC_LISTEN_END: beacons begin unless a foreign one was heard. -/
def Dev.plcListenEnd (d : Dev) (n : Nat) : Dev :=
  if !d.plcRuns n || !d.on (F.PLK_STATUS_listening.at n) || d.mode == .shadow then d
  else
    let d := (d.clrF (F.PLK_STATUS_listening.at n)).modPlc n (fun (c : Plc) => { c with partner := false })
    if (d.plc n).alien then d else d.setF (F.PLK_STATUS_beaconing.at n)

/-- PLC_BEACON_FORCE. -/
def Dev.plcBeaconForce (d : Dev) (n : Nat) : Dev :=
  let d := d.setF (F.PLK_CTRL_beacon_force.at n)
  if d.plcRuns n && d.mode != .shadow then
    ((d.clrF (F.PLK_STATUS_listening.at n)).setF (F.PLK_STATUS_beaconing.at n)).clrF (F.PLK_CTRL_beacon_force.at n)
  else d.clrF (F.PLK_CTRL_beacon_force.at n)

/-- PLC_RX_BEACON: in Shadow the active unit's sfn is followed; otherwise the beacon is foreign, but for the last one of a partner
that hands over, which the listen follows (R434; log entry 15). -/
def Dev.plcRxBeacon (d : Dev) (n sfn : Nat) : Dev :=
  if !d.plcRuns n then d
  else if d.mode == .shadow then
    (d.wr (F.PLK_SFN_sfn.at n) sfn).modPlc n (fun (c : Plc) => { c with fresh := false })
  else if (d.plc n).partner && serSub 16 sfn (d.rd (F.PLK_SFN_sfn.at n)) ≤ 1 then
    (d.wr (F.PLK_SFN_sfn.at n) sfn).modPlc n (fun (c : Plc) => { c with partner := false })
  else ((d.setF (F.PLK_STATUS_foreign_bcn.at n)).plcEvent n F.PLK_EVENT_foreign_bcn).modPlc n (fun (c : Plc) => { c with alien := true })

/-- A channel in Shadow: its downlink frames come back to Bolero, and a unit that hands over owes its last beacon (R434). -/
def Dev.plcShadow (d : Dev) (n : Nat) : Dev :=
  let l := (d.plc n).uni ++ (d.plc n).bcast
  let d := d.modPlc n (fun (c : Plc) => { c with uni := [], bcast := [], last := d.epl.swap.isSome && d.on (F.PLK_STATUS_beaconing.at n) })
  l.foldl (fun d j => d.plcReturn n j) d

/-- The channels follow a change of mode: off modes stop them, Shadow makes them listen, and a unit that becomes active
listens first (R302). -/
def Dev.plkMode (d : Dev) (old new : Mode) : Dev :=
  if old.serving == new.serving && (old == .shadow) == (new == .shadow) then d
  else
    foldN 16 (fun n d =>
      if !d.on (F.PLK_CTRL_enable.at n) then d
      else
        let d := if new == .shadow then d.plcShadow n
          else d.modPlc n (fun (c : Plc) => { c with last := false, partner := old == .shadow && d.epl.handed })
        d.plcListen n) d

/-! ### Faults and retirement (R303) -/

/-- PLC_CHANNEL_RETIRE. -/
def Dev.plcRetire (d : Dev) (n cause : Nat) : Dev :=
  if d.on (F.PLK_STATUS_retired.at n) then d
  else
    let c := d.plc n
    let d := (d.setF (F.PLK_STATUS_retired.at n)).wr (F.PLK_STATUS_retire_cause.at n) cause
    let d := d.plcListen n
    let d := d.bump (F.PLK_CNT_NOISE_reasm_expired.at n) c.parts.length
    let kept : Plc := {
      sf := c.sf, fid := c.fid, fresh := c.fresh, faults := c.faults, zcLast := c.zcLast, zcCaps := c.zcCaps,
      zcGone := c.zcGone, zcRun := c.zcRun }
    let d := (d.setPlc n kept).plcRefresh n
    let d := (c.uni ++ c.bcast).foldl (fun d j => d.plcReturn n j) d
    let d := ((d.plcCount n).plcEvent n F.PLK_EVENT_retired).retireLog 0x27 1 n cause
    d.channelRecords true n

/-- PLC_TRANSIENT_FAULT. -/
def Dev.plcTransientFault (d : Dev) (n : Nat) : Dev :=
  let win := zeroAs (d.rd (F.PLK_ERR_CFG_window.at n)) 1 * sNs
  let fs := ((d.plc n).faults.filter (fun t => d.tick < t + win)) ++ [d.tick]
  let d := d.modPlc n (fun (c : Plc) => { c with faults := fs })
  let d := (d.plcEvent n F.PLK_EVENT_fault).trouble 0x27 1 4 1 n fs.length
  let thr := d.rd (F.PLK_ERR_CFG_retire_thr.at n)
  if thr != 0 && thr ≤ fs.length then d.plcRetire n 1 else d

/-- PLC_PERMANENT_FAULT: cause 2 framing lost, 3 own beacon unseen, 4 known-answer test. -/
def Dev.plcPermanentFault (d : Dev) (n cause : Nat) : Dev :=
  let d := if cause = 2 then d.clrF (F.PLK_STATUS_link_up.at n) else d
  (d.plcEvent n F.PLK_EVENT_fault).plcRetire n cause

end Sys2Proof.Machine
end

