-- ==== Sys2Proof/Machine/Mzk.lean ====
section
/-! DEFINITION. Mazurka (chapter 11): frames and link security, the Cell mesh with its parents and routes, Schedule-mode
connections and their events, downlink under the token, faults and retirement, and MZK's commands. -/

namespace Sys2Proof.Machine

/-! ### A channel -/

def Dev.rad (d : Dev) (n : Nat) : Rad := mgetD d.mzk.chans n {}

def Dev.setRad (d : Dev) (n : Nat) (c : Rad) : Dev := { d with mzk := { d.mzk with chans := mput d.mzk.chans n c } }

/-- Change a channel's state. -/
def Dev.modRad (d : Dev) (n : Nat) (f : Rad → Rad) : Dev := d.setRad n (f (d.rad n))

/-- Change a binding. -/
def Dev.modBind (d : Dev) (n a : Nat) (f : RadBind → RadBind) : Dev :=
  d.modRad n (fun (c : Rad) => { c with binds := mmod c.binds a f })

/-- The offset of a channel's receive FIFO. -/
def mzkFq (n : Nat) : Nat := 0xB0060 + 0x1000 * n

/-- Set a bit of MZK_EVENT; its source pends (R339). -/
def Dev.mzkEvent (d : Dev) (n : Nat) (f : Fld) : Dev := (d.setF (f.at n)).raise (352 + 2 * n)

/-- Whether the channel is in Schedule mode. -/
def Dev.mzkSched (d : Dev) (n : Nat) : Bool := d.on (F.MZK_CTRL_mode.at n)

def Dev.mzkPan (d : Dev) (n : Nat) : Nat := d.rd (F.MZK_CTRL_pan_id.at n)

/-- The rate in kbit/s. -/
def Dev.mzkRate (d : Dev) (n : Nat) : Nat := 50 * (d.rd (F.MZK_CTRL_rate.at n) + 1)

/-- The highest RF channel of the plan at the rate (R307). -/
def Dev.mzkTop (d : Dev) (n : Nat) : Nat :=
  let wide := 2 ≤ d.rd (F.MZK_CTRL_rate.at n)
  if d.on (F.MZK_CTRL_plan.at n) then (if wide then 63 else 127) else if wide then 16 else 34

def Dev.mzkPreamble (d : Dev) (n : Nat) : Nat := d.rd (F.MZK_PHY_preamble.at n)

/-- The time in ns of a number of octets on the air. -/
def Dev.octets (d : Dev) (n k : Nat) : Nat := k * 8000000 / d.mzkRate n

/-- The airtime of a PSDU behind a preamble, the SFD and the PHR. -/
def Dev.psduAir (d : Dev) (n pre len : Nat) : Nat := d.octets n (pre + 4 + len)

/-- Whether a channel runs: its STATUS says so and its domain is on (R478). -/
def Dev.mzkRuns (d : Dev) (n : Nat) : Bool := d.on (F.MZK_STATUS_running.at n) && d.domOn .feb

/-- Whether the channel may start a transmission. -/
def Dev.mzkSends (d : Dev) (n : Nat) : Bool :=
  d.mzkRuns n && d.on (F.MZK_STATUS_transmitting.at n) && d.onAir && !d.hold

/-- Whether an attachment word names this channel in its mode. -/
def Dev.mzkMine (d : Dev) (n a : Nat) : Bool := atKind a == (if d.mzkSched n then 3 else 2) && atChan a == n

/-- The address an attachment word gives: a connection or a short address. -/
def radAddr (a : Nat) : Nat := if atKind a = 3 then atConn a else atShort a

/-- The attachment word of an address on this channel. -/
def Dev.mzkAttach (d : Dev) (n a : Nat) : Nat :=
  if d.mzkSched n then mkAttach 3 0 n 0xFFFF a else mkAttach 2 0 n a 0

/-- Whether an attachment word is a radio's. -/
def isRadio (a : Nat) : Bool := atKind a == 2 || atKind a == 3

/-- The binding of an address. -/
def Rad.bound (c : Rad) (a : Nat) : Option RadBind := (mget? c.binds a).filter (fun b => b.freed.isNone)

/-- The bindings that stand. -/
def Rad.live (c : Rad) : List (Nat × RadBind) := c.binds.filter (fun e => e.2.freed.isNone)

/-- Show how many bindings or connections are held. -/
def Dev.mzkCount (d : Dev) (n : Nat) : Dev := d.wr (F.MZK_STATUS_count.at n) (d.rad n).live.length

/-! ### The link table (R314) -/

def Dev.mzkTbl (d : Dev) : Nat := d.rd F.MZK_TBL_BASE_HI_base_hi * 2 ^ 32 + d.rd F.MZK_TBL_BASE_LO_base_lo * 2 ^ 24

/-- The link entry of an index, as a 16 B number. -/
def Dev.lnkOf (d : Dev) (i : Nat) : Nat := d.memRd (d.mzkTbl + 16 * i) 16

/-- Write the link entry of an index. -/
def Dev.lnkPut (d : Dev) (i v : Nat) : Dev := d.memWr (d.mzkTbl + 16 * i) 16 v

/-- The index of a binding's meter, while it has a record. -/
def Dev.bindIndex (d : Dev) (b : RadBind) : Option Nat := if b.own.isSome then none else d.recOf b.eui

/-- The link entry of a binding. -/
def Dev.bindLnk (d : Dev) (b : RadBind) : Nat := match b.own with
  | some v => v
  | none => ((d.recOf b.eui).map d.lnkOf).getD 0

/-- Write the link entry of the binding of an address. -/
def Dev.setLnk (d : Dev) (n a : Nat) (f : Nat → Nat) : Dev :=
  match (d.rad n).bound a with
  | none => d
  | some b =>
    match b.own with
    | some v => d.modBind n a (fun (x : RadBind) => { x with own := some (f v) })
    | none => ((d.recOf b.eui).map (fun i => d.lnkPut i (f (d.lnkOf i)))).getD d

def lnkDl (e : Nat) : Nat := byts e 0 4
def lnkUl (e : Nat) : Nat := byts e 4 4
def lnkKidx (e : Nat) : Nat := byts e 8 1
def lnkProv (e : Nat) : Bool := bit e 72
def lnkRelay (e : Nat) : Bool := bit e 73
def lnkLpl (e : Nat) : Nat := bits e 74 3
def lnkParent (e : Nat) : Nat := byts e 10 2
def lnkDepth (e : Nat) : Nat := byts e 12 1
def lnkMisses (e : Nat) : Nat := byts e 13 1

/-! ### Frames (R310–R312) -/

/-- The FCS of a PSDU: the 32-bit CRC of IEEE 802.15.4, log entry 5. -/
def fcs32 (l : List Byte) : Nat :=
  (l.foldl (fun c b => foldN 8 (fun _ x => if x % 2 = 1 then (x >>> 1) ^^^ 0xEDB88320 else x >>> 1) (c ^^^ b.toNat)) 0xFFFFFFFF)
    ^^^ 0xFFFFFFFF

/-- A PSDU of the device: MHR, auxiliary header, MAC payload and FCS. -/
def psdu (pan dst seq : Nat) (aux pay : List Byte) : List Byte :=
  let fcf := 1 + 8 * b2n (!aux.isEmpty) + 0x40 + 0x800 + 0x2000 + 0x8000
  let b := leBytes 2 fcf ++ leBytes 1 seq ++ leBytes 2 pan ++ leBytes 2 dst ++ leBytes 2 0 ++ aux ++ pay
  b ++ leBytes 4 (fcs32 b)

/-- The parts of a received PSDU. `head` is its Mazurka header and mesh header as the a-data takes them. -/
structure RadHdr where
  seq : Nat
  pan : Nat
  dst : Nat
  src : Option Nat
  ext : Nat
  level : Nat
  ctr : Nat
  kidx : Nat
  mtype : Nat
  mflags : Nat
  orig : Nat
  final : Nat
  pathq : Nat
  head : List Byte
  body : List Byte

/-- The parts of a received PSDU, if it has the form of R310 and R311 for the channel's mode. -/
def radHdr (sched : Bool) (l : List Byte) : Option RadHdr :=
  let fcf := leAt l 0 2
  let sec := bit fcf 3
  let long := bits fcf 14 2 == 3
  let o := if long then 15 else 9
  let sc := byteAt l o
  let level := if sec then sc % 8 else 0
  let p := l.drop (if sec then o + 6 else o)
  let pay := p.take (p.length - 4)
  let mfl := byteAt pay 1
  let mesh := bit mfl 2
  let k := if mesh then 8 else 2
  let mtype := byteAt pay 0 % 16
  let ok := bits fcf 0 3 == 1 && bits fcf 4 2 == 0 && bit fcf 6 && bits fcf 7 3 == 0 && bits fcf 10 2 == 2 && bits fcf 12 2 == 2
    && ((bits fcf 14 2 == 2 && mtype != 0xB) || (long && (mtype == 4 || mtype == 0xB)))
    && (!sec || ((level == 1 || level == 5) && bits sc 3 5 == 1)) && k ≤ pay.length
    && byteAt pay 0 / 16 == 1 && mtype < 0xF && mfl < 64 && !(sched && mesh) && l.length ≤ 640
  if !ok then none
  else some
    { seq := byteAt l 2, pan := leAt l 3 2, dst := leAt l 5 2, src := if long then none else some (leAt l 7 2),
      ext := if long then leAt l 7 8 else 0, level := level, ctr := leAt l (o + 1) 4, kidx := byteAt l (o + 5), mtype := mtype,
      mflags := mfl, orig := if mesh then leAt pay 2 2 else if long then 0xFFFE else leAt l 7 2,
      final := if mesh then leAt pay 4 2 else leAt l 5 2, pathq := if mesh then byteAt pay 7 else 255,
      head := if mesh then pay.take 6 ++ zeros 2 else pay.take 2, body := pay.drop k }

/-- Whether a frame to the device has the level and the body that its type has (R312), as far as they can be told before it is
opened: a level 5 body still carries its MIC. -/
def RadHdr.formOk (h : RadHdr) : Bool :=
  let b := h.body
  match h.mtype with
  | 3 => h.level == 0 && b.length == 2 && byteAt b 1 == 0
  | 4 => h.level == 0 && byteAt b 9 ≤ 4 && b.length == 10 + 4 * byteAt b 9 && byteAt b 8 < 32 && bits (byteAt b 8) 2 3 != 7
  | 7 => h.level == 5 && b.length == 8
  | 8 => h.level == 1 && b.length == 4
  | 9 => h.level == 5 && b.length == 4
  | 0xB => h.level == 0 && b.length == 4 && byteAt b 0 < 2 && byteAt b 1 ≤ 250 && leAt b 2 2 == 0
  | _ => true

/-- Whether a PSDU's FCS holds. -/
def fcsOk (l : List Byte) : Bool := 4 ≤ l.length && leAt l (l.length - 4) 4 == fcs32 (l.take (l.length - 4))

/-- quality of a frame (R309). -/
def rxQuality (m : MzkRx) : Nat := (min 255 (max 0 (2 * (m.rssi + 128)))).toNat

/-! ### Link security (R313–R317) -/

/-- The CCM* nonce; octet order as IEEE 802.15.4 has it, log entry 5. -/
def linkNonce (eui ctr level : Nat) : List Byte := beBytes 8 eui ++ beBytes 4 ctr ++ leBytes 1 level

/-- A request for a link key that fails: key_fail and the key-unreachable transition (R317). -/
def Dev.mzkKeyFail (d : Dev) (n i : Nat) : Dev :=
  let d := (d.bump (F.MZK_CNT_KEY_key_fail.at n)).mzkEvent n F.MZK_EVENT_key_fail
  if d.mode == .shadow then d else d.tryChange i stQuarantined 0xA

/-- The outcome of sealing a frame. -/
inductive LinkSeal where
  | wait
  | fail
  | ok (aux body : List Byte)

/-- Seal a frame to a meter at level 1 or 5 under the next downlink counter (R313, R316). -/
def Dev.linkSeal (d : Dev) (n i level : Nat) (head body : List Byte) : Dev × LinkSeal :=
  if !d.unlocked || d.epochPending || d.bol.epochDue then (d, .wait)
  else if d.mzk.spent.contains i then (d.mzkEvent n F.MZK_EVENT_ctr_end, .fail)
  else
    let r := d.msrPeek i
    let g := rg r R.keyGen
    match d.keyServe (rg r R.districtHandle) (rg r R.eui) 3 g false with
    | (d, .wait) => (d, .wait)
    | (d, .fail) => (d.mzkKeyFail n i, .fail)
    | (d, .key k _) =>
      let e := d.lnkOf i
      let epoch := d.rd F.BOL_EPOCH_epoch % 256
      let c := if lnkDl e / 2 ^ 24 = epoch then lnkDl e else epoch * 2 ^ 24
      let nonce := linkNonce Config.dieEui.toNat c level
      let out := if level = 5 then ccmSeal k nonce head body 4 else body ++ ccmSeal k nonce (head ++ body) [] 4
      let last := c % 2 ^ 24 == 0xFFFFFF
      let d := d.lnkPut i (setByts e 0 4 (if last then c else c + 1))
      let d := if last then { d with mzk := { d.mzk with spent := i :: d.mzk.spent } } else d
      (d, .ok (leBytes 1 (level + 8) ++ leBytes 4 c ++ leBytes 1 g) out)

/-- A DATA frame whose MIC or FCS fails: counted; a crossing that had begun to pass it on gets the abort marker (R24, R317). -/
def Dev.micFail (d : Dev) (n : Nat) (h : RadHdr) : Dev :=
  let d := d.bump (F.MZK_CNT_SEC_mic_fail.at n)
  let thr := d.rd (fqFld (mzkFq n) F.WLZ_FQ_CTRL_cut_thr)
  if h.mtype = 1 && d.on (fqFld (mzkFq n) F.WLZ_FQ_CTRL_cut_en) && thr != 0 && thr ≤ 32 + h.body.length
  then d.fifoAbort (mzkFq n) else d

/-- What the link security says of a frame of a meter: refused for good (counted), or its body and the link entry once it is
accepted, with whether the key index is new. -/
inductive LinkOpen where
  | bad
  | ok (body : List Byte) (entry : Nat) (isNew : Bool)

/-- MZK_LINK_SECURITY_CHECK: the checks of R315 and R317 on a frame at level 1 or 5. -/
def Dev.linkCheck (d : Dev) (n i : Nat) (h : RadHdr) : Dev × LinkOpen :=
  let r := d.msrPeek i
  let g := rg r R.keyGen
  let gen := if h.kidx = g % 256 then some g
    else if h.kidx = (g + 1) % 256 && 1 ≤ d.rd F.REEL_KEY_gen_ahead then some ((g + 1) % 65536) else none
  match gen with
  | none => (d.bump (F.MZK_CNT_KEY_key_idx.at n), .bad)
  | some g =>
    let e := d.lnkOf i
    let isNew := h.kidx != lnkKidx e
    if h.ctr < (if isNew then 0 else lnkUl e) then (d.bump (F.MZK_CNT_SEC_link_replay.at n), .bad)
    else
      match d.keyServe (rg r R.districtHandle) (rg r R.eui) 3 g false with
      | (d, .wait) => (d, .bad)
      | (d, .fail) => (d.mzkKeyFail n i, .bad)
      | (d, .key k _) =>
        let nonce := linkNonce (rg r R.eui) h.ctr h.level
        let m := h.body.length - 4
        let body := if h.level = 5 then ccmOpen k nonce h.head h.body 4
          else (ccmOpen k nonce (h.head ++ h.body.take m) (h.body.drop m) 4).map (fun _ => h.body.take m)
        match body with
        | some b =>
          if 4 ≤ h.body.length then (d, .ok b (setByts (setByts e 4 4 (h.ctr + 1)) 8 1 h.kidx) isNew)
          else (d.micFail n h, .bad)
        | none => (d.micFail n h, .bad)

/-- The frame is accepted: the uplink counter moves, a new key index restarts the downlink counter (R315, R316). -/
def Dev.linkAccept (d : Dev) (i entry quality : Nat) (isNew : Bool) : Dev :=
  let e := setByts entry 14 1 quality
  if isNew then
    let d := d.lnkPut i (setByts e 0 4 (d.rd F.BOL_EPOCH_epoch % 256 * 2 ^ 24))
    { d with mzk := { d.mzk with spent := d.mzk.spent.filter (fun x => x != i) } }
  else d.lnkPut i e

/-! ### Retirement, transmission (R307, R308, R337) -/

/-- Stop the channel: both enables deasserted. -/
def Dev.mzkStop (d : Dev) (n : Nat) : Dev :=
  let d := ((d.clrF (F.MZK_STATUS_running.at n)).clrF (F.MZK_STATUS_transmitting.at n)).clrF (F.MZK_STATUS_listening.at n)
  d.modRad n (fun (c : Rad) => { c with tuned := none, flying := false })

/-- The downlink frames a channel holds, with whether each has been on the air. -/
def Rad.frames (c : Rad) : List (DlFrame × Bool) :=
  c.txq.filterMap (fun t => match t.job with
    | .dl f => some (f, t.pay.isSome)
    | .ctl _ _ _ => none)
  ++ c.live.filterMap (fun e => match e.2.flight with
    | some (.dl f k) => some (f, k != 0)
    | _ => none)
  ++ (c.uni ++ c.bcast).map (fun f => (f, false))

/-- A frame returned by the radio as undeliverable; an APDU that was on the air has already completed. -/
def Dev.radReturn (d : Dev) (f : DlFrame) (sent : Bool) : Dev :=
  match f.why with
  | .apdu _ => if sent then d else d.dlReturned f
  | _ => d.dlReturned f

/-- Frames of a channel come back, each with whether it has been on the air. -/
def Dev.radBack (d : Dev) (l : List (DlFrame × Bool)) : Dev := l.foldl (fun d x => d.radReturn x.1 x.2) d

/-- MZK_CHANNEL_RETIRE. -/
def Dev.mzkRetire (d : Dev) (n cause : Nat) : Dev :=
  if d.on (F.MZK_STATUS_retired.at n) then d
  else
    let c := d.rad n
    let d := ((d.setF (F.MZK_STATUS_retired.at n)).wr (F.MZK_STATUS_retire_cause.at n) cause).mzkStop n
    let d := d.setRad n { bseq := c.bseq, routeVer := c.routeVer, seq := c.seq, air := c.air, faults := c.faults }
    let d := d.radBack c.frames
    let d := ((d.mzkCount n).clrF (F.MZK_STATUS_suspended.at n)).mzkEvent n F.MZK_EVENT_retired
    (d.retireLog 0x28 2 n cause).channelRecords false n

/-- MZK_RETUNE: the RF channel's tune-table entry goes out over SPI; an unused entry is a permanent fault. -/
def Dev.mzkTune (d : Dev) (n rf : Nat) : Dev × Bool :=
  if (d.rad n).tuned = some rf then (d, true)
  else
    let len := if rf < 128 then d.rd ((F.MZK_TUNEK_HI_len.at n).at rf) else 0
    if len = 0 then
      let d := (d.mzkEvent n F.MZK_EVENT_tune_err).mzkEvent n F.MZK_EVENT_fault
      (d.mzkRetire n 3, false)
    else
      let b := leBytes 7 (d.rd ((F.MZK_TUNEK_LO_spi_lo.at n).at rf) + d.rd ((F.MZK_TUNEK_HI_spi_hi.at n).at rf) * 2 ^ 32)
      ((d.emit (.spi n (b.take len))).modRad n (fun (c : Rad) => { c with tuned := some rf }), true)

/-- Airtime of the rolling hour (R307). -/
def Dev.mzkDuty (d : Dev) (n : Nat) : Nat :=
  (((d.rad n).air.filter (fun x => d.tick < x.1 + 3600 * sNs)).map (·.2)).sum

/-- Whether the duty-cycle limit is reached. -/
def Dev.mzkDutyHit (d : Dev) (n : Nat) : Bool :=
  let l := d.rd (F.MZK_PHY_dc_limit.at n)
  l != 0 && l * 3600000000 ≤ d.mzkDuty n

/-- Transmit a PSDU, tuned and within the duty cycle: answers whether it went out. -/
def Dev.mzkOut (d : Dev) (n rf pre copies : Nat) (l : List Byte) : Dev × Bool :=
  if !d.mzkSends n || d.on (F.MZK_STATUS_dc_hold.at n) then (d, false)
  else
    match d.mzkTune n rf with
    | (d, false) => (d, false)
    | (d, true) =>
      let t := copies * d.psduAir n pre l.length
      let d := (d.emit (.radio n rf pre copies l)).modRad n (fun (c : Rad) =>
        { c with air := (c.air.filter (fun x => d.tick < x.1 + 3600 * sNs)) ++ [(d.tick, t)] })
      (if d.mzkDutyHit n then d.setF (F.MZK_STATUS_dc_hold.at n) else d, true)

/-- The device's next 8-bit sequence number in Cell mode. -/
def Dev.mzkSeq (d : Dev) (n : Nat) : Dev × Nat :=
  (d.modRad n (fun (c : Rad) => { c with seq := (c.seq + 1) % 256 }), (d.rad n).seq)

/-- The sequence number of a Schedule-mode frame outside any event: R310 gives it none, so it is free. -/
def Dev.mzkSeqOpen (d : Dev) : Dev × Nat := (d.drawn, d.freeVal 8)

def Dev.fixedCh (d : Dev) (n : Nat) : Nat := d.rd (F.MZK_PHY_fixed_ch.at n)

/-! ### Cell mode: paths and unicast frames (R320, R322–R325, R335) -/

def Dev.maxHops (d : Dev) (n : Nat) : Nat := max 1 (min 6 (d.rd (F.MZK_CELL_max_hops.at n)))

/-- The hops from the device to an address, the first one first; none where no path stands. -/
def Dev.cellPathF (d : Dev) (n : Nat) : Nat → Nat → List Nat → Option (List Nat)
  | 0, _, _ => none
  | k + 1, a, acc =>
    match (d.rad n).bound a with
    | none => none
    | some b =>
      let e := d.bindLnk b
      if lnkDepth e = 0 then none
      else if lnkParent e = 0 then some (a :: acc) else Dev.cellPathF d n k (lnkParent e) (a :: acc)

def Dev.cellPath (d : Dev) (n a : Nat) : Option (List Nat) := d.cellPathF n 7 a []

/-- The low-power check interval in ms of a code (R325). -/
def lplMs (code : Nat) : Nat :=
  match code with
  | 1 => 20
  | 2 => 50
  | 3 => 100
  | 4 => 200
  | 5 => 500
  | 6 => 1000
  | _ => 0

/-- Preamble and copies that reach a listener of an lpl code with a PSDU of a length (R325). -/
def Dev.lplReach (d : Dev) (n code len : Nat) : Nat × Nat :=
  let pre := d.mzkPreamble n
  let ci := lplMs code
  if ci = 0 then (pre, 1)
  else
    let long := (ci * d.mzkRate n + 7) / 8 + 8
    if long ≤ 1000 then (long, 1)
    else
      let copy := d.psduAir n pre len + d.rd (F.MZK_TIMING_t_ifs.at n) * 10000
      (pre, (ci * msNs + copy - 1) / copy + 1)

/-- The Mazurka and mesh headers of a Cell frame of the device, as the a-data takes them. -/
def cellHead (mtype : Nat) (act : Bool) (final : Nat) : List Byte :=
  leBytes 1 (mtype + 16) ++ leBytes 1 (4 + 2 * b2n act) ++ leBytes 2 0 ++ leBytes 2 final ++ zeros (if act then 4 else 2)

/-- The same headers on the air: hops_left, path_q and ttl_ms filled in. -/
def cellHeadAir (head : List Byte) (hops : Nat) (act : Bool) (ttl : Nat) : List Byte :=
  head.take 6 ++ leBytes 1 hops ++ leBytes 1 255 ++ (if act then leBytes 2 ttl else [])

/-- ms until 1 ms before the lease expires (R335); without a lease nothing is stated, so it is free. -/
def Dev.ttlMs (d : Dev) : Nat :=
  if !d.on F.EPL_CTRL_pair_en then d.freeVal 16
  else match d.epl.expiry with
    | none => d.freeVal 16
    | some x => min 0xFFFF ((x - d.tick) / msNs - 1)

/-- Whether a frame is an actuating one. -/
def RadJob.act : RadJob → Bool
  | .dl f => f.act
  | .ctl _ _ _ => false

/-- Type, level and body of a job. -/
def RadJob.parts : RadJob → Nat × Nat × List Byte
  | .dl f => (2, 1, f.body)
  | .ctl t l b => (t, l, b)

/-- Drop the first frame of the queue; a downlink frame may come back. -/
def Dev.cellDrop (d : Dev) (n : Nat) (t : RadTx) (back : Bool) : Dev :=
  let d := d.modRad n (fun (c : Rad) => { c with txq := c.txq.drop 1, flying := false })
  match t.job with
  | .dl f => if back then d.radReturn f (t.pay.isSome) else d
  | .ctl _ _ _ => d

/-- Where a frame of the queue goes next: the hop and its lpl code; none where it cannot be reached. -/
def Dev.cellHop (d : Dev) (n : Nat) (t : RadTx) : Option (Nat × Nat) :=
  match t.via with
  | some h => some (h, 0)
  | none =>
    match t.job, (d.rad n).bound t.final with
    | .dl f, some b => if b.eui = rg (d.msrPeek f.index) R.eui then go else none
    | .dl _, none => none
    | .ctl _ _ _, _ => go
where
  go : Option (Nat × Nat) := (d.cellPath n t.final).bind (fun p => p.head?.bind (fun h =>
    ((d.rad n).bound h).map (fun b => (h, lnkLpl (d.bindLnk b)))))

/-- The auxiliary header and body of a frame, sealed once. -/
def Dev.cellPay (d : Dev) (n : Nat) (t : RadTx) : Dev × LinkSeal :=
  match t.pay with
  | some p => (d, .ok p.1 p.2)
  | none =>
    let x := t.job.parts
    if x.2.1 = 0 then (d, .ok [] x.2.2)
    else
      match ((d.rad n).bound t.final).bind d.bindIndex with
      | none => (d, .fail)
      | some i => d.linkSeal n i x.2.1 (cellHead x.1 t.job.act t.final) x.2.2

/-- Put the first frame of the queue on the air, under a new sequence number unless it is a retry. -/
def Dev.cellSend (d : Dev) (n : Nat) (t : RadTx) (hop : Nat) (aux body mac : List Byte) (reach : Nat × Nat) : Dev :=
  let (d, seq) := if t.tries = 0 then d.mzkSeq n else (d, t.seq)
  let t2 : RadTx := { t with pay := some (aux, body), seq := seq }
  let d := d.modRad n (fun (c : Rad) => { c with txq := t2 :: c.txq.drop 1, flying := true })
  (d.mzkOut n (d.fixedCh n) reach.1 reach.2 (psdu (d.mzkPan n) hop seq aux mac)).1

/-- Send the first frame of the queue, if none is in the air; frames that cannot go are given back. -/
def Dev.cellGoF : Nat → Nat → Dev → Dev
  | 0, _, d => d
  | k + 1, n, d =>
    match (d.rad n).txq.head? with
    | none => d
    | some t =>
      if !d.mzkSends n || (d.rad n).flying || d.on (F.MZK_STATUS_dc_hold.at n) then d
      else
        match d.cellHop n t with
        | none => Dev.cellGoF k n (d.cellDrop n t true)
        | some hop =>
          match d.cellPay n t with
          | (d, .wait) => d
          | (d, .fail) => Dev.cellGoF k n (d.cellDrop n t true)
          | (d, .ok aux body) =>
            let act := t.job.act
            let mac := cellHeadAir (cellHead t.job.parts.1 act t.final) (d.maxHops n) act d.ttlMs ++ body
            let d := if act then d.drawn else d
            let len := 13 + aux.length + mac.length
            let r := d.lplReach n hop.2 len
            match t.job with
            | .dl f =>
              if act && !d.mayActuate (r.2 * d.psduAir n r.1 len) then Dev.cellGoF k n ((d.cellDrop n t false).dlToken f)
              else
                let d := d.cellSend n t hop.1 aux body mac r
                if t.pay.isNone then d.dlSent f else d
            | .ctl _ _ _ => d.cellSend n t hop.1 aux body mac r

def Dev.cellGo (d : Dev) (n : Nat) : Dev := Dev.cellGoF ((d.rad n).txq.length + 1) n d

/-- Queue a frame. -/
def Dev.cellPut (d : Dev) (n : Nat) (t : RadTx) : Dev :=
  if d.mode == .shadow then d else d.modRad n (fun (c : Rad) => { c with txq := c.txq ++ [t] })

/-- Flood a broadcast frame over the mesh at level 0 (R324, R335), or discard it for want of the token. -/
def Dev.cellFlood (d : Dev) (n : Nat) (f : DlFrame) : Dev :=
  let mac := cellHeadAir (cellHead 2 f.act 0xFFFF) (d.maxHops n) f.act d.ttlMs ++ f.body
  if f.act && !d.mayActuate (d.psduAir n (d.mzkPreamble n) (13 + mac.length)) then d.dlToken f
  else
    let (d, seq) := (if f.act then d.drawn else d).mzkSeq n
    ((d.mzkOut n (d.fixedCh n) (d.mzkPreamble n) 1 (psdu (d.mzkPan n) 0xFFFF seq [] mac)).1).dlSent f

/-- Send what a Cell channel holds: broadcasts, then unicast frames. -/
def Dev.cellPump (d : Dev) (n : Nat) : Dev :=
  if !d.mzkSends n || d.on (F.MZK_STATUS_dc_hold.at n) then d
  else
    let l := (d.rad n).bcast
    let d := d.modRad n (fun (c : Rad) => { c with bcast := [] })
    (l.foldl (fun d f => if d.on (F.MZK_STATUS_dc_hold.at n) || !d.mzkSends n
      then d.modRad n (fun (c : Rad) => { c with bcast := c.bcast ++ [f] }) else d.cellFlood n f) d).cellGo n

/-! ### Reception -/

/-- MACK, t_ifs after a unicast frame in Cell mode (R320). -/
def Dev.mzkMack (d : Dev) (n : Nat) (h : RadHdr) : Dev :=
  let (d, seq) := d.mzkSeq n
  (d.mzkOut n (d.fixedCh n) (d.mzkPreamble n) 1
    (psdu (d.mzkPan n) (h.src.getD 0xFFFE) seq [] (leBytes 1 0x13 ++ zeros 1 ++ leBytes 1 h.seq ++ zeros 1))).1

/-- Receive a PSDU of a type: one that fails its FCS or breaks the form of R310–R312 is discarded and counted; one for another
address is not the device's. A DATA frame's FCS is left to `k`, which counts it in mic_fail too (R317). -/
def Dev.mzkRx (d : Dev) (n mtype : Nat) (modes : Bool → Bool) (m : MzkRx) (k : Dev → RadHdr → Dev) : Dev :=
  if !d.mzkRuns n then d
  else
    match radHdr (d.mzkSched n) m.bytes with
    | none => d.bump (F.MZK_CNT_RX_rx_bad.at n)
    | some h =>
      if h.pan != d.mzkPan n || h.mtype != mtype || !modes (d.mzkSched n) then d.bump (F.MZK_CNT_RX_rx_bad.at n)
      else if h.dst != 0 || h.final != 0 then d
      else if fcsOk m.bytes then (if h.formOk then k d h else d.bump (F.MZK_CNT_RX_rx_bad.at n))
      else
        let d := d.bump (F.MZK_CNT_RX_rx_bad.at n)
        if mtype = 1 then d.micFail n h else d

/-- The meter that owns an address: its binding, or in Shadow the mirrored record whose attachment names it. -/
def Dev.mzkWho (d : Dev) (n a : Nat) : Option RadBind :=
  match (d.rad n).bound a with
  | some b => some b
  | none =>
    if d.mode == .shadow then
      let mine (w : Nat) : Bool := d.mzkMine n w && radAddr w == a
      (d.msrRecs.find? (fun e => rg e.2 R.state != stFree && (mine (rg e.2 R.attach) || mine (rg e.2 R.attachAlt)))).map
        (fun e => { eui := rg e.2 R.eui })
    else none

/-- A secured frame of a meter at a level: its body, with the device after the checks and what acceptance does. -/
def Dev.mzkSecure (d : Dev) (n level : Nat) (h : RadHdr) (b : RadBind) :
    Dev × Option (List Byte × (Nat → Dev → Dev)) :=
  match d.bindIndex b with
  | none => (d.bump (F.MZK_CNT_RX_rx_bad.at n), none)
  | some i =>
    if h.level != level || lnkProv (d.lnkOf i) then (d.bump (F.MZK_CNT_RX_rx_bad.at n), none)
    else
      match d.linkCheck n i h with
      | (d, .bad) => (d, none)
      | (d, .ok body e isNew) => (d, some (body, fun q d => d.linkAccept i e q isNew))

/-- A binding or connection ends (R321): downlink frames that waited for a connection come back. -/
def Dev.mzkUnbind (d : Dev) (n a : Nat) : Dev :=
  let t := d.tick
  let sched := d.mzkSched n
  let its (f : DlFrame) : Bool := sched && atConn f.attach == a
  let c := d.rad n
  let flown := match (c.bound a).bind (·.flight) with
    | some (.dl f k) => [(f, k != 0)]
    | _ => []
  let back := flown ++ (c.uni.filter its).map (fun f => (f, false))
  let d := (d.modRad n (fun (c : Rad) =>
    { c with
      changes := c.changes.filter (fun x => x.meter != a), uni := c.uni.filter (fun f => !its f),
      binds := mmod c.binds a (fun (b : RadBind) => { b with freed := some t, flight := none }) })).mzkCount n
  d.radBack back

/-! ### Parents and routes (R322, R323) -/

/-- The hop cost of a quality. -/
def hopCost (q : Nat) : Nat := 1 + (255 - q) / 64

/-- The path cost of an associated meter: the sum of its hops' costs. -/
def Dev.pathCost (d : Dev) (n a : Nat) : Option Nat :=
  (d.cellPath n a).map (fun p => (p.map (fun x => hopCost ((((d.rad n).bound x).map (·.hopq)).getD 0))).sum)

/-- The children of an address. -/
def Dev.cellKids (d : Dev) (n a : Nat) : List Nat :=
  ((d.rad n).live.filter (fun e => let x := d.bindLnk e.2
    lnkDepth x != 0 && lnkParent x == a && e.1 != a)).map (·.1)

/-- The descendants of an address, nearest first, with their depth below it. -/
def Dev.cellTreeF (d : Dev) (n : Nat) : Nat → Nat → Nat → List (Nat × Nat)
  | 0, _, _ => []
  | k + 1, a, depth => (d.cellKids n a).flatMap (fun x => (x, depth + 1) :: Dev.cellTreeF d n k x (depth + 1))

def Dev.cellTree (d : Dev) (n a : Nat) : List (Nat × Nat) := d.cellTreeF n 7 a 0

/-- The parent of a meter (R322): parent, quality of the hop, depth; none where no candidate serves. -/
def Dev.pickParent (d : Dev) (n meter : Nat) (direct : Option Nat) (named : List (Nat × Nat)) : Option (Nat × Nat × Nat) :=
  let tree := d.cellTree n meter
  let below := (tree.map (·.2)).foldl max 0
  let own := (direct.map (fun q => [(hopCost q, 0, 0, q)])).getD []
  let others := named.filterMap (fun c =>
    match (d.rad n).bound c.1, d.pathCost n c.1 with
    | some b, some cost =>
      let e := d.bindLnk b
      let kids := (d.cellKids n c.1).filter (fun x => x != meter)
      if c.1 != meter && !(tree.any (fun x => x.1 == c.1)) && lnkRelay e && lnkLpl e == 0 && lnkDepth e < d.maxHops n
          && kids.length < d.rd (F.MZK_CELL_child_max.at n)
      then some (cost + hopCost c.2, lnkDepth e, c.1, c.2) else none
    | _, _ => none)
  let better (x y : Nat × Nat × Nat × Nat) : Bool :=
    x.1 < y.1 || (x.1 == y.1 && (x.2.1 < y.2.1 || (x.2.1 == y.2.1 && x.2.2.1 < y.2.2.1)))
  let best := (own ++ others).foldl (fun (a : Option (Nat × Nat × Nat × Nat)) x => match a with
    | none => some x
    | some y => if better x y then some x else some y) none
  best.bind (fun x => if d.maxHops n < x.2.1 + 1 + below then none else some (x.2.2.1, x.2.2.2, x.2.1 + 1))

/-- A list in groups of 32, the most one ROUTE frame holds. -/
def by32 : Nat → List (Nat × Nat) → List (List (Nat × Nat))
  | 0, _ => []
  | k + 1, l => if l.isEmpty then [] else l.take 32 :: by32 k (l.drop 32)

/-- The ROUTE frames of a change: for each new ancestor, deepest first, the entries for the meter and its descendants in
groups of 32: destination, next hop. -/
def Dev.routeWork (d : Dev) (n meter parent : Nat) : List (Nat × List (Nat × Nat)) :=
  let anc := if parent = 0 then [] else (d.cellPath n parent).getD []
  let dests := meter :: (d.cellTree n meter).map (·.1)
  (anc.zipIdx.map (fun e => (e.1, (anc[e.2 + 1]?).getD meter))).reverse.flatMap (fun e =>
    (by32 64 (dests.map (fun x => (x, e.2)))).map (fun g => (e.1, g)))

/-- A ROUTE body. -/
def Dev.routeBody (d : Dev) (n op ver : Nat) (l : List (Nat × Nat)) : List Byte :=
  let lpl (a : Nat) : Nat := (((d.rad n).bound a).map (fun b => lnkLpl (d.bindLnk b))).getD 0
  leBytes 1 op ++ leBytes 1 l.length ++ leBytes 2 ver
    ++ l.flatMap (fun e => leBytes 2 e.1 ++ leBytes 2 (if op = 1 then 0 else e.2 % 2048 + 2048 * lpl e.2))

/-- ASSOC_RSP (R312): along the path to a short address, or over a hop where no path stands; level 5 unless provisional. -/
def Dev.radAssocRsp (d : Dev) (n eui status short parent depth : Nat) (via : Option Nat) (sealed : Bool) : Dev :=
  d.cellPut n { job := .ctl 5 (if sealed then 5 else 0)
                  (leBytes 8 eui ++ leBytes 1 status ++ zeros 1 ++ leBytes 2 short ++ leBytes 2 parent ++ leBytes 1 depth ++ zeros 1),
                final := if status = 0 then short else 0xFFFE, via := via }

/-- Steps 2 and 3 of R323: the device's own next hop switches, and ASSOC_RSP goes out along the new path. -/
def Dev.changeSwitch (d : Dev) (n : Nat) (x : RadChange) : Dev :=
  match (d.rad n).bound x.meter with
  | none => d
  | some b =>
    let e := d.bindLnk b
    let was := if lnkDepth e = 0 then none else some (lnkParent e)
    let shift := x.depth + 8 - lnkDepth e
    let tree := if lnkDepth e = 0 then [] else d.cellTree n x.meter
    let old := (was.toList ++ b.old).eraseDups.filter (fun p => p != x.parent)
    let d := d.modBind n x.meter (fun (b : RadBind) => { b with hopq := x.quality, old := old })
    let d := d.setLnk n x.meter (fun e => setByts (setByts e 10 2 x.parent) 12 1 x.depth)
    let d := tree.foldl (fun d t => d.setLnk n t.1 (fun e => setByts e 12 1 (lnkDepth e + shift - 8))) d
    let prov := lnkProv e
    d.radAssocRsp n b.eui 0 x.meter x.parent x.depth none (!prov)

/-- Send the first ROUTE frame still to be acknowledged, or go to the next step: steps 2 and 3 after the adds, nothing more after
the deletes. -/
def Dev.changeGo (d : Dev) (n : Nat) (x : RadChange) : Dev :=
  let d := d.modRad n (fun (c : Rad) => { c with changes := c.changes.filter (fun y => y.meter != x.meter) })
  match x.toAck with
  | [] => if x.drop then d.modBind n x.meter (fun (b : RadBind) => { b with old := [] }) else d.changeSwitch n x
  | w :: _ =>
    let d := d.modRad n (fun (c : Rad) => { c with changes := c.changes ++ [{ x with tries := x.tries + 1 }] })
    d.cellPut n { job := .ctl 6 5 (d.routeBody n (b2n x.drop) x.ver w.2), final := w.1 }

/-- Begin a parent change. -/
def Dev.changeStart (d : Dev) (n meter parent quality depth : Nat) : Dev :=
  let ver := ((d.rad n).routeVer + 1) % 65536
  let work := d.routeWork n meter parent
  let d := d.modRad n (fun (c : Rad) => { c with routeVer := ver })
  d.changeGo n { meter := meter, parent := parent, quality := quality, depth := depth, toAck := work, all := work, ver := ver }

/-- Step 4 of R323: a frame of the meter came over the hop its new path begins with, so the old ancestors not on that path lose
it and its descendants. -/
def Dev.changeDone (d : Dev) (n a : Nat) (src : Option Nat) : Dev :=
  match (d.rad n).bound a with
  | none => d
  | some b =>
    let new := (d.cellPath n a).getD []
    if b.old.isEmpty || src != new.head? || (d.rad n).changes.any (fun x => x.meter == a) then d
    else
      let gone := (b.old.flatMap (fun p => if p = 0 then [] else (d.cellPath n p).getD [])).eraseDups.filter (fun x => !new.contains x)
      let dests := (a :: (d.cellTree n a).map (·.1)).map (fun t => (t, 0))
      let work := gone.flatMap (fun x => (by32 64 dests).map (fun g => (x, g)))
      let e := d.bindLnk b
      d.changeGo n { meter := a, parent := lnkParent e, quality := b.hopq, depth := lnkDepth e, toAck := work,
                     all := d.routeWork n a (lnkParent e), ver := (d.rad n).routeVer, drop := true }

/-! ### Schedule mode: events (R327–R332) -/

/-- Device time of a tick in DWN ns. -/
def Dev.dwnNs (d : Dev) (t : Nat) : Int := d.timeAt t - dwnEpoch * 1000000000

/-- conn_interval, sup_timeout, anchor_ofs and chan_map of a connection: its record's, or its own while no record names it. -/
def Dev.connPar (d : Dev) (n c : Nat) (b : RadBind) : Nat × Nat × Nat × Nat :=
  let mine (w : Nat) : Bool := d.mzkMine n w && atConn w == c
  match (d.recOf b.eui).map d.msrPeek with
  | some r =>
    if mine (rg r R.attach) || mine (rg r R.attachAlt) then
      (rg r R.connInterval, rg r R.supTimeout, rg r R.anchorOfs, rg r R.chanMap)
    else b.par.getD (0, 0, 0, 0)
  | none => b.par.getD (0, 0, 0, 0)

/-- A(e) in DWN ns (R327). -/
def Dev.anchorAt (d : Dev) (n c : Nat) (p : Nat × Nat × Nat × Nat) (e : Nat) : Int :=
  let i := p.1 * msNs
  d.rd (F.MZK_EPOCH_epoch_s.at n) * 1000000000
    + ((c * zeroAs (d.rd (F.MZK_SCHED_stride_us.at n)) 1 * 1000 + p.2.2.1 * 100000) % i : Nat) + e * i

/-- The first event of a connection at or after a time. -/
def Dev.eventFrom (d : Dev) (n c : Nat) (p : Nat × Nat × Nat × Nat) (t : Int) : Nat :=
  let i : Int := p.1 * msNs
  ((t - d.anchorAt n c p 0 + i - 1) / i).toNat

/-- The set bits of a channel map. -/
def mapBits (map : Nat) : List Nat := (List.range 64).filter (fun k => bit map k)

/-- The RF channel of event e (R328). -/
def Dev.eventRf (d : Dev) (n c map e : Nat) : Nat :=
  let base := d.rd (F.MZK_PHY_map_base.at n)
  let u := (11 * c + e * (2 * (c % 8) + 5)) % 64
  if bit map u then base + u
  else
    let l := mapBits map
    base + (l[u % l.length]?).getD 0

/-- Whether a channel map keeps to R328. -/
def Dev.mapOk (d : Dev) (n map : Nat) : Bool :=
  let l := mapBits map
  2 ≤ l.length && l.all (fun k => d.rd (F.MZK_PHY_map_base.at n) + k ≤ d.mzkTop n)

/-- Whether connection parameters keep to R327 and R328. -/
def Dev.parOk (d : Dev) (n interval sup map : Nat) : Bool :=
  1000 ≤ interval && interval < 65536 && 3 * interval ≤ 10 * sup && d.mapOk n map

/-- Whether a connection's events are suspended: a campaign broadcast queued or just sent, and its record a member (R332). -/
def Dev.connHeld (d : Dev) (n : Nat) (b : RadBind) : Bool :=
  d.on (F.MZK_STATUS_suspended.at n) && ((d.recOf b.eui).map (fun i => rg (d.msrPeek i) R.inCampaign == 1)).getD false

/-- Idle time in ns until the next anchor of a connection that is not suspended; none without any. -/
def Dev.mzkIdle (d : Dev) (n : Nat) : Option Nat :=
  let now := d.dwnNs d.tick
  if now < (d.rad n).evEnd then some 0
  else (d.rad n).live.foldl (fun (a : Option Nat) e =>
    let p := d.connPar n e.1 e.2
    if p.1 = 0 || d.connHeld n e.2 then a
    else
      let x := (d.anchorAt n e.1 p (d.eventFrom n e.1 p now) - now).toNat
      some (min x (a.getD x))) none

def Dev.settleNs (d : Dev) (n : Nat) : Nat := d.rd (F.MZK_TUNE_settle_us.at n) * 1000

/-- Send broadcast frames on adv_ch0 as far as the idle time takes them (R332, R335). -/
def Dev.schedIdle (d : Dev) (n : Nat) : Dev :=
  if !d.mzkSends n || d.on (F.MZK_STATUS_dc_hold.at n) then d
  else
    let l := (d.rad n).bcast
    let d := d.modRad n (fun (c : Rad) => { c with bcast := [] })
    let keep (d : Dev) (f : DlFrame) : Dev := d.modRad n (fun (c : Rad) => { c with bcast := c.bcast ++ [f] })
    (l.foldl (fun (x : Dev × Option Nat) f =>
      let d := x.1
      let mac := leBytes 1 0x12 ++ leBytes 1 (2 * b2n f.act) ++ f.body
      let air := d.psduAir n (d.mzkPreamble n) (13 + mac.length)
      let need := air + 2 * d.settleNs n
      if (x.2.map (fun t => decide (t < need))).getD false || !d.mzkSends n || d.on (F.MZK_STATUS_dc_hold.at n) then (keep d f, x.2)
      else if f.act && !d.mayActuate air then (d.dlToken f, x.2)
      else
        let (d, seq) := d.mzkSeqOpen
        let d := (d.mzkOut n (d.rd (F.MZK_ADV_adv_ch0.at n)) (d.mzkPreamble n) 1 (psdu (d.mzkPan n) 0xFFFF seq [] mac)).1
        (d.dlSent f, x.2.map (fun t => t - need))) (d, d.mzkIdle n)).1

/-- The next downlink frame of a connection: the oldest unicast one for it. -/
def Dev.connNext (d : Dev) (n c : Nat) : Option DlFrame := (d.rad n).uni.find? (fun f => atConn f.attach == c)

/-- The frame a connection sends in its next exchange: the unacknowledged one while its events last, a parameter change, the
next downlink frame, or a poll. -/
def Dev.connPick (d : Dev) (n c : Nat) (b : RadBind) (opener : Bool) : Dev × RadOut :=
  let lim := zeroAs (d.rd (F.MZK_HOLD_dl_events.at n)) 1
  let fresh (d : Dev) : Dev × RadOut :=
    let pend := (b.upd.map (fun u => !u.acked)).getD false
    match d.connNext n c with
    | some f =>
      if pend && !opener then (d, .upd)
      else (d.modRad n (fun (r : Rad) => { r with uni := r.uni.filter (fun x => x.id != f.id) }), .dl f 0)
    | none => (d, if pend && !opener then .upd else .poll)
  match b.flight with
  | some (.dl f k) => if lim ≤ k && opener then fresh (d.radReturn f true) else (d, .dl f k)
  | some .upd => (d, .upd)
  | some .poll => (d, .poll)
  | none => fresh d

/-- Send a frame of a connection in an event: sealed anew under the next counter (a provisional connection's poll at level 0);
an actuating frame only under the token, with a poll in its place otherwise (R329, R335, R336). -/
def Dev.connSend (d : Dev) (n c e : Nat) (b : RadBind) (o : RadOut) (opener : Bool) : Dev :=
  let p := d.connPar n c b
  let more := (d.connNext n c).isSome || (b.upd.any (fun u => !u.acked) && o != .upd)
  let parts : Nat × Nat × Bool × List Byte := match o with
    | .poll => (0xD, 1, false, [])
    | .upd => (0xE, 5, false, match b.upd with
      | none => []
      | some u => leBytes 2 u.instant ++ leBytes 2 u.interval ++ leBytes 2 u.sup ++ leBytes 2 u.ofs ++ leBytes 8 u.map)
    | .dl f _ => (2, 1, f.act, f.body)
  let head := leBytes 1 (parts.1 + 16)
    ++ leBytes 1 (b2n more + 2 * b2n parts.2.2.1 + 8 * b2n b.sn + 16 * b2n b.nesn)
  let s : Dev × LinkSeal := match d.bindIndex b with
    | none => (d, .ok [] parts.2.2.2)
    | some i => if lnkProv (d.lnkOf i) then (d, .ok [] parts.2.2.2) else d.linkSeal n i parts.2.1 head parts.2.2.2
  match s with
  | (d, .wait) => d.modBind n c (fun (b : RadBind) => { b with flight := some o })
  | (d, .fail) =>
    match o with
    | .dl f k => (d.modBind n c (fun (b : RadBind) => { b with flight := none })).radReturn f (k != 0)
    | _ => d
  | (d, .ok aux body) =>
    let l := psdu (d.mzkPan n) c (e % 256) aux (head ++ body)
    let air := d.psduAir n (d.mzkPreamble n) l.length
    let d := (d.mzkOut n (d.eventRf n c p.2.2.2 e) (d.mzkPreamble n) 1 l).1
    let o2 : RadOut := match o with
      | .dl f k => .dl f (if opener || k = 0 then k + 1 else k)
      | x => x
    let d := d.modBind n c (fun (b : RadBind) => { b with flight := some o2 })
    let d := d.modRad n (fun (r : Rad) => { r with evEnd := max r.evEnd (d.dwnNs d.tick) + air })
    match o with
    | .dl f 0 => d.dlSent f
    | _ => d

/-- The octets of the PSDU an exchange sends (R329). -/
def RadOut.len : RadOut → Nat
  | .poll => 25
  | .upd => 41
  | .dl f _ => 25 + f.body.length

/-- An exchange of a connection: pick a frame and send it; an actuating one without the token ends TOKEN and a poll goes in
its place. A further exchange that, with the shortest reply, would end after `stop` does not begin: its frame waits. -/
def Dev.connExchange (d : Dev) (n c e : Nat) (opener : Bool) (start stop : Int) : Dev :=
  match (d.rad n).bound c with
  | none => d
  | some b =>
    let (d, o) := d.connPick n c b opener
    let air := d.psduAir n (d.mzkPreamble n) o.len
    let last := start + air + d.rd (F.MZK_TIMING_t_ifs.at n) * 10000 + d.psduAir n (d.mzkPreamble n) 25
    if !opener && stop < last then
      match o with
      | .poll => d
      | _ => d.modBind n c (fun (b : RadBind) => { b with flight := some o })
    else
      match o with
      | .dl f _ =>
        if f.act && !d.mayActuate air then
          let d := (d.modBind n c (fun (b : RadBind) => { b with flight := none })).dlToken f
          d.connSend n c e b .poll opener
        else d.connSend n c e b o opener
      | o => d.connSend n c e b o opener

/-- MZK_EVENT_ANCHOR: event e of a connection, counted from epoch_s; `upd` is a parameter change the device begins in it. -/
def Dev.mzkEventAnchor (d : Dev) (n c e : Nat) (upd : Option ConnUpd) : Dev :=
  match (d.rad n).bound c with
  | none => d
  | some b =>
    if !d.mzkSched n || !d.mzkSends n || d.connHeld n b then d
    else
      let at' := d.anchorAt n c (d.connPar n c b) e
      if at' < (d.rad n).evEnd + d.settleNs n || d.on (F.MZK_STATUS_dc_hold.at n) then d.bump (F.MZK_CNT_SCHED_skipped.at n)
      else
        let d := match upd with
          | none => d
          | some u =>
            let ahead := serSub 16 u.instant.toNat (e % 65536)
            if d.parOk n u.interval.toNat u.sup.toNat u.map.toNat && 6 ≤ ahead && ahead < 32768 then
              let u' : RadUpd := { instant := u.instant.toNat, interval := u.interval.toNat, sup := u.sup.toNat,
                                   ofs := u.ofs.toNat, map := u.map.toNat }
              d.modBind n c (fun (b : RadBind) => { b with upd := some u' })
            else d.setF (F.MZK_STATUS_cfg_bad.at n)
        let d := (d.modBind n c (fun (b : RadBind) => { b with evAt := at' })).modRad n
          (fun (r : Rad) => { r with evEnd := at', accept := false })
        d.connExchange n c e true 0 0

/-- A valid reply of a connection's meter (R329, R333): acknowledgement, misses, further exchanges; answers whether the frame
is new. `room` is whether its data can be taken. -/
def Dev.connReply (d : Dev) (n c : Nat) (h : RadHdr) (m : MzkRx) (room : Bool) : Dev × Bool :=
  match (d.rad n).bound c with
  | none => (d, true)
  | some b =>
    let acked := bit h.mflags 4 != b.sn
    let isNew := bit h.mflags 3 == b.nesn
    let upd := if acked && b.flight == some .upd then b.upd.map (fun u => { u with acked := true }) else b.upd
    let b2 : RadBind := { b with sn := if acked then !b.sn else b.sn, flight := if acked then none else b.flight, upd := upd,
                                 nesn := if isNew && room then !b.nesn else b.nesn, lost := false }
    let d := (d.modBind n c (fun _ => b2)).setLnk n c (fun e => setByts e 13 1 0)
    let stop := d.dwnNs m.stamp.toNat + d.octets n (2 + m.bytes.length)
    let d := d.modRad n (fun (r : Rad) => { r with evEnd := max r.evEnd stop })
    let p := d.connPar n c b
    let e := (d.eventFrom n c p b.evAt)
    let again := bit h.mflags 0 || (d.connNext n c).isSome || b2.upd.any (fun u => !u.acked) || b2.flight.isSome
    let start := stop + d.rd (F.MZK_TIMING_t_ifs.at n) * 10000
    let limit := b.evAt + d.rd (F.MZK_TIMING_ev_max_us.at n) * 1000
    (if again && d.mzkSends n then d.connExchange n c e false start limit else d, isNew)

/-- A valid frame was heard: counted; in Cell mode the MACK goes out and a finished parent change is cleaned up. -/
def Dev.mzkHeard (d : Dev) (n : Nat) (h : RadHdr) (a : Nat) (rssi : Int) : Dev :=
  let d := (d.bump (F.MZK_CNT_RX_frames_ok.at n)).sample 0x0C n (uns 64 rssi)
  if d.mzkSched n then d else (d.mzkMack n h).changeDone n a h.src

/-- A unicast Cell frame discarded after its FCS held is acknowledged all the same (R320). -/
def Dev.mzkMackOnly (d : Dev) (n : Nat) (h : RadHdr) : Dev := if d.mzkSched n then d else d.mzkMack n h

/-- MZK_RX_DATA (R317): the DWN frame enters the crossing behind its prefix. -/
def Dev.mzkRxData (d : Dev) (n : Nat) (m : MzkRx) : Dev :=
  (d.mzkRx n 1 (fun _ => true) m fun d h =>
    match d.mzkWho n h.orig with
    | none =>
      let d := d.mzkMackOnly n h
      if d.mzkSched n then d else d.radAssocRsp n 0 3 0 0 0 (some (h.src.getD 0xFFFE)) false
    | some b =>
      let prov := b.own.isSome || ((d.recOf b.eui).map (fun i => lnkProv (d.lnkOf i))).getD true
      let taken : Dev × Option (List Byte × (Nat → Dev → Dev)) :=
        if prov then
          if h.level = 0 && (parseFrame (h.body)).ftype = 0 then (d, some (h.body, fun _ d => d))
          else (d.bump (F.MZK_CNT_RX_rx_bad.at n), none)
        else d.mzkSecure n 1 h b
      match taken with
      | (d, none) => d.mzkMackOnly n h
      | (d, some (frame, accept)) =>
        let quality := min h.pathq (rxQuality m)
        let pre := mkPrefix m.stamp.toNat (d.mzkAttach n h.orig) 0x7FFFFFFF frame.length quality 0 0 0
        if !d.fifoRoom (mzkFq n) 128 (pre ++ frame) then
          let d := d.bump (F.MZK_CNT_MISC_drops.at n)
          if d.mzkSched n then (d.connReply n h.orig h m false).1 else d
        else
          let d := (accept (rxQuality m) d).mzkHeard n h h.orig m.rssi
          let (d, isNew) := if d.mzkSched n then d.connReply n h.orig h m true else (d, true)
          if isNew then d.fifoPush (mzkFq n) 128 (pre ++ frame) else d).cellPump n

/-- MZK_RX_KEEP. -/
def Dev.mzkRxKeep (d : Dev) (n : Nat) (m : MzkRx) : Dev :=
  (d.mzkRx n 8 (fun _ => true) m fun d h =>
    match d.mzkWho n h.orig with
    | none => d.mzkMackOnly n h
    | some b =>
      match d.mzkSecure n 1 h b with
      | (d, none) => d.mzkMackOnly n h
      | (d, some (_, accept)) =>
        let d := (accept (rxQuality m) d).mzkHeard n h h.orig m.rssi
        if d.mzkSched n then (d.connReply n h.orig h m true).1 else d).cellPump n

/-- Send what a Cell channel holds, where it is one. -/
def Dev.cellPump' (d : Dev) (n : Nat) : Dev := if d.mzkSched n then d else d.cellPump n

/-- MZK_RX_LEAVE. -/
def Dev.mzkRxLeave (d : Dev) (n : Nat) (m : MzkRx) : Dev :=
  d.mzkRx n 9 (fun _ => true) m fun d h =>
    match d.mzkWho n h.orig with
    | none => d.mzkMackOnly n h
    | some b =>
      match d.mzkSecure n 5 h b with
      | (d, none) => d.mzkMackOnly n h
      | (d, some (_, accept)) => (((accept (rxQuality m) d).mzkHeard n h h.orig m.rssi).mzkUnbind n h.orig).cellPump' n

/-- MZK_RX_MACK: the frame in the air is acknowledged. -/
def Dev.mzkRxMack (d : Dev) (n : Nat) (m : MzkRx) : Dev :=
  d.mzkRx n 3 (fun sched => !sched) m fun d h =>
    let d := (d.bump (F.MZK_CNT_RX_frames_ok.at n)).sample 0x0C n (uns 64 m.rssi)
    match (d.rad n).txq.head? with
    | none => d
    | some t => if (d.rad n).flying && t.seq = byteAt h.body 0 then (d.cellDrop n t false).cellPump n else d

/-- MZK_MACK_TIMEOUT: three retries make an attempt, four attempts the end (R320, R335). -/
def Dev.mzkMackTimeout (d : Dev) (n : Nat) (csma : Bool) : Dev :=
  if !(d.rad n).flying then d
  else
    match (d.rad n).txq.head? with
    | none => d
    | some t =>
      let d := if csma then d.bump (F.MZK_CNT_MISC_csma_fail.at n) else d
      let again : RadTx := if t.tries < 3 then { t with tries := t.tries + 1 }
        else { t with tries := 0, attempts := t.attempts + 1 }
      if again.attempts = 4 then (d.cellDrop n t true).cellPump n
      else (d.modRad n (fun (c : Rad) => { c with txq := again :: c.txq.drop 1, flying := false })).cellPump n

/-! ### Association and connection (R318, R321, R330) -/

/-- Whether a response goes at level 5: the EUI-64 names a record that is not Unknown. -/
def Dev.known (d : Dev) (eui : Nat) : Option Nat :=
  (d.recOf eui).filter (fun i => !d.msrCorrupt i && rg (d.msrPeek i) R.state != stUnknown && rg (d.msrPeek i) R.state != stFree)

/-- The address of a EUI-64 on this channel: kept, named by its record, or the next free one. -/
def Dev.radPick (d : Dev) (n eui : Nat) : Option Nat :=
  let c := d.rad n
  match c.live.find? (fun e => e.2.eui == eui) with
  | some e => some e.1
  | none =>
    let r := ((d.recOf eui).map d.msrPeek).getD 0
    let named := if d.mzkMine n (rg r R.attach) then some (radAddr (rg r R.attach))
      else if d.mzkMine n (rg r R.attachAlt) then some (radAddr (rg r R.attachAlt)) else none
    let hold := 1024 * zeroAs (d.rd (F.MZK_CELL_bi.at n)) 1 * 100 * msNs
    let sched := d.mzkSched n
    pickShort (if sched then 0 else 1) (if sched then 8191 else 1024) hold d.tick named (fun a => (mget? c.binds a).map (·.freed))

/-- The link entry of a binding without a record becomes its new record's: the counters there stand. -/
def Dev.lnkTake (d : Dev) (i v : Nat) : Dev := d.lnkPut i (setByts (d.lnkOf i) 9 6 (byts v 9 6))

/-- Make a binding: held, counted, and written into the record under R291. `link` is its new link entry's flags byte. -/
def Dev.radBind (d : Dev) (n a eui link : Nat) (par : Option (Nat × Nat × Nat × Nat)) : Dev :=
  let i := d.recOf eui
  match (d.rad n).bound a with
  | some b =>
    let d := (match b.own, i with
      | some v, some i => (d.lnkTake i v).modBind n a (fun (b : RadBind) => { b with own := none })
      | _, _ => d).setLnk n a (fun e => setByts e 9 1 link)
    if !d.mzkSched n then d
    else
      let d := ((d.setLnk n a (fun e => setByts e 13 1 0)).modBind n a (fun (b : RadBind) =>
        { b with sn := false, nesn := false, flight := none, upd := none, lost := false })).mzkEvent n F.MZK_EVENT_assoc
      match b.flight with
      | some (.dl f k) => d.radReturn f (k != 0)
      | _ => d
  | none =>
    let own := if i.isNone then some (setByts (setByts 0 9 1 link) 10 2 0xFFFF) else none
    let d := d.modRad n (fun (c : Rad) => { c with binds := mput c.binds a { eui := eui, own := own, par := par } })
    let d := (d.mzkCount n).mzkEvent n F.MZK_EVENT_assoc
    match i with
    | none => d
    | some i =>
      let d := d.lnkPut i (setByts (setByts (setByts (setByts (d.lnkOf i) 9 1 link) 10 2 0xFFFF) 12 1 0) 13 1 0)
      let edit (w : Nat) : Nat := if d.mzkSched n then setBits w 36 16 a else withShort a w
      let also : List (Nat × Nat × Nat) := match par with
        | none => []
        | some p => [(272, 16, p.1), (288, 16, p.2.1), (304, 16, p.2.2.1), (320, 64, p.2.2.2)]
      let x := d.bindRecord i isRadio (d.mzkMine n) edit also
      if x.2 then x.1.mzkEvent n F.MZK_EVENT_foreign_assoc else x.1

/-- MZK_RX_ASSOC_REQ. -/
def Dev.mzkRxAssocReq (d : Dev) (n : Nat) (m : MzkRx) : Dev :=
  d.mzkRx n 4 (fun sched => !sched) m fun d h =>
    let d := ((d.bump (F.MZK_CNT_RX_frames_ok.at n)).sample 0x0C n (uns 64 m.rssi)).mzkMackOnly n h
    let body := h.body
    if d.mode == .shadow then d
    else
      let eui := leAt body 0 8
      let via := some (h.src.getD 0xFFFE)
      let refuse (d : Dev) (st : Nat) : Dev := (d.radAssocRsp n eui st 0 0xFFFF 0 via false).cellPump n
      if !d.on (F.MZK_CTRL_assoc_open.at n) then refuse d 2
      else
        match d.radPick n eui with
        | none => refuse d 1
        | some a =>
          let named := (List.range (byteAt body 9)).map (fun k => (leAt body (10 + 4 * k) 2, byteAt body (12 + 4 * k)))
          let direct := if h.src.isNone then some (rxQuality m) else none
          match d.pickParent n a direct named with
          | none => refuse d 1
          | some p =>
            let caps := byteAt body 8
            let link := b2n (d.known eui).isNone + 2 * b2n (bit caps 1) + 4 * bits caps 2 3
            ((d.radBind n a eui link none).changeStart n a p.1 p.2.1 p.2.2).cellPump n

/-- MZK_RX_ROUTE_ACK: the parent change goes on. -/
def Dev.mzkRxRouteAck (d : Dev) (n : Nat) (m : MzkRx) : Dev :=
  d.mzkRx n 7 (fun sched => !sched) m fun d h =>
    match (d.rad n).bound h.orig with
    | none => d.mzkMackOnly n h
    | some b =>
      match d.mzkSecure n 5 h b with
      | (d, none) => d.mzkMackOnly n h
      | (d, some (body, accept)) =>
        let d := (accept (rxQuality m) d).mzkHeard n h h.orig m.rssi
        match (d.rad n).changes.find? (fun x => (x.toAck.head?.map (·.1)) == some h.orig && x.ver == leAt body 0 2) with
        | none => d.cellPump n
        | some x => (d.changeGo n { x with toAck := x.toAck.drop 1, tries := 0 }).cellPump n

/-- MZK_ROUTE_ACK_TIMEOUT: three attempts, then the change starts again from step 1. -/
def Dev.mzkRouteAckTimeout (d : Dev) (n meter : Nat) : Dev :=
  match (d.rad n).changes.find? (fun x => x.meter == meter) with
  | none => d
  | some x => (d.changeGo n (if x.tries < 3 then x else { x with toAck := x.all, tries := 0 })).cellPump n

/-- MZK_CELL_SILENT. -/
def Dev.mzkCellSilent (d : Dev) (n a : Nat) : Dev :=
  match (d.rad n).bound a with
  | none => d
  | some b =>
    if d.mzkSched n || !d.mzkSends n || d.rd (F.MZK_CELL_cell_silent.at n) = 0 then d
    else
      let d := (d.mzkEvent n F.MZK_EVENT_lost).mzkUnbind n a
      (((d.recOf b.eui).map d.attachLost).getD d).cellPump n

/-- CONN_RSP (R312), on the advertising channel in use. -/
def Dev.connRsp (d : Dev) (n c status first rf : Nat) (p : Nat × Nat × Nat × Nat) (tgt : Option Nat) : Dev × Bool :=
  let body := leBytes 1 status ++ zeros 1 ++ leBytes 2 c ++ leBytes 2 p.1 ++ leBytes 2 p.2.1 ++ leBytes 2 p.2.2.1 ++ leBytes 2 first
    ++ leBytes 8 p.2.2.2 ++ leBytes 1 (d.rd (F.MZK_PHY_map_base.at n)) ++ zeros 3
  let head := leBytes 1 0x1C ++ zeros 1
  let dst := if status = 0 then c else 0xFFFE
  match tgt with
  | none =>
    let (d, seq) := d.mzkSeqOpen
    d.mzkOut n rf (d.mzkPreamble n) 1 (psdu (d.mzkPan n) dst seq [] (head ++ body))
  | some i =>
    match d.linkSeal n i 5 head body with
    | (d, .ok aux b) =>
      let (d, seq) := d.mzkSeqOpen
      d.mzkOut n rf (d.mzkPreamble n) 1 (psdu (d.mzkPan n) dst seq aux (head ++ b))
    | (d, _) => (d, false)

/-- The RF channel the last ADV used. -/
def Dev.advCh (d : Dev) (n k : Nat) : Nat :=
  d.rd ((if k % 3 = 0 then F.MZK_ADV_adv_ch0 else if k % 3 = 1 then F.MZK_ADV_adv_ch1 else F.MZK_ADV_adv_ch2).at n)

/-- The parameters of a new connection (R330). -/
def Dev.connDefault (d : Dev) (n : Nat) : Nat × Nat × Nat × Nat :=
  let i := 1000 + Config.connInterval.toNat % 64536
  let least := (3 * i + 9) / 10
  (i, least + Config.supTimeout.toNat % (65536 - least), 0,
   ((List.range 64).map (fun k => if d.rd (F.MZK_PHY_map_base.at n) + k ≤ d.mzkTop n then 2 ^ k else 0)).sum)

/-- MZK_RX_CONN_REQ: heard only while the channel listens for one, behind an accepting ADV (R330). -/
def Dev.mzkRxConnReq (d : Dev) (n : Nat) (m : MzkRx) : Dev :=
  d.mzkRx n 0xB (fun sched => sched) m fun d h =>
    let d := (d.bump (F.MZK_CNT_RX_frames_ok.at n)).sample 0x0C n (uns 64 m.rssi)
    let rf := d.advCh n ((d.rad n).advIdx + 2)
    let hears := (d.rad n).accept
    let d := d.modRad n (fun (c : Rad) => { c with accept := false })
    if d.mode == .shadow || !hears then d
    else if !d.on (F.MZK_CTRL_assoc_open.at n) then (d.connRsp n 0 2 0 rf (0, 0, 0, 0) none).1
    else
      match d.radPick n h.ext with
      | none => (d.connRsp n 0 1 0 rf (0, 0, 0, 0) none).1
      | some c =>
        let old := (d.rad n).bound c
        let p := (old.map (d.connPar n c)).getD (d.connDefault n)
        if !d.parOk n p.1 p.2.1 p.2.2.2 then d.setF (F.MZK_STATUS_cfg_bad.at n)
        else
          let d := d.radBind n c h.ext (b2n (d.known h.ext).isNone) (some p)
          let first := d.eventFrom n c p (d.dwnNs d.tick + 2 * p.1 * msNs)
          (d.connRsp n c 0 (first % 65536) rf p (d.known h.ext)).1

/-- A provisional binding whose record has become Commissioning: the response is repeated at level 5 with the same address
and provisional is cleared (R318). -/
def Dev.mzkPromote (d : Dev) : Dev :=
  foldN 12 (fun n d =>
    (d.rad n).live.foldl (fun d e =>
      match d.known e.2.eui with
      | none => d
      | some i =>
        if !lnkProv (d.bindLnk e.2) || !d.mzkSends n then d
        else
          let d := match e.2.own with
            | some v => d.lnkTake i v
            | none => d
          let v := setBits (d.lnkOf i) 72 1 0
          if d.mzkSched n then
            let p := d.connPar n e.1 e.2
            let first := d.eventFrom n e.1 p (d.dwnNs d.tick + 2 * p.1 * msNs)
            let d := d.lnkPut i v
            match d.connRsp n e.1 0 (first % 65536) (d.advCh n 0) p (some i) with
            | (d, true) => d.modBind n e.1 (fun (b : RadBind) => { b with own := none })
            | (d, false) => if e.2.own.isSome then d else d.lnkPut i (setBits v 72 1 1)
          else
            let d := (d.lnkPut i v).modBind n e.1 (fun (b : RadBind) => { b with own := none })
            (d.radAssocRsp n e.2.eui 0 e.1 (lnkParent v) (lnkDepth v) none true).cellPump n) d) d

/-! ### Beacons, advertisements, silence -/

/-- MZK_BEACON_SEND (R319). -/
def Dev.mzkBeaconSend (d : Dev) (n : Nat) : Dev :=
  if d.mzkSched n || !d.mzkSends n || d.on (F.MZK_STATUS_dc_hold.at n) then d
  else
    let d := d.modRad n (fun (c : Rad) => { c with bseq := (c.bseq + 1) % 65536 })
    let busy := d.freeVal 1
    let d := d.drawn
    let flags := b2n (d.mode == .storm) + 2 * busy + 4 * b2n (!d.on (F.MZK_CTRL_assoc_open.at n))
    let body := leBytes 1 flags ++ zeros 1 ++ leBytes 2 (d.rad n).bseq ++ leBytes 2 (d.rad n).routeVer
      ++ leBytes 2 (d.rd (F.MZK_CELL_cell_silent.at n) / 4) ++ leBytes 1 Config.stormSpread.toNat ++ zeros 3
    let (d, seq) := d.mzkSeq n
    ((d.mzkOut n (d.fixedCh n) (d.mzkPreamble n) 1 (psdu (d.mzkPan n) 0xFFFF seq [] (leBytes 1 0x10 ++ zeros 1 ++ body))).1).cellPump n

/-- MZK_ADV_SEND (R330): only in idle time of its airtime and twice settle_us. -/
def Dev.mzkAdvSend (d : Dev) (n : Nat) : Dev :=
  if !d.mzkSched n || !d.mzkSends n || d.on (F.MZK_STATUS_dc_hold.at n) then d
  else
    let pre := d.mzkPreamble n
    let need := d.psduAir n pre 31 + 2 * d.settleNs n
    let reach (k : Nat) : Bool := match d.mzkIdle n with
      | none => true
      | some t => decide (k ≤ t)
    if !reach need then d
    else
      let accepting := d.on (F.MZK_CTRL_assoc_open.at n)
        && reach (need + d.rd (F.MZK_TIMING_t_ifs.at n) * 10000 + d.psduAir n pre 25)
      let t := (d.dwnNs d.tick + d.octets n (pre + 2)).toNat
      let body := leBytes 4 (d.rd (F.MZK_EPOCH_epoch_s.at n)) ++ leBytes 4 (t / 1000000000) ++ leBytes 4 (t % 1000000000)
        ++ leBytes 2 (d.rd (F.MZK_SCHED_stride_us.at n)) ++ leBytes 1 (d.rd (F.MZK_TIMING_dev_ppm.at n))
        ++ leBytes 1 (b2n (d.mode == .storm) + 2 * b2n accepting)
      let rf := d.advCh n (d.rad n).advIdx
      let (d, seq) := (d.modRad n (fun (c : Rad) => { c with advIdx := (c.advIdx + 1) % 3 })).mzkSeqOpen
      let x := d.mzkOut n rf pre 1 (psdu (d.mzkPan n) 0xFFFF seq [] (leBytes 1 0x1A ++ zeros 1 ++ body))
      (x.1.modRad n (fun (c : Rad) => { c with accept := x.2 && accepting })).schedIdle n

/-- MZK_SILENT_EVENT (R329, R331). -/
def Dev.mzkSilentEvent (d : Dev) (n c : Nat) : Dev :=
  match (d.rad n).bound c with
  | none => d
  | some b =>
    if !d.mzkSched n || !d.mzkSends n || d.connHeld n b then d
    else
      let k := satAdd 255 (lnkMisses (d.bindLnk b)) 1
      let d := (d.bump (F.MZK_CNT_SCHED_missed.at n)).setLnk n c (fun e => setByts e 13 1 k)
      let d := if k = zeroAs (d.rd (F.MZK_SCHED_rec_miss.at n)) 1 then d.mzkEvent n F.MZK_EVENT_recovery else d
      let d := match b.flight with
        | some (.dl f j) =>
          if zeroAs (d.rd (F.MZK_HOLD_dl_events.at n)) 1 ≤ j then
            (d.modBind n c (fun (b : RadBind) => { b with flight := none })).radReturn f true
          else d
        | _ => d
      d.schedIdle n

/-- The attachment of a connection's record becomes kind 0 and its number is free (R333). -/
def Dev.mzkConnFree (d : Dev) (n c : Nat) (b : RadBind) : Dev :=
  let mine (w : Nat) : Bool := d.mzkMine n w && atConn w == c
  let d := match d.recOf b.eui with
    | none => d
    | some i =>
      let r := d.msrPeek i
      if d.msrCorrupt i then d
      else if mine (rg r R.attach) then d.recEdit i (wlzFields [(R.attach, 0)])
      else if mine (rg r R.attachAlt) then d.recEdit i (wlzFields [(R.attachAlt, 0)]) else d
  d.mzkUnbind n c

/-- MZK_SUP_TIMEOUT (R333). -/
def Dev.mzkSupTimeout (d : Dev) (n c : Nat) : Dev :=
  match (d.rad n).bound c with
  | none => d
  | some b =>
    if !d.mzkSched n || !d.mzkSends n || d.connHeld n b then d
    else
      let d := (d.mzkEvent n F.MZK_EVENT_lost).modBind n c (fun (b : RadBind) => { b with lost := true })
      let d := ((d.recOf b.eui).map d.attachLost).getD d
      if d.rd (F.MZK_HOLD_conn_hold.at n) = 0 then d.mzkConnFree n c b else d

/-- MZK_CONN_HOLD_EXPIRY: unless a valid reply resumed the connection. -/
def Dev.mzkConnHoldExpiry (d : Dev) (n c : Nat) : Dev :=
  match (d.rad n).bound c with
  | none => d
  | some b => if b.lost && d.mzkSends n then d.mzkConnFree n c b else d

/-- MZK_CONN_UPD_INSTANT (R334): the new parameters take effect and go into the record. -/
def Dev.mzkConnUpdInstant (d : Dev) (n c : Nat) : Dev :=
  match (d.rad n).bound c with
  | none => d
  | some b =>
    match b.upd with
    | none => d
    | some u =>
      let par := some (u.interval, u.sup, u.ofs, u.map)
      let flight := if b.flight == some .upd then none else b.flight
      let d := d.modBind n c (fun (b : RadBind) => { b with upd := none, par := par, flight := flight })
      match d.recOf b.eui with
      | none => d
      | some i =>
        let also := [(272, 16, u.interval), (288, 16, u.sup), (304, 16, u.ofs), (320, 64, u.map)]
        (d.bindRecord i isRadio (fun w => d.mzkMine n w && atConn w == c) id also).1

/-- MZK_RESUME_TIMEOUT: suspended events resume once no campaign broadcast is queued (R332). -/
def Dev.mzkResumeTimeout (d : Dev) (n : Nat) : Dev :=
  let isCamp (f : DlFrame) : Bool := match f.why with
    | .push _ _ _ => true
    | _ => false
  if (d.rad n).bcast.any isCamp then d else d.clrF (F.MZK_STATUS_suspended.at n)

/-- MZK_DC_RELEASE (R307). -/
def Dev.mzkDcRelease (d : Dev) (n : Nat) : Dev :=
  if d.mzkDutyHit n then d
  else
    let d := d.clrF (F.MZK_STATUS_dc_hold.at n)
    if d.mzkSched n then d.schedIdle n else d.cellPump n

/-- MZK_DL_RELEASE (R335): the oldest frame Bolero holds for the channel joins its queue, if there is room for its kind. -/
def Dev.mzkDlRelease (d : Dev) (n : Nat) : Dev :=
  let c := d.rad n
  let uni := c.frames.length - c.bcast.length
  if !d.mzkRuns n || d.mode == .shadow then d
  else
    match d.dlTake (16 + n) (fun f => if f.dest = 2 then c.bcast.length < 16 else uni < 64) with
    | (d, none) => d
    | (d, some f) =>
      let sched := d.mzkSched n
      if f.dest = 2 then
        let d := d.modRad n (fun (c : Rad) => { c with bcast := c.bcast ++ [f] })
        let camp := match f.why with
          | .push _ _ _ => true
          | _ => false
        if sched then (if camp then d.setF (F.MZK_STATUS_suspended.at n) else d).schedIdle n else d.cellPump n
      else if sched then
        match (d.rad n).bound (atConn f.attach) with
        | some b => if b.eui = rg (d.msrPeek f.index) R.eui then d.modRad n (fun (c : Rad) => { c with uni := c.uni ++ [f] })
          else d.dlReturned f
        | none => d.dlReturned f
      else (d.cellPut n { job := .dl f, final := atShort f.attach }).cellPump n

/-! ### Enable, listening, modes (R338) -/

/-- Bindings and connections that records name and the channel does not hold; `lose` forgets Cell parents. -/
def Dev.mzkAdopt (d : Dev) (n : Nat) (lose : Bool) : Dev :=
  let want := d.msrRecs.filterMap (fun e =>
    let st := rg e.2 R.state
    let a := rg e.2 R.attach
    let b := rg e.2 R.attachAlt
    if st = stFree || st = stRetired then none
    else if d.mzkMine n a then some (radAddr a, e.1, rg e.2 R.eui)
    else if d.mzkMine n b then some (radAddr b, e.1, rg e.2 R.eui) else none)
  let top := if d.mzkSched n then 8191 else 1024
  let d := want.foldl (fun d w =>
    if top < w.1 || (!d.mzkSched n && w.1 = 0) || ((d.rad n).bound w.1).isSome then d
    else
      let d := d.modRad n (fun (c : Rad) => { c with binds := mput c.binds w.1 { eui := w.2.2 } })
      if lose && !d.mzkSched n then d.lnkPut w.2.1 (setByts (setByts (d.lnkOf w.2.1) 10 2 0xFFFF) 12 1 0) else d) d
  d.mzkCount n

/-- Whether the conditions of running hold. -/
def Dev.mzkMayRun (d : Dev) (n : Nat) : Bool :=
  d.on (F.MZK_CTRL_enable.at n) && d.on F.MSR_STATUS_ready && d.unlocked && d.inDram d.mzkTbl 0x1000000
    && d.on (F.MZK_STATUS_link_up.at n) && !d.on (F.MZK_STATUS_retired.at n) && d.mode.serving

/-- Bring running up to date: a channel that starts listens first. -/
def Dev.mzkSyncCh (d : Dev) (n : Nat) : Dev :=
  let may := d.mzkMayRun n
  if may == d.on (F.MZK_STATUS_running.at n) then d
  else if may then
    (((d.setF (F.MZK_STATUS_running.at n)).setF (F.MZK_STATUS_listening.at n)).modRad n
      (fun (c : Rad) => { c with alien := false, accept := false })).mzkAdopt n false
  else d.mzkStop n

/-- The same for every channel. -/
def Dev.mzkSync (d : Dev) : Dev := foldN 12 (fun n d => d.mzkSyncCh n) d

/-- MZK_ENABLE: a write of MZK_CTRL. -/
def Dev.mzkEnable (d : Dev) (n v : Nat) : Dev :=
  let off := 0xB0000 + 0x1000 * n
  let was := d.on (F.MZK_CTRL_enable.at n)
  let d := d.regWrite32 off v
  let d := d.clrF (F.MZK_CTRL_beacon_force.at n)
  if !d.on (F.MZK_CTRL_enable.at n) || was then d.mzkSyncCh n
  else if !d.inDram d.mzkTbl 0x1000000 then (d.clrF (F.MZK_CTRL_enable.at n)).setF F.MZK_COMMON_area_bad
  else if d.mzkPreamble n < 4 || 1000 < d.mzkPreamble n || d.mzkTop n < d.fixedCh n then
    (d.clrF (F.MZK_CTRL_enable.at n)).setF (F.MZK_STATUS_cfg_bad.at n)
  else
    let d := ((d.commitRwl off).commitRwl 0xBC000).setF (F.MZK_STATUS_link_up.at n)
    let d := if d.rd (F.MZK_EPOCH_epoch_s.at n) = 0 then d.wr (F.MZK_EPOCH_epoch_s.at n) d.dwnNow else d
    d.mzkSyncCh n

/-- MZK_LISTEN_END. -/
def Dev.mzkListenEnd (d : Dev) (n : Nat) : Dev :=
  if !d.mzkRuns n || !d.on (F.MZK_STATUS_listening.at n) || d.mode == .shadow then d
  else
    let d := (d.clrF (F.MZK_STATUS_listening.at n)).modRad n (fun (c : Rad) => { c with partner := false })
    if (d.rad n).alien then d
    else
      let d := d.setF (F.MZK_STATUS_transmitting.at n)
      if d.mzkSched n then d.schedIdle n else d.cellPump n

/-- MZK_BEACON_FORCE. -/
def Dev.mzkBeaconForce (d : Dev) (n : Nat) : Dev :=
  let d := d.setF (F.MZK_CTRL_beacon_force.at n)
  let d := if d.mzkRuns n && d.mode != .shadow then
      (d.clrF (F.MZK_STATUS_listening.at n)).setF (F.MZK_STATUS_transmitting.at n)
    else d
  d.clrF (F.MZK_CTRL_beacon_force.at n)

/-- MZK_RX_BEACON: in Shadow the active unit's numbers are followed; otherwise another coordinator is heard, but for the last
beacon of a partner that hands over, which the listen follows (R434; log entry 15). -/
def Dev.mzkRxBeacon (d : Dev) (n bseq routeVer : Nat) : Dev :=
  if !d.mzkRuns n then d
  else if d.mode == .shadow then d.modRad n (fun (c : Rad) => { c with bseq := bseq, routeVer := routeVer })
  else if (d.rad n).partner && serSub 16 bseq (d.rad n).bseq ≤ 1 then
    d.modRad n (fun (c : Rad) => { c with bseq := bseq, partner := false })
  else ((d.setF (F.MZK_STATUS_foreign_coord.at n)).mzkEvent n F.MZK_EVENT_foreign_coord).modRad n
    (fun (c : Rad) => { c with alien := true })

/-- The channels follow a change of mode: off modes stop them, Shadow makes them listen, and a unit that becomes active
listens first (R434), announces route_ver + 0x8000 and knows no Cell parents (R338). -/
def Dev.mzkMode (d : Dev) (old new : Mode) : Dev :=
  foldN 12 (fun n d =>
    let d := d.mzkSyncCh n
    if !d.on (F.MZK_STATUS_running.at n) then d
    else if new == .shadow && old != .shadow then
      let l := (d.rad n).frames
      let d := (d.clrF (F.MZK_STATUS_transmitting.at n)).setF (F.MZK_STATUS_listening.at n)
      let d := d.modRad n (fun (c : Rad) => { c with txq := [], flying := false, uni := [], bcast := [], changes := [],
                                                     binds := c.binds.map (fun e => (e.1, { e.2 with flight := none })) })
      d.radBack l
    else if old == .shadow && new.serving && new != .shadow then
      let d := (d.clrF (F.MZK_STATUS_transmitting.at n)).setF (F.MZK_STATUS_listening.at n)
      (d.modRad n (fun (c : Rad) => { c with routeVer := (c.routeVer + 0x8000) % 65536, binds := [], alien := false,
                                             partner := d.epl.handed })).mzkAdopt n true
    else d) d

/-! ### Faults (R337) -/

/-- MZK_TRANSIENT_FAULT. -/
def Dev.mzkTransientFault (d : Dev) (n : Nat) : Dev :=
  let win := zeroAs (d.rd (F.MZK_ERR_CFG_window.at n)) 1 * sNs
  let fs := ((d.rad n).faults.filter (fun t => d.tick < t + win)) ++ [d.tick]
  let d := d.modRad n (fun (c : Rad) => { c with faults := fs })
  let d := (d.mzkEvent n F.MZK_EVENT_fault).trouble 0x28 1 4 2 n fs.length
  let thr := d.rd (F.MZK_ERR_CFG_retire_thr.at n)
  if thr != 0 && thr ≤ fs.length then d.mzkRetire n 1 else d

/-- MZK_PERMANENT_FAULT: cause 2 framing lost, 3 tune_err, 4 receiver silent, 5 known-answer test. -/
def Dev.mzkPermanentFault (d : Dev) (n cause : Nat) : Dev :=
  let d := if cause = 2 then d.clrF (F.MZK_STATUS_link_up.at n) else d
  let d := if cause = 3 then d.mzkEvent n F.MZK_EVENT_tune_err else d
  (d.mzkEvent n F.MZK_EVENT_fault).mzkRetire n cause

end Sys2Proof.Machine
end

