-- ==== Sys2Proof/Machine/Eth.lean ====
section
/-! DEFINITION. Ethernet (chapter 13): classification, the tunnel endpoint, forwarding with the PTP transparent clock, queues,
PAUSE and PFC, MACsec, wake patterns, backhaul presence, faults, and ETH's commands. -/

namespace Sys2Proof.Machine

/-! ### A port -/

def Dev.ethP (d : Dev) (n : Nat) : EthPort := mgetD d.eth.ports n {}

def Dev.setEthP (d : Dev) (n : Nat) (p : EthPort) : Dev := { d with eth := { d.eth with ports := mput d.eth.ports n p } }

def Dev.modEthP (d : Dev) (n : Nat) (f : EthPort → EthPort) : Dev := d.setEthP n (f (d.ethP n))

/-- The offset of a partition of a port. -/
def ethFq (n part : Nat) : Nat := 0xD0040 + 0x1000 * n + 0x10 * part

/-- Set a bit of ETH_EVENT; its source pends (R387). -/
def Dev.ethEvent (d : Dev) (n : Nat) (f : Fld) : Dev := (d.setF (f.at n)).raise (392 + 2 * n)

/-- 64 B units of a partition (R369). -/
def Dev.ethUnits (d : Dev) (n part : Nat) : Nat :=
  let p0 := d.rd (F.ETH_PART_p0_units.at n)
  if part = 0 then p0 else (if n < 4 then 4096 else 2048) - p0

def Dev.ethMac (d : Dev) (n : Nat) : List Byte := leBytes 6 (d.rd (F.ETH_MAC_LO_mac.at n))

/-- Whether a port runs: its STATUS says so and its domain, BHE or AGE, is on (R478). -/
def Dev.ethRuns (d : Dev) (n : Nat) : Bool := d.on (F.ETH_STATUS_running.at n) && d.domOn (if n < 4 then .bhe else .age)

def Dev.ethUp (d : Dev) (n : Nat) : Bool :=
  d.on (F.ETH_STATUS_link_up.at n) && d.ethRuns n && !d.on (F.ETH_STATUS_retired.at n)

/-- Whether forwarding runs (R376). -/
def Dev.fwdOn (d : Dev) : Bool :=
  match d.mode with
  | .commission | .run | .storm | .islanded => true
  | _ => false

/-! ### Frames -/

/-- What classification reads of a frame: addresses, its one VLAN tag, EtherType, the IP next header and UDP ports, and where
the network header begins. -/
structure EthHdr where
  dst : Nat
  src : Nat
  tagged : Bool
  vid : Nat
  pcp : Nat
  etype : Nat
  l3 : Nat
  nh : Option Nat
  l4 : Nat
  udpDst : Option Nat

def ethHdr (l : List Byte) : EthHdr :=
  let tagged := beAt l 12 2 == 0x8100
  let tci := if tagged then beAt l 14 2 else 0
  let o := if tagged then 18 else 14
  let et := beAt l (o - 2) 2
  let v6 := et == 0x86DD
  let v4 := et == 0x0800
  let nh := if v6 then some (byteAt l (o + 6)) else if v4 then some (byteAt l (o + 9)) else none
  let l4 := if v6 then o + 40 else o + 4 * (byteAt l o % 16)
  { dst := leAt l 0 6, src := leAt l 6 6, tagged := tagged, vid := tci % 4096, pcp := tci / 8192, etype := et, l3 := o, nh := nh,
    l4 := l4, udpDst := if nh = some 17 then some (beAt l (l4 + 2) 2) else none }

/-- The sum of the big-endian 16-bit words of a string, in one's complement. -/
def ocSum (l : List Byte) : Nat :=
  let s := ((chunks 2 l).map (fun w => beNat (padTo 2 w))).sum
  let f (x : Nat) : Nat := x % 65536 + x / 65536
  f (f (f s))

/-- The UDP checksum of an IPv6 datagram: 0xFFFF in place of 0. -/
def udp6Sum (src dst udp : List Byte) : Nat :=
  let s := 65535 - ocSum (src ++ dst ++ beBytes 4 udp.length ++ beBytes 4 17 ++ udp)
  if s = 0 then 65535 else s

/-- Whether a UDP datagram with its checksum sums to all ones. -/
def udp6Good (src dst udp : List Byte) : Bool :=
  beAt udp 6 2 != 0 && ocSum (src ++ dst ++ beBytes 4 udp.length ++ beBytes 4 17 ++ udp) == 65535

/-! ### MACsec (R381) -/

def Dev.secOn (d : Dev) (n : Nat) : Bool := decide (n < 4) && d.on (F.ETH_SEC_CTRL_enable.at n)

def Dev.secXpn (d : Dev) (n : Nat) : Bool := 2 ≤ d.rd (F.ETH_SEC_CTRL_cipher.at n)

/-- The active transmit SA. -/
def Dev.secTx (d : Dev) (n : Nat) : Option EthSa := mget? (d.ethP n).sas (d.rd (F.ETH_SEC_STAT_tx_slot.at n))

def Dev.setSa (d : Dev) (n slot : Nat) (sa : EthSa) : Dev :=
  d.modEthP n (fun (p : EthPort) => { p with sas := mput p.sas slot sa })

/-- The IV of a PN. -/
def secIv (xpn : Bool) (sci : List Byte) (sa : EthSa) (pn : Nat) : List Byte :=
  if xpn then List.zipWith (· ^^^ ·) (beBytes 4 sa.ssci ++ beBytes 8 pn) sa.salt else sci ++ beBytes 4 pn

/-- Whether protected transmission may go on: an SA in the active slot and PNs left. -/
def Dev.secReady (d : Dev) (n : Nat) : Bool :=
  !d.secOn n || ((d.secTx n).isSome && !d.on (F.ETH_SEC_STAT_tx_held.at n))

/-- Protect a frame under the active SA; the PN moves, with its threshold and its end. -/
def Dev.secProtect (d : Dev) (n : Nat) (l : List Byte) : Dev × List Byte :=
  match d.secTx n with
  | none => (d, l)
  | some sa =>
    let xpn := d.secXpn n
    let sci := beBytes 8 (d.rd (F.ETH_SEC_SCI_LO_sci.at n))
    let withSci := d.on (F.ETH_SEC_CTRL_include_sci.at n)
    let body := l.drop 12
    let tag := beBytes 2 0x88E5 ++ leBytes 1 (12 + 32 * b2n withSci + sa.an)
      ++ leBytes 1 (if body.length < 48 then body.length else 0) ++ beBytes 4 (sa.pn % 2 ^ 32) ++ (if withSci then sci else [])
    let out := l.take 12 ++ tag ++ gcmSeal sa.key (secIv xpn sci sa sa.pn) (l.take 12 ++ tag) body
    let last := sa.pn + 1 == 2 ^ (if xpn then 64 else 32)
    let d := d.setSa n (d.rd (F.ETH_SEC_STAT_tx_slot.at n)) { sa with pn := if last then sa.pn else sa.pn + 1 }
    let d := if sa.pn = d.rd (F.ETH_SEC_PNTHR_LO_pn_thr.at n) then d.ethEvent n F.ETH_EVENT_sec_pn_thr else d
    (if last then (d.setF (F.ETH_SEC_STAT_tx_held.at n)).ethEvent n F.ETH_EVENT_sec_pn_end else d, out)

/-- The receive SA a SecTAG names: its slot and SA, and the PN in full. -/
def Dev.secRx (d : Dev) (n : Nat) (l : List Byte) : Option (Nat × EthSa × Nat × List Byte) :=
  let tci := byteAt l 14
  let sci := if bit tci 5 then (l.drop 20).take 8 else (l.drop 6).take 6 ++ beBytes 2 1
  let en := d.rd (F.ETH_SEC_CTRL_rx_sc_en.at n)
  let only := (List.range 4).filter (fun c => bit en c)
  let chan := (List.range 4).find? (fun c => bit en c &&
    (beNat sci == d.rd ((F.ETH_SEC_RXSCI_LO_sci.at n).at c) || (!bit tci 5 && !bit tci 6 && only == [c])))
  chan.bind (fun c =>
    let key := beBytes 8 (d.rd ((F.ETH_SEC_RXSCI_LO_sci.at n).at c))
    ([2 + 2 * c, 3 + 2 * c].find? (fun s => ((mget? (d.ethP n).sas s).map (fun a => a.an == tci % 4)).getD false)).bind (fun s =>
      (mget? (d.ethP n).sas s).map (fun a =>
        let pn := beAt l 16 4
        let hi := a.pn / 2 ^ 32
        let full := if !d.secXpn n then pn
          else if a.pn % 2 ^ 32 ≤ pn || pn + 2 ^ 31 > a.pn % 2 ^ 32 then hi * 2 ^ 32 + pn else (hi + 1) * 2 ^ 32 + pn
        (s, a, full, key))))

/-- A received frame under MACsec: discarded (counted), or the frame within with the slot flags of R377. -/
def Dev.secReceive (d : Dev) (n : Nat) (l : List Byte) : Dev × Option (List Byte × Nat) :=
  let validate := min 2 (d.rd (F.ETH_SEC_CTRL_validate.at n))
  if beAt l 12 2 != 0x88E5 then
    if validate = 2 then (d.bump (F.ETH_SEC_CNT_untagged.at n), none) else (d, some (l, if validate = 1 then 4 else 0))
  else
    let tci := byteAt l 14
    let h := if bit tci 5 then 28 else 20
    let secret := bits tci 2 2 != 0
    let sl := byteAt l 15
    let data := if sl = 0 then l.drop h else (l.drop h).take (sl + 16)
    let plain := l.take 12 ++ data.take (data.length - 16)
    match d.secRx n l with
    | none =>
      let d := d.bump (F.ETH_SEC_CNT_no_sa.at n)
      if validate = 2 || secret then (d, none) else (d, some (plain, if validate = 1 then 4 else 0))
    | some (slot, sa, pn, sci) =>
      if validate = 0 then (if secret then (d.bump (F.ETH_SEC_CNT_no_sa.at n), none) else (d, some (plain, 0)))
      else
        let win := d.rd (F.ETH_SEC_WIN_window.at n)
        if d.on (F.ETH_SEC_CTRL_replay.at n) && pn + win < sa.pn then (d.bump (F.ETH_SEC_CNT_late.at n), none)
        else
          let iv := secIv (d.secXpn n) sci sa pn
          let body := if secret then gcmOpen sa.key iv (l.take h) data 16
            else (gcmOpen sa.key iv (l.take h ++ data.take (data.length - 16)) (data.drop (data.length - 16)) 16).map
              (fun _ => data.take (data.length - 16))
          match body with
          | none => (d.bump (F.ETH_SEC_CNT_bad_icv.at n), none)
          | some b => (d.setSa n slot { sa with pn := max sa.pn (pn + 1) }, some (l.take 12 ++ b, 2))

/-! ### Transmission (R377–R379) -/

/-- Whether a port can start a frame of a class now. -/
def Dev.ethCan (d : Dev) (n cls : Nat) : Bool := d.ethUp n && !bit (d.ethP n).pause cls && d.secReady n

/-- Send a frame, protected where MACsec is on. -/
def Dev.ethSend (d : Dev) (n : Nat) (l : List Byte) : Dev :=
  let (d, l) := if d.secOn n then d.secProtect n l else (d, l)
  (d.emit (.eth n l)).bump (F.ETH_CNT_TX_tx_frames.at n)

/-- A MAC control frame: 60 B, never protected. -/
def Dev.ethControl (d : Dev) (n op : Nat) (rest : List Byte) : Dev :=
  let l := padTo 60 (beBytes 6 0x0180C2000001 ++ d.ethMac n ++ beBytes 2 0x8808 ++ beBytes 2 op ++ rest)
  ((d.emit (.eth n l)).bump (F.ETH_CNT_CTL_pause_tx.at n)).bump (F.ETH_CNT_TX_tx_frames.at n)

/-- PAUSE_SEND: PAUSE, or PFC for a partition's classes, with a time (R379). -/
def Dev.pauseSend (d : Dev) (n part quanta : Nat) : Dev :=
  if !d.ethUp n then d
  else if d.on (F.ETH_CTRL_pfc_en.at n) then
    let m := d.rd ((if part = 0 then F.ETH_FLOW2_pfc_mask0 else F.ETH_FLOW2_pfc_mask1).at n)
    d.ethControl n 0x0101 (beBytes 2 m ++ (List.range 8).flatMap (fun c => beBytes 2 (if bit m c then quanta else 0)))
  else d.ethControl n 0x0001 (beBytes 2 quanta)

/-- A partition's level in 64 B units. -/
def Dev.ethLevel (d : Dev) (n part : Nat) : Nat := fifoLevelOf (ethFq n part) (d.fifo (ethFq n part)).items

/-- A partition whose level has risen to xoff stops the sender; one PAUSE covers both (R379, R380). -/
def Dev.ethPressure (d : Dev) (n part : Nat) : Dev :=
  let x := (d.ethP n).xoff
  if !d.on (F.ETH_CTRL_pause_tx_en.at n) || bit x part
    || d.ethLevel n part * 16 < d.rd (F.ETH_FLOW_xoff.at n) * d.ethUnits n part then d
  else
    let covered := !d.on (F.ETH_CTRL_pfc_en.at n) && x != 0
    let d := d.modEthP n (fun (p : EthPort) => { p with xoff := setBits x part 1 1 })
    if covered then d else d.pauseSend n part (d.rd (F.ETH_FLOW_pause_quanta.at n))

/-- PAUSE_RESEND. -/
def Dev.pauseResend (d : Dev) (n part : Nat) : Dev :=
  if d.on (F.ETH_CTRL_pause_tx_en.at n) && bit (d.ethP n).xoff part
      && d.rd (F.ETH_FLOW_xon.at n) * d.ethUnits n part < d.ethLevel n part * 16
  then d.pauseSend n part (d.rd (F.ETH_FLOW_pause_quanta.at n)) else d

/-- XON_PAUSE_SEND. -/
def Dev.xonPauseSend (d : Dev) (n part : Nat) : Dev :=
  if bit (d.ethP n).xoff part && d.ethLevel n part * 16 ≤ d.rd (F.ETH_FLOW_xon.at n) * d.ethUnits n part then
    let d := d.modEthP n (fun (p : EthPort) => { p with xoff := setBits p.xoff part 1 0 })
    if !d.on (F.ETH_CTRL_pfc_en.at n) && (d.ethP n).xoff != 0 then d else d.pauseSend n part 0
  else d

/-! ### PTP residence time (R357, R358) -/

/-- Residence in 2^−16 ns between two ticks (R358): by TSU_RATE, or by the counter's increment. -/
def Dev.residence (d : Dev) (t0 t1 : Nat) : Int :=
  let dt : Int := (t1 : Int) - t0
  if d.on F.TSU_STATUS_scheme then dt * 65536 + Int.fdiv (dt * d.rateReg * 65536) (2 ^ 32 * 1000000000)
  else Int.fdiv (dt * d.rd F.TSU_NSC_INCR_incr * 65536) (2 ^ 24)

/-- Where the PTP message of a forwarded frame begins, and its UDP checksum field if it has one. -/
def ptpAt (l : List Byte) : Option (Nat × Option Nat) :=
  let h := ethHdr l
  if h.etype = 0x88F7 then some (h.l3, none)
  else if h.udpDst = some 319 then some (h.l4 + 8, some (h.l4 + 6)) else none

/-- PTP_RESIDENCE_CORRECT. -/
def Dev.ptpCorrect (d : Dev) (l : List Byte) (stamp : Nat) : Dev × List Byte :=
  match (if d.on F.TSU_PTP_CTRL_tc_en then ptpAt l else none) with
  | none => (d, l)
  | some (o, ck) =>
    let mtype := byteAt l o % 16
    if byteAt l (o + 1) % 16 != 2 then (d.bump F.TSU_PTP_CNT_skipped, l)
    else if mtype != 0 && mtype != 1 then (d, l)
    else
      let old := beAt l (o + 8) 8
      let sum := sgn 64 old + d.residence stamp d.tick
      let ovr : Bool := decide (2 ^ 63 ≤ sum) || decide (sum < -(2 ^ 63))
      let new := if ovr then 0x7FFFFFFFFFFFFFFF else uns 64 sum
      let put (l : List Byte) (at' : Nat) (b : List Byte) : List Byte := l.take at' ++ b ++ l.drop (at' + b.length)
      let l2 := put l (o + 8) (beBytes 8 new)
      let l3 := match ck with
        | none => l2
        | some c =>
          let was := beAt l c 2
          if was = 0 then l2
          else
            let comp := (chunks 2 (beBytes 8 old)).flatMap (fun w => beBytes 2 (65535 - beNat w))
            let s := 65535 - ocSum (beBytes 2 (65535 - was) ++ comp ++ beBytes 8 new)
            put l2 c (beBytes 2 (if s = 0 then 65535 else s))
      let d := d.bump F.TSU_PTP_CNT_corrected
      (if ovr then (d.bump F.TSU_PTP_CTRL_overflow).raise 387 else d, l3)

/-! ### Frames that wait in a partition: the device's own 32 B note, then the frame -/

/-- A note: 0 steered or 1 forwarded, queue, rule, filter, slot flags, egress ports, stamp. -/
def ethNote (kind queue rule filt flags egress stamp : Nat) : List Byte :=
  leBytes 1 kind ++ leBytes 1 queue ++ leBytes 1 rule ++ leBytes 1 filt ++ leBytes 1 flags ++ zeros 1 ++ leBytes 2 egress
    ++ leBytes 8 stamp ++ zeros 16

/-- Slots of a queue, the size of a slot, and the address of a slot. -/
def qSlots (size : Nat) : Nat := 16 * 2 ^ size
def qSlotBytes (slot : Nat) : Nat := 2048 * 2 ^ (min 3 slot)
def Dev.rxqAddr (d : Dev) (q k : Nat) : Nat :=
  d.rd (F.ETH_RXQ_BASE_HI_base_hi.at q) * 2 ^ 32 + d.rd (F.ETH_RXQ_BASE_LO_base_lo.at q) * 2 ^ 12
    + k * qSlotBytes (d.rd (F.ETH_RXQ_CFG_slot.at q))
def Dev.txqAddr (d : Dev) (q k : Nat) : Nat :=
  d.rd (F.ETH_TXQ_BASE_HI_base_hi.at q) * 2 ^ 32 + d.rd (F.ETH_TXQ_BASE_LO_base_lo.at q) * 2 ^ 12
    + k * qSlotBytes (d.rd (F.ETH_TXQ_CFG_slot.at q))

/-- Whether a receive queue has a free slot. -/
def Dev.rxqRoom (d : Dev) (q : Nat) : Bool :=
  let s := qSlots (d.rd (F.ETH_RXQ_CFG_size.at q))
  (d.rd (F.ETH_RXQ_TAIL_tail.at q) + 1) % s != d.rd (F.ETH_RXQ_HEAD_head.at q) % s

/-- Write a steered frame into its queue's next slot (R377). -/
def Dev.rxqPut (d : Dev) (port q rule filt flags stamp : Nat) (l : List Byte) : Dev :=
  let t := d.rd (F.ETH_RXQ_TAIL_tail.at q)
  let s := qSlots (d.rd (F.ETH_RXQ_CFG_size.at q))
  let hdr := leBytes 2 l.length ++ leBytes 1 port ++ leBytes 1 flags ++ leBytes 1 rule ++ leBytes 1 filt ++ zeros 2 ++ leBytes 8 stamp
  ((d.memWrB (d.rxqAddr q (t % s)) (hdr ++ l)).wr (F.ETH_RXQ_TAIL_tail.at q) ((t + 1) % s)).raise 416

/-- The egress ports of a waiting forwarded frame that it still waits for: those up while forwarding runs. -/
def Dev.fwdMask (d : Dev) (mask : Nat) : Nat :=
  ((List.range 12).map (fun p => if bit mask p && d.ethUp p && d.fwdOn then 2 ^ p else 0)).sum

/-- A waiting forwarded frame with another set of egress ports. -/
def withEgress (it : List Byte) (m : Nat) : List Byte := it.take 6 ++ leBytes 2 m ++ it.drop 8

/-- Replace the first frame of a partition. -/
def Dev.ethHeadPut (d : Dev) (n part : Nat) (it : List Byte) : Dev :=
  let q := d.fifo (ethFq n part)
  d.fifoStore (ethFq n part) { q with items := it :: q.items.drop 1 }

/-- Take frames out of a partition while the first can go: into its receive queue, or because no egress port is left to it. -/
def Dev.ethDrainF : Nat → Nat → Nat → Dev → Dev
  | 0, _, _, d => d
  | k + 1, n, part, d =>
    if part = 0 && 4 ≤ n then d
    else
      match d.fifoHead (ethFq n part) with
      | none => d
      | some it =>
        if byteAt it 0 = 0 then
          let q := byteAt it 1
          if d.rxqRoom q then
            Dev.ethDrainF k n part
              ((d.rxqPut n q (byteAt it 2) (byteAt it 3) (byteAt it 4) (leAt it 8 8) (it.drop 32)).fifoPop (ethFq n part))
          else d
        else
          let m := d.fwdMask (leAt it 6 2)
          if m = 0 then Dev.ethDrainF k n part (d.fifoPop (ethFq n part))
          else if m = leAt it 6 2 then d else d.ethHeadPut n part (withEgress it m)

/-- Take out of a partition whatever can go. -/
def Dev.ethDrain1 (d : Dev) (n part : Nat) : Dev := Dev.ethDrainF ((d.fifo (ethFq n part)).items.length + 1) n part d

/-- The same for every partition. -/
def Dev.ethDrain (d : Dev) : Dev := foldN 24 (fun k d => d.ethDrain1 (k / 2) (k % 2)) d

def Dev.noMatch (d : Dev) (n : Nat) : Dev := d.bump (F.ETH_CNT_RX1_no_match.at n)

/-! ### The tunnel (R129–R131, R230, R372–R374) -/

/-- A concentrator's entry, as a 32 B number. -/
def Dev.conc (d : Dev) (c : Nat) : Nat := mgetD d.eth.concs c 0

def Dev.setConc (d : Dev) (c v : Nat) : Dev :=
  { d with eth := { d.eth with concs := if v = 0 then mdel d.eth.concs c else mput d.eth.concs c v } }

def ceAddr (e : Nat) : List Byte := leBytes 16 e
def ceMac (e : Nat) : Nat := byts e 16 6
def ceVlan (e : Nat) : Nat := byts e 22 2
def cePort (e : Nat) : Nat := bits e 192 4
def ceAlt (e : Nat) : Nat := bits e 196 4
def ceValid (e : Nat) : Bool := bit e 200
def ceLearn (e : Nat) : Bool := bit e 201
def ceLearned (e : Nat) : Bool := bit e 202
def ceUp (e : Nat) : Bool := bit e 203
def ceOnAlt (e : Nat) : Bool := bit e 204
def ceUport (e : Nat) : Nat := byts e 26 2
def ceKnown (e : Nat) : Bool := ceValid e && (!ceLearn e || ceLearned e)
/-- The port a concentrator is reached by now. -/
def ceNow (e : Nat) : Nat := if ceOnAlt e then ceAlt e else cePort e

/-- Tunnel address a. -/
def Dev.tunAddr (d : Dev) (a : Nat) : List Byte :=
  (List.range 4).flatMap (fun j => leBytes 4 (d.rd ((F.ETH_TUN_ADDR_addr.at a).at j)))

/-- Whether an address is a tunnel address in use. -/
def Dev.isTunAddr (d : Dev) (l : List Byte) : Bool :=
  (List.range 4).any (fun a => bit (d.rd F.ETH_TUN_CTRL_addr_en) a && d.tunAddr a == l)

/-- Raise a bit of ETH_TUN_EVT for a concentrator. -/
def Dev.tunEvent (d : Dev) (f : Fld) (c : Nat) : Dev := ((d.setF f).wr F.ETH_TUN_EVT_last_conc c).raise 418

/-- How a frame to a tunnel address stands to the tunnel port: not for it, an extension header or fragment, or a datagram. -/
inductive TunKind where
  | no
  | ext
  | gram
deriving DecidableEq, Repr

/-- Follow extension headers to a UDP port; a fragment that is not the first cannot name one and counts as for the port. -/
def extPort (l : List Byte) (port : Nat) : Nat → Nat → Nat → Bool
  | 0, _, _ => false
  | k + 1, nh, o =>
    if nh = 17 then beAt l (o + 2) 2 == port
    else if nh = 44 then (beAt l (o + 2) 2 / 8 != 0) || extPort l port k (byteAt l o) (o + 8)
    else if nh = 51 then extPort l port k (byteAt l o) (o + 4 * (byteAt l (o + 1) + 2))
    else if nh = 0 || nh = 43 || nh = 60 then extPort l port k (byteAt l o) (o + 8 * (byteAt l (o + 1) + 1))
    else false

def Dev.tunKind (d : Dev) (l : List Byte) : TunKind :=
  let h := ethHdr l
  let port := d.rd F.ETH_TUN_CTRL_udp_port
  if h.etype != 0x86DD || !d.isTunAddr ((l.drop (h.l3 + 24)).take 16) then .no
  else if h.nh = some 17 then (if h.udpDst = some port then .gram else .no)
  else if extPort l port 8 (byteAt l (h.l3 + 6)) (h.l3 + 40) then .ext else .no

/-- The entries of an uplink payload after its header: (sub-header, frame); none where they do not fill it exactly. -/
def tunEntries : Nat → List Byte → Option (List (List Byte × List Byte))
  | 0, l => if l.isEmpty then some [] else none
  | k + 1, l =>
    let n := leAt l 0 2
    let pad := (n + 3) / 4 * 4
    let sub := l.take 24
    let ok := 17 ≤ n && n ≤ 512 && 24 + pad ≤ l.length && byteAt l 4 ≤ 1 && leAt l 6 2 == 0 && leAt l 12 4 == 0
      && leAt l 20 4 ≤ 999999999
    if ok then (tunEntries k (l.drop (24 + pad))).map (fun r => (sub, (l.drop 24).take n) :: r) else none

/-- The checks of R129 and R130 on a UDP payload: concentrator, tseq, entries. -/
def tunParse (p : List Byte) : Option (Nat × Nat × List (List Byte × List Byte)) :=
  let count := leAt p 4 2
  let ty := byteAt p 1
  let ok := 16 ≤ p.length && p.length ≤ 8192 && byteAt p 0 == 0x10 && leAt p 2 2 < 4096 && leAt p 6 2 == 0
    && ((ty == 0 && 1 ≤ count && count ≤ 32) || (ty == 2 && count == 0))
  if ok then (tunEntries count (p.drop 16)).map (fun es => (leAt p 2 2, leAt p 8 8, es)) else none

/-- TUNNEL_DATAGRAM (R372, R373): a keepalive only refreshes up. -/
def Dev.tunnelDatagram (d : Dev) (n stamp : Nat) (l : List Byte) : Dev :=
  let h := ethHdr l
  let src := (l.drop (h.l3 + 8)).take 16
  let dst := (l.drop (h.l3 + 24)).take 16
  let pay := (l.drop h.l4).take (beAt l (h.l3 + 4) 2)
  let udp := pay.take (beAt pay 4 2)
  if beAt pay 4 2 < 8 || pay.length < beAt pay 4 2 then d.bump F.ETH_TUN_CNT0_dgram_bad
  else if !udp6Good src dst udp then d.bump F.ETH_TUN_CNT1_csum_bad
  else
    match tunParse (udp.drop 8) with
    | none => d.bump F.ETH_TUN_CNT0_dgram_bad
    | some (c, tseq, es) =>
      let e := d.conc c
      let uport := beAt udp 0 2
      let fresh := ceLearn e && !ceLearned e
      let onPort := n == cePort e || (ceAlt e != 0 && n == ceAlt e)
      let vlan := if h.tagged then h.vid + 4096 + 8192 * h.pcp else 0
      let other := ceAddr e != src || ceUport e != uport || (ceLearn e && (ceMac e != h.src || ceVlan e != vlan))
      if !ceValid e || !onPort || (!fresh && other) then d.bump F.ETH_TUN_CNT0_conc_mismatch
      else if es.isEmpty then
        let d := d.setConc c (setBits e 203 1 1)
        if ceUp e then d else d.tunEvent F.ETH_TUN_EVT_conc_up c
      else
        let e1 := if fresh then setBits (setByts (setByts (setByts (setByts e 0 16 (leNat src)) 16 6 h.src) 22 2 vlan) 26 2 uport) 202 1 1
          else e
        let gap := serSub 16 tseq (byts e 30 2 + 1)
        let lost := if ceUp e && gap < 0x8000 then satAdd 0xFFFF (byts e 28 2) gap else byts e 28 2
        let onAlt := n != cePort e
        let e2 := setByts (setByts (setBits (setBits e1 204 1 (b2n onAlt)) 203 1 1) 28 2 lost) 30 2 (tseq % 65536)
        let d := d.setConc c e2
        let d := if fresh then d.tunEvent F.ETH_TUN_EVT_learned c else d
        let d := if ceUp e then d else d.tunEvent F.ETH_TUN_EVT_conc_up c
        let items := es.map (fun x =>
          mkPrefix stamp (mkAttach 4 n c (leAt x.1 2 2) 0) (leAt x.1 8 4) x.2.length (byteAt x.1 5) 3 (leAt x.1 16 4) (leAt x.1 20 4)
            ++ x.2)
        let q := d.fifo (ethFq n 0)
        if d.ethUnits n 0 < d.ethLevel n 0 + fifoLevelOf (ethFq n 0) items then d.bump (F.ETH_CNT_DROP_drop_p0.at n)
        else ((d.fifoStore (ethFq n 0) { q with items := q.items ++ items }).bump F.ETH_TUN_CNT2_frames_in items.length).ethPressure n 0

/-- A tunnel payload in its datagram to a concentrator (R374). -/
def Dev.tunFrame (d : Dev) (e : Nat) (payload : List Byte) : List Byte :=
  let src := d.tunAddr 0
  let port := d.rd F.ETH_TUN_CTRL_udp_port
  let head := beBytes 2 port ++ beBytes 2 (ceUport e) ++ beBytes 2 (8 + payload.length)
  let sum := udp6Sum src (ceAddr e) (head ++ zeros 2 ++ payload)
  let v := ceVlan e
  let tag := if bit v 12 then beBytes 2 0x8100 ++ beBytes 2 (v % 4096 + v / 8192 * 8192) else []
  leBytes 6 (ceMac e) ++ d.ethMac (ceNow e) ++ tag ++ beBytes 2 0x86DD
    ++ beBytes 4 (6 * 2 ^ 28 + d.rd F.ETH_TUN_CFG_tclass * 2 ^ 20) ++ beBytes 2 (8 + payload.length) ++ leBytes 1 17
    ++ leBytes 1 (d.rd F.ETH_TUN_CFG_hop_limit) ++ src ++ ceAddr e ++ head ++ beBytes 2 sum ++ payload

/-- A downlink entry (R230). -/
def tunEntry (f : DlFrame) (notAfter : Nat × Nat) : List Byte :=
  leBytes 2 f.body.length ++ leBytes 2 (if f.dest = 2 then 0xFFFF else atShort f.attach) ++ leBytes 1 2 ++ leBytes 1 (b2n f.act)
    ++ zeros 2 ++ leBytes 4 notAfter.1 ++ leBytes 4 notAfter.2 ++ zeros 8 ++ padTo ((f.body.length + 3) / 4 * 4) f.body

/-- The next tseq to a concentrator. -/
def Dev.takeTseq (d : Dev) (c : Nat) : Dev × Nat :=
  let t := mgetD d.eth.tseq c 0
  ({ d with eth := { d.eth with tseq := mput d.eth.tseq c ((t + 1) % 2 ^ 64) } }, t)

/-- not_after of an actuating entry: device time of the tick 1 ms before the lease expires; a device without a lease states
none, and the value is free (log entry 2). -/
def Dev.notAfter (d : Dev) (f : DlFrame) (at' : Option Nat) : Dev × (Nat × Nat) :=
  if !f.act then (d, (0, 0))
  else match at' with
    | some t =>
      let x := (d.timeAt t).toNat
      (d, (dwnOf (x / 1000000000), x % 1000000000))
    | none => (d.drawn, (d.freeVal 64 % 2 ^ 32, d.freeVal 64 / 2 ^ 32 % 1000000000))

/-- A waiting datagram reaches the head of transmission: actuating entries past their time leave it (R374). -/
def Dev.gramSend (d : Dev) (g : EthGram) : Dev :=
  let e := d.conc g.conc
  let live (x : DlFrame × Option Nat) : Bool := !x.1.act || (d.tokenHeld && (x.2.map (fun t => decide (d.tick ≤ t))).getD true)
  let go := g.entries.filter live
  let d := (g.entries.filter (fun x => !live x)).foldl (fun d x => d.dlToken x.1) d
  if go.isEmpty && !g.entries.isEmpty then d
  else
    let (d, tseq) := d.takeTseq g.conc
    let r := go.foldl (fun (a : Dev × List Byte) x =>
      let (d, na) := a.1.notAfter x.1 x.2
      (d, a.2 ++ tunEntry x.1 na)) (d, [])
    let hdr := leBytes 1 0x10 ++ leBytes 1 (if g.entries.isEmpty then 2 else 1) ++ leBytes 2 g.conc ++ leBytes 2 go.length ++ zeros 2
      ++ leBytes 8 tseq
    go.foldl (fun d x => d.dlSent x.1) (r.1.ethSend (ceNow e) (r.1.tunFrame e (hdr ++ r.2)))

/-- The first slot of a transmit queue that holds a frame to send: its address. -/
def Dev.txqHead (d : Dev) (q : Nat) : Option Nat :=
  let s := qSlots (d.rd (F.ETH_TXQ_CFG_size.at q))
  let h := d.rd (F.ETH_TXQ_HEAD_head.at q) % s
  if d.on (F.ETH_TXQ_CFG_enable.at q) && h != d.rd (F.ETH_TXQ_TAIL_tail.at q) % s then some (d.txqAddr q h) else none

/-- Mark a queue's first slot done and advance the head. -/
def Dev.txqMark (d : Dev) (q a : Nat) (sent : Bool) : Dev :=
  let s := qSlots (d.rd (F.ETH_TXQ_CFG_size.at q))
  let fl := d.memRd (a + 3) 1
  let d := if sent && bit fl 0 then d.memWr (a + 8) 8 d.tick else d
  ((d.memWr (a + 3) 1 (setBits fl 1 1 1)).wr (F.ETH_TXQ_HEAD_head.at q) ((d.rd (F.ETH_TXQ_HEAD_head.at q) + 1) % s)).raise 417

/-- A queue whose first slot names a port that cannot send: this one without its link or retired, or none of the twelve. -/
def Dev.txqDead (d : Dev) (n : Nat) : Option (Nat × Nat) :=
  ((List.range 8).filterMap (fun q => (d.txqHead q).bind (fun a =>
    let p := d.memRd (a + 2) 1
    if (p = n && !d.ethUp n) || 12 ≤ p then some (q, a) else none))).head?

/-- What a port could send of one source, each with its class: the next tunnel datagram; the forwarded frames at the head of the
partitions, by port of arrival; the first slots of the transmit queues, in turn after the queue served last. -/
def Dev.ethOffers (d : Dev) (n src : Nat) : List (Nat × Nat × Nat) :=
  let can (x : Nat × Nat × Nat) : Bool := d.ethCan n x.1
  (if src = 0 then (d.ethP n).grams.head?.toList.map (fun g => (ceVlan (d.conc g.conc) / 8192, 0, 0))
   else if src = 1 then (List.range 12).filterMap (fun p => match d.fifoHead (ethFq p 1) with
     | none => none
     | some it =>
       let h := ethHdr (it.drop 32)
       if byteAt it 0 = 1 && bit (leAt it 6 2) n && d.fwdOn then some (if h.tagged then h.pcp else 0, 1, p) else none)
   else (List.range 8).filterMap (fun k =>
     let q := ((d.ethP n).lastQ + 1 + k) % 8
     (d.txqHead q).bind (fun a => if d.memRd (a + 2) 1 = n then some (d.memRd (a + 4) 1 % 8, 2, q) else none))).filter can

/-- What a port sends next (R377): the highest class; within it the sources in turn. -/
def Dev.ethNext (d : Dev) (n : Nat) : Option (Nat × Nat × Nat) :=
  let l := (List.range 3).flatMap (fun k => d.ethOffers n (((d.ethP n).lastSrc + 1 + k) % 3))
  l.foldl (fun (b : Option (Nat × Nat × Nat)) x => match b with
    | none => some x
    | some y => if y.1 < x.1 then some x else some y) none

/-- Send a forwarded frame of a partition out of a port. -/
def Dev.fwdSend (d : Dev) (n p : Nat) : Dev :=
  match d.fifoHead (ethFq p 1) with
  | none => d
  | some it =>
    let (d, l) := d.ptpCorrect (it.drop 32) (leAt it 8 8)
    ((d.ethSend n l).ethHeadPut p 1 (withEgress it (setBits (leAt it 6 2) n 1 0))).ethDrain1 p 1

/-- Send what a port has next while that is a tunnel datagram or a forwarded frame; a transmit queue's turn waits for
ETH_TX_DONE. -/
def Dev.ethPumpF : Nat → Nat → Dev → Dev
  | 0, _, d => d
  | k + 1, n, d =>
    match d.ethNext n with
    | some (_, 0, _) =>
      match (d.ethP n).grams with
      | [] => d
      | g :: rest => Dev.ethPumpF k n ((d.modEthP n (fun (p : EthPort) => { p with grams := rest, lastSrc := 0 })).gramSend g)
    | some (_, 1, p) => Dev.ethPumpF k n ((d.modEthP n (fun (x : EthPort) => { x with lastSrc := 1 })).fwdSend n p)
    | _ => d

/-- Forwarded and steered frames that wait. -/
def Dev.ethWaiting (d : Dev) : Nat := ((List.range 12).map (fun p => (d.fifo (ethFq p 1)).items.length)).sum

def Dev.ethPump (d : Dev) (n : Nat) : Dev := Dev.ethPumpF ((d.ethP n).grams.length + d.ethWaiting + 1) n d

/-- Move whatever the partitions and the ports can move. -/
def Dev.ethFlow (d : Dev) : Dev := foldN (d.ethWaiting + 1) (fun _ d => foldN 12 (fun n d => d.ethPump n) d.ethDrain) d

/-- Put a frame into a partition, dropped and counted where it has no room (R369). -/
def Dev.ethBuffer (d : Dev) (n part : Nat) (it : List Byte) : Dev :=
  if d.fifoRoom (ethFq n part) (d.ethUnits n part) it then
    ((d.fifoPush (ethFq n part) (d.ethUnits n part) it).ethPressure n part).ethFlow
  else d.bump ((if part = 0 then F.ETH_CNT_DROP_drop_p0 else F.ETH_CNT_DROP_drop_p1).at n)

/-- Whether tunnel datagrams may be sent: not in Shadow (R386). -/
def Dev.tunSends (d : Dev) : Bool := d.onAir

/-- Take Bolero's frames for a path, at most 25 and 8,192 B of payload. -/
def Dev.gramTake : Nat → Nat → Nat → List DlFrame → Dev → Dev × List DlFrame
  | 0, _, _, acc, d => (d, acc)
  | k + 1, path, room, acc, d =>
    let need (f : DlFrame) : Nat := 24 + (f.body.length + 3) / 4 * 4
    let cap (f : DlFrame) : Bool := if f.body == [] then 536 ≤ room else need f ≤ room
    match d.dlTake path cap with
    | (d, none) => (d, acc)
    | (d, some f) => Dev.gramTake k path (room - need f) (acc ++ [f]) d

/-- TUNNEL_DOWNLINK_SEND: Bolero is held back while a datagram of the port still waits (R380). -/
def Dev.tunnelDownlinkSend (d : Dev) (c : Nat) : Dev :=
  let e := d.conc c
  if !d.tunSends || !ceKnown e || !(d.ethP (ceNow e)).grams.isEmpty then d
  else
    let (d, fs) := Dev.gramTake 25 (28 + c) 8176 [] d
    if fs.isEmpty then d
    else
      let lim := if d.on F.EPL_CTRL_pair_en then d.epl.expiry.map (fun x => x - msNs) else none
      let g : EthGram := { conc := c, entries := fs.map (fun f => (f, if f.act then lim else none)) }
      (d.modEthP (ceNow e) (fun (p : EthPort) => { p with grams := p.grams ++ [g] })).ethFlow

/-- KEEPALIVE_SEND. -/
def Dev.keepaliveSend (d : Dev) : Dev :=
  if !d.tunSends || d.rd F.ETH_TUN_CFG_ka_s = 0 then d
  else
    let d := (d.eth.concs.filter (fun x => ceKnown x.2)).foldl (fun d x =>
      d.modEthP (ceNow x.2) (fun (p : EthPort) => { p with grams := p.grams ++ [{ conc := x.1, entries := [] }] })) d
    d.ethFlow

/-- CONC_SILENT. -/
def Dev.concSilent (d : Dev) (c : Nat) : Dev :=
  let e := d.conc c
  if ceValid e && ceUp e && d.rd F.ETH_TUN_CFG_conc_silent != 0 then
    (d.setConc c (setBits e 203 1 0)).tunEvent F.ETH_TUN_EVT_conc_lost c
  else d

/-- ETH_CONC_SEL_WRITE: the entry's snapshot. -/
def Dev.ethConcSelWrite (d : Dev) (v : Nat) : Dev :=
  let c := bits v 0 12
  let d := (d.wr F.ETH_CONC_SEL_conc c).setF F.ETH_CONC_SEL_loaded
  foldN 8 (fun j d => d.wr (F.ETH_CONC_DATA_w.at j) (byts (d.conc c) (4 * j) 4)) d

/-- ETH_CONC_COMMIT. -/
def Dev.ethConcCommit (d : Dev) : Dev :=
  let v := ((List.range 8).map (fun j => d.rd (F.ETH_CONC_DATA_w.at j) * 2 ^ (32 * j))).sum
  (d.setConc (d.rd F.ETH_CONC_SEL_conc) v).clrF F.ETH_CONC_CTRL_commit

/-! ### Forwarding (R375, R376) -/

/-- Where a frame offered on a port is forwarded: none where no entry covers it; learns the source. -/
def Dev.fwdLook (d : Dev) (n : Nat) (h : EthHdr) : Dev × Option Nat :=
  let vid := if h.tagged then h.vid else 0
  let ent (p : Nat → Bool) : Option Nat := (List.range 8).find? (fun v =>
    d.on (F.ETH_FWD_enable.at v) && d.rd (F.ETH_FWD_vid.at v) == vid && p v)
  if !d.fwdOn then (d, none)
  else if 4 ≤ n then
    match ent (fun v => bit (d.rd (F.ETH_FWD_agg_mask.at v)) (n - 4)) with
    | none => (d, none)
    | some v =>
      let rest := d.eth.fdb.filter (fun x => x.1 != h.src || x.2.1 != vid)
      let d := if rest.length < 4096 then { d with eth := { d.eth with fdb := rest ++ [(h.src, vid, n)] } }
        else (d.setF F.ETH_FWD_CFG_learn_full).raise 420
      (d, some (2 ^ d.rd (F.ETH_FWD_bh_port.at v)))
  else
    match ent (fun v => d.rd (F.ETH_FWD_bh_port.at v) == n) with
    | none => (d, none)
    | some v =>
      let mask := d.rd (F.ETH_FWD_agg_mask.at v)
      match (if bit h.dst 0 then none else d.eth.fdb.find? (fun x => x.1 == h.dst && x.2.1 == vid && bit mask (x.2.2 - 4))) with
      | some x => (d, some (2 ^ x.2.2))
      | none =>
        let m := ((List.range 8).map (fun i => if bit mask i && d.ethUp (4 + i) then 2 ^ (4 + i) else 0)).sum
        (d.bump F.ETH_FWD_CNT_flooded, some m)

/-- ETH_FORWARD. -/
def Dev.ethForward (d : Dev) (n stamp flags : Nat) (l : List Byte) (alone : Bool) : Dev :=
  match d.fwdLook n (ethHdr l) with
  | (d, none) => if alone then d.noMatch n else d
  | (d, some m) => d.ethBuffer n 1 (ethNote 1 0 0 0 flags m stamp ++ l)

/-- FDB_AGE_OUT. -/
def Dev.fdbAgeOut (d : Dev) (mac vid : Nat) : Dev :=
  { d with eth := { d.eth with fdb := d.eth.fdb.filter (fun x => x.1 != mac || x.2.1 != vid) } }

/-! ### Reception (R370, R371, R378) -/

/-- Whether a steering rule matches. -/
def Dev.ruleMatch (d : Dev) (r n filt : Nat) (h : EthHdr) : Bool :=
  let on (f : Fld) : Bool := d.on (f.at r)
  let v (f : Fld) : Nat := d.rd (f.at r)
  on F.ETH_RULE_ACTION_enable && bit (v F.ETH_RULE_MATCH0_ports) n
    && (!on F.ETH_RULE_MATCH0_vid_en || (h.tagged && h.vid == v F.ETH_RULE_MATCH0_vid))
    && (!on F.ETH_RULE_MATCH0_untagged || !h.tagged)
    && (!on F.ETH_RULE_MATCH0_pcp_en || (h.tagged && h.pcp == v F.ETH_RULE_MATCH0_pcp))
    && (!on F.ETH_RULE_MATCH1_et_en || h.etype == v F.ETH_RULE_MATCH1_ethertype)
    && (!on F.ETH_RULE_MATCH1_nh_en || h.nh == some (v F.ETH_RULE_MATCH1_nh))
    && (!on F.ETH_RULE_MATCH2_up_en || h.udpDst == some (v F.ETH_RULE_MATCH2_udp_port))
    && (!on F.ETH_RULE_MATCH2_af_en || filt == v F.ETH_RULE_MATCH2_af)

/-- ETH_STEER_QUEUE: steps 6 and 7. -/
def Dev.ethSteer (d : Dev) (n filt flags stamp : Nat) (l : List Byte) : Dev :=
  let h := ethHdr l
  match (List.range 32).find? (fun r => d.ruleMatch r n filt h) with
  | none => d.noMatch n
  | some r =>
    let q := d.rd (F.ETH_RULE_ACTION_queue.at r)
    if d.on (F.ETH_RULE_ACTION_drop.at r) || !d.on (F.ETH_RXQ_CFG_enable.at q)
      || qSlotBytes (d.rd (F.ETH_RXQ_CFG_slot.at q)) < 16 + l.length then d.noMatch n
    else d.ethBuffer n (if n < 4 then 0 else 1) (ethNote 0 q r filt (flags + b2n h.tagged) 0 stamp ++ l)

/-- MAC_CONTROL_RECEIVE. -/
def Dev.macControl (d : Dev) (n : Nat) (l : List Byte) : Dev :=
  let op := beAt l 14 2
  let toUs := beAt l 0 6 == 0x0180C2000001 || l.take 6 == d.ethMac n
  let pfc := d.on (F.ETH_CTRL_pfc_en.at n)
  let kind := if pfc then op == 0x0101 else op == 0x0001 && d.on (F.ETH_CTRL_pause_rx_en.at n)
  if !toUs || !kind || (d.ethP n).ignoring then d.bump (F.ETH_CNT_CTL2_ctl_ignored.at n)
  else
    let d := d.bump (F.ETH_CNT_CTL_pause_rx.at n)
    let old := (d.ethP n).pause
    let new := if pfc then
        ((List.range 8).map (fun c => 2 ^ c * (if bit (beAt l 16 2) c then b2n (beAt l (18 + 2 * c) 2 != 0) else bits old c 1))).sum
      else if beAt l 16 2 = 0 then 0 else 255
    let d := d.modEthP n (fun (p : EthPort) => { p with pause := new })
    (d.flag (F.ETH_STATUS_paused.at n) (new != 0)).ethFlow

/-- The first address filter that matches (R371). -/
def Dev.ethFilter (d : Dev) (n dst : Nat) : Option Nat :=
  (List.range 64).find? (fun k => d.on (F.ETH_AF_HI_enable.at k) && bit (d.rd (F.ETH_AF_HI_ports.at k)) n
    && d.rd (F.ETH_AF_LO_addr_lo.at k) + d.rd (F.ETH_AF_HI_addr_hi.at k) * 2 ^ 32 == dst)

/-- ETH_FRAME_RECEIVE (R370). -/
def Dev.ethFrameReceive (d : Dev) (n : Nat) (m : EthRx) : Dev :=
  let len := m.bytes.length + 4
  if !d.ethRuns n then d
  else if !m.fcsOk || len < 64 || d.rd (F.ETH_CTRL_max_frame.at n) < len then d.bump (F.ETH_CNT_RX1_rx_bad.at n)
  else
    let d := d.bump (F.ETH_CNT_RX0_rx_frames.at n)
    if (ethHdr m.bytes).etype = 0x8808 then d.macControl n m.bytes
    else
      match (if d.secOn n then d.secReceive n m.bytes else (d, some (m.bytes, 0))) with
      | (d, none) => d
      | (d, some (l, flags)) =>
        let h := ethHdr l
        let stamp := m.stamp.toNat
        match d.ethFilter n h.dst with
        | none => d.ethForward n stamp flags l true
        | some k =>
          let kind := if 4 ≤ n && d.on (F.ETH_CTRL_tunnel.at n) && d.mode.serving then d.tunKind l else .no
          let d := match kind with
            | .gram => d.tunnelDatagram n stamp l
            | .ext => d.bump F.ETH_TUN_CNT1_ext_drop
            | .no => d.ethSteer n k flags stamp l
          if bit h.dst 0 then d.ethForward n stamp flags l false else d

/-- PAUSE_EXPIRY: of the port, or of one class under PFC. -/
def Dev.pauseExpiry (d : Dev) (n cls : Nat) : Dev :=
  let new := if d.on (F.ETH_CTRL_pfc_en.at n) then setBits (d.ethP n).pause cls 1 0 else 0
  let d := d.modEthP n (fun (p : EthPort) => { p with pause := new })
  (d.flag (F.ETH_STATUS_paused.at n) (new != 0)).ethFlow

/-- PAUSE_STORM. -/
def Dev.pauseStorm (d : Dev) (n : Nat) : Dev :=
  if (d.ethP n).pause = 0 || d.rd (F.ETH_FLOW2_pause_max.at n) = 0 then d
  else
    let d := (d.setF (F.ETH_STATUS_pause_storm.at n)).ethEvent n F.ETH_EVENT_pause_storm
    let d := d.modEthP n (fun (p : EthPort) => { p with pause := 0, ignoring := true })
    (d.clrF (F.ETH_STATUS_paused.at n)).ethFlow

/-- PAUSE_IGNORE_END. -/
def Dev.pauseIgnoreEnd (d : Dev) (n : Nat) : Dev := d.modEthP n (fun (p : EthPort) => { p with ignoring := false })

/-! ### Transmit queues (R377) -/

/-- ETH_TXQ_POST: a write of a transmit queue's tail. -/
def Dev.ethTxqPost (d : Dev) (q v : Nat) : Dev := d.wr (F.ETH_TXQ_TAIL_tail.at q) (bits v 0 12)

/-- ETH_TX_DONE: what may go before it goes; then a port sends the frame of a transmit queue that is next, or a frame whose port
cannot send is only marked done. -/
def Dev.ethTxDone (d : Dev) (n : Nat) : Dev :=
  let d := d.ethFlow
  match d.txqDead n with
  | some (q, a) => (d.txqMark q a false).ethFlow
  | none =>
    match d.ethNext n with
    | some (_, 2, q) =>
      match d.txqHead q with
      | none => d
      | some a =>
        let d := d.modEthP n (fun (p : EthPort) => { p with lastQ := q, lastSrc := 2 })
        ((d.ethSend n (d.mem.readBytes (a + 16) (d.memRd a 2))).txqMark q a true).ethFlow
    | _ => d

/-! ### Enable, links, presence (R368, R369, R384) -/

/-- Whether the fields of a port allow its enable. -/
def Dev.ethCfgOk (d : Dev) (n : Nat) : Bool :=
  let mf := d.rd (F.ETH_CTRL_max_frame.at n)
  let need := 2 * ((mf + 63) / 64)
  d.rd (F.ETH_CTRL_mode.at n) ≤ (if n < 4 then 1 else 2) && 1518 ≤ mf && mf ≤ 9216
    && (n < 4 || !d.on (F.ETH_CTRL_tunnel.at n) || 8262 ≤ mf)
    && need ≤ d.ethUnits n 0 && need ≤ d.ethUnits n 1

/-- backhaul_present, and source 421 when it changes; a BHE that is off has no link. -/
def Dev.presence (d : Dev) : Dev :=
  let now := d.domOn .bhe && (List.range 4).any (fun n => d.on (F.ETH_CTRL_uplink.at n) && d.on (F.ETH_STATUS_link_up.at n)
    && !d.on (F.ETH_STATUS_retired.at n))
  if now == d.on F.ETH_COMMON_backhaul_present then d else (d.flag F.ETH_COMMON_backhaul_present now).raise 421

/-- ETH_ENABLE: a write of ETH_CTRL. -/
def Dev.ethEnable (d : Dev) (n v : Nat) : Dev :=
  let off := 0xD0000 + 0x1000 * n
  let was := d.on (F.ETH_CTRL_enable.at n)
  let d := d.regWrite32 off v
  if !d.on (F.ETH_CTRL_enable.at n) then
    (((d.clrF (F.ETH_STATUS_running.at n)).clrF (F.ETH_STATUS_link_up.at n)).clrF (F.ETH_STATUS_fec_lock.at n)).presence
  else if was then d.presence
  else if !d.ethCfgOk n then
    ((d.clrF (F.ETH_CTRL_enable.at n)).setF (F.ETH_STATUS_cfg_bad.at n)).ethEvent n F.ETH_EVENT_cfg_bad
  else
    let d := d.commitRwl off
    (if d.on (F.ETH_STATUS_retired.at n) || d.mode == .dormant then d else d.setF (F.ETH_STATUS_running.at n)).presence

/-- ETH_LINK_CHANGE. -/
def Dev.ethLinkChange (d : Dev) (n : Nat) (up : Bool) (rate : Nat) : Dev :=
  if !d.ethRuns n then d
  else
    let fec := up && decide (n < 4) && d.on (F.ETH_CTRL_rs_fec.at n) && d.rd (F.ETH_CTRL_mode.at n) == 0
    let d := (d.flag (F.ETH_STATUS_link_up.at n) up).flag (F.ETH_STATUS_fec_lock.at n) fec
    let d := if up then d.wr (F.ETH_STATUS_rate.at n) rate else d
    ((d.ethEvent n F.ETH_EVENT_link_change).presence).ethFlow

/-! ### MACsec commands (R382) -/

def saUnwrap : Nat := 0x8061
def saSlot : Nat := 0x8062
def saLocked : Nat := 0x8063
def saPort : Nat := 0x8064

/-- Whether a slot is the active transmit slot. -/
def Dev.saActive (d : Dev) (n s : Nat) : Bool := s == d.rd (F.ETH_SEC_STAT_tx_slot.at n) && (d.secTx n).isSome

/-- The installed slots as ETH_SEC_STAT shows them. -/
def Dev.saShow (d : Dev) (n : Nat) : Dev := d.wr (F.ETH_SEC_STAT_installed.at n) (((d.ethP n).sas.map (fun e => 2 ^ e.1)).sum)

/-- The SAK of a record (R382), unwrapped under the import wrap key of the named utility root. -/
def sakOf (r rootKey : List Byte) (rootKid : Nat) (big : Bool) : Option (List Byte) :=
  let wk := kdf rootKey 0x21 (leBytes 1 6 ++ leBytes 1 (b2n big) ++ (r.drop 4).take 4 ++ zeros 2) 0 rootKid 256
  kwUnwrap wk ((r.drop 32).take (if big then 40 else 24))

/-- SA_INSTALL. -/
def Dev.saInstall (d : Dev) (c : Desc) : Dev :=
  d.withFields c [(4, 20), (24, 27)] fun d =>
    let n := wArg c.w 24 1
    let slot := wArg c.w 25 1
    let an := wArg c.w 26 1
    let r := c.data
    let cipher := byteAt r 3
    let big := cipher % 2 == 1
    if wLen c.w != 96 || 9 < slot || 3 < an then d.fail c stBadField
    else if r.length != 96 then d.fail c stHostFault
    else if 4 ≤ n || !d.secOn n || cipher != d.rd (F.ETH_SEC_CTRL_cipher.at n) then d.fail c saPort
    else if !d.unlocked then d.fail c saLocked
    else if leAt r 0 2 != 0x5341 || byteAt r 2 != 1 || leAt r 4 4 == 0 || leAt r 72 24 != 0
      || (cipher < 2 && leAt r 16 16 != 0) || (!big && leAt r 56 16 != 0) then d.fail c stBadField
    else if d.saActive n slot then d.fail c saSlot
    else
      match (d.keyOf (wHandle c.w)).filter (fun e => !e.bad && e.kind == 3) with
      | none => d.fail c saUnwrap
      | some e =>
        match sakOf r e.key e.kid big with
        | none => d.fail c saUnwrap
        | some k =>
          let sa : EthSa := { an := an, pn := leAt r 8 8, ssci := leAt r 16 4, salt := (r.drop 20).take 12, key := k }
          (((d.setSa n slot sa).saShow n).ethFlow).okRes c slot

/-- SA_TX_SWITCH. -/
def Dev.saTxSwitch (d : Dev) (c : Desc) : Dev :=
  d.withFields c [(24, 26)] fun d =>
    let n := wArg c.w 24 1
    let slot := wArg c.w 25 1
    if 1 < slot then d.fail c stBadField
    else if 4 ≤ n || !d.secOn n then d.fail c saPort
    else if (mget? (d.ethP n).sas slot).isNone then d.fail c saSlot
    else (((d.wr (F.ETH_SEC_STAT_tx_slot.at n) slot).clrF (F.ETH_SEC_STAT_tx_held.at n)).ethFlow).okRes c

/-- SA_DELETE. -/
def Dev.saDelete (d : Dev) (c : Desc) : Dev :=
  d.withFields c [(24, 26)] fun d =>
    let n := wArg c.w 24 1
    let slot := wArg c.w 25 1
    if 9 < slot then d.fail c stBadField
    else if 4 ≤ n || !d.secOn n then d.fail c saPort
    else if d.saActive n slot then d.fail c saSlot
    else ((d.modEthP n (fun (p : EthPort) => { p with sas := mdel p.sas slot })).saShow n).okRes c

/-! ### Wake in Dormant (R383) -/

/-- ETH_WAKE_CFG_WRITE. -/
def Dev.ethWakeCfgWrite (d : Dev) (v : Nat) : Dev :=
  let arm := bits v 8 8
  let modeOk (i : Nat) : Bool :=
    let n := 4 + i
    let m := d.rd (F.ETH_CTRL_mode.at n)
    m == 1 || (m == 0 && (!d.on (F.ETH_CTRL_an_en.at n) || d.rd (F.ETH_STATUS_rate.at n) == 2))
  let ok := popcount 8 arm ≤ 2 && (List.range 8).all (fun i => !bit arm i || modeOk i)
  let d := (d.wr F.ETH_WAKE_CFG_link_wake (bits v 16 8)).wr F.ETH_WAKE_CFG_pat_en (bits v 0 4)
  if ok then d.wr F.ETH_WAKE_CFG_arm arm else (d.wr F.ETH_WAKE_CFG_arm 0).setF F.ETH_WAKE_STAT_cfg_bad

/-- Whether a frame matches pattern k. -/
def Dev.wakeMatch (d : Dev) (k : Nat) (l : List Byte) : Bool :=
  bit (d.rd F.ETH_WAKE_CFG_pat_en) k && (List.range 128).all (fun b =>
    !bit (d.rd ((F.ETH_WP_MASK_w.at k).at (b / 32))) (b % 32)
      || (decide (b < l.length) && byteAt l b == byts (d.rd ((F.ETH_WP_PAT_w.at k).at (b / 4))) (b % 4) 1))

/-- What an armed port sees in Dormant: a good frame, or its link coming up. Answers whether it wakes the device. -/
def Dev.wakeSeen (d : Dev) (n : Nat) (frame : Option (List Byte)) : Dev × Bool :=
  let armed := 4 ≤ n && bit (d.rd F.ETH_WAKE_CFG_arm) (n - 4)
  let pats := match frame with
    | none => 0
    | some l => ((List.range 4).map (fun k => 2 ^ k * b2n (d.wakeMatch k l))).sum
  let link := frame.isNone && bit (d.rd F.ETH_WAKE_CFG_link_wake) (n - 4)
  if armed && (pats != 0 || link) then
    ((((d.setF F.ETH_WAKE_STAT_woke).wr F.ETH_WAKE_STAT_cause (if link then 2 else 1)).wr F.ETH_WAKE_STAT_port n).wr
      F.ETH_WAKE_STAT_pattern pats, true)
  else (d, false)

/-! ### Faults (R385) -/

/-- Mark the transmit-queue frames of a port done, wherever one stands first. -/
def Dev.txqGiveUp (d : Dev) (n : Nat) : Dev :=
  foldN 8 (fun q d => foldN (qSlots (d.rd (F.ETH_TXQ_CFG_size.at q))) (fun _ d =>
    match d.txqHead q with
    | none => d
    | some a => if d.memRd (a + 2) 1 = n then d.txqMark q a false else d) d) d

/-- ETH_PORT_RETIRE. -/
def Dev.ethRetire (d : Dev) (n cause : Nat) : Dev :=
  if d.on (F.ETH_STATUS_retired.at n) then d
  else
    let d := ((d.setF (F.ETH_STATUS_retired.at n)).wr (F.ETH_STATUS_retire_cause.at n) cause).clrF (F.ETH_STATUS_running.at n)
    let d := ((d.fifoEmpty (ethFq n 0)).fifoEmpty (ethFq n 1)).txqGiveUp n
    let move (e : Nat × Nat) : Nat × Nat :=
      (e.1, if ceNow e.2 = n && ceAlt e.2 != 0 then setBits e.2 204 1 (b2n (!ceOnAlt e.2)) else e.2)
    let d := { d with eth := { d.eth with concs := d.eth.concs.map move } }
    let moved := (d.ethP n).grams
    let d := d.modEthP n (fun (p : EthPort) => { p with grams := moved.filter (fun g => ceNow (d.conc g.conc) == n), xoff := 0 })
    let d := (moved.filter (fun g => ceNow (d.conc g.conc) != n)).foldl (fun (d : Dev) (g : EthGram) =>
      d.modEthP (ceNow (d.conc g.conc)) (fun (p : EthPort) => { p with grams := p.grams ++ [g] })) d
    let d := ((d.ethEvent n F.ETH_EVENT_retired).retireLog 0x26 3 n cause).presence
    d.ethFlow

/-- ETH_TRANSIENT_FAULT: `fec` is an RS-FEC uncorrectable codeword. -/
def Dev.ethTransientFault (d : Dev) (n : Nat) (fec : Bool) : Dev :=
  let win := zeroAs (d.rd (F.ETH_ERR_CFG_window.at n)) 1 * sNs
  let fs := ((d.ethP n).faults.filter (fun t => d.tick < t + win)) ++ [d.tick]
  let d := d.modEthP n (fun (p : EthPort) => { p with faults := fs })
  let d := if fec then d.bump (F.ETH_CNT_CTL2_fec_uncorr.at n) else d
  let d := (d.ethEvent n F.ETH_EVENT_fault).trouble 0x26 1 4 3 n fs.length
  let thr := d.rd (F.ETH_ERR_CFG_retire_thr.at n)
  if thr != 0 && thr ≤ fs.length then d.ethRetire n 1 else d

/-- ETH_PERMANENT_FAULT: cause 2 PLL lock, 3 buffer errors, 4 self-test. -/
def Dev.ethPermanentFault (d : Dev) (n cause : Nat) : Dev := (d.ethEvent n F.ETH_EVENT_fault).ethRetire n cause

end Sys2Proof.Machine
end

