-- ==== Sys2Proof/Machine/Export.lean ====
section
/-! DEFINITION. Delivery of export records (R63–R70, R173–R178) and the rebuild of the meter table (R118): both read the
archive. -/

namespace Sys2Proof.Machine

/-! ### Export records (R173, R174) -/

/-- The parts of an archive record that stand in it directly (R393). -/
def arRkind (l : List Byte) : Nat := bits (leAt l 16 4) 20 4
def arIndex (l : List Byte) : Nat := leAt l 16 4 % 0x100000
def arVerdict (l : List Byte) : Nat := byteAt l 19
def arPlen (l : List Byte) : Nat := leAt l 44 2
def arPayload (l : List Byte) : List Byte := (l.drop 76).take 48

/-- The 20 B body of an archive record's kind (R174). -/
def exportBody (l : List Byte) : List Byte :=
  let p := arPayload l
  let k := arRkind l
  let node := (l.drop 42).take 2
  let b :=
    if k = 1 then p.take 4 ++ (l.drop 48).take 8 ++ (p.drop 40).take 6 ++ node
    else if k = 2 then p.take 16
    else if k = 3 then leBytes 1 (arPlen l / 8) ++ zeros 1 ++ p.take (min 16 (arPlen l))
    else if k = 4 then p.take 15
    else if k = 5 then p.take 16 ++ node
    else if k = 0 then p.take 17
    else if 6 ≤ k && k ≤ 8 then leBytes 2 (arPlen l) ++ p.take (min 18 (arPlen l))
    else p.take 18
  padTo 20 b

/-- The 64 B export record of an archive record. -/
def exportRecord (l : List Byte) : List Byte :=
  let b := l.take 42 ++ exportBody l
  b ++ leBytes 2 (crc32c 0xFFFFFFFF b)

/-! ### Blocks and buffers (R66, R67, R178) -/

/-- Whether the ring's CQ has room for a completion besides those waiting. -/
def Dev.expRoom (d : Dev) (n : Nat) : Bool :=
  let sz := d.cqSize n
  let used := (d.rd (F.XDI_RP_CQ_TAIL_tail.at n) + sz - (d.pair n).cqHead) % sz
  used + (d.pair n).waiting.length + 1 < sz

/-- Whether a ring works by batch blocks. -/
def Dev.expBatch (d : Dev) (n : Nat) : Bool := d.on (F.XDI_RP_CFG_batch.at n)

/-- The 64 B header of a block (R178). -/
def Dev.blockHead (d : Dev) (b : PostedBuf) (late gap : Bool) : List Byte :=
  let now := d.nowSN
  leBytes 2 0xB10C ++ leBytes 1 1 ++ leBytes 1 (b2n b.replay + 2 * b2n late + 4 * b2n gap) ++ leBytes 4 b.records
    ++ leBytes 8 b.firstSeq ++ leBytes 8 (leAt b.body (b.body.length - 64) 8) ++ leBytes 4 now.1 ++ leBytes 4 now.2
    ++ leBytes 4 (crc32c 0xFFFFFFFF b.body) ++ zeros 28

/-- Close the block a ring fills (R67): its buffer ends with one completion. -/
def Dev.blockClose (d : Dev) (n status : Nat) (late gap : Bool) : Dev :=
  match (d.pair n).bufs with
  | [] => d
  | b :: rest =>
    let d := d.setPair n { d.pair n with bufs := rest }
    d.finish { via := .ring (Fin.ofNat 64 n), w := b.w, data := [] }
      { status := status, seq := b.firstSeq, result := wAddr b.w, result2 := b.records, info := b2n b.replay,
        data := [(wAddr b.w, d.blockHead b late gap ++ b.body)], exp := true, buf := some (b.w, 0) }

/-- Whether a ring holds a partly filled block. -/
def Dev.blockOpen (d : Dev) (n : Nat) : Bool := d.expBatch n && ((d.pair n).bufs.head?).any (fun b => 0 < b.records)

/-- Put a record into the head buffer of a ring (R66, R67). -/
def Dev.expPut (d : Dev) (n s : Nat) (rec' : List Byte) : Dev :=
  match (d.pair n).bufs with
  | [] => d
  | b :: rest =>
    let replay := decide (s ≤ d.xdi.liveAtStart)
    if d.expBatch n then
      let b2 := { b with records := b.records + 1, body := b.body ++ rec', replay := b.replay || replay,
                         firstSeq := if b.records = 0 then s else b.firstSeq,
                         firstTick := if b.records = 0 then d.tick else b.firstTick }
      let d := d.setPair n { d.pair n with bufs := b2 :: rest }
      if wLen b.w / 64 - 1 ≤ b2.records then d.blockClose n 0 false false else d
    else
      let last := decide (wLen b.w ≤ b.filled + 64)
      let addr := wAddr b.w + b.filled
      let info := b2n replay + 2 * b2n last
      if last then
        let d := d.setPair n { d.pair n with bufs := rest }
        d.finish { via := .ring (Fin.ofNat 64 n), w := b.w, data := [] }
          { status := 0, seq := s, result := addr, result2 := 1, info := info, data := [(addr, rec')], exp := true,
            buf := some (b.w, b.filled) }
      else
        let d := d.setPair n { d.pair n with bufs := { b with filled := b.filled + 64 } :: rest }
        d.queueCpl n { seq := s, result := addr, result2 := 1, tag := wTag b.w, status := 0, info := info,
                       irqNow := wIrqNow b.w, data := [(addr, rec')], exp := true, buf := some (b.w, b.filled) }

/-! ### What is due next (R63–R65, R70) -/

/-- Advance NEXT past what has been delivered or reported. -/
def Dev.expAdvanceF : Nat → Dev → Dev
  | 0, d => d
  | fuel + 1, d =>
    let s := d.rd F.XDI_EXP_NEXT_LO_next
    match d.xdi.gapsReported.find? (fun g => g.1 ≤ s && s ≤ g.2) with
    | some g =>
      Dev.expAdvanceF fuel ({ d.wr F.XDI_EXP_NEXT_LO_next (g.2 + 1) with
        xdi := { d.xdi with gapsReported := d.xdi.gapsReported.filter (fun x => x != g) } })
    | none =>
      if d.xdi.ahead.contains s then
        Dev.expAdvanceF fuel ({ d.wr F.XDI_EXP_NEXT_LO_next (s + 1) with
          xdi := { d.xdi with ahead := d.xdi.ahead.filter (fun x => x != s) } })
      else d

def Dev.expAdvance (d : Dev) : Dev := Dev.expAdvanceF (d.xdi.ahead.length + d.xdi.gapsReported.length + 1) d

/-- The last sequence of the run of unobtainable ones that begins at s. -/
def Dev.gapEnd (d : Dev) : Nat → Nat → Nat
  | 0, s => s
  | fuel + 1, s =>
    let live := d.rd F.XDI_EXP_LIVE_LO_live
    if live ≤ s then s
    else if s + 1 < d.rd F.GAV_OLDEST_LO_oldest then Dev.gapEnd d fuel (min live (d.rd F.GAV_OLDEST_LO_oldest - 1))
    else
      match d.archRead (s + 1) with
      | .found _ => s
      | .absent => Dev.gapEnd d fuel (s + 1)
      | .lost => Dev.gapEnd d fuel (s + 1)

/-- What delivery does next. -/
inductive ExpNext where
  | nothing
  | record (n s : Nat) (l : List Byte) (past : Option Nat)
  | gap (first last : Nat)
deriving DecidableEq, Repr

/-- Whether the ring in a position takes something now: a buffer posted and CQ space. -/
def Dev.expTakes (d : Dev) (pos : Nat) : Bool :=
  let n := (d.xdi.kRings[pos]?).getD 0
  d.active n && !(d.pair n).bufs.isEmpty && d.expRoom n

/-- Look upward from s for the first thing due: a record for a ring that takes it, or a gap on ring 0; `blocked` are the ring
positions that wait, `past` the last gap passed. A gap due on a ring 0 that does not take it is still due (its blocks close).
A record that staging no longer holds waits while the archive is not mounted (R64). -/
def Dev.expScan (d : Dev) : Nat → Nat → List Nat → Option Nat → ExpNext
  | 0, _, _, _ => .nothing
  | fuel + 1, s, blocked, past =>
    let k := d.xdi.kRings.length
    if d.rd F.XDI_EXP_LIVE_LO_live < s || k ≤ blocked.length then .nothing
    else
      match d.xdi.gapsReported.find? (fun g => g.1 ≤ s && s ≤ g.2) with
      | some g => Dev.expScan d fuel (g.2 + 1) blocked (some g.2)
      | none =>
        if d.xdi.ahead.contains s then Dev.expScan d fuel (s + 1) blocked past
        else
          match d.archRead s with
          | .found l =>
            let pos := arIndex l % k
            if blocked.contains pos then Dev.expScan d fuel (s + 1) blocked past
            else if d.expTakes pos then .record ((d.xdi.kRings[pos]?).getD 0) s l past
            else Dev.expScan d fuel (s + 1) (pos :: blocked) past
          | _ =>
            if !d.on F.GAV_STATUS_running then .nothing
            else
            let e := d.gapEnd (d.rd F.XDI_EXP_LIVE_LO_live - s + 1) s
            if blocked.contains 0 then Dev.expScan d fuel (e + 1) blocked (some e)
            else if d.expTakes 0 || d.xdi.gap != some (s, e) then .gap s e
            else Dev.expScan d fuel (e + 1) (0 :: blocked) (some e)

/-- Whether export can be delivered at all (R64). -/
def Dev.expOpen (d : Dev) : Bool :=
  d.on F.XDI_EXP_CTRL_started && d.on F.XDI_STATUS_host_present && !d.on F.XDI_STATUS_d3hot

/-- The sequence of the last record in a ring's open block. -/
def Dev.blockLast (d : Dev) (n : Nat) : Nat :=
  ((d.pair n).bufs.head?.map (fun b => leAt b.body (b.body.length - 64) 8)).getD 0

/-- A gap falls due (R67, R70): every partly filled block closes; once ring 0 takes it, its completion is written against the
head EXP_BUF, which stays posted. -/
def Dev.gapDeliver (d : Dev) (first last : Nat) : Dev :=
  let d := if d.xdi.gap = some (first, last) then d
    else d.xdi.kRings.foldl (fun d n => if d.blockOpen n then d.blockClose n stOkPartial false true else d)
      { d with xdi := { d.xdi with gap := some (first, last) } }
  let n := (d.xdi.kRings.head?).getD 0
  match (d.pair n).bufs with
  | [] => d
  | b :: _ =>
    if d.expTakes 0 then
      let d := d.queueCpl n { seq := first, result := last, result2 := 0, tag := wTag b.w, status := stBacklogGap, info := 0,
                              irqNow := wIrqNow b.w, exp := true }
      ({ d with xdi := { d.xdi with gap := none, gapsReported := d.xdi.gapsReported ++ [(first, last)] } }).expAdvance
    else d

/-- Whether a record not delivered yet is for the ring in a position of the K. -/
def Dev.expWants (d : Dev) (pos : Nat) : Bool :=
  let next := d.rd F.XDI_EXP_NEXT_LO_next
  (List.range (d.rd F.XDI_EXP_LIVE_LO_live + 1 - next)).any fun k =>
    let s := next + k
    !d.xdi.ahead.contains s && !d.xdi.gapsReported.any (fun g => g.1 ≤ s && s ≤ g.2)
      && (match d.archRead s with
        | .found l => arIndex l % d.xdi.kRings.length == pos
        | _ => false)

/-- A full CQ that holds back the completion of a record shows in cq_stall (R60, R64). -/
def Dev.expStalls (d : Dev) : Dev :=
  foldN d.xdi.kRings.length (fun pos (d : Dev) =>
    let n := (d.xdi.kRings[pos]?).getD 0
    if d.active n && d.cqFull n && !(d.pair n).bufs.isEmpty && d.expWants pos then d.setF (F.XDI_RP_STAT_cq_stall.at n) else d) d

/-- EXPORT_RECORD_DELIVER: the lowest sequence that a ring of the K takes, or a gap. -/
def Dev.exportRecordDeliver (d : Dev) : Dev :=
  if !d.expOpen then d
  else
    let next := d.rd F.XDI_EXP_NEXT_LO_next
    let d := d.expStalls
    match d.expScan (2 * (d.rd F.XDI_EXP_LIVE_LO_live + 1 - next) + 1) next [] none with
    | .nothing => d
    | .gap first last => d.gapDeliver first last
    | .record n s l past =>
      let d := if d.blockOpen n && past.any (fun g => d.blockLast n < g) then d.blockClose n stOkPartial false true else d
      if (d.pair n).bufs.isEmpty then d
      else
        let d := d.expPut n s (exportRecord l)
        ({ d with xdi := { d.xdi with ahead := d.xdi.ahead ++ [s] } }).expAdvance

/-- BATCH_TIMEOUT (R67): the block of a ring of the K has waited batch_to since its first record. -/
def Dev.batchTimeout (d : Dev) (n : Nat) : Dev :=
  if d.on F.XDI_EXP_CTRL_started && d.xdi.kRings.contains n && d.blockOpen n then d.blockClose n stOkPartial true false else d

/-- COMMIT_JOURNAL (R68): the value joins the journal as SYSVAL 0x02 (R402). -/
def Dev.commitJournal (d : Dev) : Dev :=
  if d.xdi.commitDirty then
    { d with xdi := { d.xdi with commitDirty := false },
             gav := { d.gav with jpend := d.gav.jpend ++ [JEnt.sysval 2 (d.rd F.XDI_EXP_COMMIT_LO_commit)] } }
  else d

/-! ### The rebuild (R118) -/

/-- The frame an archive record keeps, as the record update reads it: its payload in plain with its extension units. -/
def Dev.arFrame (d : Dev) (l : List Byte) : Frame :=
  let n := arPlen l
  let body := if bit (byteAt l 47) 0 then (arPayload l).take 40 ++ (d.archExt l).getD [] else arPayload l
  { ver := 1, ftype := arRkind l, euiForm := true, ackReq := false, suite := 0, idx := arIndex l, eui := leAt l 8 8,
    keyGen := leAt l 20 2, fcnt := leAt l 24 4, ftime := leAt l 28 4, plen := n, hdr := [], body := body.take n, tag := [] }

/-- A frame record applied to its meter, as its commit applied it (R139, R140, R144, R168). -/
def Dev.arApplyFrame (d : Dev) (r : Nat) (l : List Byte) : Nat :=
  let f := d.arFrame l
  let xf := leAt l 22 2
  let v := arVerdict l
  let pre := mkPrefix 0 (leAt l 60 8) (leAt l 56 4) 0 (byteAt l 46) 0 0 0
  let same := rg r R.keyGen == f.keyGen
  let f0 := if same then rg r R.frameCounter else 0
  let b0 := if same then rg r R.replay else 0
  let (fc, b) := match replayTest f0 b0 f.fcnt with
    | .accept _ fc b => (fc, b)
    | _ => (f0, b0)
  let delta := frameDelta f pre r (leAt l 32 4) (d.rd F.MSR_CTRL_dwn_cap) (bit xf 5)
  let due := (rg r R.rekeyDue == 1 && same) || 0xFFFFFF00 ≤ f.fcnt
  let r := rsAll r (delta ++ [(448, 32, fc), (512, 64, b), (416, 16, f.keyGen), (432, 1, b2n due), (480, 16, 0),
    (1920, 64, leAt l 0 8)])
  let r := if f.ftype = 0 then rs r R.dwnVer (byteAt l 92) else r
  if v % 16 != 1 && v / 16 != 0xD && v != 0xE2 then rs r R.ruleFail (satAdd 0xFFFF (rg r R.ruleFail) 1) else r

/-- A state-change record applied to its meter (R109, R174). A record freed, made by a join or admitted is whole anew (R545): the
archive names its EUI-64, generation, attachment and times, and what it does not name is 0. -/
def arApplyState (i r : Nat) (l : List Byte) : Nat :=
  let p := arPayload l
  let frm := byteAt p 0
  let tgt := byteAt p 1
  let admits := tgt == stCommissioning
  let new := rsAll (blankRec i tgt) [(0, 64, leAt l 8 8), (87, 1, rg r R.pinned), (416, 16, leAt l 20 2),
    (1440, 32, if admits then leAt p 12 4 else 0), (1536, 384, if admits && frm == stFree then 0 else rg r R.fwScratch),
    (1984, 32, rg r R.recGen)]
  let base := if tgt = stFree then rs (rs (blankRec i stFree) R.fwScratch (rg r R.fwScratch)) R.recGen (rg r R.recGen)
    else if frm = stFree || admits then new
    else r
  rsAll base [(84, 3, tgt), (96, 8, byteAt p 2), (128, 64, if tgt = stFree then 0 else leAt p 4 8), (1472, 32, leAt p 12 4),
    (1920, 64, leAt l 0 8)]

/-- Replay one archived record into a table, if its sequence exceeds its meter's last_seq: a write of the record, which raises
rec_gen (R103). A record corrupt in the checkpoint stays so until the one that freed it (R104). -/
def Dev.arReplay (d : Dev) (s : Nat) (t : Map Nat) : Map Nat :=
  match d.archRead s with
  | .found l =>
    let i := arIndex l
    let r := (mget? t i).getD (freeRec d.msr.rebuilt i)
    let freed := arRkind l == 0xF && byteAt (arPayload l) 1 == stFree && byteAt (arPayload l) 2 == 0xF
    if !recSound i r && !freed || s ≤ rg r R.lastSeq then t
    else
      let r := if arRkind l = 0xF then arApplyState i r l else d.arApplyFrame r l
      mput t i (recSeal (rs r R.recGen (rg r R.recGen + 1)))
  | _ => t

/-- MSR_REBUILD_DONE: `copy0` and `copy1` say which checkpoint copies are readable; a copy never written is an empty table. Every
sound record whose reason was 0x00 takes 0x0E, those never written included; a corrupt one stays corrupt (R104). The identity table and
the free list follow from the records. -/
def Dev.msrRebuildDone (d : Dev) (copy0 copy1 : Bool) : Dev :=
  if !d.on F.MSR_STATUS_rebuilding then d
  else
    let ok (c : Nat) : Bool := if c = 0 then copy0 else copy1
    let pick := if ok d.msr.newer then some d.msr.newer else if ok (1 - d.msr.newer) then some (1 - d.msr.newer) else none
    let d := d.clrF F.MSR_STATUS_rebuilding
    match pick with
    | none => (d.setF F.MSR_STATUS_rebuild_fail).clrF F.MSR_CTRL_enable
    | some c =>
      let k := mgetD d.msr.copies c { seq := 0, recs := [] }
      let last := d.rd F.GAV_FLUSHED_LO_flushed
      let lo := max k.seq (d.rd F.GAV_OLDEST_LO_oldest - 1)
      let t : Map Nat := foldN (last - lo) (fun j (t : Map Nat) => d.arReplay (lo + 1 + j) t) k.recs
      let t := t.map (fun (e : Nat × Nat) =>
        (e.1, if rg e.2 R.reason = 0 && recSound e.1 e.2 then recSeal (rsAll e.2 [(96, 8, 0xE), (1984, 32, rg e.2 R.recGen + 1)])
          else e.2))
      let used := t.filter (fun (e : Nat × Nat) => rg e.2 R.state != stFree)
      let m := { d.msr with dram := t, cache := [], tableAt := some d.msrBase, rebuilt := true, virgin := 0, skip := used.map (fun (e : Nat × Nat) => e.1), freed := [] }
      let d := ({ d with msr := Msr.settle m.skip.length m }).memGone d.idtBase (d.idtBase + 2 ^ 25)
      let d := used.foldl (fun (d : Dev) (e : Nat × Nat) => (d.idtInsert (rg e.2 R.eui) e.1).1) d
      (d.setF F.MSR_STATUS_ready).msrPinned.msrRecount

end Sys2Proof.Machine
end

