-- ==== Sys2Proof/Machine/Upd.lean ====
section
/-! DEFINITION. UPD (chapter 16): boot records, bundles and their checks, the settings store, staging sessions, provisional
images. The starts themselves stand in Boot.lean. -/

namespace Sys2Proof.Machine

/-! ### Boot records (R452) -/

/-- a is later than b in serial-number arithmetic. -/
def serLater (a b : Nat) : Bool := let x := serSub 32 a b; 0 < x && x < 2 ^ 31

/-- The valid record and the location of its copy. -/
def Dev.bootRecAt (d : Dev) : Nat × BootRec :=
  match mget? d.upd.recs 0, mget? d.upd.recs 1 with
  | some a, some b => if serLater b.seq a.seq then (1, b) else (0, a)
  | none, some b => (1, b)
  | some a, none => (0, a)
  | none, none => (1, {})

def Dev.bootRec (d : Dev) : BootRec := d.bootRecAt.2

/-- Write a record: seq + 1, into the location of the other copy. -/
def Dev.bootRecPut (d : Dev) (r : BootRec) : Dev :=
  let (at', cur) := d.bootRecAt
  { d with upd := { d.upd with recs := mput d.upd.recs (1 - at') { r with seq := (cur.seq + 1) % 2 ^ 32 } } }

/-- Whether the boot record names a provisional slot. -/
def Dev.provisional (d : Dev) : Bool := d.bootRec.next != 0xFF

/-! ### Bundles (R453–R457) -/

/-- The largest bundle. -/
def bundleMax : Nat := 124 * 0x100000

/-- Blocks of the header region, and data blocks, as the header says. -/
def bdHdr (b : List Byte) : Nat := leAt b 36 4
def bdN (b : List Byte) : Nat := leAt b 32 4

/-- Component k's entry of the table. -/
def bdComp (b : List Byte) (k : Nat) : List Byte := (b.drop (256 + 32 * k)).take 32

/-- Entry i of the block table: tag and CRC. -/
def bdTag (b : List Byte) (i : Nat) : List Byte := (b.drop (768 + 20 * i)).take 16
def bdCrc (b : List Byte) (i : Nat) : Nat := leAt b (768 + 20 * i + 16) 4

/-- Data block i. -/
def bdData (b : List Byte) (i : Nat) : List Byte := (b.drop (4096 * (bdHdr b + i))).take 4096

/-- The most plaintext a component type may hold (R456). -/
def compMax : Nat → Nat
  | 1 => 196608 | 2 => 96 * 0x100000 | 3 => 75840 | 4 => 0x100000 | 5 => 0x100000 | 6 => 0x80000 | 7 => 0x80000
  | 8 => 16 * 0x100000 | _ => 0

/-- Whether every byte of a range is 0. -/
def allZero (l : List Byte) : Bool := l.all (fun x => x == 0)

/-- Whether a component's entry is in range. -/
def compOk (b : List Byte) (e : List Byte) : Bool :=
  let ty := byteAt e 0
  let first := leAt e 4 4
  let count := leAt e 8 4
  let clen := leAt e 12 4
  let load := leAt e 16 8
  allZero ((e.drop 1).take 3) && first + count ≤ bdN b && clen ≤ 4096 * count && 4096 * count < clen + 4096
    && clen ≤ compMax ty
    && (if ty = 2 || ty = 8 then (inHall load clen || dramBase ≤ load) && leAt e 24 4 ≤ clen else load == 0)

/-- Whether the fields of R453 are in range, part and min_step admit the die, and the key slots are not revoked. -/
def bundleFields (b : List Byte) (length id stepping revoked : Nat) : Bool :=
  let n := bdN b
  let h := bdHdr b
  let k := byteAt b 23
  let cs := (List.range k).map (bdComp b)
  leAt b 0 2 == 0x4942 && byteAt b 2 == 1 && byteAt b 3 == 0 && leAt b 4 4 == length && length % 4096 == 0
    && length ≤ bundleMax && length == 4096 * (h + n) && leAt b 8 8 == id && byteAt b 20 ≤ 128 && byteAt b 21 ≤ 1
    && byteAt b 22 ≤ 1 && 8 ≤ k && k ≤ 16 && leAt b 26 2 ≤ leAt b 24 2 && leAt b 28 2 == 0x9640 && byteAt b 30 ≤ stepping
    && byteAt b 31 == 0 && h == (864 + 20 * n + 4095) / 4096 && allZero ((b.drop 176).take 80)
    && allZero ((b.drop (256 + 32 * k)).take (32 * (16 - k)))
    && allZero ((b.drop (768 + 20 * n)).take (4096 * h - 96 - (768 + 20 * n)))
    && (List.range 8).all (fun t => (cs.filter (fun e => byteAt e 0 == t + 1)).length == 1)
    && cs.all (fun e => 1 ≤ byteAt e 0 && byteAt e 0 ≤ 8 && compOk b e)
    && cs.Pairwise (fun x y => leAt x 4 4 + leAt x 8 4 ≤ leAt y 4 4 ∨ leAt y 4 4 + leAt y 8 4 ≤ leAt x 4 4)
    && !bit revoked (byteAt b 22) && !bit revoked (2 + byteAt b 21)

/-- Whether the signature verifies under the fused public key (R455). -/
def bundleSigned (b : List Byte) : Bool :=
  let h := 4096 * bdHdr b
  let pub := (b.drop 80).take 96
  let fused := Config.pubKeyHash (byteAt b 21)
  beNat (sha384 pub) == fused.toNat
    && ecdsaVerify pub (sha384 (b.take (h - 96) ++ b.drop h)) ((b.drop (h - 96)).take 96)

/-- The content key (R454). -/
def bundleKey (b : List Byte) : Option (List Byte) :=
  kwUnwrap (beBytes 32 (Config.imageKey (byteAt b 22)).toNat) ((b.drop 40).take 40)

/-- The plaintext of data block i of a component type. -/
def blockPlain (b key : List Byte) (ty i : Nat) : Option (List Byte) :=
  let id := (b.drop 8).take 8
  gcmOpen key (id ++ leBytes 4 i) (id ++ leBytes 4 i ++ leBytes 1 ty ++ zeros 3) (bdData b i ++ bdTag b i) 16

/-- The plaintext of a component: none where a tag fails. -/
def compPlain (b key : List Byte) (e : List Byte) : Option (List Byte) :=
  (List.range (leAt e 8 4)).foldl (fun (a : Option (List Byte)) j =>
    a.bind (fun x => (blockPlain b key (byteAt e 0) (leAt e 4 4 + j)).map (x ++ ·))) (some [])

/-- Whether every block's CRC and tag and every component's pcrc are good. -/
def bundleSound (b : List Byte) : Bool :=
  (List.range (bdN b)).all (fun i => crc32c 0xFFFFFFFF (bdData b i) == bdCrc b i)
    && (match bundleKey b with
      | none => false
      | some key => (List.range (byteAt b 23)).all (fun k =>
          let e := bdComp b k
          match compPlain b key e with
          | none => false
          | some p => crc32c 0xFFFFFFFF (p.take (leAt e 12 4)) == leAt e 28 4 && allZero (p.drop (leAt e 12 4))))

/-- What a slot holds of a bundle. -/
def slotOf (b : List Byte) : SlotImg :=
  { ver := leAt b 16 4, rb := byteAt b 20, sver := leAt b 24 2, sverMin := leAt b 26 2, keySlot := byteAt b 22,
    sigSlot := byteAt b 21, bytes := b }

/-- The table entry and plaintext of a slot's component of a type; none where the slot holds none that checks. -/
def slotEnt (img : SlotImg) (ty : Nat) : Option (List Byte × List Byte) :=
  let b := img.bytes
  match ((List.range (byteAt b 23)).map (bdComp b)).find? (fun e => byteAt e 0 == ty), bundleKey b with
  | some e, some key => (compPlain b key e).map (fun p => (e, p.take (leAt e 12 4)))
  | _, _ => none
def slotComp (img : SlotImg) (ty : Nat) : Option (List Byte) := (slotEnt img ty).map (·.2)

/-! ### The settings store (R460) -/

/-- The location of the copy in force: the provisional copy of the provisional slot while it runs, otherwise the committed
copy with the higher gen. -/
def Dev.setLoc (d : Dev) : Nat :=
  let prov (c : SetCopy) : Bool := d.on F.UPD_STATUS_provisional && !c.committed && c.owner == d.rd F.UPD_STATUS_slot
  match mget? d.upd.stores 0, mget? d.upd.stores 1 with
  | some a, some b =>
    if prov b then 1 else if prov a then 0
    else if b.committed && (!a.committed || serLater b.gen a.gen) then 1 else 0
  | none, some _ => 1
  | _, none => 0

/-- The copy in force. -/
def Dev.setCopy (d : Dev) : SetCopy :=
  (mget? d.upd.stores d.setLoc).getD { sver := d.rd F.UPD_STATUS_sver, gen := 0, committed := true, owner := 0 }

/-- Whether the image that runs reads the store's format (R465). -/
def Dev.storeReadable (d : Dev) : Bool :=
  let c := d.setCopy
  (mget? d.upd.slots (d.rd F.UPD_STATUS_slot)).any (fun img => img.sverMin ≤ c.sver && c.sver ≤ img.sver)

/-- A table that the store in force names, as the NAND system region holds it (R460). -/
def Dev.savedTable (d : Dev) (id : Nat) : Option Tab :=
  if d.storeReadable then (d.setCopy.items.find? (fun i => i.id == id)).bind (fun i => mget? d.upd.tables (leNat i.data)) else none

/-- Put an item in place of one of its id; an item of no bytes deletes. Items stand in id order. -/
def SetCopy.put (c : SetCopy) (i : SetItem) : SetCopy :=
  let l := c.items.filter (fun x => x.id != i.id)
  let l := if i.data.isEmpty then l else l.filter (fun x => x.id < i.id) ++ [i] ++ l.filter (fun x => i.id < x.id)
  { c with items := l }

/-- Write an item: a whole new copy with gen + 1, in the location not in force; a provisional copy is rewritten in place. -/
def Dev.setWrite (d : Dev) (i : SetItem) : Dev :=
  let c := d.setCopy
  let c2 := { c.put i with gen := (c.gen + 1) % 2 ^ 32 }
  let loc := d.setLoc
  if d.on F.UPD_STATUS_provisional then
    let (l, c3) := if c.committed then (1 - loc, { c2 with committed := false, owner := d.rd F.UPD_STATUS_slot }) else (loc, c2)
    { d with upd := { d.upd with stores := mput d.upd.stores l c3 } }
  else { d with upd := { d.upd with stores := mput d.upd.stores (1 - loc) { c2 with committed := true } } }

/-- An item's bytes (R460), as the settings store and the SETTINGS message carry them. -/
def itemBytes (i : SetItem) : List Byte :=
  let b := leBytes 2 i.id ++ leBytes 2 i.data.length ++ leBytes 1 i.iver ++ leBytes 1 i.iflags ++ zeros 2
    ++ padTo ((i.data.length + 3) / 4 * 4) i.data
  b ++ leBytes 4 (crc32c 0xFFFFFFFF b)

/-- Read an item's bytes; none where a field or the CRC is bad. -/
def itemOf (l : List Byte) : Option SetItem :=
  let n := leAt l 2 2
  let p := 8 + (n + 3) / 4 * 4
  if n ≤ 16384 && l.length == p + 4 && byteAt l 5 ≤ 1 && leAt l 6 2 == 0 && leAt l p 4 == crc32c 0xFFFFFFFF (l.take p)
  then some { id := leAt l 0 2, iver := byteAt l 4, iflags := byteAt l 5, data := (l.drop 8).take n } else none

/-- The ids UPD_SET_PUT takes. -/
def itemIdOk (id : Nat) : Bool :=
  (1 ≤ id && id ≤ 0xFFF) || (0x1000 ≤ id && id ≤ 0x10FF) || (0x2000 ≤ id && id ≤ 0x2FFF)

/-! ### Sessions (R461–R463) -/

def updSession : Nat := 0x8091
def updOrder : Nat := 0x8092
def updCheck : Nat := 0x8093
def updSignature : Nat := 0x8094
def updRollback : Nat := 0x8095
def updFormat : Nat := 0x8096
def updProvisional : Nat := 0x8097
def updMode : Nat := 0x8098
def updTooBig : Nat := 0x8099
def settingsUnreadable : Nat := 0x809A

/-- The master a descriptor came from (R39): the host for a ring. -/
def descMaster (c : Desc) : Nat :=
  match c.via with
  | .ring _ => 0
  | .mailbox _ m => m.toNat

/-- The source of a session by its opener (R461). -/
def descSource (c : Desc) : Nat :=
  match c.via with
  | .ring _ => 0
  | .mailbox _ m => if m = 0x3F then 2 else 1

/-- The internal address of the staging buffer. -/
def Dev.updArea (d : Dev) : Nat := d.rd F.UPD_AREA_BASE_HI_base_hi * 2 ^ 32 + d.rd F.UPD_AREA_BASE_LO_base_lo * 2 ^ 30

/-- The slot not in force. -/
def Dev.spareSlot (d : Dev) : Nat := 1 - d.bootRec.active

/-- The session's lease in seconds. -/
def Dev.updLeaseS (d : Dev) : Nat := zeroAs (d.rd F.UPD_CTRL_lease_s) 30

/-- Renew the lease. -/
def Dev.updRenew (d : Dev) : Dev :=
  ({ d with upd := { d.upd with leaseAt := some (d.tick + d.updLeaseS * sNs) } }).wr F.UPD_SESSION_lease_left d.updLeaseS

/-- The session ends; its slot's first sector is erased, and source 465 pends (R462). -/
def Dev.updSessionEnd (d : Dev) (invalid : Bool) : Dev :=
  if !d.on F.UPD_SESSION_open then d
  else
    let slots := if invalid then mdel d.upd.slots d.spareSlot else d.upd.slots
    let d := { d with upd := { d.upd with slots := slots, got := [], verified := false, leaseAt := none, length := 0,
                                          bundleId := 0,
                                          ops := d.upd.ops.filter (fun o => match o with
                                            | .slot _ _ _ => !invalid
                                            | _ => true) } }
    let d := ((((d.clrF F.UPD_SESSION_open).wr F.UPD_SESSION_source 0).wr F.UPD_SESSION_master 0).wr
      F.UPD_SESSION_lease_left 0).wr F.UPD_SESSION_id 0
    if invalid then d.raise 465 else d

/-- BUSY, naming the holder. -/
def Dev.updBusy (d : Dev) (c : Desc) : Dev :=
  let left := match d.upd.leaseAt with
    | some t => (t - d.tick) / msNs
    | none => d.updLeaseS * 1000
  d.finish c { status := stBusy, result := d.rd F.UPD_SESSION_source + d.rd F.UPD_SESSION_master * 2 ^ 8 + left * 2 ^ 32,
               result2 := d.upd.bundleId }

/-- Run a session's opcode: a session open, its holder, its id; the descriptor renews the lease. -/
def Dev.updIn (d : Dev) (c : Desc) (k : Dev → Dev) : Dev :=
  if !d.on F.UPD_SESSION_open then d.fail c updSession
  else if (descMaster c) != d.rd F.UPD_SESSION_master || (descSource c) != d.rd F.UPD_SESSION_source then d.updBusy c
  else if wHandle c.w != d.rd F.UPD_SESSION_id then d.fail c updSession
  else k d.updRenew

/-- An activation's boot record is still to be programmed. -/
def Dev.activating (d : Dev) : Bool :=
  d.upd.ops.any (fun o => match o with
    | .record _ (.activate _) _ => true
    | _ => false)

/-- UPD_OPEN. -/
def Dev.updOpen (d : Dev) (c : Desc) : Dev :=
  d.withFields c [(24, 36)] fun d =>
    if d.on F.UPD_SESSION_open then d.updBusy c
    else if d.provisional || d.activating then d.fail c updProvisional
    else if bundleMax < wArg c.w 24 4 then d.fail c updTooBig
    else
      let id := d.upd.nextId
      let d := { d with upd := { d.upd with length := wArg c.w 24 4, bundleId := wArg c.w 28 8, got := [], verified := false,
                                            nextId := if id = 0xFFFF then 1 else id + 1 } }
      let d := (((d.setF F.UPD_SESSION_open).wr F.UPD_SESSION_source (descSource c)).wr F.UPD_SESSION_master (descMaster c)).wr
        F.UPD_SESSION_id id
      d.updRenew.okRes c id

/-- The bundle as staged. -/
def Dev.staged (d : Dev) : List Byte := d.mem.readBytes d.updArea d.upd.length

/-- Whether the whole header region is staged, given the blocks held. -/
def hdrWhole (hdr : Nat) (got : List Nat) : Bool := got.contains 0 && (List.range hdr).all (fun k => got.contains k)

/-- Take the blocks of a UPD_DATA in order, up to one that is refused (R463) or that the buffer cannot take (R38). -/
def Dev.updBlocks (d : Dev) : Nat → List (List Byte) → Dev × Nat
  | _, [] => (d, 0)
  | k, b :: rest =>
    let hdr := leAt (d.mem.readBytes (d.updArea + 36) 4) 0 4
    let whole := hdrWhole hdr d.upd.got
    let isHdr := k = 0 || (d.upd.got.contains 0 && k < hdr)
    if !isHdr && !whole then (d, updOrder)
    else if !isHdr && crc32c 0xFFFFFFFF b != leNat (d.mem.readBytes (d.updArea + 768 + 20 * (k - hdr) + 16) 4) then (d, updCheck)
    else
      let (d, written) := d.engWrite minuetId (d.updArea + 4096 * k) b
      if !written then (d, stHostFault) else
      Dev.updBlocks { d with upd := { d.upd with got := if d.upd.got.contains k then d.upd.got else d.upd.got ++ [k],
                                                 verified := false } } (k + 1) rest

/-- UPD_DATA. -/
def Dev.updData (d : Dev) (c : Desc) : Dev :=
  d.withFields c [(4, 20), (24, 28)] fun d => d.updIn c fun d =>
    let off := wArg c.w 24 4
    let len := wLen c.w
    if off % 4096 != 0 || len % 4096 != 0 || len = 0 || 0x100000 < len then d.fail c stBadField
    else if d.upd.length < off + len then d.fail c updOrder
    else if c.data.length != len then d.fail c stHostFault
    else
      let (d, st) := d.updBlocks (off / 4096) (chunks 4096 c.data)
      d.fail c st

/-- UPD_VERIFY: the bundle is checked in DRAM, then programmed into the slot and its backup; the lease does not run meanwhile. -/
def Dev.updVerify (d : Dev) (c : Desc) : Dev :=
  d.withFields c [(4, 8)] fun d => d.updIn c fun d =>
    let b := d.staged
    if (d.upd.ops.any (fun o => match o with
      | .slot _ _ _ => true
      | _ => false)) then d.updBusy c
    else if d.upd.got.length * 4096 != d.upd.length || d.upd.length = 0 then d.fail c updCheck
    else if !bundleFields b d.upd.length d.upd.bundleId (d.rd F.SYS_ID_stepping) d.upd.revoked then d.fail c updFormat
    else if !bundleSigned b then d.fail c updSignature
    else if !bundleSound b then d.fail c updCheck
    else if byteAt b 20 < d.upd.fuses then d.fail c updRollback
    else
      { d with upd := { d.upd with slots := mdel d.upd.slots d.spareSlot, verified := false, leaseAt := none,
                                   ops := d.upd.ops ++ [.slot c d.spareSlot (slotOf b)] } }

/-- UPD_ACTIVATE. -/
def Dev.updActivate (d : Dev) (c : Desc) : Dev :=
  d.withFields c [(4, 8), (24, 29)] fun d => d.updIn c fun d =>
    let force := wArg c.w 28 1
    if wArg c.w 24 4 = 0 || 1 < force then d.fail c stBadField
    else if d.mode == .storm && force = 0 then d.fail c updMode
    else if !d.upd.verified then d.fail c updOrder
    else
      let s := d.spareSlot
      let img := (mget? d.upd.slots s).getD { ver := 0, rb := 0, sver := 0, sverMin := 0 }
      let r := { d.bootRec with next := s, tries := 3, nextVer := img.ver, nextRb := img.rb, bflags := d.bootRec.bflags % 2 }
      let d := d.updSessionEnd false
      { d with upd := { d.upd with ops := d.upd.ops ++ [.record r (.activate (force = 1)) (some c)] } }

/-- UPD_CLOSE. -/
def Dev.updClose (d : Dev) (c : Desc) : Dev :=
  d.withFields c [(4, 8)] fun d => d.updIn c fun d => (d.updSessionEnd true).okRes c

/-! ### Provisional images (R464, R465) -/

/-- Opcodes ROM Recovery does not serve (R459). -/
def Dev.updServed (d : Dev) (c : Desc) (k : Dev → Dev) : Dev :=
  if d.romServes then d.fail c updMode else k d

/-- Begin the acceptance: the boot record first. -/
def Dev.acceptStart (d : Dev) (c : Option Desc) : Dev :=
  let r := d.bootRec
  let r2 := { r with active := r.next, next := 0xFF, tries := 0, activeVer := r.nextVer, activeRb := r.nextRb, nextVer := 0, nextRb := 0 }
  { d with upd := { d.upd with ops := d.upd.ops ++ [.record r2 .accept c] } }

/-- UPD_ACCEPT. -/
def Dev.updAccept (d : Dev) (c : Desc) : Dev :=
  d.withFields c [] fun d => d.updServed c fun d =>
    if d.on F.UPD_STATUS_provisional && d.provisional && !d.upd.hold then d.acceptStart (some c) else d.fail c updMode

/-- UPD_REVERT. -/
def Dev.updRevert (d : Dev) (c : Desc) : Dev :=
  d.withFields c [] fun d => d.updServed c fun d =>
    if d.provisional then
      let r := { d.bootRec with next := 0xFF, tries := 0, lastCause := 4, bflags := d.bootRec.bflags ||| 1 }
      { d with upd := { d.upd with ops := d.upd.ops ++ [.record r .revert (some c)] } }
    else d.fail c updMode

/-- UPD_ACCEPT_DEFAULTS. -/
def Dev.updAcceptDefaults (d : Dev) (c : Desc) : Dev :=
  d.withFields c [] fun d => d.updServed c fun d =>
    if d.upd.hold then
      let r := { d.bootRec with bflags := d.bootRec.bflags ||| 2 }
      { d with upd := { d.upd with ops := d.upd.ops ++ [.record r .defaults (some c)] } }
    else d.fail c updMode

/-- UPD_STATUS. -/
def Dev.updStatus (d : Dev) (c : Desc) : Dev :=
  d.withFields c [] fun d =>
    let r := d.bootRec
    d.okRes c (d.rd F.UPD_STATUS_boot_result + d.upd.fuses * 16 + d.rd F.UPD_STATUS_provisional * 4096
      + d.rd F.UPD_SESSION_open * 8192) (r.activeVer + r.nextVer * 2 ^ 32)

/-- UPD_SET_PUT. A copy fills its 1 MiB location at most (R451). -/
def Dev.updSetPut (d : Dev) (c : Desc) : Dev :=
  d.withFields c [(8, 20), (24, 28)] fun d => d.updServed c fun d =>
    let i : SetItem := { id := wArg c.w 24 2, iver := wArg c.w 26 1, iflags := wArg c.w 27 1, data := c.data }
    if !itemIdOk i.id || 1 < i.iflags || 16384 < wLen c.w then d.fail c stBadField
    else if d.upd.hold then d.fail c settingsUnreadable
    else if c.data.length != wLen c.w then d.fail c stHostFault
    else if 0x100000 < 32 + ((d.setCopy.put i).items.map (fun x => (itemBytes x).length)).sum then d.fail c stNoResource
    else { d with upd := { d.upd with ops := d.upd.ops ++ [.item i true (some c) 0] } }

/-- UPD_SET_GET: an absent item has no bytes. -/
def Dev.updSetGet (d : Dev) (c : Desc) : Dev :=
  d.withFields c [(8, 20), (24, 26)] fun d => d.updServed c fun d =>
    if d.upd.hold then d.fail c settingsUnreadable
    else
      let data := ((d.setCopy.items.find? (fun i => i.id == wArg c.w 24 2)).map (·.data)).getD []
      d.finish c { status := 0, result := data.length, data := [(wAddr c.w, data.take (wLen c.w))] }

/-- UPD_LEASE_EXPIRY (R462): the lease does not run while a descriptor of the session is in progress. -/
def Dev.updLeaseExpiry (d : Dev) : Dev := if d.upd.leaseAt.isSome then d.updSessionEnd true else d

/-- UPD_AUTO_ACCEPT (R464). -/
def Dev.updAutoAccept (d : Dev) : Dev :=
  if d.on F.UPD_STATUS_provisional && d.provisional && !d.upd.hold && d.rd F.UPD_CTRL_accept_s != 0 && d.mode.serving
  then d.acceptStart none else d

/-- SETTINGS_REVERT_HOLD (R465): Minuet reverts with cause 2 and restarts. -/
def Dev.settingsRevertHold (d : Dev) : Dev :=
  if d.upd.hold then
    let r := { d.bootRec with next := 0xFF, tries := 0, lastCause := 2, bflags := d.bootRec.bflags ||| 1 }
    { d with upd := { d.upd with hold := false, ops := d.upd.ops ++ [.record r .revert none] } }
  else d

/-- Complete a descriptor that may be absent. -/
def Dev.okOpt (d : Dev) (c : Option Desc) (res : Nat := 0) : Dev := (c.map (fun x => d.okRes x res)).getD d

/-- Blow fuses up to an index (R457). -/
def Dev.fuseBlow (d : Dev) (rb : Nat) : Dev :=
  let f := max d.upd.fuses rb
  ({ d with upd := { d.upd with fuses := f } }).wr F.UPD_FUSE_f f

/-- The persisted item goes to the standby, unless unit-local (R438). -/
def Dev.itemMirror (d : Dev) (i : SetItem) : Dev := if i.iflags = 0 then d.eplMirror 0xC (itemBytes i) else d

/-- A provisional image goes on with an empty provisional copy at its sver (R465). -/
def Dev.defaultsTake (d : Dev) : Dev :=
  let slot := d.rd F.UPD_STATUS_slot
  let c := d.setCopy
  let copy : SetCopy := { sver := ((mget? d.upd.slots slot).map (·.sver)).getD 0, gen := (c.gen + 1) % 2 ^ 32, committed := false,
                          owner := slot }
  let loc := if c.committed then 1 - d.setLoc else d.setLoc
  let d := { d with upd := { d.upd with hold := false, stores := mput d.upd.stores loc copy } }
  (d.wr F.UPD_STATUS_sver copy.sver).wr F.UPD_STATUS_boot_result 1

/-- What a finished program does. -/
def Dev.qspiDone (d : Dev) (o : QspiOp) : Dev :=
  match o with
  | .slot c s img =>
    let d := { d with upd := { d.upd with slots := mput d.upd.slots s img, verified := true } }
    d.updRenew.okRes c img.ver
  | .record r after c =>
    let d := d.bootRecPut r
    match after with
    | .none => d.okOpt c
    | .activate force => ({ d with upd := { d.upd with restart := some force } }).okOpt c
    | .revert => ({ d with upd := { d.upd with restart := some true, hold := false } }).okOpt c
    | .accept => { d with upd := { d.upd with ops := .commitCopy c :: d.upd.ops } }
    | .defaults =>
      d.defaultsTake.okOpt c
  | .item i mirror c res =>
    let d := d.setWrite i
    (if mirror then d.itemMirror i else d).okOpt c res
  | .commitCopy c =>
    let d := { d with upd := { d.upd with stores := d.upd.stores.map (fun (e : Nat × SetCopy) =>
      (e.1, if e.2.owner = d.bootRec.active then { e.2 with committed := true } else e.2)) } }
    let d := (d.clrF F.UPD_STATUS_provisional).fuseBlow d.bootRec.activeRb
    (d.raise 468).okOpt c

/-- The descriptor of a program. -/
def QspiOp.desc : QspiOp → Option Desc
  | .slot c _ _ => some c
  | .record _ _ c => c
  | .item _ _ c _ => c
  | .commitCopy c => c

/-- QSPI_PROGRAM_DONE (R463, R467): the program at the front is done; or it fails, source 470 pends, and its descriptor ends with a
status the spec does not name: a free value (log entry 2). -/
def Dev.qspiProgramDone (d : Dev) (ok : Bool) : Dev :=
  match d.upd.ops with
  | [] => d
  | o :: rest =>
    let d := { d with upd := { d.upd with ops := rest } }
    if ok then d.qspiDone o
    else
      let d := (d.setF F.UPD_STATUS_prog_fail).raise 470
      let d := match o with
        | .slot _ _ _ => d.updRenew
        | _ => d
      match o.desc with
      | none => d
      | some c => d.drawn.fail c (d.freeVal 16)

end Sys2Proof.Machine
end

