-- ==== Sys2Proof/Machine/Epl.lean ====
section
/-! DEFINITION. The pair link (chapter 15): the HELLO exchange, roles, the actuation token, output digests and mismatch rounds,
mirrored state, resynchronisation, the faults of the partner. -/

namespace Sys2Proof.Machine

def pairRole : Nat := 0x8081
def pairLink : Nat := 0x8082
def pairTerm : Nat := 0x8083
def pairNotReady : Nat := 0x8084

/-! ### Roles and the token (R428, R430–R434) -/

/-- The link gives no pair: it is down, or the pair is not formed (R427, R432). -/
def Dev.eplApart (d : Dev) : Bool := !d.on F.EPL_STATUS_link_up || !d.epl.formed

/-- The lease in ns. -/
def Dev.leaseNs (d : Dev) : Nat := d.rd F.EPL_LEASE_lease_ms * msNs

/-- A pair event in the trouble log (R511). -/
def Dev.pairLog (d : Dev) (sev what : Nat) : Dev := d.trouble minuetId sev 0xB what (d.rd F.EPL_TOKEN_term)

/-- Active without the token while no link gives one: a witness is requested (R432). -/
def Dev.witnessCheck (d : Dev) : Dev :=
  if d.eplApart && d.epl.dead && d.rd F.EPL_STATUS_role == 1 && !d.on F.EPL_STATUS_token && !d.on F.EPL_STATUS_witness_req then
    (((d.setF F.EPL_STATUS_witness_req).setF F.EPL_EVENT_witness_req).raise 452).pairLog 1 6
  else d

/-- Gain or lose the token. A swap whose partner never took the token ends (log entry 15). A holder in a formed pair starts with one lease (log entry 15); one whose partner reports itself
retired, or that has no pair, holds without a lease (R443). -/
def Dev.tokenSet (d : Dev) (held : Bool) : Dev :=
  if d.on F.EPL_STATUS_token == held then d
  else
    let d := ((d.flag F.EPL_STATUS_token held).setF F.EPL_EVENT_token_change).raise 451
    let d := d.pairLog 1 (if held then 4 else 5)
    let leased := held && !d.eplApart && !d.on F.EPL_PARTNER_retired
    let d := { d with epl := { d.epl with expiry := if leased then some (d.tick + d.leaseNs) else none, leases := [] } }
    let d := if held then
        let swap := d.epl.swap.bind (·.2)
        let d := ({ d with epl := { d.epl with view := none, handAt := none, swap := none } }).clrF F.EPL_STATUS_witness_req
        (swap.map (fun c => d.fail c pairNotReady)).getD d
      else
        let d := d.clrF F.EPL_STATUS_witness_held
        (if d.bol.outq.any (·.act) then d.raise 260 else d).witnessCheck
    d.bolShow

/-- standby_ready sets on a standby in step with the active, with no key_skew and no delta waiting (R442). -/
def Dev.standbyCheck (d : Dev) : Dev :=
  if d.rd F.EPL_STATUS_role == 2 && d.epl.synced && d.epl.resync.isNone && !d.on F.EPL_STATUS_key_skew && d.epl.keyHeld.isEmpty
  then d.setF F.EPL_STATUS_standby_ready else d

/-- Take a role: 0 lone, 1 active, 2 standby, 3 retired. Only the active unit keeps the token; its records are the pair's. -/
def Dev.roleSet (d : Dev) (r : Nat) : Dev :=
  if d.rd F.EPL_STATUS_role == r then d
  else
    let d := (((d.wr F.EPL_STATUS_role r).setF F.EPL_EVENT_role_change).raise 450).pairLog 1 3
    let d := { d with epl := { d.epl with handed := false } }
    if r = 1 then ({ d with epl := { d.epl with synced := true } }).clrF F.EPL_STATUS_standby_ready
    else
      let d := d.tokenSet false
      if r = 2 then d.standbyCheck else d.clrF F.EPL_STATUS_standby_ready

/-! ### HELLO and the link (R422, R423, R427, R428) -/

/-- This unit's number. -/
def Dev.unit (d : Dev) : Nat := d.rd F.VAL_PAIR_unit

/-- The version offered: none while pair_en is 0 (log entry 15). -/
def Dev.eplOffer (d : Dev) : Nat := if d.on F.EPL_CTRL_pair_en then d.rd F.EPL_CTRL_max_ver else 0

/-- The payload of HELLO (R425). -/
def Dev.helloBody (d : Dev) : List Byte :=
  let role := d.rd F.EPL_STATUS_role
  leBytes 2 d.eplOffer ++ leBytes 1 d.unit
    ++ leBytes 1 (b2n (role == 1) + 2 * d.rd F.EPL_STATUS_token + 4 * b2n (role == 3) + 8 * d.rd F.EPL_CTRL_prefer_active
      + 16 * d.rd F.EPL_STATUS_standby_ready + 32 * d.rd F.EPL_STATUS_witness_held)
    ++ zeros 4 ++ leBytes 8 d.epl.session ++ leBytes 8 Config.dieEui.toNat ++ leBytes 8 (d.rd F.XDI_EXP_LIVE_LO_live)

/-- Send the HELLO of an exchange: link sequence 0 (R424). -/
def Dev.helloEmit (d : Dev) : Dev := d.eplEmit 0 { mtype := 1, mflags := 0, payload := d.helloBody }

/-- The link comes up or goes down. -/
def Dev.linkShow (d : Dev) (up : Bool) : Dev :=
  if d.on F.EPL_STATUS_link_up == up then d
  else (((d.flag F.EPL_STATUS_link_up up).setF F.EPL_EVENT_link_change).raise 449).pairLog 1 (if up then 2 else 1)

/-- There is no pair any more: what is under way with the partner ends, a PAIR_SWAP or PAIR_RESYNC that waits with PAIR_LINK. -/
def Dev.pairOver (d : Dev) : Dev :=
  let e := d.epl
  let d := { d with epl := { e with formed := false, round := none, later := [], rx := [], due := [], resync := none, ksum := [],
                                    swap := e.swap.map (fun (s : Nat × Option Desc) => (s.1, none)) } }
  let d := ((d.clrF F.EPL_STATUS_paired).wr F.EPL_STATUS_neg_ver 0).clrF F.EPL_STATUS_resyncing
  ((e.resync.bind (·.cmd)).toList ++ (e.swap.bind (·.2)).toList).foldl (fun d c => d.fail c pairLink) d

/-- The link is down (R423): pending accesses through the window end under R38, and the pair with them. -/
def Dev.eplDown (d : Dev) : Dev :=
  if !d.on F.EPL_STATUS_link_up then d
  else
    let e := d.epl
    let d := { d with epl := { e with reads := [], rxLast := none, sends := 0, downAt := some d.tick, dead := false } }
    let d := e.reads.foldl (fun (d : Dev) (w : WinWait) => d.badRead 3 w.master w.addr w.size) d
    ((d.linkShow false).clrF F.EPL_PARTNER_valid).pairOver

/-- EPL_LINK_UP: both lanes lock. A link counted as down stays down until a HELLO exchange completes. -/
def Dev.eplLinkUp (d : Dev) : Dev :=
  if d.epl.lanes || !d.domOn .epl then d
  else
    let d := { d with epl := { d.epl with lanes := true } }
    let d := if d.epl.downAt.isNone then d.linkShow true else d
    d.helloEmit

/-- EPL_LINK_DOWN: the lanes have lost block lock. -/
def Dev.eplLinkDown (d : Dev) : Dev := ({ d with epl := { d.epl with lanes := false } }).eplDown

/-- EPL_HELLO_TIMEOUT. -/
def Dev.eplHelloTimeout (d : Dev) : Dev := d.eplDown

/-- EPL_HELLO_TIMER: a HELLO in sequence once an exchange is complete, otherwise the HELLO of an exchange. -/
def Dev.eplHelloTimer (d : Dev) : Dev :=
  if !d.epl.lanes || !d.domOn .epl then d
  else if d.on F.EPL_STATUS_link_up && d.on F.EPL_PARTNER_valid then d.eplSend 1 d.helloBody
  else d.helloEmit

/-- EPL_RETRANSMIT_TIMEOUT: everything from the first unacknowledged message again, or down once one has been sent 8 times. -/
def Dev.eplRetransmitTimeout (d : Dev) : Dev :=
  if !d.on F.EPL_STATUS_link_up || d.epl.unacked.isEmpty then d
  else if 7 ≤ d.epl.sends then d.eplDown
  else
    let d := { d with epl := { d.epl with sends := d.epl.sends + 1 } }
    let d := d.bump F.EPL_CNT_LINK_retrans
    d.epl.unacked.foldl (fun (d : Dev) (x : Nat × EplMsg) => d.eplEmit x.1 x.2) d

/-- Acknowledgements: every message up to ack has arrived. -/
def Dev.eplAcked (d : Dev) (ack : Nat) : Dev :=
  let left := d.epl.unacked.filter (fun x => !(serSub 32 ack x.1 < 2 ^ 31))
  if left.length = d.epl.unacked.length then d
  else ({ d with epl := { d.epl with unacked := left, sends := 0 } }).eplDrain

/-- A message's term (R428): a higher one is adopted, and the token given up. -/
def Dev.eplTerm (d : Dev) (term : Nat) : Dev :=
  if d.rd F.EPL_TOKEN_term < term then (d.wr F.EPL_TOKEN_term term).tokenSet false else d

/-- R423: whether a received message is the next in order on a link that is up. -/
def Dev.eplInOrder (d : Dev) (m : EplRx) : Bool :=
  d.on F.EPL_STATUS_link_up && d.epl.rxLast.map (fun x => (x + 1) % 2 ^ 32) == some m.txSeq.toNat

/-- Whether a message's term is above this unit's (R428). -/
def Dev.eplHigher (d : Dev) (m : EplRx) : Bool := decide (d.rd F.EPL_TOKEN_term < m.term.toNat)

/-- A unit that heard a higher term of an active partner enters Shadow (R428). -/
def Dev.eplYield (d : Dev) (higher : Bool) : Dev :=
  if higher && d.epl.formed && d.rd F.EPL_STATUS_role == 1 then d.roleSet 2 else d

/-- R423, R428: what every message in order does: its sequence is taken, messages are acknowledged, its term is followed, and the
active unit that hears a higher term of an active partner becomes the standby. -/
def Dev.eplHeard (d : Dev) (m : EplRx) : Dev :=
  let higher := d.eplHigher m
  let d := { d with epl := { d.epl with rxLast := some m.txSeq.toNat } }
  let d := (d.eplAcked m.ackSeq.toNat).eplTerm m.term.toNat
  d.eplYield (higher && d.on F.EPL_PARTNER_active)

/-- Receive a message other than HELLO (R423): sound, next in sequence; then its acknowledgement and its term. -/
def Dev.eplIn (d : Dev) (m : EplRx) (k : Dev → Dev) : Dev :=
  if !d.epl.lanes || !d.domOn .epl then d
  else if !m.crcOk then d.bump F.EPL_CNT_LINK_crc_bad
  else if !d.eplInOrder m then d
  else k (d.eplHeard m)

/-! ### The partner as a resource (R443) -/

/-- The partner is retired: mirroring and comparison stop. -/
def Dev.partnerRetire (d : Dev) (cause : Nat) : Dev :=
  if d.on F.EPL_STATUS_partner_retired then d
  else (((d.setF F.EPL_STATUS_partner_retired).setF F.EPL_EVENT_partner_retired).raise 456).retireLog minuetId 7 0 cause

/-- A transient fault of the partner. -/
def Dev.partnerTransient (d : Dev) : Dev :=
  let win := zeroAs (d.rd F.EPL_ERR_CFG_window) 1 * sNs
  let fs := d.epl.faults.filter (fun t => d.tick < t + win) ++ [d.tick]
  let d := ({ d with epl := { d.epl with faults := fs } }).trouble minuetId 1 4 7 0 fs.length
  let thr := d.rd F.EPL_ERR_CFG_retire_thr
  if thr != 0 && thr ≤ fs.length then d.partnerRetire (Config.retireCause 7 1).toNat else d

/-- The partner reports itself retired: this unit is active and holds the token without a lease (R428, R431, R443). -/
def Dev.partnerGone (d : Dev) : Dev :=
  let d := d.partnerRetire (Config.retireCause 7 2).toNat
  if !d.epl.formed || d.rd F.EPL_STATUS_role == 3 then d
  else
    let d := d.roleSet 1
    let d := if d.on F.EPL_STATUS_token then d else (d.wr F.EPL_TOKEN_term (d.rd F.EPL_TOKEN_term + 1)).tokenSet true
    { d with epl := { d.epl with expiry := none } }

/-! ### Keys of the standby (R441) -/

/-- A difference in keys. -/
def Dev.keySkew (d : Dev) : Dev := ((d.setF F.EPL_STATUS_key_skew).setF F.EPL_EVENT_key_skew).raise 457

/-- The stored key of a kind and kid. -/
def Dev.keyByKid (d : Dev) (kind kid : Nat) : Option KeyEnt :=
  (d.pav.ram.find? (fun e => e.2.kind == kind && e.2.kid == kid)).map (·.2)

/-- The entries of a KEY_SUMMARY: kid, gen, kind of every stored key. -/
def Dev.keySums (d : Dev) : List (List Byte) :=
  d.keyCatalog.map (fun e => leBytes 4 e.1.kid ++ leBytes 2 e.1.gen ++ leBytes 1 e.1.kind ++ zeros 1)

/-- Send a message body in parts that all but the last say more follow. -/
def Dev.eplParts (d : Dev) (mtype : Nat) (parts : List (List Byte)) : Dev :=
  ((if parts.isEmpty then [[]] else parts).zipIdx).foldl (fun (d : Dev) (p : List Byte × Nat) =>
    d.eplSend mtype p.1 (if p.2 + 1 < parts.length then 1 else 0)) d

/-- Send a KEY_SUMMARY. -/
def Dev.keySumSend (d : Dev) : Dev := d.eplParts 0xB (chunks 8192 d.keySums.flatten)

/-! ### The HELLO exchange -/

/-- The standby asks for a resynchronisation (R442). -/
def Dev.resyncAsk (d : Dev) (mode : Nat) (cmd : Option Desc) : Dev :=
  let d := { d with epl := { d.epl with resync := some { mode := mode, cmd := cmd }, synced := false } }
  let d := (d.setF F.EPL_STATUS_resyncing).clrF F.EPL_STATUS_standby_ready
  d.eplSend 0xE (leBytes 1 0 ++ leBytes 1 mode ++ zeros 6)

/-- Records of the table that are not Free, in messages of 16 (R425). -/
def Dev.resyncRecords (d : Dev) (mode : Nat) : List (List Byte) :=
  let rs := d.msrRecs.filter (fun e => rg e.2 R.state != stFree)
  (chunksF (rs.length + 1) (16 * 264) (rs.flatMap (fun e =>
    leBytes 4 e.1 ++ leBytes 4 (d.kidOf (rg e.2 R.districtHandle)) ++ leBytes 256 e.2))).map (fun b =>
      leBytes 1 1 ++ leBytes 1 mode ++ leBytes 2 (b.length / 264) ++ zeros 4 ++ b)

/-- The active streams its records, settings, Bolero area and keys, then done (R442). -/
def Dev.resyncStream (d : Dev) (mode : Nat) : Dev :=
  let d := (d.resyncRecords mode).foldl (fun (d : Dev) (b : List Byte) => d.eplSend 0xE b 1) d
  let d := (d.setCopy.items.filter (fun i => i.iflags = 0)).foldl (fun (d : Dev) (i : SetItem) => d.eplSend 0xC (itemBytes i)) d
  let d := (List.range (0x51000000 / 4096)).foldl (fun (d : Dev) (k : Nat) =>
    d.eplSend 0xD (zeros 4 ++ leBytes 4 (4096 * k) ++ d.mem.readBytes (d.bolArea + 4096 * k) 4096)) d
  let d := (List.range 4096).foldl (fun (d : Dev) (g : Nat) =>
    d.eplSend 0xD (leBytes 1 1 ++ zeros 3 ++ leBytes 4 (grpOff g) ++ leBytes 4 (d.kidOf (d.grpHandle g))
      ++ d.mem.readBytes (d.bolArea + grpOff g + 4) 12)) d
  let d := d.keySumSend
  d.eplSend 0xE (leBytes 1 2 ++ leBytes 1 mode ++ zeros 6)

/-- Both were active after the link was down: whether this unit stays (R428). -/
def Dev.splitStays (d : Dev) (ownTerm term : Nat) (pToken : Bool) : Bool :=
  if d.on F.EPL_STATUS_token then true
  else if pToken then false
  else if term != ownTerm then term < ownTerm
  else d.unit == 0

/-- Roles at an exchange that forms the pair (R428, R443). `ownTerm` is this unit's term before it adopted the partner's. Answers
whether this unit lost a split. -/
def Dev.settleRoles (d : Dev) (ownTerm term hf : Nat) : Dev × Bool :=
  let me := d.rd F.EPL_STATUS_role
  let pActive := bit hf 0
  if bit hf 2 then (d.partnerGone, false)
  else if me = 3 then (d, false)
  else if me != 1 && !pActive then
    let mine := d.on F.EPL_CTRL_prefer_active
    let first := if mine != bit hf 3 then mine else d.unit == 0
    if first then
      let d := (d.wr F.EPL_TOKEN_term (max ownTerm term + 1)).roleSet 1
      (d.tokenSet true, false)
    else (d.roleSet 2, false)
  else if me = 1 && pActive then
    let stays := d.splitStays ownTerm term (bit hf 1)
    let d := ((d.setF F.EPL_STATUS_split).setF F.EPL_EVENT_split).raise 459
    let d := d.pairLog 3 7
    if stays then (d, false) else (d.roleSet 2, true)
  else if me = 1 then (d, false)
  else (d.roleSet 2, false)

/-- What the partner's HELLO shows (R425, R443, R447). -/
def Dev.helloShow (d : Dev) (p : List Byte) : Dev :=
  let hf := byteAt p 3
  let d := (((d.setF F.EPL_PARTNER_valid).flag F.EPL_PARTNER_active (bit hf 0)).flag F.EPL_PARTNER_token (bit hf 1)).flag
    F.EPL_PARTNER_retired (bit hf 2)
  let d := { d with epl := { d.epl with ready := bit hf 4 } }
  ((d.wr F.EPL_PARTNER_unit (byteAt p 2)).wr F.EPL_PARTNER_max_ver (leAt p 0 2)).wr F.EPL_PARTNER_EUI_LO_eui (leAt p 16 8)

/-- A swap completes when the partner reports itself active with the token (R434, R447). -/
def Dev.swapCheck (d : Dev) : Dev :=
  match d.epl.swap with
  | some (_, c) =>
    if d.on F.EPL_PARTNER_active && d.on F.EPL_PARTNER_token then
      let d := { d with epl := { d.epl with swap := none } }
      ((c.map (fun x => d.okRes x)).getD d).bolShow
    else d
  | none => d

/-- The version both allow (R427). -/
def eplCommon (a b : Nat) : Nat := if 0x0101 ≤ a && 0x0101 ≤ b then 0x0101 else if 0x0100 ≤ a && 0x0100 ≤ b then 0x0100 else 0

/-- A HELLO exchange completes. -/
def Dev.helloExchange (d : Dev) (m : EplRx) : Dev :=
  let p := m.payload
  let ownTerm := d.rd F.EPL_TOKEN_term
  let ses := leAt p 8 8
  let e := d.epl
  let again := (e.unacked.map (·.2)).filter (fun x => x.mtype != 1 && x.mtype != 0xF)
  let d := { d with epl := { e with rxLast := some m.txSeq.toNat, unacked := [], txNext := 1, sends := 0, dead := false,
                                    waiting := again ++ e.waiting, downAt := none, partnerSession := ses } }
  let d := d.helloEmit
  let d := (d.helloShow p).linkShow true
  let d := match e.downAt with
    | some t => if d.tick ≤ t + zeroAs (d.rd F.EPL_LEASE_dead_ms) 1 * 10 * msNs then d.partnerTransient else d
    | none => d
  let d := d.eplTerm m.term.toNat
  let v := eplCommon d.eplOffer (leAt p 0 2)
  let formed := v != 0 && d.on F.EPL_CTRL_pair_en && byteAt p 2 != d.unit
  let d := { d with epl := { d.epl with formed := formed } }
  let d := (d.wr F.EPL_STATUS_neg_ver (if formed then v else 0)).flag F.EPL_STATUS_paired formed
  if !formed then (d.pairOver.setF F.EPL_STATUS_clash |>.raise 460).eplDrain
  else
    let d := d.clrF F.EPL_STATUS_witness_req
    let (d, lost) := d.settleRoles ownTerm m.term.toNat (byteAt p 3)
    let seen := d.epl.seen.contains ses
    let d := { d with epl := { d.epl with seen := if seen then d.epl.seen else d.epl.seen ++ [ses] } }
    let d := d.swapCheck
    let auto := d.on F.EPL_CTRL_auto_resync
    let d := if d.rd F.EPL_STATUS_role == 2 && auto && !seen then d.resyncAsk 0 none
      else if lost && auto then d.resyncAsk 1 none
      else if lost then ({ d with epl := { d.epl with synced := false } }).clrF F.EPL_STATUS_standby_ready
      else if d.rd F.EPL_STATUS_role == 1 && d.epl.overflow && auto then d.resyncStream 1
      else d
    let d := { d with epl := { d.epl with overflow := false } }
    d.keySumSend.eplDrain

/-- HELLO (R423, R427, R428). -/
def Dev.hello (d : Dev) (m : EplRx) : Dev :=
  if !d.epl.lanes || !d.domOn .epl then d
  else if !m.crcOk then d.bump F.EPL_CNT_LINK_crc_bad
  else if !d.on F.EPL_STATUS_link_up || !d.on F.EPL_PARTNER_valid || leAt m.payload 8 8 != d.epl.partnerSession
      || (m.txSeq == 0 && d.epl.rxLast != some 0) then d.helloExchange m
  else
    let higher := d.eplHigher m
    d.eplIn m fun d =>
      let d := d.helloShow m.payload
      let other := d.on F.EPL_PARTNER_active && (higher || (d.on F.EPL_PARTNER_token && !d.on F.EPL_STATUS_token))
      ((if bit (byteAt m.payload 3) 2 then d.partnerGone else d).eplYield other).swapCheck

/-! ### The lease (R430–R434) -/

/-- LEASE_RENEW_TIMER. -/
def Dev.leaseRenewTimer (d : Dev) : Dev :=
  if d.on F.EPL_STATUS_token && !d.eplApart && !d.on F.EPL_PARTNER_retired then
    let n := (d.epl.renewNo + 1) % 2 ^ 32
    let d := { d with epl := { d.epl with renewNo := n, leases := mput d.epl.leases n d.tick } }
    d.eplSend 2 (leBytes 4 n ++ leBytes 4 (d.rd F.EPL_LEASE_lease_ms))
  else d

/-- LEASE: the other unit's view of the expiry. Only the active unit holds the token, so the sender is active (R428). -/
def Dev.lease (d : Dev) (m : EplRx) : Dev :=
  let higher := d.eplHigher m
  d.eplIn m fun d =>
    let d := d.eplYield higher
    let d := if d.on F.EPL_STATUS_token then d
      else { d with epl := { d.epl with view := some (d.tick + leAt m.payload 4 4 * msNs) } }
    d.eplSend 3 (leBytes 4 (leAt m.payload 0 4))

/-- LEASE_ACK: the expiry is counted from the tick at which that LEASE was sent; a witness grant gives way to the lease (R433). -/
def Dev.leaseAck (d : Dev) (m : EplRx) : Dev :=
  d.eplIn m fun d =>
    match mget? d.epl.leases (leAt m.payload 0 4) with
    | none => d
    | some t =>
      let d := d.sample 0x0F 0 ((d.tick - t) / 1000)
      if d.on F.EPL_STATUS_token then
        ({ d with epl := { d.epl with expiry := some (t + d.leaseNs), leases := d.epl.leases.filter (fun x => t < x.2) } }).clrF
          F.EPL_STATUS_witness_held
      else d

/-- LEASE_EXPIRY: the holder loses the token. -/
def Dev.leaseExpiry (d : Dev) : Dev :=
  if d.epl.expiry.isSome && !d.on F.EPL_STATUS_witness_held then d.tokenSet false else d

/-- WITNESS_LEASE_EXPIRY. -/
def Dev.witnessLeaseExpiry (d : Dev) : Dev := if d.on F.EPL_STATUS_witness_held then d.tokenSet false else d

/-- TOKEN_RELEASE: the handover instant. -/
def Dev.tokenRelease (d : Dev) (m : EplRx) : Dev :=
  d.eplIn m fun d => { d with epl := { d.epl with handAt := some (d.tick + leAt m.payload 0 4 * msNs) } }

/-- TOKEN_TAKEOVER (R431). -/
def Dev.tokenTakeover (d : Dev) : Dev :=
  let role := d.rd F.EPL_STATUS_role
  if !d.eplApart && !d.on F.EPL_STATUS_token && (role == 1 || role == 2) && (d.epl.view.isSome || d.epl.handAt.isSome) then
    let handed := d.epl.handAt.isSome
    let d := ((d.wr F.EPL_TOKEN_term (d.rd F.EPL_TOKEN_term + 1)).roleSet 1).tokenSet true
    { d with epl := { d.epl with handed := handed } }
  else d

/-- DEAD_TIMER (R432): the standby serves the media without the token. -/
def Dev.deadTimer (d : Dev) : Dev :=
  if d.eplApart && d.on F.EPL_CTRL_pair_en && d.rd F.EPL_STATUS_role != 3 then
    (({ d with epl := { d.epl with dead := true } }).roleSet 1).witnessCheck
  else d

/-- SWAP_HANDOVER (R434). -/
def Dev.swapHandover (d : Dev) : Dev :=
  if d.epl.swap.isSome && d.rd F.EPL_STATUS_role == 1 then d.roleSet 2 else d

/-! ### Digests and mismatch rounds (R435–R437, R444) -/

/-- The identity of a digest entry: its first 16 bytes. -/
def dgIdent (e : List Byte) : List Byte := e.take 16

/-- Whether outputs are compared: the pair formed, the partner not retired (R443). -/
def Dev.compares (d : Dev) : Bool := d.epl.formed && !d.on F.EPL_STATUS_partner_retired

/-- DIGEST_BATCH_CLOSE. -/
def Dev.digestBatchClose (d : Dev) : Dev :=
  let es := d.epl.batch.take 4096
  if es.isEmpty then d
  else
    let no := d.epl.batchNo
    let d := { d with epl := { d.epl with batch := d.epl.batch.drop 4096, batchNo := (no + 1) % 2 ^ 64 } }
    if !d.compares then d
    else d.eplParts 5 ((chunks (256 * 24) es.flatten).zipIdx.map (fun p =>
      leBytes 8 no ++ leBytes 2 p.2 ++ leBytes 2 (p.1.length / 24) ++ leBytes 4 es.length ++ p.1))

/-- DIGEST: a part is kept; a whole batch waits cmp_delay. -/
def Dev.digest (d : Dev) (m : EplRx) : Dev :=
  d.eplIn m fun d =>
    if !d.compares then d
    else
      let no := leAt m.payload 0 8
      let parts := mput (mgetD d.epl.rx no []) (leAt m.payload 8 2) ((m.payload.drop 16).take (24 * leAt m.payload 10 2))
      let all := parts.flatMap (·.2)
      if 24 * leAt m.payload 12 4 ≤ all.length then
        { d with epl := { d.epl with rx := mdel d.epl.rx no, due := d.epl.due ++ [(no, d.tick, chunks 24 all)] } }
      else { d with epl := { d.epl with rx := mput d.epl.rx no parts } }

/-- An archived frame record's digest entry (R435). -/
def Dev.archDigest (d : Dev) (l : List Byte) : List Byte :=
  let f := d.arFrame l
  digestEntry (leAt l 8 8) f.keyGen f.ftype f.fcnt f.ftime f.plen f.body

/-- Search the archive downwards from a sequence for the record of an identity. -/
def Dev.archFind (d : Dev) (id : List Byte) : Nat → Nat → Option (List Byte)
  | 0, _ => none
  | fuel + 1, s =>
    match d.archRead s with
    | .found l =>
      if leBytes 8 (leAt l 8 8) ++ leBytes 2 (leAt l 20 2) ++ leBytes 1 (arRkind l) ++ zeros 1 ++ leBytes 4 (leAt l 24 4) == id
      then some l else Dev.archFind d id fuel (s - 1)
    | _ => Dev.archFind d id fuel (s - 1)

/-- The entry of an identity recomputed from the archive; one that cannot be read again has digest 0 (log entry 15). -/
def Dev.recompute (d : Dev) (id : List Byte) : List Byte :=
  let top := d.rd F.REEL_STG_PUB_LO_stg_pub
  match d.archFind id (top + 1 - max 1 (d.rd F.GAV_OLDEST_LO_oldest)) top with
  | some l => d.archDigest l
  | none => id ++ zeros 8

/-- A mismatch round opens, or further mismatches join it; during a resynchronisation it waits (R446). -/
def Dev.roundOpen (d : Dev) (batch : Nat) (ids : List (List Byte)) : Dev :=
  let d := (d.setF F.EPL_EVENT_mismatch).raise 453
  if d.epl.resync.isSome then { d with epl := { d.epl with later := d.epl.later ++ [(batch, ids)] } }
  else
    match d.epl.round with
    | none => { d with epl := { d.epl with round := some { batch := batch, idents := ids } } }
    | some r =>
      let new := ids.filter (fun i => !r.idents.contains i)
      let d := { d with epl := { d.epl with round := some { r with idents := r.idents ++ new } } }
      if r.mine.isEmpty || new.isEmpty then d
      else
        let add := new.map d.recompute
        let d := { d with epl := { d.epl with round := some { r with idents := r.idents ++ new, mine := r.mine ++ add } } }
        d.eplSend 8 (leBytes 8 r.batch ++ leBytes 2 add.length ++ zeros 6 ++ add.flatten)

/-- This unit alone failed: it retires itself (R444). -/
def Dev.selfRetire (d : Dev) : Dev :=
  let d := if d.on F.EPL_STATUS_token then d.eplSend 4 (zeros 4) else d
  let d := { d with epl := { d.epl with selfRetired := true }, upd := { d.upd with recovery := true } }
  let d := ((d.roleSet 3).setF F.EPL_EVENT_self_retired).raise 456
  if d.on F.EPL_STATUS_link_up then d.eplSend 1 d.helloBody else d

/-- The round as far as both results are known (R437). -/
def Dev.roundStep (d : Dev) : Dev :=
  match d.epl.round with
  | none => d
  | some r =>
    let close (d : Dev) : Dev := { d with epl := { d.epl with round := none } }
    match r.own, r.partner with
    | some own, some theirs =>
      if own != 0 && theirs = 0 then (close d).selfRetire
      else if own = 0 && theirs != 0 then close d
      else if own != 0 then (close d).partnerTransient
      else
        let mine := if r.mine.isEmpty then r.idents.map d.recompute else r.mine
        let d := if r.mine.isEmpty then
            let d := { d with epl := { d.epl with round := some { r with mine := mine } } }
            (chunks (256 * 24) mine.flatten).foldl (fun (d : Dev) (b : List Byte) =>
              d.eplSend 8 (leBytes 8 r.batch ++ leBytes 2 (b.length / 24) ++ zeros 6 ++ b)) d
          else d
        match r.theirs with
        | none => d
        | some got =>
          if got.length < r.idents.length then d
          else
            let bad := mine.filter (fun e => !got.contains e)
            let d := close d
            let d := if bad.isEmpty then d
              else ((({ d with epl := { d.epl with diverged := bad } }).setF F.EPL_STATUS_divergence).setF
                F.EPL_EVENT_divergence).raise 455 |>.pairLog 3 8
            d.partnerTransient
    | _, _ => d

/-- DIGEST_COMPARE: the oldest batch due is compared with this unit's own table; suspended during a resynchronisation. -/
def Dev.digestCompare (d : Dev) : Dev :=
  match d.epl.due with
  | [] => d
  | (no, _, es) :: rest =>
    if d.epl.resync.isSome then d
    else
      let keep := d.rd F.EPL_DIGEST_cmp_window * sNs
      let cmp := d.epl.cmp.filter (fun e => d.tick ≤ e.1 + keep)
      let d := { d with epl := { d.epl with due := rest, cmp := cmp } }
      if !d.compares then d
      else
        let own (e : List Byte) : Option (List Byte) := (cmp.find? (fun x => dgIdent x.2 == dgIdent e)).map (·.2)
        let miss := es.filter (fun e => (own e).any (fun x => x != e))
        let unheard := (es.filter (fun e => (own e).isNone)).length
        let ids := (miss.map dgIdent).take 16
        let d := (d.bump F.EPL_CNT_DIG_mismatched miss.length).bump F.EPL_CNT_DIG_unheard unheard
        let d := d.eplSend 6 (leBytes 8 no ++ leBytes 4 (es.length - miss.length - unheard) ++ leBytes 4 miss.length
          ++ leBytes 4 unheard ++ ids.flatten)
        if miss.isEmpty then d
        else
          let first := d.epl.round.isNone
          let d := d.roundOpen no ids
          if first then d.eplSend 7 (zeros 8 ++ leBytes 8 no) else d

/-- DIGEST_RESULT. -/
def Dev.digestResult (d : Dev) (m : EplRx) : Dev :=
  d.eplIn m fun d =>
    if leAt m.payload 12 4 = 0 || !d.compares then d
    else (d.roundOpen (leAt m.payload 0 8) (chunks 16 (m.payload.drop 20))).roundStep

/-- SELFTEST: a request opens the round, a result joins it. -/
def Dev.selftest (d : Dev) (m : EplRx) : Dev :=
  d.eplIn m fun d =>
    let p := m.payload
    if !d.compares then d
    else
      let d := if d.epl.round.isNone then d.roundOpen (leAt p 8 8) [] else d
      if byteAt p 0 = 0 then d
      else
        let bad := if byteAt p 1 = 0 then 0 else max 1 (leAt p 2 2)
        ({ d with epl := { d.epl with round := d.epl.round.map (fun (r : EplRound) => { r with partner := some bad }) } }).roundStep

/-- SELFTEST_DONE: failing lanes retire (R156); the result is sent, and source 454 pends. -/
def Dev.selftestDone (d : Dev) (keyc commit digest : Bool) (laneFail : Nat) : Dev :=
  match d.epl.round with
  | none => d
  | some r =>
    let tested := (List.range 16).filter (fun l => !d.laneRetired l)
    let d := tested.foldl (fun (d : Dev) (l : Nat) =>
      if bit laneFail l then d.laneKatFail l else d) d
    let d := if keyc then d else d.pavKat false
    let own := b2n (!keyc) + 2 * b2n (!commit) + 4 * b2n (!digest) + 8 * b2n (tested.all (fun l => bit laneFail l))
    let d := (if own = 0 then d else d.setF F.EPL_STATUS_selftest_fail).raise 454
    let d := { d with epl := { d.epl with round := some { r with own := some own } } }
    (d.eplSend 7 (leBytes 1 1 ++ leBytes 1 (b2n (own != 0)) ++ leBytes 2 own ++ zeros 4 ++ leBytes 8 r.batch)).roundStep

/-- RECHECK: the partner's recomputed entries. -/
def Dev.recheck (d : Dev) (m : EplRx) : Dev :=
  d.eplIn m fun d =>
    let got := chunks 24 ((m.payload.drop 16).take (24 * leAt m.payload 8 2))
    ({ d with epl := { d.epl with round := d.epl.round.map (fun (r : EplRound) => { r with theirs := some (r.theirs.getD [] ++ got) }) } }).roundStep

/-! ### Mirrored records (R438–R442) -/

/-- The standby applies what the active mirrors. -/
def Dev.follows (d : Dev) : Bool := d.epl.formed && d.rd F.EPL_STATUS_role == 2

/-- The frame fields of a commit delta, taken into a record. -/
def deltaFields (r : Nat) (p : List Byte) : Nat :=
  rsAll r [(432, 1, byteAt p 18 % 2), (88, 2, byteAt p 19 % 4), (90, 2, byteAt p 19 / 4 % 4), (576, 32, leAt p 24 4),
    (608, 32, leAt p 28 4), (640, 512, leAt p 32 64), (1152, 32, leAt p 96 4), (1184, 16, leAt p 100 2), (1200, 16, leAt p 102 2),
    (1216, 48, leAt p 104 6), (1312, 32, leAt p 112 4), (1408, 32, leAt p 116 4)]

/-- A commit delta against the standby's record; none where it is discarded (R439). -/
def commitMerge (r : Nat) (p : List Byte) : Option Nat :=
  let g := leAt p 16 2
  let c := leAt p 20 4
  let x := serSub 16 g (rg r R.keyGen)
  if rg r R.state = stFree || 0x8000 ≤ x then none
  else if x = 0 then
    match replayTest (rg r R.frameCounter) (rg r R.replay) c with
    | .accept late fc b =>
      let r := rsAll r [(448, 32, fc), (512, 64, b)]
      some (if late then r else deltaFields r p)
    | _ => none
  else some (rsAll (deltaFields r p) [(416, 16, g), (448, 32, c), (512, 64, 1)])

/-- Apply a commit delta. -/
def Dev.commitApply (d : Dev) (p : List Byte) : Dev :=
  let i := leAt p 0 4
  if !d.on F.MSR_STATUS_ready || msrSize ≤ i then d
  else
    match d.msrGet i with
    | (d, none) => d
    | (d, some r) =>
      match commitMerge r p with
      | none => d
      | some r2 => (d.msrPut i r2 0).bump F.EPL_CNT_MIR_applied

/-- The groups of R440 copied from an image; the handle is the standby's own. -/
def groupsCopy (r img mask handle : Nat) : Nat :=
  let cp (g : Nat) (l : List (Nat × Nat)) (r : Nat) : Nat :=
    if bit mask g then l.foldl (fun r f => rs r f (rg img f)) r else r
  let r := cp 0 [R.eui, R.localIndex, R.state, R.reason, R.dualMode, R.passThrough, R.admittedAt, R.stateSince] r
  let r := cp 1 [(128, 256)] r
  let r := if bit mask 2 then rs r R.districtHandle handle else r
  let r := cp 3 [R.keyGen, R.rekeyDue, R.frameCounter, R.replay] r
  let r := cp 4 [(1280, 96)] r
  let r := cp 5 [(1376, 32)] r
  cp 6 [R.fwScratch] r

/-- A state change that arrives mirrored appends a state-change record with xflags[11] (R429, R173). -/
def Dev.mirroredChange (d : Dev) (i r frm : Nat) : Dev :=
  let (d, s) := d.stgTake
  let now := d.nowSN
  let att := rg r R.attach
  let node := rg r R.node
  let d := d.stgWrite { pseq := s, eui := rg r R.eui, index := i, rkind := 0xF, keyGen := rg r R.keyGen, xflags := 0x800,
                        fcnt := rg r R.frameCounter, rxS := now.1, rxNs := now.2, node := node, plen := 20, attach := att,
                        payload := stateBody frm (rg r R.state) (rg r R.reason) att (rg r R.stateSince) node }
  (d.msrPut i (rs r R.lastSeq s) 0).stgPublish s

/-- Apply a record delta: none while it must wait for a key (true) or for the commit unit (false). -/
def Dev.recordApply (d : Dev) (p : List Byte) : Dev × Option Bool :=
  let i := leAt p 0 4
  let mask := leAt p 16 4
  let kid := leAt p 20 4
  let img := leAt p 24 256
  let old := d.msrPeek i
  let key := d.keyByKid 4 kid
  if !d.on F.MSR_STATUS_ready || msrSize ≤ i then (d, none)
  else if bit mask 2 && kid != 0 && key.isNone then (d, some true)
  else
    let freed := bit mask 7 && rg old R.state != stFree
    let new := if bit mask 7 then rs (freeRec false i) R.recGen (rg old R.recGen)
      else groupsCopy old img mask ((key.map (·.handle)).getD 0)
    let change := freed || (bit mask 0 && (rg old R.state != rg new R.state || rg old R.reason != rg new R.reason
      || rg old R.stateSince != rg new R.stateSince))
    if change && (d.stgBlock 1 0).isSome then (d, some false)
    else
      let d := if freed then
          let d := d.idtRemove (rg old R.eui)
          { d with msr := d.msr.freePut i }
        else if bit mask 0 && rg old R.state = stFree && rg new R.state != stFree then
          let d := (d.idtInsert (rg new R.eui) i).1
          { d with msr := d.msr.freeTake i }
        else d
      let d := if freed then
          d.mirroredChange i (rsAll (rs new R.eui (rg old R.eui)) [(96, 8, rg img R.reason), (1472, 32, rg img R.stateSince)]) (rg old R.state)
        else if change then d.mirroredChange i new (rg old R.state)
        else d.msrPut i new 0
      (d.bump F.EPL_CNT_MIR_applied, none)

/-- Apply a record delta, or keep it waiting (R440). -/
def Dev.recordTake (d : Dev) (p : List Byte) : Dev :=
  match d.recordApply p with
  | (d, none) => d
  | (d, some forKey) =>
    let d := ({ d with epl := { d.epl with keyHeld := d.epl.keyHeld ++ [p] } }).clrF F.EPL_STATUS_standby_ready
    if forKey then (d.bump F.EPL_CNT_MIR_key_wait).keySkew else d

/-- Try the deltas that wait, in order. -/
def Dev.keyHeldRetry (d : Dev) : Dev :=
  let l := d.epl.keyHeld
  if l.isEmpty then d
  else
    (l.foldl (fun (d : Dev) (p : List Byte) =>
      match d.recordApply p with
      | (d, none) => d
      | (d, some _) => { d with epl := { d.epl with keyHeld := d.epl.keyHeld ++ [p] } }) { d with epl := { d.epl with keyHeld := [] } }).standbyCheck

/-- MSR_DELTA: a commit delta waits merge_ms, a record delta applies at once. -/
def Dev.msrDelta (d : Dev) (m : EplRx) : Dev :=
  d.eplIn m fun d =>
    if !d.follows then d
    else if byteAt m.payload 4 = 0 then { d with epl := { d.epl with held := d.epl.held ++ [(d.tick, m.payload)] } }
    else if byteAt m.payload 4 = 1 then d.recordTake m.payload
    else d

/-- MERGE_DELAY_APPLY: also on a unit that became active meanwhile (log entry 15). -/
def Dev.mergeDelayApply (d : Dev) : Dev :=
  match d.epl.held with
  | [] => d
  | (_, p) :: rest =>
    ({ d with epl := { d.epl with held := rest } }).commitApply p

/-! ### Mirrored keys, settings, Bolero (R438, R441) -/

/-- The standby's own commit of its staged shadow, as far as NVM goes (R263, R441). -/
def Dev.followCommit (d : Dev) (e : KeyEnt) (shadow : Nat) : Dev :=
  let cseq := (byts (tget d.pav.nvm e.slot) 56 2 + 1) % 65536
  let w := commitWord (tget d.pav.nvm shadow % 2 ^ 448) cseq
  let d := { d with pav := { d.pav with nvm := tset d.pav.nvm shadow (setByts (tget d.pav.nvm shadow) 56 8 w) } }
  (d.blankSlot e.slot).commitPoint e

/-- The standby's own destruction (R266, R441). -/
def Dev.followDestroy (d : Dev) (e : KeyEnt) : Dev :=
  let hs := d.keyFamily e.handle
  let gone := hs.filterMap d.keyOf
  let d := gone.foldl (fun (d : Dev) (k : KeyEnt) => (k.shadow.toList).foldl Dev.blankSlot (d.blankSlot k.slot)) d
  ((d.destroyPoint hs).wr F.PAV_LAST_DESTROY_handle e.handle).raise 293

/-- KEY_EVENT. -/
def Dev.keyEventRx (d : Dev) (m : EplRx) : Dev :=
  d.eplIn m fun d =>
    let p := m.payload
    let op := byteAt p 0
    let e := d.keyByKid (byteAt p 1) (leAt p 4 4)
    if !d.follows || !d.on F.EPL_CTRL_key_follow || (2 ≤ op && d.rd F.EPL_STATUS_neg_ver < 0x0101) then d
    else
      let d := match op, e with
        | 0, some e =>
          match e.shadow with
          | some s => if (e.gen + 1) % 65536 = leAt p 2 2 then d.followCommit e s else d.keySkew
          | none => if e.gen = leAt p 2 2 then d else d.keySkew
        | 1, some e => d.followDestroy e
        | 2, some e =>
          match d.keyByKid 4 (leAt p 8 4) with
          | some s =>
            if e.kind != 4 || e.handle == s.handle || d.pav.succ.any (fun l => l.1 == s.handle) then d.keySkew
            else { d with pav := { d.pav with succ := d.pav.succ.filter (fun (l : Nat × Nat) => l.1 != e.handle) ++ [(e.handle, s.handle)] } }
          | none => d.keySkew
        | 3, some e => { d with pav := { d.pav with succ := d.pav.succ.filter (fun (l : Nat × Nat) => l.1 != e.handle) } }
        | _, _ => d.keySkew
      d.keyHeldRetry

/-- KEY_SUMMARY: any difference is key_skew. -/
def Dev.keySummaryRx (d : Dev) (m : EplRx) : Dev :=
  d.eplIn m fun d =>
    let all := d.epl.ksum ++ m.payload
    if bit m.mflags.toNat 0 then { d with epl := { d.epl with ksum := all } }
    else
      let d := { d with epl := { d.epl with ksum := [] } }
      let theirs := chunks 8 all
      let own := d.keySums
      if !d.epl.formed || (theirs.all own.contains && own.all theirs.contains) then d else d.keySkew

/-- KEY_SUMMARY_TIMER. -/
def Dev.keySummaryTimer (d : Dev) : Dev :=
  if d.rd F.EPL_MIRROR_ksum_s != 0 && !d.eplApart && !d.on F.EPL_STATUS_partner_retired then d.keySumSend else d

/-- SETTINGS: an item that the standby's image cannot read sets set_skew. -/
def Dev.settingsRx (d : Dev) (m : EplRx) (readable : Bool) : Dev :=
  d.eplIn m fun d =>
    if !d.follows then d
    else
      match itemOf m.payload with
      | none => d
      | some i =>
        if !readable then d.setF F.UPD_STATUS_set_skew
        else { d with upd := { d.upd with ops := d.upd.ops ++ [.item i false none 0] } }

/-- BOLERO: area bytes, or a group entry under the standby's own handle. -/
def Dev.boleroRx (d : Dev) (m : EplRx) : Dev :=
  d.eplIn m fun d =>
    let p := m.payload
    let off := leAt p 4 4
    let body := p.drop 8
    if !d.follows || 0x53000000 < off + body.length then d
    else if byteAt p 0 = 1 then
      let kid := leAt body 0 4
      let e := d.keyByKid 5 kid
      let d := if kid != 0 && e.isNone then d.keySkew else d
      let h := (e.map (·.handle)).getD 0
      let d := { d with bol := { d.bol with groups := tset d.bol.groups ((off - 0x51000000) / 16) (h + leAt body 4 2 * 2 ^ 32) } }
      (d.memWrB (d.bolArea + off) (leBytes 4 h ++ body.drop 4)).tableSave tabPush d.bol.groups none 0
    else
      let d := d.memWrB (d.bolArea + off) body
      if off < 0x50000000 then (d.campShow (off / 0x1400000)).bolShow else d

/-! ### Resynchronisation (R442) -/

/-- A resynchronised record: every group, then its frame fields with its bitmap joined to the standby's own. -/
def Dev.resyncApply (d : Dev) (b : List Byte) : Dev :=
  let i := leAt b 0 4
  let img := leAt b 8 256
  let old := d.msrPeek i
  let d := d.recordTake (deltaHead i 1 (rg img R.lastSeq) ++ leBytes 4 0x7F ++ leBytes 4 (leAt b 4 4) ++ leBytes 256 img)
  let r := d.msrPeek i
  if msrSize ≤ i || !d.on F.MSR_STATUS_ready || rg r R.state = stFree then d
  else
    let f := rg old R.frameCounter
    let c := rg img R.frameCounter
    let b0 := rg old R.replay
    let b1 := rg img R.replay
    let same := rg old R.state != stFree && rg old R.keyGen == rg img R.keyGen
    let take (r : Nat) : Nat := [(432, 1), (88, 2), (90, 2), (576, 32), (608, 32), (640, 512), (1152, 32), (1184, 16), (1200, 16),
      (1216, 48), (1312, 32), (1408, 32)].foldl (fun r (x : Nat × Nat) => rs r x (rg img x)) r
    let sh (b n : Nat) : Nat := if n < 64 then b * 2 ^ n % 2 ^ 64 else 0
    let r2 := if !same then rsAll (take r) [(448, 32, c), (512, 64, b1)]
      else if f < c then rsAll (take r) [(448, 32, c), (512, 64, sh b0 (c - f) ||| b1)]
      else rsAll r [(448, 32, f), (512, 64, b0 ||| sh b1 (f - c))]
    if r2 = r then d else d.msrPut i r2 0

/-- RESYNC: a request starts the active's stream; records apply; done ends the resynchronisation. -/
def Dev.resyncRx (d : Dev) (m : EplRx) : Dev :=
  d.eplIn m fun d =>
    let p := m.payload
    let op := byteAt p 0
    if op = 0 then (if d.mirrors then d.resyncStream (byteAt p 1) else d)
    else if !d.follows then d
    else if op = 1 then
      let d := match d.epl.resync with
        | some _ => d
        | none =>
          let d := { d with epl := { d.epl with resync := some { mode := byteAt p 1, cmd := none }, synced := false } }
          (d.setF F.EPL_STATUS_resyncing).clrF F.EPL_STATUS_standby_ready
      let es := (chunks 264 (p.drop 8)).take (leAt p 2 2)
      let d := es.foldl (fun (d : Dev) (b : List Byte) => d.resyncApply b) d
      { d with epl := { d.epl with resync := d.epl.resync.map (fun (r : EplResync) => { r with got := r.got ++ es.map (fun b => leAt b 0 4) }) } }
    else if op = 2 then
      match d.epl.resync with
      | none => d
      | some r =>
        let extra := (d.msrRecs.filter (fun e => rg e.2 R.state != stFree && !r.got.contains e.1)).map (·.1)
        let d := if r.mode = 0 then
            extra.foldl (fun (d : Dev) (i : Nat) => d.recordTake (deltaHead i 1 0 ++ leBytes 4 0x80 ++ zeros 4
              ++ leBytes 256 (rsAll 0 [(1472, 32, d.dwnNow)]))) d
          else d
        let later := d.epl.later
        let d := { d with epl := { d.epl with resync := none, synced := true, later := [] } }
        let d := (((d.clrF F.EPL_STATUS_resyncing).setF F.EPL_EVENT_resync_done).raise 458).standbyCheck
        let d := (r.cmd.map (fun c => d.okRes c r.got.length extra.length)).getD d
        later.foldl (fun (d : Dev) (x : Nat × List (List Byte)) => d.roundOpen x.1 x.2) d
    else d

/-! ### Commands (R447, R448) -/

/-- PAIR_INFO. -/
def Dev.pairInfo (d : Dev) (c : Desc) : Dev :=
  d.withFields c [] fun d =>
    d.okRes c (d.rd F.EPL_STATUS_neg_ver + d.rd F.EPL_STATUS_role * 2 ^ 16 + d.rd F.EPL_STATUS_token * 2 ^ 18
      + d.rd F.EPL_STATUS_standby_ready * 2 ^ 19 + d.rd F.EPL_TOKEN_term * 2 ^ 32) (d.rd F.EPL_PARTNER_EUI_LO_eui)

/-- PAIR_SWAP (R434). -/
def Dev.pairSwap (d : Dev) (c : Desc) : Dev :=
  d.withFields c [(24, 28)] fun d =>
    let delay := zeroAs (wArg c.w 24 4) 100
    if d.rd F.EPL_STATUS_role != 1 then d.fail c pairRole
    else if d.eplApart then d.fail c pairLink
    else if d.epl.swap.isSome then d.fail c stBusy
    else if !d.epl.ready then d.fail c pairNotReady
    else
      let d := { d with epl := { d.epl with swap := some (d.tick + delay * msNs, some c) } }
      (d.tokenHeldEnd.eplSend 4 (leBytes 4 delay)).bolShow

/-- PAIR_WITNESS_GRANT (R433, R245). -/
def Dev.pairWitnessGrant (d : Dev) (c : Desc) : Dev :=
  d.withFields c [(24, 32)] fun d =>
    let term := wArg c.w 24 4
    let ms := wArg c.w 28 4
    let role := d.rd F.EPL_STATUS_role
    let renewal := d.on F.EPL_STATUS_witness_held && d.epl.grant == some term && term == d.rd F.EPL_TOKEN_term
    if ms = 0 || 60000 < ms then d.fail c stBadField
    else if role = 2 || role = 3 then d.fail c pairRole
    else if !(d.rd F.EPL_TOKEN_term < term) && !renewal then d.fail c pairTerm
    else
      let d := (d.wr F.EPL_TOKEN_term term).tokenSet true
      let d := { d with epl := { d.epl with grant := some term, expiry := some (d.tick + ms * msNs) } }
      let d := d.setF F.EPL_STATUS_witness_held
      (if renewal then d else d.epochNew).bolShow.okRes c term

/-- PAIR_RESYNC. -/
def Dev.pairResync (d : Dev) (c : Desc) : Dev :=
  d.withFields c [(24, 25)] fun d =>
    let mode := wArg c.w 24 1
    if 1 < mode then d.fail c stBadField
    else if d.rd F.EPL_STATUS_role != 2 then d.fail c pairRole
    else if d.eplApart then d.fail c pairLink
    else if d.epl.resync.isSome then d.fail c stBusy
    else d.resyncAsk mode (some c)

/-- PAIR_MISMATCH_READ. -/
def Dev.pairMismatchRead (d : Dev) (c : Desc) : Dev :=
  d.withFields c [(8, 20)] fun d =>
    if wLen c.w % 24 != 0 then d.fail c stBadField
    else
      let got := d.epl.diverged.take (wLen c.w / 24)
      d.finish c { status := 0, result := got.length, data := [(wAddr c.w, got.flatten)] }

/-! ### Writes of EPL_CTRL -/

/-- Begin a HELLO exchange on a link that runs, as a change of pair_en asks (R427; log entry 15). -/
def Dev.helloAnew (d : Dev) : Dev :=
  if d.epl.lanes && d.domOn .epl then ({ d with epl := { d.epl with rxLast := none } }).helloEmit else d

/-- EPL_CTRL (R450, R427): an area outside fitted DRAM refuses pair_en; pair_en 0 is a lone device. -/
def Dev.eplCtrlWrite (d : Dev) (v : Nat) : Dev :=
  let was := d.on F.EPL_CTRL_pair_en
  let base := d.rd F.EPL_AREA_BASE_HI_base_hi * 2 ^ 32 + d.rd F.EPL_AREA_BASE_LO_base_lo * 2 ^ 30
  let d := d.regWrite32 0xF0000 v
  if d.on F.EPL_CTRL_pair_en then
    if was then d
    else if d.inDram base 0x24000000 then (d.commitRwl 0xF0000).bolShow.helloAnew
    else (d.clrF F.EPL_CTRL_pair_en).setF F.EPL_STATUS_area_bad
  else if was then
    let d := d.pairOver
    ((if d.rd F.EPL_STATUS_role == 3 then d else d.roleSet 0).clrF F.EPL_STATUS_witness_req).bolShow.helloAnew
  else d

/-- The resource command restores the partner, and a unit that retired itself (R443, R444). -/
def Dev.partnerRestore (d : Dev) : Dev :=
  let d := { d with epl := { d.epl with faults := [], selfRetired := false } }
  let d := d.clrF F.EPL_STATUS_partner_retired
  if d.rd F.EPL_STATUS_role == 3 then d.roleSet 0 else d

end Sys2Proof.Machine
end

