-- ==== Sys2Proof/Machine/Pmu.lean ====
section
/-! DEFINITION. The PMU and the DMC (chapter 17): modes, the Storm budget, temperature, the supply hold, the watchdog's first
half, retirement and restore by command, DRAM rows, Quadrille core faults, and the PMU's commands but Dormant. -/

namespace Sys2Proof.Machine

def pmuMode : Nat := 0x80A1
def pmuResTest : Nat := 0x80A2
def pmuResRange : Nat := 0x80A3
def pmuLast : Nat := 0x80A4

/-! ### The Storm budget and the throttles (R474, R475) -/

/-- The budget's largest value in ns. -/
def Dev.budgetMax (d : Dev) : Nat := zeroAs (d.rd F.PMU_STORM_max_s) 1 * sNs

/-- The budget now: it falls in an unthrottled Storm and fills at 1 / refill at every other time. -/
def Dev.budgetNow (d : Dev) : Nat :=
  let dt := d.clk - d.pmu.budgetAt
  if d.mode == .storm && !d.on F.PMU_STATUS_throttled then min d.budgetMax d.pmu.budget - dt
  else min d.budgetMax (d.pmu.budget + dt / zeroAs (d.rd F.PMU_STORM_refill) 1)

/-- Store the budget as of now and show it in units of 0.1 s. -/
def Dev.budgetTo (d : Dev) (b : Nat) : Dev :=
  ({ d with pmu := { d.pmu with budget := b, budgetAt := d.clk } }).wr F.PMU_STORM_budget (b / 100000000)

/-- Bring the stored budget up to date. -/
def Dev.budgetSettle (d : Dev) : Dev := d.budgetTo d.budgetNow

/-- Show whether either limit applies, and let lanes leave or join the active set (R132, R134). -/
def Dev.throttleShow (d : Dev) (before : List (Option Nat)) : Dev :=
  (d.flag F.REEL_STATUS_throttled (d.on F.PMU_STATUS_throttled || d.on F.PMU_STATUS_therm_throttle)).resteer before

/-- Engage or lift the budget's throttle. -/
def Dev.throttleTo (d : Dev) (b : Bool) : Dev :=
  if d.on F.PMU_STATUS_throttled == b then d
  else
    let before := d.laneMap
    ((d.flag F.PMU_STATUS_throttled b).raise 98).throttleShow before

/-- Engage or lift the thermal limit. -/
def Dev.thermTo (d : Dev) (b : Bool) : Dev :=
  if d.on F.PMU_STATUS_therm_throttle == b then d
  else
    let before := d.laneMap
    let d := ((d.flag F.PMU_STATUS_therm_throttle b).raise 101).trouble minuetId 2 8 (b2n b) (d.rd F.PMU_TEMP_tj)
    d.throttleShow before

/-- STORM_BUDGET_EXHAUSTED: the budget reaches 0 in an unthrottled Storm. -/
def Dev.stormBudgetExhausted (d : Dev) : Dev :=
  if d.mode == .storm && !d.on F.PMU_STATUS_throttled then (d.budgetTo 0).throttleTo true else d

/-- STORM_BUDGET_HALF: the budget reaches half of its largest value in a throttled Storm. -/
def Dev.stormBudgetHalf (d : Dev) : Dev :=
  if d.mode == .storm && d.on F.PMU_STATUS_throttled then (d.budgetTo (d.budgetMax / 2)).throttleTo false else d

/-- THERMAL_SAMPLE (R475): the hottest of the eight sensors. -/
def Dev.thermalSample (d : Dev) (tj sensor : Nat) : Dev :=
  let d := (d.wr F.PMU_TEMP_tj tj).wr F.PMU_TEMP_sensor sensor
  let d := if sgn 8 (d.rd F.PMU_THERM_tmax) < sgn 8 tj then d.wr F.PMU_THERM_tmax tj else d
  if (d.rd F.PMU_THERM_throttle_c : Int) ≤ sgn 8 tj then d.thermTo true else d

/-- THERMAL_THROTTLE_LIFT: 10 s at or below throttle_c − 5. -/
def Dev.thermalThrottleLift (d : Dev) : Dev :=
  if sgn 8 (d.rd F.PMU_TEMP_tj) ≤ (d.rd F.PMU_THERM_throttle_c : Int) - 5 then d.thermTo false else d

/-! ### Modes (R468–R473) -/

/-- The mode R469 gives. -/
def Dev.modeTarget (d : Dev) : Mode :=
  if d.rd F.EPL_STATUS_role == 2 then .shadow
  else if d.on F.REEL_STATUS_storm_req || d.on F.PMU_CTRL_storm_force then .storm
  else if d.on F.PMU_STATUS_isl_cond then .islanded
  else if d.on F.PMU_CTRL_base then .commission
  else .run

/-- Write mode and prev_mode, pend source 96 and log the change (R471). -/
def Dev.modeWrite (d : Dev) (new : Mode) : Dev :=
  let old := d.mode
  let d := (d.wr F.PMU_STATUS_prev_mode old.code).wr F.PMU_STATUS_mode new.code
  ((d.flag F.REEL_STATUS_storm (new == .storm)).raise 96).trouble minuetId 0 2 new.code old.code

/-- What Storm's end brings: the throttle lifts (R474), deferred collections go on (R407), held losses of attachment apply
(R111), and an activation that waited requests its restart (R466). -/
def Dev.stormEnd (d : Dev) : Dev :=
  let d := if d.on F.PMU_STATUS_throttled then (d.clrF F.PMU_STATUS_throttled).raise 98 else d
  let d := (d.clrF F.GAV_STATUS_gc_deferred).applyLostHeld
  if d.upd.due then
    { d with upd := { d.upd with due := false }, pmu := { d.pmu with soft := some 2 } }
  else d

/-- Enter a serving mode. -/
def Dev.modeEnter (d : Dev) (new : Mode) : Dev :=
  let old := d.mode
  let before := d.laneMap
  let b := d.budgetNow
  let d := (d.budgetTo b).modeWrite new
  let d := if old == .storm then d.stormEnd else d
  let d := if new == .storm && b < d.rd F.PMU_STORM_storm_min_s * sNs then (d.setF F.PMU_STATUS_throttled).raise 98 else d
  let d := d.throttleShow before
  let d := (d.plkMode old new).mzkMode old new
  let d := if old == .shadow then
      let d := d.epochNew
      let d := if d.on F.BOL_STATUS_running then d.campsResume else d
      d.ethFlow
    else d
  d.bolShow.reelRunningCheck.wlzRunCheck

/-- Follow R469 where it rules. -/
def Dev.modeSettle (d : Dev) : Dev :=
  if d.mode.serving && d.modeTarget != d.mode then d.modeEnter d.modeTarget else d

/-- MODE_CHANGE (R471). -/
def Dev.modeChange (d : Dev) : Dev := d.modeSettle

/-- ISLANDED_COND_SET (R472). -/
def Dev.islandedCondSet (d : Dev) : Dev :=
  if !d.on F.XDI_STATUS_host_present && !d.on F.ETH_COMMON_backhaul_present then d.setF F.PMU_STATUS_isl_cond else d

/-- ISLANDED_COND_CLEAR (R472). -/
def Dev.islandedCondClear (d : Dev) : Dev :=
  if d.on F.XDI_STATUS_host_present || d.on F.ETH_COMMON_backhaul_present then d.clrF F.PMU_STATUS_isl_cond else d

/-! ### The supply (R482, R483, R528) -/

/-- CORE_WARN_SET: the hold begins, and Gavotte programs what it owes (R409). -/
def Dev.coreWarnSet (d : Dev) (mv : Nat) : Dev :=
  let d := d.wr F.PMU_SUPPLY_vcore_mv mv
  if d.on F.PMU_STATUS_core_warn then d
  else
    let d := ((d.setF F.PMU_STATUS_core_warn).setF F.PMU_SUPPLY_warn_seen).bump F.PMU_SUPPLY_dips
    ((d.raise 99).trouble minuetId 1 7 1 mv).gavFlushAll

/-- CORE_WARN_CLEAR. -/
def Dev.coreWarnClear (d : Dev) (mv : Nat) : Dev :=
  let d := d.wr F.PMU_SUPPLY_vcore_mv mv
  if d.on F.PMU_STATUS_core_warn then ((d.clrF F.PMU_STATUS_core_warn).raise 99).trouble minuetId 1 7 0 mv else d

/-- PWR_WARN_FALL. -/
def Dev.pwrWarnFall (d : Dev) : Dev :=
  if d.on F.PMU_STATUS_pwr_warn then d
  else
    let d := ((d.setF F.PMU_STATUS_pwr_warn).setF F.PMU_SUPPLY_pwr_warn_seen).raise 100
    (d.trouble minuetId 1 7 2 (d.rd F.PMU_SUPPLY_vcore_mv)).gavFlushAll

/-- PWR_WARN_RISE. -/
def Dev.pwrWarnRise (d : Dev) : Dev :=
  if d.on F.PMU_STATUS_pwr_warn then
    ((d.clrF F.PMU_STATUS_pwr_warn).raise 100).trouble minuetId 1 7 3 (d.rd F.PMU_SUPPLY_vcore_mv)
  else d

/-- VAON_RESTORE and VBAT_RESTORE: the AON domain runs on as it does. -/
def Dev.vaonRestore (d : Dev) : Dev := { d with pmu := { d.pmu with vaon := true } }
def Dev.vbatRestore (d : Dev) : Dev := { d with pmu := { d.pmu with vbat := true } }

/-! ### The watchdog (R486) -/

/-- WDT_ENABLE: a write of PMU_WDT, whose write of 1 to enable commits the field. -/
def Dev.wdtEnable (d : Dev) (v : Nat) : Dev :=
  let was := d.on F.PMU_WDT_enable
  let d := d.regWrite32 0x10024 v
  if !was && d.on F.PMU_WDT_enable then
    { d.commitRwl 0x10000 with pmu := { d.pmu with half := false } }
  else d

/-- WDT_KICK: a write of PMU_WDT_KICK. -/
def Dev.wdtKick (d : Dev) (v : Nat) : Dev :=
  if v % 65536 = 0xD06E then { d with pmu := { d.pmu with half := false } } else d

/-- Whether the watchdog runs. -/
def Dev.wdtRuns (d : Dev) : Bool := d.on F.PMU_WDT_enable && d.mode.serving

/-- WDT_PREWARN. -/
def Dev.wdtPrewarn (d : Dev) : Dev :=
  if d.wdtRuns && !d.pmu.half then
    ({ d with pmu := { d.pmu with half := true } }.setF F.PMU_WDT_pre_warned).raise 103
  else d

/-! ### DRAM rows (R491) -/

/-- Show the selected entry of the repair table. -/
def Dev.rmapShow (d : Dev) : Dev :=
  let e := d.rd F.DMC_RMAP_SEL_entry
  (d.flag F.DMC_RMAP_SEL_valid (e < d.pmu.rows.length)).wr F.DMC_RMAP_DATA_row ((d.pmu.rows[e]?).getD 0)

/-- A row retires: repaired where its bank group has its resource left, counted otherwise. -/
def Dev.rowRetire (d : Dev) (row cause : Nat) : Dev :=
  let d := { d with pmu := { d.pmu with rowErrs := mdel d.pmu.rowErrs row } }
  let free := d.pmu.rows.all (fun r => r / 2 ^ 25 != row / 2 ^ 25) && decide (d.pmu.rows.length < 512)
  let d := if free then
      (({ d with pmu := { d.pmu with rows := d.pmu.rows ++ [row] } }).raise 482).trouble minuetId 2 0xE 3 row
    else ((d.bump F.DMC_ECC_unrepaired).raise 483).trouble minuetId 2 0xE 4 row
  (d.retireLog minuetId 5 row cause).rmapShow

/-- DRAM_ECC_CORRECTED. -/
def Dev.dramEccCorrected (d : Dev) (row : Nat) : Dev :=
  let d := (d.bump F.DMC_ECC_corrected).wr F.DMC_LAST_ERR_row row
  let d := (d.raise 480).trouble minuetId 2 0xE 1 row
  let win := zeroAs (d.rd F.DMC_ROW_CFG_row_win) 1 * 3600 * sNs
  let l := (mgetD d.pmu.rowErrs row []).filter (fun t => d.clk < t + win) ++ [d.clk]
  let d := { d with pmu := { d.pmu with rowErrs := mput d.pmu.rowErrs row l } }
  let thr := d.rd F.DMC_ROW_CFG_row_thr
  if thr != 0 && thr ≤ l.length then d.rowRetire row (Config.retireCause 5 1).toNat else d

/-- DRAM_ECC_UNCORRECTABLE: the word stays poisoned until it is next written. -/
def Dev.dramEccUncorrectable (d : Dev) (row addr : Nat) : Dev :=
  let d := (d.bump F.DMC_ECC_uncorrected).wr F.DMC_LAST_ERR_row row
  let d := (d.raise 481).trouble minuetId 2 0xE 2 row
  let a := addr / 4 * 4
  let p := if d.pmu.poison.contains a then d.pmu.poison else d.pmu.poison ++ [a]
  ({ d with pmu := { d.pmu with poison := p } }).rowRetire row (Config.retireCause 5 2).toNat

/-! ### Quadrille cores (R492) -/

/-- A core retires: its offers are withdrawn and its active sources end as if completed. -/
def Dev.coreRetire (d : Dev) (t cause : Nat) : Dev :=
  if bit (d.rd F.PMU_CORE_retired) t then d
  else
    let d := d.wrBit F.PMU_CORE_retired t true
    let d := d.withdraw (fun k _ => k / 2 == t)
    let busy : List Nat := (d.icu.active.filter (fun e => e.2 == ActAt.target t)).map (·.1)
    let d := busy.foldl (fun (d : Dev) (n : Nat) => d.icuDone t n) d
    let d := { d with icu := { d.icu with cores := mdel d.icu.cores t } }
    let d := (d.raise 105).retireLog minuetId 6 t cause
    if d.rd F.PMU_CORE_retired == 255 then { d with upd := { d.upd with recovery := true } } else d

/-- CORE_ECC_ERROR. -/
def Dev.coreEccError (d : Dev) (t : Nat) (permanent : Bool) : Dev :=
  if bit (d.rd F.PMU_CORE_retired) t then d
  else if permanent then d.coreRetire t (Config.retireCause 6 2).toNat
  else
    let win := zeroAs (d.rd F.PMU_CORE_CFG_window) 1 * sNs
    let l := (mgetD d.pmu.coreFaults t []).filter (fun x => d.clk < x + win) ++ [d.clk]
    let d := { d with pmu := { d.pmu with coreFaults := mput d.pmu.coreFaults t l } }
    let d := ((d.bump F.PMU_CORE_transients).raise 105).trouble minuetId 1 4 6 t l.length
    let thr := d.rd F.PMU_CORE_CFG_retire_thr
    if thr != 0 && thr ≤ l.length then d.coreRetire t (Config.retireCause 6 1).toNat else d

/-- CORE_PROBE_TIMEOUT. -/
def Dev.coreProbeTimeout (d : Dev) (t : Nat) : Dev := d.coreRetire t (Config.retireCause 6 2).toNat

/-! ### Resources by command (R493, R494) -/

/-- How many resources of a kind there are; a DRAM row is named by an encoded index. -/
def resCount (kind : Nat) : Nat :=
  if kind = 0 || kind = 1 then 16 else if kind = 2 || kind = 3 then 12 else if kind = 4 then 128
  else if kind = 5 then 2 ^ 32 else if kind = 6 then 8 else if kind = 7 then 1 else 0

/-- Whether the kind and index are valid. -/
def resOk (kind idx : Nat) : Bool := decide (idx < resCount kind) && (kind != 5 || bits idx 18 5 == 0)

/-- Whether a resource is retired. -/
def Dev.resRetired (d : Dev) (kind idx : Nat) : Bool :=
  match kind with
  | 0 => d.laneRetired idx
  | 1 => d.on (F.PLK_STATUS_retired.at idx)
  | 2 => d.on (F.MZK_STATUS_retired.at idx)
  | 3 => d.on (F.ETH_STATUS_retired.at idx)
  | 4 => bit (d.rd (F.GAV_DIE_RET_retired.at (idx / 32))) (idx % 32)
  | 5 => (mget? d.pmu.causes (5 * 2 ^ 32 + idx)).isSome
  | 6 => bit (d.rd F.PMU_CORE_retired) idx
  | _ => d.on F.EPL_STATUS_partner_retired

/-- The ticks of a resource's transient faults and its window in ns. -/
def Dev.resFaults (d : Dev) (kind idx : Nat) : List Nat × Nat :=
  match kind with
  | 0 => ((d.lane idx).faults, zeroAs (d.rd F.REEL_ERR_CFG_window) 1 * sNs)
  | 1 => ((d.plc idx).faults, zeroAs (d.rd (F.PLK_ERR_CFG_window.at idx)) 1 * sNs)
  | 2 => ((d.rad idx).faults, zeroAs (d.rd (F.MZK_ERR_CFG_window.at idx)) 1 * sNs)
  | 3 => ((d.ethP idx).faults, zeroAs (d.rd (F.ETH_ERR_CFG_window.at idx)) 1 * sNs)
  | 4 => (mgetD d.gav.dieEv idx [], zeroAs (d.rd F.GAV_ERR_CFG_window) 1 * sNs)
  | 5 => (mgetD d.pmu.rowErrs idx [], zeroAs (d.rd F.DMC_ROW_CFG_row_win) 1 * 3600 * sNs)
  | 6 => (mgetD d.pmu.coreFaults idx [], zeroAs (d.rd F.PMU_CORE_CFG_window) 1 * sNs)
  | _ => (d.epl.faults, zeroAs (d.rd F.EPL_ERR_CFG_window) 1 * sNs)

/-- The transients of a resource within its window now. -/
def Dev.resTransients (d : Dev) (kind idx : Nat) : Nat :=
  let w := d.resFaults kind idx
  let now := if kind = 5 || kind = 6 then d.clk else d.tick
  (w.1.filter (fun t => now < t + w.2)).length

/-- The result of PMU_RESOURCE. -/
def Dev.resResult (d : Dev) (kind idx : Nat) : Nat :=
  let r := d.resRetired kind idx
  b2n r + (if r then (mget? d.pmu.causes (kind * 2 ^ 32 + idx)).getD 0 else 0) * 256 + min (d.resTransients kind idx) 65535 * 65536

/-- A retirement by command acts as a permanent fault. -/
def Dev.resRetire (d : Dev) (kind idx : Nat) : Dev :=
  if d.resRetired kind idx then d
  else match kind with
  | 0 => (d.raise (129 + 4 * idx)).laneRetire idx 6
  | 1 => d.plcPermanentFault idx 5
  | 2 => d.mzkPermanentFault idx 6
  | 3 => d.ethPermanentFault idx 5
  | 4 => d.dieRetire idx (Config.retireCause 4 3).toNat []
  | 5 => d.rowRetire idx (Config.retireCause 5 3).toNat
  | 6 => d.coreRetire idx (Config.retireCause 6 3).toNat
  | _ => d.partnerRetire (Config.retireCause 7 3).toNat

/-- The restore step of R490, with the retired bit, the cause and the window count cleared. -/
def Dev.resRestore (d : Dev) (kind idx : Nat) : Dev :=
  let d := { d with pmu := { d.pmu with causes := mdel d.pmu.causes (kind * 2 ^ 32 + idx) } }
  match kind with
  | 0 =>
    let before := d.laneMap
    let d := (d.wrBit F.REEL_LANES_retired idx false).clrF (F.REEL_LANE_STAT_retired.at idx)
    let d := (d.wr (F.REEL_LANE_STAT_retire_cause.at idx) 0).wr (F.REEL_LANE_STAT_transients.at idx) 0
    let d := d.setLane idx { d.lane idx with faults := [] }
    ({ d with reel := { d.reel with ovr := d.reel.ovr.filter (fun e => d.rd (steerFld e.1) != idx) } }).resteer before
  | 1 =>
    let d := (d.clrF (F.PLK_STATUS_retired.at idx)).wr (F.PLK_STATUS_retire_cause.at idx) 0
    let d := d.modPlc idx (fun (c : Plc) => { c with faults := [] })
    if d.on (F.PLK_CTRL_enable.at idx) then d.plcListen idx else d
  | 2 =>
    let d := (d.clrF (F.MZK_STATUS_retired.at idx)).wr (F.MZK_STATUS_retire_cause.at idx) 0
    (d.modRad idx (fun (c : Rad) => { c with faults := [] })).mzkSyncCh idx
  | 3 =>
    let d := (d.clrF (F.ETH_STATUS_retired.at idx)).wr (F.ETH_STATUS_retire_cause.at idx) 0
    let d := d.modEthP idx (fun (p : EthPort) => { p with faults := [] })
    (d.flag (F.ETH_STATUS_running.at idx) (d.on (F.ETH_CTRL_enable.at idx))).presence
  | 4 => ({ d with gav := { d.gav with dieEv := mdel d.gav.dieEv idx } }).setDieRet idx false
  | 6 =>
    let d := { d with pmu := { d.pmu with coreFaults := mdel d.pmu.coreFaults idx } }
    d.wrBit F.PMU_CORE_retired idx false
  | _ => d.partnerRestore

/-- The part of PMU_RESOURCE every operation shares: the operation, a valid kind and index. -/
def Dev.resCmd (d : Dev) (c : Desc) (op : Nat) (k : Dev → Nat → Nat → Dev) : Dev :=
  d.withFields c [(24, 26), (28, 32)] fun d =>
    let kind := wArg c.w 25 1
    let idx := wArg c.w 28 4
    if wArg c.w 24 1 != op then d.fail c stBadField
    else if !resOk kind idx then d.fail c pmuResRange
    else k d kind idx

/-- PMU_RESOURCE_RETIRE: the last lane or core in service stays. -/
def Dev.pmuResourceRetire (d : Dev) (c : Desc) : Dev :=
  d.resCmd c 0 fun d kind idx =>
    let last := (kind = 0 && d.rd F.REEL_LANES_retired + 2 ^ idx = 65535 && !d.laneRetired idx)
      || (kind = 6 && d.rd F.PMU_CORE_retired + 2 ^ idx = 255 && !bit (d.rd F.PMU_CORE_retired) idx)
    if last then d.fail c pmuLast
    else
      let d := d.resRetire kind idx
      d.okRes c (d.resResult kind idx)

/-- PMU_RESOURCE_RESTORE: `pass` says whether the restore step's test passes. -/
def Dev.pmuResourceRestore (d : Dev) (c : Desc) (pass : Bool) : Dev :=
  d.resCmd c 1 fun d kind idx =>
    if kind = 5 then d.fail c pmuResRange
    else if !d.resRetired kind idx then d.okRes c (d.resResult kind idx)
    else if !pass then d.fail c pmuResTest
    else
      let d := d.resRestore kind idx
      d.okRes c (d.resResult kind idx)

/-- PMU_RESOURCE_QUERY. -/
def Dev.pmuResourceQuery (d : Dev) (c : Desc) : Dev :=
  d.resCmd c 2 fun d kind idx => d.okRes c (d.resResult kind idx)

/-! ### The other commands (R494) -/

/-- PMU_MODE_SET: one of its operations. -/
def Dev.modeCmd (d : Dev) (c : Desc) (op : Nat) (k : Dev → Dev) : Dev :=
  d.withFields c [(24, 25)] fun d => if wArg c.w 24 1 != op then d.fail c stBadField else k d

/-- A change of the mode's conditions: the result is the mode's code after it. -/
def Dev.modeAfter (d : Dev) (c : Desc) : Dev :=
  let d := d.modeSettle
  d.okRes c d.mode.code

/-- PMU_MODE_SET_RUN, PMU_MODE_SET_COMMISSION, PMU_STORM_FORCE_SET, PMU_STORM_FORCE_CLEAR. -/
def Dev.pmuModeSetRun (d : Dev) (c : Desc) : Dev := d.modeCmd c 0 fun d => (d.clrF F.PMU_CTRL_base).modeAfter c
def Dev.pmuModeSetCommission (d : Dev) (c : Desc) : Dev := d.modeCmd c 1 fun d => (d.setF F.PMU_CTRL_base).modeAfter c
def Dev.pmuStormForceSet (d : Dev) (c : Desc) : Dev := d.modeCmd c 2 fun d => (d.setF F.PMU_CTRL_storm_force).modeAfter c
def Dev.pmuStormForceClear (d : Dev) (c : Desc) : Dev := d.modeCmd c 3 fun d => (d.clrF F.PMU_CTRL_storm_force).modeAfter c

/-- PMU_RESET_SOFT: the reset itself follows as SOFTRST. -/
def Dev.pmuResetSoft (d : Dev) (c : Desc) : Dev :=
  d.withFields c [(24, 26)] fun d =>
    if wArg c.w 24 1 != 0 || wArg c.w 25 1 != 0 then d.fail c stBadField
    else ({ d with pmu := { d.pmu with soft := some 1 } }).okRes c

/-- PMU_RESET_DOMAIN: the completion is written when the domain is back. -/
def Dev.pmuResetDomain (d : Dev) (c : Desc) : Dev :=
  d.withFields c [(24, 26)] fun d =>
    let n := wArg c.w 25 1
    if wArg c.w 24 1 != 1 then d.fail c stBadField
    else if 15 ≤ n || n = 0 || n = 12 then d.fail c pmuResRange
    else
      ({ d with pmu := { d.pmu with domCmds := mput d.pmu.domCmds n c } }).wrBit F.PMU_DOM_rst n true

/-! ### PMU_CTRL (R478) -/

/-- The domains off_mask names, by its bits from [22] up: AGE, BHE, EPL, FEB, WLZ, QDB. -/
def offDoms : List Dom := [.age, .bhe, .epl, .feb, .wlz, .qdb]

/-- Switch a domain on or off in a serving mode. -/
def Dev.domSwitch (d : Dev) (x : Dom) (on : Bool) : Dev :=
  if d.domOn x == on then d
  else
    let d := d.wrBit F.PMU_DOM_on x.idx on
    match x with
      | .epl => if on then d else { d.eplDown with epl := { d.eplDown.epl with lanes := false } }
      | .wlz => if on then d else d.wlzRunCheck
      | .bhe => d.presence
      | _ => d

/-- Switch the domains that off_mask names off and the others on. -/
def Dev.offMaskApply (d : Dev) : Dev :=
  let m := d.rd F.PMU_CTRL_off_mask
  (List.range 6).foldl (fun (d : Dev) (k : Nat) => match offDoms[k]? with
    | some x => d.domSwitch x (!bit m k)
    | none => d) d

/-- PMU_OFF_MASK_WRITE: a write of PMU_CTRL. -/
def Dev.pmuOffMaskWrite (d : Dev) (v : Nat) : Dev :=
  let d := d.regWrite32 0x10000 v
  if d.mode.serving then d.offMaskApply else d

end Sys2Proof.Machine
end

