-- ==== Sys2Proof/Machine/Reset.lean ====
section
/-! DEFINITION. Resets, Dormant and wake (chapter 17: R480, R481, R485–R489), and the resets of the host's side (R45, R73):
what each of them leaves of the state of every block (R488). -/

namespace Sys2Proof.Machine

/-! ### What a reset leaves of each block -/

/-- Reset a whole register window over a reset kind. -/
def Dev.winReset (d : Dev) (k : RstKind) (w : Nat) : Dev := d.resetWindow w k (fun _ => true)

/-- Empty the FIFOs whose registers lie in a range. -/
def Dev.fifosGone (d : Dev) (lo hi : Nat) : Dev := { d with fifos := d.fifos.filter (fun e => !(lo ≤ e.1 && e.1 < hi)) }

/-- Show every level source's input as its block now holds it. -/
def Dev.levelsShow (d : Dev) : Dev := foldN 512 (fun n (d : Dev) => if isLevelSource n then d.syncInput n else d) d

/-- The Hall is zeroed (R487). -/
def Dev.hallGone (d : Dev) : Dev := d.memGone hallBase (hallBase + 0x3000000)

/-- Commits in flight finish (R149, R485, R487). -/
def Dev.commitsFinish (d : Dev) : Dev :=
  foldN 16 (fun l (d : Dev) => foldN 4 (fun _ (d : Dev) => d.commitPacket l) d) d

/-- Bolero's pending commands end with last_outcome 5 (R246); a COMMAND campaign's member fails with its command (log entry 60). -/
def Dev.bolEnd (d : Dev) : Dev :=
  (d.bol.cmds.foldl (fun (d : Dev) (b : BCmd) =>
    let o := dlOff b.index
    let d := d.bolWr o 16 (setByts (setByts (setBits (d.bolRd o 16) 81 1 0) 11 1 5) 12 4 d.dwnNow)
    match b.src with
    | .member c k => d.mSet c k 7 0
    | _ => d) d).cmdsSet []

/-- What Bolero keeps while its area stays in DRAM, and after the area's loss (R246). -/
def Dev.bolOver (d : Dev) (dram : Bool) : Bol :=
  if dram then { groups := d.bol.groups, areaLost := d.bol.areaLost, lostSlots := d.bol.lostSlots, dlGen := d.bol.dlGen, spent := d.bol.spent,
                 mpath := d.bol.mpath, epochDue := d.bol.epochDue, ended := d.bol.ended, fresh := d.bol.fresh }
  else { lostSlots := if d.bol.areaLost then d.bol.lostSlots else (List.range 64).filter (fun c => d.cPhase c != 0) }

/-- What the MSR block keeps: its table in DRAM, its checkpoints in NAND (R117, R118). -/
def Msr.ovr (m : Msr) (dram : Bool) : Msr :=
  if dram then { dram := m.dram, tableAt := m.tableAt, virgin := m.virgin, skip := m.skip, freed := m.freed, rebuilt := m.rebuilt,
                 copies := m.copies, newer := m.newer }
  else { copies := m.copies, newer := m.newer }

/-- What the commit unit keeps: the two marks and the extension units while DRAM stays (R148). -/
def Dev.cuOver (d : Dev) (dram : Bool) : CommitUnit :=
  if dram then
    { kept := if d.rd F.REEL_SEQ_NEXT_LO_seq_next = 0 then d.cu.kept
              else some (d.rd F.REEL_STG_PUB_LO_stg_pub, d.rd F.REEL_WLZ_ACK_LO_wlz_ack),
      units := d.cu.units, unitNext := d.cu.unitNext }
  else {}

/-- What Waltz keeps while DRAM stays: what it has applied beyond REEL_WLZ_ACK, and feeds whose tamper is not yet judged (R190,
R215). -/
def Wlz.kept (w : Wlz) (dram : Bool) : Wlz := if dram then { ahead := w.ahead, failed := w.failed } else {}

/-- WLZ_LAST_CLOSED resets to what a valid history holds: the last base interval closed (R220). -/
def Dev.lastClosed (d : Dev) (b : Nat) : Dev := if d.on F.WLZ_STATUS_hist_valid then d.wr F.WLZ_LAST_CLOSED_b b else d

/-- A rule bank of its image's bytes, where they pass its checks (R164). -/
def bankOf (l : List Byte) : Option Bank := if bankOk l then some (.image (leNat l) (leAt l 4 4)) else none

/-- The Reel rule microcode of the slot that runs; the image the board comes with holds the present release's standard chain. -/
def Dev.slotBank (d : Dev) : Option Bank :=
  match mget? d.upd.slots (d.rd F.UPD_STATUS_slot) with
  | none => none
  | some img => if img.bytes.isEmpty then some .standard else (slotComp img 3).bind bankOf

/-- Minuet loads VAL bank A: the bank saved with persist, or the slot's microcode (R167). -/
def Dev.valReload (d : Dev) : Dev :=
  match ((d.savedTable tabRules).bind (fun t => bankOf (tabImg t))) <|> d.slotBank with
  | some b => ({ d with val := { d.val with banks := [(0, b)] } }).setF F.VAL_STATUS_ready
  | none => { d with val := { d.val with banks := [] } }

/-- The registers of VAL, MSR and Bolero whose reset value comes from the NAND journal (R118, R176, R225): the unit of the
journaled mark, the last checkpoint's sequence, the epoch. -/
def Dev.journalUnit (d : Dev) : Dev :=
  d.wr F.VAL_PAIR_unit (((mget? d.gav.sysval 1).getD 0) / 2 ^ 63)
def Dev.journalFab (d : Dev) : Dev :=
  let d := ((mget? d.gav.sysval 3).map (fun v => d.epochLoad v)).getD d
  ((mget? d.gav.sysval 4).map (fun v => d.wr F.MSR_CKPT_SEQ_LO_ckpt_seq v)).getD d

/-- The key store after a reset of KEYC: the NVM, and what the AON domain holds (R264, R266, R275). -/
def Pav.ovr (p : Pav) : Pav :=
  { kek := p.kek, nvm := p.nvm, issue := p.issue, check := p.check, succ := p.succ, bad := p.bad, cutStage := p.cutStage, tlog := p.tlog }

/-- UPD after a start's reset: what QSPI, the fuses and the AON SRAM keep; a program under way is torn (R452, R462). -/
def Upd.ovr (u : Upd) : Upd :=
  { recs := u.recs, slots := u.slots, stores := u.stores, fuses := u.fuses, revoked := u.revoked, tables := u.tables, lastOk := u.lastOk,
    nextId := u.nextId, recovery := u.recovery }

/-- Reset every domain but AON, over a reset kind; `dram` says whether DRAM keeps its content. DESIGN CHOICE (log entry 56): held _HI
writes and captured _HI values do not outlive it. -/
def Dev.mainReset (d : Dev) (k : RstKind) (dram : Bool) : Dev :=
  let d := if dram then d.commitsFinish.bolEnd.msrClean else d
  let d := (d.updSessionEnd true).pavCut
  let soft := k == .softrst || k == .wdtrst
  let main := k == .mainpor || k == .aonpor
  let b := d.lastB
  let bol := d.bolOver dram
  let cu := d.cuOver dram
  let d := { d with
    fifos := [], icu := {}, sys := { alertDue := d.sys.alertDue, committed := d.sys.committed },
    msr := d.msr.ovr dram, cu := cu, reel := {}, val := {}, wlz := d.wlz.kept dram, bol := bol, pav := d.pav.ovr, plk := [],
    mzk := { spent := if dram then d.mzk.spent else [] }, eth := {}, gav := d.gav.stopped,
    epl := { selfRetired := d.epl.selfRetired }, upd := d.upd.ovr, log := if soft then d.log else {}, srb := {},
    pmu := { d.pmu with half := false, soft := none, domCmds := [], coreFaults := [], rowErrs := [],
                        causes := if main then [] else d.pmu.causes, rows := if main then [] else d.pmu.rows,
                        poison := if dram then d.pmu.poison else [] } }
  let d := (d.xdiReset k 0).logRingSync
  let d := { d with xdi := { perst := d.xdi.perst } }
  let d := [0, 2, 4, 5, 6, 7, 8, 9, 0xA, 0xB, 0xC, 0xD, 0xE, 0xF, 0x11, 0x12].foldl (fun (d : Dev) (w : Nat) => d.winReset k w) d
  let d := if dram then (d.lastClosed b).flag F.REEL_STATUS_recovering d.cu.kept.isSome else d
  let d := d.hallGone.journalUnit
  let d := if dram then d.setF F.DMC_STATUS_self_refresh else d.memGone dramBase (2 ^ 41)
  let d := if d.epl.selfRetired then d.wr F.EPL_STATUS_role 3 else d
  if soft || k == .dormantExit then d else d.tsuStart

/-- Reset the AON domain's registers by their Kept over columns; the supply levels read as they are. -/
def Dev.aonRegs (d : Dev) (k : RstKind) : Dev :=
  let c := d.on F.PMU_STATUS_core_warn
  let p := d.on F.PMU_STATUS_pwr_warn
  let d := d.budgetSettle
  let d := (d.winReset k 1).winReset k 0x10
  (d.flag F.PMU_STATUS_core_warn c).flag F.PMU_STATUS_pwr_warn p

/-- What a start records in PMU_RST_CAUSE (R498). -/
def Dev.startCause (d : Dev) (kind wake src : Nat) : Dev :=
  (((d.wr F.PMU_RST_CAUSE_kind kind).wr F.PMU_RST_CAUSE_wake wake).wr F.PMU_RST_CAUSE_soft_src src).incr F.PMU_RST_CAUSE_count

/-! ### The resets of the whole device (R485) -/

/-- AONPOR: the KEK, the tamper log and AON's own state are lost; the store reads zeroised with cause 3 (R272). -/
def Dev.aonpor (d : Dev) : Dev :=
  let d := (d.aonRegs .aonpor).mainReset .aonpor false
  let d := d.memGone 0x08000000 0x08040000
  let d := { d with
    clk := 0, rtc := {}, sys := { committed := d.sys.committed }, epl := {},
    pav := { d.pav with kek := none, succ := [], tlog := [] }, upd := { d.upd with lastOk := none, recovery := false },
    pmu := { vaon := d.pmu.vaon, vbat := d.pmu.vbat } }
  let d := (d.wr F.PMU_STORM_budget 0x4B0).wr F.EPL_STATUS_role 0
  ((d.wr F.UPD_FUSE_f d.upd.fuses).wr F.UPD_FUSE_revoked d.upd.revoked).tsuStart

/-- A reset of every domain but AON that loses DRAM. -/
def Dev.coldReset (d : Dev) (k : RstKind) (kind : Nat) : Dev := ((d.mainReset k false).aonRegs k).startCause kind 0 0

/-- STRAP_SAMPLE (R530): STRAP0–STRAP3 as they stand when MAINPOR or PINRST ends. STRAP0 chooses how QSPI is read from the first
access; STRAP3 at 1 is reserved and chooses nothing. -/
def Dev.strapSample (d : Dev) (straps : Nat) : Dev := { d with pmu := { d.pmu with straps := straps, qspiDtr := bit straps 0 } }

/-- STRAP1: whether PCIe runs on a reference of its own, without SSC. -/
def Dev.pcieOwnRef (d : Dev) : Bool := bit d.pmu.straps 1

/-- STRAP2: the rate of the U0 console in bit/s. -/
def Dev.u0Rate (d : Dev) : Nat := if bit d.pmu.straps 2 then 921600 else 115200

/-- MAINPOR. -/
def Dev.mainpor (d : Dev) (straps : Nat) : Dev :=
  ((d.coldReset .mainpor 1).clrF F.PMU_RST_CAUSE_supply_reset).strapSample straps

/-- CORE_UNDERVOLT_RESET (R482): a MAINPOR with supply_reset. -/
def Dev.coreUndervoltReset (d : Dev) (straps : Nat) : Dev :=
  ((d.coldReset .mainpor 1).setF F.PMU_RST_CAUSE_supply_reset).strapSample straps

/-- PINRST. -/
def Dev.pinrst (d : Dev) (straps : Nat) : Dev := (d.coldReset .pinrst 2).strapSample straps

/-- SOFTRST, requested by a source as soft_src codes it: DRAM is kept. -/
def Dev.softReset (d : Dev) (src : Nat) : Dev := ((d.mainReset .softrst true).aonRegs .softrst).startCause 3 0 src

/-- SOFTRST: the request that waits, or Minuet's own. -/
def Dev.softrst (d : Dev) : Dev := d.softReset (d.pmu.soft.getD 3)

/-- WDTRST: the watchdog runs and passed its first half. -/
def Dev.wdtrst (d : Dev) : Dev :=
  if d.wdtRuns && d.pmu.half then ((d.mainReset .wdtrst true).aonRegs .wdtrst).startCause 4 0 0 else d

/-- VAON_LOSS and VBAT_LOSS (R528, R532): the AON domain falls only without both. -/
def Dev.vaonLoss (d : Dev) : Dev :=
  let d := { d with pmu := { d.pmu with vaon := false } }
  if d.pmu.vbat then d else d.aonpor
def Dev.vbatLoss (d : Dev) : Dev :=
  let d := { d with pmu := { d.pmu with vbat := false } }
  if d.pmu.vaon then d else d.aonpor

/-! ### Dormant (R476, R480, R481) -/

/-- Enter Dormant: commits finish, the MSR is cleaned, Gavotte stops cleanly, every domain but AON goes off. -/
def Dev.dormantEnter (d : Dev) (thermal : Bool) : Dev :=
  let d := d.commitsFinish.gavCleanStop
  let d := d.msrClean.budgetSettle
  let keep := thermal || d.on F.PMU_CTRL_dram_keep
  let d := d.modeWrite .dormant
  let d := d.mainReset .dormantExit keep
  let d := (d.flag F.PMU_CTRL_dram_keep keep).flag F.PMU_RST_CAUSE_thermal_stop thermal
  let d := (d.clrF F.PMU_STATUS_throttled).clrF F.PMU_STATUS_storm_req
  d.wr F.PMU_DOM_on 1

/-- PMU_MODE_SET_DORMANT: the completion is written first. -/
def Dev.pmuModeSetDormant (d : Dev) (c : Desc) : Dev :=
  d.modeCmd c 4 fun d =>
    match d.mode with
    | .commission | .run | .islanded | .shadow | .recovery =>
      let d := d.okRes c 0
      let d := match c.via with
        | .ring n => foldN (d.pair n.val).waiting.length (fun _ (d : Dev) => d.completionPost n.val) d
        | .mailbox _ _ => d
      d.dormantEnter false
    | .dormant | .boot | .storm => d.fail c pmuMode

/-- THERMAL_STOP. -/
def Dev.thermalStop (d : Dev) : Dev :=
  if d.mode == .dormant then d
  else (d.trouble minuetId 2 8 2 (d.rd F.PMU_TEMP_tj)).dormantEnter true

/-- Leave Dormant for a cause: a cold start that counts as a PINRST. After a thermal stop only the thermal restart wakes. -/
def Dev.wake (d : Dev) (cause : Nat) : Dev :=
  if d.mode != .dormant || d.on F.PMU_RST_CAUSE_thermal_stop != (cause == 4) then d
  else (d.aonRegs .dormantExit).tsuStart.startCause 5 cause 0

/-- THERMAL_RESTART. -/
def Dev.thermalRestart (d : Dev) : Dev := d.wake 4

/-- RTC_ALARM_WAKE. -/
def Dev.rtcAlarmWake (d : Dev) : Dev := if d.on F.PMU_WAKE_rtc_en then d.wake 2 else d

/-- PERST_WAKE: PERST# rises in Dormant. -/
def Dev.perstWake (d : Dev) : Dev :=
  let d := if d.mode == .dormant then { d with xdi := { d.xdi with perst := false } } else d
  if d.on F.PMU_WAKE_perst_en then d.wake 3 else d

/-- ETH_WAKE (R383). -/
def Dev.ethWake (d : Dev) (n : Nat) (frame : Option (List Byte)) : Dev :=
  if d.mode != .dormant || d.on F.PMU_RST_CAUSE_thermal_stop then d
  else
    let x := d.wakeSeen n frame
    if x.2 then x.1.wake 1 else x.1

/-! ### DOMRST (R487) -/

/-- What a reset of FAB leaves of the Ethernet block beyond its registers: the ports' state, without the concentrator and learning
tables and what waited for a concentrator (Bolero is reset with FAB). -/
def Eth.ovr (e : Eth) : Eth := { ports := e.ports.map (fun x => (x.1, { x.2 with grams := [] })) }

/-- Ports whose domain is reset: the downlink entries that waited there come back to Bolero as undeliverable (log entry 18). -/
def Dev.ethGone (d : Dev) (which : Nat → Bool) : Dev :=
  let l := (d.eth.ports.filter (fun e => which e.1)).flatMap (fun e => e.2.grams.flatMap (fun g => g.entries.map (·.1)))
  let d := { d with eth := { d.eth with ports := d.eth.ports.filter (fun e => !which e.1) } }
  l.foldl (fun d f => d.dlReturned f) d

/-- PLC and radio channels whose domain is reset: the downlink frames they held come back to Bolero as undeliverable (log
entry 18). -/
def Dev.febGone (d : Dev) : Dev :=
  let plk := d.plk
  let mzk := d.mzk.chans
  let d := { d with plk := [], mzk := { spent := d.mzk.spent } }
  let d := plk.foldl (fun d e => (e.2.uni ++ e.2.bcast).foldl (fun d j => d.plcReturn e.1 j) d) d
  mzk.foldl (fun d e => d.radBack e.2.frames) d


/-- The descriptors a domain's engines hold: its reset abandons them (R58, R487; log entry 16). Those of secure discards, whose
completion is discarded (R409), and those that wait for the key store stand apart. -/
def Dev.domDescs (d : Dev) : Dom → List Desc
  | .fab =>
    d.msr.queue.filterMap (fun q => match q with
      | .cmd c => some c
      | .assign c _ _ => some c
      | _ => none)
    ++ d.bol.outq.filterMap (fun f => match f.why with
      | .apdu c => some c
      | _ => none)
    ++ d.bol.cmds.filterMap (fun b => match b.src with
      | .desc c => some c
      | _ => none)
    ++ d.bol.waiters.map (·.2)
  | .reel => d.val.swap.toList ++ d.val.reseq.toList ++ d.val.inject
  | .wlz => (d.wlz.rebuild.bind (·.1)).toList ++ (d.wlz.infer.bind (·.cmd)).toList ++ (d.wlz.score.bind (·.1)).toList ++ d.wlz.loads
  | .gav => d.gav.writes.map (·.1) ++ d.gav.trims.map (·.1) ++ d.gav.flushes.map (·.1) ++ d.gav.gcNow.map (·.1)
  | .epl => (d.epl.swap.bind (·.2)).toList ++ (d.epl.resync.bind (·.cmd)).toList
  | _ => []

/-- What a GAV reset leaves of Gavotte: the page program under way finishes (R487); the owners of SYSVAL entries not yet durable
ask for them again after the mount (R402). -/
def Dev.gavDown (d : Dev) : Dev :=
  let d := d.gavProgramDone true
  let due := d.gav.jpend.filter (fun e => match e with
    | .sysval .. => true
    | _ => false)
  { d with gav := { d.gav.stopped with jpend := due } }

/-- A reset of one domain, with what goes before and after it; after one of REEL the commit unit recovers from the ring as it was
placed (R148), and after one of GAV Minuet enables Gavotte as at Boot, which mounts (R415; log entry 16). DESIGN CHOICE (log entry
56): the reset of FAB drops held _HI writes and captured _HI values. -/
def Dev.domReset (d : Dev) (x : Dom) : Dev :=
  let k := RstKind.domrst
  let d := (d.domDescs x).foldl (fun d c => d.fail c stFlushed) d
  match x with
  | .aon | .host | .aux => d
  | .fab =>
    let d := d.msrClean.bolEnd
    let bol := d.bolOver true
    let d := { d with icu := {}, msr := d.msr.ovr true, bol := bol, srb := {},
                      sys := { alertDue := d.sys.alertDue, committed := d.sys.committed }, eth := d.eth.ovr }
    let d := [0, 2, 4, 8, 0x11].foldl (fun (d : Dev) (w : Nat) => d.winReset k w) (d.fifosGone 0x110000 0x120000)
    (d.resetWindow 0xD k (fun o => 0xDC000 ≤ o && o < 0xDD000)).hallGone.journalFab.levelsShow
  | .qda => { d with icu := { d.icu with cores := d.icu.cores.filter (fun e => !(e.1 < 4)) } }
  | .qdb => { d with icu := { d.icu with cores := d.icu.cores.filter (fun e => e.1 < 4) } }
  | .reel =>
    let d := d.commitsFinish
    let cu := d.cuOver true
    let d := { d with cu := cu, reel := {}, val := {} }
    let storm := d.on F.REEL_STATUS_storm_req
    let base := d.rd F.REEL_STG_BASE_HI_base_hi
    let low := d.rd F.REEL_STG_BASE_LO_base_lo
    let gib := d.rd F.REEL_STG_SIZE_size_gib
    let d := (d.fifosGone 0x50000 0x60000).fifosGone 0x70000 0x80000
    let d := ((d.winReset k 5).winReset k 6).valReload.journalUnit
    let set (d : Dev) (hi lo g : Nat) : Dev :=
      ((d.wr F.REEL_STG_BASE_HI_base_hi hi).wr F.REEL_STG_BASE_LO_base_lo lo).wr F.REEL_STG_SIZE_size_gib g
    let d := set (set d base low gib).commitRecoverNow F.REEL_STG_BASE_HI_base_hi.reset F.REEL_STG_BASE_LO_base_lo.reset
      F.REEL_STG_SIZE_size_gib.reset
    (if storm then d.stormReqShow false else d).levelsShow
  | .keyc =>
    let d := d.pavCut
    let d := { d with pav := { d.pav.ovr with waiting := d.pav.waiting, reqWait := d.pav.reqWait } }
    let d := (d.winReset k 9).winReset k 0xC
    if d.mode == .recovery then d else d.pavUnlock
  | .wlz =>
    let b := d.lastB
    let d := { d with wlz := d.wlz.kept true }
    (((d.fifosGone 0x70000 0x80000).winReset k 7).lastClosed b).recoverEnd.levelsShow
  | .gav =>
    let on := d.on F.GAV_CTRL_enable
    let d := d.gavDown.winReset k 0xE
    if on then d.gavBoot else d
  | .dmc =>
    let gib := d.rd F.DMC_STATUS_fitted_gib
    let ready := d.on F.DMC_STATUS_ready
    let d := { d with pmu := { d.pmu with rowErrs := [] } }
    (((d.winReset k 0x12).wr F.DMC_STATUS_fitted_gib gib).flag F.DMC_STATUS_ready ready).raise 484
  | .bhe =>
    let d := d.ethGone (fun n => n < 4)
    ((d.fifosGone 0xD0000 0xD4000).resetWindow 0xD k (fun o => o < 0xD4000)).presence.levelsShow
  | .age =>
    let d := d.ethGone (fun n => 4 ≤ n)
    ((d.fifosGone 0xD4000 0xDC000).resetWindow 0xD k (fun o => 0xD4000 ≤ o && o < 0xDC000)).levelsShow
  | .feb =>
    let d := d.febGone
    (((d.fifosGone 0xA0000 0xC0000).winReset k 0xA).winReset k 0xB).levelsShow
  | .epl =>
    let d := d.eplDown
    let d := { d with epl := { selfRetired := d.epl.selfRetired } }
    let d := d.winReset k 0xF
    if d.epl.selfRetired then d.wr F.EPL_STATUS_role 3 else d

/-- The domains in the order of their numbers. -/
def domOf : Nat → Option Dom
  | 0 => some .aon | 1 => some .fab | 2 => some .qda | 3 => some .qdb | 4 => some .reel | 5 => some .keyc | 6 => some .wlz
  | 7 => some .gav | 8 => some .dmc | 9 => some .bhe | 10 => some .age | 11 => some .feb | 12 => some .host | 13 => some .epl
  | 14 => some .aux | _ => none

/-! ### The host's side (R45, R72, R73) -/

/-- What follows the host's rings and grant: the log's drain, and map segments held in host memory. -/
def Dev.hostSync (d : Dev) : Dev :=
  let d := d.logRingSync
  if d.on F.XDI_HMB_STAT_active then d else { d with gav := { d.gav with hostSegs := [] } }

/-- A reset of HOST and XDI: a host's update session ends with it (R462). -/
def Dev.hostReset (d : Dev) (k : RstKind) (reason : Nat) : Dev :=
  let d := (d.xdiReset k reason).hostSync
  if d.rd F.UPD_SESSION_source == 0 then d.updSessionEnd true else d

/-- PERST_ASSERT: the HOST domain follows PERST#. -/
def Dev.perstAssert (d : Dev) : Dev :=
  let d := d.hostReset .hostrst 2
  ({ d with xdi := { d.xdi with perst := true } }).wrBit F.PMU_DOM_on 12 false

/-- PERST_DEASSERT: the HOST domain comes up in every mode but Dormant, and the endpoint is ready to train. -/
def Dev.perstDeassert (d : Dev) : Dev :=
  let d := { d with xdi := { d.xdi with perst := false } }
  if d.mode == .dormant then d
  else ({ d with xdi := { d.xdi with trainReady := true } }).wrBit F.PMU_DOM_on 12 true

/-- PCIE_HOT_RESET: the endpoint is ready to train after it. -/
def Dev.pcieHotReset (d : Dev) : Dev :=
  let d := d.hostReset .hostrst 3
  { d with xdi := { d.xdi with trainReady := !d.xdi.perst } }

/-- PCIE_FLR: the link stays as it is. -/
def Dev.pcieFlr (d : Dev) : Dev :=
  let up := d.on F.XDI_STATUS_link_up
  let ready := d.xdi.trainReady
  let d := d.hostReset .flr 4
  ({ d with xdi := { d.xdi with trainReady := ready } }).flag F.XDI_STATUS_link_up up

end Sys2Proof.Machine
end

