-- ==== Sys2Proof/Machine/Pcie.lean ====
section
/-! DEFINITION. The configuration space of the PCIe function (R3, R44, R45): what the spec names of it, laid out as the PCI Express
Base Specification lays it out (PRESUMED, log entry 59), and the requests of the host that read and write it. -/

namespace Sys2Proof.Machine

/-- The identity the function reports (R3) and its class code (R44). -/
def pciVendor : Nat := 0x1F6C
def pciDevice : Nat := 0x9640
def pciClass : Nat := 0x118000

/-- The capability structures by their offsets: power management 0x40, MSI-X 0x50, PCI Express 0x70; AER 0x100, Device Serial Number
0x150, LTR 0x160. -/
def extHeader (id ver next : Nat) : Nat := id + ver * 2 ^ 16 + next * 2 ^ 20

/-- The link's width and speed fields: widths up to x8, Gen1 to Gen5, ASPM L1 with an exit latency of 8 µs to 16 µs (R44, R96). -/
def pciLinkCap : Nat := 5 + 8 * 2 ^ 4 + 2 * 2 ^ 10 + 4 * 2 ^ 15

/-- The MSI-X table has 256 entries at BAR0 + 0x3_2000, its pending-bit array stands at BAR0 + 0x3_3000 (R44). -/
def Dev.pciMsixCtl (d : Dev) : Nat := 255 + b2n d.icu.fnMask * 2 ^ 14 + b2n d.icu.msixEn * 2 ^ 15

/-- The power management control register: the D-state, No_Soft_Reset 1, PME_En, PME_Status (R44, R96). -/
def Dev.pciPmcsr (d : Dev) : Nat :=
  3 * b2n (d.on F.XDI_STATUS_d3hot) + 8 + b2n d.icu.pmeEn * 2 ^ 8 + b2n d.icu.pmeStatus * 2 ^ 15

/-- The doubleword of configuration space at a byte offset; 0 where nothing stands (no expansion ROM, Interrupt Pin 0). -/
def Dev.cfgWord (d : Dev) (off : Nat) : Nat :=
  let c := d.xdi.cfg
  let eui := Config.dieEui.toNat
  match off with
  | 0x00 => pciVendor + pciDevice * 2 ^ 16
  | 0x04 => setBits c.cmd 2 1 (b2n (d.on F.XDI_STATUS_bme)) + 0x10 * 2 ^ 16
  | 0x08 => pciClass * 2 ^ 8
  | 0x10 => c.bar0 % 2 ^ 32 + 4
  | 0x14 => c.bar0 / 2 ^ 32
  | 0x18 => c.bar2 % 2 ^ 32 + 0xC
  | 0x1C => c.bar2 / 2 ^ 32
  | 0x20 => c.bar4 % 2 ^ 32 + 0xC
  | 0x24 => c.bar4 / 2 ^ 32
  | 0x34 => 0x40
  | 0x40 => 1 + 0x50 * 2 ^ 8 + 3 * 2 ^ 16 + 2 ^ 30
  | 0x44 => d.pciPmcsr
  | 0x50 => 0x11 + 0x70 * 2 ^ 8 + d.pciMsixCtl * 2 ^ 16
  | 0x54 => 0x32000
  | 0x58 => 0x33000
  | 0x70 => 0x10 + 2 * 2 ^ 16
  | 0x74 => 2 + 2 ^ 5 + 2 ^ 15 + 2 ^ 28
  | 0x78 => c.devCtl
  | 0x7C => pciLinkCap
  | 0x80 => c.linkCtl
  | 0x94 => 0xF + 2 ^ 4 + 2 ^ 11 + 2 ^ 16
  | 0x98 => c.devCtl2
  | 0x100 => extHeader 1 2 0x150
  | 0x104 => c.aerUncStatus
  | 0x108 => c.aerUncMask
  | 0x10C => c.aerUncSeverity
  | 0x110 => c.aerCorStatus
  | 0x114 => c.aerCorMask
  | 0x150 => extHeader 3 1 0x160
  | 0x154 => eui % 2 ^ 32
  | 0x158 => eui / 2 ^ 32
  | 0x160 => extHeader 0x18 1 0
  | 0x164 => c.ltr
  | _ => 0

/-- A write of the power management control register: PME_Status clears on a 1, PME_En is taken, and the D-state changes between D0
and D3hot; D1 and D2 are not supported (R44, R96). -/
def Dev.pciPmcsrWrite (d : Dev) (v : Nat) : Dev :=
  let d := { d with icu := { d.icu with pmeStatus := d.icu.pmeStatus && !bit v 15, pmeEn := bit v 8 } }
  let hot := d.on F.XDI_STATUS_d3hot
  if bits v 0 2 = 3 && !hot then d.d3hotEnter else if bits v 0 2 = 0 && hot then d.d0Return else d

/-- A write of the command register: Bus Master Enable acts as its own commands do (R46). -/
def Dev.pciCmdWrite (d : Dev) (v : Nat) : Dev :=
  let d := { d with xdi := { d.xdi with cfg := { d.xdi.cfg with cmd := v &&& 0x0142 } } }
  let on := d.on F.XDI_STATUS_bme
  if bit v 2 && !on then d.busMasterEnable else if !bit v 2 && on then d.busMasterDisable else d

/-- A write of a doubleword of configuration space. -/
def Dev.cfgWrite (d : Dev) (off v : Nat) : Dev :=
  let c := d.xdi.cfg
  let put (c : PciCfg) : Dev := { d with xdi := { d.xdi with cfg := c } }
  match off with
  | 0x04 => d.pciCmdWrite v
  | 0x10 => put { c with bar0 := setBits c.bar0 26 6 (v / 2 ^ 26) }
  | 0x14 => put { c with bar0 := setBits c.bar0 32 32 v }
  | 0x18 => put { c with bar2 := setBits c.bar2 26 6 (v / 2 ^ 26) }
  | 0x1C => put { c with bar2 := setBits c.bar2 32 32 v }
  | 0x20 => put { c with bar4 := setBits c.bar4 30 2 (v / 2 ^ 30) }
  | 0x24 => put { c with bar4 := setBits c.bar4 32 32 v }
  | 0x44 => d.pciPmcsrWrite v
  | 0x50 => d.msixVectorUnmask none (bit v 30) (bit v 31)
  | 0x78 => if bit v 15 then d.pcieFlr else put { c with devCtl := v &&& 0x70FF }
  | 0x80 => put { c with linkCtl := v &&& 0x2 }
  | 0x98 => put { c with devCtl2 := v &&& 0x041F }
  | 0x104 => put { c with aerUncStatus := c.aerUncStatus - (c.aerUncStatus &&& v) }
  | 0x108 => put { c with aerUncMask := v }
  | 0x10C => put { c with aerUncSeverity := v }
  | 0x110 => put { c with aerCorStatus := c.aerCorStatus - (c.aerCorStatus &&& v) }
  | 0x114 => put { c with aerCorMask := v }
  | 0x164 => put { c with ltr := v &&& 0x1FFF1FFF }
  | _ => d

/-- An error the function reports of itself: Unsupported Request (bit 20 of the AER uncorrectable status). -/
def Dev.pciUnsupported (d : Dev) : Dev :=
  { d with xdi := { d.xdi with cfg := { d.xdi.cfg with aerUncStatus := d.xdi.cfg.aerUncStatus ||| 2 ^ 20 } } }

/-- A configuration request of the host: Configuration Request Retry Status until the HOST domain is ready (R45); then a read answers
the doubleword that holds the address, and a write of one stores it. -/
def Dev.cfgAccess (d : Dev) (x : Access) : Dev :=
  let off := x.addr.toNat / 4 * 4
  if !d.hostReady then d.emit .cfgRetry
  else if x.write then d.cfgWrite off (leNat (x.data.take 4))
  else d.emit (.readData 0 off (leBytes 4 (d.cfgWord off)) false)

end Sys2Proof.Machine
end

