-- ==== Sys2Proof/Machine/Fabric.lean ====
section
/-! DEFINITION. Registers, the fabric and the FIFOs (chapter 1): what a write or a read of each register does beyond its type
codes, register pairs, accesses by address (R30–R38), window accesses of the pair (R426), FIFO flushes and
packet transfers (R22–R25). -/

namespace Sys2Proof.Machine

/-! ### What a write does (R12, R14) -/

/-- Element of a register array, where an offset names one. -/
def elemOf (off base stride count : Nat) : Option Nat :=
  if base ≤ off && (off - base) % stride == 0 && decide ((off - base) / stride < count) then some ((off - base) / stride) else none

/-- The opcodes a block's mailbox serves (R121, R180, R217, R247, R276, R382, R417, R447, R463, R494). -/
def mboxServes : Mbox → Nat → Bool
  | .msr, op => 0x10 ≤ op && op ≤ 0x19
  | .val, op => (0x40 ≤ op && op ≤ 0x43) || op == 0x46
  | .wlz, op => 0x60 ≤ op && op ≤ 0x69
  | .bol, op => 1 ≤ op && op ≤ 0xC
  | .pav, op => 1 ≤ op && op ≤ 0xB
  | .ethSa, op => 1 ≤ op && op ≤ 3
  | .gav, op => 0xC0 ≤ op && op ≤ 0xC4
  | .epl, op => 0xA0 ≤ op && op ≤ 0xA4
  | .upd, op => 1 ≤ op && op ≤ 0xB
  | .pmu, op => 0x80 ≤ op && op ≤ 0x82

/-- A mailbox's CTRL register: go starts its command; while it reads 1, go is ignored and sets cmd_rej where the block has it (R121). A descriptor in
memory whose opcode the block does not define ends at once with BAD_OPCODE, one that cannot be read with an error (R38); the others run
as their own commands. -/
def Dev.mboxWrite (d : Dev) (m off v : Nat) (b : Mbox) (rej : Option Fld) : Dev :=
  let busy := d.on (mboxRegs b).2.2.1
  let d := d.regWrite32 off v
  if !bit v 31 then d
  else if busy then (rej.map (fun f => d.setF f)).getD d
  else
    let c (w : Nat) : Desc := { via := .mailbox b (BitVec.ofNat 6 m), w := BitVec.ofNat 512 w, data := [] }
    match d.engRead (mboxMaster b) (d.mboxAddr b) 64 (zeros 64) with
    | (d, none) => d.fail (c 0) stHostFault
    | (d, some l) =>
      let w := leNat l
      if w % 256 = 0 || mboxServes b (w % 256) then d else d.fail (c w) stBadOpcode

/-- The mailboxes' CTRL registers: offset, block, cmd_rej. -/
def mboxTable : List (Nat × Mbox × Option Fld) :=
  [(0x40050, .msr, some F.MSR_ERR_cmd_rej), (0x60028, .val, some F.VAL_CMD_CTRL_cmd_rej), (0x70088, .wlz, some F.WLZ_ERR_cmd_rej),
   (0x80028, .bol, some F.BOL_ERR_cmd_rej), (0x90028, .pav, some F.PAV_ERR_cmd_rej), (0xDC908, .ethSa, none),
   (0xE0068, .gav, some F.GAV_CMD_CTRL_cmd_rej), (0xF0048, .epl, some F.EPL_CMD_CTRL_cmd_rej),
   (0x100020, .upd, some F.UPD_CMD_CTRL_cmd_rej), (0x10048, .pmu, some F.PMU_CMD_CTRL_cmd_rej)]

/-- Bring the engines that wait for the MSR and the key store up to date (R158, R246, R338). -/
def Dev.enginesReady (d : Dev) : Dev := d.bolSync.mzkSync

/-- A write of PMU_DOM: a DOMRST of AON or HOST is refused (R487). -/
def Dev.pmuDomWrite (d : Dev) (v : Nat) : Dev :=
  let d := d.regWrite32 0x10008 v
  let bad := bit (d.rd F.PMU_DOM_rst) 0 || bit (d.rd F.PMU_DOM_rst) 12
  if bad then ((d.wrBit F.PMU_DOM_rst 0 false).wrBit F.PMU_DOM_rst 12 false).setF F.PMU_DOM_dom_rej else d

/-- A write of TSU_ADJ_CTRL: go applies the adjustment that mode names. -/
def Dev.tsuAdjWrite (d : Dev) (v : Nat) : Dev :=
  let d := d.wr F.TSU_ADJ_CTRL_mode (bits v 29 2)
  if bit v 31 then d.adjReg (bits v 29 2) else d

/-- A write of a pulse's CTRL register. -/
def Dev.pulseWrite (d : Dev) (k v : Nat) : Dev :=
  let was := d.on (F.TSU_PULSE_CTRL_arm.at k)
  let d := d.regWrite32 (0xC0080 + 0x20 * k) v
  if !was && bit v 31 then d.pulseArm k else d

/-- A write of PAV_CTRL. A known-answer test's outcome comes as PAV_KAT_NOW. -/
def Dev.pavCtrlWrite (d : Dev) (v : Nat) : Dev :=
  let d := if bit v 30 then d.pavLock else d
  let d := if bit v 29 then d.pavCacheFlush else d
  let d := if bit v 28 then d.setF F.PAV_CTRL_kat_now else d
  if bit v 31 then d.pavUnlock else d

/-- A write of PAV_TMP_CTRL. -/
def Dev.tmpCtrlWrite (d : Dev) (v : Nat) : Dev :=
  let d := if bit v 29 then d.tamperLogClear else d
  let d := if bit v 31 then d.tamperArm else d
  if bit v 30 then d.zeroiseNow else d

/-- FIFO_FLUSH: the flush bit of a FIFO is set; setting it again has no further effect. -/
def Dev.fifoFlush (d : Dev) (off : Nat) : Dev :=
  let q := d.fifo off
  ({ d with fifos := mput d.fifos off { q with flushing := true } }).setF (fqFld off F.WLZ_FQ_CTRL_flush)

/-- A write of a register of a FIFO's set. -/
def Dev.fifoRegWrite (d : Dev) (fq off v : Nat) : Dev :=
  let d := d.regWrite32 off v
  let d := if off = fq && bit v 31 then d.fifoFlush fq else d
  d.syncFifo fq

/-- What a write of one register does, whatever command carries it; `m` is the writing master. -/
def Dev.regStore (d : Dev) (m off v : Nat) : Dev :=
  match mboxTable.find? (fun e => e.1 == off) with
  | some (_, b, rej) => d.mboxWrite m off v b rej
  | none =>
  match fifoAt off with
  | some fq => d.fifoRegWrite fq off v
  | none =>
  match off / 0x10000 with
  | 1 =>
    if off = 0x10000 then d.pmuOffMaskWrite v
    else if off = 0x10008 then d.pmuDomWrite v
    else if off = 0x1000C then
      let d := d.regWrite32 off v
      if bit v 31 then { d with pmu := { d.pmu with soft := some 0 } } else d
    else if off = 0x10024 then d.wdtEnable v
    else if off = 0x10028 then d.wdtKick v
    else d.regWrite32 off v
  | 2 =>
    if off = 0x20004 then (if bit v 31 then d.icuSrcCmdSet (bits v 0 9) else d.icuSrcCmdClear (bits v 0 9))
    else if off = 0x20008 then d.icuHdoneWrite (bits v 0 8)
    else if 0x20100 ≤ off && off < 0x20140 then d.icuEnableWrite ((off - 0x20100) / 4) v
    else if 0x20140 ≤ off && off < 0x20180 then d.icuMaskWrite ((off - 0x20140) / 4) v
    else if 0x20180 ≤ off && off < 0x201C0 then d.icuPendWrite ((off - 0x20180) / 4) v 0 0
    else if 0x21000 ≤ off && off < 0x21800 then d.icuSrcCfgWrite ((off - 0x21000) / 4) v
    else match elemOf off 0x22000 0x20 10, elemOf off 0x22008 0x20 10 with
      | some t, _ => d.icuModeWrite t v
      | none, some t => d.icuDone t (bits v 0 9)
      | none, none => d.regWrite32 off v
  | 3 =>
    if off = 0x30000 then d.xdiHostVerWrite v
    else if off = 0x3001C then d.xdiExpCtrlWrite v
    else if 0x31000 ≤ off && off < 0x31200 then
      let n := (off - 0x31000) / 8
      if off % 8 = 0 then d.sqDoorbell n v else d.cqDoorbell n v
    else match elemOf off 0x30810 0x20 64 with
      | some n =>
        if bit v 31 then (d.ringCfgEnable n v).hostSync
        else (d.ringCfgDisable (Fin.ofNat 64 n) v).hostSync
      | none =>
        match elemOf off 0x3200C 0x10 256 with
        | some n =>
          let was := d.on (F.XDI_MSIX_VCTL_mask.at n)
          let d := d.regWrite32 off v
          if was && !bit v 0 then d.msixVectorUnmask (some n) d.icu.fnMask d.icu.msixEn else d
        | none => d.regWrite32 off v
  | 4 =>
    if off = 0x40000 then (d.msrEnable v).enginesReady.wlzRunCheck
    else if off = 0x40020 then (if bit v 31 then (d.regWrite32 off (v % 2 ^ 31)).msrCkptNow else d.regWrite32 off v)
    else if off = 0x40040 then (if bit v 31 then d.msrCleanAll else d)
    else if off = 0x41000 then d.msrRecSelWrite v
    else if off = 0x41004 then (if bit v 31 then d.msrRecCommit v else d.regWrite32 off v)
    else d.regWrite32 off v
  | 5 =>
    if off = 0x50000 then (d.reelEnable v).reelRunningCheck
    else if 0x50080 ≤ off && off < 0x500A0 then d.reelSteerWrite ((off - 0x50080) / 4) v
    else match elemOf off 0x5010C 0x20 8, elemOf off 0x51000 0x100 16, elemOf off 0x50108 0x20 8 with
      | some e, _, _ => d.reelExqHeadWrite e v
      | none, some l, _ =>
        let d := (d.regWrite32 off (v % 2 ^ 31)).exqRetry
        if bit v 31 then d.laneKatNow l else d
      | none, none, some e => d.exqCfgWrite e v
      | none, none, none => d.regWrite32 off v
  | 6 => if off = 0x60000 then (d.valEnable v).reelRunningCheck else d.regWrite32 off v
  | 7 =>
    if off = 0x70000 then d.waltzEnable v
    else if off = 0x70048 then
      let d := d.regWrite32 off (v % 2 ^ 31)
      if bit v 31 then d.inferNow else d
    else if off = 0x70050 then
      let d := d.regWrite32 off (v % 2 ^ 31)
      if bit v 31 then d.scoreNow else d
    else d.regWrite32 off v
  | 8 => if off = 0x80000 then d.bolEnable v else d.regWrite32 off v
  | 9 =>
    if off = 0x90000 then d.pavCtrlWrite v
    else if off = 0x98004 then d.tmpCtrlWrite v
    else if inTamperLog off then d
    else d.regWrite32 off v
  | 0xA =>
    match elemOf off 0xA0000 0x1000 16, elemOf off 0xA0080 0x1000 16 with
    | some n, _ =>
      let d := d.plcEnable n v
      if bit v 28 then d.plcBeaconForce n else d
    | none, some n => d.plcAtSelWrite n v
    | none, none => d.regWrite32 off v
  | 0xB =>
    match elemOf off 0xB0000 0x1000 12 with
    | some n =>
      let d := d.mzkEnable n v
      if bit v 25 then d.mzkBeaconForce n else d
    | none => d.regWrite32 off v
  | 0xC =>
    if off = 0xC0000 then (d.regWrite32 off v).handover
    else if off = 0xC0044 then d.tsuAdjWrite v
    else if off = 0xC0048 then (d.regWrite32 off v).nscIncrWritten
    else if off = 0xC0070 then d.rtcSecWrite v
    else match elemOf off 0xC0080 0x20 4 with
      | some k => d.pulseWrite k v
      | none => d.regWrite32 off v
  | 0xD =>
    if off = 0xDC060 then d.ethConcSelWrite v
    else if off = 0xDC064 then (if bit v 31 then d.ethConcCommit else d)
    else if off = 0xDC004 then
      let d := d.regWrite32 off v
      if d.rd F.ETH_TUN_CTRL_addr_en != 0 then d.commitRwl 0xDC000 else d
    else if off = 0xDD000 then d.ethWakeCfgWrite v
    else match elemOf off 0xD0000 0x1000 12, elemOf off 0xDC810 0x20 8 with
      | some n, _ => d.ethEnable n v
      | none, some q => d.ethTxqPost q v
      | none, none => (d.regWrite32 off v).ethFlow
  | 0xE => if off = 0xE0000 then d.gavEnable v else d.regWrite32 off v
  | 0xF =>
    if off = 0xF0000 then d.eplCtrlWrite v
    else if off = 0xF0004 then (d.regWrite32 off v).standbyCheck
    else if off = 0xF0008 then (if bits v 24 8 ≤ 2 * zeroAs (bits v 16 8) 1 then d else d.regWrite32 off v)
    else d.regWrite32 off v
  | 0x10 =>
    if (off = 0x100010 || off = 0x100014) && d.on F.UPD_SESSION_open then d else d.regWrite32 off v
  | 0x11 =>
    if off = 0x110000 then
      let on := d.on F.SRB_STATUS_running
      let d := d.regWrite32 off (if on || !bit v 31 then v % 2 ^ 30 + 2 ^ 31 * bits v 31 1 else v % 2 ^ 30)
      let d := if bit v 31 then d.srbEnable else d.clrF F.SRB_STATUS_running
      if bit v 30 then d.srbSnapNow else d
    else if off = 0x110028 then d.srbFeedWrite v
    else if off = 0x110500 then d.srbWselWrite v
    else if 0x110100 ≤ off && off < 0x110300 && off % 16 = 0 then (d.regWrite32 off v).histRestart ((off - 0x110100) / 16)
    else if 0x110400 ≤ off && off < 0x110480 then (d.regWrite32 off v).extRestart ((off - 0x110400) / 4)
    else if off = 0x118000 then
      let d := (d.regWrite32 off (v % 2 ^ 31)).syncInput 477
      if bit v 31 then d.logCtrlClear m else d
    else if off = 0x118008 then (d.regWrite32 off v).logShow
    else if off = 0x11800C then d.logHeadWrite v
    else if off = 0x11801C then d.logAppend m v
    else if off = 0x118020 then d.logSelWrite v
    else d.regWrite32 off v
  | 0x12 => if off = 0x120010 then (d.regWrite32 off v).rmapShow else d.regWrite32 off v
  | _ => d.regWrite32 off v

/-- A commit of a pair (R547): the written low word, and the master's held high word, or none. -/
def Dev.pairStore (d : Dev) (m off lo : Nat) (hi : Option Nat) : Dev :=
  let full (f : Fld) : Nat := lo + (match hi with
    | some h => h
    | none => d.rd f / 2 ^ 32) * 2 ^ 32
  if off = 0x30020 then d.xdiExpCommitWrite (full F.XDI_EXP_COMMIT_LO_commit)
  else if off = 0xC0024 then d.tsuRateWrite (full F.TSU_RATE_LO_rate)
  else if off = 0xC0150 then d.tsuConvWrite m (full F.TSU_CONV_TICK_LO_tick)
  else
    let d := match hi with
      | some h => d.regStore m (off + 4) h
      | none => d
    d.regStore m off lo

/-- The value of a _HI write is held for the master. -/
def Dev.regPairHiWrite (d : Dev) (m off v : Nat) : Dev :=
  { d with sys := { d.sys with holdHi := mput d.sys.holdHi (holdKey m off) v } }

/-- A _LO write commits the master's hold with it and empties the hold. -/
def Dev.regPairLoWrite (d : Dev) (m off v : Nat) : Dev :=
  let h := mget? d.sys.holdHi (holdKey m (off + 4))
  ({ d with sys := { d.sys with holdHi := mdel d.sys.holdHi (holdKey m (off + 4)) } }).pairStore m off v h

/-- One 32-bit register write of a master. -/
def Dev.regWr (d : Dev) (m off v : Nat) : Dev :=
  if isPairLo off then d.regPairLoWrite m off v
  else if 4 ≤ off && isPairLo (off - 4) then d.regPairHiWrite m off v
  else d.regStore m off v

/-- A register write that R38 may stop. -/
def Dev.regWrChecked (d : Dev) (m off v : Nat) : Dev :=
  match d.regMiss off with
  | some kind => d.badWrite kind m off
  | none => d.regWr m off v

/-- REG_PAIR_HI_WRITE and REG_PAIR_LO_WRITE: writes of a pair's halves, which R38 may stop. -/
def Dev.pairHiWrite (d : Dev) (m off v : Nat) : Dev :=
  match d.regMiss off with
  | some kind => d.badWrite kind m off
  | none => d.regPairHiWrite m off v
def Dev.pairLoWrite (d : Dev) (m off v : Nat) : Dev :=
  match d.regMiss off with
  | some kind => d.badWrite kind m off
  | none => d.regPairLoWrite m off v

/-- REGISTER_WRITE (R546): 32 bits, or 64 bits over two registers; a narrow or unaligned write is discarded. DESIGN CHOICE (log entry
56): it is bad_access wherever it goes, an offset that is unmapped or in a domain that is off included, and so is a write of
more than 64 bits. -/
def Dev.registerWrite (d : Dev) (m off size v : Nat) : Dev :=
  if off % 4 != 0 || (size != 4 && size != 8) then d.badWrite 0 m off
  else if size = 4 then d.regWrChecked m off (v % 2 ^ 32)
  else if isPairLo off && d.regOn off then
    (d.regWrChecked m (off + 4) (v / 2 ^ 32 % 2 ^ 32)).regWrChecked m off (v % 2 ^ 32)
  else (d.regWrChecked m off (v % 2 ^ 32)).regWrChecked m (off + 4) (v / 2 ^ 32 % 2 ^ 32)

/-! ### What a read does (R12, R546, R547) -/

/-- Bring the fields that read live up to date: the tick, the RTC, the Storm budget, the level inputs and the edge pulses of the last
cycle (R98), the vectors that mirror the pairs' (R79), the session's lease, the restorations of the last second (R153), a lane's transient faults in its window (R156). -/
def Dev.regFresh (d : Dev) (off : Nat) : Dev :=
  if off = 0xC0008 then d.wr F.TSU_TICK_LO_tick d.tick
  else if 0x201C0 ≤ off && off < 0x20200 then
    let w := (off - 0x201C0) / 4
    foldN 32 (fun b (d : Dev) =>
      let n := 32 * w + b
      if isLevelSource n then d else d.wrBit (F.ICU_INPUT_input.at w) b (mget? d.icu.pulse n == some d.clk)) d
  else if 0x21000 ≤ off && off < 0x21100 then
    let n := (off - 0x21000) / 4
    d.wr (F.ICU_SRC_CFG_vector.at n) (d.rd (F.XDI_RP_CFG_vector.at n))
  else if (elemOf off 0x51004 0x100 16).isSome then
    let l := (off - 0x51004) / 0x100
    d.wr (F.REEL_LANE_STAT_transients.at l) (min (d.resTransients 0 l) 0xFFFF)
  else if off = 0xC0070 then d.wr F.TSU_RTC_SEC_sec (d.rtcUnits / 32768)
  else if off = 0xC0074 then d.wr F.TSU_RTC_FRAC_frac (d.rtcUnits % 32768)
  else if off = 0x10020 then d.budgetSettle
  else if off = 0x5001C then
    d.wr F.REEL_RESTORE_CNT_count ((d.reel.restored.filter (fun b => d.tick / msNs < b.1 + 1000)).map (·.2)).sum
  else if off = 0x100008 then
    match d.upd.leaseAt with
    | none => d
    | some t => d.wr F.UPD_SESSION_lease_left ((t - d.tick) / sNs)
  else d

/-- The value a master reads where the TSU holds it per master (R367). -/
def Dev.tsuHeld (d : Dev) (m off : Nat) : Option Nat :=
  let now := mgetD d.tsu.nowCap m (0, 0, 0)
  let conv := mgetD d.tsu.convCap m (0, 0)
  if off = 0xC0014 then some (now.2.1 % 2 ^ 32) else if off = 0xC0018 then some (now.2.1 / 2 ^ 32)
  else if off = 0xC001C then some (now.2.2 % 2 ^ 32) else if off = 0xC0020 then some (now.2.2 / 2 ^ 32 % 2 ^ 32)
  else if off = 0xC0158 then some conv.1
  else if off = 0xC015C then some (conv.2 % 2 ^ 32) else if off = 0xC0160 then some (conv.2 / 2 ^ 32)
  else none

/-- Take the last thing sent out as a value read. -/
def Dev.takeRead (d : Dev) : Dev × Nat :=
  match d.out.getLast? with
  | some (.readData _ _ l _) => ({ d with out := d.out.dropLast }, leNat l)
  | _ => (d, 0)

/-- A FIFO's peak restarts from the live level when LEVEL is read: the highest level since that read (R29). -/
def Dev.peakFresh (d : Dev) (off : Nat) : Dev :=
  match fifoAt off with
  | some fq =>
    if off = fq + 8 then d.wr (fqFld fq F.WLZ_FQ_LEVEL_peak) (d.rd (fqFld fq F.WLZ_FQ_LEVEL_level)) else d
  | none => d

/-- One 32-bit register read of a master: the value, with what the read does. -/
def Dev.regRd (d : Dev) (m off : Nat) : Dev × Nat :=
  if inTamperLog off then
    let i := (off - 0x98400) / 16
    (d, byts ((d.pav.tlog[i]?).getD 0) (off % 16) 4)
  else if off = 0xC0010 then (d.tsuNowRead m).takeRead
  else match elemOf off 0x22004 0x20 10 with
  | some t =>
    let r := (d.icuClaim t m).takeRead
    (r.1.claimSample d t, r.2)
  | none =>
    match d.tsuHeld m off with
    | some v => (d, v)
    | none =>
      let held := if 4 ≤ off && isPairLo (off - 4) then mget? d.sys.capHi (holdKey m off) else none
      match held with
      | some v => ({ d with sys := { d.sys with capHi := mdel d.sys.capHi (holdKey m off) } }, v)
      | none =>
        let d := d.regFresh off
        let v := d.regWord off
        let d := (d.regClearRc off).peakFresh off
        let d := if isPairLo off then
            { d with sys := { d.sys with capHi := mput d.sys.capHi (holdKey m (off + 4)) (d.regWord (off + 4)) } }
          else d
        if off = 0xC018C then (d.tsuEvtPop, v) else (d, v)

/-- A register read that R38 may stop. -/
def Dev.regRead (d : Dev) (m off : Nat) : Dev :=
  match d.regMiss off with
  | some kind => d.badRead kind m off 4
  | none =>
    let r := d.regRd m off
    r.1.emit (.readData m off (leBytes 4 r.2) false)

/-- REG_PAIR_LO_READ and RC_FIELD_READ: a 32-bit read. -/
def Dev.regPairLoRead (d : Dev) (m off : Nat) : Dev := d.regRead m off
def Dev.rcFieldRead (d : Dev) (m off : Nat) : Dev := d.regRead m off

/-! ### Memory as a master sees it (R32, R117) -/

/-- Whether an address lies in the MSR table that DRAM holds: its index and byte. -/
def Dev.inTable (d : Dev) (a : Nat) : Option (Nat × Nat) :=
  match d.msr.tableAt with
  | none => none
  | some b => if b ≤ a && a < b + 0x10000000 then some ((a - b) / 256, (a - b) % 256) else none

/-- A byte of memory as a master reads it. -/
def Dev.byteRd (d : Dev) (a : Nat) : Byte :=
  match d.inTable a with
  | some (i, o) => BitVec.ofNat 8 (byts (d.msrDram i) o 1)
  | none => d.mem.read a

/-- A byte of memory as a master writes it; a poisoned word is poisoned no longer. -/
def Dev.byteWr (d : Dev) (a : Nat) (b : Byte) : Dev :=
  let d := { d with pmu := { d.pmu with poison := d.pmu.poison.filter (fun w => w != a / 4 * 4) } }
  match d.inTable a with
  | some (i, o) => { d with msr := { d.msr with dram := mput d.msr.dram i (setByts (d.msrDram i) o 1 b.toNat) } }
  | none => { d with mem := d.mem.write a b }

/-- Read n bytes of memory. -/
def Dev.bytesRd (d : Dev) (a n : Nat) : List Byte := (List.range n).map (fun k => d.byteRd (a + k))

/-- Write bytes of memory. -/
def Dev.bytesWr : Dev → Nat → List Byte → Dev
  | d, _, [] => d
  | d, a, b :: t => (d.byteWr a b).bytesWr (a + 1) t

/-- How an access to memory ends: the error correction's finding and words already poisoned. A corrected error is logged by
the Hall or counted by the DMC; an uncorrectable one ends a read with an error (the host's completion is poisoned). -/
def Dev.eccCheck (d : Dev) (x : Access) (a : Nat) (hall : Bool) : Dev × Bool :=
  let poisoned := !hall && !x.write && d.pmu.poison.any (fun w => decide (w < a + x.size) && decide (a < w + 4))
  match x.ecc with
  | .clean => (if poisoned then d.errCapture 6 x.master.toNat a false else d, poisoned)
  | .corrected =>
    if hall then ((d.bump F.SYS_HALL_CE_COUNT_count).errCapture 5 x.master.toNat a x.write, false)
    else
      let d := d.dramEccCorrected x.row.toNat
      (if poisoned then d.errCapture 6 x.master.toNat a false else d, poisoned)
  | .uncorrectable =>
    let d := if hall then d else d.dramEccUncorrectable x.row.toNat a
    if x.write then (d, false) else (d.errCapture 6 x.master.toNat a false, true)

/-- The reservations of other masters that a store to n bytes ends (R35). -/
def Dev.unreserve (d : Dev) (m a n : Nat) : Dev :=
  { d with sys := { d.sys with reserve := d.sys.reserve.filter (fun e => e.1 == m || !(decide (e.2.1 < a + n) && decide (a < e.2.1 + e.2.2))) } }

/-- An access to memory that is no atomic operation: a read or a write. -/
def Dev.memAccess (d : Dev) (x : Access) (a : Nat) (hall : Bool) : Dev :=
  let m := x.master.toNat
  let (d, bad) := d.eccCheck x a hall
  if x.write then (d.bytesWr a (padTo x.size x.data)).unreserve m a x.size
  else d.emit (.readData m a (if bad then [] else d.bytesRd a x.size) bad)

/-- What an AMO leaves of w bits (R35): the old value and the operand, as RISC-V defines the operations (PRESUMED, log entry 56). -/
def amoResult (o : Amo) (w old v : Nat) : Nat :=
  let less := decide ((BitVec.ofNat w old).toInt < (BitVec.ofNat w v).toInt)
  match o with
  | .swap | .sc => v
  | .add => (old + v) % 2 ^ w
  | .xor => old ^^^ v
  | .and => old &&& v
  | .or => old ||| v
  | .min => if less then old else v
  | .max => if less then v else old
  | .minu => min old v
  | .maxu => max old v
  | .lr => old

/-- An atomic operation on memory (R35), of 4 or 8 bytes aligned to their size: an AMO answers the old bytes and stores its result;
LR answers them and reserves them for the master; SC stores where the reservation stands, answers 0, or 1 where it failed, and ends it.
Other sizes and places are errors, as RISC-V has them (PRESUMED, log entry 56). -/
def Dev.amoAccess (d : Dev) (x : Access) (o : Amo) (a : Nat) (hall : Bool) : Dev :=
  let m := x.master.toNat
  if !((x.size = 4 || x.size = 8) && a % x.size == 0) then d.emit (.readData m a [] true)
  else
    let (d, bad) := d.eccCheck { x with write := false } a hall
    let old := d.bytesRd a x.size
    let v := leNat (padTo x.size x.data)
    if bad then d.emit (.readData m a [] true)
    else match o with
    | .lr => ({ d with sys := { d.sys with reserve := mput d.sys.reserve m (a, x.size) } }).emit (.readData m a old false)
    | .sc =>
      let ok := mget? d.sys.reserve m == some (a, x.size)
      let d := { d with sys := { d.sys with reserve := mdel d.sys.reserve m } }
      let d := if ok then (d.bytesWr a (leBytes x.size v)).unreserve m a x.size else d
      d.emit (.readData m a (leBytes x.size (b2n (!ok))) false)
    | o =>
      let d := (d.bytesWr a (leBytes x.size (amoResult o (8 * x.size) (leNat old) v))).unreserve m a x.size
      d.emit (.readData m a old false)

/-- One register's part of a read served register by register (R546): its four bytes, and whether it failed; a failing one gives the
host zeros, or ones where its domain is off. -/
def Dev.regPart (d : Dev) (m off : Nat) : Dev × List Byte × Bool :=
  match d.regMiss off with
  | some kind => (d.errCapture kind m off false, List.replicate 4 (if kind = 2 then 0xFF else 0), true)
  | none =>
    let r := d.regRd m off
    (r.1, leBytes 4 r.2, false)

/-- An access of registers: a narrow or unaligned read returns the bytes addressed, register by register; a narrow or unaligned
write is discarded. -/
def Dev.regAccess (d : Dev) (x : Access) (off : Nat) : Dev :=
  let m := x.master.toNat
  if x.write then d.registerWrite m off x.size (leNat x.data)
  else if off % 4 = 0 && x.size = 8 then (d.regRead m off).regRead m (off + 4)
  else if off % 4 = 0 && x.size = 4 then d.regRead m off
  else
    let first := off / 4
    let r := (List.range ((off + x.size - 1) / 4 + 1 - first)).foldl (fun (a : Dev × List Byte × Bool) k =>
      let r := a.1.regPart m (4 * (first + k))
      (r.1, a.2.1 ++ r.2.1, a.2.2 || r.2.2)) (d, [], false)
    let err := r.2.2 && m != 0
    r.1.emit (.readData m off (if err then [] else (r.2.1.drop (off % 4)).take x.size) err)

/-- An access through the EPL window (R426): messages of 8 and 4 bytes; one of another size is no window access. -/
def Dev.partnerAccess (d : Dev) (x : Access) (a : Nat) : Dev :=
  let m := x.master.toNat
  if !d.on F.EPL_STATUS_link_up then
    (if x.write then d.badWrite 3 m (0x400000000000 + a) else d.badRead 3 m (0x400000000000 + a) x.size)
  else if x.size != 4 && x.size != 8 then
    (if x.write then d.badWrite 0 m (0x400000000000 + a) else d.badRead 0 m (0x400000000000 + a) x.size)
  else if x.write then
    d.eplSend 0x11 (leBytes 8 a ++ leBytes 4 x.size ++ zeros 4 ++ padTo 8 (x.data.take x.size))
  else
    let tag := d.epl.nextTag
    let w : WinWait := { tag := tag, master := m, addr := 0x400000000000 + a, size := x.size }
    let d := { d with epl := { d.epl with reads := d.epl.reads ++ [w], nextTag := (tag + 1) % 2 ^ 32 } }
    d.eplSend 0x0F (leBytes 8 a ++ leBytes 4 x.size ++ leBytes 4 tag)

/-- An access through the outbound window; a read that the host answers ends a run of completion timeouts (R46). -/
def Dev.outboundAccess (d : Dev) (x : Access) (o : Nat) : Dev :=
  let m := x.master.toNat
  let int := 0x800000000000 + o
  let host := d.outbAddr o
  if 2 ^ 64 < host + x.size then
    let d := d.setF F.XDI_ERR_outb_overflow
    if x.write then d.badWrite 1 m int else d.badRead 1 m int x.size
  else if !d.hostReach then (if x.write then d.badWrite 4 m int else d.badRead 4 m int x.size)
  else if x.write then d.emit (.hostWrite host (padTo x.size x.data))
  else ({ d with xdi := { d.xdi with ctoRun := 0 } }).emit (.readData m int (padTo x.size x.data) false)

/-- An access to memory, atomic or not. -/
def Dev.memServe (d : Dev) (x : Access) (a : Nat) (hall : Bool) : Dev :=
  match x.atomic with
  | none => d.memAccess x a hall
  | some o => d.amoAccess x o a hall

/-- Serve an access at an internal address. DESIGN CHOICE (log entry 56): R35 names neither the AON SRAM nor the boot ROM for atomic
operations; the SRAM performs them, the ROM refuses them as writes. -/
def Dev.serve (d : Dev) (x : Access) (a : Nat) : Dev :=
  let m := x.master.toNat
  let fail (kind : Nat) : Dev := if x.write then d.badWrite kind m a else d.badRead kind m a x.size
  let noAmo : Dev := (d.errCapture 8 m a x.write).emit (.readData m a [] true)
  match d.regionOf a x.size with
  | .reg off => if x.atomic.isSome then noAmo else d.regAccess x off
  | .sram =>
    if !d.domOn .fab && m != 9 then fail 2 else d.memServe { x with ecc := .clean } a true
  | .rom => if x.write || x.atomic.isSome then d.badWrite 7 m a else d.memServe { x with ecc := .clean } a true
  | .hall => if !d.domOn .fab then fail 2 else d.memServe x a true
  | .dram => if !d.domOn .dmc then fail 2 else d.dramWake.memServe x a false
  | .partner p => if x.atomic.isSome then noAmo else d.partnerAccess x p
  | .outbound o => if x.atomic.isSome then noAmo else d.outboundAccess x o
  | .nothing => fail 1

/-- A write of an engine that reaches registers, the EPL window or the MSR table (R41), by 32-bit words where it lies in the register
space or the EPL window. -/
def Dev.postedServe (d : Dev) (m a : Nat) (l : List Byte) : Dev :=
  let acc (a : Nat) (l : List Byte) : Access :=
    { master := BitVec.ofNat 6 m, port := .internal, addr := BitVec.ofNat 48 a, size := l.length, write := true, atomic := none,
      data := l, ecc := .clean, row := 0 }
  match d.regionOf a l.length with
  | .sram | .rom | .hall | .dram | .outbound _ | .nothing => d.serve (acc a l) a
  | .reg _ | .partner _ =>
    let ws := chunks 4 l
    foldN ws.length (fun i (d : Dev) =>
      let w := (ws[i]?).getD []
      d.serve (acc (a + 4 * i) w) (a + 4 * i)) d

/-- The fabric delivers the engines' writes that are on their way, oldest first (log entry 56). -/
def Dev.postedDrain (d : Dev) : Dev :=
  let ps := d.sys.posted
  ps.foldl (fun (d : Dev) e => d.postedServe e.1 e.2.1 e.2.2) { d with sys := { d.sys with posted := [] } }

/-- FABRIC_ACCESS: the address through the view it comes by, or a configuration request. The endpoint completes no AtomicOp of the
host (R35). DESIGN CHOICE (log entry 56): an access of Minuet's at 0x8000_0000 and above has no internal address; SYS_ERR_ADDR holds
Minuet's own. -/
def Dev.fabricAccess (d : Dev) (x : Access) : Dev :=
  let m := x.master.toNat
  let aper := d.rd F.SYS_APER_BASE_HI_base_hi * 2 ^ 32 + d.rd F.SYS_APER_BASE_LO_base_lo * 2 ^ 30
  let mnt := d.rd F.SYS_MNT_WIN_HI_base_hi * 2 ^ 32 + d.rd F.SYS_MNT_WIN_LO_base_lo * 2 ^ 30
  if x.port = .config then d.cfgAccess x
  else if x.atomic.isSome && m = 0 then d.pciUnsupported.emit (.readData 0 x.addr.toNat [] true)
  else match viewAddr x.port x.addr.toNat aper mnt with
    | some a => d.serve x a
    | none => if x.write then d.badWrite 1 m x.addr.toNat else d.badRead 1 m x.addr.toNat x.size

/-! ### Window accesses of the pair (R33, R426) -/

/-- An access the partner sends, as master 0x3F: it reaches neither this unit's EPL window nor its outbound window. -/
def Dev.partnerServe (d : Dev) (a n : Nat) (write : Bool) (data : List Byte) : Dev :=
  let x : Access := { master := 0x3F, port := .internal, addr := BitVec.ofNat 48 a, size := n, write := write, atomic := none,
                      data := data, ecc := .clean, row := 0 }
  if 0x400000000000 ≤ a then (if write then d.badWrite 1 0x3F a else d.badRead 1 0x3F a n) else d.serve x a

/-- WIN_RD: the answer carries the data, or an error. -/
def Dev.winRd (d : Dev) (m : EplRx) : Dev :=
  d.eplIn m fun d =>
    let a := leAt m.payload 0 8
    let n := leAt m.payload 8 4
    let tag := (m.payload.drop 12).take 4
    let k := d.out.length
    let d := d.partnerServe a n false []
    let got := d.out.drop k
    let bad := got.any (fun (o : Out) => match o with
      | .readData _ _ _ e => e
      | _ => false)
    let data := got.flatMap (fun (o : Out) => match o with
      | .readData _ _ l _ => l
      | _ => [])
    let d := { d with out := d.out.take k ++ got.filter (fun (o : Out) => match o with
      | .readData _ _ _ _ => false
      | _ => true) }
    d.eplSend 0x10 (tag ++ leBytes 1 (b2n bad) ++ zeros 3 ++ padTo 8 (if bad then [] else data))

/-- WIN_RD_RSP: the read that waits for the tag ends; an error reaches internal masters, and the host takes the data (R38). -/
def Dev.winRdRsp (d : Dev) (m : EplRx) : Dev :=
  d.eplIn m fun d =>
    let tag := leAt m.payload 0 4
    match d.epl.reads.find? (fun w => w.tag == tag) with
    | none => d
    | some w =>
      let d := { d with epl := { d.epl with reads := d.epl.reads.filter (fun x => x.tag != tag) } }
      let bad := byteAt m.payload 4 != 0 && w.master != 0
      d.emit (.readData w.master w.addr (if bad then [] else (m.payload.drop 8).take w.size) bad)

/-- WIN_WR. -/
def Dev.winWr (d : Dev) (m : EplRx) : Dev :=
  d.eplIn m fun d =>
    let n := leAt m.payload 8 4
    d.partnerServe (leAt m.payload 0 8) n true ((m.payload.drop 16).take n)

/-! ### FIFOs -/

/-- FIFO_FLUSH_COMPLETE: empty on both sides. A lane's frames that have no commit packet are cut with the rest; what depends
on the FIFO's level follows. -/
def Dev.fifoFlushComplete (d : Dev) (off : Nat) : Dev :=
  if !(d.fifo off).flushing then d
  else
    let lane := elemOf off 0x51040 0x100 16
    let d := match lane with
      | none => d
      | some l =>
        let x := d.lane l
        let keep := x.work.filter (fun (w : Work) => stageInCommit w.stage)
        let q := d.fifo off
        ({ d with fifos := mput d.fifos off { q with begun := q.begun || decide (keep.length < x.work.length) } }).setLane l
          { x with work := keep }
    let d := (d.fifoEmpty off).clrF (fqFld off F.WLZ_FQ_CTRL_flush)
    let d := if off = tsuFq1 then d.evtShow else d
    let d := match elemOf off 0xA0040 0x1000 16 with
      | some n => d.plcRefresh n
      | none => d
    match elemOf off 0xD0040 0x1000 12, elemOf off 0xD0050 0x1000 12 with
    | some n, _ => d.ethPressure n 0
    | none, some n => (d.ethPressure n 1).ethFlow
    | none, none => d

/-- Where a packet may go from a FIFO of the ingest path: a port's buffer feeds its crossing, a crossing feeds the lanes. -/
def Dev.packetWay (d : Dev) (src dst : Nat) (item : List Byte) : Bool :=
  let port := (elemOf src 0xA0040 0x1000 16).isSome || (elemOf src 0xB0060 0x1000 12).isSome
  let tunnel := match elemOf src 0xD0040 0x1000 12 with
    | some n => decide (4 ≤ n)
    | none => false
  if port then dst == 0x50200 && d.domOn .feb && d.domOn .reel
  else if tunnel then dst == 0x50210 && d.domOn .age && d.domOn .reel
  else if src == 0x50200 || src == 0x50210 then
    d.reel.started && (d.steerItem item).any (fun l => laneFq l == dst)
  else false

/-- PACKET_FIFO_TRANSFER: with the whole packet there and its check passed, it moves on; under cut-through the consumer may
begin on the part that arrived; a packet that fails its check ends in an abort marker where the consumer had begun. -/
def Dev.packetFifoTransfer (d : Dev) (src dst arrived : Nat) (ok : Bool) : Dev :=
  match d.fifoHead src with
  | none => d
  | some item =>
    let thr := d.rd (fqFld src F.WLZ_FQ_CTRL_cut_thr)
    let cut := d.on (fqFld src F.WLZ_FQ_CTRL_cut_en) && thr != 0
    let q := d.fifo src
    let started := q.begun || (cut && decide (thr ≤ arrived))
    if !d.packetWay src dst item || !d.fifoRoom dst (fifoCap dst) item then d
    else if !ok then
      let d := d.fifoPop src
      if started then d.fifoAbort src else d
    else if arrived < item.length then
      (if started then { d with fifos := mput d.fifos src { q with begun := true } } else d)
    else
      let d := (d.fifoPop src).fifoPush dst (fifoCap dst) item
      let d := match elemOf src 0xA0040 0x1000 16 with
        | some n => (d.bump (F.PLK_CNT_FRAME_frames.at n)).plcRefresh n
        | none => d
      match elemOf src 0xD0040 0x1000 12 with
      | some n => d.ethPressure n 0
      | none => d

end Sys2Proof.Machine
end

