-- ==== Sys2Proof/Machine/Boot.lean ====
section
/-! DEFINITION. Starts (R457–R460, R464–R466, R470, R477, R517): the boot ROM's choice of a slot, what Minuet loads and brings
up, the end of Boot, and the restart that an update's delay ends with. -/

namespace Sys2Proof.Machine

/-! ### The choice of a slot (R458 steps 1–3, R459) -/

/-- Whether a slot passes its checks: it holds a bundle, the bundle is sound as found, neither key slot is revoked, and rb is
not below the anti-rollback count (R455, R457). -/
def Dev.slotPasses (d : Dev) (r : BootSeen) (s : Nat) : Bool :=
  match mget? d.upd.slots s with
  | none => false
  | some img => !r.slotFails.getLsbD s && d.upd.fuses ≤ img.rb && !bit d.upd.revoked img.keySlot
      && !bit d.upd.revoked (2 + img.sigSlot)

/-- A record that gives up the provisional slot, with the cause to report (R465). -/
def BootRec.reverted (r : BootRec) (cause : Nat) : BootRec :=
  { r with next := 0xFF, tries := 0, lastCause := cause, bflags := setBits r.bflags 0 1 1 }

/-- The slot the ROM starts, whether it is provisional, and boot_result; no slot in ROM Recovery. -/
def Dev.slotChoice (d : Dev) (r : BootSeen) : Dev × Option (Nat × Bool) × Nat :=
  let b := d.bootRec
  let spend := b.next != 0xFF && b.tries != 0
  let d := if spend then d.bootRecPut { b with tries := b.tries - 1 } else d
  if spend && d.slotPasses r b.next then (d, some (b.next, true), 1)
  else
    let d := if b.next != 0xFF then d.bootRecPut (d.bootRec.reverted 3) else d
    let b := d.bootRec
    if d.slotPasses r b.active then
      if bit b.bflags 0 then
        (d.bootRecPut { b with bflags := setBits b.bflags 0 1 0 }, some (b.active, false), b.lastCause)
      else (d, some (b.active, false), 0)
    else
      let o := 1 - b.active
      match mget? d.upd.slots o with
      | none => (d, none, 6)
      | some img =>
        if d.slotPasses r o then
          (d.bootRecPut { b with active := o, activeVer := img.ver, activeRb := img.rb }, some (o, false), 5)
        else (d, none, 6)

/-! ### The trouble log at a start (R517) -/

/-- Whether the newest record of the log is sound: vmark and check. -/
def Dev.logTailSound (d : Dev) : Bool :=
  let b := leBytes 32 (tget d.log.slots (serSub 32 (d.rd F.LOG_TAIL_tail) 1 % 32768))
  byteAt b 31 == 0xA5 && leAt b 28 3 == crc32c 0xFFFFFFFF (b.take 28) % 2 ^ 24

/-- Drop unsound trailing slots, at most n of them; lseq continues from them. -/
def Dev.logScan : Nat → Dev → Dev
  | 0, d => d
  | n + 1, d =>
    if d.logLevel = 0 || d.logTailSound then d
    else Dev.logScan n (d.wr F.LOG_TAIL_tail (serSub 32 (d.rd F.LOG_TAIL_tail) 1))

/-- The scan, then the start record. -/
def Dev.logStart (d : Dev) : Dev :=
  let d := (d.logScan d.logLevel).logShow
  d.logAdmit { tick := d.tick, src := minuetId, sev := 0, code := 1, p0 := d.regWord 0x10010,
               p1 := d.rd F.UPD_STATUS_boot_result, p2 := 0 }

/-! ### Steps 4 and 5 -/

/-- The domains that are on in Boot from step 5, but HOST: AON, FAB, REEL, KEYC, WLZ, GAV, DMC, BHE, AGE, FEB, EPL, AUX. -/
def bootDoms : Nat := 0x6FF3

/-- The domains come up and DRAM is in service (R477, R491); HOST follows PERST#, and its link may train. -/
def Dev.bootPower (d : Dev) (gib : Nat) : Dev :=
  let was := d.on F.DMC_STATUS_self_refresh
  let d := (d.wr F.PMU_DOM_on (bootDoms + 4096 * b2n (!d.xdi.perst))).wr F.DMC_STATUS_fitted_gib gib
  let d := (d.setF F.DMC_STATUS_ready).clrF F.DMC_STATUS_self_refresh
  let d := if was then d.raise 484 else d
  { d with xdi := { d.xdi with trainReady := !d.xdi.perst } }

/-- Minuet finishes an acceptance that power cut short, and drops a provisional copy whose slot was given up (R464, R465). -/
def Dev.acceptFinish (d : Dev) : Dev :=
  if d.provisional then d
  else
    let keep := d.upd.stores.filter (fun (e : Nat × SetCopy) => e.2.committed || e.2.owner == d.bootRec.active)
    { d with upd := { d.upd with stores := keep.map (fun (e : Nat × SetCopy) => (e.1, { e.2 with committed := true })) } }

/-- Load a component into the memory it names (R456): the Minuet firmware into the AON SRAM, the Quadrille and Recovery firmware at its
load address. The microcode stores lie in no memory. -/
def Dev.compLoad (d : Dev) (ty : Nat) : Dev :=
  match (mget? d.upd.slots (d.rd F.UPD_STATUS_slot)).bind (slotEnt · ty) with
  | none => d
  | some x => d.memWrB (if ty = 1 then 0x08000000 else leAt x.1 16 8) x.2

/-- After a reset of FAB the Quadrille firmware is loaded again where it lies in the Hall (R487). -/
def Dev.hallFirmware (d : Dev) : Dev :=
  let ty := if d.mode == .recovery then 8 else 2
  match (mget? d.upd.slots (d.rd F.UPD_STATUS_slot)).bind (slotEnt · ty) with
  | none => d
  | some x => if inHall (leAt x.1 16 8) x.2.length then d.memWrB (leAt x.1 16 8) x.2 else d

/-- The known-answer tests: KEYC's (R275), each lane's (R158), each core's BIST (R492). -/
def Dev.bootTests (d : Dev) (r : BootSeen) : Dev :=
  let d := d.pavKat r.keycKat
  let d := foldN 16 (fun l (d : Dev) => if r.laneFails.getLsbD l then d.laneKatFail l else d) d
  foldN 8 (fun t (d : Dev) => if r.coreFails.getLsbD t then d.coreRetire t (Config.retireCause 6 2).toNat else d) d

/-- Pavane unlocks, unless a tamper event stopped Boot or the known-answer test failed (R272, R275). -/
def Dev.bootUnlock (d : Dev) : Dev :=
  if d.on F.PAV_TMP_STAT_boot_stopped || d.on F.PAV_STATUS_kat_fail then d else d.pavUnlock

/-! ### Step 6: the settings store (R460, R465) -/

/-- Apply the pairs of one register set, those at offsets that `keep` names. -/
def Dev.applyPairs (d : Dev) (keep : Nat → Bool) (l : List Byte) : Dev :=
  (chunks 8 l).foldl (fun (d : Dev) (p : List Byte) =>
    if p.length = 8 && keep (leAt p 0 4) then d.regWrChecked minuetId (leAt p 0 4) (leAt p 4 4) else d) d

/-- Apply the register sets in id order. -/
def Dev.applySettings (d : Dev) (keep : Nat → Bool) : Dev :=
  let regs := d.setCopy.items.filter (fun i => i.id ≤ 0xFFF)
  regs.foldl (fun (d : Dev) (i : SetItem) => d.applyPairs keep i.data) d

/-- Offsets of the MSR block's registers. -/
def inMsrWindow (off : Nat) : Bool := off / 0x10000 == 4

/-- DOMRST (R487): a requested one is carried out, its rst bit clears, and the command that asked completes. After one of FAB Minuet
restores the MSR registers from the settings store (R117; log entry 16). -/
def Dev.domrst (d : Dev) (n : Nat) : Dev :=
  if !bit (d.rd F.PMU_DOM_rst) n then d
  else match domOf n with
    | none => d
    | some x =>
      let d := d.domReset x
      let d := if x == .fab then d.hallFirmware.applySettings inMsrWindow else d
      let d := d.wrBit F.PMU_DOM_rst n false
      match mget? d.pmu.domCmds n with
      | none => d
      | some c => ({ d with pmu := { d.pmu with domCmds := mdel d.pmu.domCmds n } }).okRes c

/-- The provisional image migrates the store into a provisional copy of its own, where it writes another format. -/
def Dev.migrate (d : Dev) (slot sver : Nat) : Dev :=
  let c := d.setCopy
  if c.sver = sver then d
  else
    let copy := { c with sver := sver, gen := (c.gen + 1) % 2 ^ 32, committed := false, owner := slot }
    { d with upd := { d.upd with stores := mput d.upd.stores (1 - d.setLoc) copy } }

/-- Read the store and apply it. A provisional image that cannot read it reports so and waits, or goes on with the defaults that were
accepted for it; a committed image that cannot applies nothing. -/
def Dev.bootSettings (d : Dev) (slot : Nat) (prov unreadable : Bool) : Dev :=
  let img := (mget? d.upd.slots slot).getD { ver := 0, rb := 0, sver := 0, sverMin := 0 }
  let c := d.setCopy
  let bad := unreadable || decide (c.sver < img.sverMin) || decide (img.sver < c.sver)
  if bad then
    let d := d.wr F.UPD_STATUS_sver c.sver
    if !prov then d
    else if bit d.bootRec.bflags 1 then d.defaultsTake
    else (({ d with upd := { d.upd with hold := true } }).wr F.UPD_STATUS_boot_result 2).raise 467
  else
    let d := if prov then d.migrate slot img.sver else d
    (d.wr F.UPD_STATUS_sver d.setCopy.sver).applySettings (fun _ => true)

/-- Tables kept for areas that DRAM lost: Waltz's node and group tables (R215), Bolero's group table (R246). -/
def Dev.tablesReload (d : Dev) (lost : Bool) : Dev :=
  if !lost then d
  else
    let d := match d.savedTable tabNodes with
      | some t => d.nodesApply (tabImg t)
      | none => d
    let d := match d.savedTable tabGroups with
      | some t => d.groupsApply (tabImg t)
      | none => d
    let d := { d with bol := { d.bol with groups := (d.savedTable tabPush).getD [] } }
    d.bol.groups.foldl (fun (d : Dev) (e : Nat × Nat) =>
      d.memWrB (d.bolArea + grpOff e.1) (leBytes 4 e.2 ++ leBytes 2 (e.2 / 2 ^ 32))) d

/-! ### The rows -/

/-- BOOT_START in a slot that passed. -/
def Dev.bootSlot (d : Dev) (r : BootSeen) (slot : Nat) (prov : Bool) (res : Nat) : Dev :=
  let lost := !d.on F.DMC_STATUS_self_refresh
  let d := (((d.wr F.UPD_STATUS_boot_result res).flag F.UPD_STATUS_provisional prov).wr F.UPD_STATUS_slot slot).clrF
    F.UPD_STATUS_rom_recovery
  let d := { d with upd := { d.upd with lastOk := some slot } }
  let d := d.acceptFinish
  let d := (d.compLoad 1).fuseBlow d.bootRec.activeRb
  let d := (d.bootPower r.dramGib.toNat).logStart
  let ver := ((mget? d.upd.slots slot).map (·.ver)).getD 0
  let d := if 2 ≤ res && res ≤ 4 then (d.raise 467).trouble minuetId 1 0xD res ver else d
  let d := if r.repaired then d.raise 469 else d
  let d := (d.compLoad 2).valReload
  let d := d.gavBoot
  let d := (d.bootTests r).bootUnlock
  let d := { d with epl := { d.epl with session := d.freeVal 64, seen := [] } }.drawn
  let d := (d.bootSettings slot prov r.unreadable).tablesReload lost
  if d.sys.alertDue then { d with sys := { d.sys with alertDue := false } }.raise 290 else d

/-- BOOT_START (R458): one per start. The ROM has read the flash's SFDP table, so QSPI runs in 1-4-4 DTR mode (R530). Without a slot that passes the ROM stays in ROM Recovery. -/
def Dev.bootStart (d : Dev) (r : BootSeen) : Dev :=
  if d.mode != .boot || d.upd.booted then d
  else
    let d := { d with
      upd := { d.upd with booted := true },
      pmu := { d.pmu with qspiDtr := true } }
    match d.slotChoice r with
    | (d, some (slot, prov), res) => d.bootSlot r slot prov res
    | (d, none, res) =>
      let d := (d.wr F.UPD_STATUS_boot_result res).setF F.UPD_STATUS_rom_recovery
      (d.bootPower r.dramGib.toNat).logStart

/-- Why Boot ends in Recovery, as boot_result, if it does (R459, R470). -/
def Dev.recoveryCause (d : Dev) : Option Nat :=
  if d.on F.UPD_STATUS_rom_recovery then some 6
  else if d.on F.PAV_TMP_STAT_boot_stopped then some 7
  else if d.on F.PAV_STATUS_kat_fail then some 8
  else if d.upd.recovery then some 9 else none

/-- Boot ends in Recovery: QDB, REEL, WLZ and FEB off, the key store locked. -/
def Dev.recoveryEnter (d : Dev) (cause : Nat) : Dev :=
  let d := (d.wr F.UPD_STATUS_boot_result cause).modeWrite .recovery
  let d := [Dom.qdb, .reel, .wlz, .feb].foldl (fun (d : Dev) (x : Dom) => d.domSwitch x false) (d.domSwitch .qda true)
  let d := (d.clrF F.PAV_STATUS_unlocking).clrF F.PAV_CTRL_unlock
  let d := if cause = 6 then d else d.compLoad 8
  let ver := ((mget? d.upd.slots (d.rd F.UPD_STATUS_slot)).map (·.ver)).getD 0
  ({ d with upd := { d.upd with recovery := false } }.trouble minuetId 1 0xD cause ver).pavLockStore.keyNext

/-- BOOT_COMPLETE (R458 step 7, R470): the cores start, the mode is R469's or Recovery, a negotiation completes (R49), the time
scheme follows the mode (R344). -/
def Dev.bootComplete (d : Dev) : Dev :=
  if d.mode != .boot || !d.upd.booted then d
  else
    let d := match d.recoveryCause with
      | some cause => d.recoveryEnter cause
      | none =>
        let d := (d.domSwitch .qda true).domSwitch .qdb true
        (d.modeEnter d.modeTarget).offMaskApply.enginesReady
    let d := { d with pmu := { d.pmu with half := false } }
    let d := if d.xdi.negDue then d.negotiateNow else d
    let d := d.handover
    if d.rd F.PMU_RST_CAUSE_kind == 5 && d.rd F.PMU_RST_CAUSE_wake == 1 then d.raise 422 else d

/-- UPD_ACTIVATE_DELAY (R463, R466): the delay ends; in Storm the restart waits unless force was set. -/
def Dev.updActivateDelay (d : Dev) : Dev :=
  match d.upd.restart with
  | none => d
  | some force =>
    let d := { d with upd := { d.upd with restart := none } }
    if d.mode == .storm && !force then { d with upd := { d.upd with due := true } } else d.softReset 2

/-- The block idles for one nanosecond (log entry 1): the fabric delivers the engines' writes on their way (log entry 56), and the
tick and the AON clock count (R341, R349); a tamper sensor may come back (log entry 38). -/
def Dev.idle (d : Dev) : Dev :=
  let d := d.postedDrain.tamperSettle
  { d with tick := d.tick + 1, clk := d.clk + 1 }

end Sys2Proof.Machine
end

