-- ==== Sys2Proof/Machine/CmdBol.lean ====
section
/-! DEFINITION. The meanings of the commands of chapter 8: Bolero. -/

namespace Sys2Proof.Machine

/-- BOL_ENABLE (R250): Writing BOL_CTRL.enable checks the area and starts Bolero when ready. -/
def execBolEnable (v : Word) (s : State) : Host.Outcome State Fault Refusal := ran s (s.dev.bolEnable v.toNat)

/-- BOL_CMD (R231): Sends one command to one meter with retries. -/
def execBolCmd (c : Desc) (s : State) : Host.Outcome State Fault Refusal := ran s (s.dev.bolCmd c)

/-- BOL_APDU (R247): Sends a DLMS/COSEM APDU to one meter. -/
def execBolApdu (c : Desc) (s : State) : Host.Outcome State Fault Refusal := ran s (s.dev.withData c Dev.bolApdu)

/-- BOL_CAMP_LOAD (R247): Loads a campaign slot with an image, tariff or command. -/
def execBolCampLoad (c : Desc) (s : State) : Host.Outcome State Fault Refusal := ran s (s.dev.withData c Dev.bolCampLoad)

/-- BOL_CAMP_MEMBERS (R236): Adds members to a campaign, excluding those that fail. -/
def execBolCampMembers (c : Desc) (s : State) : Host.Outcome State Fault Refusal := ran s (s.dev.withData c Dev.bolCampMembers)

/-- BOL_CAMP_START (R237): Starts a campaign's phases. -/
def execBolCampStart (c : Desc) (s : State) : Host.Outcome State Fault Refusal := ran s (s.dev.bolCampStart c)

/-- BOL_CAMP_ACTIVATE (R237): Moves an ARMED campaign to ACTIVATE. -/
def execBolCampActivate (c : Desc) (s : State) : Host.Outcome State Fault Refusal := ran s (s.dev.bolCampActivate c)

/-- BOL_CAMP_WAIT (R242): Completes at the campaign's next phase change. -/
def execBolCampWait (c : Desc) (s : State) : Host.Outcome State Fault Refusal := ran s (s.dev.bolCampWait c)

/-- BOL_CAMP_REPORT (R242): Copies the member table. -/
def execBolCampReport (c : Desc) (s : State) : Host.Outcome State Fault Refusal := ran s (s.dev.bolCampReport c)

/-- BOL_CAMP_ABORT (R243): Aborts a campaign, broadcasting CANCEL. -/
def execBolCampAbort (c : Desc) (s : State) : Host.Outcome State Fault Refusal := ran s (s.dev.bolCampAbort c)

/-- BOL_CAMP_FREE (R247): Frees a finished or loaded campaign slot. -/
def execBolCampFree (c : Desc) (s : State) : Host.Outcome State Fault Refusal := ran s (s.dev.bolCampFree c)

/-- BOL_GROUP_SET (R247): Sets a group's key handle, advancing bgen when it changes. -/
def execBolGroupSet (c : Desc) (s : State) : Host.Outcome State Fault Refusal := ran s (s.dev.bolGroupSet c)

/-- BOL_CMD_STATUS (R247): Returns a meter's last command outcome. -/
def execBolCmdStatus (c : Desc) (s : State) : Host.Outcome State Fault Refusal := ran s (s.dev.bolCmdStatus c)

/-- ACK_REQUEST (R229): A lane passes Bolero an acknowledgement request, queued or dropped when full. -/
def execAckRequest (s : State) : Host.Outcome State Fault Refusal := ran s s.dev.ackRequest

/-- ACK_DELAY_EXPIRY (R229): ack_delay after the stamp Bolero sends JOIN_ACCEPT or ACK_UP. -/
def execAckDelayExpiry (s : State) : Host.Outcome State Fault Refusal := ran s s.dev.ackDelayExpiry

/-- ACK_NOTICE (R228): An ACK frame's notice completes or matches nothing of an outstanding command. -/
def execAckNotice (s : State) : Host.Outcome State Fault Refusal := ran s s.dev.ackNotice

/-- PUSH_STATUS_NOTICE (R236): A PUSH_STATUS notice updates the member's state and blocks_held. -/
def execPushStatusNotice (s : State) : Host.Outcome State Fault Refusal := ran s s.dev.pushStatusNotice

/-- CMD_ATTEMPT_TIMEOUT (R231): cmd_to passes without ACK; the next attempt is sent or the command ends BOL_NO_ACK. -/
def execCmdAttemptTimeout (i : BitVec 20) (s : State) : Host.Outcome State Fault Refusal :=
  ran s (s.dev.cmdAttemptTimeout i.toNat)

/-- TOKEN_WAIT_EXPIRY (R232): An actuating frame held for the token ends with TOKEN after token_wait. -/
def execTokenWaitExpiry (frame : Nat) (s : State) : Host.Outcome State Fault Refusal := ran s (s.dev.tokenWaitExpiry frame)

/-- ANNOUNCE_REPEAT (R237): PUSH_CTRL ANNOUNCE is broadcast again after announce_gap. -/
def execAnnounceRepeat (slot : Fin 64) (path : Nat) (s : State) : Host.Outcome State Fault Refusal :=
  ran s (s.dev.announceRepeat slot.val path)

/-- CAMPAIGN_BLOCK_PACE (R237): The path's pace releases its next source or repair block. -/
def execCampaignBlockPace (slot : Fin 64) (path : Nat) (s : State) : Host.Outcome State Fault Refusal :=
  ran s (s.dev.campaignBlockPace slot.val path)

/-- STATUS_WINDOW_END (R241): A STATUS window ends and the path moves to REPAIR, ARMED or the next round. -/
def execStatusWindowEnd (slot : Fin 64) (path : Nat) (s : State) : Host.Outcome State Fault Refusal :=
  ran s (s.dev.statusWindowEnd slot.val path)

/-- ACTIVATE_AT_REACHED (R237): activate_at is reached and an ARMED campaign enters ACTIVATE. -/
def execActivateAtReached (slot : Fin 64) (s : State) : Host.Outcome State Fault Refusal :=
  ran s (s.dev.activateAtReached slot.val)

/-- ACTIVATION_WINDOW_END (R237): One status window after activation the campaign becomes DONE. -/
def execActivationWindowEnd (slot : Fin 64) (path : Nat) (s : State) : Host.Outcome State Fault Refusal :=
  ran s (s.dev.activationWindowEnd slot.val path)

end Sys2Proof.Machine
end

