-- ==== Sys2Proof/Machine/CmdEpl.lean ====
section
/-! DEFINITION. The meanings of the commands of chapter 15: the pair link. -/

namespace Sys2Proof.Machine

/-- EPL_LINK_UP (R422): Both lanes hold block lock and are deskewed; the link comes up. -/
def execEplLinkUp (s : State) : Host.Outcome State Fault Refusal := ran s s.dev.eplLinkUp

/-- EPL_LINK_DOWN (R423): The lanes lose block lock for 100 µs and the link is down. -/
def execEplLinkDown (s : State) : Host.Outcome State Fault Refusal := ran s s.dev.eplLinkDown

/-- EPL_HELLO_TIMER (R423): Every 10 ms the unit sends HELLO. -/
def execEplHelloTimer (s : State) : Host.Outcome State Fault Refusal := ran s s.dev.eplHelloTimer

/-- EPL_HELLO_TIMEOUT (R423): No HELLO for 50 ms counts the link as down. -/
def execEplHelloTimeout (s : State) : Host.Outcome State Fault Refusal := ran s s.dev.eplHelloTimeout

/-- EPL_RETRANSMIT_TIMEOUT (R423): No acknowledgement in 20 µs resends from the first unacknowledged message, or drops the link at 8. -/
def execEplRetransmitTimeout (s : State) : Host.Outcome State Fault Refusal := ran s s.dev.eplRetransmitTimeout

/-- HELLO (R428): A received HELLO negotiates the version, forms the pair and settles roles. -/
def execHello (m : EplRx) (s : State) : Host.Outcome State Fault Refusal := ran s (s.dev.hello m)

/-- LEASE (R430): A received LEASE sets the non-holder's view of expiry and is acknowledged. -/
def execLease (m : EplRx) (s : State) : Host.Outcome State Fault Refusal := ran s (s.dev.lease m)

/-- LEASE_ACK (R430): A received LEASE_ACK moves the holder's expiry. -/
def execLeaseAck (m : EplRx) (s : State) : Host.Outcome State Fault Refusal := ran s (s.dev.leaseAck m)

/-- TOKEN_RELEASE (R431): A received TOKEN_RELEASE sets the handover instant for takeover. -/
def execTokenRelease (m : EplRx) (s : State) : Host.Outcome State Fault Refusal := ran s (s.dev.tokenRelease m)

/-- DIGEST (R436): A received DIGEST part is stored for comparison. -/
def execDigest (m : EplRx) (s : State) : Host.Outcome State Fault Refusal := ran s (s.dev.digest m)

/-- DIGEST_RESULT (R437): A received DIGEST_RESULT with mismatches opens a mismatch round. -/
def execDigestResult (m : EplRx) (s : State) : Host.Outcome State Fault Refusal := ran s (s.dev.digestResult m)

/-- SELFTEST (R437): A received SELFTEST request or result drives the mismatch round outcome. -/
def execSelftest (m : EplRx) (s : State) : Host.Outcome State Fault Refusal := ran s (s.dev.selftest m)

/-- RECHECK (R437): A received RECHECK compares recomputed digests and may set divergence. -/
def execRecheck (m : EplRx) (s : State) : Host.Outcome State Fault Refusal := ran s (s.dev.recheck m)

/-- MSR_DELTA (R440): A received MSR delta is queued or applied on the standby. -/
def execMsrDelta (m : EplRx) (s : State) : Host.Outcome State Fault Refusal := ran s (s.dev.msrDelta m)

/-- KEY_EVENT (R441): A received KEY_EVENT is followed on the standby's own keys. -/
def execKeyEvent (m : EplRx) (s : State) : Host.Outcome State Fault Refusal := ran s (s.dev.keyEventRx m)

/-- KEY_SUMMARY (R441): A received KEY_SUMMARY is compared with the unit's keys. -/
def execKeySummary (m : EplRx) (s : State) : Host.Outcome State Fault Refusal := ran s (s.dev.keySummaryRx m)

/-- SETTINGS (R438): A received SETTINGS item is applied on the standby. -/
def execSettings (m : EplRx) (readable : Bool) (s : State) : Host.Outcome State Fault Refusal :=
  ran s (s.dev.settingsRx m readable)

/-- BOLERO (R438): Received Bolero area bytes or a group entry are applied on the standby. -/
def execBolero (m : EplRx) (s : State) : Host.Outcome State Fault Refusal := ran s (s.dev.boleroRx m)

/-- RESYNC (R442): A received RESYNC request, records or done message drives resynchronisation. -/
def execResync (m : EplRx) (s : State) : Host.Outcome State Fault Refusal := ran s (s.dev.resyncRx m)

/-- WIN_RD (R426): A partner window read is served locally and answered. -/
def execWinRd (m : EplRx) (s : State) : Host.Outcome State Fault Refusal := ran s (s.dev.winRd m)

/-- WIN_RD_RSP (R426): A window read response completes the local master's access. -/
def execWinRdRsp (m : EplRx) (s : State) : Host.Outcome State Fault Refusal := ran s (s.dev.winRdRsp m)

/-- WIN_WR (R426): A partner window write is served locally. -/
def execWinWr (m : EplRx) (s : State) : Host.Outcome State Fault Refusal := ran s (s.dev.winWr m)

/-- LEASE_RENEW_TIMER (R430): Every renew_ms the holder sends LEASE. -/
def execLeaseRenewTimer (s : State) : Host.Outcome State Fault Refusal := ran s s.dev.leaseRenewTimer

/-- LEASE_EXPIRY (R432): The holder's lease expires and it loses the token. -/
def execLeaseExpiry (s : State) : Host.Outcome State Fault Refusal := ran s s.dev.leaseExpiry

/-- TOKEN_TAKEOVER (R431): Expiry or handover plus guard_ms passes and the non-holder takes the token with term + 1. -/
def execTokenTakeover (s : State) : Host.Outcome State Fault Refusal := ran s s.dev.tokenTakeover

/-- DEAD_TIMER (R432): The link stays down for dead_ms and the standby becomes active without the token. -/
def execDeadTimer (s : State) : Host.Outcome State Fault Refusal := ran s s.dev.deadTimer

/-- WITNESS_LEASE_EXPIRY (R433): A witness grant's lease expires and the token is lost. -/
def execWitnessLeaseExpiry (s : State) : Host.Outcome State Fault Refusal := ran s s.dev.witnessLeaseExpiry

/-- SWAP_HANDOVER (R434): At the swap instant the active unit enters Shadow. -/
def execSwapHandover (s : State) : Host.Outcome State Fault Refusal := ran s s.dev.swapHandover

/-- DIGEST_BATCH_CLOSE (R436): A digest batch closes at 4,096 records or digest_to and is sent. -/
def execDigestBatchClose (s : State) : Host.Outcome State Fault Refusal := ran s s.dev.digestBatchClose

/-- DIGEST_COMPARE (R436): cmp_delay after the last part the batch is compared and DIGEST_RESULT returned. -/
def execDigestCompare (s : State) : Host.Outcome State Fault Refusal := ran s s.dev.digestCompare

/-- SELFTEST_DONE (R437): The datapath self-test completes and its result is sent. -/
def execSelftestDone (keyc : Bool) (commit : Bool) (digest : Bool) (laneFail : BitVec 16) (s : State) : Host.Outcome State Fault Refusal :=
  ran s (s.dev.selftestDone keyc commit digest laneFail.toNat)

/-- MERGE_DELAY_APPLY (R439): merge_ms after receipt a commit delta is applied on the standby. -/
def execMergeDelayApply (s : State) : Host.Outcome State Fault Refusal := ran s s.dev.mergeDelayApply

/-- KEY_SUMMARY_TIMER (R438): Every ksum_s a KEY_SUMMARY is sent. -/
def execKeySummaryTimer (s : State) : Host.Outcome State Fault Refusal := ran s s.dev.keySummaryTimer

/-- PAIR_INFO (R447): Returns pair version, role, token and term. -/
def execPairInfo (c : Desc) (s : State) : Host.Outcome State Fault Refusal := ran s (s.dev.pairInfo c)

/-- PAIR_SWAP (R434): Moves the token and active role to the standby. -/
def execPairSwap (c : Desc) (s : State) : Host.Outcome State Fault Refusal := ran s (s.dev.pairSwap c)

/-- PAIR_WITNESS_GRANT (R433): Accepts a witness grant of the token. -/
def execPairWitnessGrant (c : Desc) (s : State) : Host.Outcome State Fault Refusal := ran s (s.dev.pairWitnessGrant c)

/-- PAIR_RESYNC (R442): Requests a resynchronisation of the standby. -/
def execPairResync (c : Desc) (s : State) : Host.Outcome State Fault Refusal := ran s (s.dev.pairResync c)

/-- PAIR_MISMATCH_READ (R447): Copies the entries of the last divergence. -/
def execPairMismatchRead (c : Desc) (s : State) : Host.Outcome State Fault Refusal := ran s (s.dev.pairMismatchRead c)

end Sys2Proof.Machine
end

