-- ==== Sys2Proof/Machine/CmdEth.lean ====
section
/-! DEFINITION. The meanings of the commands of chapter 13: Ethernet. -/

namespace Sys2Proof.Machine

/-- ETH_ENABLE (R368): Enabling a port checks mode, frame size and partitions or sets cfg_bad. -/
def execEthEnable (n : Fin 12) (v : Word) (s : State) : Host.Outcome State Fault Refusal :=
  ran s (s.dev.ethEnable n.val v.toNat)

/-- ETH_FRAME_RECEIVE (R370): A received frame is classified and buffered, tunnelled, forwarded, queued or discarded. -/
def execEthFrameReceive (n : Fin 12) (m : EthRx) (s : State) : Host.Outcome State Fault Refusal :=
  ran s (s.dev.ethFrameReceive n.val m)

/-- PAUSE_EXPIRY (R378): The pause timer expires and transmission resumes. -/
def execPauseExpiry (n : Fin 12) (cls : Fin 8) (s : State) : Host.Outcome State Fault Refusal :=
  ran s (s.dev.pauseExpiry n.val cls.val)

/-- PAUSE_STORM (R378): A port paused for pause_max ms sets pause_storm and ignores pauses for 1 s. -/
def execPauseStorm (n : Fin 12) (s : State) : Host.Outcome State Fault Refusal := ran s (s.dev.pauseStorm n.val)

/-- PAUSE_RESEND (R379): PAUSE or PFC is re-sent every pause_quanta / 2 above xon. -/
def execPauseResend (n : Fin 12) (part : Fin 2) (s : State) : Host.Outcome State Fault Refusal :=
  ran s (s.dev.pauseResend n.val part.val)

/-- XON_PAUSE_SEND (R379): A partition falling to xon sends a final PAUSE or PFC with 0. -/
def execXonPauseSend (n : Fin 12) (part : Fin 2) (s : State) : Host.Outcome State Fault Refusal :=
  ran s (s.dev.xonPauseSend n.val part.val)

/-- ETH_TXQ_POST (R377): Firmware advances a transmit queue tail, posting frames to send. -/
def execEthTxqPost (q : Fin 8) (v : Word) (s : State) : Host.Outcome State Fault Refusal :=
  ran s (s.dev.ethTxqPost q.val v.toNat)

/-- ETH_TX_DONE (R377): A transmit slot is sent and marked done with its stamp. -/
def execEthTxDone (n : Fin 12) (s : State) : Host.Outcome State Fault Refusal := ran s (s.dev.ethTxDone n.val)

/-- TUNNEL_DOWNLINK_SEND (R374): Downlink entries are packed into a datagram and sent, dropping expired actuating entries. -/
def execTunnelDownlinkSend (conc : BitVec 12) (s : State) : Host.Outcome State Fault Refusal :=
  ran s (s.dev.tunnelDownlinkSend conc.toNat)

/-- KEEPALIVE_SEND (R373): Every ka_s a keepalive is sent to each known concentrator. -/
def execKeepaliveSend (s : State) : Host.Outcome State Fault Refusal := ran s s.dev.keepaliveSend

/-- CONC_SILENT (R373): A concentrator silent for conc_silent loses up and raises conc_lost. -/
def execConcSilent (conc : BitVec 12) (s : State) : Host.Outcome State Fault Refusal := ran s (s.dev.concSilent conc.toNat)

/-- FDB_AGE_OUT (R376): A learning entry unheard for age_s is removed. -/
def execFdbAgeOut (mac : BitVec 48) (vid : BitVec 12) (s : State) : Host.Outcome State Fault Refusal :=
  ran s (s.dev.fdbAgeOut mac.toNat vid.toNat)

/-- ETH_CONC_SEL_WRITE (R388): Writing ETH_CONC_SEL loads a concentrator entry. -/
def execEthConcSelWrite (v : Word) (s : State) : Host.Outcome State Fault Refusal := ran s (s.dev.ethConcSelWrite v.toNat)

/-- ETH_CONC_COMMIT (R388): Setting ETH_CONC_CTRL.commit writes CONC_DATA to the entry. -/
def execEthConcCommit (s : State) : Host.Outcome State Fault Refusal := ran s s.dev.ethConcCommit

/-- SA_INSTALL (R382): Installs a MACsec SA from a wrapped SAK record. -/
def execSaInstall (c : Desc) (s : State) : Host.Outcome State Fault Refusal := ran s (s.dev.withData c Dev.saInstall)

/-- SA_TX_SWITCH (R382): Switches the active transmit SA at the next frame boundary. -/
def execSaTxSwitch (c : Desc) (s : State) : Host.Outcome State Fault Refusal := ran s (s.dev.saTxSwitch c)

/-- SA_DELETE (R382): Empties an SA slot. -/
def execSaDelete (c : Desc) (s : State) : Host.Outcome State Fault Refusal := ran s (s.dev.saDelete c)

/-- ETH_WAKE_CFG_WRITE (R383): Writing ETH_WAKE_CFG arms wake ports or sets cfg_bad. -/
def execEthWakeCfgWrite (v : Word) (s : State) : Host.Outcome State Fault Refusal := ran s (s.dev.ethWakeCfgWrite v.toNat)

/-- ETH_WAKE (R383): In Dormant an armed port sees a wake pattern or link up and wakes the device. -/
def execEthWake (n : Fin 12) (frame : Option (List Byte)) (s : State) : Host.Outcome State Fault Refusal :=
  ran s (s.dev.ethWake n.val frame)

/-- ETH_LINK_CHANGE (R384): A port link goes up or down, updating backhaul presence. -/
def execEthLinkChange (n : Fin 12) (up : Bool) (rate : BitVec 3) (s : State) : Host.Outcome State Fault Refusal :=
  ran s (s.dev.ethLinkChange n.val up rate.toNat)

/-- ETH_TRANSIENT_FAULT (R385): A port records a transient fault. -/
def execEthTransientFault (n : Fin 12) (fec : Bool) (s : State) : Host.Outcome State Fault Refusal :=
  ran s (s.dev.ethTransientFault n.val fec)

/-- ETH_PERMANENT_FAULT (R385): A port records a permanent fault and retires. -/
def execEthPermanentFault (n : Fin 12) (cause : BitVec 8) (s : State) : Host.Outcome State Fault Refusal :=
  ran s (s.dev.ethPermanentFault n.val cause.toNat)

/-- PAUSE_IGNORE_END (R378): After 1 s with no PAUSE or PFC received, a port that set pause_storm obeys received pause frames again. -/
def execPauseIgnoreEnd (n : Fin 12) (s : State) : Host.Outcome State Fault Refusal := ran s (s.dev.pauseIgnoreEnd n.val)

end Sys2Proof.Machine
end

