-- ==== Sys2Proof/Machine/CmdFabric.lean ====
section
/-! DEFINITION. The meanings of the commands of chapter 1: registers, fabric and FIFOs. -/

namespace Sys2Proof.Machine

/-- REGISTER_WRITE (R12): A write to a register that has no row of its own updates its fields by their type codes. -/
def execRegisterWrite (m : BitVec 6) (off : BitVec 26) (size : Nat) (v : BitVec 64) (s : State) : Host.Outcome State Fault Refusal :=
  ran s (s.dev.registerWrite m.toNat off.toNat size v.toNat)

/-- REG_PAIR_LO_READ (R547): A read of a _LO register captures _HI into the reading master's holding register. -/
def execRegPairLoRead (m : BitVec 6) (off : BitVec 26) (s : State) : Host.Outcome State Fault Refusal :=
  ran s (s.dev.regPairLoRead m.toNat off.toNat)

/-- REG_PAIR_HI_WRITE (R547): A write of a _HI register is held for the writing master without changing the register. -/
def execRegPairHiWrite (m : BitVec 6) (off : BitVec 26) (v : Word) (s : State) : Host.Outcome State Fault Refusal :=
  ran s (s.dev.pairHiWrite m.toNat off.toNat v.toNat)

/-- REG_PAIR_LO_WRITE (R547): A write of a _LO register commits the master's held _HI and the _LO together, or changes _LO alone. -/
def execRegPairLoWrite (m : BitVec 6) (off : BitVec 26) (v : Word) (s : State) : Host.Outcome State Fault Refusal :=
  ran s (s.dev.pairLoWrite m.toNat off.toNat v.toNat)

/-- RC_FIELD_READ (R12): A read of a register holding clear-on-read fields returns and clears them. -/
def execRcFieldRead (m : BitVec 6) (off : BitVec 26) (s : State) : Host.Outcome State Fault Refusal :=
  ran s (s.dev.rcFieldRead m.toNat off.toNat)

/-- FABRIC_ACCESS (R38): A master's read or write to memory or a window is served or ends with an error response. -/
def execFabricAccess (a : Access) (s : State) : Host.Outcome State Fault Refusal := ran s (s.dev.fabricAccess a)

/-- FIFO_FLUSH (R22): Setting a FIFO's flush bit starts emptying it, with the losses of R23. -/
def execFifoFlush (off : BitVec 26) (s : State) : Host.Outcome State Fault Refusal := ran s (s.dev.fifoFlush off.toNat)

/-- FIFO_FLUSH_COMPLETE (R22): The FIFO is empty on both sides and the flush bit clears. -/
def execFifoFlushComplete (off : BitVec 26) (s : State) : Host.Outcome State Fault Refusal :=
  ran s (s.dev.fifoFlushComplete off.toNat)

/-- PACKET_FIFO_TRANSFER (R24): A packet enters a crossing FIFO and its consumer starts at cut_thr bytes or the whole packet. -/
def execPacketFifoTransfer (src : BitVec 26) (dst : BitVec 26) (arrived : Nat) (ok : Bool) (s : State) : Host.Outcome State Fault Refusal :=
  ran s (s.dev.packetFifoTransfer src.toNat dst.toNat arrived ok)

end Sys2Proof.Machine
end

