-- ==== Sys2Proof/Machine/CmdGav.lean ====
section
/-! DEFINITION. The meanings of the commands of chapter 14: Gavotte. -/

namespace Sys2Proof.Machine

/-- GAV_ENABLE (R421): Writing GAV_CTRL.enable checks the area and starts the mount. -/
def execGavEnable (v : Word) (s : State) : Host.Outcome State Fault Refusal := ran s (s.dev.gavEnable v.toNat)

/-- GAV_MOUNT (R403): Gavotte reads anchors, loads the root, replays the journal and scans open blocks. -/
def execGavMount (rootOk : Bool) (dieOk : Bool) (s : State) : Host.Outcome State Fault Refusal :=
  ran s (s.dev.gavMount rootOk dieOk)

/-- GAV_MOUNT_DONE (R403): The mount completes or finds no anchor and sets unformatted. -/
def execGavMountDone (s : State) : Host.Outcome State Fault Refusal := ran s s.dev.gavMountDone.enginesReady.campPurge

/-- GAV_SECTOR_PROGRAM (R395): A record sector whose slots are all published is programmed. -/
def execGavSectorProgram (s : State) : Host.Outcome State Fault Refusal := ran s s.dev.gavSectorProgram

/-- GAV_PARTIAL_FLUSH (R395): flush_ms after the first unprogrammed publication a partial prefix is programmed. -/
def execGavPartialFlush (s : State) : Host.Outcome State Fault Refusal := ran s s.dev.gavPartialFlush

/-- GAV_PROGRAM_DONE (R395): A page program completes, advancing GAV_FLUSHED or the map. -/
def execGavProgramDone (ok : Bool) (s : State) : Host.Outcome State Fault Refusal := ran s (s.dev.gavProgramDone ok)

/-- GAV_JOURNAL_SECTOR (R400): A journal sector is programmed 2 ms after its first entry or when full. -/
def execGavJournalSector (ok : Bool) (s : State) : Host.Outcome State Fault Refusal := ran s (s.dev.gavJournalSector ok)

/-- GAV_SYSVAL_WRITE (R402): Another block's durable value is journaled as SYSVAL. -/
def execGavSysvalWrite (id : BitVec 8) (v : BitVec 72) (s : State) : Host.Outcome State Fault Refusal :=
  ran s (s.dev.gavSysvalWrite id.toNat v.toNat)

/-- GAV_GC_START (R405): A die at gc_low chooses the highest-scoring block and starts collecting it. -/
def execGavGcStart (die : Fin 128) (s : State) : Host.Outcome State Fault Refusal := ran s (s.dev.gavGcStart die.val)

/-- GAV_GC_COPY_DONE (R406): All valid sectors of the collected block have been copied. -/
def execGavGcCopyDone (die : Fin 128) (reads : List (Nat × Bool)) (targetOk : Bool) (s : State) : Host.Outcome State Fault Refusal :=
  ran s (s.dev.gavGcCopyDone die.val reads targetOk)

/-- GAV_GC_ERASE (R406): The journal sector with the block's last SECT entry completes and the erase is issued. -/
def execGavGcErase (die : Fin 128) (s : State) : Host.Outcome State Fault Refusal := ran s (s.dev.gavGcErase die.val)

/-- GAV_ERASE_DONE (R406): An erase completes and FREE is journaled with the erase count. -/
def execGavEraseDone (die : Fin 128) (ok : Bool) (s : State) : Host.Outcome State Fault Refusal :=
  ran s (s.dev.gavEraseDone die.val ok)

/-- GAV_DIE_FAULT (R412): A die records a fault, retiring on a permanent fault or the threshold. -/
def execGavDieFault (die : Fin 128) (permanent : Bool) (lost : List Nat) (s : State) : Host.Outcome State Fault Refusal :=
  ran s (s.dev.gavDieFault die.val permanent lost)

/-- ARC_READ (R416): Reads archive records by pseq. -/
def execArcRead (c : Desc) (reads : List (Nat × Bool)) (s : State) : Host.Outcome State Fault Refusal :=
  ran s (s.dev.arcRead c reads)

/-- ARC_BLK_READ (R416): Reads host-region sectors. -/
def execArcBlkRead (c : Desc) (reads : List (Nat × Bool)) (s : State) : Host.Outcome State Fault Refusal :=
  ran s (s.dev.arcBlkRead c reads)

/-- ARC_BLK_WRITE (R392): Writes host-region sectors durably. -/
def execArcBlkWrite (c : Desc) (s : State) : Host.Outcome State Fault Refusal := ran s (s.dev.withData c Dev.arcBlkWrite)

/-- ARC_TRIM (R416): Trims host-region sectors. -/
def execArcTrim (c : Desc) (s : State) : Host.Outcome State Fault Refusal := ran s (s.dev.arcTrim c)

/-- ARC_SDISCARD (R408): Securely discards host-region sectors. -/
def execArcSdiscard (c : Desc) (s : State) : Host.Outcome State Fault Refusal := ran s (s.dev.arcSdiscard c)

/-- ARC_FLUSH (R416): Completes when GAV_FLUSHED reaches the published sequence at its start. -/
def execArcFlush (c : Desc) (s : State) : Host.Outcome State Fault Refusal := ran s (s.dev.arcFlush c)

/-- GAV_FORMAT (R417): Erases every good block, sizes the regions and writes anchors. -/
def execGavFormat (c : Desc) (s : State) : Host.Outcome State Fault Refusal := ran s (s.dev.gavFormat c)

/-- GAV_INFO (R417): Returns exported capacity, dies in service and spare. -/
def execGavInfo (c : Desc) (s : State) : Host.Outcome State Fault Refusal := ran s (s.dev.gavInfo c)

/-- GAV_SDISCARD_SEQ (R417): Securely discards a pseq range of records. -/
def execGavSdiscardSeq (c : Desc) (s : State) : Host.Outcome State Fault Refusal := ran s (s.dev.gavSdiscardSeq c)

/-- GAV_GC_NOW (R405): Collects named dies to gc_high regardless of mode. -/
def execGavGcNow (c : Desc) (s : State) : Host.Outcome State Fault Refusal := ran s (s.dev.gavGcNow c)

/-- GAV_MARK_LOST_CLEAR (R417): Clears lost on a range and zeroes its data. -/
def execGavMarkLostClear (c : Desc) (s : State) : Host.Outcome State Fault Refusal := ran s (s.dev.gavMarkLostClear c)

end Sys2Proof.Machine
end

