-- ==== Sys2Proof/Machine/CmdIcu.lean ====
section
/-! DEFINITION. The meanings of the commands of chapter 3: the interrupt controller. -/

namespace Sys2Proof.Machine

/-- ICU_EDGE_EVENT (R80): An edge pulse on an enabled source sets pending and counts as an event. -/
def execIcuEdgeEvent (n : Fin 512) (s : State) : Host.Outcome State Fault Refusal := ran s (s.dev.icuEdgeEvent n.val)

/-- ICU_LEVEL_ASSERT (R80): An asserted level source not active sets pending. -/
def execIcuLevelAssert (n : Fin 512) (s : State) : Host.Outcome State Fault Refusal := ran s (s.dev.icuLevelAssert n.val)

/-- MOD_WINDOW_TIME_FIRE (R92): A moderation window fires when its time has passed since it opened. -/
def execModWindowTimeFire (dest : Nat) (s : State) : Host.Outcome State Fault Refusal := ran s (s.dev.modWindowTimeFire dest)

/-- ICU_OFFER (R82): The ICU offers a deliverable source to an internal target by fixed or class rules. -/
def execIcuOffer (t : Fin 10) (seen : CoreSeen) (s : State) : Host.Outcome State Fault Refusal :=
  ran s (s.dev.icuOffer t.val seen)

/-- ICU_CLAIM (R85): A read of ICU_Tt_CLAIM claims the offered source, clearing pending and making it active. -/
def execIcuClaim (t : Fin 10) (m : BitVec 6) (s : State) : Host.Outcome State Fault Refusal :=
  ran s (s.dev.icuClaimTimed t.val m.toNat)

/-- ICU_DONE (R86): A write of ICU_Tt_DONE completes a source and frees its slot. -/
def execIcuDone (t : Fin 10) (src : BitVec 9) (s : State) : Host.Outcome State Fault Refusal :=
  ran s (s.dev.icuDone t.val src.toNat)

/-- ICU_ENABLE_WRITE (R88): A write of ICU_ENABLEw changes enables and withdraws offers of disabled sources. -/
def execIcuEnableWrite (w : Fin 16) (v : Word) (s : State) : Host.Outcome State Fault Refusal :=
  ran s (s.dev.icuEnableWrite w.val v.toNat)

/-- ICU_MASK_WRITE (R88): A write of ICU_MASKw changes masks and withdraws offers of masked sources. -/
def execIcuMaskWrite (w : Fin 16) (v : Word) (s : State) : Host.Outcome State Fault Refusal :=
  ran s (s.dev.icuMaskWrite w.val v.toNat)

/-- ICU_PEND_WRITE (R81): A plain store of ICU_PENDw, losing to same-cycle hardware changes. -/
def execIcuPendWrite (w : Fin 16) (v : Word) (hwSet : Word) (hwClear : Word) (s : State) : Host.Outcome State Fault Refusal :=
  ran s (s.dev.icuPendWrite w.val v.toNat hwSet.toNat hwClear.toNat)

/-- ICU_SRC_CMD_SET (R90): ICU_SRC_CMD with op set pends one source as an event. -/
def execIcuSrcCmdSet (n : Fin 512) (s : State) : Host.Outcome State Fault Refusal := ran s (s.dev.icuSrcCmdSet n.val)

/-- ICU_SRC_CMD_CLEAR (R90): ICU_SRC_CMD with op clear clears one source's pending bit. -/
def execIcuSrcCmdClear (n : Fin 512) (s : State) : Host.Outcome State Fault Refusal := ran s (s.dev.icuSrcCmdClear n.val)

/-- ICU_SRC_CFG_WRITE (R89): A write of ICU_SRCn_CFG reroutes a source, withdrawing or holding as its state requires. -/
def execIcuSrcCfgWrite (n : Fin 512) (v : Word) (s : State) : Host.Outcome State Fault Refusal :=
  ran s (s.dev.icuSrcCfgWrite n.val v.toNat)

/-- ICU_MODE_WRITE (R98): A write of ICU_Tt_MODE sets class or fixed mode, or sets mode_rej while a source is active. -/
def execIcuModeWrite (t : Fin 10) (v : Word) (s : State) : Host.Outcome State Fault Refusal :=
  ran s (s.dev.icuModeWrite t.val v.toNat)

/-- ICU_HDONE_WRITE (R94): A write of ICU_HDONE acknowledges a host vector, deactivating its sources. -/
def execIcuHdoneWrite (v : BitVec 8) (s : State) : Host.Outcome State Fault Refusal := ran s (s.dev.icuHdoneWrite v.toNat)

/-- MSIX_VECTOR_UNMASK (R95): Clearing an MSI-X mask or function mask sends the held message. -/
def execMsixVectorUnmask (vec : Option (Fin 256)) (fnMask : Bool) (msixEn : Bool) (s : State) : Host.Outcome State Fault Refusal :=
  ran s (s.dev.msixVectorUnmask (vec.map (·.val)) fnMask msixEn)

/-- L1_EXIT_DONE (R96): The link reaches L0 after a due message started L1 exit and the message is sent. -/
def execL1ExitDone (s : State) : Host.Outcome State Fault Refusal := ran s s.dev.l1ExitDone

/-- PME_REPEAT (R96): A PME message is repeated every 100 ms until PME_Status is cleared. -/
def execPmeRepeat (s : State) : Host.Outcome State Fault Refusal := ran s s.dev.pmeRepeat

/-- HOST_REATTACH_MESSAGES (R97): After re-attach with MSI-X enabled, each vector with work sends one message bypassing moderation. -/
def execHostReattachMessages (s : State) : Host.Outcome State Fault Refusal := ran s s.dev.hostReattachMessages

end Sys2Proof.Machine
end

