-- ==== Sys2Proof/Machine/CmdMsr.lean ====
section
/-! DEFINITION. The meanings of the commands of chapter 4: the meter state table. -/

namespace Sys2Proof.Machine

/-- MSR_ENABLE (R99): Writing MSR_CTRL.enable 1 checks area placement, commits RWL fields or sets area_bad. -/
def execMsrEnable (v : Word) (s : State) : Host.Outcome State Fault Refusal := ran s ((s.dev.msrEnable v.toNat).enginesReady.wlzRunCheck)

/-- MTR_LOOKUP (R119): Returns a meter's index and state by EUI-64 or its EUI-64 by index. -/
def execMtrLookup (c : Desc) (s : State) : Host.Outcome State Fault Refusal := ran s (s.dev.mtrLookup c)

/-- MTR_READ (R119): Writes a 256 B record image to a buffer. -/
def execMtrRead (c : Desc) (s : State) : Host.Outcome State Fault Refusal := ran s (s.dev.mtrRead c)

/-- MTR_WRITE (R104): Writes masked bytes of a record with an expected rec_gen, or rewrites a corrupt record whole. -/
def execMtrWrite (c : Desc) (s : State) : Host.Outcome State Fault Refusal := 
  ran s (s.dev.withData c fun d c => d.mtrWrite c).mzkPromote

/-- MTR_ADMIT (R545): Admits a meter into Commissioning, writing its whole record. -/
def execMtrAdmit (c : Desc) (s : State) : Host.Outcome State Fault Refusal := ran s ((s.dev.mtrAdmit c).mzkPromote)

/-- MTR_RELEASE (R119): Returns a Quarantined meter to Active and resets rule_fail. -/
def execMtrRelease (c : Desc) (s : State) : Host.Outcome State Fault Refusal := ran s (s.dev.mtrRelease c)

/-- MTR_RETIRE (R119): Moves a record to Retired. -/
def execMtrRetire (c : Desc) (s : State) : Host.Outcome State Fault Refusal := ran s (s.dev.mtrRetire c).campPurge

/-- MTR_FREE (R104): Frees an Unknown, Retired or corrupt record and returns its index to the free list. -/
def execMtrFree (c : Desc) (s : State) : Host.Outcome State Fault Refusal := ran s (s.dev.mtrFree c).campPurge

/-- MTR_MOVE (R119): Changes a record's attachments with reason 0x0D. -/
def execMtrMove (c : Desc) (s : State) : Host.Outcome State Fault Refusal := ran s (s.dev.mtrMove c)

/-- MTR_SCAN (R119): Writes matching records in index order from a start index. -/
def execMtrScan (c : Desc) (s : State) : Host.Outcome State Fault Refusal := ran s (s.dev.mtrScan c)

/-- MTR_PIN (R106): Pins or unpins a record in the hot cache. -/
def execMtrPin (c : Desc) (s : State) : Host.Outcome State Fault Refusal := ran s (s.dev.mtrPin c)

/-- MSR_REC_SEL_WRITE (R108): Writing MSR_REC_SEL loads a snapshot of the record into MSR_REC_DATA. -/
def execMsrRecSelWrite (v : Word) (s : State) : Host.Outcome State Fault Refusal := ran s (s.dev.msrRecSelWrite v.toNat)

/-- MSR_REC_COMMIT (R108): Setting MSR_REC_CTRL.commit writes the snapshot back if rec_gen is unchanged or force is set. -/
def execMsrRecCommit (v : Word) (s : State) : Host.Outcome State Fault Refusal := ran s (s.dev.msrRecCommit v.toNat)

/-- SWEEP_VISIT (R111): The sweep visits a record and applies the silence and commissioning timeouts. -/
def execSweepVisit (i : BitVec 20) (s : State) : Host.Outcome State Fault Refusal := ran s (s.dev.sweepVisit i.toNat)

/-- MSR_CHECKPOINT_PERIOD (R118): The checkpoint period elapses and a table checkpoint to NAND starts. -/
def execMsrCheckpointPeriod (s : State) : Host.Outcome State Fault Refusal := ran s s.dev.msrCheckpointPeriod

/-- MSR_CKPT_NOW (R118): Setting MSR_CKPT.ckpt_now starts a checkpoint. -/
def execMsrCkptNow (s : State) : Host.Outcome State Fault Refusal := ran s s.dev.msrCkptNow

/-- MSR_CHECKPOINT_DONE (R118): A checkpoint completes, updating MSR_CKPT_SEQ, or fails with ckpt_fail. -/
def execMsrCheckpointDone (ok : Bool) (s : State) : Host.Outcome State Fault Refusal := ran s (s.dev.msrCheckpointDone ok)

/-- MSR_REBUILD_DONE (R118): The rebuild completes and MSR_STATUS.ready is set, or rebuild_fail. -/
def execMsrRebuildDone (copy0 : Bool) (copy1 : Bool) (s : State) : Host.Outcome State Fault Refusal :=
  ran s ((s.dev.msrRebuildDone copy0 copy1).enginesReady)

/-- MSR_CLEAN_ALL (R117): Setting clean_all writes back every dirty hot-cache line. -/
def execMsrCleanAll (s : State) : Host.Outcome State Fault Refusal := ran s s.dev.msrCleanAll

end Sys2Proof.Machine
end

