-- ==== Sys2Proof/Machine/CmdMzk.lean ====
section
/-! DEFINITION. The meanings of the commands of chapter 11: Mazurka. -/

namespace Sys2Proof.Machine

/-- MZK_BEACON_SEND (R319): A Cell-mode beacon is sent every bi. -/
def execMzkBeaconSend (n : Fin 12) (s : State) : Host.Outcome State Fault Refusal := ran s (s.dev.mzkBeaconSend n.val)

/-- MZK_RX_DATA (R317): A radio DATA frame is received, its link security checked and its DWN frame passed to REEL. -/
def execMzkRxData (n : Fin 12) (m : MzkRx) (s : State) : Host.Outcome State Fault Refusal := ran s (s.dev.mzkRxData n.val m)

/-- MZK_RX_MACK (R320): A MACK acknowledges a unicast frame. -/
def execMzkRxMack (n : Fin 12) (m : MzkRx) (s : State) : Host.Outcome State Fault Refusal := ran s (s.dev.mzkRxMack n.val m)

/-- MZK_MACK_TIMEOUT (R320): No MACK arrives and the frame is retried or fails. -/
def execMzkMackTimeout (n : Fin 12) (csma : Bool) (s : State) : Host.Outcome State Fault Refusal :=
  ran s (s.dev.mzkMackTimeout n.val csma)

/-- MZK_RX_ASSOC_REQ (R321): An ASSOC_REQ is answered with an address and parent, or refused. -/
def execMzkRxAssocReq (n : Fin 12) (m : MzkRx) (s : State) : Host.Outcome State Fault Refusal :=
  ran s (s.dev.mzkRxAssocReq n.val m)

/-- MZK_RX_ROUTE_ACK (R323): A ROUTE_ACK advances a parent change. -/
def execMzkRxRouteAck (n : Fin 12) (m : MzkRx) (s : State) : Host.Outcome State Fault Refusal :=
  ran s (s.dev.mzkRxRouteAck n.val m)

/-- MZK_ROUTE_ACK_TIMEOUT (R323): A ROUTE frame unacknowledged after 3 attempts restarts the change. -/
def execMzkRouteAckTimeout (n : Fin 12) (meter : BitVec 16) (s : State) : Host.Outcome State Fault Refusal :=
  ran s (s.dev.mzkRouteAckTimeout n.val meter.toNat)

/-- MZK_RX_KEEP (R326): A KEEP refreshes the meter's silence timer. -/
def execMzkRxKeep (n : Fin 12) (m : MzkRx) (s : State) : Host.Outcome State Fault Refusal := ran s (s.dev.mzkRxKeep n.val m)

/-- MZK_RX_LEAVE (R321): A LEAVE ends the binding or connection. -/
def execMzkRxLeave (n : Fin 12) (m : MzkRx) (s : State) : Host.Outcome State Fault Refusal := ran s (s.dev.mzkRxLeave n.val m)

/-- MZK_CELL_SILENT (R326): cell_silent passes without a frame and the attachment is reported lost. -/
def execMzkCellSilent (n : Fin 12) (short : BitVec 16) (s : State) : Host.Outcome State Fault Refusal :=
  ran s (s.dev.mzkCellSilent n.val short.toNat)

/-- MZK_EVENT_ANCHOR (R329): A Schedule-mode event anchor arrives and the device sends its opener or skips. -/
def execMzkEventAnchor (n : Fin 12) (conn : BitVec 13) (e : Nat) (upd : Option ConnUpd) (s : State) : Host.Outcome State Fault Refusal :=
  ran s (s.dev.mzkEventAnchor n.val conn.toNat e upd)

/-- MZK_ADV_SEND (R330): An ADV is sent in idle time on the next advertising channel. -/
def execMzkAdvSend (n : Fin 12) (s : State) : Host.Outcome State Fault Refusal := ran s (s.dev.mzkAdvSend n.val)

/-- MZK_RX_CONN_REQ (R330): A CONN_REQ is answered with CONN_RSP and a new connection. -/
def execMzkRxConnReq (n : Fin 12) (m : MzkRx) (s : State) : Host.Outcome State Fault Refusal :=
  ran s (s.dev.mzkRxConnReq n.val m)

/-- MZK_CONN_UPD_INSTANT (R334): At a CONN_UPD instant the new parameters take effect. -/
def execMzkConnUpdInstant (n : Fin 12) (conn : BitVec 13) (s : State) : Host.Outcome State Fault Refusal :=
  ran s (s.dev.mzkConnUpdInstant n.val conn.toNat)

/-- MZK_SUP_TIMEOUT (R333): sup_timeout passes without a valid frame and the attachment is reported lost. -/
def execMzkSupTimeout (n : Fin 12) (conn : BitVec 13) (s : State) : Host.Outcome State Fault Refusal :=
  ran s (s.dev.mzkSupTimeout n.val conn.toNat)

/-- MZK_CONN_HOLD_EXPIRY (R333): After conn_hold the connection is freed and attach set to kind 0. -/
def execMzkConnHoldExpiry (n : Fin 12) (conn : BitVec 13) (s : State) : Host.Outcome State Fault Refusal :=
  ran s (s.dev.mzkConnHoldExpiry n.val conn.toNat)

/-- MZK_RESUME_TIMEOUT (R332): resume_ms after the last campaign broadcast, suspended events resume. -/
def execMzkResumeTimeout (n : Fin 12) (s : State) : Host.Outcome State Fault Refusal := ran s (s.dev.mzkResumeTimeout n.val)

/-- MZK_DC_RELEASE (R307): The rolling duty-cycle total falls below dc_limit and transmission resumes. -/
def execMzkDcRelease (n : Fin 12) (s : State) : Host.Outcome State Fault Refusal := ran s (s.dev.mzkDcRelease n.val)

/-- MZK_DL_RELEASE (R335): Bolero releases a downlink frame to the radio channel queue. -/
def execMzkDlRelease (n : Fin 12) (s : State) : Host.Outcome State Fault Refusal := ran s (s.dev.mzkDlRelease n.val)

/-- MZK_ENABLE (R338): Enabling a radio channel starts its listen for another coordinator. -/
def execMzkEnable (n : Fin 12) (v : Word) (s : State) : Host.Outcome State Fault Refusal :=
  ran s (s.dev.mzkEnable n.val v.toNat)

/-- MZK_LISTEN_END (R338): The start-up listen ends and the channel transmits unless foreign_coord is set. -/
def execMzkListenEnd (n : Fin 12) (s : State) : Host.Outcome State Fault Refusal := 
  ran s (s.dev.mzkListenEnd n.val).mzkPromote

/-- MZK_BEACON_FORCE (R338): Writing beacon_force transmits despite a foreign coordinator. -/
def execMzkBeaconForce (n : Fin 12) (s : State) : Host.Outcome State Fault Refusal := ran s (s.dev.mzkBeaconForce n.val)

/-- MZK_TRANSIENT_FAULT (R337): A radio channel records a transient fault. -/
def execMzkTransientFault (n : Fin 12) (s : State) : Host.Outcome State Fault Refusal := ran s (s.dev.mzkTransientFault n.val)

/-- MZK_PERMANENT_FAULT (R337): A radio channel records a permanent fault and retires. -/
def execMzkPermanentFault (n : Fin 12) (cause : BitVec 8) (s : State) : Host.Outcome State Fault Refusal :=
  ran s (s.dev.mzkPermanentFault n.val cause.toNat)

/-- MZK_RX_BEACON (R338): A radio channel hears another coordinator using its pan_id and sets foreign_coord, or in Shadow follows the active unit's beacons. -/
def execMzkRxBeacon (n : Fin 12) (bseq : BitVec 16) (routeVer : BitVec 16) (s : State) : Host.Outcome State Fault Refusal :=
  ran s (s.dev.mzkRxBeacon n.val bseq.toNat routeVer.toNat)

/-- MZK_SILENT_EVENT (R329): A Schedule-mode event ends with no valid reply, incrementing misses and raising recovery when misses reaches rec_miss. -/
def execMzkSilentEvent (n : Fin 12) (conn : BitVec 13) (s : State) : Host.Outcome State Fault Refusal :=
  ran s (s.dev.mzkSilentEvent n.val conn.toNat)

end Sys2Proof.Machine
end

