-- ==== Sys2Proof/Machine/CmdPav.lean ====
section
/-! DEFINITION. The meanings of the commands of chapter 9: Pavane. -/

namespace Sys2Proof.Machine

/-- KEY_REQUEST (R257): An engine asks KEYC for a key; a cache hit or derivation delivers it, or the request fails. -/
def execKeyRequest (who : BitVec 6) (handle : Word) (eui : BitVec 64) (purpose : BitVec 8) (gen : BitVec 16) (advance : Bool) (s : State) : Host.Outcome State Fault Refusal :=
  ran s (s.dev.keyRequest { who := who.toNat, handle := handle.toNat, eui := eui.toNat, purpose := purpose.toNat, gen := gen.toNat, advance := advance })

/-- KEY_IMPORT (R262): Imports a wrapped key under its parent. -/
def execKeyImport (c : Desc) (s : State) : Host.Outcome State Fault Refusal := ran s (s.dev.withData c Dev.keyImport)

/-- KEY_STAGE (R263): Stages a replacement key in a shadow slot with a known-answer check. -/
def execKeyStage (c : Desc) (s : State) : Host.Outcome State Fault Refusal := ran s (s.dev.withData c Dev.keyStage)

/-- KEY_COMMIT (R263): Commits a staged key atomically. -/
def execKeyCommit (c : Desc) (s : State) : Host.Outcome State Fault Refusal := ran s (s.dev.keyCommit c)

/-- KEY_ABANDON (R263): Erases a staged shadow. -/
def execKeyAbandon (c : Desc) (s : State) : Host.Outcome State Fault Refusal := ran s (s.dev.keyAbandon c)

/-- KEY_DESTROY (R266): Destroys a stored key and its descendants. -/
def execKeyDestroy (c : Desc) (s : State) : Host.Outcome State Fault Refusal := ran s (s.dev.keyDestroy c)

/-- KEY_INFO (R276): Returns a key's kind, state, generation and parent. -/
def execKeyInfo (c : Desc) (s : State) : Host.Outcome State Fault Refusal := ran s (s.dev.keyInfo c)

/-- KEY_LIST (R276): Lists stored keys from an entry. -/
def execKeyList (c : Desc) (s : State) : Host.Outcome State Fault Refusal := ran s (s.dev.keyList c)

/-- KEY_SUCCESSOR (R267): Sets or clears a district's successor link. -/
def execKeySuccessor (c : Desc) (s : State) : Host.Outcome State Fault Refusal := ran s (s.dev.keySuccessor c)

/-- KEY_ROOT_WRAP (R268): Wraps a meter's new root under its transport key. -/
def execKeyRootWrap (c : Desc) (s : State) : Host.Outcome State Fault Refusal := ran s (s.dev.keyRootWrap c)

/-- KEY_INIT (R274): Erases the store and draws a new KEK. -/
def execKeyInit (c : Desc) (s : State) : Host.Outcome State Fault Refusal := ran s ((s.dev.keyInit c).enginesReady.injectGoOn)

/-- KEY_ZEROISE (R271): Zeroises the key store by command. -/
def execKeyZeroise (c : Desc) (s : State) : Host.Outcome State Fault Refusal := ran s (s.dev.keyZeroise c).enginesReady

/-- PAV_UNLOCK (R261): Setting PAV_CTRL.unlock starts the unlock of the NVM store. -/
def execPavUnlock (s : State) : Host.Outcome State Fault Refusal := ran s s.dev.pavUnlock

/-- PAV_UNLOCK_DONE (R261): The unlock completes or is refused, with source 289. -/
def execPavUnlockDone (s : State) : Host.Outcome State Fault Refusal := ran s s.dev.pavUnlockDone.enginesReady.keyHeldRetry.injectGoOn

/-- PAV_LOCK (R275): Setting PAV_CTRL.lock clears the key RAM and cache and locks the store. -/
def execPavLock (s : State) : Host.Outcome State Fault Refusal := ran s s.dev.pavLock.enginesReady

/-- PAV_CACHE_FLUSH (R279): Setting cache_flush flushes the derived-key cache. -/
def execPavCacheFlush (s : State) : Host.Outcome State Fault Refusal := ran s s.dev.pavCacheFlush

/-- PAV_KAT_NOW (R275): Setting kat_now runs Pavane's known-answer test. -/
def execPavKatNow (pass : Bool) (s : State) : Host.Outcome State Fault Refusal := ran s (s.dev.pavKatNow pass)

/-- TAMPER_TRIP (R271): A tamper sensor trips and its class logs, alerts or zeroises. -/
def execTamperTrip (sensor : Fin 10) (detail : BitVec 16) (stays : Bool) (s : State) : Host.Outcome State Fault Refusal :=
  ran s (s.dev.tamperTrip sensor.val detail.toNat stays).enginesReady

/-- TAMPER_ARM (R271): Setting PAV_TMP_CTRL.arm commits tamper classes until AONPOR. -/
def execTamperArm (s : State) : Host.Outcome State Fault Refusal := ran s s.dev.tamperArm

/-- ZEROISE_NOW (R271): Setting PAV_TMP_CTRL.zeroise_now zeroises the store. -/
def execZeroiseNow (s : State) : Host.Outcome State Fault Refusal := ran s s.dev.zeroiseNow.enginesReady

/-- TAMPER_LOG_CLEAR (R273): Setting log_clear empties the tamper log. -/
def execTamperLogClear (s : State) : Host.Outcome State Fault Refusal := ran s s.dev.tamperLogClear

/-- NVM_PROGRAM_DONE (R260): An NVM word program or erase of the key store completes, reaching commit and destroy points, or fails and sets nvm_error. -/
def execNvmProgramDone (ok : Bool) (s : State) : Host.Outcome State Fault Refusal :=
  ran s ((s.dev.nvmProgramDone ok).enginesReady.keyHeldRetry.injectGoOn)

end Sys2Proof.Machine
end

