-- ==== Sys2Proof/Machine/CmdPlk.lean ====
section
/-! DEFINITION. The meanings of the commands of chapter 10: Polka. -/

namespace Sys2Proof.Machine

/-- PLC_SUPERFRAME_START (R283): A PLC superframe begins and the channel sends its beacon and fills its regions. -/
def execPlcSuperframeStart (n : Fin 16) (s : State) : Host.Outcome State Fault Refusal := ran s (s.dev.plcSuperframeStart n.val)

/-- PLC_DATA_SEGMENT (R294): A DATA segment is received, reassembled and a complete frame passed to REEL. -/
def execPlcDataSegment (n : Fin 16) (m : PlcRx) (s : State) : Host.Outcome State Fault Refusal :=
  ran s (s.dev.plcDataSegment n.val m)

/-- PLC_SACK (R286): A SACK records which segments of a DL frame the meter holds. -/
def execPlcSack (n : Fin 16) (m : PlcRx) (s : State) : Host.Outcome State Fault Refusal := ran s (s.dev.plcSack n.val m)

/-- PLC_ASSOC_REQ (R290): An ASSOC_REQ is answered with a short address or a refusal. -/
def execPlcAssocReq (n : Fin 16) (m : PlcRx) (s : State) : Host.Outcome State Fault Refusal := ran s (s.dev.plcAssocReq n.val m)

/-- PLC_ALIVE (R293): An ALIVE resets the meter's missed-grant count. -/
def execPlcAlive (n : Fin 16) (m : PlcRx) (s : State) : Host.Outcome State Fault Refusal := ran s (s.dev.plcAlive n.val m)

/-- PLC_TM_REQ (R298): A TM_REQ from a meter is answered with TM_RSP. -/
def execPlcTmReq (n : Fin 16) (m : PlcRx) (s : State) : Host.Outcome State Fault Refusal := ran s (s.dev.plcTmReq n.val m)

/-- PLC_TM_RSP (R298): A TM_RSP sets the downlink map to the meter. -/
def execPlcTmRsp (n : Fin 16) (m : PlcRx) (s : State) : Host.Outcome State Fault Refusal := ran s (s.dev.plcTmRsp n.val m)

/-- PLC_LEAVE (R290): A LEAVE ends the meter's binding. -/
def execPlcLeave (n : Fin 16) (m : PlcRx) (s : State) : Host.Outcome State Fault Refusal := ran s (s.dev.plcLeave n.val m)

/-- PLC_REASSEMBLY_EXPIRY (R294): A partial frame not completed within reasm_sf superframes is discarded. -/
def execPlcReassemblyExpiry (n : Fin 16) (src : BitVec 16) (fid : BitVec 8) (s : State) : Host.Outcome State Fault Refusal :=
  ran s (s.dev.plcReassemblyExpiry n.val src.toNat fid.toNat)

/-- PLC_STANDING_GRANT_MISS (R293): An unused standing grant counts, reporting the attachment lost at miss_lost. -/
def execPlcStandingGrantMiss (n : Fin 16) (src : BitVec 16) (s : State) : Host.Outcome State Fault Refusal :=
  ran s (s.dev.plcStandingGrantMiss n.val src.toNat)

/-- PLC_ZC_EDGE (R282): A zero-crossing edge is captured and its period checked. -/
def execPlcZcEdge (n : Fin 16) (falling : Bool) (s : State) : Host.Outcome State Fault Refusal :=
  ran s (s.dev.plcZcEdge n.val falling)

/-- PLC_DL_RELEASE (R300): Bolero releases a downlink frame to the channel queue. -/
def execPlcDlRelease (n : Fin 16) (s : State) : Host.Outcome State Fault Refusal := ran s (s.dev.plcDlRelease n.val)

/-- PLC_DL_RETRY_EXPIRY (R300): A unicast DL frame incomplete after dl_retry superframes is returned undeliverable. -/
def execPlcDlRetryExpiry (n : Fin 16) (frame : Nat) (s : State) : Host.Outcome State Fault Refusal :=
  ran s (s.dev.plcDlRetryExpiry n.val frame)

/-- PLC_ENABLE (R302): Enabling a PLC channel starts its 2-superframe listen. -/
def execPlcEnable (n : Fin 16) (v : Word) (s : State) : Host.Outcome State Fault Refusal :=
  ran s (s.dev.plcEnable n.val v.toNat)

/-- PLC_LISTEN_END (R302): The start-up listen ends and the channel beacons unless a foreign beacon was heard. -/
def execPlcListenEnd (n : Fin 16) (s : State) : Host.Outcome State Fault Refusal := ran s (s.dev.plcListenEnd n.val)

/-- PLC_BEACON_FORCE (R302): Writing beacon_force begins beaconing despite a foreign beacon. -/
def execPlcBeaconForce (n : Fin 16) (s : State) : Host.Outcome State Fault Refusal := ran s (s.dev.plcBeaconForce n.val)

/-- PLC_AT_SEL_WRITE (R305): Writing PLK_AT_SEL loads an association entry snapshot. -/
def execPlcAtSelWrite (n : Fin 16) (v : Word) (s : State) : Host.Outcome State Fault Refusal :=
  ran s (s.dev.plcAtSelWrite n.val v.toNat)

/-- PLC_TRANSIENT_FAULT (R303): A PLC channel records a transient fault. -/
def execPlcTransientFault (n : Fin 16) (s : State) : Host.Outcome State Fault Refusal := ran s (s.dev.plcTransientFault n.val)

/-- PLC_PERMANENT_FAULT (R303): A PLC channel records a permanent fault and retires. -/
def execPlcPermanentFault (n : Fin 16) (cause : BitVec 8) (s : State) : Host.Outcome State Fault Refusal :=
  ran s (s.dev.plcPermanentFault n.val cause.toNat)

/-- PLC_RX_BEACON (R302): A PLC channel receives a beacon from another coordinator, setting foreign_bcn, or in Shadow takes the active unit's sfn and timing from it. -/
def execPlcRxBeacon (n : Fin 16) (sfn : BitVec 16) (s : State) : Host.Outcome State Fault Refusal :=
  ran s (s.dev.plcRxBeacon n.val sfn.toNat)

end Sys2Proof.Machine
end

