-- ==== Sys2Proof/Machine/CmdPmu.lean ====
section
/-! DEFINITION. The meanings of the commands of chapter 17: modes, power and resets. -/

namespace Sys2Proof.Machine

/-- AONPOR (R485): VAON or VBAT first applied resets everything including AON. -/
def execAonpor (s : State) : Host.Outcome State Fault Refusal := ran s s.dev.aonpor

/-- MAINPOR (R485): Main rails applied resets every domain but AON with DRAM lost. -/
def execMainpor (straps : BitVec 4) (s : State) : Host.Outcome State Fault Refusal :=
  ran s (s.dev.mainpor straps.toNat)

/-- PINRST (R531): RESET_N low for 10 µs resets every domain but AON. -/
def execPinrst (straps : BitVec 4) (s : State) : Host.Outcome State Fault Refusal :=
  ran s (s.dev.pinrst straps.toNat)

/-- SOFTRST (R485): A requested system reset holds lanes, writes back the MSR and keeps DRAM. -/
def execSoftrst (s : State) : Host.Outcome State Fault Refusal := ran s s.dev.softrst

/-- WDTRST (R486): The watchdog reaches zero and resets as SOFTRST. -/
def execWdtrst (s : State) : Host.Outcome State Fault Refusal := ran s s.dev.wdtrst

/-- DOMRST (R487): A single domain is reset with its pre- and post-actions. -/
def execDomrst (dom : Fin 15) (s : State) : Host.Outcome State Fault Refusal := ran s (s.dev.domrst dom.val)

/-- PMU_MODE_SET_RUN (R494): Sets base mode to Run. -/
def execPmuModeSetRun (c : Desc) (s : State) : Host.Outcome State Fault Refusal := ran s (s.dev.pmuModeSetRun c)

/-- PMU_MODE_SET_COMMISSION (R494): Sets base mode to Commission. -/
def execPmuModeSetCommission (c : Desc) (s : State) : Host.Outcome State Fault Refusal := ran s (s.dev.pmuModeSetCommission c)

/-- PMU_STORM_FORCE_SET (R494): Sets storm_force. -/
def execPmuStormForceSet (c : Desc) (s : State) : Host.Outcome State Fault Refusal := ran s (s.dev.pmuStormForceSet c)

/-- PMU_STORM_FORCE_CLEAR (R494): Clears storm_force. -/
def execPmuStormForceClear (c : Desc) (s : State) : Host.Outcome State Fault Refusal := ran s (s.dev.pmuStormForceClear c)

/-- PMU_MODE_SET_DORMANT (R480): Enters Dormant by command. -/
def execPmuModeSetDormant (c : Desc) (s : State) : Host.Outcome State Fault Refusal := ran s (s.dev.pmuModeSetDormant c)

/-- PMU_RESET_SOFT (R494): Requests a SOFTRST by command. -/
def execPmuResetSoft (c : Desc) (s : State) : Host.Outcome State Fault Refusal := ran s (s.dev.pmuResetSoft c)

/-- PMU_RESET_DOMAIN (R494): Requests a DOMRST by command. -/
def execPmuResetDomain (c : Desc) (s : State) : Host.Outcome State Fault Refusal := ran s (s.dev.pmuResetDomain c)

/-- PMU_RESOURCE_RETIRE (R493): Retires a resource by command. -/
def execPmuResourceRetire (c : Desc) (s : State) : Host.Outcome State Fault Refusal := ran s (s.dev.pmuResourceRetire c)

/-- PMU_RESOURCE_RESTORE (R493): Restores a retired resource after its self-test. -/
def execPmuResourceRestore (c : Desc) (pass : Bool) (s : State) : Host.Outcome State Fault Refusal :=
  ran s (s.dev.pmuResourceRestore c pass)

/-- PMU_RESOURCE_QUERY (R494): Returns a resource's retire state. -/
def execPmuResourceQuery (c : Desc) (s : State) : Host.Outcome State Fault Refusal := ran s (s.dev.pmuResourceQuery c)

/-- MODE_CHANGE (R471): A change in the mode condition takes effect and PMU_STATUS.mode is written. -/
def execModeChange (s : State) : Host.Outcome State Fault Refusal := ran s s.dev.modeChange

/-- ISLANDED_COND_SET (R472): Host and backhaul absent for isl_ms makes the islanded condition hold. -/
def execIslandedCondSet (s : State) : Host.Outcome State Fault Refusal := ran s s.dev.islandedCondSet

/-- ISLANDED_COND_CLEAR (R472): Host or backhaul present for 1,000 ms ends the islanded condition. -/
def execIslandedCondClear (s : State) : Host.Outcome State Fault Refusal := ran s s.dev.islandedCondClear

/-- STORM_BUDGET_EXHAUSTED (R474): The Storm budget reaches 0 and the active set throttles to eight lanes. -/
def execStormBudgetExhausted (s : State) : Host.Outcome State Fault Refusal := ran s s.dev.stormBudgetExhausted

/-- STORM_BUDGET_HALF (R474): The budget reaches max_s × 500 within Storm and the throttle lifts. -/
def execStormBudgetHalf (s : State) : Host.Outcome State Fault Refusal := ran s s.dev.stormBudgetHalf

/-- THERMAL_SAMPLE (R475): Tj reaching throttle_c limits the active set to eight lanes. -/
def execThermalSample (tj : BitVec 8) (sensor : Fin 8) (s : State) : Host.Outcome State Fault Refusal :=
  ran s (s.dev.thermalSample tj.toNat sensor.val)

/-- THERMAL_THROTTLE_LIFT (R475): Tj at or below throttle_c − 5 for 10 s lifts the thermal limit. -/
def execThermalThrottleLift (s : State) : Host.Outcome State Fault Refusal := ran s s.dev.thermalThrottleLift

/-- THERMAL_STOP (R476): Tj at 115 °C for 1 ms holds, writes back and enters Dormant. -/
def execThermalStop (s : State) : Host.Outcome State Fault Refusal := ran s s.dev.thermalStop

/-- THERMAL_RESTART (R476): Tj falls to restart_c and the device wakes. -/
def execThermalRestart (s : State) : Host.Outcome State Fault Refusal := ran s s.dev.thermalRestart

/-- CORE_WARN_SET (R482): The core rail falls below 0.705 V and the warning and hold apply. -/
def execCoreWarnSet (mv : BitVec 10) (s : State) : Host.Outcome State Fault Refusal := ran s (s.dev.coreWarnSet mv.toNat)

/-- CORE_WARN_CLEAR (R482): The rail stays above 0.715 V for 50 µs and the warning clears. -/
def execCoreWarnClear (mv : BitVec 10) (s : State) : Host.Outcome State Fault Refusal := ran s (s.dev.coreWarnClear mv.toNat)

/-- CORE_UNDERVOLT_RESET (R482): The core rail falls below 0.675 V and a MAINPOR follows. -/
def execCoreUndervoltReset (straps : BitVec 4) (s : State) : Host.Outcome State Fault Refusal :=
  ran s (s.dev.coreUndervoltReset straps.toNat)

/-- PWR_WARN_FALL (R483): PWR_WARN_N goes low and the hold applies. -/
def execPwrWarnFall (s : State) : Host.Outcome State Fault Refusal := ran s s.dev.pwrWarnFall

/-- PWR_WARN_RISE (R483): PWR_WARN_N is released and the hold lifts if the core warning is clear. -/
def execPwrWarnRise (s : State) : Host.Outcome State Fault Refusal := ran s s.dev.pwrWarnRise

/-- WDT_ENABLE (R486): Writing PMU_WDT.enable 1 arms the watchdog. -/
def execWdtEnable (v : Word) (s : State) : Host.Outcome State Fault Refusal := ran s (s.dev.wdtEnable v.toNat)

/-- WDT_KICK (R486): A write of 0xD06E to PMU_WDT_KICK reloads the watchdog. -/
def execWdtKick (v : Word) (s : State) : Host.Outcome State Fault Refusal := ran s (s.dev.wdtKick v.toNat)

/-- WDT_PREWARN (R486): The watchdog reaches half its period and sets pre_warned. -/
def execWdtPrewarn (s : State) : Host.Outcome State Fault Refusal := ran s s.dev.wdtPrewarn

/-- RTC_ALARM_WAKE (R481): The RTC reaches PMU_WAKE_AT in Dormant and wakes the device. -/
def execRtcAlarmWake (s : State) : Host.Outcome State Fault Refusal := ran s s.dev.rtcAlarmWake

/-- PERST_WAKE (R481): PERST# deasserted with perst_en wakes the device from Dormant. -/
def execPerstWake (s : State) : Host.Outcome State Fault Refusal := ran s s.dev.perstWake

/-- PMU_OFF_MASK_WRITE (R478): Writing off_mask switches optional domains off or on. -/
def execPmuOffMaskWrite (v : Word) (s : State) : Host.Outcome State Fault Refusal := ran s (s.dev.pmuOffMaskWrite v.toNat)

/-- DRAM_ECC_CORRECTED (R491): A corrected DRAM error is counted and may retire its row. -/
def execDramEccCorrected (row : Word) (s : State) : Host.Outcome State Fault Refusal := ran s (s.dev.dramEccCorrected row.toNat)

/-- DRAM_ECC_UNCORRECTABLE (R491): An uncorrectable DRAM error returns poisoned data and retires the row. -/
def execDramEccUncorrectable (row : Word) (addr : BitVec 48) (s : State) : Host.Outcome State Fault Refusal :=
  ran s (s.dev.dramEccUncorrectable row.toNat addr.toNat)

/-- CORE_ECC_ERROR (R492): A core ECC error is a transient or permanent core fault. -/
def execCoreEccError (t : Fin 8) (permanent : Bool) (s : State) : Host.Outcome State Fault Refusal :=
  ran s (s.dev.coreEccError t.val permanent)

/-- CORE_PROBE_TIMEOUT (R492): A core does not answer Minuet's probe within 100 ms and is retired. -/
def execCoreProbeTimeout (t : Fin 8) (s : State) : Host.Outcome State Fault Refusal := ran s (s.dev.coreProbeTimeout t.val)

/-- VAON_LOSS (R528): VAON falls below 0.74 V and AON changes over to VBAT. -/
def execVaonLoss (s : State) : Host.Outcome State Fault Refusal := ran s s.dev.vaonLoss

/-- VAON_RESTORE (R528): VAON returns and AON changes back from VBAT. -/
def execVaonRestore (s : State) : Host.Outcome State Fault Refusal := ran s s.dev.vaonRestore

/-- VBAT_LOSS (R532): VBAT is lost with VAON present and nothing changes. -/
def execVbatLoss (s : State) : Host.Outcome State Fault Refusal := ran s s.dev.vbatLoss

/-- VBAT_RESTORE (R532): VBAT returns while VAON is present, so a later loss of VAON no longer causes an AONPOR. -/
def execVbatRestore (s : State) : Host.Outcome State Fault Refusal := ran s s.dev.vbatRestore

end Sys2Proof.Machine
end

