-- ==== Sys2Proof/Machine/CmdReel.lean ====
section
/-! DEFINITION. The meanings of the commands of chapter 5: ingest. -/

namespace Sys2Proof.Machine

/-- LANE_FRAME (R136): A lane takes a frame, looks up the record, obtains its key, decrypts, authenticates and runs the rule chain. -/
def execLaneFrame (l : Fin 16) (s : State) : Host.Outcome State Fault Refusal := ran s (s.dev.laneFrame l.val)

/-- LANE_REPLAY_WAIT_END (R135): A frame waiting at the replay check resumes once the earlier frame for its index commits or is refused. -/
def execLaneReplayWaitEnd (l : Fin 16) (s : State) : Host.Outcome State Fault Refusal := ran s (s.dev.laneReplayWaitEnd l.val)

/-- REEL_EXQ_HEAD_WRITE (R152): Firmware writes an exception ring head, freeing entries for waiting lanes. -/
def execReelExqHeadWrite (e : Fin 8) (v : Word) (s : State) : Host.Outcome State Fault Refusal :=
  ran s (s.dev.reelExqHeadWrite e.val v.toNat)

/-- COMMIT_PACKET (R144): The commit unit rechecks and commits a frame: sequence, staging slot, MSR update, feeds and export notice. -/
def execCommitPacket (l : Fin 16) (s : State) : Host.Outcome State Fault Refusal :=
  ran s ((s.dev.commitPacket l.val).mzkPromote)

/-- RESERVATION_DURABLE (R147): A reservation mark becomes durable and a commit unit waiting on it resumes. -/
def execReservationDurable (s : State) : Host.Outcome State Fault Refusal := 
  ran s s.dev.reservationDurable.campPurge.mzkPromote

/-- COMMIT_STALL_RELEASE (R146): Gavotte's flush frees staging slots and the stalled commit unit resumes. -/
def execCommitStallRelease (s : State) : Host.Outcome State Fault Refusal := 
  ran s s.dev.commitStallRelease.campPurge.mzkPromote

/-- STORM_REQ_CLEAR (R154): The count stays below storm_off for storm_hold seconds and storm_req clears. -/
def execStormReqClear (s : State) : Host.Outcome State Fault Refusal := ran s s.dev.stormReqClear

/-- REEL_STEER_WRITE (R134): A write of REEL_STEERw changes preferred lanes, holding frames of moved keys. -/
def execReelSteerWrite (w : Fin 8) (v : Word) (s : State) : Host.Outcome State Fault Refusal :=
  ran s (s.dev.reelSteerWrite w.val v.toNat)

/-- STEER_HANDOVER (R134): The old lane has no frame in flight for a key and its held frames go to the new lane. -/
def execSteerHandover (k : Fin 64) (s : State) : Host.Outcome State Fault Refusal := ran s (s.dev.steerHandover k.val)

/-- LANE_TRANSIENT_FAULT (R156): A lane records a transient fault, retiring at retire_thr in the window. -/
def execLaneTransientFault (l : Fin 16) (s : State) : Host.Outcome State Fault Refusal := ran s (s.dev.laneTransientFault l.val)

/-- LANE_PERMANENT_FAULT (R156): A lane records a permanent fault and is retired at once. -/
def execLanePermanentFault (l : Fin 16) (kind : LaneFault) (s : State) : Host.Outcome State Fault Refusal :=
  ran s (s.dev.lanePermanentFault l.val kind)

/-- LANE_HANG (R156): A frame not finished within 20 µs is a permanent lane fault. -/
def execLaneHang (l : Fin 16) (s : State) : Host.Outcome State Fault Refusal := ran s (s.dev.laneHang l.val)

/-- LANE_KAT_NOW (R160): Setting kat_now runs the lane's known-answer test. -/
def execLaneKatNow (l : Fin 16) (s : State) : Host.Outcome State Fault Refusal := ran s (s.dev.laneKatNow l.val)

/-- LANE_KAT_DONE (R158): The lane's known-answer test ends, retiring the lane with cause 5 on failure. -/
def execLaneKatDone (l : Fin 16) (pass : Bool) (s : State) : Host.Outcome State Fault Refusal :=
  ran s (s.dev.laneKatDone l.val pass)

/-- REEL_ENABLE (R146): Writing REEL_CTRL.enable 1 checks the staging ring and commits RWL fields or sets area_bad. -/
def execReelEnable (v : Word) (s : State) : Host.Outcome State Fault Refusal :=
  ran s ((s.dev.reelEnable v.toNat).reelRunningCheck)

/-- REEL_RUNNING_START (R158): All start conditions hold and REEL_STATUS.running is set. -/
def execReelRunningStart (s : State) : Host.Outcome State Fault Refusal := ran s s.dev.reelRunningStart

end Sys2Proof.Machine
end

