-- ==== Sys2Proof/Machine/CmdSrb.lean ====
section
/-! DEFINITION. The meanings of the commands of chapter 18: Sarabande and the trouble log. -/

namespace Sys2Proof.Machine

/-- SRB_ENABLE (R506): Enabling Sarabande checks the area and starts recording. -/
def execSrbEnable (s : State) : Host.Outcome State Fault Refusal := ran s s.dev.srbEnable

/-- SRB_SAMPLE (R502): A sample updates every matching histogram set and extreme tracker. -/
def execSrbSample (hw : Option (BitVec 8 × BitVec 8 × BitVec 64)) (s : State) : Host.Outcome State Fault Refusal :=
  ran s (s.dev.srbSample (hw.map fun x => (x.1.toNat, x.2.1.toNat, x.2.2.toNat)))

/-- SRB_FEED_WRITE (R501): A write of SRB_FEED enters one firmware sample. -/
def execSrbFeedWrite (v : Word) (s : State) : Host.Outcome State Fault Refusal := ran s (s.dev.srbFeedWrite v.toNat)

/-- SNAPSHOT_TIMER (R505): At each multiple of snap_s a snapshot is captured. -/
def execSnapshotTimer (sec : BitVec 48) (s : State) : Host.Outcome State Fault Refusal := ran s (s.dev.snapshotTimer sec.toNat)

/-- SRB_SNAP_NOW (R505): Setting snap_now takes a snapshot. -/
def execSrbSnapNow (s : State) : Host.Outcome State Fault Refusal := ran s s.dev.srbSnapNow

/-- SNAPSHOT_WRITTEN (R505): The snapshot's records are written to the ring. -/
def execSnapshotWritten (s : State) : Host.Outcome State Fault Refusal := ran s s.dev.snapshotWritten

/-- SRB_WSEL_WRITE (R520): Writing SRB_WSEL loads a set or tracker into the window. -/
def execSrbWselWrite (v : Word) (s : State) : Host.Outcome State Fault Refusal := ran s (s.dev.srbWselWrite v.toNat)

/-- LOG_RECORD (R512): A device event writes a log record, subject to room, severity and rate limits. -/
def execLogRecord (s : State) : Host.Outcome State Fault Refusal := ran s s.dev.logRecord

/-- LOG_APPEND (R514): A write of LOG_APPEND reads and checks a firmware record and appends it. -/
def execLogAppend (m : BitVec 6) (v : Word) (s : State) : Host.Outcome State Fault Refusal :=
  ran s (s.dev.logAppend m.toNat v.toNat)

/-- LOG_BUF (R515): Posts a buffer that receives drained log records. -/
def execLogBuf (c : Desc) (s : State) : Host.Outcome State Fault Refusal := ran s (s.dev.logBuf c)

/-- LOG_BUF_TIMEOUT (R515): drain_to after its first record a LOG_BUF completes OK_PARTIAL. -/
def execLogBufTimeout (s : State) : Host.Outcome State Fault Refusal := ran s s.dev.logBufTimeout

/-- SRB_COPY (R515): Copies sound recorder records from an rseq. -/
def execSrbCopy (c : Desc) (s : State) : Host.Outcome State Fault Refusal := ran s (s.dev.srbCopy c)

/-- LOG_MARK (R515): Writes a mark record. -/
def execLogMark (c : Desc) (s : State) : Host.Outcome State Fault Refusal := ran s (s.dev.logMark c)

/-- LOG_CLEAR (R515): Empties the log and writes a cleared record. -/
def execLogClear (c : Desc) (s : State) : Host.Outcome State Fault Refusal := ran s (s.dev.logClear c)

/-- LOG_CTRL_CLEAR (R521): Setting LOG_CTRL.clear empties the log. -/
def execLogCtrlClear (m : BitVec 6) (s : State) : Host.Outcome State Fault Refusal := ran s (s.dev.logCtrlClear m.toNat)

/-- LOG_HEAD_WRITE (R515): Firmware advances LOG_HEAD, or is refused with head_rej. -/
def execLogHeadWrite (v : Word) (s : State) : Host.Outcome State Fault Refusal := ran s (s.dev.logHeadWrite v.toNat)

/-- LOG_SEL_WRITE (R522): Writing LOG_SEL loads a log slot into LOG_REC. -/
def execLogSelWrite (v : Word) (s : State) : Host.Outcome State Fault Refusal := ran s (s.dev.logSelWrite v.toNat)

/-- SUPPRESSED_SUMMARY_TIMER (R513): 1 s after a source's last suppression its suppressed summary is written. -/
def execSuppressedSummaryTimer (src : BitVec 6) (s : State) : Host.Outcome State Fault Refusal :=
  ran s (s.dev.suppressedSummaryTimer src.toNat)

end Sys2Proof.Machine
end

