-- ==== Sys2Proof/Machine/CmdTsu.lean ====
section
/-! DEFINITION. The meanings of the commands of chapter 12: the TSU. -/

namespace Sys2Proof.Machine

/-- TSU_SCHEME_WRITE (R345): A write of TSU_CTRL.scheme requests a handover between schemes. -/
def execTsuSchemeWrite (scheme : Bool) (s : State) : Host.Outcome State Fault Refusal := ran s (s.dev.tsuSchemeWrite scheme)

/-- TSU_RATE_WRITE (R343): A write of TSU_RATE begins a segment, or sets rate_rej under the hardware servo. -/
def execTsuRateWrite (v : BitVec 64) (s : State) : Host.Outcome State Fault Refusal := ran s (s.dev.tsuRateWrite v.toNat)

/-- TSU_ADJ_STEP (R347): A step adjustment changes device time by s. -/
def execTsuAdjStep (s : State) : Host.Outcome State Fault Refusal := ran s s.dev.tsuAdjStep

/-- TSU_ADJ_SLEW (R347): A slew adjustment starts spreading s over time. -/
def execTsuAdjSlew (s : State) : Host.Outcome State Fault Refusal := ran s s.dev.tsuAdjSlew

/-- TSU_ADJ_SET (R347): A set adjustment makes device time TSU_SET or is refused. -/
def execTsuAdjSet (s : State) : Host.Outcome State Fault Refusal := ran s s.dev.tsuAdjSet

/-- SLEW_END (R347): The accumulated slew reaches s and the slew ends. -/
def execSlewEnd (s : State) : Host.Outcome State Fault Refusal := ran s s.dev.slewEnd

/-- PPS_EDGE (R352): A PPS edge is captured, checked, its error computed and the servo acts. -/
def execPpsEdge (falling : Bool) (s : State) : Host.Outcome State Fault Refusal := ran s (s.dev.ppsEdge falling)

/-- PPS_HOLDOVER (R351): No valid capture for 2 s enters holdover. -/
def execPpsHoldover (s : State) : Host.Outcome State Fault Refusal := ran s s.dev.ppsHoldover

/-- RTC_SECOND_SYNC (R349): At each whole second the TSU writes the RTC. -/
def execRtcSecondSync (s : State) : Host.Outcome State Fault Refusal := ran s s.dev.rtcSecondSync

/-- RTC_SEC_WRITE (R349): A write of TSU_RTC_SEC sets the RTC and rtc_valid. -/
def execRtcSecWrite (v : Word) (s : State) : Host.Outcome State Fault Refusal := ran s (s.dev.rtcSecWrite v.toNat)

/-- PULSE_ARM (R359): Arming a pulse output checks its timing and schedules the next pulse. -/
def execPulseArm (k : Fin 4) (s : State) : Host.Outcome State Fault Refusal := ran s (s.dev.pulseArm k.val)

/-- PULSE_LEADING_EDGE (R359): Device time reaches the pulse time and the leading edge is driven. -/
def execPulseLeadingEdge (k : Fin 4) (s : State) : Host.Outcome State Fault Refusal := ran s (s.dev.pulseLeadingEdge k.val)

/-- PULSE_TRAILING_EDGE (R359): width ns later the trailing edge is driven. -/
def execPulseTrailingEdge (k : Fin 4) (s : State) : Host.Outcome State Fault Refusal := ran s (s.dev.pulseTrailingEdge k.val)

/-- TE_BUF (R363): Posts a buffer for time events. -/
def execTeBuf (c : Desc) (s : State) : Host.Outcome State Fault Refusal := ran s (s.dev.teBuf c)

/-- TE_ADJ (R363): Requests a step, slew or set through the time-event ring. -/
def execTeAdj (c : Desc) (s : State) : Host.Outcome State Fault Refusal := ran s (s.dev.teAdj c)

/-- TIME_EVENT_DELIVER (R363): A waiting time event is delivered to TE_BUF space with its completion. -/
def execTimeEventDeliver (s : State) : Host.Outcome State Fault Refusal := ran s s.dev.timeEventDeliver

/-- TSU_NOW_READ (R367): A read of TSU_NOW_NS captures device time and tick for the master. -/
def execTsuNowRead (m : BitVec 6) (s : State) : Host.Outcome State Fault Refusal := ran s (s.dev.tsuNowRead m.toNat)

/-- TSU_CONV_WRITE (R367): A write of TSU_CONV_TICK_LO converts the tick to device time. -/
def execTsuConvWrite (m : BitVec 6) (v : BitVec 64) (s : State) : Host.Outcome State Fault Refusal :=
  ran s (s.dev.tsuConvWrite m.toNat v.toNat)

/-- TSU_EVT_POP (R367): A read of TSU_EVT7 removes the oldest event. -/
def execTsuEvtPop (s : State) : Host.Outcome State Fault Refusal := ran s s.dev.tsuEvtPop

end Sys2Proof.Machine
end

