-- ==== Sys2Proof/Machine/CmdUpd.lean ====
section
/-! DEFINITION. The meanings of the commands of chapter 16: boot and update. -/

namespace Sys2Proof.Machine

/-- BOOT_START (R458): The boot ROM chooses and checks a slot and Minuet loads every component. -/
def execBootStart (r : BootSeen) (s : State) : Host.Outcome State Fault Refusal := ran s (s.dev.bootStart r)

/-- BOOT_COMPLETE (R458): Boot ends and the device enters its mode or Recovery. -/
def execBootComplete (s : State) : Host.Outcome State Fault Refusal := ran s s.dev.bootComplete

/-- UPD_OPEN (R463): Opens a staging session. -/
def execUpdOpen (c : Desc) (s : State) : Host.Outcome State Fault Refusal := ran s (s.dev.updOpen c)

/-- UPD_DATA (R463): Delivers bundle blocks to the staging buffer. -/
def execUpdData (c : Desc) (s : State) : Host.Outcome State Fault Refusal := ran s (s.dev.withData c Dev.updData)

/-- UPD_VERIFY (R455): Verifies the bundle and programs the slot and backup. -/
def execUpdVerify (c : Desc) (s : State) : Host.Outcome State Fault Refusal := ran s (s.dev.updVerify c)

/-- UPD_ACTIVATE (R463): Writes the boot record for a provisional start. -/
def execUpdActivate (c : Desc) (s : State) : Host.Outcome State Fault Refusal := ran s (s.dev.updActivate c)

/-- UPD_CLOSE (R462): Ends the session and invalidates its slot. -/
def execUpdClose (c : Desc) (s : State) : Host.Outcome State Fault Refusal := ran s (s.dev.updClose c)

/-- UPD_ACCEPT (R464): Accepts the provisional image. -/
def execUpdAccept (c : Desc) (s : State) : Host.Outcome State Fault Refusal := ran s (s.dev.updAccept c)

/-- UPD_REVERT (R463): Cancels the provisional image and restarts. -/
def execUpdRevert (c : Desc) (s : State) : Host.Outcome State Fault Refusal := ran s (s.dev.updRevert c)

/-- UPD_ACCEPT_DEFAULTS (R465): Continues the provisional image with empty settings. -/
def execUpdAcceptDefaults (c : Desc) (s : State) : Host.Outcome State Fault Refusal := ran s (s.dev.updAcceptDefaults c)

/-- UPD_STATUS (R463): Returns boot result, fuse count and versions. -/
def execUpdStatus (c : Desc) (s : State) : Host.Outcome State Fault Refusal := ran s (s.dev.updStatus c)

/-- UPD_SET_PUT (R460): Writes a settings item into a new copy. -/
def execUpdSetPut (c : Desc) (s : State) : Host.Outcome State Fault Refusal := ran s (s.dev.withData c Dev.updSetPut)

/-- UPD_SET_GET (R463): Copies a settings item. -/
def execUpdSetGet (c : Desc) (s : State) : Host.Outcome State Fault Refusal := ran s (s.dev.updSetGet c)

/-- UPD_LEASE_EXPIRY (R462): The session lease expires and its slot is invalidated. -/
def execUpdLeaseExpiry (s : State) : Host.Outcome State Fault Refusal := ran s s.dev.updLeaseExpiry

/-- UPD_ACTIVATE_DELAY (R463): The activation or revert delay ends and a SOFTRST follows. -/
def execUpdActivateDelay (s : State) : Host.Outcome State Fault Refusal := ran s s.dev.updActivateDelay

/-- UPD_AUTO_ACCEPT (R464): accept_s in service passes and Minuet accepts the provisional image. -/
def execUpdAutoAccept (s : State) : Host.Outcome State Fault Refusal := ran s s.dev.updAutoAccept

/-- SETTINGS_REVERT_HOLD (R465): revert_hold passes without accept-defaults and the device reverts. -/
def execSettingsRevertHold (s : State) : Host.Outcome State Fault Refusal := ran s s.dev.settingsRevertHold

/-- QSPI_PROGRAM_DONE (R463): A QSPI or NAND program of a slot, boot record or settings copy completes, letting UPD_VERIFY and record writes finish, or fails and sets prog_fail. -/
def execQspiProgramDone (ok : Bool) (s : State) : Host.Outcome State Fault Refusal := ran s (s.dev.qspiProgramDone ok)

end Sys2Proof.Machine
end

