-- ==== Sys2Proof/Machine/CmdVal.lean ====
section
/-! DEFINITION. The meanings of the commands of chapter 6: validation. -/

namespace Sys2Proof.Machine

/-- VAL_ENABLE (R176): Writing VAL_CTRL.enable 1 commits RWL fields or is refused with unit_conflict. -/
def execValEnable (v : Word) (s : State) : Host.Outcome State Fault Refusal :=
  ran s ((s.dev.valEnable v.toNat).reelRunningCheck)

/-- VAL_LOAD (R164): Loads a bank image into the inactive bank after validation. -/
def execValLoad (c : Desc) (s : State) : Host.Outcome State Fault Refusal := ran s (s.dev.withData c Dev.valLoad)

/-- VAL_SWAP (R179): Swaps the active rule bank once old chains finish. -/
def execValSwap (c : Desc) (s : State) : Host.Outcome State Fault Refusal := ran s (s.dev.valSwap c)

/-- VAL_SWAP_DONE (R179): No chain runs on the old bank and the swap completes. -/
def execValSwapDone (s : State) : Host.Outcome State Fault Refusal := ran s s.dev.valSwapDone

/-- VAL_INJECT (R171): Commits a held frame from an exception entry. -/
def execValInject (c : Desc) (s : State) : Host.Outcome State Fault Refusal := ran s (s.dev.withData c Dev.valInject)

/-- VAL_PATH (R180): Returns a de-duplication filter entry. -/
def execValPath (c : Desc) (s : State) : Host.Outcome State Fault Refusal := ran s (s.dev.valPath c)

/-- VAL_RESEQ (R176): Resolves a unit conflict by adopting the register's unit and a new sequence space. -/
def execValReseq (c : Desc) (s : State) : Host.Outcome State Fault Refusal := ran s (s.dev.valReseq c)

end Sys2Proof.Machine
end

