-- ==== Sys2Proof/Machine/CmdWlz.lean ====
section
/-! DEFINITION. The meanings of the commands of chapter 7: Waltz. -/

namespace Sys2Proof.Machine

/-- WALTZ_ENABLE (R214): Writing WLZ_CTRL.enable checks areas and base_s and starts the recount. -/
def execWaltzEnable (v : Word) (s : State) : Host.Outcome State Fault Refusal := ran s (s.dev.waltzEnable v.toNat)

/-- WALTZ_RUNNING_START (R214): All conditions hold and WLZ_STATUS.running is set. -/
def execWaltzRunningStart (s : State) : Host.Outcome State Fault Refusal := ran s s.dev.waltzRunningStart

/-- WALTZ_FEED (R190): Waltz applies one feed item to profiles and history. -/
def execWaltzFeed (s : State) : Host.Outcome State Fault Refusal := ran s s.dev.waltzFeed.injectGoOn

/-- INTERVAL_CLOSE (R197): A due base interval closes over every node. -/
def execIntervalClose (s : State) : Host.Outcome State Fault Refusal := ran s s.dev.intervalClose

/-- EPISODE_CLOSE (R208): An episode closes quiet_s after its last restoration feed. -/
def execEpisodeClose (s : State) : Host.Outcome State Fault Refusal := ran s s.dev.episodeClose

/-- RESTORATION_REPORT (R209): A due restoration report is rolled up and written to a buffer. -/
def execRestorationReport (s : State) : Host.Outcome State Fault Refusal := ran s s.dev.restorationReport

/-- INFERENCE_PERIODIC (R204): An inference run starts at its period. -/
def execInferencePeriodic (s : State) : Host.Outcome State Fault Refusal := ran s s.dev.inferencePeriodic

/-- INFER_NOW (R204): Setting infer_now starts an inference run. -/
def execInferNow (s : State) : Host.Outcome State Fault Refusal := ran s s.dev.inferNow

/-- INFERENCE_PASS_DONE (R203): A correlation pass ends, reassigning meters and starting a further pass or ending the run. -/
def execInferencePassDone (s : State) : Host.Outcome State Fault Refusal := ran s s.dev.inferencePassDone

/-- SCORE_PERIODIC (R206): A scoring pass starts at its period. -/
def execScorePeriodic (s : State) : Host.Outcome State Fault Refusal := ran s s.dev.scorePeriodic

/-- SCORE_NOW (R206): Setting score_now starts a scoring pass. -/
def execScoreNow (s : State) : Host.Outcome State Fault Refusal := ran s s.dev.scoreNow

/-- SCORING_PASS_DONE (R207): A scoring pass ends and rewrites the suspicion list. -/
def execScoringPassDone (s : State) : Host.Outcome State Fault Refusal := ran s s.dev.scoringPassDone

/-- WALTZ_REBUILD_DONE (R215): A rebuild or catch-up of profiles and history completes. -/
def execWaltzRebuildDone (s : State) : Host.Outcome State Fault Refusal := ran s s.dev.waltzRebuildDone

/-- WLZ_NODE_LOAD (R184): Loads the node table image. -/
def execWlzNodeLoad (c : Desc) (s : State) : Host.Outcome State Fault Refusal := ran s (s.dev.withData c Dev.wlzNodeLoad)

/-- WLZ_RESULTS (R200): Returns balance result records. -/
def execWlzResults (c : Desc) (s : State) : Host.Outcome State Fault Refusal := ran s (s.dev.wlzResults c)

/-- WLZ_RESTORE_READ (R217): Copies the latest restoration report. -/
def execWlzRestoreRead (c : Desc) (s : State) : Host.Outcome State Fault Refusal := ran s (s.dev.wlzRestoreRead c)

/-- WLZ_SUSP_READ (R217): Copies suspicion list records. -/
def execWlzSuspRead (c : Desc) (s : State) : Host.Outcome State Fault Refusal := ran s (s.dev.wlzSuspRead c)

/-- WLZ_INFER (R217): Runs topology inference, completing at run end. -/
def execWlzInfer (c : Desc) (s : State) : Host.Outcome State Fault Refusal := ran s (s.dev.wlzInfer c)

/-- WLZ_SCORE (R217): Runs a scoring pass, completing at pass end. -/
def execWlzScore (c : Desc) (s : State) : Host.Outcome State Fault Refusal := ran s (s.dev.wlzScore c)

/-- WLZ_ASSIGN (R217): Assigns or releases a meter's node and phase. -/
def execWlzAssign (c : Desc) (s : State) : Host.Outcome State Fault Refusal := ran s (s.dev.wlzAssign c)

/-- WLZ_PROFILE (R217): Copies a meter's profile slot. -/
def execWlzProfile (c : Desc) (s : State) : Host.Outcome State Fault Refusal := ran s (s.dev.wlzProfile c)

/-- WLZ_REBUILD (R217): Rebuilds history from the archive from a first interval. -/
def execWlzRebuild (c : Desc) (s : State) : Host.Outcome State Fault Refusal := ran s (s.dev.wlzRebuild c)

/-- WLZ_GROUP_LOAD (R188): Loads the group table and attachment map image. -/
def execWlzGroupLoad (c : Desc) (s : State) : Host.Outcome State Fault Refusal := ran s (s.dev.withData c Dev.wlzGroupLoad)

end Sys2Proof.Machine
end

