-- ==== Sys2Proof/Machine/CmdXdi.lean ====
section
/-! DEFINITION. The meanings of the commands of chapter 2: the host function and its rings. -/

namespace Sys2Proof.Machine

/-- PERST_ASSERT (R73): PERST# asserted performs a HOSTRST of HOST and XDI while the device runs on. -/
def execPerstAssert (s : State) : Host.Outcome State Fault Refusal := ran s s.dev.perstAssert

/-- PERST_DEASSERT (R45): PERST# deasserted brings up the HOST domain ready to train within 20 ms. -/
def execPerstDeassert (s : State) : Host.Outcome State Fault Refusal := ran s s.dev.perstDeassert

/-- PCIE_HOT_RESET (R73): A hot reset from the downstream port acts as PERST# with the link retrained. -/
def execPcieHotReset (s : State) : Host.Outcome State Fault Refusal := ran s s.dev.pcieHotReset

/-- PCIE_FLR (R73): A function-level reset resets HOST and XDI and completes within 10 ms. -/
def execPcieFlr (s : State) : Host.Outcome State Fault Refusal := ran s s.dev.pcieFlr

/-- PCIE_LINK_DOWN (R73): The link is lost; the host becomes absent, pairs go inactive and export stops. -/
def execPcieLinkDown (s : State) : Host.Outcome State Fault Refusal := ran s s.dev.pcieLinkDown.hostSync

/-- PCIE_LINK_UP (R46): The link comes up in L0 and the host may become present again. -/
def execPcieLinkUp (l1 : Bool) (s : State) : Host.Outcome State Fault Refusal := ran s (s.dev.pcieLinkUp l1)

/-- BUS_MASTER_DISABLE (R73): Bus Master Enable cleared stops DMA within 1 µs, then acts as surprise removal. -/
def execBusMasterDisable (s : State) : Host.Outcome State Fault Refusal := ran s s.dev.busMasterDisable.hostSync

/-- BUS_MASTER_ENABLE (R46): Bus Master Enable set with the link up makes the host present. -/
def execBusMasterEnable (s : State) : Host.Outcome State Fault Refusal := ran s s.dev.busMasterEnable

/-- HOST_READ_TIMEOUT (R46): A completion timeout on a device read of host memory; the third in a row makes the host absent. -/
def execHostReadTimeout (s : State) : Host.Outcome State Fault Refusal := ran s s.dev.hostReadTimeout.hostSync

/-- D3HOT_ENTER (R73): The function enters D3hot; pairs pause and no memory request or message is issued. -/
def execD3hotEnter (s : State) : Host.Outcome State Fault Refusal := ran s s.dev.d3hotEnter

/-- D0_RETURN (R96): Return to D0 resumes paused rings and sends one message per fired vector. -/
def execD0Return (s : State) : Host.Outcome State Fault Refusal := ran s s.dev.d0Return

/-- XDI_HOST_VER_WRITE (R47): A write of XDI_HOST_VER negotiates the XDI version into XDI_NEG_VER. -/
def execXdiHostVerWrite (v : Word) (s : State) : Host.Outcome State Fault Refusal := ran s (s.dev.xdiHostVerWrite v.toNat)

/-- RING_CFG_ENABLE (R51): Writing XDI_RPn_CFG with enable 1 checks the conditions and enables the ring pair or sets bad_cfg. -/
def execRingCfgEnable (n : Fin 64) (v : Word) (s : State) : Host.Outcome State Fault Refusal :=
  ran s ((s.dev.ringCfgEnable n.val v.toNat).hostSync)

/-- RING_CFG_DISABLE (R52): Writing enable 0 stops fetch and flushes fetched descriptors not started. -/
def execRingCfgDisable (n : Fin 64) (v : Word) (s : State) : Host.Outcome State Fault Refusal :=
  ran s ((s.dev.ringCfgDisable n v.toNat).hostSync)

/-- RING_DISABLE_COMPLETE (R52): Every started descriptor has completed or been flushed; held completions are dropped and active reads 0. -/
def execRingDisableComplete (n : Fin 64) (s : State) : Host.Outcome State Fault Refusal :=
  ran s ((s.dev.ringDisableComplete n.val).hostSync)

/-- DESCRIPTOR_FLUSH_TIMEOUT (R52): A started descriptor not complete 10 ms after disable completes with FLUSHED. -/
def execDescriptorFlushTimeout (n : Fin 64) (idx : Nat) (s : State) : Host.Outcome State Fault Refusal :=
  ran s (s.dev.descriptorFlushTimeout n idx)

/-- SQ_DOORBELL (R62): A write of XDI_DBn_SQ sets a new SQ tail or is ignored and counted. -/
def execSqDoorbell (n : Fin 64) (v : Word) (s : State) : Host.Outcome State Fault Refusal :=
  ran s (s.dev.sqDoorbell n.val v.toNat)

/-- CQ_DOORBELL (R62): A write of XDI_DBn_CQ frees CQ entries, acknowledges the vector and may set the idle hint. -/
def execCqDoorbell (n : Fin 64) (v : Word) (s : State) : Host.Outcome State Fault Refusal :=
  ran s (s.dev.cqDoorbell n.val v.toNat)

/-- DESCRIPTOR_FETCH (R56): The device fetches up to 8 descriptors and starts them in ring order. -/
def execDescriptorFetch (n : Fin 64) (ds : List (BitVec 512)) (s : State) : Host.Outcome State Fault Refusal :=
  ran s (s.dev.descriptorFetch n ds)

/-- FENCE_RELEASE (R56): A fenced descriptor starts once its earlier descriptors complete, or ends ABORTED. -/
def execFenceRelease (n : Fin 64) (s : State) : Host.Outcome State Fault Refusal := ran s (s.dev.fenceRelease n)

/-- COMPLETION_POST (R59): A completion is written to the CQ after its data, with the phase bit, or held while the CQ is full. -/
def execCompletionPost (n : Fin 64) (s : State) : Host.Outcome State Fault Refusal := ran s (s.dev.completionPost n.val)

/-- NOP (R55): Opcode 0x00 completes OK with no effect on any ring type. -/
def execNop (c : Desc) (s : State) : Host.Outcome State Fault Refusal := ran s (s.dev.nop c)

/-- XDI_EXP_CTRL_WRITE (R63): A write of XDI_EXP_CTRL sets K, or is refused with exp_ctrl_rej. -/
def execXdiExpCtrlWrite (v : Word) (s : State) : Host.Outcome State Fault Refusal := ran s (s.dev.xdiExpCtrlWrite v.toNat)

/-- EXP_BUF (R66): Posts an export buffer or batch block on an export ring. -/
def execExpBuf (c : Desc) (s : State) : Host.Outcome State Fault Refusal := ran s (s.dev.expBuf c)

/-- EXPORT_RECORD_DELIVER (R65): A committed or backlogged export record is written into posted buffer space with its completion. -/
def execExportRecordDeliver (s : State) : Host.Outcome State Fault Refusal := ran s s.dev.exportRecordDeliver

/-- BATCH_TIMEOUT (R67): A batch block closes OK_PARTIAL after batch_to since its first record. -/
def execBatchTimeout (n : Fin 64) (s : State) : Host.Outcome State Fault Refusal := ran s (s.dev.batchTimeout n.val)

/-- XDI_EXP_COMMIT_WRITE (R68): A write of XDI_EXP_COMMIT is accepted or refused with commit_rej. -/
def execXdiExpCommitWrite (v : BitVec 64) (s : State) : Host.Outcome State Fault Refusal :=
  ran s (s.dev.xdiExpCommitWrite v.toNat)

/-- COMMIT_JOURNAL (R68): An accepted COMMIT value is journaled to NAND within 1 s. -/
def execCommitJournal (s : State) : Host.Outcome State Fault Refusal := ran s s.dev.commitJournal

/-- HMB_GRANT (R71): Grants host memory to Gavotte from a chunk list. -/
def execHmbGrant (c : Desc) (s : State) : Host.Outcome State Fault Refusal := ran s (s.dev.withData c Dev.hmbGrant)

/-- HMB_REVOKE (R72): Requests the end of the host memory grant. -/
def execHmbRevoke (c : Desc) (s : State) : Host.Outcome State Fault Refusal := ran s (s.dev.hmbRevoke c)

/-- HMB_REVOKE_DONE (R72): The last access to granted memory has been issued and the revoke completes. -/
def execHmbRevokeDone (s : State) : Host.Outcome State Fault Refusal := ran s s.dev.hmbRevokeDone.hostSync

end Sys2Proof.Machine
end

