-- ==== Sys2Proof/Machine/Dispatch.lean ====
section
/-! DEFINITION. The dispatch: one arm per command, each one call of the command's meaning. -/

namespace Sys2Proof.Machine

def exec (i : Instr) (s : State) : Host.Outcome State Fault Refusal :=
  match i with
  | .registerWrite m off size v => Sys2Proof.Machine.execRegisterWrite m off size v s
  | .regPairLoRead m off => Sys2Proof.Machine.execRegPairLoRead m off s
  | .regPairHiWrite m off v => Sys2Proof.Machine.execRegPairHiWrite m off v s
  | .regPairLoWrite m off v => Sys2Proof.Machine.execRegPairLoWrite m off v s
  | .rcFieldRead m off => Sys2Proof.Machine.execRcFieldRead m off s
  | .fabricAccess a => Sys2Proof.Machine.execFabricAccess a s
  | .fifoFlush off => Sys2Proof.Machine.execFifoFlush off s
  | .fifoFlushComplete off => Sys2Proof.Machine.execFifoFlushComplete off s
  | .packetFifoTransfer src dst arrived ok => Sys2Proof.Machine.execPacketFifoTransfer src dst arrived ok s
  | .perstAssert => Sys2Proof.Machine.execPerstAssert s
  | .perstDeassert => Sys2Proof.Machine.execPerstDeassert s
  | .pcieHotReset => Sys2Proof.Machine.execPcieHotReset s
  | .pcieFlr => Sys2Proof.Machine.execPcieFlr s
  | .pcieLinkDown => Sys2Proof.Machine.execPcieLinkDown s
  | .pcieLinkUp l1 => Sys2Proof.Machine.execPcieLinkUp l1 s
  | .busMasterDisable => Sys2Proof.Machine.execBusMasterDisable s
  | .busMasterEnable => Sys2Proof.Machine.execBusMasterEnable s
  | .hostReadTimeout => Sys2Proof.Machine.execHostReadTimeout s
  | .d3hotEnter => Sys2Proof.Machine.execD3hotEnter s
  | .d0Return => Sys2Proof.Machine.execD0Return s
  | .xdiHostVerWrite v => Sys2Proof.Machine.execXdiHostVerWrite v s
  | .ringCfgEnable n v => Sys2Proof.Machine.execRingCfgEnable n v s
  | .ringCfgDisable n v => Sys2Proof.Machine.execRingCfgDisable n v s
  | .ringDisableComplete n => Sys2Proof.Machine.execRingDisableComplete n s
  | .descriptorFlushTimeout n idx => Sys2Proof.Machine.execDescriptorFlushTimeout n idx s
  | .sqDoorbell n v => Sys2Proof.Machine.execSqDoorbell n v s
  | .cqDoorbell n v => Sys2Proof.Machine.execCqDoorbell n v s
  | .descriptorFetch n ds => Sys2Proof.Machine.execDescriptorFetch n ds s
  | .fenceRelease n => Sys2Proof.Machine.execFenceRelease n s
  | .completionPost n => Sys2Proof.Machine.execCompletionPost n s
  | .nop c => Sys2Proof.Machine.execNop c s
  | .xdiExpCtrlWrite v => Sys2Proof.Machine.execXdiExpCtrlWrite v s
  | .expBuf c => Sys2Proof.Machine.execExpBuf c s
  | .exportRecordDeliver => Sys2Proof.Machine.execExportRecordDeliver s
  | .batchTimeout n => Sys2Proof.Machine.execBatchTimeout n s
  | .xdiExpCommitWrite v => Sys2Proof.Machine.execXdiExpCommitWrite v s
  | .commitJournal => Sys2Proof.Machine.execCommitJournal s
  | .hmbGrant c => Sys2Proof.Machine.execHmbGrant c s
  | .hmbRevoke c => Sys2Proof.Machine.execHmbRevoke c s
  | .hmbRevokeDone => Sys2Proof.Machine.execHmbRevokeDone s
  | .icuEdgeEvent n => Sys2Proof.Machine.execIcuEdgeEvent n s
  | .icuLevelAssert n => Sys2Proof.Machine.execIcuLevelAssert n s
  | .modWindowTimeFire dest => Sys2Proof.Machine.execModWindowTimeFire dest s
  | .icuOffer t seen => Sys2Proof.Machine.execIcuOffer t seen s
  | .icuClaim t m => Sys2Proof.Machine.execIcuClaim t m s
  | .icuDone t src => Sys2Proof.Machine.execIcuDone t src s
  | .icuEnableWrite w v => Sys2Proof.Machine.execIcuEnableWrite w v s
  | .icuMaskWrite w v => Sys2Proof.Machine.execIcuMaskWrite w v s
  | .icuPendWrite w v hwSet hwClear => Sys2Proof.Machine.execIcuPendWrite w v hwSet hwClear s
  | .icuSrcCmdSet n => Sys2Proof.Machine.execIcuSrcCmdSet n s
  | .icuSrcCmdClear n => Sys2Proof.Machine.execIcuSrcCmdClear n s
  | .icuSrcCfgWrite n v => Sys2Proof.Machine.execIcuSrcCfgWrite n v s
  | .icuModeWrite t v => Sys2Proof.Machine.execIcuModeWrite t v s
  | .icuHdoneWrite v => Sys2Proof.Machine.execIcuHdoneWrite v s
  | .msixVectorUnmask vec fnMask msixEn => Sys2Proof.Machine.execMsixVectorUnmask vec fnMask msixEn s
  | .l1ExitDone => Sys2Proof.Machine.execL1ExitDone s
  | .pmeRepeat => Sys2Proof.Machine.execPmeRepeat s
  | .hostReattachMessages => Sys2Proof.Machine.execHostReattachMessages s
  | .msrEnable v => Sys2Proof.Machine.execMsrEnable v s
  | .mtrLookup c => Sys2Proof.Machine.execMtrLookup c s
  | .mtrRead c => Sys2Proof.Machine.execMtrRead c s
  | .mtrWrite c => Sys2Proof.Machine.execMtrWrite c s
  | .mtrAdmit c => Sys2Proof.Machine.execMtrAdmit c s
  | .mtrRelease c => Sys2Proof.Machine.execMtrRelease c s
  | .mtrRetire c => Sys2Proof.Machine.execMtrRetire c s
  | .mtrFree c => Sys2Proof.Machine.execMtrFree c s
  | .mtrMove c => Sys2Proof.Machine.execMtrMove c s
  | .mtrScan c => Sys2Proof.Machine.execMtrScan c s
  | .mtrPin c => Sys2Proof.Machine.execMtrPin c s
  | .msrRecSelWrite v => Sys2Proof.Machine.execMsrRecSelWrite v s
  | .msrRecCommit v => Sys2Proof.Machine.execMsrRecCommit v s
  | .sweepVisit idx => Sys2Proof.Machine.execSweepVisit idx s
  | .msrCheckpointPeriod => Sys2Proof.Machine.execMsrCheckpointPeriod s
  | .msrCkptNow => Sys2Proof.Machine.execMsrCkptNow s
  | .msrCheckpointDone ok => Sys2Proof.Machine.execMsrCheckpointDone ok s
  | .msrRebuildDone copy0 copy1 => Sys2Proof.Machine.execMsrRebuildDone copy0 copy1 s
  | .msrCleanAll => Sys2Proof.Machine.execMsrCleanAll s
  | .laneFrame l => Sys2Proof.Machine.execLaneFrame l s
  | .laneReplayWaitEnd l => Sys2Proof.Machine.execLaneReplayWaitEnd l s
  | .reelExqHeadWrite e v => Sys2Proof.Machine.execReelExqHeadWrite e v s
  | .commitPacket l => Sys2Proof.Machine.execCommitPacket l s
  | .reservationDurable => Sys2Proof.Machine.execReservationDurable s
  | .commitStallRelease => Sys2Proof.Machine.execCommitStallRelease s
  | .stormReqClear => Sys2Proof.Machine.execStormReqClear s
  | .reelSteerWrite w v => Sys2Proof.Machine.execReelSteerWrite w v s
  | .steerHandover k => Sys2Proof.Machine.execSteerHandover k s
  | .laneTransientFault l => Sys2Proof.Machine.execLaneTransientFault l s
  | .lanePermanentFault l kind => Sys2Proof.Machine.execLanePermanentFault l kind s
  | .laneHang l => Sys2Proof.Machine.execLaneHang l s
  | .laneKatNow l => Sys2Proof.Machine.execLaneKatNow l s
  | .laneKatDone l pass => Sys2Proof.Machine.execLaneKatDone l pass s
  | .reelEnable v => Sys2Proof.Machine.execReelEnable v s
  | .reelRunningStart => Sys2Proof.Machine.execReelRunningStart s
  | .valEnable v => Sys2Proof.Machine.execValEnable v s
  | .valLoad c => Sys2Proof.Machine.execValLoad c s
  | .valSwap c => Sys2Proof.Machine.execValSwap c s
  | .valSwapDone => Sys2Proof.Machine.execValSwapDone s
  | .valInject c => Sys2Proof.Machine.execValInject c s
  | .valPath c => Sys2Proof.Machine.execValPath c s
  | .valReseq c => Sys2Proof.Machine.execValReseq c s
  | .waltzEnable v => Sys2Proof.Machine.execWaltzEnable v s
  | .waltzRunningStart => Sys2Proof.Machine.execWaltzRunningStart s
  | .waltzFeed => Sys2Proof.Machine.execWaltzFeed s
  | .intervalClose => Sys2Proof.Machine.execIntervalClose s
  | .episodeClose => Sys2Proof.Machine.execEpisodeClose s
  | .restorationReport => Sys2Proof.Machine.execRestorationReport s
  | .inferencePeriodic => Sys2Proof.Machine.execInferencePeriodic s
  | .inferNow => Sys2Proof.Machine.execInferNow s
  | .inferencePassDone => Sys2Proof.Machine.execInferencePassDone s
  | .scorePeriodic => Sys2Proof.Machine.execScorePeriodic s
  | .scoreNow => Sys2Proof.Machine.execScoreNow s
  | .scoringPassDone => Sys2Proof.Machine.execScoringPassDone s
  | .waltzRebuildDone => Sys2Proof.Machine.execWaltzRebuildDone s
  | .wlzNodeLoad c => Sys2Proof.Machine.execWlzNodeLoad c s
  | .wlzResults c => Sys2Proof.Machine.execWlzResults c s
  | .wlzRestoreRead c => Sys2Proof.Machine.execWlzRestoreRead c s
  | .wlzSuspRead c => Sys2Proof.Machine.execWlzSuspRead c s
  | .wlzInfer c => Sys2Proof.Machine.execWlzInfer c s
  | .wlzScore c => Sys2Proof.Machine.execWlzScore c s
  | .wlzAssign c => Sys2Proof.Machine.execWlzAssign c s
  | .wlzProfile c => Sys2Proof.Machine.execWlzProfile c s
  | .wlzRebuild c => Sys2Proof.Machine.execWlzRebuild c s
  | .wlzGroupLoad c => Sys2Proof.Machine.execWlzGroupLoad c s
  | .bolEnable v => Sys2Proof.Machine.execBolEnable v s
  | .bolCmd c => Sys2Proof.Machine.execBolCmd c s
  | .bolApdu c => Sys2Proof.Machine.execBolApdu c s
  | .bolCampLoad c => Sys2Proof.Machine.execBolCampLoad c s
  | .bolCampMembers c => Sys2Proof.Machine.execBolCampMembers c s
  | .bolCampStart c => Sys2Proof.Machine.execBolCampStart c s
  | .bolCampActivate c => Sys2Proof.Machine.execBolCampActivate c s
  | .bolCampWait c => Sys2Proof.Machine.execBolCampWait c s
  | .bolCampReport c => Sys2Proof.Machine.execBolCampReport c s
  | .bolCampAbort c => Sys2Proof.Machine.execBolCampAbort c s
  | .bolCampFree c => Sys2Proof.Machine.execBolCampFree c s
  | .bolGroupSet c => Sys2Proof.Machine.execBolGroupSet c s
  | .bolCmdStatus c => Sys2Proof.Machine.execBolCmdStatus c s
  | .ackRequest => Sys2Proof.Machine.execAckRequest s
  | .ackDelayExpiry => Sys2Proof.Machine.execAckDelayExpiry s
  | .ackNotice => Sys2Proof.Machine.execAckNotice s
  | .pushStatusNotice => Sys2Proof.Machine.execPushStatusNotice s
  | .cmdAttemptTimeout idx => Sys2Proof.Machine.execCmdAttemptTimeout idx s
  | .tokenWaitExpiry frame => Sys2Proof.Machine.execTokenWaitExpiry frame s
  | .announceRepeat slot path => Sys2Proof.Machine.execAnnounceRepeat slot path s
  | .campaignBlockPace slot path => Sys2Proof.Machine.execCampaignBlockPace slot path s
  | .statusWindowEnd slot path => Sys2Proof.Machine.execStatusWindowEnd slot path s
  | .activateAtReached slot => Sys2Proof.Machine.execActivateAtReached slot s
  | .activationWindowEnd slot path => Sys2Proof.Machine.execActivationWindowEnd slot path s
  | .keyRequest who handle eui purpose gen advance => Sys2Proof.Machine.execKeyRequest who handle eui purpose gen advance s
  | .keyImport c => Sys2Proof.Machine.execKeyImport c s
  | .keyStage c => Sys2Proof.Machine.execKeyStage c s
  | .keyCommit c => Sys2Proof.Machine.execKeyCommit c s
  | .keyAbandon c => Sys2Proof.Machine.execKeyAbandon c s
  | .keyDestroy c => Sys2Proof.Machine.execKeyDestroy c s
  | .keyInfo c => Sys2Proof.Machine.execKeyInfo c s
  | .keyList c => Sys2Proof.Machine.execKeyList c s
  | .keySuccessor c => Sys2Proof.Machine.execKeySuccessor c s
  | .keyRootWrap c => Sys2Proof.Machine.execKeyRootWrap c s
  | .keyInit c => Sys2Proof.Machine.execKeyInit c s
  | .keyZeroise c => Sys2Proof.Machine.execKeyZeroise c s
  | .pavUnlock => Sys2Proof.Machine.execPavUnlock s
  | .pavUnlockDone => Sys2Proof.Machine.execPavUnlockDone s
  | .pavLock => Sys2Proof.Machine.execPavLock s
  | .pavCacheFlush => Sys2Proof.Machine.execPavCacheFlush s
  | .pavKatNow pass => Sys2Proof.Machine.execPavKatNow pass s
  | .tamperTrip sensor detail stays => Sys2Proof.Machine.execTamperTrip sensor detail stays s
  | .tamperArm => Sys2Proof.Machine.execTamperArm s
  | .zeroiseNow => Sys2Proof.Machine.execZeroiseNow s
  | .tamperLogClear => Sys2Proof.Machine.execTamperLogClear s
  | .nvmProgramDone ok => Sys2Proof.Machine.execNvmProgramDone ok s
  | .plcSuperframeStart n => Sys2Proof.Machine.execPlcSuperframeStart n s
  | .plcDataSegment n m => Sys2Proof.Machine.execPlcDataSegment n m s
  | .plcSack n m => Sys2Proof.Machine.execPlcSack n m s
  | .plcAssocReq n m => Sys2Proof.Machine.execPlcAssocReq n m s
  | .plcAlive n m => Sys2Proof.Machine.execPlcAlive n m s
  | .plcTmReq n m => Sys2Proof.Machine.execPlcTmReq n m s
  | .plcTmRsp n m => Sys2Proof.Machine.execPlcTmRsp n m s
  | .plcLeave n m => Sys2Proof.Machine.execPlcLeave n m s
  | .plcReassemblyExpiry n src fid => Sys2Proof.Machine.execPlcReassemblyExpiry n src fid s
  | .plcStandingGrantMiss n src => Sys2Proof.Machine.execPlcStandingGrantMiss n src s
  | .plcZcEdge n falling => Sys2Proof.Machine.execPlcZcEdge n falling s
  | .plcDlRelease n => Sys2Proof.Machine.execPlcDlRelease n s
  | .plcDlRetryExpiry n frame => Sys2Proof.Machine.execPlcDlRetryExpiry n frame s
  | .plcEnable n v => Sys2Proof.Machine.execPlcEnable n v s
  | .plcListenEnd n => Sys2Proof.Machine.execPlcListenEnd n s
  | .plcBeaconForce n => Sys2Proof.Machine.execPlcBeaconForce n s
  | .plcAtSelWrite n v => Sys2Proof.Machine.execPlcAtSelWrite n v s
  | .plcTransientFault n => Sys2Proof.Machine.execPlcTransientFault n s
  | .plcPermanentFault n cause => Sys2Proof.Machine.execPlcPermanentFault n cause s
  | .plcRxBeacon n sfn => Sys2Proof.Machine.execPlcRxBeacon n sfn s
  | .mzkBeaconSend n => Sys2Proof.Machine.execMzkBeaconSend n s
  | .mzkRxData n m => Sys2Proof.Machine.execMzkRxData n m s
  | .mzkRxMack n m => Sys2Proof.Machine.execMzkRxMack n m s
  | .mzkMackTimeout n csma => Sys2Proof.Machine.execMzkMackTimeout n csma s
  | .mzkRxAssocReq n m => Sys2Proof.Machine.execMzkRxAssocReq n m s
  | .mzkRxRouteAck n m => Sys2Proof.Machine.execMzkRxRouteAck n m s
  | .mzkRouteAckTimeout n meter => Sys2Proof.Machine.execMzkRouteAckTimeout n meter s
  | .mzkRxKeep n m => Sys2Proof.Machine.execMzkRxKeep n m s
  | .mzkRxLeave n m => Sys2Proof.Machine.execMzkRxLeave n m s
  | .mzkCellSilent n short => Sys2Proof.Machine.execMzkCellSilent n short s
  | .mzkEventAnchor n conn e upd => Sys2Proof.Machine.execMzkEventAnchor n conn e upd s
  | .mzkAdvSend n => Sys2Proof.Machine.execMzkAdvSend n s
  | .mzkRxConnReq n m => Sys2Proof.Machine.execMzkRxConnReq n m s
  | .mzkConnUpdInstant n conn => Sys2Proof.Machine.execMzkConnUpdInstant n conn s
  | .mzkSupTimeout n conn => Sys2Proof.Machine.execMzkSupTimeout n conn s
  | .mzkConnHoldExpiry n conn => Sys2Proof.Machine.execMzkConnHoldExpiry n conn s
  | .mzkResumeTimeout n => Sys2Proof.Machine.execMzkResumeTimeout n s
  | .mzkDcRelease n => Sys2Proof.Machine.execMzkDcRelease n s
  | .mzkDlRelease n => Sys2Proof.Machine.execMzkDlRelease n s
  | .mzkEnable n v => Sys2Proof.Machine.execMzkEnable n v s
  | .mzkListenEnd n => Sys2Proof.Machine.execMzkListenEnd n s
  | .mzkBeaconForce n => Sys2Proof.Machine.execMzkBeaconForce n s
  | .mzkTransientFault n => Sys2Proof.Machine.execMzkTransientFault n s
  | .mzkPermanentFault n cause => Sys2Proof.Machine.execMzkPermanentFault n cause s
  | .mzkRxBeacon n bseq routeVer => Sys2Proof.Machine.execMzkRxBeacon n bseq routeVer s
  | .mzkSilentEvent n conn => Sys2Proof.Machine.execMzkSilentEvent n conn s
  | .tsuSchemeWrite scheme => Sys2Proof.Machine.execTsuSchemeWrite scheme s
  | .tsuRateWrite v => Sys2Proof.Machine.execTsuRateWrite v s
  | .tsuAdjStep => Sys2Proof.Machine.execTsuAdjStep s
  | .tsuAdjSlew => Sys2Proof.Machine.execTsuAdjSlew s
  | .tsuAdjSet => Sys2Proof.Machine.execTsuAdjSet s
  | .slewEnd => Sys2Proof.Machine.execSlewEnd s
  | .ppsEdge falling => Sys2Proof.Machine.execPpsEdge falling s
  | .ppsHoldover => Sys2Proof.Machine.execPpsHoldover s
  | .rtcSecondSync => Sys2Proof.Machine.execRtcSecondSync s
  | .rtcSecWrite v => Sys2Proof.Machine.execRtcSecWrite v s
  | .pulseArm k => Sys2Proof.Machine.execPulseArm k s
  | .pulseLeadingEdge k => Sys2Proof.Machine.execPulseLeadingEdge k s
  | .pulseTrailingEdge k => Sys2Proof.Machine.execPulseTrailingEdge k s
  | .teBuf c => Sys2Proof.Machine.execTeBuf c s
  | .teAdj c => Sys2Proof.Machine.execTeAdj c s
  | .timeEventDeliver => Sys2Proof.Machine.execTimeEventDeliver s
  | .tsuNowRead m => Sys2Proof.Machine.execTsuNowRead m s
  | .tsuConvWrite m v => Sys2Proof.Machine.execTsuConvWrite m v s
  | .tsuEvtPop => Sys2Proof.Machine.execTsuEvtPop s
  | .ethEnable n v => Sys2Proof.Machine.execEthEnable n v s
  | .ethFrameReceive n m => Sys2Proof.Machine.execEthFrameReceive n m s
  | .pauseExpiry n cls => Sys2Proof.Machine.execPauseExpiry n cls s
  | .pauseStorm n => Sys2Proof.Machine.execPauseStorm n s
  | .pauseResend n part => Sys2Proof.Machine.execPauseResend n part s
  | .xonPauseSend n part => Sys2Proof.Machine.execXonPauseSend n part s
  | .ethTxqPost q v => Sys2Proof.Machine.execEthTxqPost q v s
  | .ethTxDone n => Sys2Proof.Machine.execEthTxDone n s
  | .tunnelDownlinkSend conc => Sys2Proof.Machine.execTunnelDownlinkSend conc s
  | .keepaliveSend => Sys2Proof.Machine.execKeepaliveSend s
  | .concSilent conc => Sys2Proof.Machine.execConcSilent conc s
  | .fdbAgeOut mac vid => Sys2Proof.Machine.execFdbAgeOut mac vid s
  | .ethConcSelWrite v => Sys2Proof.Machine.execEthConcSelWrite v s
  | .ethConcCommit => Sys2Proof.Machine.execEthConcCommit s
  | .saInstall c => Sys2Proof.Machine.execSaInstall c s
  | .saTxSwitch c => Sys2Proof.Machine.execSaTxSwitch c s
  | .saDelete c => Sys2Proof.Machine.execSaDelete c s
  | .ethWakeCfgWrite v => Sys2Proof.Machine.execEthWakeCfgWrite v s
  | .ethWake n frame => Sys2Proof.Machine.execEthWake n frame s
  | .ethLinkChange n up rate => Sys2Proof.Machine.execEthLinkChange n up rate s
  | .ethTransientFault n fec => Sys2Proof.Machine.execEthTransientFault n fec s
  | .ethPermanentFault n cause => Sys2Proof.Machine.execEthPermanentFault n cause s
  | .pauseIgnoreEnd n => Sys2Proof.Machine.execPauseIgnoreEnd n s
  | .gavEnable v => Sys2Proof.Machine.execGavEnable v s
  | .gavMount rootOk dieOk => Sys2Proof.Machine.execGavMount rootOk dieOk s
  | .gavMountDone => Sys2Proof.Machine.execGavMountDone s
  | .gavSectorProgram => Sys2Proof.Machine.execGavSectorProgram s
  | .gavPartialFlush => Sys2Proof.Machine.execGavPartialFlush s
  | .gavProgramDone ok => Sys2Proof.Machine.execGavProgramDone ok s
  | .gavJournalSector ok => Sys2Proof.Machine.execGavJournalSector ok s
  | .gavSysvalWrite id v => Sys2Proof.Machine.execGavSysvalWrite id v s
  | .gavGcStart die => Sys2Proof.Machine.execGavGcStart die s
  | .gavGcCopyDone die reads targetOk => Sys2Proof.Machine.execGavGcCopyDone die reads targetOk s
  | .gavGcErase die => Sys2Proof.Machine.execGavGcErase die s
  | .gavEraseDone die ok => Sys2Proof.Machine.execGavEraseDone die ok s
  | .gavDieFault die permanent lost => Sys2Proof.Machine.execGavDieFault die permanent lost s
  | .arcRead c reads => Sys2Proof.Machine.execArcRead c reads s
  | .arcBlkRead c reads => Sys2Proof.Machine.execArcBlkRead c reads s
  | .arcBlkWrite c => Sys2Proof.Machine.execArcBlkWrite c s
  | .arcTrim c => Sys2Proof.Machine.execArcTrim c s
  | .arcSdiscard c => Sys2Proof.Machine.execArcSdiscard c s
  | .arcFlush c => Sys2Proof.Machine.execArcFlush c s
  | .gavFormat c => Sys2Proof.Machine.execGavFormat c s
  | .gavInfo c => Sys2Proof.Machine.execGavInfo c s
  | .gavSdiscardSeq c => Sys2Proof.Machine.execGavSdiscardSeq c s
  | .gavGcNow c => Sys2Proof.Machine.execGavGcNow c s
  | .gavMarkLostClear c => Sys2Proof.Machine.execGavMarkLostClear c s
  | .eplLinkUp => Sys2Proof.Machine.execEplLinkUp s
  | .eplLinkDown => Sys2Proof.Machine.execEplLinkDown s
  | .eplHelloTimer => Sys2Proof.Machine.execEplHelloTimer s
  | .eplHelloTimeout => Sys2Proof.Machine.execEplHelloTimeout s
  | .eplRetransmitTimeout => Sys2Proof.Machine.execEplRetransmitTimeout s
  | .hello m => Sys2Proof.Machine.execHello m s
  | .lease m => Sys2Proof.Machine.execLease m s
  | .leaseAck m => Sys2Proof.Machine.execLeaseAck m s
  | .tokenRelease m => Sys2Proof.Machine.execTokenRelease m s
  | .digest m => Sys2Proof.Machine.execDigest m s
  | .digestResult m => Sys2Proof.Machine.execDigestResult m s
  | .selftest m => Sys2Proof.Machine.execSelftest m s
  | .recheck m => Sys2Proof.Machine.execRecheck m s
  | .msrDelta m => Sys2Proof.Machine.execMsrDelta m s
  | .keyEvent m => Sys2Proof.Machine.execKeyEvent m s
  | .keySummary m => Sys2Proof.Machine.execKeySummary m s
  | .settings m readable => Sys2Proof.Machine.execSettings m readable s
  | .bolero m => Sys2Proof.Machine.execBolero m s
  | .resync m => Sys2Proof.Machine.execResync m s
  | .winRd m => Sys2Proof.Machine.execWinRd m s
  | .winRdRsp m => Sys2Proof.Machine.execWinRdRsp m s
  | .winWr m => Sys2Proof.Machine.execWinWr m s
  | .leaseRenewTimer => Sys2Proof.Machine.execLeaseRenewTimer s
  | .leaseExpiry => Sys2Proof.Machine.execLeaseExpiry s
  | .tokenTakeover => Sys2Proof.Machine.execTokenTakeover s
  | .deadTimer => Sys2Proof.Machine.execDeadTimer s
  | .witnessLeaseExpiry => Sys2Proof.Machine.execWitnessLeaseExpiry s
  | .swapHandover => Sys2Proof.Machine.execSwapHandover s
  | .digestBatchClose => Sys2Proof.Machine.execDigestBatchClose s
  | .digestCompare => Sys2Proof.Machine.execDigestCompare s
  | .selftestDone keyc commit digest laneFail => Sys2Proof.Machine.execSelftestDone keyc commit digest laneFail s
  | .mergeDelayApply => Sys2Proof.Machine.execMergeDelayApply s
  | .keySummaryTimer => Sys2Proof.Machine.execKeySummaryTimer s
  | .pairInfo c => Sys2Proof.Machine.execPairInfo c s
  | .pairSwap c => Sys2Proof.Machine.execPairSwap c s
  | .pairWitnessGrant c => Sys2Proof.Machine.execPairWitnessGrant c s
  | .pairResync c => Sys2Proof.Machine.execPairResync c s
  | .pairMismatchRead c => Sys2Proof.Machine.execPairMismatchRead c s
  | .bootStart r => Sys2Proof.Machine.execBootStart r s
  | .bootComplete => Sys2Proof.Machine.execBootComplete s
  | .updOpen c => Sys2Proof.Machine.execUpdOpen c s
  | .updData c => Sys2Proof.Machine.execUpdData c s
  | .updVerify c => Sys2Proof.Machine.execUpdVerify c s
  | .updActivate c => Sys2Proof.Machine.execUpdActivate c s
  | .updClose c => Sys2Proof.Machine.execUpdClose c s
  | .updAccept c => Sys2Proof.Machine.execUpdAccept c s
  | .updRevert c => Sys2Proof.Machine.execUpdRevert c s
  | .updAcceptDefaults c => Sys2Proof.Machine.execUpdAcceptDefaults c s
  | .updStatus c => Sys2Proof.Machine.execUpdStatus c s
  | .updSetPut c => Sys2Proof.Machine.execUpdSetPut c s
  | .updSetGet c => Sys2Proof.Machine.execUpdSetGet c s
  | .updLeaseExpiry => Sys2Proof.Machine.execUpdLeaseExpiry s
  | .updActivateDelay => Sys2Proof.Machine.execUpdActivateDelay s
  | .updAutoAccept => Sys2Proof.Machine.execUpdAutoAccept s
  | .settingsRevertHold => Sys2Proof.Machine.execSettingsRevertHold s
  | .qspiProgramDone ok => Sys2Proof.Machine.execQspiProgramDone ok s
  | .aonpor => Sys2Proof.Machine.execAonpor s
  | .mainpor straps => Sys2Proof.Machine.execMainpor straps s
  | .pinrst straps => Sys2Proof.Machine.execPinrst straps s
  | .softrst => Sys2Proof.Machine.execSoftrst s
  | .wdtrst => Sys2Proof.Machine.execWdtrst s
  | .domrst dom => Sys2Proof.Machine.execDomrst dom s
  | .pmuModeSetRun c => Sys2Proof.Machine.execPmuModeSetRun c s
  | .pmuModeSetCommission c => Sys2Proof.Machine.execPmuModeSetCommission c s
  | .pmuStormForceSet c => Sys2Proof.Machine.execPmuStormForceSet c s
  | .pmuStormForceClear c => Sys2Proof.Machine.execPmuStormForceClear c s
  | .pmuModeSetDormant c => Sys2Proof.Machine.execPmuModeSetDormant c s
  | .pmuResetSoft c => Sys2Proof.Machine.execPmuResetSoft c s
  | .pmuResetDomain c => Sys2Proof.Machine.execPmuResetDomain c s
  | .pmuResourceRetire c => Sys2Proof.Machine.execPmuResourceRetire c s
  | .pmuResourceRestore c pass => Sys2Proof.Machine.execPmuResourceRestore c pass s
  | .pmuResourceQuery c => Sys2Proof.Machine.execPmuResourceQuery c s
  | .modeChange => Sys2Proof.Machine.execModeChange s
  | .islandedCondSet => Sys2Proof.Machine.execIslandedCondSet s
  | .islandedCondClear => Sys2Proof.Machine.execIslandedCondClear s
  | .stormBudgetExhausted => Sys2Proof.Machine.execStormBudgetExhausted s
  | .stormBudgetHalf => Sys2Proof.Machine.execStormBudgetHalf s
  | .thermalSample tj sensor => Sys2Proof.Machine.execThermalSample tj sensor s
  | .thermalThrottleLift => Sys2Proof.Machine.execThermalThrottleLift s
  | .thermalStop => Sys2Proof.Machine.execThermalStop s
  | .thermalRestart => Sys2Proof.Machine.execThermalRestart s
  | .coreWarnSet mv => Sys2Proof.Machine.execCoreWarnSet mv s
  | .coreWarnClear mv => Sys2Proof.Machine.execCoreWarnClear mv s
  | .coreUndervoltReset straps => Sys2Proof.Machine.execCoreUndervoltReset straps s
  | .pwrWarnFall => Sys2Proof.Machine.execPwrWarnFall s
  | .pwrWarnRise => Sys2Proof.Machine.execPwrWarnRise s
  | .wdtEnable v => Sys2Proof.Machine.execWdtEnable v s
  | .wdtKick v => Sys2Proof.Machine.execWdtKick v s
  | .wdtPrewarn => Sys2Proof.Machine.execWdtPrewarn s
  | .rtcAlarmWake => Sys2Proof.Machine.execRtcAlarmWake s
  | .perstWake => Sys2Proof.Machine.execPerstWake s
  | .pmuOffMaskWrite v => Sys2Proof.Machine.execPmuOffMaskWrite v s
  | .dramEccCorrected row => Sys2Proof.Machine.execDramEccCorrected row s
  | .dramEccUncorrectable row addr => Sys2Proof.Machine.execDramEccUncorrectable row addr s
  | .coreEccError t permanent => Sys2Proof.Machine.execCoreEccError t permanent s
  | .coreProbeTimeout t => Sys2Proof.Machine.execCoreProbeTimeout t s
  | .vaonLoss => Sys2Proof.Machine.execVaonLoss s
  | .vaonRestore => Sys2Proof.Machine.execVaonRestore s
  | .vbatLoss => Sys2Proof.Machine.execVbatLoss s
  | .vbatRestore => Sys2Proof.Machine.execVbatRestore s
  | .srbEnable => Sys2Proof.Machine.execSrbEnable s
  | .srbSample hw => Sys2Proof.Machine.execSrbSample hw s
  | .srbFeedWrite v => Sys2Proof.Machine.execSrbFeedWrite v s
  | .snapshotTimer sec => Sys2Proof.Machine.execSnapshotTimer sec s
  | .srbSnapNow => Sys2Proof.Machine.execSrbSnapNow s
  | .snapshotWritten => Sys2Proof.Machine.execSnapshotWritten s
  | .srbWselWrite v => Sys2Proof.Machine.execSrbWselWrite v s
  | .logRecord => Sys2Proof.Machine.execLogRecord s
  | .logAppend m v => Sys2Proof.Machine.execLogAppend m v s
  | .logBuf c => Sys2Proof.Machine.execLogBuf c s
  | .logBufTimeout => Sys2Proof.Machine.execLogBufTimeout s
  | .srbCopy c => Sys2Proof.Machine.execSrbCopy c s
  | .logMark c => Sys2Proof.Machine.execLogMark c s
  | .logClear c => Sys2Proof.Machine.execLogClear c s
  | .logCtrlClear m => Sys2Proof.Machine.execLogCtrlClear m s
  | .logHeadWrite v => Sys2Proof.Machine.execLogHeadWrite v s
  | .logSelWrite v => Sys2Proof.Machine.execLogSelWrite v s
  | .suppressedSummaryTimer src => Sys2Proof.Machine.execSuppressedSummaryTimer src s

end Sys2Proof.Machine
end

