-- ==== Sys2Proof/Safety.lean ====
section
/-! DEFINITION. What counts as a safe run, in the terms the statements use. -/

namespace Sys2Proof.Machine

/-- The stored data of the block is in canonical form: byte memory lists addresses rising and no byte it reads anyway, the
register table lists no field at its reset value, the FIFO table lists each FIFO once. Equal contents are then equal data. -/
def Dev.canon (d : Dev) : Bool := d.mem.wf && Tab.wf d.regs && mwf d.fifos

/-- A step answers a state: no command stops the block. -/
def Answers (s : State) : Prop := ∃ t, step s = .next t

/-- A run of k steps answers a state. -/
def Runs (s : State) (k : Nat) : Prop := ∃ t, Host.Core.run core k s = .next t

end Sys2Proof.Machine
end

