-- ==== Sys2Proof/Certificates/Slice0/Obligations.lean ====
section
/-! DEFINITION. The statements for the provers. Each names the rules it formalises; a command's completion is stated as the
next state it answers. -/

open Sys2Proof Sys2Proof.Machine

/-- REGISTER_WRITE of an aligned 32-bit word to a register that is no half of a pair stores it there, and a narrow or unaligned
one is discarded with bad_access. REG_PAIR_HI_WRITE only holds the word for its master. REG_PAIR_LO_WRITE commits the
master's held word with the low one, or the low one alone. An access of an offset where no register stands, or whose domain
is off, ends as R38 says. REG_PAIR_LO_READ of SYS_APER_BASE answers the low word and captures the high one for the master.
RC_FIELD_READ of SYS_HALL_CE_COUNT answers the count and clears it. (R9, R12, R38, R546, R547) -/
def Obligations.RegisterCommandsComplete : Prop :=
  (∀ (m : BitVec 6) (off : BitVec 26) (v : BitVec 64) (d : Dev) (q : List Instr), off.toNat % 4 = 0 →
    d.regMiss off.toNat = none → isPairLo off.toNat = false → isPairLo (off.toNat - 4) = false →
    exec (.registerWrite m off 4 v) ⟨d, q⟩ = .next ⟨d.regStore m.toNat off.toNat (v.toNat % 2 ^ 32), q⟩)
  ∧ (∀ (m : BitVec 6) (off : BitVec 26) (size : Nat) (v : BitVec 64) (d : Dev) (q : List Instr),
    off.toNat % 4 ≠ 0 ∨ (size ≠ 4 ∧ size ≠ 8) →
    exec (.registerWrite m off size v) ⟨d, q⟩ = .next ⟨d.badWrite 0 m.toNat off.toNat, q⟩)
  ∧ (∀ (m : BitVec 6) (off : BitVec 26) (v : Word) (d : Dev) (q : List Instr), d.regMiss off.toNat = none →
    exec (.regPairHiWrite m off v) ⟨d, q⟩
      = .next ⟨{ d with sys := { d.sys with holdHi := mput d.sys.holdHi (holdKey m.toNat off.toNat) v.toNat } }, q⟩)
  ∧ (∀ (m : BitVec 6) (off : BitVec 26) (v : Word) (h : Nat) (d e : Dev) (q : List Instr),
    d.regMiss off.toNat = none → off.toNat ≠ 0x30020 → off.toNat ≠ 0xC0024 → off.toNat ≠ 0xC0150 →
    mget? d.sys.holdHi (holdKey m.toNat (off.toNat + 4)) = some h →
    e = { d with sys := { d.sys with holdHi := mdel d.sys.holdHi (holdKey m.toNat (off.toNat + 4)) } } →
    exec (.regPairLoWrite m off v) ⟨d, q⟩
      = .next ⟨(e.regStore m.toNat (off.toNat + 4) h).regStore m.toNat off.toNat v.toNat, q⟩)
  ∧ (∀ (m : BitVec 6) (off : BitVec 26) (v : Word) (d e : Dev) (q : List Instr),
    d.regMiss off.toNat = none → off.toNat ≠ 0x30020 → off.toNat ≠ 0xC0024 → off.toNat ≠ 0xC0150 →
    mget? d.sys.holdHi (holdKey m.toNat (off.toNat + 4)) = none →
    e = { d with sys := { d.sys with holdHi := mdel d.sys.holdHi (holdKey m.toNat (off.toNat + 4)) } } →
    exec (.regPairLoWrite m off v) ⟨d, q⟩ = .next ⟨e.regStore m.toNat off.toNat v.toNat, q⟩)
  ∧ (∀ (m : BitVec 6) (off : BitVec 26) (v : Word) (k : Nat) (d : Dev) (q : List Instr), d.regMiss off.toNat = some k →
    exec (.regPairHiWrite m off v) ⟨d, q⟩ = .next ⟨d.badWrite k m.toNat off.toNat, q⟩
      ∧ exec (.regPairLoWrite m off v) ⟨d, q⟩ = .next ⟨d.badWrite k m.toNat off.toNat, q⟩
      ∧ exec (.regPairLoRead m off) ⟨d, q⟩ = .next ⟨d.badRead k m.toNat off.toNat 4, q⟩
      ∧ exec (.rcFieldRead m off) ⟨d, q⟩ = .next ⟨d.badRead k m.toNat off.toNat 4, q⟩)
  ∧ (∀ (m : BitVec 6) (d : Dev) (q : List Instr), d.domOn .fab = true → mget? d.sys.capHi (holdKey m.toNat 0x28) = none →
    ∃ e : Dev, exec (.regPairLoRead m 0x28) ⟨d, q⟩ = .next ⟨e, q⟩
      ∧ mget? e.sys.capHi (holdKey m.toNat 0x2C) = some (d.rd F.SYS_APER_BASE_HI_base_hi % 2 ^ 16)
      ∧ e.out = d.out ++ [.readData m.toNat 0x28 (leBytes 4 (d.rd F.SYS_APER_BASE_LO_base_lo % 4 * 2 ^ 30)) false]
      ∧ e.regs = d.regs ∧ e.mem = d.mem ∧ e.fifos = d.fifos)
  ∧ (∀ (m : BitVec 6) (d : Dev) (q : List Instr), d.domOn .fab = true →
    exec (.rcFieldRead m 0x20) ⟨d, q⟩ = .next ⟨(d.wr F.SYS_HALL_CE_COUNT_count 0).emit
      (.readData m.toNat 0x20 (leBytes 4 (d.rd F.SYS_HALL_CE_COUNT_count % 2 ^ 32)) false), q⟩)

/-- FABRIC_ACCESS through the internal view, from a master with the fabric on: a clean write into the Hall, the AON SRAM or DRAM
stores its bytes and nothing else of memory, and a clean read answers the bytes that stand there; a read of the boot ROM
answers its bytes and a write is discarded with rom_write. A 4-byte or 8-byte atomic operation on the Hall answers the old
bytes and stores its result, a reserved load answers them and holds the reservation of its master, and a store-conditional
without a reservation answers 1 and stores nothing (that these are RISC-V's operations is log entry 56). An AtomicOp of the
host completes as an Unsupported Request and has no effect on memory (R35). (R30, R32, R35, R38, R546) -/
def Obligations.MemoryAccessesComplete : Prop :=
  (∀ (x : Access) (d : Dev) (q : List Instr), x.atomic = none → x.write = true → x.port = .internal → x.ecc = .clean →
    d.domOn .fab = true → inHall x.addr.toNat x.size = true → exec (.fabricAccess x) ⟨d, q⟩
      = .next ⟨(d.bytesWr x.addr.toNat (padTo x.size x.data)).unreserve x.master.toNat x.addr.toNat x.size, q⟩)
  ∧ (∀ (x : Access) (d : Dev) (q : List Instr), x.atomic = none → x.write = false → x.port = .internal → x.ecc = .clean →
    d.domOn .fab = true → inHall x.addr.toNat x.size = true →
    exec (.fabricAccess x) ⟨d, q⟩
      = .next ⟨d.emit (.readData x.master.toNat x.addr.toNat (d.bytesRd x.addr.toNat x.size) false), q⟩)
  ∧ (∀ (x : Access) (d : Dev) (q : List Instr), x.atomic = none → x.write = true → x.port = .internal → d.domOn .fab = true →
    0x8000000 ≤ x.addr.toNat → x.addr.toNat + x.size ≤ 0x8040000 → exec (.fabricAccess x) ⟨d, q⟩
      = .next ⟨(d.bytesWr x.addr.toNat (padTo x.size x.data)).unreserve x.master.toNat x.addr.toNat x.size, q⟩)
  ∧ (∀ (x : Access) (d : Dev) (q : List Instr), x.atomic = none → x.write = false → x.port = .internal → d.domOn .fab = true →
    0x8000000 ≤ x.addr.toNat → x.addr.toNat + x.size ≤ 0x8040000 → exec (.fabricAccess x) ⟨d, q⟩
      = .next ⟨d.emit (.readData x.master.toNat x.addr.toNat (d.bytesRd x.addr.toNat x.size) false), q⟩)
  ∧ (∀ (x : Access) (d : Dev) (q : List Instr), x.atomic = none → x.write = false → x.port = .internal →
    0xC000000 ≤ x.addr.toNat → x.addr.toNat + x.size ≤ 0xC020000 → exec (.fabricAccess x) ⟨d, q⟩
      = .next ⟨d.emit (.readData x.master.toNat x.addr.toNat (d.bytesRd x.addr.toNat x.size) false), q⟩)
  ∧ (∀ (x : Access) (d : Dev) (q : List Instr), x.atomic = none → x.write = true → x.port = .internal →
    0xC000000 ≤ x.addr.toNat → x.addr.toNat + x.size ≤ 0xC020000 →
    exec (.fabricAccess x) ⟨d, q⟩ = .next ⟨d.badWrite 7 x.master.toNat x.addr.toNat, q⟩)
  ∧ (∀ (x : Access) (d : Dev) (q : List Instr), x.atomic = none → x.write = true → x.port = .internal → x.ecc = .clean →
    d.domOn .dmc = true → d.on F.DMC_STATUS_self_refresh = false →
    d.inDram x.addr.toNat x.size = true → exec (.fabricAccess x) ⟨d, q⟩
      = .next ⟨(d.bytesWr x.addr.toNat (padTo x.size x.data)).unreserve x.master.toNat x.addr.toNat x.size, q⟩)
  ∧ (∀ (x : Access) (d : Dev) (q : List Instr), x.atomic = none → x.write = false → x.port = .internal → x.ecc = .clean →
    d.domOn .dmc = true → d.on F.DMC_STATUS_self_refresh = false → d.pmu.poison = [] →
    d.inDram x.addr.toNat x.size = true → exec (.fabricAccess x) ⟨d, q⟩
      = .next ⟨d.emit (.readData x.master.toNat x.addr.toNat (d.bytesRd x.addr.toNat x.size) false), q⟩)
  ∧ (∀ (x : Access) (o : Amo) (d : Dev) (q : List Instr), x.atomic = some o → o ≠ .lr → o ≠ .sc → x.master ≠ 0 →
    x.port = .internal → x.ecc = .clean → d.domOn .fab = true → x.size = 4 ∨ x.size = 8 → x.addr.toNat % x.size = 0 →
    inHall x.addr.toNat x.size = true → exec (.fabricAccess x) ⟨d, q⟩
      = .next ⟨((d.bytesWr x.addr.toNat (leBytes x.size (amoResult o (8 * x.size) (leNat (d.bytesRd x.addr.toNat x.size))
          (leNat (padTo x.size x.data))))).unreserve x.master.toNat x.addr.toNat x.size).emit
        (.readData x.master.toNat x.addr.toNat (d.bytesRd x.addr.toNat x.size) false), q⟩)
  ∧ (∀ (x : Access) (d : Dev) (q : List Instr), x.atomic = some .lr → x.master ≠ 0 →
    x.port = .internal → x.ecc = .clean → d.domOn .fab = true → x.size = 4 ∨ x.size = 8 → x.addr.toNat % x.size = 0 →
    inHall x.addr.toNat x.size = true → exec (.fabricAccess x) ⟨d, q⟩
      = .next ⟨({ d with sys := { d.sys with reserve := mput d.sys.reserve x.master.toNat (x.addr.toNat, x.size) } }).emit
        (.readData x.master.toNat x.addr.toNat (d.bytesRd x.addr.toNat x.size) false), q⟩)
  ∧ (∀ (x : Access) (d : Dev) (q : List Instr), x.atomic = some .sc → x.master ≠ 0 →
    x.port = .internal → x.ecc = .clean → d.domOn .fab = true → x.size = 4 ∨ x.size = 8 → x.addr.toNat % x.size = 0 →
    inHall x.addr.toNat x.size = true → mget? d.sys.reserve x.master.toNat = none → exec (.fabricAccess x) ⟨d, q⟩
      = .next ⟨({ d with sys := { d.sys with reserve := mdel d.sys.reserve x.master.toNat } }).emit
        (.readData x.master.toNat x.addr.toNat (leBytes x.size 1) false), q⟩)
  ∧ (∀ (x : Access) (d : Dev) (q : List Instr), x.atomic.isSome = true → x.master = 0 → x.port ≠ .config →
    exec (.fabricAccess x) ⟨d, q⟩ = .next ⟨d.pciUnsupported.emit (.readData 0 x.addr.toNat [] true), q⟩)

/-- FABRIC_ACCESS through the internal view: an aligned 32-bit read or write of the register space is one register read or write
of its master; a write of 4 or 8 bytes of the EPL window with the link up becomes one WIN_WR message, and one with the link
down ends with its error; a write of the outbound window with the host in reach becomes one write of host memory; an atomic
operation of a master other than the host in one of these places is an error with no effect. An address that BAR0 does not
map ends a write with unmapped, and a read with the error answer of R38. A configuration request before the HOST domain is
ready ends with Configuration Request Retry Status (R45), and once it is, a read answers the doubleword addressed. (R3, R32,
R35, R38, R39, R45, R426, R546) -/
def Obligations.FabricWindowsComplete : Prop :=
  (∀ (x : Access) (d : Dev) (q : List Instr), x.atomic = none → x.write = false → x.port = .internal → x.size = 4 →
    x.addr.toNat % 4 = 0 → x.addr.toNat + 4 ≤ 0x4000000 →
    exec (.fabricAccess x) ⟨d, q⟩ = .next ⟨d.regRead x.master.toNat x.addr.toNat, q⟩)
  ∧ (∀ (x : Access) (d : Dev) (q : List Instr), x.atomic = none → x.write = true → x.port = .internal → x.size = 4 →
    x.addr.toNat % 4 = 0 → x.addr.toNat + 4 ≤ 0x4000000 →
    exec (.fabricAccess x) ⟨d, q⟩ = .next ⟨d.regWrChecked x.master.toNat x.addr.toNat (leNat x.data % 2 ^ 32), q⟩)
  ∧ (∀ (x : Access) (d : Dev) (q : List Instr), x.atomic = none → x.write = true → x.port = .internal →
    x.size = 4 ∨ x.size = 8 → 0x400000000000 ≤ x.addr.toNat → x.addr.toNat + x.size ≤ 0x800000000000 →
    d.inDram x.addr.toNat x.size = false → d.on F.EPL_STATUS_link_up = true → exec (.fabricAccess x) ⟨d, q⟩
      = .next ⟨d.eplSend 0x11 (leBytes 8 (x.addr.toNat - 0x400000000000) ++ leBytes 4 x.size ++ zeros 4
          ++ padTo 8 (x.data.take x.size)), q⟩)
  ∧ (∀ (x : Access) (d : Dev) (q : List Instr), x.atomic = none → x.write = true → x.port = .internal →
    0x400000000000 ≤ x.addr.toNat → x.addr.toNat + x.size ≤ 0x800000000000 →
    d.inDram x.addr.toNat x.size = false → d.on F.EPL_STATUS_link_up = false →
    exec (.fabricAccess x) ⟨d, q⟩ = .next ⟨d.badWrite 3 x.master.toNat x.addr.toNat, q⟩)
  ∧ (∀ (x : Access) (d : Dev) (q : List Instr), x.atomic = none → x.write = true → x.port = .internal → 0 < x.size →
    0x800000000000 ≤ x.addr.toNat → x.addr.toNat + x.size ≤ 2 ^ 48 → d.inDram x.addr.toNat x.size = false →
    d.outbAddr (x.addr.toNat - 0x800000000000) + x.size ≤ 2 ^ 64 → d.hostReach = true → exec (.fabricAccess x) ⟨d, q⟩
      = .next ⟨d.emit (.hostWrite (d.outbAddr (x.addr.toNat - 0x800000000000)) (padTo x.size x.data)), q⟩)
  ∧ (∀ (x : Access) (o : Amo) (d : Dev) (q : List Instr), x.atomic = some o → x.master ≠ 0 → x.port = .internal →
    x.addr.toNat + x.size ≤ 0x4000000 → exec (.fabricAccess x) ⟨d, q⟩
      = .next ⟨(d.errCapture 8 x.master.toNat x.addr.toNat x.write).emit (.readData x.master.toNat x.addr.toNat [] true), q⟩)
  ∧ (∀ (x : Access) (d : Dev) (q : List Instr), x.port = .bar0 → 0x4000000 ≤ x.addr.toNat → x.atomic = none →
    exec (.fabricAccess x) ⟨d, q⟩ = .next ⟨if x.write then d.badWrite 1 x.master.toNat x.addr.toNat
      else d.badRead 1 x.master.toNat x.addr.toNat x.size, q⟩)
  ∧ (∀ (x : Access) (d : Dev) (q : List Instr), x.port = .config → d.hostReady = false →
    exec (.fabricAccess x) ⟨d, q⟩ = .next ⟨d.emit .cfgRetry, q⟩)
  ∧ (∀ (x : Access) (d : Dev) (q : List Instr), x.port = .config → d.hostReady = true → x.write = false →
    exec (.fabricAccess x) ⟨d, q⟩ = .next ⟨d.emit (.readData 0 (x.addr.toNat / 4 * 4) (leBytes 4 (d.cfgWord (x.addr.toNat / 4 * 4))) false), q⟩)

/-- FIFO_FLUSH sets the flush bit and begins to empty the FIFO. FIFO_FLUSH_COMPLETE of a flush that has not begun changes
nothing; of a radio port's FIFO in a flush it empties the FIFO as R23 says and clears the bit. PACKET_FIFO_TRANSFER of a
whole packet takes it out of one crossing FIFO and puts it into the next; of a packet that fails its check it drops it and,
where its consumer had begun, marks the abort at that FIFO (R24). (R21, R22, R23, R24) -/
def Obligations.FifoCommandsComplete : Prop :=
  (∀ (off : BitVec 26) (d : Dev) (q : List Instr), exec (.fifoFlush off) ⟨d, q⟩
    = .next ⟨({ d with fifos := mput d.fifos off.toNat { d.fifo off.toNat with flushing := true } }).setF
        (fqFld off.toNat F.WLZ_FQ_CTRL_flush), q⟩)
  ∧ (∀ (off : BitVec 26) (d : Dev) (q : List Instr), (d.fifo off.toNat).flushing = false →
    exec (.fifoFlushComplete off) ⟨d, q⟩ = .next ⟨d, q⟩)
  ∧ (∀ (n : Fin 12) (off : BitVec 26) (d : Dev) (q : List Instr), off.toNat = 0xB0060 + 0x1000 * n.val →
    (d.fifo off.toNat).flushing = true →
    exec (.fifoFlushComplete off) ⟨d, q⟩
      = .next ⟨(d.fifoEmpty off.toNat).clrF (fqFld off.toNat F.WLZ_FQ_CTRL_flush), q⟩)
  ∧ (∀ (dst : BitVec 26) (arrived : Nat) (item : List Byte) (d : Dev) (q : List Instr),
    d.fifoHead 0x50200 = some item → d.packetWay 0x50200 dst.toNat item = true →
    d.fifoRoom dst.toNat (fifoCap dst.toNat) item = true → item.length ≤ arrived →
    exec (.packetFifoTransfer 0x50200 dst arrived true) ⟨d, q⟩
      = .next ⟨(d.fifoPop 0x50200).fifoPush dst.toNat (fifoCap dst.toNat) item, q⟩)
  ∧ (∀ (dst : BitVec 26) (arrived : Nat) (item : List Byte) (d : Dev) (q : List Instr),
    d.fifoHead 0x50200 = some item → d.packetWay 0x50200 dst.toNat item = true →
    d.fifoRoom dst.toNat (fifoCap dst.toNat) item = true → (d.fifo 0x50200).begun = true →
    exec (.packetFifoTransfer 0x50200 dst arrived false) ⟨d, q⟩
      = .next ⟨(d.fifoPop 0x50200).fifoAbort 0x50200, q⟩)

/-- PERST# asserted, a hot reset and a function-level reset reset HOST and XDI with reasons 2, 3 and 4, PERST# leaving the HOST
domain off and a function-level reset the link as it was. The link lost or Bus Master Enable cleared make a present host
absent with reasons 1 and 5. The link up or Bus Master Enable set make it present again when the other holds and
configuration requests are answered, and count the attachment; before the link is ready they change nothing. The third read
timeout in a row makes the host absent with reason 6; an earlier one only counts; each sets AER Completion Timeout. D3hot
pauses the active pairs, and a return to D0 lets go what was held. (R45, R46, R73, R96) -/
def Obligations.HostPresenceCommandsComplete : Prop :=
  (∀ (d : Dev) (q : List Instr), exec .perstAssert ⟨d, q⟩
    = .next ⟨({ d.hostReset .hostrst 2 with xdi := { (d.hostReset .hostrst 2).xdi with perst := true } }).wrBit F.PMU_DOM_on 12 false, q⟩)
  ∧ (∀ (d : Dev) (q : List Instr), d.rd F.PMU_STATUS_mode = 4 → exec .perstDeassert ⟨d, q⟩
    = .next ⟨({ d with xdi := { d.xdi with perst := false, trainReady := true } }).wrBit F.PMU_DOM_on 12 true, q⟩)
  ∧ (∀ (d e : Dev) (q : List Instr), e = d.hostReset .hostrst 3 → exec .pcieHotReset ⟨d, q⟩
    = .next ⟨{ e with xdi := { e.xdi with trainReady := !e.xdi.perst } }, q⟩)
  ∧ (∀ (d e : Dev) (q : List Instr), e = d.hostReset .flr 4 → d.on F.XDI_STATUS_link_up = true → exec .pcieFlr ⟨d, q⟩
    = .next ⟨({ e with xdi := { e.xdi with trainReady := d.xdi.trainReady } }).flag F.XDI_STATUS_link_up true, q⟩)
  ∧ (∀ (d e : Dev) (q : List Instr), e = d.hostGone 1 → d.on F.XDI_STATUS_host_present = true → exec .pcieLinkDown ⟨d, q⟩
    = .next ⟨((({ e with xdi := { e.xdi with ctoAbsent := false, ctoRun := 0 }, icu := { e.icu with linkL1 := false } }).clrF
        F.XDI_STATUS_link_up).clrF F.XDI_STATUS_d3hot).hostSync, q⟩)
  ∧ (∀ (l : Bool) (d : Dev) (q : List Instr), d.hostReady = true → d.on F.XDI_STATUS_host_present = false →
    d.on F.XDI_STATUS_bme = true → d.xdi.ctoAbsent = false → d.icu.l1Wait = [] → exec (.pcieLinkUp l) ⟨d, q⟩
    = .next ⟨((({ d with icu := { d.icu with linkL1 := l } }).setF F.XDI_STATUS_link_up).setF F.XDI_STATUS_host_present).incr
        F.XDI_STATUS_attach_count, q⟩)
  ∧ (∀ (d e : Dev) (q : List Instr), e = d.hostGone 5 → d.on F.XDI_STATUS_host_present = true → exec .busMasterDisable ⟨d, q⟩
    = .next ⟨(({ e with xdi := { e.xdi with ctoAbsent := false, ctoRun := 0 } }).clrF F.XDI_STATUS_bme).hostSync, q⟩)
  ∧ (∀ (d : Dev) (q : List Instr), d.hostReady = true → d.on F.XDI_STATUS_host_present = false →
    d.on F.XDI_STATUS_link_up = true → d.xdi.ctoAbsent = false → exec .busMasterEnable ⟨d, q⟩
    = .next ⟨((d.setF F.XDI_STATUS_bme).setF F.XDI_STATUS_host_present).incr F.XDI_STATUS_attach_count, q⟩)
  ∧ (∀ (d e : Dev) (q : List Instr), d.on F.XDI_STATUS_host_present = true → d.xdi.ctoRun = 2 →
    e = ({ d with xdi := { d.xdi with ctoRun := 3, cfg := { d.xdi.cfg with aerUncStatus := d.xdi.cfg.aerUncStatus ||| 2 ^ 14 } } }).hostGone 6 →
    exec .hostReadTimeout ⟨d, q⟩
    = .next ⟨({ e with xdi := { e.xdi with ctoAbsent := true, ctoRun := 0 } }).hostSync, q⟩)
  ∧ (∀ (d : Dev) (q : List Instr), d.on F.XDI_STATUS_host_present = true → d.xdi.ctoRun + 1 ≠ 3 → exec .hostReadTimeout ⟨d, q⟩
    = .next ⟨({ d with xdi := { d.xdi with ctoRun := d.xdi.ctoRun + 1, cfg := { d.xdi.cfg with
        aerUncStatus := d.xdi.cfg.aerUncStatus ||| 2 ^ 14 } } }).hostSync, q⟩)
  ∧ (∀ (l : Bool) (d : Dev) (q : List Instr), d.hostReady = false →
    exec (.pcieLinkUp l) ⟨d, q⟩ = .next ⟨d, q⟩ ∧ exec .busMasterEnable ⟨d, q⟩ = .next ⟨d, q⟩)
  ∧ (∀ (d e : Dev) (q : List Instr), e = d.setF F.XDI_STATUS_d3hot → exec .d3hotEnter ⟨d, q⟩
    = .next ⟨((List.range 64).filter e.active).foldl (fun (d : Dev) n => d.setF (F.XDI_RP_STAT_paused.at n)) e, q⟩)
  ∧ (∀ (d : Dev) (q : List Instr), (List.range 64).filter (d.clrF F.XDI_STATUS_d3hot).active = [] →
    d.on F.XDI_STATUS_bme = true → d.icu.msixEn = true → exec .d0Return ⟨d, q⟩
    = .next ⟨(d.clrF F.XDI_STATUS_d3hot).releaseHeld, q⟩)

/-- A host version write with no pair enabled negotiates. RING_CFG writing enable 1 to an inactive pair that meets the
conditions makes it active with empty rings and phase 1, and one that does not sets bad_cfg. Writing 0 to a disabled pair
only stores the fields. A disable with nothing started and nothing waiting ends the pair. A started descriptor not done 10
ms after the disable ends FLUSHED; where its engine still works on it, what that ends with later is dropped. An SQ doorbell
sets the tail or, on an inactive pair, counts as disabled; a CQ doorbell that moves the head acknowledges. A fetch on an
inactive pair does nothing, and on an empty one only ends the run of timeouts. A fenced descriptor with nothing before it
starts. A completion with the CQ full stalls it. NOP ends OK with no other effect, on an export ring after the descriptors
before it. (R47, R51, R52, R56, R59, R62, R55) -/
def Obligations.RingCommandsComplete : Prop :=
  (∀ (v : Word) (d : Dev) (q : List Instr), (∀ n ∈ List.range 64, d.on (F.XDI_RP_CFG_enable.at n) = false) →
    exec (.xdiHostVerWrite v) ⟨d, q⟩
      = .next ⟨(d.wr F.XDI_HOST_VER_version (bits v.toNat 0 16)).negotiateNow, q⟩)
  ∧ (∀ (n : Fin 64) (v : Word) (d e : Dev) (q : List Instr), (d.pair n.val).disabling = none →
    d.on (F.XDI_RP_CFG_enable.at n.val) = false → (d.storeCfg n.val v.toNat).enableOk n.val v.toNat = true → bits v.toNat 24 4 = 1 →
    e = (((((d.storeCfg n.val v.toNat).setF (F.XDI_RP_CFG_enable.at n.val)).setF (F.XDI_RP_STAT_active.at n.val)).wr
      (F.XDI_RP_SQ_HEAD_head.at n.val) 0).wr (F.XDI_RP_CQ_TAIL_tail.at n.val) 0).wr (F.XDI_RP_CQ_TAIL_phase.at n.val) 1 →
    exec (.ringCfgEnable n v) ⟨d, q⟩
      = .next ⟨((e.setPair n.val {}).flag (F.XDI_RP_STAT_paused.at n.val) ((e.setPair n.val {}).on F.XDI_STATUS_d3hot)).hostSync, q⟩)
  ∧ (∀ (n : Fin 64) (v : Word) (d : Dev) (q : List Instr), (d.pair n.val).disabling = none →
    d.on (F.XDI_RP_CFG_enable.at n.val) = false → (d.storeCfg n.val v.toNat).enableOk n.val v.toNat = false →
    exec (.ringCfgEnable n v) ⟨d, q⟩
      = .next ⟨((d.storeCfg n.val v.toNat).setF (F.XDI_RP_STAT_bad_cfg.at n.val)).hostSync, q⟩)
  ∧ (∀ (n : Fin 64) (v : Word) (d e : Dev) (q : List Instr), d.on (F.XDI_RP_CFG_enable.at n.val) = true →
    e = (d.wr (F.XDI_RP_CFG_vector.at n.val) (bits v.toNat 16 8)).clrF (F.XDI_RP_CFG_enable.at n.val) →
    (d.wr (F.XDI_RP_CFG_vector.at n.val) (bits v.toNat 16 8)).on (F.XDI_RP_CFG_enable.at n.val) = true →
    (d.pair n.val).fetched = [] → d.xdi.kRings = [] →
    exec (.ringCfgDisable n v) ⟨d, q⟩
      = .next ⟨(e.setPair n.val { e.pair n.val with fetched := [], disabling := some e.tick }).hostSync, q⟩)
  ∧ (∀ (n : Fin 64) (d : Dev) (q : List Instr), (d.pair n.val).disabling.isSome = true → (d.pair n.val).started = [] →
    (d.pair n.val).waiting = [] → exec (.ringDisableComplete n) ⟨d, q⟩
      = .next ⟨(((d.setPair n.val {}).clrF (F.XDI_RP_STAT_active.at n.val)).clrF (F.XDI_RP_STAT_paused.at n.val)).hostSync, q⟩)
  ∧ (∀ (n : Fin 64) (idx t : Nat) (f : Fetched) (d e : Dev) (q : List Instr), (d.pair n.val).disabling = some t →
    (d.pair n.val).started.find? (fun g => g.idx == idx) = some f → t + 10 * msNs ≤ d.tick →
    e = (d.setPair n.val { d.pair n.val with bufs := (d.pair n.val).bufs.filter (fun b => b.w != f.w) }).finish
          { via := .ring n, w := f.w, data := [] } { status := stFlushed } →
    exec (.descriptorFlushTimeout n idx) ⟨d, q⟩
      = .next ⟨(if (d.pair n.val).bufs.any (fun b => b.w == f.w) || f.ends.isSome then e
        else { e with xdi := { e.xdi with gone := e.xdi.gone ++ [(n.val, f.w)] } }), q⟩)
  ∧ (∀ (n : Fin 64) (v : Word) (d : Dev) (q : List Instr), d.active n.val = true → (d.pair n.val).disabling = none →
    bits v.toNat 0 16 < d.sqSize n.val →
    exec (.sqDoorbell n v) ⟨d, q⟩ = .next ⟨d.setPair n.val { d.pair n.val with sqTail := bits v.toNat 0 16 }, q⟩)
  ∧ (∀ (n : Fin 64) (v : Word) (d : Dev) (q : List Instr), (d.pair n.val).cqHead ≠ ((d.cqDoorbellBase n.val v.toNat).pair n.val).cqHead →
    exec (.cqDoorbell n v) ⟨d, q⟩ = .next ⟨((d.cqDoorbellBase n.val v.toNat).logAck n.val (d.pair n.val).cqHead
      ((d.cqDoorbellBase n.val v.toNat).pair n.val).cqHead).logDrain, q⟩)
  ∧ (∀ (n : Fin 64) (w : BitVec 512) (d : Dev) (q : List Instr), d.active n.val = true →
    d.on (F.XDI_RP_CFG_enable.at n.val) = true → d.hostReach = true → d.cqFull n.val = false → 0 < d.sqAvail n.val →
    ∃ e : Dev, exec (.descriptorFetch n [w]) ⟨d, q⟩ = .next ⟨e, q⟩
      ∧ ∃ e0 : Dev, e0 = ({ d with xdi := { d.xdi with ctoRun := 0 } }).wr (F.XDI_RP_SQ_HEAD_head.at n.val)
            ((d.rd (F.XDI_RP_SQ_HEAD_head.at n.val) + 1) % d.sqSize n.val)
        ∧ e = Dev.startReady ((d.pair n.val).fetched.length + 2) n (e0.setPair n.val { d.pair n.val with
            fetched := (d.pair n.val).fetched ++ [{ idx := d.rd (F.XDI_RP_SQ_HEAD_head.at n.val) % d.sqSize n.val, w := w }] }))
  ∧ (∀ (n : Fin 64) (f : Fetched) (d e : Dev) (q : List Instr), (d.pair n.val).fetched = [f] → (d.pair n.val).started = [] →
    (d.pair n.val).groupBad = false → wFence f.w = true → e = d.setPair n.val { d.pair n.val with groupBad := false } → e.refusedAs n.val f.w = none →
    exec (.fenceRelease n) ⟨d, q⟩ = .next ⟨Dev.startReady 1 n
      (e.setPair n.val { d.pair n.val with fetched := [], started := [f], groupBad := false }), q⟩)
  ∧ (∀ (n : Fin 64) (c : Cpl) (l : List Cpl) (base seq next ph : Nat) (d e : Dev) (q : List Instr),
    (d.pair n.val).waiting = c :: l → d.active n.val = true →
    d.hostReach = true → d.cqFull n.val = false → c.silent = false → c.data = [] → c.status = 0 →
    base = d.rd (F.XDI_RP_CQ_BASE_HI_base_hi.at n.val) * 2 ^ 32 + d.rd (F.XDI_RP_CQ_BASE_LO_base_lo.at n.val) * 4096 →
    seq = (if d.xdiVer == 0x0200 then c.seq else c.seq % 2 ^ 32) →
    next = (d.rd (F.XDI_RP_CQ_TAIL_tail.at n.val) + 1) % d.cqSize n.val →
    ph = (if next = 0 then 1 - d.rd (F.XDI_RP_CQ_TAIL_phase.at n.val) else d.rd (F.XDI_RP_CQ_TAIL_phase.at n.val)) →
    e = (d.emits []).emit (.hostWrite (base + 32 * d.rd (F.XDI_RP_CQ_TAIL_tail.at n.val)) (cplBytes seq c.result c.result2
      c.tag (d.rd (F.XDI_RP_SQ_HEAD_head.at n.val)) 0 c.info (4 * n.val + d.rd (F.XDI_RP_CQ_TAIL_phase.at n.val)))) →
    exec (.completionPost n) ⟨d, q⟩
      = .next ⟨(((e.wr (F.XDI_RP_CQ_TAIL_tail.at n.val) next).wr (F.XDI_RP_CQ_TAIL_phase.at n.val) ph).setPair n.val
          { d.pair n.val with waiting := l }).raiseIrq n.val c.irqNow, q⟩)
  ∧ (∀ (n : Fin 64) (w : BitVec 512) (l : List Byte) (d : Dev) (q : List Instr), d.ringType n.val ≠ 2 →
    exec (.nop ⟨.ring n, w, l⟩) ⟨d, q⟩ = .next ⟨d.okRes ⟨.ring n, w, l⟩, q⟩)
  ∧ (∀ (n : Fin 64) (w : BitVec 512) (l : List Byte) (f : Fetched) (p : Pair) (d : Dev) (q : List Instr), d.ringType n.val = 2 →
    (d.pair n.val).started = [f] → f.w = w → f.ends = none → p = { d.pair n.val with started := [{ f with ends := some 0 }] } →
    exec (.nop ⟨.ring n, w, l⟩) ⟨d, q⟩ = .next ⟨Dev.settleExp 1 n.val (d.setPair n.val p), q⟩)

/-- With no export ring enabled a write of EXP_CTRL of at most 16 sets K; EXP_BUF on a ring posts its buffer where the length is
legal, and ends BAD_FIELD in its turn where not. A committed record that stands in the staging ring or the archive and whose
ring has a buffer and a free completion entry is delivered. A batch block that is open closes OK_PARTIAL at its timeout. A
COMMIT value within the live position is stored and journaled. A legal chunk list grants host memory; revokes wait for the
last access and then complete with the grant gone. (R63, R65, R66, R67, R68, R71, R72) -/
def Obligations.ExportAndHostMemoryCommandsComplete : Prop :=
  (∀ (v : Word) (d : Dev) (q : List Instr), d.anyExp = false → bits v.toNat 0 5 ≤ 16 →
    exec (.xdiExpCtrlWrite v) ⟨d, q⟩ = .next ⟨d.wr F.XDI_EXP_CTRL_count (bits v.toNat 0 5), q⟩)
  ∧ (∀ (n : Fin 64) (w : BitVec 512) (l : List Byte) (d : Dev) (q : List Instr), wUnusedZero w [(8, 20)] = true →
    wLen w % (if d.on (F.XDI_RP_CFG_batch.at n.val) then 4096 else 64) = 0 →
    (if d.on (F.XDI_RP_CFG_batch.at n.val) then 4096 else 64) ≤ wLen w → wLen w ≤ 0x100000 →
    d.xdi.gone.contains (n.val, w) = false →
    exec (.expBuf { via := .ring n, w := w, data := l }) ⟨d, q⟩
      = .next ⟨d.setPair n.val { d.pair n.val with bufs := (d.pair n.val).bufs ++ [{ w := w }] }, q⟩)
  ∧ (∀ (n : Fin 64) (w : BitVec 512) (l : List Byte) (d : Dev) (q : List Instr), wUnusedZero w [(8, 20)] = false →
    exec (.expBuf { via := .ring n, w := w, data := l }) ⟨d, q⟩
      = .next ⟨d.endInTurn { via := .ring n, w := w, data := l } stBadField, q⟩)
  ∧ (∀ (n s : Nat) (l : List Byte) (p : Option Nat) (d e : Dev) (q : List Instr), d.expOpen = true → d.xdi.kRings = [n] →
    d.cqFull n = false → d.expScan (2 * (d.rd F.XDI_EXP_LIVE_LO_live + 1 - d.rd F.XDI_EXP_NEXT_LO_next) + 1)
      (d.rd F.XDI_EXP_NEXT_LO_next) [] none = .record n s l p → d.blockOpen n = false → (d.pair n).bufs ≠ [] →
    e = d.expPut n s (exportRecord l) → exec .exportRecordDeliver ⟨d, q⟩
      = .next ⟨({ e with xdi := { e.xdi with ahead := e.xdi.ahead ++ [s] } }).expAdvance, q⟩)
  ∧ (∀ (n : Fin 64) (d : Dev) (q : List Instr), d.on F.XDI_EXP_CTRL_started = true → n.val ∈ d.xdi.kRings →
    d.blockOpen n.val = true → exec (.batchTimeout n) ⟨d, q⟩ = .next ⟨d.blockClose n.val stOkPartial true false, q⟩)
  ∧ (∀ (v : BitVec 64) (d e : Dev) (q : List Instr), v.toNat ≤ d.rd F.XDI_EXP_LIVE_LO_live →
    d.rd F.XDI_EXP_COMMIT_LO_commit ≤ v.toNat → e = d.wr F.XDI_EXP_COMMIT_LO_commit v.toNat →
    exec (.xdiExpCommitWrite v) ⟨d, q⟩ = .next ⟨{ e with xdi := { e.xdi with commitDirty := true } }, q⟩)
  ∧ (∀ (d : Dev) (q : List Instr), d.xdi.commitDirty = true →
    exec .commitJournal ⟨d, q⟩ = .next ⟨{ d with
      xdi := { d.xdi with commitDirty := false },
      gav := { d.gav with jpend := d.gav.jpend ++ [JEnt.sysval 2 (d.rd F.XDI_EXP_COMMIT_LO_commit)] } }, q⟩)
  ∧ (∀ (b c : Desc) (u : Nat) (d0 d : Dev) (q : List Instr), (∀ k, d0.withData b k = k d c) → 0x0101 ≤ d.xdiVer → d.on F.XDI_HMB_STAT_active = false →
    wUnusedZero c.w [(8, 20)] = true → wReservedOk c.w = true → wLen c.w % 16 = 0 → 0 < wLen c.w → wLen c.w ≤ 65536 →
    c.data.length = wLen c.w → hmbOk c.data = true → u = ((hmbChunks c.data).map (fun e => e.2)).sum →
    exec (.hmbGrant b) ⟨d0, q⟩ = .next ⟨((({ d with xdi := { d.xdi with chunks := hmbChunks c.data } }).setF
      F.XDI_HMB_STAT_active).wr F.XDI_HMB_STAT_units u).okRes c u, q⟩)
  ∧ (∀ (c : Desc) (d : Dev) (q : List Instr), wUnusedZero c.w [] = true → wReservedOk c.w = true →
    d.on F.XDI_HMB_STAT_active = true →
    exec (.hmbRevoke c) ⟨d, q⟩ = .next ⟨{ d with xdi := { d.xdi with revoking := d.xdi.revoking ++ [c] } }, q⟩)
  ∧ (∀ (c : Desc) (d : Dev) (q : List Instr), d.xdi.revoking = [c] → exec .hmbRevokeDone ⟨d, q⟩
    = .next ⟨(((({ d with xdi := { d.xdi with revoking := [], chunks := [] } }).clrF F.XDI_HMB_STAT_active).wr
        F.XDI_HMB_STAT_units 0).okRes c).hostSync, q⟩)

/-- An edge of an assigned source shows in ICU_INPUT for its cycle and, where the source is enabled, pends it as an event; an
unassigned source changes nothing. An asserted enabled level source neither active nor pending pends as an event. A window
whose time has passed fires; that of a vector awaiting its acknowledgement is marked and waits. A target that may take a
source is offered the one the rules choose, a fast one entering the core's fast handler where it may; a retired core is
offered none. A claim of an offered source clears its pending bit, makes it active in its slot, answers valid, class and
number and gives the time since it was pended; with nothing to claim it answers 0. A completion of a source active at the
target frees its slot, and one of another source is stray. Enable and mask writes withdraw the offers and messages they end
and let pending sources fire. A pending write is a plain store that the same cycle's hardware changes win; those and a level
source's rise are events. (R80, R82, R84, R85, R86, R92, R81, R88, R89, R500) -/
def Obligations.InterruptDeliveryCommandsComplete : Prop :=
  (∀ (n : Fin 512) (d e : Dev) (q : List Instr), edgeAssigned n.val = true →
    e = { d with icu := { d.icu with pulse := mput (d.icu.pulse.filter (fun x => x.2 == d.clk)) n.val d.clk } } →
    exec (.icuEdgeEvent n) ⟨d, q⟩ = .next ⟨(if d.srcBit F.ICU_ENABLE_enable n.val then
      ((e.pendNote n.val).wrSrcBit F.ICU_PEND_pending n.val true).modEvent n.val false (e.leftOver (e.srcTarget n.val)) else e), q⟩)
  ∧ (∀ (n : Fin 512) (d : Dev) (q : List Instr), edgeAssigned n.val = false → exec (.icuEdgeEvent n) ⟨d, q⟩ = .next ⟨d, q⟩)
  ∧ (∀ (n : Fin 512) (d : Dev) (q : List Instr), isLevelSource n.val = true → d.srcBit F.ICU_ENABLE_enable n.val = true →
    d.levelIn n.val = true → mget? d.icu.active n.val = none → d.srcBit F.ICU_PEND_pending n.val = false →
    exec (.icuLevelAssert n) ⟨d, q⟩ = .next ⟨((d.pendNote n.val).wrSrcBit F.ICU_PEND_pending n.val true).modEvent n.val false
      (d.leftOver (d.srcTarget n.val)), q⟩)
  ∧ (∀ (t : Nat) (w : ModWin) (d : Dev) (q : List Instr), t < 16 → mget? d.icu.win t = some w → w.openAt + (d.modOf t).2 ≤ d.tick →
    exec (.modWindowTimeFire t) ⟨d, q⟩ = .next ⟨d.setWin t (some { w with fired := true }), q⟩)
  ∧ (∀ (v : Nat) (w : ModWin) (d e : Dev) (q : List Instr), mget? d.icu.win (v + 16) = some w →
    w.openAt + (d.modOf (v + 16)).2 ≤ d.tick → e = d.setWin (v + 16) (some { w with fired := true }) →
    exec (.modWindowTimeFire (v + 16)) ⟨d, q⟩ = .next ⟨(if d.on (F.ICU_HV_STAT_wait_ack.at v) then e else e.vecFire v), q⟩)
  ∧ (∀ (t : Fin 10) (x : CoreSeen) (n : Nat) (d e : Dev) (q : List Instr), (t.val < 8 → bit (d.rd F.PMU_CORE_retired) t.val = false) →
    e = (if t.val < 8 then (d.flag (F.ICU_T_STAT_wfi.at t.val) x.wfi).setCore t.val (fun c => c.see x)
      else d.flag (F.ICU_T_STAT_wfi.at t.val) x.wfi) →
    mget? e.icu.offer (slotKey t.val true) = none → e.choose t.val true = none →
    mget? e.icu.offer (slotKey t.val false) = none → e.choose t.val false = some n → exec (.icuOffer t x) ⟨d, q⟩
      = .next ⟨({ e with icu := { e.icu with offer := mput e.icu.offer (slotKey t.val false) n } }).winDrained t.val, q⟩)
  ∧ (∀ (t : Fin 10) (x : CoreSeen) (n : Nat) (d e : Dev) (q : List Instr), t.val < 8 → bit (d.rd F.PMU_CORE_retired) t.val = false →
    e = (d.flag (F.ICU_T_STAT_wfi.at t.val) x.wfi).setCore t.val (fun c => c.see x) →
    mget? e.icu.offer (slotKey t.val true) = none → e.choose t.val true = some n → exec (.icuOffer t x) ⟨d, q⟩
      = .next ⟨({ e with icu := { e.icu with offer := mput e.icu.offer (slotKey t.val true) n } }).setCore t.val
          (fun c => c.fastEntry n), q⟩)
  ∧ (∀ (t : Fin 10) (x : CoreSeen) (d : Dev) (q : List Instr), t.val < 8 → bit (d.rd F.PMU_CORE_retired) t.val = true →
    exec (.icuOffer t x) ⟨d, q⟩ = .next ⟨d, q⟩)
  ∧ (∀ (t : Fin 10) (m : BitVec 6) (fast : Bool) (n : Nat) (d e e1 e2 : Dev) (q : List Instr), d.claimable t.val = some (fast, n) →
    e = d.wrSrcBit F.ICU_PEND_pending n false →
    e1 = (({ e with icu := { e.icu with
      active := mput e.icu.active n (.target t.val)
      slot := mput e.icu.slot (slotKey t.val fast) n
      offer := mdel e.icu.offer (slotKey t.val fast)
      lastClaim := mput e.icu.lastClaim (slotKey t.val fast) n } }).showSlots t.val).winDrained t.val →
    e2 = (if !fast && t.val < 8 then e1.setCore t.val (fun c => { c with inNormal := true }) else e1) →
    exec (.icuClaim t m) ⟨d, q⟩ = .next ⟨(e2.emit (.readData m.toNat (0x22004 + 0x20 * t.val)
      (leBytes 4 (2 ^ 31 + b2n fast * 2 ^ 30 + n)) false)).sample 0x10 t.val (d.tick - mgetD d.icu.pendAt n d.tick), q⟩)
  ∧ (∀ (t : Fin 10) (m : BitVec 6) (d : Dev) (q : List Instr), d.claimable t.val = none → exec (.icuClaim t m) ⟨d, q⟩
      = .next ⟨d.emit (.readData m.toNat (0x22004 + 0x20 * t.val) (leBytes 4 0) false), q⟩)
  ∧ (∀ (t : Fin 10) (s : BitVec 9) (fast : Bool) (d e e1 : Dev) (q : List Instr), mget? d.icu.active s.toNat = some (.target t.val) →
    fast = (mget? d.icu.slot (slotKey t.val true) == some s.toNat) →
    e = ({ d with icu := { d.icu with
          active := mdel d.icu.active s.toNat
          slot := mdel d.icu.slot (slotKey t.val fast) } }).showSlots t.val →
    e1 = (if t.val < 8 then e.setCore t.val (fun c => if fast then c.fastReturn else { c with inNormal := false }) else e) →
    exec (.icuDone t s) ⟨d, q⟩ = .next ⟨(if isLevelSource s.toNat then (e1.applyHeldCfg s.toNat).sampleLevel s.toNat
      else e1.applyHeldCfg s.toNat).kickSource s.toNat, q⟩)
  ∧ (∀ (t : Fin 10) (s : BitVec 9) (d : Dev) (q : List Instr), mget? d.icu.active s.toNat ≠ some (.target t.val) →
    exec (.icuDone t s) ⟨d, q⟩ = .next ⟨d.stray s.toNat false, q⟩)
  ∧ (∀ (w : Fin 16) (v : Word) (d : Dev) (q : List Instr), exec (.icuEnableWrite w v) ⟨d, q⟩
    = .next ⟨((d.wr (F.ICU_ENABLE_enable.at w.val) v.toNat).withdraw
        (fun _ n => n / 32 == w.val && !bit v.toNat (n % 32))).withdrawMsgs.kickWord w.val, q⟩)
  ∧ (∀ (w : Fin 16) (v : Word) (d : Dev) (q : List Instr), exec (.icuMaskWrite w v) ⟨d, q⟩
    = .next ⟨((d.wr (F.ICU_MASK_mask.at w.val) v.toNat).withdraw
        (fun _ n => n / 32 == w.val && bit v.toNat (n % 32))).withdrawMsgs.kickWord w.val, q⟩)
  ∧ (∀ (w : Fin 16) (v a b : Word) (old new : Nat) (d e e1 : Dev) (q : List Instr), old = d.rd (F.ICU_PEND_pending.at w.val) →
    new = (v.toNat ||| a.toNat) - ((v.toNat ||| a.toNat) &&& (b.toNat - (b.toNat &&& a.toNat))) →
    e = (foldN 32 (fun k (d : Dev) => if bit new k then d.pendNote (32 * w.val + k) else d) d).wr (F.ICU_PEND_pending.at w.val) new →
    e1 = { e with icu := { e.icu with offer := e.icu.offer.filter (fun o => e.srcBit F.ICU_PEND_pending o.2) } } →
    exec (.icuPendWrite w v a b) ⟨d, q⟩
      = .next ⟨(foldN 32 (fun k (x : Dev) =>
          if (bit a.toNat k && !isLevelSource (32 * w.val + k)) || (isLevelSource (32 * w.val + k) && bit new k && !bit old k) then
            x.modEvent (32 * w.val + k) false (((List.range 10).filter d.leftOver).contains (x.srcTarget (32 * w.val + k)))
          else x) e1).kickWord w.val, q⟩)

/-- ICU_SRC_CMD with set pends one source as an event; with clear it clears its pending bit and drops its offer. A write of
ICU_SRCn_CFG of a source of a ring pair stores the class only; of an active source it is held until the source completes; of
another source it stores class, target and vector, withdraws a standing offer where the target changes, ignores the targets
0xB to 0xE, and lets the source fire at its new vector. A write of ICU_Tt_MODE while a source is active at the target sets
mode_rej; else it stores the class mode of a core, withdrawing the core's offers where the mode turns; a target that is no
core has none. Dropping the offer uncounted and withdrawing at a turn of the mode are the model's choices (log entry 57).
(R79, R82, R89, R90, R98) -/
def Obligations.SourceRoutingCommandsComplete : Prop :=
  (∀ (n : Fin 512) (d : Dev) (q : List Instr), exec (.icuSrcCmdSet n) ⟨d, q⟩
    = .next ⟨((d.pendNote n.val).wrSrcBit F.ICU_PEND_pending n.val true).modEvent n.val false (d.leftOver (d.srcTarget n.val)), q⟩)
  ∧ (∀ (n : Fin 512) (d e : Dev) (q : List Instr), e = d.wrSrcBit F.ICU_PEND_pending n.val false →
    exec (.icuSrcCmdClear n) ⟨d, q⟩
      = .next ⟨{ e with icu := { e.icu with offer := e.icu.offer.filter (fun o => o.2 != n.val) } }, q⟩)
  ∧ (∀ (n : Fin 512) (v : Word) (d : Dev) (q : List Instr), n.val < 64 →
    exec (.icuSrcCfgWrite n v) ⟨d, q⟩ = .next ⟨d.wr (F.ICU_SRC_CFG_fast.at n.val) (bits v.toNat 30 1), q⟩)
  ∧ (∀ (n : Fin 512) (v : Word) (a : ActAt) (d : Dev) (q : List Instr), 64 ≤ n.val → mget? d.icu.active n.val = some a →
    exec (.icuSrcCfgWrite n v) ⟨d, q⟩
      = .next ⟨{ d with icu := { d.icu with heldCfg := mput d.icu.heldCfg n.val v.toNat } }, q⟩)
  ∧ (∀ (n : Fin 512) (v : Word) (t : Nat) (d e : Dev) (q : List Instr), 64 ≤ n.val → mget? d.icu.active n.val = none →
    t = (if 0xB ≤ bits v.toNat 12 4 ∧ bits v.toNat 12 4 ≤ 0xE then d.rd (F.ICU_SRC_CFG_target.at n.val) else bits v.toNat 12 4) →
    e = (if t = d.rd (F.ICU_SRC_CFG_target.at n.val) then d else d.withdraw (fun _ k => k == n.val)) →
    exec (.icuSrcCfgWrite n v) ⟨d, q⟩
      = .next ⟨(((e.wr (F.ICU_SRC_CFG_fast.at n.val) (bits v.toNat 30 1)).wr (F.ICU_SRC_CFG_target.at n.val) t).wr
          (F.ICU_SRC_CFG_vector.at n.val) (bits v.toNat 0 8)).kickSource n.val, q⟩)
  ∧ (∀ (t : Fin 10) (v : Word) (d e : Dev) (q : List Instr), mget? d.icu.slot (slotKey t.val true) = none →
    mget? d.icu.slot (slotKey t.val false) = none →
    e = (if d.on (F.ICU_T_MODE_class_mode.at t.val) = bit v.toNat 0 then d else d.withdraw (fun k _ => k / 2 == t.val)) →
    exec (.icuModeWrite t v) ⟨d, q⟩
      = .next ⟨(if t.val < 8 then e.wr (F.ICU_T_MODE_class_mode.at t.val) (bits v.toNat 0 1) else d), q⟩)
  ∧ (∀ (t : Fin 10) (v : Word) (fast : Bool) (n : Nat) (d : Dev) (q : List Instr), mget? d.icu.slot (slotKey t.val fast) = some n →
    exec (.icuModeWrite t v) ⟨d, q⟩ = .next ⟨d.setF (F.ICU_T_STAT_mode_rej.at t.val), q⟩)

/-- ICU_HDONE of a vector that awaits its acknowledgement acknowledges it; of another it is a stray completion with source
0x1FF. Clearing an MSI-X mask stores Function Mask and MSI-X Enable and, outside D3hot, offers every held message to the
link again; in D3hot none is sent. In L0 again the messages that waited for the exit are sent. A PME message repeats while
PME_Status and the PME enable stand, and otherwise does not. After a re-attach, with MSI-X enabled, no Function Mask and the
link out of D3hot, each vector with work outstanding sends its message; where nothing is owed, or MSI-X is not enabled, none
is sent. (R94, R95, R96, R97) -/
def Obligations.HostVectorCommandsComplete : Prop :=
  (∀ (v : BitVec 8) (d : Dev) (q : List Instr), exec (.icuHdoneWrite v) ⟨d, q⟩
    = .next ⟨(if d.on (F.ICU_HV_STAT_wait_ack.at v.toNat) then d.vecAck v.toNat else d.stray 0x1FF true), q⟩)
  ∧ (∀ (v : Option (Fin 256)) (fm en : Bool) (d e : Dev) (q : List Instr),
    e = (match v with
      | some k => d.clrF (F.XDI_MSIX_VCTL_mask.at k.val)
      | none => d) →
    e.on F.XDI_STATUS_d3hot = false →
    exec (.msixVectorUnmask v fm en) ⟨d, q⟩
      = .next ⟨(e.icu.heldMsg.map (fun x => x.1)).foldl (fun (d : Dev) k =>
          ({ d with icu := { d.icu with heldMsg := mdel d.icu.heldMsg k } }).msixDue k)
          { e with icu := { e.icu with fnMask := fm, msixEn := en } }, q⟩)
  ∧ (∀ (v : Option (Fin 256)) (fm en : Bool) (d e : Dev) (q : List Instr),
    e = (match v with
      | some k => d.clrF (F.XDI_MSIX_VCTL_mask.at k.val)
      | none => d) →
    e.on F.XDI_STATUS_d3hot = true →
    exec (.msixVectorUnmask v fm en) ⟨d, q⟩ = .next ⟨{ e with icu := { e.icu with fnMask := fm, msixEn := en } }, q⟩)
  ∧ (∀ (d : Dev) (q : List Instr), exec .l1ExitDone ⟨d, q⟩
    = .next ⟨(d.icu.l1Wait.map (fun e => e.1)).foldl (fun (d : Dev) v => d.msixDue v)
        { d with icu := { d.icu with linkL1 := false, l1Wait := [] } }, q⟩)
  ∧ (∀ (d : Dev) (q : List Instr), exec .pmeRepeat ⟨d, q⟩
    = .next ⟨(if d.icu.pmeStatus && d.icu.pmeEn then d.emit .pme else d), q⟩)
  ∧ (∀ (d : Dev) (q : List Instr), d.icu.owing = true → d.on F.XDI_STATUS_host_present = true → d.on F.XDI_STATUS_d3hot = false →
    d.icu.msixEn = true → d.icu.fnMask = false → exec .hostReattachMessages ⟨d, q⟩
      = .next ⟨d.busyVectors.foldl (fun (x : Dev) v => (((x.deliverableVec v).foldl (fun (y : Dev) n =>
          ({ y with icu := { y.icu with active := mput y.icu.active n (.vector v) } }).wrSrcBit F.ICU_PEND_pending n false)
            (x.setWin (16 + v) none)).setF (F.ICU_HV_STAT_wait_ack.at v)).msixDue v)
          { d with icu := { d.icu with heldMsg := [], owing := false } }, q⟩)
  ∧ (∀ (d : Dev) (q : List Instr), d.icu.owing = false ∨ d.on F.XDI_STATUS_host_present = false ∨ d.on F.XDI_STATUS_d3hot = true
      ∨ d.icu.msixEn = false ∨ d.icu.fnMask = true → exec .hostReattachMessages ⟨d, q⟩ = .next ⟨d, q⟩)

/-- With the table enabled and ready, the mode one that serves changes, nothing waiting and the fields legal: LOOKUP answers
index, state and EUI-64; READ writes the record's image; WRITE merges the masked bytes where rec_gen is the expected one;
ADMIT of an unknown EUI-64 takes the head of the free list into Commissioning; RELEASE, RETIRE and FREE make their
transitions; MOVE changes the attachments with reason 0xD; SCAN lists nothing where nothing matches; PIN with 0 unpins a
record, and with 1 pins one while the table's and its set's pin limits allow. (R99, R104, R106, R119, R545) -/
def Obligations.MeterCommandsComplete : Prop :=
  (∀ (c : Desc) (i r : Nat) (d e : Dev) (q : List Instr), wArg c.w 32 1 = 0 → wUnusedZero c.w [(24, 33)] = true →
    wReservedOk c.w = true → d.on F.MSR_CTRL_enable = true → d.on F.MSR_STATUS_ready = true → d.idtFind (wArg c.w 24 8) = some i →
    d.msrGet i = (e, some r) → rg r R.state ≠ stFree →
    exec (.mtrLookup c) ⟨d, q⟩ = .next ⟨e.okRes c (i + rg r R.state * 2 ^ 20) (rg r R.eui), q⟩)
  ∧ (∀ (c : Desc) (r : Nat) (d e : Dev) (q : List Instr), wUnusedZero c.w [(8, 20), (24, 28)] = true → wReservedOk c.w = true →
    256 ≤ wLen c.w → argIndex c.w < msrSize → d.on F.MSR_CTRL_enable = true → d.on F.MSR_STATUS_ready = true →
    d.msrGet (argIndex c.w) = (e, some r) → rg r R.state ≠ stFree → exec (.mtrRead c) ⟨d, q⟩
      = .next ⟨e.finish c { status := 0, result := rg r R.recGen, data := [(wAddr c.w, leBytes 256 r)] }, q⟩)
  ∧ (∀ (b c : Desc) (r : Nat) (d0 d e f : Dev) (q : List Instr), (∀ k, d0.withData b k = k d c) → wUnusedZero c.w [(8, 20), (24, 64)] = true → wReservedOk c.w = true →
    wLen c.w = 256 → argIndex c.w < msrSize → d.on F.MSR_CTRL_enable = true → d.on F.MSR_STATUS_ready = true → d.mode = .run →
    d.msr.queue = [] → d.msrGet (argIndex c.w) = (e, some r) → maskLocked (wArg c.w 32 32) = false → rg r R.state ≠ stFree →
    wArg c.w 28 4 = rg r R.recGen → c.data.length = 256 →
    f = e.msrPut (argIndex c.w) (maskMerge r (leNat c.data) (wArg c.w 32 32)) →
    exec (.mtrWrite b) ⟨d0, q⟩ = .next ⟨(f.okRes c (rg (f.msrPeek (argIndex c.w)) R.recGen)).mzkPromote, q⟩)
  ∧ (∀ (c : Desc) (i r : Nat) (d e f g : Dev) (q : List Instr), wUnusedZero c.w [(4, 8), (24, 39), (40, 56)] = true →
    wReservedOk c.w = true → wArg c.w 32 4 = 2 ^ 31 → wArg c.w 38 1 ≤ 3 → attachOk (wArg c.w 40 8) = true →
    attachOk (wArg c.w 48 8) = true → d.on F.MSR_CTRL_enable = true → d.on F.MSR_STATUS_ready = true → d.mode = .run →
    d.msr.queue = [] → d.idtFind (wArg c.w 24 8) = none → d.msr.freeHead = some i → d.msrGet i = (e, some r) →
    rg r R.state = stFree → e.attRoom i (wArg c.w 40 8) = true → e.commRoom = true → e.stgBlock 1 0 = none →
    e.idtInsert (wArg c.w 24 8) i = (f, true) → g = { f with msr := f.msr.freeTake i } →
    exec (.mtrAdmit c) ⟨d, q⟩ = .next ⟨((g.stateChange i (admitRec r i (wArg c.w 24 8) (wHandle c.w) (wArg c.w 36 2)
      (wArg c.w 38 1 % 2) (wArg c.w 38 1 / 2) (wArg c.w 40 8) (wArg c.w 48 8) g.dwnNow) stCommissioning 1 stFree).okRes c
        i).mzkPromote, q⟩)
  ∧ (∀ (c : Desc) (r : Nat) (d e : Dev) (q : List Instr), wUnusedZero c.w [(24, 28)] = true → wReservedOk c.w = true →
    argIndex c.w < msrSize → d.on F.MSR_CTRL_enable = true → d.on F.MSR_STATUS_ready = true → d.mode = .run →
    d.msr.queue = [] → d.msrGet (argIndex c.w) = (e, some r) → rg r R.state = stQuarantined → e.stgBlock 1 0 = none →
    exec (.mtrRelease c) ⟨d, q⟩
      = .next ⟨(e.stateChange (argIndex c.w) (rs r R.ruleFail 0) stActive 8 stQuarantined).okRes c, q⟩)
  ∧ (∀ (c : Desc) (r : Nat) (d e : Dev) (q : List Instr), wUnusedZero c.w [(24, 28)] = true → wReservedOk c.w = true →
    argIndex c.w < msrSize → d.on F.MSR_CTRL_enable = true → d.on F.MSR_STATUS_ready = true → d.mode = .run →
    d.msr.queue = [] → d.msrGet (argIndex c.w) = (e, some r) → rg r R.state ≤ 5 → e.stgBlock 1 0 = none →
    exec (.mtrRetire c) ⟨d, q⟩ = .next ⟨((e.stateChange (argIndex c.w) r stRetired 9 (rg r R.state)).okRes c).campPurge, q⟩)
  ∧ (∀ (c : Desc) (r : Nat) (d e f : Dev) (q : List Instr), wUnusedZero c.w [(24, 28)] = true → wReservedOk c.w = true →
    argIndex c.w < msrSize → d.msrCorrupt (argIndex c.w) = false → d.on F.MSR_CTRL_enable = true →
    d.on F.MSR_STATUS_ready = true → d.mode = .run → d.msr.queue = [] → d.msrGet (argIndex c.w) = (e, some r) →
    rg r R.state = stRetired → e.stgBlock 1 0 = none →
    f = (e.stateChange (argIndex c.w) r stFree 0 stRetired).idtRemove (rg r R.eui) →
    exec (.mtrFree c) ⟨d, q⟩ = .next ⟨(({ f with msr := f.msr.freePut (argIndex c.w) }).okRes c).campPurge, q⟩)
  ∧ (∀ (c : Desc) (r : Nat) (d e : Dev) (q : List Instr), wUnusedZero c.w [(24, 28), (32, 48)] = true → wReservedOk c.w = true →
    argIndex c.w < msrSize → attachOk (wArg c.w 32 8) = true → attachOk (wArg c.w 40 8) = true →
    d.on F.MSR_CTRL_enable = true → d.on F.MSR_STATUS_ready = true → d.mode = .run → d.msr.queue = [] →
    d.msrGet (argIndex c.w) = (e, some r) → rg r R.state ≠ stFree → e.attRoom (argIndex c.w) (wArg c.w 32 8) = true →
    e.stgBlock 1 0 = none → exec (.mtrMove c) ⟨d, q⟩ = .next ⟨(e.stateChange (argIndex c.w)
      (rs (rs r R.attach (wArg c.w 32 8)) R.attachAlt (wArg c.w 40 8)) (rg r R.state) 0xD (rg r R.state)).okRes c, q⟩)
  ∧ (∀ (c : Desc) (d : Dev) (q : List Instr), wUnusedZero c.w [(8, 20), (24, 33)] = true → wReservedOk c.w = true →
    argIndex c.w < msrSize → wLen c.w % 256 = 0 → d.on F.MSR_CTRL_enable = true → d.on F.MSR_STATUS_ready = true →
    bit (wArg c.w 32 1) 7 = false → d.msrRecs = [] → exec (.mtrScan c) ⟨d, q⟩ = .next ⟨d.finish c
      { status := 0, result := 0, result2 := min msrSize (argIndex c.w + wArg c.w 28 4), data := [] }, q⟩)
  ∧ (∀ (c : Desc) (r : Nat) (d e : Dev) (q : List Instr), wUnusedZero c.w [(24, 29)] = true → wReservedOk c.w = true →
    argIndex c.w < msrSize → wArg c.w 28 1 = 0 → d.on F.MSR_CTRL_enable = true → d.on F.MSR_STATUS_ready = true →
    d.mode = .run → d.msr.queue = [] → d.msrGet (argIndex c.w) = (e, some r) → rg r R.state ≠ stFree →
    exec (.mtrPin c) ⟨d, q⟩ = .next ⟨(e.msrPut (argIndex c.w) (rs r R.pinned 0)).okRes c, q⟩)
  ∧ (∀ (c : Desc) (r : Nat) (d e : Dev) (q : List Instr), wUnusedZero c.w [(24, 29)] = true → wReservedOk c.w = true →
    argIndex c.w < msrSize → wArg c.w 28 1 = 1 → d.on F.MSR_CTRL_enable = true → d.on F.MSR_STATUS_ready = true →
    d.mode = .run → d.msr.queue = [] → d.msrGet (argIndex c.w) = (e, some r) → rg r R.state ≠ stFree →
    e.rd F.MSR_CACHE_CTRL_pinned < 4096 → e.pinsOf (argIndex c.w) < 8 →
    exec (.mtrPin c) ⟨d, q⟩ = .next ⟨(e.msrPut (argIndex c.w) (rs r R.pinned 1)).okRes c, q⟩)

/-- MSR_REC_SEL loads a snapshot of the record. A commit of a snapshot whose rec_gen is unchanged merges it back; of a stale one
it only marks stale; where a change of the record waits, the commit waits in turn. The sweep tries the Adrift timeout of an
Active record. Checkpoints start at the period and on request, and their end stores the copy and its sequence, or sets
ckpt_fail. A rebuild with both copies bad ends in rebuild_fail with the block disabled. clean_all writes the dirty lines
back. Enable written 1 with both areas in DRAM makes the table ready where DRAM holds it and starts a rebuild where not, and
with an area outside it sets area_bad; a write with enable 0 only stores. (R99, R108, R111, R117, R118) -/
def Obligations.MeterTableCommandsComplete : Prop :=
  (∀ (v : Word) (d : Dev) (q : List Instr), exec (.msrRecSelWrite v) ⟨d, q⟩
    = .next ⟨foldN 64 (fun k (d' : Dev) => d'.wr (F.MSR_REC_DATA_w.at k) (byts (d.msrPeek (bits v.toNat 0 20)) (4 * k) 4))
        ((d.wr F.MSR_REC_SEL_index (bits v.toNat 0 20)).setF F.MSR_REC_SEL_loaded), q⟩)
  ∧ (∀ (v : Word) (i : Nat) (d e f : Dev) (q : List Instr),
    e = (if bit v.toNat 30 then (d.wr F.MSR_REC_CTRL_force (bits v.toNat 0 1)).clrF F.MSR_REC_CTRL_stale
      else d.wr F.MSR_REC_CTRL_force (bits v.toNat 0 1)) → i = e.rd F.MSR_REC_SEL_index → e.on F.MSR_REC_SEL_loaded = true →
    e.on F.MSR_REC_CTRL_commit = false → e.queuedOn i = false → f = e.clrF F.MSR_REC_CTRL_commit → f.msrCorrupt i = false →
    exec (.msrRecCommit v) ⟨d, q⟩
      = .next ⟨(if rg (e.msrPeek i) R.recGen = rg e.recSnap R.recGen ∨ e.on F.MSR_REC_CTRL_force = true then
          f.msrPut i (maskMerge (e.msrPeek i) e.recSnap (2 ^ 0xF0 - 2 ^ 11)) else f.setF F.MSR_REC_CTRL_stale), q⟩)
  ∧ (∀ (v : Word) (i : Nat) (d e : Dev) (q : List Instr),
    e = (if bit v.toNat 30 then (d.wr F.MSR_REC_CTRL_force (bits v.toNat 0 1)).clrF F.MSR_REC_CTRL_stale
      else d.wr F.MSR_REC_CTRL_force (bits v.toNat 0 1)) → i = e.rd F.MSR_REC_SEL_index → e.on F.MSR_REC_SEL_loaded = true →
    e.on F.MSR_REC_CTRL_commit = false → e.queuedOn i = true → exec (.msrRecCommit v) ⟨d, q⟩
      = .next ⟨(e.setF F.MSR_REC_CTRL_commit).enqueue (.window i e.recSnap (e.on F.MSR_REC_CTRL_force)), q⟩)
  ∧ (∀ (i : BitVec 20) (d : Dev) (q : List Instr), d.on F.MSR_CTRL_enable = true → d.on F.MSR_STATUS_ready = true →
    d.on F.MSR_CTRL_sweep_en = true → d.mode = .run → rg (d.msrPeek i.toNat) R.state = stActive →
    exec (.sweepVisit i) ⟨d, q⟩ = .next ⟨d.tryChange i.toNat stAdrift 4, q⟩)
  ∧ (∀ (d : Dev) (q : List Instr), d.rd F.MSR_CKPT_period ≠ 0 → d.on F.MSR_STATUS_ready = true → d.msr.writing = none →
    exec .msrCheckpointPeriod ⟨d, q⟩ = .next ⟨({ d with msr := { d.msr with
      writing := some { seq := d.rd F.XDI_EXP_LIVE_LO_live, recs := d.msrRecs } } }).setF F.MSR_STATUS_ckpt_busy, q⟩)
  ∧ (∀ (d : Dev) (q : List Instr), d.on F.MSR_STATUS_ready = true → d.msr.writing = none →
    exec .msrCkptNow ⟨d, q⟩ = .next ⟨(({ d with msr := { d.msr with
      writing := some { seq := d.rd F.XDI_EXP_LIVE_LO_live, recs := d.msrRecs } } }).setF
        F.MSR_STATUS_ckpt_busy).setF F.MSR_CKPT_ckpt_now, q⟩)
  ∧ (∀ (k : Ckpt) (d e : Dev) (q : List Instr), d.msr.writing = some k →
    e = (d.clrF F.MSR_STATUS_ckpt_busy).clrF F.MSR_CKPT_ckpt_now →
    exec (.msrCheckpointDone true) ⟨d, q⟩ = .next ⟨({ e with
      msr := { e.msr with writing := none, copies := mput e.msr.copies (1 - e.msr.newer) k, newer := 1 - e.msr.newer }
      gav := { e.gav with jpend := e.gav.jpend ++ [JEnt.sysval 4 (k.seq + (1 - e.msr.newer) * 2 ^ 64)] } }).wr
        F.MSR_CKPT_SEQ_LO_ckpt_seq k.seq, q⟩)
  ∧ (∀ (k : Ckpt) (d e : Dev) (q : List Instr), d.msr.writing = some k →
    e = (d.clrF F.MSR_STATUS_ckpt_busy).clrF F.MSR_CKPT_ckpt_now → exec (.msrCheckpointDone false) ⟨d, q⟩
      = .next ⟨(({ e with msr := { e.msr with writing := none } }).setF F.MSR_ERR_ckpt_fail).raise 215, q⟩)
  ∧ (∀ (d : Dev) (q : List Instr), d.on F.MSR_STATUS_rebuilding = true → exec (.msrRebuildDone false false) ⟨d, q⟩
    = .next ⟨(((d.clrF F.MSR_STATUS_rebuilding).setF F.MSR_STATUS_rebuild_fail).clrF F.MSR_CTRL_enable).enginesReady, q⟩)
  ∧ (∀ (d : Dev) (q : List Instr),
    exec .msrCleanAll ⟨d, q⟩ = .next ⟨d.msrClean.clrF F.MSR_CACHE_CTRL_clean_all, q⟩)
  ∧ (∀ (v : Word) (d e f : Dev) (q : List Instr), d.on F.MSR_CTRL_enable = false → bit v.toNat 31 = true →
    e = d.regWrite32 0x40000 v.toNat → e.inDram e.msrBase 0x10000000 = true → e.inDram e.idtBase 0x2000000 = true →
    f = e.commitRwl 0x40000 → exec (.msrEnable v) ⟨d, q⟩
      = .next ⟨(if f.msr.tableAt = some f.msrBase then (f.setF F.MSR_STATUS_ready).msrPinned.msrRecount
          else (f.clrF F.MSR_STATUS_ready).setF F.MSR_STATUS_rebuilding).enginesReady.wlzRunCheck, q⟩)
  ∧ (∀ (v : Word) (d e : Dev) (q : List Instr), d.on F.MSR_CTRL_enable = false → bit v.toNat 31 = true →
    e = d.regWrite32 0x40000 v.toNat → (e.inDram e.msrBase 0x10000000 && e.inDram e.idtBase 0x2000000) = false →
    exec (.msrEnable v) ⟨d, q⟩ = .next ⟨((e.clrF F.MSR_CTRL_enable).setF F.MSR_ERR_area_bad).enginesReady.wlzRunCheck, q⟩)
  ∧ (∀ (v : Word) (d : Dev) (q : List Instr), d.on F.MSR_CTRL_enable = true ∨ bit v.toNat 31 = false →
    exec (.msrEnable v) ⟨d, q⟩ = .next ⟨(d.regWrite32 0x40000 v.toNat).enginesReady.wlzRunCheck, q⟩)

/-- A lane that may run takes its oldest frame not yet begun and runs it, and a frame that waited at the replay check is judged
again once it is free. A write of a ring head stores it and lets lanes that wait for room post again; with no lane waiting
and no disable pending it only stores. A frame that commits counts as committed and posts its entries, its index committed
by the commit unit. A mark that becomes durable raises the durable mark; a stall on a full ring ends when slots are free.
storm_req clears after the hold. A key whose old lane holds none of its frames moves, and from a retired lane takes its
buffered frames along. (R134, R135, R136, R144, R146, R147, R152, R154) -/
def Obligations.IngestCommandsComplete : Prop :=
  (∀ (l : Fin 16) (w : Work) (d : Dev) (q : List Instr), d.laneReady l.val = true →
    (d.lane l.val).work = [w] → w.stage = .keyWait →
    exec (.laneFrame l) ⟨d, q⟩ = .next ⟨d.laneRun l.val w.item, q⟩)
  ∧ (∀ (l : Fin 16) (item : List Byte) (t : List (List Byte)) (d : Dev) (q : List Instr), d.laneReady l.val = true →
    (d.lane l.val).work = [] → (d.fifo (laneFq l.val)).items = item :: t →
    exec (.laneFrame l) ⟨d, q⟩ = .next ⟨d.laneRun l.val item, q⟩)
  ∧ (∀ (l : Fin 16) (item plain : List Byte) (i h : Nat) (d : Dev) (q : List Instr), d.reel.started = true →
    (d.lane l.val).work = [{ item := item, index := some i, stage := .replayWait plain h }] →
    exec (.laneReplayWaitEnd l) ⟨d, q⟩ = .next ⟨d.laneJudge l.val item plain i h, q⟩)
  ∧ (∀ (e : Fin 8) (v : Word) (d f : Dev) (q : List Instr), f = d.wr (F.REEL_EXQ_HEAD_head.at e.val) (bits v.toNat 0 14) →
    (∀ l, (f.lane l).work = []) → f.reel.exqOff = [] → exec (.reelExqHeadWrite e v) ⟨d, q⟩ = .next ⟨f, q⟩)
  ∧ (∀ (e : Fin 8) (v : Word) (d : Dev) (q : List Instr), exec (.reelExqHeadWrite e v) ⟨d, q⟩
    = .next ⟨(d.wr (F.REEL_EXQ_HEAD_head.at e.val) (bits v.toNat 0 14)).exqRetry, q⟩)
  ∧ (∀ (l : Fin 16) (item : List Byte) (i : Option Nat) (p : Packet) (s : Nat) (d e : Dev) (q : List Instr),
    (d.lane l.val).work = [{ item := item, index := i, stage := .packet p }] → d.commitTry p = (e, .done s) →
    (e.commitEntries p s (rg (d.msrPeek p.index) R.rekeyDue == 0 && rg (e.msrPeek p.index) R.rekeyDue == 1)) = ([], 0) →
    exec (.commitPacket l) ⟨d, q⟩ = .next ⟨(((e.bump (F.REEL_LANE_OK_committed.at l.val)).bump
      (F.REEL_LANE_REFUSED_refused.at l.val) 0).laneRelease l.val item).mzkPromote, q⟩)
  ∧ (∀ (m : Nat) (d e : Dev) (q : List Instr), m = d.cu.resReq → ¬ m ≤ d.rd F.REEL_SEQ_RES_LO_seq_res → d.val.reseq = none →
    e = ({ d with gav := { d.gav with
      sysval := mput d.gav.sysval 1 m
      jpend := d.gav.jpend.filter (fun j => j != JEnt.sysval 1 m) } }).wr F.REEL_SEQ_RES_LO_seq_res m →
    e.on F.REEL_STATUS_res_wait = false → exec .reservationDurable ⟨d, q⟩ = .next ⟨e.campPurge.mzkPromote, q⟩)
  ∧ (∀ (d : Dev) (q : List Instr), d.on F.REEL_STATUS_stg_full = true → d.stgBlock 1 0 = none →
    exec .commitStallRelease ⟨d, q⟩ = .next ⟨d.commitGoOn.campPurge.mzkPromote, q⟩)
  ∧ (∀ (d e : Dev) (q : List Instr), d.on F.REEL_STATUS_storm_req = true → d.rd F.REEL_CTRL_storm_hold = 60 →
    d.reel.fell + 60 * sNs ≤ d.tick → d.reel.restored = [] →
    e = { d with reel := { d.reel with restored := [] } } →
    exec .stormReqClear ⟨d, q⟩ = .next ⟨(e.wr F.REEL_RESTORE_CNT_count 0).stormReqShow false, q⟩)
  ∧ (∀ (w : Fin 8) (v : Word) (d : Dev) (q : List Instr),
    exec (.reelSteerWrite w v) ⟨d, q⟩ = .next ⟨(d.regWrite32 (0x50080 + 4 * w.val) v.toNat).resteer d.laneMap, q⟩)
  ∧ (∀ (k : Fin 64) (old : Nat) (d e : Dev) (q : List Instr), mget? d.reel.moving k.val = some old → d.laneHolds old k.val = false →
    e = { d with reel := { d.reel with moving := mdel d.reel.moving k.val } } →
    exec (.steerHandover k) ⟨d, q⟩ = .next ⟨(if e.laneRetired old then e.laneMove old (fun j => j == k.val) else e), q⟩)

/-- A transient fault is counted, raises its source, is logged, and retires the lane at the threshold. A permanent fault, a hang
and a failed test retire it with their causes; a passed test ends. Reel enabled with its staging ring in DRAM commits its
settings and recovers; a write with enable 0 only stores; it runs where all conditions hold. VAL enabled without a conflict
commits its settings, and with one sets unit_conflict and stores nothing. A good image loads the inactive bank; a swap waits
for the old chains and completes when they end. An injection whose checks hold commits and answers its sequence. VAL_PATH
answers a filter entry. (R146, R156, R158, R160, R164, R171, R176, R179, R180) -/
def Obligations.LaneAndRuleCommandsComplete : Prop :=
  (∀ (l : Fin 16) (d e f : Dev) (q : List Instr), (d.lane l.val).faults = [] →
    e = (d.setLane l.val { d.lane l.val with faults := [d.tick] }).wr (F.REEL_LANE_STAT_transients.at l.val) 1 →
    f = ((e.bump (F.REEL_LANE_ERR_transient_total.at l.val)).raise (129 + 4 * l.val)).trouble (0x10 + l.val) 1 4 0 l.val 1 →
    f.rd F.REEL_ERR_CFG_retire_thr = 0 → exec (.laneTransientFault l) ⟨d, q⟩ = .next ⟨f, q⟩)
  ∧ (∀ (l : Fin 16) (d : Dev) (q : List Instr), exec (.lanePermanentFault l .state) ⟨d, q⟩
    = .next ⟨(d.raise (129 + 4 * l.val)).laneRetire l.val 2, q⟩)
  ∧ (∀ (l : Fin 16) (d : Dev) (q : List Instr), exec (.laneHang l) ⟨d, q⟩
    = .next ⟨(d.raise (129 + 4 * l.val)).laneRetire l.val 4, q⟩)
  ∧ (∀ (l : Fin 16) (d : Dev) (q : List Instr), exec (.laneKatNow l) ⟨d, q⟩
    = .next ⟨((d.setF (F.REEL_LANE_CTRL_kat_now.at l.val)).setF (F.REEL_LANE_STAT_testing.at l.val)).resteer d.laneMap, q⟩)
  ∧ (∀ (l : Fin 16) (d e : Dev) (q : List Instr),
    e = ((d.clrF (F.REEL_LANE_CTRL_kat_now.at l.val)).clrF (F.REEL_LANE_STAT_testing.at l.val)).resteer d.laneMap →
    exec (.laneKatDone l true) ⟨d, q⟩ = .next ⟨e, q⟩
      ∧ exec (.laneKatDone l false) ⟨d, q⟩ = .next ⟨(e.raise (129 + 4 * l.val)).laneRetire l.val 5, q⟩)
  ∧ (∀ (v : Word) (d e : Dev) (q : List Instr), d.on F.REEL_CTRL_enable = false → bit v.toNat 31 = true →
    e = (d.regWrite32 0x50000 v.toNat).resteer d.laneMap →
    e.inDram e.stgBase (e.rd F.REEL_STG_SIZE_size_gib * 0x40000000) = true →
    exec (.reelEnable v) ⟨d, q⟩ = .next ⟨((e.commitRwl 0x50000).commitRecover).reelRunningCheck, q⟩)
  ∧ (∀ (v : Word) (d : Dev) (q : List Instr), d.on F.REEL_CTRL_enable = true ∨ bit v.toNat 31 = false →
    exec (.reelEnable v) ⟨d, q⟩ = .next ⟨((d.regWrite32 0x50000 v.toNat).resteer d.laneMap).reelRunningCheck, q⟩)
  ∧ (∀ (d : Dev) (q : List Instr), d.reelMayRun = true → exec .reelRunningStart ⟨d, q⟩
    = .next ⟨({ d with reel := { d.reel with started := true } }).setF F.REEL_STATUS_running, q⟩)
  ∧ (∀ (v : Word) (d : Dev) (q : List Instr), d.on F.VAL_CTRL_enable = false → bit v.toNat 31 = true →
    mget? d.gav.sysval 1 = none → exec (.valEnable v) ⟨d, q⟩
      = .next ⟨((d.regWrite32 0x60000 v.toNat).commitRwl 0x60000).reelRunningCheck, q⟩)
  ∧ (∀ (v : Word) (m : Nat) (d : Dev) (q : List Instr), d.on F.VAL_CTRL_enable = false → bit v.toNat 31 = true →
    mget? d.gav.sysval 1 = some m → bits m 63 1 ≠ d.rd F.VAL_PAIR_unit → exec (.valEnable v) ⟨d, q⟩
      = .next ⟨((d.setF F.VAL_STATUS_unit_conflict).raise 196).reelRunningCheck, q⟩)
  ∧ (∀ (v : Word) (d : Dev) (q : List Instr), d.on F.VAL_CTRL_enable = true ∨ bit v.toNat 31 = false →
    exec (.valEnable v) ⟨d, q⟩ = .next ⟨(d.regWrite32 0x60000 v.toNat).reelRunningCheck, q⟩)
  ∧ (∀ (b c : Desc) (d0 d : Dev) (q : List Instr), (∀ k, d0.withData b k = k d c) → wUnusedZero c.w [(8, 20), (24, 25)] = true → wReservedOk c.w = true →
    wArg c.w 24 1 = 0 → d.mode = .run → d.on F.VAL_STATUS_swapping = false → c.data.length = wLen c.w → bankOk c.data = true →
    exec (.valLoad b) ⟨d0, q⟩ = .next ⟨({ d with val := { d.val with
      banks := mput d.val.banks (1 - d.bankNo) (.image (leNat c.data) (leAt c.data 4 4)) } }).okRes c (leAt c.data 4 4), q⟩)
  ∧ (∀ (c : Desc) (b : Bank) (d e : Dev) (q : List Instr), wUnusedZero c.w [] = true → wReservedOk c.w = true → d.mode = .run →
    d.on F.VAL_STATUS_swapping = false → mget? d.val.banks (1 - d.bankNo) = some b →
    e = (d.wr F.VAL_CTRL_bank (1 - d.bankNo)).setF F.VAL_STATUS_swapping →
    exec (.valSwap c) ⟨d, q⟩ = .next ⟨{ e with val := { e.val with swap := some c } }, q⟩)
  ∧ (∀ (c : Desc) (d e : Dev) (q : List Instr), d.val.swap = some c →
    e = ((({ d with val := { d.val with swap := none } }).clrF F.VAL_STATUS_swapping).wr F.VAL_STATUS_old_chains 0).raise 192 →
    exec .valSwapDone ⟨d, q⟩ = .next ⟨e.okRes c d.bankNo, q⟩)
  ∧ (∀ (b c : Desc) (i r s k h : Nat) (key pre fr : List Byte) (f : Frame) (p : Packet) (d0 d e g : Dev) (q : List Instr),
    (∀ k, d0.withData b k = k d c) →
    wUnusedZero c.w [(8, 20), (24, 25)] = true → wReservedOk c.w = true → wArg c.w 24 1 = 1 → wLen c.w = 640 →
    c.data.length = 640 → injectOk c.data = true → i = leAt c.data 12 4 % 0x100000 → pre = (c.data.drop 64).take 32 →
    fr = (c.data.drop 96).take (leAt pre 20 2) → f = parseFrame fr → r = d.msrPeek i → d.mode = .run →
    d.msrCorrupt i = false → typeOk f.ftype f.ver f.plen = true → d.genTest f.keyGen (rg r R.keyGen) = 0 →
    d.keyServe (rg r R.districtHandle) (rg r R.eui) 1 f.keyGen false = (e, .key key h) →
    p = { lane := byteAt c.data 9, index := i, rd := r, pre := pre, frame := fr, advance := false, handle := h,
          verdict := 0xD1, inject := true, heldQuar := byteAt c.data 10 == 0xE3 } → e.commitTry p = (g, .done s) → k = rg (g.msrPeek i) R.rekeyDue → k ≠ 1 →
    exec (.valInject b) ⟨d0, q⟩ = .next ⟨g.okRes c s, q⟩)
  ∧ (∀ (c : Desc) (e : DedupEnt) (d : Dev) (q : List Instr), wUnusedZero c.w [(24, 28)] = true → wReservedOk c.w = true →
    argIndex c.w < msrSize → mget? d.val.filter (argIndex c.w % 65536) = some e → e.index = argIndex c.w →
    exec (.valPath c) ⟨d, q⟩ = .next ⟨d.okRes c (argIndex c.w + e.path * 2 ^ 20 + e.mask * 2 ^ 24 + e.bestPath * 2 ^ 28)
      (e.bestQ + e.count * 2 ^ 8 + e.fcnt * 2 ^ 32), q⟩)

/-- Enable with a legal base interval and areas commits the settings, recounts the members and forgets the last report; with an
illegal interval it is refused with cfg_bad, and with an area outside the DRAM with area_bad. Waltz runs where its
conditions hold, catches up where published records were not yet acknowledged, and marks a rebuild where the history is not
valid and auto_rebuild is set. A feed of FIFO1 goes before one of FIFO0, and injections that waited go on. A due interval
closes once the commits up to its sequence are applied, else it waits for them with closing set. An episode closes quiet_s
after its last feed, with a report. A report falls due again after its period. (R190, R191, R197, R206, R207, R208, R209,
R214, R215) -/
def Obligations.WaltzRunCommandsComplete : Prop :=
  (∀ (v : Word) (d e : Dev) (q : List Instr), d.on F.WLZ_CTRL_enable = false → e = d.regWrite32 0x70000 v.toNat →
    e.on F.WLZ_CTRL_enable = true → baseOk e.baseS = true → e.wlzAreasOk = true →
    exec (.waltzEnable v) ⟨d, q⟩ = .next ⟨{ (e.commitRwl 0x70000).wlzRecount with
      wlz := { (e.commitRwl 0x70000).wlzRecount.wlz with lastReport := none } }, q⟩)
  ∧ (∀ (v : Word) (d e : Dev) (q : List Instr), d.on F.WLZ_CTRL_enable = false → e = d.regWrite32 0x70000 v.toNat →
    e.on F.WLZ_CTRL_enable = true → baseOk e.baseS = false →
    exec (.waltzEnable v) ⟨d, q⟩ = .next ⟨((e.clrF F.WLZ_CTRL_enable).setF F.WLZ_ERR_cfg_bad).raise 233, q⟩)
  ∧ (∀ (v : Word) (d e : Dev) (q : List Instr), d.on F.WLZ_CTRL_enable = false → e = d.regWrite32 0x70000 v.toNat →
    e.on F.WLZ_CTRL_enable = true → baseOk e.baseS = true → e.wlzAreasOk = false →
    exec (.waltzEnable v) ⟨d, q⟩ = .next ⟨((e.clrF F.WLZ_CTRL_enable).setF F.WLZ_ERR_area_bad).raise 233, q⟩)
  ∧ (∀ (d e f : Dev) (q : List Instr), d.on F.WLZ_STATUS_running = false → d.on F.WLZ_CTRL_enable = true →
    d.on F.MSR_STATUS_ready = true → d.wlz.recounted = true → d.mode.serving = true → d.domOn .wlz = true →
    e = d.setF F.WLZ_STATUS_running →
    f = (if d.rd F.REEL_WLZ_ACK_LO_wlz_ack < d.rd F.REEL_STG_PUB_LO_stg_pub then ({ e with wlz := { e.wlz with
        catchUp := some (d.rd F.REEL_WLZ_ACK_LO_wlz_ack + 1, d.rd F.REEL_STG_PUB_LO_stg_pub) } }).setF F.WLZ_STATUS_catching_up else e) →
    exec .waltzRunningStart ⟨d, q⟩ = .next ⟨(if f.on F.WLZ_CTRL_auto_rebuild && !f.on F.WLZ_STATUS_hist_valid then
        ({ f with wlz := { f.wlz with rebuild := some (none, 0) } }).setF F.WLZ_STATUS_rebuilding else f), q⟩)
  ∧ (∀ (x : List Byte) (d : Dev) (q : List Instr), d.on F.WLZ_STATUS_running = true → d.fifoHead 0x700B0 = some x →
    exec .waltzFeed ⟨d, q⟩ = .next ⟨(d.feedFrom 0x700B0 x).injectGoOn, q⟩)
  ∧ (∀ (x : List Byte) (d : Dev) (q : List Instr), d.on F.WLZ_STATUS_running = true → d.fifoHead 0x700B0 = none →
    d.fifoHead 0x700A0 = some x → exec .waltzFeed ⟨d, q⟩ = .next ⟨(d.feedFrom 0x700A0 x).injectGoOn, q⟩)
  ∧ (∀ (b s : Nat) (d : Dev) (q : List Instr), d.on F.WLZ_STATUS_running = true → d.wlz.closeAt = some (b, s) →
    b ≤ d.dueB → b ≠ 0 → s ≤ d.rd F.REEL_WLZ_ACK_LO_wlz_ack → exec .intervalClose ⟨d, q⟩ = .next ⟨d.closeNow b, q⟩)
  ∧ (∀ (b s : Nat) (d : Dev) (q : List Instr), d.on F.WLZ_STATUS_running = true → d.wlz.closeAt = none → d.lastB ≠ 0 →
    b = d.lastB + 1 → s = d.rd F.REEL_SEQ_NEXT_LO_seq_next - 1 → b ≤ d.dueB → d.rd F.REEL_WLZ_ACK_LO_wlz_ack < s →
    exec .intervalClose ⟨d, q⟩
      = .next ⟨({ d with wlz := { d.wlz with closeAt := some (b, s) } }).setF F.WLZ_STATUS_closing, q⟩)
  ∧ (∀ (d : Dev) (q : List Instr), d.on F.WLZ_STATUS_running = true → d.on F.WLZ_EPISODE_open = true →
    d.wlz.epLast + d.rd F.WLZ_EPISODE_CFG_quiet_s * sNs ≤ d.tick →
    exec .episodeClose ⟨d, q⟩ = .next ⟨(d.reportWrite.clrF F.WLZ_EPISODE_open).raise 228, q⟩)
  ∧ (∀ (d : Dev) (q : List Instr), d.on F.WLZ_STATUS_running = true → d.on F.WLZ_EPISODE_open = true →
    d.wlz.reportDue ≤ d.tick → d.wlz.epRestored = none → d.rd F.WLZ_EPISODE_CFG_update_ms = 1000 →
    exec .restorationReport ⟨d, q⟩ = .next ⟨{ d.reportWrite with
      wlz := { d.reportWrite.wlz with reportDue := d.wlz.reportDue + 1000 * msNs } }, q⟩)

/-- Inference and scoring start at their periods, where the automatic run is enabled and none runs, or on request. The end of an
inference pass in Storm with no meter in the table ends the run, stores the passes, the reassignments and the run time, sets
settled and raises source 229. The end of a scoring pass with no meter stores an empty suspicion list with its header, the
pass number, the last closed interval and the run time, and lets go the failed feeds that are judged and past revision. The
end of a rebuild for a command raises source 234 and completes the command with its count. (R203, R204, R206, R215, R216) -/
def Obligations.WaltzPassesComplete : Prop :=
  (∀ (d : Dev) (q : List Instr), d.mayInfer = true → d.on F.WLZ_CTRL_infer_auto = true → d.rd F.WLZ_INFER_period ≠ 0 →
    d.wlz.inferB + d.rd F.WLZ_INFER_period ≤ d.lastB → d.wlz.infer = none →
    exec .inferencePeriodic ⟨d, q⟩ = .next ⟨d.inferStart none none, q⟩)
  ∧ (∀ (d : Dev) (q : List Instr), d.mayInfer = true → d.wlz.infer = none →
    exec .inferNow ⟨d, q⟩ = .next ⟨(d.setF F.WLZ_INFER_infer_now).inferStart none none, q⟩)
  ∧ (∀ (run : InferRun) (d e f : Dev) (q : List Instr), d.on F.WLZ_STATUS_running = true → d.wlz.infer = some run →
    d.msrRecs = [] → run.moved = 0 →
    run.passes = 0 → run.cmd = none → e = ({ d with wlz := { d.wlz with infer := none } }).wr F.WLZ_INFER_STAT_passes 1 →
    f = (((((e.wr F.WLZ_INFER_STAT_reassigned 0).wr F.WLZ_RUN_TIME_infer_ms (min 0xFFFF ((d.tick - run.start) / msNs))).setF
      F.WLZ_STATUS_settled).clrF F.WLZ_STATUS_inferring).clrF F.WLZ_INFER_infer_now).raise 229 → f.mode = .storm →
    exec .inferencePassDone ⟨d, q⟩ = .next ⟨f, q⟩)
  ∧ (∀ (d : Dev) (q : List Instr), d.mayInfer = true → d.on F.WLZ_CTRL_score_auto = true → d.rd F.WLZ_SCORE_period ≠ 0 →
    d.wlz.scoreB + d.rd F.WLZ_SCORE_period ≤ d.lastB → d.wlz.score = none → exec .scorePeriodic ⟨d, q⟩
    = .next ⟨({ d with wlz := { d.wlz with score := some (none, d.tick), scoreB := d.lastB } }).setF F.WLZ_STATUS_scoring, q⟩)
  ∧ (∀ (d : Dev) (q : List Instr), d.mayInfer = true → d.wlz.score = none → exec .scoreNow ⟨d, q⟩
    = .next ⟨(d.setF F.WLZ_SCORE_score_now).scoreStart none, q⟩)
  ∧ (∀ (t no : Nat) (d e : Dev) (q : List Instr), d.on F.WLZ_STATUS_running = true → d.wlz.score = some (none, t) → d.wlz.infer = none → d.msrRecs = [] →
    no = (d.wlz.passNo + 1) % 65536 → e = d.memWrB (d.wlzBase 2) (leBytes 2 0x5350 ++ [1, 0] ++ leBytes 2 no ++ zeros 2
      ++ leBytes 4 0 ++ leBytes 4 d.lastB ++ leBytes 4 (crc32c 0xFFFFFFFF []) ++ zeros 44) →
    exec .scoringPassDone ⟨d, q⟩
      = .next ⟨((({ e with wlz := { e.wlz with
          score := none
          passNo := no
          failed := e.wlz.failed.filter (fun x => !x.2.2.2 && decide (e.lastB ≤ x.2.2.1 + e.revise)) } }).clrF F.WLZ_STATUS_scoring).clrF
          F.WLZ_SCORE_score_now).wr F.WLZ_RUN_TIME_score_ms (min 0xFFFF ((d.tick - t) / msNs)), q⟩)
  ∧ (∀ (c : Desc) (lo n : Nat) (d e : Dev) (q : List Instr), d.on F.WLZ_STATUS_running = true → d.wlz.rebuild = some (some c, lo) → d.rebuildAll lo = (e, n) →
    exec .waltzRebuildDone ⟨d, q⟩ = .next ⟨((({ e with wlz := { e.wlz with rebuild := none } }).clrF
      F.WLZ_STATUS_rebuilding).raise 234).okRes c n, q⟩)

/-- NODE_LOAD and GROUP_LOAD of a good image apply it and answer the count; a NODE_LOAD while an interval closes waits; RESULTS
answers the records asked for, copied to the buffer, and how to go on; RESTORE_READ, SUSP_READ and PROFILE copy a report,
the suspicion list and a profile; INFER and SCORE start their runs for the command; ASSIGN with the phase flag sets the
phase in the record and marks it assigned in the profile; REBUILD marks a rebuild. Without a report RESTORE_READ answers
that there is none. (R184, R188, R200, R217) -/
def Obligations.WaltzHostCommandsComplete : Prop :=
  (∀ (b c : Desc) (n : Nat) (d0 d : Dev) (q : List Instr), (∀ k, d0.withData b k = k d c) →
    wUnusedZero c.w [(8, 20), (24, 25)] = true → wReservedOk c.w = true → d.wlz.closeAt = none →
    d.mode = .run → wArg c.w 24 1 = 0 → c.data.length = wLen c.w → n = leAt c.data 4 4 → leAt c.data 0 2 = 0x4E54 →
    byteAt c.data 2 = 1 → 1 ≤ n → n ≤ d.rd F.WLZ_SIZES_nodes → wLen c.w = 64 + 64 * n →
    leAt c.data 8 4 = crc32c 0xFFFFFFFF (c.data.drop 64) → nodeBad (leNat c.data) n (d.rd F.WLZ_SIZES_groups) = none →
    exec (.wlzNodeLoad b) ⟨d0, q⟩ = .next ⟨(d.nodesApply c.data).okRes c n, q⟩)
  ∧ (∀ (b c : Desc) (x : Nat × Nat) (d0 d : Dev) (q : List Instr), (∀ k, d0.withData b k = k d c) →
    wUnusedZero c.w [(8, 20), (24, 25)] = true → wReservedOk c.w = true → d.mode = .run → d.wlz.closeAt = some x →
    exec (.wlzNodeLoad b) ⟨d0, q⟩ = .next ⟨{ d with wlz := { d.wlz with loads := d.wlz.loads ++ [c] } }, q⟩)
  ∧ (∀ (b c : Desc) (n : Nat) (d0 d : Dev) (q : List Instr), (∀ k, d0.withData b k = k d c) →
    wUnusedZero c.w [(8, 20), (24, 25)] = true → wReservedOk c.w = true →
    d.mode = .run → wArg c.w 24 1 = 0 → c.data.length = wLen c.w → n = d.rd F.WLZ_SIZES_groups → leAt c.data 0 2 = 0x4754 →
    byteAt c.data 2 = 1 → leAt c.data 4 4 = n → wLen c.w = 64 + 512 * n + 32992 →
    leAt c.data 8 4 = crc32c 0xFFFFFFFF (c.data.drop 64) → d.groupBad c.data n = none →
    exec (.wlzGroupLoad b) ⟨d0, q⟩ = .next ⟨(d.groupsApply c.data).okRes c n, q⟩)
  ∧ (∀ (c : Desc) (d : Dev) (q : List Instr), wUnusedZero c.w [(8, 20), (24, 40)] = true → wReservedOk c.w = true →
    d.mode = .run → d.on F.WLZ_STATUS_running = true → wLen c.w = 48 → wArg c.w 24 4 < d.nodeCount → wArg c.w 28 4 = 1 →
    wArg c.w 36 4 = 1 → d.rangeOk (wArg c.w 32 4) = true → exec (.wlzResults c) ⟨d, q⟩ = .next ⟨d.drawn.finish c
      { status := 0, result := 1,
        result2 := (wArg c.w 32 4 + 1) % 2 ^ 32 + wArg c.w 24 4 % 2 ^ 16 * 2 ^ 32,
        data := [(wAddr c.w, d.resultRec (wArg c.w 24 4) (wArg c.w 32 4))] }, q⟩)
  ∧ (∀ (c : Desc) (d : Dev) (q : List Instr), wUnusedZero c.w [(8, 20)] = true → wReservedOk c.w = true →
    d.mode = .run → d.on F.WLZ_STATUS_running = true → d.wlz.lastReport = none →
    exec (.wlzRestoreRead c) ⟨d, q⟩ = .next ⟨d.fail c wlzNoReport, q⟩)
  ∧ (∀ (c : Desc) (b a k : Nat) (d : Dev) (q : List Instr), wUnusedZero c.w [(8, 20)] = true → wReservedOk c.w = true →
    d.mode = .run → d.on F.WLZ_STATUS_running = true → d.wlz.lastReport = some b → a = d.wlzBase 5 + 0x210000 * b →
    k = d.memRd (a + 8) 4 → 64 + k * 32 ≤ wLen c.w → exec (.wlzRestoreRead c) ⟨d, q⟩ = .next ⟨d.finish c
      { status := 0, result := d.memRd (a + 6) 2, result2 := k, data := [(wAddr c.w, d.mem.readBytes a (64 + k * 32))] }, q⟩)
  ∧ (∀ (c : Desc) (a n : Nat) (d : Dev) (q : List Instr), wUnusedZero c.w [(8, 20), (24, 32)] = true → wReservedOk c.w = true →
    d.mode = .run → d.on F.WLZ_STATUS_running = true → a = d.wlzBase 2 → 64 ≤ wLen c.w →
    n = min (min (wArg c.w 28 4) (d.memRd (a + 8) 4 - wArg c.w 24 4)) ((wLen c.w - 64) / 32) →
    exec (.wlzSuspRead c) ⟨d, q⟩ = .next ⟨d.finish c
      { status := 0, result := n, result2 := d.memRd (a + 4) 2,
        data := [(wAddr c.w, d.mem.readBytes a 64 ++ d.mem.readBytes (a + 64 + 32 * wArg c.w 24 4) (32 * n))] }, q⟩)
  ∧ (∀ (c : Desc) (d : Dev) (q : List Instr), wUnusedZero c.w [(24, 25), (28, 30)] = true → wReservedOk c.w = true →
    d.mode = .run → d.on F.WLZ_STATUS_running = true → wArg c.w 24 1 = 0 → wArg c.w 28 2 = 0 → d.wlz.infer = none →
    exec (.wlzInfer c) ⟨d, q⟩ = .next ⟨d.inferStart (some c) none, q⟩)
  ∧ (∀ (c : Desc) (d : Dev) (q : List Instr), wUnusedZero c.w [] = true → wReservedOk c.w = true →
    d.mode = .run → d.on F.WLZ_STATUS_running = true → d.wlz.score = none →
    exec (.wlzScore c) ⟨d, q⟩ = .next ⟨d.scoreStart (some c), q⟩)
  ∧ (∀ (c : Desc) (i r : Nat) (d e f g h : Dev) (q : List Instr), wUnusedZero c.w [(24, 32)] = true → wReservedOk c.w = true →
    d.mode = .run → d.on F.WLZ_STATUS_running = true → i = wArg c.w 24 4 → i < msrSize → wArg c.w 30 1 ≤ 3 → wArg c.w 31 1 = 2 →
    d.msrGet i = (e, some r) → rg r R.state ≠ stFree → f = e.profPut i (pfSetFlag (e.prof i) 3 true) →
    g = { f with wlz := { f.wlz with
      infer := f.wlz.infer.map (fun (x : InferRun) => { x with assigned := i :: x.assigned }) } } → g.queuedOn i = false →
    h = g.msrPut i (rsAll (g.msrPeek i) (wlzFields [(R.phase, wArg c.w 30 1), (R.phaseConf, 1)])) →
    exec (.wlzAssign c) ⟨d, q⟩ = .next ⟨h.okRes c (rg (h.msrPeek i) R.recGen), q⟩)
  ∧ (∀ (c : Desc) (d : Dev) (q : List Instr), wUnusedZero c.w [(8, 20), (24, 28)] = true → wReservedOk c.w = true →
    d.mode = .run → d.on F.WLZ_STATUS_running = true → argIndex c.w < msrSize → 3072 ≤ wLen c.w →
    exec (.wlzProfile c) ⟨d, q⟩
      = .next ⟨d.finish c { status := 0, data := [(wAddr c.w, leBytes 3072 (d.prof (argIndex c.w)))] }, q⟩)
  ∧ (∀ (c : Desc) (d : Dev) (q : List Instr), wUnusedZero c.w [(24, 28)] = true → wReservedOk c.w = true →
    d.mode = .run → d.on F.WLZ_STATUS_running = true → d.wlz.rebuild = none → wArg c.w 24 4 = 0 → exec (.wlzRebuild c) ⟨d, q⟩
      = .next ⟨({ d with wlz := { d.wlz with rebuild := some (some c, 0) } }).setF F.WLZ_STATUS_rebuilding, q⟩)

/-- Enable with the area in DRAM commits the settings and starts Bolero when it may; with the area outside it sets area_bad; a
write that leaves enable 0 stops it. On a running Bolero in Run mode: CMD with a code that needs no second approval and does
not actuate, to a meter that may be commanded, queues the command; APDU sends its bytes to the meter's attachment; CAMP_LOAD
of an image campaign into a free slot writes its settings and image; CAMP_MEMBERS naming one meter for a campaign without
members adds it; CAMP_START of a loaded campaign without members stores its parameters and makes it live; ACTIVATE of an
armed one, WAIT, REPORT and FREE of a loaded one, and ABORT of one not ended act on it, ABORT of a live campaign that is no
command one broadcasting CANCEL three times on each path; GROUP_SET stores a handle that changed under the next bgen and
persists the groups; CMD_STATUS answers the last outcome. (R231, R236, R237, R242, R243, R247, R250) -/
def Obligations.BoleroHostCommandsComplete : Prop :=
  (∀ (v : Word) (d e : Dev) (q : List Instr), d.on F.BOL_CTRL_enable = false → e = d.regWrite32 0x80000 v.toNat →
    e.on F.BOL_CTRL_enable = true → e.inDram e.bolArea 0x53000000 = true →
    exec (.bolEnable v) ⟨d, q⟩ = .next ⟨((e.commitRwl 0x80000).bolSync).bolShow, q⟩)
  ∧ (∀ (v : Word) (d e : Dev) (q : List Instr), d.on F.BOL_CTRL_enable = false → e = d.regWrite32 0x80000 v.toNat →
    e.on F.BOL_CTRL_enable = true → e.inDram e.bolArea 0x53000000 = false →
    exec (.bolEnable v) ⟨d, q⟩ = .next ⟨((e.clrF F.BOL_CTRL_enable).setF F.BOL_ERR_area_bad).raise 262, q⟩)
  ∧ (∀ (v : Word) (d e : Dev) (q : List Instr), e = d.regWrite32 0x80000 v.toNat → e.on F.BOL_CTRL_enable = false →
    exec (.bolEnable v) ⟨d, q⟩ = .next ⟨((e.clrF F.BOL_STATUS_running).clrF F.BOL_STATUS_paused).bolShow, q⟩)
  ∧ (∀ (c : Desc) (r : Nat) (d e : Dev) (q : List Instr), wUnusedZero c.w [(24, 30), (32, 64)] = true → wReservedOk c.w = true →
    argIndex c.w < msrSize → wArg c.w 29 1 = 0 → cargsOk (wArg c.w 28 1) (leBytes 32 (wArg c.w 32 32)) = true →
    d.on F.BOL_STATUS_running = true → d.mode = .run → d.msrGet (argIndex c.w) = (e, some r) →
    cmdState (rg r R.state) false = true → codeNeeds2 (wArg c.w 28 1) = false → actuating (wArg c.w 28 1) = false →
    e.cmdRoom (argIndex c.w) = true → exec (.bolCmd c) ⟨d, q⟩ = .next ⟨e.cmdAdd
      { index := argIndex c.w, code := wArg c.w 28 1, cargs := leBytes 32 (wArg c.w 32 32), noAck := false, src := .desc c }, q⟩)
  ∧ (∀ (b c : Desc) (p r : Nat) (d0 d e : Dev) (q : List Instr), (∀ k, d0.withData b k = k d c) → wUnusedZero c.w [(8, 20), (24, 28)] = true → wReservedOk c.w = true →
    argIndex c.w < msrSize → 0 < wLen c.w → wLen c.w ≤ 400 → d.on F.BOL_STATUS_running = true → d.mode = .run →
    d.msrGet (argIndex c.w) = (e, some r) → cmdState (rg r R.state) false = true → c.data.length = wLen c.w →
    attPath (rg r R.attach) = some p → exec (.bolApdu b) ⟨d0, q⟩
      = .next ⟨e.dlPut (mkDl p (rg r R.attach) (argIndex c.w) (.apdu c) 5 0 false false c.data), q⟩)
  ∧ (∀ (b c : Desc) (s : Nat) (d0 d e : Dev) (q : List Instr), (∀ k, d0.withData b k = k d c) →
    wUnusedZero c.w [(8, 20), (24, 36)] = true → wReservedOk c.w = true →
    s = wArg c.w 24 1 → s ≤ 63 → wArg c.w 25 1 ≠ 1 → wArg c.w 25 1 ≠ 2 → wArg c.w 25 1 ≤ 2 → wArg c.w 26 2 ≤ 4095 → 0 < wLen c.w → wLen c.w ≤ 0x800000 →
    d.on F.BOL_STATUS_running = true → d.mode = .run → d.cPhase s = 0 → c.data.length = wLen c.w →
    e = (d.bolWr (cOff s) 96 (1 + wArg c.w 25 1 * 2 ^ 8 + wArg c.w 36 1 * 2 ^ 16 + wArg c.w 26 2 * 2 ^ 48 + wArg c.w 28 4 * 2 ^ 64
      + wArg c.w 32 4 * 2 ^ 96 + wLen c.w * 2 ^ 128 + 0)).bolWr (cOff s + 0x10000) (wLen c.w) (leNat c.data) →
    exec (.bolCampLoad b) ⟨d0, q⟩ = .next ⟨(e.campShow s).okRes c (e.cBlocks s), q⟩)
  ∧ (∀ (b c : Desc) (s i : Nat) (d0 d : Dev) (q : List Instr), (∀ k, d0.withData b k = k d c) →
    wUnusedZero c.w [(8, 20), (24, 26)] = true → wReservedOk c.w = true →
    wArg c.w 25 1 = 0 → s = wArg c.w 24 1 → s ≤ 63 → wLen c.w % 4 = 0 → d.on F.BOL_STATUS_running = true → d.mode = .run →
    d.cPhase s = 1 → c.data.length = wLen c.w → (chunks 4 c.data).map (fun e => leAt e 0 4) = [i] → i < msrSize →
    d.cMembers s = 0 → exec (.bolCampMembers b) ⟨d0, q⟩
      = .next ⟨((d.campAdd s i).1.campShow s).okRes c (b2n (!(d.campAdd s i).2)) (b2n (d.campAdd s i).2), q⟩)
  ∧ (∀ (c : Desc) (s : Nat) (d e : Dev) (q : List Instr), wUnusedZero c.w [(24, 44)] = true → wReservedOk c.w = true →
    s = wArg c.w 24 1 → s ≤ 63 → d.on F.BOL_STATUS_running = true → d.mode = .run → d.cPhase s = 1 →
    e = (((d.cWr s 3 3 (zeroAs (wArg c.w 25 1) 6 + wArg c.w 26 1 * 2 ^ 8 + zeroAs (wArg c.w 27 1) 3 * 2 ^ 16)).cWr s 24 12
      (wArg c.w 28 12)).cWr s 36 4 (wArg c.w 40 4)).cWr s 0 1 2 → e.cMembers s = 0 → e.cKind s = 2 →
    exec (.bolCampStart c) ⟨d, q⟩ = .next ⟨(e.campShow s).okRes c, q⟩)
  ∧ (∀ (c : Desc) (s : Nat) (d : Dev) (q : List Instr), wUnusedZero c.w [(24, 25)] = true → wReservedOk c.w = true →
    s = wArg c.w 24 1 → s ≤ 63 → d.on F.BOL_STATUS_running = true → d.mode = .run → d.campPhase s = 6 →
    exec (.bolCampActivate c) ⟨d, q⟩ = .next ⟨(d.campActivate s).okRes c, q⟩)
  ∧ (∀ (c : Desc) (s : Nat) (d : Dev) (q : List Instr), wUnusedZero c.w [(24, 25)] = true → wReservedOk c.w = true →
    s = wArg c.w 24 1 → s ≤ 63 → d.on F.BOL_STATUS_running = true → d.mode = .run → d.campPhase s = 1 →
    exec (.bolCampWait c) ⟨d, q⟩ = .next ⟨{ d with bol := { d.bol with waiters := d.bol.waiters ++ [(s, c)] } }, q⟩)
  ∧ (∀ (c : Desc) (s n : Nat) (d : Dev) (q : List Instr), wUnusedZero c.w [(8, 20), (24, 25)] = true → wReservedOk c.w = true →
    s = wArg c.w 24 1 → s ≤ 63 → wLen c.w % 8 = 0 → d.on F.BOL_STATUS_running = true → d.mode = .run → d.campPhase s = 1 →
    n = min (wLen c.w / 8) (d.cMembers s) → n ≠ 0 → exec (.bolCampReport c) ⟨d, q⟩ = .next ⟨d.finish c
      { status := 0, result := n, data := [(wAddr c.w, d.mem.readBytes (d.bolArea + cOff s + mOff 0) (8 * n))] }, q⟩)
  ∧ (∀ (c : Desc) (s : Nat) (d e : Dev) (q : List Instr), wUnusedZero c.w [(24, 25)] = true → wReservedOk c.w = true →
    s = wArg c.w 24 1 → s ≤ 63 → d.on F.BOL_STATUS_running = true → d.mode = .run → 1 ≤ d.campPhase s → d.campPhase s ≤ 7 →
    e = (d.cmdsSet (d.bol.cmds.filter (fun b => b.tries != 0 || (match b.src with
      | .member x _ => x != s
      | _ => true)))).campAborted s → exec (.bolCampAbort c) ⟨d, q⟩
      = .next ⟨(if d.cPhase s = 2 ∧ d.cKind s ≠ 2 then
          (d.cPaths s).foldl (fun d p => foldN 3 (fun _ d => d.pushCtrl s p 3 (zeros 4)) d) e else e).okRes c, q⟩)
  ∧ (∀ (c : Desc) (s : Nat) (d e f g : Dev) (q : List Instr), wUnusedZero c.w [(24, 25)] = true → wReservedOk c.w = true →
    s = wArg c.w 24 1 → s ≤ 63 → d.on F.BOL_STATUS_running = true → d.mode = .run → d.campPhase s = 1 → e = d.campLeave s →
    f = ((e.bolWr (cOff s + mOff 0) (8 * e.cMembers s) 0).bolWr (cOff s + 0x1010000) (4124 * 512) 0) →
    g = (f.bolWr (cOff s + 0x10000) (e.cLen s) 0).bolWr (cOff s + 0) 0x10000 0 →
    exec (.bolCampFree c) ⟨d, q⟩ = .next ⟨(({ g with bol := { g.bol with
        mpath := g.bol.mpath.filter (fun x => !(x.1 / 2 ^ 20 == s))
        heard := g.bol.heard.filter (fun x => !(x / 2 ^ 20 == s))
        sealedSrc := g.bol.sealedSrc.filter (fun x => x.1 / 65536 != s) } }).campShow s).okRes c, q⟩)
  ∧ (∀ (c : Desc) (g b : Nat) (d e f : Dev) (q : List Instr), wUnusedZero c.w [(4, 8), (24, 26)] = true → wReservedOk c.w = true →
    g = wArg c.w 24 2 → g ≤ 4095 → d.on F.BOL_STATUS_running = true → d.mode = .run → d.grpHandle g ≠ wHandle c.w →
    b = (d.grpBgen g + 1) % 65536 → b ≠ 0 →
    e = d.ctrFresh (2 ^ 20 + g) →
    f = { e with bol := { e.bol with groups := tset e.bol.groups g (wHandle c.w + b * 2 ^ 32) } } →
    exec (.bolGroupSet c) ⟨d, q⟩ = .next ⟨(f.grpPut g (wHandle c.w) b (f.rd F.BOL_EPOCH_epoch * 2 ^ 24)).tableSave tabPush
      f.bol.groups (some c) b, q⟩)
  ∧ (∀ (c : Desc) (e : Nat) (d : Dev) (q : List Instr), wUnusedZero c.w [(24, 28)] = true → wReservedOk c.w = true →
    argIndex c.w < msrSize → d.on F.BOL_STATUS_running = true → d.mode = .run → e = d.bolRd (dlOff (argIndex c.w)) 16 →
    exec (.bolCmdStatus c) ⟨d, q⟩
      = .next ⟨d.okRes c (serSub 16 (byts e 4 2) 1 + byts e 11 1 * 2 ^ 16) (byts e 12 4), q⟩)

/-- A request passed by a lane joins the acknowledgement queue while Bolero sends, the queue has room and Storm does not shed
it; shed or without room it is dropped. When ack_delay has passed for the oldest request, an uplink acknowledgement with the
meter's counters is sent, or for a JOIN of a meter Active, Adrift or Quarantined a JOIN_RSP. An ACK of an outstanding
command with its cseq ends it, as acknowledged for result 0, 1 or 5 and as refused otherwise. A PUSH_STATUS of a member not
excluded of the live campaign it names updates that member. When an attempt of a command already sent times out while none
of its frames waits, the next attempt goes out. A held actuating frame whose token wait ends without the token leaves the
queue and ends for want of the token. (R228, R229, R231, R232, R233, R236) -/
def Obligations.BoleroEngineCommandsComplete : Prop :=
  (∀ (x : AckReq) (t : List AckReq) (d e : Dev) (q : List Instr), d.bol.passed = x :: t →
    e = { d with bol := { d.bol with passed := t } } → e.bolSends = true → e.ackStorm x = false → e.bol.ackq.length < 65536 →
    exec .ackRequest ⟨d, q⟩ = .next ⟨{ e with bol := { e.bol with ackq := e.bol.ackq ++ [x] } }, q⟩)
  ∧ (∀ (x : AckReq) (t : List AckReq) (d e : Dev) (q : List Instr), d.bol.passed = x :: t →
    e = { d with bol := { d.bol with passed := t } } → e.bolSends = true → e.ackStorm x = true ∨ 65536 ≤ e.bol.ackq.length →
    exec .ackRequest ⟨d, q⟩ = .next ⟨e.ackDrop, q⟩)
  ∧ (∀ (x : AckReq) (t : List AckReq) (p r : Nat) (d e f : Dev) (q : List Instr), d.bol.ackq = x :: t →
    x.stamp + zeroAs (d.rd F.BOL_CTRL_ack_delay) 1 * msNs ≤ d.tick → e = { d with bol := { d.bol with ackq := t } } →
    e.bolSends = true → e.ackStorm x = false → attPath x.attach = some p → x.ftype ≠ 0 → e.msrGet x.index = (f, some r) →
    exec .ackDelayExpiry ⟨d, q⟩ = .next ⟨f.dlPut (mkDl p x.attach x.index .reply 2 0 false false
      (leBytes 4 (rg r R.frameCounter) ++ leBytes 8 (rg r R.replay))), q⟩)
  ∧ (∀ (x : AckReq) (t : List AckReq) (p i r : Nat) (d e f : Dev) (q : List Instr), d.bol.ackq = x :: t →
    x.stamp + zeroAs (d.rd F.BOL_CTRL_ack_delay) 1 * msNs ≤ d.tick → e = { d with bol := { d.bol with ackq := t } } →
    e.bolSends = true → e.ackStorm x = false → attPath x.attach = some p → x.ftype = 0 → e.idtFind x.eui = some i →
    e.msrGet i = (f, some r) → rg r R.state = stActive ∨ rg r R.state = stAdrift ∨ rg r R.state = stQuarantined →
    exec .ackDelayExpiry ⟨d, q⟩ = .next ⟨f.dlPut (mkDl p x.attach i .reply 0 1 false false
      (leBytes 3 i ++ leBytes 1 (rg r R.dwnVer) ++ zeros 4)), q⟩)
  ∧ (∀ (x : Notice) (b : BCmd) (w res : Nat) (d e : Dev) (q : List Instr), d.bol.notices = [x] → x.ftype = 6 → res = byteAt x.body 3 →
    e = { d with bol := { d.bol with notices := [x].erase x } } → e.cmdOf x.index = some b → b.cseq = leAt x.body 0 2 → b.tries ≠ 0 →
    w = leAt x.body 0 2 + res * 2 ^ 16 + leAt x.body 4 4 * 2 ^ 32 → exec .ackNotice ⟨d, q⟩
      = .next ⟨(if res = 0 ∨ res = 1 ∨ res = 5 then (e.cmdAcked b).cmdEnd b 0 1 w b.fcnt else e.cmdEnd b bolRefused 2 w b.fcnt), q⟩)
  ∧ (∀ (x : Notice) (c k r : Nat) (d e : Dev) (q : List Instr), d.bol.notices = [x] → x.ftype = 7 →
    e = { d with bol := { d.bol with notices := [x].erase x } } → r = e.msrPeek x.index → c = rg r R.campaign →
    rg r R.inCampaign = 1 → e.cPhase c = 2 → e.cCtag c = leAt x.body 0 4 →
    (List.range (e.cMembers c)).find? (fun k => meIndex (e.mEnt c k) == x.index && meState (e.mEnt c k) != 5) = some k →
    exec .pushStatusNotice ⟨d, q⟩ = .next ⟨e.pushMember x c k, q⟩)
  ∧ (∀ (i : BitVec 20) (b : BCmd) (d : Dev) (q : List Instr), d.cmdOf i.toNat = some b → d.bolSends = true → b.tries ≠ 0 →
    d.bol.outq.any (fun f => f.index == i.toNat && f.why == .cmd b.cseq) = false →
    exec (.cmdAttemptTimeout i) ⟨d, q⟩ = .next ⟨(Dev.cmdGo 8 i.toNat d).groupKeysGo, q⟩)
  ∧ (∀ (id : Nat) (f : DlFrame) (d : Dev) (q : List Instr), d.bol.outq.find? (fun f => f.id == id && f.act) = some f →
    d.tokenFree = false → exec (.tokenWaitExpiry id) ⟨d, q⟩
      = .next ⟨({ d with bol := { d.bol with outq := d.bol.outq.filter (fun x => x.id != id) } }).dlToken f, q⟩)

/-- On a live path of a campaign: an announcement is repeated until three are sent, and then the members on the path without the
group's key are excluded and the path goes on to its blocks. A path in REPAIR sends its next repair block unless a block of
the campaign waits on it, and one in ACTIVATE repeats its ACTIVATE until three are sent. A status window that ends with
every member on the path settled arms the path. activate_at activates an ARMED campaign once it is reached. The end of an
activation window notes it on the path, which is done once its broadcast was sent. (R233, R236, R237, R238, R240, R241,
R243, R244) -/
def Obligations.BoleroCampaignPathsComplete : Prop :=
  (∀ (s : Fin 64) (p : Nat) (d : Dev) (q : List Instr), d.campLive s.val p = true → d.pPhase s.val p = 2 →
    d.pCount s.val p < 3 → exec (.announceRepeat s p) ⟨d, q⟩
      = .next ⟨((d.pPut s.val p 2 0 (d.pCount s.val p + 1) 0 0).pushAnnounce s.val p).groupKeysGo, q⟩)
  ∧ (∀ (s : Fin 64) (p : Nat) (d e : Dev) (q : List Instr), d.campLive s.val p = true → d.pPhase s.val p = 2 →
    3 ≤ d.pCount s.val p → e = (d.onPath s.val p).foldl (fun (d : Dev) k =>
      if d.keyHeldBy (meIndex (d.mEnt s.val k)) (d.cGroup s.val) then d else d.mSet s.val k 5 4) d →
    exec (.announceRepeat s p) ⟨d, q⟩ = .next ⟨(e.pPut s.val p 3 0 0 0 0).campShow s.val, q⟩)
  ∧ (∀ (s : Fin 64) (p : Nat) (d : Dev) (q : List Instr), d.campLive s.val p = true → d.pathHeld s.val p = false →
    d.pPhase s.val p = 5 → exec (.campaignBlockPace s p) ⟨d, q⟩ = .next ⟨d.pushRepair s.val p, q⟩)
  ∧ (∀ (s : Fin 64) (p : Nat) (d : Dev) (q : List Instr), d.campLive s.val p = true → d.pathHeld s.val p = false →
    d.pPhase s.val p = 7 → d.pCount s.val p < 3 → exec (.campaignBlockPace s p) ⟨d, q⟩
      = .next ⟨(d.pPut s.val p 7 (d.pRound s.val p) (d.pCount s.val p + 1) 0 (d.pLeft s.val p)).pushActivate s.val p, q⟩)
  ∧ (∀ (s : Fin 64) (p : Nat) (d e : Dev) (q : List Instr), d.campLive s.val p = true → d.pPhase s.val p = 4 →
    (∀ k ∈ d.onPath s.val p, settled (d.mEnt s.val k) = true) →
    e = { d with bol := { d.bol with heard := d.bol.heard.filter (fun x =>
      !((d.onPath s.val p).map (mKey s.val)).contains x) } } →
    exec (.statusWindowEnd s p) ⟨d, q⟩ = .next ⟨(e.campArm s.val p).campShow s.val, q⟩)
  ∧ (∀ (s : Fin 64) (d : Dev) (q : List Instr), d.bolSends = true → d.bolPaused = false → d.campPhase s.val = 6 →
    d.cActivateAt s.val ≠ 0 → sgn 32 (serSub 32 (d.cActivateAt s.val) d.dwnNow) ≤ 0 →
    exec (.activateAtReached s) ⟨d, q⟩ = .next ⟨d.campActivate s.val, q⟩)
  ∧ (∀ (s : Fin 64) (p : Nat) (d : Dev) (q : List Instr), d.campLive s.val p = true → d.pPhase s.val p = 7 →
    exec (.activationWindowEnd s p) ⟨d, q⟩ = .next ⟨((d.pPut s.val p 7 (d.pRound s.val p) (d.pCount s.val p) (d.pPos s.val p)
      (setBits (d.pLeft s.val p) 1 1 1)).pathDone s.val p).campShow s.val, q⟩)

/-- Outside Recovery, with the store unlocked, no unlock in progress and nothing in progress in the NVM, a key command is served
at once. IMPORT, STAGE, COMMIT, ABANDON, DESTROY and INIT start their NVM work, in which the commit word of a slot is
programmed last and erased first; INFO, LIST, SUCCESSOR and ROOT_WRAP complete with their results; ZEROISE zeroises the
store. INFO, LIST, INIT and ZEROISE are served in every mode, and in a locked store too. (R253, R262, R263, R266, R267,
R268, R271, R274, R275, R276) -/
def Obligations.KeyRingCommandsComplete : Prop :=
  (∀ (b c : Desc) (r key : List Byte) (parent : Option KeyEnt) (slot entry cnt h k : Nat) (w : Nat) (d0 d : Dev) (q : List Instr),
    (∀ m, d0.withData b m = m d c) → d.mode ≠ .recovery → d.on F.PAV_STATUS_unlocking = false → d.pav.op = none → d.unlocked = true →
    wUnusedZero c.w [(4, 20)] = true → wReservedOk c.w = true → wLen c.w = 64 → r = c.data → r.length = 64 → leAt r 0 2 = 0x4B57 →
    importFieldsBad r = false → parent = d.keyOf (wHandle c.w) → k = byteAt r 3 →
    (wHandle c.w = 0 ∨ (parent.map (fun e => e.bad)).getD true = false) → (k == 3) = (wHandle c.w == 0) →
    (parent.map (fun e => e.kind != 3)).getD false = false → leAt r 12 4 = (parent.map (fun e => e.kid)).getD 0 →
    d.pav.ram.find? (fun e => e.2.kind == k && e.2.kid == leAt r 4 4) = none →
    (List.range 8192).find? (fun n => n != 0 && (mget? d.pav.ram n).isNone) = some entry → d.freeSlot = some slot →
    (d.pav.ram.filter (fun e => e.2.kind == k)).length < kindMax k →
    importKey r ((parent.map (fun e => e.key)).getD deviceImportKey) ((parent.map (fun e => e.kid)).getD 0) = some key →
    cnt = (if d.pav.issue % 65536 = 0 then d.pav.issue + 1 else d.pav.issue) → h = cnt % 65536 * 65536 + entry →
    w = slotBody (kwWrap (d.pav.kek.getD []) key) h (wHandle c.w) (leAt r 4 4) (leAt r 8 2) k (byteAt r 10 % 2) →
    exec (.keyImport b) ⟨d0, q⟩ = .next ⟨d.opStart {
      cmd := c, work := .import,
      ent := { handle := h, parent := wHandle c.w, kid := leAt r 4 4, gen := leAt r 8 2, kind := k, slot := slot, key := key },
      acts := (.ctl ((cnt + 1) % 2 ^ 32) d.pav.check) :: progBody slot w ++ [.word slot 7 (commitWord w 1)] }, q⟩)
  ∧ (∀ (b c : Desc) (r key : List Byte) (e : KeyEnt) (slot pkid w : Nat) (d0 d : Dev) (q : List Instr),
    (∀ m, d0.withData b m = m d c) → d.mode ≠ .recovery → d.on F.PAV_STATUS_unlocking = false → d.pav.op = none → d.unlocked = true →
    wUnusedZero c.w [(4, 20), (24, 56)] = true → wReservedOk c.w = true → d.keyOf (wHandle c.w) = some e → e.shadow = none →
    wLen c.w = 64 → r = c.data → r.length = 64 → leAt r 0 2 = 0x4B57 → importFieldsBad r = false → byteAt r 3 = e.kind →
    leAt r 4 4 = e.kid → pkid = ((d.keyOf e.parent).map (fun p => p.kid)).getD 0 → leAt r 12 4 = pkid →
    leAt r 8 2 = (e.gen + 1) % 65536 → d.freeSlot = some slot → (d.pav.ram.filter (fun x => x.2.shadow.isSome)).length < 8 →
    importKey r (if e.parent = 0 then deviceImportKey else ((d.keyOf e.parent).map (fun p => p.key)).getD []) pkid = some key →
    w = slotBody (kwWrap (d.pav.kek.getD []) key) e.handle e.parent e.kid ((e.gen + 1) % 65536) e.kind (byteAt r 10 % 2) →
    exec (.keyStage b) ⟨d0, q⟩ = .next ⟨if cmac key (leBytes 16 (wArg c.w 24 16)) == leBytes 16 (wArg c.w 40 16)
      then d.opStart { cmd := c, work := .stage, ent := { e with shadow := some slot, newKey := key }, acts := progBody slot w }
      else d.opStart { cmd := c, work := .stageFail, ent := { e with shadow := some slot, newKey := key },
                       acts := progBody slot w ++ (eraseSlot slot).drop 1 }, q⟩)
  ∧ (∀ (c : Desc) (e : KeyEnt) (sh : Nat) (d : Dev) (q : List Instr),
    d.mode ≠ .recovery → d.on F.PAV_STATUS_unlocking = false → d.pav.op = none → d.unlocked = true →
    wUnusedZero c.w [(4, 8)] = true → wReservedOk c.w = true → d.keyOf (wHandle c.w) = some e → e.shadow = some sh →
    exec (.keyCommit c) ⟨d, q⟩ = .next ⟨d.opStart {
      cmd := c, work := .commit, ent := e,
      acts := .word sh 7 (commitWord (tget d.pav.nvm sh % 2 ^ 448) ((byts (tget d.pav.nvm e.slot) 56 2 + 1) % 65536)) ::
        eraseSlot e.slot }, q⟩)
  ∧ (∀ (c : Desc) (e : KeyEnt) (sh : Nat) (d : Dev) (q : List Instr),
    d.mode ≠ .recovery → d.on F.PAV_STATUS_unlocking = false → d.pav.op = none → d.unlocked = true →
    wUnusedZero c.w [(4, 8)] = true → wReservedOk c.w = true → d.keyOf (wHandle c.w) = some e → e.shadow = some sh →
    exec (.keyAbandon c) ⟨d, q⟩
      = .next ⟨d.opStart { cmd := c, work := .abandon, ent := e, acts := (eraseSlot sh).drop 1 }, q⟩)
  ∧ (∀ (c : Desc) (e : KeyEnt) (kids : List KeyEnt) (d : Dev) (q : List Instr),
    d.mode ≠ .recovery → d.on F.PAV_STATUS_unlocking = false → d.pav.op = none → d.unlocked = true →
    wUnusedZero c.w [(4, 8)] = true → wReservedOk c.w = true → d.keyOf (wHandle c.w) = some e →
    kids = ((d.keyFamily e.handle).drop 1).filterMap d.keyOf →
    exec (.keyDestroy c) ⟨d, q⟩ = .next ⟨d.opStart {
      cmd := c, work := .destroy, ent := e, killed := d.keyFamily e.handle,
      acts := [NvmAct.word e.slot 7 0] ++ kids.map (fun k => .word k.slot 7 0) ++ (eraseSlot e.slot).drop 1
        ++ kids.flatMap (fun k => (eraseSlot k.slot).drop 1)
        ++ (e :: kids).flatMap (fun k => (k.shadow.toList).flatMap (fun s => (eraseSlot s).drop 1)) }, q⟩)
  ∧ (∀ (c : Desc) (e : KeyEnt) (s : Nat) (d : Dev) (q : List Instr), d.on F.PAV_STATUS_unlocking = false → d.pav.op = none →
    wUnusedZero c.w [(4, 8)] = true → wReservedOk c.w = true → d.keyCatalog.find? (fun e => e.1.handle == wHandle c.w) = some (e, s) →
    exec (.keyInfo c) ⟨d, q⟩ = .next ⟨d.okRes c (e.kind + s * 2 ^ 8 + e.gen * 2 ^ 16 + e.kid * 2 ^ 32)
      (e.parent + (if e.key.isEmpty then 0 else keyCheck e.key) * 2 ^ 32), q⟩)
  ∧ (∀ (c : Desc) (all got : List (KeyEnt × Nat)) (d : Dev) (q : List Instr), d.on F.PAV_STATUS_unlocking = false →
    d.pav.op = none → wUnusedZero c.w [(8, 20), (24, 28)] = true → wReservedOk c.w = true → wLen c.w % 16 = 0 →
    all = d.keyCatalog.filter (fun e => wArg c.w 24 4 ≤ e.1.handle % 8192) → got = all.take (wLen c.w / 16) →
    got.length = all.length →
    exec (.keyList c) ⟨d, q⟩ = .next ⟨d.finish c {
      status := 0, result := got.length, result2 := 8192,
      data := [(wAddr c.w, got.flatMap (fun e => leBytes 4 e.1.handle ++ leBytes 4 e.1.parent ++ leBytes 4 e.1.kid
        ++ leBytes 2 e.1.gen ++ leBytes 1 e.1.kind ++ leBytes 1 e.2))] }, q⟩)
  ∧ (∀ (c : Desc) (dd ee : KeyEnt) (d e : Dev) (q : List Instr), d.mode ≠ .recovery → d.on F.PAV_STATUS_unlocking = false →
    d.pav.op = none → d.unlocked = true → wUnusedZero c.w [(4, 8), (24, 28)] = true → wReservedOk c.w = true →
    d.keyOf (wHandle c.w) = some dd → d.keyOf (wArg c.w 24 4) = some ee → dd.kind = 4 → ee.kind = 4 → wArg c.w 24 4 ≠ 0 →
    wArg c.w 24 4 ≠ wHandle c.w → d.pav.succ.any (fun l => l.1 == wArg c.w 24 4) = false →
    (d.pav.succ.filter (fun l => l.1 != wHandle c.w)).length < 4096 →
    e = { d with pav := { d.pav with
      succ := d.pav.succ.filter (fun l => l.1 != wHandle c.w) ++ [(wHandle c.w, wArg c.w 24 4)] } } →
    exec (.keySuccessor c) ⟨d, q⟩ = .next ⟨(e.keyEvent 2 4 dd.gen dd.kid ee.kid).okRes c, q⟩)
  ∧ (∀ (c : Desc) (dd : KeyEnt) (d e : Dev) (q : List Instr), d.mode ≠ .recovery → d.on F.PAV_STATUS_unlocking = false →
    d.pav.op = none → d.unlocked = true → wUnusedZero c.w [(4, 8), (24, 28)] = true → wReservedOk c.w = true →
    d.keyOf (wHandle c.w) = some dd → dd.kind = 4 → wArg c.w 24 4 = 0 →
    e = { d with pav := { d.pav with succ := d.pav.succ.filter (fun l => l.1 != wHandle c.w) } } →
    exec (.keySuccessor c) ⟨d, q⟩ = .next ⟨(e.keyEvent 3 4 dd.gen dd.kid 0).okRes c, q⟩)
  ∧ (∀ (c : Desc) (e o : KeyEnt) (eui g : Nat) (d : Dev) (q : List Instr), d.mode ≠ .recovery →
    d.on F.PAV_STATUS_unlocking = false → d.pav.op = none → d.unlocked = true → wUnusedZero c.w [(4, 20), (24, 38)] = true →
    wReservedOk c.w = true → 48 ≤ wLen c.w → d.keyOf (wHandle c.w) = some e → d.keyOf (wArg c.w 32 4) = some o → e.bad = false →
    o.bad = false → e.kind = 4 → o.kind = 4 → eui = wArg c.w 24 8 → g = wArg c.w 36 2 →
    exec (.keyRootWrap c) ⟨d, q⟩ = .next ⟨(d.bump F.PAV_DERIV_CNT_derivations 2).finish c {
      status := 0,
      data := [(wAddr c.w, leBytes 8 eui ++ leBytes 4 e.kid ++ leBytes 2 g ++ zeros 2
        ++ kwWrap (deriveUnder o 7 eui g) (deriveUnder e 0 eui 0) ++ zeros 8)] }, q⟩)
  ∧ (∀ (c : Desc) (d e : Dev) (q : List Instr), d.on F.PAV_STATUS_unlocking = false → d.pav.op = none →
    wUnusedZero c.w [(24, 28)] = true → wReservedOk c.w = true → wArg c.w 24 4 = 0x1E179640 →
    (d.on F.PAV_STATUS_zeroised = true ∨ d.keyCatalog = []) → e = d.drawn.tamperLog 0x11 (d.freeVal 8) 1 0 →
    exec (.keyInit c) ⟨d, q⟩ = .next ⟨(e.opStart {
      cmd := c, work := .init,
      acts := (List.range 128).map NvmAct.page ++ [.ctlErase],
      ent := { handle := 0, parent := 0, kid := 0, gen := 0, kind := 0, slot := 0, key := [] } }).enginesReady.injectGoOn, q⟩)
  ∧ (∀ (c : Desc) (d : Dev) (q : List Instr), d.on F.PAV_STATUS_unlocking = false → d.pav.op = none →
    wUnusedZero c.w [(24, 28)] = true → wReservedOk c.w = true → wArg c.w 24 4 = 0x2E509640 →
    exec (.keyZeroise c) ⟨d, q⟩ = .next ⟨(d.zeroiseCmd.okRes c).keyNext.enginesReady, q⟩)

/-- A request on an unlocked store that hits the cache delivers the cached key; a miss derives and caches it; a request that
names no usable key fails and counts; on a locked store it waits. Setting unlock starts an unlock (in Recovery it only
raises source 289, the store stays locked); its end clears unlocking and, without a KEK, raises source 289 with the store
still locked. Locking clears the key RAM and the cache. A failed known-answer test sets kat_fail and logs. A sensor of class
Alert logs and pends source 290; one of class Zeroise zeroises. Arming commits the classes. Each NVM word programmed takes
the operation on; the last word of an import ends it with its handle and check value. (R257, R258, R259, R260, R261, R263,
R266, R271, R273, R275, R279) -/
def Obligations.PavaneStoreEventsComplete : Prop :=
  (∀ (r : KeyReq) (who : BitVec 6) (h : Word) (eui : BitVec 64) (p : BitVec 8) (g : BitVec 16) (adv : Bool) (d e : Dev) (k : List Byte)
    (hd : Nat) (q : List Instr),
    r = { who := who.toNat, handle := h.toNat, eui := eui.toNat, purpose := p.toNat, gen := g.toNat, advance := adv } →
    d.keyServe r.handle r.eui r.purpose r.gen r.advance = (e, .key k hd) →
    exec (.keyRequest who h eui p g adv) ⟨d, q⟩
      = .next ⟨{ e with pav := { e.pav with given := mput e.pav.given r.who { ok := true, key := k, handle := hd } } }, q⟩)
  ∧ (∀ (who : BitVec 6) (h : Word) (eui : BitVec 64) (p : BitVec 8) (g : BitVec 16) (adv : Bool) (d e : Dev) (q : List Instr),
    d.unlocked = true → d.keyOf h.toNat = none → e = (d.bump F.PAV_FAIL_CNT_failed).setF F.PAV_ERR_deriv_fail →
    exec (.keyRequest who h eui p g adv) ⟨d, q⟩ = .next ⟨{ e with pav := { e.pav with
      given := mput e.pav.given who.toNat { ok := false, key := [], handle := h.toNat } } }, q⟩)
  ∧ (∀ (d : Dev) (q : List Instr), exec .pavUnlock ⟨d, q⟩ = .next ⟨if d.mode = .recovery then d.raise 289
    else (d.setF F.PAV_CTRL_unlock).setF F.PAV_STATUS_unlocking, q⟩)
  ∧ (∀ (d e f g : Dev) (k : List Byte) (q : List Instr), d.on F.PAV_STATUS_unlocking = true → d.pav.op = none → d.pav.kek = some k →
    keyCheck k = d.pav.check → e = (d.clrF F.PAV_STATUS_unlocking).clrF F.PAV_CTRL_unlock → e.on F.PAV_STATUS_zeroised = false →
    e.on F.PAV_STATUS_kat_fail = false → e.mode ≠ .recovery → f = ((e.clrF F.PAV_STATUS_nvm_bad).unlockStore).raise 289 → f.unlocked = true →
    g = { f with pav := { f.pav with reqWait := [] } } → exec .pavUnlockDone ⟨d, q⟩ =
      .next ⟨((f.pav.reqWait.foldl (fun d r => d.keyAnswer r) g).keyNext.enginesReady).keyHeldRetry.injectGoOn, q⟩)
  ∧ (∀ (d : Dev) (q : List Instr), exec .pavLock ⟨d, q⟩ = .next ⟨
      ((({ d with pav := { d.pav with ram := [], cache := [] } }).clrF F.PAV_STATUS_unlocked).pavShow).enginesReady, q⟩)
  ∧ (∀ (d : Dev) (q : List Instr), exec .pavCacheFlush ⟨d, q⟩ = .next ⟨{ d with pav := { d.pav with cache := [] } }, q⟩)
  ∧ (∀ (d : Dev) (q : List Instr), exec (.pavKatNow true) ⟨d, q⟩ = .next ⟨d.clrF F.PAV_STATUS_kat_fail, q⟩
    ∧ exec (.pavKatNow false) ⟨d, q⟩ = .next ⟨(d.setF F.PAV_STATUS_kat_fail).trouble 0x25 3 0x0C 3 0 0, q⟩)
  ∧ (∀ (s : Fin 10) (x : BitVec 16) (stays : Bool) (d e : Dev) (q : List Instr), d.sensorClass s.val = 1 →
    e = (d.wrBit F.PAV_TMP_STAT_seen s.val true).wrBit F.PAV_TMP_STAT_live s.val stays → e.opCut = false → e.mode ≠ .boot →
    (e.tamperLog s.val 1 1 x.toNat).pav.op = none → (e.tamperLog s.val 1 1 x.toNat).mode ≠ .dormant →
    exec (.tamperTrip s x stays) ⟨d, q⟩ = .next ⟨((e.tamperLog s.val 1 1 x.toNat).raise 290).keyNext.enginesReady, q⟩)
  ∧ (∀ (s : Fin 10) (x : BitVec 16) (stays : Bool) (d e : Dev) (q : List Instr), d.sensorClass s.val = 2 →
    e = (d.wrBit F.PAV_TMP_STAT_seen s.val true).wrBit F.PAV_TMP_STAT_live s.val stays → e.opCut = false → e.mode ≠ .boot →
    (e.tamperLog s.val 2 3 x.toNat).pav.op = none →
    exec (.tamperTrip s x stays) ⟨d, q⟩ = .next ⟨((e.tamperLog s.val 2 3 x.toNat).zeroise 1).keyNext.enginesReady, q⟩)
  ∧ (∀ (d e : Dev) (q : List Instr), e = (d.setF F.PAV_TMP_CTRL_arm).commitRwl 0x98000 →
    (List.range 10).find? (fun s => bit (e.rd F.PAV_TMP_STAT_live) s && e.sensorClass s == 2) = none →
    exec .tamperArm ⟨d, q⟩ = .next ⟨e, q⟩)
  ∧ (∀ (d : Dev) (q : List Instr), d.opCut = false → (d.tamperLog 0x10 2 3 0).pav.op = none →
    exec .zeroiseNow ⟨d, q⟩ = .next ⟨((d.tamperLog 0x10 2 3 0).zeroise 2).keyNext.enginesReady, q⟩)
  ∧ (∀ (d : Dev) (q : List Instr), exec .tamperLogClear ⟨d, q⟩
    = .next ⟨({ d with pav := { d.pav with tlog := [] } }).wr F.PAV_TMP_LOGSTAT_entries 0, q⟩)
  ∧ (∀ (o : KeyOp) (s w v : Nat) (a : NvmAct) (t : List NvmAct) (d e : Dev) (q : List Instr), d.pav.op = some o → o.work = .import →
    o.acts = .word s w v :: a :: t →
    e = d.slotWordPut s w v →
    exec (.nvmProgramDone true) ⟨d, q⟩
      = .next ⟨(e.opStart { o with acts := a :: t, point := o.point }).enginesReady.keyHeldRetry.injectGoOn, q⟩)
  ∧ (∀ (o : KeyOp) (s w v : Nat) (d e f : Dev) (q : List Instr), d.pav.op = some o → o.work = .import → o.acts = [.word s w v] →
    e = d.slotWordPut s w v →
    e.unlocked = true → f = e.putKey o.ent →
    exec (.nvmProgramDone true) ⟨d, q⟩ = .next ⟨(((({ f with pav := { f.pav with op := none } }).pavShow).finish o.cmd
      { status := 0, result := o.ent.handle, result2 := keyCheck o.ent.key }).keyNext).enginesReady.keyHeldRetry.injectGoOn, q⟩)

/-- A running channel, its domain on, checks an MPDU addressed to the coordinator by R285; one that fails is discarded and
counted. A DATA segment that completes a frame puts the frame into the receive buffer and is acknowledged in the next
beacon. A SACK marks the segments a meter holds. An ASSOC_REQ of a bound EUI-64 is answered with its address, of a new one
with a refusal while association is closed, or with a new address. An ALIVE starts the missed grants over. A TM_REQ is
answered with the map to use; a TM_RSP sets the map to the meter. A LEAVE ends the binding. Another coordinator's beacon
sets foreign_bcn. (R285, R286, R290, R291, R292, R293, R294, R295, R298, R302) -/
def Obligations.PlcReceptionCommandsComplete : Prop :=
  (∀ (n : Fin 16) (m : PlcRx) (h : PlcHdr) (b : PlcBind) (c : Plc) (o p : PlcPart) (r : List PlcPart) (d e f : Dev) (q : List Instr),
    d.plcRuns n.val = true → plcOk m = true → h = plcHdr m.bytes → h.dst = 0 → h.mtype = 1 →
    e = ((d.plcHeard n.val h m).bump (F.PLK_CNT_SEG_seg_ok.at n.val)).sample 0x0B n.val m.margin.toNat → (e.plc n.val).bound h.src = some b → c = e.plc n.val →
    c.passed.any (fun x => x.1 == h.src && x.2.1 == h.fid && x.2.2.1 == h.count) = false →
    c.parts.find? (fun p => p.src == h.src && p.fid == h.fid) = none → h.seg = 0 → h.count = 1 →
    o = { src := h.src, fid := h.fid, count := h.count, segs := [], since := c.sf } →
    r = c.parts.filter (fun x => x.src != h.src || x.fid != h.fid) →
    fifoLevelOf (plcFq n.val) (e.fifo (plcFq n.val)).items + ((e.setPlc n.val { c with parts := o :: r }).fifoParts (plcFq n.val))
      + (h.data.length + 63) / 64 ≤ 256 →
    p = { src := h.src, fid := h.fid, count := h.count, segs := mput [] h.seg h.data, since := c.sf,
          quality := min 255 m.margin.toNat, stamp := m.stamp.toNat, zc := e.zcOffset n.val m.stamp.toNat h.zcDelay } →
    f = (e.plcAck n.val h.src h.fid h.seg).modPlc n.val (fun (k : Plc) => { k with parts := r ++ [p] }) → p.segs.length = p.count →
    exec (.plcDataSegment n m) ⟨d, q⟩ = .next ⟨(f.plcComplete n.val p).plcRefresh n.val, q⟩)
  ∧ (∀ (n : Fin 16) (m : PlcRx) (d e : Dev) (q : List Instr), d.plcRuns n.val = true → plcOk m = false →
    e = (d.bump (F.PLK_CNT_NOISE_impulses.at n.val) m.impulses.toNat).bump (F.PLK_CNT_SEG_seg_bad.at n.val) →
    exec (.plcDataSegment n m) ⟨d, q⟩ = .next ⟨e, q⟩ ∧ exec (.plcSack n m) ⟨d, q⟩ = .next ⟨e, q⟩
    ∧ exec (.plcAssocReq n m) ⟨d, q⟩ = .next ⟨e, q⟩ ∧ exec (.plcAlive n m) ⟨d, q⟩ = .next ⟨e, q⟩
    ∧ exec (.plcTmReq n m) ⟨d, q⟩ = .next ⟨e, q⟩ ∧ exec (.plcTmRsp n m) ⟨d, q⟩ = .next ⟨e, q⟩
    ∧ exec (.plcLeave n m) ⟨d, q⟩ = .next ⟨e, q⟩)
  ∧ (∀ (n : Fin 16) (m : PlcRx) (h : PlcHdr) (isIt done : PlcJob → Bool) (d e : Dev) (q : List Instr),
    d.plcRuns n.val = true → plcOk m = true → h = plcHdr m.bytes → h.dst = 0 → h.mtype = 3 → e = d.plcHeard n.val h m →
    isIt = (fun j => j.fid == some (byteAt h.data 0) && atShort j.frame.attach == h.src) →
    done = (fun j => isIt j && j.held % 2 ^ (e.plcSegs n.val j.frame).length == 2 ^ (e.plcSegs n.val j.frame).length - 1) →
    exec (.plcSack n m) ⟨d, q⟩ = .next ⟨e.modPlc n.val (fun (c : Plc) =>
      { c with uni := (c.uni.map (fun j => if isIt j then { j with held := j.held ||| byteAt h.data 1 } else j)).filter (fun j => !done j)
               binds := mmod c.binds h.src (fun b => { b with noSack := 0 }) }), q⟩)
  ∧ (∀ (n : Fin 16) (m : PlcRx) (h : PlcHdr) (a : Nat) (b : PlcBind) (d e : Dev) (q : List Instr),
    d.plcRuns n.val = true → plcOk m = true → h = plcHdr m.bytes → h.dst = 0 → h.mtype = 4 → e = d.plcHeard n.val h m →
    e.mode ≠ .shadow → (e.plc n.val).binds.find? (fun x => x.2.eui == leAt h.data 0 8 && x.2.freed.isNone) = some (a, b) →
    exec (.plcAssocReq n m) ⟨d, q⟩ = .next ⟨e.assocRsp n.val 0xFFFE (leAt h.data 0 8) 0 a b.offset, q⟩)
  ∧ (∀ (n : Fin 16) (m : PlcRx) (h : PlcHdr) (a o : Nat) (d e f g : Dev) (q : List Instr),
    d.plcRuns n.val = true → plcOk m = true → h = plcHdr m.bytes → h.dst = 0 → h.mtype = 4 → e = d.plcHeard n.val h m →
    e.mode ≠ .shadow → (e.plc n.val).binds.find? (fun x => x.2.eui == leAt h.data 0 8 && x.2.freed.isNone) = none →
    e.on (F.PLK_CTRL_assoc_open.at n.val) = true → e.recOf (leAt h.data 0 8) = none →
    (e.plc n.val).binds.find? (fun x => x.2.eui == leAt h.data 0 8 && x.2.freed.any (fun t => (e.plc n.val).sf < t + 1024)) = none →
    pickShort 1 2048 1024 (e.plc n.val).sf none (fun a => (mget? (e.plc n.val).binds a).map (·.freed)) = some a →
    o = e.freeVal 10 % 2 ^ (min 10 (e.rd (F.PLK_GRANT_gp_log2.at n.val))) →
    f = e.drawn.setPlc n.val { e.plc n.val with
      binds := mput (e.plc n.val).binds a { eui := leAt h.data 0 8, offset := o } } →
    g = (f.plcCount n.val).plcEvent n.val F.PLK_EVENT_assoc →
    g.plk.any (fun x => x.1 != n.val && x.2.binds.any (fun b => b.2.eui == leAt h.data 0 8 && b.2.freed.isNone)) = false →
    exec (.plcAssocReq n m) ⟨d, q⟩ = .next ⟨g.assocRsp n.val 0xFFFE (leAt h.data 0 8) 0 a o, q⟩)
  ∧ (∀ (n : Fin 16) (m : PlcRx) (h : PlcHdr) (b : PlcBind) (d e : Dev) (q : List Instr),
    d.plcRuns n.val = true → plcOk m = true → h = plcHdr m.bytes → h.dst = 0 → h.mtype = 6 → e = d.plcHeard n.val h m →
    (e.plc n.val).bound h.src = some b → exec (.plcAlive n m) ⟨d, q⟩ = .next ⟨e, q⟩)
  ∧ (∀ (n : Fin 16) (m : PlcRx) (h : PlcHdr) (b b' : PlcBind) (d e : Dev) (q : List Instr),
    d.plcRuns n.val = true → plcOk m = true → h = plcHdr m.bytes → h.dst = 0 → h.mtype = 7 → e = d.plcHeard n.val h m →
    e.mode ≠ .shadow → (e.plc n.val).bound h.src = some b →
    b' = { b with ulMod := m.bestMod.toNat, ulMask := m.bestMask.toNat, ulAt := some (e.plc n.val).sf } →
    exec (.plcTmReq n m) ⟨d, q⟩
      = .next ⟨(e.modPlc n.val (fun (c : Plc) => { c with binds := mput c.binds h.src b' })).plcCtl n.val h.src 8
          (leBytes 1 m.bestMod.toNat ++ zeros 1 ++ leBytes 3 m.bestMask.toNat ++ leBytes 1 m.margin.toNat ++ zeros 2), q⟩)
  ∧ (∀ (n : Fin 16) (m : PlcRx) (h : PlcHdr) (d e : Dev) (q : List Instr),
    d.plcRuns n.val = true → plcOk m = true → h = plcHdr m.bytes → h.dst = 0 → h.mtype = 8 → e = d.plcHeard n.val h m →
    exec (.plcTmRsp n m) ⟨d, q⟩ = .next ⟨e.modPlc n.val (fun (c : Plc) => { c with
      binds := mmod c.binds h.src (fun (b : PlcBind) => { b with
        dlMod := byteAt h.data 0 % 16, dlMask := leAt h.data 2 3, dlAt := some c.sf, asked := false, noSack := 0 }) }), q⟩)
  ∧ (∀ (n : Fin 16) (m : PlcRx) (h : PlcHdr) (b : PlcBind) (d e : Dev) (q : List Instr),
    d.plcRuns n.val = true → plcOk m = true → h = plcHdr m.bytes → h.dst = 0 → h.mtype = 9 → e = d.plcHeard n.val h m →
    (e.plc n.val).bound h.src = some b →
    exec (.plcLeave n m) ⟨d, q⟩ = .next ⟨(e.modPlc n.val (fun (c : Plc) =>
      { c with binds := mmod c.binds h.src (fun x => { x with freed := some c.sf })
               more := c.more.filter (fun x => x != h.src) })).plcCount n.val, q⟩)
  ∧ (∀ (n : Fin 16) (s : BitVec 16) (d : Dev) (q : List Instr), d.plcRuns n.val = true → d.mode ≠ .shadow →
    (d.plc n.val).partner = false → exec (.plcRxBeacon n s) ⟨d, q⟩
      = .next ⟨((d.setF (F.PLK_STATUS_foreign_bcn.at n.val)).plcEvent n.val F.PLK_EVENT_foreign_bcn).modPlc n.val
        (fun (c : Plc) => { c with alien := true }), q⟩)
  ∧ (∀ (n : Fin 16) (s : BitVec 16) (d : Dev) (q : List Instr), d.plcRuns n.val = true → d.mode = .shadow →
    exec (.plcRxBeacon n s) ⟨d, q⟩
      = .next ⟨(d.wr (F.PLK_SFN_sfn.at n.val) s.toNat).modPlc n.val (fun (c : Plc) => { c with fresh := false }), q⟩)

/-- A superframe sends the beacon and the downlink region under the next sfn. A partial frame past reasm_sf is discarded and
counted. An unused standing grant counts. A zero crossing of the chosen edge is captured and its period checked. A released
downlink frame joins the queue; a unicast frame out of tries returns to Bolero. Enabling a channel with a sound slot layout
starts its listen, at whose end it beacons unless a foreign beacon was heard; beacon_force beacons anyway. Writing
PLK_AT_SEL loads the entry. A transient fault counts in its window; a permanent fault retires the channel. (R282, R283,
R285, R287, R292, R293, R294, R298, R300, R302, R303, R305) -/
def Obligations.PlcChannelEventsComplete : Prop :=
  (∀ (n : Fin 16) (sfn : Nat) (b : List Byte) (x : DlPlan) (d e f y : Dev) (q : List Instr),
    d.plcRuns n.val = true →
    e = d.modPlc n.val (fun (c : Plc) => { c with
      sf := c.sf + 1
      passed := c.passed.filter (fun x => c.sf < x.2.2.2 + zeroAs (d.rd (F.PLK_GRANT_reasm_sf.at n.val)) 1) }) →
    e.mode ≠ .shadow → e.plcSends n.val = true →
    sfn = (if (e.plc n.val).fresh then e.rd (F.PLK_SFN_sfn.at n.val) else (e.rd (F.PLK_SFN_sfn.at n.val) + 1) % 65536) →
    f = (e.wr (F.PLK_SFN_sfn.at n.val) sfn).modPlc n.val (fun (c : Plc) => { c with fresh := false }) →
    x = f.plcDownlink n.val sfn → x.d.plcBeacon n.val sfn x.sacks = (y, b) →
    exec (.plcSuperframeStart n) ⟨d, q⟩
      = .next ⟨y.emits (.plc n.val (y.rd (F.PLK_CTRL_beacon_mod.at n.val)) (y.plcMask n.val) b :: x.out), q⟩)
  ∧ (∀ (n : Fin 16) (src : BitVec 16) (fid : BitVec 8) (c : Plc) (p : PlcPart) (d e : Dev) (q : List Instr), c = d.plc n.val →
    c.parts.find? (fun p => p.src == src.toNat && p.fid == fid.toNat) = some p →
    p.since + zeroAs (d.rd (F.PLK_GRANT_reasm_sf.at n.val)) 1 ≤ c.sf →
    e = d.setPlc n.val { c with parts := c.parts.filter (fun x => x.src != src.toNat || x.fid != fid.toNat) } →
    exec (.plcReassemblyExpiry n src fid) ⟨d, q⟩
      = .next ⟨(e.bump (F.PLK_CNT_NOISE_reasm_expired.at n.val)).plcRefresh n.val, q⟩)
  ∧ (∀ (n : Fin 16) (a : BitVec 16) (b : PlcBind) (d e f : Dev) (q : List Instr), (d.plc n.val).bound a.toNat = some b →
    d.plcSends n.val = true → e = d.bump (F.PLK_CNT_TIMING_missed_grants.at n.val) →
    f = e.modPlc n.val (fun (c : Plc) => { c with binds := mput c.binds a.toNat { b with misses := b.misses + 1 } }) →
    (f.rd (F.PLK_GRANT_miss_lost.at n.val) = 0 ∨ b.misses + 1 < f.rd (F.PLK_GRANT_miss_lost.at n.val)) →
    exec (.plcStandingGrantMiss n a) ⟨d, q⟩ = .next ⟨f, q⟩)
  ∧ (∀ (n : Fin 16) (fall ok : Bool) (run : Nat) (c : Plc) (d e : Dev) (q : List Instr),
    d.on (F.PLK_CTRL_zc_edge.at n.val) = fall → c = d.plc n.val →
    ok = (c.zcLast.map (fun t => decide (d.rd (F.PLK_ZC_per_min.at n.val) * 1000 ≤ d.tick - t
      ∧ d.tick - t ≤ d.rd (F.PLK_ZC_per_max.at n.val) * 1000))).getD false → run = (if ok then min 8 (c.zcRun + 1) else 0) →
    e = d.setPlc n.val { c with
      zcLast := some d.tick, zcRun := run,
      zcCaps := (if c.zcCaps.length = 16 then c.zcCaps.drop 1 else c.zcCaps) ++ [(d.tick, ok)],
      zcGone := satAdd 0xFFFF c.zcGone (b2n (c.zcCaps.length = 16)) } →
    exec (.plcZcEdge n fall) ⟨d, q⟩ = .next ⟨if e.on (F.PLK_STATUS_zc_ok.at n.val) && run != 8
      then (e.flag (F.PLK_STATUS_zc_ok.at n.val) (run == 8)).plcEvent n.val F.PLK_EVENT_zc_lost
      else e.flag (F.PLK_STATUS_zc_ok.at n.val) (run == 8), q⟩)
  ∧ (∀ (n : Fin 16) (f : DlFrame) (c : Plc) (d e : Dev) (q : List Instr), d.plcRuns n.val = true →
    d.mode ≠ .shadow → c = d.plc n.val →
    d.dlTake n.val (fun f => if f.dest = 2 then c.bcast.length < 16 else c.uni.length < 64) = (e, some f) →
    exec (.plcDlRelease n) ⟨d, q⟩ = .next ⟨if f.dest = 2 then e.modPlc n.val (fun (c : Plc) => { c with bcast := c.bcast ++ [{ frame := f }] })
      else if (e.plcDest n.val f).isNone then e.dlReturned f
      else e.modPlc n.val (fun (c : Plc) => { c with uni := c.uni ++ [{ frame := f }] }), q⟩)
  ∧ (∀ (n : Fin 16) (id : Nat) (j : PlcJob) (d e : Dev) (q : List Instr),
    (d.plc n.val).uni.find? (fun j => j.frame.id == id) = some j → d.rd (F.PLK_GRANT_dl_retry.at n.val) ≤ j.tries → j.held ≠ 0 →
    e = d.modPlc n.val (fun (c : Plc) => { c with uni := c.uni.filter (fun x => x.frame.id != id) }) →
    exec (.plcDlRetryExpiry n id) ⟨d, q⟩ = .next ⟨e.plcReturn n.val j, q⟩)
  ∧ (∀ (n : Fin 16) (v : Word) (d e f : Dev) (q : List Instr), d.on (F.PLK_CTRL_enable.at n.val) = false →
    e = d.regWrite32 (0xA0000 + 0x1000 * n.val) v.toNat → e.on (F.PLK_CTRL_enable.at n.val) = true →
    e.rd (F.PLK_SF_bp_slots.at n.val) + e.rd (F.PLK_SF_dl_slots.at n.val) + e.rd (F.PLK_SF_cont_slots.at n.val) ≤ 62 →
    e.rd (F.PLK_SF_bp_slots.at n.val) ≠ 0 → 40 ≤ e.rd (F.PLK_SF_slot_q.at n.val) →
    f = (e.commitRwl (0xA0000 + 0x1000 * n.val)).setF (F.PLK_STATUS_link_up.at n.val) → f.mode ≠ .shadow →
    exec (.plcEnable n v) ⟨d, q⟩ = .next ⟨((f.wr (F.PLK_SFN_sfn.at n.val) 0).modPlc n.val
      (fun (c : Plc) => { c with fresh := true })).plcListen n.val, q⟩)
  ∧ (∀ (n : Fin 16) (d e : Dev) (q : List Instr), d.plcRuns n.val = true →
    d.on (F.PLK_STATUS_listening.at n.val) = true → d.mode ≠ .shadow →
    e = (d.clrF (F.PLK_STATUS_listening.at n.val)).modPlc n.val (fun (c : Plc) => { c with partner := false }) →
    exec (.plcListenEnd n) ⟨d, q⟩
      = .next ⟨if (e.plc n.val).alien then e else e.setF (F.PLK_STATUS_beaconing.at n.val), q⟩)
  ∧ (∀ (n : Fin 16) (d e : Dev) (q : List Instr), e = d.setF (F.PLK_CTRL_beacon_force.at n.val) →
    e.plcRuns n.val = true → e.mode ≠ .shadow → exec (.plcBeaconForce n) ⟨d, q⟩
      = .next ⟨((e.clrF (F.PLK_STATUS_listening.at n.val)).setF (F.PLK_STATUS_beaconing.at n.val)).clrF
          (F.PLK_CTRL_beacon_force.at n.val), q⟩)
  ∧ (∀ (n : Fin 16) (v : Word) (b : PlcBind) (d : Dev) (q : List Instr), mget? (d.plc n.val).binds (bits v.toNat 0 12) = some b →
    b.freed = none → exec (.plcAtSelWrite n v) ⟨d, q⟩
      = .next ⟨((((((d.wr (F.PLK_AT_SEL_addr.at n.val) (bits v.toNat 0 12)).setF (F.PLK_AT_SEL_valid.at n.val)).wr
          (F.PLK_AT_EUI_LO_eui.at n.val) b.eui).wr (F.PLK_AT_INFO_state.at n.val) 1).wr (F.PLK_AT_INFO_misses.at n.val)
          (min b.misses 15)).wr (F.PLK_AT_INFO_ul_mod.at n.val) b.ulMod).wr (F.PLK_AT_INFO_offset.at n.val) b.offset, q⟩)
  ∧ (∀ (n : Fin 16) (fs : List Nat) (d e f : Dev) (q : List Instr),
    fs = ((d.plc n.val).faults.filter (fun t => d.tick < t + zeroAs (d.rd (F.PLK_ERR_CFG_window.at n.val)) 1 * sNs)) ++ [d.tick] →
    e = d.modPlc n.val (fun (c : Plc) => { c with faults := fs }) →
    f = (e.plcEvent n.val F.PLK_EVENT_fault).trouble 0x27 1 4 1 n.val fs.length →
    (f.rd (F.PLK_ERR_CFG_retire_thr.at n.val) = 0 ∨ fs.length < f.rd (F.PLK_ERR_CFG_retire_thr.at n.val)) →
    exec (.plcTransientFault n) ⟨d, q⟩ = .next ⟨f, q⟩)
  ∧ (∀ (n : Fin 16) (cause : BitVec 8) (d e : Dev) (q : List Instr),
    e = (if cause.toNat = 2 then d.clrF (F.PLK_STATUS_link_up.at n.val) else d) → exec (.plcPermanentFault n cause) ⟨d, q⟩
    = .next ⟨(e.plcEvent n.val F.PLK_EVENT_fault).plcRetire n.val cause.toNat, q⟩)

/-- A running channel checks a PSDU's form, PAN, address, FCS and payload; a frame that breaks the form or is of another PAN is
counted and discarded. A DATA frame, in the clear from a provisional meter and secured from another, enters the receive FIFO
behind its prefix. A MACK ends the frame in the air. An ASSOC_REQ is refused while association is closed, or binds an
address and starts a parent change. A ROUTE_ACK advances its change; a KEEP refreshes the meter; a LEAVE ends the binding. A
CONN_REQ that follows an accepting ADV opens a connection or is refused. Another coordinator's beacon sets foreign_coord.
(R310, R312, R315, R317, R320, R321, R323, R326, R330, R333, R338) -/
def Obligations.RadioReceptionCommandsComplete : Prop :=
  (∀ (n : Fin 12) (m : MzkRx) (d : Dev) (q : List Instr), d.mzkRuns n.val = true →
    radHdr (d.mzkSched n.val) m.bytes = none →
    exec (.mzkRxMack n m) ⟨d, q⟩ = .next ⟨d.bump (F.MZK_CNT_RX_rx_bad.at n.val), q⟩
    ∧ exec (.mzkRxAssocReq n m) ⟨d, q⟩ = .next ⟨d.bump (F.MZK_CNT_RX_rx_bad.at n.val), q⟩
    ∧ exec (.mzkRxRouteAck n m) ⟨d, q⟩ = .next ⟨d.bump (F.MZK_CNT_RX_rx_bad.at n.val), q⟩
    ∧ exec (.mzkRxLeave n m) ⟨d, q⟩ = .next ⟨d.bump (F.MZK_CNT_RX_rx_bad.at n.val), q⟩
    ∧ exec (.mzkRxConnReq n m) ⟨d, q⟩ = .next ⟨d.bump (F.MZK_CNT_RX_rx_bad.at n.val), q⟩)
  ∧ (∀ (n : Fin 12) (m : MzkRx) (h : RadHdr) (b : RadBind) (pre : List Byte) (d e : Dev) (q : List Instr),
    d.mzkRuns n.val = true → d.mzkSched n.val = false → radHdr false m.bytes = some h →
    h.pan = d.mzkPan n.val → h.mtype = 1 → h.dst = 0 → h.final = 0 → fcsOk m.bytes = true → h.formOk = true → d.mzkWho n.val h.orig = some b →
    b.own.isSome = true → h.level = 0 → (parseFrame h.body).ftype = 0 →
    pre = mkPrefix m.stamp.toNat (d.mzkAttach n.val h.orig) 0x7FFFFFFF h.body.length (min h.pathq (rxQuality m)) 0 0 0 →
    d.fifoRoom (mzkFq n.val) 128 (pre ++ h.body) = true → e = d.mzkHeard n.val h h.orig m.rssi → e.mzkSched n.val = false →
    exec (.mzkRxData n m) ⟨d, q⟩ = .next ⟨(e.fifoPush (mzkFq n.val) 128 (pre ++ h.body)).cellPump n.val, q⟩)
  ∧ (∀ (n : Fin 12) (m : MzkRx) (h : RadHdr) (b : RadBind) (pre frame : List Byte) (acc : Nat → Dev → Dev) (d e f : Dev)
    (q : List Instr), d.mzkRuns n.val = true → d.mzkSched n.val = false → radHdr false m.bytes = some h →
    h.pan = d.mzkPan n.val → h.mtype = 1 → h.dst = 0 → h.final = 0 → fcsOk m.bytes = true → h.formOk = true → d.mzkWho n.val h.orig = some b →
    b.own = none → ((d.recOf b.eui).map (fun i => lnkProv (d.lnkOf i))).getD true = false →
    d.mzkSecure n.val 1 h b = (e, some (frame, acc)) →
    pre = mkPrefix m.stamp.toNat (e.mzkAttach n.val h.orig) 0x7FFFFFFF frame.length (min h.pathq (rxQuality m)) 0 0 0 →
    e.fifoRoom (mzkFq n.val) 128 (pre ++ frame) = true → f = (acc (rxQuality m) e).mzkHeard n.val h h.orig m.rssi →
    f.mzkSched n.val = false →
    exec (.mzkRxData n m) ⟨d, q⟩ = .next ⟨(f.fifoPush (mzkFq n.val) 128 (pre ++ frame)).cellPump n.val, q⟩)
  ∧ (∀ (n : Fin 12) (m : MzkRx) (h : RadHdr) (t : RadTx) (l : List RadTx) (d e : Dev) (q : List Instr),
    d.mzkRuns n.val = true → d.mzkSched n.val = false → radHdr false m.bytes = some h →
    h.pan = d.mzkPan n.val → h.mtype = 3 → h.dst = 0 → h.final = 0 → fcsOk m.bytes = true → h.formOk = true →
    e = (d.bump (F.MZK_CNT_RX_frames_ok.at n.val)).sample 0x0C n.val (uns 64 m.rssi) → (e.rad n.val).txq = t :: l → (e.rad n.val).flying = true →
    t.seq = byteAt h.body 0 → exec (.mzkRxMack n m) ⟨d, q⟩ = .next ⟨(e.cellDrop n.val t false).cellPump n.val, q⟩)
  ∧ (∀ (n : Fin 12) (m : MzkRx) (h : RadHdr) (d e : Dev) (q : List Instr), d.mzkRuns n.val = true →
    d.mzkSched n.val = false → radHdr false m.bytes = some h → h.pan = d.mzkPan n.val → h.mtype = 4 → h.dst = 0 → h.final = 0 →
    fcsOk m.bytes = true → h.formOk = true → e = ((d.bump (F.MZK_CNT_RX_frames_ok.at n.val)).sample 0x0C n.val (uns 64 m.rssi)).mzkMackOnly n.val h → e.mode ≠ .shadow →
    e.on (F.MZK_CTRL_assoc_open.at n.val) = false →
    exec (.mzkRxAssocReq n m) ⟨d, q⟩ = .next ⟨(e.radAssocRsp n.val (leAt h.body 0 8) 2 0 0xFFFF 0 (some (h.src.getD 0xFFFE))
      false).cellPump n.val, q⟩)
  ∧ (∀ (n : Fin 12) (m : MzkRx) (h : RadHdr) (a : Nat) (p : Nat × Nat × Nat) (d e : Dev) (q : List Instr),
    d.mzkRuns n.val = true →
    d.mzkSched n.val = false → radHdr false m.bytes = some h → h.pan = d.mzkPan n.val → h.mtype = 4 → h.dst = 0 → h.final = 0 →
    fcsOk m.bytes = true → h.formOk = true → e = ((d.bump (F.MZK_CNT_RX_frames_ok.at n.val)).sample 0x0C n.val (uns 64 m.rssi)).mzkMackOnly n.val h → e.mode ≠ .shadow →
    e.on (F.MZK_CTRL_assoc_open.at n.val) = true →
    e.radPick n.val (leAt h.body 0 8) = some a → h.src = none → e.pickParent n.val a (some (rxQuality m))
      ((List.range (byteAt h.body 9)).map (fun k => (leAt h.body (10 + 4 * k) 2, byteAt h.body (12 + 4 * k)))) = some p →
    exec (.mzkRxAssocReq n m) ⟨d, q⟩ = .next ⟨((e.radBind n.val a (leAt h.body 0 8) (b2n (e.known (leAt h.body 0 8)).isNone
      + 2 * b2n (bit (byteAt h.body 8) 1) + 4 * bits (byteAt h.body 8) 2 3) none).changeStart n.val a p.1 p.2.1 p.2.2).cellPump n.val, q⟩)
  ∧ (∀ (n : Fin 12) (m : MzkRx) (h : RadHdr) (b : RadBind) (x : RadChange) (body : List Byte) (acc : Nat → Dev → Dev) (d e f : Dev)
    (q : List Instr), d.mzkRuns n.val = true → d.mzkSched n.val = false → radHdr false m.bytes = some h →
    h.pan = d.mzkPan n.val → h.mtype = 7 → h.dst = 0 → h.final = 0 → fcsOk m.bytes = true → h.formOk = true → (d.rad n.val).bound h.orig = some b →
    d.mzkSecure n.val 5 h b = (e, some (body, acc)) → f = (acc (rxQuality m) e).mzkHeard n.val h h.orig m.rssi →
    (f.rad n.val).changes.find? (fun x => (x.toAck.head?.map (·.1)) == some h.orig && x.ver == leAt body 0 2) = some x →
    exec (.mzkRxRouteAck n m) ⟨d, q⟩ = .next ⟨(f.changeGo n.val { x with toAck := x.toAck.drop 1, tries := 0 }).cellPump n.val, q⟩)
  ∧ (∀ (n : Fin 12) (m : MzkRx) (h : RadHdr) (b : RadBind) (body : List Byte) (acc : Nat → Dev → Dev) (d e f : Dev) (q : List Instr),
    d.mzkRuns n.val = true → d.mzkSched n.val = false → radHdr false m.bytes = some h →
    h.pan = d.mzkPan n.val → h.mtype = 8 → h.dst = 0 → h.final = 0 → fcsOk m.bytes = true → h.formOk = true → d.mzkWho n.val h.orig = some b →
    d.mzkSecure n.val 1 h b = (e, some (body, acc)) → f = (acc (rxQuality m) e).mzkHeard n.val h h.orig m.rssi → f.mzkSched n.val = false →
    exec (.mzkRxKeep n m) ⟨d, q⟩ = .next ⟨f.cellPump n.val, q⟩)
  ∧ (∀ (n : Fin 12) (m : MzkRx) (h : RadHdr) (b : RadBind) (body : List Byte) (acc : Nat → Dev → Dev) (d e f : Dev) (q : List Instr),
    d.mzkRuns n.val = true → d.mzkSched n.val = false → radHdr false m.bytes = some h →
    h.pan = d.mzkPan n.val → h.mtype = 9 → h.dst = 0 → h.final = 0 → fcsOk m.bytes = true → h.formOk = true → d.mzkWho n.val h.orig = some b →
    d.mzkSecure n.val 5 h b = (e, some (body, acc)) → f = (acc (rxQuality m) e).mzkHeard n.val h h.orig m.rssi →
    exec (.mzkRxLeave n m) ⟨d, q⟩ = .next ⟨(f.mzkUnbind n.val h.orig).cellPump' n.val, q⟩)
  ∧ (∀ (n : Fin 12) (m : MzkRx) (h : RadHdr) (c rf : Nat) (p : Nat × Nat × Nat × Nat) (d u e f : Dev) (q : List Instr),
    d.mzkRuns n.val = true → d.mzkSched n.val = true → radHdr true m.bytes = some h → h.pan = d.mzkPan n.val →
    h.mtype = 0xB → h.dst = 0 → h.final = 0 → fcsOk m.bytes = true → h.formOk = true → u = (d.bump (F.MZK_CNT_RX_frames_ok.at n.val)).sample 0x0C n.val (uns 64 m.rssi) →
    e = u.modRad n.val (fun (c : Rad) => { c with accept := false }) → (u.rad n.val).accept = true → e.mode ≠ .shadow → h.src = none → e.on (F.MZK_CTRL_assoc_open.at n.val) = true → e.radPick n.val h.ext = some c →
    rf = u.advCh n.val ((u.rad n.val).advIdx + 2) → p = (((e.rad n.val).bound c).map (e.connPar n.val c)).getD (e.connDefault n.val) →
    e.parOk n.val p.1 p.2.1 p.2.2.2 = true → f = e.radBind n.val c h.ext (b2n (e.known h.ext).isNone) (some p) →
    exec (.mzkRxConnReq n m) ⟨d, q⟩ = .next ⟨(f.connRsp n.val c 0
      ((f.eventFrom n.val c p (f.dwnNs f.tick + 2 * p.1 * msNs)) % 65536) rf p (f.known h.ext)).1, q⟩)
  ∧ (∀ (n : Fin 12) (m : MzkRx) (h : RadHdr) (d u e : Dev) (q : List Instr),
    d.mzkRuns n.val = true → d.mzkSched n.val = true → radHdr true m.bytes = some h → h.pan = d.mzkPan n.val →
    h.mtype = 0xB → h.dst = 0 → h.final = 0 → fcsOk m.bytes = true → h.formOk = true → u = (d.bump (F.MZK_CNT_RX_frames_ok.at n.val)).sample 0x0C n.val (uns 64 m.rssi) →
    e = u.modRad n.val (fun (c : Rad) => { c with accept := false }) → (u.rad n.val).accept = true → e.mode ≠ .shadow → h.src = none → e.on (F.MZK_CTRL_assoc_open.at n.val) = false →
    exec (.mzkRxConnReq n m) ⟨d, q⟩
      = .next ⟨(e.connRsp n.val 0 2 0 (u.advCh n.val ((u.rad n.val).advIdx + 2)) (0, 0, 0, 0) none).1, q⟩)
  ∧ (∀ (n : Fin 12) (s r : BitVec 16) (d : Dev) (q : List Instr), d.mzkRuns n.val = true → d.mode ≠ .shadow →
    (d.rad n.val).partner = false → exec (.mzkRxBeacon n s r) ⟨d, q⟩
      = .next ⟨((d.setF (F.MZK_STATUS_foreign_coord.at n.val)).mzkEvent n.val F.MZK_EVENT_foreign_coord).modRad n.val
        (fun (c : Rad) => { c with alien := true }), q⟩)
  ∧ (∀ (n : Fin 12) (s r : BitVec 16) (d : Dev) (q : List Instr), d.mzkRuns n.val = true → d.mode = .shadow →
    exec (.mzkRxBeacon n s r) ⟨d, q⟩ = .next ⟨d.modRad n.val (fun (c : Rad) => { c with bseq := s.toNat, routeVer := r.toNat }), q⟩)
  ∧ (∀ (n : Fin 12) (m : MzkRx) (h : RadHdr) (d : Dev) (q : List Instr), d.mzkRuns n.val = true →
    radHdr (d.mzkSched n.val) m.bytes = some h → h.pan ≠ d.mzkPan n.val →
    exec (.mzkRxMack n m) ⟨d, q⟩ = .next ⟨d.bump (F.MZK_CNT_RX_rx_bad.at n.val), q⟩ ∧ exec (.mzkRxAssocReq n m) ⟨d, q⟩ = .next ⟨d.bump (F.MZK_CNT_RX_rx_bad.at n.val), q⟩
    ∧ exec (.mzkRxRouteAck n m) ⟨d, q⟩ = .next ⟨d.bump (F.MZK_CNT_RX_rx_bad.at n.val), q⟩ ∧ exec (.mzkRxLeave n m) ⟨d, q⟩ = .next ⟨d.bump (F.MZK_CNT_RX_rx_bad.at n.val), q⟩
    ∧ exec (.mzkRxConnReq n m) ⟨d, q⟩ = .next ⟨d.bump (F.MZK_CNT_RX_rx_bad.at n.val), q⟩)

/-- In Cell mode a beacon goes out every bi with the next sequence number; a frame without MACK is tried again, four times in
each of four attempts; a ROUTE frame is sent again; a meter silent for cell_silent is reported lost. Below dc_limit
transmission resumes. A released broadcast joins its queue. Enabling a channel that is soundly configured commits its
settings and starts its listen, at whose end it transmits unless another coordinator was heard, and provisional meters on
record are promoted; beacon_force transmits anyway. A transient fault counts in its window; a permanent one retires the
channel. (R307, R319, R320, R323, R326, R335, R337, R338) -/
def Obligations.RadioChannelEventsComplete : Prop :=
  (∀ (n : Fin 12) (flags seq : Nat) (body : List Byte) (d e f g : Dev) (q : List Instr), d.mzkSched n.val = false →
    d.mzkSends n.val = true → d.on (F.MZK_STATUS_dc_hold.at n.val) = false →
    e = d.modRad n.val (fun (c : Rad) => { c with bseq := (c.bseq + 1) % 65536 }) → f = e.drawn →
    flags = b2n (f.mode == .storm) + 2 * e.freeVal 1 + 4 * b2n (!f.on (F.MZK_CTRL_assoc_open.at n.val)) →
    body = leBytes 1 flags ++ zeros 1 ++ leBytes 2 (f.rad n.val).bseq ++ leBytes 2 (f.rad n.val).routeVer
      ++ leBytes 2 (f.rd (F.MZK_CELL_cell_silent.at n.val) / 4) ++ leBytes 1 Config.stormSpread.toNat ++ zeros 3 →
    f.mzkSeq n.val = (g, seq) → exec (.mzkBeaconSend n) ⟨d, q⟩
      = .next ⟨((g.mzkOut n.val (g.fixedCh n.val) (g.mzkPreamble n.val) 1 (psdu (g.mzkPan n.val) 0xFFFF seq []
          (leBytes 1 0x10 ++ zeros 1 ++ body))).1).cellPump n.val, q⟩)
  ∧ (∀ (n : Fin 12) (t : RadTx) (l : List RadTx) (d : Dev) (q : List Instr), (d.rad n.val).flying = true →
    (d.rad n.val).txq = t :: l → t.tries < 3 → t.attempts < 4 → exec (.mzkMackTimeout n false) ⟨d, q⟩
      = .next ⟨(d.modRad n.val (fun (c : Rad) =>
          { c with txq := { t with tries := t.tries + 1 } :: c.txq.drop 1, flying := false })).cellPump n.val, q⟩)
  ∧ (∀ (n : Fin 12) (t : RadTx) (l : List RadTx) (d : Dev) (q : List Instr), (d.rad n.val).flying = true →
    (d.rad n.val).txq = t :: l → t.tries = 3 → t.attempts = 3 → exec (.mzkMackTimeout n false) ⟨d, q⟩
      = .next ⟨(d.cellDrop n.val t true).cellPump n.val, q⟩)
  ∧ (∀ (n : Fin 12) (a : BitVec 16) (x : RadChange) (d : Dev) (q : List Instr),
    (d.rad n.val).changes.find? (fun x => x.meter == a.toNat) = some x →
    exec (.mzkRouteAckTimeout n a) ⟨d, q⟩
      = .next ⟨(d.changeGo n.val (if x.tries < 3 then x else { x with toAck := x.all, tries := 0 })).cellPump n.val, q⟩)
  ∧ (∀ (n : Fin 12) (a : BitVec 16) (b : RadBind) (d e : Dev) (q : List Instr), (d.rad n.val).bound a.toNat = some b →
    d.mzkSched n.val = false → d.mzkSends n.val = true → d.rd (F.MZK_CELL_cell_silent.at n.val) ≠ 0 →
    e = (d.mzkEvent n.val F.MZK_EVENT_lost).mzkUnbind n.val a.toNat →
    exec (.mzkCellSilent n a) ⟨d, q⟩ = .next ⟨(((e.recOf b.eui).map e.attachLost).getD e).cellPump n.val, q⟩)
  ∧ (∀ (n : Fin 12) (d e : Dev) (q : List Instr), d.mzkDutyHit n.val = false → e = d.clrF (F.MZK_STATUS_dc_hold.at n.val) →
    exec (.mzkDcRelease n) ⟨d, q⟩ = .next ⟨if e.mzkSched n.val then e.schedIdle n.val else e.cellPump n.val, q⟩)
  ∧ (∀ (n : Fin 12) (f : DlFrame) (c : Rad) (d e : Dev) (q : List Instr), d.mzkRuns n.val = true →
    d.mode ≠ .shadow → c = d.rad n.val → d.dlTake (16 + n.val) (fun f => if f.dest = 2 then c.bcast.length < 16
      else c.frames.length - c.bcast.length < 64) = (e, some f) → e.mzkSched n.val = false → f.dest = 2 →
    exec (.mzkDlRelease n) ⟨d, q⟩
      = .next ⟨(e.modRad n.val (fun (c : Rad) => { c with bcast := c.bcast ++ [f] })).cellPump n.val, q⟩)
  ∧ (∀ (n : Fin 12) (f : DlFrame) (c : Rad) (d e : Dev) (q : List Instr), d.mzkRuns n.val = true →
    d.mode ≠ .shadow → c = d.rad n.val → d.dlTake (16 + n.val) (fun f => if f.dest = 2 then c.bcast.length < 16
      else c.frames.length - c.bcast.length < 64) = (e, some f) → e.mzkSched n.val = false → f.dest ≠ 2 →
    exec (.mzkDlRelease n) ⟨d, q⟩
      = .next ⟨(e.cellPut n.val { job := .dl f, final := atShort f.attach }).cellPump n.val, q⟩)
  ∧ (∀ (n : Fin 12) (v : Word) (d e f : Dev) (q : List Instr), d.on (F.MZK_CTRL_enable.at n.val) = false →
    e = (d.regWrite32 (0xB0000 + 0x1000 * n.val) v.toNat).clrF (F.MZK_CTRL_beacon_force.at n.val) →
    e.on (F.MZK_CTRL_enable.at n.val) = true → e.inDram e.mzkTbl 0x1000000 = true → 4 ≤ e.mzkPreamble n.val →
    e.mzkPreamble n.val ≤ 1000 → e.fixedCh n.val ≤ e.mzkTop n.val →
    f = ((e.commitRwl (0xB0000 + 0x1000 * n.val)).commitRwl 0xBC000).setF (F.MZK_STATUS_link_up.at n.val) →
    exec (.mzkEnable n v) ⟨d, q⟩ = .next ⟨(if f.rd (F.MZK_EPOCH_epoch_s.at n.val) = 0 then f.wr (F.MZK_EPOCH_epoch_s.at n.val) f.dwnNow
      else f).mzkSyncCh n.val, q⟩)
  ∧ (∀ (n : Fin 12) (d e : Dev) (q : List Instr), d.mzkRuns n.val = true →
    d.on (F.MZK_STATUS_listening.at n.val) = true → d.mode ≠ .shadow →
    e = (d.clrF (F.MZK_STATUS_listening.at n.val)).modRad n.val (fun (c : Rad) => { c with partner := false }) →
    (e.rad n.val).alien = true → exec (.mzkListenEnd n) ⟨d, q⟩ = .next ⟨e.mzkPromote, q⟩)
  ∧ (∀ (n : Fin 12) (d e f : Dev) (q : List Instr), d.mzkRuns n.val = true →
    d.on (F.MZK_STATUS_listening.at n.val) = true → d.mode ≠ .shadow →
    e = (d.clrF (F.MZK_STATUS_listening.at n.val)).modRad n.val (fun (c : Rad) => { c with partner := false }) →
    (e.rad n.val).alien = false → f = e.setF (F.MZK_STATUS_transmitting.at n.val) →
    exec (.mzkListenEnd n) ⟨d, q⟩ = .next ⟨(if f.mzkSched n.val then f.schedIdle n.val else f.cellPump n.val).mzkPromote, q⟩)
  ∧ (∀ (n : Fin 12) (d e : Dev) (q : List Instr), e = d.setF (F.MZK_CTRL_beacon_force.at n.val) →
    e.mzkRuns n.val = true → e.mode ≠ .shadow → exec (.mzkBeaconForce n) ⟨d, q⟩
      = .next ⟨((e.clrF (F.MZK_STATUS_listening.at n.val)).setF (F.MZK_STATUS_transmitting.at n.val)).clrF
          (F.MZK_CTRL_beacon_force.at n.val), q⟩)
  ∧ (∀ (n : Fin 12) (fs : List Nat) (d e f : Dev) (q : List Instr),
    fs = ((d.rad n.val).faults.filter (fun t => d.tick < t + zeroAs (d.rd (F.MZK_ERR_CFG_window.at n.val)) 1 * sNs)) ++ [d.tick] →
    e = d.modRad n.val (fun (c : Rad) => { c with faults := fs }) →
    f = (e.mzkEvent n.val F.MZK_EVENT_fault).trouble 0x28 1 4 2 n.val fs.length →
    (f.rd (F.MZK_ERR_CFG_retire_thr.at n.val) = 0 ∨ fs.length < f.rd (F.MZK_ERR_CFG_retire_thr.at n.val)) →
    exec (.mzkTransientFault n) ⟨d, q⟩ = .next ⟨f, q⟩)
  ∧ (∀ (n : Fin 12) (cause : BitVec 8) (d e f : Dev) (q : List Instr),
    e = (if cause.toNat = 2 then d.clrF (F.MZK_STATUS_link_up.at n.val) else d) →
    f = (if cause.toNat = 3 then e.mzkEvent n.val F.MZK_EVENT_tune_err else e) → exec (.mzkPermanentFault n cause) ⟨d, q⟩
    = .next ⟨(f.mzkEvent n.val F.MZK_EVENT_fault).mzkRetire n.val cause.toNat, q⟩)

/-- At an event's anchor the device opens the exchange, or skips an event that the last one or the duty cycle reaches into. An
ADV goes out in idle time and says whether it accepts. A silent event counts a miss, and at rec_miss recovery is raised.
When sup_timeout passes the attachment is reported lost and the connection held for conn_hold, then freed. At its instant a
CONN_UPD takes effect. Suspended events resume once no campaign broadcast is queued. (R327, R329, R330, R331, R332, R333,
R334) -/
def Obligations.ScheduleModeEventsComplete : Prop :=
  (∀ (n : Fin 12) (c : BitVec 13) (e : Nat) (u : Option ConnUpd) (b : RadBind) (d : Dev) (q : List Instr),
    (d.rad n.val).bound c.toNat = some b → d.mzkSched n.val = true → d.mzkSends n.val = true → d.connHeld n.val b = false →
    (d.anchorAt n.val c.toNat (d.connPar n.val c.toNat b) e < (d.rad n.val).evEnd + d.settleNs n.val
      ∨ d.on (F.MZK_STATUS_dc_hold.at n.val) = true) →
    exec (.mzkEventAnchor n c e u) ⟨d, q⟩ = .next ⟨d.bump (F.MZK_CNT_SCHED_skipped.at n.val), q⟩)
  ∧ (∀ (n : Fin 12) (c : BitVec 13) (e : Nat) (t : Int) (b : RadBind) (d : Dev) (q : List Instr),
    (d.rad n.val).bound c.toNat = some b → d.mzkSched n.val = true → d.mzkSends n.val = true → d.connHeld n.val b = false →
    t = d.anchorAt n.val c.toNat (d.connPar n.val c.toNat b) e → ¬ t < (d.rad n.val).evEnd + d.settleNs n.val →
    d.on (F.MZK_STATUS_dc_hold.at n.val) = false →
    exec (.mzkEventAnchor n c e none) ⟨d, q⟩ = .next ⟨((d.modBind n.val c.toNat (fun (b : RadBind) => { b with evAt := t })).modRad n.val
      (fun (r : Rad) => { r with evEnd := t, accept := false })).connExchange n.val c.toNat e true 0 0, q⟩)
  ∧ (∀ (n : Fin 12) (d e : Dev) (rf t sn : Nat) (body : List Byte) (acc : Bool) (x : Dev × Bool) (q : List Instr), d.mzkSched n.val = true →
    d.mzkSends n.val = true → d.on (F.MZK_STATUS_dc_hold.at n.val) = false → d.mzkIdle n.val = none →
    acc = d.on (F.MZK_CTRL_assoc_open.at n.val) → t = (d.dwnNs d.tick + d.octets n.val (d.mzkPreamble n.val + 2)).toNat →
    body = leBytes 4 (d.rd (F.MZK_EPOCH_epoch_s.at n.val)) ++ leBytes 4 (t / 1000000000) ++ leBytes 4 (t % 1000000000)
      ++ leBytes 2 (d.rd (F.MZK_SCHED_stride_us.at n.val)) ++ leBytes 1 (d.rd (F.MZK_TIMING_dev_ppm.at n.val))
      ++ leBytes 1 (b2n (d.mode == .storm) + 2 * b2n acc) → rf = d.advCh n.val (d.rad n.val).advIdx →
    (d.modRad n.val (fun (c : Rad) => { c with advIdx := (c.advIdx + 1) % 3 })).mzkSeqOpen = (e, sn) →
    x = e.mzkOut n.val rf (d.mzkPreamble n.val) 1 (psdu (e.mzkPan n.val) 0xFFFF sn [] (leBytes 1 0x1A ++ zeros 1 ++ body)) →
    exec (.mzkAdvSend n) ⟨d, q⟩
      = .next ⟨(x.1.modRad n.val (fun (c : Rad) => { c with accept := x.2 && acc })).schedIdle n.val, q⟩)
  ∧ (∀ (n : Fin 12) (c : BitVec 13) (b : RadBind) (u : RadUpd) (d : Dev) (q : List Instr), (d.rad n.val).bound c.toNat = some b →
    b.upd = some u → b.flight = none →
    (d.modBind n.val c.toNat (fun (b : RadBind) =>
      { b with upd := none, par := some (u.interval, u.sup, u.ofs, u.map), flight := none })).recOf b.eui = none →
    exec (.mzkConnUpdInstant n c) ⟨d, q⟩ = .next ⟨d.modBind n.val c.toNat (fun (b : RadBind) =>
      { b with upd := none, par := some (u.interval, u.sup, u.ofs, u.map), flight := none }), q⟩)
  ∧ (∀ (n : Fin 12) (c : BitVec 13) (b : RadBind) (d e f : Dev) (q : List Instr), (d.rad n.val).bound c.toNat = some b →
    d.mzkSched n.val = true → d.mzkSends n.val = true → d.connHeld n.val b = false →
    e = (d.mzkEvent n.val F.MZK_EVENT_lost).modBind n.val c.toNat (fun (b : RadBind) => { b with lost := true }) →
    f = ((e.recOf b.eui).map e.attachLost).getD e → exec (.mzkSupTimeout n c) ⟨d, q⟩
      = .next ⟨if f.rd (F.MZK_HOLD_conn_hold.at n.val) = 0 then f.mzkConnFree n.val c.toNat b else f, q⟩)
  ∧ (∀ (n : Fin 12) (c : BitVec 13) (b : RadBind) (d : Dev) (q : List Instr), (d.rad n.val).bound c.toNat = some b → b.lost = true →
    d.mzkSends n.val = true → exec (.mzkConnHoldExpiry n c) ⟨d, q⟩ = .next ⟨d.mzkConnFree n.val c.toNat b, q⟩)
  ∧ (∀ (n : Fin 12) (d : Dev) (q : List Instr), (d.rad n.val).bcast = [] →
    exec (.mzkResumeTimeout n) ⟨d, q⟩ = .next ⟨d.clrF (F.MZK_STATUS_suspended.at n.val), q⟩)
  ∧ (∀ (n : Fin 12) (c : BitVec 13) (k : Nat) (b : RadBind) (d e : Dev) (q : List Instr), (d.rad n.val).bound c.toNat = some b →
    d.mzkSched n.val = true → d.mzkSends n.val = true → d.connHeld n.val b = false → b.flight = none →
    k = satAdd 255 (lnkMisses (d.bindLnk b)) 1 →
    e = (d.bump (F.MZK_CNT_SCHED_missed.at n.val)).setLnk n.val c.toNat (fun e => setByts e 13 1 k) →
    exec (.mzkSilentEvent n c) ⟨d, q⟩ = .next ⟨(if k = zeroAs (e.rd (F.MZK_SCHED_rec_miss.at n.val)) 1
      then e.mzkEvent n.val F.MZK_EVENT_recovery else e).schedIdle n.val, q⟩)

/-- A scheme write under which the scheme in force is already the wanted one changes nothing else; a rate write begins a
segment, or under the hardware servo only sets rate_rej. A step changes device time by s in a new segment with source 379
and a STEP event; under the tick scheme a slew runs at slew_ppb and ends with source 380; a set makes device time TSU_SET.
An invalid PPS capture is counted; a valid one is entered with its error and event, source 376. Without a valid capture for
2 s holdover begins, source 377. At whole seconds the TSU writes the RTC; a write of TSU_RTC_SEC sets it. (R341, R343, R345,
R346, R347, R349, R350, R351, R352, R354, R362) -/
def Obligations.DeviceTimeCommandsComplete : Prop :=
  (∀ (x : Bool) (d e : Dev) (q : List Instr), e = d.flag F.TSU_CTRL_scheme x → e.schemeWanted = e.on F.TSU_STATUS_scheme →
    exec (.tsuSchemeWrite x) ⟨d, q⟩ = .next ⟨e, q⟩)
  ∧ (∀ (d e f : Dev) (q : List Instr), e = d.flag F.TSU_CTRL_scheme true → e.schemeWanted = true → e.on F.TSU_STATUS_scheme = false →
    d.tsu.slew = none → f = e.newSeg (fun g => { g with byTick := true, rate := e.rateReg }) →
    exec (.tsuSchemeWrite true) ⟨d, q⟩
      = .next ⟨((((f.flag F.TSU_STATUS_scheme true).setF F.TSU_STATUS_acquire).clrF F.TSU_STATUS_handover_pend).raise 381).timeEvent
          4 1 0, q⟩)
  ∧ (∀ (v : BitVec 64) (d : Dev) (q : List Instr), d.rd F.TSU_CTRL_servo = 1 →
    exec (.tsuRateWrite v) ⟨d, q⟩ = .next ⟨d.setF F.TSU_STATUS_rate_rej, q⟩)
  ∧ (∀ (v : BitVec 64) (d e : Dev) (q : List Instr), d.rd F.TSU_CTRL_servo ≠ 1 → e = d.wr F.TSU_RATE_LO_rate v.toNat →
    d.tsu.slew = none → exec (.tsuRateWrite v) ⟨d, q⟩ = .next ⟨(e.newSeg (fun g =>
      if g.byTick then { g with rate := e.rateReg } else g)).timeEvent 7 0 (ratePpb e.rateReg), q⟩)
  ∧ (∀ (d : Dev) (q : List Instr), d.tsu.slew = none →
    exec .tsuAdjStep ⟨d, q⟩ = .next ⟨d.applyStep (sgn 64 (d.rd F.TSU_ADJ_LO_s)), q⟩)
  ∧ (∀ (s : Int) (ppb : Nat) (d e : Dev) (q : List Instr), d.tsu.slew = none → d.on F.TSU_STATUS_scheme = true →
    s = sgn 64 (d.rd F.TSU_ADJ_LO_s) → ppb = zeroAs (d.rd F.TSU_SLEW_slew_ppb) 1 →
    e = { d with tsu := { d.tsu with slew := some { s := s, ppb := ppb, start := d.tick, cmd := none } } } →
    exec .tsuAdjSlew ⟨d, q⟩ = .next ⟨((e.newSeg (fun g => { g with
      rate := e.rateReg + (if s < 0 then -((ppb : Int) * 2 ^ 32) else (ppb : Int) * 2 ^ 32) })).setF F.TSU_STATUS_slewing).setF
        F.TSU_ADJ_CTRL_go, q⟩)
  ∧ (∀ (t : Nat) (d e : Dev) (q : List Instr), d.tsu.slew = none →
    t = d.rd F.TSU_SET_SEC_LO_sec * 1000000000 + d.rd F.TSU_SET_NS_ns → dwnEpoch ≤ t / 1000000000 → t / 1000000000 < 2 ^ 48 →
    e = (if d.rd F.TSU_STATUS_tstate < 2 then d.wr F.TSU_STATUS_tstate 1 else d) →
    exec .tsuAdjSet ⟨d, q⟩ = .next ⟨e.applyStep ((t : Int) - e.devNs), q⟩)
  ∧ (∀ (w : Slew) (x z : Nat) (more : Int) (d e f : Dev) (g : Option Int) (q : List Instr), d.tsu.slew = some w → w.cmd = none →
    x = w.start + (w.s.natAbs * 1000000000 + w.ppb - 1) / w.ppb → x ≤ d.tick →
    z = max x ((d.tsu.segs.head?.map (fun g => g.start)).getD 0) → more = ((z - x) * w.ppb / 1000000000 : Nat) →
    g = (d.segFor w.start).map (fun g => ({ g with rate := d.rateReg } : Seg).timeAt z + w.s) →
    e = { d with tsu := { d.tsu with slew := none } } →
    f = e.newSegAt z (fun y => { y with
      rate := d.rateReg
      base := if (d.tsu.segs.head?.map (fun g => g.start == w.start)).getD false then g.getD y.base
        else y.base - (if w.s < 0 then -more else more) }) →
    exec .slewEnd ⟨d, q⟩
      = .next ⟨(((f.clrF F.TSU_STATUS_slewing).clrF F.TSU_ADJ_CTRL_go).raise 380).timeEvent 9 0 w.s, q⟩)
  ∧ (∀ (p c : Nat) (d e : Dev) (q : List Instr), d.on F.TSU_CTRL_pps_edge = false → d.rd F.TSU_STATUS_tstate ≠ 3 →
    c = d.tick + d.rd F.TSU_ISLCAL_keyc / 4 → d.tsu.lastCap = some p → c - p + d.rd F.TSU_PPS_pps_tol * 1000 < 1000000000 →
    e = (d.fifoPush 0xC0120 16 (leBytes 8 c)).fifoPop 0xC0120 →
    exec (.ppsEdge false) ⟨d, q⟩ = .next ⟨e.bump F.TSU_CNT_pps_rej, q⟩)
  ∧ (∀ (c : Nat) (d e f : Dev) (x err : Int) (q : List Instr), d.on F.TSU_CTRL_pps_edge = false → d.rd F.TSU_STATUS_tstate ≠ 3 →
    c = d.tick + d.rd F.TSU_ISLCAL_keyc / 4 → d.tsu.lastCap = none → e = (d.fifoPush 0xC0120 16 (leBytes 8 c)).fifoPop 0xC0120 →
    x = e.timeAt c - sgn 16 (e.rd F.TSU_PPS_pps_cal) → err = x - (x + 500000000) / 1000000000 * 1000000000 →
    f = ((({ e with tsu := { e.tsu with lastCap := some c, lastValid := c } }).wr F.TSU_PPS_ERR_e (uns 32 err)).wr
      F.TSU_PPS_LAST_LO_tick c).sample 0x0A 0 (uns 64 err) → f.rd F.TSU_CTRL_servo ≠ 1 →
    exec (.ppsEdge false) ⟨d, q⟩ = .next ⟨(f.timeEvent 1 1 err).raise 376, q⟩)
  ∧ (∀ (d e : Dev) (q : List Instr), d.rd F.TSU_STATUS_tstate ≠ 3 → d.tsu.lastValid + 2000000000 ≤ d.tick →
    e = ((({ d with tsu := { d.tsu with lastCap := none } }).wr F.TSU_STATUS_tstate 3).setF F.TSU_STATUS_acquire).wr
      F.TSU_STATUS_lock_run 0 →
    exec .ppsHoldover ⟨d, q⟩ = .next ⟨(e.raise 377).timeEvent 2 0 (ratePpb e.rateReg), q⟩)
  ∧ (∀ (d : Dev) (q : List Instr), d.on F.TSU_STATUS_scheme = true → d.rd F.TSU_STATUS_tstate ≠ 0 → d.on F.TSU_CTRL_rtc_sync = true →
    exec .rtcSecondSync ⟨d, q⟩
      = .next ⟨({ d with rtc := { units := d.dwnNow * 32768, clk := d.clk } }).setF F.TSU_RTC_FRAC_rtc_valid, q⟩)
  ∧ (∀ (v : Word) (d : Dev) (q : List Instr), exec (.rtcSecWrite v) ⟨d, q⟩
    = .next ⟨({ d with rtc := { units := v.toNat * 32768, clk := d.clk } }).setF F.TSU_RTC_FRAC_rtc_valid, q⟩)

/-- Arming a pulse of unsound timing sets cfg_bad; one in the past that does not repeat sets late; otherwise the next pulse is
scheduled. At its time the leading edge is driven, width later the trailing edge. TE_BUF posts a buffer of whole events;
TE_ADJ steps, slews or sets, and its slew ends later; a waiting event goes into the oldest buffer with its completion. A
read of TSU_NOW_NS captures time and tick for its master; a write of TSU_CONV_TICK converts; a pop removes the oldest event.
(R359, R361, R362, R363, R367) -/
def Obligations.TimeOutputCommandsComplete : Prop :=
  (∀ (k : Fin 4) (d : Dev) (q : List Instr), d.rd (F.TSU_PULSE_WIDTH_width.at k.val) < 10 → exec (.pulseArm k) ⟨d, q⟩
    = .next ⟨(d.setF (F.TSU_PULSE_STAT_cfg_bad.at k.val)).clrF (F.TSU_PULSE_CTRL_arm.at k.val), q⟩)
  ∧ (∀ (k : Fin 4) (w per : Nat) (t : Int) (d : Dev) (q : List Instr), w = d.rd (F.TSU_PULSE_WIDTH_width.at k.val) →
    per = d.pulsePeriod k.val → 10 ≤ w → w < per → 1000 ≤ per → d.rd (F.TSU_PULSE_PER_NS_per_ns.at k.val) < 1000000000 →
    t = (d.rd (F.TSU_PULSE_START_SEC_LO_sec.at k.val) * 1000000000 + d.rd (F.TSU_PULSE_START_NS_ns.at k.val) : Nat) →
    exec (.pulseArm k) ⟨d, q⟩ = .next ⟨(d.setPulse k.val { d.pulse k.val with
      next := if t < d.devNs then t + ((d.devNs - t - 1) / per + 1) * per else t }).setF (F.TSU_PULSE_CTRL_arm.at k.val), q⟩)
  ∧ (∀ (k : Fin 4) (p : Pulse) (d e f : Dev) (q : List Instr), d.on (F.TSU_PULSE_CTRL_arm.at k.val) = true → p = d.pulse k.val →
    p.next ≤ d.devNs → d.pulsePeriod k.val ≠ 0 → e = d.setPulse k.val
      { next := p.next + d.pulsePeriod k.val, trail := some (p.next + d.rd (F.TSU_PULSE_WIDTH_width.at k.val)), leadTick := d.tick } →
    f = e.emit (.pulse k.val (true != e.on (F.TSU_PULSE_CTRL_polarity.at k.val))) →
    exec (.pulseLeadingEdge k) ⟨d, q⟩ = .next ⟨if f.on (F.TSU_PULSE_CTRL_pulse_evt.at k.val)
      then (f.timeEvent 6 k.val 0).raise (382 + k.val) else f, q⟩)
  ∧ (∀ (k : Fin 4) (p : Pulse) (t : Int) (d e : Dev) (q : List Instr), p = d.pulse k.val → p.trail = some t → t ≤ d.devNs →
    p.leadTick + 10 ≤ d.tick → e = d.setPulse k.val { p with trail := none } →
    exec (.pulseTrailingEdge k) ⟨d, q⟩ = .next ⟨e.emit (.pulse k.val (false != e.on (F.TSU_PULSE_CTRL_polarity.at k.val))), q⟩)
  ∧ (∀ (n : Fin 64) (w : BitVec 512) (l : List Byte) (d : Dev) (q : List Instr), wUnusedZero w [(8, 20)] = true → wReservedOk w = true →
    wLen w % 32 = 0 → 32 ≤ wLen w → wLen w ≤ 65536 → exec (.teBuf { via := .ring n, w := w, data := l }) ⟨d, q⟩
      = .next ⟨d.setPair n.val { d.pair n.val with bufs := (d.pair n.val).bufs ++ [{ w := w }] }, q⟩)
  ∧ (∀ (c : Desc) (d e : Dev) (q : List Instr), wUnusedZero c.w [(24, 33), (36, 46)] = true → wReservedOk c.w = true →
    wArg c.w 32 1 = 0 → d.tsu.slew = none → e = d.applyStep (sgn 64 (wArg c.w 24 8)) →
    exec (.teAdj c) ⟨d, q⟩ = .next ⟨e.okRes c d.tick, q⟩)
  ∧ (∀ (c : Desc) (s : Int) (ppb : Nat) (d e : Dev) (q : List Instr), wUnusedZero c.w [(24, 33), (36, 46)] = true →
    wReservedOk c.w = true → wArg c.w 32 1 = 1 → d.tsu.slew = none → d.on F.TSU_STATUS_scheme = true → s = sgn 64 (wArg c.w 24 8) →
    ppb = zeroAs (d.rd F.TSU_SLEW_slew_ppb) 1 →
    e = { d with tsu := { d.tsu with slew := some { s := s, ppb := ppb, start := d.tick, cmd := some c } } } →
    exec (.teAdj c) ⟨d, q⟩ = .next ⟨(e.newSeg (fun g => { g with
      rate := e.rateReg + (if s < 0 then -((ppb : Int) * 2 ^ 32) else (ppb : Int) * 2 ^ 32) })).setF F.TSU_STATUS_slewing, q⟩)
  ∧ (∀ (n : Nat) (it : List Byte) (b : PostedBuf) (t : List PostedBuf) (d e : Dev) (c : Cpl) (q : List Instr),
    ((d.enabledOf 7).filter d.active).head? = some n → d.fifoHead tsuFq1 = some it → (d.pair n).bufs = b :: t → d.hostReach = true →
    d.cqFull n = false → b.filled + 32 < wLen b.w →
    e = (({ (d.setPair n { d.pair n with bufs := { b with filled := b.filled + 32 } :: t }) with
      tsu := { d.tsu with teLost := 0 } }).fifoPop tsuFq1).evtShow →
    c = { seq := d.tsu.posted + 1 - (d.fifo tsuFq1).items.length, result := wAddr b.w + b.filled, result2 := d.tsu.teLost,
          tag := wTag b.w, status := 0, info := 0, irqNow := wIrqNow b.w, data := [(wAddr b.w + b.filled, it)] } →
    exec .timeEventDeliver ⟨d, q⟩ = .next ⟨e.queueCpl n c, q⟩)
  ∧ (∀ (m : BitVec 6) (d e : Dev) (q : List Instr), e = { d with tsu := { d.tsu with
      nowCap := mput d.tsu.nowCap m.toNat ((d.devNs % 1000000000).toNat, d.devSec, d.tick) } } →
    exec (.tsuNowRead m) ⟨d, q⟩ = .next ⟨e.emit (.readData m.toNat 0xC0010 (leBytes 4 (d.devNs % 1000000000).toNat) false), q⟩)
  ∧ (∀ (m : BitVec 6) (v : BitVec 64) (ns sec : Nat) (t : Int) (d e f : Dev) (q : List Instr),
    (d.wr F.TSU_CONV_TICK_LO_tick v.toNat).convert v.toNat = (e, t) → ns = (t % 1000000000).toNat →
    sec = (t / 1000000000).toNat % 2 ^ 48 → f = { e with tsu := { e.tsu with convCap := mput e.tsu.convCap m.toNat (ns, sec) } } →
    exec (.tsuConvWrite m v) ⟨d, q⟩ = .next ⟨(f.wr F.TSU_CONV_NS_ns ns).wr F.TSU_CONV_SEC_LO_sec sec, q⟩)
  ∧ (∀ (d : Dev) (q : List Instr), exec .tsuEvtPop ⟨d, q⟩ = .next ⟨(d.fifoPop tsuFq1).evtShow, q⟩)

/-- Enabling a port with a sound configuration commits it and runs it. A received frame with a bad FCS or size is counted; a
sound one is classified: a filter hit is steered, tunnelled or forwarded. A pause expires, or storms and is then ignored for
1 s; above xon it is re-sent, at xon a final one goes out with 0. Firmware posts a queue's tail, and a slot sent, or one no
port can send, is marked done. A learning entry ages out. Arming wake ports checks them; in Dormant an armed port wakes the
device. A link change updates the status and presence. A transient fault counts in its window; a permanent one retires the
port. (R368, R369, R370, R376, R377, R378, R379, R383, R384, R385) -/
def Obligations.EthernetPortCommandsComplete : Prop :=
  (∀ (n : Fin 12) (v : Word) (d e f : Dev) (q : List Instr), d.on (F.ETH_CTRL_enable.at n.val) = false →
    e = d.regWrite32 (0xD0000 + 0x1000 * n.val) v.toNat → e.on (F.ETH_CTRL_enable.at n.val) = true → e.ethCfgOk n.val = true →
    f = e.commitRwl (0xD0000 + 0x1000 * n.val) → f.on (F.ETH_STATUS_retired.at n.val) = false → f.mode ≠ .dormant →
    exec (.ethEnable n v) ⟨d, q⟩ = .next ⟨(f.setF (F.ETH_STATUS_running.at n.val)).presence, q⟩)
  ∧ (∀ (n : Fin 12) (m : EthRx) (d : Dev) (q : List Instr), d.ethRuns n.val = true →
    (m.fcsOk = false ∨ m.bytes.length + 4 < 64 ∨ d.rd (F.ETH_CTRL_max_frame.at n.val) < m.bytes.length + 4) →
    exec (.ethFrameReceive n m) ⟨d, q⟩ = .next ⟨d.bump (F.ETH_CNT_RX1_rx_bad.at n.val), q⟩)
  ∧ (∀ (n : Fin 12) (m : EthRx) (k : Nat) (d e : Dev) (q : List Instr), d.ethRuns n.val = true →
    m.fcsOk = true → 64 ≤ m.bytes.length + 4 → m.bytes.length + 4 ≤ d.rd (F.ETH_CTRL_max_frame.at n.val) →
    e = d.bump (F.ETH_CNT_RX0_rx_frames.at n.val) → (ethHdr m.bytes).etype ≠ 0x8808 → e.secOn n.val = false →
    e.ethFilter n.val (ethHdr m.bytes).dst = some k → n.val < 4 → bit (ethHdr m.bytes).dst 0 = false →
    exec (.ethFrameReceive n m) ⟨d, q⟩ = .next ⟨e.ethSteer n.val k 0 m.stamp.toNat m.bytes, q⟩)
  ∧ (∀ (n : Fin 12) (m : EthRx) (d e : Dev) (q : List Instr), d.ethRuns n.val = true →
    m.fcsOk = true → 64 ≤ m.bytes.length + 4 → m.bytes.length + 4 ≤ d.rd (F.ETH_CTRL_max_frame.at n.val) →
    e = d.bump (F.ETH_CNT_RX0_rx_frames.at n.val) → (ethHdr m.bytes).etype ≠ 0x8808 → e.secOn n.val = false →
    e.ethFilter n.val (ethHdr m.bytes).dst = none →
    exec (.ethFrameReceive n m) ⟨d, q⟩ = .next ⟨e.ethForward n.val m.stamp.toNat 0 m.bytes true, q⟩)
  ∧ (∀ (n : Fin 12) (c : Fin 8) (x : Nat) (d e : Dev) (q : List Instr),
    x = (if d.on (F.ETH_CTRL_pfc_en.at n.val) then setBits (d.ethP n.val).pause c.val 1 0 else 0) →
    e = d.modEthP n.val (fun (p : EthPort) => { p with pause := x }) →
    exec (.pauseExpiry n c) ⟨d, q⟩ = .next ⟨(e.flag (F.ETH_STATUS_paused.at n.val) (x != 0)).ethFlow, q⟩)
  ∧ (∀ (n : Fin 12) (d e : Dev) (q : List Instr), (d.ethP n.val).pause ≠ 0 → d.rd (F.ETH_FLOW2_pause_max.at n.val) ≠ 0 →
    e = (d.setF (F.ETH_STATUS_pause_storm.at n.val)).ethEvent n.val F.ETH_EVENT_pause_storm →
    exec (.pauseStorm n) ⟨d, q⟩ = .next ⟨((e.modEthP n.val (fun (p : EthPort) => { p with pause := 0, ignoring := true })).clrF
      (F.ETH_STATUS_paused.at n.val)).ethFlow, q⟩)
  ∧ (∀ (n : Fin 12) (p : Fin 2) (d : Dev) (q : List Instr), d.on (F.ETH_CTRL_pause_tx_en.at n.val) = true →
    bit (d.ethP n.val).xoff p.val = true →
    d.rd (F.ETH_FLOW_xon.at n.val) * d.ethUnits n.val p.val < d.ethLevel n.val p.val * 16 →
    exec (.pauseResend n p) ⟨d, q⟩ = .next ⟨d.pauseSend n.val p.val (d.rd (F.ETH_FLOW_pause_quanta.at n.val)), q⟩)
  ∧ (∀ (n : Fin 12) (p : Fin 2) (d e : Dev) (q : List Instr), bit (d.ethP n.val).xoff p.val = true →
    d.ethLevel n.val p.val * 16 ≤ d.rd (F.ETH_FLOW_xon.at n.val) * d.ethUnits n.val p.val →
    e = d.modEthP n.val (fun (x : EthPort) => { x with xoff := setBits x.xoff p.val 1 0 }) →
    (e.on (F.ETH_CTRL_pfc_en.at n.val) = true ∨ (e.ethP n.val).xoff = 0) →
    exec (.xonPauseSend n p) ⟨d, q⟩ = .next ⟨e.pauseSend n.val p.val 0, q⟩)
  ∧ (∀ (k : Fin 8) (v : Word) (d : Dev) (q : List Instr), exec (.ethTxqPost k v) ⟨d, q⟩
    = .next ⟨d.wr (F.ETH_TXQ_TAIL_tail.at k.val) (bits v.toNat 0 12), q⟩)
  ∧ (∀ (n : Fin 12) (u k a : Nat) (d e f : Dev) (q : List Instr), e = d.ethFlow → e.txqDead n.val = none →
    e.ethNext n.val = some (u, 2, k) → e.txqHead k = some a →
    f = e.modEthP n.val (fun (p : EthPort) => { p with lastQ := k, lastSrc := 2 }) → exec (.ethTxDone n) ⟨d, q⟩
      = .next ⟨((f.ethSend n.val (f.mem.readBytes (a + 16) (f.memRd a 2))).txqMark k a true).ethFlow, q⟩)
  ∧ (∀ (n : Fin 12) (k a : Nat) (d e : Dev) (q : List Instr), e = d.ethFlow → e.txqDead n.val = some (k, a) →
    exec (.ethTxDone n) ⟨d, q⟩ = .next ⟨(e.txqMark k a false).ethFlow, q⟩)
  ∧ (∀ (mac : BitVec 48) (vid : BitVec 12) (d : Dev) (q : List Instr), exec (.fdbAgeOut mac vid) ⟨d, q⟩
    = .next ⟨{ d with eth := { d.eth with fdb := d.eth.fdb.filter (fun x => x.1 != mac.toNat || x.2.1 != vid.toNat) } }, q⟩)
  ∧ (∀ (v : Word) (d e : Dev) (q : List Instr), popcount 8 (bits v.toNat 8 8) ≤ 2 →
    (∀ i, i < 8 → bit (bits v.toNat 8 8) i = true → d.rd (F.ETH_CTRL_mode.at (4 + i)) = 1) →
    e = (d.wr F.ETH_WAKE_CFG_link_wake (bits v.toNat 16 8)).wr F.ETH_WAKE_CFG_pat_en (bits v.toNat 0 4) →
    exec (.ethWakeCfgWrite v) ⟨d, q⟩ = .next ⟨e.wr F.ETH_WAKE_CFG_arm (bits v.toNat 8 8), q⟩)
  ∧ (∀ (n : Fin 12) (fr : Option (List Byte)) (d e : Dev) (q : List Instr), d.mode = .dormant →
    d.on F.PMU_RST_CAUSE_thermal_stop = false → d.wakeSeen n.val fr = (e, true) →
    exec (.ethWake n fr) ⟨d, q⟩ = .next ⟨e.wake 1, q⟩)
  ∧ (∀ (n : Fin 12) (up : Bool) (r : BitVec 3) (d e f : Dev) (q : List Instr), d.ethRuns n.val = true →
    e = (d.flag (F.ETH_STATUS_link_up.at n.val) up).flag (F.ETH_STATUS_fec_lock.at n.val)
      (up && decide (n.val < 4) && d.on (F.ETH_CTRL_rs_fec.at n.val) && d.rd (F.ETH_CTRL_mode.at n.val) == 0) →
    f = (if up then e.wr (F.ETH_STATUS_rate.at n.val) r.toNat else e) → exec (.ethLinkChange n up r) ⟨d, q⟩
      = .next ⟨((f.ethEvent n.val F.ETH_EVENT_link_change).presence).ethFlow, q⟩)
  ∧ (∀ (n : Fin 12) (fec : Bool) (fs : List Nat) (d e f g : Dev) (q : List Instr),
    fs = ((d.ethP n.val).faults.filter (fun t => d.tick < t + zeroAs (d.rd (F.ETH_ERR_CFG_window.at n.val)) 1 * sNs)) ++ [d.tick] →
    e = d.modEthP n.val (fun (p : EthPort) => { p with faults := fs }) →
    f = (if fec then e.bump (F.ETH_CNT_CTL2_fec_uncorr.at n.val) else e) →
    g = (f.ethEvent n.val F.ETH_EVENT_fault).trouble 0x26 1 4 3 n.val fs.length →
    (g.rd (F.ETH_ERR_CFG_retire_thr.at n.val) = 0 ∨ fs.length < g.rd (F.ETH_ERR_CFG_retire_thr.at n.val)) →
    exec (.ethTransientFault n fec) ⟨d, q⟩ = .next ⟨g, q⟩)
  ∧ (∀ (n : Fin 12) (cause : BitVec 8) (d : Dev) (q : List Instr), exec (.ethPermanentFault n cause) ⟨d, q⟩
    = .next ⟨(d.ethEvent n.val F.ETH_EVENT_fault).ethRetire n.val cause.toNat, q⟩)
  ∧ (∀ (n : Fin 12) (d : Dev) (q : List Instr), exec (.pauseIgnoreEnd n) ⟨d, q⟩
    = .next ⟨d.modEthP n.val (fun (p : EthPort) => { p with ignoring := false }), q⟩)

/-- Downlink entries for a known concentrator leave in one datagram; every ka_s each known concentrator gets a keepalive; a
silent one is reported lost. The concentrator table is read through ETH_CONC_SEL and written by commit. SA_INSTALL unwraps a
SAK under a root key into an empty slot, SA_TX_SWITCH takes another slot into use, SA_DELETE empties one. (R129, R230, R372,
R373, R374, R381, R382, R386, R388) -/
def Obligations.EthernetTunnelCommandsComplete : Prop :=
  (∀ (c : BitVec 12) (fs : List DlFrame) (p : Nat) (g : EthGram) (d e : Dev) (q : List Instr), d.tunSends = true →
    ceKnown (d.conc c.toNat) = true → p = ceNow (d.conc c.toNat) → (d.ethP p).grams = [] →
    Dev.gramTake 25 (28 + c.toNat) 8176 [] d = (e, fs) → fs ≠ [] → d.on F.EPL_CTRL_pair_en = false →
    e.on F.EPL_CTRL_pair_en = false → g = { conc := c.toNat, entries := fs.map (fun f => (f, none)) } →
    exec (.tunnelDownlinkSend c) ⟨d, q⟩
      = .next ⟨(e.modEthP p (fun (p : EthPort) => { p with grams := p.grams ++ [g] })).ethFlow, q⟩)
  ∧ (∀ (d : Dev) (q : List Instr), d.tunSends = true → d.rd F.ETH_TUN_CFG_ka_s ≠ 0 → exec .keepaliveSend ⟨d, q⟩
    = .next ⟨((d.eth.concs.filter (fun x => ceKnown x.2)).foldl (fun d x =>
        d.modEthP (ceNow x.2) (fun (p : EthPort) => { p with grams := p.grams ++ [{ conc := x.1, entries := [] }] })) d).ethFlow, q⟩)
  ∧ (∀ (c : BitVec 12) (d : Dev) (q : List Instr), ceValid (d.conc c.toNat) = true → ceUp (d.conc c.toNat) = true →
    d.rd F.ETH_TUN_CFG_conc_silent ≠ 0 → exec (.concSilent c) ⟨d, q⟩
      = .next ⟨(d.setConc c.toNat (setBits (d.conc c.toNat) 203 1 0)).tunEvent F.ETH_TUN_EVT_conc_lost c.toNat, q⟩)
  ∧ (∀ (v : Word) (d e : Dev) (q : List Instr),
    e = (d.wr F.ETH_CONC_SEL_conc (bits v.toNat 0 12)).setF F.ETH_CONC_SEL_loaded → exec (.ethConcSelWrite v) ⟨d, q⟩
      = .next ⟨foldN 8 (fun j x => x.wr (F.ETH_CONC_DATA_w.at j) (byts (x.conc (bits v.toNat 0 12)) (4 * j) 4)) e, q⟩)
  ∧ (∀ (d : Dev) (q : List Instr), exec .ethConcCommit ⟨d, q⟩ = .next ⟨(d.setConc (d.rd F.ETH_CONC_SEL_conc)
      (((List.range 8).map (fun j => d.rd (F.ETH_CONC_DATA_w.at j) * 2 ^ (32 * j))).sum)).clrF F.ETH_CONC_CTRL_commit, q⟩)
  ∧ (∀ (b c : Desc) (n s a x : Nat) (r key : List Byte) (e : KeyEnt) (d0 d f : Dev) (q : List Instr),
    (∀ m, d0.withData b m = m d c) →
    wUnusedZero c.w [(4, 20), (24, 27)] = true → wReservedOk c.w = true → n = wArg c.w 24 1 → s = wArg c.w 25 1 → a = wArg c.w 26 1 →
    r = c.data → x = byteAt r 3 → wLen c.w = 96 → s ≤ 9 → a ≤ 3 → r.length = 96 → n < 4 → d.secOn n = true →
    d.rd (F.ETH_SEC_CTRL_cipher.at n) = x → d.unlocked = true → leAt r 0 2 = 0x5341 → byteAt r 2 = 1 → leAt r 4 4 ≠ 0 →
    leAt r 72 24 = 0 → (x < 2 → leAt r 16 16 = 0) → (x % 2 ≠ 1 → leAt r 56 16 = 0) → d.saActive n s = false →
    d.keyOf (wHandle c.w) = some e → e.bad = false → e.kind = 3 → sakOf r e.key e.kid (x % 2 == 1) = some key →
    f = d.setSa n s { an := a, pn := leAt r 8 8, ssci := leAt r 16 4, salt := (r.drop 20).take 12, key := key } →
    exec (.saInstall b) ⟨d0, q⟩ = .next ⟨((f.saShow n).ethFlow).okRes c s, q⟩)
  ∧ (∀ (c : Desc) (n s : Nat) (sa : EthSa) (d : Dev) (q : List Instr), wUnusedZero c.w [(24, 26)] = true → wReservedOk c.w = true →
    n = wArg c.w 24 1 → s = wArg c.w 25 1 → s ≤ 1 → n < 4 → d.secOn n = true → mget? (d.ethP n).sas s = some sa →
    exec (.saTxSwitch c) ⟨d, q⟩ = .next ⟨(((d.wr (F.ETH_SEC_STAT_tx_slot.at n) s).clrF (F.ETH_SEC_STAT_tx_held.at n)).ethFlow).okRes
      c, q⟩)
  ∧ (∀ (c : Desc) (n s : Nat) (d : Dev) (q : List Instr), wUnusedZero c.w [(24, 26)] = true → wReservedOk c.w = true →
    n = wArg c.w 24 1 → s = wArg c.w 25 1 → s ≤ 9 → n < 4 → d.secOn n = true → d.saActive n s = false →
    exec (.saDelete c) ⟨d, q⟩ = .next ⟨((d.modEthP n (fun (p : EthPort) => { p with sas := mdel p.sas s })).saShow n).okRes c, q⟩)

/-- Setting enable over a sound area begins the mount, over an unsound one sets area_bad and clears enable. A mount that finds
no anchor ends unformatted; a sound one restores the map and the values journaled as SYSVAL, and Gavotte runs. A full record
sector is issued to NAND, a partial prefix after flush_ms; a program that ends well updates map and marks. A journal sector
makes its entries durable. A die at gc_low begins to collect its best block; its valid sectors are copied, the journal
awaited, the block erased and freed. A permanent die fault retires the die. (R392, R395, R400, R402, R403, R405, R406, R412,
R421) -/
def Obligations.GavotteEventsComplete : Prop :=
  (∀ (v : Word) (d e : Dev) (q : List Instr), d.on F.GAV_CTRL_enable = false → e = d.regWrite32 0xE0000 v.toNat →
    e.on F.GAV_CTRL_enable = true → 1 ≤ e.rd F.GAV_AREA_CFG_xring → e.rd F.GAV_AREA_CFG_xring ≤ 32 →
    1 ≤ e.rd F.GAV_AREA_CFG_mapc → e.rd F.GAV_AREA_CFG_mapc ≤ 32 → e.inDram (e.extBase - 0x8000000)
      (0x8000000 + (e.rd F.GAV_AREA_CFG_xring + e.rd F.GAV_AREA_CFG_mapc) * 0x4000000) = true →
    exec (.gavEnable v) ⟨d, q⟩ = .next ⟨(e.commitRwl 0xE0000).setF F.GAV_STATUS_mounting, q⟩)
  ∧ (∀ (v : Word) (d e : Dev) (q : List Instr), d.on F.GAV_CTRL_enable = false → e = d.regWrite32 0xE0000 v.toNat →
    e.on F.GAV_CTRL_enable = true → e.rd F.GAV_AREA_CFG_mapc = 0 →
    exec (.gavEnable v) ⟨d, q⟩ = .next ⟨(e.clrF F.GAV_CTRL_enable).setF F.GAV_STATUS_area_bad, q⟩)
  ∧ (∀ (dieOk : Bool) (d e f g h : Dev) (unit first top oldest : Nat) (q : List Instr), d.on F.GAV_STATUS_mounting = true →
    e = d.gavGeom → e.gav.deadDies.filter e.dieFit = [] → e.gav.formatted = true → e.gav.anchors.any (fun a => e.dieUp a.1) = true →
    e.gav.sdiscs = [] → f = ({ e with gav := { e.gav with
      map := e.gav.dmap, mounted := some true, extIssued := e.gav.extDone, discards := [], clean := false } }).anchorsMove.gavCaps → g = f.wr F.GAV_NSEQ_LO_nseq f.gav.nseq →
    unit = ((mget? g.gav.sysval 1).getD (g.rd F.VAL_PAIR_unit * 2 ^ 63)) / 2 ^ 63 →
    first = max 1 (cnt63 ((mget? g.gav.sysval 5).getD 1)) → top = g.gav.topRecord first unit →
    oldest = max first (32 * (top / 32 + 1 - g.gav.recRegion)) →
    h = (g.wr F.GAV_FLUSHED_LO_flushed (unit * 2 ^ 63 + top)).wr F.GAV_OLDEST_LO_oldest (unit * 2 ^ 63 + oldest) →
    exec (.gavMount true dieOk) ⟨d, q⟩ = .next ⟨({ h with
      gav := { h.gav with recIssued := top, recDone := top }
      cu := { h.cu with unitNext := max h.cu.unitNext h.gav.extDone } }).spareShow.discardsEnd, q⟩)
  ∧ (∀ (d : Dev) (q : List Instr), d.gav.mounted = some false → exec .gavMountDone ⟨d, q⟩
    = .next ⟨(((({ d with gav := { d.gav with mounted := none } }).clrF F.GAV_STATUS_mounting).raise 431).setF
        F.GAV_STATUS_unformatted).enginesReady.campPurge, q⟩)
  ∧ (∀ (v3 v4 : Nat) (d e x f : Dev) (q : List Instr), d.gav.mounted = some true →
    e = (({ d with gav := { d.gav with mounted := none } }).clrF F.GAV_STATUS_mounting).raise 431 →
    e.on F.GAV_STATUS_mount_fail = false → x = (e.setF F.GAV_STATUS_running).commitLoad →
    x.gav.sysvalDue 3 = false → mget? x.gav.sysval 3 = some v3 → f = x.epochLoad v3 → f.gav.sysvalDue 4 = false →
    mget? f.gav.sysval 4 = some v4 → exec .gavMountDone ⟨d, q⟩
      = .next ⟨(({ f with msr := { f.msr with newer := v4 / 2 ^ 64 } }).wr F.MSR_CKPT_SEQ_LO_ckpt_seq
          v4).commitRecover.enginesReady.campPurge, q⟩)
  ∧ (∀ (k : Nat) (d : Dev) (q : List Instr), k = (d.gav.recIssued + 1) / 32 → d.gavServing = true → 32 * k + 31 ≤ d.pubCount →
    exec .gavSectorProgram ⟨d, q⟩ = .next ⟨d.recIssue (32 * k + 31), q⟩)
  ∧ (∀ (d : Dev) (q : List Instr), d.gavServing = true → exec .gavPartialFlush ⟨d, q⟩ = .next ⟨d.partialIssue, q⟩)
  ∧ (∀ (p : GavProg) (l : List GavProg) (place : Nat) (d : Dev) (q : List Instr), d.gav.prog = p :: l → p.place = some place →
    exec (.gavProgramDone true) ⟨d, q⟩ = .next ⟨({ d with gav := { d.gav with prog := l } }).progGood p place, q⟩)
  ∧ (∀ (place n k : Nat) (d e : Dev) (now : List JEnt) (g : Gav) (q : List Instr), d.on F.GAV_STATUS_running = true →
    d.gav.jpend.isEmpty = false → now = d.gav.jpend.take 256 → d.sectorTake 5 = some (e, place, n) → k = e.gav.blkAt place →
    g = now.foldl Gav.durable { e.gav with jBlks := if e.gav.jBlks.contains k then e.gav.jBlks else e.gav.jBlks ++ [k] } →
    g.jSects + 1 < 65536 → exec (.gavJournalSector true) ⟨d, q⟩ = .next ⟨Dev.afterJournal { e with gav := { g with
      jpend := g.jpend.drop now.length, sects := mput g.sects place { lsn := 2 ^ 64 - 1, nseq := n, kind := 5 },
      jSects := g.jSects + 1 } }, q⟩)
  ∧ (∀ (x : BitVec 8) (v : BitVec 72) (d : Dev) (q : List Instr), 1 ≤ x.toNat → x.toNat ≤ 5 → exec (.gavSysvalWrite x v) ⟨d, q⟩
    = .next ⟨{ d with gav := { d.gav with jpend := d.gav.jpend ++ [.sysval x.toNat v.toNat] } }, q⟩)
  ∧ (∀ (die : Fin 128) (k : Nat) (d e : Dev) (q : List Instr), d.gavServing = true → d.dieUp die.val = true →
    mget? d.gav.gc die.val = none → d.gav.discards = [] → d.gav.doomed = [] → d.gav.gcNow = [] → d.on F.GAV_CTRL_gc_en = true →
    d.gav.freeCount die.val ≤ d.rd F.GAV_GC_gc_low → d.mode ≠ .storm → d.gcBest die.val = some k →
    e = { d with gav := { d.gav with collecting := if d.gav.collecting.contains die.val then d.gav.collecting
      else d.gav.collecting ++ [die.val] } } →
    exec (.gavGcStart die) ⟨d, q⟩ = .next ⟨(e.clrF F.GAV_STATUS_gc_deferred).gcBegin die.val k, q⟩)
  ∧ (∀ (die : Fin 128) (reads : List (Nat × Bool)) (r : GcRun) (d e f g : Dev) (js : List JEnt) (left : Bool) (q : List Instr),
    mget? d.gav.gc die.val = some r → r.phase = .copy →
    e = d.hardReads (fun n => (entryPlace (tget d.gav.map n)).any (fun p => d.gav.blkAt p == r.src)) reads →
    (e.gav.validIn r.src).foldl (fun (a : Dev × List JEnt) x =>
      ((a.1.gcCopy die.val x.1 x.2).1, a.2 ++ (a.1.gcCopy die.val x.1 x.2).2)) (e, []) = (f, js) →
    g = (f.gav.segsIn r.src).foldl (fun d s => d.segWrite s) f →
    left = (!(g.gav.validIn r.src).isEmpty || !(g.gav.segsIn r.src).isEmpty) →
    exec (.gavGcCopyDone die reads true) ⟨d, q⟩ = .next ⟨{ g with gav := { g.gav with
      gc := mput g.gav.gc die.val { r with sects := r.sects ++ js, phase := if left then .copy else .journal } } }, q⟩)
  ∧ (∀ (die : Fin 128) (r : GcRun) (d : Dev) (q : List Instr), mget? d.gav.gc die.val = some r → r.phase = .journal →
    r.sects.any d.gav.jpend.contains = false → d.hold = false → d.gav.doomed.contains r.src = false →
    exec (.gavGcErase die) ⟨d, q⟩ = .next ⟨{ d with gav := { d.gav with
      blks := mput d.gav.blks r.src { d.gav.blk r.src with use := .erasing }
      gc := mput d.gav.gc die.val { r with phase := .erase }
      jpend := d.gav.jpend ++ [.eraseBegin die.val (r.src % 16384)] } }, q⟩)
  ∧ (∀ (die : Fin 128) (r : GcRun) (d e f : Dev) (q : List Instr), mget? d.gav.gc die.val = some r → r.phase = .erase →
    2 * d.gav.erasesOf r.src < 3 * d.peRated → d.gav.doomed.contains r.src = false →
    e = { d with gav := { d.gav.wipe r.src with
      blks := mput (d.gav.wipe r.src).blks r.src { use := .free, erases := (d.gav.blk r.src).erases + 1 } } } → f = e.bump F.GAV_CNT_BLK_collected →
    exec (.gavEraseDone die true) ⟨d, q⟩
      = .next ⟨(f.journal (.free die.val (r.src % 16384) (f.gav.erasesOf r.src))).gcFinish die.val r.src, q⟩)
  ∧ (∀ (die : Fin 128) (lost : List Nat) (d : Dev) (q : List Instr), d.dieUp die.val = true →
    exec (.gavDieFault die true lost) ⟨d, q⟩ = .next ⟨d.dieRetire die.val (Config.retireCause 4 2).toNat lost, q⟩
    ∧ exec (.gavDieFault die false lost) ⟨d, q⟩
      = .next ⟨d.trouble gavId 1 4 4 die.val ((mgetD d.gav.dieEv die.val []).length), q⟩)

/-- ARC_READ answers the records asked for, and MEDIA_ERROR with the first lost one; ARC_BLK_READ answers sectors. ARC_BLK_WRITE
issues its sectors as programs, ARC_TRIM removes them from the map and waits for its journal entry, ARC_SDISCARD and
GAV_SDISCARD_SEQ begin a secure discard. ARC_FLUSH completes at once if all published is flushed, else waits. GAV_FORMAT
sizes the regions and writes anchors; GAV_INFO answers capacity, dies and spare; GAV_GC_NOW waits for the dies below
gc_high; GAV_MARK_LOST_CLEAR removes the lost marks of a range. (R392, R405, R408, R416, R417) -/
def Obligations.ArchiveCommandsComplete : Prop :=
  (∀ (c : Desc) (reads : List (Nat × Bool)) (a n : Nat) (d e : Dev) (rs ok : List RecRead) (body : List Byte) (q : List Instr),
    wUnusedZero c.w [(8, 20), (24, 36)] = true → wReservedOk c.w = true → d.on F.GAV_STATUS_unformatted = false →
    d.gavServing = true → a = wArg c.w 24 8 → n = wArg c.w 32 4 → wLen c.w = 128 * n → d.rd F.GAV_OLDEST_LO_oldest ≤ a →
    e = d.hardReads (fun l => (List.range (n / 32 + 2)).any (fun i => d.gav.recLsn (cnt63 a / 32 + i) == l)) reads →
    rs = (List.range n).map (fun i => e.archRead (a + i)) → ok = rs.takeWhile (fun r => r != .lost) →
    body = ok.flatMap (fun r => match r with | .found l => l | _ => zeros 128) →
    exec (.arcRead c reads) ⟨d, q⟩ = .next ⟨if ok.length = n then e.finish c { status := 0, result := n, data := [(wAddr c.w, body)] }
      else e.finish c { status := stMediaError, result := ok.length, result2 := a + ok.length, data := [(wAddr c.w, body)] }, q⟩)
  ∧ (∀ (c : Desc) (reads : List (Nat × Bool)) (lsn n : Nat) (d e : Dev) (ok : List (Option Nat)) (q : List Instr),
    wUnusedZero c.w [(8, 20), (24, 36)] = true → wReservedOk c.w = true → d.on F.GAV_STATUS_unformatted = false →
    d.gavServing = true → n = wArg c.w 32 4 → lsn = d.gav.hostFirst + wArg c.w 24 8 → wLen c.w = 4096 * n →
    d.hostRangeOk c = true → e = d.hardReads (fun l => lsn ≤ l && l < lsn + n) reads →
    ok = ((List.range n).map (fun i => e.gav.readLsn (lsn + i))).takeWhile (·.isSome) →
    exec (.arcBlkRead c reads) ⟨d, q⟩ = .next ⟨e.finish c {
      status := if ok.length = n then 0 else stMediaError, result := ok.length, data := [(wAddr c.w, ok.flatMap (fun v => leBytes 4096 (v.getD 0)))] }, q⟩)
  ∧ (∀ (b c : Desc) (lsn n : Nat) (d0 d e : Dev) (q : List Instr), (∀ m, d0.withData b m = m d c) →
    wUnusedZero c.w [(8, 20), (24, 36)] = true → wReservedOk c.w = true → d.on F.GAV_STATUS_unformatted = false →
    d.gavServing = true → n = wArg c.w 32 4 → n ≠ 0 → lsn = d.gav.hostFirst + wArg c.w 24 8 → wLen c.w = 4096 * n →
    d.hostRangeOk c = true → c.data.length = 4096 * n → d.on F.GAV_STATUS_host_ro = false →
    e = { d with gav := { d.gav with writes := d.gav.writes ++ [(c, n)] } } →
    exec (.arcBlkWrite b) ⟨d0, q⟩ = .next ⟨((chunks 4096 c.data).zip (List.range n)).foldl (fun d p =>
      d.progIssue 2 { lsn := lsn + p.2, nseq := 0, kind := 2, data := leNat p.1 } 0 (some c)) e, q⟩)
  ∧ (∀ (c : Desc) (lsn n : Nat) (d e : Dev) (q : List Instr), wUnusedZero c.w [(24, 36)] = true → wReservedOk c.w = true →
    d.on F.GAV_STATUS_unformatted = false → d.gavServing = true → d.hostRangeOk c = true → lsn = d.gav.hostFirst + wArg c.w 24 8 →
    n = wArg c.w 32 4 → e = d.mapTrim lsn n → exec (.arcTrim c) ⟨d, q⟩
      = .next ⟨{ e with gav := { e.gav with trims := e.gav.trims ++ [(c, .trim lsn n d.gav.nseq)] } }, q⟩)
  ∧ (∀ (c : Desc) (d : Dev) (q : List Instr), wUnusedZero c.w [(24, 36)] = true → wReservedOk c.w = true →
    d.on F.GAV_STATUS_unformatted = false → d.gavServing = true → d.hostRangeOk c = true → exec (.arcSdiscard c) ⟨d, q⟩
      = .next ⟨d.discard { cmd := some c, ranges := [(d.gav.hostFirst + wArg c.w 24 8, wArg c.w 32 4)] }, q⟩)
  ∧ (∀ (c : Desc) (p : Nat) (d : Dev) (q : List Instr), wUnusedZero c.w [] = true → wReservedOk c.w = true →
    d.on F.GAV_STATUS_unformatted = false → d.gavServing = true → p = d.rd F.REEL_STG_PUB_LO_stg_pub →
    exec (.arcFlush c) ⟨d, q⟩ = .next ⟨if p ≤ d.rd F.GAV_FLUSHED_LO_flushed then d.okRes c
      else { d with gav := { d.gav with flushes := d.gav.flushes ++ [(c, p)] } }, q⟩)
  ∧ (∀ (c : Desc) (r x h p : Nat) (d e f g : Dev) (q : List Instr), wUnusedZero c.w [(24, 40)] = true → wReservedOk c.w = true →
    r = wArg c.w 28 4 → x = wArg c.w 32 4 → h = wArg c.w 36 4 → d.on F.REEL_CTRL_enable = false → wArg c.w 24 4 = 0x464D9640 →
    r + x + h + 1 ≤ d.capacityE → e = ({ d with
      gav := d.gavErased r x h, upd := { d.upd with tables := [] }, msr := { d.msr with copies := [] } }).gavGeom.anchorsWrite.gavCaps →
    p = e.rd F.REEL_STG_PUB_LO_stg_pub → f = (e.wr F.GAV_FLUSHED_LO_flushed p).wr F.GAV_OLDEST_LO_oldest (p + 1) →
    g = (f.clrF F.GAV_STATUS_unformatted).flag F.GAV_STATUS_running (f.on F.GAV_CTRL_enable) →
    exec (.gavFormat c) ⟨d, q⟩ = .next ⟨g.spareShow.okRes c g.gav.eGib, q⟩)
  ∧ (∀ (c : Desc) (d : Dev) (q : List Instr), wUnusedZero c.w [] = true → wReservedOk c.w = true → exec (.gavInfo c) ⟨d, q⟩
    = .next ⟨d.okRes c (d.rd F.GAV_CAP1_e_gib + d.diesUp.length * 2 ^ 16) (uns 64 (sgn 32 (d.rd F.GAV_SPARE_spare))), q⟩)
  ∧ (∀ (c : Desc) (lo hi a b : Nat) (ks part es : List Nat) (d e f : Dev) (units : List Nat) (q : List Instr),
    wUnusedZero c.w [(24, 40)] = true → wReservedOk c.w = true → d.on F.GAV_STATUS_unformatted = false → d.gavServing = true →
    lo = wArg c.w 24 8 → hi = wArg c.w 32 8 → d.rd F.GAV_OLDEST_LO_oldest ≤ lo → lo ≤ hi → a = cnt63 lo →
    b = min (cnt63 hi) d.pubCount → ks = (List.range (b / 32 + 1 - a / 32)).map (fun i => a / 32 + i) →
    part = ks.filter (sdKeeps a b) → units = d.sdUnits a b → e = part.foldl (fun d k => d.sdEraseRecs a b k) d →
    es = (units.map (· / 64)).eraseDups → f = es.foldl (fun d x => d.sdEraseUnits units x) e →
    exec (.gavSdiscardSeq c) ⟨d, q⟩ = .next ⟨f.discard {
      cmd := some c, seqs := some (lo, hi), part := part.map f.gav.recLsn ++ es.map f.gav.extLsn
      ranges := (ks.filter (fun k => !sdKeeps a b k)).map (fun k => (f.gav.recLsn k, 1)) }, q⟩)
  ∧ (∀ (c : Desc) (dies : List Nat) (d : Dev) (q : List Instr), wUnusedZero c.w [(24, 40)] = true → wReservedOk c.w = true →
    d.on F.GAV_STATUS_unformatted = false → d.gavServing = true →
    dies = d.diesUp.filter (fun x => bit (wArg c.w 24 16) x && d.gav.freeCount x < d.rd F.GAV_GC_gc_high) →
    exec (.gavGcNow c) ⟨d, q⟩ = .next ⟨if dies.isEmpty then d.okRes c
      else { d with gav := { d.gav with gcNow := d.gav.gcNow ++ [(c, dies)] } }, q⟩)
  ∧ (∀ (c : Desc) (lsn n : Nat) (d : Dev) (q : List Instr), wUnusedZero c.w [(24, 36)] = true → wReservedOk c.w = true →
    d.on F.GAV_STATUS_unformatted = false → d.gavServing = true → lsn = wArg c.w 24 8 → n = wArg c.w 32 4 →
    lsn + n ≤ d.gav.hostFirst + d.gav.hostSectors → exec (.gavMarkLostClear c) ⟨d, q⟩
      = .next ⟨(((d.gav.map.filter (fun e => lsn ≤ e.1 && e.1 < lsn + n && bit e.2 62)).map (·.1)).foldl
          (fun d l => d.mapTrim l 1) d).okRes c, q⟩)

/-- With block lock on both lanes the link shows up and HELLO goes out, every 10 ms again; a link that loses lock, hears no
HELLO or is not acknowledged after 8 sends goes down, and otherwise every unacknowledged message is sent again. A HELLO of
the known session shows the partner, one on a down link begins the exchange. An active unit that hears a higher term yields.
LEASE sets the non-holder's view and is acknowledged; LEASE_ACK moves the holder's expiry; TOKEN_RELEASE sets the handover.
The holder renews; at expiry it loses the token; the other unit takes it with the next term; after dead_ms the standby
becomes active; at the swap instant the active unit enters Shadow. (R422, R423, R428, R430, R431, R432, R433, R434) -/
def Obligations.PairLinkEventsComplete : Prop :=
  (∀ (d e : Dev) (q : List Instr), d.epl.lanes = false → d.domOn .epl = true → d.epl.downAt = none →
    e = { d with epl := { d.epl with lanes := true } } → exec .eplLinkUp ⟨d, q⟩ = .next ⟨(e.linkShow true).helloEmit, q⟩)
  ∧ (∀ (d : Dev) (q : List Instr), exec .eplLinkDown ⟨d, q⟩ = .next ⟨Dev.eplDown { d with epl := { d.epl with lanes := false } }, q⟩
    ∧ exec .eplHelloTimeout ⟨d, q⟩ = .next ⟨d.eplDown, q⟩)
  ∧ (∀ (d : Dev) (q : List Instr), d.epl.lanes = true → d.domOn .epl = true → exec .eplHelloTimer ⟨d, q⟩
    = .next ⟨if d.on F.EPL_STATUS_link_up && d.on F.EPL_PARTNER_valid then d.eplSend 1 d.helloBody else d.helloEmit, q⟩)
  ∧ (∀ (d e f : Dev) (q : List Instr), d.on F.EPL_STATUS_link_up = true → d.epl.unacked.isEmpty = false → d.epl.sends < 7 →
    e = { d with epl := { d.epl with sends := d.epl.sends + 1 } } → f = e.bump F.EPL_CNT_LINK_retrans →
    exec .eplRetransmitTimeout ⟨d, q⟩ = .next ⟨f.epl.unacked.foldl (fun (d : Dev) (x : Nat × EplMsg) => d.eplEmit x.1 x.2) f, q⟩)
  ∧ (∀ (d : Dev) (q : List Instr), d.on F.EPL_STATUS_link_up = true → d.epl.unacked.isEmpty = false → 7 ≤ d.epl.sends →
    exec .eplRetransmitTimeout ⟨d, q⟩ = .next ⟨d.eplDown, q⟩)
  ∧ (∀ (m : EplRx) (d : Dev) (q : List Instr), d.epl.lanes = true → d.domOn .epl = true → m.crcOk = true →
    d.on F.EPL_STATUS_link_up = false → exec (.hello m) ⟨d, q⟩ = .next ⟨d.helloExchange m, q⟩)
  ∧ (∀ (m : EplRx) (other : Bool) (d e : Dev) (q : List Instr), d.epl.lanes = true → d.domOn .epl = true → m.crcOk = true →
    d.eplInOrder m = true → d.on F.EPL_STATUS_link_up = true → d.on F.EPL_PARTNER_valid = true →
    leAt m.payload 8 8 = d.epl.partnerSession → m.txSeq ≠ 0#32 → e = (d.eplHeard m).helloShow m.payload →
    other = (e.on F.EPL_PARTNER_active && (d.eplHigher m || (e.on F.EPL_PARTNER_token && !e.on F.EPL_STATUS_token))) →
    exec (.hello m) ⟨d, q⟩
      = .next ⟨((if bit (byteAt m.payload 3) 2 then e.partnerGone else e).eplYield other).swapCheck, q⟩)
  ∧ (∀ (m : EplRx) (d e f : Dev) (q : List Instr), d.epl.lanes = true → d.domOn .epl = true → m.crcOk = true →
    d.eplInOrder m = true → e = (d.eplHeard m).eplYield (d.eplHigher m) → f = (if e.on F.EPL_STATUS_token then e
      else { e with epl := { e.epl with view := some (e.tick + leAt m.payload 4 4 * msNs) } }) →
    exec (.lease m) ⟨d, q⟩ = .next ⟨f.eplSend 3 (leBytes 4 (leAt m.payload 0 4)), q⟩)
  ∧ (∀ (m : EplRx) (t : Nat) (d e : Dev) (q : List Instr), d.epl.lanes = true → d.domOn .epl = true → m.crcOk = true →
    d.eplInOrder m = true → mget? (d.eplHeard m).epl.leases (leAt m.payload 0 4) = some t →
    e = (d.eplHeard m).sample 0x0F 0 (((d.eplHeard m).tick - t) / 1000) → e.on F.EPL_STATUS_token = true →
    exec (.leaseAck m) ⟨d, q⟩ = .next ⟨({ e with epl := { e.epl with
      expiry := some (t + e.leaseNs), leases := e.epl.leases.filter (fun x => t < x.2) } }).clrF F.EPL_STATUS_witness_held, q⟩)
  ∧ (∀ (m : EplRx) (d e : Dev) (q : List Instr), d.epl.lanes = true → d.domOn .epl = true → m.crcOk = true →
    d.eplInOrder m = true → e = d.eplHeard m → exec (.tokenRelease m) ⟨d, q⟩
      = .next ⟨{ e with epl := { e.epl with handAt := some (e.tick + leAt m.payload 0 4 * msNs) } }, q⟩)
  ∧ (∀ (n : Nat) (d e : Dev) (q : List Instr), d.on F.EPL_STATUS_token = true → d.eplApart = false →
    d.on F.EPL_PARTNER_retired = false → n = (d.epl.renewNo + 1) % 2 ^ 32 →
    e = { d with epl := { d.epl with renewNo := n, leases := mput d.epl.leases n d.tick } } →
    exec .leaseRenewTimer ⟨d, q⟩ = .next ⟨e.eplSend 2 (leBytes 4 n ++ leBytes 4 (e.rd F.EPL_LEASE_lease_ms)), q⟩)
  ∧ (∀ (d : Dev) (q : List Instr), d.epl.expiry.isSome = true → d.on F.EPL_STATUS_witness_held = false →
    exec .leaseExpiry ⟨d, q⟩ = .next ⟨d.tokenSet false, q⟩)
  ∧ (∀ (d e : Dev) (q : List Instr), d.eplApart = false → d.on F.EPL_STATUS_token = false → d.rd F.EPL_STATUS_role = 2 →
    d.epl.view.isSome = true → e = ((d.wr F.EPL_TOKEN_term (d.rd F.EPL_TOKEN_term + 1)).roleSet 1).tokenSet true →
    exec .tokenTakeover ⟨d, q⟩ = .next ⟨{ e with epl := { e.epl with handed := d.epl.handAt.isSome } }, q⟩)
  ∧ (∀ (d : Dev) (q : List Instr), d.eplApart = true → d.on F.EPL_CTRL_pair_en = true → d.rd F.EPL_STATUS_role ≠ 3 →
    exec .deadTimer ⟨d, q⟩ = .next ⟨(Dev.roleSet { d with epl := { d.epl with dead := true } } 1).witnessCheck, q⟩)
  ∧ (∀ (d : Dev) (q : List Instr), d.on F.EPL_STATUS_witness_held = true →
    exec .witnessLeaseExpiry ⟨d, q⟩ = .next ⟨d.tokenSet false, q⟩)
  ∧ (∀ (d : Dev) (q : List Instr), d.epl.swap.isSome = true → d.rd F.EPL_STATUS_role = 1 →
    exec .swapHandover ⟨d, q⟩ = .next ⟨d.roleSet 2, q⟩)

/-- A batch of digest entries closes and is sent; the parts of a batch are collected until all are in, then compared with the
unit's own entries, the counts kept and the result answered; a result with mismatches opens a round, whose self-test results
and recomputed digests drive its outcome. A standby queues a commit delta and applies it after merge_ms, takes a record
delta at once, follows key events, compares key summaries, takes settings items and Bolero area bytes; it takes the records
of a resynchronisation and ends it; the active unit streams one when asked, and sends its key summary every ksum_s. (R436,
R437, R438, R439, R440, R441, R442) -/
def Obligations.PairMirrorMessagesComplete : Prop :=
  (∀ (m : EplRx) (n : Nat) (parts : Map (List Byte)) (all : List Byte) (d e : Dev) (q : List Instr), d.epl.lanes = true →
    d.domOn .epl = true → m.crcOk = true → d.eplInOrder m = true → e = d.eplHeard m → e.compares = true → n = leAt m.payload 0 8 →
    parts = mput (mgetD e.epl.rx n []) (leAt m.payload 8 2) ((m.payload.drop 16).take (24 * leAt m.payload 10 2)) →
    all = parts.flatMap (·.2) → exec (.digest m) ⟨d, q⟩ = .next ⟨if 24 * leAt m.payload 12 4 ≤ all.length
      then { e with epl := { e.epl with rx := mdel e.epl.rx n, due := e.epl.due ++ [(n, e.tick, chunks 24 all)] } }
      else { e with epl := { e.epl with rx := mput e.epl.rx n parts } }, q⟩)
  ∧ (∀ (m : EplRx) (d e : Dev) (q : List Instr), d.epl.lanes = true → d.domOn .epl = true → m.crcOk = true →
    d.eplInOrder m = true → e = d.eplHeard m → e.compares = true → leAt m.payload 12 4 ≠ 0 → exec (.digestResult m) ⟨d, q⟩
      = .next ⟨(e.roundOpen (leAt m.payload 0 8) (chunks 16 (m.payload.drop 20))).roundStep, q⟩)
  ∧ (∀ (m : EplRx) (bad : Nat) (d e f : Dev) (q : List Instr), d.epl.lanes = true → d.domOn .epl = true → m.crcOk = true →
    d.eplInOrder m = true → e = d.eplHeard m → e.compares = true →
    f = (if e.epl.round.isNone then e.roundOpen (leAt m.payload 8 8) [] else e) → byteAt m.payload 0 ≠ 0 →
    bad = (if byteAt m.payload 1 = 0 then 0 else max 1 (leAt m.payload 2 2)) → exec (.selftest m) ⟨d, q⟩
      = .next ⟨Dev.roundStep { f with epl := { f.epl with
          round := f.epl.round.map (fun (r : EplRound) => { r with partner := some bad }) } }, q⟩)
  ∧ (∀ (m : EplRx) (got : List (List Byte)) (d e : Dev) (q : List Instr), d.epl.lanes = true → d.domOn .epl = true →
    m.crcOk = true → d.eplInOrder m = true → e = d.eplHeard m →
    got = chunks 24 ((m.payload.drop 16).take (24 * leAt m.payload 8 2)) → exec (.recheck m) ⟨d, q⟩
      = .next ⟨Dev.roundStep { e with epl := { e.epl with
          round := e.epl.round.map (fun (r : EplRound) => { r with theirs := some (r.theirs.getD [] ++ got) }) } }, q⟩)
  ∧ (∀ (es : List (List Byte)) (n : Nat) (d e : Dev) (q : List Instr), es = d.epl.batch.take 4096 → es.isEmpty = false →
    n = d.epl.batchNo → e = { d with epl := { d.epl with batch := d.epl.batch.drop 4096, batchNo := (n + 1) % 2 ^ 64 } } →
    e.compares = true → exec .digestBatchClose ⟨d, q⟩ = .next ⟨e.eplParts 5 ((chunks (256 * 24) es.flatten).zipIdx.map (fun p =>
      leBytes 8 n ++ leBytes 2 p.2 ++ leBytes 2 (p.1.length / 24) ++ leBytes 4 es.length ++ p.1)), q⟩)
  ∧ (∀ (n t unheard : Nat) (es miss : List (List Byte)) (rest : List (Nat × Nat × List (List Byte))) (cmp : List (Nat × List Byte))
    (own : List Byte → Option (List Byte)) (d e f : Dev) (q : List Instr), d.epl.due = (n, t, es) :: rest → d.epl.resync = none →
    cmp = d.epl.cmp.filter (fun e => d.tick ≤ e.1 + d.rd F.EPL_DIGEST_cmp_window * sNs) →
    e = { d with epl := { d.epl with due := rest, cmp := cmp } } → e.compares = true →
    own = (fun e => (cmp.find? (fun x => dgIdent x.2 == dgIdent e)).map (·.2)) →
    miss = es.filter (fun e => (own e).any (fun x => x != e)) → miss = [] → unheard = (es.filter (fun e => (own e).isNone)).length →
    f = (e.bump F.EPL_CNT_DIG_mismatched 0).bump F.EPL_CNT_DIG_unheard unheard → exec .digestCompare ⟨d, q⟩
      = .next ⟨f.eplSend 6 (leBytes 8 n ++ leBytes 4 (es.length - unheard) ++ leBytes 4 0 ++ leBytes 4 unheard), q⟩)
  ∧ (∀ (keyc commit digest : Bool) (laneFail : BitVec 16) (r : EplRound) (tested : List Nat) (own : Nat) (d e f g : Dev)
    (q : List Instr), d.epl.round = some r → tested = (List.range 16).filter (fun l => !d.laneRetired l) →
    e = tested.foldl (fun (d : Dev) (l : Nat) => if bit laneFail.toNat l then (d.raise (129 + 4 * l)).laneRetire l 5 else d) d →
    own = b2n (!keyc) + 2 * b2n (!commit) + 4 * b2n (!digest) + 8 * b2n (tested.all (fun l => bit laneFail.toNat l)) →
    f = (if keyc then e else e.pavKat false) → g = (if own = 0 then f else f.setF F.EPL_STATUS_selftest_fail).raise 454 →
    exec (.selftestDone keyc commit digest laneFail) ⟨d, q⟩
      = .next ⟨(Dev.eplSend { g with epl := { g.epl with round := some { r with own := some own } } } 7
          (leBytes 1 1 ++ leBytes 1 (b2n (own != 0)) ++ leBytes 2 own ++ zeros 4 ++ leBytes 8 r.batch)).roundStep, q⟩)
  ∧ (∀ (m : EplRx) (d e : Dev) (q : List Instr), d.epl.lanes = true → d.domOn .epl = true → m.crcOk = true →
    d.eplInOrder m = true → e = d.eplHeard m → e.follows = true → byteAt m.payload 4 = 0 → exec (.msrDelta m) ⟨d, q⟩
      = .next ⟨{ e with epl := { e.epl with held := e.epl.held ++ [(e.tick, m.payload)] } }, q⟩)
  ∧ (∀ (m : EplRx) (d e : Dev) (q : List Instr), d.epl.lanes = true → d.domOn .epl = true → m.crcOk = true →
    d.eplInOrder m = true → e = d.eplHeard m → e.follows = true → byteAt m.payload 4 = 1 →
    exec (.msrDelta m) ⟨d, q⟩ = .next ⟨e.recordTake m.payload, q⟩)
  ∧ (∀ (t : Nat) (p : List Byte) (rest : List (Nat × List Byte)) (d e : Dev) (q : List Instr), d.epl.held = (t, p) :: rest →
    e = { d with epl := { d.epl with held := rest } } →
    exec .mergeDelayApply ⟨d, q⟩ = .next ⟨e.commitApply p, q⟩)
  ∧ (∀ (m : EplRx) (k : KeyEnt) (x : Nat) (d e : Dev) (q : List Instr), d.epl.lanes = true → d.domOn .epl = true →
    m.crcOk = true → d.eplInOrder m = true → e = d.eplHeard m → e.follows = true → e.on F.EPL_CTRL_key_follow = true →
    byteAt m.payload 0 = 0 → e.keyByKid (byteAt m.payload 1) (leAt m.payload 4 4) = some k → k.shadow = some x →
    (k.gen + 1) % 65536 = leAt m.payload 2 2 → exec (.keyEvent m) ⟨d, q⟩ = .next ⟨(e.followCommit k x).keyHeldRetry, q⟩)
  ∧ (∀ (m : EplRx) (k : KeyEnt) (d e : Dev) (q : List Instr), d.epl.lanes = true → d.domOn .epl = true →
    m.crcOk = true → d.eplInOrder m = true → e = d.eplHeard m → e.follows = true → e.on F.EPL_CTRL_key_follow = true →
    byteAt m.payload 0 = 1 → e.keyByKid (byteAt m.payload 1) (leAt m.payload 4 4) = some k →
    exec (.keyEvent m) ⟨d, q⟩ = .next ⟨(e.followDestroy k).keyHeldRetry, q⟩)
  ∧ (∀ (m : EplRx) (theirs : List (List Byte)) (d e f : Dev) (q : List Instr), d.epl.lanes = true → d.domOn .epl = true →
    m.crcOk = true → d.eplInOrder m = true → e = d.eplHeard m → bit m.mflags.toNat 0 = false →
    theirs = chunks 8 (e.epl.ksum ++ m.payload) → f = { e with epl := { e.epl with ksum := [] } } →
    exec (.keySummary m) ⟨d, q⟩
      = .next ⟨if !f.epl.formed || (theirs.all f.keySums.contains && f.keySums.all theirs.contains) then f else f.keySkew, q⟩)
  ∧ (∀ (m : EplRx) (x : SetItem) (d e : Dev) (q : List Instr), d.epl.lanes = true → d.domOn .epl = true →
    m.crcOk = true → d.eplInOrder m = true → e = d.eplHeard m → e.follows = true → itemOf m.payload = some x →
    exec (.settings m true) ⟨d, q⟩ = .next ⟨{ e with upd := { e.upd with ops := e.upd.ops ++ [.item x false none 0] } }, q⟩
    ∧ exec (.settings m false) ⟨d, q⟩ = .next ⟨e.setF F.UPD_STATUS_set_skew, q⟩)
  ∧ (∀ (m : EplRx) (off : Nat) (d e f : Dev) (q : List Instr), d.epl.lanes = true → d.domOn .epl = true →
    m.crcOk = true → d.eplInOrder m = true → e = d.eplHeard m → e.follows = true → off = leAt m.payload 4 4 →
    off + (m.payload.length - 8) ≤ 0x53000000 → byteAt m.payload 0 ≠ 1 → f = e.memWrB (e.bolArea + off) (m.payload.drop 8) →
    exec (.bolero m) ⟨d, q⟩ = .next ⟨if off < 0x50000000 then (f.campShow (off / 0x1400000)).bolShow else f, q⟩)
  ∧ (∀ (m : EplRx) (d e : Dev) (q : List Instr), d.epl.lanes = true → d.domOn .epl = true → m.crcOk = true →
    d.eplInOrder m = true → e = d.eplHeard m → byteAt m.payload 0 = 0 → e.mirrors = true →
    exec (.resync m) ⟨d, q⟩ = .next ⟨e.resyncStream (byteAt m.payload 1), q⟩)
  ∧ (∀ (m : EplRx) (r : EplResync) (es : List (List Byte)) (d e f : Dev) (q : List Instr), d.epl.lanes = true →
    d.domOn .epl = true → m.crcOk = true → d.eplInOrder m = true → e = d.eplHeard m → byteAt m.payload 0 = 1 → e.follows = true →
    e.epl.resync = some r → es = (chunks 264 (m.payload.drop 8)).take (leAt m.payload 2 2) →
    f = es.foldl (fun (d : Dev) (b : List Byte) => d.resyncApply b) e → exec (.resync m) ⟨d, q⟩
      = .next ⟨{ f with epl := { f.epl with
          resync := f.epl.resync.map (fun (r : EplResync) => { r with got := r.got ++ es.map (fun b => leAt b 0 4) }) } }, q⟩)
  ∧ (∀ (d : Dev) (q : List Instr), d.rd F.EPL_MIRROR_ksum_s ≠ 0 → d.eplApart = false → d.on F.EPL_STATUS_partner_retired = false →
    exec .keySummaryTimer ⟨d, q⟩ = .next ⟨d.keySumSend, q⟩)

/-- A window read is served as an access of the partner and answered with its data or an error; a response ends the local
master's read; a window write is served. PAIR_INFO answers version, role, token, standby_ready, term and the partner's
identity; PAIR_SWAP announces the handover; PAIR_WITNESS_GRANT gives the token with a higher term, or renews it; PAIR_RESYNC
asks for a resynchronisation; PAIR_MISMATCH_READ copies the divergent entries. VAL_RESEQ starts a new sequence space of the
register's unit. (R176, R426, R433, R434, R442, R447) -/
def Obligations.PairCommandsComplete : Prop :=
  (∀ (m : EplRx) (bad : Bool) (got : List Out) (data : List Byte) (d e f : Dev) (q : List Instr), d.epl.lanes = true →
    d.domOn .epl = true → m.crcOk = true → d.eplInOrder m = true → e = d.eplHeard m →
    f = e.partnerServe (leAt m.payload 0 8) (leAt m.payload 8 4) false [] → got = f.out.drop e.out.length →
    bad = got.any (fun o => match o with | .readData _ _ _ x => x | _ => false) →
    data = got.flatMap (fun o => match o with | .readData _ _ l _ => l | _ => []) → exec (.winRd m) ⟨d, q⟩
      = .next ⟨Dev.eplSend { f with out := f.out.take e.out.length ++ got.filter (fun o =>
          match o with | .readData _ _ _ _ => false | _ => true) } 0x10 ((m.payload.drop 12).take 4 ++ leBytes 1 (b2n bad) ++ zeros 3
            ++ padTo 8 (if bad then [] else data)), q⟩)
  ∧ (∀ (m : EplRx) (w : WinWait) (bad : Bool) (d e f : Dev) (q : List Instr), d.epl.lanes = true →
    d.domOn .epl = true → m.crcOk = true → d.eplInOrder m = true → e = d.eplHeard m →
    e.epl.reads.find? (fun w => w.tag == leAt m.payload 0 4) = some w → bad = (byteAt m.payload 4 != 0 && w.master != 0) →
    f = { e with epl := { e.epl with reads := e.epl.reads.filter (fun x => x.tag != leAt m.payload 0 4) } } →
    exec (.winRdRsp m) ⟨d, q⟩
      = .next ⟨f.emit (.readData w.master w.addr (if bad then [] else (m.payload.drop 8).take w.size) bad), q⟩)
  ∧ (∀ (m : EplRx) (n : Nat) (d e : Dev) (q : List Instr), d.epl.lanes = true → d.domOn .epl = true → m.crcOk = true →
    d.eplInOrder m = true → e = d.eplHeard m → n = leAt m.payload 8 4 → exec (.winWr m) ⟨d, q⟩
      = .next ⟨e.partnerServe (leAt m.payload 0 8) n true ((m.payload.drop 16).take n), q⟩)
  ∧ (∀ (c : Desc) (d : Dev) (q : List Instr), wUnusedZero c.w [] = true → wReservedOk c.w = true → exec (.pairInfo c) ⟨d, q⟩
    = .next ⟨d.okRes c (d.rd F.EPL_STATUS_neg_ver + d.rd F.EPL_STATUS_role * 2 ^ 16 + d.rd F.EPL_STATUS_token * 2 ^ 18
        + d.rd F.EPL_STATUS_standby_ready * 2 ^ 19 + d.rd F.EPL_TOKEN_term * 2 ^ 32) (d.rd F.EPL_PARTNER_EUI_LO_eui), q⟩)
  ∧ (∀ (c : Desc) (t : Nat) (d e : Dev) (q : List Instr), wUnusedZero c.w [(24, 28)] = true → wReservedOk c.w = true →
    d.rd F.EPL_STATUS_role = 1 → d.eplApart = false → d.epl.swap = none → d.epl.ready = true → t = zeroAs (wArg c.w 24 4) 100 →
    e = { d with epl := { d.epl with swap := some (d.tick + t * msNs, some c) } } →
    exec (.pairSwap c) ⟨d, q⟩ = .next ⟨(e.tokenHeldEnd.eplSend 4 (leBytes 4 t)).bolShow, q⟩)
  ∧ (∀ (c : Desc) (term ms : Nat) (d e f : Dev) (renewal : Bool) (q : List Instr), wUnusedZero c.w [(24, 32)] = true →
    wReservedOk c.w = true → term = wArg c.w 24 4 → ms = wArg c.w 28 4 → 0 < ms → ms ≤ 60000 → d.rd F.EPL_STATUS_role < 2 →
    renewal = (d.on F.EPL_STATUS_witness_held && d.epl.grant == some term && term == d.rd F.EPL_TOKEN_term) → (decide (d.rd F.EPL_TOKEN_term < term) || renewal) = true →
    e = (d.wr F.EPL_TOKEN_term term).tokenSet true →
    f = Dev.setF { e with epl := { e.epl with grant := some term, expiry := some (e.tick + ms * msNs) } } F.EPL_STATUS_witness_held →
    exec (.pairWitnessGrant c) ⟨d, q⟩ = .next ⟨(if renewal then f else f.epochNew).bolShow.okRes c term, q⟩)
  ∧ (∀ (c : Desc) (d : Dev) (q : List Instr), wUnusedZero c.w [(24, 25)] = true → wReservedOk c.w = true → wArg c.w 24 1 ≤ 1 →
    d.rd F.EPL_STATUS_role = 2 → d.eplApart = false → d.epl.resync = none →
    exec (.pairResync c) ⟨d, q⟩ = .next ⟨d.resyncAsk (wArg c.w 24 1) (some c), q⟩)
  ∧ (∀ (c : Desc) (got : List (List Byte)) (d : Dev) (q : List Instr), wUnusedZero c.w [(8, 20)] = true → wReservedOk c.w = true →
    wLen c.w % 24 = 0 → got = d.epl.diverged.take (wLen c.w / 24) → exec (.pairMismatchRead c) ⟨d, q⟩
      = .next ⟨d.finish c { status := 0, result := got.length, data := [(wAddr c.w, got.flatten)] }, q⟩)
  ∧ (∀ (c : Desc) (b : Nat) (d e f g : Dev) (q : List Instr), wUnusedZero c.w [] = true → wReservedOk c.w = true →
    d.mode ≠ .boot → d.mode ≠ .recovery → d.on F.VAL_STATUS_unit_conflict = true → b = d.rd F.VAL_PAIR_unit * 2 ^ 63 →
    e = ((((d.wr F.REEL_SEQ_NEXT_LO_seq_next (b + 1)).wr F.REEL_SEQ_RES_LO_seq_res b).wr F.REEL_STG_PUB_LO_stg_pub b).wr
      F.REEL_WLZ_ACK_LO_wlz_ack b).wr F.XDI_EXP_LIVE_LO_live b →
    f = (e.wr F.XDI_EXP_COMMIT_LO_commit b).wr F.GAV_FLUSHED_LO_flushed b →
    g = (Dev.wr { f.wr F.XDI_EXP_NEXT_LO_next (b + 1) with xdi := { f.xdi with ahead := [], gap := none, gapsReported := [] } } F.GAV_OLDEST_LO_oldest (b + 1)).clrF
      F.VAL_STATUS_unit_conflict → exec (.valReseq c) ⟨d, q⟩ = .next ⟨{ g with
        val := { g.val with reseq := some c }, cu := { g.cu with resReq := b + 0x100000, units := [] }
        gav := { g.gav with
          map := g.gav.map.filter (fun e => e.1 < 262144 || 262144 * (1 + g.gav.recGib + g.gav.extGib) ≤ e.1)
          recIssued := 0, recDone := 0
          jpend := g.gav.jpend ++ [.trim 262144 (262144 * (g.gav.recGib + g.gav.extGib)) g.gav.nseq,
                                   .sysval 1 (b + 0x100000), .sysval 2 b, .sysval 5 (b + 1)] } }, q⟩)

/-- A start chooses a slot and loads it, or ends in ROM Recovery; Boot ends in the mode its conditions name. UPD_OPEN opens a
session with a new id and lease; UPD_DATA stages blocks; UPD_VERIFY checks the staged bundle in the spec's order and
programs the slot; UPD_ACTIVATE writes the boot record for a provisional start; UPD_CLOSE and the lease's end close it.
Accept, revert and accept-defaults queue the record they write; status and items are answered; a put item is programmed. The
activation delay ends in a SOFTRST; accept_s accepts; revert_hold reverts. A program that ends well completes its operation,
a failed one sets prog_fail. (R455, R458, R460, R461, R462, R463, R464, R465) -/
def Obligations.UpdateAndBootCommandsComplete : Prop :=
  (∀ (r : BootSeen) (slot res : Nat) (prov : Bool) (d e f : Dev) (q : List Instr), d.mode = .boot → d.upd.booted = false →
    e = { d with upd := { d.upd with booted := true }, pmu := { d.pmu with qspiDtr := true } } → e.slotChoice r = (f, some (slot, prov), res) →
    exec (.bootStart r) ⟨d, q⟩ = .next ⟨f.bootSlot r slot prov res, q⟩)
  ∧ (∀ (r : BootSeen) (res : Nat) (d e f : Dev) (q : List Instr), d.mode = .boot → d.upd.booted = false →
    e = { d with upd := { d.upd with booted := true }, pmu := { d.pmu with qspiDtr := true } } → e.slotChoice r = (f, none, res) → exec (.bootStart r) ⟨d, q⟩
      = .next ⟨(((f.wr F.UPD_STATUS_boot_result res).setF F.UPD_STATUS_rom_recovery).bootPower r.dramGib.toNat).logStart, q⟩)
  ∧ (∀ (d e f g h : Dev) (q : List Instr), d.mode = .boot → d.upd.booted = true → d.recoveryCause = none →
    e = (d.domSwitch .qda true).domSwitch .qdb true → f = (e.modeEnter e.modeTarget).offMaskApply.enginesReady →
    g = { f with pmu := { f.pmu with half := false } } → h = (if f.xdi.negDue then g.negotiateNow else g).handover →
    exec .bootComplete ⟨d, q⟩
      = .next ⟨if h.rd F.PMU_RST_CAUSE_kind == 5 && h.rd F.PMU_RST_CAUSE_wake == 1 then h.raise 422 else h, q⟩)
  ∧ (∀ (c : Desc) (n : Nat) (d e f : Dev) (q : List Instr), wUnusedZero c.w [(24, 36)] = true → wReservedOk c.w = true →
    d.on F.UPD_SESSION_open = false → d.provisional = false → d.activating = false → wArg c.w 24 4 ≤ bundleMax → n = d.upd.nextId →
    e = { d with upd := { d.upd with
      length := wArg c.w 24 4, bundleId := wArg c.w 28 8, got := [], verified := false, nextId := if n = 0xFFFF then 1 else n + 1 } } →
    f = (((e.setF F.UPD_SESSION_open).wr F.UPD_SESSION_source (descSource c)).wr F.UPD_SESSION_master (descMaster c)).wr
      F.UPD_SESSION_id n → exec (.updOpen c) ⟨d, q⟩ = .next ⟨f.updRenew.okRes c n, q⟩)
  ∧ (∀ (b c : Desc) (off len st : Nat) (d0 d e f : Dev) (q : List Instr), (∀ m, d0.withData b m = m d c) →
    wUnusedZero c.w [(4, 20), (24, 28)] = true →
    wReservedOk c.w = true → d.on F.UPD_SESSION_open = true → descMaster c = d.rd F.UPD_SESSION_master →
    descSource c = d.rd F.UPD_SESSION_source → wHandle c.w = d.rd F.UPD_SESSION_id → e = d.updRenew → off = wArg c.w 24 4 →
    len = wLen c.w → off % 4096 = 0 → len % 4096 = 0 → 0 < len → len ≤ 0x100000 → off + len ≤ e.upd.length →
    c.data.length = len → e.updBlocks (off / 4096) (chunks 4096 c.data) = (f, st) →
    exec (.updData b) ⟨d0, q⟩ = .next ⟨f.fail c st, q⟩)
  ∧ (∀ (c : Desc) (b : List Byte) (d e : Dev) (q : List Instr), wUnusedZero c.w [(4, 8)] = true →
    wReservedOk c.w = true → d.on F.UPD_SESSION_open = true → descMaster c = d.rd F.UPD_SESSION_master →
    descSource c = d.rd F.UPD_SESSION_source → wHandle c.w = d.rd F.UPD_SESSION_id → e = d.updRenew → b = e.staged →
    e.upd.ops = [] → e.upd.got.length * 4096 = e.upd.length → e.upd.length ≠ 0 → exec (.updVerify c) ⟨d, q⟩
      = .next ⟨if !bundleFields b e.upd.length e.upd.bundleId (e.rd F.SYS_ID_stepping) e.upd.revoked then e.fail c updFormat
          else if !bundleSigned b then e.fail c updSignature
          else if !bundleSound b then e.fail c updCheck
          else if byteAt b 20 < e.upd.fuses then e.fail c updRollback
          else { e with upd := { e.upd with
            slots := mdel e.upd.slots e.spareSlot, verified := false, leaseAt := none, ops := [.slot c e.spareSlot (slotOf b)] } }, q⟩)
  ∧ (∀ (c : Desc) (r : BootRec) (s : Nat) (img : SlotImg) (d e f : Dev) (q : List Instr), wUnusedZero c.w [(4, 8), (24, 29)] = true →
    wReservedOk c.w = true → d.on F.UPD_SESSION_open = true → descMaster c = d.rd F.UPD_SESSION_master →
    descSource c = d.rd F.UPD_SESSION_source → wHandle c.w = d.rd F.UPD_SESSION_id → e = d.updRenew → wArg c.w 24 4 ≠ 0 →
    wArg c.w 28 1 ≤ 1 → e.mode ≠ .storm → e.upd.verified = true → s = e.spareSlot →
    img = (mget? e.upd.slots s).getD { ver := 0, rb := 0, sver := 0, sverMin := 0 } →
    r = { e.bootRec with next := s, tries := 3, nextVer := img.ver, nextRb := img.rb, bflags := e.bootRec.bflags % 2 } → f = e.updSessionEnd false →
    exec (.updActivate c) ⟨d, q⟩ = .next ⟨{ f with upd := { f.upd with
      ops := f.upd.ops ++ [.record r (.activate (wArg c.w 28 1 = 1)) (some c)] } }, q⟩)
  ∧ (∀ (c : Desc) (d : Dev) (q : List Instr), wUnusedZero c.w [(4, 8)] = true → wReservedOk c.w = true →
    d.on F.UPD_SESSION_open = true → descMaster c = d.rd F.UPD_SESSION_master → descSource c = d.rd F.UPD_SESSION_source →
    wHandle c.w = d.rd F.UPD_SESSION_id → exec (.updClose c) ⟨d, q⟩ = .next ⟨(d.updRenew.updSessionEnd true).okRes c, q⟩)
  ∧ (∀ (c : Desc) (d : Dev) (q : List Instr), wUnusedZero c.w [] = true → wReservedOk c.w = true →
    d.romServes = false → d.on F.UPD_STATUS_provisional = true → d.provisional = true → d.upd.hold = false →
    exec (.updAccept c) ⟨d, q⟩ = .next ⟨d.acceptStart (some c), q⟩)
  ∧ (∀ (c : Desc) (r : BootRec) (d : Dev) (q : List Instr), wUnusedZero c.w [] = true → wReservedOk c.w = true →
    d.romServes = false → d.provisional = true →
    r = { d.bootRec with next := 0xFF, tries := 0, lastCause := 4, bflags := d.bootRec.bflags ||| 1 } →
    exec (.updRevert c) ⟨d, q⟩ = .next ⟨{ d with upd := { d.upd with ops := d.upd.ops ++ [.record r .revert (some c)] } }, q⟩)
  ∧ (∀ (c : Desc) (r : BootRec) (d : Dev) (q : List Instr), wUnusedZero c.w [] = true → wReservedOk c.w = true →
    d.romServes = false → d.upd.hold = true → r = { d.bootRec with bflags := d.bootRec.bflags ||| 2 } →
    exec (.updAcceptDefaults c) ⟨d, q⟩
      = .next ⟨{ d with upd := { d.upd with ops := d.upd.ops ++ [.record r .defaults (some c)] } }, q⟩)
  ∧ (∀ (c : Desc) (d : Dev) (q : List Instr), wUnusedZero c.w [] = true → wReservedOk c.w = true → exec (.updStatus c) ⟨d, q⟩
    = .next ⟨d.okRes c (d.rd F.UPD_STATUS_boot_result + d.upd.fuses * 16 + d.rd F.UPD_STATUS_provisional * 4096
        + d.rd F.UPD_SESSION_open * 8192) (d.bootRec.activeVer + d.bootRec.nextVer * 2 ^ 32), q⟩)
  ∧ (∀ (b c : Desc) (x : SetItem) (d0 d : Dev) (q : List Instr), (∀ m, d0.withData b m = m d c) → wUnusedZero c.w [(8, 20), (24, 28)] = true → wReservedOk c.w = true →
    d.romServes = false → x = { id := wArg c.w 24 2, iver := wArg c.w 26 1, iflags := wArg c.w 27 1, data := c.data } →
    itemIdOk x.id = true → x.iflags ≤ 1 → wLen c.w ≤ 16384 → d.upd.hold = false → c.data.length = wLen c.w →
    32 + ((d.setCopy.put x).items.map (fun i => (itemBytes i).length)).sum ≤ 0x100000 →
    exec (.updSetPut b) ⟨d0, q⟩ = .next ⟨{ d with upd := { d.upd with ops := d.upd.ops ++ [.item x true (some c) 0] } }, q⟩)
  ∧ (∀ (c : Desc) (l : List Byte) (d : Dev) (q : List Instr), wUnusedZero c.w [(8, 20), (24, 26)] = true → wReservedOk c.w = true →
    d.romServes = false → d.upd.hold = false →
    l = ((d.setCopy.items.find? (fun i => i.id == wArg c.w 24 2)).map (·.data)).getD [] → exec (.updSetGet c) ⟨d, q⟩
      = .next ⟨d.finish c { status := 0, result := l.length, data := [(wAddr c.w, l.take (wLen c.w))] }, q⟩)
  ∧ (∀ (t : Nat) (d : Dev) (q : List Instr), d.upd.leaseAt = some t →
    exec .updLeaseExpiry ⟨d, q⟩ = .next ⟨d.updSessionEnd true, q⟩)
  ∧ (∀ (force : Bool) (d e : Dev) (q : List Instr), d.upd.restart = some force →
    e = { d with upd := { d.upd with restart := none } } → e.mode ≠ .storm →
    exec .updActivateDelay ⟨d, q⟩ = .next ⟨e.softReset 2, q⟩)
  ∧ (∀ (d : Dev) (q : List Instr), d.on F.UPD_STATUS_provisional = true → d.provisional = true → d.upd.hold = false →
    d.rd F.UPD_CTRL_accept_s ≠ 0 → d.mode.serving = true → exec .updAutoAccept ⟨d, q⟩ = .next ⟨d.acceptStart none, q⟩)
  ∧ (∀ (r : BootRec) (d : Dev) (q : List Instr), d.upd.hold = true →
    r = { d.bootRec with next := 0xFF, tries := 0, lastCause := 2, bflags := d.bootRec.bflags ||| 1 } →
    exec .settingsRevertHold ⟨d, q⟩
      = .next ⟨{ d with upd := { d.upd with hold := false, ops := d.upd.ops ++ [.record r .revert none] } }, q⟩)
  ∧ (∀ (o : QspiOp) (rest : List QspiOp) (d e : Dev) (q : List Instr), d.upd.ops = o :: rest →
    e = { d with upd := { d.upd with ops := rest } } → exec (.qspiProgramDone true) ⟨d, q⟩ = .next ⟨e.qspiDone o, q⟩)
  ∧ (∀ (r : BootRec) (a : RecAfter) (rest : List QspiOp) (d e : Dev) (q : List Instr), d.upd.ops = .record r a none :: rest →
    e = { d with upd := { d.upd with ops := rest } } →
    exec (.qspiProgramDone false) ⟨d, q⟩ = .next ⟨(e.setF F.UPD_STATUS_prog_fail).raise 470, q⟩)

/-- AONPOR resets everything including AON; MAINPOR and PINRST reset every domain but AON with DRAM lost, record their cause and
sample the straps; SOFTRST and the watchdog's second half keep DRAM; DOMRST resets the one domain whose bit is set, after
FAB the firmware applies the MSR settings again (log entry 16), and completes the command that asked. The mode commands set
their bit, settle the mode and answer it; entering Dormant completes first; a SOFTRST or DOMRST command records its request;
resources are retired, restored after a passed test and queried. A write of off_mask switches the optional domains. (R471,
R478, R480, R485, R486, R487, R493, R494, R530, R531) -/
def Obligations.ResetAndModeCommandsComplete : Prop :=
  (∀ (d e f g : Dev) (q : List Instr), e = ((d.aonRegs .aonpor).mainReset .aonpor false).memGone 0x08000000 0x08040000 →
    f = { e with
      clk := 0, rtc := {}, sys := { committed := e.sys.committed }, epl := {}
      pav := { e.pav with kek := none, succ := [], tlog := [] }, upd := { e.upd with lastOk := none, recovery := false }
      pmu := { vaon := e.pmu.vaon, vbat := e.pmu.vbat } } →
    g = (f.wr F.PMU_STORM_budget 0x4B0).wr F.EPL_STATUS_role 0 → exec .aonpor ⟨d, q⟩
      = .next ⟨((g.wr F.UPD_FUSE_f g.upd.fuses).wr F.UPD_FUSE_revoked g.upd.revoked).tsuStart, q⟩)
  ∧ (∀ (t : BitVec 4) (d : Dev) (q : List Instr), exec (.mainpor t) ⟨d, q⟩
      = .next ⟨((d.coldReset .mainpor 1).clrF F.PMU_RST_CAUSE_supply_reset).strapSample t.toNat, q⟩
    ∧ exec (.pinrst t) ⟨d, q⟩ = .next ⟨(d.coldReset .pinrst 2).strapSample t.toNat, q⟩
    ∧ exec .softrst ⟨d, q⟩ = .next ⟨((d.mainReset .softrst true).aonRegs .softrst).startCause 3 0 (d.pmu.soft.getD 3), q⟩)
  ∧ (∀ (d : Dev) (q : List Instr), d.wdtRuns = true → d.pmu.half = true →
    exec .wdtrst ⟨d, q⟩ = .next ⟨((d.mainReset .wdtrst true).aonRegs .wdtrst).startCause 4 0 0, q⟩)
  ∧ (∀ (n : Fin 15) (x : Dom) (d e : Dev) (q : List Instr), bit (d.rd F.PMU_DOM_rst) n.val = true → domOf n.val = some x →
    e = (if x == .fab then (d.domReset x).hallFirmware.applySettings inMsrWindow else d.domReset x).wrBit F.PMU_DOM_rst n.val false → exec (.domrst n) ⟨d, q⟩ = .next ⟨match mget? e.pmu.domCmds n.val with
      | none => e
      | some c => Dev.okRes { e with pmu := { e.pmu with domCmds := mdel e.pmu.domCmds n.val } } c, q⟩)
  ∧ (∀ (c : Desc) (d e : Dev) (q : List Instr), wUnusedZero c.w [(24, 25)] = true → wReservedOk c.w = true →
    wArg c.w 24 1 = 0 → e = (d.clrF F.PMU_CTRL_base).modeSettle → exec (.pmuModeSetRun c) ⟨d, q⟩ = .next ⟨e.okRes c e.mode.code, q⟩)
  ∧ (∀ (c : Desc) (d e : Dev) (q : List Instr), wUnusedZero c.w [(24, 25)] = true → wReservedOk c.w = true → wArg c.w 24 1 = 1 →
    e = (d.setF F.PMU_CTRL_base).modeSettle → exec (.pmuModeSetCommission c) ⟨d, q⟩ = .next ⟨e.okRes c e.mode.code, q⟩)
  ∧ (∀ (c : Desc) (d e : Dev) (q : List Instr), wUnusedZero c.w [(24, 25)] = true → wReservedOk c.w = true → wArg c.w 24 1 = 2 →
    e = (d.setF F.PMU_CTRL_storm_force).modeSettle → exec (.pmuStormForceSet c) ⟨d, q⟩ = .next ⟨e.okRes c e.mode.code, q⟩)
  ∧ (∀ (c : Desc) (d e : Dev) (q : List Instr), wUnusedZero c.w [(24, 25)] = true → wReservedOk c.w = true → wArg c.w 24 1 = 3 →
    e = (d.clrF F.PMU_CTRL_storm_force).modeSettle → exec (.pmuStormForceClear c) ⟨d, q⟩ = .next ⟨e.okRes c e.mode.code, q⟩)
  ∧ (∀ (n : Fin 64) (w : BitVec 512) (l : List Byte) (d e : Dev) (q : List Instr), wUnusedZero w [(24, 25)] = true →
    wReservedOk w = true → wArg w 24 1 = 4 → d.mode = .run → e = d.okRes { via := .ring n, w := w, data := l } 0 →
    exec (.pmuModeSetDormant { via := .ring n, w := w, data := l }) ⟨d, q⟩
      = .next ⟨(foldN (e.pair n.val).waiting.length (fun _ (d : Dev) => d.completionPost n.val) e).dormantEnter false, q⟩)
  ∧ (∀ (c : Desc) (d : Dev) (q : List Instr), wUnusedZero c.w [(24, 26)] = true → wReservedOk c.w = true → wArg c.w 24 1 = 0 →
    wArg c.w 25 1 = 0 → exec (.pmuResetSoft c) ⟨d, q⟩ = .next ⟨Dev.okRes { d with pmu := { d.pmu with soft := some 1 } } c, q⟩)
  ∧ (∀ (c : Desc) (n : Nat) (d : Dev) (q : List Instr), wUnusedZero c.w [(24, 26)] = true → wReservedOk c.w = true →
    wArg c.w 24 1 = 1 → n = wArg c.w 25 1 → n < 15 → n ≠ 0 → n ≠ 12 → exec (.pmuResetDomain c) ⟨d, q⟩
      = .next ⟨Dev.wrBit { d with pmu := { d.pmu with domCmds := mput d.pmu.domCmds n c } } F.PMU_DOM_rst n true, q⟩)
  ∧ (∀ (c : Desc) (kind idx : Nat) (d e : Dev) (q : List Instr), wUnusedZero c.w [(24, 26), (28, 32)] = true → wReservedOk c.w = true →
    wArg c.w 24 1 = 0 → kind = wArg c.w 25 1 → idx = wArg c.w 28 4 → resOk kind idx = true → kind ≠ 0 → kind ≠ 6 →
    e = d.resRetire kind idx → exec (.pmuResourceRetire c) ⟨d, q⟩ = .next ⟨e.okRes c (e.resResult kind idx), q⟩)
  ∧ (∀ (c : Desc) (idx : Nat) (d e : Dev) (q : List Instr), wUnusedZero c.w [(24, 26), (28, 32)] = true → wReservedOk c.w = true →
    wArg c.w 24 1 = 0 → wArg c.w 25 1 = 0 → idx = wArg c.w 28 4 → resOk 0 idx = true → d.rd F.REEL_LANES_retired + 2 ^ idx ≠ 65535 →
    e = d.resRetire 0 idx → exec (.pmuResourceRetire c) ⟨d, q⟩ = .next ⟨e.okRes c (e.resResult 0 idx), q⟩)
  ∧ (∀ (c : Desc) (idx : Nat) (d e : Dev) (q : List Instr), wUnusedZero c.w [(24, 26), (28, 32)] = true → wReservedOk c.w = true →
    wArg c.w 24 1 = 0 → wArg c.w 25 1 = 6 → idx = wArg c.w 28 4 → resOk 6 idx = true → d.rd F.PMU_CORE_retired + 2 ^ idx ≠ 255 →
    e = d.resRetire 6 idx → exec (.pmuResourceRetire c) ⟨d, q⟩ = .next ⟨e.okRes c (e.resResult 6 idx), q⟩)
  ∧ (∀ (c : Desc) (kind idx : Nat) (d e : Dev) (q : List Instr), wUnusedZero c.w [(24, 26), (28, 32)] = true → wReservedOk c.w = true →
    wArg c.w 24 1 = 1 → kind = wArg c.w 25 1 → idx = wArg c.w 28 4 → resOk kind idx = true → kind ≠ 5 →
    d.resRetired kind idx = true → e = d.resRestore kind idx →
    exec (.pmuResourceRestore c true) ⟨d, q⟩ = .next ⟨e.okRes c (e.resResult kind idx), q⟩)
  ∧ (∀ (c : Desc) (kind idx : Nat) (d : Dev) (q : List Instr), wUnusedZero c.w [(24, 26), (28, 32)] = true → wReservedOk c.w = true →
    wArg c.w 24 1 = 2 → kind = wArg c.w 25 1 → idx = wArg c.w 28 4 → resOk kind idx = true →
    exec (.pmuResourceQuery c) ⟨d, q⟩ = .next ⟨d.okRes c (d.resResult kind idx), q⟩)
  ∧ (∀ (d : Dev) (q : List Instr), d.mode.serving = true → d.modeTarget ≠ d.mode →
    exec .modeChange ⟨d, q⟩ = .next ⟨d.modeEnter d.modeTarget, q⟩)
  ∧ (∀ (v : Word) (d e : Dev) (q : List Instr), e = d.regWrite32 0x10000 v.toNat → e.mode.serving = true →
    exec (.pmuOffMaskWrite v) ⟨d, q⟩ = .next ⟨e.offMaskApply, q⟩)

/-- The islanded condition follows host and backhaul. At the budget's end Storm throttles, at half it lifts; a sample at
throttle_c limits the lanes, 5 below lifts; at 115 degrees the device enters Dormant, and wakes when cool. A core or power
warning raises its source, is logged and flushes Gavotte; below 0.675 V a reset follows. Enabling arms the watchdog, 0xD06E
reloads it, half its period warns. The RTC and PERST# wake. A corrected DRAM error is counted and may retire its row, an
uncorrectable one poisons the word; core faults are counted or retire the core; AON survives on VBAT. (R472, R474, R475,
R476, R481, R482, R483, R486, R491, R492, R528, R532) -/
def Obligations.PowerSupervisionComplete : Prop :=
  (∀ (d : Dev) (q : List Instr), d.on F.XDI_STATUS_host_present = false → d.on F.ETH_COMMON_backhaul_present = false →
    exec .islandedCondSet ⟨d, q⟩ = .next ⟨d.setF F.PMU_STATUS_isl_cond, q⟩)
  ∧ (∀ (d : Dev) (q : List Instr), (d.on F.XDI_STATUS_host_present || d.on F.ETH_COMMON_backhaul_present) = true →
    exec .islandedCondClear ⟨d, q⟩ = .next ⟨d.clrF F.PMU_STATUS_isl_cond, q⟩)
  ∧ (∀ (d : Dev) (q : List Instr), d.mode = .storm → d.on F.PMU_STATUS_throttled = false →
    exec .stormBudgetExhausted ⟨d, q⟩ = .next ⟨(d.budgetTo 0).throttleTo true, q⟩)
  ∧ (∀ (d : Dev) (q : List Instr), d.mode = .storm → d.on F.PMU_STATUS_throttled = true →
    exec .stormBudgetHalf ⟨d, q⟩ = .next ⟨(d.budgetTo (d.budgetMax / 2)).throttleTo false, q⟩)
  ∧ (∀ (t : BitVec 8) (s : Fin 8) (d e f : Dev) (q : List Instr), e = (d.wr F.PMU_TEMP_tj t.toNat).wr F.PMU_TEMP_sensor s.val →
    f = (if sgn 8 (e.rd F.PMU_THERM_tmax) < sgn 8 t.toNat then e.wr F.PMU_THERM_tmax t.toNat else e) →
    exec (.thermalSample t s) ⟨d, q⟩
      = .next ⟨if (f.rd F.PMU_THERM_throttle_c : Int) ≤ sgn 8 t.toNat then f.thermTo true else f, q⟩)
  ∧ (∀ (d : Dev) (q : List Instr), sgn 8 (d.rd F.PMU_TEMP_tj) ≤ (d.rd F.PMU_THERM_throttle_c : Int) - 5 →
    exec .thermalThrottleLift ⟨d, q⟩ = .next ⟨d.thermTo false, q⟩)
  ∧ (∀ (d : Dev) (q : List Instr), d.mode ≠ .dormant →
    exec .thermalStop ⟨d, q⟩ = .next ⟨(d.trouble minuetId 2 8 2 (d.rd F.PMU_TEMP_tj)).dormantEnter true, q⟩)
  ∧ (∀ (d : Dev) (q : List Instr), d.mode = .dormant → d.on F.PMU_RST_CAUSE_thermal_stop = true →
    exec .thermalRestart ⟨d, q⟩ = .next ⟨(d.aonRegs .dormantExit).tsuStart.startCause 5 4 0, q⟩)
  ∧ (∀ (mv : BitVec 10) (d e : Dev) (q : List Instr), e = d.wr F.PMU_SUPPLY_vcore_mv mv.toNat → e.on F.PMU_STATUS_core_warn = false →
    exec (.coreWarnSet mv) ⟨d, q⟩ = .next ⟨(((((e.setF F.PMU_STATUS_core_warn).setF F.PMU_SUPPLY_warn_seen).bump
      F.PMU_SUPPLY_dips).raise 99).trouble minuetId 1 7 1 mv.toNat).gavFlushAll, q⟩)
  ∧ (∀ (mv : BitVec 10) (d e : Dev) (q : List Instr), e = d.wr F.PMU_SUPPLY_vcore_mv mv.toNat → e.on F.PMU_STATUS_core_warn = true →
    exec (.coreWarnClear mv) ⟨d, q⟩ = .next ⟨((e.clrF F.PMU_STATUS_core_warn).raise 99).trouble minuetId 1 7 0 mv.toNat, q⟩)
  ∧ (∀ (t : BitVec 4) (d : Dev) (q : List Instr), exec (.coreUndervoltReset t) ⟨d, q⟩
    = .next ⟨((d.coldReset .mainpor 1).setF F.PMU_RST_CAUSE_supply_reset).strapSample t.toNat, q⟩)
  ∧ (∀ (d e : Dev) (q : List Instr), d.on F.PMU_STATUS_pwr_warn = false →
    e = ((d.setF F.PMU_STATUS_pwr_warn).setF F.PMU_SUPPLY_pwr_warn_seen).raise 100 →
    exec .pwrWarnFall ⟨d, q⟩ = .next ⟨(e.trouble minuetId 1 7 2 (e.rd F.PMU_SUPPLY_vcore_mv)).gavFlushAll, q⟩)
  ∧ (∀ (d e : Dev) (q : List Instr), d.on F.PMU_STATUS_pwr_warn = true → e = (d.clrF F.PMU_STATUS_pwr_warn).raise 100 →
    exec .pwrWarnRise ⟨d, q⟩ = .next ⟨e.trouble minuetId 1 7 3 (d.rd F.PMU_SUPPLY_vcore_mv), q⟩)
  ∧ (∀ (v : Word) (d e f : Dev) (q : List Instr), d.on F.PMU_WDT_enable = false → e = d.regWrite32 0x10024 v.toNat →
    e.on F.PMU_WDT_enable = true → f = e.commitRwl 0x10000 →
    exec (.wdtEnable v) ⟨d, q⟩ = .next ⟨{ f with pmu := { e.pmu with half := false } }, q⟩)
  ∧ (∀ (v : Word) (d : Dev) (q : List Instr), v.toNat % 65536 = 0xD06E →
    exec (.wdtKick v) ⟨d, q⟩ = .next ⟨{ d with pmu := { d.pmu with half := false } }, q⟩)
  ∧ (∀ (d : Dev) (q : List Instr), d.wdtRuns = true → d.pmu.half = false → exec .wdtPrewarn ⟨d, q⟩
    = .next ⟨(Dev.setF { d with pmu := { d.pmu with half := true } } F.PMU_WDT_pre_warned).raise 103, q⟩)
  ∧ (∀ (d : Dev) (q : List Instr), d.on F.PMU_WAKE_rtc_en = true → d.mode = .dormant → d.on F.PMU_RST_CAUSE_thermal_stop = false →
    exec .rtcAlarmWake ⟨d, q⟩ = .next ⟨(d.aonRegs .dormantExit).tsuStart.startCause 5 2 0, q⟩)
  ∧ (∀ (d e : Dev) (q : List Instr), d.mode = .dormant → e = { d with xdi := { d.xdi with perst := false } } →
    e.on F.PMU_WAKE_perst_en = true → e.mode = .dormant → e.on F.PMU_RST_CAUSE_thermal_stop = false →
    exec .perstWake ⟨d, q⟩ = .next ⟨(e.aonRegs .dormantExit).tsuStart.startCause 5 3 0, q⟩)
  ∧ (∀ (row : Word) (win thr : Nat) (l : List Nat) (d e f : Dev) (q : List Instr),
    e = (((d.bump F.DMC_ECC_corrected).wr F.DMC_LAST_ERR_row row.toNat).raise 480).trouble minuetId 2 0xE 1 row.toNat →
    win = zeroAs (e.rd F.DMC_ROW_CFG_row_win) 1 * 3600 * sNs →
    l = (mgetD e.pmu.rowErrs row.toNat []).filter (fun t => e.clk < t + win) ++ [e.clk] →
    f = { e with pmu := { e.pmu with rowErrs := mput e.pmu.rowErrs row.toNat l } } → thr = f.rd F.DMC_ROW_CFG_row_thr →
    exec (.dramEccCorrected row) ⟨d, q⟩
      = .next ⟨if thr != 0 && thr ≤ l.length then f.rowRetire row.toNat (Config.retireCause 5 1).toNat else f, q⟩)
  ∧ (∀ (row : Word) (addr : BitVec 48) (a : Nat) (d e : Dev) (q : List Instr),
    e = (((d.bump F.DMC_ECC_uncorrected).wr F.DMC_LAST_ERR_row row.toNat).raise 481).trouble minuetId 2 0xE 2 row.toNat →
    a = addr.toNat / 4 * 4 → exec (.dramEccUncorrectable row addr) ⟨d, q⟩ = .next ⟨Dev.rowRetire { e with pmu := { e.pmu with
      poison := if e.pmu.poison.contains a then e.pmu.poison else e.pmu.poison ++ [a] } } row.toNat (Config.retireCause 5 2).toNat, q⟩)
  ∧ (∀ (t : Fin 8) (d : Dev) (q : List Instr), bit (d.rd F.PMU_CORE_retired) t.val = false →
    exec (.coreEccError t true) ⟨d, q⟩ = .next ⟨d.coreRetire t.val (Config.retireCause 6 2).toNat, q⟩)
  ∧ (∀ (t : Fin 8) (win thr : Nat) (l : List Nat) (d e f : Dev) (q : List Instr), bit (d.rd F.PMU_CORE_retired) t.val = false →
    win = zeroAs (d.rd F.PMU_CORE_CFG_window) 1 * sNs →
    l = (mgetD d.pmu.coreFaults t.val []).filter (fun x => d.clk < x + win) ++ [d.clk] →
    e = { d with pmu := { d.pmu with coreFaults := mput d.pmu.coreFaults t.val l } } →
    f = ((e.bump F.PMU_CORE_transients).raise 105).trouble minuetId 1 4 6 t.val l.length → thr = f.rd F.PMU_CORE_CFG_retire_thr →
    exec (.coreEccError t false) ⟨d, q⟩
      = .next ⟨if thr != 0 && thr ≤ l.length then f.coreRetire t.val (Config.retireCause 6 1).toNat else f, q⟩)
  ∧ (∀ (t : Fin 8) (d : Dev) (q : List Instr), exec (.coreProbeTimeout t) ⟨d, q⟩
    = .next ⟨d.coreRetire t.val (Config.retireCause 6 2).toNat, q⟩)
  ∧ (∀ (d : Dev) (q : List Instr), d.pmu.vbat = true →
    exec .vaonLoss ⟨d, q⟩ = .next ⟨{ d with pmu := { d.pmu with vaon := false } }, q⟩)
  ∧ (∀ (d : Dev) (q : List Instr), d.pmu.vaon = true →
    exec .vbatLoss ⟨d, q⟩ = .next ⟨{ d with pmu := { d.pmu with vbat := false } }, q⟩)
  ∧ (∀ (d : Dev) (q : List Instr),
    exec .vaonRestore ⟨d, q⟩ = .next ⟨{ d with pmu := { d.pmu with vaon := true } }, q⟩
    ∧ exec .vbatRestore ⟨d, q⟩ = .next ⟨{ d with pmu := { d.pmu with vbat := true } }, q⟩)

/-- Enabling the recorder over a sound area scans the ring, restarts every set and tracker and runs. A sample is counted;
firmware feeds one by a write; a snapshot is captured at multiples of snap_s or on request, and its records are written;
SRB_WSEL loads a set or tracker into the window. An offered event and a sound firmware record are admitted to the log, then
drained; LOG_BUF posts a buffer, drain_to ends it; SRB_COPY copies records; LOG_MARK writes a mark, LOG_CLEAR empties;
firmware moves LOG_HEAD unless a ring drains; LOG_SEL loads a slot; a source's suppressed summary is written after 1 s.
(R501, R502, R505, R506, R511, R512, R513, R514, R515, R520, R521, R522) -/
def Obligations.RecorderAndLogCommandsComplete : Prop :=
  (∀ (last : Option (Nat × Nat × Nat)) (d e f : Dev) (q : List Instr), d.on F.SRB_STATUS_running = false →
    d.inDram d.srbArea (0x10000 + 64 * d.srbUnits) = true → last = d.srbScan.getLast? →
    e = (d.setF F.SRB_CTRL_enable).commitRwl 0x110000 →
    f = (Dev.wr { e with srb := { e.srb with held := d.srbScan, capture := [], ringPos := (last.map (fun x => x.2.1 + x.2.2)).getD 0 } }
      F.SRB_NEXT_LO_rseq ((last.map (fun x => x.1 + 1)).getD 0)).srbShowOldest → exec .srbEnable ⟨d, q⟩
      = .next ⟨(foldN 32 (fun s d => (d.histRestart s).extRestart s) f).setF F.SRB_STATUS_running, q⟩)
  ∧ (∀ (it : List Byte) (d : Dev) (q : List Instr), d.on F.SRB_STATUS_running = true → d.fifoHead srbFq = some it →
    exec (.srbSample none) ⟨d, q⟩
      = .next ⟨(d.fifoPop srbFq).srbCount (leAt it 0 1) (leAt it 1 1) (sgn 64 (leAt it 2 8)) (leAt it 10 8), q⟩)
  ∧ (∀ (m i : BitVec 8) (v : BitVec 64) (it : List Byte) (d e : Dev) (q : List Instr), e = d.sample m.toNat i.toNat v.toNat →
    e.on F.SRB_STATUS_running = true → e.fifoHead srbFq = some it → exec (.srbSample (some (m, i, v))) ⟨d, q⟩
      = .next ⟨(e.fifoPop srbFq).srbCount (leAt it 0 1) (leAt it 1 1) (sgn 64 (leAt it 2 8)) (leAt it 10 8), q⟩)
  ∧ (∀ (v : Word) (d : Dev) (q : List Instr), exec (.srbFeedWrite v) ⟨d, q⟩
    = .next ⟨d.sample (0x40 + bits v.toNat 26 6) 0 (uns 64 (sgn 24 v.toNat)), q⟩)
  ∧ (∀ (sec : BitVec 48) (n : Nat) (d : Dev) (q : List Instr), n = d.rd F.SRB_CTRL_snap_s → n ≠ 0 → sec.toNat % n = 0 →
    exec (.snapshotTimer sec) ⟨d, q⟩ = .next ⟨d.srbRequest false, q⟩)
  ∧ (∀ (d : Dev) (q : List Instr), d.on F.SRB_STATUS_running = true → exec .srbSnapNow ⟨d, q⟩ = .next ⟨(d.setF F.SRB_CTRL_snap_now).srbRequest true, q⟩)
  ∧ (∀ (d : Dev) (q : List Instr), d.srb.capture.isEmpty = false → exec .snapshotWritten ⟨d, q⟩ = .next ⟨d.srbWriteCapture, q⟩)
  ∧ (∀ (v : Word) (d e : Dev) (r : List Byte) (q : List Instr),
    e = ((d.wr F.SRB_WSEL_idx (bits v.toNat 0 5)).flag F.SRB_WSEL_tracker (bit v.toNat 5)).setF F.SRB_WSEL_loaded →
    r = srbSealed (if bit v.toNat 5 then e.extRecord (bits v.toNat 0 5) false else e.histRecord (bits v.toNat 0 5) false) →
    exec (.srbWselWrite v) ⟨d, q⟩ = .next ⟨foldN 80 (fun w d => d.wr (F.SRB_WIN_w.at w) (leAt r (4 * w) 4)) e, q⟩)
  ∧ (∀ (x : LogEv) (rest : List LogEv) (d e : Dev) (q : List Instr), d.log.offered = x :: rest →
    e = { d with log := { d.log with offered := rest } } → exec .logRecord ⟨d, q⟩ = .next ⟨(e.logAdmit x).logDrain, q⟩)
  ∧ (∀ (m : BitVec 6) (v : Word) (a t : Nat) (b : List Byte) (d : Dev) (q : List Instr), a = hallBase + bits v.toNat 5 21 * 32 →
    inHall a 32 = true → b = d.mem.readBytes a 32 → leAt b 28 3 = crc32c 0xFFFFFFFF (b.take 28) % 2 ^ 24 → 0x80 ≤ byteAt b 13 →
    byteAt b 13 ≤ 0xEF → bit (byteAt b 14) 0 = true → t = leAt b 0 8 → exec (.logAppend m v) ⟨d, q⟩ = .next ⟨(d.logAdmit {
      tick := if t = 0 then d.tick else t, src := m.toNat, sev := byteAt b 12 / 64, code := byteAt b 13
      p0 := leAt b 16 4, p1 := leAt b 20 4, p2 := leAt b 24 4 } (byteAt b 14)).logDrain, q⟩)
  ∧ (∀ (n : Fin 64) (w : BitVec 512) (l : List Byte) (d : Dev) (q : List Instr), wUnusedZero w [(8, 20)] = true → wReservedOk w = true →
    wLen w % 32 = 0 → 32 ≤ wLen w → wLen w ≤ 0x100000 → exec (.logBuf { via := .ring n, w := w, data := l }) ⟨d, q⟩
      = .next ⟨(d.setPair n.val { d.pair n.val with bufs := (d.pair n.val).bufs ++ [{ w := w }] }).logDrain, q⟩)
  ∧ (∀ (n : Nat) (b : PostedBuf) (rest : List PostedBuf) (d : Dev) (q : List Instr), d.logRing = some n → (d.pair n).bufs = b :: rest →
    b.records ≠ 0 → b.firstTick + zeroAs (d.rd F.LOG_CTRL_drain_to) 1 * msNs ≤ d.tick →
    exec .logBufTimeout ⟨d, q⟩ = .next ⟨d.logBufEnd n b stOkPartial, q⟩)
  ∧ (∀ (c : Desc) (units : Nat) (d e : Dev) (rest : List (Nat × Nat × Nat)) (got : List (Nat × List Byte)) (q : List Instr),
    wUnusedZero c.w [(8, 20), (24, 37)] = true → wReservedOk c.w = true → units = wArg c.w 32 4 → wArg c.w 36 1 < 2 →
    wLen c.w % 64 = 0 → units ≤ wLen c.w / 64 → e = (if wArg c.w 36 1 == 1 then (d.srbRequest true).srbWriteCapture else d) →
    rest = e.srb.held.filter (fun x => wArg c.w 24 8 ≤ x.1) → got = e.srbTake rest units → got ≠ [] →
    exec (.srbCopy c) ⟨d, q⟩ = .next ⟨e.finish c {
      status := 0, result := got.length, result2 := (got.getLast?.map (·.1 + 1)).getD 0
      data := [(wAddr c.w, got.flatMap (·.2))] }, q⟩)
  ∧ (∀ (c : Desc) (d e : Dev) (t : Nat) (q : List Instr), wUnusedZero c.w [(24, 36)] = true → wReservedOk c.w = true →
    e = d.logAdmit {
      tick := d.tick, src := 0, sev := 0, code := 0xF2, p0 := wArg c.w 24 4, p1 := wArg c.w 28 4, p2 := wArg c.w 32 4 } →
    t = e.rd F.LOG_TAIL_tail → t ≠ d.rd F.LOG_TAIL_tail →
    exec (.logMark c) ⟨d, q⟩ = .next ⟨(e.okRes c ((t + 2 ^ 32 - 1) % 2 ^ 32)).logDrain, q⟩)
  ∧ (∀ (c : Desc) (d : Dev) (q : List Instr), wUnusedZero c.w [] = true → wReservedOk c.w = true →
    exec (.logClear c) ⟨d, q⟩ = .next ⟨(d.logEmpty 0).okRes c d.logLevel, q⟩)
  ∧ (∀ (m : BitVec 6) (d : Dev) (q : List Instr), exec (.logCtrlClear m) ⟨d, q⟩ = .next ⟨d.logEmpty m.toNat, q⟩)
  ∧ (∀ (v : Word) (d : Dev) (q : List Instr), d.on F.LOG_STATUS_drain_ring = false →
    serSub 32 v.toNat (d.rd F.LOG_HEAD_head) ≤ d.logLevel → exec (.logHeadWrite v) ⟨d, q⟩ = .next ⟨d.logHeadTo v.toNat, q⟩)
  ∧ (∀ (v : Word) (d e : Dev) (q : List Instr), e = (d.wr F.LOG_SEL_slot (bits v.toNat 0 15)).setF F.LOG_SEL_loaded →
    exec (.logSelWrite v) ⟨d, q⟩
      = .next ⟨foldN 8 (fun i d' => d'.wr (F.LOG_REC_w.at i) (bits (tget d.log.slots (bits v.toNat 0 15)) (32 * i) 32)) e, q⟩)
  ∧ (∀ (x : BitVec 6) (b : LogBucket) (d : Dev) (q : List Instr), b = mgetD d.log.buckets x.toNat {} → b.supp ≠ 0 →
    b.lastTick + sNs ≤ d.tick → exec (.suppressedSummaryTimer x) ⟨d, q⟩ = .next ⟨(d.logSuppSummary x.toNat).logDrain, q⟩)

/-- For every command and every device, a step of a state with that command at the front of its queue is the command's own
effect on the device with the queue's rest. (95_what_each_step_holds.md) -/
def Obligations.StepRunsTheFrontCommand : Prop :=
  ∀ (c : Instr) (d : Dev) (q : List Instr), step ⟨d, c :: q⟩ = exec c ⟨d, q⟩

/-- Log entry 1 (DESIGN CHOICE): with no command waiting, the posted writes arrive, tamper sensors whose trip stands may come
back, and the device tick and the AON clock each count one. With no posted write and no sensor tripped now, nothing but the
two counts changes. (R341, R349) -/
def Obligations.IdlePassesOneNanosecond : Prop :=
  (∀ d : Dev, step ⟨d, []⟩ = .next ⟨{ d.postedDrain.tamperSettle with
      tick := d.postedDrain.tamperSettle.tick + 1, clk := d.postedDrain.tamperSettle.clk + 1 }, []⟩)
  ∧ (∀ d : Dev, d.sys.posted = [] → d.rd F.PAV_TMP_STAT_live = 0 →
      step ⟨d, []⟩ = .next ⟨{ d with tick := d.tick + 1, clk := d.clk + 1 }, []⟩)

/-- Whatever the device holds and whatever the operands are, no command stops the block: exec answers a next state, and the
queue in it is the queue it was given. (95_what_each_step_holds.md) -/
def Obligations.EveryCommandAnswers : Prop :=
  ∀ (c : Instr) (s : State), ∃ t, exec c s = .next t ∧ t.pending = s.pending

/-- From every device, as many steps as there are commands in the first part of the queue answer a state in which exactly the
second part waits. The second part has no influence on the device reached by the first. (95_what_each_step_holds.md) -/
def Obligations.QueueDrainsInOrder : Prop :=
  ∀ (l : List Instr) (d : Dev), ∃ e : Dev, ∀ r : List Instr, Host.Core.run Sys2Proof.core l.length ⟨d, l ++ r⟩ = .next ⟨e, r⟩

/-- For every state, reached or not: if byte memory lists its addresses rising without a byte an unlisted address reads anyway,
the register table no field at its reset value, and the FIFO table each FIFO once, then a step of it, whatever command
stands in front, answers a state of the same form. (R12, R22, R32) -/
def Obligations.StepsKeepStoredDataCanonical : Prop :=
  ∀ (s t : State), s.dev.canon = true → step s = .next t → t.dev.canon = true

/-- The machine after reset meets the invariant that every step keeps. (R12, R22, R32) -/
def Obligations.ResetIsCanonical : Prop :=
  State.reset.dev.canon = true

/-- After reset every register field reads the value of its Reset column (R13); the device is in Boot; no command waits, no
access or message has gone out, no FIFO holds an item; SYS_ID reads part 0x9640, stepping 0xB0 and package 1. That the state
is the one right after AONPOR, and that memory then lists nothing, are the model's choices (log entries 3 and 7). (R13, R5,
R4) -/
def Obligations.ResetLeavesResetValues : Prop :=
  (∀ f : Fld, State.reset.dev.rd f = f.reset)
  ∧ State.reset.dev.mode = .boot ∧ State.reset.pending = [] ∧ State.reset.dev.out = [] ∧ State.reset.dev.fifos = []
  ∧ State.reset.dev.mem = []
  ∧ State.reset.dev.rd F.SYS_ID_part = 0x9640 ∧ State.reset.dev.rd F.SYS_ID_stepping = 0xB0 ∧ State.reset.dev.rd F.SYS_ID_pkg = 1

/-- RW takes the written value, RO keeps its own, a 1 written to W1C clears its bit and to W1S sets it while a 0 does nothing,
RWL is RW before its block's commit and RO after it, until a reset not named in Kept over; a WO field reads 0; reading
clears an RC field. A register of one 32-bit field is written by these rules. (R12) -/
def Obligations.RegisterTypeCodes : Prop :=
  (∀ (c : Bool) (old w k : Nat), fldWritten .rw c old w = w ∧ fldWritten .ro c old w = old
    ∧ bit (fldWritten .w1c c old w) k = (bit old k && !bit w k) ∧ bit (fldWritten .w1s c old w) k = (bit old k || bit w k)
    ∧ fldWritten .rwl false old w = w ∧ fldWritten .rwl true old w = old)
  ∧ (∀ (d : Dev) (f : Fld), d.fldReads f = if f.ty = .wo then 0 else d.rd f)
  ∧ (∀ (d : Dev) (off v : Nat) (f : Fld), fieldsAt off = [f] → f.key = 8 * off → off % 4 = 0 → f.width = 32 → d.rd f < 2 ^ 32 →
    v < 2 ^ 32 → (∀ x, fldLegal f (d.rd f) x = x) →
    (d.regWrite32 off v).rd f = fldWritten f.ty (d.isCommitted off f.kept) (d.rd f) v)
  ∧ (∀ (d : Dev) (off : Nat) (f : Fld), fieldsAt off = [f] → f.key = 8 * off → off % 4 = 0 → f.width = 32 → d.rd f < 2 ^ 32 →
    (d.regClearRc off).rd f = if f.ty = .rc then 0 else d.rd f)
  ∧ (∀ (d : Dev) (off : Nat) (p : Kept) (k : RstKind), off < 0x4000000 → p = .hf ∨ p = .all → (d.commitRwl off).isCommitted off p = true
    ∧ ((d.commitRwl off).winReset k (off / 0x10000)).isCommitted off p = p.ovr k)
  ∧ (∀ w < 19, ∀ f ∈ fieldsOfWindow w, f.ty = .rwl → f.kept = .hf ∨ f.kept = .all)

/-- A target with an offered source reads it with valid = 1; its pending bit is cleared, the source is active at the target and
fills the slot of its class; the time since it became pending then goes to the recorder as a sample. With nothing offered
the read answers valid = 0 and nothing else changes. (R85) -/
def Obligations.ClaimTakesTheOffer : Prop :=
  (∀ (t : Fin 10) (m : BitVec 6) (fast : Bool) (n : Nat) (d : Dev) (q : List Instr),
    mget? d.icu.offer (slotKey t.val fast) = some n → n < 512 → (fast = false → mget? d.icu.offer (slotKey t.val true) = none) →
    ∃ e : Dev, exec (.icuClaim t m) ⟨d, q⟩ = .next ⟨e.sample 0x10 t.val (d.tick - mgetD d.icu.pendAt n d.tick), q⟩
      ∧ e.out = d.out ++ [.readData m.toNat (0x22004 + 0x20 * t.val) (leBytes 4 (2 ^ 31 + b2n fast * 2 ^ 30 + n)) false]
      ∧ e.srcBit F.ICU_PEND_pending n = false ∧ mget? e.icu.active n = some (.target t.val)
      ∧ mget? e.icu.slot (slotKey t.val fast) = some n ∧ mget? e.icu.offer (slotKey t.val fast) = none)
  ∧ (∀ (t : Fin 10) (m : BitVec 6) (d : Dev) (q : List Instr), mget? d.icu.offer (slotKey t.val true) = none →
    mget? d.icu.offer (slotKey t.val false) = none → d.offerFor t.val = none → exec (.icuClaim t m) ⟨d, q⟩
      = .next ⟨{ d with out := d.out ++ [.readData m.toNat (0x22004 + 0x20 * t.val) (leBytes 4 0) false] }, q⟩)

/-- In fixed mode the offer is of the normal slot whatever the class field says, is the lowest-numbered of the target's
deliverable sources, and is made only while the target has no active source; a target without moderation and with a
deliverable source has an offer. (R82) -/
def Obligations.FixedModeOffersTheLowest : Prop :=
  (∀ (t n : Nat) (fast : Bool) (d : Dev), d.classMode t = false → d.offerFor t = some (fast, n) →
    fast = false ∧ n ∈ d.deliverableTo t ∧ (∀ k ∈ d.deliverableTo t, n ≤ k) ∧ mget? d.icu.slot (slotKey t false) = none)
  ∧ (∀ (t n : Nat) (d : Dev), d.classMode t = false → mget? d.icu.slot (slotKey t false) = some n → d.offerFor t = none)
  ∧ (∀ (t : Nat) (d : Dev), d.classMode t = false → mget? d.icu.slot (slotKey t false) = none → modOff (d.modOf t) = true →
    d.deliverableTo t ≠ [] → ∃ n, d.offerFor t = some (false, n))

/-- A clear makes the source's pending bit 0, leaves the pending bit of every other source and every active state. A set makes
it 1, leaves every other one, and is then an event of the source; the tick at which it became pending is noted. (R90) -/
def Obligations.SourceCommandTouchesOneBit : Prop :=
  (∀ (n : Fin 512) (d : Dev) (q : List Instr), ∃ e : Dev, exec (.icuSrcCmdClear n) ⟨d, q⟩ = .next ⟨e, q⟩
    ∧ e.srcBit F.ICU_PEND_pending n.val = false ∧ e.icu.active = d.icu.active
    ∧ (∀ k : Fin 512, k ≠ n → e.srcBit F.ICU_PEND_pending k.val = d.srcBit F.ICU_PEND_pending k.val))
  ∧ (∀ (n : Fin 512) (d : Dev) (q : List Instr), ∃ e : Dev, exec (.icuSrcCmdSet n) ⟨d, q⟩ = .next ⟨e.modEvent n.val false (d.leftOver (d.srcTarget n.val)), q⟩
    ∧ e.srcBit F.ICU_PEND_pending n.val = true ∧ e.icu = (d.pendNote n.val).icu
    ∧ (∀ k : Fin 512, k ≠ n → e.srcBit F.ICU_PEND_pending k.val = d.srcBit F.ICU_PEND_pending k.val))

/-- A sample below base falls in bin 0. In linear mode of width w it falls in bin 1 + floor(d / w) up to 62, and in bin 63 from
62 × w on. In log2 mode of shift h, with u = d >> h, bin 1 holds u = 0, bin k from 2 to 62 holds u from 2^(k−2) to 2^(k−1) −
1, bin 63 every larger u. With base 0 and shift 3, 61, 310 and 4,096 fall in bins 4, 7 and 11. (R503) -/
def Obligations.HistogramBins : Prop :=
  (∀ (lg : Bool) (w : Nat) (base v : Int), v < base → histBin lg w base v = 0)
  ∧ (∀ (w d : Nat) (base v : Int), 1 ≤ w → v - base = d → (1 + d / w ≤ 62 → histBin false w base v = 1 + d / w)
    ∧ (62 * w ≤ d → histBin false w base v = 63))
  ∧ (∀ (h d : Nat) (base v : Int), h < 64 → v - base = d → (d / 2 ^ h = 0 → histBin true h base v = 1)
    ∧ (∀ k, 2 ≤ k → k ≤ 62 → 2 ^ (k - 2) ≤ d / 2 ^ h → d / 2 ^ h < 2 ^ (k - 1) → histBin true h base v = k)
    ∧ (2 ^ 61 ≤ d / 2 ^ h → histBin true h base v = 63))
  ∧ histBin true 3 0 61 = 4 ∧ histBin true 3 0 310 = 7 ∧ histBin true 3 0 4096 = 11

/-- A counter above F is accepted, becomes F and shifts the bitmap, its own bit set; one at most 63 below is accepted once, with
its bit set and every other bit kept; an older one is stale. After an accepted frame the same counter is a duplicate. A new
record accepts counter 0 once. The generation class follows (g − G) mod 2^16 against gen_ahead. (R139, R140) -/
def Obligations.ReplayAndGenerationTests : Prop :=
  (∀ (f b c : Nat), f < c → replayTest f b c = .accept false c (if c - f < 64 then (b * 2 ^ (c - f) + 1) % 2 ^ 64 else 1))
  ∧ (∀ (f b c : Nat), c ≤ f → f - c ≤ 63 → bit b (f - c) = false → ∃ b' : Nat, replayTest f b c = .accept true f b'
    ∧ bit b' (f - c) = true ∧ (∀ k, k ≠ f - c → bit b' k = bit b k))
  ∧ (∀ (f b c : Nat), c ≤ f → f - c ≤ 63 → bit b (f - c) = true → replayTest f b c = .dup)
  ∧ (∀ (f b c : Nat), 63 < f - c → replayTest f b c = .stale)
  ∧ (∀ (f b c f' b' : Nat) (late : Bool), replayTest f b c = .accept late f' b' → replayTest f' b' c = .dup)
  ∧ (∃ b', replayTest 0 0 0 = .accept true 0 b')
  ∧ (∀ (g h : Nat) (d : Dev), h < 2 ^ 16 → g < 2 ^ 16 → d.rd F.REEL_KEY_gen_ahead ≤ 0x7FFF →
    (g = h → d.genTest g h = 0) ∧ (∀ k, 1 ≤ k → k ≤ d.rd F.REEL_KEY_gen_ahead → g = (h + k) % 2 ^ 16 → d.genTest g h = 1)
    ∧ (∀ k, d.rd F.REEL_KEY_gen_ahead < k → k ≤ 0x7FFF → g = (h + k) % 2 ^ 16 → d.genTest g h = 2)
    ∧ (∀ k, 0x8000 ≤ k → k < 0x10000 → g = (h + k) % 2 ^ 16 → d.genTest g h = 3))

/-- The TSU's capture FIFOs and the recorder's sample FIFO are freshest-wins: full, they drop the oldest item, store the new one
and raise lost, which saturates at 0xFFFF. A full FIFO of another kind keeps its contents. With room, an item goes to the
tail of either. (R26) -/
def Obligations.FreshestFifoDropsTheOldest : Prop :=
  (∀ (off cap : Nat) (it : List Byte) (d : Dev), fifoFreshest off = true → d.fifoRoom off cap it = false →
    ((d.fifoPush off cap it).fifo off).items = (d.fifo off).items.drop 1 ++ [it]
    ∧ (d.fifoPush off cap it).rd (fqFld off F.WLZ_FQ_STAT_lost) = satAdd 0xFFFF (d.rd (fqFld off F.WLZ_FQ_STAT_lost)) 1)
  ∧ (∀ (off cap : Nat) (it : List Byte) (d : Dev), fifoFreshest off = false → d.fifoRoom off cap it = false →
    d.fifoPush off cap it = d)
  ∧ (∀ (off cap : Nat) (it : List Byte) (d : Dev), d.fifoRoom off cap it = true →
    ((d.fifoPush off cap it).fifo off).items = (d.fifo off).items ++ [it])
  ∧ (∀ m n : Nat, m ≤ 0xFFFF → satAdd 0xFFFF m 1 ≤ 0xFFFF ∧ (m < 0xFFFF → satAdd 0xFFFF m 1 = m + 1) ∧ satAdd 0xFFFF 0xFFFF n = 0xFFFF)

/-- A pair message is 20 bytes longer than its payload, ends with the CRC-32C of all before it, and its type, flags, length,
sequences, term and payload are read back from the bytes of R424. A completion is 32 bytes, and its fields are read back
from the bytes of R57. (R57, R424) -/
def Obligations.MessageAndCompletionLayouts : Prop :=
  (∀ (m : EplMsg) (s a t : Nat), m.mtype < 2 ^ 8 → m.mflags < 2 ^ 8 → m.payload.length ≤ 8192 → s < 2 ^ 32 → a < 2 ^ 32 → t < 2 ^ 32 →
    (eplBytes m s a t).length = m.payload.length + 20 ∧ byteAt (eplBytes m s a t) 0 = m.mtype ∧ byteAt (eplBytes m s a t) 1 = m.mflags
    ∧ leAt (eplBytes m s a t) 2 2 = m.payload.length ∧ leAt (eplBytes m s a t) 4 4 = s ∧ leAt (eplBytes m s a t) 8 4 = a
    ∧ leAt (eplBytes m s a t) 12 4 = t ∧ ((eplBytes m s a t).drop 16).take m.payload.length = m.payload
    ∧ leAt (eplBytes m s a t) (m.payload.length + 16) 4
      = crc32c 0xFFFFFFFF ((eplBytes m s a t).take (m.payload.length + 16)) % 2 ^ 32)
  ∧ (∀ (s r r2 tag h st i p : Nat), s < 2 ^ 64 → r < 2 ^ 64 → r2 < 2 ^ 64 → tag < 2 ^ 16 → h < 2 ^ 16 → st < 2 ^ 16 → i < 2 ^ 8 →
    p < 2 ^ 8 → (cplBytes s r r2 tag h st i p).length = 32 ∧ leAt (cplBytes s r r2 tag h st i p) 0 8 = s
    ∧ leAt (cplBytes s r r2 tag h st i p) 8 8 = r ∧ leAt (cplBytes s r r2 tag h st i p) 16 8 = r2
    ∧ leAt (cplBytes s r r2 tag h st i p) 24 2 = tag ∧ leAt (cplBytes s r r2 tag h st i p) 26 2 = h
    ∧ leAt (cplBytes s r r2 tag h st i p) 28 2 = st ∧ byteAt (cplBytes s r r2 tag h st i p) 30 = i
    ∧ byteAt (cplBytes s r r2 tag h st i p) 31 = p)

/-- An address in the EPL window stands for a partner address below 0x4000_0000_0000. An access that this unit receives through
the partner's window and that names its own EPL window or outbound window is unmapped: a write is refused and a read answers
an error, with the unmapped kind captured for master 0x3F. (R33) -/
def Obligations.PartnerWindowBounds : Prop :=
  (∀ (a n : Nat) (d : Dev), d.dramBytes ≤ 128 * 0x40000000 → 0x400000000000 ≤ a → a + n ≤ 0x800000000000 → 0 < n →
    d.regionOf a n = .partner (a - 0x400000000000) ∧ a - 0x400000000000 < 0x400000000000)
  ∧ (∀ (a n : Nat) (l : List Byte) (d : Dev), 0x400000000000 ≤ a → d.partnerServe a n true l = d.badWrite 1 0x3F a
    ∧ d.partnerServe a n false l = d.badRead 1 0x3F a n)

/-- In every block's window, for every field outside a register array: a reset kind that its Kept over column names leaves the
field, every other one returns it to its reset value. "all" is every reset but AONPOR, "none" names no reset. (R13) -/
def Obligations.RegisterResetsFollowKeptOver : Prop :=
  (∀ (w : Nat) (f : Fld) (k : RstKind) (d : Dev), w < 19 → f ∈ fieldsOfWindow w → f.stride = 0 →
    (d.winReset k w).rd f = if f.kept.ovr k then d.rd f else f.reset)
  ∧ (∀ k : RstKind, Kept.ovr .none k = false ∧ (Kept.ovr .all k = true ↔ k ≠ .aonpor))

/-- Each of these commands, wherever it answers a next state (PAV_UNLOCK outside Recovery; ICU_SRC_CFG of a host source, 0-63),
changes register fields and nothing else: memory, FIFOs, time, what has gone out and every block's own state are as before,
and so is the queue. (R12, R61, R80, R472) -/
def Obligations.RegisterOnlyCommandsFrame : Prop :=
  (∀ s t : State, exec .islandedCondSet s = .next t → t = ⟨{ s.dev with regs := t.dev.regs }, s.pending⟩)
  ∧ (∀ s t : State, exec .islandedCondClear s = .next t → t = ⟨{ s.dev with regs := t.dev.regs }, s.pending⟩)
  ∧ (∀ s t : State, exec .d3hotEnter s = .next t → t = ⟨{ s.dev with regs := t.dev.regs }, s.pending⟩)
  ∧ (∀ s t : State, s.dev.mode ≠ .recovery → exec .pavUnlock s = .next t → t = ⟨{ s.dev with regs := t.dev.regs }, s.pending⟩)
  ∧ (∀ (q : Fin 8) (v : Word) (s t : State), exec (.ethTxqPost q v) s = .next t → t = ⟨{ s.dev with regs := t.dev.regs }, s.pending⟩)
  ∧ (∀ (v : Word) (s t : State), exec (.ethWakeCfgWrite v) s = .next t → t = ⟨{ s.dev with regs := t.dev.regs }, s.pending⟩)
  ∧ (∀ (n : Fin 12) (s t : State), exec (.mzkBeaconForce n) s = .next t → t = ⟨{ s.dev with regs := t.dev.regs }, s.pending⟩)
  ∧ (∀ (n : Fin 16) (s t : State), exec (.plcBeaconForce n) s = .next t → t = ⟨{ s.dev with regs := t.dev.regs }, s.pending⟩)
  ∧ (∀ (n : Fin 512) (v : Word) (s t : State), n.val < 64 → exec (.icuSrcCfgWrite n v) s = .next t → t = ⟨{ s.dev with regs := t.dev.regs }, s.pending⟩)
  ∧ (∀ (v : Word) (s t : State), exec (.logSelWrite v) s = .next t → t = ⟨{ s.dev with regs := t.dev.regs }, s.pending⟩)

/-- Wherever these commands answer a next state, they change register fields and the own state of the block named, and nothing
else: the ICU's, the MSR's, Waltz's, the TSU's. Memory, FIFOs, time and what has gone out are as before. (R80, R88, R90,
R118, R211, R359) -/
def Obligations.BlockStateFrames : Prop :=
  (∀ (n : Fin 512) (s t : State), exec (.icuSrcCmdClear n) s = .next t →
    t = ⟨{ s.dev with regs := t.dev.regs, icu := t.dev.icu }, s.pending⟩)
  ∧ (∀ (l : Bool) (s t : State), exec (.pcieLinkUp l) s = .next t →
    t = ⟨{ s.dev with regs := t.dev.regs, icu := t.dev.icu }, s.pending⟩)
  ∧ (∀ (x : Fin 10) (seen : CoreSeen) (s t : State), exec (.icuOffer x seen) s = .next t →
    t = ⟨{ s.dev with regs := t.dev.regs, icu := t.dev.icu }, s.pending⟩)
  ∧ (∀ (x : Fin 10) (v : Word) (s t : State), exec (.icuModeWrite x v) s = .next t →
    t = ⟨{ s.dev with regs := t.dev.regs, icu := t.dev.icu }, s.pending⟩)
  ∧ (∀ (s t : State), exec .msrCheckpointPeriod s = .next t →
    t = ⟨{ s.dev with regs := t.dev.regs, msr := t.dev.msr }, s.pending⟩)
  ∧ (∀ (s t : State), exec .msrCkptNow s = .next t → t = ⟨{ s.dev with regs := t.dev.regs, msr := t.dev.msr }, s.pending⟩)
  ∧ (∀ (s t : State), exec .waltzRunningStart s = .next t → t = ⟨{ s.dev with regs := t.dev.regs, wlz := t.dev.wlz }, s.pending⟩)
  ∧ (∀ (s t : State), exec .inferNow s = .next t → t = ⟨{ s.dev with regs := t.dev.regs, wlz := t.dev.wlz }, s.pending⟩)
  ∧ (∀ (k : Fin 4) (s t : State), exec (.pulseArm k) s = .next t →
    t = ⟨{ s.dev with regs := t.dev.regs, tsu := t.dev.tsu }, s.pending⟩)

/-- Wherever these commands answer a next state, every byte of memory reads as before: events, their claim and completion, the
configuration of sources, the writes of pending bits, the watchdog's warning, the RTC, reads and conversions of time,
pulses. (R80, R85, R86, R343, R362, R486) -/
def Obligations.MemoryKeepingFrame : Prop :=
  (∀ (n : Fin 512) (s t : State), exec (.icuEdgeEvent n) s = .next t → ∀ a, t.dev.mem.read a = s.dev.mem.read a)
  ∧ (∀ (n : Fin 512) (s t : State), exec (.icuSrcCmdSet n) s = .next t → ∀ a, t.dev.mem.read a = s.dev.mem.read a)
  ∧ (∀ (x : Fin 10) (m : BitVec 6) (s t : State), exec (.icuClaim x m) s = .next t → ∀ a, t.dev.mem.read a = s.dev.mem.read a)
  ∧ (∀ (x : Fin 10) (v : BitVec 9) (s t : State), exec (.icuDone x v) s = .next t → ∀ a, t.dev.mem.read a = s.dev.mem.read a)
  ∧ (∀ s t : State, exec .wdtPrewarn s = .next t → ∀ a, t.dev.mem.read a = s.dev.mem.read a)
  ∧ (∀ (v : Word) (s t : State), exec (.rtcSecWrite v) s = .next t → ∀ a, t.dev.mem.read a = s.dev.mem.read a)
  ∧ (∀ (m : BitVec 6) (s t : State), exec (.tsuNowRead m) s = .next t → ∀ a, t.dev.mem.read a = s.dev.mem.read a)
  ∧ (∀ (k : Fin 4) (s t : State), exec (.pulseArm k) s = .next t → ∀ a, t.dev.mem.read a = s.dev.mem.read a)
  ∧ (∀ (k : Fin 4) (s t : State), exec (.pulseTrailingEdge k) s = .next t → ∀ a, t.dev.mem.read a = s.dev.mem.read a)
  ∧ (∀ (n : Fin 512) (v : Word) (s t : State), exec (.icuSrcCfgWrite n v) s = .next t → ∀ a, t.dev.mem.read a = s.dev.mem.read a)
  ∧ (∀ (w : Fin 16) (v b c : Word) (s t : State), exec (.icuPendWrite w v b c) s = .next t → ∀ a, t.dev.mem.read a = s.dev.mem.read a)
end

