-- ==== Sys2Proof/Laws/Canon.lean ====
section
/-! SUPPORT. The canonical form of the stored data (Dev.canon) over the ways meanings are put together: choices, folds, pairs
of a device and an answer. -/

namespace Sys2Proof.Machine

/-! ### Sparse maps keep their keys strictly rising -/

theorem mwf_iff {α : Type} (m : Map α) : mwf m = true ↔ m.Pairwise (fun a b => a.1 < b.1) := by
  induction m with
  | nil => simp [mwf]
  | cons a t ih =>
    cases t with
    | nil => simp [mwf]
    | cons b t =>
      have h : mwf (a :: b :: t) = (decide (a.1 < b.1) && mwf (b :: t)) := rfl
      rw [h, List.pairwise_cons, Bool.and_eq_true, ih, decide_eq_true_eq]
      constructor
      · rintro ⟨h1, h2⟩
        refine ⟨fun c hc => ?_, h2⟩
        rcases List.mem_cons.1 hc with rfl | hc
        · exact h1
        · exact Nat.lt_trans h1 ((List.pairwise_cons.1 h2).1 c hc)
      · rintro ⟨h1, h2⟩
        exact ⟨h1 b (List.mem_cons_self ..), h2⟩

theorem mwf_filter {α : Type} (m : Map α) (p : Nat × α → Bool) (h : mwf m = true) : mwf (m.filter p) = true := by
  rw [mwf_iff] at h ⊢
  exact h.filter p

theorem mwf_mdel {α : Type} (m : Map α) (a : Nat) (h : mwf m = true) : mwf (mdel m a) = true := mwf_filter m _ h

theorem mem_mins {α : Type} (m : Map α) (a : Nat) (v : α) (e : Nat × α) : e ∈ mins m a v ↔ e = (a, v) ∨ e ∈ m := by
  induction m with
  | nil => simp [mins]
  | cons x t ih =>
    unfold mins
    split
    · simp
    · rw [List.mem_cons, ih, List.mem_cons]
      constructor
      · rintro (h | h | h)
        · exact .inr (.inl h)
        · exact .inl h
        · exact .inr (.inr h)
      · rintro (h | h | h)
        · exact .inr (.inl h)
        · exact .inl h
        · exact .inr (.inr h)

theorem mwf_mins {α : Type} (m : Map α) (a : Nat) (v : α) (h : mwf m = true) (hn : ∀ e ∈ m, e.1 ≠ a) :
    mwf (mins m a v) = true := by
  rw [mwf_iff] at h ⊢
  induction m with
  | nil => simp [mins]
  | cons x t ih =>
    have hx := List.pairwise_cons.1 h
    unfold mins
    split
    · rename_i hlt
      refine List.pairwise_cons.2 ⟨fun e he => ?_, h⟩
      rcases List.mem_cons.1 he with rfl | he
      · exact hlt
      · exact Nat.lt_trans hlt (hx.1 e he)
    · rename_i hge
      refine List.pairwise_cons.2 ⟨fun e he => ?_, ih hx.2 (fun e he => hn e (List.mem_cons_of_mem _ he))⟩
      rcases (mem_mins t a v e).1 he with rfl | he
      · exact Nat.lt_of_le_of_ne (Nat.le_of_not_lt hge) (hn x (List.mem_cons_self ..))
      · exact hx.1 e he

theorem mwf_mput {α : Type} (m : Map α) (a : Nat) (v : α) (h : mwf m = true) : mwf (mput m a v) = true := by
  refine mwf_mins _ _ _ (mwf_mdel m a h) (fun e he => ?_)
  simpa using (List.mem_filter.1 he).2

theorem Tab.wf_iff (t : Tab) : Tab.wf t = true ↔ mwf t = true ∧ ∀ e ∈ t, e.2 ≠ 0 := by
  unfold Tab.wf
  rw [Bool.and_eq_true, List.all_eq_true]
  simp

theorem Tab.wf_tset (t : Tab) (a v : Nat) (h : Tab.wf t = true) : Tab.wf (tset t a v) = true := by
  rw [Tab.wf_iff] at h ⊢
  unfold tset
  split
  · exact ⟨mwf_mdel t a h.1, fun e he => h.2 e (List.mem_filter.1 he).1⟩
  · rename_i hv
    refine ⟨mwf_mput t a v h.1, fun e he => ?_⟩
    rcases (mem_mins _ _ _ e).1 he with rfl | he
    · exact hv
    · exact h.2 e (List.mem_filter.1 he).1

theorem Tab.wf_filter (t : Tab) (p : Nat × Nat → Bool) (h : Tab.wf t = true) : Tab.wf (t.filter p) = true := by
  rw [Tab.wf_iff] at h ⊢
  exact ⟨mwf_filter t p h.1, fun e he => h.2 e (List.mem_filter.1 he).1⟩

/-! ### Byte memory keeps its canonical form -/

theorem Memory.wf_iff (m : Memory) : Memory.wf m = true ↔ mwf m = true ∧ ∀ e ∈ m, e.2 ≠ Memory.dflt := by
  unfold Memory.wf
  rw [Bool.and_eq_true, List.all_eq_true]
  simp

theorem Memory.wf_write (m : Memory) (a : Nat) (b : Byte) (h : Memory.wf m = true) : Memory.wf (m.write a b) = true := by
  rw [Memory.wf_iff] at h ⊢
  unfold Memory.write
  split
  · exact ⟨mwf_mdel m a h.1, fun e he => h.2 e (List.mem_filter.1 he).1⟩
  · rename_i hv
    refine ⟨mwf_mput m a b h.1, fun e he => ?_⟩
    rcases (mem_mins _ _ _ e).1 he with rfl | he
    · exact hv
    · exact h.2 e (List.mem_filter.1 he).1

theorem Memory.wf_writeBytes (l : List Byte) : ∀ (m : Memory) (a : Nat), Memory.wf m = true →
    Memory.wf (m.writeBytes a l) = true := by
  induction l with
  | nil => exact fun m a h => h
  | cons b t ih => exact fun m a h => ih _ _ (Memory.wf_write m a b h)

theorem Memory.wf_filter (m : Memory) (p : Host.Cell → Bool) (h : Memory.wf m = true) : Memory.wf (m.filter p) = true := by
  rw [Memory.wf_iff] at h ⊢
  exact ⟨mwf_filter m p h.1, fun e he => h.2 e (List.mem_filter.1 he).1⟩

/-! ### Canonical devices -/

theorem Dev.canon_iff (d : Dev) : d.canon = true ↔ d.mem.wf = true ∧ Tab.wf d.regs = true ∧ mwf d.fifos = true := by
  unfold Dev.canon
  rw [Bool.and_eq_true, Bool.and_eq_true, and_assoc]

/-- A device whose stored data is in canonical form. A structure, so that terms are compared by their parts. -/
structure Canon (d : Dev) : Prop where
  out : d.canon = true

/-- A pair of such a device and an answer. -/
structure Canon1 {α : Type} (p : Dev × α) : Prop where
  fst : Canon p.1

theorem Canon.iff (d : Dev) : Canon d ↔ d.mem.wf = true ∧ Tab.wf d.regs = true ∧ mwf d.fifos = true :=
  ⟨fun h => (Dev.canon_iff d).1 h.out, fun h => ⟨(Dev.canon_iff d).2 h⟩⟩

/-- A device that differs in none of the three stores. -/
theorem canon_upd {x : Dev} {tick clk fresh out sys icu xdi msr cu reel val wlz bol pav rtc plk mzk tsu eth gav epl upd pmu log srb}
    (h : Canon x) :
    Canon (Dev.mk x.regs x.mem x.fifos tick clk fresh out sys icu xdi msr cu reel val wlz bol pav rtc plk mzk tsu eth gav epl upd pmu log srb) := ⟨h.out⟩

theorem canon_mem {x : Dev} {m : Memory} (h : Canon x) (hm : m.wf = true) : Canon { x with mem := m } := by
  rw [Canon.iff] at h ⊢
  exact ⟨hm, h.2⟩

theorem canon_regs {x : Dev} {r : Tab} (h : Canon x) (hr : Tab.wf r = true) : Canon { x with regs := r } := by
  rw [Canon.iff] at h ⊢
  exact ⟨h.1, hr, h.2.2⟩

theorem canon_fifos {x : Dev} {m : Map Fifo} (h : Canon x) (hm : mwf m = true) :
    Canon { x with fifos := m } := by
  rw [Canon.iff] at h ⊢
  exact ⟨h.1, h.2.1, hm⟩

theorem canon_ite {c : Prop} [Decidable c] {a b : Dev} (ha : Canon a) (hb : Canon b) :
    Canon (if c then a else b) := by
  split
  · exact ha
  · exact hb

theorem canon_ite1 {α : Type} {c : Prop} [Decidable c] {a b : Dev × α} (ha : Canon1 a) (hb : Canon1 b) :
    Canon1 (if c then a else b) := by
  split
  · exact ha
  · exact hb

theorem canon_mk1 {α : Type} {a : Dev} {b : α} (h : Canon a) : Canon1 (a, b) := ⟨h⟩

theorem canon_fst_eq {α : Type} {p : Dev × α} {v : Dev} {w : α} (e : p = (v, w)) (h : Canon1 p) : Canon v := by
  rw [e] at h
  exact h.fst

theorem canon_foldl {α : Type} {f : Dev → α → Dev} {l : List α} {d : Dev} (hd : Canon d)
    (hf : ∀ (d : Dev) (x : α), Canon d → Canon (f d x)) : Canon (l.foldl f d) := by
  induction l generalizing d with
  | nil => exact hd
  | cons a t ih => exact ih (hf d a hd)

theorem canon_foldl1 {α β : Type} {f : Dev × β → α → Dev × β} {l : List α} {d : Dev × β} (hd : Canon1 d)
    (hf : ∀ (d : Dev × β) (x : α), Canon1 d → Canon1 (f d x)) : Canon1 (l.foldl f d) := by
  induction l generalizing d with
  | nil => exact hd
  | cons a t ih => exact ih (hf d a hd)

theorem canon_foldN {n : Nat} {f : Nat → Dev → Dev} {d : Dev} (hd : Canon d)
    (hf : ∀ (i : Nat) (d : Dev), Canon d → Canon (f i d)) : Canon (foldN n f d) := by
  induction n with
  | zero => exact hd
  | succ n ih => exact hf n _ ih

theorem canon_foldN1 {β : Type} {n : Nat} {f : Nat → Dev × β → Dev × β} {d : Dev × β} (hd : Canon1 d)
    (hf : ∀ (i : Nat) (d : Dev × β), Canon1 d → Canon1 (f i d)) : Canon1 (foldN n f d) := by
  induction n with
  | zero => exact hd
  | succ n ih => exact hf n _ ih

theorem canon_getD_map {α : Type} {f : α → Dev} {o : Option α} {d : Dev} (hf : ∀ v : α, Canon (f v))
    (hd : Canon d) : Canon ((o.map f).getD d) := by
  cases o with
  | none => exact hd
  | some v => exact hf v

theorem canon_getD {o : Option Dev} {d : Dev} (ho : ∀ v : Dev, o = some v → Canon v) (hd : Canon d) :
    Canon (o.getD d) := by
  cases o with
  | none => exact hd
  | some v => exact ho v rfl


end Sys2Proof.Machine
end

