-- ==== Sys2Proof/Laws/CanonState.lean ====
section
/-! SUPPORT. Every operation of Machine/State.lean that answers a device keeps the stored data in canonical form. -/

namespace Sys2Proof.Machine

theorem Dev.reset_canon : Canon Dev.reset := ⟨by decide⟩

end Sys2Proof.Machine
end

