-- ==== Sys2Proof/Laws/CanonFlags.lean ====
section
/-! SUPPORT. Every operation of Machine/Flags.lean that answers a device keeps the stored data in canonical form. -/

namespace Sys2Proof.Machine

theorem Dev.wr_canon {a1 a2 a3} (h1 : Canon a1) : Canon (Dev.wr a1 a2 a3) :=
  canon_regs h1 (Tab.wf_tset _ _ _ ((Canon.iff a1).1 h1).2.1)

theorem Dev.setF_canon {a1 a2} (h1 : Canon a1) : Canon (Dev.setF a1 a2) := by
  unfold Dev.setF
  exact Dev.wr_canon h1

theorem Dev.clrF_canon {a1 a2} (h1 : Canon a1) : Canon (Dev.clrF a1 a2) := by
  unfold Dev.clrF
  exact Dev.wr_canon h1

theorem Dev.flag_canon {a1 a2 a3} (h1 : Canon a1) : Canon (Dev.flag a1 a2 a3) := by
  unfold Dev.flag
  exact Dev.wr_canon h1

theorem Dev.bump_canon {a1 a2 a3} (h1 : Canon a1) : Canon (Dev.bump a1 a2 a3) := by
  unfold Dev.bump
  exact Dev.wr_canon h1

theorem Dev.incr_canon {a1 a2 a3} (h1 : Canon a1) : Canon (Dev.incr a1 a2 a3) := by
  unfold Dev.incr
  exact Dev.wr_canon h1

theorem Dev.decr_canon {a1 a2} (h1 : Canon a1) : Canon (Dev.decr a1 a2) := by
  unfold Dev.decr
  exact Dev.wr_canon h1

theorem Dev.wrBit_canon {a1 a2 a3 a4} (h1 : Canon a1) : Canon (Dev.wrBit a1 a2 a3 a4) := by
  unfold Dev.wrBit
  exact Dev.wr_canon h1

end Sys2Proof.Machine
end

