-- ==== Sys2Proof/Laws/CanonOps.lean ====
section
/-! SUPPORT. Every operation of Machine/Ops.lean that answers a device keeps the stored data in canonical form. -/

namespace Sys2Proof.Machine

theorem Dev.emit_canon {a1 a2} (h1 : Canon a1) : Canon (Dev.emit a1 a2) := by
  unfold Dev.emit
  exact canon_upd h1

theorem Dev.emits_canon {a1 a2} (h1 : Canon a1) : Canon (Dev.emits a1 a2) := by
  unfold Dev.emits
  exact canon_upd h1

theorem Dev.trouble_canon {a1 a2 a3 a4 a5 a6 a7} (h1 : Canon a1) : Canon (Dev.trouble a1 a2 a3 a4 a5 a6 a7) := by
  unfold Dev.trouble
  exact canon_upd h1

theorem Dev.errCapture_canon {a1 a2 a3 a4 a5} (h1 : Canon a1) : Canon (Dev.errCapture a1 a2 a3 a4 a5) := by
  unfold Dev.errCapture
  extract_lets +onlyGivenNames -merge -useContext y0 e1
  have he1 : Canon e1 := Dev.setF_canon h1
  clear_value e1
  refine canon_ite ?_ ?_
  · exact he1
  · extract_lets +onlyGivenNames -merge -useContext e2
    have he2 : Canon e2 := Dev.flag_canon (Dev.wr_canon (Dev.wr_canon (Dev.setF_canon he1)))
    clear_value e2
    extract_lets +onlyGivenNames -merge -useContext e3
    have he3 : Canon e3 := Dev.wr_canon (Dev.wr_canon he2)
    clear_value e3
    exact Dev.trouble_canon he3

theorem Dev.drawn_canon {a1} (h1 : Canon a1) : Canon (Dev.drawn a1) := by
  unfold Dev.drawn
  exact canon_upd h1

theorem Dev.memWr_canon {a1 a2 a3 a4} (h1 : Canon a1) : Canon (Dev.memWr a1 a2 a3 a4) :=
  canon_mem h1 (Memory.wf_writeBytes _ _ _ ((Canon.iff a1).1 h1).1)

theorem Dev.memWrB_canon {a1 a2 a3} (h1 : Canon a1) : Canon (Dev.memWrB a1 a2 a3) :=
  canon_mem h1 (Memory.wf_writeBytes _ _ _ ((Canon.iff a1).1 h1).1)

theorem Dev.syncInput_canon {a1 a2} (h1 : Canon a1) : Canon (Dev.syncInput a1 a2) := by
  unfold Dev.syncInput
  exact Dev.wrBit_canon h1

theorem Dev.syncFifo_canon {a1 a2} (h1 : Canon a1) : Canon (Dev.syncFifo a1 a2) := by
  unfold Dev.syncFifo
  split
  · exact h1
  · exact Dev.syncInput_canon h1

theorem fifosPut_canon {a1 : Dev} {a2 : Nat} {a3 : Fifo} (h1 : Canon a1) :
    Canon { a1 with fifos := mput a1.fifos a2 a3 } :=
  canon_fifos h1 (mwf_mput _ _ _ ((Canon.iff a1).1 h1).2.2)

theorem Dev.fifoStore_canon {a1 a2 a3} (h1 : Canon a1) : Canon (Dev.fifoStore a1 a2 a3) := by
  unfold Dev.fifoStore
  extract_lets old new high low e4 e5 e6 e7 e8
  have h4 : Canon e4 := fifosPut_canon h1
  have h5 : Canon e5 := Dev.wr_canon h4
  have h6 : Canon e6 := canon_ite (Dev.wr_canon h5) h5
  have h7 : Canon e7 := canon_ite (Dev.setF_canon h6) h6
  have h8 : Canon e8 := canon_ite (Dev.setF_canon h7) h7
  exact Dev.syncFifo_canon h8

theorem Dev.fifoAbort_canon {a1 a2} (h1 : Canon a1) : Canon (Dev.fifoAbort a1 a2) := by
  unfold Dev.fifoAbort
  exact Dev.setF_canon h1

theorem Dev.fifoPush_canon {a1 a2 a3 a4} (h1 : Canon a1) : Canon (Dev.fifoPush a1 a2 a3 a4) := by
  unfold Dev.fifoPush
  extract_lets +onlyGivenNames -merge -useContext y0
  exact canon_ite (Dev.fifoStore_canon h1) (canon_ite (Dev.bump_canon (Dev.fifoStore_canon h1)) h1)

theorem Dev.fifoPop_canon {a1 a2} (h1 : Canon a1) : Canon (Dev.fifoPop a1 a2) := by
  unfold Dev.fifoPop
  extract_lets +onlyGivenNames -merge -useContext y0
  exact Dev.fifoStore_canon h1

theorem Dev.fifoEmpty_canon {a1 a2} (h1 : Canon a1) : Canon (Dev.fifoEmpty a1 a2) := by
  unfold Dev.fifoEmpty
  extract_lets +onlyGivenNames -merge -useContext y0 e1
  have he1 : Canon e1 := Dev.fifoStore_canon h1
  clear_value e1
  refine canon_ite ?_ ?_
  · extract_lets +onlyGivenNames -merge -useContext e2
    have he2 : Canon e2 := Dev.setF_canon he1
    clear_value e2
    exact canon_ite (Dev.fifoAbort_canon he2) he2
  · exact he1

theorem Dev.commitRwl_canon {a1 a2} (h1 : Canon a1) : Canon (Dev.commitRwl a1 a2) := by
  unfold Dev.commitRwl
  extract_lets +onlyGivenNames -merge -useContext y0
  exact canon_upd h1

theorem Dev.regWrite32_canon {a1 a2 a3} (h1 : Canon a1) : Canon (Dev.regWrite32 a1 a2 a3) := by
  unfold Dev.regWrite32
  refine canon_foldl ?_ ?_
  · exact h1
  · intro x0 x1 hx2
    extract_lets +onlyGivenNames -merge -useContext y3 y4 y5
    exact Dev.wr_canon hx2

theorem Dev.regClearRc_canon {a1 a2} (h1 : Canon a1) : Canon (Dev.regClearRc a1 a2) := by
  unfold Dev.regClearRc
  refine canon_foldl ?_ ?_
  · exact h1
  · intro x0 x1 hx2
    refine canon_ite ?_ ?_
    · extract_lets +onlyGivenNames -merge -useContext y3
      exact Dev.wr_canon hx2
    · exact hx2

theorem Dev.resetWindow_canon {a1 a2 a3 a4} (h1 : Canon a1) : Canon (Dev.resetWindow a1 a2 a3 a4) := by
  unfold Dev.resetWindow
  extract_lets fs keeps inW e
  have he : Canon e := canon_regs h1 (Tab.wf_filter _ _ ((Canon.iff a1).1 h1).2.1)
  exact canon_ite he (canon_upd he)

theorem Dev.memGone_canon {a1 a2 a3} (h1 : Canon a1) : Canon (Dev.memGone a1 a2 a3) :=
  canon_mem h1 (Memory.wf_filter _ _ ((Canon.iff a1).1 h1).1)

end Sys2Proof.Machine
end

