-- ==== Sys2Proof/Laws/CanonIcu.lean ====
section
/-! SUPPORT. Every operation of Machine/Icu.lean that answers a device keeps the stored data in canonical form. -/

namespace Sys2Proof.Machine

theorem Dev.wrSrcBit_canon {a1 a2 a3 a4} (h1 : Canon a1) : Canon (Dev.wrSrcBit a1 a2 a3 a4) := by
  unfold Dev.wrSrcBit
  exact Dev.wrBit_canon h1

theorem Dev.setWin_canon {a1 a2 a3} (h1 : Canon a1) : Canon (Dev.setWin a1 a2 a3) := by
  unfold Dev.setWin
  extract_lets +onlyGivenNames -merge -useContext y0 e1
  have he1 : Canon e1 := canon_upd h1
  clear_value e1
  refine canon_ite ?_ ?_
  · exact he1
  · extract_lets +onlyGivenNames -merge -useContext y2
    split
    · exact Dev.wr_canon (Dev.clrF_canon he1)
    · exact Dev.wr_canon (Dev.setF_canon he1)

theorem Dev.msixSend_canon {a1 a2} (h1 : Canon a1) : Canon (Dev.msixSend a1 a2) := by
  unfold Dev.msixSend
  exact Dev.emit_canon (Dev.wrBit_canon h1)

theorem Dev.msixDue_canon {a1 a2} (h1 : Canon a1) : Canon (Dev.msixDue a1 a2) := by
  unfold Dev.msixDue
  extract_lets +onlyGivenNames -merge -useContext y0 e1
  have he1 : Canon e1 := canon_upd h1
  clear_value e1
  refine canon_ite ?_ ?_
  · exact he1
  · refine canon_ite ?_ ?_
    · extract_lets +onlyGivenNames -merge -useContext y2 e3
      have he3 : Canon e3 := canon_upd he1
      clear_value e3
      exact canon_ite (Dev.emit_canon he3) he3
    · exact canon_ite he1 (canon_ite (Dev.wrBit_canon he1) (canon_ite (canon_upd h1) (Dev.msixSend_canon h1)))

theorem Dev.vecFire_canon {a1 a2} (h1 : Canon a1) : Canon (Dev.vecFire a1 a2) := by
  unfold Dev.vecFire
  extract_lets +onlyGivenNames -merge -useContext y0 e1
  have he1 : Canon e1 := Dev.setWin_canon h1
  clear_value e1
  clear_value y0
  split
  · exact he1
  · extract_lets +onlyGivenNames -merge -useContext e2
    have he2 : Canon e2 := by
      unfold e2
      refine canon_foldl ?_ ?_
      · exact he1
      · intro x3 x4 hx5
        exact Dev.wrSrcBit_canon (canon_upd hx5)
    clear_value e2
    exact Dev.msixDue_canon (Dev.clrF_canon (Dev.setF_canon he2))

theorem Dev.vecKick_canon {a1 a2} (h1 : Canon a1) : Canon (Dev.vecKick a1 a2) := by
  unfold Dev.vecKick
  exact canon_ite (Dev.vecFire_canon h1) h1

theorem Dev.kickSource_canon {a1 a2} (h1 : Canon a1) : Canon (Dev.kickSource a1 a2) := by
  unfold Dev.kickSource
  exact canon_ite (Dev.vecKick_canon h1) h1

theorem Dev.kickWord_canon {a1 a2} (h1 : Canon a1) : Canon (Dev.kickWord a1 a2) := by
  unfold Dev.kickWord
  refine canon_foldN ?_ ?_
  · exact h1
  · intro x0 x1 hx2
    exact Dev.kickSource_canon hx2

theorem Dev.modEvent_canon {a1 a2 a3 a4} (h1 : Canon a1) : Canon (Dev.modEvent a1 a2 a3 a4) := by
  unfold Dev.modEvent
  extract_lets +onlyGivenNames -merge -useContext y0
  refine canon_ite ?_ ?_
  · extract_lets +onlyGivenNames -merge -useContext y1 y2 y3
    exact Dev.vecKick_canon (Dev.setWin_canon h1)
  · refine canon_ite ?_ ?_
    · split
      · refine canon_ite ?_ ?_
        · exact h1
        · extract_lets +onlyGivenNames -merge -useContext y4
          exact Dev.setWin_canon h1
      · extract_lets +onlyGivenNames -merge -useContext y5
        exact Dev.setWin_canon h1
    · exact h1

theorem Dev.pendNote_canon {a1 a2} (h1 : Canon a1) : Canon (Dev.pendNote a1 a2) := by
  unfold Dev.pendNote
  exact canon_ite h1 (canon_upd h1)

theorem Dev.pendEvent_canon {a1 a2 a3} (h1 : Canon a1) : Canon (Dev.pendEvent a1 a2 a3) := by
  unfold Dev.pendEvent
  extract_lets +onlyGivenNames -merge -useContext y0 e1
  have he1 : Canon e1 := Dev.pendNote_canon h1
  clear_value e1
  exact Dev.modEvent_canon (Dev.wrSrcBit_canon he1)

theorem Dev.raiseIrq_canon {a1 a2 a3} (h1 : Canon a1) : Canon (Dev.raiseIrq a1 a2 a3) := by
  unfold Dev.raiseIrq
  extract_lets +onlyGivenNames -merge -useContext y0 e1
  have he1 : Canon e1 := canon_upd h1
  clear_value e1
  exact canon_ite (Dev.pendEvent_canon he1) he1

theorem Dev.raise_canon {a1 a2} (h1 : Canon a1) : Canon (Dev.raise a1 a2) := by
  unfold Dev.raise
  exact Dev.raiseIrq_canon h1

theorem Dev.sampleLevel_canon {a1 a2} (h1 : Canon a1) : Canon (Dev.sampleLevel a1 a2) := by
  unfold Dev.sampleLevel
  exact canon_ite (canon_ite h1 (Dev.pendEvent_canon h1)) h1

theorem Dev.setCore_canon {a1 a2 a3} (h1 : Canon a1) : Canon (Dev.setCore a1 a2 a3) := by
  unfold Dev.setCore
  exact canon_upd h1

theorem Dev.withdraw_canon {a1 a2} (h1 : Canon a1) : Canon (Dev.withdraw a1 a2) := by
  unfold Dev.withdraw
  extract_lets +onlyGivenNames -merge -useContext y0 y1 e2
  have he2 : Canon e2 := canon_upd h1
  clear_value e2
  exact Dev.bump_canon he2

theorem Dev.withdrawMsgs_canon {a1} (h1 : Canon a1) : Canon (Dev.withdrawMsgs a1) := by
  unfold Dev.withdrawMsgs
  extract_lets +onlyGivenNames -merge -useContext y0 y1 y2 y3 y4 e5
  have he5 : Canon e5 := canon_upd h1
  clear_value e5
  extract_lets +onlyGivenNames -merge -useContext e6
  have he6 : Canon e6 := by
    unfold e6
    refine canon_foldl ?_ ?_
    · exact he5
    · intro x7 x8 hx9
      exact Dev.wrSrcBit_canon hx9
  clear_value e6
  extract_lets +onlyGivenNames -merge -useContext e10
  have he10 : Canon e10 := by
    unfold e10
    refine canon_foldl ?_ ?_
    · exact he6
    · intro x11 x12 hx13
      exact Dev.wrBit_canon (Dev.clrF_canon hx13)
  clear_value e10
  exact Dev.bump_canon he10

theorem Dev.showSlots_canon {a1 a2} (h1 : Canon a1) : Canon (Dev.showSlots a1 a2) := by
  unfold Dev.showSlots
  extract_lets +onlyGivenNames -merge -useContext y0 y1 e2
  have he2 : Canon e2 := Dev.wr_canon (Dev.flag_canon h1)
  clear_value e2
  exact Dev.wr_canon (Dev.flag_canon he2)

theorem Dev.srcCfgStore_canon {a1 a2 a3} (h1 : Canon a1) : Canon (Dev.srcCfgStore a1 a2 a3) := by
  unfold Dev.srcCfgStore
  exact Dev.wr_canon (Dev.wr_canon (Dev.wr_canon h1))

theorem Dev.applyHeldCfg_canon {a1 a2} (h1 : Canon a1) : Canon (Dev.applyHeldCfg a1 a2) := by
  unfold Dev.applyHeldCfg
  split
  · exact h1
  · exact Dev.srcCfgStore_canon (canon_upd h1)

theorem Dev.stray_canon {a1 a2 a3} (h1 : Canon a1) : Canon (Dev.stray a1 a2 a3) := by
  unfold Dev.stray
  extract_lets +onlyGivenNames -merge -useContext e0
  have he0 : Canon e0 := Dev.flag_canon (Dev.wr_canon (Dev.bump_canon h1))
  clear_value e0
  exact Dev.trouble_canon he0

theorem Dev.vecAck_canon {a1 a2} (h1 : Canon a1) : Canon (Dev.vecAck a1 a2) := by
  unfold Dev.vecAck
  extract_lets +onlyGivenNames -merge -useContext y0 y1 e2
  have he2 : Canon e2 := canon_upd h1
  clear_value e2
  extract_lets +onlyGivenNames -merge -useContext e3
  have he3 : Canon e3 := by
    unfold e3
    refine canon_foldl ?_ ?_
    · exact he2
    · intro x4 x5 hx6
      extract_lets +onlyGivenNames -merge -useContext e7
      have he7 : Canon e7 := Dev.applyHeldCfg_canon hx6
      clear_value e7
      extract_lets +onlyGivenNames -merge -useContext e8
      have he8 : Canon e8 := canon_ite (Dev.sampleLevel_canon he7) he7
      clear_value e8
      exact canon_ite he8 (Dev.kickSource_canon he8)
  clear_value e3
  exact Dev.vecKick_canon (Dev.clrF_canon he3)

theorem Dev.icuHostGone_canon {a1 a2} (h1 : Canon a1) : Canon (Dev.icuHostGone a1 a2) := by
  unfold Dev.icuHostGone
  extract_lets z e0 e0' e1 w
  have h0 : Canon e0 := canon_upd h1
  have h0' : Canon e0' := canon_foldN h0 (fun k d hd => Dev.wr_canon hd)
  have he : Canon e1 := canon_foldl h0' (fun d n hd => canon_ite (Dev.wrSrcBit_canon hd) hd)
  exact canon_regs he (Tab.wf_filter _ _ ((Canon.iff e1).1 he).2.1)

theorem Dev.icuEdgeEvent_canon {a1 a2} (h1 : Canon a1) : Canon (Dev.icuEdgeEvent a1 a2) := by
  unfold Dev.icuEdgeEvent
  exact canon_ite (Dev.raise_canon h1) h1

theorem Dev.icuLevelAssert_canon {a1 a2} (h1 : Canon a1) : Canon (Dev.icuLevelAssert a1 a2) := by
  unfold Dev.icuLevelAssert
  exact canon_ite (Dev.sampleLevel_canon h1) h1

theorem Dev.modWindowTimeFire_canon {a1 a2} (h1 : Canon a1) : Canon (Dev.modWindowTimeFire a1 a2) := by
  unfold Dev.modWindowTimeFire
  split
  · exact h1
  · exact canon_ite (canon_ite (Dev.setWin_canon h1) (Dev.vecKick_canon (Dev.setWin_canon h1))) h1

theorem Dev.offerClass_canon {a1 a2 a3} (h1 : Canon a1) : Canon (Dev.offerClass a1 a2 a3) := by
  unfold Dev.offerClass
  split
  · exact canon_upd h1
  · exact h1

theorem Dev.winDrained_canon {a1 a2} (h1 : Canon a1) : Canon (Dev.winDrained a1 a2) := by
  unfold Dev.winDrained
  exact canon_ite (Dev.setWin_canon h1) h1

theorem Dev.icuOffer_canon {a1 a2 a3} (h1 : Canon a1) : Canon (Dev.icuOffer a1 a2 a3) := by
  unfold Dev.icuOffer
  refine canon_ite ?_ ?_
  · exact h1
  · extract_lets +onlyGivenNames -merge -useContext e0
    have he0 : Canon e0 := Dev.flag_canon h1
    clear_value e0
    extract_lets +onlyGivenNames -merge -useContext e1
    have he1 : Canon e1 := canon_ite (Dev.setCore_canon he0) he0
    clear_value e1
    extract_lets +onlyGivenNames -merge -useContext e2
    have he2 : Canon e2 := Dev.offerClass_canon he1
    clear_value e2
    split
    · exact canon_ite (Dev.setCore_canon he2) he2
    · exact Dev.winDrained_canon (Dev.offerClass_canon he2)

theorem Dev.icuClaim_canon {a1 a2 a3} (h1 : Canon a1) : Canon (Dev.icuClaim a1 a2 a3) := by
  unfold Dev.icuClaim
  extract_lets +onlyGivenNames -merge -useContext y0
  split
  · exact Dev.emit_canon h1
  · extract_lets +onlyGivenNames -merge -useContext e1
    have he1 : Canon e1 := Dev.wrSrcBit_canon h1
    clear_value e1
    extract_lets +onlyGivenNames -merge -useContext y2 e3
    have he3 : Canon e3 := canon_upd he1
    clear_value e3
    extract_lets +onlyGivenNames -merge -useContext e4
    have he4 : Canon e4 := Dev.showSlots_canon he3
    clear_value e4
    extract_lets +onlyGivenNames -merge -useContext e5
    have he5 : Canon e5 := Dev.winDrained_canon he4
    clear_value e5
    extract_lets +onlyGivenNames -merge -useContext e6
    have he6 : Canon e6 := canon_ite (Dev.setCore_canon he5) he5
    clear_value e6
    exact Dev.emit_canon he6

theorem Dev.icuDone_canon {a1 a2 a3} (h1 : Canon a1) : Canon (Dev.icuDone a1 a2 a3) := by
  unfold Dev.icuDone
  refine canon_ite ?_ ?_
  · extract_lets +onlyGivenNames -merge -useContext y0 y1 e2
    have he2 : Canon e2 := canon_upd h1
    clear_value e2
    extract_lets +onlyGivenNames -merge -useContext e3
    have he3 : Canon e3 := Dev.showSlots_canon he2
    clear_value e3
    extract_lets +onlyGivenNames -merge -useContext e4
    have he4 : Canon e4 := canon_ite (Dev.setCore_canon he3) he3
    clear_value e4
    extract_lets +onlyGivenNames -merge -useContext e5
    have he5 : Canon e5 := Dev.applyHeldCfg_canon he4
    clear_value e5
    exact Dev.kickSource_canon (canon_ite (Dev.sampleLevel_canon he5) he5)
  · exact Dev.stray_canon h1

theorem Dev.icuEnableWrite_canon {a1 a2 a3} (h1 : Canon a1) : Canon (Dev.icuEnableWrite a1 a2 a3) := by
  unfold Dev.icuEnableWrite
  extract_lets +onlyGivenNames -merge -useContext e0
  have he0 : Canon e0 := Dev.wr_canon h1
  clear_value e0
  exact Dev.kickWord_canon (Dev.withdrawMsgs_canon (Dev.withdraw_canon he0))

theorem Dev.icuMaskWrite_canon {a1 a2 a3} (h1 : Canon a1) : Canon (Dev.icuMaskWrite a1 a2 a3) := by
  unfold Dev.icuMaskWrite
  extract_lets +onlyGivenNames -merge -useContext e0
  have he0 : Canon e0 := Dev.wr_canon h1
  clear_value e0
  exact Dev.kickWord_canon (Dev.withdrawMsgs_canon (Dev.withdraw_canon he0))

theorem Dev.icuPendWrite_canon {a1 a2 a3 a4 a5} (h1 : Canon a1) : Canon (Dev.icuPendWrite a1 a2 a3 a4 a5) := by
  unfold Dev.icuPendWrite
  extract_lets +onlyGivenNames -merge -useContext y0 y1 y2 e3
  have he3 : Canon e3 := by
    unfold e3
    refine canon_foldN ?_ ?_
    · exact h1
    · intro x4 x5 hx6
      exact canon_ite (Dev.pendNote_canon hx6) hx6
  clear_value e3
  extract_lets +onlyGivenNames -merge -useContext e7
  have he7 : Canon e7 := Dev.wr_canon he3
  clear_value e7
  extract_lets +onlyGivenNames -merge -useContext y8 e9
  have he9 : Canon e9 := canon_upd he7
  clear_value e9
  extract_lets +onlyGivenNames -merge -useContext e10
  have he10 : Canon e10 := by
    unfold e10
    refine canon_foldN ?_ ?_
    · exact he9
    · intro x11 x12 hx13
      extract_lets +onlyGivenNames -merge -useContext y14
      exact canon_ite (Dev.modEvent_canon hx13) hx13
  clear_value e10
  exact Dev.kickWord_canon he10

theorem Dev.icuSrcCmdSet_canon {a1 a2} (h1 : Canon a1) : Canon (Dev.icuSrcCmdSet a1 a2) := by
  unfold Dev.icuSrcCmdSet
  exact Dev.pendEvent_canon h1

theorem Dev.icuSrcCmdClear_canon {a1 a2} (h1 : Canon a1) : Canon (Dev.icuSrcCmdClear a1 a2) := by
  unfold Dev.icuSrcCmdClear
  extract_lets +onlyGivenNames -merge -useContext e0
  have he0 : Canon e0 := Dev.wrSrcBit_canon h1
  clear_value e0
  exact canon_upd he0

theorem Dev.icuSrcCfgWrite_canon {a1 a2 a3} (h1 : Canon a1) : Canon (Dev.icuSrcCfgWrite a1 a2 a3) := by
  unfold Dev.icuSrcCfgWrite
  refine canon_ite ?_ ?_
  · exact Dev.wr_canon h1
  · refine canon_ite ?_ ?_
    · exact canon_upd h1
    · extract_lets +onlyGivenNames -merge -useContext y0 e1
      have he1 : Canon e1 := canon_ite (Dev.withdraw_canon h1) h1
      clear_value e1
      exact Dev.kickSource_canon (Dev.srcCfgStore_canon he1)

theorem Dev.icuModeWrite_canon {a1 a2 a3} (h1 : Canon a1) : Canon (Dev.icuModeWrite a1 a2 a3) := by
  unfold Dev.icuModeWrite
  refine canon_ite ?_ ?_
  · exact Dev.setF_canon h1
  · refine canon_ite ?_ ?_
    · extract_lets +onlyGivenNames -merge -useContext y0
      exact Dev.wr_canon (canon_ite (Dev.withdraw_canon h1) h1)
    · exact h1

theorem Dev.icuHdoneWrite_canon {a1 a2} (h1 : Canon a1) : Canon (Dev.icuHdoneWrite a1 a2) := by
  unfold Dev.icuHdoneWrite
  exact canon_ite (Dev.vecAck_canon h1) (Dev.stray_canon h1)

theorem Dev.releaseHeld_canon {a1} (h1 : Canon a1) : Canon (Dev.releaseHeld a1) := by
  unfold Dev.releaseHeld
  refine canon_ite ?_ ?_
  · exact h1
  · extract_lets +onlyGivenNames -merge -useContext y0
    refine canon_foldl ?_ ?_
    · exact h1
    · intro x1 x2 hx3
      exact Dev.msixDue_canon (canon_upd hx3)

theorem Dev.msixVectorUnmask_canon {a1 a2 a3 a4} (h1 : Canon a1) : Canon (Dev.msixVectorUnmask a1 a2 a3 a4) := by
  unfold Dev.msixVectorUnmask
  extract_lets +onlyGivenNames -merge -useContext e0
  have he0 : Canon e0 := by
    unfold e0
    split
    · exact h1
    · exact Dev.clrF_canon h1
  clear_value e0
  exact Dev.releaseHeld_canon (canon_upd he0)

theorem Dev.l1ExitDone_canon {a1} (h1 : Canon a1) : Canon (Dev.l1ExitDone a1) := by
  unfold Dev.l1ExitDone
  extract_lets +onlyGivenNames -merge -useContext y0 y1 e2
  have he2 : Canon e2 := canon_upd h1
  clear_value e2
  refine canon_foldl ?_ ?_
  · exact he2
  · intro x3 x4 hx5
    exact Dev.msixDue_canon hx5

theorem Dev.pmeRepeat_canon {a1} (h1 : Canon a1) : Canon (Dev.pmeRepeat a1) := by
  unfold Dev.pmeRepeat
  exact canon_ite (Dev.emit_canon h1) h1

theorem Dev.hostReattachMessages_canon {a1} (h1 : Canon a1) : Canon (Dev.hostReattachMessages a1) := by
  unfold Dev.hostReattachMessages
  refine canon_ite ?_ ?_
  · extract_lets +onlyGivenNames -merge -useContext y0 y1 e2
    have he2 : Canon e2 := canon_upd h1
    clear_value e2
    refine canon_foldl ?_ ?_
    · exact he2
    · intro x3 x4 hx5
      extract_lets +onlyGivenNames -merge -useContext y6 e7
      have he7 : Canon e7 := Dev.setWin_canon hx5
      clear_value e7
      extract_lets +onlyGivenNames -merge -useContext e8
      have he8 : Canon e8 := by
        unfold e8
        refine canon_foldl ?_ ?_
        · exact he7
        · intro x9 x10 hx11
          exact Dev.wrSrcBit_canon (canon_upd hx11)
      clear_value e8
      exact Dev.msixDue_canon (Dev.setF_canon he8)
  · exact h1

end Sys2Proof.Machine
end

