-- ==== Sys2Proof/Laws/CanonRegion.lean ====
section
/-! SUPPORT. Every operation of Machine/Region.lean that answers a device keeps the stored data in canonical form. -/

namespace Sys2Proof.Machine

theorem Dev.badWrite_canon {a1 a2 a3 a4} (h1 : Canon a1) : Canon (Dev.badWrite a1 a2 a3 a4) := by
  unfold Dev.badWrite
  extract_lets +onlyGivenNames -merge -useContext e0
  have he0 : Canon e0 := Dev.errCapture_canon h1
  clear_value e0
  exact canon_ite he0 (Dev.emit_canon he0)

theorem Dev.badRead_canon {a1 a2 a3 a4 a5} (h1 : Canon a1) : Canon (Dev.badRead a1 a2 a3 a4 a5) := by
  unfold Dev.badRead
  extract_lets +onlyGivenNames -merge -useContext y0
  exact Dev.emit_canon (Dev.errCapture_canon h1)

theorem Dev.dramWake_canon {a1} (h1 : Canon a1) : Canon (Dev.dramWake a1) := by
  unfold Dev.dramWake
  exact canon_ite (Dev.raise_canon (Dev.clrF_canon h1)) h1

theorem Dev.engWrite_canon {a1 a2 a3 a4} (h1 : Canon a1) : Canon1 (Dev.engWrite a1 a2 a3 a4) := by
  unfold Dev.engWrite
  refine canon_ite1 ?_ ?_
  · exact canon_mk1 h1
  · extract_lets +onlyGivenNames -merge -useContext y0 e1
    have he1 : Canon e1 := canon_upd h1
    clear_value e1
    split
    · exact canon_mk1 (Dev.errCapture_canon h1)
    · split
      · exact canon_mk1 he1
      · exact canon_mk1 he1
      · exact canon_mk1 he1
      · exact canon_mk1 (Dev.emit_canon h1)
      · exact canon_ite1 (canon_mk1 he1) (canon_mk1 (Dev.memWrB_canon (Dev.dramWake_canon h1)))
      · exact canon_mk1 (Dev.memWrB_canon h1)
      · exact canon_mk1 (Dev.memWrB_canon h1)
      · exact canon_mk1 (Dev.memWrB_canon h1)

theorem Dev.engRead_canon {a1 a2 a3 a4 a5} (h1 : Canon a1) : Canon1 (Dev.engRead a1 a2 a3 a4 a5) := by
  unfold Dev.engRead
  split
  · exact canon_mk1 (Dev.errCapture_canon h1)
  · split
    · exact canon_mk1 h1
    · exact canon_mk1 h1
    · exact canon_mk1 h1
    · exact canon_mk1 h1
    · exact canon_ite1 (canon_mk1 h1) (canon_mk1 (Dev.dramWake_canon h1))
    · exact canon_mk1 h1
    · exact canon_mk1 h1
    · exact canon_mk1 h1

end Sys2Proof.Machine
end

