-- ==== Sys2Proof/Laws/CanonXdi.lean ====
section
/-! SUPPORT. Every operation of Machine/Xdi.lean that answers a device keeps the stored data in canonical form. -/

namespace Sys2Proof.Machine

theorem Dev.setPair_canon {a1 a2 a3} (h1 : Canon a1) : Canon (Dev.setPair a1 a2 a3) := by
  unfold Dev.setPair
  exact canon_upd h1

theorem Dev.queueCpl_canon {a1 a2 a3} (h1 : Canon a1) : Canon (Dev.queueCpl a1 a2 a3) := by
  unfold Dev.queueCpl
  refine canon_ite ?_ ?_
  · extract_lets +onlyGivenNames -merge -useContext y0 e1
    have he1 : Canon e1 := canon_ite (Dev.emits_canon h1) h1
    clear_value e1
    extract_lets +onlyGivenNames -merge -useContext y2
    exact canon_ite he1 (Dev.setPair_canon he1)
  · exact h1

theorem Dev.finishRing_canon {a1 a2 a3 a4} (h1 : Canon a1) : Canon (Dev.finishRing a1 a2 a3 a4) := by
  unfold Dev.finishRing
  refine canon_ite ?_ ?_
  · exact canon_upd h1
  · extract_lets +onlyGivenNames -merge -useContext e0
    have he0 : Canon e0 := Dev.setPair_canon h1
    clear_value e0
    extract_lets +onlyGivenNames -merge -useContext e1
    have he1 : Canon e1 := canon_ite (Dev.setF_canon he0) he0
    clear_value e1
    exact Dev.queueCpl_canon he1

theorem Dev.settleExp_canon {a1 a2 a3} (h3 : Canon a3) : Canon (Dev.settleExp a1 a2 a3) := by
  induction a1 generalizing a3 with
  | zero => exact h3
  | succ k ih =>
    unfold Dev.settleExp
    split
    · split
      · exact ih (Dev.finishRing_canon h3)
      · exact h3
    · exact h3

theorem Dev.finishMbox_canon {a1 a2 a3 a4} (h1 : Canon a1) : Canon (Dev.finishMbox a1 a2 a3 a4) := by
  unfold Dev.finishMbox
  extract_lets +onlyGivenNames -merge -useContext y0
  have hy0 : Canon1 y0 := by
    unfold y0
    refine canon_foldl1 ?_ ?_
    · exact canon_mk1 h1
    · intro x1 x2 hx3
      extract_lets +onlyGivenNames -merge -useContext y4
      have hy4 : Canon1 y4 := Dev.engWrite_canon (Canon1.fst hx3)
      clear_value y4
      exact canon_mk1 (Canon1.fst hy4)
  clear_value y0
  extract_lets +onlyGivenNames -merge -useContext y5 e6
  have he6 : Canon e6 := Canon1.fst (Dev.engWrite_canon (Canon1.fst hy0))
  clear_value e6
  extract_lets +onlyGivenNames -merge -useContext y7
  exact Dev.raise_canon (Dev.setF_canon (Dev.clrF_canon he6))

theorem Dev.finish_canon {a1 a2 a3} (h1 : Canon a1) : Canon (Dev.finish a1 a2 a3) := by
  unfold Dev.finish
  split
  · extract_lets +onlyGivenNames -merge -useContext y0 e1
    have he1 : Canon e1 := canon_ite h1 (canon_upd h1)
    clear_value e1
    extract_lets +onlyGivenNames -merge -useContext e2
    have he2 : Canon e2 := Dev.finishRing_canon he1
    clear_value e2
    exact canon_ite (Dev.settleExp_canon he2) he2
  · exact Dev.finishMbox_canon h1

theorem Dev.fail_canon {a1 a2 a3} (h1 : Canon a1) : Canon (Dev.fail a1 a2 a3) := by
  unfold Dev.fail
  exact Dev.finish_canon h1

theorem Dev.okRes_canon {a1 a2 a3 a4} (h1 : Canon a1) : Canon (Dev.okRes a1 a2 a3 a4) := by
  unfold Dev.okRes
  exact Dev.finish_canon h1

theorem Dev.endInTurn_canon {a1 a2 a3} (h1 : Canon a1) : Canon (Dev.endInTurn a1 a2 a3) := by
  unfold Dev.endInTurn
  split
  · extract_lets +onlyGivenNames -merge -useContext y0
    refine canon_ite ?_ ?_
    · extract_lets +onlyGivenNames -merge -useContext y1 e2
      have he2 : Canon e2 := Dev.setPair_canon h1
      clear_value e2
      exact Dev.settleExp_canon he2
    · exact Dev.fail_canon h1
  · exact Dev.fail_canon h1

theorem Dev.withData_canon {a1 a2 a3} (h1 : Canon a1) (h3 : ∀ w0 w1, Canon w0 → Canon (a3 w0 w1)) : Canon (Dev.withData a1 a2 a3) := by
  unfold Dev.withData
  split
  · refine canon_ite ?_ ?_
    · exact h1
    · refine h3 _ _ ?_
      · exact h1
  · extract_lets +onlyGivenNames -merge -useContext y0
    refine canon_ite ?_ ?_
    · refine h3 _ _ ?_
      · exact h1
    · split
      · rename_i v1 v2 heq3
        have hv1 : Canon v1 := by
          refine canon_fst_eq heq3 ?_
          exact Dev.engRead_canon h1
        refine h3 _ _ ?_
        · exact hv1
      · rename_i v4 heq5
        have hv4 : Canon v4 := by
          refine canon_fst_eq heq5 ?_
          exact Dev.engRead_canon h1
        exact Dev.fail_canon hv4

theorem Dev.withFields_canon {a1 a2 a3 a4} (h1 : Canon a1) (h4 : ∀ w0, Canon w0 → Canon (a4 w0)) : Canon (Dev.withFields a1 a2 a3 a4) := by
  unfold Dev.withFields
  refine canon_ite ?_ ?_
  · refine h4 _ ?_
    · exact h1
  · exact Dev.fail_canon h1

theorem Dev.endFetched_canon {a1 a2 a3 a4} (h1 : Canon a1) : Canon (Dev.endFetched a1 a2 a3 a4) := by
  unfold Dev.endFetched
  extract_lets +onlyGivenNames -merge -useContext y0
  refine canon_ite ?_ ?_
  · extract_lets +onlyGivenNames -merge -useContext e1
    have he1 : Canon e1 := Dev.setPair_canon h1
    clear_value e1
    exact Dev.settleExp_canon he1
  · exact Dev.finish_canon (Dev.setPair_canon h1)

theorem Dev.startReady_canon {a1 a2 a3} (h3 : Canon a3) : Canon (Dev.startReady a1 a2 a3) := by
  induction a1 generalizing a3 with
  | zero => exact h3
  | succ k ih =>
    unfold Dev.startReady
    split
    · exact h3
    · refine canon_ite h3 ?_
      split
      · exact ih (Dev.endFetched_canon h3)
      · exact ih (Dev.setPair_canon h3)

theorem Dev.expStart_canon {a1} (h1 : Canon a1) : Canon (Dev.expStart a1) := by
  unfold Dev.expStart
  extract_lets +onlyGivenNames -merge -useContext y0 y1
  refine canon_ite ?_ ?_
  · extract_lets +onlyGivenNames -merge -useContext y2 e3
    have he3 : Canon e3 := canon_upd h1
    clear_value e3
    extract_lets +onlyGivenNames -merge -useContext e4
    have he4 : Canon e4 := Dev.wr_canon (Dev.setF_canon he3)
    clear_value e4
    refine canon_foldl ?_ ?_
    · exact he4
    · intro x5 x6 hx7
      exact Dev.flag_canon hx7
  · exact h1

theorem Dev.expStop_canon {a1} (h1 : Canon a1) : Canon (Dev.expStop a1) := by
  unfold Dev.expStop
  extract_lets +onlyGivenNames -merge -useContext e0
  have he0 : Canon e0 := by
    unfold e0
    refine canon_foldl ?_ ?_
    · exact h1
    · intro x1 x2 hx3
      extract_lets +onlyGivenNames -merge -useContext y4
      exact Dev.flag_canon (Dev.setPair_canon hx3)
  clear_value e0
  exact Dev.clrF_canon (canon_upd he0)

theorem Dev.hostGone_canon {a1 a2} (h1 : Canon a1) : Canon (Dev.hostGone a1 a2) := by
  unfold Dev.hostGone
  extract_lets +onlyGivenNames -merge -useContext y0 y1 e2
  have he2 : Canon e2 := Dev.wr_canon (Dev.clrF_canon h1)
  clear_value e2
  extract_lets +onlyGivenNames -merge -useContext e3
  have he3 : Canon e3 := Dev.icuHostGone_canon he2
  clear_value e3
  extract_lets +onlyGivenNames -merge -useContext e4
  have he4 : Canon e4 := by
    unfold e4
    refine canon_foldl ?_ ?_
    · exact he3
    · intro x5 x6 hx7
      exact Dev.clrF_canon (Dev.clrF_canon (Dev.clrF_canon hx7))
  clear_value e4
  extract_lets +onlyGivenNames -merge -useContext y8 e9
  have he9 : Canon e9 := canon_upd he4
  clear_value e9
  exact Dev.wr_canon (Dev.clrF_canon (Dev.clrF_canon he9))

theorem Dev.hostLeaves_canon {a1 a2} (h1 : Canon a1) : Canon (Dev.hostLeaves a1 a2) := by
  unfold Dev.hostLeaves
  exact canon_ite (Dev.hostGone_canon h1) h1

theorem Dev.hostArrives_canon {a1} (h1 : Canon a1) : Canon (Dev.hostArrives a1) := by
  unfold Dev.hostArrives
  exact canon_ite (Dev.incr_canon (Dev.setF_canon h1)) h1

theorem Dev.xdiReset_canon {a1 a2 a3} (h1 : Canon a1) : Canon (Dev.xdiReset a1 a2 a3) := by
  unfold Dev.xdiReset
  extract_lets +onlyGivenNames -merge -useContext y0 y1 e2
  have he2 : Canon e2 := Dev.icuHostGone_canon h1
  clear_value e2
  extract_lets +onlyGivenNames -merge -useContext e3
  have he3 : Canon e3 := Dev.resetWindow_canon he2
  clear_value e3
  extract_lets +onlyGivenNames -merge -useContext y4 e5
  have he5 : Canon e5 := canon_upd he3
  clear_value e5
  extract_lets +onlyGivenNames -merge -useContext y6 e7
  have he7 : Canon e7 := canon_upd he5
  clear_value e7
  exact Dev.wr_canon he7

theorem Dev.pcieLinkDown_canon {a1} (h1 : Canon a1) : Canon (Dev.pcieLinkDown a1) := by
  unfold Dev.pcieLinkDown
  extract_lets +onlyGivenNames -merge -useContext e0
  have he0 : Canon e0 := Dev.hostLeaves_canon h1
  clear_value e0
  extract_lets +onlyGivenNames -merge -useContext y1 y2 e3
  have he3 : Canon e3 := canon_upd he0
  clear_value e3
  exact Dev.clrF_canon (Dev.clrF_canon he3)

theorem Dev.pcieLinkUp_canon {a1 a2} (h1 : Canon a1) : Canon (Dev.pcieLinkUp a1 a2) := by
  unfold Dev.pcieLinkUp
  refine canon_ite ?_ ?_
  · exact h1
  · extract_lets +onlyGivenNames -merge -useContext y0
    exact Dev.hostArrives_canon (Dev.setF_canon (canon_upd h1))

theorem Dev.busMasterDisable_canon {a1} (h1 : Canon a1) : Canon (Dev.busMasterDisable a1) := by
  unfold Dev.busMasterDisable
  extract_lets +onlyGivenNames -merge -useContext e0
  have he0 : Canon e0 := Dev.hostLeaves_canon h1
  clear_value e0
  exact Dev.clrF_canon (canon_upd he0)

theorem Dev.busMasterEnable_canon {a1} (h1 : Canon a1) : Canon (Dev.busMasterEnable a1) := by
  unfold Dev.busMasterEnable
  exact canon_ite (Dev.hostArrives_canon (Dev.setF_canon h1)) h1

theorem Dev.hostReadTimeout_canon {a1} (h1 : Canon a1) : Canon (Dev.hostReadTimeout a1) := by
  unfold Dev.hostReadTimeout
  refine canon_ite ?_ ?_
  · exact h1
  · extract_lets +onlyGivenNames -merge -useContext y0 y1 y2 e3
    have he3 : Canon e3 := canon_upd h1
    clear_value e3
    refine canon_ite ?_ ?_
    · extract_lets +onlyGivenNames -merge -useContext e4
      have he4 : Canon e4 := Dev.hostGone_canon he3
      clear_value e4
      exact canon_upd he4
    · exact he3

theorem Dev.d3hotEnter_canon {a1} (h1 : Canon a1) : Canon (Dev.d3hotEnter a1) := by
  unfold Dev.d3hotEnter
  extract_lets +onlyGivenNames -merge -useContext e0
  have he0 : Canon e0 := Dev.setF_canon h1
  clear_value e0
  refine canon_foldl ?_ ?_
  · exact he0
  · intro x1 x2 hx3
    exact Dev.setF_canon hx3

theorem Dev.d0Return_canon {a1} (h1 : Canon a1) : Canon (Dev.d0Return a1) := by
  unfold Dev.d0Return
  extract_lets +onlyGivenNames -merge -useContext e0
  have he0 : Canon e0 := Dev.clrF_canon h1
  clear_value e0
  extract_lets +onlyGivenNames -merge -useContext e1
  have he1 : Canon e1 := by
    unfold e1
    refine canon_foldl ?_ ?_
    · exact he0
    · intro x2 x3 hx4
      exact Dev.flag_canon hx4
  clear_value e1
  exact canon_ite (Dev.releaseHeld_canon he1) he1

theorem Dev.negotiateNow_canon {a1} (h1 : Canon a1) : Canon (Dev.negotiateNow a1) := by
  unfold Dev.negotiateNow
  extract_lets +onlyGivenNames -merge -useContext y0 y1 e2
  have he2 : Canon e2 := canon_upd h1
  clear_value e2
  exact canon_ite (Dev.clrF_canon he2) (Dev.setF_canon (Dev.wr_canon he2))

theorem Dev.xdiHostVerWrite_canon {a1 a2} (h1 : Canon a1) : Canon (Dev.xdiHostVerWrite a1 a2) := by
  unfold Dev.xdiHostVerWrite
  exact canon_ite (Dev.setF_canon h1) (Dev.negotiateNow_canon (Dev.wr_canon h1))

theorem Dev.storeCfg_canon {a1 a2 a3} (h1 : Canon a1) : Canon (Dev.storeCfg a1 a2 a3) := by
  unfold Dev.storeCfg
  exact Dev.wr_canon (Dev.wr_canon (Dev.wr_canon (Dev.wr_canon (Dev.wr_canon (Dev.wr_canon h1)))))

theorem Dev.ringCfgEnable_canon {a1 a2 a3} (h1 : Canon a1) : Canon (Dev.ringCfgEnable a1 a2 a3) := by
  unfold Dev.ringCfgEnable
  refine canon_ite ?_ ?_
  · exact Dev.setF_canon h1
  · refine canon_ite ?_ ?_
    · exact Dev.wr_canon h1
    · extract_lets +onlyGivenNames -merge -useContext e0
      have he0 : Canon e0 := Dev.storeCfg_canon h1
      clear_value e0
      refine canon_ite ?_ ?_
      · extract_lets +onlyGivenNames -merge -useContext e1
        have he1 : Canon e1 := Dev.setF_canon (Dev.setF_canon he0)
        clear_value e1
        extract_lets +onlyGivenNames -merge -useContext e2
        have he2 : Canon e2 := Dev.wr_canon (Dev.wr_canon (Dev.wr_canon he1))
        clear_value e2
        extract_lets +onlyGivenNames -merge -useContext e3
        have he3 : Canon e3 := Dev.setPair_canon he2
        clear_value e3
        extract_lets +onlyGivenNames -merge -useContext e4
        have he4 : Canon e4 := Dev.flag_canon he3
        clear_value e4
        exact canon_ite (Dev.expStart_canon he4) he4
      · exact Dev.setF_canon he0

theorem Dev.ringCfgDisable_canon {a1 a2 a3} (h1 : Canon a1) : Canon (Dev.ringCfgDisable a1 a2 a3) := by
  unfold Dev.ringCfgDisable
  extract_lets +onlyGivenNames -merge -useContext y0 e1
  have he1 : Canon e1 := canon_ite (Dev.wr_canon h1) (Dev.storeCfg_canon h1)
  clear_value e1
  refine canon_ite ?_ ?_
  · extract_lets +onlyGivenNames -merge -useContext e2
    have he2 : Canon e2 := Dev.clrF_canon he1
    clear_value e2
    extract_lets +onlyGivenNames -merge -useContext y3 y4 e5
    have he5 : Canon e5 := Dev.setPair_canon he2
    clear_value e5
    extract_lets +onlyGivenNames -merge -useContext e6
    have he6 : Canon e6 := by
      unfold e6
      refine canon_foldl ?_ ?_
      · exact he5
      · intro x7 x8 hx9
        exact Dev.endFetched_canon hx9
    clear_value e6
    refine canon_ite ?_ ?_
    · extract_lets +onlyGivenNames -merge -useContext y10 y11 e12
      have he12 : Canon e12 := Dev.setPair_canon he6
      clear_value e12
      extract_lets +onlyGivenNames -merge -useContext e13
      have he13 : Canon e13 := by
        unfold e13
        refine canon_foldl ?_ ?_
        · exact he12
        · intro x14 x15 hx16
          exact Dev.finish_canon hx16
      clear_value e13
      exact Dev.expStart_canon (Dev.expStop_canon he13)
    · exact he6
  · exact he1

theorem Dev.descriptorFlushTimeout_canon {a1 a2 a3} (h1 : Canon a1) : Canon (Dev.descriptorFlushTimeout a1 a2 a3) := by
  unfold Dev.descriptorFlushTimeout
  extract_lets +onlyGivenNames -merge -useContext y0
  split
  · refine canon_ite ?_ ?_
    · extract_lets +onlyGivenNames -merge -useContext y1 e2
      have he2 : Canon e2 := Dev.setPair_canon h1
      clear_value e2
      extract_lets +onlyGivenNames -merge -useContext e3
      have he3 : Canon e3 := Dev.finish_canon he2
      clear_value e3
      exact canon_ite he3 (canon_upd he3)
    · exact h1
  · exact h1

theorem Dev.sqDoorbell_canon {a1 a2 a3} (h1 : Canon a1) : Canon (Dev.sqDoorbell a1 a2 a3) := by
  unfold Dev.sqDoorbell
  extract_lets +onlyGivenNames -merge -useContext y0
  exact canon_ite (Dev.bump_canon h1) (canon_ite (Dev.bump_canon (Dev.setF_canon h1)) (Dev.setPair_canon h1))

theorem Dev.cqDoorbellBase_canon {a1 a2 a3} (h1 : Canon a1) : Canon (Dev.cqDoorbellBase a1 a2 a3) := by
  unfold Dev.cqDoorbellBase
  extract_lets +onlyGivenNames -merge -useContext y0
  refine canon_ite ?_ ?_
  · exact Dev.bump_canon h1
  · refine canon_ite ?_ ?_
    · exact Dev.bump_canon (Dev.setF_canon h1)
    · extract_lets +onlyGivenNames -merge -useContext y1 e2
      have he2 : Canon e2 := Dev.setPair_canon h1
      clear_value e2
      extract_lets +onlyGivenNames -merge -useContext y3
      exact Dev.vecAck_canon (canon_ite (Dev.setF_canon he2) he2)

theorem Dev.descriptorFetch_canon {a1 a2 a3} (h1 : Canon a1) : Canon (Dev.descriptorFetch a1 a2 a3) := by
  unfold Dev.descriptorFetch
  extract_lets +onlyGivenNames -merge -useContext y0
  refine canon_ite ?_ ?_
  · exact h1
  · extract_lets +onlyGivenNames -merge -useContext y1 y2 y3 y4 e5
    have he5 : Canon e5 := canon_upd h1
    clear_value e5
    extract_lets +onlyGivenNames -merge -useContext e6
    have he6 : Canon e6 := Dev.wr_canon he5
    clear_value e6
    extract_lets +onlyGivenNames -merge -useContext y7 e8
    have he8 : Canon e8 := Dev.setPair_canon he6
    clear_value e8
    exact Dev.startReady_canon he8

theorem Dev.fenceRelease_canon {a1 a2} (h1 : Canon a1) : Canon (Dev.fenceRelease a1 a2) := by
  unfold Dev.fenceRelease
  extract_lets +onlyGivenNames -merge -useContext y0
  split
  · refine canon_ite ?_ ?_
    · extract_lets +onlyGivenNames -merge -useContext e1
      have he1 : Canon e1 := Dev.setPair_canon h1
      clear_value e1
      extract_lets +onlyGivenNames -merge -useContext e2
      have he2 : Canon e2 := by
        unfold e2
        split
        · exact Dev.endFetched_canon he1
        · exact canon_ite (Dev.endFetched_canon he1) (Dev.setPair_canon he1)
      clear_value e2
      exact Dev.startReady_canon he2
    · exact h1
  · exact h1

theorem Dev.completionPost_canon {a1 a2} (h1 : Canon a1) : Canon (Dev.completionPost a1 a2) := by
  unfold Dev.completionPost
  extract_lets +onlyGivenNames -merge -useContext y0
  split
  · exact h1
  · refine canon_ite ?_ ?_
    · exact h1
    · refine canon_ite ?_ ?_
      · exact Dev.setPair_canon (Dev.emits_canon h1)
      · refine canon_ite ?_ ?_
        · exact Dev.setF_canon h1
        · extract_lets +onlyGivenNames -merge -useContext y1 y2 y3 y4 e5
          have he5 : Canon e5 := Dev.emits_canon h1
          clear_value e5
          extract_lets +onlyGivenNames -merge -useContext e6
          have he6 : Canon e6 := Dev.emit_canon he5
          clear_value e6
          extract_lets +onlyGivenNames -merge -useContext y7 e8
          have he8 : Canon e8 := Dev.wr_canon (Dev.wr_canon he6)
          clear_value e8
          exact Dev.raiseIrq_canon (Dev.setPair_canon he8)

theorem Dev.ringDisableComplete_canon {a1 a2} (h1 : Canon a1) : Canon (Dev.ringDisableComplete a1 a2) := by
  unfold Dev.ringDisableComplete
  extract_lets +onlyGivenNames -merge -useContext y0
  refine canon_ite ?_ ?_
  · extract_lets +onlyGivenNames -merge -useContext e1
    have he1 : Canon e1 := by
      unfold e1
      refine canon_foldN ?_ ?_
      · exact h1
      · intro x2 x3 hx4
        exact Dev.completionPost_canon hx4
    clear_value e1
    exact Dev.clrF_canon (Dev.clrF_canon (Dev.setPair_canon he1))
  · exact h1

theorem Dev.nop_canon {a1 a2} (h1 : Canon a1) : Canon (Dev.nop a1 a2) := by
  unfold Dev.nop
  exact Dev.endInTurn_canon h1

theorem Dev.xdiExpCtrlWrite_canon {a1 a2} (h1 : Canon a1) : Canon (Dev.xdiExpCtrlWrite a1 a2) := by
  unfold Dev.xdiExpCtrlWrite
  exact canon_ite (Dev.setF_canon h1) (Dev.wr_canon h1)

theorem Dev.xdiExpCommitWrite_canon {a1 a2} (h1 : Canon a1) : Canon (Dev.xdiExpCommitWrite a1 a2) := by
  unfold Dev.xdiExpCommitWrite
  refine canon_ite ?_ ?_
  · exact Dev.setF_canon h1
  · extract_lets +onlyGivenNames -merge -useContext e0
    have he0 : Canon e0 := Dev.wr_canon h1
    clear_value e0
    exact canon_upd he0

theorem Dev.expBuf_canon {a1 a2} (h1 : Canon a1) : Canon (Dev.expBuf a1 a2) := by
  unfold Dev.expBuf
  split
  · exact Dev.fail_canon h1
  · extract_lets +onlyGivenNames -merge -useContext y0 y1
    refine canon_ite ?_ ?_
    · extract_lets +onlyGivenNames -merge -useContext y2
      exact canon_ite (canon_upd h1) (Dev.setPair_canon h1)
    · exact Dev.endInTurn_canon h1

theorem Dev.hmbGrant_canon {a1 a2} (h1 : Canon a1) : Canon (Dev.hmbGrant a1 a2) := by
  unfold Dev.hmbGrant
  refine canon_ite ?_ ?_
  · exact Dev.fail_canon h1
  · refine canon_ite ?_ ?_
    · exact Dev.fail_canon h1
    · refine Dev.withFields_canon ?_ ?_
      · exact h1
      · intro x0 hx1
        refine canon_ite ?_ ?_
        · exact Dev.fail_canon hx1
        · refine canon_ite ?_ ?_
          · exact Dev.fail_canon hx1
          · refine canon_ite ?_ ?_
            · extract_lets +onlyGivenNames -merge -useContext y2 y3 e4
              have he4 : Canon e4 := canon_upd hx1
              clear_value e4
              exact Dev.okRes_canon (Dev.wr_canon (Dev.setF_canon he4))
            · exact Dev.fail_canon hx1

theorem Dev.hmbRevoke_canon {a1 a2} (h1 : Canon a1) : Canon (Dev.hmbRevoke a1 a2) := by
  unfold Dev.hmbRevoke
  refine Dev.withFields_canon ?_ ?_
  · exact h1
  · intro x0 hx1
    exact canon_ite (canon_upd hx1) (Dev.okRes_canon hx1)

theorem Dev.hmbRevokeDone_canon {a1} (h1 : Canon a1) : Canon (Dev.hmbRevokeDone a1) := by
  unfold Dev.hmbRevokeDone
  extract_lets +onlyGivenNames -merge -useContext y0
  refine canon_ite ?_ ?_
  · exact h1
  · extract_lets +onlyGivenNames -merge -useContext y1 e2
    have he2 : Canon e2 := canon_upd h1
    clear_value e2
    refine canon_foldl ?_ ?_
    · exact Dev.wr_canon (Dev.clrF_canon he2)
    · intro x3 x4 hx5
      exact Dev.okRes_canon hx5

end Sys2Proof.Machine
end

