-- ==== Sys2Proof/Laws/CanonLog.lean ====
section
/-! SUPPORT. Every operation of Machine/Log.lean that answers a device keeps the stored data in canonical form. -/

namespace Sys2Proof.Machine

theorem Dev.retireLog_canon {a1 a2 a3 a4 a5} (h1 : Canon a1) : Canon (Dev.retireLog a1 a2 a3 a4 a5) := by
  unfold Dev.retireLog
  extract_lets +onlyGivenNames -merge -useContext y0 e1
  have he1 : Canon e1 := canon_upd h1
  clear_value e1
  exact Dev.raise_canon (Dev.trouble_canon he1)

theorem Dev.sample_canon {a1 a2 a3 a4} (h1 : Canon a1) : Canon (Dev.sample a1 a2 a3 a4) := by
  unfold Dev.sample
  refine canon_ite ?_ ?_
  · extract_lets +onlyGivenNames -merge -useContext y0 y1 e2
    have he2 : Canon e2 := canon_ite h1 (canon_upd h1)
    clear_value e2
    exact Dev.fifoPush_canon he2
  · exact h1

theorem Dev.claimSample_canon {a1 a2 a3} (h1 : Canon a1) (h2 : Canon a2) : Canon (Dev.claimSample a1 a2 a3) := by
  unfold Dev.claimSample
  split
  · exact h1
  · exact Dev.sample_canon h1

theorem Dev.icuClaimTimed_canon {a1 a2 a3} (h1 : Canon a1) : Canon (Dev.icuClaimTimed a1 a2 a3) := by
  unfold Dev.icuClaimTimed
  exact Dev.claimSample_canon (Dev.icuClaim_canon h1) h1

theorem Dev.logShow_canon {a1} (h1 : Canon a1) : Canon (Dev.logShow a1) := by
  unfold Dev.logShow
  extract_lets +onlyGivenNames -merge -useContext y0 y1 y2 e3
  have he3 : Canon e3 := Dev.flag_canon (Dev.flag_canon (Dev.wr_canon h1))
  clear_value e3
  extract_lets +onlyGivenNames -merge -useContext e4
  have he4 : Canon e4 := canon_ite (Dev.raise_canon he3) he3
  clear_value e4
  exact Dev.syncInput_canon he4

theorem Dev.logPut_canon {a1 a2 a3} (h1 : Canon a1) : Canon (Dev.logPut a1 a2 a3) := by
  unfold Dev.logPut
  extract_lets +onlyGivenNames -merge -useContext y0 y1 e2
  have he2 : Canon e2 := canon_upd h1
  clear_value e2
  extract_lets +onlyGivenNames -merge -useContext e3
  have he3 : Canon e3 := Dev.incr_canon he2
  clear_value e3
  extract_lets +onlyGivenNames -merge -useContext e4
  have he4 : Canon e4 := canon_ite (Dev.raise_canon he3) he3
  clear_value e4
  exact Dev.logShow_canon he4

theorem Dev.logLostSummary_canon {a1} (h1 : Canon a1) : Canon (Dev.logLostSummary a1) := by
  unfold Dev.logLostSummary
  refine canon_ite ?_ ?_
  · exact h1
  · extract_lets +onlyGivenNames -merge -useContext y0
    exact Dev.logPut_canon (canon_upd h1)

theorem Dev.logLose_canon {a1} (h1 : Canon a1) : Canon (Dev.logLose a1) := by
  unfold Dev.logLose
  extract_lets +onlyGivenNames -merge -useContext y0 e1
  have he1 : Canon e1 := canon_upd h1
  clear_value e1
  exact Dev.raise_canon (Dev.bump_canon he1)

theorem Dev.logSuppSummary_canon {a1 a2} (h1 : Canon a1) : Canon (Dev.logSuppSummary a1 a2) := by
  unfold Dev.logSuppSummary
  extract_lets +onlyGivenNames -merge -useContext y0
  refine canon_ite ?_ ?_
  · exact h1
  · extract_lets +onlyGivenNames -merge -useContext e1
    have he1 : Canon e1 := canon_ite (Dev.logLostSummary_canon h1) h1
    clear_value e1
    refine canon_ite ?_ ?_
    · extract_lets +onlyGivenNames -merge -useContext y2
      exact Dev.logPut_canon (canon_upd he1)
    · exact he1

theorem Dev.logAdmit_canon {a1 a2 a3} (h1 : Canon a1) : Canon (Dev.logAdmit a1 a2 a3) := by
  unfold Dev.logAdmit
  refine canon_ite ?_ ?_
  · exact Dev.bump_canon h1
  · refine canon_ite ?_ ?_
    · exact Dev.logLose_canon h1
    · refine canon_ite ?_ ?_
      · extract_lets +onlyGivenNames -merge -useContext e0
        have he0 : Canon e0 := Dev.logLostSummary_canon h1
        clear_value e0
        extract_lets +onlyGivenNames -merge -useContext e1
        have he1 : Canon e1 := canon_ite he0 (Dev.logSuppSummary_canon he0)
        clear_value e1
        exact canon_ite (Dev.logPut_canon he1) (Dev.logLose_canon he1)
      · extract_lets +onlyGivenNames -merge -useContext y2
        refine canon_ite ?_ ?_
        · extract_lets +onlyGivenNames -merge -useContext y3
          exact Dev.bump_canon (canon_upd h1)
        · extract_lets +onlyGivenNames -merge -useContext y4 y5 e6
          have he6 : Canon e6 := canon_upd h1
          clear_value e6
          extract_lets +onlyGivenNames -merge -useContext e7
          have he7 : Canon e7 := Dev.logLostSummary_canon he6
          clear_value e7
          extract_lets +onlyGivenNames -merge -useContext e8
          have he8 : Canon e8 := Dev.logSuppSummary_canon he7
          clear_value e8
          exact canon_ite (Dev.logPut_canon he8) (Dev.logLose_canon he8)

theorem Dev.logBufEnd_canon {a1 a2 a3 a4} (h1 : Canon a1) : Canon (Dev.logBufEnd a1 a2 a3 a4) := by
  unfold Dev.logBufEnd
  extract_lets +onlyGivenNames -merge -useContext y0 y1 e2
  have he2 : Canon e2 := Dev.setPair_canon h1
  clear_value e2
  extract_lets +onlyGivenNames -merge -useContext y3 e4
  have he4 : Canon e4 := canon_upd he2
  clear_value e4
  exact Dev.finish_canon he4

theorem Dev.logDrainOne_canon {a1} (h1 : Canon a1) : Canon (Dev.logDrainOne a1) := by
  unfold Dev.logDrainOne
  split
  · exact h1
  · split
    · exact h1
    · refine canon_ite ?_ ?_
      · exact h1
      · extract_lets +onlyGivenNames -merge -useContext y0 y1 y2 e3
        have he3 : Canon e3 := canon_upd h1
        clear_value e3
        exact canon_ite (Dev.logBufEnd_canon he3) (Dev.setPair_canon he3)

theorem Dev.logDrain_canon {a1} (h1 : Canon a1) : Canon (Dev.logDrain a1) := by
  unfold Dev.logDrain
  refine canon_foldN ?_ ?_
  · exact h1
  · intro x0 x1 hx2
    exact Dev.logDrainOne_canon hx2

theorem Dev.logHeadTo_canon {a1 a2} (h1 : Canon a1) : Canon (Dev.logHeadTo a1 a2) := by
  unfold Dev.logHeadTo
  extract_lets +onlyGivenNames -merge -useContext y0 e1
  have he1 : Canon e1 := Dev.logShow_canon (Dev.wr_canon h1)
  clear_value e1
  refine canon_ite ?_ ?_
  · extract_lets +onlyGivenNames -merge -useContext y2
    refine canon_foldl ?_ ?_
    · exact he1
    · intro x3 x4 hx5
      exact Dev.logSuppSummary_canon hx5
  · exact he1

theorem Dev.logRingSync_canon {a1} (h1 : Canon a1) : Canon (Dev.logRingSync a1) := by
  unfold Dev.logRingSync
  extract_lets +onlyGivenNames -merge -useContext y0
  exact canon_ite (Dev.setF_canon (canon_upd h1)) (Dev.flag_canon h1)

theorem Dev.logAck_canon {a1 a2 a3 a4} (h1 : Canon a1) : Canon (Dev.logAck a1 a2 a3 a4) := by
  unfold Dev.logAck
  refine canon_ite ?_ ?_
  · extract_lets +onlyGivenNames -merge -useContext y0 y1 y2 y3 e4
    have he4 : Canon e4 := canon_upd h1
    clear_value e4
    refine canon_foldl ?_ ?_
    · exact he4
    · intro x5 x6 hx7
      extract_lets +onlyGivenNames -merge -useContext y8
      exact canon_ite (Dev.logHeadTo_canon hx7) hx7
  · exact h1

theorem Dev.cqDoorbell_canon {a1 a2 a3} (h1 : Canon a1) : Canon (Dev.cqDoorbell a1 a2 a3) := by
  unfold Dev.cqDoorbell
  extract_lets +onlyGivenNames -merge -useContext y0 e1
  have he1 : Canon e1 := Dev.cqDoorbellBase_canon h1
  clear_value e1
  extract_lets +onlyGivenNames -merge -useContext y2
  exact canon_ite he1 (Dev.logDrain_canon (Dev.logAck_canon he1))

theorem Dev.logRecord_canon {a1} (h1 : Canon a1) : Canon (Dev.logRecord a1) := by
  unfold Dev.logRecord
  split
  · exact h1
  · exact Dev.logDrain_canon (Dev.logAdmit_canon (canon_upd h1))

theorem Dev.logFwBad_canon {a1} (h1 : Canon a1) : Canon (Dev.logFwBad a1) := by
  unfold Dev.logFwBad
  exact Dev.raise_canon (Dev.bump_canon (Dev.setF_canon h1))

theorem Dev.logAppend_canon {a1 a2 a3} (h1 : Canon a1) : Canon (Dev.logAppend a1 a2 a3) := by
  unfold Dev.logAppend
  extract_lets +onlyGivenNames -merge -useContext y0
  refine canon_ite ?_ ?_
  · exact Dev.logFwBad_canon h1
  · extract_lets +onlyGivenNames -merge -useContext y1 y2
    refine canon_ite ?_ ?_
    · extract_lets +onlyGivenNames -merge -useContext y3 y4
      exact Dev.logDrain_canon (Dev.logAdmit_canon h1)
    · exact Dev.logFwBad_canon h1

theorem Dev.logBuf_canon {a1 a2} (h1 : Canon a1) : Canon (Dev.logBuf a1 a2) := by
  unfold Dev.logBuf
  split
  · exact Dev.fail_canon h1
  · refine Dev.withFields_canon ?_ ?_
    · exact h1
    · intro x0 hx1
      refine canon_ite ?_ ?_
      · extract_lets +onlyGivenNames -merge -useContext y2
        exact Dev.logDrain_canon (Dev.setPair_canon hx1)
      · exact Dev.fail_canon hx1

theorem Dev.logBufTimeout_canon {a1} (h1 : Canon a1) : Canon (Dev.logBufTimeout a1) := by
  unfold Dev.logBufTimeout
  split
  · exact h1
  · split
    · exact h1
    · exact canon_ite (Dev.logBufEnd_canon h1) h1

theorem Dev.logMark_canon {a1 a2} (h1 : Canon a1) : Canon (Dev.logMark a1 a2) := by
  unfold Dev.logMark
  refine Dev.withFields_canon ?_ ?_
  · exact h1
  · intro x0 hx1
    extract_lets +onlyGivenNames -merge -useContext y2 e3
    have he3 : Canon e3 := Dev.logAdmit_canon hx1
    clear_value e3
    extract_lets +onlyGivenNames -merge -useContext y4
    exact canon_ite (Dev.okRes_canon (Dev.drawn_canon he3)) (Dev.logDrain_canon (Dev.okRes_canon he3))

theorem Dev.logEmpty_canon {a1 a2} (h1 : Canon a1) : Canon (Dev.logEmpty a1 a2) := by
  unfold Dev.logEmpty
  extract_lets +onlyGivenNames -merge -useContext y0 y1 y2 e3
  have he3 : Canon e3 := canon_upd h1
  clear_value e3
  extract_lets +onlyGivenNames -merge -useContext e4
  have he4 : Canon e4 := Dev.logHeadTo_canon he3
  clear_value e4
  exact Dev.logDrain_canon (Dev.logAdmit_canon he4)

theorem Dev.logClear_canon {a1 a2} (h1 : Canon a1) : Canon (Dev.logClear a1 a2) := by
  unfold Dev.logClear
  refine Dev.withFields_canon ?_ ?_
  · exact h1
  · intro x0 hx1
    extract_lets +onlyGivenNames -merge -useContext y2
    exact Dev.okRes_canon (Dev.logEmpty_canon hx1)

theorem Dev.logCtrlClear_canon {a1 a2} (h1 : Canon a1) : Canon (Dev.logCtrlClear a1 a2) := by
  unfold Dev.logCtrlClear
  exact Dev.logEmpty_canon h1

theorem Dev.logHeadWrite_canon {a1 a2} (h1 : Canon a1) : Canon (Dev.logHeadWrite a1 a2) := by
  unfold Dev.logHeadWrite
  exact canon_ite (Dev.setF_canon h1) (Dev.logHeadTo_canon h1)

theorem Dev.logSelWrite_canon {a1 a2} (h1 : Canon a1) : Canon (Dev.logSelWrite a1 a2) := by
  unfold Dev.logSelWrite
  extract_lets +onlyGivenNames -merge -useContext y0 y1 e2
  have he2 : Canon e2 := Dev.setF_canon (Dev.wr_canon h1)
  clear_value e2
  refine canon_foldN ?_ ?_
  · exact he2
  · intro x3 x4 hx5
    exact Dev.wr_canon hx5

theorem Dev.suppressedSummaryTimer_canon {a1 a2} (h1 : Canon a1) : Canon (Dev.suppressedSummaryTimer a1 a2) := by
  unfold Dev.suppressedSummaryTimer
  extract_lets +onlyGivenNames -merge -useContext y0
  exact canon_ite (Dev.logDrain_canon (Dev.logSuppSummary_canon h1)) h1

theorem Dev.srbAdd_canon {a1 a2 a3 a4 a5} (h1 : Canon a1) : Canon (Dev.srbAdd a1 a2 a3 a4 a5) := by
  unfold Dev.srbAdd
  extract_lets +onlyGivenNames -merge -useContext e0
  have he0 : Canon e0 := by
    unfold e0
    refine canon_foldN ?_ ?_
    · exact h1
    · intro x1 x2 hx3
      refine canon_ite ?_ ?_
      · extract_lets +onlyGivenNames -merge -useContext y4
        exact canon_upd hx3
      · exact hx3
  clear_value e0
  refine canon_foldN ?_ ?_
  · exact he0
  · intro x5 x6 hx7
    exact canon_ite (canon_upd hx7) hx7

theorem Dev.srbCount_canon {a1 a2 a3 a4 a5} (h1 : Canon a1) : Canon (Dev.srbCount a1 a2 a3 a4 a5) := by
  unfold Dev.srbCount
  refine canon_ite ?_ ?_
  · exact Dev.srbAdd_canon h1
  · extract_lets +onlyGivenNames -merge -useContext y0 y1
    exact Dev.srbAdd_canon (canon_upd h1)

theorem Dev.srbTakeItem_canon {a1} (h1 : Canon a1) : Canon (Dev.srbTakeItem a1) := by
  unfold Dev.srbTakeItem
  split
  · exact h1
  · exact Dev.srbCount_canon (Dev.fifoPop_canon h1)

theorem Dev.srbDrainOld_canon {a1} (h1 : Canon a1) : Canon (Dev.srbDrainOld a1) := by
  unfold Dev.srbDrainOld
  refine canon_foldN ?_ ?_
  · exact h1
  · intro x0 x1 hx2
    exact canon_ite (Dev.srbTakeItem_canon hx2) hx2

theorem Dev.histRestart_canon {a1 a2} (h1 : Canon a1) : Canon (Dev.histRestart a1 a2) := by
  unfold Dev.histRestart
  extract_lets +onlyGivenNames -merge -useContext y0
  exact canon_upd h1

theorem Dev.extRestart_canon {a1 a2} (h1 : Canon a1) : Canon (Dev.extRestart a1 a2) := by
  unfold Dev.extRestart
  extract_lets +onlyGivenNames -merge -useContext y0
  exact canon_upd h1

theorem Dev.srbCaptureAll_canon {a1 a2} (h1 : Canon a1) : Canon (Dev.srbCaptureAll a1 a2) := by
  unfold Dev.srbCaptureAll
  extract_lets +onlyGivenNames -merge -useContext e0
  have he0 : Canon e0 := by
    unfold e0
    refine canon_foldl ?_ ?_
    · exact h1
    · intro x1 x2 hx3
      refine canon_ite ?_ ?_
      · extract_lets +onlyGivenNames -merge -useContext y4 e5
        have he5 : Canon e5 := canon_upd hx3
        clear_value e5
        exact canon_ite he5 (Dev.histRestart_canon he5)
      · exact hx3
  clear_value e0
  refine canon_foldl ?_ ?_
  · exact he0
  · intro x6 x7 hx8
    refine canon_ite ?_ ?_
    · extract_lets +onlyGivenNames -merge -useContext y9 e10
      have he10 : Canon e10 := canon_upd hx8
      clear_value e10
      exact canon_ite he10 (Dev.extRestart_canon he10)
    · exact hx8

theorem Dev.srbCapture_canon {a1 a2} (h1 : Canon a1) : Canon (Dev.srbCapture a1 a2) := by
  unfold Dev.srbCapture
  extract_lets +onlyGivenNames -merge -useContext e0
  have he0 : Canon e0 := Dev.srbDrainOld_canon h1
  clear_value e0
  refine canon_ite ?_ ?_
  · exact Dev.srbCaptureAll_canon he0
  · extract_lets +onlyGivenNames -merge -useContext y1 y2 e3
    have he3 : Canon e3 := Dev.srbCaptureAll_canon (canon_upd he0)
    clear_value e3
    refine canon_foldl ?_ ?_
    · exact he3
    · intro x4 x5 hx6
      exact Dev.srbCount_canon hx6

theorem Dev.srbRequest_canon {a1 a2} (h1 : Canon a1) : Canon (Dev.srbRequest a1 a2) := by
  unfold Dev.srbRequest
  exact canon_ite h1 (canon_ite (Dev.srbCapture_canon h1) (Dev.setF_canon h1))

theorem Dev.srbShowOldest_canon {a1} (h1 : Canon a1) : Canon (Dev.srbShowOldest a1) := by
  unfold Dev.srbShowOldest
  exact Dev.wr_canon h1

theorem Dev.srbWriteRecord_canon {a1 a2} (h1 : Canon a1) : Canon (Dev.srbWriteRecord a1 a2) := by
  unfold Dev.srbWriteRecord
  extract_lets +onlyGivenNames -merge -useContext y0 y1 y2 e3
  have he3 : Canon e3 := Dev.memWrB_canon h1
  clear_value e3
  extract_lets +onlyGivenNames -merge -useContext y4 y5 y6 y7 e8
  have he8 : Canon e8 := canon_upd he3
  clear_value e8
  exact Dev.srbShowOldest_canon (Dev.incr_canon he8)

theorem Dev.srbWriteCapture_canon {a1} (h1 : Canon a1) : Canon (Dev.srbWriteCapture a1) := by
  unfold Dev.srbWriteCapture
  extract_lets +onlyGivenNames -merge -useContext y0
  refine canon_ite ?_ ?_
  · exact h1
  · extract_lets +onlyGivenNames -merge -useContext e1
    have he1 : Canon e1 := by
      unfold e1
      refine canon_foldl ?_ ?_
      · exact h1
      · intro x2 x3 hx4
        exact Dev.srbWriteRecord_canon hx4
    clear_value e1
    exact Dev.raise_canon (Dev.clrF_canon (canon_upd he1))

theorem Dev.srbEnable_canon {a1} (h1 : Canon a1) : Canon (Dev.srbEnable a1) := by
  unfold Dev.srbEnable
  refine canon_ite ?_ ?_
  · exact h1
  · refine canon_ite ?_ ?_
    · exact Dev.setF_canon h1
    · extract_lets +onlyGivenNames -merge -useContext y0 e1
      have he1 : Canon e1 := Dev.commitRwl_canon (Dev.setF_canon h1)
      clear_value e1
      extract_lets +onlyGivenNames -merge -useContext y2 y3 y4 e5
      have he5 : Canon e5 := canon_upd he1
      clear_value e5
      extract_lets +onlyGivenNames -merge -useContext e6
      have he6 : Canon e6 := Dev.srbShowOldest_canon (Dev.wr_canon he5)
      clear_value e6
      extract_lets +onlyGivenNames -merge -useContext e7
      have he7 : Canon e7 := by
        unfold e7
        refine canon_foldN ?_ ?_
        · exact he6
        · intro x8 x9 hx10
          exact Dev.extRestart_canon (Dev.histRestart_canon hx10)
      clear_value e7
      exact Dev.setF_canon he7

theorem Dev.srbSample_canon {a1 a2} (h1 : Canon a1) : Canon (Dev.srbSample a1 a2) := by
  unfold Dev.srbSample
  extract_lets +onlyGivenNames -merge -useContext e0
  have he0 : Canon e0 := by
    unfold e0
    split
    · exact h1
    · exact Dev.sample_canon h1
  clear_value e0
  exact canon_ite (Dev.srbTakeItem_canon he0) he0

theorem Dev.srbFeedWrite_canon {a1 a2} (h1 : Canon a1) : Canon (Dev.srbFeedWrite a1 a2) := by
  unfold Dev.srbFeedWrite
  exact Dev.sample_canon h1

theorem Dev.snapshotTimer_canon {a1 a2} (h1 : Canon a1) : Canon (Dev.snapshotTimer a1 a2) := by
  unfold Dev.snapshotTimer
  extract_lets +onlyGivenNames -merge -useContext y0
  exact canon_ite (Dev.srbRequest_canon h1) h1

theorem Dev.srbSnapNow_canon {a1} (h1 : Canon a1) : Canon (Dev.srbSnapNow a1) := by
  unfold Dev.srbSnapNow
  exact canon_ite (Dev.srbRequest_canon (Dev.setF_canon h1)) h1

theorem Dev.snapshotWritten_canon {a1} (h1 : Canon a1) : Canon (Dev.snapshotWritten a1) := by
  unfold Dev.snapshotWritten
  exact canon_ite (canon_ite (Dev.raise_canon (Dev.clrF_canon h1)) h1) (Dev.srbWriteCapture_canon h1)

theorem Dev.srbWselWrite_canon {a1 a2} (h1 : Canon a1) : Canon (Dev.srbWselWrite a1 a2) := by
  unfold Dev.srbWselWrite
  extract_lets +onlyGivenNames -merge -useContext y0 y1 e2
  have he2 : Canon e2 := Dev.setF_canon (Dev.flag_canon (Dev.wr_canon h1))
  clear_value e2
  extract_lets +onlyGivenNames -merge -useContext y3
  refine canon_foldN ?_ ?_
  · exact he2
  · intro x4 x5 hx6
    exact Dev.wr_canon hx6

theorem Dev.srbCopy_canon {a1 a2} (h1 : Canon a1) : Canon (Dev.srbCopy a1 a2) := by
  unfold Dev.srbCopy
  refine Dev.withFields_canon ?_ ?_
  · exact h1
  · intro x0 hx1
    extract_lets +onlyGivenNames -merge -useContext y2
    refine canon_ite ?_ ?_
    · extract_lets +onlyGivenNames -merge -useContext e3
      have he3 : Canon e3 := canon_ite (Dev.srbWriteCapture_canon (Dev.srbRequest_canon hx1)) hx1
      clear_value e3
      extract_lets +onlyGivenNames -merge -useContext y4 y5 y6
      exact Dev.finish_canon he3
    · exact Dev.fail_canon hx1

end Sys2Proof.Machine
end

