-- ==== Sys2Proof/Laws/CanonLink.lean ====
section
/-! SUPPORT. Every operation of Machine/Link.lean that answers a device keeps the stored data in canonical form. -/

namespace Sys2Proof.Machine

theorem Dev.eplEmit_canon {a1 a2 a3} (h1 : Canon a1) : Canon (Dev.eplEmit a1 a2 a3) := by
  unfold Dev.eplEmit
  exact Dev.emit_canon h1

theorem Dev.eplDrainF_canon {a1 a2} (h2 : Canon a2) : Canon (Dev.eplDrainF a1 a2) := by
  induction a1 generalizing a2 with
  | zero => exact h2
  | succ k ih =>
    unfold Dev.eplDrainF
    split
    · exact h2
    · exact canon_ite (ih (Dev.eplEmit_canon (canon_upd h2))) h2

theorem Dev.eplDrain_canon {a1} (h1 : Canon a1) : Canon (Dev.eplDrain a1) := by
  unfold Dev.eplDrain
  exact canon_ite (Dev.eplDrainF_canon h1) h1

theorem Dev.eplSend_canon {a1 a2 a3 a4} (h1 : Canon a1) : Canon (Dev.eplSend a1 a2 a3 a4) := by
  unfold Dev.eplSend
  extract_lets +onlyGivenNames -merge -useContext y0
  exact canon_ite (Dev.eplDrain_canon (canon_upd h1)) (canon_ite h1 (canon_ite (canon_upd h1) (canon_upd h1)))

theorem Dev.eplMirror_canon {a1 a2 a3} (h1 : Canon a1) : Canon (Dev.eplMirror a1 a2 a3) := by
  unfold Dev.eplMirror
  exact canon_ite (Dev.eplSend_canon h1) h1

theorem Dev.tableSave_canon {a1 a2 a3 a4 a5} (h1 : Canon a1) : Canon (Dev.tableSave a1 a2 a3 a4 a5) := by
  unfold Dev.tableSave
  extract_lets +onlyGivenNames -merge -useContext y0 y1 y2 y3 e4
  have he4 : Canon e4 := Dev.drawn_canon h1
  clear_value e4
  exact canon_upd he4

end Sys2Proof.Machine
end

