-- ==== Sys2Proof/Laws/CanonPav.lean ====
section
/-! SUPPORT. Every operation of Machine/Pav.lean that answers a device keeps the stored data in canonical form. -/

namespace Sys2Proof.Machine

theorem Dev.putKey_canon {a1 a2} (h1 : Canon a1) : Canon (Dev.putKey a1 a2) := by
  unfold Dev.putKey
  exact canon_upd h1

theorem Dev.pavShow_canon {a1} (h1 : Canon a1) : Canon (Dev.pavShow a1) := by
  unfold Dev.pavShow
  extract_lets +onlyGivenNames -merge -useContext y0
  exact Dev.wr_canon (Dev.wr_canon (Dev.wr_canon h1))

theorem Dev.cacheFlush_canon {a1 a2} (h1 : Canon a1) : Canon (Dev.cacheFlush a1 a2) := by
  unfold Dev.cacheFlush
  exact canon_upd h1

theorem Dev.pavLockStore_canon {a1} (h1 : Canon a1) : Canon (Dev.pavLockStore a1) := by
  unfold Dev.pavLockStore
  exact Dev.pavShow_canon (Dev.clrF_canon (canon_upd h1))

theorem Dev.keyFail_canon {a1} (h1 : Canon a1) : Canon (Dev.keyFail a1) := by
  unfold Dev.keyFail
  exact Dev.setF_canon (Dev.bump_canon h1)

theorem Dev.keyServe_canon {a1 a2 a3 a4 a5 a6} (h1 : Canon a1) : Canon1 (Dev.keyServe a1 a2 a3 a4 a5 a6) := by
  unfold Dev.keyServe
  refine canon_ite1 ?_ ?_
  · exact canon_mk1 h1
  · extract_lets +onlyGivenNames -merge -useContext y0 y1
    split
    · exact canon_mk1 (Dev.keyFail_canon h1)
    · refine canon_ite1 ?_ ?_
      · exact canon_mk1 (Dev.keyFail_canon h1)
      · extract_lets +onlyGivenNames -merge -useContext y2
        refine canon_ite1 ?_ ?_
        · exact canon_mk1 (Dev.keyFail_canon h1)
        · extract_lets +onlyGivenNames -merge -useContext y3 y4 y5 y6
          split
          · extract_lets +onlyGivenNames -merge -useContext y7 e8
            have he8 : Canon e8 := canon_upd h1
            clear_value e8
            exact canon_mk1 (Dev.bump_canon he8)
          · extract_lets +onlyGivenNames -merge -useContext y9 y10 y11 e12
            have he12 : Canon e12 := canon_upd h1
            clear_value e12
            exact canon_mk1 (Dev.bump_canon (Dev.bump_canon he12))

theorem Dev.keyAnswer_canon {a1 a2} (h1 : Canon a1) : Canon (Dev.keyAnswer a1 a2) := by
  unfold Dev.keyAnswer
  extract_lets +onlyGivenNames -merge -useContext y0
  have hy0 : Canon1 y0 := Dev.keyServe_canon h1
  clear_value y0
  extract_lets +onlyGivenNames -merge -useContext y1
  have hy1 : ∀ w0 w1, Canon w0 → Canon (y1 w0 w1) := by
    unfold y1
    intro x2 x3 hx4
    exact canon_upd hx4
  clear_value y1
  split
  · extract_lets +onlyGivenNames -merge -useContext e5
    have he5 : Canon e5 := Canon1.fst hy0
    clear_value e5
    exact canon_upd he5
  · refine hy1 _ _ ?_
    · exact Canon1.fst hy0
  · refine hy1 _ _ ?_
    · exact Canon1.fst hy0

theorem Dev.slotPut_canon {a1 a2 a3} (h1 : Canon a1) : Canon (Dev.slotPut a1 a2 a3) := by
  unfold Dev.slotPut
  exact canon_upd h1

theorem Dev.slotWordPut_canon {a1 a2 a3 a4} (h1 : Canon a1) : Canon (Dev.slotWordPut a1 a2 a3 a4) := by
  unfold Dev.slotWordPut
  exact Dev.slotPut_canon h1

theorem Dev.blankSlot_canon {a1 a2} (h1 : Canon a1) : Canon (Dev.blankSlot a1 a2) := by
  unfold Dev.blankSlot
  exact Dev.slotPut_canon h1

theorem Dev.pavCut_canon {a1} (h1 : Canon a1) : Canon (Dev.pavCut a1) := by
  unfold Dev.pavCut
  split
  · exact h1
  · extract_lets +onlyGivenNames -merge -useContext y0 e1
    have he1 : Canon e1 := canon_ite (canon_upd h1) h1
    clear_value e1
    split
    · extract_lets +onlyGivenNames -merge -useContext y2 e3
      have he3 : Canon e3 := Dev.drawn_canon he1
      clear_value e3
      refine canon_ite ?_ ?_
      · exact he3
      · refine canon_ite ?_ ?_
        · exact Dev.slotWordPut_canon he3
        · extract_lets +onlyGivenNames -merge -useContext y4 e5
          have he5 : Canon e5 := Dev.drawn_canon (Dev.drawn_canon (Dev.slotWordPut_canon he3))
          clear_value e5
          exact canon_ite (Dev.slotWordPut_canon he5) he5
    · exact he1

theorem Dev.keyEvent_canon {a1 a2 a3 a4 a5 a6} (h1 : Canon a1) : Canon (Dev.keyEvent a1 a2 a3 a4 a5 a6) := by
  unfold Dev.keyEvent
  exact canon_ite h1 (Dev.eplMirror_canon h1)

theorem Dev.destroyPoint_canon {a1 a2} (h1 : Canon a1) : Canon (Dev.destroyPoint a1 a2) := by
  unfold Dev.destroyPoint
  extract_lets +onlyGivenNames -merge -useContext y0 e1
  have he1 : Canon e1 := by
    unfold e1
    refine canon_foldl ?_ ?_
    · exact h1
    · intro x2 x3 hx4
      exact Dev.keyEvent_canon hx4
  clear_value e1
  extract_lets +onlyGivenNames -merge -useContext y5 e6
  have he6 : Canon e6 := canon_upd he1
  clear_value e6
  exact Dev.pavShow_canon (Dev.cacheFlush_canon he6)

theorem Dev.commitPoint_canon {a1 a2} (h1 : Canon a1) : Canon (Dev.commitPoint a1 a2) := by
  unfold Dev.commitPoint
  extract_lets +onlyGivenNames -merge -useContext y0 e1
  have he1 : Canon e1 := canon_ite (Dev.putKey_canon h1) h1
  clear_value e1
  exact Dev.keyEvent_canon (Dev.pavShow_canon (Dev.cacheFlush_canon he1))

theorem Dev.reqsGo_canon {a1} (h1 : Canon a1) : Canon (Dev.reqsGo a1) := by
  unfold Dev.reqsGo
  refine canon_ite ?_ ?_
  · exact h1
  · extract_lets +onlyGivenNames -merge -useContext y0
    refine canon_foldl ?_ ?_
    · exact canon_upd h1
    · intro x1 x2 hx3
      exact Dev.keyAnswer_canon hx3

theorem Dev.opEnd_canon {a1 a2 a3} (h1 : Canon a1) : Canon (Dev.opEnd a1 a2 a3) := by
  unfold Dev.opEnd
  exact Dev.finish_canon (Dev.pavShow_canon (canon_upd h1))

theorem Dev.opDone_canon {a1 a2} (h1 : Canon a1) : Canon (Dev.opDone a1 a2) := by
  unfold Dev.opDone
  split
  · extract_lets +onlyGivenNames -merge -useContext e0
    have he0 : Canon e0 := canon_ite (Dev.putKey_canon h1) h1
    clear_value e0
    exact Dev.opEnd_canon he0
  · extract_lets +onlyGivenNames -merge -useContext e1
    have he1 : Canon e1 := canon_ite (Dev.putKey_canon h1) h1
    clear_value e1
    exact Dev.opEnd_canon he1
  · exact Dev.opEnd_canon h1
  · exact Dev.opEnd_canon h1
  · extract_lets +onlyGivenNames -merge -useContext y2 e3
    have he3 : Canon e3 := canon_ite (Dev.putKey_canon h1) h1
    clear_value e3
    exact Dev.opEnd_canon he3
  · exact Dev.opEnd_canon (Dev.raise_canon (Dev.wr_canon h1))
  · extract_lets +onlyGivenNames -merge -useContext y4 e5
    have he5 : Canon e5 := Dev.drawn_canon h1
    clear_value e5
    extract_lets +onlyGivenNames -merge -useContext y6 e7
    have he7 : Canon e7 := canon_upd he5
    clear_value e7
    extract_lets +onlyGivenNames -merge -useContext e8
    have he8 : Canon e8 := Dev.setF_canon (Dev.clrF_canon (Dev.clrF_canon he7))
    clear_value e8
    exact Dev.reqsGo_canon (Dev.opEnd_canon he8)

theorem Dev.opTamper_canon {a1 a2} (h1 : Canon a1) : Canon (Dev.opTamper a1 a2) := by
  unfold Dev.opTamper
  split
  · exact h1
  · refine canon_ite ?_ ?_
    · extract_lets +onlyGivenNames -merge -useContext e0
      have he0 : Canon e0 := by
        unfold e0
        refine canon_ite ?_ ?_
        · exact h1
        · refine canon_foldl ?_ ?_
          · exact h1
          · intro x1 x2 hx3
            split
            · exact Dev.slotWordPut_canon hx3
            · exact hx3
      clear_value e0
      exact Dev.opEnd_canon he0
    · extract_lets +onlyGivenNames -merge -useContext e4
      have he4 : Canon e4 := by
        unfold e4
        split
        · exact h1
        · exact Dev.blankSlot_canon h1
      clear_value e4
      exact Dev.opEnd_canon he4

theorem Dev.tamperLog_canon {a1 a2 a3 a4 a5} (h1 : Canon a1) : Canon (Dev.tamperLog a1 a2 a3 a4 a5) := by
  unfold Dev.tamperLog
  refine canon_ite ?_ ?_
  · exact Dev.bump_canon h1
  · extract_lets +onlyGivenNames -merge -useContext y0 y1 y2 e3
    have he3 : Canon e3 := canon_upd h1
    clear_value e3
    exact Dev.wr_canon he3

theorem Dev.zeroise_canon {a1 a2} (h1 : Canon a1) : Canon (Dev.zeroise a1 a2) := by
  unfold Dev.zeroise
  extract_lets +onlyGivenNames -merge -useContext y0 e1
  have he1 : Canon e1 := canon_upd h1
  clear_value e1
  extract_lets +onlyGivenNames -merge -useContext e2
  have he2 : Canon e2 := Dev.raise_canon (Dev.wr_canon (Dev.setF_canon (Dev.pavLockStore_canon he1)))
  clear_value e2
  exact Dev.trouble_canon he2

theorem Dev.zeroiseCmd_canon {a1} (h1 : Canon a1) : Canon (Dev.zeroiseCmd a1) := by
  unfold Dev.zeroiseCmd
  exact Dev.zeroise_canon (Dev.opTamper_canon (Dev.tamperLog_canon h1))

theorem Dev.opStart_canon {a1 a2} (h1 : Canon a1) : Canon (Dev.opStart a1 a2) := by
  unfold Dev.opStart
  exact canon_upd h1

theorem Dev.keyImportNow_canon {a1 a2} (h1 : Canon a1) : Canon (Dev.keyImportNow a1 a2) := by
  unfold Dev.keyImportNow
  refine Dev.withFields_canon ?_ ?_
  · exact h1
  · intro x0 hx1
    extract_lets +onlyGivenNames -merge -useContext y2 y3 y4 y5
    refine canon_ite ?_ ?_
    · exact Dev.fail_canon hx1
    · refine canon_ite ?_ ?_
      · exact Dev.fail_canon hx1
      · refine canon_ite ?_ ?_
        · exact Dev.fail_canon hx1
        · refine canon_ite ?_ ?_
          · exact Dev.fail_canon hx1
          · refine canon_ite ?_ ?_
            · exact Dev.fail_canon hx1
            · refine canon_ite ?_ ?_
              · exact Dev.fail_canon hx1
              · refine canon_ite ?_ ?_
                · exact Dev.fail_canon hx1
                · split
                  · exact Dev.finish_canon hx1
                  · extract_lets +onlyGivenNames -merge -useContext y6 y7
                    clear_value y6
                    split
                    · refine canon_ite ?_ ?_
                      · exact Dev.fail_canon hx1
                      · split
                        · exact Dev.fail_canon hx1
                        · extract_lets +onlyGivenNames -merge -useContext y8 y9 y10 y11
                          exact Dev.opStart_canon hx1
                    · exact Dev.fail_canon hx1

theorem Dev.keyStageNow_canon {a1 a2} (h1 : Canon a1) : Canon (Dev.keyStageNow a1 a2) := by
  unfold Dev.keyStageNow
  refine Dev.withFields_canon ?_ ?_
  · exact h1
  · intro x0 hx1
    split
    · exact Dev.fail_canon hx1
    · extract_lets +onlyGivenNames -merge -useContext y2 y3 y4 y5
      refine canon_ite ?_ ?_
      · exact Dev.fail_canon hx1
      · refine canon_ite ?_ ?_
        · exact Dev.fail_canon hx1
        · refine canon_ite ?_ ?_
          · exact Dev.fail_canon hx1
          · refine canon_ite ?_ ?_
            · exact Dev.fail_canon hx1
            · refine canon_ite ?_ ?_
              · exact Dev.fail_canon hx1
              · refine canon_ite ?_ ?_
                · exact Dev.fail_canon hx1
                · split
                  · exact Dev.fail_canon hx1
                  · refine canon_ite ?_ ?_
                    · exact Dev.fail_canon hx1
                    · split
                      · exact Dev.fail_canon hx1
                      · extract_lets +onlyGivenNames -merge -useContext y6 y7 y8
                        exact canon_ite (Dev.opStart_canon hx1) (Dev.opStart_canon hx1)

theorem Dev.keyCommitNow_canon {a1 a2} (h1 : Canon a1) : Canon (Dev.keyCommitNow a1 a2) := by
  unfold Dev.keyCommitNow
  refine Dev.withFields_canon ?_ ?_
  · exact h1
  · intro x0 hx1
    split
    · exact Dev.fail_canon hx1
    · split
      · exact Dev.fail_canon hx1
      · extract_lets +onlyGivenNames -merge -useContext y2 y3
        exact Dev.opStart_canon hx1

theorem Dev.keyAbandonNow_canon {a1 a2} (h1 : Canon a1) : Canon (Dev.keyAbandonNow a1 a2) := by
  unfold Dev.keyAbandonNow
  refine Dev.withFields_canon ?_ ?_
  · exact h1
  · intro x0 hx1
    split
    · exact Dev.fail_canon hx1
    · split
      · exact Dev.fail_canon hx1
      · exact Dev.opStart_canon hx1

theorem Dev.keyDestroyNow_canon {a1 a2} (h1 : Canon a1) : Canon (Dev.keyDestroyNow a1 a2) := by
  unfold Dev.keyDestroyNow
  refine Dev.withFields_canon ?_ ?_
  · exact h1
  · intro x0 hx1
    split
    · exact Dev.fail_canon hx1
    · extract_lets +onlyGivenNames -merge -useContext y2 y3 y4 y5
      exact Dev.opStart_canon hx1

theorem Dev.keyInfoNow_canon {a1 a2} (h1 : Canon a1) : Canon (Dev.keyInfoNow a1 a2) := by
  unfold Dev.keyInfoNow
  refine Dev.withFields_canon ?_ ?_
  · exact h1
  · intro x0 hx1
    split
    · exact Dev.fail_canon hx1
    · extract_lets +onlyGivenNames -merge -useContext y2
      exact Dev.okRes_canon hx1

theorem Dev.keyListNow_canon {a1 a2} (h1 : Canon a1) : Canon (Dev.keyListNow a1 a2) := by
  unfold Dev.keyListNow
  refine Dev.withFields_canon ?_ ?_
  · exact h1
  · intro x0 hx1
    refine canon_ite ?_ ?_
    · exact Dev.fail_canon hx1
    · extract_lets +onlyGivenNames -merge -useContext y2 y3 y4 y5
      exact Dev.finish_canon hx1

theorem Dev.keySuccessorNow_canon {a1 a2} (h1 : Canon a1) : Canon (Dev.keySuccessorNow a1 a2) := by
  unfold Dev.keySuccessorNow
  refine Dev.withFields_canon ?_ ?_
  · exact h1
  · intro x0 hx1
    extract_lets +onlyGivenNames -merge -useContext y2 y3 y4
    refine canon_ite ?_ ?_
    · exact Dev.fail_canon hx1
    · refine canon_ite ?_ ?_
      · exact Dev.fail_canon hx1
      · refine canon_ite ?_ ?_
        · exact Dev.fail_canon hx1
        · extract_lets +onlyGivenNames -merge -useContext y5
          refine canon_ite ?_ ?_
          · exact Dev.fail_canon hx1
          · extract_lets +onlyGivenNames -merge -useContext y6 y7 y8 y9 e10
            have he10 : Canon e10 := canon_upd hx1
            clear_value e10
            exact Dev.okRes_canon (canon_ite (Dev.keyEvent_canon he10) (Dev.keyEvent_canon he10))

theorem Dev.keyRootWrapNow_canon {a1 a2} (h1 : Canon a1) : Canon (Dev.keyRootWrapNow a1 a2) := by
  unfold Dev.keyRootWrapNow
  refine Dev.withFields_canon ?_ ?_
  · exact h1
  · intro x0 hx1
    refine canon_ite ?_ ?_
    · exact Dev.fail_canon hx1
    · split
      · refine canon_ite ?_ ?_
        · exact Dev.fail_canon hx1
        · refine canon_ite ?_ ?_
          · exact Dev.fail_canon hx1
          · extract_lets +onlyGivenNames -merge -useContext y2 y3 y4 e5
            have he5 : Canon e5 := Dev.bump_canon hx1
            clear_value e5
            exact Dev.finish_canon he5
      · exact Dev.fail_canon hx1

theorem Dev.keyInitNow_canon {a1 a2} (h1 : Canon a1) : Canon (Dev.keyInitNow a1 a2) := by
  unfold Dev.keyInitNow
  refine Dev.withFields_canon ?_ ?_
  · exact h1
  · intro x0 hx1
    refine canon_ite ?_ ?_
    · exact Dev.fail_canon hx1
    · refine canon_ite ?_ ?_
      · exact Dev.fail_canon hx1
      · extract_lets +onlyGivenNames -merge -useContext e2
        have he2 : Canon e2 := Dev.tamperLog_canon (Dev.drawn_canon hx1)
        clear_value e2
        exact Dev.opStart_canon he2

theorem Dev.keyZeroiseNow_canon {a1 a2} (h1 : Canon a1) : Canon (Dev.keyZeroiseNow a1 a2) := by
  unfold Dev.keyZeroiseNow
  refine Dev.withFields_canon ?_ ?_
  · exact h1
  · intro x0 hx1
    exact canon_ite (Dev.fail_canon hx1) (Dev.okRes_canon (Dev.zeroiseCmd_canon hx1))

theorem Dev.keyNow_canon {a1 a2 a3} (h1 : Canon a1) : Canon (Dev.keyNow a1 a2 a3) := by
  unfold Dev.keyNow
  split
  · exact Dev.keyImportNow_canon h1
  · exact Dev.keyStageNow_canon h1
  · exact Dev.keyCommitNow_canon h1
  · exact Dev.keyAbandonNow_canon h1
  · exact Dev.keyDestroyNow_canon h1
  · exact Dev.keyInfoNow_canon h1
  · exact Dev.keyListNow_canon h1
  · exact Dev.keySuccessorNow_canon h1
  · exact Dev.keyRootWrapNow_canon h1
  · exact Dev.keyInitNow_canon h1
  · exact Dev.keyZeroiseNow_canon h1

theorem Dev.keyArrive_canon {a1 a2 a3} (h1 : Canon a1) : Canon (Dev.keyArrive a1 a2 a3) := by
  unfold Dev.keyArrive
  extract_lets +onlyGivenNames -merge -useContext y0
  exact canon_ite (Dev.fail_canon h1) (canon_ite (canon_upd h1) (canon_ite (Dev.fail_canon h1) (Dev.keyNow_canon h1)))

theorem Dev.keyNext_canon {a1} (h1 : Canon a1) : Canon (Dev.keyNext a1) := by
  unfold Dev.keyNext
  refine canon_foldN ?_ ?_
  · exact h1
  · intro x0 x1 hx2
    refine canon_ite ?_ ?_
    · exact hx2
    · split
      · exact hx2
      · exact Dev.keyArrive_canon (canon_upd hx2)

theorem Dev.keyRequest_canon {a1 a2} (h1 : Canon a1) : Canon (Dev.keyRequest a1 a2) := by
  unfold Dev.keyRequest
  exact Dev.keyAnswer_canon h1

theorem Dev.nvmProgramDone_canon {a1 a2} (h1 : Canon a1) : Canon (Dev.nvmProgramDone a1 a2) := by
  unfold Dev.nvmProgramDone
  split
  · exact h1
  · refine canon_ite ?_ ?_
    · extract_lets +onlyGivenNames -merge -useContext e0
      have he0 : Canon e0 := Dev.trouble_canon (Dev.raise_canon (Dev.setF_canon h1))
      clear_value e0
      extract_lets +onlyGivenNames -merge -useContext e1
      have he1 : Canon e1 := by
        unfold e1
        split
        · exact he0
        · exact Dev.blankSlot_canon he0
      clear_value e1
      exact Dev.keyNext_canon (Dev.opEnd_canon (Dev.drawn_canon he1))
    · split
      · exact Dev.keyNext_canon (Dev.opDone_canon h1)
      · extract_lets +onlyGivenNames -merge -useContext y2 y3 y4 e5
        have he5 : Canon e5 := by
          unfold e5
          split
          · exact Dev.slotWordPut_canon h1
          · exact canon_upd h1
          · exact canon_upd h1
          · exact canon_upd h1
        clear_value e5
        extract_lets +onlyGivenNames -merge -useContext y6 e7
        have he7 : Canon e7 := canon_ite he5 (canon_ite (Dev.commitPoint_canon he5) (Dev.destroyPoint_canon he5))
        clear_value e7
        extract_lets +onlyGivenNames -merge -useContext y8
        exact canon_ite (Dev.keyNext_canon (Dev.opDone_canon he7)) (Dev.opStart_canon he7)

theorem Dev.keyImport_canon {a1 a2} (h1 : Canon a1) : Canon (Dev.keyImport a1 a2) := by
  unfold Dev.keyImport
  exact Dev.keyArrive_canon h1

theorem Dev.keyStage_canon {a1 a2} (h1 : Canon a1) : Canon (Dev.keyStage a1 a2) := by
  unfold Dev.keyStage
  exact Dev.keyArrive_canon h1

theorem Dev.keyCommit_canon {a1 a2} (h1 : Canon a1) : Canon (Dev.keyCommit a1 a2) := by
  unfold Dev.keyCommit
  exact Dev.keyArrive_canon h1

theorem Dev.keyAbandon_canon {a1 a2} (h1 : Canon a1) : Canon (Dev.keyAbandon a1 a2) := by
  unfold Dev.keyAbandon
  exact Dev.keyArrive_canon h1

theorem Dev.keyDestroy_canon {a1 a2} (h1 : Canon a1) : Canon (Dev.keyDestroy a1 a2) := by
  unfold Dev.keyDestroy
  exact Dev.keyArrive_canon h1

theorem Dev.keyInfo_canon {a1 a2} (h1 : Canon a1) : Canon (Dev.keyInfo a1 a2) := by
  unfold Dev.keyInfo
  exact Dev.keyArrive_canon h1

theorem Dev.keyList_canon {a1 a2} (h1 : Canon a1) : Canon (Dev.keyList a1 a2) := by
  unfold Dev.keyList
  exact Dev.keyArrive_canon h1

theorem Dev.keySuccessor_canon {a1 a2} (h1 : Canon a1) : Canon (Dev.keySuccessor a1 a2) := by
  unfold Dev.keySuccessor
  exact Dev.keyArrive_canon h1

theorem Dev.keyRootWrap_canon {a1 a2} (h1 : Canon a1) : Canon (Dev.keyRootWrap a1 a2) := by
  unfold Dev.keyRootWrap
  exact Dev.keyArrive_canon h1

theorem Dev.keyInit_canon {a1 a2} (h1 : Canon a1) : Canon (Dev.keyInit a1 a2) := by
  unfold Dev.keyInit
  exact Dev.keyArrive_canon h1

theorem Dev.keyZeroise_canon {a1 a2} (h1 : Canon a1) : Canon (Dev.keyZeroise a1 a2) := by
  unfold Dev.keyZeroise
  exact Dev.keyNext_canon (Dev.keyArrive_canon h1)

theorem Dev.pavUnlock_canon {a1} (h1 : Canon a1) : Canon (Dev.pavUnlock a1) := by
  unfold Dev.pavUnlock
  exact canon_ite (Dev.raise_canon h1) (Dev.setF_canon (Dev.setF_canon h1))

theorem Dev.unlockStore_canon {a1} (h1 : Canon a1) : Canon (Dev.unlockStore a1) := by
  unfold Dev.unlockStore
  extract_lets +onlyGivenNames -merge -useContext y0 y1 y2 y3 y4 y5 y6 e7
  have he7 : Canon e7 := canon_upd h1
  clear_value e7
  extract_lets +onlyGivenNames -merge -useContext e8
  have he8 : Canon e8 := by
    unfold e8
    refine canon_foldl ?_ ?_
    · exact he7
    · intro x9 x10 hx11
      exact Dev.putKey_canon hx11
  clear_value e8
  extract_lets +onlyGivenNames -merge -useContext e12
  have he12 : Canon e12 := Dev.wr_canon he8
  clear_value e12
  extract_lets +onlyGivenNames -merge -useContext e13
  have he13 : Canon e13 := canon_ite he12 (Dev.raise_canon he12)
  clear_value e13
  extract_lets +onlyGivenNames -merge -useContext e14
  have he14 : Canon e14 := by
    unfold e14
    refine canon_foldl ?_ ?_
    · exact he13
    · intro x15 x16 hx17
      exact Dev.trouble_canon hx17
  clear_value e14
  extract_lets +onlyGivenNames -merge -useContext e18
  have he18 : Canon e18 := canon_ite (Dev.raise_canon he14) he14
  clear_value e18
  exact Dev.pavShow_canon (Dev.setF_canon he18)

theorem Dev.pavUnlockDone_canon {a1} (h1 : Canon a1) : Canon (Dev.pavUnlockDone a1) := by
  unfold Dev.pavUnlockDone
  refine canon_ite ?_ ?_
  · exact h1
  · extract_lets +onlyGivenNames -merge -useContext e0
    have he0 : Canon e0 := Dev.clrF_canon (Dev.clrF_canon h1)
    clear_value e0
    extract_lets +onlyGivenNames -merge -useContext e1
    have he1 : Canon e1 := by
      unfold e1
      split
      · exact he0
      · exact canon_ite he0 (canon_ite (Dev.setF_canon he0) (Dev.unlockStore_canon (Dev.clrF_canon he0)))
    clear_value e1
    exact Dev.keyNext_canon (Dev.reqsGo_canon (Dev.raise_canon he1))

theorem Dev.tamperSettle_canon {a1} (h1 : Canon a1) : Canon (Dev.tamperSettle a1) := by
  unfold Dev.tamperSettle
  extract_lets +onlyGivenNames -merge -useContext y0
  exact canon_ite h1 (Dev.drawn_canon (Dev.wr_canon h1))

theorem Dev.pavLock_canon {a1} (h1 : Canon a1) : Canon (Dev.pavLock a1) := by
  unfold Dev.pavLock
  exact Dev.pavLockStore_canon h1

theorem Dev.pavCacheFlush_canon {a1} (h1 : Canon a1) : Canon (Dev.pavCacheFlush a1) := by
  unfold Dev.pavCacheFlush
  exact canon_upd h1

theorem Dev.pavKat_canon {a1 a2} (h1 : Canon a1) : Canon (Dev.pavKat a1 a2) := by
  unfold Dev.pavKat
  exact canon_ite (Dev.clrF_canon h1) (Dev.trouble_canon (Dev.setF_canon h1))

theorem Dev.pavKatNow_canon {a1 a2} (h1 : Canon a1) : Canon (Dev.pavKatNow a1 a2) := by
  unfold Dev.pavKatNow
  exact Dev.pavKat_canon h1

theorem Dev.tamperTrip_canon {a1 a2 a3 a4} (h1 : Canon a1) : Canon (Dev.tamperTrip a1 a2 a3 a4) := by
  unfold Dev.tamperTrip
  extract_lets +onlyGivenNames -merge -useContext y0
  refine canon_ite ?_ ?_
  · exact h1
  · extract_lets +onlyGivenNames -merge -useContext e1
    have he1 : Canon e1 := Dev.wrBit_canon (Dev.wrBit_canon h1)
    clear_value e1
    extract_lets +onlyGivenNames -merge -useContext y2 y3 e4
    have he4 : Canon e4 := Dev.tamperLog_canon he1
    clear_value e4
    extract_lets +onlyGivenNames -merge -useContext e5
    have he5 : Canon e5 := Dev.opTamper_canon he4
    clear_value e5
    extract_lets +onlyGivenNames -merge -useContext e6
    have he6 : Canon e6 := canon_ite (Dev.setF_canon he5) he5
    clear_value e6
    extract_lets +onlyGivenNames -merge -useContext y7 e8
    have he8 : Canon e8 := canon_ite (canon_ite (canon_upd he6) (Dev.raise_canon he6)) (Dev.zeroise_canon he6)
    clear_value e8
    exact Dev.keyNext_canon he8

theorem Dev.tamperArm_canon {a1} (h1 : Canon a1) : Canon (Dev.tamperArm a1) := by
  unfold Dev.tamperArm
  extract_lets +onlyGivenNames -merge -useContext e0
  have he0 : Canon e0 := Dev.commitRwl_canon (Dev.setF_canon h1)
  clear_value e0
  extract_lets +onlyGivenNames -merge -useContext y1
  clear_value y1
  split
  · exact he0
  · exact Dev.keyNext_canon (Dev.zeroise_canon (Dev.opTamper_canon (Dev.tamperLog_canon he0)))

theorem Dev.zeroiseNow_canon {a1} (h1 : Canon a1) : Canon (Dev.zeroiseNow a1) := by
  unfold Dev.zeroiseNow
  exact Dev.keyNext_canon (Dev.zeroiseCmd_canon h1)

theorem Dev.tamperLogClear_canon {a1} (h1 : Canon a1) : Canon (Dev.tamperLogClear a1) := by
  unfold Dev.tamperLogClear
  exact Dev.wr_canon (canon_upd h1)

end Sys2Proof.Machine
end

