-- ==== Sys2Proof/Laws/CanonTsu.lean ====
section
/-! SUPPORT. Every operation of Machine/Tsu.lean that answers a device keeps the stored data in canonical form. -/

namespace Sys2Proof.Machine

theorem Dev.convert_canon {a1 a2} (h1 : Canon a1) : Canon1 (Dev.convert a1 a2) := by
  unfold Dev.convert
  extract_lets +onlyGivenNames -merge -useContext y0
  exact canon_mk1 (canon_ite h1 (Dev.bump_canon h1))

theorem Dev.evtShow_canon {a1} (h1 : Canon a1) : Canon (Dev.evtShow a1) := by
  unfold Dev.evtShow
  extract_lets +onlyGivenNames -merge -useContext y0
  refine canon_foldN ?_ ?_
  · exact h1
  · intro x1 x2 hx3
    exact Dev.wr_canon hx3

theorem Dev.timeEvent_canon {a1 a2 a3 a4} (h1 : Canon a1) : Canon (Dev.timeEvent a1 a2 a3 a4) := by
  unfold Dev.timeEvent
  extract_lets +onlyGivenNames -merge -useContext y0 y1 y2 y3 e4
  have he4 : Canon e4 := canon_upd h1
  clear_value e4
  exact Dev.evtShow_canon (Dev.fifoPush_canon he4)

theorem Dev.newSegAt_canon {a1 a2 a3} (h1 : Canon a1) : Canon (Dev.newSegAt a1 a2 a3) := by
  unfold Dev.newSegAt
  extract_lets +onlyGivenNames -merge -useContext y0 y1
  exact canon_upd h1

theorem Dev.newSeg_canon {a1 a2} (h1 : Canon a1) : Canon (Dev.newSeg a1 a2) := by
  unfold Dev.newSeg
  exact Dev.newSegAt_canon h1

theorem Dev.setPulse_canon {a1 a2 a3} (h1 : Canon a1) : Canon (Dev.setPulse a1 a2 a3) := by
  unfold Dev.setPulse
  exact canon_upd h1

theorem Dev.pulseSkip_canon {a1 a2 a3} (h1 : Canon a1) : Canon (Dev.pulseSkip a1 a2 a3) := by
  unfold Dev.pulseSkip
  refine canon_ite ?_ ?_
  · exact h1
  · extract_lets +onlyGivenNames -merge -useContext y0 y1
    refine canon_ite ?_ ?_
    · exact h1
    · refine canon_ite ?_ ?_
      · exact Dev.clrF_canon (Dev.bump_canon h1)
      · extract_lets +onlyGivenNames -merge -useContext y2
        exact Dev.bump_canon (Dev.setPulse_canon h1)

theorem Dev.slewForget_canon {a1} (h1 : Canon a1) : Canon (Dev.slewForget a1) := by
  unfold Dev.slewForget
  extract_lets +onlyGivenNames -merge -useContext y0 y1 e2
  have he2 : Canon e2 := Dev.clrF_canon (Dev.clrF_canon (canon_upd h1))
  clear_value e2
  clear_value y0
  split
  · exact he2
  · exact Dev.okRes_canon he2

theorem Dev.applyStep_canon {a1 a2} (h1 : Canon a1) : Canon (Dev.applyStep a1 a2) := by
  unfold Dev.applyStep
  extract_lets +onlyGivenNames -merge -useContext e0
  have he0 : Canon e0 := Dev.newSeg_canon h1
  clear_value e0
  extract_lets +onlyGivenNames -merge -useContext e1
  have he1 : Canon e1 := Dev.raise_canon (Dev.bump_canon he0)
  clear_value e1
  extract_lets +onlyGivenNames -merge -useContext e2
  have he2 : Canon e2 := Dev.timeEvent_canon he1
  clear_value e2
  refine canon_ite ?_ ?_
  · refine canon_foldN ?_ ?_
    · exact he2
    · intro x3 x4 hx5
      exact Dev.pulseSkip_canon hx5
  · exact he2

theorem Dev.handover_canon {a1} (h1 : Canon a1) : Canon (Dev.handover a1) := by
  unfold Dev.handover
  extract_lets +onlyGivenNames -merge -useContext y0
  refine canon_ite ?_ ?_
  · exact h1
  · extract_lets +onlyGivenNames -merge -useContext y1 y2 e3
    have he3 : Canon e3 := canon_ite (Dev.applyStep_canon (Dev.slewForget_canon h1)) h1
    clear_value e3
    extract_lets +onlyGivenNames -merge -useContext y4 y5 e6
    have he6 : Canon e6 := canon_ite (Dev.newSeg_canon he3) (Dev.newSeg_canon (Dev.wr_canon he3))
    clear_value e6
    extract_lets +onlyGivenNames -merge -useContext e7
    have he7 : Canon e7 := Dev.clrF_canon (Dev.setF_canon (Dev.flag_canon he6))
    clear_value e7
    exact Dev.timeEvent_canon (Dev.raise_canon he7)

theorem Dev.nscIncrWritten_canon {a1} (h1 : Canon a1) : Canon (Dev.nscIncrWritten a1) := by
  unfold Dev.nscIncrWritten
  exact canon_ite h1 (Dev.newSeg_canon h1)

theorem Dev.tsuStart_canon {a1} (h1 : Canon a1) : Canon (Dev.tsuStart a1) := by
  unfold Dev.tsuStart
  extract_lets u v b e3 e4
  have he3 : Canon e3 := canon_upd h1
  have he4 : Canon e4 := Dev.wr_canon he3
  exact canon_ite (Dev.timeEvent_canon he4) he4

theorem Dev.adjust_canon {a1 a2 a3 a4 a5 a6} (h1 : Canon a1) : Canon1 (Dev.adjust a1 a2 a3 a4 a5 a6) := by
  unfold Dev.adjust
  refine canon_ite1 ?_ ?_
  · exact canon_mk1 (Dev.setF_canon h1)
  · refine canon_ite1 ?_ ?_
    · extract_lets +onlyGivenNames -merge -useContext y0
      refine canon_ite1 ?_ ?_
      · exact canon_mk1 (Dev.setF_canon h1)
      · extract_lets +onlyGivenNames -merge -useContext y1 e2
        have he2 : Canon e2 := canon_ite (Dev.wr_canon h1) h1
        clear_value e2
        exact canon_mk1 (Dev.applyStep_canon he2)
    · refine canon_ite1 ?_ ?_
      · refine canon_ite1 ?_ ?_
        · exact canon_mk1 (Dev.applyStep_canon h1)
        · extract_lets +onlyGivenNames -merge -useContext y3 y4 y5 e6
          have he6 : Canon e6 := canon_upd h1
          clear_value e6
          extract_lets +onlyGivenNames -merge -useContext e7
          have he7 : Canon e7 := Dev.setF_canon (Dev.newSeg_canon he6)
          clear_value e7
          exact canon_mk1 he7
      · exact canon_mk1 (Dev.applyStep_canon h1)

theorem Dev.adjReg_canon {a1 a2} (h1 : Canon a1) : Canon (Dev.adjReg a1 a2) := by
  unfold Dev.adjReg
  extract_lets +onlyGivenNames -merge -useContext y0
  have hy0 : Canon1 y0 := Dev.adjust_canon h1
  clear_value y0
  exact canon_ite (Dev.setF_canon (Canon1.fst hy0)) (Canon1.fst hy0)

theorem Dev.tsuSchemeWrite_canon {a1 a2} (h1 : Canon a1) : Canon (Dev.tsuSchemeWrite a1 a2) := by
  unfold Dev.tsuSchemeWrite
  exact Dev.handover_canon (Dev.flag_canon h1)

theorem Dev.tsuRateWrite_canon {a1 a2} (h1 : Canon a1) : Canon (Dev.tsuRateWrite a1 a2) := by
  unfold Dev.tsuRateWrite
  refine canon_ite ?_ ?_
  · exact Dev.setF_canon h1
  · extract_lets +onlyGivenNames -merge -useContext e0
    have he0 : Canon e0 := Dev.wr_canon h1
    clear_value e0
    extract_lets +onlyGivenNames -merge -useContext y1 y2
    exact Dev.timeEvent_canon (Dev.newSeg_canon he0)

theorem Dev.tsuAdjStep_canon {a1} (h1 : Canon a1) : Canon (Dev.tsuAdjStep a1) := by
  unfold Dev.tsuAdjStep
  exact Dev.adjReg_canon h1

theorem Dev.tsuAdjSlew_canon {a1} (h1 : Canon a1) : Canon (Dev.tsuAdjSlew a1) := by
  unfold Dev.tsuAdjSlew
  exact Dev.adjReg_canon h1

theorem Dev.tsuAdjSet_canon {a1} (h1 : Canon a1) : Canon (Dev.tsuAdjSet a1) := by
  unfold Dev.tsuAdjSet
  exact Dev.adjReg_canon h1

theorem Dev.slewEnd_canon {a1} (h1 : Canon a1) : Canon (Dev.slewEnd a1) := by
  unfold Dev.slewEnd
  split
  · exact h1
  · extract_lets +onlyGivenNames -merge -useContext y0
    refine canon_ite ?_ ?_
    · exact h1
    · extract_lets +onlyGivenNames -merge -useContext y1 y2 y3 y4 y5 y6 e7
      have he7 : Canon e7 := canon_upd h1
      clear_value e7
      extract_lets +onlyGivenNames -merge -useContext y8 e9
      have he9 : Canon e9 := Dev.newSegAt_canon he7
      clear_value e9
      extract_lets +onlyGivenNames -merge -useContext e10
      have he10 : Canon e10 := Dev.clrF_canon (Dev.clrF_canon he9)
      clear_value e10
      extract_lets +onlyGivenNames -merge -useContext e11
      have he11 : Canon e11 := Dev.timeEvent_canon (Dev.raise_canon he10)
      clear_value e11
      split
      · exact he11
      · exact Dev.okRes_canon he11

theorem Dev.servoRate_canon {a1 a2} (h1 : Canon a1) : Canon (Dev.servoRate a1 a2) := by
  unfold Dev.servoRate
  extract_lets +onlyGivenNames -merge -useContext y0 y1 y2 e3
  have he3 : Canon e3 := canon_ite (Dev.raise_canon (Dev.setF_canon h1)) h1
  clear_value e3
  extract_lets +onlyGivenNames -merge -useContext e4
  have he4 : Canon e4 := Dev.wr_canon he3
  clear_value e4
  extract_lets +onlyGivenNames -merge -useContext y5
  exact Dev.newSeg_canon he4

theorem Dev.servoStep_canon {a1 a2} (h1 : Canon a1) : Canon (Dev.servoStep a1 a2) := by
  unfold Dev.servoStep
  exact Dev.applyStep_canon (canon_ite (Dev.slewForget_canon h1) h1)

theorem Dev.servo_canon {a1 a2 a3} (h1 : Canon a1) : Canon1 (Dev.servo a1 a2 a3) := by
  unfold Dev.servo
  extract_lets +onlyGivenNames -merge -useContext y0 y1
  refine canon_ite1 ?_ ?_
  · split
    · exact canon_mk1 h1
    · extract_lets +onlyGivenNames -merge -useContext y2 y3 e4
      have he4 : Canon e4 := Dev.clrF_canon (canon_upd h1)
      clear_value e4
      extract_lets +onlyGivenNames -merge -useContext e5
      have he5 : Canon e5 := Dev.servoRate_canon he4
      clear_value e5
      exact canon_ite1 (canon_mk1 (Dev.servoStep_canon he5)) (canon_mk1 he5)
  · refine canon_ite1 ?_ ?_
    · exact canon_mk1 (Dev.servoStep_canon h1)
    · extract_lets +onlyGivenNames -merge -useContext y6 y7 e8
      have he8 : Canon e8 := canon_upd h1
      clear_value e8
      exact canon_mk1 (Dev.servoRate_canon he8)

theorem Dev.lockTrack_canon {a1 a2} (h1 : Canon a1) : Canon (Dev.lockTrack a1 a2) := by
  unfold Dev.lockTrack
  refine canon_ite ?_ ?_
  · extract_lets +onlyGivenNames -merge -useContext y0 e1
    have he1 : Canon e1 := Dev.wr_canon h1
    clear_value e1
    exact canon_ite (Dev.timeEvent_canon (Dev.raise_canon (Dev.wr_canon he1))) he1
  · extract_lets +onlyGivenNames -merge -useContext e2
    have he2 : Canon e2 := Dev.wr_canon h1
    clear_value e2
    exact canon_ite (Dev.timeEvent_canon (Dev.raise_canon (Dev.wr_canon he2))) he2

theorem Dev.ppsEdge_canon {a1 a2} (h1 : Canon a1) : Canon (Dev.ppsEdge a1 a2) := by
  unfold Dev.ppsEdge
  refine canon_ite ?_ ?_
  · exact h1
  · extract_lets +onlyGivenNames -merge -useContext y0 y1 y2 y3 y4 e5
    have he5 : Canon e5 := Dev.fifoPop_canon (Dev.fifoPush_canon h1)
    clear_value e5
    refine canon_ite ?_ ?_
    · exact Dev.bump_canon he5
    · extract_lets +onlyGivenNames -merge -useContext e6
      have he6 : Canon e6 := canon_ite (Dev.raise_canon (Dev.wr_canon he5)) he5
      clear_value e6
      extract_lets +onlyGivenNames -merge -useContext y7 y8 y9 e10
      have he10 : Canon e10 := canon_upd he6
      clear_value e10
      extract_lets +onlyGivenNames -merge -useContext e11
      have he11 : Canon e11 := Dev.sample_canon (Dev.wr_canon (Dev.wr_canon he10))
      clear_value e11
      extract_lets +onlyGivenNames -merge -useContext y12 y13
      have hy13 : Canon1 y13 := canon_ite1 (Dev.servo_canon he11) (canon_mk1 he11)
      clear_value y13
      extract_lets +onlyGivenNames -merge -useContext e14
      have he14 : Canon e14 := canon_ite (Dev.lockTrack_canon (Canon1.fst hy13)) (Canon1.fst hy13)
      clear_value e14
      exact Dev.raise_canon (Dev.timeEvent_canon he14)

theorem Dev.ppsHoldover_canon {a1} (h1 : Canon a1) : Canon (Dev.ppsHoldover a1) := by
  unfold Dev.ppsHoldover
  refine canon_ite ?_ ?_
  · extract_lets +onlyGivenNames -merge -useContext y0 e1
    have he1 : Canon e1 := canon_upd h1
    clear_value e1
    extract_lets +onlyGivenNames -merge -useContext e2
    have he2 : Canon e2 := Dev.wr_canon (Dev.setF_canon (Dev.wr_canon he1))
    clear_value e2
    exact Dev.timeEvent_canon (Dev.raise_canon he2)
  · exact h1

theorem Dev.rtcSet_canon {a1 a2} (h1 : Canon a1) : Canon (Dev.rtcSet a1 a2) := by
  unfold Dev.rtcSet
  exact Dev.setF_canon (canon_upd h1)

theorem Dev.rtcSecondSync_canon {a1} (h1 : Canon a1) : Canon (Dev.rtcSecondSync a1) := by
  unfold Dev.rtcSecondSync
  exact canon_ite (Dev.rtcSet_canon h1) h1

theorem Dev.rtcSecWrite_canon {a1 a2} (h1 : Canon a1) : Canon (Dev.rtcSecWrite a1 a2) := by
  unfold Dev.rtcSecWrite
  exact Dev.rtcSet_canon h1

theorem Dev.pulseDrive_canon {a1 a2 a3} (h1 : Canon a1) : Canon (Dev.pulseDrive a1 a2 a3) := by
  unfold Dev.pulseDrive
  exact Dev.emit_canon h1

theorem Dev.pulseArm_canon {a1 a2} (h1 : Canon a1) : Canon (Dev.pulseArm a1 a2) := by
  unfold Dev.pulseArm
  extract_lets +onlyGivenNames -merge -useContext y0 y1 y2
  refine canon_ite ?_ ?_
  · exact Dev.clrF_canon (Dev.setF_canon h1)
  · extract_lets +onlyGivenNames -merge -useContext y3 y4
    refine canon_ite ?_ ?_
    · exact Dev.clrF_canon (Dev.setF_canon h1)
    · extract_lets +onlyGivenNames -merge -useContext y5
      exact Dev.setF_canon (Dev.setPulse_canon h1)

theorem Dev.pulseLeadingEdge_canon {a1 a2} (h1 : Canon a1) : Canon (Dev.pulseLeadingEdge a1 a2) := by
  unfold Dev.pulseLeadingEdge
  extract_lets +onlyGivenNames -merge -useContext y0
  refine canon_ite ?_ ?_
  · extract_lets +onlyGivenNames -merge -useContext y1 e2
    have he2 : Canon e2 := Dev.setPulse_canon h1
    clear_value e2
    extract_lets +onlyGivenNames -merge -useContext e3
    have he3 : Canon e3 := canon_ite (Dev.clrF_canon he2) he2
    clear_value e3
    extract_lets +onlyGivenNames -merge -useContext e4
    have he4 : Canon e4 := Dev.pulseDrive_canon he3
    clear_value e4
    exact canon_ite (Dev.raise_canon (Dev.timeEvent_canon he4)) he4
  · exact h1

theorem Dev.pulseTrailingEdge_canon {a1 a2} (h1 : Canon a1) : Canon (Dev.pulseTrailingEdge a1 a2) := by
  unfold Dev.pulseTrailingEdge
  extract_lets +onlyGivenNames -merge -useContext y0
  split
  · exact h1
  · exact canon_ite (Dev.pulseDrive_canon (Dev.setPulse_canon h1)) h1

theorem Dev.teBuf_canon {a1 a2} (h1 : Canon a1) : Canon (Dev.teBuf a1 a2) := by
  unfold Dev.teBuf
  split
  · exact Dev.fail_canon h1
  · refine Dev.withFields_canon ?_ ?_
    · exact h1
    · intro x0 hx1
      refine canon_ite ?_ ?_
      · extract_lets +onlyGivenNames -merge -useContext y2
        exact Dev.setPair_canon hx1
      · exact Dev.fail_canon hx1

theorem Dev.teAdj_canon {a1 a2} (h1 : Canon a1) : Canon (Dev.teAdj a1 a2) := by
  unfold Dev.teAdj
  refine Dev.withFields_canon ?_ ?_
  · exact h1
  · intro x0 hx1
    refine canon_ite ?_ ?_
    · exact Dev.fail_canon hx1
    · extract_lets +onlyGivenNames -merge -useContext y2
      have hy2 : Canon1 y2 := Dev.adjust_canon hx1
      clear_value y2
      split
      · exact Dev.okRes_canon (Canon1.fst hy2)
      · exact Canon1.fst hy2
      · exact Dev.fail_canon (Canon1.fst hy2)
      · exact Dev.fail_canon (Canon1.fst hy2)
      · exact Dev.finish_canon (Canon1.fst hy2)

theorem Dev.timeEventDeliver_canon {a1} (h1 : Canon a1) : Canon (Dev.timeEventDeliver a1) := by
  unfold Dev.timeEventDeliver
  split
  · split
    · exact h1
    · refine canon_ite ?_ ?_
      · exact h1
      · extract_lets +onlyGivenNames -merge -useContext y0 y1 y2 y3 y4 e5
        have he5 : Canon e5 := Dev.setPair_canon h1
        clear_value e5
        extract_lets +onlyGivenNames -merge -useContext y6 e7
        have he7 : Canon e7 := Dev.evtShow_canon (Dev.fifoPop_canon (canon_upd he5))
        clear_value e7
        extract_lets +onlyGivenNames -merge -useContext y8 e9
        have he9 : Canon e9 := canon_ite (Dev.setPair_canon he7) he7
        clear_value e9
        exact Dev.queueCpl_canon he9
  · exact h1

theorem Dev.tsuNowRead_canon {a1 a2} (h1 : Canon a1) : Canon (Dev.tsuNowRead a1 a2) := by
  unfold Dev.tsuNowRead
  extract_lets +onlyGivenNames -merge -useContext y0 y1 y2 e3
  have he3 : Canon e3 := canon_upd h1
  clear_value e3
  exact Dev.emit_canon he3

theorem Dev.tsuConvWrite_canon {a1 a2 a3} (h1 : Canon a1) : Canon (Dev.tsuConvWrite a1 a2 a3) := by
  unfold Dev.tsuConvWrite
  extract_lets +onlyGivenNames -merge -useContext e0
  have he0 : Canon e0 := Dev.wr_canon h1
  clear_value e0
  extract_lets +onlyGivenNames -merge -useContext y1
  have hy1 : Canon1 y1 := Dev.convert_canon he0
  clear_value y1
  extract_lets +onlyGivenNames -merge -useContext y2 y3 e4
  have he4 : Canon e4 := Canon1.fst hy1
  clear_value e4
  extract_lets +onlyGivenNames -merge -useContext y5 e6
  have he6 : Canon e6 := canon_upd he4
  clear_value e6
  exact Dev.wr_canon (Dev.wr_canon he6)

theorem Dev.tsuEvtPop_canon {a1} (h1 : Canon a1) : Canon (Dev.tsuEvtPop a1) := by
  unfold Dev.tsuEvtPop
  exact Dev.evtShow_canon (Dev.fifoPop_canon h1)

end Sys2Proof.Machine
end

