-- ==== Sys2Proof/Laws/CanonRecord.lean ====
section
/-! SUPPORT. Every operation of Machine/Record.lean that answers a device keeps the stored data in canonical form. -/

namespace Sys2Proof.Machine

theorem Dev.msrLineIn_canon {a1 a2} (h1 : Canon a1) : Canon (Dev.msrLineIn a1 a2) := by
  unfold Dev.msrLineIn
  extract_lets +onlyGivenNames -merge -useContext y0 y1
  refine canon_ite ?_ ?_
  · exact canon_upd h1
  · split
    · exact canon_upd h1
    · extract_lets +onlyGivenNames -merge -useContext y2
      exact canon_upd h1

theorem Dev.msrPinned_canon {a1} (h1 : Canon a1) : Canon (Dev.msrPinned a1) := by
  unfold Dev.msrPinned
  refine canon_foldl ?_ ?_
  · exact h1
  · intro x0 x1 hx2
    exact canon_ite hx2 (Dev.msrLineIn_canon hx2)

theorem Dev.msrGet_canon {a1 a2} (h1 : Canon a1) : Canon1 (Dev.msrGet a1 a2) := by
  unfold Dev.msrGet
  split
  · exact canon_mk1 (Dev.bump_canon (Dev.msrLineIn_canon h1))
  · extract_lets +onlyGivenNames -merge -useContext e0
    have he0 : Canon e0 := Dev.bump_canon h1
    clear_value e0
    extract_lets +onlyGivenNames -merge -useContext y1
    refine canon_ite1 ?_ ?_
    · extract_lets +onlyGivenNames -merge -useContext e2
      have he2 : Canon e2 := Dev.wr_canon (Dev.bump_canon he0)
      clear_value e2
      exact canon_mk1 (Dev.raise_canon (Dev.setF_canon he2))
    · exact canon_mk1 (Dev.msrLineIn_canon he0)

theorem Dev.msrClean_canon {a1} (h1 : Canon a1) : Canon (Dev.msrClean a1) := by
  unfold Dev.msrClean
  extract_lets +onlyGivenNames -merge -useContext y0
  exact canon_upd h1

theorem Dev.msrCount_canon {a1 a2 a3} (h1 : Canon a1) : Canon (Dev.msrCount a1 a2 a3) := by
  unfold Dev.msrCount
  extract_lets +onlyGivenNames -merge -useContext y0 y1 e2
  have he2 : Canon e2 := canon_ite h1 (Dev.incr_canon (Dev.decr_canon h1))
  clear_value e2
  extract_lets +onlyGivenNames -merge -useContext e3
  have he3 : Canon e3 := Dev.wr_canon he2
  clear_value e3
  extract_lets +onlyGivenNames -merge -useContext e4
  have he4 : Canon e4 := by
    unfold e4
    refine canon_getD_map ?_ ?_
    · intro x5
      exact Dev.decr_canon he3
    · exact he3
  clear_value e4
  extract_lets +onlyGivenNames -merge -useContext e6
  have he6 : Canon e6 := by
    unfold e6
    refine canon_ite ?_ ?_
    · exact he3
    · refine canon_getD_map ?_ ?_
      · intro x7
        exact Dev.incr_canon he4
      · exact he4
  clear_value e6
  exact canon_ite he6 (canon_ite (Dev.incr_canon he6) (Dev.decr_canon he6))

theorem Dev.msrRecount_canon {a1} (h1 : Canon a1) : Canon (Dev.msrRecount a1) := by
  unfold Dev.msrRecount
  extract_lets +onlyGivenNames -merge -useContext y0 y1 e2
  have he2 : Canon e2 := by
    unfold e2
    refine canon_foldN ?_ ?_
    · exact h1
    · intro x3 x4 hx5
      exact Dev.wr_canon hx5
  clear_value e2
  extract_lets +onlyGivenNames -merge -useContext e6
  have he6 : Canon e6 := Dev.wr_canon he2
  clear_value e6
  extract_lets +onlyGivenNames -merge -useContext e7
  have he7 : Canon e7 := Dev.wr_canon he6
  clear_value e7
  extract_lets +onlyGivenNames -merge -useContext e8
  have he8 : Canon e8 := Dev.wr_canon he7
  clear_value e8
  refine canon_foldN ?_ ?_
  · exact he8
  · intro x9 x10 hx11
    exact Dev.wr_canon hx11

theorem Dev.mirrorRecord_canon {a1 a2 a3 a4 a5} (h1 : Canon a1) : Canon (Dev.mirrorRecord a1 a2 a3 a4 a5) := by
  unfold Dev.mirrorRecord
  extract_lets +onlyGivenNames -merge -useContext y0
  exact canon_ite h1 (Dev.eplMirror_canon h1)

theorem Dev.msrPut_canon {a1 a2 a3 a4} (h1 : Canon a1) : Canon (Dev.msrPut a1 a2 a3 a4) := by
  unfold Dev.msrPut
  extract_lets +onlyGivenNames -merge -useContext y0 y1 y2 e3
  have he3 : Canon e3 := Dev.msrLineIn_canon h1
  clear_value e3
  exact Dev.mirrorRecord_canon (canon_ite (Dev.msrRecount_canon he3) (Dev.msrCount_canon he3))

theorem Dev.idtSet_canon {a1 a2 a3 a4} (h1 : Canon a1) : Canon (Dev.idtSet a1 a2 a3 a4) := by
  unfold Dev.idtSet
  exact Dev.memWr_canon h1

theorem Dev.idtChain_canon {a1 a2 a3 a4 a5} (h1 : Canon a1) {v} (hv : Dev.idtChain a1 a2 a3 a4 a5 = some v) :
    Canon v := by
  induction a2 generalizing a1 a3 a4 a5 with
  | zero => simp [Dev.idtChain] at hv
  | succ k ih =>
    unfold Dev.idtChain at hv
    dsimp only at hv
    split at hv
    · rw [← Option.some.inj hv]
      exact Dev.idtSet_canon (Dev.idtSet_canon h1)
    · exact ih (Dev.idtSet_canon h1) hv

theorem Dev.idtInsert_canon {a1 a2 a3} (h1 : Canon a1) : Canon1 (Dev.idtInsert a1 a2 a3) := by
  unfold Dev.idtInsert
  extract_lets x y b
  generalize hr : a1.idtChain 16 0 x (mkIdt a2 a3) = r
  generalize a1.idtFreeSlot b = q
  cases q with
  | some s => exact canon_mk1 (Dev.idtSet_canon h1)
  | none =>
    cases r with
    | some e => exact canon_mk1 (Dev.idtChain_canon h1 hr)
    | none => exact canon_mk1 (Dev.setF_canon h1)

theorem Dev.idtRemove_canon {a1 a2} (h1 : Canon a1) : Canon (Dev.idtRemove a1 a2) := by
  unfold Dev.idtRemove
  split
  · exact h1
  · exact Dev.idtSet_canon h1

theorem Dev.idtPurge_canon {a1 a2} (h1 : Canon a1) : Canon (Dev.idtPurge a1 a2) := by
  unfold Dev.idtPurge
  refine canon_foldl ?_ ?_
  · exact h1
  · intro x0 x1 hx2
    extract_lets +onlyGivenNames -merge -useContext y3
    exact canon_ite (Dev.idtSet_canon hx2) hx2

theorem Dev.stgStall_canon {a1 a2} (h1 : Canon a1) : Canon (Dev.stgStall a1 a2) := by
  unfold Dev.stgStall
  extract_lets +onlyGivenNames -merge -useContext y0 e1
  have he1 : Canon e1 := canon_upd h1
  clear_value e1
  exact canon_ite (Dev.setF_canon he1) (Dev.setF_canon he1)

theorem Dev.stgResume_canon {a1} (h1 : Canon a1) : Canon (Dev.stgResume a1) := by
  unfold Dev.stgResume
  extract_lets +onlyGivenNames -merge -useContext e0
  have he0 : Canon e0 := Dev.bump_canon h1
  clear_value e0
  exact Dev.clrF_canon (Dev.clrF_canon (canon_upd he0))

theorem Dev.stgJournal_canon {a1} (h1 : Canon a1) : Canon (Dev.stgJournal a1) := by
  unfold Dev.stgJournal
  extract_lets +onlyGivenNames -merge -useContext y0
  exact canon_ite (canon_upd h1) h1

theorem Dev.stgTake_canon {a1} (h1 : Canon a1) : Canon1 (Dev.stgTake a1) := by
  unfold Dev.stgTake
  extract_lets +onlyGivenNames -merge -useContext y0
  exact canon_mk1 (Dev.stgJournal_canon (Dev.wr_canon (Dev.wr_canon h1)))

theorem Dev.stgWrite_canon {a1 a2} (h1 : Canon a1) : Canon (Dev.stgWrite a1 a2) := by
  unfold Dev.stgWrite
  exact Dev.memWrB_canon h1

theorem Dev.wlzAckShow_canon {a1} (h1 : Canon a1) : Canon (Dev.wlzAckShow a1) := by
  unfold Dev.wlzAckShow
  refine canon_ite ?_ ?_
  · exact h1
  · extract_lets +onlyGivenNames -merge -useContext y0 y1
    refine canon_ite ?_ ?_
    · extract_lets +onlyGivenNames -merge -useContext e2
      have he2 : Canon e2 := Dev.wr_canon h1
      clear_value e2
      exact canon_upd he2
    · exact h1

theorem Dev.stgPublish_canon {a1 a2} (h1 : Canon a1) : Canon (Dev.stgPublish a1 a2) := by
  unfold Dev.stgPublish
  exact Dev.wlzAckShow_canon (Dev.wr_canon h1)

theorem Dev.stateChange_canon {a1 a2 a3 a4 a5 a6 a7 a8} (h1 : Canon a1) : Canon (Dev.stateChange a1 a2 a3 a4 a5 a6 a7 a8) := by
  unfold Dev.stateChange
  split
  · rename_i v0 v1 heq2
    have hv0 : Canon v0 := by
      refine canon_fst_eq heq2 ?_
      exact Dev.stgTake_canon h1
    extract_lets +onlyGivenNames -merge -useContext y3 y4 y5 e6
    have he6 : Canon e6 := Dev.stgWrite_canon hv0
    clear_value e6
    extract_lets +onlyGivenNames -merge -useContext y7 e8
    have he8 : Canon e8 := Dev.stgPublish_canon (Dev.msrPut_canon he6)
    clear_value e8
    refine canon_getD_map ?_ ?_
    · intro x9
      exact Dev.raise_canon he8
    · exact he8

end Sys2Proof.Machine
end

