-- ==== Sys2Proof/Laws/CanonMsr.lean ====
section
/-! SUPPORT. Every operation of Machine/Msr.lean that answers a device keeps the stored data in canonical form. -/

namespace Sys2Proof.Machine

theorem Dev.msrEnable_canon {a1 a2} (h1 : Canon a1) : Canon (Dev.msrEnable a1 a2) := by
  unfold Dev.msrEnable
  extract_lets +onlyGivenNames -merge -useContext y0 e1
  have he1 : Canon e1 := Dev.regWrite32_canon h1
  clear_value e1
  refine canon_ite ?_ ?_
  · exact he1
  · refine canon_ite ?_ ?_
    · extract_lets +onlyGivenNames -merge -useContext e2
      have he2 : Canon e2 := Dev.commitRwl_canon he1
      clear_value e2
      exact canon_ite (Dev.msrRecount_canon (Dev.msrPinned_canon (Dev.setF_canon he2))) (Dev.setF_canon (Dev.clrF_canon he2))
    · exact Dev.setF_canon (Dev.clrF_canon he1)

theorem Dev.enqueue_canon {a1 a2} (h1 : Canon a1) : Canon (Dev.enqueue a1 a2) := by
  unfold Dev.enqueue
  exact canon_upd h1

theorem Dev.recEdit_canon {a1 a2 a3} (h1 : Canon a1) : Canon (Dev.recEdit a1 a2 a3) := by
  unfold Dev.recEdit
  exact canon_ite (Dev.enqueue_canon h1) (Dev.msrPut_canon h1)

theorem Dev.recAssign_canon {a1 a2 a3 a4} (h1 : Canon a1) : Canon (Dev.recAssign a1 a2 a3 a4) := by
  unfold Dev.recAssign
  refine canon_ite ?_ ?_
  · exact Dev.enqueue_canon h1
  · extract_lets +onlyGivenNames -merge -useContext e0
    have he0 : Canon e0 := Dev.msrPut_canon h1
    clear_value e0
    exact Dev.okRes_canon he0

theorem Dev.counterOnly_canon {a1 a2 a3} (h1 : Canon a1) : Canon (Dev.counterOnly a1 a2 a3) := by
  unfold Dev.counterOnly
  extract_lets +onlyGivenNames -merge -useContext y0
  refine canon_ite ?_ ?_
  · exact Dev.enqueue_canon h1
  · refine canon_ite ?_ ?_
    · extract_lets +onlyGivenNames -merge -useContext y1
      exact Dev.msrPut_canon h1
    · exact h1

theorem Dev.authFailed_canon {a1 a2 a3} (h1 : Canon a1) : Canon (Dev.authFailed a1 a2 a3) := by
  unfold Dev.authFailed
  extract_lets +onlyGivenNames -merge -useContext y0
  refine canon_ite ?_ ?_
  · exact Dev.enqueue_canon h1
  · refine canon_ite ?_ ?_
    · extract_lets +onlyGivenNames -merge -useContext y1 y2 y3
      refine canon_ite ?_ ?_
      · split
        · exact Dev.stateChange_canon h1
        · exact Dev.enqueue_canon (Dev.stgStall_canon h1)
      · exact Dev.msrPut_canon h1
    · exact h1

theorem Dev.tryChange_canon {a1 a2 a3 a4} (h1 : Canon a1) : Canon (Dev.tryChange a1 a2 a3 a4) := by
  unfold Dev.tryChange
  refine canon_ite ?_ ?_
  · exact Dev.enqueue_canon h1
  · extract_lets +onlyGivenNames -merge -useContext y0 y1 y2
    split
    · exact h1
    · split
      · exact Dev.stateChange_canon h1
      · exact Dev.enqueue_canon (Dev.stgStall_canon h1)

theorem Dev.attachLost_canon {a1 a2} (h1 : Canon a1) : Canon (Dev.attachLost a1 a2) := by
  unfold Dev.attachLost
  exact canon_ite (canon_upd h1) (Dev.tryChange_canon h1)

theorem Dev.applyLostHeld_canon {a1} (h1 : Canon a1) : Canon (Dev.applyLostHeld a1) := by
  unfold Dev.applyLostHeld
  extract_lets +onlyGivenNames -merge -useContext y0
  refine canon_foldl ?_ ?_
  · exact canon_upd h1
  · intro x1 x2 hx3
    exact Dev.tryChange_canon hx3

theorem Dev.channelRecords_canon {a1 a2 a3} (h1 : Canon a1) : Canon (Dev.channelRecords a1 a2 a3) := by
  unfold Dev.channelRecords
  extract_lets +onlyGivenNames -merge -useContext y0 y1 y2
  refine canon_foldl ?_ ?_
  · exact h1
  · intro x3 x4 hx5
    extract_lets +onlyGivenNames -merge -useContext y6
    exact canon_ite (Dev.tryChange_canon hx5) (Dev.tryChange_canon hx5)

theorem Dev.mtrServed_canon {a1 a2 a3 a4} (h1 : Canon a1) (h4 : ∀ w0, Canon w0 → Canon (a4 w0)) : Canon (Dev.mtrServed a1 a2 a3 a4) := by
  unfold Dev.mtrServed
  extract_lets +onlyGivenNames -merge -useContext y0
  refine canon_ite ?_ ?_
  · refine h4 _ ?_
    · exact h1
  · exact Dev.fail_canon h1

theorem Dev.mtrOn_canon {a1 a2 a3 a4 a5} (h1 : Canon a1) (h5 : ∀ w0 w1, Canon w0 → Canon (a5 w0 w1)) : Canon (Dev.mtrOn a1 a2 a3 a4 a5) := by
  unfold Dev.mtrOn
  split
  · rename_i v0 heq1
    have hv0 : Canon v0 := by
      refine canon_fst_eq heq1 ?_
      exact Dev.msrGet_canon h1
    exact Dev.finish_canon hv0
  · rename_i v2 v3 heq4
    have hv2 : Canon v2 := by
      refine canon_fst_eq heq4 ?_
      exact Dev.msrGet_canon h1
    refine canon_ite ?_ ?_
    · exact Dev.fail_canon hv2
    · refine h5 _ _ ?_
      · exact hv2

theorem Dev.mtrChange_canon {a1 a2 a3} (h1 : Canon a1) (h3 : ∀ w0, Canon w0 → Canon (a3 w0)) : Canon (Dev.mtrChange a1 a2 a3) := by
  unfold Dev.mtrChange
  split
  · refine h3 _ ?_
    · exact h1
  · exact Dev.enqueue_canon (Dev.stgStall_canon h1)

theorem Dev.mtrTurn_canon {a1 a2 a3} (h1 : Canon a1) (h3 : ∀ w0, Canon w0 → Canon (a3 w0)) : Canon (Dev.mtrTurn a1 a2 a3) := by
  unfold Dev.mtrTurn
  refine canon_ite ?_ ?_
  · refine h3 _ ?_
    · exact h1
  · exact Dev.enqueue_canon h1

theorem Dev.mtrLookup_canon {a1 a2} (h1 : Canon a1) : Canon (Dev.mtrLookup a1 a2) := by
  unfold Dev.mtrLookup
  extract_lets +onlyGivenNames -merge -useContext y0
  refine Dev.withFields_canon ?_ ?_
  · exact h1
  · intro x1 hx2
    refine Dev.mtrServed_canon ?_ ?_
    · exact hx2
    · intro x3 hx4
      extract_lets +onlyGivenNames -merge -useContext y5
      have hy5 : ∀ w0 w1, Canon w0 → Canon (y5 w0 w1) := by
        unfold y5
        intro x6 x7 hx8
        refine Dev.mtrOn_canon ?_ ?_
        · exact hx8
        · intro x9 x10 hx11
          exact Dev.okRes_canon hx11
      clear_value y5
      refine canon_ite ?_ ?_
      · split
        · exact Dev.fail_canon hx4
        · refine hy5 _ _ ?_
          · exact hx4
      · refine canon_ite ?_ ?_
        · refine hy5 _ _ ?_
          · exact hx4
        · exact Dev.fail_canon hx4

theorem Dev.mtrRead_canon {a1 a2} (h1 : Canon a1) : Canon (Dev.mtrRead a1 a2) := by
  unfold Dev.mtrRead
  refine Dev.withFields_canon ?_ ?_
  · exact h1
  · intro x0 hx1
    extract_lets +onlyGivenNames -merge -useContext y2
    refine canon_ite ?_ ?_
    · exact Dev.fail_canon hx1
    · refine Dev.mtrServed_canon ?_ ?_
      · exact hx1
      · intro x3 hx4
        split
        · rename_i v5 heq6
          have hv5 : Canon v5 := by
            refine canon_fst_eq heq6 ?_
            exact Dev.msrGet_canon hx4
          exact Dev.finish_canon hv5
        · rename_i v7 v8 heq9
          have hv7 : Canon v7 := by
            refine canon_fst_eq heq9 ?_
            exact Dev.msrGet_canon hx4
          exact canon_ite (Dev.fail_canon hv7) (Dev.finish_canon hv7)

theorem Dev.mtrRewrite_canon {a1 a2 a3 a4} (h1 : Canon a1) : Canon (Dev.mtrRewrite a1 a2 a3 a4) := by
  unfold Dev.mtrRewrite
  extract_lets +onlyGivenNames -merge -useContext y0 y1
  refine canon_ite ?_ ?_
  · exact Dev.finish_canon h1
  · extract_lets +onlyGivenNames -merge -useContext e2
    have he2 : Canon e2 := Dev.idtPurge_canon h1
    clear_value e2
    split
    · rename_i v3 v4 heq5
      have hv3 : Canon v3 := by
        refine canon_fst_eq heq5 ?_
        exact canon_ite1 (canon_mk1 he2) (Dev.idtInsert_canon he2)
      refine canon_ite ?_ ?_
      · exact Dev.fail_canon (Dev.setF_canon h1)
      · extract_lets +onlyGivenNames -merge -useContext y6 e7
        have he7 : Canon e7 := Dev.msrPut_canon (canon_upd hv3)
        clear_value e7
        exact Dev.okRes_canon (Dev.msrRecount_canon he7)

theorem Dev.mtrWrite_canon {a1 a2} (h1 : Canon a1) : Canon (Dev.mtrWrite a1 a2) := by
  unfold Dev.mtrWrite
  refine Dev.withFields_canon ?_ ?_
  · exact h1
  · intro x0 hx1
    extract_lets +onlyGivenNames -merge -useContext y2 y3 y4
    refine canon_ite ?_ ?_
    · exact Dev.fail_canon hx1
    · refine Dev.mtrServed_canon ?_ ?_
      · exact hx1
      · intro x5 hx6
        refine Dev.mtrTurn_canon ?_ ?_
        · exact hx6
        · intro x7 hx8
          split
          · rename_i v9 heq10
            have hv9 : Canon v9 := by
              refine canon_fst_eq heq10 ?_
              exact Dev.msrGet_canon hx8
            extract_lets +onlyGivenNames -merge -useContext y11
            exact canon_ite (Dev.finish_canon hv9) (canon_ite (Dev.finish_canon hv9) (canon_ite (Dev.fail_canon hv9) (Dev.mtrRewrite_canon hv9)))
          · rename_i v12 v13 heq14
            have hv12 : Canon v12 := by
              refine canon_fst_eq heq14 ?_
              exact Dev.msrGet_canon hx8
            refine canon_ite ?_ ?_
            · exact Dev.fail_canon hv12
            · refine canon_ite ?_ ?_
              · exact Dev.fail_canon hv12
              · refine canon_ite ?_ ?_
                · exact Dev.finish_canon hv12
                · refine canon_ite ?_ ?_
                  · exact Dev.fail_canon hv12
                  · extract_lets +onlyGivenNames -merge -useContext e15
                    have he15 : Canon e15 := Dev.msrPut_canon hv12
                    clear_value e15
                    exact Dev.okRes_canon he15

theorem Dev.mtrAdmit_canon {a1 a2} (h1 : Canon a1) : Canon (Dev.mtrAdmit a1 a2) := by
  unfold Dev.mtrAdmit
  refine Dev.withFields_canon ?_ ?_
  · exact h1
  · intro x0 hx1
    extract_lets +onlyGivenNames -merge -useContext y2 y3 y4 y5 y6 y7
    refine canon_ite ?_ ?_
    · exact Dev.fail_canon hx1
    · refine Dev.mtrServed_canon ?_ ?_
      · exact hx1
      · intro x8 hx9
        refine Dev.mtrTurn_canon ?_ ?_
        · exact hx9
        · intro x10 hx11
          extract_lets +onlyGivenNames -merge -useContext y12
          have hy12 : ∀ w0 w1 w2 w3, Canon w0 → Canon (y12 w0 w1 w2 w3) := by
            unfold y12
            intro x13 x14 x15 x16 hx17
            refine canon_ite ?_ ?_
            · exact Dev.fail_canon (Dev.raise_canon hx17)
            · refine canon_ite ?_ ?_
              · exact Dev.fail_canon hx17
              · refine Dev.mtrChange_canon ?_ ?_
                · exact hx17
                · intro x18 hx19
                  split
                  · rename_i v20 v21 heq22
                    have hv20 : Canon v20 := by
                      refine canon_fst_eq heq22 ?_
                      exact canon_ite1 (Dev.idtInsert_canon hx19) (canon_mk1 hx19)
                    refine canon_ite ?_ ?_
                    · exact Dev.fail_canon hv20
                    · extract_lets +onlyGivenNames -merge -useContext e23
                      have he23 : Canon e23 := canon_ite (canon_upd hv20) hv20
                      clear_value e23
                      extract_lets +onlyGivenNames -merge -useContext y24
                      exact Dev.okRes_canon (Dev.stateChange_canon he23)
          clear_value y12
          split
          · refine Dev.mtrOn_canon ?_ ?_
            · exact hx11
            · intro x25 x26 hx27
              refine canon_ite ?_ ?_
              · refine hy12 _ _ _ _ ?_
                · exact hx27
              · exact Dev.finish_canon hx27
          · split
            · exact Dev.fail_canon (Dev.raise_canon hx11)
            · refine Dev.mtrOn_canon ?_ ?_
              · exact hx11
              · intro x28 x29 hx30
                refine canon_ite ?_ ?_
                · refine hy12 _ _ _ _ ?_
                  · exact hx30
                · exact Dev.finish_canon hx30

theorem Dev.mtrTransit_canon {a1 a2 a3 a4 a5 a6} (h1 : Canon a1) (h6 : ∀ w0 w1, Canon w0 → Canon (a6 w0 w1)) : Canon (Dev.mtrTransit a1 a2 a3 a4 a5 a6) := by
  unfold Dev.mtrTransit
  refine Dev.withFields_canon ?_ ?_
  · exact h1
  · intro x0 hx1
    extract_lets +onlyGivenNames -merge -useContext y2
    refine canon_ite ?_ ?_
    · exact Dev.fail_canon hx1
    · refine Dev.mtrServed_canon ?_ ?_
      · exact hx1
      · intro x3 hx4
        refine Dev.mtrTurn_canon ?_ ?_
        · exact hx4
        · intro x5 hx6
          refine Dev.mtrOn_canon ?_ ?_
          · exact hx6
          · intro x7 x8 hx9
            refine canon_ite ?_ ?_
            · refine Dev.mtrChange_canon ?_ ?_
              · exact hx9
              · intro x10 hx11
                refine Dev.okRes_canon ?_
                · refine h6 _ _ ?_
                  · exact Dev.stateChange_canon hx11
            · exact Dev.finish_canon hx9

theorem Dev.mtrRelease_canon {a1 a2} (h1 : Canon a1) : Canon (Dev.mtrRelease a1 a2) := by
  unfold Dev.mtrRelease
  refine Dev.mtrTransit_canon ?_ ?_
  · exact h1
  · intro x0 x1 hx2
    exact hx2

theorem Dev.mtrRetire_canon {a1 a2} (h1 : Canon a1) : Canon (Dev.mtrRetire a1 a2) := by
  unfold Dev.mtrRetire
  refine Dev.mtrTransit_canon ?_ ?_
  · exact h1
  · intro x0 x1 hx2
    exact hx2

theorem Dev.mtrFreeCorrupt_canon {a1 a2 a3} (h1 : Canon a1) : Canon (Dev.mtrFreeCorrupt a1 a2 a3) := by
  unfold Dev.mtrFreeCorrupt
  refine Dev.mtrChange_canon ?_ ?_
  · exact h1
  · intro x0 hx1
    extract_lets +onlyGivenNames -merge -useContext y2 e3
    have he3 : Canon e3 := Dev.idtPurge_canon hx1
    clear_value e3
    extract_lets +onlyGivenNames -merge -useContext e4
    have he4 : Canon e4 := canon_upd he3
    clear_value e4
    extract_lets +onlyGivenNames -merge -useContext y5 e6
    have he6 : Canon e6 := Dev.stateChange_canon he4
    clear_value e6
    exact Dev.okRes_canon (Dev.msrRecount_canon he6)

theorem Dev.mtrFree_canon {a1 a2} (h1 : Canon a1) : Canon (Dev.mtrFree a1 a2) := by
  unfold Dev.mtrFree
  extract_lets +onlyGivenNames -merge -useContext y0 e1
  have he1 : Canon e1 := by
    unfold e1
    refine Dev.mtrTransit_canon ?_ ?_
    · exact h1
    · intro x2 x3 hx4
      extract_lets +onlyGivenNames -merge -useContext e5
      have he5 : Canon e5 := Dev.idtRemove_canon hx4
      clear_value e5
      exact canon_upd he5
  clear_value e1
  refine canon_ite ?_ ?_
  · refine Dev.mtrServed_canon ?_ ?_
    · exact h1
    · intro x6 hx7
      refine Dev.mtrTurn_canon ?_ ?_
      · exact hx7
      · intro x8 hx9
        exact Dev.mtrFreeCorrupt_canon (Canon1.fst (Dev.msrGet_canon hx9))
  · exact he1

theorem Dev.mtrMove_canon {a1 a2} (h1 : Canon a1) : Canon (Dev.mtrMove a1 a2) := by
  unfold Dev.mtrMove
  refine Dev.withFields_canon ?_ ?_
  · exact h1
  · intro x0 hx1
    extract_lets +onlyGivenNames -merge -useContext y2 y3 y4
    refine canon_ite ?_ ?_
    · exact Dev.fail_canon hx1
    · refine Dev.mtrServed_canon ?_ ?_
      · exact hx1
      · intro x5 hx6
        refine Dev.mtrTurn_canon ?_ ?_
        · exact hx6
        · intro x7 hx8
          refine Dev.mtrOn_canon ?_ ?_
          · exact hx8
          · intro x9 x10 hx11
            refine canon_ite ?_ ?_
            · exact Dev.fail_canon (Dev.raise_canon hx11)
            · refine Dev.mtrChange_canon ?_ ?_
              · exact hx11
              · intro x12 hx13
                exact Dev.okRes_canon (Dev.stateChange_canon hx13)

theorem Dev.mtrScan_canon {a1 a2} (h1 : Canon a1) : Canon (Dev.mtrScan a1 a2) := by
  unfold Dev.mtrScan
  refine Dev.withFields_canon ?_ ?_
  · exact h1
  · intro x0 hx1
    extract_lets +onlyGivenNames -merge -useContext y2 y3
    refine canon_ite ?_ ?_
    · exact Dev.fail_canon hx1
    · refine Dev.mtrServed_canon ?_ ?_
      · exact hx1
      · intro x4 hx5
        extract_lets +onlyGivenNames -merge -useContext y6 y7 y8 y9 y10 y11
        exact Dev.finish_canon hx5

theorem Dev.mtrPin_canon {a1 a2} (h1 : Canon a1) : Canon (Dev.mtrPin a1 a2) := by
  unfold Dev.mtrPin
  refine Dev.withFields_canon ?_ ?_
  · exact h1
  · intro x0 hx1
    extract_lets +onlyGivenNames -merge -useContext y2 y3
    refine canon_ite ?_ ?_
    · exact Dev.fail_canon hx1
    · refine Dev.mtrServed_canon ?_ ?_
      · exact hx1
      · intro x4 hx5
        refine Dev.mtrTurn_canon ?_ ?_
        · exact hx5
        · intro x6 hx7
          refine Dev.mtrOn_canon ?_ ?_
          · exact hx7
          · intro x8 x9 hx10
            exact canon_ite (Dev.fail_canon (Dev.setF_canon hx10)) (Dev.okRes_canon (Dev.msrPut_canon hx10))

theorem Dev.mtrAgain_canon {a1 a2} (h1 : Canon a1) : Canon (Dev.mtrAgain a1 a2) := by
  unfold Dev.mtrAgain
  extract_lets +onlyGivenNames -merge -useContext y0
  exact canon_ite (Dev.mtrWrite_canon h1) (canon_ite (Dev.mtrAdmit_canon h1) (canon_ite (Dev.mtrRelease_canon h1) (canon_ite (Dev.mtrRetire_canon h1) (canon_ite (Dev.mtrFree_canon h1) (canon_ite (Dev.mtrMove_canon h1) (Dev.mtrPin_canon h1))))))

theorem Dev.windowCommit_canon {a1 a2 a3 a4} (h1 : Canon a1) : Canon (Dev.windowCommit a1 a2 a3 a4) := by
  unfold Dev.windowCommit
  extract_lets +onlyGivenNames -merge -useContext y0
  refine canon_ite ?_ ?_
  · exact Dev.enqueue_canon (Dev.setF_canon h1)
  · extract_lets +onlyGivenNames -merge -useContext e1
    have he1 : Canon e1 := Dev.clrF_canon h1
    clear_value e1
    exact canon_ite he1 (canon_ite (Dev.msrPut_canon he1) (Dev.setF_canon he1))

theorem Dev.msrRecSelWrite_canon {a1 a2} (h1 : Canon a1) : Canon (Dev.msrRecSelWrite a1 a2) := by
  unfold Dev.msrRecSelWrite
  extract_lets +onlyGivenNames -merge -useContext y0 y1 e2
  have he2 : Canon e2 := Dev.setF_canon (Dev.wr_canon h1)
  clear_value e2
  refine canon_foldN ?_ ?_
  · exact he2
  · intro x3 x4 hx5
    exact Dev.wr_canon hx5

theorem Dev.msrRecCommit_canon {a1 a2} (h1 : Canon a1) : Canon (Dev.msrRecCommit a1 a2) := by
  unfold Dev.msrRecCommit
  extract_lets +onlyGivenNames -merge -useContext e0
  have he0 : Canon e0 := Dev.wr_canon h1
  clear_value e0
  extract_lets +onlyGivenNames -merge -useContext e1
  have he1 : Canon e1 := canon_ite (Dev.clrF_canon he0) he0
  clear_value e1
  exact canon_ite he1 (Dev.windowCommit_canon he1)

theorem Dev.queueRun_canon {a1 a2} (h1 : Canon a1) : Canon (Dev.queueRun a1 a2) := by
  unfold Dev.queueRun
  split
  · exact Dev.mtrAgain_canon h1
  · exact Dev.tryChange_canon h1
  · exact Dev.windowCommit_canon h1
  · exact Dev.counterOnly_canon h1
  · exact Dev.authFailed_canon h1
  · exact Dev.recEdit_canon h1
  · exact Dev.recAssign_canon h1

theorem Dev.stgGoOn_canon {a1} (h1 : Canon a1) : Canon (Dev.stgGoOn a1) := by
  unfold Dev.stgGoOn
  extract_lets +onlyGivenNames -merge -useContext y0 e1
  have he1 : Canon e1 := Dev.stgResume_canon h1
  clear_value e1
  refine canon_foldl ?_ ?_
  · exact canon_upd he1
  · intro x2 x3 hx4
    exact Dev.queueRun_canon hx4

theorem Dev.sweepVisit_canon {a1 a2} (h1 : Canon a1) : Canon (Dev.sweepVisit a1 a2) := by
  unfold Dev.sweepVisit
  extract_lets +onlyGivenNames -merge -useContext y0 y1
  exact canon_ite h1 (canon_ite (Dev.tryChange_canon h1) (canon_ite (Dev.tryChange_canon h1) h1))

theorem Dev.ckptStart_canon {a1} (h1 : Canon a1) : Canon (Dev.ckptStart a1) := by
  unfold Dev.ckptStart
  exact canon_ite (Dev.setF_canon (canon_upd h1)) h1

theorem Dev.msrCheckpointPeriod_canon {a1} (h1 : Canon a1) : Canon (Dev.msrCheckpointPeriod a1) := by
  unfold Dev.msrCheckpointPeriod
  exact canon_ite h1 (Dev.ckptStart_canon h1)

theorem Dev.msrCkptNow_canon {a1} (h1 : Canon a1) : Canon (Dev.msrCkptNow a1) := by
  unfold Dev.msrCkptNow
  exact canon_ite (Dev.setF_canon (Dev.ckptStart_canon h1)) h1

theorem Dev.msrCheckpointDone_canon {a1 a2} (h1 : Canon a1) : Canon (Dev.msrCheckpointDone a1 a2) := by
  unfold Dev.msrCheckpointDone
  split
  · exact h1
  · extract_lets +onlyGivenNames -merge -useContext y0 e1
    have he1 : Canon e1 := Dev.clrF_canon (Dev.clrF_canon h1)
    clear_value e1
    extract_lets +onlyGivenNames -merge -useContext y2 e3
    have he3 : Canon e3 := canon_upd he1
    clear_value e3
    refine canon_ite ?_ ?_
    · extract_lets +onlyGivenNames -merge -useContext y4 y5 e6
      have he6 : Canon e6 := canon_upd he3
      clear_value e6
      exact Dev.wr_canon he6
    · exact Dev.raise_canon (Dev.setF_canon he3)

theorem Dev.msrCleanAll_canon {a1} (h1 : Canon a1) : Canon (Dev.msrCleanAll a1) := by
  unfold Dev.msrCleanAll
  exact Dev.clrF_canon (Dev.msrClean_canon h1)

end Sys2Proof.Machine
end

