-- ==== Sys2Proof/Laws/CanonVal.lean ====
section
/-! SUPPORT. Every operation of Machine/Val.lean that answers a device keeps the stored data in canonical form. -/

namespace Sys2Proof.Machine

theorem Dev.chain_canon {a1 a2 a3 a4} (h1 : Canon a1) : Canon1 (Dev.chain a1 a2 a3 a4) := by
  unfold Dev.chain
  extract_lets +onlyGivenNames -merge -useContext y0 y1 y2
  split
  · extract_lets +onlyGivenNames -merge -useContext y3
    exact canon_mk1 (Dev.drawn_canon h1)
  · extract_lets +onlyGivenNames -merge -useContext y4 y5 y6 y7 y8 y9
    exact canon_mk1 h1

theorem Dev.judge_canon {a1 a2 a3 a4 a5} (h1 : Canon a1) : Canon1 (Dev.judge a1 a2 a3 a4 a5) := by
  unfold Dev.judge
  refine canon_ite1 ?_ ?_
  · exact canon_mk1 (Dev.bump_canon h1)
  · split
    · rename_i v0 v1 heq2
      have hv0 : Canon v0 := by
        refine canon_fst_eq heq2 ?_
        exact Dev.chain_canon h1
      extract_lets +onlyGivenNames -merge -useContext e3
      have he3 : Canon e3 := by
        unfold e3
        refine canon_foldl ?_ ?_
        · exact hv0
        · intro x4 x5 hx6
          exact Dev.bump_canon hx6
      clear_value e3
      extract_lets +onlyGivenNames -merge -useContext e7
      have he7 : Canon e7 := Dev.sample_canon he3
      clear_value e7
      extract_lets +onlyGivenNames -merge -useContext e8
      have he8 : Canon e8 := canon_ite (Dev.raise_canon (Dev.bump_canon he7)) he7
      clear_value e8
      extract_lets +onlyGivenNames -merge -useContext e9
      have he9 : Canon e9 := by
        unfold e9
        split
        · exact he8
        · exact Dev.raise_canon (Dev.bump_canon (Dev.wr_canon (Dev.wr_canon (Dev.wr_canon he8))))
      clear_value e9
      extract_lets +onlyGivenNames -merge -useContext y10 y11 y12 y13 y14
      have hy14 : ∀ w0 w1, Canon w0 → Canon (y14 w0 w1) := by
        unfold y14
        intro x15 x16 hx17
        exact Dev.bump_canon hx17
      clear_value y14
      refine canon_ite1 ?_ ?_
      · split
        · refine canon_mk1 ?_
          refine hy14 _ _ ?_
          · exact he9
        · refine canon_mk1 ?_
          refine hy14 _ _ ?_
          · exact he9
        · refine canon_mk1 ?_
          refine hy14 _ _ ?_
          · exact he9
      · refine canon_ite1 ?_ ?_
        · refine canon_mk1 ?_
          refine hy14 _ _ ?_
          · exact he9
        · extract_lets +onlyGivenNames -merge -useContext e18
          have he18 : Canon e18 := by
            unfold e18
            refine hy14 _ _ ?_
            · exact he9
          clear_value e18
          exact canon_ite1 (canon_mk1 he18) (canon_ite1 (canon_mk1 he18) (canon_ite1 (canon_mk1 he18) (canon_mk1 he18)))

theorem Dev.dedupCommit_canon {a1 a2 a3 a4} (h1 : Canon a1) : Canon (Dev.dedupCommit a1 a2 a3 a4) := by
  unfold Dev.dedupCommit
  extract_lets +onlyGivenNames -merge -useContext y0 y1
  exact Dev.bump_canon (canon_upd h1)

theorem Dev.dedupDup_canon {a1 a2 a3 a4} (h1 : Canon a1) : Canon (Dev.dedupDup a1 a2 a3 a4) := by
  unfold Dev.dedupDup
  extract_lets +onlyGivenNames -merge -useContext y0 y1 y2 e3
  have he3 : Canon e3 := Dev.bump_canon h1
  clear_value e3
  split
  · exact he3
  · extract_lets +onlyGivenNames -merge -useContext y4
    refine canon_ite ?_ ?_
    · extract_lets +onlyGivenNames -merge -useContext y5
      exact canon_upd he3
    · exact he3

theorem Dev.valServed_canon {a1 a2 a3} (h1 : Canon a1) (h3 : ∀ w0, Canon w0 → Canon (a3 w0)) : Canon (Dev.valServed a1 a2 a3) := by
  unfold Dev.valServed
  refine canon_ite ?_ ?_
  · exact Dev.fail_canon h1
  · refine h3 _ ?_
    · exact h1

theorem Dev.valEnable_canon {a1 a2} (h1 : Canon a1) : Canon (Dev.valEnable a1 a2) := by
  unfold Dev.valEnable
  extract_lets +onlyGivenNames -merge -useContext y0
  refine canon_ite ?_ ?_
  · exact Dev.raise_canon (Dev.setF_canon h1)
  · extract_lets +onlyGivenNames -merge -useContext e1
    have he1 : Canon e1 := Dev.regWrite32_canon h1
    clear_value e1
    exact canon_ite (Dev.commitRwl_canon he1) he1

theorem Dev.valLoad_canon {a1 a2} (h1 : Canon a1) : Canon (Dev.valLoad a1 a2) := by
  unfold Dev.valLoad
  refine Dev.withFields_canon ?_ ?_
  · exact h1
  · intro x0 hx1
    refine canon_ite ?_ ?_
    · exact Dev.fail_canon hx1
    · refine Dev.valServed_canon ?_ ?_
      · exact hx1
      · intro x2 hx3
        refine canon_ite ?_ ?_
        · exact Dev.finish_canon hx3
        · refine canon_ite ?_ ?_
          · exact Dev.fail_canon hx3
          · refine canon_ite ?_ ?_
            · exact Dev.fail_canon hx3
            · extract_lets +onlyGivenNames -merge -useContext y4 y5 e6
              have he6 : Canon e6 := canon_upd hx3
              clear_value e6
              exact canon_ite (Dev.tableSave_canon he6) (Dev.okRes_canon he6)

theorem Dev.valSwap_canon {a1 a2} (h1 : Canon a1) : Canon (Dev.valSwap a1 a2) := by
  unfold Dev.valSwap
  refine Dev.withFields_canon ?_ ?_
  · exact h1
  · intro x0 hx1
    refine Dev.valServed_canon ?_ ?_
    · exact hx1
    · intro x2 hx3
      refine canon_ite ?_ ?_
      · exact Dev.finish_canon hx3
      · refine canon_ite ?_ ?_
        · exact Dev.fail_canon hx3
        · extract_lets +onlyGivenNames -merge -useContext e4
          have he4 : Canon e4 := Dev.setF_canon (Dev.wr_canon hx3)
          clear_value e4
          exact canon_upd he4

theorem Dev.valSwapDone_canon {a1} (h1 : Canon a1) : Canon (Dev.valSwapDone a1) := by
  unfold Dev.valSwapDone
  split
  · exact h1
  · extract_lets +onlyGivenNames -merge -useContext y0 e1
    have he1 : Canon e1 := Dev.clrF_canon (canon_upd h1)
    clear_value e1
    exact Dev.okRes_canon (Dev.raise_canon (Dev.wr_canon he1))

theorem Dev.valPath_canon {a1 a2} (h1 : Canon a1) : Canon (Dev.valPath a1 a2) := by
  unfold Dev.valPath
  refine Dev.withFields_canon ?_ ?_
  · exact h1
  · intro x0 hx1
    extract_lets +onlyGivenNames -merge -useContext y2
    refine canon_ite ?_ ?_
    · exact Dev.fail_canon hx1
    · split
      · exact Dev.fail_canon hx1
      · exact canon_ite (Dev.fail_canon hx1) (Dev.okRes_canon hx1)

theorem Dev.valReseq_canon {a1 a2} (h1 : Canon a1) : Canon (Dev.valReseq a1 a2) := by
  unfold Dev.valReseq
  refine Dev.withFields_canon ?_ ?_
  · exact h1
  · intro x0 hx1
    refine Dev.valServed_canon ?_ ?_
    · exact hx1
    · intro x2 hx3
      refine canon_ite ?_ ?_
      · exact Dev.fail_canon hx3
      · extract_lets +onlyGivenNames -merge -useContext y4 e5
        have he5 : Canon e5 := Dev.wr_canon (Dev.wr_canon hx3)
        clear_value e5
        extract_lets +onlyGivenNames -merge -useContext e6
        have he6 : Canon e6 := Dev.wr_canon (Dev.wr_canon (Dev.wr_canon he5))
        clear_value e6
        extract_lets +onlyGivenNames -merge -useContext e7
        have he7 : Canon e7 := Dev.wr_canon (Dev.wr_canon he6)
        clear_value e7
        extract_lets +onlyGivenNames -merge -useContext e8
        have he8 : Canon e8 := Dev.wr_canon he7
        clear_value e8
        extract_lets +onlyGivenNames -merge -useContext y9 e10
        have he10 : Canon e10 := canon_upd he8
        clear_value e10
        extract_lets +onlyGivenNames -merge -useContext e11
        have he11 : Canon e11 := Dev.wr_canon he10
        clear_value e11
        extract_lets +onlyGivenNames -merge -useContext e12
        have he12 : Canon e12 := Dev.clrF_canon he11
        clear_value e12
        exact canon_upd he12

end Sys2Proof.Machine
end

