-- ==== Sys2Proof/Laws/CanonReel.lean ====
section
/-! SUPPORT. Every operation of Machine/Reel.lean that answers a device keeps the stored data in canonical form. -/

namespace Sys2Proof.Machine

theorem Dev.setLane_canon {a1 a2 a3} (h1 : Canon a1) : Canon (Dev.setLane a1 a2 a3) := by
  unfold Dev.setLane
  exact canon_upd h1

theorem Dev.showActive_canon {a1} (h1 : Canon a1) : Canon (Dev.showActive a1) := by
  unfold Dev.showActive
  extract_lets +onlyGivenNames -merge -useContext y0 e1
  have he1 : Canon e1 := Dev.wr_canon (Dev.wr_canon h1)
  clear_value e1
  refine canon_foldN ?_ ?_
  · exact he1
  · intro x2 x3 hx4
    exact Dev.flag_canon hx4

theorem Dev.resteer_canon {a1 a2} (h1 : Canon a1) : Canon (Dev.resteer a1 a2) := by
  unfold Dev.resteer
  extract_lets +onlyGivenNames -merge -useContext e0
  have he0 : Canon e0 := Dev.showActive_canon h1
  clear_value e0
  refine canon_foldN ?_ ?_
  · exact he0
  · intro x1 x2 hx3
    extract_lets +onlyGivenNames -merge -useContext y4 y5 e6
    have he6 : Canon e6 := canon_ite (canon_upd hx3) hx3
    clear_value e6
    split
    · exact he6
    · exact canon_ite (canon_upd he6) he6

theorem Dev.postExc_canon {a1 a2 a3} (h1 : Canon a1) {v} (hv : Dev.postExc a1 a2 a3 = some v) : Canon v := by
  unfold Dev.postExc at hv
  dsimp only at hv
  split at hv
  · exact absurd hv (by simp)
  · rw [← Option.some.inj hv]
    exact Dev.raise_canon (Dev.bump_canon (Dev.wr_canon (Dev.memWrB_canon h1)))

theorem Dev.laneRelease_canon {a1 a2 a3} (h1 : Canon a1) : Canon (Dev.laneRelease a1 a2 a3) := by
  unfold Dev.laneRelease
  extract_lets +onlyGivenNames -merge -useContext y0 e1
  have he1 : Canon e1 := Dev.setLane_canon h1
  clear_value e1
  extract_lets +onlyGivenNames -merge -useContext y2
  exact Dev.fifoStore_canon he1

theorem Dev.laneStage_canon {a1 a2 a3} (h1 : Canon a1) : Canon (Dev.laneStage a1 a2 a3) := by
  unfold Dev.laneStage
  extract_lets +onlyGivenNames -merge -useContext y0 y1
  exact Dev.setLane_canon h1

theorem Dev.lanePosts_canon {a1 a2 a3 a4} (h1 : Canon a1) : Canon (Dev.lanePosts a1 a2 a3 a4) := by
  induction a4 generalizing a1 with
  | nil => exact Dev.laneRelease_canon h1
  | cons e t ih =>
    unfold Dev.lanePosts
    split
    · exact ih (Dev.postExc_canon h1 ‹_›)
    · exact Dev.laneStage_canon h1

theorem Dev.laneRefuse_canon {a1 a2 a3 a4 a5} (h1 : Canon a1) : Canon (Dev.laneRefuse a1 a2 a3 a4 a5) := by
  unfold Dev.laneRefuse
  exact canon_ite (Dev.laneRelease_canon (Dev.bump_canon h1)) (Dev.lanePosts_canon h1)

theorem Dev.passAck_canon {a1 a2 a3 a4 a5} (h1 : Canon a1) : Canon (Dev.passAck a1 a2 a3 a4 a5) := by
  unfold Dev.passAck
  exact canon_ite (canon_upd h1) h1

theorem Dev.laneJudge_canon {a1 a2 a3 a4 a5 a6} (h1 : Canon a1) : Canon (Dev.laneJudge a1 a2 a3 a4 a5 a6) := by
  unfold Dev.laneJudge
  extract_lets +onlyGivenNames -merge -useContext y0 y1 y2 y3 y4 y5
  have hy5 : ∀ w0 w1 w2 w3 w4, Canon w0 → Canon (y5 w0 w1 w2 w3 w4) := by
    unfold y5
    intro x6 x7 x8 x9 x10 hx11
    exact Dev.laneRefuse_canon hx11
  clear_value y5
  extract_lets +onlyGivenNames -merge -useContext y12 y13
  refine canon_ite ?_ ?_
  · refine hy5 _ _ _ _ _ ?_
    · exact Dev.counterOnly_canon h1
  · refine canon_ite ?_ ?_
    · refine hy5 _ _ _ _ _ ?_
      · exact Dev.bump_canon (Dev.counterOnly_canon h1)
    · split
      · extract_lets +onlyGivenNames -merge -useContext e14
        have he14 : Canon e14 := Dev.dedupDup_canon (Dev.bump_canon h1)
        clear_value e14
        exact Dev.laneRelease_canon (Dev.counterOnly_canon he14)
      · exact Dev.laneRelease_canon (Dev.counterOnly_canon (Dev.bump_canon h1))
      · refine canon_ite ?_ ?_
        · refine hy5 _ _ _ _ _ ?_
          · exact Dev.counterOnly_canon h1
        · refine canon_ite ?_ ?_
          · exact Dev.laneStage_canon h1
          · split
            · rename_i v15 v16 heq17
              have hv15 : Canon v15 := by
                refine canon_fst_eq heq17 ?_
                exact Dev.judge_canon h1
              refine canon_ite ?_ ?_
              · extract_lets +onlyGivenNames -merge -useContext y18
                exact Dev.laneStage_canon hv15
              · extract_lets +onlyGivenNames -merge -useContext e19
                have he19 : Canon e19 := Dev.counterOnly_canon hv15
                clear_value e19
                refine canon_ite ?_ ?_
                · refine hy5 _ _ _ _ _ ?_
                  · exact he19
                · exact Dev.laneRelease_canon he19

theorem Dev.laneKeyed_canon {a1 a2 a3 a4 a5} (h1 : Canon a1) : Canon (Dev.laneKeyed a1 a2 a3 a4 a5) := by
  unfold Dev.laneKeyed
  extract_lets +onlyGivenNames -merge -useContext y0 y1 y2 y3 y4
  have hy4 : ∀ w0 w1 w2, Canon w0 → Canon (y4 w0 w1 w2) := by
    unfold y4
    intro x5 x6 x7 hx8
    exact Dev.laneRefuse_canon hx8
  clear_value y4
  extract_lets +onlyGivenNames -merge -useContext y9 y10
  refine canon_ite ?_ ?_
  · refine hy4 _ _ _ ?_
    · exact h1
  · refine canon_ite ?_ ?_
    · exact Dev.laneRelease_canon (Dev.bump_canon h1)
    · refine canon_ite ?_ ?_
      · refine hy4 _ _ _ ?_
        · exact h1
      · refine canon_ite ?_ ?_
        · refine hy4 _ _ _ ?_
          · exact h1
        · extract_lets +onlyGivenNames -merge -useContext y11
          refine canon_ite ?_ ?_
          · refine hy4 _ _ _ ?_
            · exact h1
          · refine canon_ite ?_ ?_
            · refine hy4 _ _ _ ?_
              · exact Dev.bump_canon h1
            · split
              · rename_i v12 heq13
                have hv12 : Canon v12 := by
                  refine canon_fst_eq heq13 ?_
                  exact Dev.keyServe_canon h1
                exact Dev.laneStage_canon hv12
              · rename_i v14 heq15
                have hv14 : Canon v14 := by
                  refine canon_fst_eq heq15 ?_
                  exact Dev.keyServe_canon h1
                exact Dev.laneRelease_canon (Dev.bump_canon (Dev.tryChange_canon hv14))
              · rename_i v16 v17 v18 heq19
                have hv16 : Canon v16 := by
                  refine canon_fst_eq heq19 ?_
                  exact Dev.keyServe_canon h1
                split
                · extract_lets +onlyGivenNames -merge -useContext e20
                  have he20 : Canon e20 := Dev.authFailed_canon (Dev.bump_canon hv16)
                  clear_value e20
                  refine hy4 _ _ _ ?_
                  · exact he20
                · extract_lets +onlyGivenNames -merge -useContext y21 e22
                  have he22 : Canon e22 := Dev.passAck_canon hv16
                  clear_value e22
                  exact canon_ite (Dev.laneStage_canon he22) (Dev.laneJudge_canon he22)

theorem Dev.joinUnknown_canon {a1 a2} (h1 : Canon a1) : Canon1 (Dev.joinUnknown a1 a2) := by
  unfold Dev.joinUnknown
  extract_lets +onlyGivenNames -merge -useContext y0
  have hy0 : ∀ w0 w1, Canon w0 → Canon1 (y0 w0 w1) := by
    unfold y0
    intro x1 x2 hx3
    exact canon_mk1 (Dev.bump_canon hx3)
  clear_value y0
  refine canon_ite1 ?_ ?_
  · refine hy0 _ _ ?_
    · exact h1
  · split
    · refine hy0 _ _ ?_
      · exact Dev.raise_canon h1
    · split
      · rename_i v4 heq5
        have hv4 : Canon v4 := by
          refine canon_fst_eq heq5 ?_
          exact Dev.msrGet_canon h1
        exact canon_mk1 (Dev.bump_canon hv4)
      · rename_i v6 v7 heq8
        have hv6 : Canon v6 := by
          refine canon_fst_eq heq8 ?_
          exact Dev.msrGet_canon h1
        split
        · rename_i v9 v10 heq11
          have hv9 : Canon v9 := by
            refine canon_fst_eq heq11 ?_
            exact Dev.idtInsert_canon hv6
          refine canon_ite1 ?_ ?_
          · refine hy0 _ _ ?_
            · exact hv9
          · extract_lets +onlyGivenNames -merge -useContext y12 e13
            have he13 : Canon e13 := canon_upd hv9
            clear_value e13
            exact canon_mk1 (Dev.stateChange_canon he13)

theorem Dev.laneRun_canon {a1 a2 a3} (h1 : Canon a1) : Canon (Dev.laneRun a1 a2 a3) := by
  unfold Dev.laneRun
  extract_lets +onlyGivenNames -merge -useContext y0 y1 y2 y3
  have hy3 : ∀ w0 w1 w2 w3, Canon w0 → Canon (y3 w0 w1 w2 w3) := by
    unfold y3
    intro x4 x5 x6 x7 hx8
    exact Dev.laneRefuse_canon hx8
  clear_value y3
  extract_lets +onlyGivenNames -merge -useContext y9
  have hy9 : ∀ w0 w1, Canon w0 → Canon (y9 w0 w1) := by
    unfold y9
    intro x10 x11 hx12
    split
    · rename_i v13 heq14
      have hv13 : Canon v13 := by
        refine canon_fst_eq heq14 ?_
        exact Dev.msrGet_canon hx12
      refine hy3 _ _ _ _ ?_
      · exact hv13
    · rename_i v15 v16 heq17
      have hv15 : Canon v15 := by
        refine canon_fst_eq heq17 ?_
        exact Dev.msrGet_canon hx12
      exact Dev.laneKeyed_canon hv15
  clear_value y9
  refine canon_ite ?_ ?_
  · refine hy3 _ _ _ _ ?_
    · exact h1
  · refine canon_ite ?_ ?_
    · split
      · refine hy9 _ _ ?_
        · exact h1
      · refine canon_ite ?_ ?_
        · refine hy3 _ _ _ _ ?_
          · exact h1
        · refine canon_ite ?_ ?_
          · refine hy3 _ _ _ _ ?_
            · exact Dev.bump_canon h1
          · split
            · exact Dev.stgStall_canon h1
            · split
              · rename_i v18 v19 v20 heq21
                have hv18 : Canon v18 := by
                  refine canon_fst_eq heq21 ?_
                  exact Dev.joinUnknown_canon h1
                refine hy3 _ _ _ _ ?_
                · exact hv18
    · refine hy9 _ _ ?_
      · exact h1

theorem Dev.laneFrame_canon {a1 a2} (h1 : Canon a1) : Canon (Dev.laneFrame a1 a2) := by
  unfold Dev.laneFrame
  refine canon_ite ?_ ?_
  · exact h1
  · extract_lets +onlyGivenNames -merge -useContext y0
    split
    · exact Dev.laneRun_canon h1
    · split
      · exact h1
      · exact canon_ite (Dev.laneRun_canon h1) h1

theorem Dev.laneReplayWaitEnd_canon {a1 a2} (h1 : Canon a1) : Canon (Dev.laneReplayWaitEnd a1 a2) := by
  unfold Dev.laneReplayWaitEnd
  extract_lets +onlyGivenNames -merge -useContext y0 y1
  split
  · exact h1
  · split
    · exact canon_ite (Dev.laneJudge_canon h1) h1
    · exact h1

theorem Dev.exqRetry_canon {a1} (h1 : Canon a1) : Canon (Dev.exqRetry a1) := by
  unfold Dev.exqRetry
  extract_lets +onlyGivenNames -merge -useContext e0
  have he0 : Canon e0 := by
    unfold e0
    refine canon_foldl ?_ ?_
    · exact h1
    · intro x1 x2 hx3
      refine canon_foldl ?_ ?_
      · exact hx3
      · intro x4 x5 hx6
        split
        · exact Dev.lanePosts_canon hx6
        · exact hx6
        · exact hx6
        · exact hx6
  clear_value e0
  extract_lets +onlyGivenNames -merge -useContext y7
  refine canon_foldl ?_ ?_
  · exact canon_upd he0
  · intro x8 x9 hx10
    exact Dev.clrF_canon hx10

theorem Dev.reelExqHeadWrite_canon {a1 a2 a3} (h1 : Canon a1) : Canon (Dev.reelExqHeadWrite a1 a2 a3) := by
  unfold Dev.reelExqHeadWrite
  exact Dev.exqRetry_canon (Dev.wr_canon h1)

theorem Dev.exqCfgWrite_canon {a1 a2 a3} (h1 : Canon a1) : Canon (Dev.exqCfgWrite a1 a2 a3) := by
  unfold Dev.exqCfgWrite
  extract_lets +onlyGivenNames -merge -useContext y0 y1 y2 y3 e4
  have he4 : Canon e4 := Dev.regWrite32_canon (canon_upd h1)
  clear_value e4
  exact Dev.exqRetry_canon (canon_ite (Dev.setF_canon he4) he4)

theorem Dev.extWrite_canon {a1 a2 a3 a4} (h1 : Canon a1) : Canon1 (Dev.extWrite a1 a2 a3 a4) := by
  unfold Dev.extWrite
  extract_lets +onlyGivenNames -merge -useContext y0 y1 e2
  have he2 : Canon e2 := by
    unfold e2
    refine canon_foldN ?_ ?_
    · exact h1
    · intro x3 x4 hx5
      exact Dev.memWrB_canon hx5
  clear_value e2
  exact canon_mk1 (canon_upd he2)

theorem Dev.stormReqShow_canon {a1 a2} (h1 : Canon a1) : Canon (Dev.stormReqShow a1 a2) := by
  unfold Dev.stormReqShow
  exact Dev.raise_canon (Dev.flag_canon (Dev.flag_canon h1))

theorem Dev.countRestored_canon {a1} (h1 : Canon a1) : Canon (Dev.countRestored a1) := by
  unfold Dev.countRestored
  extract_lets +onlyGivenNames -merge -useContext y0 y1 y2 y3 y4 y5 y6 e7
  have he7 : Canon e7 := canon_upd h1
  clear_value e7
  extract_lets +onlyGivenNames -merge -useContext e8
  have he8 : Canon e8 := Dev.wr_canon he7
  clear_value e8
  extract_lets +onlyGivenNames -merge -useContext y9
  refine canon_ite ?_ ?_
  · extract_lets +onlyGivenNames -merge -useContext e10
    have he10 : Canon e10 := Dev.stormReqShow_canon he8
    clear_value e10
    exact canon_upd he10
  · exact he8

theorem Dev.commitRefuse_canon {a1 a2 a3 a4} (h1 : Canon a1) : Canon1 (Dev.commitRefuse a1 a2 a3 a4) := by
  unfold Dev.commitRefuse
  extract_lets +onlyGivenNames -merge -useContext e0
  have he0 : Canon e0 := Dev.bump_canon h1
  clear_value e0
  exact canon_mk1 (canon_ite he0 (Dev.counterOnly_canon he0))

theorem Dev.commitDelta_canon {a1 a2 a3} (h1 : Canon a1) : Canon (Dev.commitDelta a1 a2 a3) := by
  unfold Dev.commitDelta
  extract_lets +onlyGivenNames -merge -useContext y0
  exact Dev.eplMirror_canon h1

theorem Dev.digestAdd_canon {a1 a2 a3} (h1 : Canon a1) : Canon (Dev.digestAdd a1 a2 a3) := by
  unfold Dev.digestAdd
  refine canon_ite ?_ ?_
  · extract_lets +onlyGivenNames -merge -useContext y0
    exact canon_upd h1
  · exact h1

theorem Dev.commitNow_canon {a1 a2 a3 a4 a5 a6} (h1 : Canon a1) : Canon1 (Dev.commitNow a1 a2 a3 a4 a5 a6) := by
  unfold Dev.commitNow
  extract_lets +onlyGivenNames -merge -useContext f st n
  have hs : Canon1 a1.stgTake := Dev.stgTake_canon h1
  generalize a1.stgTake = p at hs ⊢
  obtain ⟨d, s⟩ := p
  replace hs := hs.fst
  dsimp -zeta only at hs ⊢
  extract_lets +onlyGivenNames -merge -useContext arch
  have hx : Canon1 (if n = 0 then (d, []) else d.extWrite s f.body n) := canon_ite1 (canon_mk1 hs) (Dev.extWrite_canon hs)
  generalize (if n = 0 then (d, []) else d.extWrite s f.body n) = q at hx ⊢
  obtain ⟨d1, loc⟩ := q
  replace hx := hx.fst
  dsimp -zeta only at hx ⊢
  extract_lets delta ver payload d2 d3 due r1 r2 r3 r4 z1 d4 d5 d6 x d7 z2 d8 d9 d10
  have h2 : Canon d2 := Dev.stgWrite_canon hx
  have h3 : Canon d3 := by
    unfold d3
    split
    · exact h2
    · exact Dev.fifoPush_canon h2
  have h4 : Canon d4 := canon_upd h3
  have h5 : Canon d5 := canon_ite (Dev.stateChange_canon (Dev.stgPublish_canon h4)) (Dev.stgPublish_canon (Dev.msrPut_canon h4))
  have h6 : Canon d6 := Dev.digestAdd_canon (Dev.commitDelta_canon h5)
  have h7 : Canon d7 := canon_ite (Dev.stateChange_canon h6) h6
  have h8 : Canon d8 := canon_ite (canon_upd h7) h7
  have h9 : Canon d9 := canon_ite (Dev.countRestored_canon h8) h8
  have h10 : Canon d10 := Dev.dedupCommit_canon h9
  exact canon_mk1 (Dev.sample_canon h10)

theorem Dev.commitTry_canon {a1 a2} (h1 : Canon a1) : Canon1 (Dev.commitTry a1 a2) := by
  unfold Dev.commitTry
  extract_lets +onlyGivenNames -merge -useContext y0
  split
  · rename_i v1 heq2
    have hv1 : Canon v1 := by
      refine canon_fst_eq heq2 ?_
      exact Dev.msrGet_canon h1
    exact Dev.commitRefuse_canon hv1
  · rename_i v3 v4 heq5
    have hv3 : Canon v3 := by
      refine canon_fst_eq heq5 ?_
      exact Dev.msrGet_canon h1
    extract_lets +onlyGivenNames -merge -useContext y6
    refine canon_ite1 ?_ ?_
    · exact canon_mk1 hv3
    · refine canon_ite1 ?_ ?_
      · exact Dev.commitRefuse_canon hv3
      · refine canon_ite1 ?_ ?_
        · exact Dev.commitRefuse_canon (Dev.tryChange_canon hv3)
        · extract_lets +onlyGivenNames -merge -useContext y7
          refine canon_ite1 ?_ ?_
          · exact Dev.commitRefuse_canon hv3
          · extract_lets +onlyGivenNames -merge -useContext y8
            split
            · exact Dev.commitRefuse_canon (Dev.dedupDup_canon hv3)
            · exact Dev.commitRefuse_canon hv3
            · extract_lets +onlyGivenNames -merge -useContext y9 y10
              split
              · exact canon_mk1 (Dev.stgStall_canon hv3)
              · exact canon_ite1 (Dev.commitRefuse_canon hv3) (canon_ite1 (canon_mk1 hv3) (Dev.commitNow_canon hv3))

theorem Dev.commitPacket_canon {a1 a2} (h1 : Canon a1) : Canon (Dev.commitPacket a1 a2) := by
  unfold Dev.commitPacket
  extract_lets +onlyGivenNames -merge -useContext y0
  split
  · exact h1
  · split
    · exact h1
    · extract_lets +onlyGivenNames -merge -useContext y1
      split
      · rename_i v2 heq3
        have hv2 : Canon v2 := by
          refine canon_fst_eq heq3 ?_
          exact Dev.commitTry_canon h1
        exact hv2
      · rename_i v4 v5 v6 heq7
        have hv4 : Canon v4 := by
          refine canon_fst_eq heq7 ?_
          exact Dev.commitTry_canon h1
        extract_lets +onlyGivenNames -merge -useContext y8 e9
        have he9 : Canon e9 := canon_ite (Dev.bump_canon hv4) (canon_ite (Dev.bump_canon hv4) hv4)
        clear_value e9
        extract_lets +onlyGivenNames -merge -useContext y10 y11
        exact Dev.laneRefuse_canon he9
      · rename_i v12 v13 heq14
        have hv12 : Canon v12 := by
          refine canon_fst_eq heq14 ?_
          exact Dev.commitTry_canon h1
        extract_lets +onlyGivenNames -merge -useContext y15
        split
        · extract_lets +onlyGivenNames -merge -useContext e16
          have he16 : Canon e16 := Dev.bump_canon (Dev.bump_canon hv12)
          clear_value e16
          exact Dev.lanePosts_canon he16

theorem Dev.injectWait_canon {a1 a2} (h1 : Canon a1) : Canon (Dev.injectWait a1 a2) := by
  unfold Dev.injectWait
  exact canon_upd h1

theorem Dev.valInject_canon {a1 a2} (h1 : Canon a1) : Canon (Dev.valInject a1 a2) := by
  unfold Dev.valInject
  refine Dev.withFields_canon ?_ ?_
  · exact h1
  · intro x0 hx1
    extract_lets +onlyGivenNames -merge -useContext y2
    refine canon_ite ?_ ?_
    · exact Dev.fail_canon hx1
    · refine Dev.valServed_canon ?_ ?_
      · exact hx1
      · intro x3 hx4
        extract_lets +onlyGivenNames -merge -useContext y5 y6
        have hy6 : ∀ w0 w1, Canon w0 → Canon (y6 w0 w1) := by
          unfold y6
          intro x7 x8 hx9
          exact Dev.finish_canon hx9
        clear_value y6
        refine canon_ite ?_ ?_
        · exact Dev.fail_canon hx4
        · refine canon_ite ?_ ?_
          · refine hy6 _ _ ?_
            · exact hx4
          · extract_lets +onlyGivenNames -merge -useContext y10 y11 y12 y13 y14 y15
            refine canon_ite ?_ ?_
            · refine hy6 _ _ ?_
              · exact hx4
            · refine canon_ite ?_ ?_
              · refine hy6 _ _ ?_
                · exact hx4
              · split
                · rename_i v16 heq17
                  have hv16 : Canon v16 := by
                    refine canon_fst_eq heq17 ?_
                    exact Dev.keyServe_canon hx4
                  exact Dev.injectWait_canon hv16
                · rename_i v18 heq19
                  have hv18 : Canon v18 := by
                    refine canon_fst_eq heq19 ?_
                    exact Dev.keyServe_canon hx4
                  refine hy6 _ _ ?_
                  · exact hv18
                · rename_i v20 v21 v22 heq23
                  have hv20 : Canon v20 := by
                    refine canon_fst_eq heq23 ?_
                    exact Dev.keyServe_canon hx4
                  extract_lets +onlyGivenNames -merge -useContext y24
                  split
                  · rename_i v25 heq26
                    have hv25 : Canon v25 := by
                      refine canon_fst_eq heq26 ?_
                      exact Dev.commitTry_canon hv20
                    exact Dev.injectWait_canon hv25
                  · rename_i v27 v28 v29 heq30
                    have hv27 : Canon v27 := by
                      refine canon_fst_eq heq30 ?_
                      exact Dev.commitTry_canon hv20
                    refine hy6 _ _ ?_
                    · exact hv27
                  · rename_i v31 v32 heq33
                    have hv31 : Canon v31 := by
                      refine canon_fst_eq heq33 ?_
                      exact Dev.commitTry_canon hv20
                    extract_lets +onlyGivenNames -merge -useContext y34 y35 y36 e37
                    have he37 : Canon e37 := canon_ite hv31 (canon_ite (Dev.bump_canon hv31) (Dev.lanePosts_canon hv31))
                    clear_value e37
                    exact Dev.okRes_canon he37

theorem Dev.injectGoOn_canon {a1} (h1 : Canon a1) : Canon (Dev.injectGoOn a1) := by
  unfold Dev.injectGoOn
  extract_lets +onlyGivenNames -merge -useContext y0
  refine canon_foldl ?_ ?_
  · exact canon_upd h1
  · intro x1 x2 hx3
    exact Dev.valInject_canon hx3

theorem Dev.commitGoOn_canon {a1} (h1 : Canon a1) : Canon (Dev.commitGoOn a1) := by
  unfold Dev.commitGoOn
  exact Dev.injectGoOn_canon (Dev.stgGoOn_canon h1)

theorem Dev.reservationDurable_canon {a1} (h1 : Canon a1) : Canon (Dev.reservationDurable a1) := by
  unfold Dev.reservationDurable
  extract_lets +onlyGivenNames -merge -useContext y0
  refine canon_ite ?_ ?_
  · exact h1
  · extract_lets +onlyGivenNames -merge -useContext y1 e2
    have he2 : Canon e2 := canon_upd h1
    clear_value e2
    extract_lets +onlyGivenNames -merge -useContext e3
    have he3 : Canon e3 := Dev.wr_canon he2
    clear_value e3
    extract_lets +onlyGivenNames -merge -useContext y4 e5
    have he5 : Canon e5 := by
      unfold e5
      split
      · exact he3
      · exact Dev.okRes_canon (canon_upd he3)
    clear_value e5
    exact canon_ite (Dev.commitGoOn_canon he5) he5

theorem Dev.commitStallRelease_canon {a1} (h1 : Canon a1) : Canon (Dev.commitStallRelease a1) := by
  unfold Dev.commitStallRelease
  exact canon_ite (Dev.commitGoOn_canon h1) h1

theorem Dev.recoverEnd_canon {a1} (h1 : Canon a1) : Canon (Dev.recoverEnd a1) := by
  unfold Dev.recoverEnd
  exact canon_ite h1 (Dev.clrF_canon h1)

theorem Dev.commitRecoverNow_canon {a1} (h1 : Canon a1) : Canon (Dev.commitRecoverNow a1) := by
  unfold Dev.commitRecoverNow
  refine canon_ite ?_ ?_
  · exact h1
  · extract_lets +onlyGivenNames -merge -useContext y0 e1
    have he1 : Canon e1 := Dev.wr_canon h1
    clear_value e1
    extract_lets +onlyGivenNames -merge -useContext y2 e3
    have he3 : Canon e3 := canon_upd he1
    clear_value e3
    split
    · extract_lets +onlyGivenNames -merge -useContext e4
      have he4 : Canon e4 := Dev.wr_canon (Dev.wr_canon he3)
      clear_value e4
      extract_lets +onlyGivenNames -merge -useContext e5
      have he5 : Canon e5 := Dev.wr_canon (Dev.wr_canon he4)
      clear_value e5
      extract_lets +onlyGivenNames -merge -useContext y6 e7
      have he7 : Canon e7 := canon_upd he5
      clear_value e7
      extract_lets +onlyGivenNames -merge -useContext y8 e9
      have he9 : Canon e9 := canon_ite (Dev.setF_canon (Dev.setF_canon (canon_upd he7))) (Dev.clrF_canon he7)
      clear_value e9
      exact Dev.commitGoOn_canon (Dev.stgJournal_canon he9)

theorem Dev.commitRecover_canon {a1} (h1 : Canon a1) : Canon (Dev.commitRecover a1) := by
  unfold Dev.commitRecover
  exact canon_ite (Dev.commitRecoverNow_canon h1) h1

theorem Dev.reelEnable_canon {a1 a2} (h1 : Canon a1) : Canon (Dev.reelEnable a1 a2) := by
  unfold Dev.reelEnable
  extract_lets +onlyGivenNames -merge -useContext y0 y1 e2
  have he2 : Canon e2 := Dev.regWrite32_canon h1
  clear_value e2
  extract_lets +onlyGivenNames -merge -useContext e3
  have he3 : Canon e3 := Dev.resteer_canon he2
  clear_value e3
  exact canon_ite he3 (canon_ite (Dev.commitRecover_canon (Dev.commitRwl_canon he3)) (Dev.setF_canon (Dev.clrF_canon he3)))

theorem Dev.reelRunningStart_canon {a1} (h1 : Canon a1) : Canon (Dev.reelRunningStart a1) := by
  unfold Dev.reelRunningStart
  exact canon_ite (Dev.setF_canon (canon_upd h1)) h1

theorem Dev.reelRunningCheck_canon {a1} (h1 : Canon a1) : Canon (Dev.reelRunningCheck a1) := by
  unfold Dev.reelRunningCheck
  extract_lets +onlyGivenNames -merge -useContext y0 y1 e2
  have he2 : Canon e2 := canon_upd h1
  clear_value e2
  exact canon_ite he2 (Dev.clrF_canon he2)

theorem Dev.stormReqClear_canon {a1} (h1 : Canon a1) : Canon (Dev.stormReqClear a1) := by
  unfold Dev.stormReqClear
  extract_lets +onlyGivenNames -merge -useContext y0
  refine canon_ite ?_ ?_
  · extract_lets +onlyGivenNames -merge -useContext y1 y2 e3
    have he3 : Canon e3 := canon_upd h1
    clear_value e3
    exact Dev.stormReqShow_canon (Dev.wr_canon he3)
  · exact h1

theorem Dev.reelSteerWrite_canon {a1 a2 a3} (h1 : Canon a1) : Canon (Dev.reelSteerWrite a1 a2 a3) := by
  unfold Dev.reelSteerWrite
  extract_lets +onlyGivenNames -merge -useContext y0
  exact Dev.resteer_canon (Dev.regWrite32_canon h1)

theorem Dev.laneMove_canon {a1 a2 a3} (h1 : Canon a1) : Canon (Dev.laneMove a1 a2 a3) := by
  unfold Dev.laneMove
  extract_lets +onlyGivenNames -merge -useContext y0 y1 y2
  refine canon_foldl ?_ ?_
  · exact Dev.fifoStore_canon h1
  · intro x3 x4 hx5
    split
    · exact hx5
    · extract_lets +onlyGivenNames -merge -useContext y6
      exact Dev.fifoStore_canon hx5

theorem Dev.steerHandover_canon {a1 a2} (h1 : Canon a1) : Canon (Dev.steerHandover a1 a2) := by
  unfold Dev.steerHandover
  split
  · exact h1
  · refine canon_ite ?_ ?_
    · exact h1
    · extract_lets +onlyGivenNames -merge -useContext y0 e1
      have he1 : Canon e1 := canon_upd h1
      clear_value e1
      exact canon_ite (Dev.laneMove_canon he1) he1

theorem Dev.laneRetire_canon {a1 a2 a3} (h1 : Canon a1) : Canon (Dev.laneRetire a1 a2 a3) := by
  unfold Dev.laneRetire
  refine canon_ite ?_ ?_
  · exact h1
  · extract_lets +onlyGivenNames -merge -useContext y0 e1
    have he1 : Canon e1 := Dev.wr_canon h1
    clear_value e1
    extract_lets +onlyGivenNames -merge -useContext e2
    have he2 : Canon e2 := Dev.wr_canon (Dev.setF_canon he1)
    clear_value e2
    extract_lets +onlyGivenNames -merge -useContext e3
    have he3 : Canon e3 := Dev.retireLog_canon (Dev.raise_canon he2)
    clear_value e3
    extract_lets +onlyGivenNames -merge -useContext y4 y5 y6 e7
    have he7 : Canon e7 := canon_upd he3
    clear_value e7
    extract_lets +onlyGivenNames -merge -useContext e8
    have he8 : Canon e8 := Dev.resteer_canon (Dev.setLane_canon he7)
    clear_value e8
    exact Dev.laneMove_canon he8

theorem Dev.laneKatFail_canon {a1 a2} (h1 : Canon a1) : Canon (Dev.laneKatFail a1 a2) := by
  unfold Dev.laneKatFail
  exact Dev.laneRetire_canon (Dev.raise_canon h1)

theorem Dev.laneTransientFault_canon {a1 a2} (h1 : Canon a1) : Canon (Dev.laneTransientFault a1 a2) := by
  unfold Dev.laneTransientFault
  extract_lets +onlyGivenNames -merge -useContext y0 y1 y2 e3
  have he3 : Canon e3 := Dev.setLane_canon h1
  clear_value e3
  extract_lets +onlyGivenNames -merge -useContext e4
  have he4 : Canon e4 := Dev.bump_canon (Dev.wr_canon he3)
  clear_value e4
  extract_lets +onlyGivenNames -merge -useContext e5
  have he5 : Canon e5 := Dev.trouble_canon (Dev.raise_canon he4)
  clear_value e5
  extract_lets +onlyGivenNames -merge -useContext y6
  exact canon_ite (Dev.laneRetire_canon he5) he5

theorem Dev.lanePermanentFault_canon {a1 a2 a3} (h1 : Canon a1) : Canon (Dev.lanePermanentFault a1 a2 a3) := by
  unfold Dev.lanePermanentFault
  split
  · extract_lets +onlyGivenNames -merge -useContext y0 y1
    split
    · exact h1
    · exact Dev.setF_canon (Dev.bump_canon (Dev.laneRelease_canon h1))
  · exact Dev.laneRetire_canon (Dev.raise_canon h1)
  · exact Dev.laneRetire_canon (Dev.raise_canon h1)

theorem Dev.laneHang_canon {a1 a2} (h1 : Canon a1) : Canon (Dev.laneHang a1 a2) := by
  unfold Dev.laneHang
  exact Dev.laneRetire_canon (Dev.raise_canon h1)

theorem Dev.laneKatNow_canon {a1 a2} (h1 : Canon a1) : Canon (Dev.laneKatNow a1 a2) := by
  unfold Dev.laneKatNow
  extract_lets +onlyGivenNames -merge -useContext y0
  exact Dev.resteer_canon (Dev.setF_canon (Dev.setF_canon h1))

theorem Dev.laneKatDone_canon {a1 a2 a3} (h1 : Canon a1) : Canon (Dev.laneKatDone a1 a2 a3) := by
  unfold Dev.laneKatDone
  extract_lets +onlyGivenNames -merge -useContext y0 e1
  have he1 : Canon e1 := Dev.resteer_canon (Dev.clrF_canon (Dev.clrF_canon h1))
  clear_value e1
  exact canon_ite he1 (Dev.laneKatFail_canon he1)

end Sys2Proof.Machine
end

