-- ==== Sys2Proof/Laws/CanonGav.lean ====
section
/-! SUPPORT. Every operation of Machine/Gav.lean that answers a device keeps the stored data in canonical form. -/

namespace Sys2Proof.Machine

theorem Dev.journal_canon {a1 a2} (h1 : Canon a1) : Canon (Dev.journal a1 a2) := by
  unfold Dev.journal
  exact canon_upd h1

theorem Dev.nseqTake_canon {a1 a2} (h1 : Canon a1) : Canon (Dev.nseqTake a1 a2) := by
  unfold Dev.nseqTake
  extract_lets +onlyGivenNames -merge -useContext y0 e1
  have he1 : Canon e1 := canon_upd h1
  clear_value e1
  exact Dev.wr_canon he1

theorem Dev.streamBlk_canon {a1 a2} (h1 : Canon a1) {v y} (hv : Dev.streamBlk a1 a2 = some (v, y)) : Canon v := by
  unfold Dev.streamBlk at hv
  split at hv
  · have e : _ = v := congrArg Prod.fst (Option.some.inj hv)
    rw [← e]
    exact h1
  · split at hv
    · exact absurd hv (by simp)
    · have e : _ = v := congrArg Prod.fst (Option.some.inj hv)
      rw [← e]
      exact Dev.journal_canon (canon_upd h1)

theorem Dev.closeBlk_canon {a1 a2} (h1 : Canon a1) : Canon (Dev.closeBlk a1 a2) := by
  unfold Dev.closeBlk
  extract_lets +onlyGivenNames -merge -useContext y0 e1
  have he1 : Canon e1 := Dev.nseqTake_canon h1
  clear_value e1
  exact canon_upd he1

theorem Dev.sectorTake_canon {a1 a2} (h1 : Canon a1) {v y} (hv : Dev.sectorTake a1 a2 = some (v, y)) : Canon v := by
  unfold Dev.sectorTake at hv
  split at hv
  · exact absurd hv (by simp)
  · rename_i d k heq
    have hd : Canon d := Dev.streamBlk_canon h1 heq
    have e : _ = v := congrArg Prod.fst (Option.some.inj hv)
    rw [← e]
    exact canon_ite (Dev.closeBlk_canon (Dev.nseqTake_canon (canon_upd hd))) (Dev.nseqTake_canon (canon_upd hd))

theorem Dev.gavStall_canon {a1} (h1 : Canon a1) : Canon (Dev.gavStall a1) := by
  unfold Dev.gavStall
  exact canon_ite h1 (Dev.raise_canon (Dev.setF_canon (Dev.setF_canon h1)))

theorem Dev.segWrite_canon {a1 a2} (h1 : Canon a1) : Canon (Dev.segWrite a1 a2) := by
  unfold Dev.segWrite
  extract_lets +onlyGivenNames -merge -useContext y0
  split
  · exact Dev.gavStall_canon h1
  · rename_i v2 v3 v4 heq5
    have hv2 : Canon v2 := by
      refine Dev.sectorTake_canon ?_ heq5
      · exact h1
    extract_lets +onlyGivenNames -merge -useContext y6 y7 e8
    have he8 : Canon e8 := canon_upd hv2
    clear_value e8
    exact Dev.journal_canon (Dev.memWr_canon he8)

theorem Dev.segFromHost_canon {a1 a2} (h1 : Canon a1) : Canon (Dev.segFromHost a1 a2) := by
  unfold Dev.segFromHost
  exact canon_ite (canon_upd h1) h1

theorem Dev.segTouch_canon {a1 a2 a3} (h1 : Canon a1) : Canon (Dev.segTouch a1 a2 a3) := by
  unfold Dev.segTouch
  extract_lets +onlyGivenNames -merge -useContext y0 e1
  have he1 : Canon e1 := Dev.segFromHost_canon h1
  clear_value e1
  extract_lets +onlyGivenNames -merge -useContext y2 y3 e4
  have he4 : Canon e4 := canon_upd he1
  clear_value e4
  refine canon_ite ?_ ?_
  · exact he4
  · split
    · exact he4
    · extract_lets +onlyGivenNames -merge -useContext y5 e6
      have he6 : Canon e6 := canon_upd he4
      clear_value e6
      refine canon_ite ?_ ?_
      · exact Dev.segWrite_canon he6
      · split
        · exact he6
        · exact Dev.emit_canon (canon_upd he6)

theorem Dev.mapSet_canon {a1 a2 a3} (h1 : Canon a1) : Canon (Dev.mapSet a1 a2 a3) := by
  unfold Dev.mapSet
  extract_lets +onlyGivenNames -merge -useContext e0
  have he0 : Canon e0 := Dev.segTouch_canon h1
  clear_value e0
  exact canon_upd he0

theorem Dev.mapSect_canon {a1 a2 a3} (h1 : Canon a1) : Canon (Dev.mapSect a1 a2 a3) := by
  unfold Dev.mapSect
  exact Dev.journal_canon (Dev.mapSet_canon h1)

theorem Dev.mapTrim_canon {a1 a2 a3} (h1 : Canon a1) : Canon (Dev.mapTrim a1 a2 a3) := by
  unfold Dev.mapTrim
  extract_lets +onlyGivenNames -merge -useContext y0 e1
  have he1 : Canon e1 := canon_upd h1
  clear_value e1
  exact Dev.journal_canon he1

theorem Dev.sectorWrite_canon {a1 a2 a3 a4 a5 a6} (h1 : Canon a1) : Canon (Dev.sectorWrite a1 a2 a3 a4 a5 a6) := by
  unfold Dev.sectorWrite
  split
  · exact Dev.gavStall_canon h1
  · rename_i v1 v2 v3 heq4
    have hv1 : Canon v1 := by
      refine Dev.sectorTake_canon ?_ heq4
      · exact h1
    extract_lets +onlyGivenNames -merge -useContext y5
    exact Dev.mapSect_canon (canon_upd hv1)

theorem Dev.recCut_canon {a1 a2} (h1 : Canon a1) : Canon (Dev.recCut a1 a2) := by
  unfold Dev.recCut
  extract_lets +onlyGivenNames -merge -useContext y0 e1
  have he1 : Canon e1 := by
    unfold e1
    refine canon_foldN ?_ ?_
    · exact h1
    · intro x2 x3 hx4
      exact Dev.mapTrim_canon hx4
  clear_value e1
  extract_lets +onlyGivenNames -merge -useContext y5
  exact Dev.raise_canon (Dev.setF_canon (Dev.wr_canon he1))

theorem Dev.spareShow_canon {a1} (h1 : Canon a1) : Canon (Dev.spareShow a1) := by
  unfold Dev.spareShow
  extract_lets +onlyGivenNames -merge -useContext y0 y1 y2 e3
  have he3 : Canon e3 := Dev.wr_canon h1
  clear_value e3
  extract_lets +onlyGivenNames -merge -useContext e4
  have he4 : Canon e4 := canon_ite (Dev.raise_canon (Dev.setF_canon he3)) he3
  clear_value e4
  refine canon_ite ?_ ?_
  · extract_lets +onlyGivenNames -merge -useContext e5
    have he5 : Canon e5 := Dev.clrF_canon he4
    clear_value e5
    exact canon_upd he5
  · extract_lets +onlyGivenNames -merge -useContext e6
    have he6 : Canon e6 := canon_ite he4 (Dev.raise_canon (Dev.setF_canon he4))
    clear_value e6
    extract_lets +onlyGivenNames -merge -useContext y7
    exact canon_ite he6 (Dev.recCut_canon (canon_upd he6))

theorem Dev.markLost_canon {a1 a2} (h1 : Canon a1) : Canon (Dev.markLost a1 a2) := by
  unfold Dev.markLost
  extract_lets +onlyGivenNames -merge -useContext y0 e1
  have he1 : Canon e1 := Dev.mapSet_canon h1
  clear_value e1
  extract_lets +onlyGivenNames -merge -useContext y2 e3
  have he3 : Canon e3 := canon_upd he1
  clear_value e3
  extract_lets +onlyGivenNames -merge -useContext e4
  have he4 : Canon e4 := Dev.raise_canon (Dev.setF_canon (Dev.bump_canon he3))
  clear_value e4
  exact Dev.sample_canon (Dev.trouble_canon he4)

theorem Dev.setDieRet_canon {a1 a2 a3} (h1 : Canon a1) : Canon (Dev.setDieRet a1 a2 a3) := by
  unfold Dev.setDieRet
  exact Dev.wrBit_canon h1

theorem Dev.anchorsMove_canon {a1} (h1 : Canon a1) : Canon (Dev.anchorsMove a1) := by
  unfold Dev.anchorsMove
  extract_lets +onlyGivenNames -merge -useContext y0
  refine canon_ite ?_ ?_
  · exact h1
  · extract_lets +onlyGivenNames -merge -useContext y1 y2
    exact canon_upd h1

theorem Dev.dieRetire_canon {a1 a2 a3 a4} (h1 : Canon a1) : Canon (Dev.dieRetire a1 a2 a3 a4) := by
  unfold Dev.dieRetire
  refine canon_ite ?_ ?_
  · exact h1
  · extract_lets +onlyGivenNames -merge -useContext e0
    have he0 : Canon e0 := Dev.setDieRet_canon h1
    clear_value e0
    extract_lets +onlyGivenNames -merge -useContext y1 y2 e3
    have he3 : Canon e3 := canon_upd he0
    clear_value e3
    extract_lets +onlyGivenNames -merge -useContext y4 e5
    have he5 : Canon e5 := by
      unfold e5
      refine canon_foldl ?_ ?_
      · exact he3
      · intro x6 x7 hx8
        refine canon_ite ?_ ?_
        · exact Dev.markLost_canon hx8
        · split
          · exact hx8
          · exact Dev.sectorWrite_canon hx8
    clear_value e5
    extract_lets +onlyGivenNames -merge -useContext y9 e10
    have he10 : Canon e10 := by
      unfold e10
      refine canon_foldl ?_ ?_
      · exact he5
      · intro x11 x12 hx13
        exact Dev.segWrite_canon hx13
    clear_value e10
    extract_lets +onlyGivenNames -merge -useContext e14
    have he14 : Canon e14 := Dev.retireLog_canon (Dev.raise_canon (Dev.setF_canon he10))
    clear_value e14
    exact Dev.spareShow_canon (Dev.flag_canon (Dev.anchorsMove_canon he14))

theorem Dev.dieCount_canon {a1 a2} (h1 : Canon a1) : Canon (Dev.dieCount a1 a2) := by
  unfold Dev.dieCount
  extract_lets +onlyGivenNames -merge -useContext y0 y1 y2 e3
  have he3 : Canon e3 := canon_upd h1
  clear_value e3
  extract_lets +onlyGivenNames -merge -useContext y4
  exact canon_ite (Dev.dieRetire_canon he3) he3

theorem Dev.blkRetire_canon {a1 a2 a3} (h1 : Canon a1) : Canon (Dev.blkRetire a1 a2 a3) := by
  unfold Dev.blkRetire
  extract_lets +onlyGivenNames -merge -useContext y0 y1 e2
  have he2 : Canon e2 := canon_upd h1
  clear_value e2
  extract_lets +onlyGivenNames -merge -useContext e3
  have he3 : Canon e3 := Dev.journal_canon he2
  clear_value e3
  extract_lets +onlyGivenNames -merge -useContext e4
  have he4 : Canon e4 := Dev.raise_canon (Dev.setF_canon (Dev.bump_canon he3))
  clear_value e4
  extract_lets +onlyGivenNames -merge -useContext e5
  have he5 : Canon e5 := Dev.spareShow_canon (Dev.anchorsMove_canon (Dev.trouble_canon he4))
  clear_value e5
  exact canon_ite he5 (Dev.dieCount_canon he5)

theorem Dev.hardReads_canon {a1 a2 a3} (h1 : Canon a1) : Canon (Dev.hardReads a1 a2 a3) := by
  unfold Dev.hardReads
  refine canon_foldl ?_ ?_
  · exact h1
  · intro x0 x1 hx2
    split
    · exact hx2
    · refine canon_ite ?_ ?_
      · exact hx2
      · extract_lets +onlyGivenNames -merge -useContext y3
        refine canon_ite ?_ ?_
        · exact Dev.trouble_canon (Dev.bump_canon hx2)
        · extract_lets +onlyGivenNames -merge -useContext e4
          have he4 : Canon e4 := Dev.markLost_canon hx2
          clear_value e4
          exact canon_ite he4 (canon_upd he4)

theorem Dev.progIssue_canon {a1 a2 a3 a4 a5} (h1 : Canon a1) : Canon (Dev.progIssue a1 a2 a3 a4 a5) := by
  unfold Dev.progIssue
  split
  · extract_lets +onlyGivenNames -merge -useContext y1
    exact Dev.gavStall_canon (canon_upd h1)
  · rename_i v2 v3 v4 heq5
    have hv2 : Canon v2 := by
      refine Dev.sectorTake_canon ?_ heq5
      · exact h1
    extract_lets +onlyGivenNames -merge -useContext y6
    exact canon_upd hv2

theorem Dev.recIssue_canon {a1 a2} (h1 : Canon a1) : Canon (Dev.recIssue a1 a2) := by
  unfold Dev.recIssue
  extract_lets +onlyGivenNames -merge -useContext y0
  refine canon_ite ?_ ?_
  · exact Dev.gavStall_canon h1
  · extract_lets +onlyGivenNames -merge -useContext y1 e2
    have he2 : Canon e2 := Dev.progIssue_canon h1
    clear_value e2
    exact canon_upd he2

theorem Dev.extIssue_canon {a1 a2} (h1 : Canon a1) : Canon (Dev.extIssue a1 a2) := by
  unfold Dev.extIssue
  extract_lets +onlyGivenNames -merge -useContext y0
  refine canon_ite ?_ ?_
  · exact Dev.gavStall_canon h1
  · extract_lets +onlyGivenNames -merge -useContext y1 e2
    have he2 : Canon e2 := Dev.progIssue_canon h1
    clear_value e2
    exact canon_upd he2

theorem Dev.gavSectorProgram_canon {a1} (h1 : Canon a1) : Canon (Dev.gavSectorProgram a1) := by
  unfold Dev.gavSectorProgram
  extract_lets +onlyGivenNames -merge -useContext y0 y1
  exact canon_ite h1 (canon_ite (Dev.recIssue_canon h1) (canon_ite (Dev.extIssue_canon h1) h1))

theorem Dev.partialIssue_canon {a1} (h1 : Canon a1) : Canon (Dev.partialIssue a1) := by
  unfold Dev.partialIssue
  extract_lets +onlyGivenNames -merge -useContext y0 e1
  have he1 : Canon e1 := canon_ite (Dev.recIssue_canon h1) h1
  clear_value e1
  extract_lets +onlyGivenNames -merge -useContext y2
  exact canon_ite (Dev.extIssue_canon he1) he1

theorem Dev.gavPartialFlush_canon {a1} (h1 : Canon a1) : Canon (Dev.gavPartialFlush a1) := by
  unfold Dev.gavPartialFlush
  exact canon_ite (Dev.partialIssue_canon h1) h1

theorem Dev.flushedShow_canon {a1} (h1 : Canon a1) : Canon (Dev.flushedShow a1) := by
  unfold Dev.flushedShow
  extract_lets +onlyGivenNames -merge -useContext y0 y1 y2 e3
  have he3 : Canon e3 := canon_ite (Dev.wr_canon h1) h1
  clear_value e3
  extract_lets +onlyGivenNames -merge -useContext y4 y5 y6 e7
  have he7 : Canon e7 := canon_upd he3
  clear_value e7
  refine canon_foldl ?_ ?_
  · exact he7
  · intro x8 x9 hx10
    exact Dev.okRes_canon hx10

theorem Dev.writeDone_canon {a1 a2} (h1 : Canon a1) : Canon (Dev.writeDone a1 a2) := by
  unfold Dev.writeDone
  split
  · exact h1
  · extract_lets +onlyGivenNames -merge -useContext y0
    exact canon_ite (Dev.okRes_canon (canon_upd h1)) (canon_upd h1)

theorem Dev.progGood_canon {a1 a2 a3} (h1 : Canon a1) : Canon (Dev.progGood a1 a2 a3) := by
  unfold Dev.progGood
  extract_lets +onlyGivenNames -merge -useContext y0 e1
  have he1 : Canon e1 := Dev.mapSect_canon (canon_upd h1)
  clear_value e1
  refine canon_ite ?_ ?_
  · extract_lets +onlyGivenNames -merge -useContext y2 y3 e4
    have he4 : Canon e4 := canon_upd he1
    clear_value e4
    extract_lets +onlyGivenNames -merge -useContext y5 e6
    have he6 : Canon e6 := canon_ite (Dev.wr_canon he4) he4
    clear_value e6
    exact Dev.flushedShow_canon he6
  · refine canon_ite ?_ ?_
    · exact Dev.flushedShow_canon (canon_upd he1)
    · refine canon_getD_map ?_ ?_
      · intro x7
        exact Dev.writeDone_canon he1
      · exact he1

theorem Dev.gavProgramDone_canon {a1 a2} (h1 : Canon a1) : Canon (Dev.gavProgramDone a1 a2) := by
  unfold Dev.gavProgramDone
  split
  · exact h1
  · split
    · split
      · exact Dev.gavStall_canon h1
      · rename_i v1 v2 v3 heq4
        have hv1 : Canon v1 := by
          refine Dev.sectorTake_canon ?_ heq4
          · exact h1
        exact canon_upd hv1
    · refine canon_ite ?_ ?_
      · exact Dev.progGood_canon (canon_upd h1)
      · extract_lets +onlyGivenNames -merge -useContext e5
        have he5 : Canon e5 := Dev.blkRetire_canon h1
        clear_value e5
        split
        · exact Dev.gavStall_canon (canon_upd he5)
        · rename_i v7 v8 v9 heq10
          have hv7 : Canon v7 := by
            refine Dev.sectorTake_canon ?_ heq10
            · exact he5
          exact canon_upd hv7

theorem Dev.rootCheckpoint_canon {a1} (h1 : Canon a1) : Canon (Dev.rootCheckpoint a1) := by
  unfold Dev.rootCheckpoint
  extract_lets +onlyGivenNames -merge -useContext y0 e1
  have he1 : Canon e1 := by
    unfold e1
    refine canon_foldl ?_ ?_
    · exact h1
    · intro x2 x3 hx4
      exact Dev.segWrite_canon hx4
  clear_value e1
  extract_lets +onlyGivenNames -merge -useContext y5
  exact canon_upd he1

theorem Dev.discardEnd_canon {a1 a2} (h1 : Canon a1) : Canon (Dev.discardEnd a1 a2) := by
  unfold Dev.discardEnd
  extract_lets +onlyGivenNames -merge -useContext e0
  have he0 : Canon e0 := by
    unfold e0
    refine canon_foldl ?_ ?_
    · exact h1
    · intro x1 x2 hx3
      exact Dev.journal_canon hx3
  clear_value e0
  extract_lets +onlyGivenNames -merge -useContext e4
  have he4 : Canon e4 := Dev.raise_canon he0
  clear_value e4
  split
  · exact Dev.setF_canon he4
  · exact Dev.okRes_canon he4

theorem Dev.discardsEnd_canon {a1} (h1 : Canon a1) : Canon (Dev.discardsEnd a1) := by
  unfold Dev.discardsEnd
  extract_lets +onlyGivenNames -merge -useContext y0 y1 e2
  have he2 : Canon e2 := canon_upd h1
  clear_value e2
  refine canon_foldl ?_ ?_
  · exact he2
  · intro x3 x4 hx5
    exact Dev.discardEnd_canon hx5

theorem Dev.zeroStaged_canon {a1 a2 a3} (h1 : Canon a1) : Canon (Dev.zeroStaged a1 a2 a3) := by
  unfold Dev.zeroStaged
  refine canon_foldN ?_ ?_
  · exact h1
  · intro x0 x1 hx2
    extract_lets +onlyGivenNames -merge -useContext y3 y4
    refine canon_ite ?_ ?_
    · exact hx2
    · extract_lets +onlyGivenNames -merge -useContext y5 e6
      have he6 : Canon e6 := by
        unfold e6
        refine canon_foldN ?_ ?_
        · exact hx2
        · intro x7 x8 hx9
          exact Dev.memWrB_canon hx9
      clear_value e6
      exact Dev.memWrB_canon he6

theorem Dev.discardBegin_canon {a1 a2} (h1 : Canon a1) : Canon (Dev.discardBegin a1 a2) := by
  unfold Dev.discardBegin
  extract_lets +onlyGivenNames -merge -useContext e0
  have he0 : Canon e0 := by
    unfold e0
    split
    · exact h1
    · exact Dev.zeroStaged_canon h1
  clear_value e0
  extract_lets +onlyGivenNames -merge -useContext y1 e2
  have he2 : Canon e2 := by
    unfold e2
    refine canon_foldl ?_ ?_
    · exact he0
    · intro x3 x4 hx5
      exact Dev.closeBlk_canon hx5
  clear_value e2
  exact canon_upd he2

theorem Dev.afterJournal_canon {a1} (h1 : Canon a1) : Canon (Dev.afterJournal a1) := by
  unfold Dev.afterJournal
  extract_lets +onlyGivenNames -merge -useContext y0 y1 e2
  have he2 : Canon e2 := canon_upd h1
  clear_value e2
  extract_lets +onlyGivenNames -merge -useContext e3
  have he3 : Canon e3 := by
    unfold e3
    refine canon_foldl ?_ ?_
    · exact he2
    · intro x4 x5 hx6
      exact Dev.okRes_canon hx6
  clear_value e3
  extract_lets +onlyGivenNames -merge -useContext y7 y8 e9
  have he9 : Canon e9 := canon_upd he3
  clear_value e9
  refine Dev.discardsEnd_canon ?_
  · refine canon_foldl ?_ ?_
    · exact he9
    · intro x10 x11 hx12
      exact Dev.discardBegin_canon hx12

theorem Dev.gavJournalSector_canon {a1 a2} (h1 : Canon a1) : Canon (Dev.gavJournalSector a1 a2) := by
  unfold Dev.gavJournalSector
  refine canon_ite ?_ ?_
  · exact h1
  · extract_lets +onlyGivenNames -merge -useContext y0
    split
    · exact Dev.gavStall_canon h1
    · rename_i v2 v3 v4 heq5
      have hv2 : Canon v2 := by
        refine Dev.sectorTake_canon ?_ heq5
        · exact h1
      extract_lets +onlyGivenNames -merge -useContext y6 y7 e8
      have he8 : Canon e8 := canon_upd hv2
      clear_value e8
      refine canon_ite ?_ ?_
      · exact Dev.blkRetire_canon he8
      · extract_lets +onlyGivenNames -merge -useContext y9 y10 y11 e12
        have he12 : Canon e12 := canon_upd he8
        clear_value e12
        exact Dev.afterJournal_canon (canon_ite (Dev.rootCheckpoint_canon he12) he12)

theorem Dev.gavSysvalWrite_canon {a1 a2 a3} (h1 : Canon a1) : Canon (Dev.gavSysvalWrite a1 a2 a3) := by
  unfold Dev.gavSysvalWrite
  exact canon_ite (Dev.journal_canon h1) h1

theorem Dev.gcBegin_canon {a1 a2 a3} (h1 : Canon a1) : Canon (Dev.gcBegin a1 a2 a3) := by
  unfold Dev.gcBegin
  exact Dev.setF_canon (canon_upd h1)

theorem Dev.gavGcStart_canon {a1 a2} (h1 : Canon a1) : Canon (Dev.gavGcStart a1 a2) := by
  unfold Dev.gavGcStart
  refine canon_ite ?_ ?_
  · exact h1
  · extract_lets +onlyGivenNames -merge -useContext y0
    clear_value y0
    split
    · exact Dev.gcBegin_canon h1
    · extract_lets +onlyGivenNames -merge -useContext y1 y2 y3 y4
      refine canon_ite ?_ ?_
      · exact h1
      · refine canon_ite ?_ ?_
        · exact Dev.setF_canon h1
        · split
          · exact h1
          · extract_lets +onlyGivenNames -merge -useContext y5 e6
            have he6 : Canon e6 := canon_upd h1
            clear_value e6
            exact Dev.gcBegin_canon (Dev.clrF_canon he6)

theorem Dev.gcCopy_canon {a1 a2 a3 a4} (h1 : Canon a1) : Canon1 (Dev.gcCopy a1 a2 a3 a4) := by
  unfold Dev.gcCopy
  split
  · exact canon_mk1 h1
  · split
    · exact canon_mk1 (Dev.gavStall_canon h1)
    · rename_i v1 v2 v3 heq4
      have hv1 : Canon v1 := by
        refine Dev.sectorTake_canon ?_ heq4
        · exact h1
      extract_lets +onlyGivenNames -merge -useContext y5 e6
      have he6 : Canon e6 := canon_upd hv1
      clear_value e6
      exact canon_mk1 (Dev.mapSect_canon he6)

theorem Dev.gavGcCopyDone_canon {a1 a2 a3 a4} (h1 : Canon a1) : Canon (Dev.gavGcCopyDone a1 a2 a3 a4) := by
  unfold Dev.gavGcCopyDone
  split
  · exact h1
  · refine canon_ite ?_ ?_
    · exact h1
    · refine canon_ite ?_ ?_
      · split
        · exact h1
        · exact Dev.blkRetire_canon h1
      · extract_lets +onlyGivenNames -merge -useContext e0
        have he0 : Canon e0 := Dev.hardReads_canon h1
        clear_value e0
        split
        · rename_i v1 v2 heq3
          have hv1 : Canon v1 := by
            refine canon_fst_eq heq3 ?_
            refine canon_foldl1 ?_ ?_
            · exact canon_mk1 he0
            · intro x4 x5 hx6
              extract_lets +onlyGivenNames -merge -useContext y7
              have hy7 : Canon1 y7 := Dev.gcCopy_canon (Canon1.fst hx6)
              clear_value y7
              exact canon_mk1 (Canon1.fst hy7)
          extract_lets +onlyGivenNames -merge -useContext e8
          have he8 : Canon e8 := by
            unfold e8
            refine canon_foldl ?_ ?_
            · exact hv1
            · intro x9 x10 hx11
              exact Dev.segWrite_canon hx11
          clear_value e8
          extract_lets +onlyGivenNames -merge -useContext y12 y13
          exact canon_upd he8

theorem Dev.gcFinish_canon {a1 a2 a3} (h1 : Canon a1) : Canon (Dev.gcFinish a1 a2 a3) := by
  unfold Dev.gcFinish
  extract_lets +onlyGivenNames -merge -useContext y0 y1 y2 y3 e4
  have he4 : Canon e4 := canon_upd h1
  clear_value e4
  extract_lets +onlyGivenNames -merge -useContext e5
  have he5 : Canon e5 := Dev.flag_canon he4
  clear_value e5
  extract_lets +onlyGivenNames -merge -useContext e6
  have he6 : Canon e6 := canon_ite (Dev.clrF_canon he5) he5
  clear_value e6
  extract_lets +onlyGivenNames -merge -useContext y7 y8 e9
  have he9 : Canon e9 := canon_upd he6
  clear_value e9
  refine Dev.discardsEnd_canon ?_
  · refine canon_foldl ?_ ?_
    · exact he9
    · intro x10 x11 hx12
      exact Dev.okRes_canon hx12

theorem Dev.gavGcErase_canon {a1 a2} (h1 : Canon a1) : Canon (Dev.gavGcErase a1 a2) := by
  unfold Dev.gavGcErase
  split
  · exact h1
  · refine canon_ite ?_ ?_
    · exact h1
    · refine canon_ite ?_ ?_
      · exact Dev.gcFinish_canon (Dev.blkRetire_canon h1)
      · extract_lets +onlyGivenNames -merge -useContext y0 y1 e2
        have he2 : Canon e2 := canon_upd h1
        clear_value e2
        exact Dev.journal_canon he2

theorem Dev.gavEraseDone_canon {a1 a2 a3} (h1 : Canon a1) : Canon (Dev.gavEraseDone a1 a2 a3) := by
  unfold Dev.gavEraseDone
  split
  · exact h1
  · refine canon_ite ?_ ?_
    · exact h1
    · refine canon_ite ?_ ?_
      · exact Dev.gcFinish_canon (Dev.blkRetire_canon h1)
      · extract_lets +onlyGivenNames -merge -useContext y0 y1 y2 e3
        have he3 : Canon e3 := canon_upd h1
        clear_value e3
        extract_lets +onlyGivenNames -merge -useContext y4 e5
        have he5 : Canon e5 := canon_upd he3
        clear_value e5
        extract_lets +onlyGivenNames -merge -useContext e6
        have he6 : Canon e6 := Dev.bump_canon he5
        clear_value e6
        extract_lets +onlyGivenNames -merge -useContext e7
        have he7 : Canon e7 := canon_ite (Dev.blkRetire_canon he6) (canon_ite (Dev.blkRetire_canon he6) (Dev.journal_canon he6))
        clear_value e7
        exact Dev.gcFinish_canon he7

theorem Dev.gavDieFault_canon {a1 a2 a3 a4} (h1 : Canon a1) : Canon (Dev.gavDieFault a1 a2 a3 a4) := by
  unfold Dev.gavDieFault
  exact canon_ite h1 (canon_ite (Dev.dieRetire_canon h1) (Dev.trouble_canon h1))

theorem Dev.gavGeom_canon {a1} (h1 : Canon a1) : Canon (Dev.gavGeom a1) := by
  unfold Dev.gavGeom
  extract_lets +onlyGivenNames -merge -useContext e0
  have he0 : Canon e0 := Dev.wr_canon (Dev.wr_canon h1)
  clear_value e0
  extract_lets +onlyGivenNames -merge -useContext e1
  have he1 : Canon e1 := Dev.wr_canon (Dev.wr_canon he0)
  clear_value e1
  exact Dev.wr_canon (Dev.wr_canon he1)

theorem Dev.gavCaps_canon {a1} (h1 : Canon a1) : Canon (Dev.gavCaps a1) := by
  unfold Dev.gavCaps
  extract_lets +onlyGivenNames -merge -useContext e0
  have he0 : Canon e0 := Dev.wr_canon (Dev.wr_canon h1)
  clear_value e0
  exact Dev.wr_canon (Dev.wr_canon he0)

theorem Dev.gavMount_canon {a1 a2 a3} (h1 : Canon a1) : Canon (Dev.gavMount a1 a2 a3) := by
  unfold Dev.gavMount
  refine canon_ite ?_ ?_
  · exact h1
  · extract_lets +onlyGivenNames -merge -useContext e0
    have he0 : Canon e0 := Dev.gavGeom_canon h1
    clear_value e0
    extract_lets +onlyGivenNames -merge -useContext y1 e2
    have he2 : Canon e2 := by
      unfold e2
      refine canon_ite ?_ ?_
      · exact canon_upd he0
      · refine canon_foldl ?_ ?_
        · exact he0
        · intro x3 x4 hx5
          exact Dev.dieRetire_canon hx5
    clear_value e2
    extract_lets +onlyGivenNames -merge -useContext y6
    refine canon_ite ?_ ?_
    · exact canon_upd he2
    · refine canon_ite ?_ ?_
      · exact Dev.setF_canon (canon_upd he2)
      · extract_lets +onlyGivenNames -merge -useContext y7 y8 y9 e10
        have he10 : Canon e10 := Dev.gavCaps_canon (Dev.anchorsMove_canon (canon_upd he2))
        clear_value e10
        extract_lets +onlyGivenNames -merge -useContext e11
        have he11 : Canon e11 := Dev.wr_canon he10
        clear_value e11
        extract_lets +onlyGivenNames -merge -useContext y12 y13 y14 y15 e16
        have he16 : Canon e16 := Dev.wr_canon (Dev.wr_canon he11)
        clear_value e16
        extract_lets +onlyGivenNames -merge -useContext y17 y18 e19
        have he19 : Canon e19 := canon_upd he16
        clear_value e19
        exact Dev.discardsEnd_canon (Dev.spareShow_canon he19)

theorem Dev.commitLoad_canon {a1} (h1 : Canon a1) : Canon (Dev.commitLoad a1) := by
  unfold Dev.commitLoad
  extract_lets +onlyGivenNames -merge -useContext y0 y1
  refine canon_ite ?_ ?_
  · exact canon_upd h1
  · extract_lets +onlyGivenNames -merge -useContext y2 e3
    have he3 : Canon e3 := canon_upd h1
    clear_value e3
    exact Dev.wr_canon (Dev.wr_canon he3)

theorem Dev.epochLoad_canon {a1 a2} (h1 : Canon a1) : Canon (Dev.epochLoad a1 a2) := by
  unfold Dev.epochLoad
  exact Dev.flag_canon (Dev.wr_canon h1)

theorem Dev.gavMountDone_canon {a1} (h1 : Canon a1) : Canon (Dev.gavMountDone a1) := by
  unfold Dev.gavMountDone
  split
  · exact h1
  · extract_lets +onlyGivenNames -merge -useContext y0 e1
    have he1 : Canon e1 := Dev.clrF_canon (canon_upd h1)
    clear_value e1
    extract_lets +onlyGivenNames -merge -useContext e2
    have he2 : Canon e2 := Dev.raise_canon he1
    clear_value e2
    refine canon_ite ?_ ?_
    · exact Dev.setF_canon he2
    · refine canon_ite ?_ ?_
      · exact he2
      · extract_lets +onlyGivenNames -merge -useContext e3
        have he3 : Canon e3 := Dev.setF_canon he2
        clear_value e3
        extract_lets +onlyGivenNames -merge -useContext e4
        have he4 : Canon e4 := Dev.commitLoad_canon he3
        clear_value e4
        extract_lets +onlyGivenNames -merge -useContext e5
        have he5 : Canon e5 := by
          unfold e5
          refine canon_ite ?_ ?_
          · exact he4
          · refine canon_getD_map ?_ ?_
            · intro x6
              exact Dev.epochLoad_canon he4
            · exact he4
        clear_value e5
        extract_lets +onlyGivenNames -merge -useContext y7 e8
        have he8 : Canon e8 := by
          unfold e8
          refine canon_ite ?_ ?_
          · exact he5
          · refine canon_getD_map ?_ ?_
            · intro x9
              exact Dev.wr_canon (canon_upd he5)
            · exact he5
        clear_value e8
        exact Dev.commitRecover_canon he8

theorem Dev.gavFlushAll_canon {a1} (h1 : Canon a1) : Canon (Dev.gavFlushAll a1) := by
  unfold Dev.gavFlushAll
  extract_lets +onlyGivenNames -merge -useContext y0 e1
  have he1 : Canon e1 := by
    unfold e1
    refine canon_foldN ?_ ?_
    · exact h1
    · intro x2 x3 hx4
      exact Dev.partialIssue_canon hx4
  clear_value e1
  extract_lets +onlyGivenNames -merge -useContext e5
  have he5 : Canon e5 := by
    unfold e5
    refine canon_foldN ?_ ?_
    · exact he1
    · intro x6 x7 hx8
      exact Dev.gavProgramDone_canon hx8
  clear_value e5
  refine canon_foldN ?_ ?_
  · exact he5
  · intro x9 x10 hx11
    exact Dev.gavJournalSector_canon hx11

theorem Dev.gavCleanStop_canon {a1} (h1 : Canon a1) : Canon (Dev.gavCleanStop a1) := by
  unfold Dev.gavCleanStop
  refine canon_ite ?_ ?_
  · exact h1
  · extract_lets +onlyGivenNames -merge -useContext e0
    have he0 : Canon e0 := Dev.rootCheckpoint_canon (Dev.gavFlushAll_canon h1)
    clear_value e0
    extract_lets +onlyGivenNames -merge -useContext e1
    have he1 : Canon e1 := by
      unfold e1
      refine canon_foldN ?_ ?_
      · exact he0
      · intro x2 x3 hx4
        exact Dev.gavJournalSector_canon hx4
    clear_value e1
    exact canon_upd he1

theorem Dev.gavEnable_canon {a1 a2} (h1 : Canon a1) : Canon (Dev.gavEnable a1 a2) := by
  unfold Dev.gavEnable
  extract_lets +onlyGivenNames -merge -useContext y0 e1
  have he1 : Canon e1 := canon_ite (Dev.clrF_canon (Dev.clrF_canon (Dev.gavCleanStop_canon h1))) h1
  clear_value e1
  extract_lets +onlyGivenNames -merge -useContext e2
  have he2 : Canon e2 := Dev.regWrite32_canon he1
  clear_value e2
  extract_lets +onlyGivenNames -merge -useContext y3 y4
  exact canon_ite he2 (canon_ite (Dev.setF_canon (Dev.commitRwl_canon he2)) (Dev.setF_canon (Dev.clrF_canon he2)))

theorem Dev.gavBoot_canon {a1} (h1 : Canon a1) : Canon (Dev.gavBoot a1) := by
  unfold Dev.gavBoot
  exact canon_ite h1 (Dev.gavEnable_canon h1)

theorem Dev.gavServed_canon {a1 a2 a3} (h1 : Canon a1) (h3 : ∀ w0, Canon w0 → Canon (a3 w0)) : Canon (Dev.gavServed a1 a2 a3) := by
  unfold Dev.gavServed
  refine canon_ite ?_ ?_
  · exact Dev.fail_canon h1
  · refine canon_ite ?_ ?_
    · exact Dev.fail_canon h1
    · refine h3 _ ?_
      · exact h1

theorem Dev.arcRead_canon {a1 a2 a3} (h1 : Canon a1) : Canon (Dev.arcRead a1 a2 a3) := by
  unfold Dev.arcRead
  refine Dev.withFields_canon ?_ ?_
  · exact h1
  · intro x0 hx1
    refine Dev.gavServed_canon ?_ ?_
    · exact hx1
    · intro x2 hx3
      extract_lets +onlyGivenNames -merge -useContext y4 y5
      refine canon_ite ?_ ?_
      · exact Dev.fail_canon hx3
      · refine canon_ite ?_ ?_
        · exact Dev.fail_canon hx3
        · extract_lets +onlyGivenNames -merge -useContext y6 e7
          have he7 : Canon e7 := Dev.hardReads_canon hx3
          clear_value e7
          extract_lets +onlyGivenNames -merge -useContext y8 y9 y10 y11
          exact canon_ite (Dev.finish_canon he7) (Dev.finish_canon he7)

theorem Dev.arcBlkRead_canon {a1 a2 a3} (h1 : Canon a1) : Canon (Dev.arcBlkRead a1 a2 a3) := by
  unfold Dev.arcBlkRead
  refine Dev.withFields_canon ?_ ?_
  · exact h1
  · intro x0 hx1
    refine Dev.gavServed_canon ?_ ?_
    · exact hx1
    · intro x2 hx3
      extract_lets +onlyGivenNames -merge -useContext y4 y5
      refine canon_ite ?_ ?_
      · exact Dev.fail_canon hx3
      · refine canon_ite ?_ ?_
        · exact Dev.fail_canon hx3
        · extract_lets +onlyGivenNames -merge -useContext e6
          have he6 : Canon e6 := Dev.hardReads_canon hx3
          clear_value e6
          extract_lets +onlyGivenNames -merge -useContext y7 y8
          exact Dev.finish_canon he6

theorem Dev.arcBlkWrite_canon {a1 a2} (h1 : Canon a1) : Canon (Dev.arcBlkWrite a1 a2) := by
  unfold Dev.arcBlkWrite
  refine Dev.withFields_canon ?_ ?_
  · exact h1
  · intro x0 hx1
    refine Dev.gavServed_canon ?_ ?_
    · exact hx1
    · intro x2 hx3
      extract_lets +onlyGivenNames -merge -useContext y4 y5
      refine canon_ite ?_ ?_
      · exact Dev.fail_canon hx3
      · refine canon_ite ?_ ?_
        · exact Dev.fail_canon hx3
        · refine canon_ite ?_ ?_
          · exact Dev.fail_canon hx3
          · refine canon_ite ?_ ?_
            · exact Dev.fail_canon hx3
            · refine canon_ite ?_ ?_
              · exact Dev.okRes_canon hx3
              · extract_lets +onlyGivenNames -merge -useContext y6 e7
                have he7 : Canon e7 := canon_upd hx3
                clear_value e7
                refine canon_foldl ?_ ?_
                · exact he7
                · intro x8 x9 hx10
                  exact Dev.progIssue_canon hx10

theorem Dev.arcTrim_canon {a1 a2} (h1 : Canon a1) : Canon (Dev.arcTrim a1 a2) := by
  unfold Dev.arcTrim
  refine Dev.withFields_canon ?_ ?_
  · exact h1
  · intro x0 hx1
    refine Dev.gavServed_canon ?_ ?_
    · exact hx1
    · intro x2 hx3
      refine canon_ite ?_ ?_
      · exact Dev.fail_canon hx3
      · extract_lets +onlyGivenNames -merge -useContext y4 y5 e6
        have he6 : Canon e6 := Dev.mapTrim_canon hx3
        clear_value e6
        exact canon_upd he6

theorem Dev.discard_canon {a1 a2} (h1 : Canon a1) : Canon (Dev.discard a1 a2) := by
  unfold Dev.discard
  extract_lets +onlyGivenNames -merge -useContext e0
  have he0 : Canon e0 := by
    unfold e0
    refine canon_foldl ?_ ?_
    · exact h1
    · intro x1 x2 hx3
      exact Dev.journal_canon (Dev.mapTrim_canon hx3)
  clear_value e0
  exact canon_upd he0

theorem Dev.arcSdiscard_canon {a1 a2} (h1 : Canon a1) : Canon (Dev.arcSdiscard a1 a2) := by
  unfold Dev.arcSdiscard
  refine Dev.withFields_canon ?_ ?_
  · exact h1
  · intro x0 hx1
    refine Dev.gavServed_canon ?_ ?_
    · exact hx1
    · intro x2 hx3
      exact canon_ite (Dev.fail_canon hx3) (Dev.discard_canon hx3)

theorem Dev.arcFlush_canon {a1 a2} (h1 : Canon a1) : Canon (Dev.arcFlush a1 a2) := by
  unfold Dev.arcFlush
  refine Dev.withFields_canon ?_ ?_
  · exact h1
  · intro x0 hx1
    refine Dev.gavServed_canon ?_ ?_
    · exact hx1
    · intro x2 hx3
      extract_lets +onlyGivenNames -merge -useContext y4
      exact canon_ite (Dev.okRes_canon hx3) (canon_upd hx3)

theorem Dev.anchorsWrite_canon {a1} (h1 : Canon a1) : Canon (Dev.anchorsWrite a1) := by
  unfold Dev.anchorsWrite
  extract_lets +onlyGivenNames -merge -useContext y0 e1
  have he1 : Canon e1 := canon_upd h1
  clear_value e1
  extract_lets +onlyGivenNames -merge -useContext y2
  exact canon_upd he1

theorem Dev.gavFormat_canon {a1 a2} (h1 : Canon a1) : Canon (Dev.gavFormat a1 a2) := by
  unfold Dev.gavFormat
  refine Dev.withFields_canon ?_ ?_
  · exact h1
  · intro x0 hx1
    extract_lets +onlyGivenNames -merge -useContext y2 y3 y4
    refine canon_ite ?_ ?_
    · exact Dev.fail_canon hx1
    · refine canon_ite ?_ ?_
      · exact Dev.fail_canon hx1
      · extract_lets +onlyGivenNames -merge -useContext y5 y6 e7
        have he7 : Canon e7 := Dev.gavGeom_canon (canon_upd hx1)
        clear_value e7
        extract_lets +onlyGivenNames -merge -useContext e8
        have he8 : Canon e8 := Dev.gavCaps_canon (Dev.anchorsWrite_canon he7)
        clear_value e8
        extract_lets +onlyGivenNames -merge -useContext e9
        have he9 : Canon e9 := Dev.wr_canon (Dev.wr_canon he8)
        clear_value e9
        extract_lets +onlyGivenNames -merge -useContext e10
        have he10 : Canon e10 := Dev.flag_canon (Dev.clrF_canon he9)
        clear_value e10
        exact Dev.okRes_canon (Dev.spareShow_canon he10)

theorem Dev.gavInfo_canon {a1 a2} (h1 : Canon a1) : Canon (Dev.gavInfo a1 a2) := by
  unfold Dev.gavInfo
  refine Dev.withFields_canon ?_ ?_
  · exact h1
  · intro x0 hx1
    exact Dev.okRes_canon hx1

theorem Dev.sectorErasePart_canon {a1 a2 a3 a4 a5} (h1 : Canon a1) : Canon (Dev.sectorErasePart a1 a2 a3 a4 a5) := by
  unfold Dev.sectorErasePart
  split
  · exact Dev.sectorWrite_canon h1
  · exact h1

theorem Dev.sdEraseRecs_canon {a1 a2 a3 a4} (h1 : Canon a1) : Canon (Dev.sdEraseRecs a1 a2 a3 a4) := by
  unfold Dev.sdEraseRecs
  exact Dev.sectorErasePart_canon h1

theorem Dev.sdEraseUnits_canon {a1 a2 a3} (h1 : Canon a1) : Canon (Dev.sdEraseUnits a1 a2 a3) := by
  unfold Dev.sdEraseUnits
  exact Dev.sectorErasePart_canon h1

theorem Dev.gavSdiscardSeq_canon {a1 a2} (h1 : Canon a1) : Canon (Dev.gavSdiscardSeq a1 a2) := by
  unfold Dev.gavSdiscardSeq
  refine Dev.withFields_canon ?_ ?_
  · exact h1
  · intro x0 hx1
    refine Dev.gavServed_canon ?_ ?_
    · exact hx1
    · intro x2 hx3
      extract_lets +onlyGivenNames -merge -useContext y4 y5
      refine canon_ite ?_ ?_
      · exact Dev.fail_canon hx3
      · extract_lets +onlyGivenNames -merge -useContext y6 y7 y8 y9 y10 e11
        have he11 : Canon e11 := by
          unfold e11
          refine canon_foldl ?_ ?_
          · exact hx3
          · intro x12 x13 hx14
            exact Dev.sdEraseRecs_canon hx14
        clear_value e11
        extract_lets +onlyGivenNames -merge -useContext y15 e16
        have he16 : Canon e16 := by
          unfold e16
          refine canon_foldl ?_ ?_
          · exact he11
          · intro x17 x18 hx19
            exact Dev.sdEraseUnits_canon hx19
        clear_value e16
        extract_lets +onlyGivenNames -merge -useContext y20
        exact Dev.discard_canon he16

theorem Dev.gavGcNow_canon {a1 a2} (h1 : Canon a1) : Canon (Dev.gavGcNow a1 a2) := by
  unfold Dev.gavGcNow
  refine Dev.withFields_canon ?_ ?_
  · exact h1
  · intro x0 hx1
    refine Dev.gavServed_canon ?_ ?_
    · exact hx1
    · intro x2 hx3
      extract_lets +onlyGivenNames -merge -useContext y4 y5
      exact canon_ite (Dev.okRes_canon hx3) (canon_upd hx3)

theorem Dev.gavMarkLostClear_canon {a1 a2} (h1 : Canon a1) : Canon (Dev.gavMarkLostClear a1 a2) := by
  unfold Dev.gavMarkLostClear
  refine Dev.withFields_canon ?_ ?_
  · exact h1
  · intro x0 hx1
    refine Dev.gavServed_canon ?_ ?_
    · exact hx1
    · intro x2 hx3
      extract_lets +onlyGivenNames -merge -useContext y4 y5
      refine canon_ite ?_ ?_
      · exact Dev.fail_canon hx3
      · extract_lets +onlyGivenNames -merge -useContext y6
        refine Dev.okRes_canon ?_
        · refine canon_foldl ?_ ?_
          · exact hx3
          · intro x7 x8 hx9
            exact Dev.mapTrim_canon hx9

end Sys2Proof.Machine
end

