-- ==== Sys2Proof/Laws/CanonWlz.lean ====
section
/-! SUPPORT. Every operation of Machine/Wlz.lean that answers a device keeps the stored data in canonical form. -/

namespace Sys2Proof.Machine

theorem Dev.profPut_canon {a1 a2 a3} (h1 : Canon a1) : Canon (Dev.profPut a1 a2 a3) := by
  unfold Dev.profPut
  exact Dev.memWr_canon h1

theorem Dev.nodeAdd_canon {a1 a2 a3 a4 a5} (h1 : Canon a1) : Canon (Dev.nodeAdd a1 a2 a3 a4 a5) := by
  unfold Dev.nodeAdd
  extract_lets +onlyGivenNames -merge -useContext y0
  refine canon_ite ?_ ?_
  · exact Dev.bump_canon h1
  · extract_lets +onlyGivenNames -merge -useContext y1 y2
    exact canon_upd h1

theorem Dev.wlzRecount_canon {a1} (h1 : Canon a1) : Canon (Dev.wlzRecount a1) := by
  unfold Dev.wlzRecount
  extract_lets +onlyGivenNames -merge -useContext y0 e1
  have he1 : Canon e1 := canon_upd h1
  clear_value e1
  refine canon_foldl ?_ ?_
  · exact he1
  · intro x2 x3 hx4
    extract_lets +onlyGivenNames -merge -useContext y5
    refine canon_ite ?_ ?_
    · exact hx4
    · extract_lets +onlyGivenNames -merge -useContext y6
      exact Dev.nodeAdd_canon hx4

theorem Dev.nodeMove_canon {a1 a2 a3 a4} (h1 : Canon a1) : Canon (Dev.nodeMove a1 a2 a3 a4) := by
  unfold Dev.nodeMove
  extract_lets +onlyGivenNames -merge -useContext y0 y1 e2
  have he2 : Canon e2 := canon_ite (Dev.nodeAdd_canon h1) h1
  clear_value e2
  exact canon_ite (Dev.nodeAdd_canon he2) he2

theorem Dev.histPut_canon {a1 a2 a3 a4} (h1 : Canon a1) : Canon (Dev.histPut a1 a2 a3 a4) := by
  unfold Dev.histPut
  exact Dev.memWr_canon h1

theorem Dev.closeNode_canon {a1 a2 a3 a4} (h1 : Canon a1) : Canon (Dev.closeNode a1 a2 a3 a4) := by
  unfold Dev.closeNode
  extract_lets +onlyGivenNames -merge -useContext y0 y1 y2 y3 y4 y5 y6 y7 y8 y9 y10 y11 e12
  have he12 : Canon e12 := Dev.histPut_canon h1
  clear_value e12
  extract_lets +onlyGivenNames -merge -useContext y13
  refine canon_ite ?_ ?_
  · exact he12
  · extract_lets +onlyGivenNames -merge -useContext y14 y15
    exact Dev.histPut_canon he12

theorem Dev.closeAll_canon {a1 a2 a3} (h1 : Canon a1) : Canon (Dev.closeAll a1 a2 a3) := by
  unfold Dev.closeAll
  extract_lets +onlyGivenNames -merge -useContext y0
  refine canon_foldN ?_ ?_
  · exact h1
  · intro x1 x2 hx3
    exact Dev.closeNode_canon hx3

theorem Dev.markOpen_canon {a1 a2 a3} (h1 : Canon a1) : Canon (Dev.markOpen a1 a2 a3) := by
  unfold Dev.markOpen
  refine canon_foldl ?_ ?_
  · exact h1
  · intro x0 x1 hx2
    exact Dev.histPut_canon hx2

theorem Dev.wlzServed_canon {a1 a2 a3} (h1 : Canon a1) (h3 : ∀ w0, Canon w0 → Canon (a3 w0)) : Canon (Dev.wlzServed a1 a2 a3) := by
  unfold Dev.wlzServed
  refine canon_ite ?_ ?_
  · exact Dev.fail_canon h1
  · refine h3 _ ?_
    · exact h1

theorem Dev.wlzRunning_canon {a1 a2 a3} (h1 : Canon a1) (h3 : ∀ w0, Canon w0 → Canon (a3 w0)) : Canon (Dev.wlzRunning a1 a2 a3) := by
  unfold Dev.wlzRunning
  refine Dev.wlzServed_canon ?_ ?_
  · exact h1
  · intro x0 hx1
    refine canon_ite ?_ ?_
    · exact Dev.fail_canon hx1
    · refine h3 _ ?_
      · exact hx1

theorem Dev.tableBad_canon {a1 a2 a3} (h1 : Canon a1) : Canon (Dev.tableBad a1 a2 a3) := by
  unfold Dev.tableBad
  exact Dev.finish_canon (Dev.raise_canon (Dev.setF_canon h1))

theorem Dev.nodesApply_canon {a1 a2} (h1 : Canon a1) : Canon (Dev.nodesApply a1 a2) := by
  unfold Dev.nodesApply
  extract_lets +onlyGivenNames -merge -useContext e0
  have he0 : Canon e0 := Dev.clrF_canon (Dev.memWrB_canon h1)
  clear_value e0
  extract_lets +onlyGivenNames -merge -useContext e1
  have he1 : Canon e1 := by
    unfold e1
    refine canon_foldl ?_ ?_
    · exact he0
    · intro x2 x3 hx4
      extract_lets +onlyGivenNames -merge -useContext y5
      exact canon_ite (Dev.profPut_canon hx4) hx4
  clear_value e1
  refine Dev.wlzRecount_canon ?_
  · refine canon_foldN ?_ ?_
    · exact he1
    · intro x6 x7 hx8
      exact Dev.markOpen_canon hx8

theorem Dev.wlzNodeLoad_canon {a1 a2} (h1 : Canon a1) : Canon (Dev.wlzNodeLoad a1 a2) := by
  unfold Dev.wlzNodeLoad
  refine Dev.withFields_canon ?_ ?_
  · exact h1
  · intro x0 hx1
    refine Dev.wlzServed_canon ?_ ?_
    · exact hx1
    · intro x2 hx3
      refine canon_ite ?_ ?_
      · exact canon_upd hx3
      · extract_lets +onlyGivenNames -merge -useContext y4 y5 y6
        refine canon_ite ?_ ?_
        · exact Dev.fail_canon hx3
        · refine canon_ite ?_ ?_
          · exact Dev.fail_canon hx3
          · refine canon_ite ?_ ?_
            · exact Dev.tableBad_canon hx3
            · split
              · exact Dev.tableBad_canon hx3
              · extract_lets +onlyGivenNames -merge -useContext e7
                have he7 : Canon e7 := Dev.nodesApply_canon hx3
                clear_value e7
                exact canon_ite (Dev.tableSave_canon he7) (Dev.okRes_canon he7)

theorem Dev.loadsGo_canon {a1} (h1 : Canon a1) : Canon (Dev.loadsGo a1) := by
  unfold Dev.loadsGo
  extract_lets +onlyGivenNames -merge -useContext y0
  refine canon_foldl ?_ ?_
  · exact canon_upd h1
  · intro x1 x2 hx3
    exact Dev.wlzNodeLoad_canon hx3

theorem Dev.closeNow_canon {a1 a2} (h1 : Canon a1) : Canon (Dev.closeNow a1 a2) := by
  unfold Dev.closeNow
  extract_lets +onlyGivenNames -merge -useContext e0
  have he0 : Canon e0 := Dev.wr_canon (Dev.closeAll_canon h1)
  clear_value e0
  extract_lets +onlyGivenNames -merge -useContext y1 e2
  have he2 : Canon e2 := Dev.clrF_canon (canon_upd he0)
  clear_value e2
  exact Dev.loadsGo_canon (Dev.raise_canon (Dev.setF_canon he2))

theorem Dev.intervalClose_canon {a1} (h1 : Canon a1) : Canon (Dev.intervalClose a1) := by
  unfold Dev.intervalClose
  refine canon_ite ?_ ?_
  · exact h1
  · split
    · exact canon_ite h1 (canon_ite (Dev.closeNow_canon h1) (Dev.setF_canon (canon_upd h1)))

theorem Dev.reviseNode_canon {a1 a2 a3 a4 a5 a6} (h1 : Canon a1) : Canon (Dev.reviseNode a1 a2 a3 a4 a5 a6) := by
  unfold Dev.reviseNode
  extract_lets +onlyGivenNames -merge -useContext y0 y1 y2 y3 y4 e5
  have he5 : Canon e5 := Dev.histPut_canon h1
  clear_value e5
  extract_lets +onlyGivenNames -merge -useContext y6 y7 y8 y9 y10 e11
  have he11 : Canon e11 := canon_ite (Dev.histPut_canon he5) he5
  clear_value e11
  exact canon_ite he11 (Dev.raise_canon (canon_upd he11))

theorem Dev.profPoint_canon {a1 a2 a3 a4 a5 a6} (h1 : Canon a1) : Canon1 (Dev.profPoint a1 a2 a3 a4 a5 a6) := by
  unfold Dev.profPoint
  extract_lets +onlyGivenNames -merge -useContext y0 y1
  refine canon_ite1 ?_ ?_
  · exact canon_mk1 h1
  · extract_lets +onlyGivenNames -merge -useContext y2 y3 y4
    refine canon_ite1 ?_ ?_
    · exact canon_mk1 (Dev.profPut_canon h1)
    · extract_lets +onlyGivenNames -merge -useContext y5 y6 y7 y8 e9
      have he9 : Canon e9 := Dev.profPut_canon h1
      clear_value e9
      extract_lets +onlyGivenNames -merge -useContext y10 y11 e12
      have he12 : Canon e12 := canon_ite (canon_upd he9) he9
      clear_value e12
      exact canon_mk1 he12

theorem Dev.failedJudge_canon {a1 a2 a3} (h1 : Canon a1) : Canon (Dev.failedJudge a1 a2 a3) := by
  unfold Dev.failedJudge
  extract_lets +onlyGivenNames -merge -useContext y0 y1
  refine canon_foldl ?_ ?_
  · exact canon_upd h1
  · intro x2 x3 hx4
    split
    · refine canon_ite ?_ ?_
      · exact canon_upd hx4
      · extract_lets +onlyGivenNames -merge -useContext y5 y6 e7
        have he7 : Canon e7 := Dev.profPut_canon hx4
        clear_value e7
        exact canon_upd he7

theorem Dev.histFeed_canon {a1 a2 a3 a4 a5 a6 a7 a8} (h1 : Canon a1) : Canon (Dev.histFeed a1 a2 a3 a4 a5 a6 a7 a8) := by
  unfold Dev.histFeed
  extract_lets +onlyGivenNames -merge -useContext y0 y1
  split
  · extract_lets +onlyGivenNames -merge -useContext y2 y3 y4 y5
    exact Dev.failedJudge_canon (canon_ite (Dev.reviseNode_canon h1) (Dev.histPut_canon h1))
  · refine canon_ite ?_ ?_
    · exact Dev.bump_canon h1
    · extract_lets +onlyGivenNames -merge -useContext y6 y7 y8 y9
      exact canon_ite (Dev.reviseNode_canon h1) (Dev.histPut_canon h1)

theorem Dev.wlzMsr_canon {a1 a2 a3} (h1 : Canon a1) : Canon (Dev.wlzMsr a1 a2 a3) := by
  unfold Dev.wlzMsr
  refine canon_ite ?_ ?_
  · exact h1
  · split
    · rename_i v0 heq1
      have hv0 : Canon v0 := by
        refine canon_fst_eq heq1 ?_
        exact Dev.msrGet_canon h1
      exact hv0
    · rename_i v2 v3 heq4
      have hv2 : Canon v2 := by
        refine canon_fst_eq heq4 ?_
        exact Dev.msrGet_canon h1
      exact Dev.recEdit_canon hv2

theorem Dev.nodePhase_canon {a1 a2} (h1 : Canon a1) : Canon (Dev.nodePhase a1 a2) := by
  unfold Dev.nodePhase
  extract_lets +onlyGivenNames -merge -useContext y0 y1 y2
  exact canon_ite (Dev.wlzMsr_canon h1) h1

theorem Dev.phaseVote_canon {a1 a2} (h1 : Canon a1) : Canon (Dev.phaseVote a1 a2) := by
  unfold Dev.phaseVote
  extract_lets +onlyGivenNames -merge -useContext y0
  split
  · exact h1
  · refine canon_ite ?_ ?_
    · exact h1
    · extract_lets +onlyGivenNames -merge -useContext y1 y2 y3 y4 y5
      refine canon_ite ?_ ?_
      · exact Dev.bump_canon h1
      · extract_lets +onlyGivenNames -merge -useContext y6 y7 y8 y9 e10
        have he10 : Canon e10 := Dev.profPut_canon h1
        clear_value e10
        extract_lets +onlyGivenNames -merge -useContext y11 y12 y13 y14 y15
        refine canon_ite ?_ ?_
        · refine canon_ite ?_ ?_
          · exact he10
          · extract_lets +onlyGivenNames -merge -useContext e16
            have he16 : Canon e16 := Dev.wlzMsr_canon he10
            clear_value e16
            exact canon_ite (Dev.raise_canon he16) he16
        · exact he10

theorem Dev.countTamper_canon {a1 a2 a3} (h1 : Canon a1) : Canon (Dev.countTamper a1 a2 a3) := by
  unfold Dev.countTamper
  extract_lets +onlyGivenNames -merge -useContext y0 e1
  have he1 : Canon e1 := canon_ite (Dev.profPut_canon h1) h1
  clear_value e1
  exact canon_ite (Dev.failedJudge_canon (canon_upd he1)) he1

theorem Dev.intervalFeed_canon {a1 a2 a3} (h1 : Canon a1) : Canon (Dev.intervalFeed a1 a2 a3) := by
  unfold Dev.intervalFeed
  split
  · exact Dev.bump_canon h1
  · extract_lets +onlyGivenNames -merge -useContext y0
    refine canon_ite ?_ ?_
    · exact Dev.bump_canon h1
    · extract_lets +onlyGivenNames -merge -useContext y1 e2
      have he2 : Canon e2 := Dev.nodePhase_canon (Dev.phaseVote_canon h1)
      clear_value e2
      extract_lets +onlyGivenNames -merge -useContext e3
      have he3 : Canon e3 := by
        unfold e3
        refine canon_foldl ?_ ?_
        · exact he2
        · intro x4 x5 hx6
          extract_lets +onlyGivenNames -merge -useContext y7
          refine canon_ite ?_ ?_
          · exact Dev.bump_canon hx6
          · split
            · rename_i v8 v9 heq10
              have hv8 : Canon v8 := by
                refine canon_fst_eq heq10 ?_
                exact Dev.profPoint_canon hx6
              exact canon_ite hv8 (canon_ite (Dev.bump_canon hv8) (Dev.histFeed_canon hv8))
      clear_value e3
      exact Dev.countTamper_canon he3

theorem Dev.clearEpisodes_canon {a1} (h1 : Canon a1) : Canon (Dev.clearEpisodes a1) := by
  unfold Dev.clearEpisodes
  refine canon_foldl ?_ ?_
  · exact h1
  · intro x0 x1 hx2
    extract_lets +onlyGivenNames -merge -useContext y3
    exact canon_ite (Dev.profPut_canon hx2) hx2

theorem Dev.episodeOpen_canon {a1} (h1 : Canon a1) : Canon (Dev.episodeOpen a1) := by
  unfold Dev.episodeOpen
  extract_lets +onlyGivenNames -merge -useContext y0 e1
  have he1 : Canon e1 := canon_ite (Dev.wr_canon (Dev.clearEpisodes_canon h1)) (Dev.wr_canon h1)
  clear_value e1
  extract_lets +onlyGivenNames -merge -useContext y2 e3
  have he3 : Canon e3 := canon_upd he1
  clear_value e3
  exact Dev.raise_canon (Dev.setF_canon he3)

theorem Dev.restoreFeed_canon {a1 a2} (h1 : Canon a1) : Canon (Dev.restoreFeed a1 a2) := by
  unfold Dev.restoreFeed
  extract_lets +onlyGivenNames -merge -useContext e0
  have he0 : Canon e0 := canon_ite h1 (Dev.episodeOpen_canon h1)
  clear_value e0
  extract_lets +onlyGivenNames -merge -useContext y1 y2 y3 y4 e5
  have he5 : Canon e5 := canon_upd he0
  clear_value e5
  split
  · extract_lets +onlyGivenNames -merge -useContext y6 y7 e8
    have he8 : Canon e8 := canon_upd he5
    clear_value e8
    refine canon_ite ?_ ?_
    · extract_lets +onlyGivenNames -merge -useContext y9
      exact Dev.failedJudge_canon (Dev.histPut_canon he8)
    · exact he8
  · extract_lets +onlyGivenNames -merge -useContext y10 y11 y12 e13
    have he13 : Canon e13 := Dev.profPut_canon he5
    clear_value e13
    extract_lets +onlyGivenNames -merge -useContext y14 y15
    refine canon_ite ?_ ?_
    · exact canon_upd he13
    · extract_lets +onlyGivenNames -merge -useContext y16 y17
      exact canon_upd he13

theorem Dev.reportWrite_canon {a1} (h1 : Canon a1) : Canon (Dev.reportWrite a1) := by
  unfold Dev.reportWrite
  extract_lets +onlyGivenNames -merge -useContext y0 y1 y2 y3 y4 y5 e6
  have he6 : Canon e6 := Dev.memWrB_canon h1
  clear_value e6
  exact Dev.raise_canon (canon_upd he6)

theorem Dev.restorationReport_canon {a1} (h1 : Canon a1) : Canon (Dev.restorationReport a1) := by
  unfold Dev.restorationReport
  refine canon_ite ?_ ?_
  · exact h1
  · extract_lets +onlyGivenNames -merge -useContext y0 y1 y2 y3 e4
    have he4 : Canon e4 := Dev.reportWrite_canon h1
    clear_value e4
    exact canon_upd he4

theorem Dev.episodeClose_canon {a1} (h1 : Canon a1) : Canon (Dev.episodeClose a1) := by
  unfold Dev.episodeClose
  exact canon_ite h1 (Dev.raise_canon (Dev.clrF_canon (Dev.reportWrite_canon h1)))

theorem Dev.archReg_canon {a1 a2 a3 a4} (h1 : Canon a1) : Canon1 (Dev.archReg a1 a2 a3 a4) := by
  unfold Dev.archReg
  exact canon_ite1 (canon_mk1 (Dev.drawn_canon h1)) (canon_mk1 h1)

theorem Dev.applyFeed_canon {a1 a2 a3} (h1 : Canon a1) : Canon (Dev.applyFeed a1 a2 a3) := by
  unfold Dev.applyFeed
  exact canon_ite (Dev.intervalFeed_canon h1) (Dev.restoreFeed_canon h1)

theorem Dev.catchOne_canon {a1} (h1 : Canon a1) : Canon (Dev.catchOne a1) := by
  unfold Dev.catchOne
  split
  · exact h1
  · extract_lets +onlyGivenNames -merge -useContext y0 e1
    have he1 : Canon e1 := by
      unfold e1
      refine canon_ite ?_ ?_
      · exact h1
      · split
        · refine canon_ite ?_ ?_
          · split
            · rename_i v2 v3 heq4
              have hv2 : Canon v2 := by
                refine canon_fst_eq heq4 ?_
                exact Dev.archReg_canon h1
              split
              · rename_i v5 v6 heq7
                have hv5 : Canon v5 := by
                  refine canon_fst_eq heq7 ?_
                  exact Dev.archReg_canon hv2
                exact Dev.applyFeed_canon hv5
          · exact h1
        · exact h1
        · exact Dev.setF_canon h1
    clear_value e1
    extract_lets +onlyGivenNames -merge -useContext y8 e9
    have he9 : Canon e9 := Dev.wlzAckShow_canon (canon_upd he1)
    clear_value e9
    exact canon_ite he9 (Dev.raise_canon (Dev.recoverEnd_canon (Dev.clrF_canon he9)))

theorem Dev.closeBefore_canon {a1 a2} (h1 : Canon a1) : Canon (Dev.closeBefore a1 a2) := by
  unfold Dev.closeBefore
  split
  · exact canon_ite (Dev.closeNow_canon h1) h1
  · exact h1

theorem Dev.feedFrom_canon {a1 a2 a3} (h1 : Canon a1) : Canon (Dev.feedFrom a1 a2 a3) := by
  unfold Dev.feedFrom
  extract_lets +onlyGivenNames -merge -useContext y0 e1
  have he1 : Canon e1 := Dev.closeBefore_canon h1
  clear_value e1
  extract_lets +onlyGivenNames -merge -useContext e2
  have he2 : Canon e2 := Dev.applyFeed_canon he1
  clear_value e2
  extract_lets +onlyGivenNames -merge -useContext y3 e4
  have he4 : Canon e4 := canon_ite he1 (canon_upd he2)
  clear_value e4
  exact Dev.wlzAckShow_canon (Dev.fifoPop_canon he4)

theorem Dev.waltzFeed_canon {a1} (h1 : Canon a1) : Canon (Dev.waltzFeed a1) := by
  unfold Dev.waltzFeed
  refine canon_ite ?_ ?_
  · exact h1
  · split
    · exact Dev.feedFrom_canon h1
    · exact Dev.feedFrom_canon h1
    · exact Dev.catchOne_canon h1

theorem Dev.forget_canon {a1 a2 a3} (h1 : Canon a1) : Canon (Dev.forget a1 a2 a3) := by
  unfold Dev.forget
  extract_lets +onlyGivenNames -merge -useContext e0
  have he0 : Canon e0 := by
    unfold e0
    refine canon_foldN ?_ ?_
    · exact h1
    · intro x1 x2 hx3
      refine canon_foldN ?_ ?_
      · exact hx3
      · intro x4 x5 hx6
        extract_lets +onlyGivenNames -merge -useContext y7
        exact canon_ite (Dev.histPut_canon hx6) hx6
  clear_value e0
  refine canon_foldl ?_ ?_
  · exact he0
  · intro x8 x9 hx10
    extract_lets +onlyGivenNames -merge -useContext y11
    exact canon_ite (Dev.profPut_canon hx10) hx10

theorem Dev.rebuildOne_canon {a1 a2 a3} (h1 : Canon a1) : Canon1 (Dev.rebuildOne a1 a2 a3) := by
  unfold Dev.rebuildOne
  split
  · exact canon_mk1 (Dev.setF_canon h1)
  · exact canon_mk1 h1
  · refine canon_ite1 ?_ ?_
    · exact canon_mk1 h1
    · split
      · rename_i v0 v1 heq2
        have hv0 : Canon v0 := by
          refine canon_fst_eq heq2 ?_
          exact Dev.archReg_canon h1
        split
        · rename_i v3 v4 heq5
          have hv3 : Canon v3 := by
            refine canon_fst_eq heq5 ?_
            exact Dev.archReg_canon hv0
          extract_lets +onlyGivenNames -merge -useContext y6 y7
          split
          · exact canon_mk1 hv3
          · extract_lets +onlyGivenNames -merge -useContext y8 e9
            have he9 : Canon e9 := by
              unfold e9
              refine canon_foldl ?_ ?_
              · exact hv3
              · intro x10 x11 hx12
                split
                · rename_i v13 v14 heq15
                  have hv13 : Canon v13 := by
                    refine canon_fst_eq heq15 ?_
                    exact Dev.profPoint_canon hx12
                  exact canon_ite hv13 (Dev.histFeed_canon hv13)
            clear_value e9
            exact canon_mk1 he9

theorem Dev.rebuildAll_canon {a1 a2} (h1 : Canon a1) : Canon1 (Dev.rebuildAll a1 a2) := by
  unfold Dev.rebuildAll
  extract_lets +onlyGivenNames -merge -useContext y0 e1
  have he1 : Canon e1 := Dev.forget_canon h1
  clear_value e1
  extract_lets +onlyGivenNames -merge -useContext y2
  split
  · rename_i v3 v4 heq5
    have hv3 : Canon v3 := by
      refine canon_fst_eq heq5 ?_
      refine canon_foldN1 ?_ ?_
      · exact canon_mk1 he1
      · intro x6 x7 hx8
        extract_lets +onlyGivenNames -merge -useContext y9
        have hy9 : Canon1 y9 := Dev.rebuildOne_canon (Canon1.fst hx8)
        clear_value y9
        exact canon_mk1 (Canon1.fst hy9)
    split
    · rename_i v10 v11 heq12
      have hv10 : Canon v10 := by
        refine canon_fst_eq heq12 ?_
        refine canon_foldl1 ?_ ?_
        · exact canon_mk1 hv3
        · intro x13 x14 hx15
          extract_lets +onlyGivenNames -merge -useContext y16
          have hy16 : Canon1 y16 := Dev.rebuildOne_canon (Canon1.fst hx15)
          clear_value y16
          exact canon_mk1 (Canon1.fst hy16)
      extract_lets +onlyGivenNames -merge -useContext y17 e18
      have he18 : Canon e18 := by
        unfold e18
        refine canon_foldN ?_ ?_
        · exact hv10
        · intro x19 x20 hx21
          exact Dev.closeAll_canon hx21
      clear_value e18
      exact canon_mk1 (Dev.setF_canon (Dev.wr_canon he18))

theorem Dev.waltzRebuildDone_canon {a1} (h1 : Canon a1) : Canon (Dev.waltzRebuildDone a1) := by
  unfold Dev.waltzRebuildDone
  refine canon_ite ?_ ?_
  · exact h1
  · split
    · split
      · rename_i v0 v1 heq2
        have hv0 : Canon v0 := by
          refine canon_fst_eq heq2 ?_
          exact Dev.rebuildAll_canon h1
        extract_lets +onlyGivenNames -merge -useContext y3 e4
        have he4 : Canon e4 := Dev.raise_canon (Dev.clrF_canon (canon_upd hv0))
        clear_value e4
        refine canon_getD_map ?_ ?_
        · intro x5
          exact Dev.okRes_canon he4
        · exact he4
    · split
      · exact h1
      · refine canon_foldN ?_ ?_
        · exact h1
        · intro x6 x7 hx8
          exact Dev.catchOne_canon hx8

theorem Dev.wlzRunCheck_canon {a1} (h1 : Canon a1) : Canon (Dev.wlzRunCheck a1) := by
  unfold Dev.wlzRunCheck
  refine canon_ite ?_ ?_
  · exact h1
  · extract_lets +onlyGivenNames -merge -useContext y0
    have hy0 : ∀ w0 w1, Canon w0 → Canon (y0 w0 w1) := by
      unfold y0
      intro x1 x2 hx3
      exact Dev.fifoStore_canon hx3
    clear_value y0
    extract_lets +onlyGivenNames -merge -useContext e4
    have he4 : Canon e4 := by
      unfold e4
      refine hy0 _ _ ?_
      · refine hy0 _ _ ?_
        · exact Dev.clrF_canon h1
    clear_value e4
    extract_lets +onlyGivenNames -merge -useContext y5 e6
    have he6 : Canon e6 := canon_upd he4
    clear_value e6
    exact Dev.loadsGo_canon (Dev.recoverEnd_canon (Dev.clrF_canon (Dev.clrF_canon he6)))

theorem Dev.waltzEnable_canon {a1 a2} (h1 : Canon a1) : Canon (Dev.waltzEnable a1 a2) := by
  unfold Dev.waltzEnable
  extract_lets +onlyGivenNames -merge -useContext y0 e1
  have he1 : Canon e1 := Dev.regWrite32_canon h1
  clear_value e1
  refine canon_ite ?_ ?_
  · exact Dev.wlzRunCheck_canon he1
  · refine canon_ite ?_ ?_
    · exact Dev.raise_canon (Dev.setF_canon (Dev.clrF_canon he1))
    · refine canon_ite ?_ ?_
      · exact Dev.raise_canon (Dev.setF_canon (Dev.clrF_canon he1))
      · extract_lets +onlyGivenNames -merge -useContext e2
        have he2 : Canon e2 := Dev.wlzRecount_canon (Dev.commitRwl_canon he1)
        clear_value e2
        exact canon_upd he2

theorem Dev.waltzRunningStart_canon {a1} (h1 : Canon a1) : Canon (Dev.waltzRunningStart a1) := by
  unfold Dev.waltzRunningStart
  refine canon_ite ?_ ?_
  · exact h1
  · extract_lets +onlyGivenNames -merge -useContext y0 y1 e2
    have he2 : Canon e2 := Dev.setF_canon h1
    clear_value e2
    extract_lets +onlyGivenNames -merge -useContext y3 e4
    have he4 : Canon e4 := canon_ite (Dev.setF_canon (canon_upd he2)) he2
    clear_value e4
    exact canon_ite (Dev.setF_canon (canon_upd he4)) he4

theorem Dev.setUnsettled_canon {a1 a2 a3 a4} (h1 : Canon a1) : Canon (Dev.setUnsettled a1 a2 a3 a4) := by
  unfold Dev.setUnsettled
  extract_lets +onlyGivenNames -merge -useContext y0 e1
  have he1 : Canon e1 := Dev.profPut_canon h1
  clear_value e1
  refine canon_ite ?_ ?_
  · exact he1
  · extract_lets +onlyGivenNames -merge -useContext y2
    exact canon_upd he1

theorem Dev.placeDecide_canon {a1 a2 a3 a4} (h1 : Canon a1) : Canon1 (Dev.placeDecide a1 a2 a3 a4) := by
  unfold Dev.placeDecide
  extract_lets +onlyGivenNames -merge -useContext y0
  refine canon_ite1 ?_ ?_
  · exact canon_mk1 (Dev.profPut_canon h1)
  · extract_lets +onlyGivenNames -merge -useContext y1 y2 y3 y4 e5
    have he5 : Canon e5 := Dev.profPut_canon h1
    clear_value e5
    extract_lets +onlyGivenNames -merge -useContext y6 y7 y8
    refine canon_ite1 ?_ ?_
    · exact canon_mk1 he5
    · refine canon_ite1 ?_ ?_
      · refine canon_ite1 ?_ ?_
        · exact canon_mk1 (Dev.setUnsettled_canon he5)
        · extract_lets +onlyGivenNames -merge -useContext e9
          have he9 : Canon e9 := Dev.setUnsettled_canon he5
          clear_value e9
          refine canon_ite1 ?_ ?_
          · exact canon_mk1 he9
          · extract_lets +onlyGivenNames -merge -useContext y10 e11
            have he11 : Canon e11 := Dev.wlzMsr_canon (Dev.nodeMove_canon he9)
            clear_value e11
            extract_lets +onlyGivenNames -merge -useContext e12
            have he12 : Canon e12 := Dev.markOpen_canon (canon_ite (Dev.markOpen_canon he11) he11)
            clear_value e12
            exact canon_mk1 he12
      · refine canon_ite1 ?_ ?_
        · extract_lets +onlyGivenNames -merge -useContext y13 e14
          have he14 : Canon e14 := Dev.profPut_canon he5
          clear_value e14
          exact canon_ite1 (canon_mk1 (Dev.raise_canon he14)) (canon_mk1 he14)
        · exact canon_mk1 he5

theorem Dev.inferStart_canon {a1 a2 a3} (h1 : Canon a1) : Canon (Dev.inferStart a1 a2 a3) := by
  unfold Dev.inferStart
  extract_lets +onlyGivenNames -merge -useContext e0
  have he0 : Canon e0 := Dev.wlzRecount_canon h1
  clear_value e0
  exact Dev.setF_canon (canon_upd he0)

theorem Dev.scoreStart_canon {a1 a2} (h1 : Canon a1) : Canon (Dev.scoreStart a1 a2) := by
  unfold Dev.scoreStart
  exact Dev.setF_canon (canon_upd h1)

theorem Dev.inferencePeriodic_canon {a1} (h1 : Canon a1) : Canon (Dev.inferencePeriodic a1) := by
  unfold Dev.inferencePeriodic
  extract_lets +onlyGivenNames -merge -useContext y0
  exact canon_ite (Dev.inferStart_canon h1) h1

theorem Dev.inferNow_canon {a1} (h1 : Canon a1) : Canon (Dev.inferNow a1) := by
  unfold Dev.inferNow
  refine canon_ite ?_ ?_
  · exact h1
  · extract_lets +onlyGivenNames -merge -useContext e0
    have he0 : Canon e0 := Dev.setF_canon h1
    clear_value e0
    exact canon_ite (Dev.inferStart_canon he0) he0

theorem Dev.inferencePassDone_canon {a1} (h1 : Canon a1) : Canon (Dev.inferencePassDone a1) := by
  unfold Dev.inferencePassDone
  refine canon_ite ?_ ?_
  · exact h1
  · split
    · exact h1
    · extract_lets +onlyGivenNames -merge -useContext y0 y1 e2
      have he2 : Canon e2 := by
        unfold e2
        refine canon_foldl ?_ ?_
        · exact h1
        · intro x3 x4 hx5
          exact Dev.profPut_canon hx5
      clear_value e2
      extract_lets +onlyGivenNames -merge -useContext y6
      split
      · rename_i v7 v8 heq9
        have hv7 : Canon v7 := by
          refine canon_fst_eq heq9 ?_
          refine canon_foldl1 ?_ ?_
          · exact canon_mk1 he2
          · intro x10 x11 hx12
            exact Dev.placeDecide_canon (Canon1.fst hx12)
        extract_lets +onlyGivenNames -merge -useContext y13 y14
        refine canon_ite ?_ ?_
        · exact canon_upd hv7
        · extract_lets +onlyGivenNames -merge -useContext y15 e16
          have he16 : Canon e16 := canon_upd hv7
          clear_value e16
          extract_lets +onlyGivenNames -merge -useContext e17
          have he17 : Canon e17 := Dev.wr_canon (Dev.wr_canon he16)
          clear_value e17
          extract_lets +onlyGivenNames -merge -useContext e18
          have he18 : Canon e18 := Dev.wr_canon he17
          clear_value e18
          extract_lets +onlyGivenNames -merge -useContext e19
          have he19 : Canon e19 := Dev.clrF_canon (Dev.clrF_canon (Dev.setF_canon he18))
          clear_value e19
          extract_lets +onlyGivenNames -merge -useContext e20
          have he20 : Canon e20 := Dev.raise_canon he19
          clear_value e20
          extract_lets +onlyGivenNames -merge -useContext e21
          have he21 : Canon e21 := by
            unfold e21
            refine canon_getD_map ?_ ?_
            · intro x22
              exact Dev.okRes_canon he20
            · exact he20
          clear_value e21
          exact canon_ite (Dev.scoreStart_canon he21) he21

theorem Dev.scorePeriodic_canon {a1} (h1 : Canon a1) : Canon (Dev.scorePeriodic a1) := by
  unfold Dev.scorePeriodic
  extract_lets +onlyGivenNames -merge -useContext y0
  exact canon_ite (Dev.scoreStart_canon h1) h1

theorem Dev.scoreNow_canon {a1} (h1 : Canon a1) : Canon (Dev.scoreNow a1) := by
  unfold Dev.scoreNow
  refine canon_ite ?_ ?_
  · exact h1
  · extract_lets +onlyGivenNames -merge -useContext e0
    have he0 : Canon e0 := Dev.setF_canon h1
    clear_value e0
    exact canon_ite (Dev.scoreStart_canon he0) he0

theorem Dev.scoreOne_canon {a1 a2} (h1 : Canon a1) : Canon1 (Dev.scoreOne a1 a2) := by
  unfold Dev.scoreOne
  extract_lets +onlyGivenNames -merge -useContext y0 y1 y2 e3
  have he3 : Canon e3 := Dev.drawn_canon h1
  clear_value e3
  extract_lets +onlyGivenNames -merge -useContext y4 y5 y6 y7 e8
  have he8 : Canon e8 := Dev.profPut_canon he3
  clear_value e8
  extract_lets +onlyGivenNames -merge -useContext y9 e10
  have he10 : Canon e10 := canon_ite he8 (Dev.wlzMsr_canon he8)
  clear_value e10
  extract_lets +onlyGivenNames -merge -useContext y11
  refine canon_ite1 ?_ ?_
  · exact canon_mk1 he10
  · extract_lets +onlyGivenNames -merge -useContext y12
    exact canon_mk1 he10

theorem Dev.scoringPassDone_canon {a1} (h1 : Canon a1) : Canon (Dev.scoringPassDone a1) := by
  unfold Dev.scoringPassDone
  refine canon_ite ?_ ?_
  · exact h1
  · split
    · exact h1
    · exact h1
    · extract_lets +onlyGivenNames -merge -useContext y0
      split
      · rename_i v1 v2 heq3
        have hv1 : Canon v1 := by
          refine canon_fst_eq heq3 ?_
          refine canon_foldl1 ?_ ?_
          · exact canon_mk1 h1
          · intro x4 x5 hx6
            extract_lets +onlyGivenNames -merge -useContext y7
            have hy7 : Canon1 y7 := Dev.scoreOne_canon (Canon1.fst hx6)
            clear_value y7
            exact canon_mk1 (Canon1.fst hy7)
        extract_lets +onlyGivenNames -merge -useContext y8 y9 y10 y11 e12
        have he12 : Canon e12 := Dev.memWrB_canon hv1
        clear_value e12
        extract_lets +onlyGivenNames -merge -useContext y13 y14 e15
        have he15 : Canon e15 := canon_upd he12
        clear_value e15
        extract_lets +onlyGivenNames -merge -useContext e16
        have he16 : Canon e16 := canon_ite (Dev.setF_canon he15) he15
        clear_value e16
        extract_lets +onlyGivenNames -merge -useContext e17
        have he17 : Canon e17 := Dev.clrF_canon (Dev.clrF_canon he16)
        clear_value e17
        extract_lets +onlyGivenNames -merge -useContext e18
        have he18 : Canon e18 := Dev.wr_canon he17
        clear_value e18
        extract_lets +onlyGivenNames -merge -useContext e19
        have he19 : Canon e19 := canon_ite he18 (Dev.raise_canon he18)
        clear_value e19
        refine canon_getD_map ?_ ?_
        · intro x20
          exact Dev.okRes_canon he19
        · exact he19

theorem Dev.groupsApply_canon {a1 a2} (h1 : Canon a1) : Canon (Dev.groupsApply a1 a2) := by
  unfold Dev.groupsApply
  exact Dev.clrF_canon (Dev.memWrB_canon h1)

theorem Dev.wlzGroupLoad_canon {a1 a2} (h1 : Canon a1) : Canon (Dev.wlzGroupLoad a1 a2) := by
  unfold Dev.wlzGroupLoad
  refine Dev.withFields_canon ?_ ?_
  · exact h1
  · intro x0 hx1
    refine Dev.wlzServed_canon ?_ ?_
    · exact hx1
    · intro x2 hx3
      extract_lets +onlyGivenNames -merge -useContext y4 y5 y6
      refine canon_ite ?_ ?_
      · exact Dev.fail_canon hx3
      · refine canon_ite ?_ ?_
        · exact Dev.fail_canon hx3
        · refine canon_ite ?_ ?_
          · exact Dev.tableBad_canon hx3
          · split
            · exact Dev.tableBad_canon hx3
            · extract_lets +onlyGivenNames -merge -useContext e7
              have he7 : Canon e7 := Dev.groupsApply_canon hx3
              clear_value e7
              exact canon_ite (Dev.tableSave_canon he7) (Dev.okRes_canon he7)

theorem Dev.wlzResults_canon {a1 a2} (h1 : Canon a1) : Canon (Dev.wlzResults a1 a2) := by
  unfold Dev.wlzResults
  refine Dev.withFields_canon ?_ ?_
  · exact h1
  · intro x0 hx1
    refine Dev.wlzRunning_canon ?_ ?_
    · exact hx1
    · intro x2 hx3
      extract_lets +onlyGivenNames -merge -useContext y4 y5 y6 y7
      refine canon_ite ?_ ?_
      · exact Dev.fail_canon hx3
      · refine canon_ite ?_ ?_
        · exact Dev.fail_canon hx3
        · extract_lets +onlyGivenNames -merge -useContext y8 y9 y10 y11 y12 e13
          have he13 : Canon e13 := Dev.drawn_canon hx3
          clear_value e13
          exact Dev.finish_canon he13

theorem Dev.wlzRestoreRead_canon {a1 a2} (h1 : Canon a1) : Canon (Dev.wlzRestoreRead a1 a2) := by
  unfold Dev.wlzRestoreRead
  refine Dev.withFields_canon ?_ ?_
  · exact h1
  · intro x0 hx1
    refine Dev.wlzRunning_canon ?_ ?_
    · exact hx1
    · intro x2 hx3
      split
      · exact Dev.fail_canon hx3
      · extract_lets +onlyGivenNames -merge -useContext y4 y5
        exact canon_ite (Dev.fail_canon hx3) (Dev.finish_canon hx3)

theorem Dev.wlzSuspRead_canon {a1 a2} (h1 : Canon a1) : Canon (Dev.wlzSuspRead a1 a2) := by
  unfold Dev.wlzSuspRead
  refine Dev.withFields_canon ?_ ?_
  · exact h1
  · intro x0 hx1
    refine Dev.wlzRunning_canon ?_ ?_
    · exact hx1
    · intro x2 hx3
      extract_lets +onlyGivenNames -merge -useContext y4 y5 y6
      refine canon_ite ?_ ?_
      · exact Dev.fail_canon hx3
      · extract_lets +onlyGivenNames -merge -useContext y7
        exact Dev.finish_canon hx3

theorem Dev.wlzInfer_canon {a1 a2} (h1 : Canon a1) : Canon (Dev.wlzInfer a1 a2) := by
  unfold Dev.wlzInfer
  refine Dev.withFields_canon ?_ ?_
  · exact h1
  · intro x0 hx1
    refine Dev.wlzRunning_canon ?_ ?_
    · exact hx1
    · intro x2 hx3
      extract_lets +onlyGivenNames -merge -useContext y4
      exact canon_ite (Dev.fail_canon hx3) (canon_ite (Dev.fail_canon hx3) (canon_ite (Dev.finish_canon hx3) (Dev.inferStart_canon hx3)))

theorem Dev.wlzScore_canon {a1 a2} (h1 : Canon a1) : Canon (Dev.wlzScore a1 a2) := by
  unfold Dev.wlzScore
  refine Dev.withFields_canon ?_ ?_
  · exact h1
  · intro x0 hx1
    refine Dev.wlzRunning_canon ?_ ?_
    · exact hx1
    · intro x2 hx3
      exact canon_ite (Dev.fail_canon hx3) (canon_ite (Dev.finish_canon hx3) (Dev.scoreStart_canon hx3))

theorem Dev.wlzAssign_canon {a1 a2} (h1 : Canon a1) : Canon (Dev.wlzAssign a1 a2) := by
  unfold Dev.wlzAssign
  refine Dev.withFields_canon ?_ ?_
  · exact h1
  · intro x0 hx1
    refine Dev.wlzRunning_canon ?_ ?_
    · exact hx1
    · intro x2 hx3
      extract_lets +onlyGivenNames -merge -useContext y4 y5 y6 y7 y8
      refine canon_ite ?_ ?_
      · exact Dev.fail_canon hx3
      · refine canon_ite ?_ ?_
        · exact Dev.fail_canon hx3
        · split
          · rename_i v9 heq10
            have hv9 : Canon v9 := by
              refine canon_fst_eq heq10 ?_
              exact Dev.msrGet_canon hx3
            exact Dev.fail_canon hv9
          · rename_i v11 v12 heq13
            have hv11 : Canon v11 := by
              refine canon_fst_eq heq13 ?_
              exact Dev.msrGet_canon hx3
            refine canon_ite ?_ ?_
            · exact Dev.fail_canon hv11
            · extract_lets +onlyGivenNames -merge -useContext y14 y15 e16
              have he16 : Canon e16 := canon_ite (Dev.nodeMove_canon hv11) hv11
              clear_value e16
              extract_lets +onlyGivenNames -merge -useContext y17 y18 y19 y20 e21
              have he21 : Canon e21 := Dev.profPut_canon he16
              clear_value e21
              extract_lets +onlyGivenNames -merge -useContext y22 e23
              have he23 : Canon e23 := canon_upd he21
              clear_value e23
              exact Dev.recAssign_canon he23

theorem Dev.wlzProfile_canon {a1 a2} (h1 : Canon a1) : Canon (Dev.wlzProfile a1 a2) := by
  unfold Dev.wlzProfile
  refine Dev.withFields_canon ?_ ?_
  · exact h1
  · intro x0 hx1
    refine Dev.wlzRunning_canon ?_ ?_
    · exact hx1
    · intro x2 hx3
      extract_lets +onlyGivenNames -merge -useContext y4
      exact canon_ite (Dev.fail_canon hx3) (Dev.finish_canon hx3)

theorem Dev.wlzRebuild_canon {a1 a2} (h1 : Canon a1) : Canon (Dev.wlzRebuild a1 a2) := by
  unfold Dev.wlzRebuild
  refine Dev.withFields_canon ?_ ?_
  · exact h1
  · intro x0 hx1
    refine Dev.wlzRunning_canon ?_ ?_
    · exact hx1
    · intro x2 hx3
      extract_lets +onlyGivenNames -merge -useContext y4
      exact canon_ite (Dev.fail_canon hx3) (canon_ite (Dev.fail_canon hx3) (canon_ite (Dev.finish_canon hx3) (Dev.setF_canon (canon_upd hx3))))

end Sys2Proof.Machine
end

