-- ==== Sys2Proof/Laws/CanonBol.lean ====
section
/-! SUPPORT. Every operation of Machine/Bol.lean that answers a device keeps the stored data in canonical form. -/

namespace Sys2Proof.Machine

theorem Dev.bolWr_canon {a1 a2 a3 a4} (h1 : Canon a1) : Canon (Dev.bolWr a1 a2 a3 a4) := by
  unfold Dev.bolWr
  extract_lets +onlyGivenNames -merge -useContext e0
  have he0 : Canon e0 := Dev.memWr_canon h1
  clear_value e0
  refine canon_ite ?_ ?_
  · refine canon_foldl ?_ ?_
    · exact he0
    · intro x1 x2 hx3
      exact Dev.eplSend_canon hx3
  · exact he0

theorem Dev.grpPut_canon {a1 a2 a3 a4 a5} (h1 : Canon a1) : Canon (Dev.grpPut a1 a2 a3 a4 a5) := by
  unfold Dev.grpPut
  extract_lets +onlyGivenNames -merge -useContext y0
  exact Dev.eplMirror_canon (Dev.memWrB_canon h1)

theorem Dev.epochAdvance_canon {a1} (h1 : Canon a1) : Canon (Dev.epochAdvance a1) := by
  unfold Dev.epochAdvance
  extract_lets +onlyGivenNames -merge -useContext y0
  refine canon_ite ?_ ?_
  · exact Dev.raise_canon (Dev.setF_canon h1)
  · extract_lets +onlyGivenNames -merge -useContext e1
    have he1 : Canon e1 := Dev.journal_canon (Dev.wr_canon h1)
    clear_value e1
    exact Dev.raise_canon (canon_ite (Dev.setF_canon he1) he1)

theorem Dev.epochNew_canon {a1} (h1 : Canon a1) : Canon (Dev.epochNew a1) := by
  unfold Dev.epochNew
  extract_lets +onlyGivenNames -merge -useContext y0 e1
  have he1 : Canon e1 := canon_ite (canon_upd h1) h1
  clear_value e1
  exact Dev.epochAdvance_canon he1

theorem Dev.epochStart_canon {a1} (h1 : Canon a1) : Canon (Dev.epochStart a1) := by
  unfold Dev.epochStart
  exact canon_ite (Dev.epochNew_canon (canon_upd h1)) h1

theorem Dev.ctrFresh_canon {a1 a2} (h1 : Canon a1) : Canon (Dev.ctrFresh a1 a2) := by
  unfold Dev.ctrFresh
  exact canon_upd h1

theorem Dev.sealFailed_canon {a1} (h1 : Canon a1) : Canon (Dev.sealFailed a1) := by
  unfold Dev.sealFailed
  exact Dev.raise_canon (Dev.setF_canon h1)

theorem Dev.dlPlain_canon {a1 a2} (h1 : Canon a1) : Canon1 (Dev.dlPlain a1 a2) := by
  unfold Dev.dlPlain
  refine canon_ite1 ?_ ?_
  · split
    · rename_i v0 v1 v2 heq3
      have hv0 : Canon v0 := by
        refine canon_fst_eq heq3 ?_
        exact Dev.keyServe_canon h1
      exact canon_mk1 hv0
    · rename_i v4 v5 ho6 heq7
      have hv4 : Canon v4 := by
        refine canon_fst_eq heq7 ?_
        exact Dev.keyServe_canon h1
      exact canon_mk1 hv4
  · exact canon_mk1 h1

theorem Dev.sealUnicast_canon {a1 a2 a3} (h1 : Canon a1) : Canon1 (Dev.sealUnicast a1 a2 a3) := by
  unfold Dev.sealUnicast
  extract_lets +onlyGivenNames -merge -useContext y0 y1 y2 y3 e4
  have he4 : Canon e4 := canon_ite h1 (Dev.ctrFresh_canon h1)
  clear_value e4
  extract_lets +onlyGivenNames -merge -useContext y5
  have hy5 : ∀ w0, Canon w0 → Canon (y5 w0) := by
    unfold y5
    intro x6 hx7
    exact canon_upd hx7
  clear_value y5
  split
  · exact canon_mk1 (Dev.epochAdvance_canon he4)
  · refine canon_mk1 ?_
    refine hy5 _ ?_
    · exact he4
  · split
    · rename_i v8 heq9
      have hv8 : Canon v8 := by
        refine canon_fst_eq heq9 ?_
        exact Dev.dlPlain_canon he4
      exact canon_mk1 (Dev.sealFailed_canon hv8)
    · rename_i v10 v11 heq12
      have hv10 : Canon v10 := by
        refine canon_fst_eq heq12 ?_
        exact Dev.dlPlain_canon he4
      split
      · rename_i v13 heq14
        have hv13 : Canon v13 := by
          refine canon_fst_eq heq14 ?_
          exact Dev.keyServe_canon hv10
        exact canon_mk1 hv13
      · rename_i v15 heq16
        have hv15 : Canon v15 := by
          refine canon_fst_eq heq16 ?_
          exact Dev.keyServe_canon hv10
        exact canon_mk1 (Dev.sealFailed_canon hv15)
      · rename_i v17 v18 v19 heq20
        have hv17 : Canon v17 := by
          refine canon_fst_eq heq20 ?_
          exact Dev.keyServe_canon hv10
        extract_lets +onlyGivenNames -merge -useContext y21 y22 y23 y24 y25 y26 y27 e28
        have he28 : Canon e28 := Dev.bolWr_canon hv17
        clear_value e28
        extract_lets +onlyGivenNames -merge -useContext e29
        have he29 : Canon e29 := by
          unfold e29
          refine hy5 _ ?_
          · exact he28
        clear_value e29
        extract_lets +onlyGivenNames -merge -useContext y30 e31
        have he31 : Canon e31 := canon_upd he29
        clear_value e31
        exact canon_mk1 he31

theorem Dev.sealBroadcast_canon {a1 a2} (h1 : Canon a1) : Canon1 (Dev.sealBroadcast a1 a2) := by
  unfold Dev.sealBroadcast
  extract_lets +onlyGivenNames -merge -useContext y0 y1
  split
  · exact canon_mk1 (Dev.epochAdvance_canon h1)
  · exact canon_mk1 h1
  · split
    · rename_i v2 heq3
      have hv2 : Canon v2 := by
        refine canon_fst_eq heq3 ?_
        exact Dev.keyServe_canon h1
      exact canon_mk1 hv2
    · rename_i v4 heq5
      have hv4 : Canon v4 := by
        refine canon_fst_eq heq5 ?_
        exact Dev.keyServe_canon h1
      exact canon_mk1 (Dev.sealFailed_canon hv4)
    · rename_i v6 v7 v8 heq9
      have hv6 : Canon v6 := by
        refine canon_fst_eq heq9 ?_
        exact Dev.keyServe_canon h1
      extract_lets +onlyGivenNames -merge -useContext y10 y11 y12
      exact canon_mk1 (Dev.grpPut_canon hv6)

theorem Dev.sealFrame_canon {a1 a2} (h1 : Canon a1) : Canon1 (Dev.sealFrame a1 a2) := by
  unfold Dev.sealFrame
  exact canon_ite1 (canon_mk1 h1) (canon_ite1 (Dev.sealBroadcast_canon h1) (Dev.sealUnicast_canon h1))

theorem Dev.dlQueue_canon {a1 a2} (h1 : Canon a1) : Canon (Dev.dlQueue a1 a2) := by
  unfold Dev.dlQueue
  exact canon_upd h1

theorem Dev.cmdsSet_canon {a1 a2} (h1 : Canon a1) : Canon (Dev.cmdsSet a1 a2) := by
  unfold Dev.cmdsSet
  extract_lets +onlyGivenNames -merge -useContext y0 y1 e2
  have he2 : Canon e2 := by
    unfold e2
    refine canon_foldl ?_ ?_
    · exact h1
    · intro x3 x4 hx5
      exact Dev.memWrB_canon hx5
  clear_value e2
  extract_lets +onlyGivenNames -merge -useContext e6
  have he6 : Canon e6 := by
    unfold e6
    refine canon_foldl ?_ ?_
    · exact he2
    · intro x7 x8 hx9
      exact Dev.memWrB_canon hx9
  clear_value e6
  exact canon_upd he6

theorem Dev.cmdPut_canon {a1 a2} (h1 : Canon a1) : Canon (Dev.cmdPut a1 a2) := by
  unfold Dev.cmdPut
  exact Dev.cmdsSet_canon h1

theorem Dev.cWr_canon {a1 a2 a3 a4 a5} (h1 : Canon a1) : Canon (Dev.cWr a1 a2 a3 a4 a5) := by
  unfold Dev.cWr
  exact Dev.bolWr_canon h1

theorem Dev.pPut_canon {a1 a2 a3 a4 a5 a6 a7 a8} (h1 : Canon a1) : Canon (Dev.pPut a1 a2 a3 a4 a5 a6 a7 a8) := by
  unfold Dev.pPut
  exact Dev.cWr_canon h1

theorem Dev.mPut_canon {a1 a2 a3 a4} (h1 : Canon a1) : Canon (Dev.mPut a1 a2 a3 a4) := by
  unfold Dev.mPut
  exact Dev.cWr_canon h1

theorem Dev.mSet_canon {a1 a2 a3 a4 a5} (h1 : Canon a1) : Canon (Dev.mSet a1 a2 a3 a4 a5) := by
  unfold Dev.mSet
  exact Dev.mPut_canon h1

theorem Dev.campLeave_canon {a1 a2} (h1 : Canon a1) : Canon (Dev.campLeave a1 a2) := by
  unfold Dev.campLeave
  refine canon_foldl ?_ ?_
  · exact h1
  · intro x0 x1 hx2
    extract_lets +onlyGivenNames -merge -useContext y3 y4
    exact canon_ite (Dev.recEdit_canon hx2) hx2

theorem Dev.campsShow_canon {a1} (h1 : Canon a1) : Canon (Dev.campsShow a1) := by
  unfold Dev.campsShow
  exact Dev.wr_canon h1

theorem Dev.campRegs_canon {a1 a2} (h1 : Canon a1) : Canon (Dev.campRegs a1 a2) := by
  unfold Dev.campRegs
  extract_lets +onlyGivenNames -merge -useContext e0
  have he0 : Canon e0 := Dev.wr_canon h1
  clear_value e0
  extract_lets +onlyGivenNames -merge -useContext e1
  have he1 : Canon e1 := Dev.wr_canon he0
  clear_value e1
  extract_lets +onlyGivenNames -merge -useContext e2
  have he2 : Canon e2 := Dev.wr_canon he1
  clear_value e2
  exact Dev.campsShow_canon (Dev.wr_canon he2)

theorem Dev.campShow_canon {a1 a2} (h1 : Canon a1) : Canon (Dev.campShow a1 a2) := by
  unfold Dev.campShow
  extract_lets +onlyGivenNames -merge -useContext e0
  have he0 : Canon e0 := canon_ite (Dev.cWr_canon (Dev.campLeave_canon h1)) h1
  clear_value e0
  extract_lets +onlyGivenNames -merge -useContext y1 y2 e3
  have he3 : Canon e3 := Dev.campRegs_canon he0
  clear_value e3
  refine canon_ite ?_ ?_
  · exact he3
  · extract_lets +onlyGivenNames -merge -useContext e4
    have he4 : Canon e4 := Dev.raise_canon he3
    clear_value e4
    extract_lets +onlyGivenNames -merge -useContext e5
    have he5 : Canon e5 := canon_ite (Dev.raise_canon he4) he4
    clear_value e5
    extract_lets +onlyGivenNames -merge -useContext y6 y7 e8
    have he8 : Canon e8 := canon_upd he5
    clear_value e8
    extract_lets +onlyGivenNames -merge -useContext y9 y10
    refine canon_foldl ?_ ?_
    · exact he8
    · intro x11 x12 hx13
      exact Dev.okRes_canon hx13

theorem Dev.campAborted_canon {a1 a2} (h1 : Canon a1) : Canon (Dev.campAborted a1 a2) := by
  unfold Dev.campAborted
  extract_lets +onlyGivenNames -merge -useContext e0
  have he0 : Canon e0 := Dev.cWr_canon (Dev.campLeave_canon h1)
  clear_value e0
  extract_lets +onlyGivenNames -merge -useContext y1 e2
  have he2 : Canon e2 := canon_upd he0
  clear_value e2
  exact Dev.campShow_canon he2

theorem Dev.pathDone_canon {a1 a2 a3} (h1 : Canon a1) : Canon (Dev.pathDone a1 a2 a3) := by
  unfold Dev.pathDone
  extract_lets +onlyGivenNames -merge -useContext y0 y1 y2
  exact canon_ite (Dev.pPut_canon h1) h1

theorem Dev.memberEnd_canon {a1 a2 a3 a4 a5} (h1 : Canon a1) : Canon (Dev.memberEnd a1 a2 a3 a4 a5) := by
  unfold Dev.memberEnd
  exact Dev.campShow_canon (Dev.pathDone_canon (Dev.mSet_canon h1))

theorem Dev.campPurge_canon {a1} (h1 : Canon a1) : Canon (Dev.campPurge a1) := by
  unfold Dev.campPurge
  refine canon_ite ?_ ?_
  · exact h1
  · refine canon_foldl ?_ ?_
    · exact h1
    · intro x0 x1 hx2
      refine canon_foldl ?_ ?_
      · exact hx2
      · intro x3 x4 hx5
        extract_lets +onlyGivenNames -merge -useContext y6 y7
        exact canon_ite (Dev.memberEnd_canon hx5) hx5

theorem Dev.cmdToken_canon {a1 a2} (h1 : Canon a1) : Canon (Dev.cmdToken a1 a2) := by
  unfold Dev.cmdToken
  exact Dev.bolWr_canon h1

theorem Dev.cmdFinish_canon {a1 a2 a3 a4 a5 a6} (h1 : Canon a1) : Canon (Dev.cmdFinish a1 a2 a3 a4 a5 a6) := by
  unfold Dev.cmdFinish
  extract_lets +onlyGivenNames -merge -useContext e0
  have he0 : Canon e0 := Dev.cmdsSet_canon h1
  clear_value e0
  extract_lets +onlyGivenNames -merge -useContext y1 e2
  have he2 : Canon e2 := canon_upd he0
  clear_value e2
  extract_lets +onlyGivenNames -merge -useContext y3 y4 e5
  have he5 : Canon e5 := Dev.bolWr_canon he2
  clear_value e5
  extract_lets +onlyGivenNames -merge -useContext e6
  have he6 : Canon e6 := canon_ite (Dev.raise_canon he5) he5
  clear_value e6
  split
  · exact Dev.finish_canon he6
  · exact he6
  · exact Dev.memberEnd_canon he6

theorem Dev.cmdGo_canon {a1 a2 a3} (h3 : Canon a3) : Canon (Dev.cmdGo a1 a2 a3) := by
  induction a1 generalizing a3 with
  | zero => exact h3
  | succ k ih =>
    unfold Dev.cmdGo
    split
    · exact h3
    · refine canon_ite (ih (Dev.cmdFinish_canon h3)) ?_
      extract_lets e cseq d1 r alt att b d2
      have h1 : Canon d1 := canon_ite (Dev.bolWr_canon h3) h3
      have h2 : Canon d2 := Dev.cmdPut_canon h1
      clear_value d2
      split
      · exact h2
      · extract_lets f
        have hs : Canon1 (d2.sealFrame f) := Dev.sealFrame_canon h2
        split
        all_goals
          rename_i heq
          rw [heq] at hs
        · exact Dev.dlQueue_canon hs.fst
        · exact Dev.dlQueue_canon (Dev.cmdPut_canon hs.fst)
        · exact ih (Dev.cmdFinish_canon hs.fst)

theorem Dev.cmdAdd_canon {a1 a2} (h1 : Canon a1) : Canon (Dev.cmdAdd a1 a2) := by
  unfold Dev.cmdAdd
  extract_lets +onlyGivenNames -merge -useContext y0 e1
  have he1 : Canon e1 := Dev.cmdsSet_canon h1
  clear_value e1
  exact canon_ite (Dev.cmdGo_canon he1) he1

theorem Dev.groupKeysGo_canon {a1} (h1 : Canon a1) : Canon (Dev.groupKeysGo a1) := by
  unfold Dev.groupKeysGo
  extract_lets +onlyGivenNames -merge -useContext y0
  refine canon_foldl ?_ ?_
  · exact canon_upd h1
  · intro x1 x2 hx3
    split
    · extract_lets +onlyGivenNames -merge -useContext y4 y5
      exact canon_ite hx3 (canon_ite (Dev.cmdAdd_canon hx3) (canon_upd hx3))

theorem Dev.cmdEnd_canon {a1 a2 a3 a4 a5 a6} (h1 : Canon a1) : Canon (Dev.cmdEnd a1 a2 a3 a4 a5 a6) := by
  unfold Dev.cmdEnd
  exact Dev.groupKeysGo_canon (Dev.cmdGo_canon (Dev.cmdFinish_canon h1))

theorem Dev.cmdNext_canon {a1 a2} (h1 : Canon a1) : Canon (Dev.cmdNext a1 a2) := by
  unfold Dev.cmdNext
  exact Dev.groupKeysGo_canon (Dev.cmdGo_canon h1)

theorem Dev.dlSent_canon {a1 a2} (h1 : Canon a1) : Canon (Dev.dlSent a1 a2) := by
  unfold Dev.dlSent
  split
  · exact Dev.okRes_canon h1
  · exact canon_ite (Dev.campShow_canon (Dev.pathDone_canon (Dev.pPut_canon h1))) h1
  · exact h1
  · split
    · exact h1
    · exact canon_ite (Dev.cmdEnd_canon h1) h1

theorem Dev.dlReturned_canon {a1 a2} (h1 : Canon a1) : Canon (Dev.dlReturned a1 a2) := by
  unfold Dev.dlReturned
  split
  · exact Dev.fail_canon h1
  · exact h1
  · exact h1
  · exact canon_ite (Dev.cmdNext_canon h1) h1

theorem Dev.dlToken_canon {a1 a2} (h1 : Canon a1) : Canon (Dev.dlToken a1 a2) := by
  unfold Dev.dlToken
  split
  · exact Dev.fail_canon h1
  · exact h1
  · exact canon_ite (Dev.pPut_canon h1) h1
  · split
    · exact h1
    · exact Dev.cmdEnd_canon h1

theorem Dev.dlFail_canon {a1 a2 a3} (h1 : Canon a1) : Canon (Dev.dlFail a1 a2 a3) := by
  unfold Dev.dlFail
  split
  · exact Dev.fail_canon h1
  · exact h1
  · exact canon_ite (Dev.campAborted_canon h1) h1
  · split
    · exact h1
    · exact Dev.cmdEnd_canon h1

theorem Dev.dlPut_canon {a1 a2} (h1 : Canon a1) : Canon (Dev.dlPut a1 a2) := by
  unfold Dev.dlPut
  split
  · rename_i v0 heq1
    have hv0 : Canon v0 := by
      refine canon_fst_eq heq1 ?_
      exact Dev.sealFrame_canon h1
    exact Dev.dlQueue_canon hv0
  · rename_i v2 v3 heq4
    have hv2 : Canon v2 := by
      refine canon_fst_eq heq4 ?_
      exact Dev.sealFrame_canon h1
    exact Dev.dlQueue_canon hv2
  · rename_i v5 v6 heq7
    have hv5 : Canon v5 := by
      refine canon_fst_eq heq7 ?_
      exact Dev.sealFrame_canon h1
    exact Dev.dlFail_canon hv5

theorem Dev.dlTake_canon {a1 a2 a3} (h1 : Canon a1) : Canon1 (Dev.dlTake a1 a2 a3) := by
  unfold Dev.dlTake
  split
  · exact canon_mk1 h1
  · extract_lets +onlyGivenNames -merge -useContext y0
    have hy0 : ∀ w0, Canon w0 → Canon (y0 w0) := by
      unfold y0
      intro x1 hx2
      exact canon_upd hx2
    clear_value y0
    extract_lets +onlyGivenNames -merge -useContext y3
    have hy3 : ∀ w0 w1, Canon w0 → Canon1 (y3 w0 w1) := by
      unfold y3
      intro x4 x5 hx6
      refine canon_mk1 ?_
      refine Dev.bump_canon ?_
      · refine hy0 _ ?_
        · exact hx6
    clear_value y3
    refine canon_ite1 ?_ ?_
    · refine hy3 _ _ ?_
      · exact h1
    · split
      · rename_i v7 heq8
        have hv7 : Canon v7 := by
          refine canon_fst_eq heq8 ?_
          exact Dev.sealFrame_canon h1
        exact canon_mk1 hv7
      · rename_i v9 v10 heq11
        have hv9 : Canon v9 := by
          refine canon_fst_eq heq11 ?_
          exact Dev.sealFrame_canon h1
        refine hy3 _ _ ?_
        · exact hv9
      · rename_i v12 v13 heq14
        have hv12 : Canon v12 := by
          refine canon_fst_eq heq14 ?_
          exact Dev.sealFrame_canon h1
        refine canon_mk1 ?_
        refine Dev.dlFail_canon ?_
        · refine hy0 _ ?_
          · exact hv12

theorem Dev.bolServed_canon {a1 a2 a3 a4} (h1 : Canon a1) (h4 : ∀ w0, Canon w0 → Canon (a4 w0)) : Canon (Dev.bolServed a1 a2 a3 a4) := by
  unfold Dev.bolServed
  refine canon_ite ?_ ?_
  · refine h4 _ ?_
    · exact h1
  · exact Dev.fail_canon h1

theorem Dev.bolShow_canon {a1} (h1 : Canon a1) : Canon (Dev.bolShow a1) := by
  unfold Dev.bolShow
  extract_lets +onlyGivenNames -merge -useContext e0
  have he0 : Canon e0 := Dev.flag_canon h1
  clear_value e0
  exact canon_ite (Dev.flag_canon he0) he0

theorem Dev.campPush_canon {a1 a2 a3 a4 a5 a6} (h1 : Canon a1) : Canon (Dev.campPush a1 a2 a3 a4 a5 a6) := by
  unfold Dev.campPush
  exact canon_ite h1 (Dev.dlPut_canon h1)

theorem Dev.pushCtrl_canon {a1 a2 a3 a4 a5 a6} (h1 : Canon a1) : Canon (Dev.pushCtrl a1 a2 a3 a4 a5 a6) := by
  unfold Dev.pushCtrl
  exact Dev.campPush_canon h1

theorem Dev.pushAnnounce_canon {a1 a2 a3} (h1 : Canon a1) : Canon (Dev.pushAnnounce a1 a2 a3) := by
  unfold Dev.pushAnnounce
  exact Dev.pushCtrl_canon h1

theorem Dev.campStatus_canon {a1 a2 a3} (h1 : Canon a1) : Canon (Dev.campStatus a1 a2 a3) := by
  unfold Dev.campStatus
  exact Dev.pushCtrl_canon (Dev.pPut_canon h1)

theorem Dev.pushActivate_canon {a1 a2 a3} (h1 : Canon a1) : Canon (Dev.pushActivate a1 a2 a3) := by
  unfold Dev.pushActivate
  exact Dev.pushCtrl_canon h1

theorem Dev.campRefresh_canon {a1 a2 a3} (h1 : Canon a1) : Canon (Dev.campRefresh a1 a2 a3) := by
  unfold Dev.campRefresh
  refine canon_foldl ?_ ?_
  · exact h1
  · intro x0 x1 hx2
    extract_lets +onlyGivenNames -merge -useContext y3 y4
    refine canon_ite ?_ ?_
    · exact Dev.mSet_canon hx2
    · extract_lets +onlyGivenNames -merge -useContext y5
      split
      · exact canon_ite hx2 (Dev.mSet_canon hx2)
      · refine canon_ite ?_ ?_
        · exact hx2
        · extract_lets +onlyGivenNames -merge -useContext y6 e7
          have he7 : Canon e7 := canon_upd hx2
          clear_value e7
          exact canon_ite (Dev.campStatus_canon (Dev.pPut_canon he7)) he7

theorem Dev.campArm_canon {a1 a2 a3} (h1 : Canon a1) : Canon (Dev.campArm a1 a2 a3) := by
  unfold Dev.campArm
  exact Dev.pPut_canon h1

theorem Dev.campRepair_canon {a1 a2 a3} (h1 : Canon a1) : Canon (Dev.campRepair a1 a2 a3) := by
  unfold Dev.campRepair
  extract_lets +onlyGivenNames -merge -useContext e0
  have he0 : Canon e0 := by
    unfold e0
    refine canon_foldl ?_ ?_
    · exact h1
    · intro x1 x2 hx3
      extract_lets +onlyGivenNames -merge -useContext y4
      exact canon_ite hx3 (Dev.cWr_canon hx3)
  clear_value e0
  extract_lets +onlyGivenNames -merge -useContext y5 e6
  have he6 : Canon e6 := Dev.campRefresh_canon (Dev.pPut_canon he0)
  clear_value e6
  split
  · exact Dev.campStatus_canon he6
  · exact Dev.pPut_canon he6

theorem Dev.announceRepeat_canon {a1 a2 a3} (h1 : Canon a1) : Canon (Dev.announceRepeat a1 a2 a3) := by
  unfold Dev.announceRepeat
  refine canon_ite ?_ ?_
  · exact h1
  · refine canon_ite ?_ ?_
    · exact Dev.groupKeysGo_canon (Dev.pushAnnounce_canon (Dev.pPut_canon h1))
    · extract_lets +onlyGivenNames -merge -useContext e0
      have he0 : Canon e0 := by
        unfold e0
        refine canon_foldl ?_ ?_
        · exact h1
        · intro x1 x2 hx3
          exact canon_ite hx3 (Dev.mSet_canon hx3)
      clear_value e0
      exact Dev.campShow_canon (Dev.pPut_canon he0)

theorem Dev.pushSource_canon {a1 a2 a3 a4} (h1 : Canon a1) : Canon (Dev.pushSource a1 a2 a3 a4) := by
  unfold Dev.pushSource
  extract_lets +onlyGivenNames -merge -useContext y0 y1 y2
  split
  · exact Dev.dlQueue_canon h1
  · split
    · rename_i v3 heq4
      have hv3 : Canon v3 := by
        refine canon_fst_eq heq4 ?_
        exact Dev.sealFrame_canon h1
      exact Dev.dlQueue_canon hv3
    · rename_i v5 v6 heq7
      have hv5 : Canon v5 := by
        refine canon_fst_eq heq7 ?_
        exact Dev.sealFrame_canon h1
      exact Dev.dlQueue_canon (canon_upd hv5)
    · rename_i v8 v9 heq10
      have hv8 : Canon v8 := by
        refine canon_fst_eq heq10 ?_
        exact Dev.sealFrame_canon h1
      exact Dev.dlFail_canon hv8

theorem Dev.campNextMember_canon {a1 a2 a3} (h1 : Canon a1) : Canon (Dev.campNextMember a1 a2 a3) := by
  unfold Dev.campNextMember
  split
  · exact h1
  · extract_lets +onlyGivenNames -merge -useContext y0 y1 e2
    have he2 : Canon e2 := Dev.pPut_canon h1
    clear_value e2
    extract_lets +onlyGivenNames -merge -useContext y3
    exact canon_ite (Dev.memberEnd_canon he2) (canon_ite (Dev.memberEnd_canon he2) (canon_ite (Dev.memberEnd_canon he2) (canon_ite (Dev.memberEnd_canon (Dev.raise_canon (Dev.cmdToken_canon he2))) (canon_ite (Dev.pPut_canon he2) (Dev.cmdAdd_canon he2)))))

theorem Dev.pushRepair_canon {a1 a2 a3} (h1 : Canon a1) : Canon (Dev.pushRepair a1 a2 a3) := by
  unfold Dev.pushRepair
  extract_lets +onlyGivenNames -merge -useContext y0 y1 y2 y3 y4 y5 e6
  have he6 : Canon e6 := Dev.bump_canon (Dev.cWr_canon h1)
  clear_value e6
  extract_lets +onlyGivenNames -merge -useContext e7
  have he7 : Canon e7 := Dev.campPush_canon he6
  clear_value e7
  refine canon_ite ?_ ?_
  · exact he7
  · refine canon_ite ?_ ?_
    · exact Dev.pPut_canon he7
    · split
      · exact Dev.pPut_canon he7
      · exact Dev.campShow_canon (Dev.campStatus_canon he7)

theorem Dev.campaignBlockPace_canon {a1 a2 a3} (h1 : Canon a1) : Canon (Dev.campaignBlockPace a1 a2 a3) := by
  unfold Dev.campaignBlockPace
  refine canon_ite ?_ ?_
  · exact h1
  · refine canon_ite ?_ ?_
    · refine canon_ite ?_ ?_
      · exact Dev.campNextMember_canon h1
      · extract_lets +onlyGivenNames -merge -useContext y0 e1
        have he1 : Canon e1 := Dev.pushSource_canon h1
        clear_value e1
        exact canon_ite he1 (canon_ite (Dev.pPut_canon he1) (Dev.campShow_canon (Dev.campStatus_canon (Dev.campRefresh_canon (Dev.pPut_canon he1)))))
    · exact canon_ite (Dev.pushRepair_canon h1) (canon_ite (Dev.pushActivate_canon (Dev.pPut_canon h1)) h1)

theorem Dev.statusWindowEnd_canon {a1 a2 a3} (h1 : Canon a1) : Canon (Dev.statusWindowEnd a1 a2 a3) := by
  unfold Dev.statusWindowEnd
  refine canon_ite ?_ ?_
  · exact h1
  · extract_lets +onlyGivenNames -merge -useContext e0
    have he0 : Canon e0 := by
      unfold e0
      refine canon_foldl ?_ ?_
      · exact h1
      · intro x1 x2 hx3
        extract_lets +onlyGivenNames -merge -useContext y4
        refine canon_ite ?_ ?_
        · exact hx3
        · extract_lets +onlyGivenNames -merge -useContext y5 e6
          have he6 : Canon e6 := Dev.mPut_canon hx3
          clear_value e6
          exact canon_ite (Dev.mSet_canon he6) he6
    clear_value e0
    extract_lets +onlyGivenNames -merge -useContext y7 y8 e9
    have he9 : Canon e9 := canon_upd he0
    clear_value e9
    extract_lets +onlyGivenNames -merge -useContext y10 e11
    have he11 : Canon e11 := Dev.campRepair_canon he9
    clear_value e11
    extract_lets +onlyGivenNames -merge -useContext e12
    have he12 : Canon e12 := by
      unfold e12
      refine canon_ite ?_ ?_
      · exact Dev.campArm_canon he9
      · refine canon_ite ?_ ?_
        · refine Dev.campArm_canon ?_
          · refine canon_foldl ?_ ?_
            · exact he9
            · intro x13 x14 hx15
              exact canon_ite hx15 (Dev.mSet_canon hx15)
        · exact canon_ite (Dev.campArm_canon he11) he11
    clear_value e12
    exact Dev.campShow_canon he12

theorem Dev.campActivate_canon {a1 a2} (h1 : Canon a1) : Canon (Dev.campActivate a1 a2) := by
  unfold Dev.campActivate
  extract_lets +onlyGivenNames -merge -useContext y0
  refine canon_ite ?_ ?_
  · exact Dev.campShow_canon (Dev.cWr_canon h1)
  · refine Dev.campShow_canon ?_
    · refine canon_foldl ?_ ?_
      · exact h1
      · intro x1 x2 hx3
        exact Dev.pathDone_canon (Dev.pushActivate_canon (Dev.pPut_canon hx3))

theorem Dev.activateAtReached_canon {a1 a2} (h1 : Canon a1) : Canon (Dev.activateAtReached a1 a2) := by
  unfold Dev.activateAtReached
  exact canon_ite (Dev.campActivate_canon h1) h1

theorem Dev.activationWindowEnd_canon {a1 a2 a3} (h1 : Canon a1) : Canon (Dev.activationWindowEnd a1 a2 a3) := by
  unfold Dev.activationWindowEnd
  exact canon_ite h1 (Dev.campShow_canon (Dev.pathDone_canon (Dev.pPut_canon h1)))

theorem Dev.ackDrop_canon {a1} (h1 : Canon a1) : Canon (Dev.ackDrop a1) := by
  unfold Dev.ackDrop
  exact Dev.setF_canon (Dev.bump_canon h1)

theorem Dev.ackRequest_canon {a1} (h1 : Canon a1) : Canon (Dev.ackRequest a1) := by
  unfold Dev.ackRequest
  split
  · exact h1
  · extract_lets +onlyGivenNames -merge -useContext y0 e1
    have he1 : Canon e1 := canon_upd h1
    clear_value e1
    exact canon_ite he1 (canon_ite (Dev.ackDrop_canon he1) (canon_upd he1))

theorem Dev.ackDelayExpiry_canon {a1} (h1 : Canon a1) : Canon (Dev.ackDelayExpiry a1) := by
  unfold Dev.ackDelayExpiry
  split
  · exact h1
  · extract_lets +onlyGivenNames -merge -useContext y0
    refine canon_ite ?_ ?_
    · exact h1
    · extract_lets +onlyGivenNames -merge -useContext y1 e2
      have he2 : Canon e2 := canon_upd h1
      clear_value e2
      refine canon_ite ?_ ?_
      · exact he2
      · refine canon_ite ?_ ?_
        · exact Dev.ackDrop_canon he2
        · split
          · split
            · rename_i v3 heq4
              have hv3 : Canon v3 := by
                refine canon_fst_eq heq4 ?_
                exact Dev.msrGet_canon he2
              exact hv3
            · rename_i v5 v6 heq7
              have hv5 : Canon v5 := by
                refine canon_fst_eq heq7 ?_
                exact Dev.msrGet_canon he2
              exact canon_ite (canon_ite (Dev.dlPut_canon hv5) hv5) (Dev.dlPut_canon hv5)
          · exact he2

theorem Dev.cmdAcked_canon {a1 a2} (h1 : Canon a1) : Canon (Dev.cmdAcked a1 a2) := by
  unfold Dev.cmdAcked
  refine canon_ite ?_ ?_
  · extract_lets +onlyGivenNames -merge -useContext e0
    have he0 : Canon e0 := Dev.ctrFresh_canon (Dev.bolWr_canon h1)
    clear_value e0
    exact canon_upd he0
  · refine canon_ite ?_ ?_
    · extract_lets +onlyGivenNames -merge -useContext y1
      exact Dev.bolWr_canon h1
    · exact h1

theorem Dev.ackNotice_canon {a1} (h1 : Canon a1) : Canon (Dev.ackNotice a1) := by
  unfold Dev.ackNotice
  split
  · exact h1
  · extract_lets +onlyGivenNames -merge -useContext y0 e1
    have he1 : Canon e1 := canon_upd h1
    clear_value e1
    extract_lets +onlyGivenNames -merge -useContext y2 y3 y4 y5
    clear_value y5
    split
    · extract_lets +onlyGivenNames -merge -useContext y6
      exact canon_ite (Dev.cmdEnd_canon (Dev.cmdAcked_canon he1)) (Dev.cmdEnd_canon he1)
    · extract_lets +onlyGivenNames -merge -useContext e7
      have he7 : Canon e7 := Dev.bump_canon he1
      clear_value e7
      extract_lets +onlyGivenNames -merge -useContext y8
      exact canon_ite (Dev.bolWr_canon he7) he7

theorem Dev.pushMember_canon {a1 a2 a3 a4} (h1 : Canon a1) : Canon (Dev.pushMember a1 a2 a3 a4) := by
  unfold Dev.pushMember
  extract_lets +onlyGivenNames -merge -useContext y0 y1 y2 y3 y4 y5 e6
  have he6 : Canon e6 := Dev.mPut_canon h1
  clear_value e6
  extract_lets +onlyGivenNames -merge -useContext y7 e8
  have he8 : Canon e8 := canon_upd he6
  clear_value e8
  extract_lets +onlyGivenNames -merge -useContext e9
  have he9 : Canon e9 := canon_ite he8 (Dev.recEdit_canon he8)
  clear_value e9
  extract_lets +onlyGivenNames -merge -useContext e10
  have he10 : Canon e10 := by
    unfold e10
    refine canon_foldl ?_ ?_
    · exact he9
    · intro x11 x12 hx13
      extract_lets +onlyGivenNames -merge -useContext y14 y15
      exact canon_ite (Dev.cWr_canon hx13) hx13
  clear_value e10
  exact Dev.campShow_canon (Dev.pathDone_canon he10)

theorem Dev.pushStatusNotice_canon {a1} (h1 : Canon a1) : Canon (Dev.pushStatusNotice a1) := by
  unfold Dev.pushStatusNotice
  split
  · exact h1
  · extract_lets +onlyGivenNames -merge -useContext y0 e1
    have he1 : Canon e1 := canon_upd h1
    clear_value e1
    extract_lets +onlyGivenNames -merge -useContext y2 y3 y4 y5
    split
    · exact Dev.bump_canon he1
    · exact Dev.pushMember_canon he1

theorem Dev.cmdAttemptTimeout_canon {a1 a2} (h1 : Canon a1) : Canon (Dev.cmdAttemptTimeout a1 a2) := by
  unfold Dev.cmdAttemptTimeout
  split
  · exact h1
  · extract_lets +onlyGivenNames -merge -useContext y0
    exact canon_ite h1 (Dev.cmdNext_canon h1)

theorem Dev.tokenWaitExpiry_canon {a1 a2} (h1 : Canon a1) : Canon (Dev.tokenWaitExpiry a1 a2) := by
  unfold Dev.tokenWaitExpiry
  split
  · exact h1
  · exact canon_ite h1 (Dev.dlToken_canon (canon_upd h1))

theorem Dev.tokenHeldEnd_canon {a1} (h1 : Canon a1) : Canon (Dev.tokenHeldEnd a1) := by
  unfold Dev.tokenHeldEnd
  extract_lets +onlyGivenNames -merge -useContext y0
  refine canon_foldl ?_ ?_
  · exact canon_upd h1
  · intro x1 x2 hx3
    exact Dev.dlToken_canon hx3

theorem Dev.campsResume_canon {a1} (h1 : Canon a1) : Canon (Dev.campsResume a1) := by
  unfold Dev.campsResume
  refine canon_foldl ?_ ?_
  · exact h1
  · intro x0 x1 hx2
    refine canon_ite ?_ ?_
    · exact hx2
    · extract_lets +onlyGivenNames -merge -useContext e3
      have he3 : Canon e3 := by
        unfold e3
        refine canon_foldl ?_ ?_
        · exact hx2
        · intro x4 x5 hx6
          refine canon_ite ?_ ?_
          · exact hx6
          · split
            · exact hx6
            · exact canon_upd hx6
      clear_value e3
      extract_lets +onlyGivenNames -merge -useContext e7
      have he7 : Canon e7 := by
        unfold e7
        refine canon_foldl ?_ ?_
        · exact he3
        · intro x8 x9 hx10
          exact canon_ite (Dev.campStatus_canon hx10) (canon_ite (Dev.pathDone_canon hx10) hx10)
      clear_value e7
      exact Dev.campShow_canon he7

theorem Dev.bolSync_canon {a1} (h1 : Canon a1) : Canon (Dev.bolSync a1) := by
  unfold Dev.bolSync
  refine canon_ite ?_ ?_
  · extract_lets +onlyGivenNames -merge -useContext e0
    have he0 : Canon e0 := Dev.setF_canon h1
    clear_value e0
    extract_lets +onlyGivenNames -merge -useContext y1 y2 e3
    have he3 : Canon e3 := canon_upd he0
    clear_value e3
    extract_lets +onlyGivenNames -merge -useContext e4
    have he4 : Canon e4 := by
      unfold e4
      refine canon_foldl ?_ ?_
      · exact he3
      · intro x5 x6 hx7
        exact canon_ite (Dev.recEdit_canon hx7) hx7
    clear_value e4
    extract_lets +onlyGivenNames -merge -useContext e8
    have he8 : Canon e8 := by
      unfold e8
      refine canon_ite ?_ ?_
      · refine canon_foldl ?_ ?_
        · exact he4
        · intro x9 x10 hx11
          exact Dev.campShow_canon (Dev.cWr_canon hx11)
      · exact he0
    clear_value e8
    extract_lets +onlyGivenNames -merge -useContext e12
    have he12 : Canon e12 := by
      unfold e12
      refine canon_foldl ?_ ?_
      · exact he8
      · intro x13 x14 hx15
        exact canon_ite hx15 (Dev.campRegs_canon hx15)
    clear_value e12
    exact Dev.bolShow_canon (Dev.epochStart_canon (canon_ite (Dev.campsResume_canon he12) he12))
  · exact Dev.epochStart_canon h1

theorem Dev.bolEnable_canon {a1 a2} (h1 : Canon a1) : Canon (Dev.bolEnable a1 a2) := by
  unfold Dev.bolEnable
  extract_lets +onlyGivenNames -merge -useContext y0 e1
  have he1 : Canon e1 := Dev.regWrite32_canon h1
  clear_value e1
  exact canon_ite (Dev.bolShow_canon (Dev.clrF_canon (Dev.clrF_canon he1))) (canon_ite (Dev.bolShow_canon he1) (canon_ite (Dev.bolShow_canon (Dev.bolSync_canon (Dev.commitRwl_canon he1))) (Dev.raise_canon (Dev.setF_canon (Dev.clrF_canon he1)))))

theorem Dev.bolCmd_canon {a1 a2} (h1 : Canon a1) : Canon (Dev.bolCmd a1 a2) := by
  unfold Dev.bolCmd
  refine Dev.withFields_canon ?_ ?_
  · exact h1
  · intro x0 hx1
    extract_lets +onlyGivenNames -merge -useContext y2 y3 y4 y5
    refine canon_ite ?_ ?_
    · exact Dev.fail_canon hx1
    · refine Dev.bolServed_canon ?_ ?_
      · exact hx1
      · intro x6 hx7
        split
        · rename_i v8 heq9
          have hv8 : Canon v8 := by
            refine canon_fst_eq heq9 ?_
            exact Dev.msrGet_canon hx7
          exact Dev.finish_canon hv8
        · rename_i v10 v11 heq12
          have hv10 : Canon v10 := by
            refine canon_fst_eq heq12 ?_
            exact Dev.msrGet_canon hx7
          exact canon_ite (Dev.finish_canon hv10) (canon_ite (Dev.fail_canon hv10) (canon_ite (Dev.fail_canon (Dev.raise_canon (Dev.cmdToken_canon hv10))) (canon_ite (Dev.fail_canon hv10) (Dev.cmdAdd_canon hv10))))

theorem Dev.bolApdu_canon {a1 a2} (h1 : Canon a1) : Canon (Dev.bolApdu a1 a2) := by
  unfold Dev.bolApdu
  refine Dev.withFields_canon ?_ ?_
  · exact h1
  · intro x0 hx1
    extract_lets +onlyGivenNames -merge -useContext y2
    refine canon_ite ?_ ?_
    · exact Dev.fail_canon hx1
    · refine Dev.bolServed_canon ?_ ?_
      · exact hx1
      · intro x3 hx4
        split
        · rename_i v5 heq6
          have hv5 : Canon v5 := by
            refine canon_fst_eq heq6 ?_
            exact Dev.msrGet_canon hx4
          exact Dev.finish_canon hv5
        · rename_i v7 v8 heq9
          have hv7 : Canon v7 := by
            refine canon_fst_eq heq9 ?_
            exact Dev.msrGet_canon hx4
          refine canon_ite ?_ ?_
          · exact Dev.finish_canon hv7
          · refine canon_ite ?_ ?_
            · exact Dev.fail_canon hv7
            · split
              · exact Dev.fail_canon hv7
              · exact Dev.dlPut_canon hv7

theorem Dev.bolCampLoad_canon {a1 a2} (h1 : Canon a1) : Canon (Dev.bolCampLoad a1 a2) := by
  unfold Dev.bolCampLoad
  extract_lets +onlyGivenNames -merge -useContext y0
  refine Dev.withFields_canon ?_ ?_
  · exact h1
  · intro x1 hx2
    extract_lets +onlyGivenNames -merge -useContext y3 y4
    refine canon_ite ?_ ?_
    · exact Dev.fail_canon hx2
    · refine Dev.bolServed_canon ?_ ?_
      · exact hx2
      · intro x5 hx6
        refine canon_ite ?_ ?_
        · exact Dev.fail_canon hx6
        · refine canon_ite ?_ ?_
          · exact Dev.fail_canon hx6
          · refine canon_ite ?_ ?_
            · exact Dev.fail_canon hx6
            · refine canon_ite ?_ ?_
              · exact Dev.fail_canon hx6
              · extract_lets +onlyGivenNames -merge -useContext e7
                have he7 : Canon e7 := Dev.bolWr_canon hx6
                clear_value e7
                extract_lets +onlyGivenNames -merge -useContext e8
                have he8 : Canon e8 := canon_ite he7 (Dev.bolWr_canon he7)
                clear_value e8
                exact Dev.okRes_canon (Dev.campShow_canon he8)

theorem Dev.campAdd_canon {a1 a2 a3} (h1 : Canon a1) : Canon1 (Dev.campAdd a1 a2 a3) := by
  unfold Dev.campAdd
  extract_lets +onlyGivenNames -merge -useContext y0 y1 y2 e3
  have he3 : Canon e3 := Dev.mPut_canon h1
  clear_value e3
  exact canon_mk1 (Dev.cWr_canon he3)

theorem Dev.bolCampMembers_canon {a1 a2} (h1 : Canon a1) : Canon (Dev.bolCampMembers a1 a2) := by
  unfold Dev.bolCampMembers
  extract_lets +onlyGivenNames -merge -useContext y0
  refine Dev.withFields_canon ?_ ?_
  · exact h1
  · intro x1 hx2
    extract_lets +onlyGivenNames -merge -useContext y3
    refine canon_ite ?_ ?_
    · exact Dev.fail_canon hx2
    · refine Dev.bolServed_canon ?_ ?_
      · exact hx2
      · intro x4 hx5
        refine canon_ite ?_ ?_
        · exact Dev.fail_canon hx5
        · refine canon_ite ?_ ?_
          · exact Dev.fail_canon hx5
          · extract_lets +onlyGivenNames -merge -useContext y6 y7 y8
            refine canon_ite ?_ ?_
            · exact Dev.fail_canon hx5
            · extract_lets +onlyGivenNames -merge -useContext y9 y10 y11
              have hy11 : Canon1 y11 := by
                unfold y11
                refine canon_foldl1 ?_ ?_
                · exact canon_mk1 hx5
                · intro x12 x13 hx14
                  extract_lets +onlyGivenNames -merge -useContext y15
                  have hy15 : Canon1 y15 := Dev.campAdd_canon (Canon1.fst hx14)
                  clear_value y15
                  exact canon_mk1 (Canon1.fst hy15)
              clear_value y11
              exact Dev.okRes_canon (Dev.campShow_canon (Canon1.fst hy11))

theorem Dev.bolCampStart_canon {a1 a2} (h1 : Canon a1) : Canon (Dev.bolCampStart a1 a2) := by
  unfold Dev.bolCampStart
  refine Dev.withFields_canon ?_ ?_
  · exact h1
  · intro x0 hx1
    extract_lets +onlyGivenNames -merge -useContext y2
    refine canon_ite ?_ ?_
    · exact Dev.fail_canon hx1
    · refine Dev.bolServed_canon ?_ ?_
      · exact hx1
      · intro x3 hx4
        refine canon_ite ?_ ?_
        · exact Dev.fail_canon hx4
        · extract_lets +onlyGivenNames -merge -useContext e5
          have he5 : Canon e5 := Dev.cWr_canon hx4
          clear_value e5
          extract_lets +onlyGivenNames -merge -useContext e6
          have he6 : Canon e6 := Dev.cWr_canon (Dev.cWr_canon (Dev.cWr_canon he5))
          clear_value e6
          extract_lets +onlyGivenNames -merge -useContext y7
          have hy7 : ∀ w0 w1, Canon w0 → Canon (y7 w0 w1) := by
            unfold y7
            intro x8 x9 hx10
            extract_lets +onlyGivenNames -merge -useContext y11 y12 y13
            refine canon_ite ?_ ?_
            · exact hx10
            · refine canon_ite ?_ ?_
              · exact Dev.mSet_canon hx10
              · refine canon_ite ?_ ?_
                · exact Dev.mSet_canon hx10
                · extract_lets +onlyGivenNames -merge -useContext y14
                  split
                  · exact Dev.mSet_canon hx10
                  · extract_lets +onlyGivenNames -merge -useContext e15
                    have he15 : Canon e15 := Dev.recEdit_canon hx10
                    clear_value e15
                    extract_lets +onlyGivenNames -merge -useContext y16 e17
                    have he17 : Canon e17 := canon_upd he15
                    clear_value e17
                    exact canon_ite he17 (Dev.pPut_canon he17)
          clear_value y7
          extract_lets +onlyGivenNames -merge -useContext e18
          have he18 : Canon e18 := by
            unfold e18
            refine canon_foldl ?_ ?_
            · exact he6
            · intro x19 x20 hx21
              refine hy7 _ _ ?_
              · exact hx21
          clear_value e18
          extract_lets +onlyGivenNames -merge -useContext y22 y23 y24 e25
          have he25 : Canon e25 := Dev.groupKeysGo_canon (canon_upd he18)
          clear_value e25
          extract_lets +onlyGivenNames -merge -useContext e26
          have he26 : Canon e26 := by
            unfold e26
            refine canon_ite ?_ ?_
            · exact he18
            · refine canon_foldl ?_ ?_
              · exact he25
              · intro x27 x28 hx29
                exact Dev.pushAnnounce_canon (Dev.pPut_canon hx29)
          clear_value e26
          exact Dev.okRes_canon (Dev.campShow_canon he26)

theorem Dev.campOn_canon {a1 a2 a3 a4 a5} (h1 : Canon a1) (h5 : ∀ w0 w1, Canon w0 → Canon (a5 w0 w1)) : Canon (Dev.campOn a1 a2 a3 a4 a5) := by
  unfold Dev.campOn
  extract_lets +onlyGivenNames -merge -useContext y0
  refine canon_ite ?_ ?_
  · exact Dev.fail_canon h1
  · refine Dev.bolServed_canon ?_ ?_
    · exact h1
    · intro x1 hx2
      refine canon_ite ?_ ?_
      · refine h5 _ _ ?_
        · exact hx2
      · exact Dev.fail_canon hx2

theorem Dev.bolCampActivate_canon {a1 a2} (h1 : Canon a1) : Canon (Dev.bolCampActivate a1 a2) := by
  unfold Dev.bolCampActivate
  refine Dev.withFields_canon ?_ ?_
  · exact h1
  · intro x0 hx1
    refine Dev.campOn_canon ?_ ?_
    · exact hx1
    · intro x2 x3 hx4
      exact Dev.okRes_canon (Dev.campActivate_canon hx4)

theorem Dev.bolCampWait_canon {a1 a2} (h1 : Canon a1) : Canon (Dev.bolCampWait a1 a2) := by
  unfold Dev.bolCampWait
  refine Dev.withFields_canon ?_ ?_
  · exact h1
  · intro x0 hx1
    refine Dev.campOn_canon ?_ ?_
    · exact hx1
    · intro x2 x3 hx4
      exact canon_upd hx4

theorem Dev.bolCampReport_canon {a1 a2} (h1 : Canon a1) : Canon (Dev.bolCampReport a1 a2) := by
  unfold Dev.bolCampReport
  refine Dev.withFields_canon ?_ ?_
  · exact h1
  · intro x0 hx1
    refine canon_ite ?_ ?_
    · exact Dev.fail_canon hx1
    · refine Dev.campOn_canon ?_ ?_
      · exact hx1
      · intro x2 x3 hx4
        extract_lets +onlyGivenNames -merge -useContext y5 y6
        exact Dev.finish_canon hx4

theorem Dev.bolCampAbort_canon {a1 a2} (h1 : Canon a1) : Canon (Dev.bolCampAbort a1 a2) := by
  unfold Dev.bolCampAbort
  refine Dev.withFields_canon ?_ ?_
  · exact h1
  · intro x0 hx1
    refine Dev.campOn_canon ?_ ?_
    · exact hx1
    · intro x2 x3 hx4
      extract_lets +onlyGivenNames -merge -useContext y5 y6 e7
      have he7 : Canon e7 := Dev.cmdsSet_canon hx4
      clear_value e7
      extract_lets +onlyGivenNames -merge -useContext e8
      have he8 : Canon e8 := Dev.campAborted_canon he7
      clear_value e8
      extract_lets +onlyGivenNames -merge -useContext e9
      have he9 : Canon e9 := by
        unfold e9
        refine canon_ite ?_ ?_
        · refine canon_foldl ?_ ?_
          · exact he8
          · intro x10 x11 hx12
            refine canon_foldN ?_ ?_
            · exact hx12
            · intro x13 x14 hx15
              exact Dev.pushCtrl_canon hx15
        · exact he8
      clear_value e9
      exact Dev.okRes_canon he9

theorem Dev.bolCampFree_canon {a1 a2} (h1 : Canon a1) : Canon (Dev.bolCampFree a1 a2) := by
  unfold Dev.bolCampFree
  refine Dev.withFields_canon ?_ ?_
  · exact h1
  · intro x0 hx1
    refine Dev.campOn_canon ?_ ?_
    · exact hx1
    · intro x2 x3 hx4
      extract_lets +onlyGivenNames -merge -useContext e5
      have he5 : Canon e5 := Dev.campLeave_canon hx4
      clear_value e5
      extract_lets +onlyGivenNames -merge -useContext y6
      have hy6 : ∀ w0 w1 w2, Canon w0 → Canon (y6 w0 w1 w2) := by
        unfold y6
        intro x7 x8 x9 hx10
        exact Dev.bolWr_canon hx10
      clear_value y6
      extract_lets +onlyGivenNames -merge -useContext e11
      have he11 : Canon e11 := by
        unfold e11
        refine hy6 _ _ _ ?_
        · refine hy6 _ _ _ ?_
          · refine hy6 _ _ _ ?_
            · refine hy6 _ _ _ ?_
              · exact he5
      clear_value e11
      extract_lets +onlyGivenNames -merge -useContext y12 y13 e14
      have he14 : Canon e14 := canon_upd he11
      clear_value e14
      exact Dev.okRes_canon (Dev.campShow_canon he14)

theorem Dev.bolGroupSet_canon {a1 a2} (h1 : Canon a1) : Canon (Dev.bolGroupSet a1 a2) := by
  unfold Dev.bolGroupSet
  refine Dev.withFields_canon ?_ ?_
  · exact h1
  · intro x0 hx1
    extract_lets +onlyGivenNames -merge -useContext y2
    refine canon_ite ?_ ?_
    · exact Dev.fail_canon hx1
    · refine Dev.bolServed_canon ?_ ?_
      · exact hx1
      · intro x3 hx4
        refine canon_ite ?_ ?_
        · exact Dev.okRes_canon hx4
        · extract_lets +onlyGivenNames -merge -useContext y5 y6 e7
          have he7 : Canon e7 := Dev.ctrFresh_canon (canon_ite (Dev.epochAdvance_canon hx4) hx4)
          clear_value e7
          extract_lets +onlyGivenNames -merge -useContext y8 e9
          have he9 : Canon e9 := canon_upd he7
          clear_value e9
          exact Dev.tableSave_canon (Dev.grpPut_canon he9)

theorem Dev.bolCmdStatus_canon {a1 a2} (h1 : Canon a1) : Canon (Dev.bolCmdStatus a1 a2) := by
  unfold Dev.bolCmdStatus
  refine Dev.withFields_canon ?_ ?_
  · exact h1
  · intro x0 hx1
    extract_lets +onlyGivenNames -merge -useContext y2
    refine canon_ite ?_ ?_
    · exact Dev.fail_canon hx1
    · refine Dev.bolServed_canon ?_ ?_
      · exact hx1
      · intro x3 hx4
        extract_lets +onlyGivenNames -merge -useContext y5
        exact Dev.okRes_canon hx4

end Sys2Proof.Machine
end

