-- ==== Sys2Proof/Laws/CanonPlk.lean ====
section
/-! SUPPORT. Every operation of Machine/Plk.lean that answers a device keeps the stored data in canonical form. -/

namespace Sys2Proof.Machine

theorem Dev.setPlc_canon {a1 a2 a3} (h1 : Canon a1) : Canon (Dev.setPlc a1 a2 a3) := by
  unfold Dev.setPlc
  exact canon_upd h1

theorem Dev.modPlc_canon {a1 a2 a3} (h1 : Canon a1) : Canon (Dev.modPlc a1 a2 a3) := by
  unfold Dev.modPlc
  exact Dev.setPlc_canon h1

theorem Dev.plcEvent_canon {a1 a2 a3} (h1 : Canon a1) : Canon (Dev.plcEvent a1 a2 a3) := by
  unfold Dev.plcEvent
  exact Dev.raise_canon (Dev.setF_canon h1)

theorem Dev.plcRefresh_canon {a1 a2} (h1 : Canon a1) : Canon (Dev.plcRefresh a1 a2) := by
  unfold Dev.plcRefresh
  extract_lets +onlyGivenNames -merge -useContext e0
  have he0 : Canon e0 := Dev.fifoStore_canon h1
  clear_value e0
  extract_lets +onlyGivenNames -merge -useContext y1
  exact canon_ite (Dev.setF_canon he0) (canon_ite (Dev.clrF_canon he0) he0)

theorem Dev.plcCount_canon {a1 a2} (h1 : Canon a1) : Canon (Dev.plcCount a1 a2) := by
  unfold Dev.plcCount
  exact Dev.wr_canon h1

theorem Dev.plcCtl_canon {a1 a2 a3 a4 a5} (h1 : Canon a1) : Canon (Dev.plcCtl a1 a2 a3 a4 a5) := by
  unfold Dev.plcCtl
  exact canon_ite h1 (Dev.modPlc_canon h1)

theorem Dev.assocRsp_canon {a1 a2 a3 a4 a5 a6 a7} (h1 : Canon a1) : Canon (Dev.assocRsp a1 a2 a3 a4 a5 a6 a7) := by
  unfold Dev.assocRsp
  exact Dev.plcCtl_canon h1

theorem Dev.tmRsp_canon {a1 a2 a3 a4} (h1 : Canon a1) : Canon (Dev.tmRsp a1 a2 a3 a4) := by
  unfold Dev.tmRsp
  extract_lets +onlyGivenNames -merge -useContext y0
  split
  · exact Dev.plcCtl_canon h1
  · extract_lets +onlyGivenNames -merge -useContext y1 e2
    have he2 : Canon e2 := Dev.modPlc_canon h1
    clear_value e2
    exact Dev.plcCtl_canon he2

theorem Dev.plcHeard_canon {a1 a2 a3 a4} (h1 : Canon a1) : Canon (Dev.plcHeard a1 a2 a3 a4) := by
  unfold Dev.plcHeard
  extract_lets +onlyGivenNames -merge -useContext e0
  have he0 : Canon e0 := Dev.bump_canon h1
  clear_value e0
  extract_lets +onlyGivenNames -merge -useContext e1
  have he1 : Canon e1 := canon_ite (Dev.bump_canon he0) he0
  clear_value e1
  split
  · exact he1
  · extract_lets +onlyGivenNames -merge -useContext y2 y3 e4
    have he4 : Canon e4 := Dev.modPlc_canon he1
    clear_value e4
    extract_lets +onlyGivenNames -merge -useContext y5
    exact canon_ite (Dev.tmRsp_canon he4) he4

theorem Dev.plcRx_canon {a1 a2 a3 a4 a5} (h1 : Canon a1) (h5 : ∀ w0 w1, Canon w0 → Canon (a5 w0 w1)) : Canon (Dev.plcRx a1 a2 a3 a4 a5) := by
  unfold Dev.plcRx
  refine canon_ite ?_ ?_
  · exact h1
  · extract_lets +onlyGivenNames -merge -useContext y0
    refine canon_ite ?_ ?_
    · refine canon_ite ?_ ?_
      · refine h5 _ _ ?_
        · exact Dev.plcHeard_canon h1
      · exact h1
    · extract_lets +onlyGivenNames -merge -useContext e1
      have he1 : Canon e1 := Dev.bump_canon h1
      clear_value e1
      exact Dev.bump_canon he1

theorem Dev.plcComplete_canon {a1 a2 a3} (h1 : Canon a1) : Canon (Dev.plcComplete a1 a2 a3) := by
  unfold Dev.plcComplete
  extract_lets +onlyGivenNames -merge -useContext y0 y1 e2
  have he2 : Canon e2 := Dev.modPlc_canon h1
  clear_value e2
  extract_lets +onlyGivenNames -merge -useContext y3
  exact Dev.fifoStore_canon he2

theorem Dev.plcAck_canon {a1 a2 a3 a4 a5} (h1 : Canon a1) : Canon (Dev.plcAck a1 a2 a3 a4 a5) := by
  unfold Dev.plcAck
  exact Dev.modPlc_canon h1

theorem Dev.plcDataSegment_canon {a1 a2 a3} (h1 : Canon a1) : Canon (Dev.plcDataSegment a1 a2 a3) := by
  unfold Dev.plcDataSegment
  refine Dev.plcRx_canon ?_ ?_
  · exact h1
  · intro x0 x1 hx2
    extract_lets +onlyGivenNames -merge -useContext e3
    have he3 : Canon e3 := Dev.sample_canon (Dev.bump_canon hx2)
    clear_value e3
    extract_lets +onlyGivenNames -merge -useContext e4
    have he4 : Canon e4 := canon_ite (Dev.assocRsp_canon he3) he3
    clear_value e4
    extract_lets +onlyGivenNames -merge -useContext y5 y6
    refine canon_ite ?_ ?_
    · exact Dev.plcAck_canon he4
    · extract_lets +onlyGivenNames -merge -useContext y7 y8 y9
      refine canon_ite ?_ ?_
      · exact Dev.plcAck_canon he4
      · extract_lets +onlyGivenNames -merge -useContext y10
        refine canon_ite ?_ ?_
        · exact Dev.bump_canon he4
        · extract_lets +onlyGivenNames -merge -useContext y11 y12 e13
          have he13 : Canon e13 := Dev.plcAck_canon he4
          clear_value e13
          extract_lets +onlyGivenNames -merge -useContext e14
          have he14 : Canon e14 := Dev.modPlc_canon he13
          clear_value e14
          exact Dev.plcRefresh_canon (canon_ite (Dev.plcComplete_canon he14) he14)

theorem Dev.plcReassemblyExpiry_canon {a1 a2 a3 a4} (h1 : Canon a1) : Canon (Dev.plcReassemblyExpiry a1 a2 a3 a4) := by
  unfold Dev.plcReassemblyExpiry
  extract_lets +onlyGivenNames -merge -useContext y0
  split
  · exact h1
  · refine canon_ite ?_ ?_
    · exact h1
    · extract_lets +onlyGivenNames -merge -useContext e1
      have he1 : Canon e1 := Dev.setPlc_canon h1
      clear_value e1
      exact Dev.plcRefresh_canon (Dev.bump_canon he1)

theorem Dev.plcUnbind_canon {a1 a2 a3} (h1 : Canon a1) : Canon (Dev.plcUnbind a1 a2 a3) := by
  unfold Dev.plcUnbind
  exact Dev.plcCount_canon (Dev.modPlc_canon h1)

theorem Dev.bindRecord_canon {a1 a2 a3 a4 a5 a6} (h1 : Canon a1) : Canon1 (Dev.bindRecord a1 a2 a3 a4 a5 a6) := by
  unfold Dev.bindRecord
  refine canon_ite1 ?_ ?_
  · exact canon_mk1 h1
  · extract_lets +onlyGivenNames -merge -useContext y0 y1 y2
    exact canon_ite1 (canon_mk1 (Dev.recEdit_canon h1)) (canon_ite1 (canon_mk1 (Dev.recEdit_canon h1)) (canon_mk1 h1))

theorem Dev.plcAssocReq_canon {a1 a2 a3} (h1 : Canon a1) : Canon (Dev.plcAssocReq a1 a2 a3) := by
  unfold Dev.plcAssocReq
  refine Dev.plcRx_canon ?_ ?_
  · exact h1
  · intro x0 x1 hx2
    refine canon_ite ?_ ?_
    · exact hx2
    · extract_lets +onlyGivenNames -merge -useContext y3 y4 y5
      split
      · exact Dev.assocRsp_canon hx2
      · refine canon_ite ?_ ?_
        · exact Dev.assocRsp_canon hx2
        · extract_lets +onlyGivenNames -merge -useContext y6 y7 y8 y9 y10
          split
          · exact Dev.assocRsp_canon hx2
          · extract_lets +onlyGivenNames -merge -useContext y11 e12
            have he12 : Canon e12 := Dev.setPlc_canon (Dev.drawn_canon hx2)
            clear_value e12
            extract_lets +onlyGivenNames -merge -useContext e13
            have he13 : Canon e13 := Dev.plcEvent_canon (Dev.plcCount_canon he12)
            clear_value e13
            extract_lets +onlyGivenNames -merge -useContext y14 y15
            have hy15 : Canon1 y15 := by
              unfold y15
              clear_value y6
              split
              · exact canon_mk1 he13
              · exact Dev.bindRecord_canon he13
            clear_value y15
            extract_lets +onlyGivenNames -merge -useContext e16
            have he16 : Canon e16 := canon_ite (Dev.plcEvent_canon (Canon1.fst hy15)) (Canon1.fst hy15)
            clear_value e16
            exact Dev.assocRsp_canon he16

theorem Dev.plcAlive_canon {a1 a2 a3} (h1 : Canon a1) : Canon (Dev.plcAlive a1 a2 a3) := by
  unfold Dev.plcAlive
  refine Dev.plcRx_canon ?_ ?_
  · exact h1
  · intro x0 x1 hx2
    exact canon_ite (Dev.assocRsp_canon hx2) hx2

theorem Dev.plcLeave_canon {a1 a2 a3} (h1 : Canon a1) : Canon (Dev.plcLeave a1 a2 a3) := by
  unfold Dev.plcLeave
  refine Dev.plcRx_canon ?_ ?_
  · exact h1
  · intro x0 x1 hx2
    exact canon_ite (Dev.plcUnbind_canon hx2) hx2

theorem Dev.plcStandingGrantMiss_canon {a1 a2 a3} (h1 : Canon a1) : Canon (Dev.plcStandingGrantMiss a1 a2 a3) := by
  unfold Dev.plcStandingGrantMiss
  split
  · exact h1
  · refine canon_ite ?_ ?_
    · exact h1
    · extract_lets +onlyGivenNames -merge -useContext y0 e1
      have he1 : Canon e1 := Dev.bump_canon h1
      clear_value e1
      extract_lets +onlyGivenNames -merge -useContext e2
      have he2 : Canon e2 := Dev.modPlc_canon he1
      clear_value e2
      extract_lets +onlyGivenNames -merge -useContext y3
      refine canon_ite ?_ ?_
      · exact he2
      · extract_lets +onlyGivenNames -merge -useContext e4
        have he4 : Canon e4 := Dev.plcUnbind_canon (Dev.plcEvent_canon he2)
        clear_value e4
        refine canon_getD_map ?_ ?_
        · intro x5
          exact Dev.attachLost_canon he4
        · exact he4

theorem Dev.plcAtSelWrite_canon {a1 a2 a3} (h1 : Canon a1) : Canon (Dev.plcAtSelWrite a1 a2 a3) := by
  unfold Dev.plcAtSelWrite
  extract_lets +onlyGivenNames -merge -useContext y0 y1 e2
  have he2 : Canon e2 := Dev.setF_canon (Dev.wr_canon h1)
  clear_value e2
  extract_lets +onlyGivenNames -merge -useContext y3
  have hy3 : ∀ w0 w1 w2 w3 w4 w5, Canon w0 → Canon (y3 w0 w1 w2 w3 w4 w5) := by
    unfold y3
    intro x4 x5 x6 x7 x8 x9 hx10
    exact Dev.wr_canon (Dev.wr_canon (Dev.wr_canon (Dev.wr_canon (Dev.wr_canon hx10))))
  clear_value y3
  split
  · refine hy3 _ _ _ _ _ _ ?_
    · exact he2
  · split
    · refine hy3 _ _ _ _ _ _ ?_
      · exact he2
    · refine hy3 _ _ _ _ _ _ ?_
      · exact he2

theorem Dev.plcTmReq_canon {a1 a2 a3} (h1 : Canon a1) : Canon (Dev.plcTmReq a1 a2 a3) := by
  unfold Dev.plcTmReq
  refine Dev.plcRx_canon ?_ ?_
  · exact h1
  · intro x0 x1 hx2
    exact canon_ite hx2 (Dev.tmRsp_canon hx2)

theorem Dev.plcTmRsp_canon {a1 a2 a3} (h1 : Canon a1) : Canon (Dev.plcTmRsp a1 a2 a3) := by
  unfold Dev.plcTmRsp
  refine Dev.plcRx_canon ?_ ?_
  · exact h1
  · intro x0 x1 hx2
    exact Dev.modPlc_canon hx2

theorem Dev.plcSack_canon {a1 a2 a3} (h1 : Canon a1) : Canon (Dev.plcSack a1 a2 a3) := by
  unfold Dev.plcSack
  refine Dev.plcRx_canon ?_ ?_
  · exact h1
  · intro x0 x1 hx2
    extract_lets +onlyGivenNames -merge -useContext y3 y4 y5 y6 y7
    exact Dev.modPlc_canon hx2

theorem Dev.plcDlRelease_canon {a1 a2} (h1 : Canon a1) : Canon (Dev.plcDlRelease a1 a2) := by
  unfold Dev.plcDlRelease
  extract_lets +onlyGivenNames -merge -useContext y0
  refine canon_ite ?_ ?_
  · exact h1
  · split
    · rename_i v1 heq2
      have hv1 : Canon v1 := by
        refine canon_fst_eq heq2 ?_
        exact Dev.dlTake_canon h1
      exact hv1
    · rename_i v3 v4 heq5
      have hv3 : Canon v3 := by
        refine canon_fst_eq heq5 ?_
        exact Dev.dlTake_canon h1
      exact canon_ite (Dev.modPlc_canon hv3) (canon_ite (Dev.dlReturned_canon hv3) (Dev.modPlc_canon hv3))

theorem Dev.plcReturn_canon {a1 a2 a3} (h1 : Canon a1) : Canon (Dev.plcReturn a1 a2 a3) := by
  unfold Dev.plcReturn
  extract_lets +onlyGivenNames -merge -useContext y0 y1
  exact canon_ite h1 (Dev.dlReturned_canon h1)

theorem Dev.plcDlRetryExpiry_canon {a1 a2 a3} (h1 : Canon a1) : Canon (Dev.plcDlRetryExpiry a1 a2 a3) := by
  unfold Dev.plcDlRetryExpiry
  split
  · exact h1
  · refine canon_ite ?_ ?_
    · exact h1
    · extract_lets +onlyGivenNames -merge -useContext e0
      have he0 : Canon e0 := Dev.modPlc_canon h1
      clear_value e0
      extract_lets +onlyGivenNames -merge -useContext e1
      have he1 : Canon e1 := canon_ite (Dev.modPlc_canon he0) he0
      clear_value e1
      exact Dev.plcReturn_canon he1

theorem Dev.plcMap_canon {a1 a2 a3} (h1 : Canon a1) : Canon1 (Dev.plcMap a1 a2 a3) := by
  unfold Dev.plcMap
  split
  · exact canon_mk1 h1
  · extract_lets +onlyGivenNames -merge -useContext y0
    refine canon_ite1 ?_ ?_
    · exact canon_mk1 h1
    · refine canon_ite1 ?_ ?_
      · exact canon_mk1 h1
      · extract_lets +onlyGivenNames -merge -useContext e1
        have he1 : Canon e1 := Dev.modPlc_canon h1
        clear_value e1
        exact canon_mk1 (Dev.plcEvent_canon (Dev.plcCtl_canon he1))

theorem Dev.putJob_canon {a1 a2 a3 a4 a5} (h1 : Canon a1) : Canon (Dev.putJob a1 a2 a3 a4 a5) := by
  unfold Dev.putJob
  extract_lets +onlyGivenNames -merge -useContext y0
  exact Dev.modPlc_canon h1

theorem Dev.plcSend_canon {a1 a2 a3 a4} (h1 : Canon (DlPlan.d a3)) : Canon (Dev.plcSend a1 a2 a3 a4).d := by
  unfold Dev.plcSend
  extract_lets +onlyGivenNames -merge -useContext d f bc
  have hd : Canon d := h1
  clear_value d
  split
  · exact Dev.plcReturn_canon (Dev.putJob_canon hd)
  · rename_i dst hdst
    have hp : Canon1 (if bc = true then (d, d.rd (F.PLK_TM_bcast_mod.at a1), d.plcMask a1) else d.plcMap a1 dst) :=
      canon_ite1 (canon_mk1 hd) (Dev.plcMap_canon hd)
    generalize (if bc = true then (d, d.rd (F.PLK_TM_bcast_mod.at a1), d.plcMask a1) else d.plcMap a1 dst) = p at hp ⊢
    obtain ⟨e, mod, mask⟩ := p
    replace hp := hp.fst
    dsimp -zeta only at hp ⊢
    extract_lets +onlyGivenNames -merge -useContext segs fid e1
    have h2 : Canon e1 := canon_ite hp (Dev.modPlc_canon hp)
    clear_value e1
    extract_lets +onlyGivenNames -merge -useContext missing air go send burst
    split
    · exact Dev.putJob_canon h2
    · split
      · exact Dev.dlToken_canon (Dev.putJob_canon h2)
      · exact canon_ite (Dev.dlSent_canon (Dev.putJob_canon h2)) (Dev.putJob_canon h2)

theorem Dev.plcDownlink_canon {a1 a2 a3} (h1 : Canon a1) : Canon (Dev.plcDownlink a1 a2 a3).d := by
  have hf : ∀ {α : Type} (f : DlPlan → α → DlPlan) (l : List α) (x : DlPlan),
      (∀ x a, Canon x.d → Canon (f x a).d) → Canon x.d → Canon (l.foldl f x).d := by
    intro α f l x h hx
    induction l generalizing x with
    | nil => exact hx
    | cons a t ih => exact ih _ (h x a hx)
  unfold Dev.plcDownlink
  extract_lets +onlyGivenNames -merge -useContext c x y
  refine hf _ _ _ (fun x a hx => Dev.plcSend_canon hx) (hf _ _ _ ?_ (Dev.setPlc_canon h1))
  intro x a hx
  dsimp only
  split
  · exact hx
  · dsimp only
    exact Dev.modPlc_canon hx

theorem Dev.plcBeacon_canon {a1 a2 a3 a4} (h1 : Canon a1) : Canon1 (Dev.plcBeacon a1 a2 a3 a4) := by
  unfold Dev.plcBeacon
  extract_lets +onlyGivenNames -merge -useContext y0 y1 y2 y3 y4 y5 y6 y7 y8 y9 y10 y11 y12 e13
  have he13 : Canon e13 := Dev.setPlc_canon h1
  clear_value e13
  extract_lets +onlyGivenNames -merge -useContext y14 y15
  exact canon_mk1 he13

theorem Dev.plcSuperframeStart_canon {a1 a2} (h1 : Canon a1) : Canon (Dev.plcSuperframeStart a1 a2) := by
  unfold Dev.plcSuperframeStart
  refine canon_ite ?_ ?_
  · exact h1
  · extract_lets +onlyGivenNames -merge -useContext y0 e1
    have he1 : Canon e1 := Dev.modPlc_canon h1
    clear_value e1
    refine canon_ite ?_ ?_
    · extract_lets +onlyGivenNames -merge -useContext y2 e3
      have he3 : Canon e3 := Dev.modPlc_canon (Dev.incr_canon he1)
      clear_value e3
      refine canon_ite ?_ ?_
      · split
        · rename_i v4 v5 heq6
          have hv4 : Canon v4 := by
            refine canon_fst_eq heq6 ?_
            exact Dev.plcBeacon_canon he3
          exact Dev.emits_canon hv4
      · exact Dev.modPlc_canon he3
    · refine canon_ite ?_ ?_
      · exact canon_ite he1 (Dev.incr_canon he1)
      · extract_lets +onlyGivenNames -merge -useContext y7 e8
        have he8 : Canon e8 := Dev.modPlc_canon (Dev.wr_canon he1)
        clear_value e8
        extract_lets +onlyGivenNames -merge -useContext y9
        split
        · rename_i v10 v11 heq12
          have hv10 : Canon v10 := by
            refine canon_fst_eq heq12 ?_
            exact Dev.plcBeacon_canon (Dev.plcDownlink_canon he8)
          exact Dev.emits_canon hv10

theorem Dev.plcZcEdge_canon {a1 a2 a3} (h1 : Canon a1) : Canon (Dev.plcZcEdge a1 a2 a3) := by
  unfold Dev.plcZcEdge
  refine canon_ite ?_ ?_
  · exact h1
  · extract_lets +onlyGivenNames -merge -useContext y0 y1 y2 y3 y4 y5 y6 e7
    have he7 : Canon e7 := Dev.setPlc_canon h1
    clear_value e7
    extract_lets +onlyGivenNames -merge -useContext y8 e9
    have he9 : Canon e9 := Dev.flag_canon he7
    clear_value e9
    exact canon_ite (Dev.plcEvent_canon he9) he9

theorem Dev.plcListen_canon {a1 a2} (h1 : Canon a1) : Canon (Dev.plcListen a1 a2) := by
  unfold Dev.plcListen
  exact canon_ite (Dev.modPlc_canon (Dev.clrF_canon (Dev.setF_canon (Dev.setF_canon h1)))) (Dev.clrF_canon (Dev.clrF_canon (Dev.clrF_canon h1)))

theorem Dev.plcEnable_canon {a1 a2 a3} (h1 : Canon a1) : Canon (Dev.plcEnable a1 a2 a3) := by
  unfold Dev.plcEnable
  extract_lets +onlyGivenNames -merge -useContext y0 y1 e2
  have he2 : Canon e2 := Dev.regWrite32_canon h1
  clear_value e2
  refine canon_ite ?_ ?_
  · exact Dev.plcListen_canon he2
  · refine canon_ite ?_ ?_
    · exact he2
    · extract_lets +onlyGivenNames -merge -useContext y3
      refine canon_ite ?_ ?_
      · exact Dev.setF_canon (Dev.clrF_canon he2)
      · extract_lets +onlyGivenNames -merge -useContext e4
        have he4 : Canon e4 := Dev.setF_canon (Dev.commitRwl_canon he2)
        clear_value e4
        extract_lets +onlyGivenNames -merge -useContext e5
        have he5 : Canon e5 := canon_ite he4 (Dev.modPlc_canon (Dev.wr_canon he4))
        clear_value e5
        exact Dev.plcListen_canon he5

theorem Dev.plcListenEnd_canon {a1 a2} (h1 : Canon a1) : Canon (Dev.plcListenEnd a1 a2) := by
  unfold Dev.plcListenEnd
  refine canon_ite ?_ ?_
  · exact h1
  · extract_lets +onlyGivenNames -merge -useContext e0
    have he0 : Canon e0 := Dev.modPlc_canon (Dev.clrF_canon h1)
    clear_value e0
    exact canon_ite he0 (Dev.setF_canon he0)

theorem Dev.plcBeaconForce_canon {a1 a2} (h1 : Canon a1) : Canon (Dev.plcBeaconForce a1 a2) := by
  unfold Dev.plcBeaconForce
  extract_lets +onlyGivenNames -merge -useContext e0
  have he0 : Canon e0 := Dev.setF_canon h1
  clear_value e0
  exact canon_ite (Dev.clrF_canon (Dev.setF_canon (Dev.clrF_canon he0))) (Dev.clrF_canon he0)

theorem Dev.plcRxBeacon_canon {a1 a2 a3} (h1 : Canon a1) : Canon (Dev.plcRxBeacon a1 a2 a3) := by
  unfold Dev.plcRxBeacon
  exact canon_ite h1 (canon_ite (Dev.modPlc_canon (Dev.wr_canon h1)) (canon_ite (Dev.modPlc_canon (Dev.wr_canon h1)) (Dev.modPlc_canon (Dev.plcEvent_canon (Dev.setF_canon h1)))))

theorem Dev.plcShadow_canon {a1 a2} (h1 : Canon a1) : Canon (Dev.plcShadow a1 a2) := by
  unfold Dev.plcShadow
  extract_lets +onlyGivenNames -merge -useContext y0 e1
  have he1 : Canon e1 := Dev.modPlc_canon h1
  clear_value e1
  refine canon_foldl ?_ ?_
  · exact he1
  · intro x2 x3 hx4
    exact Dev.plcReturn_canon hx4

theorem Dev.plkMode_canon {a1 a2 a3} (h1 : Canon a1) : Canon (Dev.plkMode a1 a2 a3) := by
  unfold Dev.plkMode
  refine canon_ite ?_ ?_
  · exact h1
  · refine canon_foldN ?_ ?_
    · exact h1
    · intro x0 x1 hx2
      refine canon_ite ?_ ?_
      · exact hx2
      · extract_lets +onlyGivenNames -merge -useContext e3
        have he3 : Canon e3 := canon_ite (Dev.plcShadow_canon hx2) (Dev.modPlc_canon hx2)
        clear_value e3
        exact Dev.plcListen_canon he3

theorem Dev.plcRetire_canon {a1 a2 a3} (h1 : Canon a1) : Canon (Dev.plcRetire a1 a2 a3) := by
  unfold Dev.plcRetire
  refine canon_ite ?_ ?_
  · exact h1
  · extract_lets +onlyGivenNames -merge -useContext y0 e1
    have he1 : Canon e1 := Dev.wr_canon (Dev.setF_canon h1)
    clear_value e1
    extract_lets +onlyGivenNames -merge -useContext e2
    have he2 : Canon e2 := Dev.plcListen_canon he1
    clear_value e2
    extract_lets +onlyGivenNames -merge -useContext e3
    have he3 : Canon e3 := Dev.bump_canon he2
    clear_value e3
    extract_lets +onlyGivenNames -merge -useContext y4 e5
    have he5 : Canon e5 := Dev.plcRefresh_canon (Dev.setPlc_canon he3)
    clear_value e5
    extract_lets +onlyGivenNames -merge -useContext e6
    have he6 : Canon e6 := by
      unfold e6
      refine canon_foldl ?_ ?_
      · exact he5
      · intro x7 x8 hx9
        exact Dev.plcReturn_canon hx9
    clear_value e6
    extract_lets +onlyGivenNames -merge -useContext e10
    have he10 : Canon e10 := Dev.retireLog_canon (Dev.plcEvent_canon (Dev.plcCount_canon he6))
    clear_value e10
    exact Dev.channelRecords_canon he10

theorem Dev.plcTransientFault_canon {a1 a2} (h1 : Canon a1) : Canon (Dev.plcTransientFault a1 a2) := by
  unfold Dev.plcTransientFault
  extract_lets +onlyGivenNames -merge -useContext y0 y1 e2
  have he2 : Canon e2 := Dev.modPlc_canon h1
  clear_value e2
  extract_lets +onlyGivenNames -merge -useContext e3
  have he3 : Canon e3 := Dev.trouble_canon (Dev.plcEvent_canon he2)
  clear_value e3
  extract_lets +onlyGivenNames -merge -useContext y4
  exact canon_ite (Dev.plcRetire_canon he3) he3

theorem Dev.plcPermanentFault_canon {a1 a2 a3} (h1 : Canon a1) : Canon (Dev.plcPermanentFault a1 a2 a3) := by
  unfold Dev.plcPermanentFault
  extract_lets +onlyGivenNames -merge -useContext e0
  have he0 : Canon e0 := canon_ite (Dev.clrF_canon h1) h1
  clear_value e0
  exact Dev.plcRetire_canon (Dev.plcEvent_canon he0)

end Sys2Proof.Machine
end

