-- ==== Sys2Proof/Laws/CanonMzk.lean ====
section
/-! SUPPORT. Every operation of Machine/Mzk.lean that answers a device keeps the stored data in canonical form. -/

namespace Sys2Proof.Machine

theorem Dev.setRad_canon {a1 a2 a3} (h1 : Canon a1) : Canon (Dev.setRad a1 a2 a3) := by
  unfold Dev.setRad
  exact canon_upd h1

theorem Dev.modRad_canon {a1 a2 a3} (h1 : Canon a1) : Canon (Dev.modRad a1 a2 a3) := by
  unfold Dev.modRad
  exact Dev.setRad_canon h1

theorem Dev.modBind_canon {a1 a2 a3 a4} (h1 : Canon a1) : Canon (Dev.modBind a1 a2 a3 a4) := by
  unfold Dev.modBind
  exact Dev.modRad_canon h1

theorem Dev.mzkEvent_canon {a1 a2 a3} (h1 : Canon a1) : Canon (Dev.mzkEvent a1 a2 a3) := by
  unfold Dev.mzkEvent
  exact Dev.raise_canon (Dev.setF_canon h1)

theorem Dev.mzkCount_canon {a1 a2} (h1 : Canon a1) : Canon (Dev.mzkCount a1 a2) := by
  unfold Dev.mzkCount
  exact Dev.wr_canon h1

theorem Dev.lnkPut_canon {a1 a2 a3} (h1 : Canon a1) : Canon (Dev.lnkPut a1 a2 a3) := by
  unfold Dev.lnkPut
  exact Dev.memWr_canon h1

theorem Dev.setLnk_canon {a1 a2 a3 a4} (h1 : Canon a1) : Canon (Dev.setLnk a1 a2 a3 a4) := by
  unfold Dev.setLnk
  split
  · exact h1
  · split
    · exact Dev.modBind_canon h1
    · refine canon_getD_map ?_ ?_
      · intro x0
        exact Dev.lnkPut_canon h1
      · exact h1

theorem Dev.mzkKeyFail_canon {a1 a2 a3} (h1 : Canon a1) : Canon (Dev.mzkKeyFail a1 a2 a3) := by
  unfold Dev.mzkKeyFail
  extract_lets +onlyGivenNames -merge -useContext e0
  have he0 : Canon e0 := Dev.mzkEvent_canon (Dev.bump_canon h1)
  clear_value e0
  exact canon_ite he0 (Dev.tryChange_canon he0)

theorem Dev.linkSeal_canon {a1 a2 a3 a4 a5 a6} (h1 : Canon a1) : Canon1 (Dev.linkSeal a1 a2 a3 a4 a5 a6) := by
  unfold Dev.linkSeal
  refine canon_ite1 ?_ ?_
  · exact canon_mk1 h1
  · refine canon_ite1 ?_ ?_
    · exact canon_mk1 (Dev.mzkEvent_canon h1)
    · extract_lets +onlyGivenNames -merge -useContext y0 y1
      split
      · rename_i v2 heq3
        have hv2 : Canon v2 := by
          refine canon_fst_eq heq3 ?_
          exact Dev.keyServe_canon h1
        exact canon_mk1 hv2
      · rename_i v4 heq5
        have hv4 : Canon v4 := by
          refine canon_fst_eq heq5 ?_
          exact Dev.keyServe_canon h1
        exact canon_mk1 (Dev.mzkKeyFail_canon hv4)
      · rename_i v6 v7 v8 heq9
        have hv6 : Canon v6 := by
          refine canon_fst_eq heq9 ?_
          exact Dev.keyServe_canon h1
        extract_lets +onlyGivenNames -merge -useContext y10 y11 y12 y13 y14 y15 e16
        have he16 : Canon e16 := Dev.lnkPut_canon hv6
        clear_value e16
        extract_lets +onlyGivenNames -merge -useContext y17 e18
        have he18 : Canon e18 := canon_ite (canon_upd he16) he16
        clear_value e18
        exact canon_mk1 he18

theorem Dev.micFail_canon {a1 a2 a3} (h1 : Canon a1) : Canon (Dev.micFail a1 a2 a3) := by
  unfold Dev.micFail
  extract_lets +onlyGivenNames -merge -useContext e0
  have he0 : Canon e0 := Dev.bump_canon h1
  clear_value e0
  extract_lets +onlyGivenNames -merge -useContext y1
  exact canon_ite (Dev.fifoAbort_canon he0) he0

theorem Dev.linkCheck_canon {a1 a2 a3 a4} (h1 : Canon a1) : Canon1 (Dev.linkCheck a1 a2 a3 a4) := by
  unfold Dev.linkCheck
  extract_lets +onlyGivenNames -merge -useContext y0 y1 y2
  clear_value y2
  split
  · exact canon_mk1 (Dev.bump_canon h1)
  · extract_lets +onlyGivenNames -merge -useContext y3 y4
    refine canon_ite1 ?_ ?_
    · exact canon_mk1 (Dev.bump_canon h1)
    · split
      · rename_i v5 heq6
        have hv5 : Canon v5 := by
          refine canon_fst_eq heq6 ?_
          exact Dev.keyServe_canon h1
        exact canon_mk1 hv5
      · rename_i v7 heq8
        have hv7 : Canon v7 := by
          refine canon_fst_eq heq8 ?_
          exact Dev.keyServe_canon h1
        exact canon_mk1 (Dev.mzkKeyFail_canon hv7)
      · rename_i v9 v10 v11 heq12
        have hv9 : Canon v9 := by
          refine canon_fst_eq heq12 ?_
          exact Dev.keyServe_canon h1
        extract_lets +onlyGivenNames -merge -useContext y13 y14 y15
        clear_value y15
        split
        · exact canon_ite1 (canon_mk1 hv9) (canon_mk1 (Dev.micFail_canon hv9))
        · exact canon_mk1 (Dev.micFail_canon hv9)

theorem Dev.linkAccept_canon {a1 a2 a3 a4 a5} (h1 : Canon a1) : Canon (Dev.linkAccept a1 a2 a3 a4 a5) := by
  unfold Dev.linkAccept
  extract_lets +onlyGivenNames -merge -useContext y0
  refine canon_ite ?_ ?_
  · extract_lets +onlyGivenNames -merge -useContext e1
    have he1 : Canon e1 := Dev.lnkPut_canon h1
    clear_value e1
    exact canon_upd he1
  · exact Dev.lnkPut_canon h1

theorem Dev.mzkStop_canon {a1 a2} (h1 : Canon a1) : Canon (Dev.mzkStop a1 a2) := by
  unfold Dev.mzkStop
  extract_lets +onlyGivenNames -merge -useContext e0
  have he0 : Canon e0 := Dev.clrF_canon (Dev.clrF_canon (Dev.clrF_canon h1))
  clear_value e0
  exact Dev.modRad_canon he0

theorem Dev.radReturn_canon {a1 a2 a3} (h1 : Canon a1) : Canon (Dev.radReturn a1 a2 a3) := by
  unfold Dev.radReturn
  split
  · exact canon_ite h1 (Dev.dlReturned_canon h1)
  · exact Dev.dlReturned_canon h1

theorem Dev.radBack_canon {a1 a2} (h1 : Canon a1) : Canon (Dev.radBack a1 a2) := by
  unfold Dev.radBack
  refine canon_foldl ?_ ?_
  · exact h1
  · intro x0 x1 hx2
    exact Dev.radReturn_canon hx2

theorem Dev.mzkRetire_canon {a1 a2 a3} (h1 : Canon a1) : Canon (Dev.mzkRetire a1 a2 a3) := by
  unfold Dev.mzkRetire
  refine canon_ite ?_ ?_
  · exact h1
  · extract_lets +onlyGivenNames -merge -useContext y0 e1
    have he1 : Canon e1 := Dev.mzkStop_canon (Dev.wr_canon (Dev.setF_canon h1))
    clear_value e1
    extract_lets +onlyGivenNames -merge -useContext e2
    have he2 : Canon e2 := Dev.setRad_canon he1
    clear_value e2
    extract_lets +onlyGivenNames -merge -useContext e3
    have he3 : Canon e3 := Dev.radBack_canon he2
    clear_value e3
    extract_lets +onlyGivenNames -merge -useContext e4
    have he4 : Canon e4 := Dev.mzkEvent_canon (Dev.clrF_canon (Dev.mzkCount_canon he3))
    clear_value e4
    exact Dev.channelRecords_canon (Dev.retireLog_canon he4)

theorem Dev.mzkTune_canon {a1 a2 a3} (h1 : Canon a1) : Canon1 (Dev.mzkTune a1 a2 a3) := by
  unfold Dev.mzkTune
  refine canon_ite1 ?_ ?_
  · exact canon_mk1 h1
  · extract_lets +onlyGivenNames -merge -useContext y0
    refine canon_ite1 ?_ ?_
    · extract_lets +onlyGivenNames -merge -useContext e1
      have he1 : Canon e1 := Dev.mzkEvent_canon (Dev.mzkEvent_canon h1)
      clear_value e1
      exact canon_mk1 (Dev.mzkRetire_canon he1)
    · extract_lets +onlyGivenNames -merge -useContext y2
      exact canon_mk1 (Dev.modRad_canon (Dev.emit_canon h1))

theorem Dev.mzkOut_canon {a1 a2 a3 a4 a5 a6} (h1 : Canon a1) : Canon1 (Dev.mzkOut a1 a2 a3 a4 a5 a6) := by
  unfold Dev.mzkOut
  refine canon_ite1 ?_ ?_
  · exact canon_mk1 h1
  · split
    · rename_i v0 heq1
      have hv0 : Canon v0 := by
        refine canon_fst_eq heq1 ?_
        exact Dev.mzkTune_canon h1
      exact canon_mk1 hv0
    · rename_i v2 heq3
      have hv2 : Canon v2 := by
        refine canon_fst_eq heq3 ?_
        exact Dev.mzkTune_canon h1
      extract_lets +onlyGivenNames -merge -useContext y4 e5
      have he5 : Canon e5 := Dev.modRad_canon (Dev.emit_canon hv2)
      clear_value e5
      exact canon_mk1 (canon_ite (Dev.setF_canon he5) he5)

theorem Dev.mzkSeq_canon {a1 a2} (h1 : Canon a1) : Canon1 (Dev.mzkSeq a1 a2) := by
  unfold Dev.mzkSeq
  exact canon_mk1 (Dev.modRad_canon h1)

theorem Dev.mzkSeqOpen_canon {a1} (h1 : Canon a1) : Canon1 (Dev.mzkSeqOpen a1) := by
  unfold Dev.mzkSeqOpen
  exact canon_mk1 (Dev.drawn_canon h1)

theorem Dev.cellDrop_canon {a1 a2 a3 a4} (h1 : Canon a1) : Canon (Dev.cellDrop a1 a2 a3 a4) := by
  unfold Dev.cellDrop
  extract_lets +onlyGivenNames -merge -useContext e0
  have he0 : Canon e0 := Dev.modRad_canon h1
  clear_value e0
  split
  · exact canon_ite (Dev.radReturn_canon he0) he0
  · exact he0

theorem Dev.cellPay_canon {a1 a2 a3} (h1 : Canon a1) : Canon1 (Dev.cellPay a1 a2 a3) := by
  unfold Dev.cellPay
  split
  · exact canon_mk1 h1
  · extract_lets +onlyGivenNames -merge -useContext y0
    refine canon_ite1 ?_ ?_
    · exact canon_mk1 h1
    · split
      · exact canon_mk1 h1
      · exact Dev.linkSeal_canon h1

theorem Dev.cellSend_canon {a1 a2 a3 a4 a5 a6 a7 a8} (h1 : Canon a1) : Canon (Dev.cellSend a1 a2 a3 a4 a5 a6 a7 a8) := by
  unfold Dev.cellSend
  split
  · rename_i v0 v1 heq2
    have hv0 : Canon v0 := by
      refine canon_fst_eq heq2 ?_
      exact canon_ite1 (Dev.mzkSeq_canon h1) (canon_mk1 h1)
    extract_lets +onlyGivenNames -merge -useContext y3 e4
    have he4 : Canon e4 := Dev.modRad_canon hv0
    clear_value e4
    exact Canon1.fst (Dev.mzkOut_canon he4)

theorem Dev.cellGoF_canon {a1 a2 a3} (h3 : Canon a3) : Canon (Dev.cellGoF a1 a2 a3) := by
  induction a1 generalizing a3 with
  | zero => exact h3
  | succ k ih =>
    unfold Dev.cellGoF
    split
    · exact h3
    · rename_i t ht
      refine canon_ite h3 ?_
      split
      · exact ih (Dev.cellDrop_canon h3)
      · have hs : Canon1 (a3.cellPay a2 t) := Dev.cellPay_canon h3
        split
        all_goals
          rename_i heq
          rw [heq] at hs
        · exact hs.fst
        · exact ih (Dev.cellDrop_canon hs.fst)
        · extract_lets act mac e len r
          have he : Canon e := canon_ite (Dev.drawn_canon hs.fst) hs.fst
          clear_value r mac e
          split
          · refine canon_ite (ih (Dev.dlToken_canon (Dev.cellDrop_canon he))) ?_
            exact canon_ite (Dev.dlSent_canon (Dev.cellSend_canon he)) (Dev.cellSend_canon he)
          · exact Dev.cellSend_canon he

theorem Dev.cellGo_canon {a1 a2} (h1 : Canon a1) : Canon (Dev.cellGo a1 a2) := by
  unfold Dev.cellGo
  exact Dev.cellGoF_canon h1

theorem Dev.cellPut_canon {a1 a2 a3} (h1 : Canon a1) : Canon (Dev.cellPut a1 a2 a3) := by
  unfold Dev.cellPut
  exact canon_ite h1 (Dev.modRad_canon h1)

theorem Dev.cellFlood_canon {a1 a2 a3} (h1 : Canon a1) : Canon (Dev.cellFlood a1 a2 a3) := by
  unfold Dev.cellFlood
  extract_lets +onlyGivenNames -merge -useContext y0
  refine canon_ite ?_ ?_
  · exact Dev.dlToken_canon h1
  · split
    · rename_i v1 v2 heq3
      have hv1 : Canon v1 := by
        refine canon_fst_eq heq3 ?_
        exact Dev.mzkSeq_canon (canon_ite (Dev.drawn_canon h1) h1)
      exact Dev.dlSent_canon (Canon1.fst (Dev.mzkOut_canon hv1))

theorem Dev.cellPump_canon {a1 a2} (h1 : Canon a1) : Canon (Dev.cellPump a1 a2) := by
  unfold Dev.cellPump
  refine canon_ite ?_ ?_
  · exact h1
  · extract_lets +onlyGivenNames -merge -useContext y0 e1
    have he1 : Canon e1 := Dev.modRad_canon h1
    clear_value e1
    refine Dev.cellGo_canon ?_
    · refine canon_foldl ?_ ?_
      · exact he1
      · intro x2 x3 hx4
        exact canon_ite (Dev.modRad_canon hx4) (Dev.cellFlood_canon hx4)

theorem Dev.mzkMack_canon {a1 a2 a3} (h1 : Canon a1) : Canon (Dev.mzkMack a1 a2 a3) := by
  unfold Dev.mzkMack
  split
  · rename_i v0 v1 heq2
    have hv0 : Canon v0 := by
      refine canon_fst_eq heq2 ?_
      exact Dev.mzkSeq_canon h1
    exact Canon1.fst (Dev.mzkOut_canon hv0)

theorem Dev.mzkRx_canon {a1 a2 a3 a4 a5 a6} (h1 : Canon a1) (h6 : ∀ w0 w1, Canon w0 → Canon (a6 w0 w1)) : Canon (Dev.mzkRx a1 a2 a3 a4 a5 a6) := by
  unfold Dev.mzkRx
  refine canon_ite ?_ ?_
  · exact h1
  · split
    · exact Dev.bump_canon h1
    · refine canon_ite ?_ ?_
      · exact Dev.bump_canon h1
      · refine canon_ite ?_ ?_
        · exact h1
        · refine canon_ite ?_ ?_
          · refine canon_ite ?_ ?_
            · refine h6 _ _ ?_
              · exact h1
            · exact Dev.bump_canon h1
          · extract_lets +onlyGivenNames -merge -useContext e0
            have he0 : Canon e0 := Dev.bump_canon h1
            clear_value e0
            exact canon_ite (Dev.micFail_canon he0) he0

theorem Dev.mzkSecure_canon {a1 a2 a3 a4 a5} (h1 : Canon a1) : Canon1 (Dev.mzkSecure a1 a2 a3 a4 a5) := by
  unfold Dev.mzkSecure
  split
  · exact canon_mk1 (Dev.bump_canon h1)
  · refine canon_ite1 ?_ ?_
    · exact canon_mk1 (Dev.bump_canon h1)
    · split
      · rename_i v0 heq1
        have hv0 : Canon v0 := by
          refine canon_fst_eq heq1 ?_
          exact Dev.linkCheck_canon h1
        exact canon_mk1 hv0
      · rename_i v2 v3 v4 v5 heq6
        have hv2 : Canon v2 := by
          refine canon_fst_eq heq6 ?_
          exact Dev.linkCheck_canon h1
        exact canon_mk1 hv2

theorem Dev.mzkSecure_accept {a1 a2 a3 a4 a5} {b : List Byte} {f : Nat → Dev → Dev}
    (hv : (Dev.mzkSecure a1 a2 a3 a4 a5).2 = some (b, f)) (q : Nat) (d : Dev) (h : Canon d) : Canon (f q d) := by
  unfold Dev.mzkSecure at hv
  split at hv
  · exact absurd hv (by simp)
  · split at hv
    · exact absurd hv (by simp)
    · split at hv
      · exact absurd hv (by simp)
      · have e : _ = f := congrArg Prod.snd (Option.some.inj hv)
        rw [← e]
        exact Dev.linkAccept_canon h

theorem Dev.mzkUnbind_canon {a1 a2 a3} (h1 : Canon a1) : Canon (Dev.mzkUnbind a1 a2 a3) := by
  unfold Dev.mzkUnbind
  extract_lets +onlyGivenNames -merge -useContext y0 y1 y2 y3 y4 y5 e6
  have he6 : Canon e6 := Dev.mzkCount_canon (Dev.modRad_canon h1)
  clear_value e6
  exact Dev.radBack_canon he6

theorem Dev.radAssocRsp_canon {a1 a2 a3 a4 a5 a6 a7 a8 a9} (h1 : Canon a1) : Canon (Dev.radAssocRsp a1 a2 a3 a4 a5 a6 a7 a8 a9) := by
  unfold Dev.radAssocRsp
  exact Dev.cellPut_canon h1

theorem Dev.changeSwitch_canon {a1 a2 a3} (h1 : Canon a1) : Canon (Dev.changeSwitch a1 a2 a3) := by
  unfold Dev.changeSwitch
  split
  · exact h1
  · extract_lets +onlyGivenNames -merge -useContext y0 y1 y2 y3 y4 e5
    have he5 : Canon e5 := Dev.modBind_canon h1
    clear_value e5
    extract_lets +onlyGivenNames -merge -useContext e6
    have he6 : Canon e6 := Dev.setLnk_canon he5
    clear_value e6
    extract_lets +onlyGivenNames -merge -useContext e7
    have he7 : Canon e7 := by
      unfold e7
      refine canon_foldl ?_ ?_
      · exact he6
      · intro x8 x9 hx10
        exact Dev.setLnk_canon hx10
    clear_value e7
    extract_lets +onlyGivenNames -merge -useContext y11
    exact Dev.radAssocRsp_canon he7

theorem Dev.changeGo_canon {a1 a2 a3} (h1 : Canon a1) : Canon (Dev.changeGo a1 a2 a3) := by
  unfold Dev.changeGo
  extract_lets +onlyGivenNames -merge -useContext e0
  have he0 : Canon e0 := Dev.modRad_canon h1
  clear_value e0
  split
  · exact canon_ite (Dev.modBind_canon he0) (Dev.changeSwitch_canon he0)
  · extract_lets +onlyGivenNames -merge -useContext e1
    have he1 : Canon e1 := Dev.modRad_canon he0
    clear_value e1
    exact Dev.cellPut_canon he1

theorem Dev.changeStart_canon {a1 a2 a3 a4 a5 a6} (h1 : Canon a1) : Canon (Dev.changeStart a1 a2 a3 a4 a5 a6) := by
  unfold Dev.changeStart
  extract_lets +onlyGivenNames -merge -useContext y0 y1 e2
  have he2 : Canon e2 := Dev.modRad_canon h1
  clear_value e2
  exact Dev.changeGo_canon he2

theorem Dev.changeDone_canon {a1 a2 a3 a4} (h1 : Canon a1) : Canon (Dev.changeDone a1 a2 a3 a4) := by
  unfold Dev.changeDone
  split
  · exact h1
  · extract_lets +onlyGivenNames -merge -useContext y0
    refine canon_ite ?_ ?_
    · exact h1
    · extract_lets +onlyGivenNames -merge -useContext y1 y2 y3 y4
      exact Dev.changeGo_canon h1

theorem Dev.schedIdle_canon {a1 a2} (h1 : Canon a1) : Canon (Dev.schedIdle a1 a2) := by
  unfold Dev.schedIdle
  refine canon_ite ?_ ?_
  · exact h1
  · extract_lets +onlyGivenNames -merge -useContext y0 e1
    have he1 : Canon e1 := Dev.modRad_canon h1
    clear_value e1
    extract_lets +onlyGivenNames -merge -useContext y2
    have hy2 : ∀ w0 w1, Canon w0 → Canon (y2 w0 w1) := by
      unfold y2
      intro x3 x4 hx5
      exact Dev.modRad_canon hx5
    clear_value y2
    refine Canon1.fst ?_
    refine canon_foldl1 ?_ ?_
    · exact canon_mk1 he1
    · intro x6 x7 hx8
      extract_lets +onlyGivenNames -merge -useContext e9
      have he9 : Canon e9 := Canon1.fst hx8
      clear_value e9
      extract_lets +onlyGivenNames -merge -useContext y10 y11 y12
      refine canon_ite1 ?_ ?_
      · refine canon_mk1 ?_
        refine hy2 _ _ ?_
        · exact he9
      · refine canon_ite1 ?_ ?_
        · exact canon_mk1 (Dev.dlToken_canon he9)
        · split
          · rename_i v13 v14 heq15
            have hv13 : Canon v13 := by
              refine canon_fst_eq heq15 ?_
              exact Dev.mzkSeqOpen_canon he9
            extract_lets +onlyGivenNames -merge -useContext e16
            have he16 : Canon e16 := Canon1.fst (Dev.mzkOut_canon hv13)
            clear_value e16
            exact canon_mk1 (Dev.dlSent_canon he16)

theorem Dev.connPick_canon {a1 a2 a3 a4 a5} (h1 : Canon a1) : Canon1 (Dev.connPick a1 a2 a3 a4 a5) := by
  unfold Dev.connPick
  extract_lets +onlyGivenNames -merge -useContext y0 y1 y2
  have hy2 : ∀ w0, Canon w0 → Canon1 (y2 w0) := by
    unfold y2
    intro x3 hx4
    split
    · exact canon_ite1 (canon_mk1 hx4) (canon_mk1 (Dev.modRad_canon hx4))
    · exact canon_mk1 hx4
  clear_value y2
  split
  · refine canon_ite1 ?_ ?_
    · refine hy2 _ ?_
      · exact Dev.radReturn_canon h1
    · exact canon_mk1 h1
  · exact canon_mk1 h1
  · exact canon_mk1 h1
  · refine hy2 _ ?_
    · exact h1

theorem Dev.connSend_canon {a1 a2 a3 a4 a5 a6 a7} (h1 : Canon a1) : Canon (Dev.connSend a1 a2 a3 a4 a5 a6 a7) := by
  unfold Dev.connSend
  extract_lets +onlyGivenNames -merge -useContext y0 y1 y2 y3 y4
  have hy4 : Canon1 y4 := by
    unfold y4
    split
    · exact canon_mk1 h1
    · exact canon_ite1 (canon_mk1 h1) (Dev.linkSeal_canon h1)
  clear_value y4
  split
  · rename_i v5
    have hv5 : Canon v5 := Canon1.fst hy4
    exact Dev.modBind_canon hv5
  · rename_i v6
    have hv6 : Canon v6 := Canon1.fst hy4
    split
    · exact Dev.radReturn_canon (Dev.modBind_canon hv6)
    · exact hv6
  · rename_i v7 v8 v9
    have hv7 : Canon v7 := Canon1.fst hy4
    extract_lets +onlyGivenNames -merge -useContext y10 y11 e12
    have he12 : Canon e12 := Canon1.fst (Dev.mzkOut_canon hv7)
    clear_value e12
    extract_lets +onlyGivenNames -merge -useContext y13 e14
    have he14 : Canon e14 := Dev.modBind_canon he12
    clear_value e14
    extract_lets +onlyGivenNames -merge -useContext e15
    have he15 : Canon e15 := Dev.modRad_canon he14
    clear_value e15
    split
    · exact Dev.dlSent_canon he15
    · exact he15

theorem Dev.connExchange_canon {a1 a2 a3 a4 a5 a6 a7} (h1 : Canon a1) : Canon (Dev.connExchange a1 a2 a3 a4 a5 a6 a7) := by
  unfold Dev.connExchange
  split
  · exact h1
  · split
    · rename_i v0 v1 heq2
      have hv0 : Canon v0 := by
        refine canon_fst_eq heq2 ?_
        exact Dev.connPick_canon h1
      extract_lets +onlyGivenNames -merge -useContext y3 y4
      refine canon_ite ?_ ?_
      · split
        · exact hv0
        · exact Dev.modBind_canon hv0
      · split
        · refine canon_ite ?_ ?_
          · extract_lets +onlyGivenNames -merge -useContext e5
            have he5 : Canon e5 := Dev.dlToken_canon (Dev.modBind_canon hv0)
            clear_value e5
            exact Dev.connSend_canon he5
          · exact Dev.connSend_canon hv0
        · exact Dev.connSend_canon hv0

theorem Dev.mzkEventAnchor_canon {a1 a2 a3 a4 a5} (h1 : Canon a1) : Canon (Dev.mzkEventAnchor a1 a2 a3 a4 a5) := by
  unfold Dev.mzkEventAnchor
  split
  · exact h1
  · refine canon_ite ?_ ?_
    · exact h1
    · extract_lets +onlyGivenNames -merge -useContext y0
      refine canon_ite ?_ ?_
      · exact Dev.bump_canon h1
      · extract_lets +onlyGivenNames -merge -useContext e1
        have he1 : Canon e1 := by
          unfold e1
          split
          · exact h1
          · extract_lets +onlyGivenNames -merge -useContext y2
            refine canon_ite ?_ ?_
            · extract_lets +onlyGivenNames -merge -useContext y3
              exact Dev.modBind_canon h1
            · exact Dev.setF_canon h1
        clear_value e1
        extract_lets +onlyGivenNames -merge -useContext e4
        have he4 : Canon e4 := Dev.modRad_canon (Dev.modBind_canon he1)
        clear_value e4
        exact Dev.connExchange_canon he4

theorem Dev.connReply_canon {a1 a2 a3 a4 a5 a6} (h1 : Canon a1) : Canon1 (Dev.connReply a1 a2 a3 a4 a5 a6) := by
  unfold Dev.connReply
  split
  · exact canon_mk1 h1
  · extract_lets +onlyGivenNames -merge -useContext y0 y1 y2 y3 e4
    have he4 : Canon e4 := Dev.setLnk_canon (Dev.modBind_canon h1)
    clear_value e4
    extract_lets +onlyGivenNames -merge -useContext y5 e6
    have he6 : Canon e6 := Dev.modRad_canon he4
    clear_value e6
    extract_lets +onlyGivenNames -merge -useContext y7 y8 y9 y10 y11
    exact canon_mk1 (canon_ite (Dev.connExchange_canon he6) he6)

theorem Dev.mzkHeard_canon {a1 a2 a3 a4 a5} (h1 : Canon a1) : Canon (Dev.mzkHeard a1 a2 a3 a4 a5) := by
  unfold Dev.mzkHeard
  extract_lets +onlyGivenNames -merge -useContext e0
  have he0 : Canon e0 := Dev.sample_canon (Dev.bump_canon h1)
  clear_value e0
  exact canon_ite he0 (Dev.changeDone_canon (Dev.mzkMack_canon he0))

theorem Dev.mzkMackOnly_canon {a1 a2 a3} (h1 : Canon a1) : Canon (Dev.mzkMackOnly a1 a2 a3) := by
  unfold Dev.mzkMackOnly
  exact canon_ite h1 (Dev.mzkMack_canon h1)

theorem Dev.mzkRxData_canon {a1 a2 a3} (h1 : Canon a1) : Canon (Dev.mzkRxData a1 a2 a3) := by
  unfold Dev.mzkRxData
  refine Dev.cellPump_canon (Dev.mzkRx_canon h1 (fun d h hd => ?_))
  split
  · exact canon_ite (Dev.mzkMackOnly_canon hd) (Dev.radAssocRsp_canon (Dev.mzkMackOnly_canon hd))
  · rename_i b hb
    extract_lets +onlyGivenNames -merge -useContext prov taken
    have ht : Canon1 taken := by
      unfold taken
      exact canon_ite1 (canon_ite1 (canon_mk1 hd) (canon_mk1 (Dev.bump_canon hd))) (Dev.mzkSecure_canon hd)
    have ha : ∀ (x : List Byte) (f : Nat → Dev → Dev), taken.2 = some (x, f) → ∀ (q : Nat) (d : Dev), Canon d → Canon (f q d) := by
      intro x f hx q e he
      unfold taken at hx
      split at hx
      · split at hx
        · have e : _ = f := congrArg Prod.snd (Option.some.inj hx)
          rw [← e]
          exact he
        · exact absurd hx (by simp)
      · exact Dev.mzkSecure_accept hx q e he
    clear_value taken
    obtain ⟨e, o⟩ := taken
    replace ht := ht.fst
    dsimp only at ht ha
    cases o with
    | none => exact Dev.mzkMackOnly_canon ht
    | some p =>
      obtain ⟨frame, accept⟩ := p
      have hf := ha frame accept rfl
      dsimp -zeta only
      extract_lets +onlyGivenNames -merge -useContext quality pre
      refine canon_ite ?_ ?_
      · extract_lets +onlyGivenNames -merge -useContext e1
        have h1 : Canon e1 := Dev.bump_canon ht
        exact canon_ite (Canon1.fst (Dev.connReply_canon h1)) h1
      · extract_lets +onlyGivenNames -merge -useContext e1
        have h1 : Canon e1 := Dev.mzkHeard_canon (hf _ _ ht)
        clear_value e1
        have h2 : Canon1 (if e1.mzkSched a2 = true then e1.connReply a2 h.orig h a3 true else (e1, true)) :=
          canon_ite1 (Dev.connReply_canon h1) (canon_mk1 h1)
        generalize (if e1.mzkSched a2 = true then e1.connReply a2 h.orig h a3 true else (e1, true)) = p at h2 ⊢
        obtain ⟨e2, isNew⟩ := p
        exact canon_ite (Dev.fifoPush_canon h2.fst) h2.fst

theorem Dev.mzkRxKeep_canon {a1 a2 a3} (h1 : Canon a1) : Canon (Dev.mzkRxKeep a1 a2 a3) := by
  unfold Dev.mzkRxKeep
  refine Dev.cellPump_canon (Dev.mzkRx_canon h1 (fun d h hd => ?_))
  split
  · exact Dev.mzkMackOnly_canon hd
  · rename_i b hb
    have hs : Canon1 (d.mzkSecure a2 1 h b) := Dev.mzkSecure_canon hd
    split
    all_goals rename_i heq
    · rw [heq] at hs
      exact Dev.mzkMackOnly_canon hs.fst
    · have ha := Dev.mzkSecure_accept (congrArg Prod.snd heq)
      rw [heq] at hs
      have hq := Dev.mzkHeard_canon (a2 := a2) (a3 := h) (a4 := h.orig) (a5 := a3.rssi) (ha (rxQuality a3) _ hs.fst)
      exact canon_ite ((Dev.connReply_canon hq).fst) hq

theorem Dev.cellPump'_canon {a1 a2} (h1 : Canon a1) : Canon (Dev.cellPump' a1 a2) := by
  unfold Dev.cellPump'
  exact canon_ite h1 (Dev.cellPump_canon h1)

theorem Dev.mzkRxLeave_canon {a1 a2 a3} (h1 : Canon a1) : Canon (Dev.mzkRxLeave a1 a2 a3) := by
  unfold Dev.mzkRxLeave
  refine Dev.mzkRx_canon h1 (fun d h hd => ?_)
  split
  · exact Dev.mzkMackOnly_canon hd
  · rename_i b hb
    have hs : Canon1 (d.mzkSecure a2 5 h b) := Dev.mzkSecure_canon hd
    split
    all_goals rename_i heq
    · rw [heq] at hs
      exact Dev.mzkMackOnly_canon hs.fst
    · have ha := Dev.mzkSecure_accept (congrArg Prod.snd heq)
      rw [heq] at hs
      exact Dev.cellPump'_canon (Dev.mzkUnbind_canon (Dev.mzkHeard_canon (ha (rxQuality a3) _ hs.fst)))

theorem Dev.mzkRxMack_canon {a1 a2 a3} (h1 : Canon a1) : Canon (Dev.mzkRxMack a1 a2 a3) := by
  unfold Dev.mzkRxMack
  refine Dev.mzkRx_canon ?_ ?_
  · exact h1
  · intro x0 x1 hx2
    extract_lets +onlyGivenNames -merge -useContext e3
    have he3 : Canon e3 := Dev.sample_canon (Dev.bump_canon hx2)
    clear_value e3
    split
    · exact he3
    · exact canon_ite (Dev.cellPump_canon (Dev.cellDrop_canon he3)) he3

theorem Dev.mzkMackTimeout_canon {a1 a2 a3} (h1 : Canon a1) : Canon (Dev.mzkMackTimeout a1 a2 a3) := by
  unfold Dev.mzkMackTimeout
  refine canon_ite ?_ ?_
  · exact h1
  · split
    · exact h1
    · extract_lets +onlyGivenNames -merge -useContext e0
      have he0 : Canon e0 := canon_ite (Dev.bump_canon h1) h1
      clear_value e0
      extract_lets +onlyGivenNames -merge -useContext y1
      exact canon_ite (Dev.cellPump_canon (Dev.cellDrop_canon he0)) (Dev.cellPump_canon (Dev.modRad_canon he0))

theorem Dev.lnkTake_canon {a1 a2 a3} (h1 : Canon a1) : Canon (Dev.lnkTake a1 a2 a3) := by
  unfold Dev.lnkTake
  exact Dev.lnkPut_canon h1

theorem Dev.radBind_canon {a1 a2 a3 a4 a5 a6} (h1 : Canon a1) : Canon (Dev.radBind a1 a2 a3 a4 a5 a6) := by
  unfold Dev.radBind
  extract_lets +onlyGivenNames -merge -useContext y0
  split
  · extract_lets +onlyGivenNames -merge -useContext e1
    have he1 : Canon e1 := by
      unfold e1
      refine Dev.setLnk_canon ?_
      · clear_value y0
        split
        · exact Dev.modBind_canon (Dev.lnkTake_canon h1)
        · exact h1
    clear_value e1
    refine canon_ite ?_ ?_
    · exact he1
    · extract_lets +onlyGivenNames -merge -useContext e2
      have he2 : Canon e2 := Dev.mzkEvent_canon (Dev.modBind_canon (Dev.setLnk_canon he1))
      clear_value e2
      split
      · exact Dev.radReturn_canon he2
      · exact he2
  · extract_lets +onlyGivenNames -merge -useContext y3 e4
    have he4 : Canon e4 := Dev.modRad_canon h1
    clear_value e4
    extract_lets +onlyGivenNames -merge -useContext e5
    have he5 : Canon e5 := Dev.mzkEvent_canon (Dev.mzkCount_canon he4)
    clear_value e5
    clear_value y0
    split
    · exact he5
    · extract_lets +onlyGivenNames -merge -useContext e6
      have he6 : Canon e6 := Dev.lnkPut_canon he5
      clear_value e6
      extract_lets +onlyGivenNames -merge -useContext y7 y8 y9
      have hy9 : Canon1 y9 := Dev.bindRecord_canon he6
      clear_value y9
      exact canon_ite (Dev.mzkEvent_canon (Canon1.fst hy9)) (Canon1.fst hy9)

theorem Dev.mzkRxAssocReq_canon {a1 a2 a3} (h1 : Canon a1) : Canon (Dev.mzkRxAssocReq a1 a2 a3) := by
  unfold Dev.mzkRxAssocReq
  refine Dev.mzkRx_canon ?_ ?_
  · exact h1
  · intro x0 x1 hx2
    extract_lets +onlyGivenNames -merge -useContext e3
    have he3 : Canon e3 := Dev.mzkMackOnly_canon (Dev.sample_canon (Dev.bump_canon hx2))
    clear_value e3
    extract_lets +onlyGivenNames -merge -useContext y4
    refine canon_ite ?_ ?_
    · exact he3
    · extract_lets +onlyGivenNames -merge -useContext y5 y6 y7
      have hy7 : ∀ w0 w1, Canon w0 → Canon (y7 w0 w1) := by
        unfold y7
        intro x8 x9 hx10
        exact Dev.cellPump_canon (Dev.radAssocRsp_canon hx10)
      clear_value y7
      refine canon_ite ?_ ?_
      · refine hy7 _ _ ?_
        · exact he3
      · split
        · refine hy7 _ _ ?_
          · exact he3
        · extract_lets +onlyGivenNames -merge -useContext y11 y12
          split
          · refine hy7 _ _ ?_
            · exact he3
          · extract_lets +onlyGivenNames -merge -useContext y13 y14
            exact Dev.cellPump_canon (Dev.changeStart_canon (Dev.radBind_canon he3))

theorem Dev.mzkRxRouteAck_canon {a1 a2 a3} (h1 : Canon a1) : Canon (Dev.mzkRxRouteAck a1 a2 a3) := by
  unfold Dev.mzkRxRouteAck
  refine Dev.mzkRx_canon h1 (fun d h hd => ?_)
  split
  · exact Dev.mzkMackOnly_canon hd
  · rename_i b hb
    have hs : Canon1 (d.mzkSecure a2 5 h b) := Dev.mzkSecure_canon hd
    split
    all_goals rename_i heq
    · rw [heq] at hs
      exact Dev.mzkMackOnly_canon hs.fst
    · have ha := Dev.mzkSecure_accept (congrArg Prod.snd heq)
      rw [heq] at hs
      extract_lets e
      have he : Canon e := Dev.mzkHeard_canon (ha (rxQuality a3) _ hs.fst)
      clear_value e
      split
      · exact Dev.cellPump_canon he
      · exact Dev.cellPump_canon (Dev.changeGo_canon he)

theorem Dev.mzkRouteAckTimeout_canon {a1 a2 a3} (h1 : Canon a1) : Canon (Dev.mzkRouteAckTimeout a1 a2 a3) := by
  unfold Dev.mzkRouteAckTimeout
  split
  · exact h1
  · exact Dev.cellPump_canon (Dev.changeGo_canon h1)

theorem Dev.mzkCellSilent_canon {a1 a2 a3} (h1 : Canon a1) : Canon (Dev.mzkCellSilent a1 a2 a3) := by
  unfold Dev.mzkCellSilent
  split
  · exact h1
  · refine canon_ite ?_ ?_
    · exact h1
    · extract_lets +onlyGivenNames -merge -useContext e0
      have he0 : Canon e0 := Dev.mzkUnbind_canon (Dev.mzkEvent_canon h1)
      clear_value e0
      refine Dev.cellPump_canon ?_
      · refine canon_getD_map ?_ ?_
        · intro x1
          exact Dev.attachLost_canon he0
        · exact he0

theorem Dev.connRsp_canon {a1 a2 a3 a4 a5 a6 a7 a8} (h1 : Canon a1) : Canon1 (Dev.connRsp a1 a2 a3 a4 a5 a6 a7 a8) := by
  unfold Dev.connRsp
  extract_lets +onlyGivenNames -merge -useContext y0 y1 y2
  split
  · split
    · rename_i v3 v4 heq5
      have hv3 : Canon v3 := by
        refine canon_fst_eq heq5 ?_
        exact Dev.mzkSeqOpen_canon h1
      exact Dev.mzkOut_canon hv3
  · split
    · rename_i v6 v7 v8 heq9
      have hv6 : Canon v6 := by
        refine canon_fst_eq heq9 ?_
        exact Dev.linkSeal_canon h1
      split
      · rename_i v10 v11 heq12
        have hv10 : Canon v10 := by
          refine canon_fst_eq heq12 ?_
          exact Dev.mzkSeqOpen_canon hv6
        exact Dev.mzkOut_canon hv10
    · rename_i v13 v14 ho15 heq16
      have hv13 : Canon v13 := by
        refine canon_fst_eq heq16 ?_
        exact Dev.linkSeal_canon h1
      exact canon_mk1 hv13

theorem Dev.mzkRxConnReq_canon {a1 a2 a3} (h1 : Canon a1) : Canon (Dev.mzkRxConnReq a1 a2 a3) := by
  unfold Dev.mzkRxConnReq
  refine Dev.mzkRx_canon ?_ ?_
  · exact h1
  · intro x0 x1 hx2
    extract_lets +onlyGivenNames -merge -useContext e3
    have he3 : Canon e3 := Dev.sample_canon (Dev.bump_canon hx2)
    clear_value e3
    extract_lets +onlyGivenNames -merge -useContext y4 y5 e6
    have he6 : Canon e6 := Dev.modRad_canon he3
    clear_value e6
    refine canon_ite ?_ ?_
    · exact he6
    · refine canon_ite ?_ ?_
      · exact Canon1.fst (Dev.connRsp_canon he6)
      · split
        · exact Canon1.fst (Dev.connRsp_canon he6)
        · extract_lets +onlyGivenNames -merge -useContext y7 y8
          refine canon_ite ?_ ?_
          · exact Dev.setF_canon he6
          · extract_lets +onlyGivenNames -merge -useContext e9
            have he9 : Canon e9 := Dev.radBind_canon he6
            clear_value e9
            extract_lets +onlyGivenNames -merge -useContext y10
            exact Canon1.fst (Dev.connRsp_canon he9)

theorem Dev.mzkPromote_canon {a1} (h1 : Canon a1) : Canon (Dev.mzkPromote a1) := by
  unfold Dev.mzkPromote
  refine canon_foldN ?_ ?_
  · exact h1
  · intro x0 x1 hx2
    refine canon_foldl ?_ ?_
    · exact hx2
    · intro x3 x4 hx5
      split
      · exact hx5
      · refine canon_ite ?_ ?_
        · exact hx5
        · extract_lets +onlyGivenNames -merge -useContext e6
          have he6 : Canon e6 := by
            unfold e6
            split
            · exact Dev.lnkTake_canon hx5
            · exact hx5
          clear_value e6
          extract_lets +onlyGivenNames -merge -useContext y7
          refine canon_ite ?_ ?_
          · extract_lets +onlyGivenNames -merge -useContext y8 y9 e10
            have he10 : Canon e10 := Dev.lnkPut_canon he6
            clear_value e10
            split
            · rename_i v11 heq12
              have hv11 : Canon v11 := by
                refine canon_fst_eq heq12 ?_
                exact Dev.connRsp_canon he10
              exact Dev.modBind_canon hv11
            · rename_i v13 heq14
              have hv13 : Canon v13 := by
                refine canon_fst_eq heq14 ?_
                exact Dev.connRsp_canon he10
              exact canon_ite hv13 (Dev.lnkPut_canon hv13)
          · extract_lets +onlyGivenNames -merge -useContext e15
            have he15 : Canon e15 := Dev.modBind_canon (Dev.lnkPut_canon he6)
            clear_value e15
            exact Dev.cellPump_canon (Dev.radAssocRsp_canon he15)

theorem Dev.mzkBeaconSend_canon {a1 a2} (h1 : Canon a1) : Canon (Dev.mzkBeaconSend a1 a2) := by
  unfold Dev.mzkBeaconSend
  refine canon_ite ?_ ?_
  · exact h1
  · extract_lets +onlyGivenNames -merge -useContext e0
    have he0 : Canon e0 := Dev.modRad_canon h1
    clear_value e0
    extract_lets +onlyGivenNames -merge -useContext y1 e2
    have he2 : Canon e2 := Dev.drawn_canon he0
    clear_value e2
    extract_lets +onlyGivenNames -merge -useContext y3 y4
    split
    · rename_i v5 v6 heq7
      have hv5 : Canon v5 := by
        refine canon_fst_eq heq7 ?_
        exact Dev.mzkSeq_canon he2
      exact Dev.cellPump_canon (Canon1.fst (Dev.mzkOut_canon hv5))

theorem Dev.mzkAdvSend_canon {a1 a2} (h1 : Canon a1) : Canon (Dev.mzkAdvSend a1 a2) := by
  unfold Dev.mzkAdvSend
  refine canon_ite ?_ ?_
  · exact h1
  · extract_lets +onlyGivenNames -merge -useContext y0 y1 y2
    refine canon_ite ?_ ?_
    · exact h1
    · extract_lets +onlyGivenNames -merge -useContext y3 y4 y5 y6
      split
      · rename_i v7 v8 heq9
        have hv7 : Canon v7 := by
          refine canon_fst_eq heq9 ?_
          exact Dev.mzkSeqOpen_canon (Dev.modRad_canon h1)
        extract_lets +onlyGivenNames -merge -useContext y10
        have hy10 : Canon1 y10 := Dev.mzkOut_canon hv7
        clear_value y10
        exact Dev.schedIdle_canon (Dev.modRad_canon (Canon1.fst hy10))

theorem Dev.mzkSilentEvent_canon {a1 a2 a3} (h1 : Canon a1) : Canon (Dev.mzkSilentEvent a1 a2 a3) := by
  unfold Dev.mzkSilentEvent
  split
  · exact h1
  · refine canon_ite ?_ ?_
    · exact h1
    · extract_lets +onlyGivenNames -merge -useContext y0 e1
      have he1 : Canon e1 := Dev.setLnk_canon (Dev.bump_canon h1)
      clear_value e1
      extract_lets +onlyGivenNames -merge -useContext e2
      have he2 : Canon e2 := canon_ite (Dev.mzkEvent_canon he1) he1
      clear_value e2
      extract_lets +onlyGivenNames -merge -useContext e3
      have he3 : Canon e3 := by
        unfold e3
        split
        · exact canon_ite (Dev.radReturn_canon (Dev.modBind_canon he2)) he2
        · exact he2
      clear_value e3
      exact Dev.schedIdle_canon he3

theorem Dev.mzkConnFree_canon {a1 a2 a3 a4} (h1 : Canon a1) : Canon (Dev.mzkConnFree a1 a2 a3 a4) := by
  unfold Dev.mzkConnFree
  extract_lets +onlyGivenNames -merge -useContext y0 e1
  have he1 : Canon e1 := by
    unfold e1
    split
    · exact h1
    · extract_lets +onlyGivenNames -merge -useContext y2
      exact canon_ite h1 (canon_ite (Dev.recEdit_canon h1) (canon_ite (Dev.recEdit_canon h1) h1))
  clear_value e1
  exact Dev.mzkUnbind_canon he1

theorem Dev.mzkSupTimeout_canon {a1 a2 a3} (h1 : Canon a1) : Canon (Dev.mzkSupTimeout a1 a2 a3) := by
  unfold Dev.mzkSupTimeout
  split
  · exact h1
  · refine canon_ite ?_ ?_
    · exact h1
    · extract_lets +onlyGivenNames -merge -useContext e0
      have he0 : Canon e0 := Dev.modBind_canon (Dev.mzkEvent_canon h1)
      clear_value e0
      extract_lets +onlyGivenNames -merge -useContext e1
      have he1 : Canon e1 := by
        unfold e1
        refine canon_getD_map ?_ ?_
        · intro x2
          exact Dev.attachLost_canon he0
        · exact he0
      clear_value e1
      exact canon_ite (Dev.mzkConnFree_canon he1) he1

theorem Dev.mzkConnHoldExpiry_canon {a1 a2 a3} (h1 : Canon a1) : Canon (Dev.mzkConnHoldExpiry a1 a2 a3) := by
  unfold Dev.mzkConnHoldExpiry
  split
  · exact h1
  · exact canon_ite (Dev.mzkConnFree_canon h1) h1

theorem Dev.mzkConnUpdInstant_canon {a1 a2 a3} (h1 : Canon a1) : Canon (Dev.mzkConnUpdInstant a1 a2 a3) := by
  unfold Dev.mzkConnUpdInstant
  split
  · exact h1
  · split
    · exact h1
    · extract_lets +onlyGivenNames -merge -useContext y0 y1 e2
      have he2 : Canon e2 := Dev.modBind_canon h1
      clear_value e2
      split
      · exact he2
      · extract_lets +onlyGivenNames -merge -useContext y3
        exact Canon1.fst (Dev.bindRecord_canon he2)

theorem Dev.mzkResumeTimeout_canon {a1 a2} (h1 : Canon a1) : Canon (Dev.mzkResumeTimeout a1 a2) := by
  unfold Dev.mzkResumeTimeout
  extract_lets +onlyGivenNames -merge -useContext y0
  exact canon_ite h1 (Dev.clrF_canon h1)

theorem Dev.mzkDcRelease_canon {a1 a2} (h1 : Canon a1) : Canon (Dev.mzkDcRelease a1 a2) := by
  unfold Dev.mzkDcRelease
  refine canon_ite ?_ ?_
  · exact h1
  · extract_lets +onlyGivenNames -merge -useContext e0
    have he0 : Canon e0 := Dev.clrF_canon h1
    clear_value e0
    exact canon_ite (Dev.schedIdle_canon he0) (Dev.cellPump_canon he0)

theorem Dev.mzkDlRelease_canon {a1 a2} (h1 : Canon a1) : Canon (Dev.mzkDlRelease a1 a2) := by
  unfold Dev.mzkDlRelease
  extract_lets +onlyGivenNames -merge -useContext y0 y1
  refine canon_ite ?_ ?_
  · exact h1
  · split
    · rename_i v2 heq3
      have hv2 : Canon v2 := by
        refine canon_fst_eq heq3 ?_
        exact Dev.dlTake_canon h1
      exact hv2
    · rename_i v4 v5 heq6
      have hv4 : Canon v4 := by
        refine canon_fst_eq heq6 ?_
        exact Dev.dlTake_canon h1
      extract_lets +onlyGivenNames -merge -useContext y7
      refine canon_ite ?_ ?_
      · extract_lets +onlyGivenNames -merge -useContext e8
        have he8 : Canon e8 := Dev.modRad_canon hv4
        clear_value e8
        extract_lets +onlyGivenNames -merge -useContext y9
        exact canon_ite (Dev.schedIdle_canon (canon_ite (Dev.setF_canon he8) he8)) (Dev.cellPump_canon he8)
      · refine canon_ite ?_ ?_
        · split
          · exact canon_ite (Dev.modRad_canon hv4) (Dev.dlReturned_canon hv4)
          · exact Dev.dlReturned_canon hv4
        · exact Dev.cellPump_canon (Dev.cellPut_canon hv4)

theorem Dev.mzkAdopt_canon {a1 a2 a3} (h1 : Canon a1) : Canon (Dev.mzkAdopt a1 a2 a3) := by
  unfold Dev.mzkAdopt
  extract_lets +onlyGivenNames -merge -useContext y0 y1 e2
  have he2 : Canon e2 := by
    unfold e2
    refine canon_foldl ?_ ?_
    · exact h1
    · intro x3 x4 hx5
      refine canon_ite ?_ ?_
      · exact hx5
      · extract_lets +onlyGivenNames -merge -useContext e6
        have he6 : Canon e6 := Dev.modRad_canon hx5
        clear_value e6
        exact canon_ite (Dev.lnkPut_canon he6) he6
  clear_value e2
  exact Dev.mzkCount_canon he2

theorem Dev.mzkSyncCh_canon {a1 a2} (h1 : Canon a1) : Canon (Dev.mzkSyncCh a1 a2) := by
  unfold Dev.mzkSyncCh
  extract_lets +onlyGivenNames -merge -useContext y0
  exact canon_ite h1 (canon_ite (Dev.mzkAdopt_canon (Dev.modRad_canon (Dev.setF_canon (Dev.setF_canon h1)))) (Dev.mzkStop_canon h1))

theorem Dev.mzkSync_canon {a1} (h1 : Canon a1) : Canon (Dev.mzkSync a1) := by
  unfold Dev.mzkSync
  refine canon_foldN ?_ ?_
  · exact h1
  · intro x0 x1 hx2
    exact Dev.mzkSyncCh_canon hx2

theorem Dev.mzkEnable_canon {a1 a2 a3} (h1 : Canon a1) : Canon (Dev.mzkEnable a1 a2 a3) := by
  unfold Dev.mzkEnable
  extract_lets +onlyGivenNames -merge -useContext y0 y1 e2
  have he2 : Canon e2 := Dev.regWrite32_canon h1
  clear_value e2
  extract_lets +onlyGivenNames -merge -useContext e3
  have he3 : Canon e3 := Dev.clrF_canon he2
  clear_value e3
  refine canon_ite ?_ ?_
  · exact Dev.mzkSyncCh_canon he3
  · refine canon_ite ?_ ?_
    · exact Dev.setF_canon (Dev.clrF_canon he3)
    · refine canon_ite ?_ ?_
      · exact Dev.setF_canon (Dev.clrF_canon he3)
      · extract_lets +onlyGivenNames -merge -useContext e4
        have he4 : Canon e4 := Dev.setF_canon (Dev.commitRwl_canon (Dev.commitRwl_canon he3))
        clear_value e4
        extract_lets +onlyGivenNames -merge -useContext e5
        have he5 : Canon e5 := canon_ite (Dev.wr_canon he4) he4
        clear_value e5
        exact Dev.mzkSyncCh_canon he5

theorem Dev.mzkListenEnd_canon {a1 a2} (h1 : Canon a1) : Canon (Dev.mzkListenEnd a1 a2) := by
  unfold Dev.mzkListenEnd
  refine canon_ite ?_ ?_
  · exact h1
  · extract_lets +onlyGivenNames -merge -useContext e0
    have he0 : Canon e0 := Dev.modRad_canon (Dev.clrF_canon h1)
    clear_value e0
    refine canon_ite ?_ ?_
    · exact he0
    · extract_lets +onlyGivenNames -merge -useContext e1
      have he1 : Canon e1 := Dev.setF_canon he0
      clear_value e1
      exact canon_ite (Dev.schedIdle_canon he1) (Dev.cellPump_canon he1)

theorem Dev.mzkBeaconForce_canon {a1 a2} (h1 : Canon a1) : Canon (Dev.mzkBeaconForce a1 a2) := by
  unfold Dev.mzkBeaconForce
  extract_lets +onlyGivenNames -merge -useContext e0
  have he0 : Canon e0 := Dev.setF_canon h1
  clear_value e0
  extract_lets +onlyGivenNames -merge -useContext e1
  have he1 : Canon e1 := canon_ite (Dev.setF_canon (Dev.clrF_canon he0)) he0
  clear_value e1
  exact Dev.clrF_canon he1

theorem Dev.mzkRxBeacon_canon {a1 a2 a3 a4} (h1 : Canon a1) : Canon (Dev.mzkRxBeacon a1 a2 a3 a4) := by
  unfold Dev.mzkRxBeacon
  exact canon_ite h1 (canon_ite (Dev.modRad_canon h1) (canon_ite (Dev.modRad_canon h1) (Dev.modRad_canon (Dev.mzkEvent_canon (Dev.setF_canon h1)))))

theorem Dev.mzkMode_canon {a1 a2 a3} (h1 : Canon a1) : Canon (Dev.mzkMode a1 a2 a3) := by
  unfold Dev.mzkMode
  refine canon_foldN ?_ ?_
  · exact h1
  · intro x0 x1 hx2
    extract_lets +onlyGivenNames -merge -useContext e3
    have he3 : Canon e3 := Dev.mzkSyncCh_canon hx2
    clear_value e3
    refine canon_ite ?_ ?_
    · exact he3
    · refine canon_ite ?_ ?_
      · extract_lets +onlyGivenNames -merge -useContext y4 e5
        have he5 : Canon e5 := Dev.setF_canon (Dev.clrF_canon he3)
        clear_value e5
        extract_lets +onlyGivenNames -merge -useContext e6
        have he6 : Canon e6 := Dev.modRad_canon he5
        clear_value e6
        exact Dev.radBack_canon he6
      · refine canon_ite ?_ ?_
        · extract_lets +onlyGivenNames -merge -useContext e7
          have he7 : Canon e7 := Dev.setF_canon (Dev.clrF_canon he3)
          clear_value e7
          exact Dev.mzkAdopt_canon (Dev.modRad_canon he7)
        · exact he3

theorem Dev.mzkTransientFault_canon {a1 a2} (h1 : Canon a1) : Canon (Dev.mzkTransientFault a1 a2) := by
  unfold Dev.mzkTransientFault
  extract_lets +onlyGivenNames -merge -useContext y0 y1 e2
  have he2 : Canon e2 := Dev.modRad_canon h1
  clear_value e2
  extract_lets +onlyGivenNames -merge -useContext e3
  have he3 : Canon e3 := Dev.trouble_canon (Dev.mzkEvent_canon he2)
  clear_value e3
  extract_lets +onlyGivenNames -merge -useContext y4
  exact canon_ite (Dev.mzkRetire_canon he3) he3

theorem Dev.mzkPermanentFault_canon {a1 a2 a3} (h1 : Canon a1) : Canon (Dev.mzkPermanentFault a1 a2 a3) := by
  unfold Dev.mzkPermanentFault
  extract_lets +onlyGivenNames -merge -useContext e0
  have he0 : Canon e0 := canon_ite (Dev.clrF_canon h1) h1
  clear_value e0
  extract_lets +onlyGivenNames -merge -useContext e1
  have he1 : Canon e1 := canon_ite (Dev.mzkEvent_canon he0) he0
  clear_value e1
  exact Dev.mzkRetire_canon (Dev.mzkEvent_canon he1)

end Sys2Proof.Machine
end

