-- ==== Sys2Proof/Laws/CanonEth.lean ====
section
/-! SUPPORT. Every operation of Machine/Eth.lean that answers a device keeps the stored data in canonical form. -/

namespace Sys2Proof.Machine

theorem Dev.setEthP_canon {a1 a2 a3} (h1 : Canon a1) : Canon (Dev.setEthP a1 a2 a3) := by
  unfold Dev.setEthP
  exact canon_upd h1

theorem Dev.modEthP_canon {a1 a2 a3} (h1 : Canon a1) : Canon (Dev.modEthP a1 a2 a3) := by
  unfold Dev.modEthP
  exact Dev.setEthP_canon h1

theorem Dev.ethEvent_canon {a1 a2 a3} (h1 : Canon a1) : Canon (Dev.ethEvent a1 a2 a3) := by
  unfold Dev.ethEvent
  exact Dev.raise_canon (Dev.setF_canon h1)

theorem Dev.setSa_canon {a1 a2 a3 a4} (h1 : Canon a1) : Canon (Dev.setSa a1 a2 a3 a4) := by
  unfold Dev.setSa
  exact Dev.modEthP_canon h1

theorem Dev.secProtect_canon {a1 a2 a3} (h1 : Canon a1) : Canon1 (Dev.secProtect a1 a2 a3) := by
  unfold Dev.secProtect
  split
  · exact canon_mk1 h1
  · extract_lets +onlyGivenNames -merge -useContext y0 y1 y2 y3 y4 y5 y6 e7
    have he7 : Canon e7 := Dev.setSa_canon h1
    clear_value e7
    extract_lets +onlyGivenNames -merge -useContext e8
    have he8 : Canon e8 := canon_ite (Dev.ethEvent_canon he7) he7
    clear_value e8
    exact canon_mk1 (canon_ite (Dev.ethEvent_canon (Dev.setF_canon he8)) he8)

theorem Dev.secReceive_canon {a1 a2 a3} (h1 : Canon a1) : Canon1 (Dev.secReceive a1 a2 a3) := by
  unfold Dev.secReceive
  extract_lets +onlyGivenNames -merge -useContext y0
  refine canon_ite1 ?_ ?_
  · exact canon_ite1 (canon_mk1 (Dev.bump_canon h1)) (canon_mk1 h1)
  · extract_lets +onlyGivenNames -merge -useContext y1 y2 y3 y4 y5 y6
    split
    · extract_lets +onlyGivenNames -merge -useContext e7
      have he7 : Canon e7 := Dev.bump_canon h1
      clear_value e7
      exact canon_ite1 (canon_mk1 he7) (canon_mk1 he7)
    · refine canon_ite1 ?_ ?_
      · exact canon_ite1 (canon_mk1 (Dev.bump_canon h1)) (canon_mk1 h1)
      · extract_lets +onlyGivenNames -merge -useContext y8
        refine canon_ite1 ?_ ?_
        · exact canon_mk1 (Dev.bump_canon h1)
        · extract_lets +onlyGivenNames -merge -useContext y9 y10
          clear_value y10
          split
          · exact canon_mk1 (Dev.bump_canon h1)
          · exact canon_mk1 (Dev.setSa_canon h1)

theorem Dev.ethSend_canon {a1 a2 a3} (h1 : Canon a1) : Canon (Dev.ethSend a1 a2 a3) := by
  unfold Dev.ethSend
  split
  · rename_i v0 v1 heq2
    have hv0 : Canon v0 := by
      refine canon_fst_eq heq2 ?_
      exact canon_ite1 (Dev.secProtect_canon h1) (canon_mk1 h1)
    exact Dev.bump_canon (Dev.emit_canon hv0)

theorem Dev.ethControl_canon {a1 a2 a3 a4} (h1 : Canon a1) : Canon (Dev.ethControl a1 a2 a3 a4) := by
  unfold Dev.ethControl
  extract_lets +onlyGivenNames -merge -useContext y0
  exact Dev.bump_canon (Dev.bump_canon (Dev.emit_canon h1))

theorem Dev.pauseSend_canon {a1 a2 a3 a4} (h1 : Canon a1) : Canon (Dev.pauseSend a1 a2 a3 a4) := by
  unfold Dev.pauseSend
  refine canon_ite ?_ ?_
  · exact h1
  · refine canon_ite ?_ ?_
    · extract_lets +onlyGivenNames -merge -useContext y0
      exact Dev.ethControl_canon h1
    · exact Dev.ethControl_canon h1

theorem Dev.ethPressure_canon {a1 a2 a3} (h1 : Canon a1) : Canon (Dev.ethPressure a1 a2 a3) := by
  unfold Dev.ethPressure
  extract_lets +onlyGivenNames -merge -useContext y0
  refine canon_ite ?_ ?_
  · exact h1
  · extract_lets +onlyGivenNames -merge -useContext y1 e2
    have he2 : Canon e2 := Dev.modEthP_canon h1
    clear_value e2
    exact canon_ite he2 (Dev.pauseSend_canon he2)

theorem Dev.pauseResend_canon {a1 a2 a3} (h1 : Canon a1) : Canon (Dev.pauseResend a1 a2 a3) := by
  unfold Dev.pauseResend
  exact canon_ite (Dev.pauseSend_canon h1) h1

theorem Dev.xonPauseSend_canon {a1 a2 a3} (h1 : Canon a1) : Canon (Dev.xonPauseSend a1 a2 a3) := by
  unfold Dev.xonPauseSend
  refine canon_ite ?_ ?_
  · extract_lets +onlyGivenNames -merge -useContext e0
    have he0 : Canon e0 := Dev.modEthP_canon h1
    clear_value e0
    exact canon_ite he0 (Dev.pauseSend_canon he0)
  · exact h1

theorem Dev.ptpCorrect_canon {a1 a2 a3} (h1 : Canon a1) : Canon1 (Dev.ptpCorrect a1 a2 a3) := by
  unfold Dev.ptpCorrect
  split
  · exact canon_mk1 h1
  · extract_lets +onlyGivenNames -merge -useContext y0
    refine canon_ite1 ?_ ?_
    · exact canon_mk1 (Dev.bump_canon h1)
    · refine canon_ite1 ?_ ?_
      · exact canon_mk1 h1
      · extract_lets +onlyGivenNames -merge -useContext y1 y2 y3 y4 y5 y6 y7 y8 e9
        have he9 : Canon e9 := Dev.bump_canon h1
        clear_value e9
        exact canon_mk1 (canon_ite (Dev.raise_canon (Dev.bump_canon he9)) he9)

theorem Dev.rxqPut_canon {a1 a2 a3 a4 a5 a6 a7 a8} (h1 : Canon a1) : Canon (Dev.rxqPut a1 a2 a3 a4 a5 a6 a7 a8) := by
  unfold Dev.rxqPut
  extract_lets +onlyGivenNames -merge -useContext y0 y1 y2
  exact Dev.raise_canon (Dev.wr_canon (Dev.memWrB_canon h1))

theorem Dev.ethHeadPut_canon {a1 a2 a3 a4} (h1 : Canon a1) : Canon (Dev.ethHeadPut a1 a2 a3 a4) := by
  unfold Dev.ethHeadPut
  extract_lets +onlyGivenNames -merge -useContext y0
  exact Dev.fifoStore_canon h1

theorem Dev.ethDrainF_canon {a1 a2 a3 a4} (h4 : Canon a4) : Canon (Dev.ethDrainF a1 a2 a3 a4) := by
  induction a1 generalizing a4 with
  | zero => exact h4
  | succ k ih =>
    unfold Dev.ethDrainF
    refine canon_ite h4 ?_
    split
    · exact h4
    · refine canon_ite ?_ ?_
      · exact canon_ite (ih (Dev.fifoPop_canon (Dev.rxqPut_canon h4))) h4
      · exact canon_ite (ih (Dev.fifoPop_canon h4)) (canon_ite h4 (Dev.ethHeadPut_canon h4))

theorem Dev.ethDrain1_canon {a1 a2 a3} (h1 : Canon a1) : Canon (Dev.ethDrain1 a1 a2 a3) := by
  unfold Dev.ethDrain1
  exact Dev.ethDrainF_canon h1

theorem Dev.ethDrain_canon {a1} (h1 : Canon a1) : Canon (Dev.ethDrain a1) := by
  unfold Dev.ethDrain
  refine canon_foldN ?_ ?_
  · exact h1
  · intro x0 x1 hx2
    exact Dev.ethDrain1_canon hx2

theorem Dev.noMatch_canon {a1 a2} (h1 : Canon a1) : Canon (Dev.noMatch a1 a2) := by
  unfold Dev.noMatch
  exact Dev.bump_canon h1

theorem Dev.setConc_canon {a1 a2 a3} (h1 : Canon a1) : Canon (Dev.setConc a1 a2 a3) := by
  unfold Dev.setConc
  exact canon_upd h1

theorem Dev.tunEvent_canon {a1 a2 a3} (h1 : Canon a1) : Canon (Dev.tunEvent a1 a2 a3) := by
  unfold Dev.tunEvent
  exact Dev.raise_canon (Dev.wr_canon (Dev.setF_canon h1))

theorem Dev.tunnelDatagram_canon {a1 a2 a3 a4} (h1 : Canon a1) : Canon (Dev.tunnelDatagram a1 a2 a3 a4) := by
  unfold Dev.tunnelDatagram
  extract_lets +onlyGivenNames -merge -useContext y0 y1 y2 y3 y4
  refine canon_ite ?_ ?_
  · exact Dev.bump_canon h1
  · refine canon_ite ?_ ?_
    · exact Dev.bump_canon h1
    · split
      · exact Dev.bump_canon h1
      · extract_lets +onlyGivenNames -merge -useContext y5 y6 y7 y8 y9 y10
        refine canon_ite ?_ ?_
        · exact Dev.bump_canon h1
        · refine canon_ite ?_ ?_
          · extract_lets +onlyGivenNames -merge -useContext e11
            have he11 : Canon e11 := Dev.setConc_canon h1
            clear_value e11
            exact canon_ite he11 (Dev.tunEvent_canon he11)
          · extract_lets +onlyGivenNames -merge -useContext y12 y13 y14 y15 y16 e17
            have he17 : Canon e17 := Dev.setConc_canon h1
            clear_value e17
            extract_lets +onlyGivenNames -merge -useContext e18
            have he18 : Canon e18 := canon_ite (Dev.tunEvent_canon he17) he17
            clear_value e18
            extract_lets +onlyGivenNames -merge -useContext e19
            have he19 : Canon e19 := canon_ite he18 (Dev.tunEvent_canon he18)
            clear_value e19
            extract_lets +onlyGivenNames -merge -useContext y20 y21
            exact canon_ite (Dev.bump_canon he19) (Dev.ethPressure_canon (Dev.bump_canon (Dev.fifoStore_canon he19)))

theorem Dev.takeTseq_canon {a1 a2} (h1 : Canon a1) : Canon1 (Dev.takeTseq a1 a2) := by
  unfold Dev.takeTseq
  extract_lets +onlyGivenNames -merge -useContext y0
  exact canon_mk1 (canon_upd h1)

theorem Dev.notAfter_canon {a1 a2 a3} (h1 : Canon a1) : Canon1 (Dev.notAfter a1 a2 a3) := by
  unfold Dev.notAfter
  refine canon_ite1 ?_ ?_
  · exact canon_mk1 h1
  · split
    · extract_lets +onlyGivenNames -merge -useContext y0
      exact canon_mk1 h1
    · exact canon_mk1 (Dev.drawn_canon h1)

theorem Dev.gramSend_canon {a1 a2} (h1 : Canon a1) : Canon (Dev.gramSend a1 a2) := by
  unfold Dev.gramSend
  extract_lets +onlyGivenNames -merge -useContext y0 y1 y2 e3
  have he3 : Canon e3 := by
    unfold e3
    refine canon_foldl ?_ ?_
    · exact h1
    · intro x4 x5 hx6
      exact Dev.dlToken_canon hx6
  clear_value e3
  refine canon_ite ?_ ?_
  · exact he3
  · split
    · rename_i v7 v8 heq9
      have hv7 : Canon v7 := by
        refine canon_fst_eq heq9 ?_
        exact Dev.takeTseq_canon he3
      extract_lets +onlyGivenNames -merge -useContext y10
      have hy10 : Canon1 y10 := by
        unfold y10
        refine canon_foldl1 ?_ ?_
        · exact canon_mk1 hv7
        · intro x11 x12 hx13
          split
          · rename_i v14 v15 heq16
            have hv14 : Canon v14 := by
              refine canon_fst_eq heq16 ?_
              exact Dev.notAfter_canon (Canon1.fst hx13)
            exact canon_mk1 hv14
      clear_value y10
      extract_lets +onlyGivenNames -merge -useContext y17
      refine canon_foldl ?_ ?_
      · exact Dev.ethSend_canon (Canon1.fst hy10)
      · intro x18 x19 hx20
        exact Dev.dlSent_canon hx20

theorem Dev.txqMark_canon {a1 a2 a3 a4} (h1 : Canon a1) : Canon (Dev.txqMark a1 a2 a3 a4) := by
  unfold Dev.txqMark
  extract_lets +onlyGivenNames -merge -useContext y0 y1 e2
  have he2 : Canon e2 := canon_ite (Dev.memWr_canon h1) h1
  clear_value e2
  exact Dev.raise_canon (Dev.wr_canon (Dev.memWr_canon he2))

theorem Dev.fwdSend_canon {a1 a2 a3} (h1 : Canon a1) : Canon (Dev.fwdSend a1 a2 a3) := by
  unfold Dev.fwdSend
  split
  · exact h1
  · split
    · rename_i v0 v1 heq2
      have hv0 : Canon v0 := by
        refine canon_fst_eq heq2 ?_
        exact Dev.ptpCorrect_canon h1
      exact Dev.ethDrain1_canon (Dev.ethHeadPut_canon (Dev.ethSend_canon hv0))

theorem Dev.ethPumpF_canon {a1 a2 a3} (h3 : Canon a3) : Canon (Dev.ethPumpF a1 a2 a3) := by
  induction a1 generalizing a3 with
  | zero => exact h3
  | succ k ih =>
    unfold Dev.ethPumpF
    split
    · split
      · exact h3
      · exact ih (Dev.gramSend_canon (Dev.modEthP_canon h3))
    · exact ih (Dev.fwdSend_canon (Dev.modEthP_canon h3))
    · exact h3

theorem Dev.ethPump_canon {a1 a2} (h1 : Canon a1) : Canon (Dev.ethPump a1 a2) := by
  unfold Dev.ethPump
  exact Dev.ethPumpF_canon h1

theorem Dev.ethFlow_canon {a1} (h1 : Canon a1) : Canon (Dev.ethFlow a1) := by
  unfold Dev.ethFlow
  refine canon_foldN ?_ ?_
  · exact h1
  · intro x0 x1 hx2
    refine canon_foldN ?_ ?_
    · exact Dev.ethDrain_canon hx2
    · intro x3 x4 hx5
      exact Dev.ethPump_canon hx5

theorem Dev.ethBuffer_canon {a1 a2 a3 a4} (h1 : Canon a1) : Canon (Dev.ethBuffer a1 a2 a3 a4) := by
  unfold Dev.ethBuffer
  exact canon_ite (Dev.ethFlow_canon (Dev.ethPressure_canon (Dev.fifoPush_canon h1))) (Dev.bump_canon h1)

theorem Dev.gramTake_canon {a1 a2 a3 a4 a5} (h5 : Canon a5) : Canon1 (Dev.gramTake a1 a2 a3 a4 a5) := by
  induction a1 generalizing a3 a4 a5 with
  | zero => exact ⟨h5⟩
  | succ k ih =>
    unfold Dev.gramTake
    extract_lets need cap
    have hf : Canon1 (a5.dlTake a2 cap) := Dev.dlTake_canon h5
    split
    all_goals
      rename_i heq
      rw [heq] at hf
    · exact ⟨hf.fst⟩
    · exact ih hf.fst

theorem Dev.tunnelDownlinkSend_canon {a1 a2} (h1 : Canon a1) : Canon (Dev.tunnelDownlinkSend a1 a2) := by
  unfold Dev.tunnelDownlinkSend
  extract_lets +onlyGivenNames -merge -useContext y0
  refine canon_ite ?_ ?_
  · exact h1
  · split
    · rename_i v1 v2 heq3
      have hv1 : Canon v1 := by
        refine canon_fst_eq heq3 ?_
        exact Dev.gramTake_canon h1
      refine canon_ite ?_ ?_
      · exact hv1
      · extract_lets +onlyGivenNames -merge -useContext y4 y5
        exact Dev.ethFlow_canon (Dev.modEthP_canon hv1)

theorem Dev.keepaliveSend_canon {a1} (h1 : Canon a1) : Canon (Dev.keepaliveSend a1) := by
  unfold Dev.keepaliveSend
  refine canon_ite ?_ ?_
  · exact h1
  · extract_lets +onlyGivenNames -merge -useContext e0
    have he0 : Canon e0 := by
      unfold e0
      refine canon_foldl ?_ ?_
      · exact h1
      · intro x1 x2 hx3
        exact Dev.modEthP_canon hx3
    clear_value e0
    exact Dev.ethFlow_canon he0

theorem Dev.concSilent_canon {a1 a2} (h1 : Canon a1) : Canon (Dev.concSilent a1 a2) := by
  unfold Dev.concSilent
  extract_lets +onlyGivenNames -merge -useContext y0
  exact canon_ite (Dev.tunEvent_canon (Dev.setConc_canon h1)) h1

theorem Dev.ethConcSelWrite_canon {a1 a2} (h1 : Canon a1) : Canon (Dev.ethConcSelWrite a1 a2) := by
  unfold Dev.ethConcSelWrite
  extract_lets +onlyGivenNames -merge -useContext y0 e1
  have he1 : Canon e1 := Dev.setF_canon (Dev.wr_canon h1)
  clear_value e1
  refine canon_foldN ?_ ?_
  · exact he1
  · intro x2 x3 hx4
    exact Dev.wr_canon hx4

theorem Dev.ethConcCommit_canon {a1} (h1 : Canon a1) : Canon (Dev.ethConcCommit a1) := by
  unfold Dev.ethConcCommit
  extract_lets +onlyGivenNames -merge -useContext y0
  exact Dev.clrF_canon (Dev.setConc_canon h1)

theorem Dev.fwdLook_canon {a1 a2 a3} (h1 : Canon a1) : Canon1 (Dev.fwdLook a1 a2 a3) := by
  unfold Dev.fwdLook
  extract_lets +onlyGivenNames -merge -useContext y0 y1
  refine canon_ite1 ?_ ?_
  · exact canon_mk1 h1
  · refine canon_ite1 ?_ ?_
    · split
      · exact canon_mk1 h1
      · extract_lets +onlyGivenNames -merge -useContext y2 y3 e4
        have he4 : Canon e4 := canon_ite (canon_upd h1) (Dev.raise_canon (Dev.setF_canon h1))
        clear_value e4
        exact canon_mk1 he4
    · split
      · exact canon_mk1 h1
      · extract_lets +onlyGivenNames -merge -useContext y5
        split
        · exact canon_mk1 h1
        · extract_lets +onlyGivenNames -merge -useContext y6
          exact canon_mk1 (Dev.bump_canon h1)

theorem Dev.ethForward_canon {a1 a2 a3 a4 a5 a6} (h1 : Canon a1) : Canon (Dev.ethForward a1 a2 a3 a4 a5 a6) := by
  unfold Dev.ethForward
  split
  · rename_i v0 heq1
    have hv0 : Canon v0 := by
      refine canon_fst_eq heq1 ?_
      exact Dev.fwdLook_canon h1
    exact canon_ite (Dev.noMatch_canon hv0) hv0
  · rename_i v2 v3 heq4
    have hv2 : Canon v2 := by
      refine canon_fst_eq heq4 ?_
      exact Dev.fwdLook_canon h1
    exact Dev.ethBuffer_canon hv2

theorem Dev.fdbAgeOut_canon {a1 a2 a3} (h1 : Canon a1) : Canon (Dev.fdbAgeOut a1 a2 a3) := by
  unfold Dev.fdbAgeOut
  exact canon_upd h1

theorem Dev.ethSteer_canon {a1 a2 a3 a4 a5 a6} (h1 : Canon a1) : Canon (Dev.ethSteer a1 a2 a3 a4 a5 a6) := by
  unfold Dev.ethSteer
  extract_lets +onlyGivenNames -merge -useContext y0
  split
  · exact Dev.noMatch_canon h1
  · extract_lets +onlyGivenNames -merge -useContext y1
    exact canon_ite (Dev.noMatch_canon h1) (Dev.ethBuffer_canon h1)

theorem Dev.macControl_canon {a1 a2 a3} (h1 : Canon a1) : Canon (Dev.macControl a1 a2 a3) := by
  unfold Dev.macControl
  extract_lets +onlyGivenNames -merge -useContext y0 y1 y2 y3
  refine canon_ite ?_ ?_
  · exact Dev.bump_canon h1
  · extract_lets +onlyGivenNames -merge -useContext e4
    have he4 : Canon e4 := Dev.bump_canon h1
    clear_value e4
    extract_lets +onlyGivenNames -merge -useContext y5 y6 e7
    have he7 : Canon e7 := Dev.modEthP_canon he4
    clear_value e7
    exact Dev.ethFlow_canon (Dev.flag_canon he7)

theorem Dev.ethFrameReceive_canon {a1 a2 a3} (h1 : Canon a1) : Canon (Dev.ethFrameReceive a1 a2 a3) := by
  unfold Dev.ethFrameReceive
  extract_lets +onlyGivenNames -merge -useContext y0
  refine canon_ite ?_ ?_
  · exact h1
  · refine canon_ite ?_ ?_
    · exact Dev.bump_canon h1
    · extract_lets +onlyGivenNames -merge -useContext e1
      have he1 : Canon e1 := Dev.bump_canon h1
      clear_value e1
      refine canon_ite ?_ ?_
      · exact Dev.macControl_canon he1
      · split
        · rename_i v2 heq3
          have hv2 : Canon v2 := by
            refine canon_fst_eq heq3 ?_
            exact canon_ite1 (Dev.secReceive_canon he1) (canon_mk1 he1)
          exact hv2
        · rename_i v4 v5 v6 heq7
          have hv4 : Canon v4 := by
            refine canon_fst_eq heq7 ?_
            exact canon_ite1 (Dev.secReceive_canon he1) (canon_mk1 he1)
          extract_lets +onlyGivenNames -merge -useContext y8 y9
          split
          · exact Dev.ethForward_canon hv4
          · extract_lets +onlyGivenNames -merge -useContext y10 e11
            have he11 : Canon e11 := by
              unfold e11
              clear_value y10
              split
              · exact Dev.tunnelDatagram_canon hv4
              · exact Dev.bump_canon hv4
              · exact Dev.ethSteer_canon hv4
            clear_value e11
            exact canon_ite (Dev.ethForward_canon he11) he11

theorem Dev.pauseExpiry_canon {a1 a2 a3} (h1 : Canon a1) : Canon (Dev.pauseExpiry a1 a2 a3) := by
  unfold Dev.pauseExpiry
  extract_lets +onlyGivenNames -merge -useContext y0 e1
  have he1 : Canon e1 := Dev.modEthP_canon h1
  clear_value e1
  exact Dev.ethFlow_canon (Dev.flag_canon he1)

theorem Dev.pauseStorm_canon {a1 a2} (h1 : Canon a1) : Canon (Dev.pauseStorm a1 a2) := by
  unfold Dev.pauseStorm
  refine canon_ite ?_ ?_
  · exact h1
  · extract_lets +onlyGivenNames -merge -useContext e0
    have he0 : Canon e0 := Dev.ethEvent_canon (Dev.setF_canon h1)
    clear_value e0
    extract_lets +onlyGivenNames -merge -useContext e1
    have he1 : Canon e1 := Dev.modEthP_canon he0
    clear_value e1
    exact Dev.ethFlow_canon (Dev.clrF_canon he1)

theorem Dev.pauseIgnoreEnd_canon {a1 a2} (h1 : Canon a1) : Canon (Dev.pauseIgnoreEnd a1 a2) := by
  unfold Dev.pauseIgnoreEnd
  exact Dev.modEthP_canon h1

theorem Dev.ethTxqPost_canon {a1 a2 a3} (h1 : Canon a1) : Canon (Dev.ethTxqPost a1 a2 a3) := by
  unfold Dev.ethTxqPost
  exact Dev.wr_canon h1

theorem Dev.ethTxDone_canon {a1 a2} (h1 : Canon a1) : Canon (Dev.ethTxDone a1 a2) := by
  unfold Dev.ethTxDone
  extract_lets +onlyGivenNames -merge -useContext e0
  have he0 : Canon e0 := Dev.ethFlow_canon h1
  clear_value e0
  split
  · exact Dev.ethFlow_canon (Dev.txqMark_canon he0)
  · split
    · split
      · exact he0
      · extract_lets +onlyGivenNames -merge -useContext e1
        have he1 : Canon e1 := Dev.modEthP_canon he0
        clear_value e1
        exact Dev.ethFlow_canon (Dev.txqMark_canon (Dev.ethSend_canon he1))
    · exact he0

theorem Dev.presence_canon {a1} (h1 : Canon a1) : Canon (Dev.presence a1) := by
  unfold Dev.presence
  extract_lets +onlyGivenNames -merge -useContext y0
  exact canon_ite h1 (Dev.raise_canon (Dev.flag_canon h1))

theorem Dev.ethEnable_canon {a1 a2 a3} (h1 : Canon a1) : Canon (Dev.ethEnable a1 a2 a3) := by
  unfold Dev.ethEnable
  extract_lets +onlyGivenNames -merge -useContext y0 y1 e2
  have he2 : Canon e2 := Dev.regWrite32_canon h1
  clear_value e2
  refine canon_ite ?_ ?_
  · exact Dev.presence_canon (Dev.clrF_canon (Dev.clrF_canon (Dev.clrF_canon he2)))
  · refine canon_ite ?_ ?_
    · exact Dev.presence_canon he2
    · refine canon_ite ?_ ?_
      · exact Dev.ethEvent_canon (Dev.setF_canon (Dev.clrF_canon he2))
      · extract_lets +onlyGivenNames -merge -useContext e3
        have he3 : Canon e3 := Dev.commitRwl_canon he2
        clear_value e3
        exact Dev.presence_canon (canon_ite he3 (Dev.setF_canon he3))

theorem Dev.ethLinkChange_canon {a1 a2 a3 a4} (h1 : Canon a1) : Canon (Dev.ethLinkChange a1 a2 a3 a4) := by
  unfold Dev.ethLinkChange
  refine canon_ite ?_ ?_
  · exact h1
  · extract_lets +onlyGivenNames -merge -useContext y0 e1
    have he1 : Canon e1 := Dev.flag_canon (Dev.flag_canon h1)
    clear_value e1
    extract_lets +onlyGivenNames -merge -useContext e2
    have he2 : Canon e2 := canon_ite (Dev.wr_canon he1) he1
    clear_value e2
    exact Dev.ethFlow_canon (Dev.presence_canon (Dev.ethEvent_canon he2))

theorem Dev.saShow_canon {a1 a2} (h1 : Canon a1) : Canon (Dev.saShow a1 a2) := by
  unfold Dev.saShow
  exact Dev.wr_canon h1

theorem Dev.saInstall_canon {a1 a2} (h1 : Canon a1) : Canon (Dev.saInstall a1 a2) := by
  unfold Dev.saInstall
  refine Dev.withFields_canon ?_ ?_
  · exact h1
  · intro x0 hx1
    extract_lets +onlyGivenNames -merge -useContext y2 y3 y4 y5 y6 y7
    refine canon_ite ?_ ?_
    · exact Dev.fail_canon hx1
    · refine canon_ite ?_ ?_
      · exact Dev.fail_canon hx1
      · refine canon_ite ?_ ?_
        · exact Dev.fail_canon hx1
        · refine canon_ite ?_ ?_
          · exact Dev.fail_canon hx1
          · refine canon_ite ?_ ?_
            · exact Dev.fail_canon hx1
            · refine canon_ite ?_ ?_
              · exact Dev.fail_canon hx1
              · split
                · exact Dev.fail_canon hx1
                · split
                  · exact Dev.fail_canon hx1
                  · extract_lets +onlyGivenNames -merge -useContext y8
                    exact Dev.okRes_canon (Dev.ethFlow_canon (Dev.saShow_canon (Dev.setSa_canon hx1)))

theorem Dev.saTxSwitch_canon {a1 a2} (h1 : Canon a1) : Canon (Dev.saTxSwitch a1 a2) := by
  unfold Dev.saTxSwitch
  refine Dev.withFields_canon ?_ ?_
  · exact h1
  · intro x0 hx1
    extract_lets +onlyGivenNames -merge -useContext y2 y3
    exact canon_ite (Dev.fail_canon hx1) (canon_ite (Dev.fail_canon hx1) (canon_ite (Dev.fail_canon hx1) (Dev.okRes_canon (Dev.ethFlow_canon (Dev.clrF_canon (Dev.wr_canon hx1))))))

theorem Dev.saDelete_canon {a1 a2} (h1 : Canon a1) : Canon (Dev.saDelete a1 a2) := by
  unfold Dev.saDelete
  refine Dev.withFields_canon ?_ ?_
  · exact h1
  · intro x0 hx1
    extract_lets +onlyGivenNames -merge -useContext y2 y3
    exact canon_ite (Dev.fail_canon hx1) (canon_ite (Dev.fail_canon hx1) (canon_ite (Dev.fail_canon hx1) (Dev.okRes_canon (Dev.saShow_canon (Dev.modEthP_canon hx1)))))

theorem Dev.ethWakeCfgWrite_canon {a1 a2} (h1 : Canon a1) : Canon (Dev.ethWakeCfgWrite a1 a2) := by
  unfold Dev.ethWakeCfgWrite
  extract_lets +onlyGivenNames -merge -useContext y0 y1 y2 e3
  have he3 : Canon e3 := Dev.wr_canon (Dev.wr_canon h1)
  clear_value e3
  exact canon_ite (Dev.wr_canon he3) (Dev.setF_canon (Dev.wr_canon he3))

theorem Dev.wakeSeen_canon {a1 a2 a3} (h1 : Canon a1) : Canon1 (Dev.wakeSeen a1 a2 a3) := by
  unfold Dev.wakeSeen
  extract_lets +onlyGivenNames -merge -useContext y0 y1 y2
  exact canon_ite1 (canon_mk1 (Dev.wr_canon (Dev.wr_canon (Dev.wr_canon (Dev.setF_canon h1))))) (canon_mk1 h1)

theorem Dev.txqGiveUp_canon {a1 a2} (h1 : Canon a1) : Canon (Dev.txqGiveUp a1 a2) := by
  unfold Dev.txqGiveUp
  refine canon_foldN ?_ ?_
  · exact h1
  · intro x0 x1 hx2
    refine canon_foldN ?_ ?_
    · exact hx2
    · intro x3 x4 hx5
      split
      · exact hx5
      · exact canon_ite (Dev.txqMark_canon hx5) hx5

theorem Dev.ethRetire_canon {a1 a2 a3} (h1 : Canon a1) : Canon (Dev.ethRetire a1 a2 a3) := by
  unfold Dev.ethRetire
  refine canon_ite ?_ ?_
  · exact h1
  · extract_lets +onlyGivenNames -merge -useContext e0
    have he0 : Canon e0 := Dev.clrF_canon (Dev.wr_canon (Dev.setF_canon h1))
    clear_value e0
    extract_lets +onlyGivenNames -merge -useContext e1
    have he1 : Canon e1 := Dev.txqGiveUp_canon (Dev.fifoEmpty_canon (Dev.fifoEmpty_canon he0))
    clear_value e1
    extract_lets +onlyGivenNames -merge -useContext y2 y3 e4
    have he4 : Canon e4 := canon_upd he1
    clear_value e4
    extract_lets +onlyGivenNames -merge -useContext y5 e6
    have he6 : Canon e6 := Dev.modEthP_canon he4
    clear_value e6
    extract_lets +onlyGivenNames -merge -useContext e7
    have he7 : Canon e7 := by
      unfold e7
      refine canon_foldl ?_ ?_
      · exact he6
      · intro x8 x9 hx10
        exact Dev.modEthP_canon hx10
    clear_value e7
    extract_lets +onlyGivenNames -merge -useContext e11
    have he11 : Canon e11 := Dev.presence_canon (Dev.retireLog_canon (Dev.ethEvent_canon he7))
    clear_value e11
    exact Dev.ethFlow_canon he11

theorem Dev.ethTransientFault_canon {a1 a2 a3} (h1 : Canon a1) : Canon (Dev.ethTransientFault a1 a2 a3) := by
  unfold Dev.ethTransientFault
  extract_lets +onlyGivenNames -merge -useContext y0 y1 e2
  have he2 : Canon e2 := Dev.modEthP_canon h1
  clear_value e2
  extract_lets +onlyGivenNames -merge -useContext e3
  have he3 : Canon e3 := canon_ite (Dev.bump_canon he2) he2
  clear_value e3
  extract_lets +onlyGivenNames -merge -useContext e4
  have he4 : Canon e4 := Dev.trouble_canon (Dev.ethEvent_canon he3)
  clear_value e4
  extract_lets +onlyGivenNames -merge -useContext y5
  exact canon_ite (Dev.ethRetire_canon he4) he4

theorem Dev.ethPermanentFault_canon {a1 a2 a3} (h1 : Canon a1) : Canon (Dev.ethPermanentFault a1 a2 a3) := by
  unfold Dev.ethPermanentFault
  exact Dev.ethRetire_canon (Dev.ethEvent_canon h1)

end Sys2Proof.Machine
end

