-- ==== Sys2Proof/Laws/CanonExport.lean ====
section
/-! SUPPORT. Every operation of Machine/Export.lean that answers a device keeps the stored data in canonical form. -/

namespace Sys2Proof.Machine

theorem Dev.blockClose_canon {a1 a2 a3 a4 a5} (h1 : Canon a1) : Canon (Dev.blockClose a1 a2 a3 a4 a5) := by
  unfold Dev.blockClose
  split
  · exact h1
  · extract_lets +onlyGivenNames -merge -useContext y0 e1
    have he1 : Canon e1 := Dev.setPair_canon h1
    clear_value e1
    exact Dev.finish_canon he1

theorem Dev.expPut_canon {a1 a2 a3 a4} (h1 : Canon a1) : Canon (Dev.expPut a1 a2 a3 a4) := by
  unfold Dev.expPut
  split
  · exact h1
  · extract_lets +onlyGivenNames -merge -useContext y0
    refine canon_ite ?_ ?_
    · extract_lets +onlyGivenNames -merge -useContext y1 y2 e3
      have he3 : Canon e3 := Dev.setPair_canon h1
      clear_value e3
      exact canon_ite (Dev.blockClose_canon he3) he3
    · extract_lets +onlyGivenNames -merge -useContext y4 y5 y6
      refine canon_ite ?_ ?_
      · extract_lets +onlyGivenNames -merge -useContext y7 e8
        have he8 : Canon e8 := Dev.setPair_canon h1
        clear_value e8
        exact Dev.finish_canon he8
      · extract_lets +onlyGivenNames -merge -useContext y9 e10
        have he10 : Canon e10 := Dev.setPair_canon h1
        clear_value e10
        exact Dev.queueCpl_canon he10

theorem Dev.expAdvanceF_canon {a1 a2} (h2 : Canon a2) : Canon (Dev.expAdvanceF a1 a2) := by
  induction a1 generalizing a2 with
  | zero => exact h2
  | succ k ih =>
    unfold Dev.expAdvanceF
    extract_lets s
    split
    · exact ih (canon_upd (Dev.wr_canon h2))
    · exact canon_ite (ih (canon_upd (Dev.wr_canon h2))) h2

theorem Dev.expAdvance_canon {a1} (h1 : Canon a1) : Canon (Dev.expAdvance a1) := by
  unfold Dev.expAdvance
  exact Dev.expAdvanceF_canon h1

theorem Dev.gapDeliver_canon {a1 a2 a3} (h1 : Canon a1) : Canon (Dev.gapDeliver a1 a2 a3) := by
  unfold Dev.gapDeliver
  extract_lets +onlyGivenNames -merge -useContext y0 e1
  have he1 : Canon e1 := by
    unfold e1
    refine canon_ite ?_ ?_
    · exact h1
    · refine canon_foldl ?_ ?_
      · exact canon_upd h1
      · intro x2 x3 hx4
        exact canon_ite (Dev.blockClose_canon hx4) hx4
  clear_value e1
  extract_lets +onlyGivenNames -merge -useContext y5
  split
  · exact he1
  · refine canon_ite ?_ ?_
    · extract_lets +onlyGivenNames -merge -useContext e6
      have he6 : Canon e6 := Dev.queueCpl_canon he1
      clear_value e6
      exact Dev.expAdvance_canon (canon_upd he6)
    · exact he1

theorem Dev.expStalls_canon {a1} (h1 : Canon a1) : Canon (Dev.expStalls a1) := by
  unfold Dev.expStalls
  refine canon_foldN ?_ ?_
  · exact h1
  · intro x0 x1 hx2
    extract_lets +onlyGivenNames -merge -useContext y3
    exact canon_ite (Dev.setF_canon hx2) hx2

theorem Dev.exportRecordDeliver_canon {a1} (h1 : Canon a1) : Canon (Dev.exportRecordDeliver a1) := by
  unfold Dev.exportRecordDeliver
  refine canon_ite ?_ ?_
  · exact h1
  · extract_lets +onlyGivenNames -merge -useContext y0 e1
    have he1 : Canon e1 := Dev.expStalls_canon h1
    clear_value e1
    split
    · exact he1
    · exact Dev.gapDeliver_canon he1
    · extract_lets +onlyGivenNames -merge -useContext e2
      have he2 : Canon e2 := canon_ite (Dev.blockClose_canon he1) he1
      clear_value e2
      refine canon_ite ?_ ?_
      · exact he2
      · extract_lets +onlyGivenNames -merge -useContext e3
        have he3 : Canon e3 := Dev.expPut_canon he2
        clear_value e3
        exact Dev.expAdvance_canon (canon_upd he3)

theorem Dev.batchTimeout_canon {a1 a2} (h1 : Canon a1) : Canon (Dev.batchTimeout a1 a2) := by
  unfold Dev.batchTimeout
  exact canon_ite (Dev.blockClose_canon h1) h1

theorem Dev.commitJournal_canon {a1} (h1 : Canon a1) : Canon (Dev.commitJournal a1) := by
  unfold Dev.commitJournal
  exact canon_ite (canon_upd h1) h1

theorem Dev.msrRebuildDone_canon {a1 a2 a3} (h1 : Canon a1) : Canon (Dev.msrRebuildDone a1 a2 a3) := by
  unfold Dev.msrRebuildDone
  refine canon_ite ?_ ?_
  · exact h1
  · extract_lets +onlyGivenNames -merge -useContext y0 y1 e2
    have he2 : Canon e2 := Dev.clrF_canon h1
    clear_value e2
    clear_value y1
    split
    · exact Dev.clrF_canon (Dev.setF_canon he2)
    · extract_lets +onlyGivenNames -merge -useContext y3 y4 y5 y6 y7 y8 y9 y10 e11
      have he11 : Canon e11 := Dev.memGone_canon (canon_upd he2)
      clear_value e11
      extract_lets +onlyGivenNames -merge -useContext e12
      have he12 : Canon e12 := by
        unfold e12
        refine canon_foldl ?_ ?_
        · exact he11
        · intro x13 x14 hx15
          exact Canon1.fst (Dev.idtInsert_canon hx15)
      clear_value e12
      exact Dev.msrRecount_canon (Dev.msrPinned_canon (Dev.setF_canon he12))

end Sys2Proof.Machine
end

