-- ==== Sys2Proof/Laws/CanonUpd.lean ====
section
/-! SUPPORT. Every operation of Machine/Upd.lean that answers a device keeps the stored data in canonical form. -/

namespace Sys2Proof.Machine

theorem Dev.bootRecPut_canon {a1 a2} (h1 : Canon a1) : Canon (Dev.bootRecPut a1 a2) := by
  unfold Dev.bootRecPut
  split
  · exact canon_upd h1

theorem Dev.setWrite_canon {a1 a2} (h1 : Canon a1) : Canon (Dev.setWrite a1 a2) := by
  unfold Dev.setWrite
  extract_lets +onlyGivenNames -merge -useContext y0 y1 y2 y3
  refine canon_ite ?_ ?_
  · split
    · exact canon_upd h1
  · exact canon_upd h1

theorem Dev.updRenew_canon {a1} (h1 : Canon a1) : Canon (Dev.updRenew a1) := by
  unfold Dev.updRenew
  exact Dev.wr_canon (canon_upd h1)

theorem Dev.updSessionEnd_canon {a1 a2} (h1 : Canon a1) : Canon (Dev.updSessionEnd a1 a2) := by
  unfold Dev.updSessionEnd
  refine canon_ite ?_ ?_
  · exact h1
  · extract_lets +onlyGivenNames -merge -useContext y0 y1 e2
    have he2 : Canon e2 := canon_upd h1
    clear_value e2
    extract_lets +onlyGivenNames -merge -useContext e3
    have he3 : Canon e3 := Dev.wr_canon (Dev.wr_canon (Dev.wr_canon (Dev.wr_canon (Dev.clrF_canon he2))))
    clear_value e3
    exact canon_ite (Dev.raise_canon he3) he3

theorem Dev.updBusy_canon {a1 a2} (h1 : Canon a1) : Canon (Dev.updBusy a1 a2) := by
  unfold Dev.updBusy
  extract_lets +onlyGivenNames -merge -useContext y0
  exact Dev.finish_canon h1

theorem Dev.updIn_canon {a1 a2 a3} (h1 : Canon a1) (h3 : ∀ w0, Canon w0 → Canon (a3 w0)) : Canon (Dev.updIn a1 a2 a3) := by
  unfold Dev.updIn
  refine canon_ite ?_ ?_
  · exact Dev.fail_canon h1
  · refine canon_ite ?_ ?_
    · exact Dev.updBusy_canon h1
    · refine canon_ite ?_ ?_
      · exact Dev.fail_canon h1
      · refine h3 _ ?_
        · exact Dev.updRenew_canon h1

theorem Dev.updOpen_canon {a1 a2} (h1 : Canon a1) : Canon (Dev.updOpen a1 a2) := by
  unfold Dev.updOpen
  refine Dev.withFields_canon ?_ ?_
  · exact h1
  · intro x0 hx1
    refine canon_ite ?_ ?_
    · exact Dev.updBusy_canon hx1
    · refine canon_ite ?_ ?_
      · exact Dev.fail_canon hx1
      · refine canon_ite ?_ ?_
        · exact Dev.fail_canon hx1
        · extract_lets +onlyGivenNames -merge -useContext y2 y3 e4
          have he4 : Canon e4 := canon_upd hx1
          clear_value e4
          extract_lets +onlyGivenNames -merge -useContext e5
          have he5 : Canon e5 := Dev.wr_canon (Dev.wr_canon (Dev.wr_canon (Dev.setF_canon he4)))
          clear_value e5
          exact Dev.okRes_canon (Dev.updRenew_canon he5)

theorem Dev.updBlocks_canon {a1 a2 a3} (h1 : Canon a1) : Canon1 (Dev.updBlocks a1 a2 a3) := by
  induction a3 generalizing a1 a2 with
  | nil => exact ⟨h1⟩
  | cons b t ih =>
    unfold Dev.updBlocks
    refine canon_ite1 ⟨h1⟩ (canon_ite1 ⟨h1⟩ ?_)
    have hw : Canon1 (a1.engWrite minuetId (a1.updArea + 4096 * a2) b) := Dev.engWrite_canon h1
    split
    rename_i heq
    rw [heq] at hw
    exact canon_ite1 ⟨hw.fst⟩ (ih (canon_upd hw.fst))

theorem Dev.updData_canon {a1 a2} (h1 : Canon a1) : Canon (Dev.updData a1 a2) := by
  unfold Dev.updData
  refine Dev.withFields_canon ?_ ?_
  · exact h1
  · intro x0 hx1
    refine Dev.updIn_canon ?_ ?_
    · exact hx1
    · intro x2 hx3
      extract_lets +onlyGivenNames -merge -useContext y4 y5
      refine canon_ite ?_ ?_
      · exact Dev.fail_canon hx3
      · refine canon_ite ?_ ?_
        · exact Dev.fail_canon hx3
        · refine canon_ite ?_ ?_
          · exact Dev.fail_canon hx3
          · split
            · rename_i v6 v7 heq8
              have hv6 : Canon v6 := by
                refine canon_fst_eq heq8 ?_
                exact Dev.updBlocks_canon hx3
              exact Dev.fail_canon hv6

theorem Dev.updVerify_canon {a1 a2} (h1 : Canon a1) : Canon (Dev.updVerify a1 a2) := by
  unfold Dev.updVerify
  refine Dev.withFields_canon ?_ ?_
  · exact h1
  · intro x0 hx1
    refine Dev.updIn_canon ?_ ?_
    · exact hx1
    · intro x2 hx3
      extract_lets +onlyGivenNames -merge -useContext y4
      exact canon_ite (Dev.updBusy_canon hx3) (canon_ite (Dev.fail_canon hx3) (canon_ite (Dev.fail_canon hx3) (canon_ite (Dev.fail_canon hx3) (canon_ite (Dev.fail_canon hx3) (canon_ite (Dev.fail_canon hx3) (canon_upd hx3))))))

theorem Dev.updActivate_canon {a1 a2} (h1 : Canon a1) : Canon (Dev.updActivate a1 a2) := by
  unfold Dev.updActivate
  refine Dev.withFields_canon ?_ ?_
  · exact h1
  · intro x0 hx1
    refine Dev.updIn_canon ?_ ?_
    · exact hx1
    · intro x2 hx3
      extract_lets +onlyGivenNames -merge -useContext y4
      refine canon_ite ?_ ?_
      · exact Dev.fail_canon hx3
      · refine canon_ite ?_ ?_
        · exact Dev.fail_canon hx3
        · refine canon_ite ?_ ?_
          · exact Dev.fail_canon hx3
          · extract_lets +onlyGivenNames -merge -useContext y5 y6 y7 y8 e9
            have he9 : Canon e9 := Dev.updSessionEnd_canon hx3
            clear_value e9
            exact canon_upd he9

theorem Dev.updClose_canon {a1 a2} (h1 : Canon a1) : Canon (Dev.updClose a1 a2) := by
  unfold Dev.updClose
  refine Dev.withFields_canon ?_ ?_
  · exact h1
  · intro x0 hx1
    refine Dev.updIn_canon ?_ ?_
    · exact hx1
    · intro x2 hx3
      exact Dev.okRes_canon (Dev.updSessionEnd_canon hx3)

theorem Dev.updServed_canon {a1 a2 a3} (h1 : Canon a1) (h3 : ∀ w0, Canon w0 → Canon (a3 w0)) : Canon (Dev.updServed a1 a2 a3) := by
  unfold Dev.updServed
  refine canon_ite ?_ ?_
  · exact Dev.fail_canon h1
  · refine h3 _ ?_
    · exact h1

theorem Dev.acceptStart_canon {a1 a2} (h1 : Canon a1) : Canon (Dev.acceptStart a1 a2) := by
  unfold Dev.acceptStart
  extract_lets +onlyGivenNames -merge -useContext y0 y1
  exact canon_upd h1

theorem Dev.updAccept_canon {a1 a2} (h1 : Canon a1) : Canon (Dev.updAccept a1 a2) := by
  unfold Dev.updAccept
  refine Dev.withFields_canon ?_ ?_
  · exact h1
  · intro x0 hx1
    refine Dev.updServed_canon ?_ ?_
    · exact hx1
    · intro x2 hx3
      exact canon_ite (Dev.acceptStart_canon hx3) (Dev.fail_canon hx3)

theorem Dev.updRevert_canon {a1 a2} (h1 : Canon a1) : Canon (Dev.updRevert a1 a2) := by
  unfold Dev.updRevert
  refine Dev.withFields_canon ?_ ?_
  · exact h1
  · intro x0 hx1
    refine Dev.updServed_canon ?_ ?_
    · exact hx1
    · intro x2 hx3
      refine canon_ite ?_ ?_
      · extract_lets +onlyGivenNames -merge -useContext y4 y5
        exact canon_upd hx3
      · exact Dev.fail_canon hx3

theorem Dev.updAcceptDefaults_canon {a1 a2} (h1 : Canon a1) : Canon (Dev.updAcceptDefaults a1 a2) := by
  unfold Dev.updAcceptDefaults
  refine Dev.withFields_canon ?_ ?_
  · exact h1
  · intro x0 hx1
    refine Dev.updServed_canon ?_ ?_
    · exact hx1
    · intro x2 hx3
      refine canon_ite ?_ ?_
      · extract_lets +onlyGivenNames -merge -useContext y4 y5
        exact canon_upd hx3
      · exact Dev.fail_canon hx3

theorem Dev.updStatus_canon {a1 a2} (h1 : Canon a1) : Canon (Dev.updStatus a1 a2) := by
  unfold Dev.updStatus
  refine Dev.withFields_canon ?_ ?_
  · exact h1
  · intro x0 hx1
    extract_lets +onlyGivenNames -merge -useContext y2
    exact Dev.okRes_canon hx1

theorem Dev.updSetPut_canon {a1 a2} (h1 : Canon a1) : Canon (Dev.updSetPut a1 a2) := by
  unfold Dev.updSetPut
  refine Dev.withFields_canon ?_ ?_
  · exact h1
  · intro x0 hx1
    refine Dev.updServed_canon ?_ ?_
    · exact hx1
    · intro x2 hx3
      extract_lets +onlyGivenNames -merge -useContext y4
      exact canon_ite (Dev.fail_canon hx3) (canon_ite (Dev.fail_canon hx3) (canon_ite (Dev.fail_canon hx3) (canon_ite (Dev.fail_canon hx3) (canon_upd hx3))))

theorem Dev.updSetGet_canon {a1 a2} (h1 : Canon a1) : Canon (Dev.updSetGet a1 a2) := by
  unfold Dev.updSetGet
  refine Dev.withFields_canon ?_ ?_
  · exact h1
  · intro x0 hx1
    refine Dev.updServed_canon ?_ ?_
    · exact hx1
    · intro x2 hx3
      refine canon_ite ?_ ?_
      · exact Dev.fail_canon hx3
      · extract_lets +onlyGivenNames -merge -useContext y4
        exact Dev.finish_canon hx3

theorem Dev.updLeaseExpiry_canon {a1} (h1 : Canon a1) : Canon (Dev.updLeaseExpiry a1) := by
  unfold Dev.updLeaseExpiry
  exact canon_ite (Dev.updSessionEnd_canon h1) h1

theorem Dev.updAutoAccept_canon {a1} (h1 : Canon a1) : Canon (Dev.updAutoAccept a1) := by
  unfold Dev.updAutoAccept
  exact canon_ite (Dev.acceptStart_canon h1) h1

theorem Dev.settingsRevertHold_canon {a1} (h1 : Canon a1) : Canon (Dev.settingsRevertHold a1) := by
  unfold Dev.settingsRevertHold
  refine canon_ite ?_ ?_
  · extract_lets +onlyGivenNames -merge -useContext y0 y1
    exact canon_upd h1
  · exact h1

theorem Dev.okOpt_canon {a1 a2 a3} (h1 : Canon a1) : Canon (Dev.okOpt a1 a2 a3) := by
  unfold Dev.okOpt
  refine canon_getD_map ?_ ?_
  · intro x0
    exact Dev.okRes_canon h1
  · exact h1

theorem Dev.fuseBlow_canon {a1 a2} (h1 : Canon a1) : Canon (Dev.fuseBlow a1 a2) := by
  unfold Dev.fuseBlow
  extract_lets +onlyGivenNames -merge -useContext y0
  exact Dev.wr_canon (canon_upd h1)

theorem Dev.itemMirror_canon {a1 a2} (h1 : Canon a1) : Canon (Dev.itemMirror a1 a2) := by
  unfold Dev.itemMirror
  exact canon_ite (Dev.eplMirror_canon h1) h1

theorem Dev.defaultsTake_canon {a1} (h1 : Canon a1) : Canon (Dev.defaultsTake a1) := by
  unfold Dev.defaultsTake
  extract_lets +onlyGivenNames -merge -useContext y0 y1 y2 y3 y4 e5
  have he5 : Canon e5 := canon_upd h1
  clear_value e5
  exact Dev.wr_canon (Dev.wr_canon he5)

theorem Dev.qspiDone_canon {a1 a2} (h1 : Canon a1) : Canon (Dev.qspiDone a1 a2) := by
  unfold Dev.qspiDone
  split
  · extract_lets +onlyGivenNames -merge -useContext y0 e1
    have he1 : Canon e1 := canon_upd h1
    clear_value e1
    exact Dev.okRes_canon (Dev.updRenew_canon he1)
  · extract_lets +onlyGivenNames -merge -useContext e2
    have he2 : Canon e2 := Dev.bootRecPut_canon h1
    clear_value e2
    split
    · exact Dev.okOpt_canon he2
    · exact Dev.okOpt_canon (canon_upd he2)
    · exact Dev.okOpt_canon (canon_upd he2)
    · exact canon_upd he2
    · exact Dev.okOpt_canon (Dev.defaultsTake_canon he2)
  · extract_lets +onlyGivenNames -merge -useContext e3
    have he3 : Canon e3 := Dev.setWrite_canon h1
    clear_value e3
    exact Dev.okOpt_canon (canon_ite (Dev.itemMirror_canon he3) he3)
  · extract_lets +onlyGivenNames -merge -useContext y4 e5
    have he5 : Canon e5 := canon_upd h1
    clear_value e5
    extract_lets +onlyGivenNames -merge -useContext e6
    have he6 : Canon e6 := Dev.fuseBlow_canon (Dev.clrF_canon he5)
    clear_value e6
    exact Dev.okOpt_canon (Dev.raise_canon he6)

theorem Dev.qspiProgramDone_canon {a1 a2} (h1 : Canon a1) : Canon (Dev.qspiProgramDone a1 a2) := by
  unfold Dev.qspiProgramDone
  split
  · exact h1
  · extract_lets +onlyGivenNames -merge -useContext y0 e1
    have he1 : Canon e1 := canon_upd h1
    clear_value e1
    refine canon_ite ?_ ?_
    · exact Dev.qspiDone_canon he1
    · extract_lets +onlyGivenNames -merge -useContext e2
      have he2 : Canon e2 := Dev.raise_canon (Dev.setF_canon he1)
      clear_value e2
      extract_lets +onlyGivenNames -merge -useContext e3
      have he3 : Canon e3 := by
        unfold e3
        split
        · exact Dev.updRenew_canon he2
        · exact he2
      clear_value e3
      split
      · exact he3
      · exact Dev.fail_canon (Dev.drawn_canon he3)

end Sys2Proof.Machine
end

