-- ==== Sys2Proof/Laws/CanonEpl.lean ====
section
/-! SUPPORT. Every operation of Machine/Epl.lean that answers a device keeps the stored data in canonical form. -/

namespace Sys2Proof.Machine

theorem Dev.pairLog_canon {a1 a2 a3} (h1 : Canon a1) : Canon (Dev.pairLog a1 a2 a3) := by
  unfold Dev.pairLog
  exact Dev.trouble_canon h1

theorem Dev.witnessCheck_canon {a1} (h1 : Canon a1) : Canon (Dev.witnessCheck a1) := by
  unfold Dev.witnessCheck
  exact canon_ite (Dev.pairLog_canon (Dev.raise_canon (Dev.setF_canon (Dev.setF_canon h1)))) h1

theorem Dev.tokenSet_canon {a1 a2} (h1 : Canon a1) : Canon (Dev.tokenSet a1 a2) := by
  unfold Dev.tokenSet
  refine canon_ite ?_ ?_
  · exact h1
  · extract_lets +onlyGivenNames -merge -useContext e0
    have he0 : Canon e0 := Dev.raise_canon (Dev.setF_canon (Dev.flag_canon h1))
    clear_value e0
    extract_lets +onlyGivenNames -merge -useContext e1
    have he1 : Canon e1 := Dev.pairLog_canon he0
    clear_value e1
    extract_lets +onlyGivenNames -merge -useContext y2 y3 e4
    have he4 : Canon e4 := canon_upd he1
    clear_value e4
    extract_lets +onlyGivenNames -merge -useContext y5 y6 e7
    have he7 : Canon e7 := Dev.clrF_canon (canon_upd he4)
    clear_value e7
    extract_lets +onlyGivenNames -merge -useContext e8
    have he8 : Canon e8 := Dev.clrF_canon he4
    clear_value e8
    extract_lets +onlyGivenNames -merge -useContext e9
    have he9 : Canon e9 := by
      unfold e9
      refine canon_ite ?_ ?_
      · refine canon_getD_map ?_ ?_
        · intro x10
          exact Dev.fail_canon he7
        · exact he7
      · exact Dev.witnessCheck_canon (canon_ite (Dev.raise_canon he8) he8)
    clear_value e9
    exact Dev.bolShow_canon he9

theorem Dev.standbyCheck_canon {a1} (h1 : Canon a1) : Canon (Dev.standbyCheck a1) := by
  unfold Dev.standbyCheck
  exact canon_ite (Dev.setF_canon h1) h1

theorem Dev.roleSet_canon {a1 a2} (h1 : Canon a1) : Canon (Dev.roleSet a1 a2) := by
  unfold Dev.roleSet
  refine canon_ite ?_ ?_
  · exact h1
  · extract_lets +onlyGivenNames -merge -useContext e0
    have he0 : Canon e0 := Dev.pairLog_canon (Dev.raise_canon (Dev.setF_canon (Dev.wr_canon h1)))
    clear_value e0
    extract_lets +onlyGivenNames -merge -useContext y1 e2
    have he2 : Canon e2 := canon_upd he0
    clear_value e2
    refine canon_ite ?_ ?_
    · exact Dev.clrF_canon (canon_upd he2)
    · extract_lets +onlyGivenNames -merge -useContext e3
      have he3 : Canon e3 := Dev.tokenSet_canon he2
      clear_value e3
      exact canon_ite (Dev.standbyCheck_canon he3) (Dev.clrF_canon he3)

theorem Dev.helloEmit_canon {a1} (h1 : Canon a1) : Canon (Dev.helloEmit a1) := by
  unfold Dev.helloEmit
  exact Dev.eplEmit_canon h1

theorem Dev.linkShow_canon {a1 a2} (h1 : Canon a1) : Canon (Dev.linkShow a1 a2) := by
  unfold Dev.linkShow
  exact canon_ite h1 (Dev.pairLog_canon (Dev.raise_canon (Dev.setF_canon (Dev.flag_canon h1))))

theorem Dev.pairOver_canon {a1} (h1 : Canon a1) : Canon (Dev.pairOver a1) := by
  unfold Dev.pairOver
  extract_lets +onlyGivenNames -merge -useContext y0 e1
  have he1 : Canon e1 := canon_upd h1
  clear_value e1
  extract_lets +onlyGivenNames -merge -useContext e2
  have he2 : Canon e2 := Dev.clrF_canon (Dev.wr_canon (Dev.clrF_canon he1))
  clear_value e2
  refine canon_foldl ?_ ?_
  · exact he2
  · intro x3 x4 hx5
    exact Dev.fail_canon hx5

theorem Dev.eplDown_canon {a1} (h1 : Canon a1) : Canon (Dev.eplDown a1) := by
  unfold Dev.eplDown
  refine canon_ite ?_ ?_
  · exact h1
  · extract_lets +onlyGivenNames -merge -useContext y0 e1
    have he1 : Canon e1 := canon_upd h1
    clear_value e1
    extract_lets +onlyGivenNames -merge -useContext e2
    have he2 : Canon e2 := by
      unfold e2
      refine canon_foldl ?_ ?_
      · exact he1
      · intro x3 x4 hx5
        exact Dev.badRead_canon hx5
    clear_value e2
    exact Dev.pairOver_canon (Dev.clrF_canon (Dev.linkShow_canon he2))

theorem Dev.eplLinkUp_canon {a1} (h1 : Canon a1) : Canon (Dev.eplLinkUp a1) := by
  unfold Dev.eplLinkUp
  refine canon_ite ?_ ?_
  · exact h1
  · extract_lets +onlyGivenNames -merge -useContext y0 e1
    have he1 : Canon e1 := canon_upd h1
    clear_value e1
    extract_lets +onlyGivenNames -merge -useContext e2
    have he2 : Canon e2 := canon_ite (Dev.linkShow_canon he1) he1
    clear_value e2
    exact Dev.helloEmit_canon he2

theorem Dev.eplLinkDown_canon {a1} (h1 : Canon a1) : Canon (Dev.eplLinkDown a1) := by
  unfold Dev.eplLinkDown
  exact Dev.eplDown_canon (canon_upd h1)

theorem Dev.eplHelloTimeout_canon {a1} (h1 : Canon a1) : Canon (Dev.eplHelloTimeout a1) := by
  unfold Dev.eplHelloTimeout
  exact Dev.eplDown_canon h1

theorem Dev.eplHelloTimer_canon {a1} (h1 : Canon a1) : Canon (Dev.eplHelloTimer a1) := by
  unfold Dev.eplHelloTimer
  exact canon_ite h1 (canon_ite (Dev.eplSend_canon h1) (Dev.helloEmit_canon h1))

theorem Dev.eplRetransmitTimeout_canon {a1} (h1 : Canon a1) : Canon (Dev.eplRetransmitTimeout a1) := by
  unfold Dev.eplRetransmitTimeout
  refine canon_ite ?_ ?_
  · exact h1
  · refine canon_ite ?_ ?_
    · exact Dev.eplDown_canon h1
    · extract_lets +onlyGivenNames -merge -useContext y0 e1
      have he1 : Canon e1 := canon_upd h1
      clear_value e1
      extract_lets +onlyGivenNames -merge -useContext e2
      have he2 : Canon e2 := Dev.bump_canon he1
      clear_value e2
      refine canon_foldl ?_ ?_
      · exact he2
      · intro x3 x4 hx5
        exact Dev.eplEmit_canon hx5

theorem Dev.eplAcked_canon {a1 a2} (h1 : Canon a1) : Canon (Dev.eplAcked a1 a2) := by
  unfold Dev.eplAcked
  extract_lets +onlyGivenNames -merge -useContext y0
  exact canon_ite h1 (Dev.eplDrain_canon (canon_upd h1))

theorem Dev.eplTerm_canon {a1 a2} (h1 : Canon a1) : Canon (Dev.eplTerm a1 a2) := by
  unfold Dev.eplTerm
  exact canon_ite (Dev.tokenSet_canon (Dev.wr_canon h1)) h1

theorem Dev.eplYield_canon {a1 a2} (h1 : Canon a1) : Canon (Dev.eplYield a1 a2) := by
  unfold Dev.eplYield
  exact canon_ite (Dev.roleSet_canon h1) h1

theorem Dev.eplHeard_canon {a1 a2} (h1 : Canon a1) : Canon (Dev.eplHeard a1 a2) := by
  unfold Dev.eplHeard
  extract_lets +onlyGivenNames -merge -useContext y0 y1 e2
  have he2 : Canon e2 := canon_upd h1
  clear_value e2
  extract_lets +onlyGivenNames -merge -useContext e3
  have he3 : Canon e3 := Dev.eplTerm_canon (Dev.eplAcked_canon he2)
  clear_value e3
  exact Dev.eplYield_canon he3

theorem Dev.eplIn_canon {a1 a2 a3} (h1 : Canon a1) (h3 : ∀ w0, Canon w0 → Canon (a3 w0)) : Canon (Dev.eplIn a1 a2 a3) := by
  unfold Dev.eplIn
  refine canon_ite ?_ ?_
  · exact h1
  · refine canon_ite ?_ ?_
    · exact Dev.bump_canon h1
    · refine canon_ite ?_ ?_
      · exact h1
      · refine h3 _ ?_
        · exact Dev.eplHeard_canon h1

theorem Dev.partnerRetire_canon {a1 a2} (h1 : Canon a1) : Canon (Dev.partnerRetire a1 a2) := by
  unfold Dev.partnerRetire
  exact canon_ite h1 (Dev.retireLog_canon (Dev.raise_canon (Dev.setF_canon (Dev.setF_canon h1))))

theorem Dev.partnerTransient_canon {a1} (h1 : Canon a1) : Canon (Dev.partnerTransient a1) := by
  unfold Dev.partnerTransient
  extract_lets +onlyGivenNames -merge -useContext y0 y1 y2 e3
  have he3 : Canon e3 := Dev.trouble_canon (canon_upd h1)
  clear_value e3
  extract_lets +onlyGivenNames -merge -useContext y4
  exact canon_ite (Dev.partnerRetire_canon he3) he3

theorem Dev.partnerGone_canon {a1} (h1 : Canon a1) : Canon (Dev.partnerGone a1) := by
  unfold Dev.partnerGone
  extract_lets +onlyGivenNames -merge -useContext e0
  have he0 : Canon e0 := Dev.partnerRetire_canon h1
  clear_value e0
  refine canon_ite ?_ ?_
  · exact he0
  · extract_lets +onlyGivenNames -merge -useContext e1
    have he1 : Canon e1 := Dev.roleSet_canon he0
    clear_value e1
    extract_lets +onlyGivenNames -merge -useContext e2
    have he2 : Canon e2 := canon_ite he1 (Dev.tokenSet_canon (Dev.wr_canon he1))
    clear_value e2
    exact canon_upd he2

theorem Dev.keySkew_canon {a1} (h1 : Canon a1) : Canon (Dev.keySkew a1) := by
  unfold Dev.keySkew
  exact Dev.raise_canon (Dev.setF_canon (Dev.setF_canon h1))

theorem Dev.eplParts_canon {a1 a2 a3} (h1 : Canon a1) : Canon (Dev.eplParts a1 a2 a3) := by
  unfold Dev.eplParts
  refine canon_foldl ?_ ?_
  · exact h1
  · intro x0 x1 hx2
    exact Dev.eplSend_canon hx2

theorem Dev.keySumSend_canon {a1} (h1 : Canon a1) : Canon (Dev.keySumSend a1) := by
  unfold Dev.keySumSend
  exact Dev.eplParts_canon h1

theorem Dev.resyncAsk_canon {a1 a2 a3} (h1 : Canon a1) : Canon (Dev.resyncAsk a1 a2 a3) := by
  unfold Dev.resyncAsk
  extract_lets +onlyGivenNames -merge -useContext y0 e1
  have he1 : Canon e1 := canon_upd h1
  clear_value e1
  extract_lets +onlyGivenNames -merge -useContext e2
  have he2 : Canon e2 := Dev.clrF_canon (Dev.setF_canon he1)
  clear_value e2
  exact Dev.eplSend_canon he2

theorem Dev.resyncStream_canon {a1 a2} (h1 : Canon a1) : Canon (Dev.resyncStream a1 a2) := by
  unfold Dev.resyncStream
  extract_lets +onlyGivenNames -merge -useContext e0
  have he0 : Canon e0 := by
    unfold e0
    refine canon_foldl ?_ ?_
    · exact h1
    · intro x1 x2 hx3
      exact Dev.eplSend_canon hx3
  clear_value e0
  extract_lets +onlyGivenNames -merge -useContext e4
  have he4 : Canon e4 := by
    unfold e4
    refine canon_foldl ?_ ?_
    · exact he0
    · intro x5 x6 hx7
      exact Dev.eplSend_canon hx7
  clear_value e4
  extract_lets +onlyGivenNames -merge -useContext e8
  have he8 : Canon e8 := by
    unfold e8
    refine canon_foldl ?_ ?_
    · exact he4
    · intro x9 x10 hx11
      exact Dev.eplSend_canon hx11
  clear_value e8
  extract_lets +onlyGivenNames -merge -useContext e12
  have he12 : Canon e12 := by
    unfold e12
    refine canon_foldl ?_ ?_
    · exact he8
    · intro x13 x14 hx15
      exact Dev.eplSend_canon hx15
  clear_value e12
  extract_lets +onlyGivenNames -merge -useContext e16
  have he16 : Canon e16 := Dev.keySumSend_canon he12
  clear_value e16
  exact Dev.eplSend_canon he16

theorem Dev.settleRoles_canon {a1 a2 a3 a4} (h1 : Canon a1) : Canon1 (Dev.settleRoles a1 a2 a3 a4) := by
  unfold Dev.settleRoles
  extract_lets +onlyGivenNames -merge -useContext y0 y1
  refine canon_ite1 ?_ ?_
  · exact canon_mk1 (Dev.partnerGone_canon h1)
  · refine canon_ite1 ?_ ?_
    · exact canon_mk1 h1
    · refine canon_ite1 ?_ ?_
      · extract_lets +onlyGivenNames -merge -useContext y2 y3
        refine canon_ite1 ?_ ?_
        · extract_lets +onlyGivenNames -merge -useContext e4
          have he4 : Canon e4 := Dev.roleSet_canon (Dev.wr_canon h1)
          clear_value e4
          exact canon_mk1 (Dev.tokenSet_canon he4)
        · exact canon_mk1 (Dev.roleSet_canon h1)
      · refine canon_ite1 ?_ ?_
        · extract_lets +onlyGivenNames -merge -useContext y5 e6
          have he6 : Canon e6 := Dev.raise_canon (Dev.setF_canon (Dev.setF_canon h1))
          clear_value e6
          extract_lets +onlyGivenNames -merge -useContext e7
          have he7 : Canon e7 := Dev.pairLog_canon he6
          clear_value e7
          exact canon_ite1 (canon_mk1 he7) (canon_mk1 (Dev.roleSet_canon he7))
        · exact canon_ite1 (canon_mk1 h1) (canon_mk1 (Dev.roleSet_canon h1))

theorem Dev.helloShow_canon {a1 a2} (h1 : Canon a1) : Canon (Dev.helloShow a1 a2) := by
  unfold Dev.helloShow
  extract_lets +onlyGivenNames -merge -useContext y0 e1
  have he1 : Canon e1 := Dev.flag_canon (Dev.flag_canon (Dev.flag_canon (Dev.setF_canon h1)))
  clear_value e1
  extract_lets +onlyGivenNames -merge -useContext y2 e3
  have he3 : Canon e3 := canon_upd he1
  clear_value e3
  exact Dev.wr_canon (Dev.wr_canon (Dev.wr_canon he3))

theorem Dev.swapCheck_canon {a1} (h1 : Canon a1) : Canon (Dev.swapCheck a1) := by
  unfold Dev.swapCheck
  split
  · refine canon_ite ?_ ?_
    · extract_lets +onlyGivenNames -merge -useContext y0 e1
      have he1 : Canon e1 := canon_upd h1
      clear_value e1
      refine Dev.bolShow_canon ?_
      · refine canon_getD_map ?_ ?_
        · intro x2
          exact Dev.okRes_canon he1
        · exact he1
    · exact h1
  · exact h1

theorem Dev.helloExchange_canon {a1 a2} (h1 : Canon a1) : Canon (Dev.helloExchange a1 a2) := by
  unfold Dev.helloExchange
  extract_lets +onlyGivenNames -merge -useContext y0 y1 y2 y3 y4 e5
  have he5 : Canon e5 := canon_upd h1
  clear_value e5
  extract_lets +onlyGivenNames -merge -useContext e6
  have he6 : Canon e6 := Dev.helloEmit_canon he5
  clear_value e6
  extract_lets +onlyGivenNames -merge -useContext e7
  have he7 : Canon e7 := Dev.linkShow_canon (Dev.helloShow_canon he6)
  clear_value e7
  extract_lets +onlyGivenNames -merge -useContext e8
  have he8 : Canon e8 := by
    unfold e8
    split
    · exact canon_ite (Dev.partnerTransient_canon he7) he7
    · exact he7
  clear_value e8
  extract_lets +onlyGivenNames -merge -useContext e9
  have he9 : Canon e9 := Dev.eplTerm_canon he8
  clear_value e9
  extract_lets +onlyGivenNames -merge -useContext y10 y11 y12 e13
  have he13 : Canon e13 := canon_upd he9
  clear_value e13
  extract_lets +onlyGivenNames -merge -useContext e14
  have he14 : Canon e14 := Dev.flag_canon (Dev.wr_canon he13)
  clear_value e14
  refine canon_ite ?_ ?_
  · exact Dev.eplDrain_canon (Dev.raise_canon (Dev.setF_canon (Dev.pairOver_canon he14)))
  · extract_lets +onlyGivenNames -merge -useContext e15
    have he15 : Canon e15 := Dev.clrF_canon he14
    clear_value e15
    split
    · rename_i v16 v17 heq18
      have hv16 : Canon v16 := by
        refine canon_fst_eq heq18 ?_
        exact Dev.settleRoles_canon he15
      extract_lets +onlyGivenNames -merge -useContext y19 y20 e21
      have he21 : Canon e21 := canon_upd hv16
      clear_value e21
      extract_lets +onlyGivenNames -merge -useContext e22
      have he22 : Canon e22 := Dev.swapCheck_canon he21
      clear_value e22
      extract_lets +onlyGivenNames -merge -useContext y23 y24 e25
      have he25 : Canon e25 := canon_ite (Dev.resyncAsk_canon he22) (canon_ite (Dev.resyncAsk_canon he22) (canon_ite (Dev.clrF_canon (canon_upd he22)) (canon_ite (Dev.resyncStream_canon he22) he22)))
      clear_value e25
      extract_lets +onlyGivenNames -merge -useContext y26 e27
      have he27 : Canon e27 := canon_upd he25
      clear_value e27
      exact Dev.eplDrain_canon (Dev.keySumSend_canon he27)

theorem Dev.hello_canon {a1 a2} (h1 : Canon a1) : Canon (Dev.hello a1 a2) := by
  unfold Dev.hello
  refine canon_ite ?_ ?_
  · exact h1
  · refine canon_ite ?_ ?_
    · exact Dev.bump_canon h1
    · refine canon_ite ?_ ?_
      · exact Dev.helloExchange_canon h1
      · extract_lets +onlyGivenNames -merge -useContext y0
        refine Dev.eplIn_canon ?_ ?_
        · exact h1
        · intro x1 hx2
          extract_lets +onlyGivenNames -merge -useContext e3
          have he3 : Canon e3 := Dev.helloShow_canon hx2
          clear_value e3
          extract_lets +onlyGivenNames -merge -useContext y4
          exact Dev.swapCheck_canon (Dev.eplYield_canon (canon_ite (Dev.partnerGone_canon he3) he3))

theorem Dev.leaseRenewTimer_canon {a1} (h1 : Canon a1) : Canon (Dev.leaseRenewTimer a1) := by
  unfold Dev.leaseRenewTimer
  refine canon_ite ?_ ?_
  · extract_lets +onlyGivenNames -merge -useContext y0 y1 e2
    have he2 : Canon e2 := canon_upd h1
    clear_value e2
    exact Dev.eplSend_canon he2
  · exact h1

theorem Dev.lease_canon {a1 a2} (h1 : Canon a1) : Canon (Dev.lease a1 a2) := by
  unfold Dev.lease
  extract_lets +onlyGivenNames -merge -useContext y0
  refine Dev.eplIn_canon ?_ ?_
  · exact h1
  · intro x1 hx2
    extract_lets +onlyGivenNames -merge -useContext e3
    have he3 : Canon e3 := Dev.eplYield_canon hx2
    clear_value e3
    extract_lets +onlyGivenNames -merge -useContext y4 e5
    have he5 : Canon e5 := canon_ite he3 (canon_upd he3)
    clear_value e5
    exact Dev.eplSend_canon he5

theorem Dev.leaseAck_canon {a1 a2} (h1 : Canon a1) : Canon (Dev.leaseAck a1 a2) := by
  unfold Dev.leaseAck
  refine Dev.eplIn_canon ?_ ?_
  · exact h1
  · intro x0 hx1
    split
    · exact hx1
    · extract_lets +onlyGivenNames -merge -useContext e2
      have he2 : Canon e2 := Dev.sample_canon hx1
      clear_value e2
      exact canon_ite (Dev.clrF_canon (canon_upd he2)) he2

theorem Dev.leaseExpiry_canon {a1} (h1 : Canon a1) : Canon (Dev.leaseExpiry a1) := by
  unfold Dev.leaseExpiry
  exact canon_ite (Dev.tokenSet_canon h1) h1

theorem Dev.witnessLeaseExpiry_canon {a1} (h1 : Canon a1) : Canon (Dev.witnessLeaseExpiry a1) := by
  unfold Dev.witnessLeaseExpiry
  exact canon_ite (Dev.tokenSet_canon h1) h1

theorem Dev.tokenRelease_canon {a1 a2} (h1 : Canon a1) : Canon (Dev.tokenRelease a1 a2) := by
  unfold Dev.tokenRelease
  refine Dev.eplIn_canon ?_ ?_
  · exact h1
  · intro x0 hx1
    exact canon_upd hx1

theorem Dev.tokenTakeover_canon {a1} (h1 : Canon a1) : Canon (Dev.tokenTakeover a1) := by
  unfold Dev.tokenTakeover
  extract_lets +onlyGivenNames -merge -useContext y0
  refine canon_ite ?_ ?_
  · extract_lets +onlyGivenNames -merge -useContext y1 e2
    have he2 : Canon e2 := Dev.tokenSet_canon (Dev.roleSet_canon (Dev.wr_canon h1))
    clear_value e2
    exact canon_upd he2
  · exact h1

theorem Dev.deadTimer_canon {a1} (h1 : Canon a1) : Canon (Dev.deadTimer a1) := by
  unfold Dev.deadTimer
  exact canon_ite (Dev.witnessCheck_canon (Dev.roleSet_canon (canon_upd h1))) h1

theorem Dev.swapHandover_canon {a1} (h1 : Canon a1) : Canon (Dev.swapHandover a1) := by
  unfold Dev.swapHandover
  exact canon_ite (Dev.roleSet_canon h1) h1

theorem Dev.digestBatchClose_canon {a1} (h1 : Canon a1) : Canon (Dev.digestBatchClose a1) := by
  unfold Dev.digestBatchClose
  extract_lets +onlyGivenNames -merge -useContext y0
  refine canon_ite ?_ ?_
  · exact h1
  · extract_lets +onlyGivenNames -merge -useContext y1 y2 e3
    have he3 : Canon e3 := canon_upd h1
    clear_value e3
    exact canon_ite he3 (Dev.eplParts_canon he3)

theorem Dev.digest_canon {a1 a2} (h1 : Canon a1) : Canon (Dev.digest a1 a2) := by
  unfold Dev.digest
  refine Dev.eplIn_canon ?_ ?_
  · exact h1
  · intro x0 hx1
    refine canon_ite ?_ ?_
    · exact hx1
    · extract_lets +onlyGivenNames -merge -useContext y2 y3 y4
      exact canon_ite (canon_upd hx1) (canon_upd hx1)

theorem Dev.roundOpen_canon {a1 a2 a3} (h1 : Canon a1) : Canon (Dev.roundOpen a1 a2 a3) := by
  unfold Dev.roundOpen
  extract_lets +onlyGivenNames -merge -useContext e0
  have he0 : Canon e0 := Dev.raise_canon (Dev.setF_canon h1)
  clear_value e0
  refine canon_ite ?_ ?_
  · exact canon_upd he0
  · split
    · exact canon_upd he0
    · extract_lets +onlyGivenNames -merge -useContext y1 y2 e3
      have he3 : Canon e3 := canon_upd he0
      clear_value e3
      refine canon_ite ?_ ?_
      · exact he3
      · extract_lets +onlyGivenNames -merge -useContext y4 y5 e6
        have he6 : Canon e6 := canon_upd he3
        clear_value e6
        exact Dev.eplSend_canon he6

theorem Dev.selfRetire_canon {a1} (h1 : Canon a1) : Canon (Dev.selfRetire a1) := by
  unfold Dev.selfRetire
  extract_lets +onlyGivenNames -merge -useContext e0
  have he0 : Canon e0 := canon_ite (Dev.eplSend_canon h1) h1
  clear_value e0
  extract_lets +onlyGivenNames -merge -useContext y1 y2 e3
  have he3 : Canon e3 := canon_upd he0
  clear_value e3
  extract_lets +onlyGivenNames -merge -useContext e4
  have he4 : Canon e4 := Dev.raise_canon (Dev.setF_canon (Dev.roleSet_canon he3))
  clear_value e4
  exact canon_ite (Dev.eplSend_canon he4) he4

theorem Dev.roundStep_canon {a1} (h1 : Canon a1) : Canon (Dev.roundStep a1) := by
  unfold Dev.roundStep
  split
  · exact h1
  · extract_lets +onlyGivenNames -merge -useContext y0
    have hy0 : ∀ w0, Canon w0 → Canon (y0 w0) := by
      unfold y0
      intro x1 hx2
      exact canon_upd hx2
    clear_value y0
    split
    · refine canon_ite ?_ ?_
      · refine Dev.selfRetire_canon ?_
        · refine hy0 _ ?_
          · exact h1
      · refine canon_ite ?_ ?_
        · refine hy0 _ ?_
          · exact h1
        · refine canon_ite ?_ ?_
          · refine Dev.partnerTransient_canon ?_
            · refine hy0 _ ?_
              · exact h1
          · extract_lets +onlyGivenNames -merge -useContext y3 y4 e5
            have he5 : Canon e5 := canon_upd h1
            clear_value e5
            extract_lets +onlyGivenNames -merge -useContext e6
            have he6 : Canon e6 := by
              unfold e6
              refine canon_ite ?_ ?_
              · refine canon_foldl ?_ ?_
                · exact he5
                · intro x7 x8 hx9
                  exact Dev.eplSend_canon hx9
              · exact h1
            clear_value e6
            split
            · exact he6
            · refine canon_ite ?_ ?_
              · exact he6
              · extract_lets +onlyGivenNames -merge -useContext y10 e11
                have he11 : Canon e11 := by
                  unfold e11
                  refine hy0 _ ?_
                  · exact he6
                clear_value e11
                extract_lets +onlyGivenNames -merge -useContext y12 e13
                have he13 : Canon e13 := canon_ite he11 (Dev.pairLog_canon (Dev.raise_canon (Dev.setF_canon (Dev.setF_canon (canon_upd he11)))))
                clear_value e13
                exact Dev.partnerTransient_canon he13
    · exact h1

theorem Dev.digestCompare_canon {a1} (h1 : Canon a1) : Canon (Dev.digestCompare a1) := by
  unfold Dev.digestCompare
  split
  · exact h1
  · refine canon_ite ?_ ?_
    · exact h1
    · extract_lets +onlyGivenNames -merge -useContext y0 y1 y2 e3
      have he3 : Canon e3 := canon_upd h1
      clear_value e3
      refine canon_ite ?_ ?_
      · exact he3
      · extract_lets +onlyGivenNames -merge -useContext y4 y5 y6 y7 e8
        have he8 : Canon e8 := Dev.bump_canon (Dev.bump_canon he3)
        clear_value e8
        extract_lets +onlyGivenNames -merge -useContext e9
        have he9 : Canon e9 := Dev.eplSend_canon he8
        clear_value e9
        refine canon_ite ?_ ?_
        · exact he9
        · extract_lets +onlyGivenNames -merge -useContext y10 e11
          have he11 : Canon e11 := Dev.roundOpen_canon he9
          clear_value e11
          exact canon_ite (Dev.eplSend_canon he11) he11

theorem Dev.digestResult_canon {a1 a2} (h1 : Canon a1) : Canon (Dev.digestResult a1 a2) := by
  unfold Dev.digestResult
  refine Dev.eplIn_canon ?_ ?_
  · exact h1
  · intro x0 hx1
    exact canon_ite hx1 (Dev.roundStep_canon (Dev.roundOpen_canon hx1))

theorem Dev.selftest_canon {a1 a2} (h1 : Canon a1) : Canon (Dev.selftest a1 a2) := by
  unfold Dev.selftest
  refine Dev.eplIn_canon ?_ ?_
  · exact h1
  · intro x0 hx1
    extract_lets +onlyGivenNames -merge -useContext y2
    refine canon_ite ?_ ?_
    · exact hx1
    · extract_lets +onlyGivenNames -merge -useContext e3
      have he3 : Canon e3 := canon_ite (Dev.roundOpen_canon hx1) hx1
      clear_value e3
      refine canon_ite ?_ ?_
      · exact he3
      · extract_lets +onlyGivenNames -merge -useContext y4
        exact Dev.roundStep_canon (canon_upd he3)

theorem Dev.selftestDone_canon {a1 a2 a3 a4 a5} (h1 : Canon a1) : Canon (Dev.selftestDone a1 a2 a3 a4 a5) := by
  unfold Dev.selftestDone
  split
  · exact h1
  · extract_lets +onlyGivenNames -merge -useContext y0 e1
    have he1 : Canon e1 := by
      unfold e1
      refine canon_foldl ?_ ?_
      · exact h1
      · intro x2 x3 hx4
        exact canon_ite (Dev.laneKatFail_canon hx4) hx4
    clear_value e1
    extract_lets +onlyGivenNames -merge -useContext e5
    have he5 : Canon e5 := canon_ite he1 (Dev.pavKat_canon he1)
    clear_value e5
    extract_lets +onlyGivenNames -merge -useContext y6 e7
    have he7 : Canon e7 := Dev.raise_canon (canon_ite he5 (Dev.setF_canon he5))
    clear_value e7
    extract_lets +onlyGivenNames -merge -useContext y8 e9
    have he9 : Canon e9 := canon_upd he7
    clear_value e9
    exact Dev.roundStep_canon (Dev.eplSend_canon he9)

theorem Dev.recheck_canon {a1 a2} (h1 : Canon a1) : Canon (Dev.recheck a1 a2) := by
  unfold Dev.recheck
  refine Dev.eplIn_canon ?_ ?_
  · exact h1
  · intro x0 hx1
    extract_lets +onlyGivenNames -merge -useContext y2
    exact Dev.roundStep_canon (canon_upd hx1)

theorem Dev.commitApply_canon {a1 a2} (h1 : Canon a1) : Canon (Dev.commitApply a1 a2) := by
  unfold Dev.commitApply
  extract_lets +onlyGivenNames -merge -useContext y0
  refine canon_ite ?_ ?_
  · exact h1
  · split
    · rename_i v1 heq2
      have hv1 : Canon v1 := by
        refine canon_fst_eq heq2 ?_
        exact Dev.msrGet_canon h1
      exact hv1
    · rename_i v3 v4 heq5
      have hv3 : Canon v3 := by
        refine canon_fst_eq heq5 ?_
        exact Dev.msrGet_canon h1
      split
      · exact hv3
      · exact Dev.bump_canon (Dev.msrPut_canon hv3)

theorem Dev.mirroredChange_canon {a1 a2 a3 a4} (h1 : Canon a1) : Canon (Dev.mirroredChange a1 a2 a3 a4) := by
  unfold Dev.mirroredChange
  split
  · rename_i v0 v1 heq2
    have hv0 : Canon v0 := by
      refine canon_fst_eq heq2 ?_
      exact Dev.stgTake_canon h1
    extract_lets +onlyGivenNames -merge -useContext y3 y4 y5 e6
    have he6 : Canon e6 := Dev.stgWrite_canon hv0
    clear_value e6
    exact Dev.stgPublish_canon (Dev.msrPut_canon he6)

theorem Dev.recordApply_canon {a1 a2} (h1 : Canon a1) : Canon1 (Dev.recordApply a1 a2) := by
  unfold Dev.recordApply
  extract_lets +onlyGivenNames -merge -useContext y0 y1 y2 y3 y4 y5
  refine canon_ite1 ?_ ?_
  · exact canon_mk1 h1
  · refine canon_ite1 ?_ ?_
    · exact canon_mk1 h1
    · extract_lets +onlyGivenNames -merge -useContext y6 y7 y8
      refine canon_ite1 ?_ ?_
      · exact canon_mk1 h1
      · extract_lets +onlyGivenNames -merge -useContext e9
        have he9 : Canon e9 := Dev.idtRemove_canon h1
        clear_value e9
        extract_lets +onlyGivenNames -merge -useContext e10
        have he10 : Canon e10 := Canon1.fst (Dev.idtInsert_canon h1)
        clear_value e10
        extract_lets +onlyGivenNames -merge -useContext e11
        have he11 : Canon e11 := canon_ite (canon_upd he9) (canon_ite (canon_upd he10) h1)
        clear_value e11
        extract_lets +onlyGivenNames -merge -useContext e12
        have he12 : Canon e12 := canon_ite (Dev.mirroredChange_canon he11) (canon_ite (Dev.mirroredChange_canon he11) (Dev.msrPut_canon he11))
        clear_value e12
        exact canon_mk1 (Dev.bump_canon he12)

theorem Dev.recordTake_canon {a1 a2} (h1 : Canon a1) : Canon (Dev.recordTake a1 a2) := by
  unfold Dev.recordTake
  split
  · rename_i v0 heq1
    have hv0 : Canon v0 := by
      refine canon_fst_eq heq1 ?_
      exact Dev.recordApply_canon h1
    exact hv0
  · rename_i v2 v3 heq4
    have hv2 : Canon v2 := by
      refine canon_fst_eq heq4 ?_
      exact Dev.recordApply_canon h1
    extract_lets +onlyGivenNames -merge -useContext y5 e6
    have he6 : Canon e6 := Dev.clrF_canon (canon_upd hv2)
    clear_value e6
    exact canon_ite (Dev.keySkew_canon (Dev.bump_canon he6)) he6

theorem Dev.keyHeldRetry_canon {a1} (h1 : Canon a1) : Canon (Dev.keyHeldRetry a1) := by
  unfold Dev.keyHeldRetry
  extract_lets +onlyGivenNames -merge -useContext y0
  refine canon_ite ?_ ?_
  · exact h1
  · refine Dev.standbyCheck_canon ?_
    · refine canon_foldl ?_ ?_
      · exact canon_upd h1
      · intro x1 x2 hx3
        split
        · rename_i v4 heq5
          have hv4 : Canon v4 := by
            refine canon_fst_eq heq5 ?_
            exact Dev.recordApply_canon hx3
          exact hv4
        · rename_i v6 v7 heq8
          have hv6 : Canon v6 := by
            refine canon_fst_eq heq8 ?_
            exact Dev.recordApply_canon hx3
          exact canon_upd hv6

theorem Dev.msrDelta_canon {a1 a2} (h1 : Canon a1) : Canon (Dev.msrDelta a1 a2) := by
  unfold Dev.msrDelta
  refine Dev.eplIn_canon ?_ ?_
  · exact h1
  · intro x0 hx1
    exact canon_ite hx1 (canon_ite (canon_upd hx1) (canon_ite (Dev.recordTake_canon hx1) hx1))

theorem Dev.mergeDelayApply_canon {a1} (h1 : Canon a1) : Canon (Dev.mergeDelayApply a1) := by
  unfold Dev.mergeDelayApply
  split
  · exact h1
  · exact Dev.commitApply_canon (canon_upd h1)

theorem Dev.followCommit_canon {a1 a2 a3} (h1 : Canon a1) : Canon (Dev.followCommit a1 a2 a3) := by
  unfold Dev.followCommit
  extract_lets +onlyGivenNames -merge -useContext y0 y1 y2 e3
  have he3 : Canon e3 := canon_upd h1
  clear_value e3
  exact Dev.commitPoint_canon (Dev.blankSlot_canon he3)

theorem Dev.followDestroy_canon {a1 a2} (h1 : Canon a1) : Canon (Dev.followDestroy a1 a2) := by
  unfold Dev.followDestroy
  extract_lets +onlyGivenNames -merge -useContext y0 y1 e2
  have he2 : Canon e2 := by
    unfold e2
    refine canon_foldl ?_ ?_
    · exact h1
    · intro x3 x4 hx5
      refine canon_foldl ?_ ?_
      · exact Dev.blankSlot_canon hx5
      · intro x6 x7 hx8
        exact Dev.blankSlot_canon hx8
  clear_value e2
  exact Dev.raise_canon (Dev.wr_canon (Dev.destroyPoint_canon he2))

theorem Dev.keyEventRx_canon {a1 a2} (h1 : Canon a1) : Canon (Dev.keyEventRx a1 a2) := by
  unfold Dev.keyEventRx
  refine Dev.eplIn_canon ?_ ?_
  · exact h1
  · intro x0 hx1
    extract_lets +onlyGivenNames -merge -useContext y2 y3 y4
    refine canon_ite ?_ ?_
    · exact hx1
    · extract_lets +onlyGivenNames -merge -useContext y5 y6 e7
      have he7 : Canon e7 := by
        unfold e7
        clear_value y3
        clear_value y4
        split
        · split
          · exact canon_ite (Dev.followCommit_canon hx1) (Dev.keySkew_canon hx1)
          · exact canon_ite hx1 (Dev.keySkew_canon hx1)
        · exact Dev.followDestroy_canon hx1
        · split
          · exact canon_ite (Dev.keySkew_canon hx1) (canon_upd hx1)
          · exact Dev.keySkew_canon hx1
        · exact canon_upd hx1
        · exact Dev.keySkew_canon hx1
      clear_value e7
      exact Dev.keyHeldRetry_canon he7

theorem Dev.keySummaryRx_canon {a1 a2} (h1 : Canon a1) : Canon (Dev.keySummaryRx a1 a2) := by
  unfold Dev.keySummaryRx
  refine Dev.eplIn_canon ?_ ?_
  · exact h1
  · intro x0 hx1
    extract_lets +onlyGivenNames -merge -useContext y2
    refine canon_ite ?_ ?_
    · exact canon_upd hx1
    · extract_lets +onlyGivenNames -merge -useContext y3 e4
      have he4 : Canon e4 := canon_upd hx1
      clear_value e4
      extract_lets +onlyGivenNames -merge -useContext y5 y6
      exact canon_ite he4 (Dev.keySkew_canon he4)

theorem Dev.keySummaryTimer_canon {a1} (h1 : Canon a1) : Canon (Dev.keySummaryTimer a1) := by
  unfold Dev.keySummaryTimer
  exact canon_ite (Dev.keySumSend_canon h1) h1

theorem Dev.settingsRx_canon {a1 a2 a3} (h1 : Canon a1) : Canon (Dev.settingsRx a1 a2 a3) := by
  unfold Dev.settingsRx
  refine Dev.eplIn_canon ?_ ?_
  · exact h1
  · intro x0 hx1
    refine canon_ite ?_ ?_
    · exact hx1
    · split
      · exact hx1
      · exact canon_ite (Dev.setF_canon hx1) (canon_upd hx1)

theorem Dev.boleroRx_canon {a1 a2} (h1 : Canon a1) : Canon (Dev.boleroRx a1 a2) := by
  unfold Dev.boleroRx
  refine Dev.eplIn_canon ?_ ?_
  · exact h1
  · intro x0 hx1
    extract_lets +onlyGivenNames -merge -useContext y2 y3 y4
    refine canon_ite ?_ ?_
    · exact hx1
    · refine canon_ite ?_ ?_
      · extract_lets +onlyGivenNames -merge -useContext y5 y6 e7
        have he7 : Canon e7 := canon_ite (Dev.keySkew_canon hx1) hx1
        clear_value e7
        extract_lets +onlyGivenNames -merge -useContext y8 y9 e10
        have he10 : Canon e10 := canon_upd he7
        clear_value e10
        exact Dev.tableSave_canon (Dev.memWrB_canon he10)
      · extract_lets +onlyGivenNames -merge -useContext e11
        have he11 : Canon e11 := Dev.memWrB_canon hx1
        clear_value e11
        exact canon_ite (Dev.bolShow_canon (Dev.campShow_canon he11)) he11

theorem Dev.resyncApply_canon {a1 a2} (h1 : Canon a1) : Canon (Dev.resyncApply a1 a2) := by
  unfold Dev.resyncApply
  extract_lets +onlyGivenNames -merge -useContext y0 y1 y2 e3
  have he3 : Canon e3 := Dev.recordTake_canon h1
  clear_value e3
  extract_lets +onlyGivenNames -merge -useContext y4
  refine canon_ite ?_ ?_
  · exact he3
  · extract_lets +onlyGivenNames -merge -useContext y5 y6 y7 y8 y9 y10 y11 y12
    exact canon_ite he3 (Dev.msrPut_canon he3)

theorem Dev.resyncRx_canon {a1 a2} (h1 : Canon a1) : Canon (Dev.resyncRx a1 a2) := by
  unfold Dev.resyncRx
  refine Dev.eplIn_canon ?_ ?_
  · exact h1
  · intro x0 hx1
    extract_lets +onlyGivenNames -merge -useContext y2 y3
    refine canon_ite ?_ ?_
    · exact canon_ite (Dev.resyncStream_canon hx1) hx1
    · refine canon_ite ?_ ?_
      · exact hx1
      · refine canon_ite ?_ ?_
        · extract_lets +onlyGivenNames -merge -useContext y4 e5
          have he5 : Canon e5 := canon_upd hx1
          clear_value e5
          extract_lets +onlyGivenNames -merge -useContext e6
          have he6 : Canon e6 := by
            unfold e6
            split
            · exact hx1
            · exact Dev.clrF_canon (Dev.setF_canon he5)
          clear_value e6
          extract_lets +onlyGivenNames -merge -useContext y7 e8
          have he8 : Canon e8 := by
            unfold e8
            refine canon_foldl ?_ ?_
            · exact he6
            · intro x9 x10 hx11
              exact Dev.resyncApply_canon hx11
          clear_value e8
          exact canon_upd he8
        · refine canon_ite ?_ ?_
          · split
            · exact hx1
            · extract_lets +onlyGivenNames -merge -useContext y12 e13
              have he13 : Canon e13 := by
                unfold e13
                refine canon_ite ?_ ?_
                · refine canon_foldl ?_ ?_
                  · exact hx1
                  · intro x14 x15 hx16
                    exact Dev.recordTake_canon hx16
                · exact hx1
              clear_value e13
              extract_lets +onlyGivenNames -merge -useContext y17 y18 e19
              have he19 : Canon e19 := canon_upd he13
              clear_value e19
              extract_lets +onlyGivenNames -merge -useContext e20
              have he20 : Canon e20 := Dev.standbyCheck_canon (Dev.raise_canon (Dev.setF_canon (Dev.clrF_canon he19)))
              clear_value e20
              extract_lets +onlyGivenNames -merge -useContext e21
              have he21 : Canon e21 := by
                unfold e21
                refine canon_getD_map ?_ ?_
                · intro x22
                  exact Dev.okRes_canon he20
                · exact he20
              clear_value e21
              refine canon_foldl ?_ ?_
              · exact he21
              · intro x23 x24 hx25
                exact Dev.roundOpen_canon hx25
          · exact hx1

theorem Dev.pairInfo_canon {a1 a2} (h1 : Canon a1) : Canon (Dev.pairInfo a1 a2) := by
  unfold Dev.pairInfo
  refine Dev.withFields_canon ?_ ?_
  · exact h1
  · intro x0 hx1
    exact Dev.okRes_canon hx1

theorem Dev.pairSwap_canon {a1 a2} (h1 : Canon a1) : Canon (Dev.pairSwap a1 a2) := by
  unfold Dev.pairSwap
  refine Dev.withFields_canon ?_ ?_
  · exact h1
  · intro x0 hx1
    extract_lets +onlyGivenNames -merge -useContext y2
    refine canon_ite ?_ ?_
    · exact Dev.fail_canon hx1
    · refine canon_ite ?_ ?_
      · exact Dev.fail_canon hx1
      · refine canon_ite ?_ ?_
        · exact Dev.fail_canon hx1
        · refine canon_ite ?_ ?_
          · exact Dev.fail_canon hx1
          · extract_lets +onlyGivenNames -merge -useContext y3 e4
            have he4 : Canon e4 := canon_upd hx1
            clear_value e4
            exact Dev.bolShow_canon (Dev.eplSend_canon (Dev.tokenHeldEnd_canon he4))

theorem Dev.pairWitnessGrant_canon {a1 a2} (h1 : Canon a1) : Canon (Dev.pairWitnessGrant a1 a2) := by
  unfold Dev.pairWitnessGrant
  refine Dev.withFields_canon ?_ ?_
  · exact h1
  · intro x0 hx1
    extract_lets +onlyGivenNames -merge -useContext y2 y3 y4 y5
    refine canon_ite ?_ ?_
    · exact Dev.fail_canon hx1
    · refine canon_ite ?_ ?_
      · exact Dev.fail_canon hx1
      · refine canon_ite ?_ ?_
        · exact Dev.fail_canon hx1
        · extract_lets +onlyGivenNames -merge -useContext e6
          have he6 : Canon e6 := Dev.tokenSet_canon (Dev.wr_canon hx1)
          clear_value e6
          extract_lets +onlyGivenNames -merge -useContext y7 e8
          have he8 : Canon e8 := canon_upd he6
          clear_value e8
          extract_lets +onlyGivenNames -merge -useContext e9
          have he9 : Canon e9 := Dev.setF_canon he8
          clear_value e9
          exact Dev.okRes_canon (Dev.bolShow_canon (canon_ite he9 (Dev.epochNew_canon he9)))

theorem Dev.pairResync_canon {a1 a2} (h1 : Canon a1) : Canon (Dev.pairResync a1 a2) := by
  unfold Dev.pairResync
  refine Dev.withFields_canon ?_ ?_
  · exact h1
  · intro x0 hx1
    extract_lets +onlyGivenNames -merge -useContext y2
    exact canon_ite (Dev.fail_canon hx1) (canon_ite (Dev.fail_canon hx1) (canon_ite (Dev.fail_canon hx1) (canon_ite (Dev.fail_canon hx1) (Dev.resyncAsk_canon hx1))))

theorem Dev.pairMismatchRead_canon {a1 a2} (h1 : Canon a1) : Canon (Dev.pairMismatchRead a1 a2) := by
  unfold Dev.pairMismatchRead
  refine Dev.withFields_canon ?_ ?_
  · exact h1
  · intro x0 hx1
    refine canon_ite ?_ ?_
    · exact Dev.fail_canon hx1
    · extract_lets +onlyGivenNames -merge -useContext y2
      exact Dev.finish_canon hx1

theorem Dev.helloAnew_canon {a1} (h1 : Canon a1) : Canon (Dev.helloAnew a1) := by
  unfold Dev.helloAnew
  exact canon_ite (Dev.helloEmit_canon (canon_upd h1)) h1

theorem Dev.eplCtrlWrite_canon {a1 a2} (h1 : Canon a1) : Canon (Dev.eplCtrlWrite a1 a2) := by
  unfold Dev.eplCtrlWrite
  extract_lets +onlyGivenNames -merge -useContext y0 y1 e2
  have he2 : Canon e2 := Dev.regWrite32_canon h1
  clear_value e2
  refine canon_ite ?_ ?_
  · exact canon_ite he2 (canon_ite (Dev.helloAnew_canon (Dev.bolShow_canon (Dev.commitRwl_canon he2))) (Dev.setF_canon (Dev.clrF_canon he2)))
  · refine canon_ite ?_ ?_
    · extract_lets +onlyGivenNames -merge -useContext e3
      have he3 : Canon e3 := Dev.pairOver_canon he2
      clear_value e3
      exact Dev.helloAnew_canon (Dev.bolShow_canon (Dev.clrF_canon (canon_ite he3 (Dev.roleSet_canon he3))))
    · exact he2

theorem Dev.partnerRestore_canon {a1} (h1 : Canon a1) : Canon (Dev.partnerRestore a1) := by
  unfold Dev.partnerRestore
  extract_lets +onlyGivenNames -merge -useContext y0 e1
  have he1 : Canon e1 := canon_upd h1
  clear_value e1
  extract_lets +onlyGivenNames -merge -useContext e2
  have he2 : Canon e2 := Dev.clrF_canon he1
  clear_value e2
  exact canon_ite (Dev.roleSet_canon he2) he2

end Sys2Proof.Machine
end

