-- ==== Sys2Proof/Laws/CanonPmu.lean ====
section
/-! SUPPORT. Every operation of Machine/Pmu.lean that answers a device keeps the stored data in canonical form. -/

namespace Sys2Proof.Machine

theorem Dev.budgetTo_canon {a1 a2} (h1 : Canon a1) : Canon (Dev.budgetTo a1 a2) := by
  unfold Dev.budgetTo
  exact Dev.wr_canon (canon_upd h1)

theorem Dev.budgetSettle_canon {a1} (h1 : Canon a1) : Canon (Dev.budgetSettle a1) := by
  unfold Dev.budgetSettle
  exact Dev.budgetTo_canon h1

theorem Dev.throttleShow_canon {a1 a2} (h1 : Canon a1) : Canon (Dev.throttleShow a1 a2) := by
  unfold Dev.throttleShow
  exact Dev.resteer_canon (Dev.flag_canon h1)

theorem Dev.throttleTo_canon {a1 a2} (h1 : Canon a1) : Canon (Dev.throttleTo a1 a2) := by
  unfold Dev.throttleTo
  refine canon_ite ?_ ?_
  · exact h1
  · extract_lets +onlyGivenNames -merge -useContext y0
    exact Dev.throttleShow_canon (Dev.raise_canon (Dev.flag_canon h1))

theorem Dev.thermTo_canon {a1 a2} (h1 : Canon a1) : Canon (Dev.thermTo a1 a2) := by
  unfold Dev.thermTo
  refine canon_ite ?_ ?_
  · exact h1
  · extract_lets +onlyGivenNames -merge -useContext y0 e1
    have he1 : Canon e1 := Dev.trouble_canon (Dev.raise_canon (Dev.flag_canon h1))
    clear_value e1
    exact Dev.throttleShow_canon he1

theorem Dev.stormBudgetExhausted_canon {a1} (h1 : Canon a1) : Canon (Dev.stormBudgetExhausted a1) := by
  unfold Dev.stormBudgetExhausted
  exact canon_ite (Dev.throttleTo_canon (Dev.budgetTo_canon h1)) h1

theorem Dev.stormBudgetHalf_canon {a1} (h1 : Canon a1) : Canon (Dev.stormBudgetHalf a1) := by
  unfold Dev.stormBudgetHalf
  exact canon_ite (Dev.throttleTo_canon (Dev.budgetTo_canon h1)) h1

theorem Dev.thermalSample_canon {a1 a2 a3} (h1 : Canon a1) : Canon (Dev.thermalSample a1 a2 a3) := by
  unfold Dev.thermalSample
  extract_lets +onlyGivenNames -merge -useContext e0
  have he0 : Canon e0 := Dev.wr_canon (Dev.wr_canon h1)
  clear_value e0
  extract_lets +onlyGivenNames -merge -useContext e1
  have he1 : Canon e1 := canon_ite (Dev.wr_canon he0) he0
  clear_value e1
  exact canon_ite (Dev.thermTo_canon he1) he1

theorem Dev.thermalThrottleLift_canon {a1} (h1 : Canon a1) : Canon (Dev.thermalThrottleLift a1) := by
  unfold Dev.thermalThrottleLift
  exact canon_ite (Dev.thermTo_canon h1) h1

theorem Dev.modeWrite_canon {a1 a2} (h1 : Canon a1) : Canon (Dev.modeWrite a1 a2) := by
  unfold Dev.modeWrite
  extract_lets +onlyGivenNames -merge -useContext y0 e1
  have he1 : Canon e1 := Dev.wr_canon (Dev.wr_canon h1)
  clear_value e1
  exact Dev.trouble_canon (Dev.raise_canon (Dev.flag_canon he1))

theorem Dev.stormEnd_canon {a1} (h1 : Canon a1) : Canon (Dev.stormEnd a1) := by
  unfold Dev.stormEnd
  extract_lets +onlyGivenNames -merge -useContext e0
  have he0 : Canon e0 := canon_ite (Dev.raise_canon (Dev.clrF_canon h1)) h1
  clear_value e0
  extract_lets +onlyGivenNames -merge -useContext e1
  have he1 : Canon e1 := Dev.applyLostHeld_canon (Dev.clrF_canon he0)
  clear_value e1
  exact canon_ite (canon_upd he1) he1

theorem Dev.modeEnter_canon {a1 a2} (h1 : Canon a1) : Canon (Dev.modeEnter a1 a2) := by
  unfold Dev.modeEnter
  extract_lets +onlyGivenNames -merge -useContext y0 y1 y2 e3
  have he3 : Canon e3 := Dev.modeWrite_canon (Dev.budgetTo_canon h1)
  clear_value e3
  extract_lets +onlyGivenNames -merge -useContext e4
  have he4 : Canon e4 := canon_ite (Dev.stormEnd_canon he3) he3
  clear_value e4
  extract_lets +onlyGivenNames -merge -useContext e5
  have he5 : Canon e5 := canon_ite (Dev.raise_canon (Dev.setF_canon he4)) he4
  clear_value e5
  extract_lets +onlyGivenNames -merge -useContext e6
  have he6 : Canon e6 := Dev.throttleShow_canon he5
  clear_value e6
  extract_lets +onlyGivenNames -merge -useContext e7
  have he7 : Canon e7 := Dev.mzkMode_canon (Dev.plkMode_canon he6)
  clear_value e7
  extract_lets +onlyGivenNames -merge -useContext e8
  have he8 : Canon e8 := Dev.epochNew_canon he7
  clear_value e8
  extract_lets +onlyGivenNames -merge -useContext e9
  have he9 : Canon e9 := canon_ite (Dev.campsResume_canon he8) he8
  clear_value e9
  extract_lets +onlyGivenNames -merge -useContext e10
  have he10 : Canon e10 := canon_ite (Dev.ethFlow_canon he9) he7
  clear_value e10
  exact Dev.wlzRunCheck_canon (Dev.reelRunningCheck_canon (Dev.bolShow_canon he10))

theorem Dev.modeSettle_canon {a1} (h1 : Canon a1) : Canon (Dev.modeSettle a1) := by
  unfold Dev.modeSettle
  exact canon_ite (Dev.modeEnter_canon h1) h1

theorem Dev.modeChange_canon {a1} (h1 : Canon a1) : Canon (Dev.modeChange a1) := by
  unfold Dev.modeChange
  exact Dev.modeSettle_canon h1

theorem Dev.islandedCondSet_canon {a1} (h1 : Canon a1) : Canon (Dev.islandedCondSet a1) := by
  unfold Dev.islandedCondSet
  exact canon_ite (Dev.setF_canon h1) h1

theorem Dev.islandedCondClear_canon {a1} (h1 : Canon a1) : Canon (Dev.islandedCondClear a1) := by
  unfold Dev.islandedCondClear
  exact canon_ite (Dev.clrF_canon h1) h1

theorem Dev.coreWarnSet_canon {a1 a2} (h1 : Canon a1) : Canon (Dev.coreWarnSet a1 a2) := by
  unfold Dev.coreWarnSet
  extract_lets +onlyGivenNames -merge -useContext e0
  have he0 : Canon e0 := Dev.wr_canon h1
  clear_value e0
  refine canon_ite ?_ ?_
  · exact he0
  · extract_lets +onlyGivenNames -merge -useContext e1
    have he1 : Canon e1 := Dev.bump_canon (Dev.setF_canon (Dev.setF_canon he0))
    clear_value e1
    exact Dev.gavFlushAll_canon (Dev.trouble_canon (Dev.raise_canon he1))

theorem Dev.coreWarnClear_canon {a1 a2} (h1 : Canon a1) : Canon (Dev.coreWarnClear a1 a2) := by
  unfold Dev.coreWarnClear
  extract_lets +onlyGivenNames -merge -useContext e0
  have he0 : Canon e0 := Dev.wr_canon h1
  clear_value e0
  exact canon_ite (Dev.trouble_canon (Dev.raise_canon (Dev.clrF_canon he0))) he0

theorem Dev.pwrWarnFall_canon {a1} (h1 : Canon a1) : Canon (Dev.pwrWarnFall a1) := by
  unfold Dev.pwrWarnFall
  refine canon_ite ?_ ?_
  · exact h1
  · extract_lets +onlyGivenNames -merge -useContext e0
    have he0 : Canon e0 := Dev.raise_canon (Dev.setF_canon (Dev.setF_canon h1))
    clear_value e0
    exact Dev.gavFlushAll_canon (Dev.trouble_canon he0)

theorem Dev.pwrWarnRise_canon {a1} (h1 : Canon a1) : Canon (Dev.pwrWarnRise a1) := by
  unfold Dev.pwrWarnRise
  exact canon_ite (Dev.trouble_canon (Dev.raise_canon (Dev.clrF_canon h1))) h1

theorem Dev.vaonRestore_canon {a1} (h1 : Canon a1) : Canon (Dev.vaonRestore a1) := by
  unfold Dev.vaonRestore
  exact canon_upd h1

theorem Dev.vbatRestore_canon {a1} (h1 : Canon a1) : Canon (Dev.vbatRestore a1) := by
  unfold Dev.vbatRestore
  exact canon_upd h1

theorem Dev.wdtEnable_canon {a1 a2} (h1 : Canon a1) : Canon (Dev.wdtEnable a1 a2) := by
  unfold Dev.wdtEnable
  extract_lets +onlyGivenNames -merge -useContext y0 e1
  have he1 : Canon e1 := Dev.regWrite32_canon h1
  clear_value e1
  refine canon_ite ?_ ?_
  · extract_lets +onlyGivenNames -merge -useContext e2
    have he2 : Canon e2 := Dev.commitRwl_canon he1
    clear_value e2
    exact canon_upd he2
  · exact he1

theorem Dev.wdtKick_canon {a1 a2} (h1 : Canon a1) : Canon (Dev.wdtKick a1 a2) := by
  unfold Dev.wdtKick
  exact canon_ite (canon_upd h1) h1

theorem Dev.wdtPrewarn_canon {a1} (h1 : Canon a1) : Canon (Dev.wdtPrewarn a1) := by
  unfold Dev.wdtPrewarn
  exact canon_ite (Dev.raise_canon (Dev.setF_canon (canon_upd h1))) h1

theorem Dev.rmapShow_canon {a1} (h1 : Canon a1) : Canon (Dev.rmapShow a1) := by
  unfold Dev.rmapShow
  extract_lets +onlyGivenNames -merge -useContext y0
  exact Dev.wr_canon (Dev.flag_canon h1)

theorem Dev.rowRetire_canon {a1 a2 a3} (h1 : Canon a1) : Canon (Dev.rowRetire a1 a2 a3) := by
  unfold Dev.rowRetire
  extract_lets +onlyGivenNames -merge -useContext y0 e1
  have he1 : Canon e1 := canon_upd h1
  extract_lets +onlyGivenNames -merge -useContext y2 y3 e4
  have he4 : Canon e4 := canon_ite (Dev.trouble_canon (Dev.raise_canon (canon_upd he1))) (Dev.trouble_canon (Dev.raise_canon (Dev.bump_canon he1)))
  exact Dev.rmapShow_canon (Dev.retireLog_canon he4)

theorem Dev.dramEccCorrected_canon {a1 a2} (h1 : Canon a1) : Canon (Dev.dramEccCorrected a1 a2) := by
  unfold Dev.dramEccCorrected
  extract_lets +onlyGivenNames -merge -useContext e0
  have he0 : Canon e0 := Dev.wr_canon (Dev.bump_canon h1)
  clear_value e0
  extract_lets +onlyGivenNames -merge -useContext e1
  have he1 : Canon e1 := Dev.trouble_canon (Dev.raise_canon he0)
  clear_value e1
  extract_lets +onlyGivenNames -merge -useContext y2 y3 y4 e5
  have he5 : Canon e5 := canon_upd he1
  clear_value e5
  extract_lets +onlyGivenNames -merge -useContext y6
  exact canon_ite (Dev.rowRetire_canon he5) he5

theorem Dev.dramEccUncorrectable_canon {a1 a2 a3} (h1 : Canon a1) : Canon (Dev.dramEccUncorrectable a1 a2 a3) := by
  unfold Dev.dramEccUncorrectable
  extract_lets +onlyGivenNames -merge -useContext e0
  have he0 : Canon e0 := Dev.wr_canon (Dev.bump_canon h1)
  clear_value e0
  extract_lets +onlyGivenNames -merge -useContext e1
  have he1 : Canon e1 := Dev.trouble_canon (Dev.raise_canon he0)
  clear_value e1
  extract_lets +onlyGivenNames -merge -useContext y2 y3
  exact Dev.rowRetire_canon (canon_upd he1)

theorem Dev.coreRetire_canon {a1 a2 a3} (h1 : Canon a1) : Canon (Dev.coreRetire a1 a2 a3) := by
  unfold Dev.coreRetire
  refine canon_ite ?_ ?_
  · exact h1
  · extract_lets +onlyGivenNames -merge -useContext e0
    have he0 : Canon e0 := Dev.wrBit_canon h1
    clear_value e0
    extract_lets +onlyGivenNames -merge -useContext e1
    have he1 : Canon e1 := Dev.withdraw_canon he0
    clear_value e1
    extract_lets +onlyGivenNames -merge -useContext y2 e3
    have he3 : Canon e3 := by
      unfold e3
      refine canon_foldl ?_ ?_
      · exact he1
      · intro x4 x5 hx6
        exact Dev.icuDone_canon hx6
    clear_value e3
    extract_lets +onlyGivenNames -merge -useContext y7 e8
    have he8 : Canon e8 := canon_upd he3
    clear_value e8
    extract_lets +onlyGivenNames -merge -useContext e9
    have he9 : Canon e9 := Dev.retireLog_canon (Dev.raise_canon he8)
    clear_value e9
    exact canon_ite (canon_upd he9) he9

theorem Dev.coreEccError_canon {a1 a2 a3} (h1 : Canon a1) : Canon (Dev.coreEccError a1 a2 a3) := by
  unfold Dev.coreEccError
  refine canon_ite ?_ ?_
  · exact h1
  · refine canon_ite ?_ ?_
    · exact Dev.coreRetire_canon h1
    · extract_lets +onlyGivenNames -merge -useContext y0 y1 y2 e3
      have he3 : Canon e3 := canon_upd h1
      clear_value e3
      extract_lets +onlyGivenNames -merge -useContext e4
      have he4 : Canon e4 := Dev.trouble_canon (Dev.raise_canon (Dev.bump_canon he3))
      clear_value e4
      extract_lets +onlyGivenNames -merge -useContext y5
      exact canon_ite (Dev.coreRetire_canon he4) he4

theorem Dev.coreProbeTimeout_canon {a1 a2} (h1 : Canon a1) : Canon (Dev.coreProbeTimeout a1 a2) := by
  unfold Dev.coreProbeTimeout
  exact Dev.coreRetire_canon h1

theorem Dev.resRetire_canon {a1 a2 a3} (h1 : Canon a1) : Canon (Dev.resRetire a1 a2 a3) := by
  unfold Dev.resRetire
  refine canon_ite ?_ ?_
  · exact h1
  · split
    · exact Dev.laneRetire_canon (Dev.raise_canon h1)
    · exact Dev.plcPermanentFault_canon h1
    · exact Dev.mzkPermanentFault_canon h1
    · exact Dev.ethPermanentFault_canon h1
    · exact Dev.dieRetire_canon h1
    · exact Dev.rowRetire_canon h1
    · exact Dev.coreRetire_canon h1
    · exact Dev.partnerRetire_canon h1

theorem Dev.resRestore_canon {a1 a2 a3} (h1 : Canon a1) : Canon (Dev.resRestore a1 a2 a3) := by
  unfold Dev.resRestore
  extract_lets +onlyGivenNames -merge -useContext y0 e1
  have he1 : Canon e1 := canon_upd h1
  clear_value e1
  split
  · extract_lets +onlyGivenNames -merge -useContext y2 e3
    have he3 : Canon e3 := Dev.clrF_canon (Dev.wrBit_canon he1)
    clear_value e3
    extract_lets +onlyGivenNames -merge -useContext e4
    have he4 : Canon e4 := Dev.wr_canon (Dev.wr_canon he3)
    clear_value e4
    extract_lets +onlyGivenNames -merge -useContext y5 e6
    have he6 : Canon e6 := Dev.setLane_canon he4
    clear_value e6
    exact Dev.resteer_canon (canon_upd he6)
  · extract_lets +onlyGivenNames -merge -useContext e7
    have he7 : Canon e7 := Dev.wr_canon (Dev.clrF_canon he1)
    clear_value e7
    extract_lets +onlyGivenNames -merge -useContext e8
    have he8 : Canon e8 := Dev.modPlc_canon he7
    clear_value e8
    exact canon_ite (Dev.plcListen_canon he8) he8
  · extract_lets +onlyGivenNames -merge -useContext e9
    have he9 : Canon e9 := Dev.wr_canon (Dev.clrF_canon he1)
    clear_value e9
    exact Dev.mzkSyncCh_canon (Dev.modRad_canon he9)
  · extract_lets +onlyGivenNames -merge -useContext e10
    have he10 : Canon e10 := Dev.wr_canon (Dev.clrF_canon he1)
    clear_value e10
    extract_lets +onlyGivenNames -merge -useContext e11
    have he11 : Canon e11 := Dev.modEthP_canon he10
    clear_value e11
    exact Dev.presence_canon (Dev.flag_canon he11)
  · exact Dev.setDieRet_canon (canon_upd he1)
  · extract_lets +onlyGivenNames -merge -useContext y12 e13
    have he13 : Canon e13 := canon_upd he1
    clear_value e13
    exact Dev.wrBit_canon he13
  · exact Dev.partnerRestore_canon he1

theorem Dev.resCmd_canon {a1 a2 a3 a4} (h1 : Canon a1) (h4 : ∀ w0 w1 w2, Canon w0 → Canon (a4 w0 w1 w2)) : Canon (Dev.resCmd a1 a2 a3 a4) := by
  unfold Dev.resCmd
  refine Dev.withFields_canon ?_ ?_
  · exact h1
  · intro x0 hx1
    extract_lets +onlyGivenNames -merge -useContext y2 y3
    refine canon_ite ?_ ?_
    · exact Dev.fail_canon hx1
    · refine canon_ite ?_ ?_
      · exact Dev.fail_canon hx1
      · refine h4 _ _ _ ?_
        · exact hx1

theorem Dev.pmuResourceRetire_canon {a1 a2} (h1 : Canon a1) : Canon (Dev.pmuResourceRetire a1 a2) := by
  unfold Dev.pmuResourceRetire
  refine Dev.resCmd_canon ?_ ?_
  · exact h1
  · intro x0 x1 x2 hx3
    extract_lets +onlyGivenNames -merge -useContext y4
    refine canon_ite ?_ ?_
    · exact Dev.fail_canon hx3
    · extract_lets +onlyGivenNames -merge -useContext e5
      have he5 : Canon e5 := Dev.resRetire_canon hx3
      clear_value e5
      exact Dev.okRes_canon he5

theorem Dev.pmuResourceRestore_canon {a1 a2 a3} (h1 : Canon a1) : Canon (Dev.pmuResourceRestore a1 a2 a3) := by
  unfold Dev.pmuResourceRestore
  refine Dev.resCmd_canon ?_ ?_
  · exact h1
  · intro x0 x1 x2 hx3
    refine canon_ite ?_ ?_
    · exact Dev.fail_canon hx3
    · refine canon_ite ?_ ?_
      · exact Dev.okRes_canon hx3
      · refine canon_ite ?_ ?_
        · exact Dev.fail_canon hx3
        · extract_lets +onlyGivenNames -merge -useContext e4
          have he4 : Canon e4 := Dev.resRestore_canon hx3
          clear_value e4
          exact Dev.okRes_canon he4

theorem Dev.pmuResourceQuery_canon {a1 a2} (h1 : Canon a1) : Canon (Dev.pmuResourceQuery a1 a2) := by
  unfold Dev.pmuResourceQuery
  refine Dev.resCmd_canon ?_ ?_
  · exact h1
  · intro x0 x1 x2 hx3
    exact Dev.okRes_canon hx3

theorem Dev.modeCmd_canon {a1 a2 a3 a4} (h1 : Canon a1) (h4 : ∀ w0, Canon w0 → Canon (a4 w0)) : Canon (Dev.modeCmd a1 a2 a3 a4) := by
  unfold Dev.modeCmd
  refine Dev.withFields_canon ?_ ?_
  · exact h1
  · intro x0 hx1
    refine canon_ite ?_ ?_
    · exact Dev.fail_canon hx1
    · refine h4 _ ?_
      · exact hx1

theorem Dev.modeAfter_canon {a1 a2} (h1 : Canon a1) : Canon (Dev.modeAfter a1 a2) := by
  unfold Dev.modeAfter
  extract_lets +onlyGivenNames -merge -useContext e0
  have he0 : Canon e0 := Dev.modeSettle_canon h1
  clear_value e0
  exact Dev.okRes_canon he0

theorem Dev.pmuModeSetRun_canon {a1 a2} (h1 : Canon a1) : Canon (Dev.pmuModeSetRun a1 a2) := by
  unfold Dev.pmuModeSetRun
  refine Dev.modeCmd_canon ?_ ?_
  · exact h1
  · intro x0 hx1
    exact Dev.modeAfter_canon (Dev.clrF_canon hx1)

theorem Dev.pmuModeSetCommission_canon {a1 a2} (h1 : Canon a1) : Canon (Dev.pmuModeSetCommission a1 a2) := by
  unfold Dev.pmuModeSetCommission
  refine Dev.modeCmd_canon ?_ ?_
  · exact h1
  · intro x0 hx1
    exact Dev.modeAfter_canon (Dev.setF_canon hx1)

theorem Dev.pmuStormForceSet_canon {a1 a2} (h1 : Canon a1) : Canon (Dev.pmuStormForceSet a1 a2) := by
  unfold Dev.pmuStormForceSet
  refine Dev.modeCmd_canon ?_ ?_
  · exact h1
  · intro x0 hx1
    exact Dev.modeAfter_canon (Dev.setF_canon hx1)

theorem Dev.pmuStormForceClear_canon {a1 a2} (h1 : Canon a1) : Canon (Dev.pmuStormForceClear a1 a2) := by
  unfold Dev.pmuStormForceClear
  refine Dev.modeCmd_canon ?_ ?_
  · exact h1
  · intro x0 hx1
    exact Dev.modeAfter_canon (Dev.clrF_canon hx1)

theorem Dev.pmuResetSoft_canon {a1 a2} (h1 : Canon a1) : Canon (Dev.pmuResetSoft a1 a2) := by
  unfold Dev.pmuResetSoft
  refine Dev.withFields_canon ?_ ?_
  · exact h1
  · intro x0 hx1
    exact canon_ite (Dev.fail_canon hx1) (Dev.okRes_canon (canon_upd hx1))

theorem Dev.pmuResetDomain_canon {a1 a2} (h1 : Canon a1) : Canon (Dev.pmuResetDomain a1 a2) := by
  unfold Dev.pmuResetDomain
  refine Dev.withFields_canon ?_ ?_
  · exact h1
  · intro x0 hx1
    extract_lets +onlyGivenNames -merge -useContext y2
    exact canon_ite (Dev.fail_canon hx1) (canon_ite (Dev.fail_canon hx1) (Dev.wrBit_canon (canon_upd hx1)))

theorem Dev.domSwitch_canon {a1 a2 a3} (h1 : Canon a1) : Canon (Dev.domSwitch a1 a2 a3) := by
  unfold Dev.domSwitch
  refine canon_ite ?_ ?_
  · exact h1
  · extract_lets +onlyGivenNames -merge -useContext e0
    have he0 : Canon e0 := Dev.wrBit_canon h1
    clear_value e0
    split
    · refine canon_ite ?_ ?_
      · exact he0
      · extract_lets +onlyGivenNames -merge -useContext e1
        have he1 : Canon e1 := Dev.eplDown_canon he0
        clear_value e1
        exact canon_upd he1
    · exact canon_ite he0 (Dev.wlzRunCheck_canon he0)
    · exact Dev.presence_canon he0
    · exact he0

theorem Dev.offMaskApply_canon {a1} (h1 : Canon a1) : Canon (Dev.offMaskApply a1) := by
  unfold Dev.offMaskApply
  extract_lets +onlyGivenNames -merge -useContext y0
  refine canon_foldl ?_ ?_
  · exact h1
  · intro x1 x2 hx3
    split
    · exact Dev.domSwitch_canon hx3
    · exact hx3

theorem Dev.pmuOffMaskWrite_canon {a1 a2} (h1 : Canon a1) : Canon (Dev.pmuOffMaskWrite a1 a2) := by
  unfold Dev.pmuOffMaskWrite
  extract_lets +onlyGivenNames -merge -useContext e0
  have he0 : Canon e0 := Dev.regWrite32_canon h1
  clear_value e0
  exact canon_ite (Dev.offMaskApply_canon he0) he0

end Sys2Proof.Machine
end

