-- ==== Sys2Proof/Laws/CanonReset.lean ====
section
/-! SUPPORT. Every operation of Machine/Reset.lean that answers a device keeps the stored data in canonical form. -/

namespace Sys2Proof.Machine

theorem Dev.winReset_canon {a1 a2 a3} (h1 : Canon a1) : Canon (Dev.winReset a1 a2 a3) := by
  unfold Dev.winReset
  exact Dev.resetWindow_canon h1

theorem Dev.fifosGone_canon {a1 a2 a3} (h1 : Canon a1) : Canon (Dev.fifosGone a1 a2 a3) :=
  canon_fifos h1 (mwf_filter _ _ ((Canon.iff a1).1 h1).2.2)

theorem Dev.levelsShow_canon {a1} (h1 : Canon a1) : Canon (Dev.levelsShow a1) := by
  unfold Dev.levelsShow
  refine canon_foldN ?_ ?_
  · exact h1
  · intro x0 x1 hx2
    exact canon_ite (Dev.syncInput_canon hx2) hx2

theorem Dev.hallGone_canon {a1} (h1 : Canon a1) : Canon (Dev.hallGone a1) := by
  unfold Dev.hallGone
  exact Dev.memGone_canon h1

theorem Dev.commitsFinish_canon {a1} (h1 : Canon a1) : Canon (Dev.commitsFinish a1) := by
  unfold Dev.commitsFinish
  refine canon_foldN ?_ ?_
  · exact h1
  · intro x0 x1 hx2
    refine canon_foldN ?_ ?_
    · exact hx2
    · intro x3 x4 hx5
      exact Dev.commitPacket_canon hx5

theorem Dev.bolEnd_canon {a1} (h1 : Canon a1) : Canon (Dev.bolEnd a1) := by
  unfold Dev.bolEnd
  refine Dev.cmdsSet_canon ?_
  · refine canon_foldl ?_ ?_
    · exact h1
    · intro x0 x1 hx2
      extract_lets +onlyGivenNames -merge -useContext y3 e4
      have he4 : Canon e4 := Dev.bolWr_canon hx2
      clear_value e4
      split
      · exact Dev.mSet_canon he4
      · exact he4

theorem Dev.lastClosed_canon {a1 a2} (h1 : Canon a1) : Canon (Dev.lastClosed a1 a2) := by
  unfold Dev.lastClosed
  exact canon_ite (Dev.wr_canon h1) h1

theorem Dev.valReload_canon {a1} (h1 : Canon a1) : Canon (Dev.valReload a1) := by
  unfold Dev.valReload
  split
  · exact Dev.setF_canon (canon_upd h1)
  · exact canon_upd h1

theorem Dev.journalUnit_canon {a1} (h1 : Canon a1) : Canon (Dev.journalUnit a1) := by
  unfold Dev.journalUnit
  exact Dev.wr_canon h1

theorem Dev.journalFab_canon {a1} (h1 : Canon a1) : Canon (Dev.journalFab a1) := by
  unfold Dev.journalFab
  extract_lets +onlyGivenNames -merge -useContext e0
  have he0 : Canon e0 := by
    unfold e0
    refine canon_getD_map ?_ ?_
    · intro x1
      exact Dev.epochLoad_canon h1
    · exact h1
  clear_value e0
  refine canon_getD_map ?_ ?_
  · intro x2
    exact Dev.wr_canon he0
  · exact he0

theorem Dev.mainReset_canon {a1 a2 a3} (h1 : Canon a1) : Canon (Dev.mainReset a1 a2 a3) := by
  unfold Dev.mainReset
  extract_lets +onlyGivenNames -merge -useContext e0
  have he0 : Canon e0 := canon_ite (Dev.msrClean_canon (Dev.bolEnd_canon (Dev.commitsFinish_canon h1))) h1
  clear_value e0
  extract_lets +onlyGivenNames -merge -useContext e1
  have he1 : Canon e1 := Dev.pavCut_canon (Dev.updSessionEnd_canon he0)
  clear_value e1
  extract_lets +onlyGivenNames -merge -useContext y2 y3 y4 y5 y6 y7 e8
  have he8 : Canon e8 := by
    unfold e8
    refine canon_upd (canon_fifos (m := []) ?_ rfl)
    exact he1
  clear_value e8
  extract_lets +onlyGivenNames -merge -useContext e9
  have he9 : Canon e9 := Dev.logRingSync_canon (Dev.xdiReset_canon he8)
  clear_value e9
  extract_lets +onlyGivenNames -merge -useContext e10
  have he10 : Canon e10 := canon_upd he9
  clear_value e10
  extract_lets +onlyGivenNames -merge -useContext e11
  have he11 : Canon e11 := by
    unfold e11
    refine canon_foldl ?_ ?_
    · exact he10
    · intro x12 x13 hx14
      exact Dev.winReset_canon hx14
  clear_value e11
  extract_lets +onlyGivenNames -merge -useContext e15
  have he15 : Canon e15 := canon_ite (Dev.flag_canon (Dev.lastClosed_canon he11)) he11
  clear_value e15
  extract_lets +onlyGivenNames -merge -useContext e16
  have he16 : Canon e16 := Dev.journalUnit_canon (Dev.hallGone_canon he15)
  clear_value e16
  extract_lets +onlyGivenNames -merge -useContext e17
  have he17 : Canon e17 := canon_ite (Dev.setF_canon he16) (Dev.memGone_canon he16)
  clear_value e17
  extract_lets +onlyGivenNames -merge -useContext e18
  have he18 : Canon e18 := canon_ite (Dev.wr_canon he17) he17
  clear_value e18
  exact canon_ite he18 (Dev.tsuStart_canon he18)

theorem Dev.aonRegs_canon {a1 a2} (h1 : Canon a1) : Canon (Dev.aonRegs a1 a2) := by
  unfold Dev.aonRegs
  extract_lets +onlyGivenNames -merge -useContext y0 y1 e2
  have he2 : Canon e2 := Dev.budgetSettle_canon h1
  clear_value e2
  extract_lets +onlyGivenNames -merge -useContext e3
  have he3 : Canon e3 := Dev.winReset_canon (Dev.winReset_canon he2)
  clear_value e3
  exact Dev.flag_canon (Dev.flag_canon he3)

theorem Dev.startCause_canon {a1 a2 a3 a4} (h1 : Canon a1) : Canon (Dev.startCause a1 a2 a3 a4) := by
  unfold Dev.startCause
  exact Dev.incr_canon (Dev.wr_canon (Dev.wr_canon (Dev.wr_canon h1)))

theorem Dev.aonpor_canon {a1} (h1 : Canon a1) : Canon (Dev.aonpor a1) := by
  unfold Dev.aonpor
  extract_lets +onlyGivenNames -merge -useContext e0
  have he0 : Canon e0 := Dev.mainReset_canon (Dev.aonRegs_canon h1)
  clear_value e0
  extract_lets +onlyGivenNames -merge -useContext e1
  have he1 : Canon e1 := Dev.memGone_canon he0
  clear_value e1
  extract_lets +onlyGivenNames -merge -useContext y2 y3 e4
  have he4 : Canon e4 := canon_upd he1
  clear_value e4
  extract_lets +onlyGivenNames -merge -useContext e5
  have he5 : Canon e5 := Dev.wr_canon (Dev.wr_canon he4)
  clear_value e5
  exact Dev.tsuStart_canon (Dev.wr_canon (Dev.wr_canon he5))

theorem Dev.coldReset_canon {a1 a2 a3} (h1 : Canon a1) : Canon (Dev.coldReset a1 a2 a3) := by
  unfold Dev.coldReset
  exact Dev.startCause_canon (Dev.aonRegs_canon (Dev.mainReset_canon h1))

theorem Dev.strapSample_canon {a1 a2} (h1 : Canon a1) : Canon (Dev.strapSample a1 a2) := by
  unfold Dev.strapSample
  exact canon_upd h1

theorem Dev.mainpor_canon {a1 a2} (h1 : Canon a1) : Canon (Dev.mainpor a1 a2) := by
  unfold Dev.mainpor
  exact Dev.strapSample_canon (Dev.clrF_canon (Dev.coldReset_canon h1))

theorem Dev.coreUndervoltReset_canon {a1 a2} (h1 : Canon a1) : Canon (Dev.coreUndervoltReset a1 a2) := by
  unfold Dev.coreUndervoltReset
  exact Dev.strapSample_canon (Dev.setF_canon (Dev.coldReset_canon h1))

theorem Dev.pinrst_canon {a1 a2} (h1 : Canon a1) : Canon (Dev.pinrst a1 a2) := by
  unfold Dev.pinrst
  exact Dev.strapSample_canon (Dev.coldReset_canon h1)

theorem Dev.softReset_canon {a1 a2} (h1 : Canon a1) : Canon (Dev.softReset a1 a2) := by
  unfold Dev.softReset
  exact Dev.startCause_canon (Dev.aonRegs_canon (Dev.mainReset_canon h1))

theorem Dev.softrst_canon {a1} (h1 : Canon a1) : Canon (Dev.softrst a1) := by
  unfold Dev.softrst
  exact Dev.softReset_canon h1

theorem Dev.wdtrst_canon {a1} (h1 : Canon a1) : Canon (Dev.wdtrst a1) := by
  unfold Dev.wdtrst
  exact canon_ite (Dev.startCause_canon (Dev.aonRegs_canon (Dev.mainReset_canon h1))) h1

theorem Dev.vaonLoss_canon {a1} (h1 : Canon a1) : Canon (Dev.vaonLoss a1) := by
  unfold Dev.vaonLoss
  extract_lets +onlyGivenNames -merge -useContext y0 e1
  have he1 : Canon e1 := canon_upd h1
  clear_value e1
  exact canon_ite he1 (Dev.aonpor_canon he1)

theorem Dev.vbatLoss_canon {a1} (h1 : Canon a1) : Canon (Dev.vbatLoss a1) := by
  unfold Dev.vbatLoss
  extract_lets +onlyGivenNames -merge -useContext y0 e1
  have he1 : Canon e1 := canon_upd h1
  clear_value e1
  exact canon_ite he1 (Dev.aonpor_canon he1)

theorem Dev.dormantEnter_canon {a1 a2} (h1 : Canon a1) : Canon (Dev.dormantEnter a1 a2) := by
  unfold Dev.dormantEnter
  extract_lets +onlyGivenNames -merge -useContext e0
  have he0 : Canon e0 := Dev.gavCleanStop_canon (Dev.commitsFinish_canon h1)
  clear_value e0
  extract_lets +onlyGivenNames -merge -useContext e1
  have he1 : Canon e1 := Dev.budgetSettle_canon (Dev.msrClean_canon he0)
  clear_value e1
  extract_lets +onlyGivenNames -merge -useContext y2 e3
  have he3 : Canon e3 := Dev.modeWrite_canon he1
  clear_value e3
  extract_lets +onlyGivenNames -merge -useContext e4
  have he4 : Canon e4 := Dev.mainReset_canon he3
  clear_value e4
  extract_lets +onlyGivenNames -merge -useContext e5
  have he5 : Canon e5 := Dev.flag_canon (Dev.flag_canon he4)
  clear_value e5
  extract_lets +onlyGivenNames -merge -useContext e6
  have he6 : Canon e6 := Dev.clrF_canon (Dev.clrF_canon he5)
  clear_value e6
  exact Dev.wr_canon he6

theorem Dev.pmuModeSetDormant_canon {a1 a2} (h1 : Canon a1) : Canon (Dev.pmuModeSetDormant a1 a2) := by
  unfold Dev.pmuModeSetDormant
  refine Dev.modeCmd_canon ?_ ?_
  · exact h1
  · intro x0 hx1
    split
    · extract_lets +onlyGivenNames -merge -useContext e2
      have he2 : Canon e2 := Dev.okRes_canon hx1
      clear_value e2
      extract_lets +onlyGivenNames -merge -useContext e3
      have he3 : Canon e3 := by
        unfold e3
        split
        · refine canon_foldN ?_ ?_
          · exact he2
          · intro x4 x5 hx6
            exact Dev.completionPost_canon hx6
        · exact he2
      clear_value e3
      exact Dev.dormantEnter_canon he3
    · extract_lets +onlyGivenNames -merge -useContext e7
      have he7 : Canon e7 := Dev.okRes_canon hx1
      clear_value e7
      extract_lets +onlyGivenNames -merge -useContext e8
      have he8 : Canon e8 := by
        unfold e8
        split
        · refine canon_foldN ?_ ?_
          · exact he7
          · intro x9 x10 hx11
            exact Dev.completionPost_canon hx11
        · exact he7
      clear_value e8
      exact Dev.dormantEnter_canon he8
    · extract_lets +onlyGivenNames -merge -useContext e12
      have he12 : Canon e12 := Dev.okRes_canon hx1
      clear_value e12
      extract_lets +onlyGivenNames -merge -useContext e13
      have he13 : Canon e13 := by
        unfold e13
        split
        · refine canon_foldN ?_ ?_
          · exact he12
          · intro x14 x15 hx16
            exact Dev.completionPost_canon hx16
        · exact he12
      clear_value e13
      exact Dev.dormantEnter_canon he13
    · extract_lets +onlyGivenNames -merge -useContext e17
      have he17 : Canon e17 := Dev.okRes_canon hx1
      clear_value e17
      extract_lets +onlyGivenNames -merge -useContext e18
      have he18 : Canon e18 := by
        unfold e18
        split
        · refine canon_foldN ?_ ?_
          · exact he17
          · intro x19 x20 hx21
            exact Dev.completionPost_canon hx21
        · exact he17
      clear_value e18
      exact Dev.dormantEnter_canon he18
    · extract_lets +onlyGivenNames -merge -useContext e22
      have he22 : Canon e22 := Dev.okRes_canon hx1
      clear_value e22
      extract_lets +onlyGivenNames -merge -useContext e23
      have he23 : Canon e23 := by
        unfold e23
        split
        · refine canon_foldN ?_ ?_
          · exact he22
          · intro x24 x25 hx26
            exact Dev.completionPost_canon hx26
        · exact he22
      clear_value e23
      exact Dev.dormantEnter_canon he23
    · exact Dev.fail_canon hx1
    · exact Dev.fail_canon hx1
    · exact Dev.fail_canon hx1

theorem Dev.thermalStop_canon {a1} (h1 : Canon a1) : Canon (Dev.thermalStop a1) := by
  unfold Dev.thermalStop
  exact canon_ite h1 (Dev.dormantEnter_canon (Dev.trouble_canon h1))

theorem Dev.wake_canon {a1 a2} (h1 : Canon a1) : Canon (Dev.wake a1 a2) := by
  unfold Dev.wake
  exact canon_ite h1 (Dev.startCause_canon (Dev.tsuStart_canon (Dev.aonRegs_canon h1)))

theorem Dev.thermalRestart_canon {a1} (h1 : Canon a1) : Canon (Dev.thermalRestart a1) := by
  unfold Dev.thermalRestart
  exact Dev.wake_canon h1

theorem Dev.rtcAlarmWake_canon {a1} (h1 : Canon a1) : Canon (Dev.rtcAlarmWake a1) := by
  unfold Dev.rtcAlarmWake
  exact canon_ite (Dev.wake_canon h1) h1

theorem Dev.perstWake_canon {a1} (h1 : Canon a1) : Canon (Dev.perstWake a1) := by
  unfold Dev.perstWake
  extract_lets +onlyGivenNames -merge -useContext y0 e1
  have he1 : Canon e1 := canon_ite (canon_upd h1) h1
  clear_value e1
  exact canon_ite (Dev.wake_canon he1) he1

theorem Dev.ethWake_canon {a1 a2 a3} (h1 : Canon a1) : Canon (Dev.ethWake a1 a2 a3) := by
  unfold Dev.ethWake
  refine canon_ite ?_ ?_
  · exact h1
  · extract_lets +onlyGivenNames -merge -useContext y0
    have hy0 : Canon1 y0 := Dev.wakeSeen_canon h1
    clear_value y0
    exact canon_ite (Dev.wake_canon (Canon1.fst hy0)) (Canon1.fst hy0)

theorem Dev.ethGone_canon {a1 a2} (h1 : Canon a1) : Canon (Dev.ethGone a1 a2) := by
  unfold Dev.ethGone
  extract_lets +onlyGivenNames -merge -useContext y0 y1 e2
  have he2 : Canon e2 := canon_upd h1
  clear_value e2
  refine canon_foldl ?_ ?_
  · exact he2
  · intro x3 x4 hx5
    exact Dev.dlReturned_canon hx5

theorem Dev.febGone_canon {a1} (h1 : Canon a1) : Canon (Dev.febGone a1) := by
  unfold Dev.febGone
  extract_lets +onlyGivenNames -merge -useContext y0 y1 e2
  have he2 : Canon e2 := canon_upd h1
  clear_value e2
  extract_lets +onlyGivenNames -merge -useContext e3
  have he3 : Canon e3 := by
    unfold e3
    refine canon_foldl ?_ ?_
    · exact he2
    · intro x4 x5 hx6
      refine canon_foldl ?_ ?_
      · exact hx6
      · intro x7 x8 hx9
        exact Dev.plcReturn_canon hx9
  clear_value e3
  refine canon_foldl ?_ ?_
  · exact he3
  · intro x10 x11 hx12
    exact Dev.radBack_canon hx12

theorem Dev.gavDown_canon {a1} (h1 : Canon a1) : Canon (Dev.gavDown a1) := by
  unfold Dev.gavDown
  extract_lets +onlyGivenNames -merge -useContext e0
  have he0 : Canon e0 := Dev.gavProgramDone_canon h1
  clear_value e0
  extract_lets +onlyGivenNames -merge -useContext y1
  exact canon_upd he0

theorem Dev.domReset_canon {a1 a2} (h1 : Canon a1) : Canon (Dev.domReset a1 a2) := by
  unfold Dev.domReset
  extract_lets +onlyGivenNames -merge -useContext y0 e1
  have he1 : Canon e1 := by
    unfold e1
    refine canon_foldl ?_ ?_
    · exact h1
    · intro x2 x3 hx4
      exact Dev.fail_canon hx4
  clear_value e1
  split
  · exact he1
  · exact he1
  · exact he1
  · extract_lets +onlyGivenNames -merge -useContext e5
    have he5 : Canon e5 := Dev.bolEnd_canon (Dev.msrClean_canon he1)
    clear_value e5
    extract_lets +onlyGivenNames -merge -useContext y6 e7
    have he7 : Canon e7 := canon_upd he5
    clear_value e7
    extract_lets +onlyGivenNames -merge -useContext e8
    have he8 : Canon e8 := by
      unfold e8
      refine canon_foldl ?_ ?_
      · exact Dev.fifosGone_canon he7
      · intro x9 x10 hx11
        exact Dev.winReset_canon hx11
    clear_value e8
    exact Dev.levelsShow_canon (Dev.journalFab_canon (Dev.hallGone_canon (Dev.resetWindow_canon he8)))
  · exact canon_upd he1
  · exact canon_upd he1
  · extract_lets +onlyGivenNames -merge -useContext e12
    have he12 : Canon e12 := Dev.commitsFinish_canon he1
    clear_value e12
    extract_lets +onlyGivenNames -merge -useContext y13 e14
    have he14 : Canon e14 := canon_upd he12
    clear_value e14
    extract_lets +onlyGivenNames -merge -useContext y15 y16 y17 y18 e19
    have he19 : Canon e19 := Dev.fifosGone_canon (Dev.fifosGone_canon he14)
    clear_value e19
    extract_lets +onlyGivenNames -merge -useContext e20
    have he20 : Canon e20 := Dev.journalUnit_canon (Dev.valReload_canon (Dev.winReset_canon (Dev.winReset_canon he19)))
    clear_value e20
    extract_lets +onlyGivenNames -merge -useContext y21
    have hy21 : ∀ w0 w1 w2 w3, Canon w0 → Canon (y21 w0 w1 w2 w3) := by
      unfold y21
      intro x22 x23 x24 x25 hx26
      exact Dev.wr_canon (Dev.wr_canon (Dev.wr_canon hx26))
    clear_value y21
    extract_lets +onlyGivenNames -merge -useContext e27
    have he27 : Canon e27 := by
      unfold e27
      refine hy21 _ _ _ _ ?_
      · refine Dev.commitRecoverNow_canon ?_
        · refine hy21 _ _ _ _ ?_
          · exact he20
    clear_value e27
    exact Dev.levelsShow_canon (canon_ite (Dev.stormReqShow_canon he27) he27)
  · extract_lets +onlyGivenNames -merge -useContext e28
    have he28 : Canon e28 := Dev.pavCut_canon he1
    clear_value e28
    extract_lets +onlyGivenNames -merge -useContext y29 e30
    have he30 : Canon e30 := canon_upd he28
    clear_value e30
    extract_lets +onlyGivenNames -merge -useContext e31
    have he31 : Canon e31 := Dev.winReset_canon (Dev.winReset_canon he30)
    clear_value e31
    exact canon_ite he31 (Dev.pavUnlock_canon he31)
  · extract_lets +onlyGivenNames -merge -useContext y32 e33
    have he33 : Canon e33 := canon_upd he1
    clear_value e33
    exact Dev.levelsShow_canon (Dev.recoverEnd_canon (Dev.lastClosed_canon (Dev.winReset_canon (Dev.fifosGone_canon he33))))
  · extract_lets +onlyGivenNames -merge -useContext y34 e35
    have he35 : Canon e35 := Dev.winReset_canon (Dev.gavDown_canon he1)
    clear_value e35
    exact canon_ite (Dev.gavBoot_canon he35) he35
  · extract_lets +onlyGivenNames -merge -useContext y36 y37 y38 e39
    have he39 : Canon e39 := canon_upd he1
    clear_value e39
    exact Dev.raise_canon (Dev.flag_canon (Dev.wr_canon (Dev.winReset_canon he39)))
  · extract_lets +onlyGivenNames -merge -useContext e40
    have he40 : Canon e40 := Dev.ethGone_canon he1
    clear_value e40
    exact Dev.levelsShow_canon (Dev.presence_canon (Dev.resetWindow_canon (Dev.fifosGone_canon he40)))
  · extract_lets +onlyGivenNames -merge -useContext e41
    have he41 : Canon e41 := Dev.ethGone_canon he1
    clear_value e41
    exact Dev.levelsShow_canon (Dev.resetWindow_canon (Dev.fifosGone_canon he41))
  · extract_lets +onlyGivenNames -merge -useContext e42
    have he42 : Canon e42 := Dev.febGone_canon he1
    clear_value e42
    exact Dev.levelsShow_canon (Dev.winReset_canon (Dev.winReset_canon (Dev.fifosGone_canon he42)))
  · extract_lets +onlyGivenNames -merge -useContext e43
    have he43 : Canon e43 := Dev.eplDown_canon he1
    clear_value e43
    extract_lets +onlyGivenNames -merge -useContext e44
    have he44 : Canon e44 := canon_upd he43
    clear_value e44
    extract_lets +onlyGivenNames -merge -useContext e45
    have he45 : Canon e45 := Dev.winReset_canon he44
    clear_value e45
    exact canon_ite (Dev.wr_canon he45) he45

theorem Dev.hostSync_canon {a1} (h1 : Canon a1) : Canon (Dev.hostSync a1) := by
  unfold Dev.hostSync
  extract_lets +onlyGivenNames -merge -useContext e0
  have he0 : Canon e0 := Dev.logRingSync_canon h1
  clear_value e0
  exact canon_ite he0 (canon_upd he0)

theorem Dev.hostReset_canon {a1 a2 a3} (h1 : Canon a1) : Canon (Dev.hostReset a1 a2 a3) := by
  unfold Dev.hostReset
  extract_lets +onlyGivenNames -merge -useContext e0
  have he0 : Canon e0 := Dev.hostSync_canon (Dev.xdiReset_canon h1)
  clear_value e0
  exact canon_ite (Dev.updSessionEnd_canon he0) he0

theorem Dev.perstAssert_canon {a1} (h1 : Canon a1) : Canon (Dev.perstAssert a1) := by
  unfold Dev.perstAssert
  extract_lets +onlyGivenNames -merge -useContext e0
  have he0 : Canon e0 := Dev.hostReset_canon h1
  clear_value e0
  exact Dev.wrBit_canon (canon_upd he0)

theorem Dev.perstDeassert_canon {a1} (h1 : Canon a1) : Canon (Dev.perstDeassert a1) := by
  unfold Dev.perstDeassert
  extract_lets +onlyGivenNames -merge -useContext y0 e1
  have he1 : Canon e1 := canon_upd h1
  clear_value e1
  exact canon_ite he1 (Dev.wrBit_canon (canon_upd he1))

theorem Dev.pcieHotReset_canon {a1} (h1 : Canon a1) : Canon (Dev.pcieHotReset a1) := by
  unfold Dev.pcieHotReset
  extract_lets +onlyGivenNames -merge -useContext e0
  have he0 : Canon e0 := Dev.hostReset_canon h1
  clear_value e0
  exact canon_upd he0

theorem Dev.pcieFlr_canon {a1} (h1 : Canon a1) : Canon (Dev.pcieFlr a1) := by
  unfold Dev.pcieFlr
  extract_lets +onlyGivenNames -merge -useContext y0 y1 e2
  have he2 : Canon e2 := Dev.hostReset_canon h1
  clear_value e2
  exact Dev.flag_canon (canon_upd he2)

end Sys2Proof.Machine
end

