-- ==== Sys2Proof/Laws/CanonPcie.lean ====
section
/-! SUPPORT. Every operation of Machine/Pcie.lean that answers a device keeps the stored data in canonical form. -/

namespace Sys2Proof.Machine

theorem Dev.pciPmcsrWrite_canon {a1 a2} (h1 : Canon a1) : Canon (Dev.pciPmcsrWrite a1 a2) := by
  unfold Dev.pciPmcsrWrite
  extract_lets +onlyGivenNames -merge -useContext y0 e1
  have he1 : Canon e1 := canon_upd h1
  clear_value e1
  extract_lets +onlyGivenNames -merge -useContext y2
  exact canon_ite (Dev.d3hotEnter_canon he1) (canon_ite (Dev.d0Return_canon he1) he1)

theorem Dev.pciCmdWrite_canon {a1 a2} (h1 : Canon a1) : Canon (Dev.pciCmdWrite a1 a2) := by
  unfold Dev.pciCmdWrite
  extract_lets +onlyGivenNames -merge -useContext y0 y1 e2
  have he2 : Canon e2 := canon_upd h1
  clear_value e2
  extract_lets +onlyGivenNames -merge -useContext y3
  exact canon_ite (Dev.busMasterEnable_canon he2) (canon_ite (Dev.busMasterDisable_canon he2) he2)

theorem Dev.cfgWrite_canon {a1 a2 a3} (h1 : Canon a1) : Canon (Dev.cfgWrite a1 a2 a3) := by
  unfold Dev.cfgWrite
  extract_lets +onlyGivenNames -merge -useContext y0 y1 y2
  have hy2 : ∀ w0, Canon (y2 w0) := by
    unfold y2
    intro x3
    exact canon_upd h1
  clear_value y2
  split
  · exact Dev.pciCmdWrite_canon h1
  · refine hy2 _
  · refine hy2 _
  · refine hy2 _
  · refine hy2 _
  · refine hy2 _
  · refine hy2 _
  · exact Dev.pciPmcsrWrite_canon h1
  · exact Dev.msixVectorUnmask_canon h1
  · refine canon_ite ?_ ?_
    · exact Dev.pcieFlr_canon h1
    · refine hy2 _
  · refine hy2 _
  · refine hy2 _
  · refine hy2 _
  · refine hy2 _
  · refine hy2 _
  · refine hy2 _
  · refine hy2 _
  · refine hy2 _
  · exact h1

theorem Dev.pciUnsupported_canon {a1} (h1 : Canon a1) : Canon (Dev.pciUnsupported a1) := by
  unfold Dev.pciUnsupported
  exact canon_upd h1

theorem Dev.cfgAccess_canon {a1 a2} (h1 : Canon a1) : Canon (Dev.cfgAccess a1 a2) := by
  unfold Dev.cfgAccess
  extract_lets +onlyGivenNames -merge -useContext y0
  exact canon_ite (Dev.emit_canon h1) (canon_ite (Dev.cfgWrite_canon h1) (Dev.emit_canon h1))

end Sys2Proof.Machine
end

