-- ==== Sys2Proof/Laws/CanonFabric.lean ====
section
/-! SUPPORT. Every operation of Machine/Fabric.lean that answers a device keeps the stored data in canonical form. -/

namespace Sys2Proof.Machine

theorem Dev.mboxWrite_canon {a1 a2 a3 a4 a5 a6} (h1 : Canon a1) : Canon (Dev.mboxWrite a1 a2 a3 a4 a5 a6) := by
  unfold Dev.mboxWrite
  extract_lets +onlyGivenNames -merge -useContext y0 e1
  have he1 : Canon e1 := Dev.regWrite32_canon h1
  clear_value e1
  refine canon_ite ?_ ?_
  · exact he1
  · refine canon_ite ?_ ?_
    · refine canon_getD_map ?_ ?_
      · intro x2
        exact Dev.setF_canon he1
      · exact he1
    · extract_lets +onlyGivenNames -merge -useContext y3
      split
      · rename_i v4 heq5
        have hv4 : Canon v4 := by
          refine canon_fst_eq heq5 ?_
          exact Dev.engRead_canon he1
        exact Dev.fail_canon hv4
      · rename_i v6 v7 heq8
        have hv6 : Canon v6 := by
          refine canon_fst_eq heq8 ?_
          exact Dev.engRead_canon he1
        extract_lets +onlyGivenNames -merge -useContext y9
        exact canon_ite hv6 (Dev.fail_canon hv6)

theorem Dev.enginesReady_canon {a1} (h1 : Canon a1) : Canon (Dev.enginesReady a1) := by
  unfold Dev.enginesReady
  exact Dev.mzkSync_canon (Dev.bolSync_canon h1)

theorem Dev.pmuDomWrite_canon {a1 a2} (h1 : Canon a1) : Canon (Dev.pmuDomWrite a1 a2) := by
  unfold Dev.pmuDomWrite
  extract_lets +onlyGivenNames -merge -useContext e0
  have he0 : Canon e0 := Dev.regWrite32_canon h1
  clear_value e0
  extract_lets +onlyGivenNames -merge -useContext y1
  exact canon_ite (Dev.setF_canon (Dev.wrBit_canon (Dev.wrBit_canon he0))) he0

theorem Dev.tsuAdjWrite_canon {a1 a2} (h1 : Canon a1) : Canon (Dev.tsuAdjWrite a1 a2) := by
  unfold Dev.tsuAdjWrite
  extract_lets +onlyGivenNames -merge -useContext e0
  have he0 : Canon e0 := Dev.wr_canon h1
  clear_value e0
  exact canon_ite (Dev.adjReg_canon he0) he0

theorem Dev.pulseWrite_canon {a1 a2 a3} (h1 : Canon a1) : Canon (Dev.pulseWrite a1 a2 a3) := by
  unfold Dev.pulseWrite
  extract_lets +onlyGivenNames -merge -useContext y0 e1
  have he1 : Canon e1 := Dev.regWrite32_canon h1
  clear_value e1
  exact canon_ite (Dev.pulseArm_canon he1) he1

theorem Dev.pavCtrlWrite_canon {a1 a2} (h1 : Canon a1) : Canon (Dev.pavCtrlWrite a1 a2) := by
  unfold Dev.pavCtrlWrite
  extract_lets +onlyGivenNames -merge -useContext e0
  have he0 : Canon e0 := canon_ite (Dev.pavLock_canon h1) h1
  clear_value e0
  extract_lets +onlyGivenNames -merge -useContext e1
  have he1 : Canon e1 := canon_ite (Dev.pavCacheFlush_canon he0) he0
  clear_value e1
  extract_lets +onlyGivenNames -merge -useContext e2
  have he2 : Canon e2 := canon_ite (Dev.setF_canon he1) he1
  clear_value e2
  exact canon_ite (Dev.pavUnlock_canon he2) he2

theorem Dev.tmpCtrlWrite_canon {a1 a2} (h1 : Canon a1) : Canon (Dev.tmpCtrlWrite a1 a2) := by
  unfold Dev.tmpCtrlWrite
  extract_lets +onlyGivenNames -merge -useContext e0
  have he0 : Canon e0 := canon_ite (Dev.tamperLogClear_canon h1) h1
  clear_value e0
  extract_lets +onlyGivenNames -merge -useContext e1
  have he1 : Canon e1 := canon_ite (Dev.tamperArm_canon he0) he0
  clear_value e1
  exact canon_ite (Dev.zeroiseNow_canon he1) he1

theorem Dev.fifoFlush_canon {a1 a2} (h1 : Canon a1) : Canon (Dev.fifoFlush a1 a2) := by
  unfold Dev.fifoFlush
  extract_lets +onlyGivenNames -merge -useContext y0
  refine Dev.setF_canon ?_
  · refine canon_upd (fifosPut_canon ?_)
    exact h1

theorem Dev.fifoRegWrite_canon {a1 a2 a3 a4} (h1 : Canon a1) : Canon (Dev.fifoRegWrite a1 a2 a3 a4) := by
  unfold Dev.fifoRegWrite
  extract_lets +onlyGivenNames -merge -useContext e0
  have he0 : Canon e0 := Dev.regWrite32_canon h1
  clear_value e0
  extract_lets +onlyGivenNames -merge -useContext e1
  have he1 : Canon e1 := canon_ite (Dev.fifoFlush_canon he0) he0
  clear_value e1
  exact Dev.syncFifo_canon he1

theorem Dev.regStore_canon {a1 a2 a3 a4} (h1 : Canon a1) : Canon (Dev.regStore a1 a2 a3 a4) := by
  unfold Dev.regStore
  split
  · exact Dev.mboxWrite_canon h1
  · split
    · exact Dev.fifoRegWrite_canon h1
    · split
      · refine canon_ite ?_ ?_
        · exact Dev.pmuOffMaskWrite_canon h1
        · refine canon_ite ?_ ?_
          · exact Dev.pmuDomWrite_canon h1
          · refine canon_ite ?_ ?_
            · extract_lets +onlyGivenNames -merge -useContext e0
              have he0 : Canon e0 := Dev.regWrite32_canon h1
              clear_value e0
              exact canon_ite (canon_upd he0) he0
            · exact canon_ite (Dev.wdtEnable_canon h1) (canon_ite (Dev.wdtKick_canon h1) (Dev.regWrite32_canon h1))
      · refine canon_ite ?_ ?_
        · exact canon_ite (Dev.icuSrcCmdSet_canon h1) (Dev.icuSrcCmdClear_canon h1)
        · refine canon_ite ?_ ?_
          · exact Dev.icuHdoneWrite_canon h1
          · refine canon_ite ?_ ?_
            · exact Dev.icuEnableWrite_canon h1
            · refine canon_ite ?_ ?_
              · exact Dev.icuMaskWrite_canon h1
              · refine canon_ite ?_ ?_
                · exact Dev.icuPendWrite_canon h1
                · refine canon_ite ?_ ?_
                  · exact Dev.icuSrcCfgWrite_canon h1
                  · split
                    · exact Dev.icuModeWrite_canon h1
                    · exact Dev.icuDone_canon h1
                    · exact Dev.regWrite32_canon h1
      · refine canon_ite ?_ ?_
        · exact Dev.xdiHostVerWrite_canon h1
        · refine canon_ite ?_ ?_
          · exact Dev.xdiExpCtrlWrite_canon h1
          · refine canon_ite ?_ ?_
            · extract_lets +onlyGivenNames -merge -useContext y1
              exact canon_ite (Dev.sqDoorbell_canon h1) (Dev.cqDoorbell_canon h1)
            · split
              · exact canon_ite (Dev.hostSync_canon (Dev.ringCfgEnable_canon h1)) (Dev.hostSync_canon (Dev.ringCfgDisable_canon h1))
              · split
                · extract_lets +onlyGivenNames -merge -useContext y2 e3
                  have he3 : Canon e3 := Dev.regWrite32_canon h1
                  clear_value e3
                  exact canon_ite (Dev.msixVectorUnmask_canon he3) he3
                · exact Dev.regWrite32_canon h1
      · exact canon_ite (Dev.wlzRunCheck_canon (Dev.enginesReady_canon (Dev.msrEnable_canon h1))) (canon_ite (canon_ite (Dev.msrCkptNow_canon (Dev.regWrite32_canon h1)) (Dev.regWrite32_canon h1)) (canon_ite (canon_ite (Dev.msrCleanAll_canon h1) h1) (canon_ite (Dev.msrRecSelWrite_canon h1) (canon_ite (canon_ite (Dev.msrRecCommit_canon h1) (Dev.regWrite32_canon h1)) (Dev.regWrite32_canon h1)))))
      · refine canon_ite ?_ ?_
        · exact Dev.reelRunningCheck_canon (Dev.reelEnable_canon h1)
        · refine canon_ite ?_ ?_
          · exact Dev.reelSteerWrite_canon h1
          · split
            · exact Dev.reelExqHeadWrite_canon h1
            · extract_lets +onlyGivenNames -merge -useContext e4
              have he4 : Canon e4 := Dev.exqRetry_canon (Dev.regWrite32_canon h1)
              clear_value e4
              exact canon_ite (Dev.laneKatNow_canon he4) he4
            · exact Dev.exqCfgWrite_canon h1
            · exact Dev.regWrite32_canon h1
      · exact canon_ite (Dev.reelRunningCheck_canon (Dev.valEnable_canon h1)) (Dev.regWrite32_canon h1)
      · refine canon_ite ?_ ?_
        · exact Dev.waltzEnable_canon h1
        · refine canon_ite ?_ ?_
          · extract_lets +onlyGivenNames -merge -useContext e5
            have he5 : Canon e5 := Dev.regWrite32_canon h1
            clear_value e5
            exact canon_ite (Dev.inferNow_canon he5) he5
          · refine canon_ite ?_ ?_
            · extract_lets +onlyGivenNames -merge -useContext e6
              have he6 : Canon e6 := Dev.regWrite32_canon h1
              clear_value e6
              exact canon_ite (Dev.scoreNow_canon he6) he6
            · exact Dev.regWrite32_canon h1
      · exact canon_ite (Dev.bolEnable_canon h1) (Dev.regWrite32_canon h1)
      · exact canon_ite (Dev.pavCtrlWrite_canon h1) (canon_ite (Dev.tmpCtrlWrite_canon h1) (canon_ite h1 (Dev.regWrite32_canon h1)))
      · split
        · extract_lets +onlyGivenNames -merge -useContext e7
          have he7 : Canon e7 := Dev.plcEnable_canon h1
          clear_value e7
          exact canon_ite (Dev.plcBeaconForce_canon he7) he7
        · exact Dev.plcAtSelWrite_canon h1
        · exact Dev.regWrite32_canon h1
      · split
        · extract_lets +onlyGivenNames -merge -useContext e8
          have he8 : Canon e8 := Dev.mzkEnable_canon h1
          clear_value e8
          exact canon_ite (Dev.mzkBeaconForce_canon he8) he8
        · exact Dev.regWrite32_canon h1
      · refine canon_ite ?_ ?_
        · exact Dev.handover_canon (Dev.regWrite32_canon h1)
        · refine canon_ite ?_ ?_
          · exact Dev.tsuAdjWrite_canon h1
          · refine canon_ite ?_ ?_
            · exact Dev.nscIncrWritten_canon (Dev.regWrite32_canon h1)
            · refine canon_ite ?_ ?_
              · exact Dev.rtcSecWrite_canon h1
              · split
                · exact Dev.pulseWrite_canon h1
                · exact Dev.regWrite32_canon h1
      · refine canon_ite ?_ ?_
        · exact Dev.ethConcSelWrite_canon h1
        · refine canon_ite ?_ ?_
          · exact canon_ite (Dev.ethConcCommit_canon h1) h1
          · refine canon_ite ?_ ?_
            · extract_lets +onlyGivenNames -merge -useContext e9
              have he9 : Canon e9 := Dev.regWrite32_canon h1
              clear_value e9
              exact canon_ite (Dev.commitRwl_canon he9) he9
            · refine canon_ite ?_ ?_
              · exact Dev.ethWakeCfgWrite_canon h1
              · split
                · exact Dev.ethEnable_canon h1
                · exact Dev.ethTxqPost_canon h1
                · exact Dev.ethFlow_canon (Dev.regWrite32_canon h1)
      · exact canon_ite (Dev.gavEnable_canon h1) (Dev.regWrite32_canon h1)
      · exact canon_ite (Dev.eplCtrlWrite_canon h1) (canon_ite (Dev.standbyCheck_canon (Dev.regWrite32_canon h1)) (canon_ite (canon_ite h1 (Dev.regWrite32_canon h1)) (Dev.regWrite32_canon h1)))
      · exact canon_ite h1 (Dev.regWrite32_canon h1)
      · refine canon_ite ?_ ?_
        · extract_lets +onlyGivenNames -merge -useContext y10 e11
          have he11 : Canon e11 := Dev.regWrite32_canon h1
          clear_value e11
          extract_lets +onlyGivenNames -merge -useContext e12
          have he12 : Canon e12 := canon_ite (Dev.srbEnable_canon he11) (Dev.clrF_canon he11)
          clear_value e12
          exact canon_ite (Dev.srbSnapNow_canon he12) he12
        · refine canon_ite ?_ ?_
          · exact Dev.srbFeedWrite_canon h1
          · refine canon_ite ?_ ?_
            · exact Dev.srbWselWrite_canon h1
            · refine canon_ite ?_ ?_
              · exact Dev.histRestart_canon (Dev.regWrite32_canon h1)
              · refine canon_ite ?_ ?_
                · exact Dev.extRestart_canon (Dev.regWrite32_canon h1)
                · refine canon_ite ?_ ?_
                  · extract_lets +onlyGivenNames -merge -useContext e13
                    have he13 : Canon e13 := Dev.syncInput_canon (Dev.regWrite32_canon h1)
                    clear_value e13
                    exact canon_ite (Dev.logCtrlClear_canon he13) he13
                  · exact canon_ite (Dev.logShow_canon (Dev.regWrite32_canon h1)) (canon_ite (Dev.logHeadWrite_canon h1) (canon_ite (Dev.logAppend_canon h1) (canon_ite (Dev.logSelWrite_canon h1) (Dev.regWrite32_canon h1))))
      · exact canon_ite (Dev.rmapShow_canon (Dev.regWrite32_canon h1)) (Dev.regWrite32_canon h1)
      · exact Dev.regWrite32_canon h1

theorem Dev.pairStore_canon {a1 a2 a3 a4 a5} (h1 : Canon a1) : Canon (Dev.pairStore a1 a2 a3 a4 a5) := by
  unfold Dev.pairStore
  extract_lets +onlyGivenNames -merge -useContext y0
  refine canon_ite ?_ ?_
  · exact Dev.xdiExpCommitWrite_canon h1
  · refine canon_ite ?_ ?_
    · exact Dev.tsuRateWrite_canon h1
    · refine canon_ite ?_ ?_
      · exact Dev.tsuConvWrite_canon h1
      · extract_lets +onlyGivenNames -merge -useContext e1
        have he1 : Canon e1 := by
          unfold e1
          split
          · exact Dev.regStore_canon h1
          · exact h1
        clear_value e1
        exact Dev.regStore_canon he1

theorem Dev.regPairHiWrite_canon {a1 a2 a3 a4} (h1 : Canon a1) : Canon (Dev.regPairHiWrite a1 a2 a3 a4) := by
  unfold Dev.regPairHiWrite
  exact canon_upd h1

theorem Dev.regPairLoWrite_canon {a1 a2 a3 a4} (h1 : Canon a1) : Canon (Dev.regPairLoWrite a1 a2 a3 a4) := by
  unfold Dev.regPairLoWrite
  extract_lets +onlyGivenNames -merge -useContext y0
  exact Dev.pairStore_canon (canon_upd h1)

theorem Dev.regWr_canon {a1 a2 a3 a4} (h1 : Canon a1) : Canon (Dev.regWr a1 a2 a3 a4) := by
  unfold Dev.regWr
  exact canon_ite (Dev.regPairLoWrite_canon h1) (canon_ite (Dev.regPairHiWrite_canon h1) (Dev.regStore_canon h1))

theorem Dev.regWrChecked_canon {a1 a2 a3 a4} (h1 : Canon a1) : Canon (Dev.regWrChecked a1 a2 a3 a4) := by
  unfold Dev.regWrChecked
  split
  · exact Dev.badWrite_canon h1
  · exact Dev.regWr_canon h1

theorem Dev.pairHiWrite_canon {a1 a2 a3 a4} (h1 : Canon a1) : Canon (Dev.pairHiWrite a1 a2 a3 a4) := by
  unfold Dev.pairHiWrite
  split
  · exact Dev.badWrite_canon h1
  · exact Dev.regPairHiWrite_canon h1

theorem Dev.pairLoWrite_canon {a1 a2 a3 a4} (h1 : Canon a1) : Canon (Dev.pairLoWrite a1 a2 a3 a4) := by
  unfold Dev.pairLoWrite
  split
  · exact Dev.badWrite_canon h1
  · exact Dev.regPairLoWrite_canon h1

theorem Dev.registerWrite_canon {a1 a2 a3 a4 a5} (h1 : Canon a1) : Canon (Dev.registerWrite a1 a2 a3 a4 a5) := by
  unfold Dev.registerWrite
  exact canon_ite (Dev.badWrite_canon h1) (canon_ite (Dev.regWrChecked_canon h1) (canon_ite (Dev.regWrChecked_canon (Dev.regWrChecked_canon h1)) (Dev.regWrChecked_canon (Dev.regWrChecked_canon h1))))

theorem Dev.regFresh_canon {a1 a2} (h1 : Canon a1) : Canon (Dev.regFresh a1 a2) := by
  unfold Dev.regFresh
  refine canon_ite ?_ ?_
  · exact Dev.wr_canon h1
  · refine canon_ite ?_ ?_
    · extract_lets +onlyGivenNames -merge -useContext y0
      refine canon_foldN ?_ ?_
      · exact h1
      · intro x1 x2 hx3
        extract_lets +onlyGivenNames -merge -useContext y4
        exact canon_ite hx3 (Dev.wrBit_canon hx3)
    · refine canon_ite ?_ ?_
      · extract_lets +onlyGivenNames -merge -useContext y5
        exact Dev.wr_canon h1
      · refine canon_ite ?_ ?_
        · extract_lets +onlyGivenNames -merge -useContext y6
          exact Dev.wr_canon h1
        · refine canon_ite ?_ ?_
          · exact Dev.wr_canon h1
          · refine canon_ite ?_ ?_
            · exact Dev.wr_canon h1
            · refine canon_ite ?_ ?_
              · exact Dev.budgetSettle_canon h1
              · refine canon_ite ?_ ?_
                · exact Dev.wr_canon h1
                · refine canon_ite ?_ ?_
                  · split
                    · exact h1
                    · exact Dev.wr_canon h1
                  · exact h1

theorem Dev.takeRead_canon {a1} (h1 : Canon a1) : Canon1 (Dev.takeRead a1) := by
  unfold Dev.takeRead
  split
  · exact canon_mk1 (canon_upd h1)
  · exact canon_mk1 h1

theorem Dev.peakFresh_canon {a1 a2} (h1 : Canon a1) : Canon (Dev.peakFresh a1 a2) := by
  unfold Dev.peakFresh
  split
  · exact canon_ite (Dev.wr_canon h1) h1
  · exact h1

theorem Dev.regRd_canon {a1 a2 a3} (h1 : Canon a1) : Canon1 (Dev.regRd a1 a2 a3) := by
  unfold Dev.regRd
  refine canon_ite1 ?_ ?_
  · extract_lets +onlyGivenNames -merge -useContext y0
    exact canon_mk1 h1
  · refine canon_ite1 ?_ ?_
    · exact Dev.takeRead_canon (Dev.tsuNowRead_canon h1)
    · split
      · extract_lets +onlyGivenNames -merge -useContext y1
        have hy1 : Canon1 y1 := Dev.takeRead_canon (Dev.icuClaim_canon h1)
        clear_value y1
        exact canon_mk1 (Dev.claimSample_canon (Canon1.fst hy1) h1)
      · split
        · exact canon_mk1 h1
        · extract_lets +onlyGivenNames -merge -useContext y2
          clear_value y2
          split
          · exact canon_mk1 (canon_upd h1)
          · extract_lets +onlyGivenNames -merge -useContext e3
            have he3 : Canon e3 := Dev.regFresh_canon h1
            clear_value e3
            extract_lets +onlyGivenNames -merge -useContext y4 e5
            have he5 : Canon e5 := Dev.peakFresh_canon (Dev.regClearRc_canon he3)
            clear_value e5
            extract_lets +onlyGivenNames -merge -useContext y6 e7
            have he7 : Canon e7 := canon_ite (canon_upd he5) he5
            clear_value e7
            exact canon_ite1 (canon_mk1 (Dev.tsuEvtPop_canon he7)) (canon_mk1 he7)

theorem Dev.regRead_canon {a1 a2 a3} (h1 : Canon a1) : Canon (Dev.regRead a1 a2 a3) := by
  unfold Dev.regRead
  split
  · exact Dev.badRead_canon h1
  · extract_lets +onlyGivenNames -merge -useContext y0
    have hy0 : Canon1 y0 := Dev.regRd_canon h1
    clear_value y0
    exact Dev.emit_canon (Canon1.fst hy0)

theorem Dev.regPairLoRead_canon {a1 a2 a3} (h1 : Canon a1) : Canon (Dev.regPairLoRead a1 a2 a3) := by
  unfold Dev.regPairLoRead
  exact Dev.regRead_canon h1

theorem Dev.rcFieldRead_canon {a1 a2 a3} (h1 : Canon a1) : Canon (Dev.rcFieldRead a1 a2 a3) := by
  unfold Dev.rcFieldRead
  exact Dev.regRead_canon h1

theorem Dev.byteWr_canon {a1 a2 a3} (h1 : Canon a1) : Canon (Dev.byteWr a1 a2 a3) := by
  unfold Dev.byteWr
  extract_lets z e
  have he : Canon e := canon_upd h1
  clear_value e
  split
  · exact canon_upd he
  · exact canon_mem he (Memory.wf_write _ _ _ ((Canon.iff e).1 he).1)

theorem Dev.bytesWr_canon {a1 a2 a3} (h1 : Canon a1) : Canon (Dev.bytesWr a1 a2 a3) := by
  induction a3 generalizing a1 a2 with
  | nil => exact h1
  | cons b t ih => exact ih (Dev.byteWr_canon h1)

theorem Dev.eccCheck_canon {a1 a2 a3 a4} (h1 : Canon a1) : Canon1 (Dev.eccCheck a1 a2 a3 a4) := by
  unfold Dev.eccCheck
  extract_lets +onlyGivenNames -merge -useContext y0
  split
  · exact canon_mk1 (canon_ite (Dev.errCapture_canon h1) h1)
  · refine canon_ite1 ?_ ?_
    · exact canon_mk1 (Dev.errCapture_canon (Dev.bump_canon h1))
    · extract_lets +onlyGivenNames -merge -useContext e1
      have he1 : Canon e1 := Dev.dramEccCorrected_canon h1
      clear_value e1
      exact canon_mk1 (canon_ite (Dev.errCapture_canon he1) he1)
  · extract_lets +onlyGivenNames -merge -useContext e2
    have he2 : Canon e2 := canon_ite h1 (Dev.dramEccUncorrectable_canon h1)
    clear_value e2
    exact canon_ite1 (canon_mk1 he2) (canon_mk1 (Dev.errCapture_canon he2))

theorem Dev.unreserve_canon {a1 a2 a3 a4} (h1 : Canon a1) : Canon (Dev.unreserve a1 a2 a3 a4) := by
  unfold Dev.unreserve
  exact canon_upd h1

theorem Dev.memAccess_canon {a1 a2 a3 a4} (h1 : Canon a1) : Canon (Dev.memAccess a1 a2 a3 a4) := by
  unfold Dev.memAccess
  extract_lets +onlyGivenNames -merge -useContext y0
  split
  · rename_i v1 v2 heq3
    have hv1 : Canon v1 := by
      refine canon_fst_eq heq3 ?_
      exact Dev.eccCheck_canon h1
    exact canon_ite (Dev.unreserve_canon (Dev.bytesWr_canon hv1)) (Dev.emit_canon hv1)

theorem Dev.amoAccess_canon {a1 a2 a3 a4 a5} (h1 : Canon a1) : Canon (Dev.amoAccess a1 a2 a3 a4 a5) := by
  unfold Dev.amoAccess
  extract_lets +onlyGivenNames -merge -useContext y0
  refine canon_ite ?_ ?_
  · exact Dev.emit_canon h1
  · split
    · rename_i v1 v2 heq3
      have hv1 : Canon v1 := by
        refine canon_fst_eq heq3 ?_
        exact Dev.eccCheck_canon h1
      extract_lets +onlyGivenNames -merge -useContext y4 y5
      refine canon_ite ?_ ?_
      · exact Dev.emit_canon hv1
      · split
        · exact Dev.emit_canon (canon_upd hv1)
        · extract_lets +onlyGivenNames -merge -useContext y6 y7 e8
          have he8 : Canon e8 := canon_upd hv1
          clear_value e8
          extract_lets +onlyGivenNames -merge -useContext e9
          have he9 : Canon e9 := canon_ite (Dev.unreserve_canon (Dev.bytesWr_canon he8)) he8
          clear_value e9
          exact Dev.emit_canon he9
        · extract_lets +onlyGivenNames -merge -useContext e10
          have he10 : Canon e10 := Dev.unreserve_canon (Dev.bytesWr_canon hv1)
          clear_value e10
          exact Dev.emit_canon he10

theorem Dev.regPart_canon {a1 a2 a3} (h1 : Canon a1) : Canon1 (Dev.regPart a1 a2 a3) := by
  unfold Dev.regPart
  split
  · exact canon_mk1 (Dev.errCapture_canon h1)
  · extract_lets +onlyGivenNames -merge -useContext y0
    have hy0 : Canon1 y0 := Dev.regRd_canon h1
    clear_value y0
    exact canon_mk1 (Canon1.fst hy0)

theorem Dev.regAccess_canon {a1 a2 a3} (h1 : Canon a1) : Canon (Dev.regAccess a1 a2 a3) := by
  unfold Dev.regAccess
  extract_lets +onlyGivenNames -merge -useContext y0
  refine canon_ite ?_ ?_
  · exact Dev.registerWrite_canon h1
  · refine canon_ite ?_ ?_
    · exact Dev.regRead_canon (Dev.regRead_canon h1)
    · refine canon_ite ?_ ?_
      · exact Dev.regRead_canon h1
      · extract_lets +onlyGivenNames -merge -useContext y1 y2
        have hy2 : Canon1 y2 := by
          unfold y2
          refine canon_foldl1 ?_ ?_
          · exact canon_mk1 h1
          · intro x3 x4 hx5
            extract_lets +onlyGivenNames -merge -useContext y6
            have hy6 : Canon1 y6 := Dev.regPart_canon (Canon1.fst hx5)
            clear_value y6
            exact canon_mk1 (Canon1.fst hy6)
        clear_value y2
        extract_lets +onlyGivenNames -merge -useContext y7
        exact Dev.emit_canon (Canon1.fst hy2)

theorem Dev.partnerAccess_canon {a1 a2 a3} (h1 : Canon a1) : Canon (Dev.partnerAccess a1 a2 a3) := by
  unfold Dev.partnerAccess
  extract_lets +onlyGivenNames -merge -useContext y0
  refine canon_ite ?_ ?_
  · exact canon_ite (Dev.badWrite_canon h1) (Dev.badRead_canon h1)
  · refine canon_ite ?_ ?_
    · exact canon_ite (Dev.badWrite_canon h1) (Dev.badRead_canon h1)
    · refine canon_ite ?_ ?_
      · exact Dev.eplSend_canon h1
      · extract_lets +onlyGivenNames -merge -useContext y1 y2 y3 e4
        have he4 : Canon e4 := canon_upd h1
        clear_value e4
        exact Dev.eplSend_canon he4

theorem Dev.outboundAccess_canon {a1 a2 a3} (h1 : Canon a1) : Canon (Dev.outboundAccess a1 a2 a3) := by
  unfold Dev.outboundAccess
  extract_lets +onlyGivenNames -merge -useContext y0 y1 y2
  refine canon_ite ?_ ?_
  · extract_lets +onlyGivenNames -merge -useContext e3
    have he3 : Canon e3 := Dev.setF_canon h1
    clear_value e3
    exact canon_ite (Dev.badWrite_canon he3) (Dev.badRead_canon he3)
  · exact canon_ite (canon_ite (Dev.badWrite_canon h1) (Dev.badRead_canon h1)) (canon_ite (Dev.emit_canon h1) (Dev.emit_canon (canon_upd h1)))

theorem Dev.memServe_canon {a1 a2 a3 a4} (h1 : Canon a1) : Canon (Dev.memServe a1 a2 a3 a4) := by
  unfold Dev.memServe
  split
  · exact Dev.memAccess_canon h1
  · exact Dev.amoAccess_canon h1

theorem Dev.serve_canon {a1 a2 a3} (h1 : Canon a1) : Canon (Dev.serve a1 a2 a3) := by
  unfold Dev.serve
  extract_lets +onlyGivenNames -merge -useContext y0 y1
  have hy1 : ∀ w0, Canon (y1 w0) := by
    unfold y1
    intro x2
    exact canon_ite (Dev.badWrite_canon h1) (Dev.badRead_canon h1)
  clear_value y1
  extract_lets +onlyGivenNames -merge -useContext e3
  have he3 : Canon e3 := Dev.emit_canon (Dev.errCapture_canon h1)
  clear_value e3
  split
  · exact canon_ite he3 (Dev.regAccess_canon h1)
  · refine canon_ite ?_ ?_
    · refine hy1 _
    · exact Dev.memServe_canon h1
  · exact canon_ite (Dev.badWrite_canon h1) (Dev.memServe_canon h1)
  · refine canon_ite ?_ ?_
    · refine hy1 _
    · exact Dev.memServe_canon h1
  · refine canon_ite ?_ ?_
    · refine hy1 _
    · exact Dev.memServe_canon (Dev.dramWake_canon h1)
  · exact canon_ite he3 (Dev.partnerAccess_canon h1)
  · exact canon_ite he3 (Dev.outboundAccess_canon h1)
  · refine hy1 _

theorem Dev.postedServe_canon {a1 a2 a3 a4} (h1 : Canon a1) : Canon (Dev.postedServe a1 a2 a3 a4) := by
  unfold Dev.postedServe
  extract_lets +onlyGivenNames -merge -useContext y0
  split
  · exact Dev.serve_canon h1
  · exact Dev.serve_canon h1
  · exact Dev.serve_canon h1
  · exact Dev.serve_canon h1
  · exact Dev.serve_canon h1
  · exact Dev.serve_canon h1
  · extract_lets +onlyGivenNames -merge -useContext y1
    refine canon_foldN ?_ ?_
    · exact h1
    · intro x2 x3 hx4
      extract_lets +onlyGivenNames -merge -useContext y5
      exact Dev.serve_canon hx4
  · extract_lets +onlyGivenNames -merge -useContext y6
    refine canon_foldN ?_ ?_
    · exact h1
    · intro x7 x8 hx9
      extract_lets +onlyGivenNames -merge -useContext y10
      exact Dev.serve_canon hx9

theorem Dev.postedDrain_canon {a1} (h1 : Canon a1) : Canon (Dev.postedDrain a1) := by
  unfold Dev.postedDrain
  extract_lets +onlyGivenNames -merge -useContext y0
  refine canon_foldl ?_ ?_
  · exact canon_upd h1
  · intro x1 x2 hx3
    exact Dev.postedServe_canon hx3

theorem Dev.fabricAccess_canon {a1 a2} (h1 : Canon a1) : Canon (Dev.fabricAccess a1 a2) := by
  unfold Dev.fabricAccess
  extract_lets +onlyGivenNames -merge -useContext y0 y1 y2
  refine canon_ite ?_ ?_
  · exact Dev.cfgAccess_canon h1
  · refine canon_ite ?_ ?_
    · exact Dev.emit_canon (Dev.pciUnsupported_canon h1)
    · split
      · exact Dev.serve_canon h1
      · exact canon_ite (Dev.badWrite_canon h1) (Dev.badRead_canon h1)

theorem Dev.partnerServe_canon {a1 a2 a3 a4 a5} (h1 : Canon a1) : Canon (Dev.partnerServe a1 a2 a3 a4 a5) := by
  unfold Dev.partnerServe
  extract_lets +onlyGivenNames -merge -useContext y0
  exact canon_ite (canon_ite (Dev.badWrite_canon h1) (Dev.badRead_canon h1)) (Dev.serve_canon h1)

theorem Dev.winRd_canon {a1 a2} (h1 : Canon a1) : Canon (Dev.winRd a1 a2) := by
  unfold Dev.winRd
  refine Dev.eplIn_canon ?_ ?_
  · exact h1
  · intro x0 hx1
    extract_lets +onlyGivenNames -merge -useContext y2 y3 y4 y5 e6
    have he6 : Canon e6 := Dev.partnerServe_canon hx1
    clear_value e6
    extract_lets +onlyGivenNames -merge -useContext y7 y8 y9 e10
    have he10 : Canon e10 := canon_upd he6
    clear_value e10
    exact Dev.eplSend_canon he10

theorem Dev.winRdRsp_canon {a1 a2} (h1 : Canon a1) : Canon (Dev.winRdRsp a1 a2) := by
  unfold Dev.winRdRsp
  refine Dev.eplIn_canon ?_ ?_
  · exact h1
  · intro x0 hx1
    extract_lets +onlyGivenNames -merge -useContext y2
    split
    · exact hx1
    · extract_lets +onlyGivenNames -merge -useContext y3 e4
      have he4 : Canon e4 := canon_upd hx1
      clear_value e4
      extract_lets +onlyGivenNames -merge -useContext y5
      exact Dev.emit_canon he4

theorem Dev.winWr_canon {a1 a2} (h1 : Canon a1) : Canon (Dev.winWr a1 a2) := by
  unfold Dev.winWr
  refine Dev.eplIn_canon ?_ ?_
  · exact h1
  · intro x0 hx1
    extract_lets +onlyGivenNames -merge -useContext y2
    exact Dev.partnerServe_canon hx1

theorem Dev.fifoFlushComplete_canon {a1 a2} (h1 : Canon a1) : Canon (Dev.fifoFlushComplete a1 a2) := by
  unfold Dev.fifoFlushComplete
  refine canon_ite ?_ ?_
  · exact h1
  · extract_lets +onlyGivenNames -merge -useContext y0 y1 e2
    have he2 : Canon e2 := by
      unfold e2
      clear_value y0
      split
      · exact h1
      · extract_lets +onlyGivenNames -merge -useContext y3 y4
        refine Dev.setLane_canon ?_
        · refine canon_upd (fifosPut_canon ?_)
          exact h1
    clear_value e2
    extract_lets +onlyGivenNames -merge -useContext e5
    have he5 : Canon e5 := Dev.clrF_canon (Dev.fifoEmpty_canon he2)
    clear_value e5
    extract_lets +onlyGivenNames -merge -useContext e6
    have he6 : Canon e6 := canon_ite (Dev.evtShow_canon he5) he5
    clear_value e6
    extract_lets +onlyGivenNames -merge -useContext e7
    have he7 : Canon e7 := by
      unfold e7
      split
      · exact Dev.plcRefresh_canon he6
      · exact he6
    clear_value e7
    split
    · exact Dev.ethPressure_canon he7
    · exact Dev.ethFlow_canon (Dev.ethPressure_canon he7)
    · exact he7

theorem Dev.packetFifoTransfer_canon {a1 a2 a3 a4 a5} (h1 : Canon a1) : Canon (Dev.packetFifoTransfer a1 a2 a3 a4 a5) := by
  unfold Dev.packetFifoTransfer
  split
  · exact h1
  · extract_lets +onlyGivenNames -merge -useContext y0 y1 y2 y3
    refine canon_ite ?_ ?_
    · exact h1
    · refine canon_ite ?_ ?_
      · extract_lets +onlyGivenNames -merge -useContext e4
        have he4 : Canon e4 := Dev.fifoPop_canon h1
        clear_value e4
        exact canon_ite (Dev.fifoAbort_canon he4) he4
      · refine canon_ite ?_ ?_
        · refine canon_ite ?_ ?_
          · refine canon_upd (fifosPut_canon ?_)
            exact h1
          · exact h1
        · extract_lets +onlyGivenNames -merge -useContext e5
          have he5 : Canon e5 := Dev.fifoPush_canon (Dev.fifoPop_canon h1)
          clear_value e5
          extract_lets +onlyGivenNames -merge -useContext e6
          have he6 : Canon e6 := by
            unfold e6
            split
            · exact Dev.plcRefresh_canon (Dev.bump_canon he5)
            · exact he5
          clear_value e6
          split
          · exact Dev.ethPressure_canon he6
          · exact he6

end Sys2Proof.Machine
end

