-- ==== Sys2Proof/Laws/CanonBoot.lean ====
section
/-! SUPPORT. Every operation of Machine/Boot.lean that answers a device keeps the stored data in canonical form. -/

namespace Sys2Proof.Machine

theorem Dev.slotChoice_canon {a1 a2} (h1 : Canon a1) : Canon1 (Dev.slotChoice a1 a2) := by
  unfold Dev.slotChoice
  extract_lets +onlyGivenNames -merge -useContext y0 y1 e2
  have he2 : Canon e2 := canon_ite (Dev.bootRecPut_canon h1) h1
  clear_value e2
  refine canon_ite1 ?_ ?_
  · exact canon_mk1 he2
  · extract_lets +onlyGivenNames -merge -useContext e3
    have he3 : Canon e3 := canon_ite (Dev.bootRecPut_canon he2) he2
    clear_value e3
    extract_lets +onlyGivenNames -merge -useContext y4
    refine canon_ite1 ?_ ?_
    · exact canon_ite1 (canon_mk1 (Dev.bootRecPut_canon he3)) (canon_mk1 he3)
    · extract_lets +onlyGivenNames -merge -useContext y5
      split
      · exact canon_mk1 he3
      · exact canon_ite1 (canon_mk1 (Dev.bootRecPut_canon he3)) (canon_mk1 he3)

theorem Dev.logScan_canon {a1 a2} (h2 : Canon a2) : Canon (Dev.logScan a1 a2) := by
  induction a1 generalizing a2 with
  | zero => exact h2
  | succ k ih =>
    unfold Dev.logScan
    exact canon_ite h2 (ih (Dev.wr_canon h2))

theorem Dev.logStart_canon {a1} (h1 : Canon a1) : Canon (Dev.logStart a1) := by
  unfold Dev.logStart
  extract_lets +onlyGivenNames -merge -useContext e0
  have he0 : Canon e0 := Dev.logShow_canon (Dev.logScan_canon h1)
  clear_value e0
  exact Dev.logAdmit_canon he0

theorem Dev.bootPower_canon {a1 a2} (h1 : Canon a1) : Canon (Dev.bootPower a1 a2) := by
  unfold Dev.bootPower
  extract_lets +onlyGivenNames -merge -useContext y0 e1
  have he1 : Canon e1 := Dev.wr_canon (Dev.wr_canon h1)
  clear_value e1
  extract_lets +onlyGivenNames -merge -useContext e2
  have he2 : Canon e2 := Dev.clrF_canon (Dev.setF_canon he1)
  clear_value e2
  extract_lets +onlyGivenNames -merge -useContext e3
  have he3 : Canon e3 := canon_ite (Dev.raise_canon he2) he2
  clear_value e3
  exact canon_upd he3

theorem Dev.acceptFinish_canon {a1} (h1 : Canon a1) : Canon (Dev.acceptFinish a1) := by
  unfold Dev.acceptFinish
  refine canon_ite ?_ ?_
  · exact h1
  · extract_lets +onlyGivenNames -merge -useContext y0
    exact canon_upd h1

theorem Dev.compLoad_canon {a1 a2} (h1 : Canon a1) : Canon (Dev.compLoad a1 a2) := by
  unfold Dev.compLoad
  split
  · exact h1
  · exact Dev.memWrB_canon h1

theorem Dev.hallFirmware_canon {a1} (h1 : Canon a1) : Canon (Dev.hallFirmware a1) := by
  unfold Dev.hallFirmware
  extract_lets +onlyGivenNames -merge -useContext y0
  split
  · exact h1
  · exact canon_ite (Dev.memWrB_canon h1) h1

theorem Dev.bootTests_canon {a1 a2} (h1 : Canon a1) : Canon (Dev.bootTests a1 a2) := by
  unfold Dev.bootTests
  extract_lets +onlyGivenNames -merge -useContext e0
  have he0 : Canon e0 := Dev.pavKat_canon h1
  clear_value e0
  extract_lets +onlyGivenNames -merge -useContext e1
  have he1 : Canon e1 := by
    unfold e1
    refine canon_foldN ?_ ?_
    · exact he0
    · intro x2 x3 hx4
      exact canon_ite (Dev.laneKatFail_canon hx4) hx4
  clear_value e1
  refine canon_foldN ?_ ?_
  · exact he1
  · intro x5 x6 hx7
    exact canon_ite (Dev.coreRetire_canon hx7) hx7

theorem Dev.bootUnlock_canon {a1} (h1 : Canon a1) : Canon (Dev.bootUnlock a1) := by
  unfold Dev.bootUnlock
  exact canon_ite h1 (Dev.pavUnlock_canon h1)

theorem Dev.applyPairs_canon {a1 a2 a3} (h1 : Canon a1) : Canon (Dev.applyPairs a1 a2 a3) := by
  unfold Dev.applyPairs
  refine canon_foldl ?_ ?_
  · exact h1
  · intro x0 x1 hx2
    exact canon_ite (Dev.regWrChecked_canon hx2) hx2

theorem Dev.applySettings_canon {a1 a2} (h1 : Canon a1) : Canon (Dev.applySettings a1 a2) := by
  unfold Dev.applySettings
  extract_lets +onlyGivenNames -merge -useContext y0
  refine canon_foldl ?_ ?_
  · exact h1
  · intro x1 x2 hx3
    exact Dev.applyPairs_canon hx3

theorem Dev.domrst_canon {a1 a2} (h1 : Canon a1) : Canon (Dev.domrst a1 a2) := by
  unfold Dev.domrst
  refine canon_ite ?_ ?_
  · exact h1
  · split
    · exact h1
    · extract_lets +onlyGivenNames -merge -useContext e0
      have he0 : Canon e0 := Dev.domReset_canon h1
      clear_value e0
      extract_lets +onlyGivenNames -merge -useContext e1
      have he1 : Canon e1 := canon_ite (Dev.applySettings_canon (Dev.hallFirmware_canon he0)) he0
      clear_value e1
      extract_lets +onlyGivenNames -merge -useContext e2
      have he2 : Canon e2 := Dev.wrBit_canon he1
      clear_value e2
      split
      · exact he2
      · exact Dev.okRes_canon (canon_upd he2)

theorem Dev.migrate_canon {a1 a2 a3} (h1 : Canon a1) : Canon (Dev.migrate a1 a2 a3) := by
  unfold Dev.migrate
  extract_lets +onlyGivenNames -merge -useContext y0
  refine canon_ite ?_ ?_
  · exact h1
  · extract_lets +onlyGivenNames -merge -useContext y1
    exact canon_upd h1

theorem Dev.bootSettings_canon {a1 a2 a3 a4} (h1 : Canon a1) : Canon (Dev.bootSettings a1 a2 a3 a4) := by
  unfold Dev.bootSettings
  extract_lets +onlyGivenNames -merge -useContext y0 y1 y2
  refine canon_ite ?_ ?_
  · extract_lets +onlyGivenNames -merge -useContext e3
    have he3 : Canon e3 := Dev.wr_canon h1
    clear_value e3
    exact canon_ite he3 (canon_ite (Dev.defaultsTake_canon he3) (Dev.raise_canon (Dev.wr_canon (canon_upd he3))))
  · extract_lets +onlyGivenNames -merge -useContext e4
    have he4 : Canon e4 := canon_ite (Dev.migrate_canon h1) h1
    clear_value e4
    exact Dev.applySettings_canon (Dev.wr_canon he4)

theorem Dev.tablesReload_canon {a1 a2} (h1 : Canon a1) : Canon (Dev.tablesReload a1 a2) := by
  unfold Dev.tablesReload
  refine canon_ite ?_ ?_
  · exact h1
  · extract_lets +onlyGivenNames -merge -useContext e0
    have he0 : Canon e0 := by
      unfold e0
      split
      · exact Dev.nodesApply_canon h1
      · exact h1
    clear_value e0
    extract_lets +onlyGivenNames -merge -useContext e1
    have he1 : Canon e1 := by
      unfold e1
      split
      · exact Dev.groupsApply_canon he0
      · exact he0
    clear_value e1
    extract_lets +onlyGivenNames -merge -useContext y2 e3
    have he3 : Canon e3 := canon_upd he1
    clear_value e3
    refine canon_foldl ?_ ?_
    · exact he3
    · intro x4 x5 hx6
      exact Dev.memWrB_canon hx6

theorem Dev.bootSlot_canon {a1 a2 a3 a4 a5} (h1 : Canon a1) : Canon (Dev.bootSlot a1 a2 a3 a4 a5) := by
  unfold Dev.bootSlot
  extract_lets +onlyGivenNames -merge -useContext y0 e1
  have he1 : Canon e1 := Dev.clrF_canon (Dev.wr_canon (Dev.flag_canon (Dev.wr_canon h1)))
  clear_value e1
  extract_lets +onlyGivenNames -merge -useContext y2 e3
  have he3 : Canon e3 := canon_upd he1
  clear_value e3
  extract_lets +onlyGivenNames -merge -useContext e4
  have he4 : Canon e4 := Dev.acceptFinish_canon he3
  clear_value e4
  extract_lets +onlyGivenNames -merge -useContext e5
  have he5 : Canon e5 := Dev.fuseBlow_canon (Dev.compLoad_canon he4)
  clear_value e5
  extract_lets +onlyGivenNames -merge -useContext e6
  have he6 : Canon e6 := Dev.logStart_canon (Dev.bootPower_canon he5)
  clear_value e6
  extract_lets +onlyGivenNames -merge -useContext y7 e8
  have he8 : Canon e8 := canon_ite (Dev.trouble_canon (Dev.raise_canon he6)) he6
  clear_value e8
  extract_lets +onlyGivenNames -merge -useContext e9
  have he9 : Canon e9 := canon_ite (Dev.raise_canon he8) he8
  clear_value e9
  extract_lets +onlyGivenNames -merge -useContext e10
  have he10 : Canon e10 := Dev.valReload_canon (Dev.compLoad_canon he9)
  clear_value e10
  extract_lets +onlyGivenNames -merge -useContext e11
  have he11 : Canon e11 := Dev.gavBoot_canon he10
  clear_value e11
  extract_lets +onlyGivenNames -merge -useContext e12
  have he12 : Canon e12 := Dev.bootUnlock_canon (Dev.bootTests_canon he11)
  clear_value e12
  extract_lets +onlyGivenNames -merge -useContext y13 e14
  have he14 : Canon e14 := Dev.drawn_canon (canon_upd he12)
  clear_value e14
  extract_lets +onlyGivenNames -merge -useContext e15
  have he15 : Canon e15 := Dev.tablesReload_canon (Dev.bootSettings_canon he14)
  clear_value e15
  exact canon_ite (Dev.raise_canon (canon_upd he15)) he15

theorem Dev.bootStart_canon {a1 a2} (h1 : Canon a1) : Canon (Dev.bootStart a1 a2) := by
  unfold Dev.bootStart
  refine canon_ite ?_ ?_
  · exact h1
  · extract_lets +onlyGivenNames -merge -useContext y0 y1 e2
    have he2 : Canon e2 := canon_upd h1
    clear_value e2
    split
    · rename_i v3 v4 v5 v6 heq7
      have hv3 : Canon v3 := by
        refine canon_fst_eq heq7 ?_
        exact Dev.slotChoice_canon he2
      exact Dev.bootSlot_canon hv3
    · rename_i v8 v9 heq10
      have hv8 : Canon v8 := by
        refine canon_fst_eq heq10 ?_
        exact Dev.slotChoice_canon he2
      extract_lets +onlyGivenNames -merge -useContext e11
      have he11 : Canon e11 := Dev.setF_canon (Dev.wr_canon hv8)
      clear_value e11
      exact Dev.logStart_canon (Dev.bootPower_canon he11)

theorem Dev.recoveryEnter_canon {a1 a2} (h1 : Canon a1) : Canon (Dev.recoveryEnter a1 a2) := by
  unfold Dev.recoveryEnter
  extract_lets +onlyGivenNames -merge -useContext e0
  have he0 : Canon e0 := Dev.modeWrite_canon (Dev.wr_canon h1)
  clear_value e0
  extract_lets +onlyGivenNames -merge -useContext e1
  have he1 : Canon e1 := by
    unfold e1
    refine canon_foldl ?_ ?_
    · exact Dev.domSwitch_canon he0
    · intro x2 x3 hx4
      exact Dev.domSwitch_canon hx4
  clear_value e1
  extract_lets +onlyGivenNames -merge -useContext e5
  have he5 : Canon e5 := Dev.clrF_canon (Dev.clrF_canon he1)
  clear_value e5
  extract_lets +onlyGivenNames -merge -useContext e6
  have he6 : Canon e6 := canon_ite he5 (Dev.compLoad_canon he5)
  clear_value e6
  extract_lets +onlyGivenNames -merge -useContext y7
  exact Dev.keyNext_canon (Dev.pavLockStore_canon (Dev.trouble_canon (canon_upd he6)))

theorem Dev.bootComplete_canon {a1} (h1 : Canon a1) : Canon (Dev.bootComplete a1) := by
  unfold Dev.bootComplete
  refine canon_ite ?_ ?_
  · exact h1
  · extract_lets +onlyGivenNames -merge -useContext e0
    have he0 : Canon e0 := Dev.domSwitch_canon (Dev.domSwitch_canon h1)
    clear_value e0
    extract_lets +onlyGivenNames -merge -useContext e1
    have he1 : Canon e1 := by
      unfold e1
      split
      · exact Dev.recoveryEnter_canon h1
      · exact Dev.enginesReady_canon (Dev.offMaskApply_canon (Dev.modeEnter_canon he0))
    clear_value e1
    extract_lets +onlyGivenNames -merge -useContext y2 e3
    have he3 : Canon e3 := canon_upd he1
    clear_value e3
    extract_lets +onlyGivenNames -merge -useContext e4
    have he4 : Canon e4 := canon_ite (Dev.negotiateNow_canon he3) he3
    clear_value e4
    extract_lets +onlyGivenNames -merge -useContext e5
    have he5 : Canon e5 := Dev.handover_canon he4
    clear_value e5
    exact canon_ite (Dev.raise_canon he5) he5

theorem Dev.updActivateDelay_canon {a1} (h1 : Canon a1) : Canon (Dev.updActivateDelay a1) := by
  unfold Dev.updActivateDelay
  split
  · exact h1
  · extract_lets +onlyGivenNames -merge -useContext y0 e1
    have he1 : Canon e1 := canon_upd h1
    clear_value e1
    exact canon_ite (canon_upd he1) (Dev.softReset_canon he1)

theorem Dev.idle_canon {a1} (h1 : Canon a1) : Canon (Dev.idle a1) := by
  unfold Dev.idle
  extract_lets +onlyGivenNames -merge -useContext e0
  have he0 : Canon e0 := Dev.tamperSettle_canon (Dev.postedDrain_canon h1)
  clear_value e0
  exact canon_upd he0

end Sys2Proof.Machine
end

