-- ==== Sys2Proof/Laws/CanonCmd.lean ====
section
/-! SUPPORT. Every command's meaning keeps the stored data of the block in canonical form. -/

namespace Sys2Proof.Machine

theorem ran_canon {s : State} {d : Dev} (h : Canon d) (u : State) (hu : ran s d = .next u) : Canon u.dev := by
  have e : _ = u := Host.Outcome.next.inj hu
  rw [← e]
  exact h

theorem execRegisterWrite_canon {m off size v} {s : State} (h : Canon s.dev) (u : State)
    (hu : execRegisterWrite m off size v s = .next u) : Canon u.dev :=
  ran_canon (Dev.registerWrite_canon h) u hu

theorem execRegPairLoRead_canon {m off} {s : State} (h : Canon s.dev) (u : State)
    (hu : execRegPairLoRead m off s = .next u) : Canon u.dev :=
  ran_canon (Dev.regPairLoRead_canon h) u hu

theorem execRegPairHiWrite_canon {m off v} {s : State} (h : Canon s.dev) (u : State)
    (hu : execRegPairHiWrite m off v s = .next u) : Canon u.dev :=
  ran_canon (Dev.pairHiWrite_canon h) u hu

theorem execRegPairLoWrite_canon {m off v} {s : State} (h : Canon s.dev) (u : State)
    (hu : execRegPairLoWrite m off v s = .next u) : Canon u.dev :=
  ran_canon (Dev.pairLoWrite_canon h) u hu

theorem execRcFieldRead_canon {m off} {s : State} (h : Canon s.dev) (u : State)
    (hu : execRcFieldRead m off s = .next u) : Canon u.dev :=
  ran_canon (Dev.rcFieldRead_canon h) u hu

theorem execFabricAccess_canon {a} {s : State} (h : Canon s.dev) (u : State)
    (hu : execFabricAccess a s = .next u) : Canon u.dev :=
  ran_canon (Dev.fabricAccess_canon h) u hu

theorem execFifoFlush_canon {off} {s : State} (h : Canon s.dev) (u : State)
    (hu : execFifoFlush off s = .next u) : Canon u.dev :=
  ran_canon (Dev.fifoFlush_canon h) u hu

theorem execFifoFlushComplete_canon {off} {s : State} (h : Canon s.dev) (u : State)
    (hu : execFifoFlushComplete off s = .next u) : Canon u.dev :=
  ran_canon (Dev.fifoFlushComplete_canon h) u hu

theorem execPacketFifoTransfer_canon {src dst arrived ok} {s : State} (h : Canon s.dev) (u : State)
    (hu : execPacketFifoTransfer src dst arrived ok s = .next u) : Canon u.dev :=
  ran_canon (Dev.packetFifoTransfer_canon h) u hu

theorem execPerstAssert_canon {s : State} (h : Canon s.dev) (u : State)
    (hu : execPerstAssert s = .next u) : Canon u.dev :=
  ran_canon (Dev.perstAssert_canon h) u hu

theorem execPerstDeassert_canon {s : State} (h : Canon s.dev) (u : State)
    (hu : execPerstDeassert s = .next u) : Canon u.dev :=
  ran_canon (Dev.perstDeassert_canon h) u hu

theorem execPcieHotReset_canon {s : State} (h : Canon s.dev) (u : State)
    (hu : execPcieHotReset s = .next u) : Canon u.dev :=
  ran_canon (Dev.pcieHotReset_canon h) u hu

theorem execPcieFlr_canon {s : State} (h : Canon s.dev) (u : State)
    (hu : execPcieFlr s = .next u) : Canon u.dev :=
  ran_canon (Dev.pcieFlr_canon h) u hu

theorem execPcieLinkDown_canon {s : State} (h : Canon s.dev) (u : State)
    (hu : execPcieLinkDown s = .next u) : Canon u.dev :=
  ran_canon (Dev.hostSync_canon (Dev.pcieLinkDown_canon h)) u hu

theorem execPcieLinkUp_canon {l1} {s : State} (h : Canon s.dev) (u : State)
    (hu : execPcieLinkUp l1 s = .next u) : Canon u.dev :=
  ran_canon (Dev.pcieLinkUp_canon h) u hu

theorem execBusMasterDisable_canon {s : State} (h : Canon s.dev) (u : State)
    (hu : execBusMasterDisable s = .next u) : Canon u.dev :=
  ran_canon (Dev.hostSync_canon (Dev.busMasterDisable_canon h)) u hu

theorem execBusMasterEnable_canon {s : State} (h : Canon s.dev) (u : State)
    (hu : execBusMasterEnable s = .next u) : Canon u.dev :=
  ran_canon (Dev.busMasterEnable_canon h) u hu

theorem execHostReadTimeout_canon {s : State} (h : Canon s.dev) (u : State)
    (hu : execHostReadTimeout s = .next u) : Canon u.dev :=
  ran_canon (Dev.hostSync_canon (Dev.hostReadTimeout_canon h)) u hu

theorem execD3hotEnter_canon {s : State} (h : Canon s.dev) (u : State)
    (hu : execD3hotEnter s = .next u) : Canon u.dev :=
  ran_canon (Dev.d3hotEnter_canon h) u hu

theorem execD0Return_canon {s : State} (h : Canon s.dev) (u : State)
    (hu : execD0Return s = .next u) : Canon u.dev :=
  ran_canon (Dev.d0Return_canon h) u hu

theorem execXdiHostVerWrite_canon {v} {s : State} (h : Canon s.dev) (u : State)
    (hu : execXdiHostVerWrite v s = .next u) : Canon u.dev :=
  ran_canon (Dev.xdiHostVerWrite_canon h) u hu

theorem execRingCfgEnable_canon {n v} {s : State} (h : Canon s.dev) (u : State)
    (hu : execRingCfgEnable n v s = .next u) : Canon u.dev :=
  ran_canon (Dev.hostSync_canon (Dev.ringCfgEnable_canon h)) u hu

theorem execRingCfgDisable_canon {n v} {s : State} (h : Canon s.dev) (u : State)
    (hu : execRingCfgDisable n v s = .next u) : Canon u.dev :=
  ran_canon (Dev.hostSync_canon (Dev.ringCfgDisable_canon h)) u hu

theorem execRingDisableComplete_canon {n} {s : State} (h : Canon s.dev) (u : State)
    (hu : execRingDisableComplete n s = .next u) : Canon u.dev :=
  ran_canon (Dev.hostSync_canon (Dev.ringDisableComplete_canon h)) u hu

theorem execDescriptorFlushTimeout_canon {n idx} {s : State} (h : Canon s.dev) (u : State)
    (hu : execDescriptorFlushTimeout n idx s = .next u) : Canon u.dev :=
  ran_canon (Dev.descriptorFlushTimeout_canon h) u hu

theorem execSqDoorbell_canon {n v} {s : State} (h : Canon s.dev) (u : State)
    (hu : execSqDoorbell n v s = .next u) : Canon u.dev :=
  ran_canon (Dev.sqDoorbell_canon h) u hu

theorem execCqDoorbell_canon {n v} {s : State} (h : Canon s.dev) (u : State)
    (hu : execCqDoorbell n v s = .next u) : Canon u.dev :=
  ran_canon (Dev.cqDoorbell_canon h) u hu

theorem execDescriptorFetch_canon {n ds} {s : State} (h : Canon s.dev) (u : State)
    (hu : execDescriptorFetch n ds s = .next u) : Canon u.dev :=
  ran_canon (Dev.descriptorFetch_canon h) u hu

theorem execFenceRelease_canon {n} {s : State} (h : Canon s.dev) (u : State)
    (hu : execFenceRelease n s = .next u) : Canon u.dev :=
  ran_canon (Dev.fenceRelease_canon h) u hu

theorem execCompletionPost_canon {n} {s : State} (h : Canon s.dev) (u : State)
    (hu : execCompletionPost n s = .next u) : Canon u.dev :=
  ran_canon (Dev.completionPost_canon h) u hu

theorem execNop_canon {c} {s : State} (h : Canon s.dev) (u : State)
    (hu : execNop c s = .next u) : Canon u.dev :=
  ran_canon (Dev.nop_canon h) u hu

theorem execXdiExpCtrlWrite_canon {v} {s : State} (h : Canon s.dev) (u : State)
    (hu : execXdiExpCtrlWrite v s = .next u) : Canon u.dev :=
  ran_canon (Dev.xdiExpCtrlWrite_canon h) u hu

theorem execExpBuf_canon {c} {s : State} (h : Canon s.dev) (u : State)
    (hu : execExpBuf c s = .next u) : Canon u.dev :=
  ran_canon (Dev.expBuf_canon h) u hu

theorem execExportRecordDeliver_canon {s : State} (h : Canon s.dev) (u : State)
    (hu : execExportRecordDeliver s = .next u) : Canon u.dev :=
  ran_canon (Dev.exportRecordDeliver_canon h) u hu

theorem execBatchTimeout_canon {n} {s : State} (h : Canon s.dev) (u : State)
    (hu : execBatchTimeout n s = .next u) : Canon u.dev :=
  ran_canon (Dev.batchTimeout_canon h) u hu

theorem execXdiExpCommitWrite_canon {v} {s : State} (h : Canon s.dev) (u : State)
    (hu : execXdiExpCommitWrite v s = .next u) : Canon u.dev :=
  ran_canon (Dev.xdiExpCommitWrite_canon h) u hu

theorem execCommitJournal_canon {s : State} (h : Canon s.dev) (u : State)
    (hu : execCommitJournal s = .next u) : Canon u.dev :=
  ran_canon (Dev.commitJournal_canon h) u hu

theorem execHmbGrant_canon {c} {s : State} (h : Canon s.dev) (u : State)
    (hu : execHmbGrant c s = .next u) : Canon u.dev := by
  refine ran_canon ?_ u hu
  refine Dev.withData_canon ?_ ?_
  · exact h
  · intro x0 x1 hx2
    exact Dev.hmbGrant_canon hx2

theorem execHmbRevoke_canon {c} {s : State} (h : Canon s.dev) (u : State)
    (hu : execHmbRevoke c s = .next u) : Canon u.dev :=
  ran_canon (Dev.hmbRevoke_canon h) u hu

theorem execHmbRevokeDone_canon {s : State} (h : Canon s.dev) (u : State)
    (hu : execHmbRevokeDone s = .next u) : Canon u.dev :=
  ran_canon (Dev.hostSync_canon (Dev.hmbRevokeDone_canon h)) u hu

theorem execIcuEdgeEvent_canon {n} {s : State} (h : Canon s.dev) (u : State)
    (hu : execIcuEdgeEvent n s = .next u) : Canon u.dev :=
  ran_canon (Dev.icuEdgeEvent_canon h) u hu

theorem execIcuLevelAssert_canon {n} {s : State} (h : Canon s.dev) (u : State)
    (hu : execIcuLevelAssert n s = .next u) : Canon u.dev :=
  ran_canon (Dev.icuLevelAssert_canon h) u hu

theorem execModWindowTimeFire_canon {dest} {s : State} (h : Canon s.dev) (u : State)
    (hu : execModWindowTimeFire dest s = .next u) : Canon u.dev :=
  ran_canon (Dev.modWindowTimeFire_canon h) u hu

theorem execIcuOffer_canon {t seen} {s : State} (h : Canon s.dev) (u : State)
    (hu : execIcuOffer t seen s = .next u) : Canon u.dev :=
  ran_canon (Dev.icuOffer_canon h) u hu

theorem execIcuClaim_canon {t m} {s : State} (h : Canon s.dev) (u : State)
    (hu : execIcuClaim t m s = .next u) : Canon u.dev :=
  ran_canon (Dev.icuClaimTimed_canon h) u hu

theorem execIcuDone_canon {t src} {s : State} (h : Canon s.dev) (u : State)
    (hu : execIcuDone t src s = .next u) : Canon u.dev :=
  ran_canon (Dev.icuDone_canon h) u hu

theorem execIcuEnableWrite_canon {w v} {s : State} (h : Canon s.dev) (u : State)
    (hu : execIcuEnableWrite w v s = .next u) : Canon u.dev :=
  ran_canon (Dev.icuEnableWrite_canon h) u hu

theorem execIcuMaskWrite_canon {w v} {s : State} (h : Canon s.dev) (u : State)
    (hu : execIcuMaskWrite w v s = .next u) : Canon u.dev :=
  ran_canon (Dev.icuMaskWrite_canon h) u hu

theorem execIcuPendWrite_canon {w v hwSet hwClear} {s : State} (h : Canon s.dev) (u : State)
    (hu : execIcuPendWrite w v hwSet hwClear s = .next u) : Canon u.dev :=
  ran_canon (Dev.icuPendWrite_canon h) u hu

theorem execIcuSrcCmdSet_canon {n} {s : State} (h : Canon s.dev) (u : State)
    (hu : execIcuSrcCmdSet n s = .next u) : Canon u.dev :=
  ran_canon (Dev.icuSrcCmdSet_canon h) u hu

theorem execIcuSrcCmdClear_canon {n} {s : State} (h : Canon s.dev) (u : State)
    (hu : execIcuSrcCmdClear n s = .next u) : Canon u.dev :=
  ran_canon (Dev.icuSrcCmdClear_canon h) u hu

theorem execIcuSrcCfgWrite_canon {n v} {s : State} (h : Canon s.dev) (u : State)
    (hu : execIcuSrcCfgWrite n v s = .next u) : Canon u.dev :=
  ran_canon (Dev.icuSrcCfgWrite_canon h) u hu

theorem execIcuModeWrite_canon {t v} {s : State} (h : Canon s.dev) (u : State)
    (hu : execIcuModeWrite t v s = .next u) : Canon u.dev :=
  ran_canon (Dev.icuModeWrite_canon h) u hu

theorem execIcuHdoneWrite_canon {v} {s : State} (h : Canon s.dev) (u : State)
    (hu : execIcuHdoneWrite v s = .next u) : Canon u.dev :=
  ran_canon (Dev.icuHdoneWrite_canon h) u hu

theorem execMsixVectorUnmask_canon {vec fnMask msixEn} {s : State} (h : Canon s.dev) (u : State)
    (hu : execMsixVectorUnmask vec fnMask msixEn s = .next u) : Canon u.dev :=
  ran_canon (Dev.msixVectorUnmask_canon h) u hu

theorem execL1ExitDone_canon {s : State} (h : Canon s.dev) (u : State)
    (hu : execL1ExitDone s = .next u) : Canon u.dev :=
  ran_canon (Dev.l1ExitDone_canon h) u hu

theorem execPmeRepeat_canon {s : State} (h : Canon s.dev) (u : State)
    (hu : execPmeRepeat s = .next u) : Canon u.dev :=
  ran_canon (Dev.pmeRepeat_canon h) u hu

theorem execHostReattachMessages_canon {s : State} (h : Canon s.dev) (u : State)
    (hu : execHostReattachMessages s = .next u) : Canon u.dev :=
  ran_canon (Dev.hostReattachMessages_canon h) u hu

theorem execMsrEnable_canon {v} {s : State} (h : Canon s.dev) (u : State)
    (hu : execMsrEnable v s = .next u) : Canon u.dev :=
  ran_canon (Dev.wlzRunCheck_canon (Dev.enginesReady_canon (Dev.msrEnable_canon h))) u hu

theorem execMtrLookup_canon {c} {s : State} (h : Canon s.dev) (u : State)
    (hu : execMtrLookup c s = .next u) : Canon u.dev :=
  ran_canon (Dev.mtrLookup_canon h) u hu

theorem execMtrRead_canon {c} {s : State} (h : Canon s.dev) (u : State)
    (hu : execMtrRead c s = .next u) : Canon u.dev :=
  ran_canon (Dev.mtrRead_canon h) u hu

theorem execMtrWrite_canon {c} {s : State} (h : Canon s.dev) (u : State)
    (hu : execMtrWrite c s = .next u) : Canon u.dev := by
  refine ran_canon ?_ u hu
  refine Dev.mzkPromote_canon ?_
  · refine Dev.withData_canon ?_ ?_
    · exact h
    · intro x0 x1 hx2
      exact Dev.mtrWrite_canon hx2

theorem execMtrAdmit_canon {c} {s : State} (h : Canon s.dev) (u : State)
    (hu : execMtrAdmit c s = .next u) : Canon u.dev :=
  ran_canon (Dev.mzkPromote_canon (Dev.mtrAdmit_canon h)) u hu

theorem execMtrRelease_canon {c} {s : State} (h : Canon s.dev) (u : State)
    (hu : execMtrRelease c s = .next u) : Canon u.dev :=
  ran_canon (Dev.mtrRelease_canon h) u hu

theorem execMtrRetire_canon {c} {s : State} (h : Canon s.dev) (u : State)
    (hu : execMtrRetire c s = .next u) : Canon u.dev :=
  ran_canon (Dev.campPurge_canon (Dev.mtrRetire_canon h)) u hu

theorem execMtrFree_canon {c} {s : State} (h : Canon s.dev) (u : State)
    (hu : execMtrFree c s = .next u) : Canon u.dev :=
  ran_canon (Dev.campPurge_canon (Dev.mtrFree_canon h)) u hu

theorem execMtrMove_canon {c} {s : State} (h : Canon s.dev) (u : State)
    (hu : execMtrMove c s = .next u) : Canon u.dev :=
  ran_canon (Dev.mtrMove_canon h) u hu

theorem execMtrScan_canon {c} {s : State} (h : Canon s.dev) (u : State)
    (hu : execMtrScan c s = .next u) : Canon u.dev :=
  ran_canon (Dev.mtrScan_canon h) u hu

theorem execMtrPin_canon {c} {s : State} (h : Canon s.dev) (u : State)
    (hu : execMtrPin c s = .next u) : Canon u.dev :=
  ran_canon (Dev.mtrPin_canon h) u hu

theorem execMsrRecSelWrite_canon {v} {s : State} (h : Canon s.dev) (u : State)
    (hu : execMsrRecSelWrite v s = .next u) : Canon u.dev :=
  ran_canon (Dev.msrRecSelWrite_canon h) u hu

theorem execMsrRecCommit_canon {v} {s : State} (h : Canon s.dev) (u : State)
    (hu : execMsrRecCommit v s = .next u) : Canon u.dev :=
  ran_canon (Dev.msrRecCommit_canon h) u hu

theorem execSweepVisit_canon {idx} {s : State} (h : Canon s.dev) (u : State)
    (hu : execSweepVisit idx s = .next u) : Canon u.dev :=
  ran_canon (Dev.sweepVisit_canon h) u hu

theorem execMsrCheckpointPeriod_canon {s : State} (h : Canon s.dev) (u : State)
    (hu : execMsrCheckpointPeriod s = .next u) : Canon u.dev :=
  ran_canon (Dev.msrCheckpointPeriod_canon h) u hu

theorem execMsrCkptNow_canon {s : State} (h : Canon s.dev) (u : State)
    (hu : execMsrCkptNow s = .next u) : Canon u.dev :=
  ran_canon (Dev.msrCkptNow_canon h) u hu

theorem execMsrCheckpointDone_canon {ok} {s : State} (h : Canon s.dev) (u : State)
    (hu : execMsrCheckpointDone ok s = .next u) : Canon u.dev :=
  ran_canon (Dev.msrCheckpointDone_canon h) u hu

theorem execMsrRebuildDone_canon {copy0 copy1} {s : State} (h : Canon s.dev) (u : State)
    (hu : execMsrRebuildDone copy0 copy1 s = .next u) : Canon u.dev :=
  ran_canon (Dev.enginesReady_canon (Dev.msrRebuildDone_canon h)) u hu

theorem execMsrCleanAll_canon {s : State} (h : Canon s.dev) (u : State)
    (hu : execMsrCleanAll s = .next u) : Canon u.dev :=
  ran_canon (Dev.msrCleanAll_canon h) u hu

theorem execLaneFrame_canon {l} {s : State} (h : Canon s.dev) (u : State)
    (hu : execLaneFrame l s = .next u) : Canon u.dev :=
  ran_canon (Dev.laneFrame_canon h) u hu

theorem execLaneReplayWaitEnd_canon {l} {s : State} (h : Canon s.dev) (u : State)
    (hu : execLaneReplayWaitEnd l s = .next u) : Canon u.dev :=
  ran_canon (Dev.laneReplayWaitEnd_canon h) u hu

theorem execReelExqHeadWrite_canon {e v} {s : State} (h : Canon s.dev) (u : State)
    (hu : execReelExqHeadWrite e v s = .next u) : Canon u.dev :=
  ran_canon (Dev.reelExqHeadWrite_canon h) u hu

theorem execCommitPacket_canon {l} {s : State} (h : Canon s.dev) (u : State)
    (hu : execCommitPacket l s = .next u) : Canon u.dev :=
  ran_canon (Dev.mzkPromote_canon (Dev.commitPacket_canon h)) u hu

theorem execReservationDurable_canon {s : State} (h : Canon s.dev) (u : State)
    (hu : execReservationDurable s = .next u) : Canon u.dev :=
  ran_canon (Dev.mzkPromote_canon (Dev.campPurge_canon (Dev.reservationDurable_canon h))) u hu

theorem execCommitStallRelease_canon {s : State} (h : Canon s.dev) (u : State)
    (hu : execCommitStallRelease s = .next u) : Canon u.dev :=
  ran_canon (Dev.mzkPromote_canon (Dev.campPurge_canon (Dev.commitStallRelease_canon h))) u hu

theorem execStormReqClear_canon {s : State} (h : Canon s.dev) (u : State)
    (hu : execStormReqClear s = .next u) : Canon u.dev :=
  ran_canon (Dev.stormReqClear_canon h) u hu

theorem execReelSteerWrite_canon {w v} {s : State} (h : Canon s.dev) (u : State)
    (hu : execReelSteerWrite w v s = .next u) : Canon u.dev :=
  ran_canon (Dev.reelSteerWrite_canon h) u hu

theorem execSteerHandover_canon {k} {s : State} (h : Canon s.dev) (u : State)
    (hu : execSteerHandover k s = .next u) : Canon u.dev :=
  ran_canon (Dev.steerHandover_canon h) u hu

theorem execLaneTransientFault_canon {l} {s : State} (h : Canon s.dev) (u : State)
    (hu : execLaneTransientFault l s = .next u) : Canon u.dev :=
  ran_canon (Dev.laneTransientFault_canon h) u hu

theorem execLanePermanentFault_canon {l kind} {s : State} (h : Canon s.dev) (u : State)
    (hu : execLanePermanentFault l kind s = .next u) : Canon u.dev :=
  ran_canon (Dev.lanePermanentFault_canon h) u hu

theorem execLaneHang_canon {l} {s : State} (h : Canon s.dev) (u : State)
    (hu : execLaneHang l s = .next u) : Canon u.dev :=
  ran_canon (Dev.laneHang_canon h) u hu

theorem execLaneKatNow_canon {l} {s : State} (h : Canon s.dev) (u : State)
    (hu : execLaneKatNow l s = .next u) : Canon u.dev :=
  ran_canon (Dev.laneKatNow_canon h) u hu

theorem execLaneKatDone_canon {l pass} {s : State} (h : Canon s.dev) (u : State)
    (hu : execLaneKatDone l pass s = .next u) : Canon u.dev :=
  ran_canon (Dev.laneKatDone_canon h) u hu

theorem execReelEnable_canon {v} {s : State} (h : Canon s.dev) (u : State)
    (hu : execReelEnable v s = .next u) : Canon u.dev :=
  ran_canon (Dev.reelRunningCheck_canon (Dev.reelEnable_canon h)) u hu

theorem execReelRunningStart_canon {s : State} (h : Canon s.dev) (u : State)
    (hu : execReelRunningStart s = .next u) : Canon u.dev :=
  ran_canon (Dev.reelRunningStart_canon h) u hu

theorem execValEnable_canon {v} {s : State} (h : Canon s.dev) (u : State)
    (hu : execValEnable v s = .next u) : Canon u.dev :=
  ran_canon (Dev.reelRunningCheck_canon (Dev.valEnable_canon h)) u hu

theorem execValLoad_canon {c} {s : State} (h : Canon s.dev) (u : State)
    (hu : execValLoad c s = .next u) : Canon u.dev := by
  refine ran_canon ?_ u hu
  refine Dev.withData_canon ?_ ?_
  · exact h
  · intro x0 x1 hx2
    exact Dev.valLoad_canon hx2

theorem execValSwap_canon {c} {s : State} (h : Canon s.dev) (u : State)
    (hu : execValSwap c s = .next u) : Canon u.dev :=
  ran_canon (Dev.valSwap_canon h) u hu

theorem execValSwapDone_canon {s : State} (h : Canon s.dev) (u : State)
    (hu : execValSwapDone s = .next u) : Canon u.dev :=
  ran_canon (Dev.valSwapDone_canon h) u hu

theorem execValInject_canon {c} {s : State} (h : Canon s.dev) (u : State)
    (hu : execValInject c s = .next u) : Canon u.dev := by
  refine ran_canon ?_ u hu
  refine Dev.withData_canon ?_ ?_
  · exact h
  · intro x0 x1 hx2
    exact Dev.valInject_canon hx2

theorem execValPath_canon {c} {s : State} (h : Canon s.dev) (u : State)
    (hu : execValPath c s = .next u) : Canon u.dev :=
  ran_canon (Dev.valPath_canon h) u hu

theorem execValReseq_canon {c} {s : State} (h : Canon s.dev) (u : State)
    (hu : execValReseq c s = .next u) : Canon u.dev :=
  ran_canon (Dev.valReseq_canon h) u hu

theorem execWaltzEnable_canon {v} {s : State} (h : Canon s.dev) (u : State)
    (hu : execWaltzEnable v s = .next u) : Canon u.dev :=
  ran_canon (Dev.waltzEnable_canon h) u hu

theorem execWaltzRunningStart_canon {s : State} (h : Canon s.dev) (u : State)
    (hu : execWaltzRunningStart s = .next u) : Canon u.dev :=
  ran_canon (Dev.waltzRunningStart_canon h) u hu

theorem execWaltzFeed_canon {s : State} (h : Canon s.dev) (u : State)
    (hu : execWaltzFeed s = .next u) : Canon u.dev :=
  ran_canon (Dev.injectGoOn_canon (Dev.waltzFeed_canon h)) u hu

theorem execIntervalClose_canon {s : State} (h : Canon s.dev) (u : State)
    (hu : execIntervalClose s = .next u) : Canon u.dev :=
  ran_canon (Dev.intervalClose_canon h) u hu

theorem execEpisodeClose_canon {s : State} (h : Canon s.dev) (u : State)
    (hu : execEpisodeClose s = .next u) : Canon u.dev :=
  ran_canon (Dev.episodeClose_canon h) u hu

theorem execRestorationReport_canon {s : State} (h : Canon s.dev) (u : State)
    (hu : execRestorationReport s = .next u) : Canon u.dev :=
  ran_canon (Dev.restorationReport_canon h) u hu

theorem execInferencePeriodic_canon {s : State} (h : Canon s.dev) (u : State)
    (hu : execInferencePeriodic s = .next u) : Canon u.dev :=
  ran_canon (Dev.inferencePeriodic_canon h) u hu

theorem execInferNow_canon {s : State} (h : Canon s.dev) (u : State)
    (hu : execInferNow s = .next u) : Canon u.dev :=
  ran_canon (Dev.inferNow_canon h) u hu

theorem execInferencePassDone_canon {s : State} (h : Canon s.dev) (u : State)
    (hu : execInferencePassDone s = .next u) : Canon u.dev :=
  ran_canon (Dev.inferencePassDone_canon h) u hu

theorem execScorePeriodic_canon {s : State} (h : Canon s.dev) (u : State)
    (hu : execScorePeriodic s = .next u) : Canon u.dev :=
  ran_canon (Dev.scorePeriodic_canon h) u hu

theorem execScoreNow_canon {s : State} (h : Canon s.dev) (u : State)
    (hu : execScoreNow s = .next u) : Canon u.dev :=
  ran_canon (Dev.scoreNow_canon h) u hu

theorem execScoringPassDone_canon {s : State} (h : Canon s.dev) (u : State)
    (hu : execScoringPassDone s = .next u) : Canon u.dev :=
  ran_canon (Dev.scoringPassDone_canon h) u hu

theorem execWaltzRebuildDone_canon {s : State} (h : Canon s.dev) (u : State)
    (hu : execWaltzRebuildDone s = .next u) : Canon u.dev :=
  ran_canon (Dev.waltzRebuildDone_canon h) u hu

theorem execWlzNodeLoad_canon {c} {s : State} (h : Canon s.dev) (u : State)
    (hu : execWlzNodeLoad c s = .next u) : Canon u.dev := by
  refine ran_canon ?_ u hu
  refine Dev.withData_canon ?_ ?_
  · exact h
  · intro x0 x1 hx2
    exact Dev.wlzNodeLoad_canon hx2

theorem execWlzResults_canon {c} {s : State} (h : Canon s.dev) (u : State)
    (hu : execWlzResults c s = .next u) : Canon u.dev :=
  ran_canon (Dev.wlzResults_canon h) u hu

theorem execWlzRestoreRead_canon {c} {s : State} (h : Canon s.dev) (u : State)
    (hu : execWlzRestoreRead c s = .next u) : Canon u.dev :=
  ran_canon (Dev.wlzRestoreRead_canon h) u hu

theorem execWlzSuspRead_canon {c} {s : State} (h : Canon s.dev) (u : State)
    (hu : execWlzSuspRead c s = .next u) : Canon u.dev :=
  ran_canon (Dev.wlzSuspRead_canon h) u hu

theorem execWlzInfer_canon {c} {s : State} (h : Canon s.dev) (u : State)
    (hu : execWlzInfer c s = .next u) : Canon u.dev :=
  ran_canon (Dev.wlzInfer_canon h) u hu

theorem execWlzScore_canon {c} {s : State} (h : Canon s.dev) (u : State)
    (hu : execWlzScore c s = .next u) : Canon u.dev :=
  ran_canon (Dev.wlzScore_canon h) u hu

theorem execWlzAssign_canon {c} {s : State} (h : Canon s.dev) (u : State)
    (hu : execWlzAssign c s = .next u) : Canon u.dev :=
  ran_canon (Dev.wlzAssign_canon h) u hu

theorem execWlzProfile_canon {c} {s : State} (h : Canon s.dev) (u : State)
    (hu : execWlzProfile c s = .next u) : Canon u.dev :=
  ran_canon (Dev.wlzProfile_canon h) u hu

theorem execWlzRebuild_canon {c} {s : State} (h : Canon s.dev) (u : State)
    (hu : execWlzRebuild c s = .next u) : Canon u.dev :=
  ran_canon (Dev.wlzRebuild_canon h) u hu

theorem execWlzGroupLoad_canon {c} {s : State} (h : Canon s.dev) (u : State)
    (hu : execWlzGroupLoad c s = .next u) : Canon u.dev := by
  refine ran_canon ?_ u hu
  refine Dev.withData_canon ?_ ?_
  · exact h
  · intro x0 x1 hx2
    exact Dev.wlzGroupLoad_canon hx2

theorem execBolEnable_canon {v} {s : State} (h : Canon s.dev) (u : State)
    (hu : execBolEnable v s = .next u) : Canon u.dev :=
  ran_canon (Dev.bolEnable_canon h) u hu

theorem execBolCmd_canon {c} {s : State} (h : Canon s.dev) (u : State)
    (hu : execBolCmd c s = .next u) : Canon u.dev :=
  ran_canon (Dev.bolCmd_canon h) u hu

theorem execBolApdu_canon {c} {s : State} (h : Canon s.dev) (u : State)
    (hu : execBolApdu c s = .next u) : Canon u.dev := by
  refine ran_canon ?_ u hu
  refine Dev.withData_canon ?_ ?_
  · exact h
  · intro x0 x1 hx2
    exact Dev.bolApdu_canon hx2

theorem execBolCampLoad_canon {c} {s : State} (h : Canon s.dev) (u : State)
    (hu : execBolCampLoad c s = .next u) : Canon u.dev := by
  refine ran_canon ?_ u hu
  refine Dev.withData_canon ?_ ?_
  · exact h
  · intro x0 x1 hx2
    exact Dev.bolCampLoad_canon hx2

theorem execBolCampMembers_canon {c} {s : State} (h : Canon s.dev) (u : State)
    (hu : execBolCampMembers c s = .next u) : Canon u.dev := by
  refine ran_canon ?_ u hu
  refine Dev.withData_canon ?_ ?_
  · exact h
  · intro x0 x1 hx2
    exact Dev.bolCampMembers_canon hx2

theorem execBolCampStart_canon {c} {s : State} (h : Canon s.dev) (u : State)
    (hu : execBolCampStart c s = .next u) : Canon u.dev :=
  ran_canon (Dev.bolCampStart_canon h) u hu

theorem execBolCampActivate_canon {c} {s : State} (h : Canon s.dev) (u : State)
    (hu : execBolCampActivate c s = .next u) : Canon u.dev :=
  ran_canon (Dev.bolCampActivate_canon h) u hu

theorem execBolCampWait_canon {c} {s : State} (h : Canon s.dev) (u : State)
    (hu : execBolCampWait c s = .next u) : Canon u.dev :=
  ran_canon (Dev.bolCampWait_canon h) u hu

theorem execBolCampReport_canon {c} {s : State} (h : Canon s.dev) (u : State)
    (hu : execBolCampReport c s = .next u) : Canon u.dev :=
  ran_canon (Dev.bolCampReport_canon h) u hu

theorem execBolCampAbort_canon {c} {s : State} (h : Canon s.dev) (u : State)
    (hu : execBolCampAbort c s = .next u) : Canon u.dev :=
  ran_canon (Dev.bolCampAbort_canon h) u hu

theorem execBolCampFree_canon {c} {s : State} (h : Canon s.dev) (u : State)
    (hu : execBolCampFree c s = .next u) : Canon u.dev :=
  ran_canon (Dev.bolCampFree_canon h) u hu

theorem execBolGroupSet_canon {c} {s : State} (h : Canon s.dev) (u : State)
    (hu : execBolGroupSet c s = .next u) : Canon u.dev :=
  ran_canon (Dev.bolGroupSet_canon h) u hu

theorem execBolCmdStatus_canon {c} {s : State} (h : Canon s.dev) (u : State)
    (hu : execBolCmdStatus c s = .next u) : Canon u.dev :=
  ran_canon (Dev.bolCmdStatus_canon h) u hu

theorem execAckRequest_canon {s : State} (h : Canon s.dev) (u : State)
    (hu : execAckRequest s = .next u) : Canon u.dev :=
  ran_canon (Dev.ackRequest_canon h) u hu

theorem execAckDelayExpiry_canon {s : State} (h : Canon s.dev) (u : State)
    (hu : execAckDelayExpiry s = .next u) : Canon u.dev :=
  ran_canon (Dev.ackDelayExpiry_canon h) u hu

theorem execAckNotice_canon {s : State} (h : Canon s.dev) (u : State)
    (hu : execAckNotice s = .next u) : Canon u.dev :=
  ran_canon (Dev.ackNotice_canon h) u hu

theorem execPushStatusNotice_canon {s : State} (h : Canon s.dev) (u : State)
    (hu : execPushStatusNotice s = .next u) : Canon u.dev :=
  ran_canon (Dev.pushStatusNotice_canon h) u hu

theorem execCmdAttemptTimeout_canon {idx} {s : State} (h : Canon s.dev) (u : State)
    (hu : execCmdAttemptTimeout idx s = .next u) : Canon u.dev :=
  ran_canon (Dev.cmdAttemptTimeout_canon h) u hu

theorem execTokenWaitExpiry_canon {frame} {s : State} (h : Canon s.dev) (u : State)
    (hu : execTokenWaitExpiry frame s = .next u) : Canon u.dev :=
  ran_canon (Dev.tokenWaitExpiry_canon h) u hu

theorem execAnnounceRepeat_canon {slot path} {s : State} (h : Canon s.dev) (u : State)
    (hu : execAnnounceRepeat slot path s = .next u) : Canon u.dev :=
  ran_canon (Dev.announceRepeat_canon h) u hu

theorem execCampaignBlockPace_canon {slot path} {s : State} (h : Canon s.dev) (u : State)
    (hu : execCampaignBlockPace slot path s = .next u) : Canon u.dev :=
  ran_canon (Dev.campaignBlockPace_canon h) u hu

theorem execStatusWindowEnd_canon {slot path} {s : State} (h : Canon s.dev) (u : State)
    (hu : execStatusWindowEnd slot path s = .next u) : Canon u.dev :=
  ran_canon (Dev.statusWindowEnd_canon h) u hu

theorem execActivateAtReached_canon {slot} {s : State} (h : Canon s.dev) (u : State)
    (hu : execActivateAtReached slot s = .next u) : Canon u.dev :=
  ran_canon (Dev.activateAtReached_canon h) u hu

theorem execActivationWindowEnd_canon {slot path} {s : State} (h : Canon s.dev) (u : State)
    (hu : execActivationWindowEnd slot path s = .next u) : Canon u.dev :=
  ran_canon (Dev.activationWindowEnd_canon h) u hu

theorem execKeyRequest_canon {who handle eui purpose gen advance} {s : State} (h : Canon s.dev) (u : State)
    (hu : execKeyRequest who handle eui purpose gen advance s = .next u) : Canon u.dev :=
  ran_canon (Dev.keyRequest_canon h) u hu

theorem execKeyImport_canon {c} {s : State} (h : Canon s.dev) (u : State)
    (hu : execKeyImport c s = .next u) : Canon u.dev := by
  refine ran_canon ?_ u hu
  refine Dev.withData_canon ?_ ?_
  · exact h
  · intro x0 x1 hx2
    exact Dev.keyImport_canon hx2

theorem execKeyStage_canon {c} {s : State} (h : Canon s.dev) (u : State)
    (hu : execKeyStage c s = .next u) : Canon u.dev := by
  refine ran_canon ?_ u hu
  refine Dev.withData_canon ?_ ?_
  · exact h
  · intro x0 x1 hx2
    exact Dev.keyStage_canon hx2

theorem execKeyCommit_canon {c} {s : State} (h : Canon s.dev) (u : State)
    (hu : execKeyCommit c s = .next u) : Canon u.dev :=
  ran_canon (Dev.keyCommit_canon h) u hu

theorem execKeyAbandon_canon {c} {s : State} (h : Canon s.dev) (u : State)
    (hu : execKeyAbandon c s = .next u) : Canon u.dev :=
  ran_canon (Dev.keyAbandon_canon h) u hu

theorem execKeyDestroy_canon {c} {s : State} (h : Canon s.dev) (u : State)
    (hu : execKeyDestroy c s = .next u) : Canon u.dev :=
  ran_canon (Dev.keyDestroy_canon h) u hu

theorem execKeyInfo_canon {c} {s : State} (h : Canon s.dev) (u : State)
    (hu : execKeyInfo c s = .next u) : Canon u.dev :=
  ran_canon (Dev.keyInfo_canon h) u hu

theorem execKeyList_canon {c} {s : State} (h : Canon s.dev) (u : State)
    (hu : execKeyList c s = .next u) : Canon u.dev :=
  ran_canon (Dev.keyList_canon h) u hu

theorem execKeySuccessor_canon {c} {s : State} (h : Canon s.dev) (u : State)
    (hu : execKeySuccessor c s = .next u) : Canon u.dev :=
  ran_canon (Dev.keySuccessor_canon h) u hu

theorem execKeyRootWrap_canon {c} {s : State} (h : Canon s.dev) (u : State)
    (hu : execKeyRootWrap c s = .next u) : Canon u.dev :=
  ran_canon (Dev.keyRootWrap_canon h) u hu

theorem execKeyInit_canon {c} {s : State} (h : Canon s.dev) (u : State)
    (hu : execKeyInit c s = .next u) : Canon u.dev :=
  ran_canon (Dev.injectGoOn_canon (Dev.enginesReady_canon (Dev.keyInit_canon h))) u hu

theorem execKeyZeroise_canon {c} {s : State} (h : Canon s.dev) (u : State)
    (hu : execKeyZeroise c s = .next u) : Canon u.dev :=
  ran_canon (Dev.enginesReady_canon (Dev.keyZeroise_canon h)) u hu

theorem execPavUnlock_canon {s : State} (h : Canon s.dev) (u : State)
    (hu : execPavUnlock s = .next u) : Canon u.dev :=
  ran_canon (Dev.pavUnlock_canon h) u hu

theorem execPavUnlockDone_canon {s : State} (h : Canon s.dev) (u : State)
    (hu : execPavUnlockDone s = .next u) : Canon u.dev :=
  ran_canon (Dev.injectGoOn_canon (Dev.keyHeldRetry_canon (Dev.enginesReady_canon (Dev.pavUnlockDone_canon h)))) u hu

theorem execPavLock_canon {s : State} (h : Canon s.dev) (u : State)
    (hu : execPavLock s = .next u) : Canon u.dev :=
  ran_canon (Dev.enginesReady_canon (Dev.pavLock_canon h)) u hu

theorem execPavCacheFlush_canon {s : State} (h : Canon s.dev) (u : State)
    (hu : execPavCacheFlush s = .next u) : Canon u.dev :=
  ran_canon (Dev.pavCacheFlush_canon h) u hu

theorem execPavKatNow_canon {pass} {s : State} (h : Canon s.dev) (u : State)
    (hu : execPavKatNow pass s = .next u) : Canon u.dev :=
  ran_canon (Dev.pavKatNow_canon h) u hu

theorem execTamperTrip_canon {sensor detail stays} {s : State} (h : Canon s.dev) (u : State)
    (hu : execTamperTrip sensor detail stays s = .next u) : Canon u.dev :=
  ran_canon (Dev.enginesReady_canon (Dev.tamperTrip_canon h)) u hu

theorem execTamperArm_canon {s : State} (h : Canon s.dev) (u : State)
    (hu : execTamperArm s = .next u) : Canon u.dev :=
  ran_canon (Dev.tamperArm_canon h) u hu

theorem execZeroiseNow_canon {s : State} (h : Canon s.dev) (u : State)
    (hu : execZeroiseNow s = .next u) : Canon u.dev :=
  ran_canon (Dev.enginesReady_canon (Dev.zeroiseNow_canon h)) u hu

theorem execTamperLogClear_canon {s : State} (h : Canon s.dev) (u : State)
    (hu : execTamperLogClear s = .next u) : Canon u.dev :=
  ran_canon (Dev.tamperLogClear_canon h) u hu

theorem execNvmProgramDone_canon {ok} {s : State} (h : Canon s.dev) (u : State)
    (hu : execNvmProgramDone ok s = .next u) : Canon u.dev :=
  ran_canon (Dev.injectGoOn_canon (Dev.keyHeldRetry_canon (Dev.enginesReady_canon (Dev.nvmProgramDone_canon h)))) u hu

theorem execPlcSuperframeStart_canon {n} {s : State} (h : Canon s.dev) (u : State)
    (hu : execPlcSuperframeStart n s = .next u) : Canon u.dev :=
  ran_canon (Dev.plcSuperframeStart_canon h) u hu

theorem execPlcDataSegment_canon {n m} {s : State} (h : Canon s.dev) (u : State)
    (hu : execPlcDataSegment n m s = .next u) : Canon u.dev :=
  ran_canon (Dev.plcDataSegment_canon h) u hu

theorem execPlcSack_canon {n m} {s : State} (h : Canon s.dev) (u : State)
    (hu : execPlcSack n m s = .next u) : Canon u.dev :=
  ran_canon (Dev.plcSack_canon h) u hu

theorem execPlcAssocReq_canon {n m} {s : State} (h : Canon s.dev) (u : State)
    (hu : execPlcAssocReq n m s = .next u) : Canon u.dev :=
  ran_canon (Dev.plcAssocReq_canon h) u hu

theorem execPlcAlive_canon {n m} {s : State} (h : Canon s.dev) (u : State)
    (hu : execPlcAlive n m s = .next u) : Canon u.dev :=
  ran_canon (Dev.plcAlive_canon h) u hu

theorem execPlcTmReq_canon {n m} {s : State} (h : Canon s.dev) (u : State)
    (hu : execPlcTmReq n m s = .next u) : Canon u.dev :=
  ran_canon (Dev.plcTmReq_canon h) u hu

theorem execPlcTmRsp_canon {n m} {s : State} (h : Canon s.dev) (u : State)
    (hu : execPlcTmRsp n m s = .next u) : Canon u.dev :=
  ran_canon (Dev.plcTmRsp_canon h) u hu

theorem execPlcLeave_canon {n m} {s : State} (h : Canon s.dev) (u : State)
    (hu : execPlcLeave n m s = .next u) : Canon u.dev :=
  ran_canon (Dev.plcLeave_canon h) u hu

theorem execPlcReassemblyExpiry_canon {n src fid} {s : State} (h : Canon s.dev) (u : State)
    (hu : execPlcReassemblyExpiry n src fid s = .next u) : Canon u.dev :=
  ran_canon (Dev.plcReassemblyExpiry_canon h) u hu

theorem execPlcStandingGrantMiss_canon {n src} {s : State} (h : Canon s.dev) (u : State)
    (hu : execPlcStandingGrantMiss n src s = .next u) : Canon u.dev :=
  ran_canon (Dev.plcStandingGrantMiss_canon h) u hu

theorem execPlcZcEdge_canon {n falling} {s : State} (h : Canon s.dev) (u : State)
    (hu : execPlcZcEdge n falling s = .next u) : Canon u.dev :=
  ran_canon (Dev.plcZcEdge_canon h) u hu

theorem execPlcDlRelease_canon {n} {s : State} (h : Canon s.dev) (u : State)
    (hu : execPlcDlRelease n s = .next u) : Canon u.dev :=
  ran_canon (Dev.plcDlRelease_canon h) u hu

theorem execPlcDlRetryExpiry_canon {n frame} {s : State} (h : Canon s.dev) (u : State)
    (hu : execPlcDlRetryExpiry n frame s = .next u) : Canon u.dev :=
  ran_canon (Dev.plcDlRetryExpiry_canon h) u hu

theorem execPlcEnable_canon {n v} {s : State} (h : Canon s.dev) (u : State)
    (hu : execPlcEnable n v s = .next u) : Canon u.dev :=
  ran_canon (Dev.plcEnable_canon h) u hu

theorem execPlcListenEnd_canon {n} {s : State} (h : Canon s.dev) (u : State)
    (hu : execPlcListenEnd n s = .next u) : Canon u.dev :=
  ran_canon (Dev.plcListenEnd_canon h) u hu

theorem execPlcBeaconForce_canon {n} {s : State} (h : Canon s.dev) (u : State)
    (hu : execPlcBeaconForce n s = .next u) : Canon u.dev :=
  ran_canon (Dev.plcBeaconForce_canon h) u hu

theorem execPlcAtSelWrite_canon {n v} {s : State} (h : Canon s.dev) (u : State)
    (hu : execPlcAtSelWrite n v s = .next u) : Canon u.dev :=
  ran_canon (Dev.plcAtSelWrite_canon h) u hu

theorem execPlcTransientFault_canon {n} {s : State} (h : Canon s.dev) (u : State)
    (hu : execPlcTransientFault n s = .next u) : Canon u.dev :=
  ran_canon (Dev.plcTransientFault_canon h) u hu

theorem execPlcPermanentFault_canon {n cause} {s : State} (h : Canon s.dev) (u : State)
    (hu : execPlcPermanentFault n cause s = .next u) : Canon u.dev :=
  ran_canon (Dev.plcPermanentFault_canon h) u hu

theorem execPlcRxBeacon_canon {n sfn} {s : State} (h : Canon s.dev) (u : State)
    (hu : execPlcRxBeacon n sfn s = .next u) : Canon u.dev :=
  ran_canon (Dev.plcRxBeacon_canon h) u hu

theorem execMzkBeaconSend_canon {n} {s : State} (h : Canon s.dev) (u : State)
    (hu : execMzkBeaconSend n s = .next u) : Canon u.dev :=
  ran_canon (Dev.mzkBeaconSend_canon h) u hu

theorem execMzkRxData_canon {n m} {s : State} (h : Canon s.dev) (u : State)
    (hu : execMzkRxData n m s = .next u) : Canon u.dev :=
  ran_canon (Dev.mzkRxData_canon h) u hu

theorem execMzkRxMack_canon {n m} {s : State} (h : Canon s.dev) (u : State)
    (hu : execMzkRxMack n m s = .next u) : Canon u.dev :=
  ran_canon (Dev.mzkRxMack_canon h) u hu

theorem execMzkMackTimeout_canon {n csma} {s : State} (h : Canon s.dev) (u : State)
    (hu : execMzkMackTimeout n csma s = .next u) : Canon u.dev :=
  ran_canon (Dev.mzkMackTimeout_canon h) u hu

theorem execMzkRxAssocReq_canon {n m} {s : State} (h : Canon s.dev) (u : State)
    (hu : execMzkRxAssocReq n m s = .next u) : Canon u.dev :=
  ran_canon (Dev.mzkRxAssocReq_canon h) u hu

theorem execMzkRxRouteAck_canon {n m} {s : State} (h : Canon s.dev) (u : State)
    (hu : execMzkRxRouteAck n m s = .next u) : Canon u.dev :=
  ran_canon (Dev.mzkRxRouteAck_canon h) u hu

theorem execMzkRouteAckTimeout_canon {n meter} {s : State} (h : Canon s.dev) (u : State)
    (hu : execMzkRouteAckTimeout n meter s = .next u) : Canon u.dev :=
  ran_canon (Dev.mzkRouteAckTimeout_canon h) u hu

theorem execMzkRxKeep_canon {n m} {s : State} (h : Canon s.dev) (u : State)
    (hu : execMzkRxKeep n m s = .next u) : Canon u.dev :=
  ran_canon (Dev.mzkRxKeep_canon h) u hu

theorem execMzkRxLeave_canon {n m} {s : State} (h : Canon s.dev) (u : State)
    (hu : execMzkRxLeave n m s = .next u) : Canon u.dev :=
  ran_canon (Dev.mzkRxLeave_canon h) u hu

theorem execMzkCellSilent_canon {n short} {s : State} (h : Canon s.dev) (u : State)
    (hu : execMzkCellSilent n short s = .next u) : Canon u.dev :=
  ran_canon (Dev.mzkCellSilent_canon h) u hu

theorem execMzkEventAnchor_canon {n conn e upd} {s : State} (h : Canon s.dev) (u : State)
    (hu : execMzkEventAnchor n conn e upd s = .next u) : Canon u.dev :=
  ran_canon (Dev.mzkEventAnchor_canon h) u hu

theorem execMzkAdvSend_canon {n} {s : State} (h : Canon s.dev) (u : State)
    (hu : execMzkAdvSend n s = .next u) : Canon u.dev :=
  ran_canon (Dev.mzkAdvSend_canon h) u hu

theorem execMzkRxConnReq_canon {n m} {s : State} (h : Canon s.dev) (u : State)
    (hu : execMzkRxConnReq n m s = .next u) : Canon u.dev :=
  ran_canon (Dev.mzkRxConnReq_canon h) u hu

theorem execMzkConnUpdInstant_canon {n conn} {s : State} (h : Canon s.dev) (u : State)
    (hu : execMzkConnUpdInstant n conn s = .next u) : Canon u.dev :=
  ran_canon (Dev.mzkConnUpdInstant_canon h) u hu

theorem execMzkSupTimeout_canon {n conn} {s : State} (h : Canon s.dev) (u : State)
    (hu : execMzkSupTimeout n conn s = .next u) : Canon u.dev :=
  ran_canon (Dev.mzkSupTimeout_canon h) u hu

theorem execMzkConnHoldExpiry_canon {n conn} {s : State} (h : Canon s.dev) (u : State)
    (hu : execMzkConnHoldExpiry n conn s = .next u) : Canon u.dev :=
  ran_canon (Dev.mzkConnHoldExpiry_canon h) u hu

theorem execMzkResumeTimeout_canon {n} {s : State} (h : Canon s.dev) (u : State)
    (hu : execMzkResumeTimeout n s = .next u) : Canon u.dev :=
  ran_canon (Dev.mzkResumeTimeout_canon h) u hu

theorem execMzkDcRelease_canon {n} {s : State} (h : Canon s.dev) (u : State)
    (hu : execMzkDcRelease n s = .next u) : Canon u.dev :=
  ran_canon (Dev.mzkDcRelease_canon h) u hu

theorem execMzkDlRelease_canon {n} {s : State} (h : Canon s.dev) (u : State)
    (hu : execMzkDlRelease n s = .next u) : Canon u.dev :=
  ran_canon (Dev.mzkDlRelease_canon h) u hu

theorem execMzkEnable_canon {n v} {s : State} (h : Canon s.dev) (u : State)
    (hu : execMzkEnable n v s = .next u) : Canon u.dev :=
  ran_canon (Dev.mzkEnable_canon h) u hu

theorem execMzkListenEnd_canon {n} {s : State} (h : Canon s.dev) (u : State)
    (hu : execMzkListenEnd n s = .next u) : Canon u.dev :=
  ran_canon (Dev.mzkPromote_canon (Dev.mzkListenEnd_canon h)) u hu

theorem execMzkBeaconForce_canon {n} {s : State} (h : Canon s.dev) (u : State)
    (hu : execMzkBeaconForce n s = .next u) : Canon u.dev :=
  ran_canon (Dev.mzkBeaconForce_canon h) u hu

theorem execMzkTransientFault_canon {n} {s : State} (h : Canon s.dev) (u : State)
    (hu : execMzkTransientFault n s = .next u) : Canon u.dev :=
  ran_canon (Dev.mzkTransientFault_canon h) u hu

theorem execMzkPermanentFault_canon {n cause} {s : State} (h : Canon s.dev) (u : State)
    (hu : execMzkPermanentFault n cause s = .next u) : Canon u.dev :=
  ran_canon (Dev.mzkPermanentFault_canon h) u hu

theorem execMzkRxBeacon_canon {n bseq routeVer} {s : State} (h : Canon s.dev) (u : State)
    (hu : execMzkRxBeacon n bseq routeVer s = .next u) : Canon u.dev :=
  ran_canon (Dev.mzkRxBeacon_canon h) u hu

theorem execMzkSilentEvent_canon {n conn} {s : State} (h : Canon s.dev) (u : State)
    (hu : execMzkSilentEvent n conn s = .next u) : Canon u.dev :=
  ran_canon (Dev.mzkSilentEvent_canon h) u hu

theorem execTsuSchemeWrite_canon {scheme} {s : State} (h : Canon s.dev) (u : State)
    (hu : execTsuSchemeWrite scheme s = .next u) : Canon u.dev :=
  ran_canon (Dev.tsuSchemeWrite_canon h) u hu

theorem execTsuRateWrite_canon {v} {s : State} (h : Canon s.dev) (u : State)
    (hu : execTsuRateWrite v s = .next u) : Canon u.dev :=
  ran_canon (Dev.tsuRateWrite_canon h) u hu

theorem execTsuAdjStep_canon {s : State} (h : Canon s.dev) (u : State)
    (hu : execTsuAdjStep s = .next u) : Canon u.dev :=
  ran_canon (Dev.tsuAdjStep_canon h) u hu

theorem execTsuAdjSlew_canon {s : State} (h : Canon s.dev) (u : State)
    (hu : execTsuAdjSlew s = .next u) : Canon u.dev :=
  ran_canon (Dev.tsuAdjSlew_canon h) u hu

theorem execTsuAdjSet_canon {s : State} (h : Canon s.dev) (u : State)
    (hu : execTsuAdjSet s = .next u) : Canon u.dev :=
  ran_canon (Dev.tsuAdjSet_canon h) u hu

theorem execSlewEnd_canon {s : State} (h : Canon s.dev) (u : State)
    (hu : execSlewEnd s = .next u) : Canon u.dev :=
  ran_canon (Dev.slewEnd_canon h) u hu

theorem execPpsEdge_canon {falling} {s : State} (h : Canon s.dev) (u : State)
    (hu : execPpsEdge falling s = .next u) : Canon u.dev :=
  ran_canon (Dev.ppsEdge_canon h) u hu

theorem execPpsHoldover_canon {s : State} (h : Canon s.dev) (u : State)
    (hu : execPpsHoldover s = .next u) : Canon u.dev :=
  ran_canon (Dev.ppsHoldover_canon h) u hu

theorem execRtcSecondSync_canon {s : State} (h : Canon s.dev) (u : State)
    (hu : execRtcSecondSync s = .next u) : Canon u.dev :=
  ran_canon (Dev.rtcSecondSync_canon h) u hu

theorem execRtcSecWrite_canon {v} {s : State} (h : Canon s.dev) (u : State)
    (hu : execRtcSecWrite v s = .next u) : Canon u.dev :=
  ran_canon (Dev.rtcSecWrite_canon h) u hu

theorem execPulseArm_canon {k} {s : State} (h : Canon s.dev) (u : State)
    (hu : execPulseArm k s = .next u) : Canon u.dev :=
  ran_canon (Dev.pulseArm_canon h) u hu

theorem execPulseLeadingEdge_canon {k} {s : State} (h : Canon s.dev) (u : State)
    (hu : execPulseLeadingEdge k s = .next u) : Canon u.dev :=
  ran_canon (Dev.pulseLeadingEdge_canon h) u hu

theorem execPulseTrailingEdge_canon {k} {s : State} (h : Canon s.dev) (u : State)
    (hu : execPulseTrailingEdge k s = .next u) : Canon u.dev :=
  ran_canon (Dev.pulseTrailingEdge_canon h) u hu

theorem execTeBuf_canon {c} {s : State} (h : Canon s.dev) (u : State)
    (hu : execTeBuf c s = .next u) : Canon u.dev :=
  ran_canon (Dev.teBuf_canon h) u hu

theorem execTeAdj_canon {c} {s : State} (h : Canon s.dev) (u : State)
    (hu : execTeAdj c s = .next u) : Canon u.dev :=
  ran_canon (Dev.teAdj_canon h) u hu

theorem execTimeEventDeliver_canon {s : State} (h : Canon s.dev) (u : State)
    (hu : execTimeEventDeliver s = .next u) : Canon u.dev :=
  ran_canon (Dev.timeEventDeliver_canon h) u hu

theorem execTsuNowRead_canon {m} {s : State} (h : Canon s.dev) (u : State)
    (hu : execTsuNowRead m s = .next u) : Canon u.dev :=
  ran_canon (Dev.tsuNowRead_canon h) u hu

theorem execTsuConvWrite_canon {m v} {s : State} (h : Canon s.dev) (u : State)
    (hu : execTsuConvWrite m v s = .next u) : Canon u.dev :=
  ran_canon (Dev.tsuConvWrite_canon h) u hu

theorem execTsuEvtPop_canon {s : State} (h : Canon s.dev) (u : State)
    (hu : execTsuEvtPop s = .next u) : Canon u.dev :=
  ran_canon (Dev.tsuEvtPop_canon h) u hu

theorem execEthEnable_canon {n v} {s : State} (h : Canon s.dev) (u : State)
    (hu : execEthEnable n v s = .next u) : Canon u.dev :=
  ran_canon (Dev.ethEnable_canon h) u hu

theorem execEthFrameReceive_canon {n m} {s : State} (h : Canon s.dev) (u : State)
    (hu : execEthFrameReceive n m s = .next u) : Canon u.dev :=
  ran_canon (Dev.ethFrameReceive_canon h) u hu

theorem execPauseExpiry_canon {n cls} {s : State} (h : Canon s.dev) (u : State)
    (hu : execPauseExpiry n cls s = .next u) : Canon u.dev :=
  ran_canon (Dev.pauseExpiry_canon h) u hu

theorem execPauseStorm_canon {n} {s : State} (h : Canon s.dev) (u : State)
    (hu : execPauseStorm n s = .next u) : Canon u.dev :=
  ran_canon (Dev.pauseStorm_canon h) u hu

theorem execPauseResend_canon {n part} {s : State} (h : Canon s.dev) (u : State)
    (hu : execPauseResend n part s = .next u) : Canon u.dev :=
  ran_canon (Dev.pauseResend_canon h) u hu

theorem execXonPauseSend_canon {n part} {s : State} (h : Canon s.dev) (u : State)
    (hu : execXonPauseSend n part s = .next u) : Canon u.dev :=
  ran_canon (Dev.xonPauseSend_canon h) u hu

theorem execEthTxqPost_canon {q v} {s : State} (h : Canon s.dev) (u : State)
    (hu : execEthTxqPost q v s = .next u) : Canon u.dev :=
  ran_canon (Dev.ethTxqPost_canon h) u hu

theorem execEthTxDone_canon {n} {s : State} (h : Canon s.dev) (u : State)
    (hu : execEthTxDone n s = .next u) : Canon u.dev :=
  ran_canon (Dev.ethTxDone_canon h) u hu

theorem execTunnelDownlinkSend_canon {conc} {s : State} (h : Canon s.dev) (u : State)
    (hu : execTunnelDownlinkSend conc s = .next u) : Canon u.dev :=
  ran_canon (Dev.tunnelDownlinkSend_canon h) u hu

theorem execKeepaliveSend_canon {s : State} (h : Canon s.dev) (u : State)
    (hu : execKeepaliveSend s = .next u) : Canon u.dev :=
  ran_canon (Dev.keepaliveSend_canon h) u hu

theorem execConcSilent_canon {conc} {s : State} (h : Canon s.dev) (u : State)
    (hu : execConcSilent conc s = .next u) : Canon u.dev :=
  ran_canon (Dev.concSilent_canon h) u hu

theorem execFdbAgeOut_canon {mac vid} {s : State} (h : Canon s.dev) (u : State)
    (hu : execFdbAgeOut mac vid s = .next u) : Canon u.dev :=
  ran_canon (Dev.fdbAgeOut_canon h) u hu

theorem execEthConcSelWrite_canon {v} {s : State} (h : Canon s.dev) (u : State)
    (hu : execEthConcSelWrite v s = .next u) : Canon u.dev :=
  ran_canon (Dev.ethConcSelWrite_canon h) u hu

theorem execEthConcCommit_canon {s : State} (h : Canon s.dev) (u : State)
    (hu : execEthConcCommit s = .next u) : Canon u.dev :=
  ran_canon (Dev.ethConcCommit_canon h) u hu

theorem execSaInstall_canon {c} {s : State} (h : Canon s.dev) (u : State)
    (hu : execSaInstall c s = .next u) : Canon u.dev := by
  refine ran_canon ?_ u hu
  refine Dev.withData_canon ?_ ?_
  · exact h
  · intro x0 x1 hx2
    exact Dev.saInstall_canon hx2

theorem execSaTxSwitch_canon {c} {s : State} (h : Canon s.dev) (u : State)
    (hu : execSaTxSwitch c s = .next u) : Canon u.dev :=
  ran_canon (Dev.saTxSwitch_canon h) u hu

theorem execSaDelete_canon {c} {s : State} (h : Canon s.dev) (u : State)
    (hu : execSaDelete c s = .next u) : Canon u.dev :=
  ran_canon (Dev.saDelete_canon h) u hu

theorem execEthWakeCfgWrite_canon {v} {s : State} (h : Canon s.dev) (u : State)
    (hu : execEthWakeCfgWrite v s = .next u) : Canon u.dev :=
  ran_canon (Dev.ethWakeCfgWrite_canon h) u hu

theorem execEthWake_canon {n frame} {s : State} (h : Canon s.dev) (u : State)
    (hu : execEthWake n frame s = .next u) : Canon u.dev :=
  ran_canon (Dev.ethWake_canon h) u hu

theorem execEthLinkChange_canon {n up rate} {s : State} (h : Canon s.dev) (u : State)
    (hu : execEthLinkChange n up rate s = .next u) : Canon u.dev :=
  ran_canon (Dev.ethLinkChange_canon h) u hu

theorem execEthTransientFault_canon {n fec} {s : State} (h : Canon s.dev) (u : State)
    (hu : execEthTransientFault n fec s = .next u) : Canon u.dev :=
  ran_canon (Dev.ethTransientFault_canon h) u hu

theorem execEthPermanentFault_canon {n cause} {s : State} (h : Canon s.dev) (u : State)
    (hu : execEthPermanentFault n cause s = .next u) : Canon u.dev :=
  ran_canon (Dev.ethPermanentFault_canon h) u hu

theorem execPauseIgnoreEnd_canon {n} {s : State} (h : Canon s.dev) (u : State)
    (hu : execPauseIgnoreEnd n s = .next u) : Canon u.dev :=
  ran_canon (Dev.pauseIgnoreEnd_canon h) u hu

theorem execGavEnable_canon {v} {s : State} (h : Canon s.dev) (u : State)
    (hu : execGavEnable v s = .next u) : Canon u.dev :=
  ran_canon (Dev.gavEnable_canon h) u hu

theorem execGavMount_canon {rootOk dieOk} {s : State} (h : Canon s.dev) (u : State)
    (hu : execGavMount rootOk dieOk s = .next u) : Canon u.dev :=
  ran_canon (Dev.gavMount_canon h) u hu

theorem execGavMountDone_canon {s : State} (h : Canon s.dev) (u : State)
    (hu : execGavMountDone s = .next u) : Canon u.dev :=
  ran_canon (Dev.campPurge_canon (Dev.enginesReady_canon (Dev.gavMountDone_canon h))) u hu

theorem execGavSectorProgram_canon {s : State} (h : Canon s.dev) (u : State)
    (hu : execGavSectorProgram s = .next u) : Canon u.dev :=
  ran_canon (Dev.gavSectorProgram_canon h) u hu

theorem execGavPartialFlush_canon {s : State} (h : Canon s.dev) (u : State)
    (hu : execGavPartialFlush s = .next u) : Canon u.dev :=
  ran_canon (Dev.gavPartialFlush_canon h) u hu

theorem execGavProgramDone_canon {ok} {s : State} (h : Canon s.dev) (u : State)
    (hu : execGavProgramDone ok s = .next u) : Canon u.dev :=
  ran_canon (Dev.gavProgramDone_canon h) u hu

theorem execGavJournalSector_canon {ok} {s : State} (h : Canon s.dev) (u : State)
    (hu : execGavJournalSector ok s = .next u) : Canon u.dev :=
  ran_canon (Dev.gavJournalSector_canon h) u hu

theorem execGavSysvalWrite_canon {id v} {s : State} (h : Canon s.dev) (u : State)
    (hu : execGavSysvalWrite id v s = .next u) : Canon u.dev :=
  ran_canon (Dev.gavSysvalWrite_canon h) u hu

theorem execGavGcStart_canon {die} {s : State} (h : Canon s.dev) (u : State)
    (hu : execGavGcStart die s = .next u) : Canon u.dev :=
  ran_canon (Dev.gavGcStart_canon h) u hu

theorem execGavGcCopyDone_canon {die reads targetOk} {s : State} (h : Canon s.dev) (u : State)
    (hu : execGavGcCopyDone die reads targetOk s = .next u) : Canon u.dev :=
  ran_canon (Dev.gavGcCopyDone_canon h) u hu

theorem execGavGcErase_canon {die} {s : State} (h : Canon s.dev) (u : State)
    (hu : execGavGcErase die s = .next u) : Canon u.dev :=
  ran_canon (Dev.gavGcErase_canon h) u hu

theorem execGavEraseDone_canon {die ok} {s : State} (h : Canon s.dev) (u : State)
    (hu : execGavEraseDone die ok s = .next u) : Canon u.dev :=
  ran_canon (Dev.gavEraseDone_canon h) u hu

theorem execGavDieFault_canon {die permanent lost} {s : State} (h : Canon s.dev) (u : State)
    (hu : execGavDieFault die permanent lost s = .next u) : Canon u.dev :=
  ran_canon (Dev.gavDieFault_canon h) u hu

theorem execArcRead_canon {c reads} {s : State} (h : Canon s.dev) (u : State)
    (hu : execArcRead c reads s = .next u) : Canon u.dev :=
  ran_canon (Dev.arcRead_canon h) u hu

theorem execArcBlkRead_canon {c reads} {s : State} (h : Canon s.dev) (u : State)
    (hu : execArcBlkRead c reads s = .next u) : Canon u.dev :=
  ran_canon (Dev.arcBlkRead_canon h) u hu

theorem execArcBlkWrite_canon {c} {s : State} (h : Canon s.dev) (u : State)
    (hu : execArcBlkWrite c s = .next u) : Canon u.dev := by
  refine ran_canon ?_ u hu
  refine Dev.withData_canon ?_ ?_
  · exact h
  · intro x0 x1 hx2
    exact Dev.arcBlkWrite_canon hx2

theorem execArcTrim_canon {c} {s : State} (h : Canon s.dev) (u : State)
    (hu : execArcTrim c s = .next u) : Canon u.dev :=
  ran_canon (Dev.arcTrim_canon h) u hu

theorem execArcSdiscard_canon {c} {s : State} (h : Canon s.dev) (u : State)
    (hu : execArcSdiscard c s = .next u) : Canon u.dev :=
  ran_canon (Dev.arcSdiscard_canon h) u hu

theorem execArcFlush_canon {c} {s : State} (h : Canon s.dev) (u : State)
    (hu : execArcFlush c s = .next u) : Canon u.dev :=
  ran_canon (Dev.arcFlush_canon h) u hu

theorem execGavFormat_canon {c} {s : State} (h : Canon s.dev) (u : State)
    (hu : execGavFormat c s = .next u) : Canon u.dev :=
  ran_canon (Dev.gavFormat_canon h) u hu

theorem execGavInfo_canon {c} {s : State} (h : Canon s.dev) (u : State)
    (hu : execGavInfo c s = .next u) : Canon u.dev :=
  ran_canon (Dev.gavInfo_canon h) u hu

theorem execGavSdiscardSeq_canon {c} {s : State} (h : Canon s.dev) (u : State)
    (hu : execGavSdiscardSeq c s = .next u) : Canon u.dev :=
  ran_canon (Dev.gavSdiscardSeq_canon h) u hu

theorem execGavGcNow_canon {c} {s : State} (h : Canon s.dev) (u : State)
    (hu : execGavGcNow c s = .next u) : Canon u.dev :=
  ran_canon (Dev.gavGcNow_canon h) u hu

theorem execGavMarkLostClear_canon {c} {s : State} (h : Canon s.dev) (u : State)
    (hu : execGavMarkLostClear c s = .next u) : Canon u.dev :=
  ran_canon (Dev.gavMarkLostClear_canon h) u hu

theorem execEplLinkUp_canon {s : State} (h : Canon s.dev) (u : State)
    (hu : execEplLinkUp s = .next u) : Canon u.dev :=
  ran_canon (Dev.eplLinkUp_canon h) u hu

theorem execEplLinkDown_canon {s : State} (h : Canon s.dev) (u : State)
    (hu : execEplLinkDown s = .next u) : Canon u.dev :=
  ran_canon (Dev.eplLinkDown_canon h) u hu

theorem execEplHelloTimer_canon {s : State} (h : Canon s.dev) (u : State)
    (hu : execEplHelloTimer s = .next u) : Canon u.dev :=
  ran_canon (Dev.eplHelloTimer_canon h) u hu

theorem execEplHelloTimeout_canon {s : State} (h : Canon s.dev) (u : State)
    (hu : execEplHelloTimeout s = .next u) : Canon u.dev :=
  ran_canon (Dev.eplHelloTimeout_canon h) u hu

theorem execEplRetransmitTimeout_canon {s : State} (h : Canon s.dev) (u : State)
    (hu : execEplRetransmitTimeout s = .next u) : Canon u.dev :=
  ran_canon (Dev.eplRetransmitTimeout_canon h) u hu

theorem execHello_canon {m} {s : State} (h : Canon s.dev) (u : State)
    (hu : execHello m s = .next u) : Canon u.dev :=
  ran_canon (Dev.hello_canon h) u hu

theorem execLease_canon {m} {s : State} (h : Canon s.dev) (u : State)
    (hu : execLease m s = .next u) : Canon u.dev :=
  ran_canon (Dev.lease_canon h) u hu

theorem execLeaseAck_canon {m} {s : State} (h : Canon s.dev) (u : State)
    (hu : execLeaseAck m s = .next u) : Canon u.dev :=
  ran_canon (Dev.leaseAck_canon h) u hu

theorem execTokenRelease_canon {m} {s : State} (h : Canon s.dev) (u : State)
    (hu : execTokenRelease m s = .next u) : Canon u.dev :=
  ran_canon (Dev.tokenRelease_canon h) u hu

theorem execDigest_canon {m} {s : State} (h : Canon s.dev) (u : State)
    (hu : execDigest m s = .next u) : Canon u.dev :=
  ran_canon (Dev.digest_canon h) u hu

theorem execDigestResult_canon {m} {s : State} (h : Canon s.dev) (u : State)
    (hu : execDigestResult m s = .next u) : Canon u.dev :=
  ran_canon (Dev.digestResult_canon h) u hu

theorem execSelftest_canon {m} {s : State} (h : Canon s.dev) (u : State)
    (hu : execSelftest m s = .next u) : Canon u.dev :=
  ran_canon (Dev.selftest_canon h) u hu

theorem execRecheck_canon {m} {s : State} (h : Canon s.dev) (u : State)
    (hu : execRecheck m s = .next u) : Canon u.dev :=
  ran_canon (Dev.recheck_canon h) u hu

theorem execMsrDelta_canon {m} {s : State} (h : Canon s.dev) (u : State)
    (hu : execMsrDelta m s = .next u) : Canon u.dev :=
  ran_canon (Dev.msrDelta_canon h) u hu

theorem execKeyEvent_canon {m} {s : State} (h : Canon s.dev) (u : State)
    (hu : execKeyEvent m s = .next u) : Canon u.dev :=
  ran_canon (Dev.keyEventRx_canon h) u hu

theorem execKeySummary_canon {m} {s : State} (h : Canon s.dev) (u : State)
    (hu : execKeySummary m s = .next u) : Canon u.dev :=
  ran_canon (Dev.keySummaryRx_canon h) u hu

theorem execSettings_canon {m readable} {s : State} (h : Canon s.dev) (u : State)
    (hu : execSettings m readable s = .next u) : Canon u.dev :=
  ran_canon (Dev.settingsRx_canon h) u hu

theorem execBolero_canon {m} {s : State} (h : Canon s.dev) (u : State)
    (hu : execBolero m s = .next u) : Canon u.dev :=
  ran_canon (Dev.boleroRx_canon h) u hu

theorem execResync_canon {m} {s : State} (h : Canon s.dev) (u : State)
    (hu : execResync m s = .next u) : Canon u.dev :=
  ran_canon (Dev.resyncRx_canon h) u hu

theorem execWinRd_canon {m} {s : State} (h : Canon s.dev) (u : State)
    (hu : execWinRd m s = .next u) : Canon u.dev :=
  ran_canon (Dev.winRd_canon h) u hu

theorem execWinRdRsp_canon {m} {s : State} (h : Canon s.dev) (u : State)
    (hu : execWinRdRsp m s = .next u) : Canon u.dev :=
  ran_canon (Dev.winRdRsp_canon h) u hu

theorem execWinWr_canon {m} {s : State} (h : Canon s.dev) (u : State)
    (hu : execWinWr m s = .next u) : Canon u.dev :=
  ran_canon (Dev.winWr_canon h) u hu

theorem execLeaseRenewTimer_canon {s : State} (h : Canon s.dev) (u : State)
    (hu : execLeaseRenewTimer s = .next u) : Canon u.dev :=
  ran_canon (Dev.leaseRenewTimer_canon h) u hu

theorem execLeaseExpiry_canon {s : State} (h : Canon s.dev) (u : State)
    (hu : execLeaseExpiry s = .next u) : Canon u.dev :=
  ran_canon (Dev.leaseExpiry_canon h) u hu

theorem execTokenTakeover_canon {s : State} (h : Canon s.dev) (u : State)
    (hu : execTokenTakeover s = .next u) : Canon u.dev :=
  ran_canon (Dev.tokenTakeover_canon h) u hu

theorem execDeadTimer_canon {s : State} (h : Canon s.dev) (u : State)
    (hu : execDeadTimer s = .next u) : Canon u.dev :=
  ran_canon (Dev.deadTimer_canon h) u hu

theorem execWitnessLeaseExpiry_canon {s : State} (h : Canon s.dev) (u : State)
    (hu : execWitnessLeaseExpiry s = .next u) : Canon u.dev :=
  ran_canon (Dev.witnessLeaseExpiry_canon h) u hu

theorem execSwapHandover_canon {s : State} (h : Canon s.dev) (u : State)
    (hu : execSwapHandover s = .next u) : Canon u.dev :=
  ran_canon (Dev.swapHandover_canon h) u hu

theorem execDigestBatchClose_canon {s : State} (h : Canon s.dev) (u : State)
    (hu : execDigestBatchClose s = .next u) : Canon u.dev :=
  ran_canon (Dev.digestBatchClose_canon h) u hu

theorem execDigestCompare_canon {s : State} (h : Canon s.dev) (u : State)
    (hu : execDigestCompare s = .next u) : Canon u.dev :=
  ran_canon (Dev.digestCompare_canon h) u hu

theorem execSelftestDone_canon {keyc commit digest laneFail} {s : State} (h : Canon s.dev) (u : State)
    (hu : execSelftestDone keyc commit digest laneFail s = .next u) : Canon u.dev :=
  ran_canon (Dev.selftestDone_canon h) u hu

theorem execMergeDelayApply_canon {s : State} (h : Canon s.dev) (u : State)
    (hu : execMergeDelayApply s = .next u) : Canon u.dev :=
  ran_canon (Dev.mergeDelayApply_canon h) u hu

theorem execKeySummaryTimer_canon {s : State} (h : Canon s.dev) (u : State)
    (hu : execKeySummaryTimer s = .next u) : Canon u.dev :=
  ran_canon (Dev.keySummaryTimer_canon h) u hu

theorem execPairInfo_canon {c} {s : State} (h : Canon s.dev) (u : State)
    (hu : execPairInfo c s = .next u) : Canon u.dev :=
  ran_canon (Dev.pairInfo_canon h) u hu

theorem execPairSwap_canon {c} {s : State} (h : Canon s.dev) (u : State)
    (hu : execPairSwap c s = .next u) : Canon u.dev :=
  ran_canon (Dev.pairSwap_canon h) u hu

theorem execPairWitnessGrant_canon {c} {s : State} (h : Canon s.dev) (u : State)
    (hu : execPairWitnessGrant c s = .next u) : Canon u.dev :=
  ran_canon (Dev.pairWitnessGrant_canon h) u hu

theorem execPairResync_canon {c} {s : State} (h : Canon s.dev) (u : State)
    (hu : execPairResync c s = .next u) : Canon u.dev :=
  ran_canon (Dev.pairResync_canon h) u hu

theorem execPairMismatchRead_canon {c} {s : State} (h : Canon s.dev) (u : State)
    (hu : execPairMismatchRead c s = .next u) : Canon u.dev :=
  ran_canon (Dev.pairMismatchRead_canon h) u hu

theorem execBootStart_canon {r} {s : State} (h : Canon s.dev) (u : State)
    (hu : execBootStart r s = .next u) : Canon u.dev :=
  ran_canon (Dev.bootStart_canon h) u hu

theorem execBootComplete_canon {s : State} (h : Canon s.dev) (u : State)
    (hu : execBootComplete s = .next u) : Canon u.dev :=
  ran_canon (Dev.bootComplete_canon h) u hu

theorem execUpdOpen_canon {c} {s : State} (h : Canon s.dev) (u : State)
    (hu : execUpdOpen c s = .next u) : Canon u.dev :=
  ran_canon (Dev.updOpen_canon h) u hu

theorem execUpdData_canon {c} {s : State} (h : Canon s.dev) (u : State)
    (hu : execUpdData c s = .next u) : Canon u.dev := by
  refine ran_canon ?_ u hu
  refine Dev.withData_canon ?_ ?_
  · exact h
  · intro x0 x1 hx2
    exact Dev.updData_canon hx2

theorem execUpdVerify_canon {c} {s : State} (h : Canon s.dev) (u : State)
    (hu : execUpdVerify c s = .next u) : Canon u.dev :=
  ran_canon (Dev.updVerify_canon h) u hu

theorem execUpdActivate_canon {c} {s : State} (h : Canon s.dev) (u : State)
    (hu : execUpdActivate c s = .next u) : Canon u.dev :=
  ran_canon (Dev.updActivate_canon h) u hu

theorem execUpdClose_canon {c} {s : State} (h : Canon s.dev) (u : State)
    (hu : execUpdClose c s = .next u) : Canon u.dev :=
  ran_canon (Dev.updClose_canon h) u hu

theorem execUpdAccept_canon {c} {s : State} (h : Canon s.dev) (u : State)
    (hu : execUpdAccept c s = .next u) : Canon u.dev :=
  ran_canon (Dev.updAccept_canon h) u hu

theorem execUpdRevert_canon {c} {s : State} (h : Canon s.dev) (u : State)
    (hu : execUpdRevert c s = .next u) : Canon u.dev :=
  ran_canon (Dev.updRevert_canon h) u hu

theorem execUpdAcceptDefaults_canon {c} {s : State} (h : Canon s.dev) (u : State)
    (hu : execUpdAcceptDefaults c s = .next u) : Canon u.dev :=
  ran_canon (Dev.updAcceptDefaults_canon h) u hu

theorem execUpdStatus_canon {c} {s : State} (h : Canon s.dev) (u : State)
    (hu : execUpdStatus c s = .next u) : Canon u.dev :=
  ran_canon (Dev.updStatus_canon h) u hu

theorem execUpdSetPut_canon {c} {s : State} (h : Canon s.dev) (u : State)
    (hu : execUpdSetPut c s = .next u) : Canon u.dev := by
  refine ran_canon ?_ u hu
  refine Dev.withData_canon ?_ ?_
  · exact h
  · intro x0 x1 hx2
    exact Dev.updSetPut_canon hx2

theorem execUpdSetGet_canon {c} {s : State} (h : Canon s.dev) (u : State)
    (hu : execUpdSetGet c s = .next u) : Canon u.dev :=
  ran_canon (Dev.updSetGet_canon h) u hu

theorem execUpdLeaseExpiry_canon {s : State} (h : Canon s.dev) (u : State)
    (hu : execUpdLeaseExpiry s = .next u) : Canon u.dev :=
  ran_canon (Dev.updLeaseExpiry_canon h) u hu

theorem execUpdActivateDelay_canon {s : State} (h : Canon s.dev) (u : State)
    (hu : execUpdActivateDelay s = .next u) : Canon u.dev :=
  ran_canon (Dev.updActivateDelay_canon h) u hu

theorem execUpdAutoAccept_canon {s : State} (h : Canon s.dev) (u : State)
    (hu : execUpdAutoAccept s = .next u) : Canon u.dev :=
  ran_canon (Dev.updAutoAccept_canon h) u hu

theorem execSettingsRevertHold_canon {s : State} (h : Canon s.dev) (u : State)
    (hu : execSettingsRevertHold s = .next u) : Canon u.dev :=
  ran_canon (Dev.settingsRevertHold_canon h) u hu

theorem execQspiProgramDone_canon {ok} {s : State} (h : Canon s.dev) (u : State)
    (hu : execQspiProgramDone ok s = .next u) : Canon u.dev :=
  ran_canon (Dev.qspiProgramDone_canon h) u hu

theorem execAonpor_canon {s : State} (h : Canon s.dev) (u : State)
    (hu : execAonpor s = .next u) : Canon u.dev :=
  ran_canon (Dev.aonpor_canon h) u hu

theorem execMainpor_canon {straps} {s : State} (h : Canon s.dev) (u : State)
    (hu : execMainpor straps s = .next u) : Canon u.dev :=
  ran_canon (Dev.mainpor_canon h) u hu

theorem execPinrst_canon {straps} {s : State} (h : Canon s.dev) (u : State)
    (hu : execPinrst straps s = .next u) : Canon u.dev :=
  ran_canon (Dev.pinrst_canon h) u hu

theorem execSoftrst_canon {s : State} (h : Canon s.dev) (u : State)
    (hu : execSoftrst s = .next u) : Canon u.dev :=
  ran_canon (Dev.softrst_canon h) u hu

theorem execWdtrst_canon {s : State} (h : Canon s.dev) (u : State)
    (hu : execWdtrst s = .next u) : Canon u.dev :=
  ran_canon (Dev.wdtrst_canon h) u hu

theorem execDomrst_canon {dom} {s : State} (h : Canon s.dev) (u : State)
    (hu : execDomrst dom s = .next u) : Canon u.dev :=
  ran_canon (Dev.domrst_canon h) u hu

theorem execPmuModeSetRun_canon {c} {s : State} (h : Canon s.dev) (u : State)
    (hu : execPmuModeSetRun c s = .next u) : Canon u.dev :=
  ran_canon (Dev.pmuModeSetRun_canon h) u hu

theorem execPmuModeSetCommission_canon {c} {s : State} (h : Canon s.dev) (u : State)
    (hu : execPmuModeSetCommission c s = .next u) : Canon u.dev :=
  ran_canon (Dev.pmuModeSetCommission_canon h) u hu

theorem execPmuStormForceSet_canon {c} {s : State} (h : Canon s.dev) (u : State)
    (hu : execPmuStormForceSet c s = .next u) : Canon u.dev :=
  ran_canon (Dev.pmuStormForceSet_canon h) u hu

theorem execPmuStormForceClear_canon {c} {s : State} (h : Canon s.dev) (u : State)
    (hu : execPmuStormForceClear c s = .next u) : Canon u.dev :=
  ran_canon (Dev.pmuStormForceClear_canon h) u hu

theorem execPmuModeSetDormant_canon {c} {s : State} (h : Canon s.dev) (u : State)
    (hu : execPmuModeSetDormant c s = .next u) : Canon u.dev :=
  ran_canon (Dev.pmuModeSetDormant_canon h) u hu

theorem execPmuResetSoft_canon {c} {s : State} (h : Canon s.dev) (u : State)
    (hu : execPmuResetSoft c s = .next u) : Canon u.dev :=
  ran_canon (Dev.pmuResetSoft_canon h) u hu

theorem execPmuResetDomain_canon {c} {s : State} (h : Canon s.dev) (u : State)
    (hu : execPmuResetDomain c s = .next u) : Canon u.dev :=
  ran_canon (Dev.pmuResetDomain_canon h) u hu

theorem execPmuResourceRetire_canon {c} {s : State} (h : Canon s.dev) (u : State)
    (hu : execPmuResourceRetire c s = .next u) : Canon u.dev :=
  ran_canon (Dev.pmuResourceRetire_canon h) u hu

theorem execPmuResourceRestore_canon {c pass} {s : State} (h : Canon s.dev) (u : State)
    (hu : execPmuResourceRestore c pass s = .next u) : Canon u.dev :=
  ran_canon (Dev.pmuResourceRestore_canon h) u hu

theorem execPmuResourceQuery_canon {c} {s : State} (h : Canon s.dev) (u : State)
    (hu : execPmuResourceQuery c s = .next u) : Canon u.dev :=
  ran_canon (Dev.pmuResourceQuery_canon h) u hu

theorem execModeChange_canon {s : State} (h : Canon s.dev) (u : State)
    (hu : execModeChange s = .next u) : Canon u.dev :=
  ran_canon (Dev.modeChange_canon h) u hu

theorem execIslandedCondSet_canon {s : State} (h : Canon s.dev) (u : State)
    (hu : execIslandedCondSet s = .next u) : Canon u.dev :=
  ran_canon (Dev.islandedCondSet_canon h) u hu

theorem execIslandedCondClear_canon {s : State} (h : Canon s.dev) (u : State)
    (hu : execIslandedCondClear s = .next u) : Canon u.dev :=
  ran_canon (Dev.islandedCondClear_canon h) u hu

theorem execStormBudgetExhausted_canon {s : State} (h : Canon s.dev) (u : State)
    (hu : execStormBudgetExhausted s = .next u) : Canon u.dev :=
  ran_canon (Dev.stormBudgetExhausted_canon h) u hu

theorem execStormBudgetHalf_canon {s : State} (h : Canon s.dev) (u : State)
    (hu : execStormBudgetHalf s = .next u) : Canon u.dev :=
  ran_canon (Dev.stormBudgetHalf_canon h) u hu

theorem execThermalSample_canon {tj sensor} {s : State} (h : Canon s.dev) (u : State)
    (hu : execThermalSample tj sensor s = .next u) : Canon u.dev :=
  ran_canon (Dev.thermalSample_canon h) u hu

theorem execThermalThrottleLift_canon {s : State} (h : Canon s.dev) (u : State)
    (hu : execThermalThrottleLift s = .next u) : Canon u.dev :=
  ran_canon (Dev.thermalThrottleLift_canon h) u hu

theorem execThermalStop_canon {s : State} (h : Canon s.dev) (u : State)
    (hu : execThermalStop s = .next u) : Canon u.dev :=
  ran_canon (Dev.thermalStop_canon h) u hu

theorem execThermalRestart_canon {s : State} (h : Canon s.dev) (u : State)
    (hu : execThermalRestart s = .next u) : Canon u.dev :=
  ran_canon (Dev.thermalRestart_canon h) u hu

theorem execCoreWarnSet_canon {mv} {s : State} (h : Canon s.dev) (u : State)
    (hu : execCoreWarnSet mv s = .next u) : Canon u.dev :=
  ran_canon (Dev.coreWarnSet_canon h) u hu

theorem execCoreWarnClear_canon {mv} {s : State} (h : Canon s.dev) (u : State)
    (hu : execCoreWarnClear mv s = .next u) : Canon u.dev :=
  ran_canon (Dev.coreWarnClear_canon h) u hu

theorem execCoreUndervoltReset_canon {straps} {s : State} (h : Canon s.dev) (u : State)
    (hu : execCoreUndervoltReset straps s = .next u) : Canon u.dev :=
  ran_canon (Dev.coreUndervoltReset_canon h) u hu

theorem execPwrWarnFall_canon {s : State} (h : Canon s.dev) (u : State)
    (hu : execPwrWarnFall s = .next u) : Canon u.dev :=
  ran_canon (Dev.pwrWarnFall_canon h) u hu

theorem execPwrWarnRise_canon {s : State} (h : Canon s.dev) (u : State)
    (hu : execPwrWarnRise s = .next u) : Canon u.dev :=
  ran_canon (Dev.pwrWarnRise_canon h) u hu

theorem execWdtEnable_canon {v} {s : State} (h : Canon s.dev) (u : State)
    (hu : execWdtEnable v s = .next u) : Canon u.dev :=
  ran_canon (Dev.wdtEnable_canon h) u hu

theorem execWdtKick_canon {v} {s : State} (h : Canon s.dev) (u : State)
    (hu : execWdtKick v s = .next u) : Canon u.dev :=
  ran_canon (Dev.wdtKick_canon h) u hu

theorem execWdtPrewarn_canon {s : State} (h : Canon s.dev) (u : State)
    (hu : execWdtPrewarn s = .next u) : Canon u.dev :=
  ran_canon (Dev.wdtPrewarn_canon h) u hu

theorem execRtcAlarmWake_canon {s : State} (h : Canon s.dev) (u : State)
    (hu : execRtcAlarmWake s = .next u) : Canon u.dev :=
  ran_canon (Dev.rtcAlarmWake_canon h) u hu

theorem execPerstWake_canon {s : State} (h : Canon s.dev) (u : State)
    (hu : execPerstWake s = .next u) : Canon u.dev :=
  ran_canon (Dev.perstWake_canon h) u hu

theorem execPmuOffMaskWrite_canon {v} {s : State} (h : Canon s.dev) (u : State)
    (hu : execPmuOffMaskWrite v s = .next u) : Canon u.dev :=
  ran_canon (Dev.pmuOffMaskWrite_canon h) u hu

theorem execDramEccCorrected_canon {row} {s : State} (h : Canon s.dev) (u : State)
    (hu : execDramEccCorrected row s = .next u) : Canon u.dev :=
  ran_canon (Dev.dramEccCorrected_canon h) u hu

theorem execDramEccUncorrectable_canon {row addr} {s : State} (h : Canon s.dev) (u : State)
    (hu : execDramEccUncorrectable row addr s = .next u) : Canon u.dev :=
  ran_canon (Dev.dramEccUncorrectable_canon h) u hu

theorem execCoreEccError_canon {t permanent} {s : State} (h : Canon s.dev) (u : State)
    (hu : execCoreEccError t permanent s = .next u) : Canon u.dev :=
  ran_canon (Dev.coreEccError_canon h) u hu

theorem execCoreProbeTimeout_canon {t} {s : State} (h : Canon s.dev) (u : State)
    (hu : execCoreProbeTimeout t s = .next u) : Canon u.dev :=
  ran_canon (Dev.coreProbeTimeout_canon h) u hu

theorem execVaonLoss_canon {s : State} (h : Canon s.dev) (u : State)
    (hu : execVaonLoss s = .next u) : Canon u.dev :=
  ran_canon (Dev.vaonLoss_canon h) u hu

theorem execVaonRestore_canon {s : State} (h : Canon s.dev) (u : State)
    (hu : execVaonRestore s = .next u) : Canon u.dev :=
  ran_canon (Dev.vaonRestore_canon h) u hu

theorem execVbatLoss_canon {s : State} (h : Canon s.dev) (u : State)
    (hu : execVbatLoss s = .next u) : Canon u.dev :=
  ran_canon (Dev.vbatLoss_canon h) u hu

theorem execVbatRestore_canon {s : State} (h : Canon s.dev) (u : State)
    (hu : execVbatRestore s = .next u) : Canon u.dev :=
  ran_canon (Dev.vbatRestore_canon h) u hu

theorem execSrbEnable_canon {s : State} (h : Canon s.dev) (u : State)
    (hu : execSrbEnable s = .next u) : Canon u.dev :=
  ran_canon (Dev.srbEnable_canon h) u hu

theorem execSrbSample_canon {hw} {s : State} (h : Canon s.dev) (u : State)
    (hu : execSrbSample hw s = .next u) : Canon u.dev :=
  ran_canon (Dev.srbSample_canon h) u hu

theorem execSrbFeedWrite_canon {v} {s : State} (h : Canon s.dev) (u : State)
    (hu : execSrbFeedWrite v s = .next u) : Canon u.dev :=
  ran_canon (Dev.srbFeedWrite_canon h) u hu

theorem execSnapshotTimer_canon {sec} {s : State} (h : Canon s.dev) (u : State)
    (hu : execSnapshotTimer sec s = .next u) : Canon u.dev :=
  ran_canon (Dev.snapshotTimer_canon h) u hu

theorem execSrbSnapNow_canon {s : State} (h : Canon s.dev) (u : State)
    (hu : execSrbSnapNow s = .next u) : Canon u.dev :=
  ran_canon (Dev.srbSnapNow_canon h) u hu

theorem execSnapshotWritten_canon {s : State} (h : Canon s.dev) (u : State)
    (hu : execSnapshotWritten s = .next u) : Canon u.dev :=
  ran_canon (Dev.snapshotWritten_canon h) u hu

theorem execSrbWselWrite_canon {v} {s : State} (h : Canon s.dev) (u : State)
    (hu : execSrbWselWrite v s = .next u) : Canon u.dev :=
  ran_canon (Dev.srbWselWrite_canon h) u hu

theorem execLogRecord_canon {s : State} (h : Canon s.dev) (u : State)
    (hu : execLogRecord s = .next u) : Canon u.dev :=
  ran_canon (Dev.logRecord_canon h) u hu

theorem execLogAppend_canon {m v} {s : State} (h : Canon s.dev) (u : State)
    (hu : execLogAppend m v s = .next u) : Canon u.dev :=
  ran_canon (Dev.logAppend_canon h) u hu

theorem execLogBuf_canon {c} {s : State} (h : Canon s.dev) (u : State)
    (hu : execLogBuf c s = .next u) : Canon u.dev :=
  ran_canon (Dev.logBuf_canon h) u hu

theorem execLogBufTimeout_canon {s : State} (h : Canon s.dev) (u : State)
    (hu : execLogBufTimeout s = .next u) : Canon u.dev :=
  ran_canon (Dev.logBufTimeout_canon h) u hu

theorem execSrbCopy_canon {c} {s : State} (h : Canon s.dev) (u : State)
    (hu : execSrbCopy c s = .next u) : Canon u.dev :=
  ran_canon (Dev.srbCopy_canon h) u hu

theorem execLogMark_canon {c} {s : State} (h : Canon s.dev) (u : State)
    (hu : execLogMark c s = .next u) : Canon u.dev :=
  ran_canon (Dev.logMark_canon h) u hu

theorem execLogClear_canon {c} {s : State} (h : Canon s.dev) (u : State)
    (hu : execLogClear c s = .next u) : Canon u.dev :=
  ran_canon (Dev.logClear_canon h) u hu

theorem execLogCtrlClear_canon {m} {s : State} (h : Canon s.dev) (u : State)
    (hu : execLogCtrlClear m s = .next u) : Canon u.dev :=
  ran_canon (Dev.logCtrlClear_canon h) u hu

theorem execLogHeadWrite_canon {v} {s : State} (h : Canon s.dev) (u : State)
    (hu : execLogHeadWrite v s = .next u) : Canon u.dev :=
  ran_canon (Dev.logHeadWrite_canon h) u hu

theorem execLogSelWrite_canon {v} {s : State} (h : Canon s.dev) (u : State)
    (hu : execLogSelWrite v s = .next u) : Canon u.dev :=
  ran_canon (Dev.logSelWrite_canon h) u hu

theorem execSuppressedSummaryTimer_canon {src} {s : State} (h : Canon s.dev) (u : State)
    (hu : execSuppressedSummaryTimer src s = .next u) : Canon u.dev :=
  ran_canon (Dev.suppressedSummaryTimer_canon h) u hu

end Sys2Proof.Machine
end

