-- ==== Sys2Proof/Laws/State.lean ====
section
/-! SUPPORT. The small lemmas of State: what each named update leaves of every other field, and what a read after a write
gives, for tables, memory and register fields. -/

namespace Sys2Proof.Machine

/-! ### Dev.wr changes regs only -/

@[simp] theorem Dev.wr_mem (d : Dev) (f : Fld) (v : Nat) : (d.wr f v).mem = d.mem := rfl
@[simp] theorem Dev.wr_fifos (d : Dev) (f : Fld) (v : Nat) : (d.wr f v).fifos = d.fifos := rfl
@[simp] theorem Dev.wr_tick (d : Dev) (f : Fld) (v : Nat) : (d.wr f v).tick = d.tick := rfl
@[simp] theorem Dev.wr_clk (d : Dev) (f : Fld) (v : Nat) : (d.wr f v).clk = d.clk := rfl
@[simp] theorem Dev.wr_fresh (d : Dev) (f : Fld) (v : Nat) : (d.wr f v).fresh = d.fresh := rfl
@[simp] theorem Dev.wr_out (d : Dev) (f : Fld) (v : Nat) : (d.wr f v).out = d.out := rfl
@[simp] theorem Dev.wr_sys (d : Dev) (f : Fld) (v : Nat) : (d.wr f v).sys = d.sys := rfl
@[simp] theorem Dev.wr_icu (d : Dev) (f : Fld) (v : Nat) : (d.wr f v).icu = d.icu := rfl
@[simp] theorem Dev.wr_xdi (d : Dev) (f : Fld) (v : Nat) : (d.wr f v).xdi = d.xdi := rfl
@[simp] theorem Dev.wr_msr (d : Dev) (f : Fld) (v : Nat) : (d.wr f v).msr = d.msr := rfl
@[simp] theorem Dev.wr_cu (d : Dev) (f : Fld) (v : Nat) : (d.wr f v).cu = d.cu := rfl
@[simp] theorem Dev.wr_reel (d : Dev) (f : Fld) (v : Nat) : (d.wr f v).reel = d.reel := rfl
@[simp] theorem Dev.wr_val (d : Dev) (f : Fld) (v : Nat) : (d.wr f v).val = d.val := rfl
@[simp] theorem Dev.wr_wlz (d : Dev) (f : Fld) (v : Nat) : (d.wr f v).wlz = d.wlz := rfl
@[simp] theorem Dev.wr_bol (d : Dev) (f : Fld) (v : Nat) : (d.wr f v).bol = d.bol := rfl
@[simp] theorem Dev.wr_pav (d : Dev) (f : Fld) (v : Nat) : (d.wr f v).pav = d.pav := rfl
@[simp] theorem Dev.wr_rtc (d : Dev) (f : Fld) (v : Nat) : (d.wr f v).rtc = d.rtc := rfl
@[simp] theorem Dev.wr_plk (d : Dev) (f : Fld) (v : Nat) : (d.wr f v).plk = d.plk := rfl
@[simp] theorem Dev.wr_mzk (d : Dev) (f : Fld) (v : Nat) : (d.wr f v).mzk = d.mzk := rfl
@[simp] theorem Dev.wr_tsu (d : Dev) (f : Fld) (v : Nat) : (d.wr f v).tsu = d.tsu := rfl
@[simp] theorem Dev.wr_eth (d : Dev) (f : Fld) (v : Nat) : (d.wr f v).eth = d.eth := rfl
@[simp] theorem Dev.wr_gav (d : Dev) (f : Fld) (v : Nat) : (d.wr f v).gav = d.gav := rfl
@[simp] theorem Dev.wr_epl (d : Dev) (f : Fld) (v : Nat) : (d.wr f v).epl = d.epl := rfl
@[simp] theorem Dev.wr_upd (d : Dev) (f : Fld) (v : Nat) : (d.wr f v).upd = d.upd := rfl
@[simp] theorem Dev.wr_pmu (d : Dev) (f : Fld) (v : Nat) : (d.wr f v).pmu = d.pmu := rfl
@[simp] theorem Dev.wr_log (d : Dev) (f : Fld) (v : Nat) : (d.wr f v).log = d.log := rfl
@[simp] theorem Dev.wr_srb (d : Dev) (f : Fld) (v : Nat) : (d.wr f v).srb = d.srb := rfl

/-! ### Dev.setF changes regs only -/

@[simp] theorem Dev.setF_mem (d : Dev) (f : Fld) : (d.setF f).mem = d.mem := rfl
@[simp] theorem Dev.setF_fifos (d : Dev) (f : Fld) : (d.setF f).fifos = d.fifos := rfl
@[simp] theorem Dev.setF_tick (d : Dev) (f : Fld) : (d.setF f).tick = d.tick := rfl
@[simp] theorem Dev.setF_clk (d : Dev) (f : Fld) : (d.setF f).clk = d.clk := rfl
@[simp] theorem Dev.setF_fresh (d : Dev) (f : Fld) : (d.setF f).fresh = d.fresh := rfl
@[simp] theorem Dev.setF_out (d : Dev) (f : Fld) : (d.setF f).out = d.out := rfl
@[simp] theorem Dev.setF_sys (d : Dev) (f : Fld) : (d.setF f).sys = d.sys := rfl
@[simp] theorem Dev.setF_icu (d : Dev) (f : Fld) : (d.setF f).icu = d.icu := rfl
@[simp] theorem Dev.setF_xdi (d : Dev) (f : Fld) : (d.setF f).xdi = d.xdi := rfl
@[simp] theorem Dev.setF_msr (d : Dev) (f : Fld) : (d.setF f).msr = d.msr := rfl
@[simp] theorem Dev.setF_cu (d : Dev) (f : Fld) : (d.setF f).cu = d.cu := rfl
@[simp] theorem Dev.setF_reel (d : Dev) (f : Fld) : (d.setF f).reel = d.reel := rfl
@[simp] theorem Dev.setF_val (d : Dev) (f : Fld) : (d.setF f).val = d.val := rfl
@[simp] theorem Dev.setF_wlz (d : Dev) (f : Fld) : (d.setF f).wlz = d.wlz := rfl
@[simp] theorem Dev.setF_bol (d : Dev) (f : Fld) : (d.setF f).bol = d.bol := rfl
@[simp] theorem Dev.setF_pav (d : Dev) (f : Fld) : (d.setF f).pav = d.pav := rfl
@[simp] theorem Dev.setF_rtc (d : Dev) (f : Fld) : (d.setF f).rtc = d.rtc := rfl
@[simp] theorem Dev.setF_plk (d : Dev) (f : Fld) : (d.setF f).plk = d.plk := rfl
@[simp] theorem Dev.setF_mzk (d : Dev) (f : Fld) : (d.setF f).mzk = d.mzk := rfl
@[simp] theorem Dev.setF_tsu (d : Dev) (f : Fld) : (d.setF f).tsu = d.tsu := rfl
@[simp] theorem Dev.setF_eth (d : Dev) (f : Fld) : (d.setF f).eth = d.eth := rfl
@[simp] theorem Dev.setF_gav (d : Dev) (f : Fld) : (d.setF f).gav = d.gav := rfl
@[simp] theorem Dev.setF_epl (d : Dev) (f : Fld) : (d.setF f).epl = d.epl := rfl
@[simp] theorem Dev.setF_upd (d : Dev) (f : Fld) : (d.setF f).upd = d.upd := rfl
@[simp] theorem Dev.setF_pmu (d : Dev) (f : Fld) : (d.setF f).pmu = d.pmu := rfl
@[simp] theorem Dev.setF_log (d : Dev) (f : Fld) : (d.setF f).log = d.log := rfl
@[simp] theorem Dev.setF_srb (d : Dev) (f : Fld) : (d.setF f).srb = d.srb := rfl

/-! ### Dev.clrF changes regs only -/

@[simp] theorem Dev.clrF_mem (d : Dev) (f : Fld) : (d.clrF f).mem = d.mem := rfl
@[simp] theorem Dev.clrF_fifos (d : Dev) (f : Fld) : (d.clrF f).fifos = d.fifos := rfl
@[simp] theorem Dev.clrF_tick (d : Dev) (f : Fld) : (d.clrF f).tick = d.tick := rfl
@[simp] theorem Dev.clrF_clk (d : Dev) (f : Fld) : (d.clrF f).clk = d.clk := rfl
@[simp] theorem Dev.clrF_fresh (d : Dev) (f : Fld) : (d.clrF f).fresh = d.fresh := rfl
@[simp] theorem Dev.clrF_out (d : Dev) (f : Fld) : (d.clrF f).out = d.out := rfl
@[simp] theorem Dev.clrF_sys (d : Dev) (f : Fld) : (d.clrF f).sys = d.sys := rfl
@[simp] theorem Dev.clrF_icu (d : Dev) (f : Fld) : (d.clrF f).icu = d.icu := rfl
@[simp] theorem Dev.clrF_xdi (d : Dev) (f : Fld) : (d.clrF f).xdi = d.xdi := rfl
@[simp] theorem Dev.clrF_msr (d : Dev) (f : Fld) : (d.clrF f).msr = d.msr := rfl
@[simp] theorem Dev.clrF_cu (d : Dev) (f : Fld) : (d.clrF f).cu = d.cu := rfl
@[simp] theorem Dev.clrF_reel (d : Dev) (f : Fld) : (d.clrF f).reel = d.reel := rfl
@[simp] theorem Dev.clrF_val (d : Dev) (f : Fld) : (d.clrF f).val = d.val := rfl
@[simp] theorem Dev.clrF_wlz (d : Dev) (f : Fld) : (d.clrF f).wlz = d.wlz := rfl
@[simp] theorem Dev.clrF_bol (d : Dev) (f : Fld) : (d.clrF f).bol = d.bol := rfl
@[simp] theorem Dev.clrF_pav (d : Dev) (f : Fld) : (d.clrF f).pav = d.pav := rfl
@[simp] theorem Dev.clrF_rtc (d : Dev) (f : Fld) : (d.clrF f).rtc = d.rtc := rfl
@[simp] theorem Dev.clrF_plk (d : Dev) (f : Fld) : (d.clrF f).plk = d.plk := rfl
@[simp] theorem Dev.clrF_mzk (d : Dev) (f : Fld) : (d.clrF f).mzk = d.mzk := rfl
@[simp] theorem Dev.clrF_tsu (d : Dev) (f : Fld) : (d.clrF f).tsu = d.tsu := rfl
@[simp] theorem Dev.clrF_eth (d : Dev) (f : Fld) : (d.clrF f).eth = d.eth := rfl
@[simp] theorem Dev.clrF_gav (d : Dev) (f : Fld) : (d.clrF f).gav = d.gav := rfl
@[simp] theorem Dev.clrF_epl (d : Dev) (f : Fld) : (d.clrF f).epl = d.epl := rfl
@[simp] theorem Dev.clrF_upd (d : Dev) (f : Fld) : (d.clrF f).upd = d.upd := rfl
@[simp] theorem Dev.clrF_pmu (d : Dev) (f : Fld) : (d.clrF f).pmu = d.pmu := rfl
@[simp] theorem Dev.clrF_log (d : Dev) (f : Fld) : (d.clrF f).log = d.log := rfl
@[simp] theorem Dev.clrF_srb (d : Dev) (f : Fld) : (d.clrF f).srb = d.srb := rfl

/-! ### Dev.flag changes regs only -/

@[simp] theorem Dev.flag_mem (d : Dev) (f : Fld) (b : Bool) : (d.flag f b).mem = d.mem := rfl
@[simp] theorem Dev.flag_fifos (d : Dev) (f : Fld) (b : Bool) : (d.flag f b).fifos = d.fifos := rfl
@[simp] theorem Dev.flag_tick (d : Dev) (f : Fld) (b : Bool) : (d.flag f b).tick = d.tick := rfl
@[simp] theorem Dev.flag_clk (d : Dev) (f : Fld) (b : Bool) : (d.flag f b).clk = d.clk := rfl
@[simp] theorem Dev.flag_fresh (d : Dev) (f : Fld) (b : Bool) : (d.flag f b).fresh = d.fresh := rfl
@[simp] theorem Dev.flag_out (d : Dev) (f : Fld) (b : Bool) : (d.flag f b).out = d.out := rfl
@[simp] theorem Dev.flag_sys (d : Dev) (f : Fld) (b : Bool) : (d.flag f b).sys = d.sys := rfl
@[simp] theorem Dev.flag_icu (d : Dev) (f : Fld) (b : Bool) : (d.flag f b).icu = d.icu := rfl
@[simp] theorem Dev.flag_xdi (d : Dev) (f : Fld) (b : Bool) : (d.flag f b).xdi = d.xdi := rfl
@[simp] theorem Dev.flag_msr (d : Dev) (f : Fld) (b : Bool) : (d.flag f b).msr = d.msr := rfl
@[simp] theorem Dev.flag_cu (d : Dev) (f : Fld) (b : Bool) : (d.flag f b).cu = d.cu := rfl
@[simp] theorem Dev.flag_reel (d : Dev) (f : Fld) (b : Bool) : (d.flag f b).reel = d.reel := rfl
@[simp] theorem Dev.flag_val (d : Dev) (f : Fld) (b : Bool) : (d.flag f b).val = d.val := rfl
@[simp] theorem Dev.flag_wlz (d : Dev) (f : Fld) (b : Bool) : (d.flag f b).wlz = d.wlz := rfl
@[simp] theorem Dev.flag_bol (d : Dev) (f : Fld) (b : Bool) : (d.flag f b).bol = d.bol := rfl
@[simp] theorem Dev.flag_pav (d : Dev) (f : Fld) (b : Bool) : (d.flag f b).pav = d.pav := rfl
@[simp] theorem Dev.flag_rtc (d : Dev) (f : Fld) (b : Bool) : (d.flag f b).rtc = d.rtc := rfl
@[simp] theorem Dev.flag_plk (d : Dev) (f : Fld) (b : Bool) : (d.flag f b).plk = d.plk := rfl
@[simp] theorem Dev.flag_mzk (d : Dev) (f : Fld) (b : Bool) : (d.flag f b).mzk = d.mzk := rfl
@[simp] theorem Dev.flag_tsu (d : Dev) (f : Fld) (b : Bool) : (d.flag f b).tsu = d.tsu := rfl
@[simp] theorem Dev.flag_eth (d : Dev) (f : Fld) (b : Bool) : (d.flag f b).eth = d.eth := rfl
@[simp] theorem Dev.flag_gav (d : Dev) (f : Fld) (b : Bool) : (d.flag f b).gav = d.gav := rfl
@[simp] theorem Dev.flag_epl (d : Dev) (f : Fld) (b : Bool) : (d.flag f b).epl = d.epl := rfl
@[simp] theorem Dev.flag_upd (d : Dev) (f : Fld) (b : Bool) : (d.flag f b).upd = d.upd := rfl
@[simp] theorem Dev.flag_pmu (d : Dev) (f : Fld) (b : Bool) : (d.flag f b).pmu = d.pmu := rfl
@[simp] theorem Dev.flag_log (d : Dev) (f : Fld) (b : Bool) : (d.flag f b).log = d.log := rfl
@[simp] theorem Dev.flag_srb (d : Dev) (f : Fld) (b : Bool) : (d.flag f b).srb = d.srb := rfl

/-! ### Dev.bump changes regs only -/

@[simp] theorem Dev.bump_mem (d : Dev) (f : Fld) (k : Nat) : (d.bump f k).mem = d.mem := rfl
@[simp] theorem Dev.bump_fifos (d : Dev) (f : Fld) (k : Nat) : (d.bump f k).fifos = d.fifos := rfl
@[simp] theorem Dev.bump_tick (d : Dev) (f : Fld) (k : Nat) : (d.bump f k).tick = d.tick := rfl
@[simp] theorem Dev.bump_clk (d : Dev) (f : Fld) (k : Nat) : (d.bump f k).clk = d.clk := rfl
@[simp] theorem Dev.bump_fresh (d : Dev) (f : Fld) (k : Nat) : (d.bump f k).fresh = d.fresh := rfl
@[simp] theorem Dev.bump_out (d : Dev) (f : Fld) (k : Nat) : (d.bump f k).out = d.out := rfl
@[simp] theorem Dev.bump_sys (d : Dev) (f : Fld) (k : Nat) : (d.bump f k).sys = d.sys := rfl
@[simp] theorem Dev.bump_icu (d : Dev) (f : Fld) (k : Nat) : (d.bump f k).icu = d.icu := rfl
@[simp] theorem Dev.bump_xdi (d : Dev) (f : Fld) (k : Nat) : (d.bump f k).xdi = d.xdi := rfl
@[simp] theorem Dev.bump_msr (d : Dev) (f : Fld) (k : Nat) : (d.bump f k).msr = d.msr := rfl
@[simp] theorem Dev.bump_cu (d : Dev) (f : Fld) (k : Nat) : (d.bump f k).cu = d.cu := rfl
@[simp] theorem Dev.bump_reel (d : Dev) (f : Fld) (k : Nat) : (d.bump f k).reel = d.reel := rfl
@[simp] theorem Dev.bump_val (d : Dev) (f : Fld) (k : Nat) : (d.bump f k).val = d.val := rfl
@[simp] theorem Dev.bump_wlz (d : Dev) (f : Fld) (k : Nat) : (d.bump f k).wlz = d.wlz := rfl
@[simp] theorem Dev.bump_bol (d : Dev) (f : Fld) (k : Nat) : (d.bump f k).bol = d.bol := rfl
@[simp] theorem Dev.bump_pav (d : Dev) (f : Fld) (k : Nat) : (d.bump f k).pav = d.pav := rfl
@[simp] theorem Dev.bump_rtc (d : Dev) (f : Fld) (k : Nat) : (d.bump f k).rtc = d.rtc := rfl
@[simp] theorem Dev.bump_plk (d : Dev) (f : Fld) (k : Nat) : (d.bump f k).plk = d.plk := rfl
@[simp] theorem Dev.bump_mzk (d : Dev) (f : Fld) (k : Nat) : (d.bump f k).mzk = d.mzk := rfl
@[simp] theorem Dev.bump_tsu (d : Dev) (f : Fld) (k : Nat) : (d.bump f k).tsu = d.tsu := rfl
@[simp] theorem Dev.bump_eth (d : Dev) (f : Fld) (k : Nat) : (d.bump f k).eth = d.eth := rfl
@[simp] theorem Dev.bump_gav (d : Dev) (f : Fld) (k : Nat) : (d.bump f k).gav = d.gav := rfl
@[simp] theorem Dev.bump_epl (d : Dev) (f : Fld) (k : Nat) : (d.bump f k).epl = d.epl := rfl
@[simp] theorem Dev.bump_upd (d : Dev) (f : Fld) (k : Nat) : (d.bump f k).upd = d.upd := rfl
@[simp] theorem Dev.bump_pmu (d : Dev) (f : Fld) (k : Nat) : (d.bump f k).pmu = d.pmu := rfl
@[simp] theorem Dev.bump_log (d : Dev) (f : Fld) (k : Nat) : (d.bump f k).log = d.log := rfl
@[simp] theorem Dev.bump_srb (d : Dev) (f : Fld) (k : Nat) : (d.bump f k).srb = d.srb := rfl

/-! ### Dev.incr changes regs only -/

@[simp] theorem Dev.incr_mem (d : Dev) (f : Fld) (k : Nat) : (d.incr f k).mem = d.mem := rfl
@[simp] theorem Dev.incr_fifos (d : Dev) (f : Fld) (k : Nat) : (d.incr f k).fifos = d.fifos := rfl
@[simp] theorem Dev.incr_tick (d : Dev) (f : Fld) (k : Nat) : (d.incr f k).tick = d.tick := rfl
@[simp] theorem Dev.incr_clk (d : Dev) (f : Fld) (k : Nat) : (d.incr f k).clk = d.clk := rfl
@[simp] theorem Dev.incr_fresh (d : Dev) (f : Fld) (k : Nat) : (d.incr f k).fresh = d.fresh := rfl
@[simp] theorem Dev.incr_out (d : Dev) (f : Fld) (k : Nat) : (d.incr f k).out = d.out := rfl
@[simp] theorem Dev.incr_sys (d : Dev) (f : Fld) (k : Nat) : (d.incr f k).sys = d.sys := rfl
@[simp] theorem Dev.incr_icu (d : Dev) (f : Fld) (k : Nat) : (d.incr f k).icu = d.icu := rfl
@[simp] theorem Dev.incr_xdi (d : Dev) (f : Fld) (k : Nat) : (d.incr f k).xdi = d.xdi := rfl
@[simp] theorem Dev.incr_msr (d : Dev) (f : Fld) (k : Nat) : (d.incr f k).msr = d.msr := rfl
@[simp] theorem Dev.incr_cu (d : Dev) (f : Fld) (k : Nat) : (d.incr f k).cu = d.cu := rfl
@[simp] theorem Dev.incr_reel (d : Dev) (f : Fld) (k : Nat) : (d.incr f k).reel = d.reel := rfl
@[simp] theorem Dev.incr_val (d : Dev) (f : Fld) (k : Nat) : (d.incr f k).val = d.val := rfl
@[simp] theorem Dev.incr_wlz (d : Dev) (f : Fld) (k : Nat) : (d.incr f k).wlz = d.wlz := rfl
@[simp] theorem Dev.incr_bol (d : Dev) (f : Fld) (k : Nat) : (d.incr f k).bol = d.bol := rfl
@[simp] theorem Dev.incr_pav (d : Dev) (f : Fld) (k : Nat) : (d.incr f k).pav = d.pav := rfl
@[simp] theorem Dev.incr_rtc (d : Dev) (f : Fld) (k : Nat) : (d.incr f k).rtc = d.rtc := rfl
@[simp] theorem Dev.incr_plk (d : Dev) (f : Fld) (k : Nat) : (d.incr f k).plk = d.plk := rfl
@[simp] theorem Dev.incr_mzk (d : Dev) (f : Fld) (k : Nat) : (d.incr f k).mzk = d.mzk := rfl
@[simp] theorem Dev.incr_tsu (d : Dev) (f : Fld) (k : Nat) : (d.incr f k).tsu = d.tsu := rfl
@[simp] theorem Dev.incr_eth (d : Dev) (f : Fld) (k : Nat) : (d.incr f k).eth = d.eth := rfl
@[simp] theorem Dev.incr_gav (d : Dev) (f : Fld) (k : Nat) : (d.incr f k).gav = d.gav := rfl
@[simp] theorem Dev.incr_epl (d : Dev) (f : Fld) (k : Nat) : (d.incr f k).epl = d.epl := rfl
@[simp] theorem Dev.incr_upd (d : Dev) (f : Fld) (k : Nat) : (d.incr f k).upd = d.upd := rfl
@[simp] theorem Dev.incr_pmu (d : Dev) (f : Fld) (k : Nat) : (d.incr f k).pmu = d.pmu := rfl
@[simp] theorem Dev.incr_log (d : Dev) (f : Fld) (k : Nat) : (d.incr f k).log = d.log := rfl
@[simp] theorem Dev.incr_srb (d : Dev) (f : Fld) (k : Nat) : (d.incr f k).srb = d.srb := rfl

/-! ### Dev.decr changes regs only -/

@[simp] theorem Dev.decr_mem (d : Dev) (f : Fld) : (d.decr f).mem = d.mem := rfl
@[simp] theorem Dev.decr_fifos (d : Dev) (f : Fld) : (d.decr f).fifos = d.fifos := rfl
@[simp] theorem Dev.decr_tick (d : Dev) (f : Fld) : (d.decr f).tick = d.tick := rfl
@[simp] theorem Dev.decr_clk (d : Dev) (f : Fld) : (d.decr f).clk = d.clk := rfl
@[simp] theorem Dev.decr_fresh (d : Dev) (f : Fld) : (d.decr f).fresh = d.fresh := rfl
@[simp] theorem Dev.decr_out (d : Dev) (f : Fld) : (d.decr f).out = d.out := rfl
@[simp] theorem Dev.decr_sys (d : Dev) (f : Fld) : (d.decr f).sys = d.sys := rfl
@[simp] theorem Dev.decr_icu (d : Dev) (f : Fld) : (d.decr f).icu = d.icu := rfl
@[simp] theorem Dev.decr_xdi (d : Dev) (f : Fld) : (d.decr f).xdi = d.xdi := rfl
@[simp] theorem Dev.decr_msr (d : Dev) (f : Fld) : (d.decr f).msr = d.msr := rfl
@[simp] theorem Dev.decr_cu (d : Dev) (f : Fld) : (d.decr f).cu = d.cu := rfl
@[simp] theorem Dev.decr_reel (d : Dev) (f : Fld) : (d.decr f).reel = d.reel := rfl
@[simp] theorem Dev.decr_val (d : Dev) (f : Fld) : (d.decr f).val = d.val := rfl
@[simp] theorem Dev.decr_wlz (d : Dev) (f : Fld) : (d.decr f).wlz = d.wlz := rfl
@[simp] theorem Dev.decr_bol (d : Dev) (f : Fld) : (d.decr f).bol = d.bol := rfl
@[simp] theorem Dev.decr_pav (d : Dev) (f : Fld) : (d.decr f).pav = d.pav := rfl
@[simp] theorem Dev.decr_rtc (d : Dev) (f : Fld) : (d.decr f).rtc = d.rtc := rfl
@[simp] theorem Dev.decr_plk (d : Dev) (f : Fld) : (d.decr f).plk = d.plk := rfl
@[simp] theorem Dev.decr_mzk (d : Dev) (f : Fld) : (d.decr f).mzk = d.mzk := rfl
@[simp] theorem Dev.decr_tsu (d : Dev) (f : Fld) : (d.decr f).tsu = d.tsu := rfl
@[simp] theorem Dev.decr_eth (d : Dev) (f : Fld) : (d.decr f).eth = d.eth := rfl
@[simp] theorem Dev.decr_gav (d : Dev) (f : Fld) : (d.decr f).gav = d.gav := rfl
@[simp] theorem Dev.decr_epl (d : Dev) (f : Fld) : (d.decr f).epl = d.epl := rfl
@[simp] theorem Dev.decr_upd (d : Dev) (f : Fld) : (d.decr f).upd = d.upd := rfl
@[simp] theorem Dev.decr_pmu (d : Dev) (f : Fld) : (d.decr f).pmu = d.pmu := rfl
@[simp] theorem Dev.decr_log (d : Dev) (f : Fld) : (d.decr f).log = d.log := rfl
@[simp] theorem Dev.decr_srb (d : Dev) (f : Fld) : (d.decr f).srb = d.srb := rfl

/-! ### Dev.wrBit changes regs only -/

@[simp] theorem Dev.wrBit_mem (d : Dev) (f : Fld) (i : Nat) (b : Bool) : (d.wrBit f i b).mem = d.mem := rfl
@[simp] theorem Dev.wrBit_fifos (d : Dev) (f : Fld) (i : Nat) (b : Bool) : (d.wrBit f i b).fifos = d.fifos := rfl
@[simp] theorem Dev.wrBit_tick (d : Dev) (f : Fld) (i : Nat) (b : Bool) : (d.wrBit f i b).tick = d.tick := rfl
@[simp] theorem Dev.wrBit_clk (d : Dev) (f : Fld) (i : Nat) (b : Bool) : (d.wrBit f i b).clk = d.clk := rfl
@[simp] theorem Dev.wrBit_fresh (d : Dev) (f : Fld) (i : Nat) (b : Bool) : (d.wrBit f i b).fresh = d.fresh := rfl
@[simp] theorem Dev.wrBit_out (d : Dev) (f : Fld) (i : Nat) (b : Bool) : (d.wrBit f i b).out = d.out := rfl
@[simp] theorem Dev.wrBit_sys (d : Dev) (f : Fld) (i : Nat) (b : Bool) : (d.wrBit f i b).sys = d.sys := rfl
@[simp] theorem Dev.wrBit_icu (d : Dev) (f : Fld) (i : Nat) (b : Bool) : (d.wrBit f i b).icu = d.icu := rfl
@[simp] theorem Dev.wrBit_xdi (d : Dev) (f : Fld) (i : Nat) (b : Bool) : (d.wrBit f i b).xdi = d.xdi := rfl
@[simp] theorem Dev.wrBit_msr (d : Dev) (f : Fld) (i : Nat) (b : Bool) : (d.wrBit f i b).msr = d.msr := rfl
@[simp] theorem Dev.wrBit_cu (d : Dev) (f : Fld) (i : Nat) (b : Bool) : (d.wrBit f i b).cu = d.cu := rfl
@[simp] theorem Dev.wrBit_reel (d : Dev) (f : Fld) (i : Nat) (b : Bool) : (d.wrBit f i b).reel = d.reel := rfl
@[simp] theorem Dev.wrBit_val (d : Dev) (f : Fld) (i : Nat) (b : Bool) : (d.wrBit f i b).val = d.val := rfl
@[simp] theorem Dev.wrBit_wlz (d : Dev) (f : Fld) (i : Nat) (b : Bool) : (d.wrBit f i b).wlz = d.wlz := rfl
@[simp] theorem Dev.wrBit_bol (d : Dev) (f : Fld) (i : Nat) (b : Bool) : (d.wrBit f i b).bol = d.bol := rfl
@[simp] theorem Dev.wrBit_pav (d : Dev) (f : Fld) (i : Nat) (b : Bool) : (d.wrBit f i b).pav = d.pav := rfl
@[simp] theorem Dev.wrBit_rtc (d : Dev) (f : Fld) (i : Nat) (b : Bool) : (d.wrBit f i b).rtc = d.rtc := rfl
@[simp] theorem Dev.wrBit_plk (d : Dev) (f : Fld) (i : Nat) (b : Bool) : (d.wrBit f i b).plk = d.plk := rfl
@[simp] theorem Dev.wrBit_mzk (d : Dev) (f : Fld) (i : Nat) (b : Bool) : (d.wrBit f i b).mzk = d.mzk := rfl
@[simp] theorem Dev.wrBit_tsu (d : Dev) (f : Fld) (i : Nat) (b : Bool) : (d.wrBit f i b).tsu = d.tsu := rfl
@[simp] theorem Dev.wrBit_eth (d : Dev) (f : Fld) (i : Nat) (b : Bool) : (d.wrBit f i b).eth = d.eth := rfl
@[simp] theorem Dev.wrBit_gav (d : Dev) (f : Fld) (i : Nat) (b : Bool) : (d.wrBit f i b).gav = d.gav := rfl
@[simp] theorem Dev.wrBit_epl (d : Dev) (f : Fld) (i : Nat) (b : Bool) : (d.wrBit f i b).epl = d.epl := rfl
@[simp] theorem Dev.wrBit_upd (d : Dev) (f : Fld) (i : Nat) (b : Bool) : (d.wrBit f i b).upd = d.upd := rfl
@[simp] theorem Dev.wrBit_pmu (d : Dev) (f : Fld) (i : Nat) (b : Bool) : (d.wrBit f i b).pmu = d.pmu := rfl
@[simp] theorem Dev.wrBit_log (d : Dev) (f : Fld) (i : Nat) (b : Bool) : (d.wrBit f i b).log = d.log := rfl
@[simp] theorem Dev.wrBit_srb (d : Dev) (f : Fld) (i : Nat) (b : Bool) : (d.wrBit f i b).srb = d.srb := rfl

/-! ### Dev.emit changes out only -/

@[simp] theorem Dev.emit_regs (d : Dev) (o : Out) : (d.emit o).regs = d.regs := rfl
@[simp] theorem Dev.emit_mem (d : Dev) (o : Out) : (d.emit o).mem = d.mem := rfl
@[simp] theorem Dev.emit_fifos (d : Dev) (o : Out) : (d.emit o).fifos = d.fifos := rfl
@[simp] theorem Dev.emit_tick (d : Dev) (o : Out) : (d.emit o).tick = d.tick := rfl
@[simp] theorem Dev.emit_clk (d : Dev) (o : Out) : (d.emit o).clk = d.clk := rfl
@[simp] theorem Dev.emit_fresh (d : Dev) (o : Out) : (d.emit o).fresh = d.fresh := rfl
@[simp] theorem Dev.emit_sys (d : Dev) (o : Out) : (d.emit o).sys = d.sys := rfl
@[simp] theorem Dev.emit_icu (d : Dev) (o : Out) : (d.emit o).icu = d.icu := rfl
@[simp] theorem Dev.emit_xdi (d : Dev) (o : Out) : (d.emit o).xdi = d.xdi := rfl
@[simp] theorem Dev.emit_msr (d : Dev) (o : Out) : (d.emit o).msr = d.msr := rfl
@[simp] theorem Dev.emit_cu (d : Dev) (o : Out) : (d.emit o).cu = d.cu := rfl
@[simp] theorem Dev.emit_reel (d : Dev) (o : Out) : (d.emit o).reel = d.reel := rfl
@[simp] theorem Dev.emit_val (d : Dev) (o : Out) : (d.emit o).val = d.val := rfl
@[simp] theorem Dev.emit_wlz (d : Dev) (o : Out) : (d.emit o).wlz = d.wlz := rfl
@[simp] theorem Dev.emit_bol (d : Dev) (o : Out) : (d.emit o).bol = d.bol := rfl
@[simp] theorem Dev.emit_pav (d : Dev) (o : Out) : (d.emit o).pav = d.pav := rfl
@[simp] theorem Dev.emit_rtc (d : Dev) (o : Out) : (d.emit o).rtc = d.rtc := rfl
@[simp] theorem Dev.emit_plk (d : Dev) (o : Out) : (d.emit o).plk = d.plk := rfl
@[simp] theorem Dev.emit_mzk (d : Dev) (o : Out) : (d.emit o).mzk = d.mzk := rfl
@[simp] theorem Dev.emit_tsu (d : Dev) (o : Out) : (d.emit o).tsu = d.tsu := rfl
@[simp] theorem Dev.emit_eth (d : Dev) (o : Out) : (d.emit o).eth = d.eth := rfl
@[simp] theorem Dev.emit_gav (d : Dev) (o : Out) : (d.emit o).gav = d.gav := rfl
@[simp] theorem Dev.emit_epl (d : Dev) (o : Out) : (d.emit o).epl = d.epl := rfl
@[simp] theorem Dev.emit_upd (d : Dev) (o : Out) : (d.emit o).upd = d.upd := rfl
@[simp] theorem Dev.emit_pmu (d : Dev) (o : Out) : (d.emit o).pmu = d.pmu := rfl
@[simp] theorem Dev.emit_log (d : Dev) (o : Out) : (d.emit o).log = d.log := rfl
@[simp] theorem Dev.emit_srb (d : Dev) (o : Out) : (d.emit o).srb = d.srb := rfl

/-! ### Dev.emits changes out only -/

@[simp] theorem Dev.emits_regs (d : Dev) (os : List Out) : (d.emits os).regs = d.regs := rfl
@[simp] theorem Dev.emits_mem (d : Dev) (os : List Out) : (d.emits os).mem = d.mem := rfl
@[simp] theorem Dev.emits_fifos (d : Dev) (os : List Out) : (d.emits os).fifos = d.fifos := rfl
@[simp] theorem Dev.emits_tick (d : Dev) (os : List Out) : (d.emits os).tick = d.tick := rfl
@[simp] theorem Dev.emits_clk (d : Dev) (os : List Out) : (d.emits os).clk = d.clk := rfl
@[simp] theorem Dev.emits_fresh (d : Dev) (os : List Out) : (d.emits os).fresh = d.fresh := rfl
@[simp] theorem Dev.emits_sys (d : Dev) (os : List Out) : (d.emits os).sys = d.sys := rfl
@[simp] theorem Dev.emits_icu (d : Dev) (os : List Out) : (d.emits os).icu = d.icu := rfl
@[simp] theorem Dev.emits_xdi (d : Dev) (os : List Out) : (d.emits os).xdi = d.xdi := rfl
@[simp] theorem Dev.emits_msr (d : Dev) (os : List Out) : (d.emits os).msr = d.msr := rfl
@[simp] theorem Dev.emits_cu (d : Dev) (os : List Out) : (d.emits os).cu = d.cu := rfl
@[simp] theorem Dev.emits_reel (d : Dev) (os : List Out) : (d.emits os).reel = d.reel := rfl
@[simp] theorem Dev.emits_val (d : Dev) (os : List Out) : (d.emits os).val = d.val := rfl
@[simp] theorem Dev.emits_wlz (d : Dev) (os : List Out) : (d.emits os).wlz = d.wlz := rfl
@[simp] theorem Dev.emits_bol (d : Dev) (os : List Out) : (d.emits os).bol = d.bol := rfl
@[simp] theorem Dev.emits_pav (d : Dev) (os : List Out) : (d.emits os).pav = d.pav := rfl
@[simp] theorem Dev.emits_rtc (d : Dev) (os : List Out) : (d.emits os).rtc = d.rtc := rfl
@[simp] theorem Dev.emits_plk (d : Dev) (os : List Out) : (d.emits os).plk = d.plk := rfl
@[simp] theorem Dev.emits_mzk (d : Dev) (os : List Out) : (d.emits os).mzk = d.mzk := rfl
@[simp] theorem Dev.emits_tsu (d : Dev) (os : List Out) : (d.emits os).tsu = d.tsu := rfl
@[simp] theorem Dev.emits_eth (d : Dev) (os : List Out) : (d.emits os).eth = d.eth := rfl
@[simp] theorem Dev.emits_gav (d : Dev) (os : List Out) : (d.emits os).gav = d.gav := rfl
@[simp] theorem Dev.emits_epl (d : Dev) (os : List Out) : (d.emits os).epl = d.epl := rfl
@[simp] theorem Dev.emits_upd (d : Dev) (os : List Out) : (d.emits os).upd = d.upd := rfl
@[simp] theorem Dev.emits_pmu (d : Dev) (os : List Out) : (d.emits os).pmu = d.pmu := rfl
@[simp] theorem Dev.emits_log (d : Dev) (os : List Out) : (d.emits os).log = d.log := rfl
@[simp] theorem Dev.emits_srb (d : Dev) (os : List Out) : (d.emits os).srb = d.srb := rfl

/-! ### Dev.trouble changes log only -/

@[simp] theorem Dev.trouble_regs (d : Dev) (src sev code p0 p1 p2 : Nat) : (d.trouble src sev code p0 p1 p2).regs = d.regs := rfl
@[simp] theorem Dev.trouble_mem (d : Dev) (src sev code p0 p1 p2 : Nat) : (d.trouble src sev code p0 p1 p2).mem = d.mem := rfl
@[simp] theorem Dev.trouble_fifos (d : Dev) (src sev code p0 p1 p2 : Nat) : (d.trouble src sev code p0 p1 p2).fifos = d.fifos := rfl
@[simp] theorem Dev.trouble_tick (d : Dev) (src sev code p0 p1 p2 : Nat) : (d.trouble src sev code p0 p1 p2).tick = d.tick := rfl
@[simp] theorem Dev.trouble_clk (d : Dev) (src sev code p0 p1 p2 : Nat) : (d.trouble src sev code p0 p1 p2).clk = d.clk := rfl
@[simp] theorem Dev.trouble_fresh (d : Dev) (src sev code p0 p1 p2 : Nat) : (d.trouble src sev code p0 p1 p2).fresh = d.fresh := rfl
@[simp] theorem Dev.trouble_out (d : Dev) (src sev code p0 p1 p2 : Nat) : (d.trouble src sev code p0 p1 p2).out = d.out := rfl
@[simp] theorem Dev.trouble_sys (d : Dev) (src sev code p0 p1 p2 : Nat) : (d.trouble src sev code p0 p1 p2).sys = d.sys := rfl
@[simp] theorem Dev.trouble_icu (d : Dev) (src sev code p0 p1 p2 : Nat) : (d.trouble src sev code p0 p1 p2).icu = d.icu := rfl
@[simp] theorem Dev.trouble_xdi (d : Dev) (src sev code p0 p1 p2 : Nat) : (d.trouble src sev code p0 p1 p2).xdi = d.xdi := rfl
@[simp] theorem Dev.trouble_msr (d : Dev) (src sev code p0 p1 p2 : Nat) : (d.trouble src sev code p0 p1 p2).msr = d.msr := rfl
@[simp] theorem Dev.trouble_cu (d : Dev) (src sev code p0 p1 p2 : Nat) : (d.trouble src sev code p0 p1 p2).cu = d.cu := rfl
@[simp] theorem Dev.trouble_reel (d : Dev) (src sev code p0 p1 p2 : Nat) : (d.trouble src sev code p0 p1 p2).reel = d.reel := rfl
@[simp] theorem Dev.trouble_val (d : Dev) (src sev code p0 p1 p2 : Nat) : (d.trouble src sev code p0 p1 p2).val = d.val := rfl
@[simp] theorem Dev.trouble_wlz (d : Dev) (src sev code p0 p1 p2 : Nat) : (d.trouble src sev code p0 p1 p2).wlz = d.wlz := rfl
@[simp] theorem Dev.trouble_bol (d : Dev) (src sev code p0 p1 p2 : Nat) : (d.trouble src sev code p0 p1 p2).bol = d.bol := rfl
@[simp] theorem Dev.trouble_pav (d : Dev) (src sev code p0 p1 p2 : Nat) : (d.trouble src sev code p0 p1 p2).pav = d.pav := rfl
@[simp] theorem Dev.trouble_rtc (d : Dev) (src sev code p0 p1 p2 : Nat) : (d.trouble src sev code p0 p1 p2).rtc = d.rtc := rfl
@[simp] theorem Dev.trouble_plk (d : Dev) (src sev code p0 p1 p2 : Nat) : (d.trouble src sev code p0 p1 p2).plk = d.plk := rfl
@[simp] theorem Dev.trouble_mzk (d : Dev) (src sev code p0 p1 p2 : Nat) : (d.trouble src sev code p0 p1 p2).mzk = d.mzk := rfl
@[simp] theorem Dev.trouble_tsu (d : Dev) (src sev code p0 p1 p2 : Nat) : (d.trouble src sev code p0 p1 p2).tsu = d.tsu := rfl
@[simp] theorem Dev.trouble_eth (d : Dev) (src sev code p0 p1 p2 : Nat) : (d.trouble src sev code p0 p1 p2).eth = d.eth := rfl
@[simp] theorem Dev.trouble_gav (d : Dev) (src sev code p0 p1 p2 : Nat) : (d.trouble src sev code p0 p1 p2).gav = d.gav := rfl
@[simp] theorem Dev.trouble_epl (d : Dev) (src sev code p0 p1 p2 : Nat) : (d.trouble src sev code p0 p1 p2).epl = d.epl := rfl
@[simp] theorem Dev.trouble_upd (d : Dev) (src sev code p0 p1 p2 : Nat) : (d.trouble src sev code p0 p1 p2).upd = d.upd := rfl
@[simp] theorem Dev.trouble_pmu (d : Dev) (src sev code p0 p1 p2 : Nat) : (d.trouble src sev code p0 p1 p2).pmu = d.pmu := rfl
@[simp] theorem Dev.trouble_srb (d : Dev) (src sev code p0 p1 p2 : Nat) : (d.trouble src sev code p0 p1 p2).srb = d.srb := rfl

/-! ### Dev.drawn changes fresh only -/

@[simp] theorem Dev.drawn_regs (d : Dev) : (d.drawn).regs = d.regs := rfl
@[simp] theorem Dev.drawn_mem (d : Dev) : (d.drawn).mem = d.mem := rfl
@[simp] theorem Dev.drawn_fifos (d : Dev) : (d.drawn).fifos = d.fifos := rfl
@[simp] theorem Dev.drawn_tick (d : Dev) : (d.drawn).tick = d.tick := rfl
@[simp] theorem Dev.drawn_clk (d : Dev) : (d.drawn).clk = d.clk := rfl
@[simp] theorem Dev.drawn_out (d : Dev) : (d.drawn).out = d.out := rfl
@[simp] theorem Dev.drawn_sys (d : Dev) : (d.drawn).sys = d.sys := rfl
@[simp] theorem Dev.drawn_icu (d : Dev) : (d.drawn).icu = d.icu := rfl
@[simp] theorem Dev.drawn_xdi (d : Dev) : (d.drawn).xdi = d.xdi := rfl
@[simp] theorem Dev.drawn_msr (d : Dev) : (d.drawn).msr = d.msr := rfl
@[simp] theorem Dev.drawn_cu (d : Dev) : (d.drawn).cu = d.cu := rfl
@[simp] theorem Dev.drawn_reel (d : Dev) : (d.drawn).reel = d.reel := rfl
@[simp] theorem Dev.drawn_val (d : Dev) : (d.drawn).val = d.val := rfl
@[simp] theorem Dev.drawn_wlz (d : Dev) : (d.drawn).wlz = d.wlz := rfl
@[simp] theorem Dev.drawn_bol (d : Dev) : (d.drawn).bol = d.bol := rfl
@[simp] theorem Dev.drawn_pav (d : Dev) : (d.drawn).pav = d.pav := rfl
@[simp] theorem Dev.drawn_rtc (d : Dev) : (d.drawn).rtc = d.rtc := rfl
@[simp] theorem Dev.drawn_plk (d : Dev) : (d.drawn).plk = d.plk := rfl
@[simp] theorem Dev.drawn_mzk (d : Dev) : (d.drawn).mzk = d.mzk := rfl
@[simp] theorem Dev.drawn_tsu (d : Dev) : (d.drawn).tsu = d.tsu := rfl
@[simp] theorem Dev.drawn_eth (d : Dev) : (d.drawn).eth = d.eth := rfl
@[simp] theorem Dev.drawn_gav (d : Dev) : (d.drawn).gav = d.gav := rfl
@[simp] theorem Dev.drawn_epl (d : Dev) : (d.drawn).epl = d.epl := rfl
@[simp] theorem Dev.drawn_upd (d : Dev) : (d.drawn).upd = d.upd := rfl
@[simp] theorem Dev.drawn_pmu (d : Dev) : (d.drawn).pmu = d.pmu := rfl
@[simp] theorem Dev.drawn_log (d : Dev) : (d.drawn).log = d.log := rfl
@[simp] theorem Dev.drawn_srb (d : Dev) : (d.drawn).srb = d.srb := rfl

/-! ### Dev.memWr changes mem only -/

@[simp] theorem Dev.memWr_regs (d : Dev) (a n v : Nat) : (d.memWr a n v).regs = d.regs := rfl
@[simp] theorem Dev.memWr_fifos (d : Dev) (a n v : Nat) : (d.memWr a n v).fifos = d.fifos := rfl
@[simp] theorem Dev.memWr_tick (d : Dev) (a n v : Nat) : (d.memWr a n v).tick = d.tick := rfl
@[simp] theorem Dev.memWr_clk (d : Dev) (a n v : Nat) : (d.memWr a n v).clk = d.clk := rfl
@[simp] theorem Dev.memWr_fresh (d : Dev) (a n v : Nat) : (d.memWr a n v).fresh = d.fresh := rfl
@[simp] theorem Dev.memWr_out (d : Dev) (a n v : Nat) : (d.memWr a n v).out = d.out := rfl
@[simp] theorem Dev.memWr_sys (d : Dev) (a n v : Nat) : (d.memWr a n v).sys = d.sys := rfl
@[simp] theorem Dev.memWr_icu (d : Dev) (a n v : Nat) : (d.memWr a n v).icu = d.icu := rfl
@[simp] theorem Dev.memWr_xdi (d : Dev) (a n v : Nat) : (d.memWr a n v).xdi = d.xdi := rfl
@[simp] theorem Dev.memWr_msr (d : Dev) (a n v : Nat) : (d.memWr a n v).msr = d.msr := rfl
@[simp] theorem Dev.memWr_cu (d : Dev) (a n v : Nat) : (d.memWr a n v).cu = d.cu := rfl
@[simp] theorem Dev.memWr_reel (d : Dev) (a n v : Nat) : (d.memWr a n v).reel = d.reel := rfl
@[simp] theorem Dev.memWr_val (d : Dev) (a n v : Nat) : (d.memWr a n v).val = d.val := rfl
@[simp] theorem Dev.memWr_wlz (d : Dev) (a n v : Nat) : (d.memWr a n v).wlz = d.wlz := rfl
@[simp] theorem Dev.memWr_bol (d : Dev) (a n v : Nat) : (d.memWr a n v).bol = d.bol := rfl
@[simp] theorem Dev.memWr_pav (d : Dev) (a n v : Nat) : (d.memWr a n v).pav = d.pav := rfl
@[simp] theorem Dev.memWr_rtc (d : Dev) (a n v : Nat) : (d.memWr a n v).rtc = d.rtc := rfl
@[simp] theorem Dev.memWr_plk (d : Dev) (a n v : Nat) : (d.memWr a n v).plk = d.plk := rfl
@[simp] theorem Dev.memWr_mzk (d : Dev) (a n v : Nat) : (d.memWr a n v).mzk = d.mzk := rfl
@[simp] theorem Dev.memWr_tsu (d : Dev) (a n v : Nat) : (d.memWr a n v).tsu = d.tsu := rfl
@[simp] theorem Dev.memWr_eth (d : Dev) (a n v : Nat) : (d.memWr a n v).eth = d.eth := rfl
@[simp] theorem Dev.memWr_gav (d : Dev) (a n v : Nat) : (d.memWr a n v).gav = d.gav := rfl
@[simp] theorem Dev.memWr_epl (d : Dev) (a n v : Nat) : (d.memWr a n v).epl = d.epl := rfl
@[simp] theorem Dev.memWr_upd (d : Dev) (a n v : Nat) : (d.memWr a n v).upd = d.upd := rfl
@[simp] theorem Dev.memWr_pmu (d : Dev) (a n v : Nat) : (d.memWr a n v).pmu = d.pmu := rfl
@[simp] theorem Dev.memWr_log (d : Dev) (a n v : Nat) : (d.memWr a n v).log = d.log := rfl
@[simp] theorem Dev.memWr_srb (d : Dev) (a n v : Nat) : (d.memWr a n v).srb = d.srb := rfl

/-! ### Dev.memWrB changes mem only -/

@[simp] theorem Dev.memWrB_regs (d : Dev) (a : Nat) (l : List Byte) : (d.memWrB a l).regs = d.regs := rfl
@[simp] theorem Dev.memWrB_fifos (d : Dev) (a : Nat) (l : List Byte) : (d.memWrB a l).fifos = d.fifos := rfl
@[simp] theorem Dev.memWrB_tick (d : Dev) (a : Nat) (l : List Byte) : (d.memWrB a l).tick = d.tick := rfl
@[simp] theorem Dev.memWrB_clk (d : Dev) (a : Nat) (l : List Byte) : (d.memWrB a l).clk = d.clk := rfl
@[simp] theorem Dev.memWrB_fresh (d : Dev) (a : Nat) (l : List Byte) : (d.memWrB a l).fresh = d.fresh := rfl
@[simp] theorem Dev.memWrB_out (d : Dev) (a : Nat) (l : List Byte) : (d.memWrB a l).out = d.out := rfl
@[simp] theorem Dev.memWrB_sys (d : Dev) (a : Nat) (l : List Byte) : (d.memWrB a l).sys = d.sys := rfl
@[simp] theorem Dev.memWrB_icu (d : Dev) (a : Nat) (l : List Byte) : (d.memWrB a l).icu = d.icu := rfl
@[simp] theorem Dev.memWrB_xdi (d : Dev) (a : Nat) (l : List Byte) : (d.memWrB a l).xdi = d.xdi := rfl
@[simp] theorem Dev.memWrB_msr (d : Dev) (a : Nat) (l : List Byte) : (d.memWrB a l).msr = d.msr := rfl
@[simp] theorem Dev.memWrB_cu (d : Dev) (a : Nat) (l : List Byte) : (d.memWrB a l).cu = d.cu := rfl
@[simp] theorem Dev.memWrB_reel (d : Dev) (a : Nat) (l : List Byte) : (d.memWrB a l).reel = d.reel := rfl
@[simp] theorem Dev.memWrB_val (d : Dev) (a : Nat) (l : List Byte) : (d.memWrB a l).val = d.val := rfl
@[simp] theorem Dev.memWrB_wlz (d : Dev) (a : Nat) (l : List Byte) : (d.memWrB a l).wlz = d.wlz := rfl
@[simp] theorem Dev.memWrB_bol (d : Dev) (a : Nat) (l : List Byte) : (d.memWrB a l).bol = d.bol := rfl
@[simp] theorem Dev.memWrB_pav (d : Dev) (a : Nat) (l : List Byte) : (d.memWrB a l).pav = d.pav := rfl
@[simp] theorem Dev.memWrB_rtc (d : Dev) (a : Nat) (l : List Byte) : (d.memWrB a l).rtc = d.rtc := rfl
@[simp] theorem Dev.memWrB_plk (d : Dev) (a : Nat) (l : List Byte) : (d.memWrB a l).plk = d.plk := rfl
@[simp] theorem Dev.memWrB_mzk (d : Dev) (a : Nat) (l : List Byte) : (d.memWrB a l).mzk = d.mzk := rfl
@[simp] theorem Dev.memWrB_tsu (d : Dev) (a : Nat) (l : List Byte) : (d.memWrB a l).tsu = d.tsu := rfl
@[simp] theorem Dev.memWrB_eth (d : Dev) (a : Nat) (l : List Byte) : (d.memWrB a l).eth = d.eth := rfl
@[simp] theorem Dev.memWrB_gav (d : Dev) (a : Nat) (l : List Byte) : (d.memWrB a l).gav = d.gav := rfl
@[simp] theorem Dev.memWrB_epl (d : Dev) (a : Nat) (l : List Byte) : (d.memWrB a l).epl = d.epl := rfl
@[simp] theorem Dev.memWrB_upd (d : Dev) (a : Nat) (l : List Byte) : (d.memWrB a l).upd = d.upd := rfl
@[simp] theorem Dev.memWrB_pmu (d : Dev) (a : Nat) (l : List Byte) : (d.memWrB a l).pmu = d.pmu := rfl
@[simp] theorem Dev.memWrB_log (d : Dev) (a : Nat) (l : List Byte) : (d.memWrB a l).log = d.log := rfl
@[simp] theorem Dev.memWrB_srb (d : Dev) (a : Nat) (l : List Byte) : (d.memWrB a l).srb = d.srb := rfl

/-! ### What a command leaves of the queue -/

@[simp] theorem ran_next (s : State) (d : Dev) : ran s d = .next { s with dev := d } := rfl

/-! ### Tables: a read after a write -/

theorem mget?_cons {α : Type} (e : Nat × α) (t : Map α) (a : Nat) :
    mget? (e :: t) a = if e.1 = a then some e.2 else mget? t a := rfl

theorem mdel_cons {α : Type} (e : Nat × α) (t : Map α) (a : Nat) :
    mdel (e :: t) a = if e.1 = a then mdel t a else e :: mdel t a := by
  unfold mdel
  by_cases h : e.1 = a <;> simp [h]

theorem mget?_mdel_same {α : Type} (m : Map α) (a : Nat) : mget? (mdel m a) a = none := by
  induction m with
  | nil => rfl
  | cons e t ih =>
    rw [mdel_cons]
    split
    · exact ih
    · rename_i h
      rw [mget?_cons, if_neg h, ih]

theorem mget?_mdel_other {α : Type} (m : Map α) {a b : Nat} (hn : b ≠ a) : mget? (mdel m a) b = mget? m b := by
  induction m with
  | nil => rfl
  | cons e t ih =>
    rw [mdel_cons]
    split
    · rename_i h
      rw [mget?_cons, if_neg (fun x => hn (x.symm.trans h)), ih]
    · rw [mget?_cons, mget?_cons, ih]

theorem mget?_mins_same {α : Type} (m : Map α) (a : Nat) (v : α) (h : mget? m a = none) : mget? (mins m a v) a = some v := by
  induction m with
  | nil => simp [mins, mget?]
  | cons e t ih =>
    unfold mget? at h
    by_cases he : e.1 = a
    · simp [he] at h
    · simp only [he, if_false] at h
      unfold mins
      split
      · simp [mget?]
      · simp [mget?, he, ih h]

theorem mget?_mins_other {α : Type} (m : Map α) {a b : Nat} (v : α) (hn : b ≠ a) : mget? (mins m a v) b = mget? m b := by
  induction m with
  | nil => simp [mins, mget?, Ne.symm hn]
  | cons e t ih =>
    unfold mins
    split
    · simp [mget?, Ne.symm hn]
    · by_cases hb : e.1 = b
      · simp [mget?, hb]
      · simp [mget?, hb, ih]

@[simp] theorem mget?_mput_same {α : Type} (m : Map α) (a : Nat) (v : α) : mget? (mput m a v) a = some v :=
  mget?_mins_same _ _ _ (mget?_mdel_same m a)

theorem mget?_mput_other {α : Type} (m : Map α) {a b : Nat} (v : α) (hn : b ≠ a) : mget? (mput m a v) b = mget? m b := by
  unfold mput
  rw [mget?_mins_other _ v hn, mget?_mdel_other m hn]

@[simp] theorem mgetD_mput_same {α : Type} (m : Map α) (a : Nat) (v x : α) : mgetD (mput m a v) a x = v := by
  simp [mgetD]

theorem mgetD_mput_other {α : Type} (m : Map α) {a b : Nat} (v x : α) (hn : b ≠ a) : mgetD (mput m a v) b x = mgetD m b x := by
  simp [mgetD, mget?_mput_other m v hn]

@[simp] theorem tget_tset_same (t : Tab) (a v : Nat) : tget (tset t a v) a = v := by
  unfold tget tset
  split
  · rename_i h
    rw [mget?_mdel_same, h]
    rfl
  · rw [mget?_mput_same]
    rfl

theorem tget_tset_other (t : Tab) {a b : Nat} (v : Nat) (hn : b ≠ a) : tget (tset t a v) b = tget t b := by
  unfold tget tset
  split
  · rw [mget?_mdel_other t hn]
  · rw [mget?_mput_other t v hn]

/-! ### Memory: a read after a write -/

@[simp] theorem Memory.read_write_same (m : Memory) (a : Nat) (b : Byte) : (m.write a b).read a = b := by
  unfold Memory.read Memory.write
  split
  · rename_i h
    rw [mget?_mdel_same, h]
    rfl
  · rw [mget?_mput_same]
    rfl

theorem Memory.read_write_other (m : Memory) {a c : Nat} (b : Byte) (hn : c ≠ a) : (m.write a b).read c = m.read c := by
  unfold Memory.read Memory.write
  split
  · rw [mget?_mdel_other m hn]
  · rw [mget?_mput_other m b hn]

theorem Memory.read_writeBytes_other (l : List Byte) : ∀ (m : Memory) (a c : Nat), (c < a ∨ a + l.length ≤ c) →
    (m.writeBytes a l).read c = m.read c := by
  induction l with
  | nil => exact fun m a c h => rfl
  | cons b t ih =>
    intro m a c h
    have hl : (b :: t).length = t.length + 1 := rfl
    rw [hl] at h
    show ((m.write a b).writeBytes (a + 1) t).read c = m.read c
    rw [ih _ _ _ (by omega), Memory.read_write_other m b (by omega)]

theorem Memory.readBytes_writeBytes (l : List Byte) : ∀ (m : Memory) (a : Nat), (m.writeBytes a l).readBytes a l.length = l := by
  induction l with
  | nil => exact fun m a => rfl
  | cons b t ih =>
    intro m a
    show ((m.write a b).writeBytes (a + 1) t).read a :: ((m.write a b).writeBytes (a + 1) t).readBytes (a + 1) t.length = b :: t
    rw [ih, Memory.read_writeBytes_other _ _ _ _ (Or.inl (Nat.lt_succ_self a)), Memory.read_write_same]

/-! ### Register fields: a read after a write -/

@[simp] theorem Dev.rd_wr_same (d : Dev) (f : Fld) (v : Nat) : (d.wr f v).rd f = v % 2 ^ f.width := by
  show tget (tset d.regs f.key ((v % 2 ^ f.width) ^^^ f.reset)) f.key ^^^ f.reset = _
  rw [tget_tset_same, Nat.xor_assoc, Nat.xor_self, Nat.xor_zero]

theorem Dev.rd_wr_other (d : Dev) (f g : Fld) (v : Nat) (hn : g.key ≠ f.key) : (d.wr f v).rd g = d.rd g := by
  show tget (tset d.regs f.key _) g.key ^^^ g.reset = _
  rw [tget_tset_other _ _ hn]
  rfl

theorem Dev.rd_congr {d e : Dev} (f : Fld) (h : d.regs = e.regs) : d.rd f = e.rd f := by
  unfold Dev.rd
  rw [h]

theorem Dev.on_congr {d e : Dev} (f : Fld) (h : d.regs = e.regs) : d.on f = e.on f := by
  unfold Dev.on
  rw [Dev.rd_congr f h]

@[simp] theorem Dev.rd_reset (f : Fld) : Dev.reset.rd f = f.reset := by
  show tget [] f.key ^^^ f.reset = f.reset
  exact Nat.zero_xor _

@[simp] theorem Dev.rd_setF_same (d : Dev) (f : Fld) : (d.setF f).rd f = 1 % 2 ^ f.width := Dev.rd_wr_same d f 1

@[simp] theorem Dev.rd_clrF_same (d : Dev) (f : Fld) : (d.clrF f).rd f = 0 := by
  show (d.wr f 0).rd f = 0
  rw [Dev.rd_wr_same, Nat.zero_mod]

theorem Dev.rd_setF_other (d : Dev) (f g : Fld) (hn : g.key ≠ f.key) : (d.setF f).rd g = d.rd g := Dev.rd_wr_other d f g 1 hn

theorem Dev.rd_clrF_other (d : Dev) (f g : Fld) (hn : g.key ≠ f.key) : (d.clrF f).rd g = d.rd g := Dev.rd_wr_other d f g 0 hn

theorem Dev.rd_flag_other (d : Dev) (f g : Fld) (b : Bool) (hn : g.key ≠ f.key) : (d.flag f b).rd g = d.rd g :=
  Dev.rd_wr_other d f g (b2n b) hn

theorem Dev.rd_bump_other (d : Dev) (f g : Fld) (k : Nat) (hn : g.key ≠ f.key) : (d.bump f k).rd g = d.rd g :=
  Dev.rd_wr_other d f g _ hn

theorem Dev.rd_wrBit_other (d : Dev) (f g : Fld) (i : Nat) (b : Bool) (hn : g.key ≠ f.key) : (d.wrBit f i b).rd g = d.rd g :=
  Dev.rd_wr_other d f g _ hn

@[simp] theorem Dev.rd_emit (d : Dev) (o : Out) (f : Fld) : (d.emit o).rd f = d.rd f := rfl
@[simp] theorem Dev.rd_emits (d : Dev) (o : List Out) (f : Fld) : (d.emits o).rd f = d.rd f := rfl
@[simp] theorem Dev.rd_drawn (d : Dev) (f : Fld) : d.drawn.rd f = d.rd f := rfl
@[simp] theorem Dev.rd_trouble (d : Dev) (a b c p q r : Nat) (f : Fld) : (d.trouble a b c p q r).rd f = d.rd f := rfl
@[simp] theorem Dev.rd_memWr (d : Dev) (a n v : Nat) (f : Fld) : (d.memWr a n v).rd f = d.rd f := rfl
@[simp] theorem Dev.rd_memWrB (d : Dev) (a : Nat) (l : List Byte) (f : Fld) : (d.memWrB a l).rd f = d.rd f := rfl

end Sys2Proof.Machine
end

