-- ==== Sys2Proof/Laws/Ops.lean ====
section
/-! SUPPORT. What the shared operations do, said once: reading a ring pair after storing one, flags after they are set or
cleared. -/

namespace Sys2Proof.Machine

@[simp] theorem Dev.pair_setPair (d : Dev) (n : Nat) (p : Pair) : (d.setPair n p).pair n = p := by
  simp [Dev.pair, Dev.setPair]

theorem Dev.pair_setPair_other (d : Dev) {m n : Nat} (p : Pair) (h : m ≠ n) : (d.setPair n p).pair m = d.pair m := by
  simp [Dev.pair, Dev.setPair, mgetD_mput_other _ _ _ h]

@[simp] theorem Dev.rd_setPair (d : Dev) (n : Nat) (p : Pair) (f : Fld) : (d.setPair n p).rd f = d.rd f := rfl

@[simp] theorem Dev.on_setPair (d : Dev) (n : Nat) (p : Pair) (f : Fld) : (d.setPair n p).on f = d.on f := rfl

@[simp] theorem Dev.kRings_setPair (d : Dev) (n : Nat) (p : Pair) : (d.setPair n p).xdi.kRings = d.xdi.kRings := rfl

@[simp] theorem Dev.pair_wr (d : Dev) (n v : Nat) (f : Fld) : (d.wr f v).pair n = d.pair n := rfl

@[simp] theorem Dev.pair_setF (d : Dev) (n : Nat) (f : Fld) : (d.setF f).pair n = d.pair n := rfl

@[simp] theorem Dev.pair_clrF (d : Dev) (n : Nat) (f : Fld) : (d.clrF f).pair n = d.pair n := rfl

@[simp] theorem Dev.pair_bump (d : Dev) (n k : Nat) (f : Fld) : (d.bump f k).pair n = d.pair n := rfl

theorem Dev.on_wr_other (d : Dev) (f g : Fld) (v : Nat) (hn : g.key ≠ f.key) : (d.wr f v).on g = d.on g := by
  simp [Dev.on, Dev.rd_wr_other d f g v hn]

theorem Dev.on_setF_other (d : Dev) (f g : Fld) (hn : g.key ≠ f.key) : (d.setF f).on g = d.on g := Dev.on_wr_other d f g 1 hn

theorem Dev.on_clrF_other (d : Dev) (f g : Fld) (hn : g.key ≠ f.key) : (d.clrF f).on g = d.on g := Dev.on_wr_other d f g 0 hn

@[simp] theorem Dev.on_clrF_same (d : Dev) (f : Fld) : (d.clrF f).on f = false := by simp [Dev.on]

theorem Dev.on_setF_same (d : Dev) (f : Fld) (h : f.width ≠ 0) : (d.setF f).on f = true := by
  have : 1 < 2 ^ f.width := Nat.one_lt_two_pow h
  simp [Dev.on, Nat.mod_eq_of_lt this]

end Sys2Proof.Machine
end

