-- ==== Sys2Proof/WellFormed.lean ====
section
/-! DEFINITION. When a command is well formed: its descriptor carries the command's own opcode and came by a ring or by a
mailbox that serves it, its register offset is the one the command names, its operands are in the ranges the spec gives. -/

namespace Sys2Proof

/-- The opcode byte of a descriptor (R53). -/
def Desc.opcode (c : Desc) : Nat := c.w.toNat % 256

/-- Whether a descriptor carries an opcode and, where it came by a mailbox, by the block's own. -/
def Desc.carries (c : Desc) (op : Nat) (b : Option Mbox) : Bool :=
  c.opcode == op && (match c.via with
    | .ring _ => true
    | .mailbox x m => decide (some x = b) && m.toNat != 0)

/-- Whether a descriptor is an operation (argument byte 24) of an opcode. -/
def Desc.carriesOp (c : Desc) (op : Nat) (b : Option Mbox) (arg : Nat) : Bool :=
  c.carries op b && c.w.toNat / 2 ^ 192 % 256 == arg

/-- Whether a command's descriptor carries its opcode (R55, R71, R72, R121, R180, R217, R247, R276, R363, R382, R416, R417, R447,
R463, R494, R515), and its operation where the opcode has several. -/
def wfDesc : Instr → Bool
  | .nop c => c.carries 0x00 none
  | .expBuf c => c.carries 0x01 none
  | .hmbGrant c => c.carries 0x02 none
  | .hmbRevoke c => c.carries 0x03 none
  | .mtrLookup c => c.carries 0x10 (some .msr)
  | .mtrRead c => c.carries 0x11 (some .msr)
  | .mtrWrite c => c.carries 0x12 (some .msr)
  | .mtrAdmit c => c.carries 0x13 (some .msr)
  | .mtrRelease c => c.carries 0x14 (some .msr)
  | .mtrRetire c => c.carries 0x15 (some .msr)
  | .mtrFree c => c.carries 0x16 (some .msr)
  | .mtrMove c => c.carries 0x17 (some .msr)
  | .mtrScan c => c.carries 0x18 (some .msr)
  | .mtrPin c => c.carries 0x19 (some .msr)
  | .valLoad c => c.carries 0x40 (some .val)
  | .valSwap c => c.carries 0x41 (some .val)
  | .valInject c => c.carries 0x42 (some .val)
  | .valPath c => c.carries 0x43 (some .val)
  | .valReseq c => c.carries 0x46 (some .val)
  | .wlzNodeLoad c => c.carries 0x60 (some .wlz)
  | .wlzResults c => c.carries 0x61 (some .wlz)
  | .wlzRestoreRead c => c.carries 0x62 (some .wlz)
  | .wlzSuspRead c => c.carries 0x63 (some .wlz)
  | .wlzInfer c => c.carries 0x64 (some .wlz)
  | .wlzScore c => c.carries 0x65 (some .wlz)
  | .wlzAssign c => c.carries 0x66 (some .wlz)
  | .wlzProfile c => c.carries 0x67 (some .wlz)
  | .wlzRebuild c => c.carries 0x68 (some .wlz)
  | .wlzGroupLoad c => c.carries 0x69 (some .wlz)
  | .bolCmd c => c.carries 0x01 (some .bol)
  | .bolApdu c => c.carries 0x02 (some .bol)
  | .bolCampLoad c => c.carries 0x03 (some .bol)
  | .bolCampMembers c => c.carries 0x04 (some .bol)
  | .bolCampStart c => c.carries 0x05 (some .bol)
  | .bolCampActivate c => c.carries 0x06 (some .bol)
  | .bolCampWait c => c.carries 0x07 (some .bol)
  | .bolCampReport c => c.carries 0x08 (some .bol)
  | .bolCampAbort c => c.carries 0x09 (some .bol)
  | .bolCampFree c => c.carries 0x0A (some .bol)
  | .bolGroupSet c => c.carries 0x0B (some .bol)
  | .bolCmdStatus c => c.carries 0x0C (some .bol)
  | .keyImport c => c.carries 0x01 (some .pav)
  | .keyStage c => c.carries 0x02 (some .pav)
  | .keyCommit c => c.carries 0x03 (some .pav)
  | .keyAbandon c => c.carries 0x04 (some .pav)
  | .keyDestroy c => c.carries 0x05 (some .pav)
  | .keyInfo c => c.carries 0x06 (some .pav)
  | .keyList c => c.carries 0x07 (some .pav)
  | .keySuccessor c => c.carries 0x08 (some .pav)
  | .keyRootWrap c => c.carries 0x09 (some .pav)
  | .keyInit c => c.carries 0x0A (some .pav)
  | .keyZeroise c => c.carries 0x0B (some .pav)
  | .teBuf c => c.carries 0x01 none
  | .teAdj c => c.carries 0x02 none
  | .saInstall c => c.carries 0x01 (some .ethSa)
  | .saTxSwitch c => c.carries 0x02 (some .ethSa)
  | .saDelete c => c.carries 0x03 (some .ethSa)
  | .arcRead c _ => c.carries 0x01 none
  | .arcBlkRead c _ => c.carries 0x02 none
  | .arcBlkWrite c => c.carries 0x03 none
  | .arcTrim c => c.carries 0x04 none
  | .arcSdiscard c => c.carries 0x05 none
  | .arcFlush c => c.carries 0x06 none
  | .gavFormat c => c.carries 0xC0 (some .gav)
  | .gavInfo c => c.carries 0xC1 (some .gav)
  | .gavSdiscardSeq c => c.carries 0xC2 (some .gav)
  | .gavGcNow c => c.carries 0xC3 (some .gav)
  | .gavMarkLostClear c => c.carries 0xC4 (some .gav)
  | .pairInfo c => c.carries 0xA0 (some .epl)
  | .pairSwap c => c.carries 0xA1 (some .epl)
  | .pairWitnessGrant c => c.carries 0xA2 (some .epl)
  | .pairResync c => c.carries 0xA3 (some .epl)
  | .pairMismatchRead c => c.carries 0xA4 (some .epl)
  | .updOpen c => c.carries 0x01 (some .upd)
  | .updData c => c.carries 0x02 (some .upd)
  | .updVerify c => c.carries 0x03 (some .upd)
  | .updActivate c => c.carries 0x04 (some .upd)
  | .updClose c => c.carries 0x05 (some .upd)
  | .updAccept c => c.carries 0x06 (some .upd)
  | .updRevert c => c.carries 0x07 (some .upd)
  | .updAcceptDefaults c => c.carries 0x08 (some .upd)
  | .updStatus c => c.carries 0x09 (some .upd)
  | .updSetPut c => c.carries 0x0A (some .upd)
  | .updSetGet c => c.carries 0x0B (some .upd)
  | .pmuModeSetRun c => c.carriesOp 0x80 (some .pmu) 0
  | .pmuModeSetCommission c => c.carriesOp 0x80 (some .pmu) 1
  | .pmuStormForceSet c => c.carriesOp 0x80 (some .pmu) 2
  | .pmuStormForceClear c => c.carriesOp 0x80 (some .pmu) 3
  | .pmuModeSetDormant c => c.carriesOp 0x80 (some .pmu) 4
  | .pmuResetSoft c => c.carriesOp 0x81 (some .pmu) 0
  | .pmuResetDomain c => c.carriesOp 0x81 (some .pmu) 1
  | .pmuResourceRetire c => c.carriesOp 0x82 (some .pmu) 0
  | .pmuResourceRestore c _ => c.carriesOp 0x82 (some .pmu) 1
  | .pmuResourceQuery c => c.carriesOp 0x82 (some .pmu) 2
  | .logBuf c => c.carries 0x01 none
  | .srbCopy c => c.carries 0x02 none
  | .logMark c => c.carries 0x03 none
  | .logClear c => c.carries 0x04 none
  | _ => true

/-- Whether the other operands are in range. -/
def wfRange : Instr → Bool
  | .registerWrite _ off size _ => off.toNat % 4 == 0 && (size == 4 || size == 8)
  | .regPairLoRead _ off | .regPairHiWrite _ off _ | .regPairLoWrite _ off _ | .rcFieldRead _ off
  | .fifoFlush off | .fifoFlushComplete off => off.toNat % 4 == 0
  | .packetFifoTransfer a b _ _ => a.toNat % 4 == 0 && b.toNat % 4 == 0
  | .fabricAccess a => 1 ≤ a.size && a.size ≤ 4096 && (!a.write || a.data.length == a.size)
  | .modWindowTimeFire dest => decide (dest < 16 + 256)
  | .descriptorFetch _ ds => decide (ds.length ≤ 8)
  | .announceRepeat _ p | .campaignBlockPace _ p | .statusWindowEnd _ p | .activationWindowEnd _ p => decide (p < 4124)
  | .ethLinkChange _ _ rate => decide (rate.toNat ≤ 4)
  | .gavDieFault _ _ lost => lost.Nodup
  | _ => true

/-- A well-formed command. -/
def WellFormed (i : Instr) : Bool := wfDesc i && wfRange i

end Sys2Proof
end

