-- ==== Sys2Proof/Laws/PerInstr.lean ====
section
/-! SUPPORT. What holds of each command as a term, one lemma per command: well-formedness is its two parts, and a command
without a descriptor is well formed exactly when its operands are in range. -/

namespace Sys2Proof.Laws.F

/-- A command's well-formedness, from its descriptor and its operands. -/
def Statement (i : Instr) : Prop :=
  WellFormed i = true ↔ wfDesc i = true ∧ wfRange i = true

theorem registerWrite : ∀ x0 x1 x2 x3, Statement (.registerWrite x0 x1 x2 x3) := fun x0 x1 x2 x3 => Bool.and_eq_true_iff
theorem regPairLoRead : ∀ x0 x1, Statement (.regPairLoRead x0 x1) := fun x0 x1 => Bool.and_eq_true_iff
theorem regPairHiWrite : ∀ x0 x1 x2, Statement (.regPairHiWrite x0 x1 x2) := fun x0 x1 x2 => Bool.and_eq_true_iff
theorem regPairLoWrite : ∀ x0 x1 x2, Statement (.regPairLoWrite x0 x1 x2) := fun x0 x1 x2 => Bool.and_eq_true_iff
theorem rcFieldRead : ∀ x0 x1, Statement (.rcFieldRead x0 x1) := fun x0 x1 => Bool.and_eq_true_iff
theorem fabricAccess : ∀ x0, Statement (.fabricAccess x0) := fun x0 => Bool.and_eq_true_iff
theorem fifoFlush : ∀ x0, Statement (.fifoFlush x0) := fun x0 => Bool.and_eq_true_iff
theorem fifoFlushComplete : ∀ x0, Statement (.fifoFlushComplete x0) := fun x0 => Bool.and_eq_true_iff
theorem packetFifoTransfer : ∀ x0 x1 x2 x3, Statement (.packetFifoTransfer x0 x1 x2 x3) := fun x0 x1 x2 x3 => Bool.and_eq_true_iff
theorem perstAssert : Statement .perstAssert := Bool.and_eq_true_iff
theorem perstDeassert : Statement .perstDeassert := Bool.and_eq_true_iff
theorem pcieHotReset : Statement .pcieHotReset := Bool.and_eq_true_iff
theorem pcieFlr : Statement .pcieFlr := Bool.and_eq_true_iff
theorem pcieLinkDown : Statement .pcieLinkDown := Bool.and_eq_true_iff
theorem pcieLinkUp : ∀ x0, Statement (.pcieLinkUp x0) := fun x0 => Bool.and_eq_true_iff
theorem busMasterDisable : Statement .busMasterDisable := Bool.and_eq_true_iff
theorem busMasterEnable : Statement .busMasterEnable := Bool.and_eq_true_iff
theorem hostReadTimeout : Statement .hostReadTimeout := Bool.and_eq_true_iff
theorem d3hotEnter : Statement .d3hotEnter := Bool.and_eq_true_iff
theorem d0Return : Statement .d0Return := Bool.and_eq_true_iff
theorem xdiHostVerWrite : ∀ x0, Statement (.xdiHostVerWrite x0) := fun x0 => Bool.and_eq_true_iff
theorem ringCfgEnable : ∀ x0 x1, Statement (.ringCfgEnable x0 x1) := fun x0 x1 => Bool.and_eq_true_iff
theorem ringCfgDisable : ∀ x0 x1, Statement (.ringCfgDisable x0 x1) := fun x0 x1 => Bool.and_eq_true_iff
theorem ringDisableComplete : ∀ x0, Statement (.ringDisableComplete x0) := fun x0 => Bool.and_eq_true_iff
theorem descriptorFlushTimeout : ∀ x0 x1, Statement (.descriptorFlushTimeout x0 x1) := fun x0 x1 => Bool.and_eq_true_iff
theorem sqDoorbell : ∀ x0 x1, Statement (.sqDoorbell x0 x1) := fun x0 x1 => Bool.and_eq_true_iff
theorem cqDoorbell : ∀ x0 x1, Statement (.cqDoorbell x0 x1) := fun x0 x1 => Bool.and_eq_true_iff
theorem descriptorFetch : ∀ x0 x1, Statement (.descriptorFetch x0 x1) := fun x0 x1 => Bool.and_eq_true_iff
theorem fenceRelease : ∀ x0, Statement (.fenceRelease x0) := fun x0 => Bool.and_eq_true_iff
theorem completionPost : ∀ x0, Statement (.completionPost x0) := fun x0 => Bool.and_eq_true_iff
theorem nop : ∀ x0, Statement (.nop x0) := fun x0 => Bool.and_eq_true_iff
theorem xdiExpCtrlWrite : ∀ x0, Statement (.xdiExpCtrlWrite x0) := fun x0 => Bool.and_eq_true_iff
theorem expBuf : ∀ x0, Statement (.expBuf x0) := fun x0 => Bool.and_eq_true_iff
theorem exportRecordDeliver : Statement .exportRecordDeliver := Bool.and_eq_true_iff
theorem batchTimeout : ∀ x0, Statement (.batchTimeout x0) := fun x0 => Bool.and_eq_true_iff
theorem xdiExpCommitWrite : ∀ x0, Statement (.xdiExpCommitWrite x0) := fun x0 => Bool.and_eq_true_iff
theorem commitJournal : Statement .commitJournal := Bool.and_eq_true_iff
theorem hmbGrant : ∀ x0, Statement (.hmbGrant x0) := fun x0 => Bool.and_eq_true_iff
theorem hmbRevoke : ∀ x0, Statement (.hmbRevoke x0) := fun x0 => Bool.and_eq_true_iff
theorem hmbRevokeDone : Statement .hmbRevokeDone := Bool.and_eq_true_iff
theorem icuEdgeEvent : ∀ x0, Statement (.icuEdgeEvent x0) := fun x0 => Bool.and_eq_true_iff
theorem icuLevelAssert : ∀ x0, Statement (.icuLevelAssert x0) := fun x0 => Bool.and_eq_true_iff
theorem modWindowTimeFire : ∀ x0, Statement (.modWindowTimeFire x0) := fun x0 => Bool.and_eq_true_iff
theorem icuOffer : ∀ x0 x1, Statement (.icuOffer x0 x1) := fun x0 x1 => Bool.and_eq_true_iff
theorem icuClaim : ∀ x0 x1, Statement (.icuClaim x0 x1) := fun x0 x1 => Bool.and_eq_true_iff
theorem icuDone : ∀ x0 x1, Statement (.icuDone x0 x1) := fun x0 x1 => Bool.and_eq_true_iff
theorem icuEnableWrite : ∀ x0 x1, Statement (.icuEnableWrite x0 x1) := fun x0 x1 => Bool.and_eq_true_iff
theorem icuMaskWrite : ∀ x0 x1, Statement (.icuMaskWrite x0 x1) := fun x0 x1 => Bool.and_eq_true_iff
theorem icuPendWrite : ∀ x0 x1 x2 x3, Statement (.icuPendWrite x0 x1 x2 x3) := fun x0 x1 x2 x3 => Bool.and_eq_true_iff
theorem icuSrcCmdSet : ∀ x0, Statement (.icuSrcCmdSet x0) := fun x0 => Bool.and_eq_true_iff
theorem icuSrcCmdClear : ∀ x0, Statement (.icuSrcCmdClear x0) := fun x0 => Bool.and_eq_true_iff
theorem icuSrcCfgWrite : ∀ x0 x1, Statement (.icuSrcCfgWrite x0 x1) := fun x0 x1 => Bool.and_eq_true_iff
theorem icuModeWrite : ∀ x0 x1, Statement (.icuModeWrite x0 x1) := fun x0 x1 => Bool.and_eq_true_iff
theorem icuHdoneWrite : ∀ x0, Statement (.icuHdoneWrite x0) := fun x0 => Bool.and_eq_true_iff
theorem msixVectorUnmask : ∀ x0 x1 x2, Statement (.msixVectorUnmask x0 x1 x2) := fun x0 x1 x2 => Bool.and_eq_true_iff
theorem l1ExitDone : Statement .l1ExitDone := Bool.and_eq_true_iff
theorem pmeRepeat : Statement .pmeRepeat := Bool.and_eq_true_iff
theorem hostReattachMessages : Statement .hostReattachMessages := Bool.and_eq_true_iff
theorem msrEnable : ∀ x0, Statement (.msrEnable x0) := fun x0 => Bool.and_eq_true_iff
theorem mtrLookup : ∀ x0, Statement (.mtrLookup x0) := fun x0 => Bool.and_eq_true_iff
theorem mtrRead : ∀ x0, Statement (.mtrRead x0) := fun x0 => Bool.and_eq_true_iff
theorem mtrWrite : ∀ x0, Statement (.mtrWrite x0) := fun x0 => Bool.and_eq_true_iff
theorem mtrAdmit : ∀ x0, Statement (.mtrAdmit x0) := fun x0 => Bool.and_eq_true_iff
theorem mtrRelease : ∀ x0, Statement (.mtrRelease x0) := fun x0 => Bool.and_eq_true_iff
theorem mtrRetire : ∀ x0, Statement (.mtrRetire x0) := fun x0 => Bool.and_eq_true_iff
theorem mtrFree : ∀ x0, Statement (.mtrFree x0) := fun x0 => Bool.and_eq_true_iff
theorem mtrMove : ∀ x0, Statement (.mtrMove x0) := fun x0 => Bool.and_eq_true_iff
theorem mtrScan : ∀ x0, Statement (.mtrScan x0) := fun x0 => Bool.and_eq_true_iff
theorem mtrPin : ∀ x0, Statement (.mtrPin x0) := fun x0 => Bool.and_eq_true_iff
theorem msrRecSelWrite : ∀ x0, Statement (.msrRecSelWrite x0) := fun x0 => Bool.and_eq_true_iff
theorem msrRecCommit : ∀ x0, Statement (.msrRecCommit x0) := fun x0 => Bool.and_eq_true_iff
theorem sweepVisit : ∀ x0, Statement (.sweepVisit x0) := fun x0 => Bool.and_eq_true_iff
theorem msrCheckpointPeriod : Statement .msrCheckpointPeriod := Bool.and_eq_true_iff
theorem msrCkptNow : Statement .msrCkptNow := Bool.and_eq_true_iff
theorem msrCheckpointDone : ∀ x0, Statement (.msrCheckpointDone x0) := fun x0 => Bool.and_eq_true_iff
theorem msrRebuildDone : ∀ x0 x1, Statement (.msrRebuildDone x0 x1) := fun x0 x1 => Bool.and_eq_true_iff
theorem msrCleanAll : Statement .msrCleanAll := Bool.and_eq_true_iff
theorem laneFrame : ∀ x0, Statement (.laneFrame x0) := fun x0 => Bool.and_eq_true_iff
theorem laneReplayWaitEnd : ∀ x0, Statement (.laneReplayWaitEnd x0) := fun x0 => Bool.and_eq_true_iff
theorem reelExqHeadWrite : ∀ x0 x1, Statement (.reelExqHeadWrite x0 x1) := fun x0 x1 => Bool.and_eq_true_iff
theorem commitPacket : ∀ x0, Statement (.commitPacket x0) := fun x0 => Bool.and_eq_true_iff
theorem reservationDurable : Statement .reservationDurable := Bool.and_eq_true_iff
theorem commitStallRelease : Statement .commitStallRelease := Bool.and_eq_true_iff
theorem stormReqClear : Statement .stormReqClear := Bool.and_eq_true_iff
theorem reelSteerWrite : ∀ x0 x1, Statement (.reelSteerWrite x0 x1) := fun x0 x1 => Bool.and_eq_true_iff
theorem steerHandover : ∀ x0, Statement (.steerHandover x0) := fun x0 => Bool.and_eq_true_iff
theorem laneTransientFault : ∀ x0, Statement (.laneTransientFault x0) := fun x0 => Bool.and_eq_true_iff
theorem lanePermanentFault : ∀ x0 x1, Statement (.lanePermanentFault x0 x1) := fun x0 x1 => Bool.and_eq_true_iff
theorem laneHang : ∀ x0, Statement (.laneHang x0) := fun x0 => Bool.and_eq_true_iff
theorem laneKatNow : ∀ x0, Statement (.laneKatNow x0) := fun x0 => Bool.and_eq_true_iff
theorem laneKatDone : ∀ x0 x1, Statement (.laneKatDone x0 x1) := fun x0 x1 => Bool.and_eq_true_iff
theorem reelEnable : ∀ x0, Statement (.reelEnable x0) := fun x0 => Bool.and_eq_true_iff
theorem reelRunningStart : Statement .reelRunningStart := Bool.and_eq_true_iff
theorem valEnable : ∀ x0, Statement (.valEnable x0) := fun x0 => Bool.and_eq_true_iff
theorem valLoad : ∀ x0, Statement (.valLoad x0) := fun x0 => Bool.and_eq_true_iff
theorem valSwap : ∀ x0, Statement (.valSwap x0) := fun x0 => Bool.and_eq_true_iff
theorem valSwapDone : Statement .valSwapDone := Bool.and_eq_true_iff
theorem valInject : ∀ x0, Statement (.valInject x0) := fun x0 => Bool.and_eq_true_iff
theorem valPath : ∀ x0, Statement (.valPath x0) := fun x0 => Bool.and_eq_true_iff
theorem valReseq : ∀ x0, Statement (.valReseq x0) := fun x0 => Bool.and_eq_true_iff
theorem waltzEnable : ∀ x0, Statement (.waltzEnable x0) := fun x0 => Bool.and_eq_true_iff
theorem waltzRunningStart : Statement .waltzRunningStart := Bool.and_eq_true_iff
theorem waltzFeed : Statement .waltzFeed := Bool.and_eq_true_iff
theorem intervalClose : Statement .intervalClose := Bool.and_eq_true_iff
theorem episodeClose : Statement .episodeClose := Bool.and_eq_true_iff
theorem restorationReport : Statement .restorationReport := Bool.and_eq_true_iff
theorem inferencePeriodic : Statement .inferencePeriodic := Bool.and_eq_true_iff
theorem inferNow : Statement .inferNow := Bool.and_eq_true_iff
theorem inferencePassDone : Statement .inferencePassDone := Bool.and_eq_true_iff
theorem scorePeriodic : Statement .scorePeriodic := Bool.and_eq_true_iff
theorem scoreNow : Statement .scoreNow := Bool.and_eq_true_iff
theorem scoringPassDone : Statement .scoringPassDone := Bool.and_eq_true_iff
theorem waltzRebuildDone : Statement .waltzRebuildDone := Bool.and_eq_true_iff
theorem wlzNodeLoad : ∀ x0, Statement (.wlzNodeLoad x0) := fun x0 => Bool.and_eq_true_iff
theorem wlzResults : ∀ x0, Statement (.wlzResults x0) := fun x0 => Bool.and_eq_true_iff
theorem wlzRestoreRead : ∀ x0, Statement (.wlzRestoreRead x0) := fun x0 => Bool.and_eq_true_iff
theorem wlzSuspRead : ∀ x0, Statement (.wlzSuspRead x0) := fun x0 => Bool.and_eq_true_iff
theorem wlzInfer : ∀ x0, Statement (.wlzInfer x0) := fun x0 => Bool.and_eq_true_iff
theorem wlzScore : ∀ x0, Statement (.wlzScore x0) := fun x0 => Bool.and_eq_true_iff
theorem wlzAssign : ∀ x0, Statement (.wlzAssign x0) := fun x0 => Bool.and_eq_true_iff
theorem wlzProfile : ∀ x0, Statement (.wlzProfile x0) := fun x0 => Bool.and_eq_true_iff
theorem wlzRebuild : ∀ x0, Statement (.wlzRebuild x0) := fun x0 => Bool.and_eq_true_iff
theorem wlzGroupLoad : ∀ x0, Statement (.wlzGroupLoad x0) := fun x0 => Bool.and_eq_true_iff
theorem bolEnable : ∀ x0, Statement (.bolEnable x0) := fun x0 => Bool.and_eq_true_iff
theorem bolCmd : ∀ x0, Statement (.bolCmd x0) := fun x0 => Bool.and_eq_true_iff
theorem bolApdu : ∀ x0, Statement (.bolApdu x0) := fun x0 => Bool.and_eq_true_iff
theorem bolCampLoad : ∀ x0, Statement (.bolCampLoad x0) := fun x0 => Bool.and_eq_true_iff
theorem bolCampMembers : ∀ x0, Statement (.bolCampMembers x0) := fun x0 => Bool.and_eq_true_iff
theorem bolCampStart : ∀ x0, Statement (.bolCampStart x0) := fun x0 => Bool.and_eq_true_iff
theorem bolCampActivate : ∀ x0, Statement (.bolCampActivate x0) := fun x0 => Bool.and_eq_true_iff
theorem bolCampWait : ∀ x0, Statement (.bolCampWait x0) := fun x0 => Bool.and_eq_true_iff
theorem bolCampReport : ∀ x0, Statement (.bolCampReport x0) := fun x0 => Bool.and_eq_true_iff
theorem bolCampAbort : ∀ x0, Statement (.bolCampAbort x0) := fun x0 => Bool.and_eq_true_iff
theorem bolCampFree : ∀ x0, Statement (.bolCampFree x0) := fun x0 => Bool.and_eq_true_iff
theorem bolGroupSet : ∀ x0, Statement (.bolGroupSet x0) := fun x0 => Bool.and_eq_true_iff
theorem bolCmdStatus : ∀ x0, Statement (.bolCmdStatus x0) := fun x0 => Bool.and_eq_true_iff
theorem ackRequest : Statement .ackRequest := Bool.and_eq_true_iff
theorem ackDelayExpiry : Statement .ackDelayExpiry := Bool.and_eq_true_iff
theorem ackNotice : Statement .ackNotice := Bool.and_eq_true_iff
theorem pushStatusNotice : Statement .pushStatusNotice := Bool.and_eq_true_iff
theorem cmdAttemptTimeout : ∀ x0, Statement (.cmdAttemptTimeout x0) := fun x0 => Bool.and_eq_true_iff
theorem tokenWaitExpiry : ∀ x0, Statement (.tokenWaitExpiry x0) := fun x0 => Bool.and_eq_true_iff
theorem announceRepeat : ∀ x0 x1, Statement (.announceRepeat x0 x1) := fun x0 x1 => Bool.and_eq_true_iff
theorem campaignBlockPace : ∀ x0 x1, Statement (.campaignBlockPace x0 x1) := fun x0 x1 => Bool.and_eq_true_iff
theorem statusWindowEnd : ∀ x0 x1, Statement (.statusWindowEnd x0 x1) := fun x0 x1 => Bool.and_eq_true_iff
theorem activateAtReached : ∀ x0, Statement (.activateAtReached x0) := fun x0 => Bool.and_eq_true_iff
theorem activationWindowEnd : ∀ x0 x1, Statement (.activationWindowEnd x0 x1) := fun x0 x1 => Bool.and_eq_true_iff
theorem keyRequest : ∀ x0 x1 x2 x3 x4 x5, Statement (.keyRequest x0 x1 x2 x3 x4 x5) := fun x0 x1 x2 x3 x4 x5 => Bool.and_eq_true_iff
theorem keyImport : ∀ x0, Statement (.keyImport x0) := fun x0 => Bool.and_eq_true_iff
theorem keyStage : ∀ x0, Statement (.keyStage x0) := fun x0 => Bool.and_eq_true_iff
theorem keyCommit : ∀ x0, Statement (.keyCommit x0) := fun x0 => Bool.and_eq_true_iff
theorem keyAbandon : ∀ x0, Statement (.keyAbandon x0) := fun x0 => Bool.and_eq_true_iff
theorem keyDestroy : ∀ x0, Statement (.keyDestroy x0) := fun x0 => Bool.and_eq_true_iff
theorem keyInfo : ∀ x0, Statement (.keyInfo x0) := fun x0 => Bool.and_eq_true_iff
theorem keyList : ∀ x0, Statement (.keyList x0) := fun x0 => Bool.and_eq_true_iff
theorem keySuccessor : ∀ x0, Statement (.keySuccessor x0) := fun x0 => Bool.and_eq_true_iff
theorem keyRootWrap : ∀ x0, Statement (.keyRootWrap x0) := fun x0 => Bool.and_eq_true_iff
theorem keyInit : ∀ x0, Statement (.keyInit x0) := fun x0 => Bool.and_eq_true_iff
theorem keyZeroise : ∀ x0, Statement (.keyZeroise x0) := fun x0 => Bool.and_eq_true_iff
theorem pavUnlock : Statement .pavUnlock := Bool.and_eq_true_iff
theorem pavUnlockDone : Statement .pavUnlockDone := Bool.and_eq_true_iff
theorem pavLock : Statement .pavLock := Bool.and_eq_true_iff
theorem pavCacheFlush : Statement .pavCacheFlush := Bool.and_eq_true_iff
theorem pavKatNow : ∀ x0, Statement (.pavKatNow x0) := fun x0 => Bool.and_eq_true_iff
theorem tamperTrip : ∀ x0 x1 x2, Statement (.tamperTrip x0 x1 x2) := fun x0 x1 x2 => Bool.and_eq_true_iff
theorem tamperArm : Statement .tamperArm := Bool.and_eq_true_iff
theorem zeroiseNow : Statement .zeroiseNow := Bool.and_eq_true_iff
theorem tamperLogClear : Statement .tamperLogClear := Bool.and_eq_true_iff
theorem nvmProgramDone : ∀ x0, Statement (.nvmProgramDone x0) := fun x0 => Bool.and_eq_true_iff
theorem plcSuperframeStart : ∀ x0, Statement (.plcSuperframeStart x0) := fun x0 => Bool.and_eq_true_iff
theorem plcDataSegment : ∀ x0 x1, Statement (.plcDataSegment x0 x1) := fun x0 x1 => Bool.and_eq_true_iff
theorem plcSack : ∀ x0 x1, Statement (.plcSack x0 x1) := fun x0 x1 => Bool.and_eq_true_iff
theorem plcAssocReq : ∀ x0 x1, Statement (.plcAssocReq x0 x1) := fun x0 x1 => Bool.and_eq_true_iff
theorem plcAlive : ∀ x0 x1, Statement (.plcAlive x0 x1) := fun x0 x1 => Bool.and_eq_true_iff
theorem plcTmReq : ∀ x0 x1, Statement (.plcTmReq x0 x1) := fun x0 x1 => Bool.and_eq_true_iff
theorem plcTmRsp : ∀ x0 x1, Statement (.plcTmRsp x0 x1) := fun x0 x1 => Bool.and_eq_true_iff
theorem plcLeave : ∀ x0 x1, Statement (.plcLeave x0 x1) := fun x0 x1 => Bool.and_eq_true_iff
theorem plcReassemblyExpiry : ∀ x0 x1 x2, Statement (.plcReassemblyExpiry x0 x1 x2) := fun x0 x1 x2 => Bool.and_eq_true_iff
theorem plcStandingGrantMiss : ∀ x0 x1, Statement (.plcStandingGrantMiss x0 x1) := fun x0 x1 => Bool.and_eq_true_iff
theorem plcZcEdge : ∀ x0 x1, Statement (.plcZcEdge x0 x1) := fun x0 x1 => Bool.and_eq_true_iff
theorem plcDlRelease : ∀ x0, Statement (.plcDlRelease x0) := fun x0 => Bool.and_eq_true_iff
theorem plcDlRetryExpiry : ∀ x0 x1, Statement (.plcDlRetryExpiry x0 x1) := fun x0 x1 => Bool.and_eq_true_iff
theorem plcEnable : ∀ x0 x1, Statement (.plcEnable x0 x1) := fun x0 x1 => Bool.and_eq_true_iff
theorem plcListenEnd : ∀ x0, Statement (.plcListenEnd x0) := fun x0 => Bool.and_eq_true_iff
theorem plcBeaconForce : ∀ x0, Statement (.plcBeaconForce x0) := fun x0 => Bool.and_eq_true_iff
theorem plcAtSelWrite : ∀ x0 x1, Statement (.plcAtSelWrite x0 x1) := fun x0 x1 => Bool.and_eq_true_iff
theorem plcTransientFault : ∀ x0, Statement (.plcTransientFault x0) := fun x0 => Bool.and_eq_true_iff
theorem plcPermanentFault : ∀ x0 x1, Statement (.plcPermanentFault x0 x1) := fun x0 x1 => Bool.and_eq_true_iff
theorem plcRxBeacon : ∀ x0 x1, Statement (.plcRxBeacon x0 x1) := fun x0 x1 => Bool.and_eq_true_iff
theorem mzkBeaconSend : ∀ x0, Statement (.mzkBeaconSend x0) := fun x0 => Bool.and_eq_true_iff
theorem mzkRxData : ∀ x0 x1, Statement (.mzkRxData x0 x1) := fun x0 x1 => Bool.and_eq_true_iff
theorem mzkRxMack : ∀ x0 x1, Statement (.mzkRxMack x0 x1) := fun x0 x1 => Bool.and_eq_true_iff
theorem mzkMackTimeout : ∀ x0 x1, Statement (.mzkMackTimeout x0 x1) := fun x0 x1 => Bool.and_eq_true_iff
theorem mzkRxAssocReq : ∀ x0 x1, Statement (.mzkRxAssocReq x0 x1) := fun x0 x1 => Bool.and_eq_true_iff
theorem mzkRxRouteAck : ∀ x0 x1, Statement (.mzkRxRouteAck x0 x1) := fun x0 x1 => Bool.and_eq_true_iff
theorem mzkRouteAckTimeout : ∀ x0 x1, Statement (.mzkRouteAckTimeout x0 x1) := fun x0 x1 => Bool.and_eq_true_iff
theorem mzkRxKeep : ∀ x0 x1, Statement (.mzkRxKeep x0 x1) := fun x0 x1 => Bool.and_eq_true_iff
theorem mzkRxLeave : ∀ x0 x1, Statement (.mzkRxLeave x0 x1) := fun x0 x1 => Bool.and_eq_true_iff
theorem mzkCellSilent : ∀ x0 x1, Statement (.mzkCellSilent x0 x1) := fun x0 x1 => Bool.and_eq_true_iff
theorem mzkEventAnchor : ∀ x0 x1 x2 x3, Statement (.mzkEventAnchor x0 x1 x2 x3) := fun x0 x1 x2 x3 => Bool.and_eq_true_iff
theorem mzkAdvSend : ∀ x0, Statement (.mzkAdvSend x0) := fun x0 => Bool.and_eq_true_iff
theorem mzkRxConnReq : ∀ x0 x1, Statement (.mzkRxConnReq x0 x1) := fun x0 x1 => Bool.and_eq_true_iff
theorem mzkConnUpdInstant : ∀ x0 x1, Statement (.mzkConnUpdInstant x0 x1) := fun x0 x1 => Bool.and_eq_true_iff
theorem mzkSupTimeout : ∀ x0 x1, Statement (.mzkSupTimeout x0 x1) := fun x0 x1 => Bool.and_eq_true_iff
theorem mzkConnHoldExpiry : ∀ x0 x1, Statement (.mzkConnHoldExpiry x0 x1) := fun x0 x1 => Bool.and_eq_true_iff
theorem mzkResumeTimeout : ∀ x0, Statement (.mzkResumeTimeout x0) := fun x0 => Bool.and_eq_true_iff
theorem mzkDcRelease : ∀ x0, Statement (.mzkDcRelease x0) := fun x0 => Bool.and_eq_true_iff
theorem mzkDlRelease : ∀ x0, Statement (.mzkDlRelease x0) := fun x0 => Bool.and_eq_true_iff
theorem mzkEnable : ∀ x0 x1, Statement (.mzkEnable x0 x1) := fun x0 x1 => Bool.and_eq_true_iff
theorem mzkListenEnd : ∀ x0, Statement (.mzkListenEnd x0) := fun x0 => Bool.and_eq_true_iff
theorem mzkBeaconForce : ∀ x0, Statement (.mzkBeaconForce x0) := fun x0 => Bool.and_eq_true_iff
theorem mzkTransientFault : ∀ x0, Statement (.mzkTransientFault x0) := fun x0 => Bool.and_eq_true_iff
theorem mzkPermanentFault : ∀ x0 x1, Statement (.mzkPermanentFault x0 x1) := fun x0 x1 => Bool.and_eq_true_iff
theorem mzkRxBeacon : ∀ x0 x1 x2, Statement (.mzkRxBeacon x0 x1 x2) := fun x0 x1 x2 => Bool.and_eq_true_iff
theorem mzkSilentEvent : ∀ x0 x1, Statement (.mzkSilentEvent x0 x1) := fun x0 x1 => Bool.and_eq_true_iff
theorem tsuSchemeWrite : ∀ x0, Statement (.tsuSchemeWrite x0) := fun x0 => Bool.and_eq_true_iff
theorem tsuRateWrite : ∀ x0, Statement (.tsuRateWrite x0) := fun x0 => Bool.and_eq_true_iff
theorem tsuAdjStep : Statement .tsuAdjStep := Bool.and_eq_true_iff
theorem tsuAdjSlew : Statement .tsuAdjSlew := Bool.and_eq_true_iff
theorem tsuAdjSet : Statement .tsuAdjSet := Bool.and_eq_true_iff
theorem slewEnd : Statement .slewEnd := Bool.and_eq_true_iff
theorem ppsEdge : ∀ x0, Statement (.ppsEdge x0) := fun x0 => Bool.and_eq_true_iff
theorem ppsHoldover : Statement .ppsHoldover := Bool.and_eq_true_iff
theorem rtcSecondSync : Statement .rtcSecondSync := Bool.and_eq_true_iff
theorem rtcSecWrite : ∀ x0, Statement (.rtcSecWrite x0) := fun x0 => Bool.and_eq_true_iff
theorem pulseArm : ∀ x0, Statement (.pulseArm x0) := fun x0 => Bool.and_eq_true_iff
theorem pulseLeadingEdge : ∀ x0, Statement (.pulseLeadingEdge x0) := fun x0 => Bool.and_eq_true_iff
theorem pulseTrailingEdge : ∀ x0, Statement (.pulseTrailingEdge x0) := fun x0 => Bool.and_eq_true_iff
theorem teBuf : ∀ x0, Statement (.teBuf x0) := fun x0 => Bool.and_eq_true_iff
theorem teAdj : ∀ x0, Statement (.teAdj x0) := fun x0 => Bool.and_eq_true_iff
theorem timeEventDeliver : Statement .timeEventDeliver := Bool.and_eq_true_iff
theorem tsuNowRead : ∀ x0, Statement (.tsuNowRead x0) := fun x0 => Bool.and_eq_true_iff
theorem tsuConvWrite : ∀ x0 x1, Statement (.tsuConvWrite x0 x1) := fun x0 x1 => Bool.and_eq_true_iff
theorem tsuEvtPop : Statement .tsuEvtPop := Bool.and_eq_true_iff
theorem ethEnable : ∀ x0 x1, Statement (.ethEnable x0 x1) := fun x0 x1 => Bool.and_eq_true_iff
theorem ethFrameReceive : ∀ x0 x1, Statement (.ethFrameReceive x0 x1) := fun x0 x1 => Bool.and_eq_true_iff
theorem pauseExpiry : ∀ x0 x1, Statement (.pauseExpiry x0 x1) := fun x0 x1 => Bool.and_eq_true_iff
theorem pauseStorm : ∀ x0, Statement (.pauseStorm x0) := fun x0 => Bool.and_eq_true_iff
theorem pauseResend : ∀ x0 x1, Statement (.pauseResend x0 x1) := fun x0 x1 => Bool.and_eq_true_iff
theorem xonPauseSend : ∀ x0 x1, Statement (.xonPauseSend x0 x1) := fun x0 x1 => Bool.and_eq_true_iff
theorem ethTxqPost : ∀ x0 x1, Statement (.ethTxqPost x0 x1) := fun x0 x1 => Bool.and_eq_true_iff
theorem ethTxDone : ∀ x0, Statement (.ethTxDone x0) := fun x0 => Bool.and_eq_true_iff
theorem tunnelDownlinkSend : ∀ x0, Statement (.tunnelDownlinkSend x0) := fun x0 => Bool.and_eq_true_iff
theorem keepaliveSend : Statement .keepaliveSend := Bool.and_eq_true_iff
theorem concSilent : ∀ x0, Statement (.concSilent x0) := fun x0 => Bool.and_eq_true_iff
theorem fdbAgeOut : ∀ x0 x1, Statement (.fdbAgeOut x0 x1) := fun x0 x1 => Bool.and_eq_true_iff
theorem ethConcSelWrite : ∀ x0, Statement (.ethConcSelWrite x0) := fun x0 => Bool.and_eq_true_iff
theorem ethConcCommit : Statement .ethConcCommit := Bool.and_eq_true_iff
theorem saInstall : ∀ x0, Statement (.saInstall x0) := fun x0 => Bool.and_eq_true_iff
theorem saTxSwitch : ∀ x0, Statement (.saTxSwitch x0) := fun x0 => Bool.and_eq_true_iff
theorem saDelete : ∀ x0, Statement (.saDelete x0) := fun x0 => Bool.and_eq_true_iff
theorem ethWakeCfgWrite : ∀ x0, Statement (.ethWakeCfgWrite x0) := fun x0 => Bool.and_eq_true_iff
theorem ethWake : ∀ x0 x1, Statement (.ethWake x0 x1) := fun x0 x1 => Bool.and_eq_true_iff
theorem ethLinkChange : ∀ x0 x1 x2, Statement (.ethLinkChange x0 x1 x2) := fun x0 x1 x2 => Bool.and_eq_true_iff
theorem ethTransientFault : ∀ x0 x1, Statement (.ethTransientFault x0 x1) := fun x0 x1 => Bool.and_eq_true_iff
theorem ethPermanentFault : ∀ x0 x1, Statement (.ethPermanentFault x0 x1) := fun x0 x1 => Bool.and_eq_true_iff
theorem pauseIgnoreEnd : ∀ x0, Statement (.pauseIgnoreEnd x0) := fun x0 => Bool.and_eq_true_iff
theorem gavEnable : ∀ x0, Statement (.gavEnable x0) := fun x0 => Bool.and_eq_true_iff
theorem gavMount : ∀ x0 x1, Statement (.gavMount x0 x1) := fun x0 x1 => Bool.and_eq_true_iff
theorem gavMountDone : Statement .gavMountDone := Bool.and_eq_true_iff
theorem gavSectorProgram : Statement .gavSectorProgram := Bool.and_eq_true_iff
theorem gavPartialFlush : Statement .gavPartialFlush := Bool.and_eq_true_iff
theorem gavProgramDone : ∀ x0, Statement (.gavProgramDone x0) := fun x0 => Bool.and_eq_true_iff
theorem gavJournalSector : ∀ x0, Statement (.gavJournalSector x0) := fun x0 => Bool.and_eq_true_iff
theorem gavSysvalWrite : ∀ x0 x1, Statement (.gavSysvalWrite x0 x1) := fun x0 x1 => Bool.and_eq_true_iff
theorem gavGcStart : ∀ x0, Statement (.gavGcStart x0) := fun x0 => Bool.and_eq_true_iff
theorem gavGcCopyDone : ∀ x0 x1 x2, Statement (.gavGcCopyDone x0 x1 x2) := fun x0 x1 x2 => Bool.and_eq_true_iff
theorem gavGcErase : ∀ x0, Statement (.gavGcErase x0) := fun x0 => Bool.and_eq_true_iff
theorem gavEraseDone : ∀ x0 x1, Statement (.gavEraseDone x0 x1) := fun x0 x1 => Bool.and_eq_true_iff
theorem gavDieFault : ∀ x0 x1 x2, Statement (.gavDieFault x0 x1 x2) := fun x0 x1 x2 => Bool.and_eq_true_iff
theorem arcRead : ∀ x0 x1, Statement (.arcRead x0 x1) := fun x0 x1 => Bool.and_eq_true_iff
theorem arcBlkRead : ∀ x0 x1, Statement (.arcBlkRead x0 x1) := fun x0 x1 => Bool.and_eq_true_iff
theorem arcBlkWrite : ∀ x0, Statement (.arcBlkWrite x0) := fun x0 => Bool.and_eq_true_iff
theorem arcTrim : ∀ x0, Statement (.arcTrim x0) := fun x0 => Bool.and_eq_true_iff
theorem arcSdiscard : ∀ x0, Statement (.arcSdiscard x0) := fun x0 => Bool.and_eq_true_iff
theorem arcFlush : ∀ x0, Statement (.arcFlush x0) := fun x0 => Bool.and_eq_true_iff
theorem gavFormat : ∀ x0, Statement (.gavFormat x0) := fun x0 => Bool.and_eq_true_iff
theorem gavInfo : ∀ x0, Statement (.gavInfo x0) := fun x0 => Bool.and_eq_true_iff
theorem gavSdiscardSeq : ∀ x0, Statement (.gavSdiscardSeq x0) := fun x0 => Bool.and_eq_true_iff
theorem gavGcNow : ∀ x0, Statement (.gavGcNow x0) := fun x0 => Bool.and_eq_true_iff
theorem gavMarkLostClear : ∀ x0, Statement (.gavMarkLostClear x0) := fun x0 => Bool.and_eq_true_iff
theorem eplLinkUp : Statement .eplLinkUp := Bool.and_eq_true_iff
theorem eplLinkDown : Statement .eplLinkDown := Bool.and_eq_true_iff
theorem eplHelloTimer : Statement .eplHelloTimer := Bool.and_eq_true_iff
theorem eplHelloTimeout : Statement .eplHelloTimeout := Bool.and_eq_true_iff
theorem eplRetransmitTimeout : Statement .eplRetransmitTimeout := Bool.and_eq_true_iff
theorem hello : ∀ x0, Statement (.hello x0) := fun x0 => Bool.and_eq_true_iff
theorem lease : ∀ x0, Statement (.lease x0) := fun x0 => Bool.and_eq_true_iff
theorem leaseAck : ∀ x0, Statement (.leaseAck x0) := fun x0 => Bool.and_eq_true_iff
theorem tokenRelease : ∀ x0, Statement (.tokenRelease x0) := fun x0 => Bool.and_eq_true_iff
theorem digest : ∀ x0, Statement (.digest x0) := fun x0 => Bool.and_eq_true_iff
theorem digestResult : ∀ x0, Statement (.digestResult x0) := fun x0 => Bool.and_eq_true_iff
theorem selftest : ∀ x0, Statement (.selftest x0) := fun x0 => Bool.and_eq_true_iff
theorem recheck : ∀ x0, Statement (.recheck x0) := fun x0 => Bool.and_eq_true_iff
theorem msrDelta : ∀ x0, Statement (.msrDelta x0) := fun x0 => Bool.and_eq_true_iff
theorem keyEvent : ∀ x0, Statement (.keyEvent x0) := fun x0 => Bool.and_eq_true_iff
theorem keySummary : ∀ x0, Statement (.keySummary x0) := fun x0 => Bool.and_eq_true_iff
theorem settings : ∀ x0 x1, Statement (.settings x0 x1) := fun x0 x1 => Bool.and_eq_true_iff
theorem bolero : ∀ x0, Statement (.bolero x0) := fun x0 => Bool.and_eq_true_iff
theorem resync : ∀ x0, Statement (.resync x0) := fun x0 => Bool.and_eq_true_iff
theorem winRd : ∀ x0, Statement (.winRd x0) := fun x0 => Bool.and_eq_true_iff
theorem winRdRsp : ∀ x0, Statement (.winRdRsp x0) := fun x0 => Bool.and_eq_true_iff
theorem winWr : ∀ x0, Statement (.winWr x0) := fun x0 => Bool.and_eq_true_iff
theorem leaseRenewTimer : Statement .leaseRenewTimer := Bool.and_eq_true_iff
theorem leaseExpiry : Statement .leaseExpiry := Bool.and_eq_true_iff
theorem tokenTakeover : Statement .tokenTakeover := Bool.and_eq_true_iff
theorem deadTimer : Statement .deadTimer := Bool.and_eq_true_iff
theorem witnessLeaseExpiry : Statement .witnessLeaseExpiry := Bool.and_eq_true_iff
theorem swapHandover : Statement .swapHandover := Bool.and_eq_true_iff
theorem digestBatchClose : Statement .digestBatchClose := Bool.and_eq_true_iff
theorem digestCompare : Statement .digestCompare := Bool.and_eq_true_iff
theorem selftestDone : ∀ x0 x1 x2 x3, Statement (.selftestDone x0 x1 x2 x3) := fun x0 x1 x2 x3 => Bool.and_eq_true_iff
theorem mergeDelayApply : Statement .mergeDelayApply := Bool.and_eq_true_iff
theorem keySummaryTimer : Statement .keySummaryTimer := Bool.and_eq_true_iff
theorem pairInfo : ∀ x0, Statement (.pairInfo x0) := fun x0 => Bool.and_eq_true_iff
theorem pairSwap : ∀ x0, Statement (.pairSwap x0) := fun x0 => Bool.and_eq_true_iff
theorem pairWitnessGrant : ∀ x0, Statement (.pairWitnessGrant x0) := fun x0 => Bool.and_eq_true_iff
theorem pairResync : ∀ x0, Statement (.pairResync x0) := fun x0 => Bool.and_eq_true_iff
theorem pairMismatchRead : ∀ x0, Statement (.pairMismatchRead x0) := fun x0 => Bool.and_eq_true_iff
theorem bootStart : ∀ x0, Statement (.bootStart x0) := fun x0 => Bool.and_eq_true_iff
theorem bootComplete : Statement .bootComplete := Bool.and_eq_true_iff
theorem updOpen : ∀ x0, Statement (.updOpen x0) := fun x0 => Bool.and_eq_true_iff
theorem updData : ∀ x0, Statement (.updData x0) := fun x0 => Bool.and_eq_true_iff
theorem updVerify : ∀ x0, Statement (.updVerify x0) := fun x0 => Bool.and_eq_true_iff
theorem updActivate : ∀ x0, Statement (.updActivate x0) := fun x0 => Bool.and_eq_true_iff
theorem updClose : ∀ x0, Statement (.updClose x0) := fun x0 => Bool.and_eq_true_iff
theorem updAccept : ∀ x0, Statement (.updAccept x0) := fun x0 => Bool.and_eq_true_iff
theorem updRevert : ∀ x0, Statement (.updRevert x0) := fun x0 => Bool.and_eq_true_iff
theorem updAcceptDefaults : ∀ x0, Statement (.updAcceptDefaults x0) := fun x0 => Bool.and_eq_true_iff
theorem updStatus : ∀ x0, Statement (.updStatus x0) := fun x0 => Bool.and_eq_true_iff
theorem updSetPut : ∀ x0, Statement (.updSetPut x0) := fun x0 => Bool.and_eq_true_iff
theorem updSetGet : ∀ x0, Statement (.updSetGet x0) := fun x0 => Bool.and_eq_true_iff
theorem updLeaseExpiry : Statement .updLeaseExpiry := Bool.and_eq_true_iff
theorem updActivateDelay : Statement .updActivateDelay := Bool.and_eq_true_iff
theorem updAutoAccept : Statement .updAutoAccept := Bool.and_eq_true_iff
theorem settingsRevertHold : Statement .settingsRevertHold := Bool.and_eq_true_iff
theorem qspiProgramDone : ∀ x0, Statement (.qspiProgramDone x0) := fun x0 => Bool.and_eq_true_iff
theorem aonpor : Statement .aonpor := Bool.and_eq_true_iff
theorem mainpor : ∀ x0, Statement (.mainpor x0) := fun x0 => Bool.and_eq_true_iff
theorem pinrst : ∀ x0, Statement (.pinrst x0) := fun x0 => Bool.and_eq_true_iff
theorem softrst : Statement .softrst := Bool.and_eq_true_iff
theorem wdtrst : Statement .wdtrst := Bool.and_eq_true_iff
theorem domrst : ∀ x0, Statement (.domrst x0) := fun x0 => Bool.and_eq_true_iff
theorem pmuModeSetRun : ∀ x0, Statement (.pmuModeSetRun x0) := fun x0 => Bool.and_eq_true_iff
theorem pmuModeSetCommission : ∀ x0, Statement (.pmuModeSetCommission x0) := fun x0 => Bool.and_eq_true_iff
theorem pmuStormForceSet : ∀ x0, Statement (.pmuStormForceSet x0) := fun x0 => Bool.and_eq_true_iff
theorem pmuStormForceClear : ∀ x0, Statement (.pmuStormForceClear x0) := fun x0 => Bool.and_eq_true_iff
theorem pmuModeSetDormant : ∀ x0, Statement (.pmuModeSetDormant x0) := fun x0 => Bool.and_eq_true_iff
theorem pmuResetSoft : ∀ x0, Statement (.pmuResetSoft x0) := fun x0 => Bool.and_eq_true_iff
theorem pmuResetDomain : ∀ x0, Statement (.pmuResetDomain x0) := fun x0 => Bool.and_eq_true_iff
theorem pmuResourceRetire : ∀ x0, Statement (.pmuResourceRetire x0) := fun x0 => Bool.and_eq_true_iff
theorem pmuResourceRestore : ∀ x0 x1, Statement (.pmuResourceRestore x0 x1) := fun x0 x1 => Bool.and_eq_true_iff
theorem pmuResourceQuery : ∀ x0, Statement (.pmuResourceQuery x0) := fun x0 => Bool.and_eq_true_iff
theorem modeChange : Statement .modeChange := Bool.and_eq_true_iff
theorem islandedCondSet : Statement .islandedCondSet := Bool.and_eq_true_iff
theorem islandedCondClear : Statement .islandedCondClear := Bool.and_eq_true_iff
theorem stormBudgetExhausted : Statement .stormBudgetExhausted := Bool.and_eq_true_iff
theorem stormBudgetHalf : Statement .stormBudgetHalf := Bool.and_eq_true_iff
theorem thermalSample : ∀ x0 x1, Statement (.thermalSample x0 x1) := fun x0 x1 => Bool.and_eq_true_iff
theorem thermalThrottleLift : Statement .thermalThrottleLift := Bool.and_eq_true_iff
theorem thermalStop : Statement .thermalStop := Bool.and_eq_true_iff
theorem thermalRestart : Statement .thermalRestart := Bool.and_eq_true_iff
theorem coreWarnSet : ∀ x0, Statement (.coreWarnSet x0) := fun x0 => Bool.and_eq_true_iff
theorem coreWarnClear : ∀ x0, Statement (.coreWarnClear x0) := fun x0 => Bool.and_eq_true_iff
theorem coreUndervoltReset : ∀ x0, Statement (.coreUndervoltReset x0) := fun x0 => Bool.and_eq_true_iff
theorem pwrWarnFall : Statement .pwrWarnFall := Bool.and_eq_true_iff
theorem pwrWarnRise : Statement .pwrWarnRise := Bool.and_eq_true_iff
theorem wdtEnable : ∀ x0, Statement (.wdtEnable x0) := fun x0 => Bool.and_eq_true_iff
theorem wdtKick : ∀ x0, Statement (.wdtKick x0) := fun x0 => Bool.and_eq_true_iff
theorem wdtPrewarn : Statement .wdtPrewarn := Bool.and_eq_true_iff
theorem rtcAlarmWake : Statement .rtcAlarmWake := Bool.and_eq_true_iff
theorem perstWake : Statement .perstWake := Bool.and_eq_true_iff
theorem pmuOffMaskWrite : ∀ x0, Statement (.pmuOffMaskWrite x0) := fun x0 => Bool.and_eq_true_iff
theorem dramEccCorrected : ∀ x0, Statement (.dramEccCorrected x0) := fun x0 => Bool.and_eq_true_iff
theorem dramEccUncorrectable : ∀ x0 x1, Statement (.dramEccUncorrectable x0 x1) := fun x0 x1 => Bool.and_eq_true_iff
theorem coreEccError : ∀ x0 x1, Statement (.coreEccError x0 x1) := fun x0 x1 => Bool.and_eq_true_iff
theorem coreProbeTimeout : ∀ x0, Statement (.coreProbeTimeout x0) := fun x0 => Bool.and_eq_true_iff
theorem vaonLoss : Statement .vaonLoss := Bool.and_eq_true_iff
theorem vaonRestore : Statement .vaonRestore := Bool.and_eq_true_iff
theorem vbatLoss : Statement .vbatLoss := Bool.and_eq_true_iff
theorem vbatRestore : Statement .vbatRestore := Bool.and_eq_true_iff
theorem srbEnable : Statement .srbEnable := Bool.and_eq_true_iff
theorem srbSample : ∀ x0, Statement (.srbSample x0) := fun x0 => Bool.and_eq_true_iff
theorem srbFeedWrite : ∀ x0, Statement (.srbFeedWrite x0) := fun x0 => Bool.and_eq_true_iff
theorem snapshotTimer : ∀ x0, Statement (.snapshotTimer x0) := fun x0 => Bool.and_eq_true_iff
theorem srbSnapNow : Statement .srbSnapNow := Bool.and_eq_true_iff
theorem snapshotWritten : Statement .snapshotWritten := Bool.and_eq_true_iff
theorem srbWselWrite : ∀ x0, Statement (.srbWselWrite x0) := fun x0 => Bool.and_eq_true_iff
theorem logRecord : Statement .logRecord := Bool.and_eq_true_iff
theorem logAppend : ∀ x0 x1, Statement (.logAppend x0 x1) := fun x0 x1 => Bool.and_eq_true_iff
theorem logBuf : ∀ x0, Statement (.logBuf x0) := fun x0 => Bool.and_eq_true_iff
theorem logBufTimeout : Statement .logBufTimeout := Bool.and_eq_true_iff
theorem srbCopy : ∀ x0, Statement (.srbCopy x0) := fun x0 => Bool.and_eq_true_iff
theorem logMark : ∀ x0, Statement (.logMark x0) := fun x0 => Bool.and_eq_true_iff
theorem logClear : ∀ x0, Statement (.logClear x0) := fun x0 => Bool.and_eq_true_iff
theorem logCtrlClear : ∀ x0, Statement (.logCtrlClear x0) := fun x0 => Bool.and_eq_true_iff
theorem logHeadWrite : ∀ x0, Statement (.logHeadWrite x0) := fun x0 => Bool.and_eq_true_iff
theorem logSelWrite : ∀ x0, Statement (.logSelWrite x0) := fun x0 => Bool.and_eq_true_iff
theorem suppressedSummaryTimer : ∀ x0, Statement (.suppressedSummaryTimer x0) := fun x0 => Bool.and_eq_true_iff

end Sys2Proof.Laws.F
end

