-- ==== Sys2Proof/Tests/Slice0.lean ====
section
/-! SUPPORT. The package's own tests: well-formedness, small steps with results from the spec, and for every statement with
hypotheses a state and operands that meet them. -/

namespace Sys2Proof.Tests

open Sys2Proof.Machine

set_option Elab.async false

/-- The state of a device, with nothing waiting. -/
def st (d : Dev) : State := { dev := d, pending := [] }

/-- A device in a mode, with every domain on. -/
def inMode (m : Nat) : Dev := (Dev.reset.wr F.PMU_STATUS_mode m).wr F.PMU_DOM_on 0x7FFF

/-- A descriptor with an opcode and an argument byte that came as named. -/
def descOf (via : Via) (op arg : Nat) : Desc := { via := via, w := BitVec.ofNat 512 (op + arg * 2 ^ 192), data := [] }

theorem test_wf_own_descriptors_1 :
    ([.nop (descOf (.ring 63) 0x00 0),
   .expBuf (descOf (.ring 63) 0x01 0),
   .hmbGrant (descOf (.ring 63) 0x02 0),
   .hmbRevoke (descOf (.ring 63) 0x03 0),
   .mtrLookup (descOf (.ring 63) 0x10 0),
   .mtrRead (descOf (.ring 63) 0x11 0),
   .mtrWrite (descOf (.ring 63) 0x12 0),
   .mtrAdmit (descOf (.ring 63) 0x13 0),
   .mtrRelease (descOf (.ring 63) 0x14 0),
   .mtrRetire (descOf (.ring 63) 0x15 0),
   .mtrFree (descOf (.ring 63) 0x16 0),
   .mtrMove (descOf (.ring 63) 0x17 0),
   .mtrScan (descOf (.ring 63) 0x18 0),
   .mtrPin (descOf (.ring 63) 0x19 0),
   .valLoad (descOf (.ring 63) 0x40 0),
   .valSwap (descOf (.ring 63) 0x41 0),
   .valInject (descOf (.ring 63) 0x42 0),
   .valPath (descOf (.ring 63) 0x43 0),
   .valReseq (descOf (.ring 63) 0x46 0),
   .wlzNodeLoad (descOf (.ring 63) 0x60 0),
   .wlzResults (descOf (.ring 63) 0x61 0),
   .wlzRestoreRead (descOf (.ring 63) 0x62 0),
   .wlzSuspRead (descOf (.ring 63) 0x63 0),
   .wlzInfer (descOf (.ring 63) 0x64 0),
   .wlzScore (descOf (.ring 63) 0x65 0),
   .wlzAssign (descOf (.ring 63) 0x66 0),
   .wlzProfile (descOf (.ring 63) 0x67 0),
   .wlzRebuild (descOf (.ring 63) 0x68 0),
   .wlzGroupLoad (descOf (.ring 63) 0x69 0),
   .bolCmd (descOf (.ring 63) 0x01 0)] : List Instr).all WellFormed = true := by decide +kernel

theorem test_wf_own_descriptors_2 :
    ([.bolApdu (descOf (.ring 63) 0x02 0),
   .bolCampLoad (descOf (.ring 63) 0x03 0),
   .bolCampMembers (descOf (.ring 63) 0x04 0),
   .bolCampStart (descOf (.ring 63) 0x05 0),
   .bolCampActivate (descOf (.ring 63) 0x06 0),
   .bolCampWait (descOf (.ring 63) 0x07 0),
   .bolCampReport (descOf (.ring 63) 0x08 0),
   .bolCampAbort (descOf (.ring 63) 0x09 0),
   .bolCampFree (descOf (.ring 63) 0x0A 0),
   .bolGroupSet (descOf (.ring 63) 0x0B 0),
   .bolCmdStatus (descOf (.ring 63) 0x0C 0),
   .keyImport (descOf (.ring 63) 0x01 0),
   .keyStage (descOf (.ring 63) 0x02 0),
   .keyCommit (descOf (.ring 63) 0x03 0),
   .keyAbandon (descOf (.ring 63) 0x04 0),
   .keyDestroy (descOf (.ring 63) 0x05 0),
   .keyInfo (descOf (.ring 63) 0x06 0),
   .keyList (descOf (.ring 63) 0x07 0),
   .keySuccessor (descOf (.ring 63) 0x08 0),
   .keyRootWrap (descOf (.ring 63) 0x09 0),
   .keyInit (descOf (.ring 63) 0x0A 0),
   .keyZeroise (descOf (.ring 63) 0x0B 0),
   .teBuf (descOf (.ring 63) 0x01 0),
   .teAdj (descOf (.ring 63) 0x02 0),
   .saInstall (descOf (.ring 63) 0x01 0),
   .saTxSwitch (descOf (.ring 63) 0x02 0),
   .saDelete (descOf (.ring 63) 0x03 0),
   .arcRead (descOf (.ring 63) 0x01 0) [],
   .arcBlkRead (descOf (.ring 63) 0x02 0) [],
   .arcBlkWrite (descOf (.ring 63) 0x03 0)] : List Instr).all WellFormed = true := by decide +kernel

theorem test_wf_own_descriptors_3 :
    ([.arcTrim (descOf (.ring 63) 0x04 0),
   .arcSdiscard (descOf (.ring 63) 0x05 0),
   .arcFlush (descOf (.ring 63) 0x06 0),
   .gavFormat (descOf (.ring 63) 0xC0 0),
   .gavInfo (descOf (.ring 63) 0xC1 0),
   .gavSdiscardSeq (descOf (.ring 63) 0xC2 0),
   .gavGcNow (descOf (.ring 63) 0xC3 0),
   .gavMarkLostClear (descOf (.ring 63) 0xC4 0),
   .pairInfo (descOf (.ring 63) 0xA0 0),
   .pairSwap (descOf (.ring 63) 0xA1 0),
   .pairWitnessGrant (descOf (.ring 63) 0xA2 0),
   .pairResync (descOf (.ring 63) 0xA3 0),
   .pairMismatchRead (descOf (.ring 63) 0xA4 0),
   .updOpen (descOf (.ring 63) 0x01 0),
   .updData (descOf (.ring 63) 0x02 0),
   .updVerify (descOf (.ring 63) 0x03 0),
   .updActivate (descOf (.ring 63) 0x04 0),
   .updClose (descOf (.ring 63) 0x05 0),
   .updAccept (descOf (.ring 63) 0x06 0),
   .updRevert (descOf (.ring 63) 0x07 0),
   .updAcceptDefaults (descOf (.ring 63) 0x08 0),
   .updStatus (descOf (.ring 63) 0x09 0),
   .updSetPut (descOf (.ring 63) 0x0A 0),
   .updSetGet (descOf (.ring 63) 0x0B 0),
   .pmuModeSetRun (descOf (.ring 63) 0x80 0),
   .pmuModeSetCommission (descOf (.ring 63) 0x80 1),
   .pmuStormForceSet (descOf (.ring 63) 0x80 2),
   .pmuStormForceClear (descOf (.ring 63) 0x80 3),
   .pmuModeSetDormant (descOf (.ring 63) 0x80 4),
   .pmuResetSoft (descOf (.ring 63) 0x81 0)] : List Instr).all WellFormed = true := by decide +kernel

theorem test_wf_own_descriptors_4 :
    ([.pmuResetDomain (descOf (.ring 63) 0x81 1),
   .pmuResourceRetire (descOf (.ring 63) 0x82 0),
   .pmuResourceRestore (descOf (.ring 63) 0x82 1) true,
   .pmuResourceQuery (descOf (.ring 63) 0x82 2),
   .logBuf (descOf (.ring 63) 0x01 0),
   .srbCopy (descOf (.ring 63) 0x02 0),
   .logMark (descOf (.ring 63) 0x03 0),
   .logClear (descOf (.ring 63) 0x04 0)] : List Instr).all WellFormed = true := by decide +kernel

theorem test_wf_refuses_foreign_opcode_1 :
    ([.nop (descOf (.ring 63) 0xFE 0),
   .expBuf (descOf (.ring 63) 0xFE 0),
   .hmbGrant (descOf (.ring 63) 0xFE 0),
   .hmbRevoke (descOf (.ring 63) 0xFE 0),
   .mtrLookup (descOf (.mailbox .msr 9) 0xFE 0),
   .mtrRead (descOf (.mailbox .msr 9) 0xFE 0),
   .mtrWrite (descOf (.mailbox .msr 9) 0xFE 0),
   .mtrAdmit (descOf (.mailbox .msr 9) 0xFE 0),
   .mtrRelease (descOf (.mailbox .msr 9) 0xFE 0),
   .mtrRetire (descOf (.mailbox .msr 9) 0xFE 0),
   .mtrFree (descOf (.mailbox .msr 9) 0xFE 0),
   .mtrMove (descOf (.mailbox .msr 9) 0xFE 0),
   .mtrScan (descOf (.mailbox .msr 9) 0xFE 0),
   .mtrPin (descOf (.mailbox .msr 9) 0xFE 0),
   .valLoad (descOf (.mailbox .val 9) 0xFE 0),
   .valSwap (descOf (.mailbox .val 9) 0xFE 0),
   .valInject (descOf (.mailbox .val 9) 0xFE 0),
   .valPath (descOf (.mailbox .val 9) 0xFE 0),
   .valReseq (descOf (.mailbox .val 9) 0xFE 0),
   .wlzNodeLoad (descOf (.mailbox .wlz 9) 0xFE 0),
   .wlzResults (descOf (.mailbox .wlz 9) 0xFE 0),
   .wlzRestoreRead (descOf (.mailbox .wlz 9) 0xFE 0),
   .wlzSuspRead (descOf (.mailbox .wlz 9) 0xFE 0),
   .wlzInfer (descOf (.mailbox .wlz 9) 0xFE 0),
   .wlzScore (descOf (.mailbox .wlz 9) 0xFE 0),
   .wlzAssign (descOf (.mailbox .wlz 9) 0xFE 0),
   .wlzProfile (descOf (.mailbox .wlz 9) 0xFE 0),
   .wlzRebuild (descOf (.mailbox .wlz 9) 0xFE 0),
   .wlzGroupLoad (descOf (.mailbox .wlz 9) 0xFE 0),
   .bolCmd (descOf (.mailbox .bol 9) 0xFE 0)] : List Instr).any WellFormed = false := by decide +kernel

theorem test_wf_refuses_foreign_opcode_2 :
    ([.bolApdu (descOf (.mailbox .bol 9) 0xFE 0),
   .bolCampLoad (descOf (.mailbox .bol 9) 0xFE 0),
   .bolCampMembers (descOf (.mailbox .bol 9) 0xFE 0),
   .bolCampStart (descOf (.mailbox .bol 9) 0xFE 0),
   .bolCampActivate (descOf (.mailbox .bol 9) 0xFE 0),
   .bolCampWait (descOf (.mailbox .bol 9) 0xFE 0),
   .bolCampReport (descOf (.mailbox .bol 9) 0xFE 0),
   .bolCampAbort (descOf (.mailbox .bol 9) 0xFE 0),
   .bolCampFree (descOf (.mailbox .bol 9) 0xFE 0),
   .bolGroupSet (descOf (.mailbox .bol 9) 0xFE 0),
   .bolCmdStatus (descOf (.mailbox .bol 9) 0xFE 0),
   .keyImport (descOf (.mailbox .pav 9) 0xFE 0),
   .keyStage (descOf (.mailbox .pav 9) 0xFE 0),
   .keyCommit (descOf (.mailbox .pav 9) 0xFE 0),
   .keyAbandon (descOf (.mailbox .pav 9) 0xFE 0),
   .keyDestroy (descOf (.mailbox .pav 9) 0xFE 0),
   .keyInfo (descOf (.mailbox .pav 9) 0xFE 0),
   .keyList (descOf (.mailbox .pav 9) 0xFE 0),
   .keySuccessor (descOf (.mailbox .pav 9) 0xFE 0),
   .keyRootWrap (descOf (.mailbox .pav 9) 0xFE 0),
   .keyInit (descOf (.mailbox .pav 9) 0xFE 0),
   .keyZeroise (descOf (.mailbox .pav 9) 0xFE 0),
   .teBuf (descOf (.ring 63) 0xFE 0),
   .teAdj (descOf (.ring 63) 0xFE 0),
   .saInstall (descOf (.mailbox .ethSa 9) 0xFE 0),
   .saTxSwitch (descOf (.mailbox .ethSa 9) 0xFE 0),
   .saDelete (descOf (.mailbox .ethSa 9) 0xFE 0),
   .arcRead (descOf (.ring 63) 0xFE 0) [],
   .arcBlkRead (descOf (.ring 63) 0xFE 0) [],
   .arcBlkWrite (descOf (.ring 63) 0xFE 0)] : List Instr).any WellFormed = false := by decide +kernel

theorem test_wf_refuses_foreign_opcode_3 :
    ([.arcTrim (descOf (.ring 63) 0xFE 0),
   .arcSdiscard (descOf (.ring 63) 0xFE 0),
   .arcFlush (descOf (.ring 63) 0xFE 0),
   .gavFormat (descOf (.mailbox .gav 9) 0xFE 0),
   .gavInfo (descOf (.mailbox .gav 9) 0xFE 0),
   .gavSdiscardSeq (descOf (.mailbox .gav 9) 0xFE 0),
   .gavGcNow (descOf (.mailbox .gav 9) 0xFE 0),
   .gavMarkLostClear (descOf (.mailbox .gav 9) 0xFE 0),
   .pairInfo (descOf (.mailbox .epl 9) 0xFE 0),
   .pairSwap (descOf (.mailbox .epl 9) 0xFE 0),
   .pairWitnessGrant (descOf (.mailbox .epl 9) 0xFE 0),
   .pairResync (descOf (.mailbox .epl 9) 0xFE 0),
   .pairMismatchRead (descOf (.mailbox .epl 9) 0xFE 0),
   .updOpen (descOf (.mailbox .upd 9) 0xFE 0),
   .updData (descOf (.mailbox .upd 9) 0xFE 0),
   .updVerify (descOf (.mailbox .upd 9) 0xFE 0),
   .updActivate (descOf (.mailbox .upd 9) 0xFE 0),
   .updClose (descOf (.mailbox .upd 9) 0xFE 0),
   .updAccept (descOf (.mailbox .upd 9) 0xFE 0),
   .updRevert (descOf (.mailbox .upd 9) 0xFE 0),
   .updAcceptDefaults (descOf (.mailbox .upd 9) 0xFE 0),
   .updStatus (descOf (.mailbox .upd 9) 0xFE 0),
   .updSetPut (descOf (.mailbox .upd 9) 0xFE 0),
   .updSetGet (descOf (.mailbox .upd 9) 0xFE 0),
   .pmuModeSetRun (descOf (.mailbox .pmu 9) 0xFE 0),
   .pmuModeSetCommission (descOf (.mailbox .pmu 9) 0xFE 1),
   .pmuStormForceSet (descOf (.mailbox .pmu 9) 0xFE 2),
   .pmuStormForceClear (descOf (.mailbox .pmu 9) 0xFE 3),
   .pmuModeSetDormant (descOf (.mailbox .pmu 9) 0xFE 4),
   .pmuResetSoft (descOf (.mailbox .pmu 9) 0xFE 0)] : List Instr).any WellFormed = false := by decide +kernel

theorem test_wf_refuses_foreign_opcode_4 :
    ([.pmuResetDomain (descOf (.mailbox .pmu 9) 0xFE 1),
   .pmuResourceRetire (descOf (.mailbox .pmu 9) 0xFE 0),
   .pmuResourceRestore (descOf (.mailbox .pmu 9) 0xFE 1) true,
   .pmuResourceQuery (descOf (.mailbox .pmu 9) 0xFE 2),
   .logBuf (descOf (.ring 63) 0xFE 0),
   .srbCopy (descOf (.ring 63) 0xFE 0),
   .logMark (descOf (.ring 63) 0xFE 0),
   .logClear (descOf (.ring 63) 0xFE 0)] : List Instr).any WellFormed = false := by decide +kernel

theorem test_wf_refuses_foreign_mailbox_1 :
    ([.nop (descOf (.mailbox .upd 9) 0x00 0),
   .expBuf (descOf (.mailbox .upd 9) 0x01 0),
   .hmbGrant (descOf (.mailbox .upd 9) 0x02 0),
   .hmbRevoke (descOf (.mailbox .upd 9) 0x03 0),
   .mtrLookup (descOf (.mailbox .upd 9) 0x10 0),
   .mtrRead (descOf (.mailbox .upd 9) 0x11 0),
   .mtrWrite (descOf (.mailbox .upd 9) 0x12 0),
   .mtrAdmit (descOf (.mailbox .upd 9) 0x13 0),
   .mtrRelease (descOf (.mailbox .upd 9) 0x14 0),
   .mtrRetire (descOf (.mailbox .upd 9) 0x15 0),
   .mtrFree (descOf (.mailbox .upd 9) 0x16 0),
   .mtrMove (descOf (.mailbox .upd 9) 0x17 0),
   .mtrScan (descOf (.mailbox .upd 9) 0x18 0),
   .mtrPin (descOf (.mailbox .upd 9) 0x19 0),
   .valLoad (descOf (.mailbox .upd 9) 0x40 0),
   .valSwap (descOf (.mailbox .upd 9) 0x41 0),
   .valInject (descOf (.mailbox .upd 9) 0x42 0),
   .valPath (descOf (.mailbox .upd 9) 0x43 0),
   .valReseq (descOf (.mailbox .upd 9) 0x46 0),
   .wlzNodeLoad (descOf (.mailbox .upd 9) 0x60 0),
   .wlzResults (descOf (.mailbox .upd 9) 0x61 0),
   .wlzRestoreRead (descOf (.mailbox .upd 9) 0x62 0),
   .wlzSuspRead (descOf (.mailbox .upd 9) 0x63 0),
   .wlzInfer (descOf (.mailbox .upd 9) 0x64 0),
   .wlzScore (descOf (.mailbox .upd 9) 0x65 0),
   .wlzAssign (descOf (.mailbox .upd 9) 0x66 0),
   .wlzProfile (descOf (.mailbox .upd 9) 0x67 0),
   .wlzRebuild (descOf (.mailbox .upd 9) 0x68 0),
   .wlzGroupLoad (descOf (.mailbox .upd 9) 0x69 0),
   .bolCmd (descOf (.mailbox .upd 9) 0x01 0)] : List Instr).any WellFormed = false := by decide +kernel

theorem test_wf_refuses_foreign_mailbox_2 :
    ([.bolApdu (descOf (.mailbox .upd 9) 0x02 0),
   .bolCampLoad (descOf (.mailbox .upd 9) 0x03 0),
   .bolCampMembers (descOf (.mailbox .upd 9) 0x04 0),
   .bolCampStart (descOf (.mailbox .upd 9) 0x05 0),
   .bolCampActivate (descOf (.mailbox .upd 9) 0x06 0),
   .bolCampWait (descOf (.mailbox .upd 9) 0x07 0),
   .bolCampReport (descOf (.mailbox .upd 9) 0x08 0),
   .bolCampAbort (descOf (.mailbox .upd 9) 0x09 0),
   .bolCampFree (descOf (.mailbox .upd 9) 0x0A 0),
   .bolGroupSet (descOf (.mailbox .upd 9) 0x0B 0),
   .bolCmdStatus (descOf (.mailbox .upd 9) 0x0C 0),
   .keyImport (descOf (.mailbox .upd 9) 0x01 0),
   .keyStage (descOf (.mailbox .upd 9) 0x02 0),
   .keyCommit (descOf (.mailbox .upd 9) 0x03 0),
   .keyAbandon (descOf (.mailbox .upd 9) 0x04 0),
   .keyDestroy (descOf (.mailbox .upd 9) 0x05 0),
   .keyInfo (descOf (.mailbox .upd 9) 0x06 0),
   .keyList (descOf (.mailbox .upd 9) 0x07 0),
   .keySuccessor (descOf (.mailbox .upd 9) 0x08 0),
   .keyRootWrap (descOf (.mailbox .upd 9) 0x09 0),
   .keyInit (descOf (.mailbox .upd 9) 0x0A 0),
   .keyZeroise (descOf (.mailbox .upd 9) 0x0B 0),
   .teBuf (descOf (.mailbox .upd 9) 0x01 0),
   .teAdj (descOf (.mailbox .upd 9) 0x02 0),
   .saInstall (descOf (.mailbox .upd 9) 0x01 0),
   .saTxSwitch (descOf (.mailbox .upd 9) 0x02 0),
   .saDelete (descOf (.mailbox .upd 9) 0x03 0),
   .arcRead (descOf (.mailbox .upd 9) 0x01 0) [],
   .arcBlkRead (descOf (.mailbox .upd 9) 0x02 0) [],
   .arcBlkWrite (descOf (.mailbox .upd 9) 0x03 0)] : List Instr).any WellFormed = false := by decide +kernel

theorem test_wf_refuses_foreign_mailbox_3 :
    ([.arcTrim (descOf (.mailbox .upd 9) 0x04 0),
   .arcSdiscard (descOf (.mailbox .upd 9) 0x05 0),
   .arcFlush (descOf (.mailbox .upd 9) 0x06 0),
   .gavFormat (descOf (.mailbox .upd 9) 0xC0 0),
   .gavInfo (descOf (.mailbox .upd 9) 0xC1 0),
   .gavSdiscardSeq (descOf (.mailbox .upd 9) 0xC2 0),
   .gavGcNow (descOf (.mailbox .upd 9) 0xC3 0),
   .gavMarkLostClear (descOf (.mailbox .upd 9) 0xC4 0),
   .pairInfo (descOf (.mailbox .upd 9) 0xA0 0),
   .pairSwap (descOf (.mailbox .upd 9) 0xA1 0),
   .pairWitnessGrant (descOf (.mailbox .upd 9) 0xA2 0),
   .pairResync (descOf (.mailbox .upd 9) 0xA3 0),
   .pairMismatchRead (descOf (.mailbox .upd 9) 0xA4 0),
   .updOpen (descOf (.mailbox .pmu 9) 0x01 0),
   .updData (descOf (.mailbox .pmu 9) 0x02 0),
   .updVerify (descOf (.mailbox .pmu 9) 0x03 0),
   .updActivate (descOf (.mailbox .pmu 9) 0x04 0),
   .updClose (descOf (.mailbox .pmu 9) 0x05 0),
   .updAccept (descOf (.mailbox .pmu 9) 0x06 0),
   .updRevert (descOf (.mailbox .pmu 9) 0x07 0),
   .updAcceptDefaults (descOf (.mailbox .pmu 9) 0x08 0),
   .updStatus (descOf (.mailbox .pmu 9) 0x09 0),
   .updSetPut (descOf (.mailbox .pmu 9) 0x0A 0),
   .updSetGet (descOf (.mailbox .pmu 9) 0x0B 0),
   .pmuModeSetRun (descOf (.mailbox .upd 9) 0x80 0),
   .pmuModeSetCommission (descOf (.mailbox .upd 9) 0x80 1),
   .pmuStormForceSet (descOf (.mailbox .upd 9) 0x80 2),
   .pmuStormForceClear (descOf (.mailbox .upd 9) 0x80 3),
   .pmuModeSetDormant (descOf (.mailbox .upd 9) 0x80 4),
   .pmuResetSoft (descOf (.mailbox .upd 9) 0x81 0)] : List Instr).any WellFormed = false := by decide +kernel

theorem test_wf_refuses_foreign_mailbox_4 :
    ([.pmuResetDomain (descOf (.mailbox .upd 9) 0x81 1),
   .pmuResourceRetire (descOf (.mailbox .upd 9) 0x82 0),
   .pmuResourceRestore (descOf (.mailbox .upd 9) 0x82 1) true,
   .pmuResourceQuery (descOf (.mailbox .upd 9) 0x82 2),
   .logBuf (descOf (.mailbox .upd 9) 0x01 0),
   .srbCopy (descOf (.mailbox .upd 9) 0x02 0),
   .logMark (descOf (.mailbox .upd 9) 0x03 0),
   .logClear (descOf (.mailbox .upd 9) 0x04 0)] : List Instr).any WellFormed = false := by decide +kernel

theorem test_wf_mailbox_needs_a_master :
    WellFormed (.mtrRead (descOf (.mailbox .msr 9) 0x11 0)) = true ∧ WellFormed (.mtrRead (descOf (.mailbox .msr 0) 0x11 0)) = false := by
  decide +kernel

theorem test_wf_refuses_foreign_operation :
    ([.pmuModeSetRun (descOf (.mailbox .pmu 9) 0x80 5),
     .pmuModeSetCommission (descOf (.mailbox .pmu 9) 0x80 6),
     .pmuStormForceSet (descOf (.mailbox .pmu 9) 0x80 7),
     .pmuStormForceClear (descOf (.mailbox .pmu 9) 0x80 8),
     .pmuModeSetDormant (descOf (.mailbox .pmu 9) 0x80 9),
     .pmuResetSoft (descOf (.mailbox .pmu 9) 0x81 5),
     .pmuResetDomain (descOf (.mailbox .pmu 9) 0x81 6),
     .pmuResourceRetire (descOf (.mailbox .pmu 9) 0x82 5),
     .pmuResourceRestore (descOf (.mailbox .pmu 9) 0x82 6) true,
     .pmuResourceQuery (descOf (.mailbox .pmu 9) 0x82 7)] : List Instr).any WellFormed = false := by
  decide +kernel

theorem test_wf_refuses_misaligned_offsets :
    ([.registerWrite 9 0x11 4 0, .registerWrite 9 0x10 3 0, .regPairLoRead 9 0x12, .regPairHiWrite 9 0x13 0, .regPairLoWrite 9 0x11 0,
     .rcFieldRead 9 0x22, .fifoFlush 0x50201, .fifoFlushComplete 0x50203, .packetFifoTransfer 0x50201 0x50210 1 true,
     .packetFifoTransfer 0x50200 0x50211 1 true] : List Instr).any WellFormed = false := by decide

theorem test_wf_refuses_bad_accesses :
    (let a : Access := { master := 9, port := .internal, addr := 0, size := 4, write := true, atomic := none,
                         data := [0, 0, 0, 0], ecc := .clean, row := 0 }
    WellFormed (.fabricAccess a) = true
    ∧ WellFormed (.fabricAccess { a with size := 0, data := [] }) = false
    ∧ WellFormed (.fabricAccess { a with size := 4097, write := false }) = false
    ∧ WellFormed (.fabricAccess { a with data := [0] }) = false) := by decide

theorem test_wf_refuses_values_out_of_range :
    ([.modWindowTimeFire 272, .descriptorFetch 0 (List.replicate 9 0), .announceRepeat 0 4124, .campaignBlockPace 63 4124,
     .statusWindowEnd 0 4124, .activationWindowEnd 0 4124, .ethLinkChange 11 true 5, .gavDieFault 0 true [1, 1]] : List Instr).any WellFormed
      = false
    ∧ ([.modWindowTimeFire 271, .descriptorFetch 0 (List.replicate 8 0), .announceRepeat 0 4123, .ethLinkChange 11 true 4,
       .gavDieFault 127 true [1, 2]] : List Instr).all WellFormed = true := by decide +kernel

/-- CRC-32C of the nine digits, from the polynomial's published check value. -/
theorem test_crc32c_check : crc32c 0xFFFFFFFF ("123456789".toList.map fun c => BitVec.ofNat 8 c.toNat) = 0xE3069283 := by
  decide +kernel

/-- AES-128 of FIPS 197's example. -/
theorem test_aes_fips197 :
    aesEnc ((List.range 16).map (BitVec.ofNat 8)) ((List.range 16).map fun i => BitVec.ofNat 8 (0x11 * i))
      = [0x69, 0xC4, 0xE0, 0xD8, 0x6A, 0x7B, 0x04, 0x30, 0xD8, 0xCD, 0xB7, 0x80, 0x70, 0xB4, 0xC5, 0x5A] := by decide +kernel

/-- AES-CMAC of the empty message, the first example of its standard. -/
theorem test_cmac_empty :
    cmac [0x2B, 0x7E, 0x15, 0x16, 0x28, 0xAE, 0xD2, 0xA6, 0xAB, 0xF7, 0x15, 0x88, 0x09, 0xCF, 0x4F, 0x3C] []
      = [0xBB, 0x1D, 0x69, 0x29, 0xE9, 0x59, 0x37, 0x28, 0x7F, 0xA3, 0x7D, 0x12, 0x9B, 0x75, 0x67, 0x46] := by decide +kernel

/-- AES-128 key wrap of 128 bits, the first example of its standard. -/
theorem test_key_wrap :
    kwWrap ((List.range 16).map (BitVec.ofNat 8)) ((List.range 16).map fun i => BitVec.ofNat 8 (0x11 * i))
      = [0x1F, 0xA6, 0x8B, 0x0A, 0x81, 0x12, 0xB4, 0x47, 0xAE, 0xF3, 0x4B, 0xD8, 0xFB, 0x5A, 0x7B, 0x82,
         0x9D, 0x3E, 0x86, 0x23, 0x71, 0xD2, 0xCF, 0xE5] := by decide +kernel

/-- A committed tamper class outlasts a reset of its domain and ends at AONPOR (R12, R271). -/
theorem test_committed_tamper_class :
    ((Dev.reset.commitRwl 0x98000).winReset .domrst 9).isCommitted 0x98000 .all = true
    ∧ ((Dev.reset.commitRwl 0x98000).winReset .aonpor 9).isCommitted 0x98000 .all = false := by decide

/-- RegisterCommandsComplete: each clause's hypotheses are met. -/
theorem witness_registerCommands :
    ((0x10 : BitVec 26).toNat % 4 = 0 ∧ (inMode 4).regMiss 0x10 = none ∧ isPairLo 0x10 = false
      ∧ isPairLo (0x10 - 4) = false)
    ∧ ((0x11 : BitVec 26).toNat % 4 ≠ 0 ∨ ((2 : Nat) ≠ 4 ∧ (2 : Nat) ≠ 8))
    ∧ ((inMode 4).regMiss 0x2C = none ∧ (inMode 4).regMiss 0x28 = none ∧ (inMode 4).regMiss 0x3FFFFFC = some 1)
    ∧ (mget? (inMode 4).sys.holdHi (holdKey 3 0x2C) = none ∧ (inMode 4).domOn .fab = true
      ∧ mget? (inMode 4).sys.capHi (holdKey 3 0x28) = none)
    ∧ mget? ((inMode 4).regPairHiWrite 3 0x2C 7).sys.holdHi (holdKey 3 (0x28 + 4)) = some 7 := by decide

/-- An access of eight bytes by a core. -/
def coreAccess (w : Bool) (a : Option Amo) (m : BitVec 6) (p : Port) (addr : BitVec 48) : Access :=
  { master := m, port := p, addr := addr, size := 8, write := w, atomic := a, data := [1, 2, 3], ecc := .clean, row := 0 }

/-- A device with DRAM fitted. -/
def withDram : Dev := (inMode 4).wr F.DMC_STATUS_fitted_gib 64

/-- MemoryAccessesComplete: each clause's hypotheses are met, at the last eight bytes of the Hall, the SRAM and the ROM and the first
of DRAM. -/
theorem witness_memoryAccesses :
    ((coreAccess true none 1 .internal 0x102FFFFF8).ecc = .clean ∧ (inMode 4).domOn .fab = true
      ∧ inHall (coreAccess true none 1 .internal 0x102FFFFF8).addr.toNat 8 = true)
    ∧ inHall (coreAccess false none 1 .internal 0x100000000).addr.toNat 8 = true
    ∧ (0x8000000 ≤ (coreAccess true none 1 .internal 0x803FFF8).addr.toNat
      ∧ (coreAccess true none 1 .internal 0x803FFF8).addr.toNat + 8 ≤ 0x8040000)
    ∧ (0xC000000 ≤ (coreAccess false none 1 .internal 0xC01FFF8).addr.toNat
      ∧ (coreAccess false none 1 .internal 0xC01FFF8).addr.toNat + 8 ≤ 0xC020000)
    ∧ (withDram.domOn .dmc = true ∧ withDram.on F.DMC_STATUS_self_refresh = false ∧ withDram.pmu.poison = []
      ∧ withDram.inDram (coreAccess true none 1 .internal 0x10000000000).addr.toNat 8 = true)
    ∧ ((coreAccess true (some .add) 1 .internal 0x102FFFFF8).addr.toNat % 8 = 0 ∧ mget? (inMode 4).sys.reserve 1 = none)
    ∧ (coreAccess false (some .swap) 0 .bar2 0).atomic.isSome = true := by decide

/-- FabricWindowsComplete: each clause's hypotheses are met, at the last registers and the ends of the windows. -/
theorem witness_fabricWindows :
    ((0x3FFFFFC : BitVec 48).toNat % 4 = 0 ∧ (0x3FFFFFC : BitVec 48).toNat + 4 ≤ 0x4000000)
    ∧ (0x400000000000 ≤ (coreAccess true none 1 .internal 0x7FFFFFFFFFF8).addr.toNat
      ∧ withDram.inDram (coreAccess true none 1 .internal 0x7FFFFFFFFFF8).addr.toNat 8 = false
      ∧ ((inMode 4).setF F.EPL_STATUS_link_up).on F.EPL_STATUS_link_up = true ∧ (inMode 4).on F.EPL_STATUS_link_up = false)
    ∧ (0x800000000000 ≤ (coreAccess true none 1 .internal 0xFFFFFFFFFFF8).addr.toNat
      ∧ withDram.inDram (coreAccess true none 1 .internal 0xFFFFFFFFFFF8).addr.toNat 8 = false
      ∧ (inMode 4).outbAddr (0xFFFFFFFFFFF8 - 0x800000000000) + 8 ≤ 2 ^ 64 ∧ ((inMode 4).setF F.XDI_STATUS_host_present).hostReach = true)
    ∧ (coreAccess false (some .swap) 1 .internal 0).master ≠ 0
    ∧ 0x4000000 ≤ (coreAccess false none 0 .bar0 0x4000000).addr.toNat
    ∧ ((inMode 4).hostReady = false ∧ ({ inMode 4 with xdi := { (inMode 4).xdi with trainReady := true } } : Dev).hostReady = true) := by
  decide

/-- A device whose first crossing FIFO holds a frame that steers to a lane. -/
def crossing (begun : Bool) : Dev :=
  { inMode 4 with reel := { (inMode 4).reel with started := true }, fifos := [(0x50200, { items := [zeros 80], begun := begun })] }

/-- FifoCommandsComplete: each clause's hypotheses are met. -/
theorem witness_fifoCommands :
    ((inMode 4).fifo 0xB0060).flushing = false
    ∧ (((inMode 4).fifoFlush 0xBB060).fifo (0xB0060 + 0x1000 * 11)).flushing = true
    ∧ ((crossing false).fifoHead 0x50200 = some (zeros 80)
      ∧ (∃ l : Fin 16, (crossing false).packetWay 0x50200 (0x51040 + 0x100 * l.val) (zeros 80) = true
        ∧ (crossing false).fifoRoom (0x51040 + 0x100 * l.val) (fifoCap (0x51040 + 0x100 * l.val)) (zeros 80) = true))
    ∧ (((crossing true).fifo 0x50200).begun = true
      ∧ ∃ l : Fin 16, (crossing true).packetWay 0x50200 (0x51040 + 0x100 * l.val) (zeros 80) = true) := by decide

/-- A device in Run mode with its link up, Bus Master Enable set and its host present. -/
def attached : Dev :=
  { ((((inMode 4).wrBit F.PMU_DOM_on 12 true).setF F.XDI_STATUS_link_up).setF F.XDI_STATUS_bme).setF F.XDI_STATUS_host_present with
    xdi := { (inMode 4).xdi with trainReady := true } }

/-- HostPresenceCommandsComplete: each clause's hypotheses are met. -/
theorem witness_hostPresence :
    (inMode 4).rd F.PMU_STATUS_mode = 4
    ∧ (attached.on F.XDI_STATUS_link_up = true ∧ attached.on F.XDI_STATUS_host_present = true)
    ∧ ((attached.clrF F.XDI_STATUS_host_present).on F.XDI_STATUS_host_present = false
      ∧ (attached.clrF F.XDI_STATUS_host_present).on F.XDI_STATUS_bme = true
      ∧ (attached.clrF F.XDI_STATUS_host_present).on F.XDI_STATUS_link_up = true
      ∧ (attached.clrF F.XDI_STATUS_host_present).xdi.ctoAbsent = false
      ∧ (attached.clrF F.XDI_STATUS_host_present).hostReady = true ∧ (attached.clrF F.XDI_STATUS_host_present).icu.l1Wait = [])
    ∧ (inMode 1).hostReady = false
    ∧ ({ attached with xdi := { attached.xdi with ctoRun := 2 } } : Dev).on F.XDI_STATUS_host_present = true
    ∧ ((List.range 64).filter (attached.clrF F.XDI_STATUS_d3hot).active = [] ∧ attached.on F.XDI_STATUS_bme = true
      ∧ ({ attached with icu := { attached.icu with msixEn := true } } : Dev).icu.msixEn = true) := by decide

/-- A ring pair 5 of an attached host, active and enabled with 16 entries, holding `p`. -/
def paired (p : Pair) : Dev :=
  ((attached.setF (F.XDI_RP_CFG_enable.at 5)).setF (F.XDI_RP_STAT_active.at 5)).setPair 5 p

/-- The pair with t completions posted. -/
def posted (t : Nat) : Dev := (paired {}).wr (F.XDI_RP_CQ_TAIL_tail.at 5) t

/-- A completion of status 0 with no data. -/
def blankCpl : Cpl := { seq := 0, result := 0, result2 := 0, tag := 9, status := 0, info := 0, irqNow := false }

/-- A pair 0 that may be enabled as an admin pair: the version agreed and the ring bases 0. -/
def enabling : Dev := (attached.wr F.XDI_NEG_VER_version 0x0200).setF F.XDI_NEG_VER_valid

set_option exponentiation.threshold 600 in
/-- RingCommandsComplete: each clause's hypotheses are met. -/
theorem witness_ringCommands :
    (∀ n ∈ List.range 64, attached.on (F.XDI_RP_CFG_enable.at n) = false)
    ∧ ((enabling.pair 0).disabling = none ∧ enabling.on (F.XDI_RP_CFG_enable.at 0) = false
      ∧ (enabling.storeCfg 0 0x81000000).enableOk 0 0x81000000 = true ∧ bits 0x81000000 24 4 = 1)
    ∧ (enabling.storeCfg 0 0x8F000000).enableOk 0 0x8F000000 = false
    ∧ ((paired {}).on (F.XDI_RP_CFG_enable.at 5) = true
      ∧ ((paired {}).wr (F.XDI_RP_CFG_vector.at 5) 7).on (F.XDI_RP_CFG_enable.at 5) = true
      ∧ (((paired {}).wr (F.XDI_RP_CFG_vector.at 5) 7).pair 5).fetched = [] ∧ (paired {}).xdi.kRings = [])
    ∧ (((paired { disabling := some 0 }).pair 5).disabling.isSome = true ∧ ((paired { disabling := some 0 }).pair 5).started = []
      ∧ ((paired { disabling := some 0 }).pair 5).waiting = [])
    ∧ (((paired { disabling := some 0, started := [{ idx := 3, w := 0 }] }).pair 5).started.find? (fun g => g.idx == 3)
      = some { idx := 3, w := 0 })
    ∧ ((paired {}).active 5 = true ∧ ((paired {}).pair 5).disabling = none ∧ bits 15 0 16 < (paired {}).sqSize 5)
    ∧ ((posted 4).pair 5).cqHead ≠ (((posted 4).cqDoorbellBase 5 3).pair 5).cqHead
    ∧ ((paired { sqTail := 1 }).hostReach = true ∧ (paired { sqTail := 1 }).cqFull 5 = false ∧ 0 < (paired { sqTail := 1 }).sqAvail 5)
    ∧ (((paired { fetched := [{ idx := 0, w := 0x100 }] }).pair 5).fetched = [{ idx := 0, w := 0x100 }] ∧ wFence (0x100 : BitVec 512) = true)
    ∧ (((paired { waiting := [blankCpl] }).pair 5).waiting = [blankCpl] ∧ blankCpl.data = [] ∧ blankCpl.status = 0)
    ∧ ((paired { fetched := [{ idx := 0, w := 0x100 }] }).setPair 5 {}).refusedAs 5 0x100 = none ∧ blankCpl.silent = false
    ∧ attached.ringType 5 ≠ 2 ∧ ((paired { started := [{ idx := 3, w := 0 }] }).wr (F.XDI_RP_CFG_type.at 5) 2).ringType 5 = 2 := by decide

/-- A ring command on pair 5 with its descriptor word and data. -/
def onRing (w : Nat) (data : List Byte := []) : Desc := { via := .ring 5, w := BitVec.ofNat 512 w, data := data }

/-- Export started on pair 5 with one committed record in the staging ring. -/
def exporting (bufs : List PostedBuf) : Dev :=
  let d := ((paired { bufs := bufs }).setF F.XDI_EXP_CTRL_started).wr F.XDI_EXP_LIVE_LO_live 1
  let d := d.wr F.XDI_EXP_NEXT_LO_next 1
  { d with xdi := { d.xdi with kRings := [5] } }

/-- An archive record of sequence 1, sealed. -/
def record1 : List Byte :=
  leBytes 8 1 ++ zeros 116 ++ leBytes 3 (crc32c 0xFFFFFFFF (leBytes 8 1 ++ zeros 116) % 2 ^ 24) ++ [0xA5]

/-- Export started with that record in the staging ring and published. -/
def exportReady : Dev :=
  let d := (exporting [{ w := 0 }]).wr F.REEL_STG_PUB_LO_stg_pub 1
  d.memWrB (d.stgAddr 1) record1

set_option exponentiation.threshold 600 in
set_option maxRecDepth 100000 in
/-- The clause of ExportAndHostMemoryCommandsComplete on a record to deliver: its hypotheses are met. -/
theorem witness_exportRecord :
    exportReady.expOpen = true ∧ exportReady.xdi.kRings = [5] ∧ exportReady.cqFull 5 = false
    ∧ exportReady.expScan (2 * (exportReady.rd F.XDI_EXP_LIVE_LO_live + 1 - exportReady.rd F.XDI_EXP_NEXT_LO_next) + 1)
      (exportReady.rd F.XDI_EXP_NEXT_LO_next) [] none = .record 5 1 record1 none
    ∧ exportReady.blockOpen 5 = false ∧ (exportReady.pair 5).bufs ≠ [] := by decide

/-- A chunk list of one chunk of 4 MiB at 2 MiB. -/
def chunkList : List Byte := leBytes 8 0x200000 ++ leBytes 4 2 ++ zeros 4

/-- The read of a ring command outside D3hot hands on its data as given. -/
theorem witness_withData (c : Desc) (k : Dev → Desc → Dev) (h : c.via = .ring 5) (d : Dev) (hd : d.on F.XDI_STATUS_d3hot = false) :
    d.withData c k = k d c := by
  simp [Dev.withData, h, hd]

set_option exponentiation.threshold 600 in
/-- The clauses of ExportAndHostMemoryCommandsComplete on host memory: their hypotheses are met. -/
theorem witness_hostMemory :
    (enabling.on F.XDI_STATUS_d3hot = false ∧ 0x0101 ≤ enabling.xdiVer ∧ enabling.on F.XDI_HMB_STAT_active = false
      ∧ wUnusedZero (onRing (16 * 2 ^ 128)).w [(8, 20)] = true ∧ wReservedOk (onRing (16 * 2 ^ 128)).w = true
      ∧ wLen (onRing (16 * 2 ^ 128)).w = 16 ∧ chunkList.length = 16 ∧ hmbOk chunkList = true)
    ∧ (wUnusedZero (onRing 0).w [] = true ∧ (attached.setF F.XDI_HMB_STAT_active).on F.XDI_HMB_STAT_active = true)
    ∧ ({ attached with xdi := { attached.xdi with revoking := [onRing 0] } } : Dev).xdi.revoking = [onRing 0] := by decide

set_option exponentiation.threshold 600 in
/-- ExportAndHostMemoryCommandsComplete: the hypotheses of the clauses on EXP_CTRL, EXP_BUF, batch blocks and COMMIT are met. -/
theorem witness_export :
    (attached.anyExp = false ∧ bits 16 0 5 ≤ 16)
    ∧ (wUnusedZero (onRing (64 * 2 ^ 128)).w [(8, 20)] = true ∧ wLen (onRing (64 * 2 ^ 128)).w = 64
      ∧ wLen (onRing (0x100000 * 2 ^ 128)).w = 0x100000
      ∧ attached.xdi.gone.contains (5, (onRing (64 * 2 ^ 128)).w) = false ∧ wUnusedZero (onRing 1).w [(8, 20)] = true
      ∧ wUnusedZero (onRing (2 ^ 300)).w [(8, 20)] = false)
    ∧ ((exporting []).on F.XDI_EXP_CTRL_started = true ∧ 5 ∈ (exporting []).xdi.kRings)
    ∧ ((((exporting [{ w := 0, records := 1 }]).setF (F.XDI_RP_CFG_batch.at 5)).wr (F.XDI_RP_CFG_type.at 5) 2).blockOpen 5 = true)
    ∧ ((exporting []).rd F.XDI_EXP_LIVE_LO_live = 1 ∧ (exporting []).rd F.XDI_EXP_COMMIT_LO_commit = 0)
    ∧ ({ attached with xdi := { attached.xdi with commitDirty := true } } : Dev).xdi.commitDirty = true := by decide

/-- A device whose edge source 5 and level source 102 are enabled, the latter's FIFO at a watermark. -/
def irqs : Dev :=
  let d := (inMode 4).wr (F.ICU_ENABLE_enable.at 0) 0x20
  let d := d.wr (F.ICU_ENABLE_enable.at 3) 0x40
  (d.setF (fqFld 0x50200 F.WLZ_FQ_CTRL_wm_irq_en)).setF (fqFld 0x50200 F.WLZ_FQ_STAT_wm_high_hit)

/-- The device with a moderation window open at a destination. -/
def winAt (k : Nat) : Dev := { irqs with icu := { irqs.icu with win := [(k, { openAt := 0, events := 1, fired := false })] } }

/-- The device with an edge source of target 8 pending. -/
def pended : Dev := (((inMode 4).wr (F.ICU_SRC_CFG_target.at 200) 8).wrSrcBit F.ICU_ENABLE_enable 200 true).wrSrcBit F.ICU_PEND_pending 200 true

/-- The device with a fast edge source of core 0, in class mode, pending. -/
def pendedFast : Dev :=
  let d := (((inMode 4).wr (F.ICU_SRC_CFG_target.at 200) 0).wrSrcBit F.ICU_ENABLE_enable 200 true).wrSrcBit F.ICU_PEND_pending 200 true
  (d.setF (F.ICU_SRC_CFG_fast.at 200)).setF (F.ICU_T_MODE_class_mode.at 0)

/-- What a core in an idle loop shows. -/
def idleCore : CoreSeen := { wfi := true, mie := true, priv := 3, pc := 0x1000, fastVector := 0x40 }

/-- InterruptDeliveryCommandsComplete: the hypotheses on events and windows are met. -/
theorem witness_interruptEvents :
    (edgeAssigned 5 = true ∧ irqs.srcBit F.ICU_ENABLE_enable 5 = true ∧ edgeAssigned 488 = false)
    ∧ (isLevelSource 102 = true ∧ irqs.srcBit F.ICU_ENABLE_enable 102 = true ∧ irqs.levelIn 102 = true
      ∧ mget? irqs.icu.active 102 = none ∧ irqs.srcBit F.ICU_PEND_pending 102 = false)
    ∧ ((winAt 15).modOf 15).2 ≤ (winAt 15).tick
    ∧ ((winAt 271).modOf 271).2 ≤ (winAt 271).tick := by decide

/-- InterruptDeliveryCommandsComplete: the hypotheses on offers, claims and completions are met. -/
theorem witness_interruptOffers :
    ((pended.flag (F.ICU_T_STAT_wfi.at 8) true).choose 8 true = none ∧ (pended.flag (F.ICU_T_STAT_wfi.at 8) true).choose 8 false = some 200
      ∧ mget? pended.icu.offer (slotKey 8 true) = none ∧ mget? pended.icu.offer (slotKey 8 false) = none)
    ∧ (bit (pendedFast.rd F.PMU_CORE_retired) 0 = false ∧ mget? pendedFast.icu.offer (slotKey 0 true) = none
      ∧ ((pendedFast.flag (F.ICU_T_STAT_wfi.at 0) true).setCore 0 (fun c => c.see idleCore)).choose 0 true = some 200)
    ∧ bit ((irqs.wr F.PMU_CORE_retired 1).rd F.PMU_CORE_retired) 0 = true
    ∧ ({ irqs with icu := { irqs.icu with offer := [(19, 511)] } } : Dev).claimable 9 = some (true, 511)
    ∧ irqs.claimable 0 = none
    ∧ (mget? ({ irqs with icu := { irqs.icu with active := [(511, .target 9)] } } : Dev).icu.active 511 = some (.target 9)
      ∧ mget? irqs.icu.active 511 = none) := by decide

/-- SourceRoutingCommandsComplete: each clause's hypotheses are met. -/
theorem witness_sourceRouting :
    ((63 : Fin 512).val < 64 ∧ 64 ≤ (64 : Fin 512).val)
    ∧ (mget? ({ irqs with icu := { irqs.icu with active := [(100, .vector 7)] } } : Dev).icu.active 100 = some (.vector 7)
      ∧ mget? irqs.icu.active 511 = none)
    ∧ (mget? irqs.icu.slot (slotKey 7 true) = none ∧ mget? irqs.icu.slot (slotKey 7 false) = none)
    ∧ mget? ({ irqs with icu := { irqs.icu with slot := [(19, 300)] } } : Dev).icu.slot (slotKey 9 true) = some 300 := by decide

/-- A vector 7 with a source active at it, MSI-X enabled for the attached host and its messages owed. -/
def vector7 : Dev := { attached with icu := { attached.icu with active := [(100, .vector 7)], msixEn := true, owing := true } }

/-- HostVectorCommandsComplete: each clause's hypotheses are met, at the boundaries of their ranges. -/
theorem witness_hostVectors :
    ((vector7.setF (F.ICU_HV_STAT_wait_ack.at 255)).on (F.ICU_HV_STAT_wait_ack.at 255) = true
      ∧ vector7.on (F.ICU_HV_STAT_wait_ack.at 255) = false)
    ∧ ((vector7.clrF (F.XDI_MSIX_VCTL_mask.at 255)).on F.XDI_STATUS_d3hot = false
      ∧ ((vector7.setF F.XDI_STATUS_d3hot).clrF (F.XDI_MSIX_VCTL_mask.at 255)).on F.XDI_STATUS_d3hot = true)
    ∧ (vector7.icu.owing = true ∧ vector7.on F.XDI_STATUS_host_present = true ∧ vector7.on F.XDI_STATUS_d3hot = false
      ∧ vector7.icu.msixEn = true ∧ vector7.icu.fnMask = false ∧ vector7.busyVectors = [7])
    ∧ ({ attached with icu := { attached.icu with owing := false } } : Dev).icu.owing = false := by decide

/-- A device in Run mode with its table enabled and ready, 1 GiB of DRAM, and records in the hot cache. -/
def served (rs : List (Nat × Nat)) : Dev :=
  let d := ((inMode 4).setF F.MSR_CTRL_enable).setF F.MSR_STATUS_ready
  let d := (d.wr F.REEL_SEQ_NEXT_LO_seq_next 1).wr F.REEL_SEQ_RES_LO_seq_res 1000
  { d with msr := { d.msr with cache := rs.map (fun e => (e.1 % 4096, [{ idx := e.1, img := e.2, dirty := false }])) } }

/-- A record at index 5 in a state. -/
def rec5 (s : Nat) : Nat := rs (rs (blankRec 5 s) R.eui 0x1234) R.recGen 3

/-- The device with that record. -/
def served5 (s : Nat) : Dev := served [(5, rec5 s)]

/-- A command about index 5. -/
def about5 (more : Nat := 0) (data : List Byte := []) : Desc := onRing (5 * 2 ^ 192 + more) data

set_option exponentiation.threshold 2100 in
set_option maxRecDepth 20000 in
/-- MeterCommandsComplete: the hypotheses shared by its clauses are met, at index 5. -/
theorem witness_meterCommands :
    (wUnusedZero (about5).w [(24, 28)] = true ∧ wReservedOk (about5).w = true ∧ argIndex (about5).w = 5)
    ∧ ((served5 2).on F.MSR_CTRL_enable = true ∧ (served5 2).on F.MSR_STATUS_ready = true ∧ (served5 2).mode = .run
      ∧ (served5 2).msr.queue = [] ∧ ((served5 2).msrGet 5).2 = some (rec5 2) ∧ ((served5 2).msrGet 5).1.stgBlock 1 0 = none)
    ∧ (rg (rec5 4) R.state = stQuarantined ∧ rg (rec5 5) R.state = stRetired ∧ rg (rec5 2) R.state ≤ 5
      ∧ (served5 5).msrCorrupt 5 = false ∧ rg (rec5 2) R.state ≠ stFree)
    ∧ (wLen (about5 (256 * 2 ^ 128)).w = 256 ∧ maskLocked (wArg (about5 (3 * 2 ^ 224)).w 32 32) = false
      ∧ wArg (about5 (3 * 2 ^ 224)).w 28 4 = rg (rec5 2) R.recGen)
    ∧ (attachOk (wArg (about5).w 32 8) = true ∧ attachOk (wArg (about5).w 40 8) = true
      ∧ ((served5 2).msrGet 5).1.attRoom 5 0 = true)
    ∧ (bit (wArg (about5).w 32 1) 7 = false ∧ (served []).msrRecs = [] ∧ wArg (about5).w 28 1 = 0)
    ∧ (wArg (about5 (2 ^ 224)).w 28 1 = 1 ∧ wUnusedZero (about5 (2 ^ 224)).w [(24, 29)] = true
      ∧ ((served5 2).msrGet 5).1.rd F.MSR_CACHE_CTRL_pinned < 4096 ∧ ((served5 2).msrGet 5).1.pinsOf 5 < 8) := by decide

set_option exponentiation.threshold 2100 in
set_option maxRecDepth 200000 in
/-- MeterCommandsComplete: the hypotheses of LOOKUP and of ADMIT are met. -/
theorem witness_meterAdmit :
    ((((served5 2).idtInsert 0x1234 5).1).idtFind (wArg (onRing (0x1234 * 2 ^ 192)).w 24 8) = some 5
      ∧ wUnusedZero (onRing (0x1234 * 2 ^ 192)).w [(24, 33)] = true)
    ∧ (wArg (onRing (0x1234 * 2 ^ 192 + 2 ^ 287)).w 32 4 = 2 ^ 31
      ∧ wUnusedZero (onRing (0x1234 * 2 ^ 192 + 2 ^ 287)).w [(4, 8), (24, 39), (40, 56)] = true)
    ∧ ((served []).idtFind 0x1234 = none ∧ (served []).msr.freeHead = some 0
      ∧ ((served []).msrGet 0).2.map (fun r => rg r R.state) = some stFree
      ∧ ((served []).msrGet 0).1.attRoom 0 0 = true ∧ ((served []).msrGet 0).1.commRoom = true
      ∧ ((served []).msrGet 0).1.stgBlock 1 0 = none ∧ (((served []).msrGet 0).1.idtInsert 0x1234 0).2 = true) := by decide

/-- The table's device with a checkpoint being written. -/
def writing : Dev := { served [] with msr := { (served []).msr with writing := some { seq := 7, recs := [] } } }

/-- The device before its table is enabled, 16 GiB fitted, the areas at their bases in DRAM. -/
def enablingMsr (b : Nat) : Dev :=
  let d := (inMode 4).wr F.DMC_STATUS_fitted_gib 16
  let d := (d.wr F.MSR_BASE_HI_base_hi 0x100).wr F.MSR_IDT_BASE_HI_idt_hi 0x100
  { d with msr := { d.msr with tableAt := some b } }

set_option exponentiation.threshold 2100 in
set_option maxRecDepth 20000 in
/-- MeterTableCommandsComplete: each clause's hypotheses are met. -/
theorem witness_meterTable :
    (((served5 2).setF F.MSR_REC_SEL_loaded).on F.MSR_REC_SEL_loaded = true)
    ∧ (({ served5 2 with msr := { (served5 2).msr with queue := [.own 5 3 4] } } : Dev).queuedOn 5 = true ∧ bit 0x80000001 31 = true ∧ bit 1 31 = false)
    ∧ (((served5 2).setF F.MSR_CTRL_sweep_en).on F.MSR_CTRL_sweep_en = true ∧ rg ((served5 2).msrPeek 5) R.state = stActive)
    ∧ (((served []).wr F.MSR_CKPT_period 1).rd F.MSR_CKPT_period ≠ 0 ∧ (served []).msr.writing = none)
    ∧ writing.msr.writing = some { seq := 7, recs := [] }
    ∧ ((served []).setF F.MSR_STATUS_rebuilding).on F.MSR_STATUS_rebuilding = true
    ∧ ((enablingMsr 0).on F.MSR_CTRL_enable = false
      ∧ ((enablingMsr 0).regWrite32 0x40000 0x80000001).inDram ((enablingMsr 0).regWrite32 0x40000 0x80000001).msrBase 0x10000000 = true
      ∧ ((enablingMsr 0).regWrite32 0x40000 0x80000001).inDram ((enablingMsr 0).regWrite32 0x40000 0x80000001).idtBase 0x2000000 = true)
    ∧ ((inMode 4).regWrite32 0x40000 0x80000001).inDram ((inMode 4).regWrite32 0x40000 0x80000001).msrBase 0x10000000 = false := by decide

set_option exponentiation.threshold 2100 in
set_option maxRecDepth 20000 in
/-- MeterTableCommandsComplete: a record loaded and unchanged, at index 5, meets the hypotheses of a commit. -/
theorem witness_recCommit :
    let d := ((served5 2).msrRecSelWrite 5).wr F.MSR_REC_CTRL_force 1
    d.rd F.MSR_REC_SEL_index = 5 ∧ d.on F.MSR_REC_SEL_loaded = true ∧ d.on F.MSR_REC_CTRL_commit = false ∧ d.queuedOn 5 = false
    ∧ (d.clrF F.MSR_REC_CTRL_commit).msrCorrupt 5 = false
    ∧ rg (d.msrPeek 5) R.recGen = rg d.recSnap R.recGen := by decide

/-- A device whose Reel runs with lane 3 active, holding items and work. -/
def laneDev (items : List (List Byte)) (work : List Work) : Dev :=
  let d := (served5 2).setF F.REEL_STATUS_running
  { d with fifos := [(laneFq 3, { items := items })], reel := { d.reel with started := true, lanes := [(3, { work := work })] } }

/-- IngestCommandsComplete: each clause's hypotheses are met but for the commit's. -/
theorem witness_ingest :
    ((laneDev [] [{ item := [], index := none, stage := .keyWait }]).laneReady 3 = true
      ∧ ((laneDev [] [{ item := [], index := none, stage := .keyWait }]).lane 3).work = [{ item := [], index := none, stage := .keyWait }])
    ∧ ((laneDev [zeros 80] []).laneReady 3 = true ∧ ((laneDev [zeros 80] []).lane 3).work = []
      ∧ ((laneDev [zeros 80] []).fifo (laneFq 3)).items = [zeros 80])
    ∧ (¬ ({ served5 2 with cu := { (served5 2).cu with resReq := 5000 } } : Dev).cu.resReq ≤ (served5 2).rd F.REEL_SEQ_RES_LO_seq_res
      ∧ (served5 2).val.reseq = none ∧ ((served5 2).wr F.REEL_SEQ_RES_LO_seq_res 5000).on F.REEL_STATUS_res_wait = false)
    ∧ (((served5 2).setF F.REEL_STATUS_stg_full).on F.REEL_STATUS_stg_full = true ∧ (served5 2).stgBlock 1 0 = none)
    ∧ (((served5 2).setF F.REEL_STATUS_storm_req).on F.REEL_STATUS_storm_req = true ∧ (served5 2).reel.restored = []
      ∧ ((served5 2).wr F.REEL_CTRL_storm_hold 60).rd F.REEL_CTRL_storm_hold = 60)
    ∧ (mget? ({ laneDev [] [] with reel := { (laneDev [] []).reel with moving := [(63, 3)] } } : Dev).reel.moving 63 = some 3
      ∧ (laneDev [] []).laneHolds 3 63 = false) := by decide

/-- A heartbeat frame of index 5, generation 0 and counter 9, of the local form. -/
def heartbeat : List Byte := zeros 2 ++ leBytes 3 5 ++ leBytes 2 0 ++ leBytes 4 9 ++ leBytes 4 0 ++ leBytes 2 16 ++ zeros 24

/-- Its packet at the commit unit. -/
def packet5 : Packet :=
  { lane := 3, index := 5, rd := rec5 2, pre := zeros 32, frame := heartbeat, advance := false, handle := 0, verdict := 0 }

/-- The keys of record 5's district: entry 0 of the key store with its derived key in the cache. -/
def keyed (d : Dev) : Dev :=
  let d := d.setF F.PAV_STATUS_unlocked
  { d with pav := { d.pav with
      ram := [(0, { handle := 0, parent := 0, kid := 1, gen := 0, kind := 4, slot := 0, key := zeros 16 })]
      cache := [(cacheSet 0 1 0x1234 0,
        [{ entry := 0, ident := 0x1234, purpose := 1, gen := 0, key := zeros 16, handles := [0, 0] }])] } }

/-- The device with that packet at its commit unit. -/
def committing : Dev := keyed (laneDev [] [{ item := [], index := some 5, stage := .packet packet5 }])

set_option exponentiation.threshold 2100 in
set_option maxRecDepth 200000 in
/-- IngestCommandsComplete: a heartbeat commits with sequence 1 and no entry. -/
theorem witness_commit :
    (committing.lane 3).work = [{ item := [], index := some 5, stage := .packet packet5 }]
    ∧ (committing.commitTry packet5).2 = .done 1
    ∧ (committing.commitTry packet5).1.commitEntries packet5 1
      (rg (committing.msrPeek 5) R.rekeyDue == 0 && rg ((committing.commitTry packet5).1.msrPeek 5) R.rekeyDue == 1) = ([], 0) := by decide +kernel

/-- A rule bank's image of one instruction whose checks hold but the crc, which stands at its place. -/
def bankImage : List Byte :=
  let body := zeros (10304 + 4 - 64)
  leBytes 2 0x5642 ++ leBytes 2 1 ++ leBytes 4 1 ++ leBytes 4 (crc32c 0xFFFFFFFF body) ++ zeros 52 ++ body

/-- The exception entry of a held heartbeat of index 5. -/
def heldEntry : List Byte :=
  padTo 640 (zeros 8 ++ leBytes 1 4 ++ leBytes 1 3 ++ leBytes 1 3 ++ leBytes 1 1 ++ leBytes 4 (2 ^ 31 + 5) ++ zeros 48
    ++ (zeros 20 ++ leBytes 2 heartbeat.length ++ zeros 10) ++ heartbeat)

/-- VAL_INJECT of that entry. -/
def inject5 : Desc := onRing (640 * 2 ^ 128 + 2 ^ 192) heldEntry

/-- The packet it makes. -/
def injected : Packet :=
  { lane := 3, index := 5, rd := rec5 2, pre := (heldEntry.drop 64).take 32, frame := heartbeat, advance := false, handle := 0,
    verdict := 0xD1, inject := true, heldQuar := false }

set_option exponentiation.threshold 2100 in
set_option maxRecDepth 200000 in
/-- LaneAndRuleCommandsComplete: the hypotheses of an injection are met. -/
theorem witness_inject :
    let d := keyed (served5 2)
    (wUnusedZero inject5.w [(8, 20), (24, 25)] = true ∧ wReservedOk inject5.w = true ∧ wArg inject5.w 24 1 = 1
      ∧ wLen inject5.w = 640 ∧ heldEntry.length = 640 ∧ injectOk heldEntry = true)
    ∧ ((heldEntry.drop 96).take (leAt ((heldEntry.drop 64).take 32) 20 2) = heartbeat ∧ leAt heldEntry 12 4 % 0x100000 = 5)
    ∧ (d.mode = .run ∧ d.msrCorrupt 5 = false ∧ typeOk 0 0 16 = true ∧ d.genTest 0 (rg (rec5 2) R.keyGen) = 0
      ∧ (d.keyServe 0 0x1234 1 0 false).2 = .key (zeros 16) 0)
    ∧ ((d.keyServe 0 0x1234 1 0 false).1.commitTry injected).2 = .done 1
    ∧ rg (((d.keyServe 0 0x1234 1 0 false).1.commitTry injected).1.msrPeek 5) R.rekeyDue = 0 := by decide +kernel

set_option exponentiation.threshold 2100 in
set_option maxRecDepth 200000 in
/-- LaneAndRuleCommandsComplete: the other clauses' hypotheses are met but for a good image. -/
theorem witness_laneAndRule :
    (((laneDev [] []).lane 15).faults = [] ∧ ((laneDev [] []).wr F.REEL_ERR_CFG_retire_thr 0).rd F.REEL_ERR_CFG_retire_thr = 0)
    ∧ ((inMode 4).on F.REEL_CTRL_enable = false
      ∧ (((inMode 4).wr F.DMC_STATUS_fitted_gib 32).regWrite32 0x50000 1).inDram (inMode 4).stgBase
        ((inMode 4).rd F.REEL_STG_SIZE_size_gib * 0x40000000) = true)
    ∧ (((((keyed (served5 2)).setF F.REEL_CTRL_enable).setF F.VAL_CTRL_enable).setF F.VAL_STATUS_ready).reelMayRun = true)
    ∧ ((inMode 4).on F.VAL_CTRL_enable = false ∧ mget? ((inMode 4).regWrite32 0x60000 1).gav.sysval 1 = none)
    ∧ (wUnusedZero (onRing 0).w [] = true ∧ wReservedOk (onRing 0).w = true ∧ (inMode 4).on F.VAL_STATUS_swapping = false
      ∧ mget? ({ inMode 4 with val := { (inMode 4).val with banks := [(1, .standard)] } } : Dev).val.banks (1 - (inMode 4).bankNo)
        = some .standard)
    ∧ (mget? [(5, ({ index := 5, fcnt := 9, stamp := 0, path := 1, bestPath := 1, bestQ := 7 } : DedupEnt))]
        (argIndex about5.w % 65536)).map (fun e => e.index) = some (argIndex about5.w) := by decide

set_option exponentiation.threshold 2100 in
set_option maxRecDepth 200000 in
/-- LaneAndRuleCommandsComplete: the shortest legal image passes the checks of VAL_LOAD. -/
theorem witness_bankImage : bankImage.length = 10308 ∧ bankOk bankImage = true := by decide +kernel

/-- A device on which Waltz runs. -/
def waltzing : Dev := (((served []).setF F.WLZ_CTRL_enable).setF F.WLZ_STATUS_running)

/-- With a Waltz state. -/
def waltzOf (w : Wlz) : Dev := { waltzing with wlz := w }

/-- With an item in one of the feed FIFOs. -/
def waltzFed (q : Nat) : Dev := { waltzing with fifos := [(q, { items := [zeros 8] })] }

/-- Before it is enabled, 64 GiB fitted. -/
def waltzOff : Dev := (inMode 4).wr F.DMC_STATUS_fitted_gib 64

set_option maxRecDepth 20000 in
/-- WaltzRunCommandsComplete: the hypotheses of its first clauses are met. -/
theorem witness_waltzRun :
    (waltzOff.on F.WLZ_CTRL_enable = false ∧ (waltzOff.regWrite32 0x70000 0x80000000).on F.WLZ_CTRL_enable = true)
    ∧ (waltzing.on F.WLZ_STATUS_running = true ∧ (waltzFed 0x700B0).fifoHead 0x700B0 = some (zeros 8)
      ∧ (waltzFed 0x700A0).fifoHead 0x700B0 = none ∧ (waltzFed 0x700A0).fifoHead 0x700A0 = some (zeros 8))
    ∧ ((waltzing.setF F.WLZ_EPISODE_open).on F.WLZ_EPISODE_open = true
      ∧ (waltzOf { reportDue := 0 }).wlz.epRestored = none)
    ∧ (waltzing.mayInfer = true ∧ waltzing.wlz.infer = none ∧ waltzing.wlz.score = none ∧ waltzing.msrRecs = []) := by decide

set_option exponentiation.threshold 600 in
set_option maxRecDepth 20000 in
/-- WaltzRunCommandsComplete and WaltzPassesComplete: the hypotheses on running, closes, periods and ends are met. -/
theorem witness_waltzPeriods :
    (((waltzOf { recounted := true }).clrF F.WLZ_STATUS_running).domOn .wlz = true
      ∧ ((waltzOf { recounted := true }).clrF F.WLZ_STATUS_running).mode = .run
      ∧ (waltzOf { recounted := true }).rd F.REEL_WLZ_ACK_LO_wlz_ack = (waltzOf {}).rd F.REEL_STG_PUB_LO_stg_pub
      ∧ ((waltzOf {}).clrF F.WLZ_CTRL_auto_rebuild).on F.WLZ_CTRL_auto_rebuild = false)
    ∧ ({ (waltzOf { closeAt := some (1, 0) }) with tick := 4000000000000 } : Dev).wlz.closeAt = some (1, 0)
    ∧ (let d : Dev := (((waltzing.setF F.WLZ_CTRL_infer_auto).setF F.WLZ_CTRL_score_auto).wr F.WLZ_INFER_period 1).wr
          F.WLZ_SCORE_period 1
       (d.wr F.WLZ_LAST_CLOSED_b 3).lastB = 3 ∧ (d.wr F.WLZ_LAST_CLOSED_b 3).rd F.WLZ_INFER_period = 1
        ∧ (d.wr F.WLZ_LAST_CLOSED_b 3).rd F.WLZ_SCORE_period = 1 ∧ (d.wr F.WLZ_LAST_CLOSED_b 3).mayInfer = true)
    ∧ ((waltzOf { rebuild := some (some (onRing 0), 1) }).wlz.rebuild = some (some (onRing 0), 1)
      ∧ (waltzOf { score := some (none, 0) }).wlz.score = some (none, 0)) := by decide

/-- A node table of one node: its header with its check. -/
def oneNode : List Byte :=
  let body := leBytes 2 0 ++ leBytes 2 0xFFFF ++ leBytes 2 0xFFFF ++ zeros 58
  leBytes 2 0x4E54 ++ [1, 0] ++ leBytes 4 1 ++ leBytes 4 (crc32c 0xFFFFFFFF body) ++ zeros 52 ++ body

set_option exponentiation.threshold 2100 in
set_option maxRecDepth 200000 in
/-- WaltzHostCommandsComplete: the forms of the descriptors and the states its clauses ask for exist. -/
theorem witness_waltzHost :
    (wUnusedZero (onRing (128 * 2 ^ 128)).w [(8, 20), (24, 25)] = true ∧ oneNode.length = 128
      ∧ leAt oneNode 8 4 = crc32c 0xFFFFFFFF (oneNode.drop 64))
    ∧ (wUnusedZero (onRing (48 * 2 ^ 128 + 2 ^ 224 + 2 ^ 288)).w [(8, 20), (24, 40)] = true
      ∧ wArg (onRing (48 * 2 ^ 128 + 2 ^ 224 + 2 ^ 288)).w 28 4 = 1 ∧ wArg (onRing (48 * 2 ^ 128 + 2 ^ 224 + 2 ^ 288)).w 36 4 = 1
      ∧ wLen (onRing (48 * 2 ^ 128 + 2 ^ 224 + 2 ^ 288)).w = 48)
    ∧ ((waltzOf { lastReport := some 1 }).memRd ((waltzOf {}).wlzBase 5 + 0x210000 * 1 + 8) 4 = 0 ∧ waltzing.wlz.lastReport = none)
    ∧ (waltzing.rangeOk 0 = true ∧ waltzing.mode = .run ∧ waltzing.wlz.rebuild = none)
    ∧ (wArg (about5 (2 ^ 240 + 2 ^ 249)).w 31 1 = 2 ∧ wArg (about5 (2 ^ 240 + 2 ^ 249)).w 30 1 = 1
      ∧ wUnusedZero (about5 (2 ^ 240 + 2 ^ 249)).w [(24, 32)] = true)
    ∧ wLen (about5 (3072 * 2 ^ 128)).w = 3072 := by decide +kernel

/-- A device whose Bolero runs, with records in the cache and DRAM fitted. -/
def bolero (s : Nat) : Dev := ((served5 s).wr F.DMC_STATUS_fitted_gib 64).setF F.BOL_STATUS_running

/-- With campaign 1 in a phase of its own, of kind command. -/
def campaign (ph : Nat) : Dev := ((bolero 2).cWr 1 0 1 ph).cWr 1 1 1 2

/-- A command on campaign 1. -/
def onCamp (more : Nat := 0) : Desc := onRing (2 ^ 192 + more)

set_option exponentiation.threshold 2100 in
set_option maxRecDepth 20000 in
/-- BoleroHostCommandsComplete: the hypotheses of its clauses on the enable and on one meter are met. -/
theorem witness_boleroMeter :
    (((inMode 4).wr F.DMC_STATUS_fitted_gib 64).on F.BOL_CTRL_enable = false
      ∧ (((inMode 4).wr F.DMC_STATUS_fitted_gib 64).regWrite32 0x80000 0x80000000).on F.BOL_CTRL_enable = true
      ∧ (((inMode 4).wr F.DMC_STATUS_fitted_gib 64).regWrite32 0x80000 0x80000000).inDram (inMode 4).bolArea 0x53000000 = true
      ∧ ((inMode 4).regWrite32 0x80000 0x80000000).inDram (inMode 4).bolArea 0x53000000 = false
      ∧ ((inMode 4).regWrite32 0x80000 0).on F.BOL_CTRL_enable = false)
    ∧ (wUnusedZero (about5 (7 * 2 ^ 224)).w [(24, 30), (32, 64)] = true ∧ cargsOk 7 (leBytes 32 0) = true
      ∧ (bolero 2).on F.BOL_STATUS_running = true ∧ (bolero 2).mode = .run
      ∧ ((bolero 2).msrGet 5).2 = some (rec5 2) ∧ cmdState (rg (rec5 2) R.state) false = true ∧ codeNeeds2 7 = false
      ∧ actuating 7 = false ∧ ((bolero 2).msrGet 5).1.cmdRoom 5 = true)
    ∧ attPath (rg (rs (rec5 2) R.attach 1) R.attach) = some 0
    ∧ ((bolero 2).grpHandle 4095 ≠ 9 ∧ ((bolero 2).grpBgen 4095 + 1) % 65536 = 1) := by decide +kernel

set_option exponentiation.threshold 2100 in
set_option maxRecDepth 20000 in
/-- BoleroHostCommandsComplete: the hypotheses of its clauses on campaigns are met. -/
theorem witness_boleroCampaign :
    (wArg (onCamp).w 24 1 = 1 ∧ wUnusedZero (onCamp).w [(24, 25)] = true ∧ wReservedOk (onCamp).w = true)
    ∧ ((bolero 2).cPhase 63 = 0 ∧ (campaign 1).cPhase 1 = 1 ∧ (campaign 1).campPhase 1 = 1 ∧ (campaign 6).campPhase 1 = 6
      ∧ (campaign 2).cPhase 1 = 2 ∧ ((campaign 2).cWr 1 1 1 0).cKind 1 ≠ 2
      ∧ (campaign 1).cMembers 1 = 0 ∧ (campaign 1).bol.cmds = [])
    ∧ (wArg (onCamp (16 * 2 ^ 128)).w 25 1 = 0 ∧ wLen (onCamp (16 * 2 ^ 128)).w = 16
      ∧ (chunks 4 (leBytes 4 5)).map (fun e => leAt e 0 4) = [5])
    ∧ ((((((campaign 1).cWr 1 3 3 0).cWr 1 24 12 0).cWr 1 36 4 0).cWr 1 0 1 2).cKind 1 = 2
      ∧ (((((campaign 1).cWr 1 3 3 0).cWr 1 24 12 0).cWr 1 36 4 0).cWr 1 0 1 2).cMembers 1 = 0)
    ∧ min (wLen (onCamp (16 * 2 ^ 128)).w / 8) (((campaign 1).campAdd 1 5).1.cMembers 1) = 1 := by decide +kernel

/-- Bolero's device with a state of its own. -/
def boleroOf (b : Bol) : Dev := { bolero 2 with bol := b }

/-- An acknowledgement request of record 5 for a heartbeat of PLC channel 0. -/
def ack5 : AckReq := { index := 5, eui := 0x1234, attach := 1, stamp := 0, ftype := 1 }

/-- An outstanding command of record 5. -/
def cmd5 : BCmd := { index := 5, code := 7, cargs := zeros 32, noAck := false, src := .groupKey, cseq := 0, tries := 1 }

set_option maxRecDepth 20000 in
/-- BoleroEngineCommandsComplete: the hypotheses of its clauses are met but for the notice of status. -/
theorem witness_boleroEngine :
    ((boleroOf { passed := [ack5] }).bolSends = true ∧ (boleroOf {}).ackStorm ack5 = false ∧ (boleroOf {}).bol.ackq.length < 65536)
    ∧ (attPath ack5.attach = some 0 ∧ zeroAs (((bolero 2).wr F.BOL_CTRL_ack_delay 80).rd F.BOL_CTRL_ack_delay) 1 = 80
      ∧ ((boleroOf {}).msrGet 5).2 = some (rec5 2))
    ∧ ((((boleroOf {}).idtInsert 0x1234 5).1.idtFind 0x1234 = some 5) ∧ rg (rec5 2) R.state = stActive)
    ∧ ((boleroOf { cmds := [cmd5] }).cmdOf 5 = some cmd5 ∧ leAt (zeros 8) 0 2 = cmd5.cseq ∧ cmd5.tries ≠ 0
      ∧ (boleroOf { cmds := [cmd5] }).bol.outq.any (fun f => f.index == 5 && f.why == .cmd cmd5.cseq) = false)
    ∧ ((mkDl 0 1 5 .reply 1 0 true true []).act = true ∧ (((bolero 2).setF F.EPL_CTRL_pair_en).tokenFree = false)) := by
  decide +kernel

/-- BoleroEngineCommandsComplete: a request may find the queue full. -/
theorem witness_ackShed : ∃ d : Dev, ∃ x : AckReq, d.bol.passed = [x] ∧ 65536 ≤ d.bol.ackq.length :=
  ⟨boleroOf { passed := [ack5], ackq := List.replicate 65536 ack5 }, ack5, rfl, Nat.le_of_eq List.length_replicate.symm⟩

/-- A campaign whose member 0 is record 5, which runs in it. -/
def memberOf : Dev :=
  let d := ((campaign 2).cWr 1 20 4 1).mPut 1 0 5
  { d with msr := { d.msr with cache := [(5, [{ idx := 5, img := rs (rs (rec5 2) R.campaign 1) R.inCampaign 1, dirty := false }])] } }

set_option maxRecDepth 20000 in
/-- BoleroEngineCommandsComplete: the hypotheses of its clause on the notice of status are met. -/
theorem witness_boleroStatus :
    rg (memberOf.msrPeek 5) R.campaign = 1 ∧ rg (memberOf.msrPeek 5) R.inCampaign = 1 ∧ memberOf.cPhase 1 = 2
    ∧ memberOf.cCtag 1 = leAt (zeros 4 ++ [1] ++ zeros 7) 0 4
    ∧ (List.range (memberOf.cMembers 1)).find? (fun k => meIndex (memberOf.mEnt 1 k) == 5 && meState (memberOf.mEnt 1 k) != 5)
      = some 0
    ∧ memberOf.cSegs 1 = 0 ∧ memberOf.pPhase 1 (tget memberOf.bol.mpath (mKey 1 0) - 1) ≠ 7
    ∧ byteAt (zeros 4 ++ [1] ++ zeros 7) 4 = 1 ∧ memberOf.msrCorrupt 5 = false := by decide +kernel

/-- Campaign 1 live with path 0 in a phase. -/
def livePath (ph : Nat) : Dev := (campaign 2).pPut 1 0 ph 0 0 0 0

set_option maxRecDepth 20000 in
/-- BoleroCampaignPathsComplete: each clause's hypotheses are met. -/
theorem witness_boleroPaths :
    ((livePath 2).campLive 1 0 = true ∧ (livePath 2).pPhase 1 0 = 2 ∧ (livePath 2).pCount 1 0 < 3
      ∧ ((livePath 2).pPut 1 0 2 0 3 0 0).campLive 1 0 = true ∧ ((livePath 2).pPut 1 0 2 0 3 0 0).pCount 1 0 = 3)
    ∧ ((livePath 5).pathHeld 1 0 = false ∧ (livePath 5).pPhase 1 0 = 5 ∧ (livePath 4).onPath 1 0 = [] ∧ (livePath 4).pPhase 1 0 = 4
      ∧ (livePath 7).pPhase 1 0 = 7 ∧ (livePath 7).pCount 1 0 < 3 ∧ (livePath 7).pathHeld 1 0 = false)
    ∧ ((campaign 6).bolPaused = false ∧ ((campaign 6).cWr 1 36 4 1).cActivateAt 1 = 1 ∧ sgn 32 (serSub 32 1 1) ≤ 0) := by
  decide +kernel

/-- A key store in Run, unlocked: a root, two districts of which one is staged, and a broadcast key. -/
def keyStore : Dev :=
  let d := (inMode 4).setF F.PAV_STATUS_unlocked
  let root : KeyEnt := { handle := 0x10001, parent := 0, kid := 1, gen := 0, kind := 3, slot := 0, key := zeros 32 }
  let dist : KeyEnt := { handle := 0x20002, parent := 0x10001, kid := 7, gen := 0, kind := 4, slot := 1, key := zeros 32 }
  { d with pav := { d.pav with
      kek := some (zeros 32), issue := 5
      ram := [(1, root), (2, dist), (3, { dist with handle := 0x30003, kid := 8, slot := 2, shadow := some 5 }),
        (4, { root with handle := 0x40004, parent := 0x10001, kid := 9, kind := 5, slot := 3, key := zeros 16 })] } }

/-- A command that names a handle, with a buffer length, its args from byte 24, and its buffer's bytes. -/
def keyCmd (h len args : Nat) (data : List Byte := []) : Desc := onRing (h * 2 ^ 32 + len * 2 ^ 128 + args * 2 ^ 192) data

/-- A record to import or stage a broadcast key under the root. -/
def keyRec (kid gen wrapped : Nat) : List Byte :=
  leBytes 2 0x4B57 ++ [1, 5] ++ leBytes 4 kid ++ leBytes 2 gen ++ [0, 0] ++ leBytes 4 1 ++ leBytes 24 wrapped ++ zeros 24

/-- The record of broadcast key 9, generation 1. -/
def keyRec9 : List Byte := keyRec 9 1 2879980474728764615301113205754013408907828500695161170382

/-- The store without broadcast key 9. -/
def importStore : Dev := { keyStore with pav := { keyStore.pav with ram := keyStore.pav.ram.take 3 } }

set_option exponentiation.threshold 2100 in
set_option maxRecDepth 200000 in
/-- KeyRingCommandsComplete: the hypotheses of the clauses on KEY_IMPORT are met but for the unwrapping. -/
theorem witness_keyImport :
    importStore.mode ≠ .recovery ∧ importStore.on F.PAV_STATUS_unlocking = false ∧ importStore.pav.op = none ∧ importStore.unlocked = true
    ∧ wUnusedZero (keyCmd 0x10001 64 0 keyRec9).w [(4, 20)] = true ∧ wReservedOk (keyCmd 0x10001 64 0 keyRec9).w = true
    ∧ wLen (keyCmd 0x10001 64 0).w = 64 ∧ keyRec9.length = 64 ∧ leAt keyRec9 0 2 = 0x4B57 ∧ importFieldsBad keyRec9 = false
    ∧ ((importStore.keyOf (wHandle (keyCmd 0x10001 64 0).w)).map (fun e => e.bad)).getD true = false
    ∧ (byteAt keyRec9 3 == 3) = (wHandle (keyCmd 0x10001 64 0).w == 0)
    ∧ ((importStore.keyOf (wHandle (keyCmd 0x10001 64 0).w)).map (fun e => e.kind != 3)).getD false = false
    ∧ leAt keyRec9 12 4 = ((importStore.keyOf (wHandle (keyCmd 0x10001 64 0).w)).map (fun e => e.kid)).getD 0
    ∧ importStore.pav.ram.find? (fun e => e.2.kind == 5 && e.2.kid == leAt keyRec9 4 4) = none
    ∧ (List.range 8192).find? (fun n => n != 0 && (mget? importStore.pav.ram n).isNone) = some 4 ∧ importStore.freeSlot = some 0
    ∧ (importStore.pav.ram.filter (fun e => e.2.kind == 5)).length < kindMax 5 := by decide +kernel

set_option exponentiation.threshold 2100 in
set_option maxRecDepth 200000 in
/-- KeyRingCommandsComplete: the key that the record of KEY_IMPORT and KEY_STAGE carries. -/
theorem witness_keyImportUnwrap : importKey keyRec9 (zeros 32) 1 = some (zeros 16) := by decide +kernel

set_option exponentiation.threshold 2100 in
set_option maxRecDepth 200000 in
/-- KeyRingCommandsComplete: the hypotheses of the clause on KEY_STAGE are met but for the unwrapping. -/
theorem witness_keyStage :
    let c := keyCmd 0x40004 64 0 keyRec9
    wUnusedZero c.w [(4, 20), (24, 56)] = true ∧ wReservedOk c.w = true
    ∧ (keyStore.keyOf (wHandle c.w)).map (fun e => (e.shadow, e.kind, e.kid, e.gen)) = some (none, 5, 9, 0)
    ∧ wLen c.w = 64 ∧ c.data.length = 64 ∧ leAt c.data 0 2 = 0x4B57 ∧ importFieldsBad c.data = false ∧ byteAt c.data 3 = 5
    ∧ leAt c.data 4 4 = 9 ∧ leAt c.data 12 4 = ((keyStore.keyOf 0x10001).map (fun p => p.kid)).getD 0
    ∧ leAt c.data 8 2 = 1 ∧ keyStore.freeSlot = some 0
    ∧ (keyStore.pav.ram.filter (fun x => x.2.shadow.isSome)).length < 8 := by decide +kernel

set_option exponentiation.threshold 2100 in
set_option maxRecDepth 200000 in
/-- KeyRingCommandsComplete: the hypotheses of the clauses from KEY_COMMIT to KEY_LIST are met. -/
theorem witness_keyRing :
    (wUnusedZero (keyCmd 0x30003 0 0).w [(4, 8)] = true ∧ wReservedOk (keyCmd 0x30003 0 0).w = true
      ∧ (keyStore.keyOf (wHandle (keyCmd 0x30003 0 0).w)).map (fun e => e.shadow) = some (some 5))
    ∧ ((keyStore.keyCatalog.find? (fun e => e.1.handle == wHandle (keyCmd 0x30003 0 0).w)).map (fun e => e.2) = some 1)
    ∧ (wUnusedZero (keyCmd 0 64 0).w [(8, 20), (24, 28)] = true ∧ wReservedOk (keyCmd 0 64 0).w = true
      ∧ wLen (keyCmd 0 64 0).w % 16 = 0
      ∧ ((keyStore.keyCatalog.filter (fun e => wArg (keyCmd 0 64 0).w 24 4 ≤ e.1.handle % 8192)).take 4).length
        = (keyStore.keyCatalog.filter (fun e => wArg (keyCmd 0 64 0).w 24 4 ≤ e.1.handle % 8192)).length) := by decide +kernel

set_option exponentiation.threshold 2100 in
set_option maxRecDepth 200000 in
/-- KeyRingCommandsComplete: the hypotheses of the clauses from KEY_SUCCESSOR on are met. -/
theorem witness_keyLinks :
    (wUnusedZero (keyCmd 0x20002 0 0x30003).w [(4, 8), (24, 28)] = true ∧ wReservedOk (keyCmd 0x20002 0 0x30003).w = true
      ∧ (keyStore.keyOf (wHandle (keyCmd 0x20002 0 0x30003).w)).map (fun e => e.kind) = some 4
      ∧ (keyStore.keyOf (wArg (keyCmd 0x20002 0 0x30003).w 24 4)).map (fun e => e.kind) = some 4
      ∧ wArg (keyCmd 0x20002 0 0x30003).w 24 4 ≠ 0
      ∧ wArg (keyCmd 0x20002 0 0x30003).w 24 4 ≠ wHandle (keyCmd 0x20002 0 0x30003).w
      ∧ keyStore.pav.succ.any (fun l => l.1 == 0x30003) = false
      ∧ (keyStore.pav.succ.filter (fun l => l.1 != 0x20002)).length < 4096)
    ∧ (wUnusedZero (keyCmd 0x20002 0 0).w [(4, 8), (24, 28)] = true ∧ wReservedOk (keyCmd 0x20002 0 0).w = true
      ∧ wArg (keyCmd 0x20002 0 0).w 24 4 = 0)
    ∧ (let c := keyCmd 0x20002 48 (0x30003 * 2 ^ 64)
      wUnusedZero c.w [(4, 20), (24, 38)] = true ∧ wReservedOk c.w = true ∧ 48 ≤ wLen c.w
      ∧ (keyStore.keyOf (wHandle c.w)).map (fun e => (e.bad, e.kind)) = some (false, 4)
      ∧ (keyStore.keyOf (wArg c.w 32 4)).map (fun e => (e.bad, e.kind)) = some (false, 4))
    ∧ (Dev.reset.on F.PAV_STATUS_unlocking = false ∧ Dev.reset.pav.op = none
      ∧ wUnusedZero (keyCmd 0 0 0x1E179640).w [(24, 28)] = true ∧ wReservedOk (keyCmd 0 0 0x1E179640).w = true
      ∧ wArg (keyCmd 0 0 0x1E179640).w 24 4 = 0x1E179640 ∧ Dev.reset.on F.PAV_STATUS_zeroised = true)
    ∧ (wUnusedZero (keyCmd 0 0 0x2E509640).w [(24, 28)] = true ∧ wReservedOk (keyCmd 0 0 0x2E509640).w = true
      ∧ wArg (keyCmd 0 0 0x2E509640).w 24 4 = 0x2E509640) := by decide +kernel

set_option exponentiation.threshold 2100 in
set_option maxRecDepth 200000 in
/-- PavaneStoreEventsComplete: the hypotheses of the clauses on KEY_REQUEST are met. -/
theorem witness_keyRequest :
    ((keyed Dev.reset).keyServe 0 0x1234 1 0 false).2 = .key (zeros 16) 0
    ∧ keyStore.unlocked = true ∧ keyStore.keyOf 0x20003 = none := by decide +kernel

/-- A store with its KEK, unlocking, nothing in the NVM. -/
def unlocking : Dev :=
  let d := ((inMode 1).setF F.PAV_STATUS_unlocking).clrF F.PAV_STATUS_zeroised
  { d with pav := { d.pav with kek := some (zeros 32), check := keyCheck (zeros 32) } }

set_option exponentiation.threshold 2100 in
set_option maxRecDepth 200000 in
/-- PavaneStoreEventsComplete: the hypotheses of the clause on PAV_UNLOCK_DONE are met. -/
theorem witness_unlockDone :
    unlocking.on F.PAV_STATUS_unlocking = true ∧ unlocking.pav.op = none
    ∧ ((unlocking.clrF F.PAV_STATUS_unlocking).clrF F.PAV_CTRL_unlock).on F.PAV_STATUS_zeroised = false
    ∧ ((unlocking.clrF F.PAV_STATUS_unlocking).clrF F.PAV_CTRL_unlock).on F.PAV_STATUS_kat_fail = false
    ∧ (((((unlocking.clrF F.PAV_STATUS_unlocking).clrF F.PAV_CTRL_unlock).clrF F.PAV_STATUS_nvm_bad).unlockStore).raise 289).unlocked
      = true := by decide +kernel

/-- A device in Run whose sensor 0 is of class Alert and sensor 1 of class Zeroise. -/
def sensed : Dev := (inMode 4).wr F.PAV_TMP_CFG_class 0b1001

set_option exponentiation.threshold 2100 in
set_option maxRecDepth 200000 in
/-- PavaneStoreEventsComplete: the hypotheses of the clauses on tamper events are met. -/
theorem witness_tamper :
    (sensed.sensorClass 0 = 1
      ∧ ((sensed.wrBit F.PAV_TMP_STAT_seen 0 true).wrBit F.PAV_TMP_STAT_live 0 true).opCut = false
      ∧ ((sensed.wrBit F.PAV_TMP_STAT_seen 0 true).wrBit F.PAV_TMP_STAT_live 0 true).mode ≠ .boot
      ∧ (((sensed.wrBit F.PAV_TMP_STAT_seen 0 true).wrBit F.PAV_TMP_STAT_live 0 true).tamperLog 0 1 1 0).pav.op = none
      ∧ (((sensed.wrBit F.PAV_TMP_STAT_seen 0 true).wrBit F.PAV_TMP_STAT_live 0 true).tamperLog 0 1 1 0).mode ≠ .dormant)
    ∧ (sensed.sensorClass 1 = 2
      ∧ ((sensed.wrBit F.PAV_TMP_STAT_seen 1 true).wrBit F.PAV_TMP_STAT_live 1 true).opCut = false
      ∧ ((sensed.wrBit F.PAV_TMP_STAT_seen 1 true).wrBit F.PAV_TMP_STAT_live 1 true).mode ≠ .boot
      ∧ (((sensed.wrBit F.PAV_TMP_STAT_seen 1 true).wrBit F.PAV_TMP_STAT_live 1 true).tamperLog 1 2 3 0).pav.op = none)
    ∧ ((List.range 10).find? (fun s => bit (((sensed.setF F.PAV_TMP_CTRL_arm).commitRwl 0x98000).rd F.PAV_TMP_STAT_live) s
        && ((sensed.setF F.PAV_TMP_CTRL_arm).commitRwl 0x98000).sensorClass s == 2) = none)
    ∧ sensed.opCut = false ∧ (sensed.tamperLog 0x10 2 3 0).pav.op = none := by decide +kernel

/-- A key store whose import has these NVM words to program. -/
def importing (acts : List NvmAct) : Dev :=
  keyStore.opStart {
    cmd := keyCmd 0 0 0, work := .import, acts := acts,
    ent := { handle := 0x50005, parent := 0x10001, kid := 10, gen := 0, kind := 5, slot := 4, key := zeros 16 } }

set_option exponentiation.threshold 2100 in
set_option maxRecDepth 200000 in
/-- PavaneStoreEventsComplete: the hypotheses of the clauses on NVM_PROGRAM_DONE are met. -/
theorem witness_nvm :
    ((importing [.word 4 6 1, .word 4 7 2]).pav.op.map (fun o => (o.work == .import, o.acts))
      = some (true, [.word 4 6 1, .word 4 7 2]))
    ∧ ((importing [.word 4 7 2]).pav.op.map (fun o => (o.work == .import, o.acts)) = some (true, [.word 4 7 2]))
    ∧ ({ importing [.word 4 7 2] with pav := { (importing [.word 4 7 2]).pav with
        nvm := tset (importing [.word 4 7 2]).pav.nvm 4 (setByts 0 56 8 2) } } : Dev).unlocked = true := by decide +kernel

/-- A device in a mode with PLC channel 3 running and beaconing, address 5 bound. -/
def polka (m : Nat) : Dev :=
  let d := (((inMode m).setF (F.PLK_STATUS_running.at 3)).setF (F.PLK_STATUS_beaconing.at 3)).setF (F.PLK_CTRL_assoc_open.at 3)
  d.setPlc 3 { binds := [(5, { eui := 0x1234 })] }

/-- A received MPDU of a type from address 5, single segment. -/
def mpdu (mtype : Nat) (data : List Byte) : PlcRx :=
  let b := leBytes 1 (mtype + 16) ++ leBytes 1 0 ++ leBytes 2 5 ++ zeros 9 ++ leBytes 1 data.length ++ zeros 2 ++ data
  { bytes := b ++ leBytes 4 (crc32c 0xFFFFFFFF b), decoded := true, stamp := 0, margin := 10, impulses := 0, drift := false,
    bestMod := 0, bestMask := 0 }

/-- Polka after it heard such an MPDU. -/
def heardPlc (m : PlcRx) : Dev := (polka 4).plcHeard 3 (plcHdr m.bytes) m

set_option exponentiation.threshold 2100 in
set_option maxRecDepth 200000 in
/-- PlcReceptionCommandsComplete: the hypotheses of the clause on a data segment are met. -/
theorem witness_plcSegment :
    (polka 4).plcRuns 3 = true ∧ (plcHdr (mpdu 1 heartbeat).bytes).dst = 0 ∧ plcOk (mpdu 1 heartbeat) = true ∧ (plcHdr (mpdu 1 heartbeat).bytes).mtype = 1
    ∧ (((((heardPlc (mpdu 1 heartbeat)).bump (F.PLK_CNT_SEG_seg_ok.at 3)).sample 0x0B 3 10).plc 3).bound 5).isSome = true
    ∧ ((heardPlc (mpdu 1 heartbeat)).plc 3).passed = [] ∧ ((heardPlc (mpdu 1 heartbeat)).plc 3).parts = []
    ∧ (plcHdr (mpdu 1 heartbeat).bytes).seg = 0 ∧ (plcHdr (mpdu 1 heartbeat).bytes).count = 1
    ∧ fifoLevelOf (plcFq 3) ((heardPlc (mpdu 1 heartbeat)).fifo (plcFq 3)).items
      + (((heardPlc (mpdu 1 heartbeat)).setPlc 3 { parts := [{ src := 5, fid := 0, count := 1, segs := [], since := 0 }] }).fifoParts
        (plcFq 3)) + ((plcHdr (mpdu 1 heartbeat).bytes).data.length + 63) / 64 ≤ 256
    ∧ (mput ([] : Map (List Byte)) 0 heartbeat).length = 1 ∧ plcOk { mpdu 1 [] with decoded := false } = false := by decide +kernel

set_option exponentiation.threshold 2100 in
set_option maxRecDepth 200000 in
/-- PlcReceptionCommandsComplete: the hypotheses of the clauses on the control MPDUs are met. -/
theorem witness_plcControl :
    (plcOk (mpdu 3 (zeros 4)) = true ∧ (plcHdr (mpdu 3 (zeros 4)).bytes).mtype = 3)
    ∧ (plcOk (mpdu 4 (leBytes 16 0x1234)) = true ∧ (plcHdr (mpdu 4 (leBytes 16 0x1234)).bytes).mtype = 4
      ∧ (heardPlc (mpdu 4 (leBytes 16 0x1234))).mode ≠ .shadow
      ∧ (((heardPlc (mpdu 4 (leBytes 16 0x1234))).plc 3).binds.find? (fun x => x.2.eui == leAt (leBytes 16 0x1234) 0 8 && x.2.freed.isNone)).map
        (fun x => x.1) = some 5)
    ∧ (((heardPlc (mpdu 4 (leBytes 16 7))).plc 3).binds.find? (fun x => x.2.eui == leAt (leBytes 16 7) 0 8 && x.2.freed.isNone) = none
      ∧ (heardPlc (mpdu 4 (leBytes 16 7))).on (F.PLK_CTRL_assoc_open.at 3) = true
      ∧ (heardPlc (mpdu 4 (leBytes 16 7))).recOf 7 = none
      ∧ ((heardPlc (mpdu 4 (leBytes 16 7))).plc 3).binds.find? (fun x => x.2.eui == 7) = none
      ∧ ((heardPlc (mpdu 4 (leBytes 16 7))).plk.any (fun x => x.1 != 3)) = false
      ∧ pickShort 1 2048 1024 ((heardPlc (mpdu 4 (leBytes 16 7))).plc 3).sf none
        (fun a => (mget? ((heardPlc (mpdu 4 (leBytes 16 7))).plc 3).binds a).map (·.freed)) = some 1)
    ∧ (plcOk (mpdu 6 []) = true ∧ (plcHdr (mpdu 6 []).bytes).mtype = 6 ∧ (((heardPlc (mpdu 6 [])).plc 3).bound 5).isSome = true)
    ∧ (plcOk (mpdu 7 []) = true ∧ (plcHdr (mpdu 7 []).bytes).mtype = 7 ∧ (heardPlc (mpdu 7 [])).mode ≠ .shadow
      ∧ (((heardPlc (mpdu 7 [])).plc 3).bound 5).isSome = true)
    ∧ (plcOk (mpdu 8 (zeros 8)) = true ∧ (plcHdr (mpdu 8 (zeros 8)).bytes).mtype = 8)
    ∧ (plcOk (mpdu 9 []) = true ∧ (plcHdr (mpdu 9 []).bytes).mtype = 9 ∧ (((heardPlc (mpdu 9 [])).plc 3).bound 5).isSome = true)
    ∧ ((polka 4).mode ≠ .shadow ∧ (polka 7).mode = .shadow ∧ (polka 7).plcRuns 3 = true ∧ ((polka 4).plc 3).partner = false) := by decide +kernel

/-- Polka with channel 3 in a state. -/
def polkaWith (c : Plc) : Dev := (polka 4).setPlc 3 c

/-- A downlink frame for address 5 of PLC channel 3. -/
def plcFrame : DlFrame :=
  { id := 1, path := 3, attach := 3 + 5 * 2 ^ 20, index := 5, why := .reply, dtype := 2, dest := 2, group := 0, ackReq := false,
    act := false, payload := zeros 12, body := zeros 32 }

set_option exponentiation.threshold 2100 in
set_option maxRecDepth 200000 in
/-- PlcChannelEventsComplete: the hypotheses of its first clauses are met. -/
theorem witness_plcEvents :
    ((polka 4).plcRuns 3 = true
      ∧ ((polka 4).modPlc 3 (fun (c : Plc) => { c with sf := c.sf + 1 })).mode ≠ .shadow
      ∧ ((polka 4).modPlc 3 (fun (c : Plc) => { c with sf := c.sf + 1 })).plcSends 3 = true)
    ∧ ((([{ src := 5, fid := 1, count := 2, segs := [], since := 0 }] : List PlcPart).find? (fun p => p.src == 5 && p.fid == 1)).isSome = true
      ∧ 0 + zeroAs ((polka 4).rd (F.PLK_GRANT_reasm_sf.at 3)) 1 ≤ 300)
    ∧ (((polka 4).plc 3).bound 5).isSome = true ∧ (polka 4).plcSends 3 = true
    ∧ ((((polka 4).bump (F.PLK_CNT_TIMING_missed_grants.at 3)).wr (F.PLK_GRANT_miss_lost.at 3) 0).rd (F.PLK_GRANT_miss_lost.at 3) = 0
      ∨ 1 < ((polka 4).bump (F.PLK_CNT_TIMING_missed_grants.at 3)).rd (F.PLK_GRANT_miss_lost.at 3))
    ∧ (polka 4).on (F.PLK_CTRL_zc_edge.at 3) = false ∧ (polka 4).mode ≠ .shadow
    ∧ (({ polka 4 with bol := { (polka 4).bol with outq := [plcFrame] } } : Dev).dlTake 3 (fun f => f.dest = 2)).2 = some plcFrame := by
  decide +kernel

set_option exponentiation.threshold 2100 in
set_option maxRecDepth 200000 in
/-- PlcChannelEventsComplete: the hypotheses of its last clauses are met. -/
theorem witness_plcChannel :
    ((([{ frame := plcFrame, tries := 255, held := 1 }] : List PlcJob).find? (fun j => j.frame.id == 1)).isSome = true
      ∧ (polka 4).rd (F.PLK_GRANT_dl_retry.at 3) ≤ 255)
    ∧ ((inMode 4).on (F.PLK_CTRL_enable.at 3) = false
      ∧ ((inMode 4).regWrite32 0xA3000 0x80000000).on (F.PLK_CTRL_enable.at 3) = true
      ∧ ((inMode 4).regWrite32 0xA3000 0x80000000).rd (F.PLK_SF_bp_slots.at 3)
        + ((inMode 4).regWrite32 0xA3000 0x80000000).rd (F.PLK_SF_dl_slots.at 3)
        + ((inMode 4).regWrite32 0xA3000 0x80000000).rd (F.PLK_SF_cont_slots.at 3) ≤ 62
      ∧ ((inMode 4).regWrite32 0xA3000 0x80000000).rd (F.PLK_SF_bp_slots.at 3) ≠ 0
      ∧ 40 ≤ ((inMode 4).regWrite32 0xA3000 0x80000000).rd (F.PLK_SF_slot_q.at 3)
      ∧ ((((inMode 4).regWrite32 0xA3000 0x80000000).commitRwl 0xA3000).setF (F.PLK_STATUS_link_up.at 3)).mode ≠ .shadow)
    ∧ ((polka 4).setF (F.PLK_STATUS_listening.at 3)).on (F.PLK_STATUS_listening.at 3) = true
    ∧ (((polka 4).setF (F.PLK_CTRL_beacon_force.at 3)).plcRuns 3 = true
      ∧ ((polka 4).setF (F.PLK_CTRL_beacon_force.at 3)).mode ≠ .shadow)
    ∧ ((mget? ((polka 4).plc 3).binds (bits 5 0 12)).map (fun b => b.freed) = some none)
    ∧ ((polka 4).wr (F.PLK_ERR_CFG_retire_thr.at 3) 0).rd (F.PLK_ERR_CFG_retire_thr.at 3) = 0 := by decide +kernel

/-- Record 5 with its link entry and link key, and radio channel 2 of PAN 7 in a mode running with address 5 bound. -/
def mazurka (m : Nat) (b : RadBind := { eui := 0x1234 }) : Dev :=
  let d := keyed { served5 2 with regs := (served5 2).regs }
  let d := ((((d.wr F.PMU_STATUS_mode m).setF (F.MZK_STATUS_running.at 2)).setF (F.MZK_STATUS_transmitting.at 2)).wr
    (F.MZK_CTRL_pan_id.at 2) 7).wr F.MZK_TBL_BASE_LO_base_lo 2
  let d := d.setRad 2 { binds := [(5, b)] }
  let d := { d with pav := { d.pav with cache := [(cacheSet 0 3 0x1234 0,
    [{ entry := 0, ident := 0x1234, purpose := 3, gen := 0, key := zeros 16, handles := [0, 0] }])] } }
  d.idtSet (idtH1 0x1234) 0 (mkIdt 0x1234 5)

/-- A PSDU of PAN 7 to the device, from a short address or, at 0xFFFF, an EUI-64 of 0x77. -/
def rxPsdu (src mtype : Nat) (aux body : List Byte) : MzkRx :=
  let long := src == 0xFFFF
  let fcf := 1 + 8 * b2n (!aux.isEmpty) + 0x40 + 0x800 + 0x2000 + (if long then 0xC000 else 0x8000)
  let b := leBytes 2 fcf ++ leBytes 1 9 ++ leBytes 2 7 ++ leBytes 2 0 ++ (if long then leBytes 8 0x77 else leBytes 2 src) ++ aux
    ++ leBytes 1 (16 + mtype) ++ zeros 1 ++ body
  { bytes := b ++ leBytes 4 (fcs32 b), stamp := 0, rssi := -60 }

/-- A secured one of address 5 at a level, link counter 1, its payload as sealed. -/
def rxSealed (level mtype : Nat) (body : List Byte) : MzkRx := rxPsdu 5 mtype (leBytes 1 (level + 8) ++ leBytes 4 1 ++ zeros 1) body

/-- The header of a received frame. -/
def hdrOf (sched : Bool) (m : MzkRx) : RadHdr := (radHdr sched m.bytes).getD
  { seq := 0, pan := 0, dst := 0, src := none, ext := 0, level := 0, ctr := 0, kidx := 0, mtype := 0, mflags := 0, orig := 0,
    final := 0, pathq := 0, head := [], body := [] }

/-- Whether a frame of a type passes the checks of a running channel of PAN 7. -/
def heardRad (sched : Bool) (mtype : Nat) (m : MzkRx) : Bool :=
  (radHdr sched m.bytes).isSome && (hdrOf sched m).pan == 7 && (hdrOf sched m).mtype == mtype && (hdrOf sched m).dst == 0
    && (hdrOf sched m).final == 0 && fcsOk m.bytes && (hdrOf sched m).formOk

/-- The bind of a provisional meter. -/
def provBind : RadBind := { eui := 0x55, own := some 0, par := some (1000, 400, 0, 3) }

set_option exponentiation.threshold 2100 in
set_option maxRecDepth 200000 in
/-- RadioReceptionCommandsComplete: the hypotheses of the clauses on unsecured frames are met. -/
theorem witness_radioClear :
    ((mazurka 4).mzkRuns 2 = true ∧ (mazurka 4).mzkSched 2 = false ∧ (mazurka 4).mzkPan 2 = 7
      ∧ (radHdr false []).isNone = true ∧ (hdrOf false (rxPsdu 5 1 [] (zeros 16))).pan ≠ (mazurka 4).mzkPan 3)
    ∧ (let m := rxPsdu 5 1 [] (zeros 16)
      heardRad false 1 m = true ∧ ((mazurka 4 provBind).mzkWho 2 (hdrOf false m).orig).map (fun b => b.own) = some (some 0)
      ∧ (hdrOf false m).level = 0 ∧ (parseFrame (hdrOf false m).body).ftype = 0
      ∧ (mazurka 4 provBind).fifoRoom (mzkFq 2) 128 (mkPrefix 0 ((mazurka 4 provBind).mzkAttach 2 5) 0x7FFFFFFF 16 0 0 0 0 ++ zeros 16) = true
      ∧ ((mazurka 4 provBind).mzkHeard 2 (hdrOf false m) 5 (-60)).mzkSched 2 = false)
    ∧ heardRad false 3 (rxPsdu 5 3 [] (leBytes 2 9)) = true
    ∧ (let m := rxPsdu 5 4 [] (leBytes 8 0x77 ++ zeros 2)
      heardRad false 4 m = true ∧ (((((mazurka 4).clrF (F.MZK_CTRL_assoc_open.at 2)).bump (F.MZK_CNT_RX_frames_ok.at 2)).sample 0x0C 2 (uns 64 (-60))).mzkMackOnly 2 (hdrOf false m)).mode ≠ .shadow
      ∧ (((((mazurka 4).clrF (F.MZK_CTRL_assoc_open.at 2)).bump (F.MZK_CNT_RX_frames_ok.at 2)).sample 0x0C 2 (uns 64 (-60))).mzkMackOnly 2 (hdrOf false m)).on (F.MZK_CTRL_assoc_open.at 2) = false)
    ∧ (let m := rxPsdu 0xFFFF 4 [] (leBytes 8 0x77 ++ zeros 2)
      let e := ((((mazurka 4).setF (F.MZK_CTRL_assoc_open.at 2)).bump (F.MZK_CNT_RX_frames_ok.at 2)).sample 0x0C 2 (uns 64 (-60))).mzkMackOnly 2 (hdrOf false m)
      heardRad false 4 m = true ∧ e.radPick 2 0x77 = some 1 ∧ (hdrOf false m).src = none
      ∧ e.pickParent 2 1 (some (rxQuality m)) [] = some (0, rxQuality m, 1)) := by decide +kernel

set_option exponentiation.threshold 2100 in
set_option maxRecDepth 200000 in
/-- RadioReceptionCommandsComplete: the hypotheses of the clauses on secured frames are met. -/
theorem witness_radioSecured :
    (let m := rxSealed 1 1 (heartbeat ++ leBytes 4 147023071)
      let s := (mazurka 4).mzkSecure 2 1 (hdrOf false m) { eui := 0x1234 }
      heardRad false 1 m = true ∧ ((mazurka 4).mzkWho 2 (hdrOf false m).orig).map (fun b => b.own) = some none
      ∧ (((mazurka 4).recOf 0x1234).map (fun i => lnkProv ((mazurka 4).lnkOf i))).getD true = false
      ∧ s.2.map (fun x => x.1) = some heartbeat ∧ s.1.fifoRoom (mzkFq 2) 128 (zeros 32 ++ heartbeat) = true ∧ s.1.mzkSched 2 = false)
    ∧ (let m := rxSealed 5 7 (leBytes 8 17316656353395332411)
      heardRad false 7 m = true ∧ (((mazurka 4).rad 2).bound 5).isSome = true
      ∧ ((mazurka 4).mzkSecure 2 5 (hdrOf false m) { eui := 0x1234 }).2.map (fun x => x.1) = some (leBytes 4 1)
      ∧ ([{ meter := 6, parent := 5, quality := 9, depth := 2, toAck := [(5, [])], all := [], ver := 1 }] : List RadChange).find?
          (fun x => (x.toAck.head?.map (·.1)) == some 5 && x.ver == leAt (leBytes 4 1) 0 2)
        = some { meter := 6, parent := 5, quality := 9, depth := 2, toAck := [(5, [])], all := [], ver := 1 })
    ∧ (let m := rxSealed 1 8 (leBytes 4 671517636)
      heardRad false 8 m = true
      ∧ ((mazurka 4).mzkSecure 2 1 (hdrOf false m) { eui := 0x1234 }).2.map (fun x => x.1) = some [])
    ∧ (let m := rxSealed 5 9 (leBytes 4 2649978503)
      heardRad false 9 m = true
      ∧ ((mazurka 4).mzkSecure 2 5 (hdrOf false m) { eui := 0x1234 }).2.map (fun x => x.1) = some []) := by decide +kernel

set_option exponentiation.threshold 2100 in
set_option maxRecDepth 200000 in
/-- RadioReceptionCommandsComplete: the hypotheses of the clauses on CONN_REQ and beacons are met. -/
theorem witness_radioConn :
    (let d := ((mazurka 4 { provBind with eui := 0x77 }).setF (F.MZK_CTRL_mode.at 2)).setF (F.MZK_CTRL_assoc_open.at 2)
      let m := rxPsdu 0xFFFF 0xB [] (zeros 4)
      let u := ((d.modRad 2 (fun (c : Rad) => { c with accept := true })).bump (F.MZK_CNT_RX_frames_ok.at 2)).sample 0x0C 2 (uns 64 (-60))
      let e := u.modRad 2 (fun (c : Rad) => { c with accept := false })
      (u.rad 2).accept = true ∧
      heardRad true 0xB m = true ∧ d.mzkSched 2 = true ∧ e.mode ≠ .shadow ∧ (hdrOf true m).src = none
      ∧ e.on (F.MZK_CTRL_assoc_open.at 2) = true ∧ e.radPick 2 (hdrOf true m).ext = some 5
      ∧ ((e.rad 2).bound 5).map (e.connPar 2 5) = some (1000, 400, 0, 3) ∧ e.parOk 2 1000 400 3 = true)
    ∧ ((mazurka 4).clrF (F.MZK_CTRL_assoc_open.at 2)).on (F.MZK_CTRL_assoc_open.at 2) = false
    ∧ (mazurka 4).mode ≠ .shadow ∧ (mazurka 7).mode = .shadow ∧ (mazurka 7).mzkRuns 2 = true ∧ ((mazurka 4).rad 2).partner = false := by decide +kernel

/-- The radio channel in a state. -/
def mazurkaWith (c : Rad) : Dev := (mazurka 4).setRad 2 c

/-- A downlink frame for address 5 of radio channel 2, or a broadcast. -/
def radFrame (dest : Nat) : DlFrame :=
  { id := 1, path := 18, attach := 2, index := 5, why := .reply, dtype := 2, dest := dest, group := 0, ackReq := false,
    act := false, payload := zeros 12, body := zeros 32 }

/-- A radio frame in the air after tries and attempts. -/
def flying (tries attempts : Nat) : Dev :=
  mazurkaWith { txq := [{ job := .ctl 6 5 [], final := 5, tries := tries, attempts := attempts }], flying := true }

set_option exponentiation.threshold 2100 in
set_option maxRecDepth 200000 in
/-- RadioChannelEventsComplete: the hypotheses of its first clauses are met. -/
theorem witness_radioEvents :
    ((mazurka 4).mzkSched 2 = false ∧ (mazurka 4).mzkSends 2 = true ∧ (mazurka 4).on (F.MZK_STATUS_dc_hold.at 2) = false)
    ∧ (((flying 2 1).rad 2).flying = true ∧ ((flying 2 1).rad 2).txq.map (fun t => (t.tries, t.attempts)) = [(2, 1)]
      ∧ ((flying 3 3).rad 2).flying = true ∧ ((flying 3 3).rad 2).txq.map (fun t => (t.tries, t.attempts)) = [(3, 3)])
    ∧ ((mazurkaWith { changes := [{ meter := 6, parent := 5, quality := 9, depth := 2, toAck := [], all := [], ver := 1 }] }).rad 2).changes.any
        (fun x => x.meter == 6) = true
    ∧ (((mazurka 4).rad 2).bound 5).isSome = true
    ∧ ((mazurka 4).wr (F.MZK_CELL_cell_silent.at 2) 60).rd (F.MZK_CELL_cell_silent.at 2) ≠ 0
    ∧ (mazurka 4).mzkDutyHit 2 = false
    ∧ ((({ mazurka 4 with bol := { (mazurka 4).bol with outq := [radFrame 2] } } : Dev).dlTake 18 (fun f => f.dest = 2)).2
        = some (radFrame 2))
    ∧ ((({ mazurka 4 with bol := { (mazurka 4).bol with outq := [radFrame 0] } } : Dev).dlTake 18 (fun f => f.dest = 0)).2
        = some (radFrame 0)) := by decide +kernel

/-- A device with 64 GiB and the link table in it, channel 2 to be enabled by a write of MZK_CTRL. -/
def radioOff : Dev := ((inMode 4).wr F.DMC_STATUS_fitted_gib 64).wr F.MZK_TBL_BASE_HI_base_hi 256

/-- Channel 2 after the write. -/
def radioOn : Dev := (radioOff.regWrite32 0xB2000 0x80000000).clrF (F.MZK_CTRL_beacon_force.at 2)

set_option exponentiation.threshold 2100 in
set_option maxRecDepth 200000 in
/-- RadioChannelEventsComplete: the hypotheses of its last clauses are met. -/
theorem witness_radioChannel :
    (radioOff.on (F.MZK_CTRL_enable.at 2) = false ∧ radioOn.on (F.MZK_CTRL_enable.at 2) = true
      ∧ radioOn.inDram radioOn.mzkTbl 0x1000000 = true ∧ 4 ≤ radioOn.mzkPreamble 2 ∧ radioOn.mzkPreamble 2 ≤ 1000
      ∧ radioOn.fixedCh 2 ≤ radioOn.mzkTop 2)
    ∧ (((mazurka 4).setF (F.MZK_STATUS_listening.at 2)).on (F.MZK_STATUS_listening.at 2) = true ∧ (mazurka 4).mode ≠ .shadow
      ∧ (mazurka 4).mzkRuns 2 = true
      ∧ (({ alien := true } : Rad).alien = true) ∧ ((mazurka 4).rad 2).alien = false)
    ∧ (((mazurka 4).setF (F.MZK_CTRL_beacon_force.at 2)).mzkRuns 2 = true
      ∧ ((mazurka 4).setF (F.MZK_CTRL_beacon_force.at 2)).mode ≠ .shadow)
    ∧ ((mazurka 4).wr (F.MZK_ERR_CFG_retire_thr.at 2) 0).rd (F.MZK_ERR_CFG_retire_thr.at 2) = 0 := by decide +kernel

/-- Radio channel 2 in Schedule mode with connection 5. -/
def scheduled (b : RadBind) : Dev := (mazurka 4 b).setF (F.MZK_CTRL_mode.at 2)

set_option exponentiation.threshold 2100 in
set_option maxRecDepth 200000 in
/-- ScheduleModeEventsComplete: each clause's hypotheses are met. -/
theorem witness_schedule :
    ((scheduled provBind).mzkSched 2 = true ∧ (scheduled provBind).mzkSends 2 = true
      ∧ (((scheduled provBind).rad 2).bound 5).isSome = true ∧ (scheduled provBind).connHeld 2 provBind = false
      ∧ ((scheduled provBind).setF (F.MZK_STATUS_dc_hold.at 2)).on (F.MZK_STATUS_dc_hold.at 2) = true
      ∧ ¬ (scheduled provBind).anchorAt 2 5 ((scheduled provBind).connPar 2 5 provBind) 9
        < ((scheduled provBind).rad 2).evEnd + (scheduled provBind).settleNs 2
      ∧ (scheduled provBind).on (F.MZK_STATUS_dc_hold.at 2) = false)
    ∧ ((scheduled provBind).setRad 2 {}).mzkIdle 2 = none
    ∧ (let b : RadBind := { provBind with upd := some { instant := 9, interval := 1000, sup := 400, ofs := 0, map := 3 } }
      b.flight = none ∧ ((scheduled b).rad 2).bound 5 = some b
      ∧ ((scheduled b).modBind 2 5 (fun (b : RadBind) => { b with upd := none, par := some (1000, 400, 0, 3), flight := none })).recOf b.eui
        = none)
    ∧ (((scheduled { provBind with lost := true }).rad 2).bound 5).map (fun b => b.lost) = some true
    ∧ ((scheduled provBind).rad 2).bcast = [] ∧ provBind.flight = none := by decide +kernel

/-- A device in Run under the tick scheme at tick 3,000,000,000, its time 10 years after the DWN epoch at tick 0. -/
def timed : Dev :=
  let d := ((inMode 4).setF F.TSU_STATUS_scheme).wr F.TSU_STATUS_tstate 1
  { d with tick := 3000000000, tsu := { d.tsu with segs := [{ start := 0, base := 1262304000000000000, byTick := true, rate := 0, incr := 0 }] } }

set_option exponentiation.threshold 2100 in
set_option maxRecDepth 200000 in
/-- DeviceTimeCommandsComplete: the hypotheses of the clauses on schemes, rates, steps and sets are met. -/
theorem witness_deviceTime :
    ((timed.flag F.TSU_CTRL_scheme true).schemeWanted = (timed.flag F.TSU_CTRL_scheme true).on F.TSU_STATUS_scheme)
    ∧ (((inMode 4).flag F.TSU_CTRL_scheme true).schemeWanted = true ∧ ((inMode 4).flag F.TSU_CTRL_scheme true).on F.TSU_STATUS_scheme = false
      ∧ (inMode 4).tsu.slew = none)
    ∧ ((timed.wr F.TSU_CTRL_servo 1).rd F.TSU_CTRL_servo = 1 ∧ (timed.wr F.TSU_CTRL_servo 0).rd F.TSU_CTRL_servo ≠ 1 ∧ timed.tsu.slew = none)
    ∧ (let d := timed.wr F.TSU_SET_SEC_LO_sec 946684900
      dwnEpoch ≤ (d.rd F.TSU_SET_SEC_LO_sec * 1000000000 + d.rd F.TSU_SET_NS_ns) / 1000000000
      ∧ (d.rd F.TSU_SET_SEC_LO_sec * 1000000000 + d.rd F.TSU_SET_NS_ns) / 1000000000 < 2 ^ 48) := by decide +kernel

set_option exponentiation.threshold 2100 in
set_option maxRecDepth 200000 in
/-- DeviceTimeCommandsComplete: the hypotheses of the clauses on the slew's end, PPS and the RTC are met. -/
theorem witness_devicePps :
    (let w : Slew := { s := 500, ppb := 1000, start := 0, cmd := none }
     w.cmd = none ∧ w.start + (w.s.natAbs * 1000000000 + w.ppb - 1) / w.ppb ≤ timed.tick)
    ∧ (timed.on F.TSU_CTRL_pps_edge = false ∧ timed.rd F.TSU_STATUS_tstate ≠ 3
      ∧ timed.tick - 2500000000 + timed.rd F.TSU_PPS_pps_tol * 1000 < 1000000000 ∧ timed.tsu.lastCap = none)
    ∧ (timed.tsu.lastValid + 2000000000 ≤ timed.tick)
    ∧ (timed.rd F.TSU_STATUS_tstate ≠ 0 ∧ (timed.setF F.TSU_CTRL_rtc_sync).on F.TSU_CTRL_rtc_sync = true)
    ∧ ((timed.wr F.TSU_CTRL_servo 0).sample 0x0A 0 0).rd F.TSU_CTRL_servo ≠ 1 := by decide +kernel

/-- A device with an armed pulse output that repeats every ms from device time 0. -/
def pulsing : Dev :=
  let d := (((timed.wr (F.TSU_PULSE_WIDTH_width.at 1) 100).wr (F.TSU_PULSE_PER_NS_per_ns.at 1) 1000000).setF (F.TSU_PULSE_CTRL_arm.at 1))
  d.setPulse 1 { next := 5, trail := some 6, leadTick := 0 }

set_option exponentiation.threshold 2100 in
set_option maxRecDepth 200000 in
/-- TimeOutputCommandsComplete: the hypotheses of the clauses on pulses and TE_BUF are met. -/
theorem witness_pulses :
    (timed.wr (F.TSU_PULSE_WIDTH_width.at 1) 9).rd (F.TSU_PULSE_WIDTH_width.at 1) < 10
    ∧ (10 ≤ pulsing.rd (F.TSU_PULSE_WIDTH_width.at 1) ∧ pulsing.rd (F.TSU_PULSE_WIDTH_width.at 1) < pulsing.pulsePeriod 1
      ∧ 1000 ≤ pulsing.pulsePeriod 1 ∧ pulsing.rd (F.TSU_PULSE_PER_NS_per_ns.at 1) < 1000000000)
    ∧ (pulsing.on (F.TSU_PULSE_CTRL_arm.at 1) = true ∧ (pulsing.pulse 1).next ≤ pulsing.devNs ∧ pulsing.pulsePeriod 1 ≠ 0)
    ∧ ((pulsing.pulse 1).trail = some 6 ∧ 6 ≤ pulsing.devNs ∧ (pulsing.pulse 1).leadTick + 10 ≤ pulsing.tick)
    ∧ (wUnusedZero (onRing (64 * 2 ^ 128)).w [(8, 20)] = true ∧ wReservedOk (onRing (64 * 2 ^ 128)).w = true
      ∧ wLen (onRing (64 * 2 ^ 128)).w = 64) := by decide +kernel

/-- A time-event ring, pair 5, with a buffer of 64 B and an event waiting. -/
def eventful : Dev :=
  let d := (paired { bufs := [{ w := BitVec.ofNat 512 (64 * 2 ^ 128) }] }).wr (F.XDI_RP_CFG_type.at 5) 7
  { d with fifos := [(tsuFq1, { items := [zeros 32] })] }

set_option exponentiation.threshold 2100 in
set_option maxRecDepth 200000 in
/-- TimeOutputCommandsComplete: the hypotheses of the clauses on TE_ADJ, delivery and conversion are met. -/
theorem witness_timeRing :
    (wUnusedZero (onRing 0).w [(24, 33), (36, 46)] = true ∧ wReservedOk (onRing 0).w = true ∧ wArg (onRing 0).w 32 1 = 0
      ∧ timed.tsu.slew = none)
    ∧ (wUnusedZero (onRing (2 ^ 256)).w [(24, 33), (36, 46)] = true ∧ wReservedOk (onRing (2 ^ 256)).w = true
      ∧ wArg (onRing (2 ^ 256)).w 32 1 = 1 ∧ timed.on F.TSU_STATUS_scheme = true)
    ∧ (((eventful.enabledOf 7).filter eventful.active).head? = some 5 ∧ eventful.fifoHead tsuFq1 = some (zeros 32)
      ∧ eventful.hostReach = true ∧ eventful.cqFull 5 = false
      ∧ ((eventful.pair 5).bufs.map (fun b => (b.filled, wLen b.w))) = [(0, 64)]) := by decide +kernel

/-- A device in a mode with port 2 running, its link up, MAC filter 0 set for 02:00:00:00:00:01. -/
def ethernet (m : Nat) : Dev :=
  let d := ((inMode m).setF (F.ETH_STATUS_running.at 2)).setF (F.ETH_STATUS_link_up.at 2)
  ((d.setF (F.ETH_AF_HI_enable.at 0)).wr (F.ETH_AF_HI_ports.at 0) 4).wr (F.ETH_AF_LO_addr_lo.at 0) 2

/-- A frame of 60 B without its FCS, from 06:…, of EtherType 0x0800, to an address whose lowest byte is given. -/
def ethRx (dst : Nat) : EthRx :=
  { bytes := padTo 60 (leBytes 6 dst ++ leBytes 6 6 ++ beBytes 2 0x0800), stamp := 0, fcsOk := true }

set_option exponentiation.threshold 2100 in
set_option maxRecDepth 200000 in
/-- EthernetPortCommandsComplete: the hypotheses of the clauses on enabling and reception are met. -/
theorem witness_ethReceive :
    ((inMode 4).on (F.ETH_CTRL_enable.at 2) = false ∧ ((inMode 4).regWrite32 0xD2000 0x80002400).on (F.ETH_CTRL_enable.at 2) = true
      ∧ ((inMode 4).regWrite32 0xD2000 0x80002400).ethCfgOk 2 = true
      ∧ (((inMode 4).regWrite32 0xD2000 0x80002400).commitRwl 0xD2000).on (F.ETH_STATUS_retired.at 2) = false
      ∧ (((inMode 4).regWrite32 0xD2000 0x80002400).commitRwl 0xD2000).mode ≠ .dormant)
    ∧ (ethernet 4).ethRuns 2 = true
    ∧ (64 ≤ (ethRx 2).bytes.length + 4 ∧ (ethRx 2).bytes.length + 4 ≤ (ethernet 4).rd (F.ETH_CTRL_max_frame.at 2)
      ∧ (ethHdr (ethRx 2).bytes).etype ≠ 0x8808 ∧ ((ethernet 4).bump (F.ETH_CNT_RX0_rx_frames.at 2)).secOn 2 = false
      ∧ ((ethernet 4).bump (F.ETH_CNT_RX0_rx_frames.at 2)).ethFilter 2 (ethHdr (ethRx 2).bytes).dst = some 0
      ∧ bit (ethHdr (ethRx 2).bytes).dst 0 = false
      ∧ ((ethernet 4).bump (F.ETH_CNT_RX0_rx_frames.at 2)).ethFilter 2 (ethHdr (ethRx 4).bytes).dst = none) := by decide +kernel

/-- Port 2 with its state beyond the registers. -/
def ethWith (p : EthPort) : Dev := (ethernet 4).setEthP 2 p

set_option exponentiation.threshold 2100 in
set_option maxRecDepth 200000 in
/-- EthernetPortCommandsComplete: the hypotheses of the clauses on PAUSE are met. -/
theorem witness_ethPause :
    (((ethWith { pause := 255 }).ethP 2).pause ≠ 0
      ∧ ((ethernet 4).wr (F.ETH_FLOW2_pause_max.at 2) 9).rd (F.ETH_FLOW2_pause_max.at 2) ≠ 0)
    ∧ ((ethernet 4).setF (F.ETH_CTRL_pause_tx_en.at 2)).on (F.ETH_CTRL_pause_tx_en.at 2) = true
    ∧ (bit ((ethWith { xoff := 2 }).ethP 2).xoff 1 = true
      ∧ ((ethWith { xoff := 2 }).wr (F.ETH_FLOW_xon.at 2) 0).rd (F.ETH_FLOW_xon.at 2) * 4096
        < ({ ethWith { xoff := 2 } with fifos := [(ethFq 2 1, { items := [zeros 64] })] } : Dev).ethLevel 2 1 * 16)
    ∧ ((ethWith { xoff := 2 }).ethLevel 2 1 * 16
        ≤ (ethWith { xoff := 2 }).rd (F.ETH_FLOW_xon.at 2) * (ethWith { xoff := 2 }).ethUnits 2 1
      ∧ (((ethWith { xoff := 2 }).modEthP 2 (fun (x : EthPort) => { x with xoff := setBits x.xoff 1 1 0 })).ethP 2).xoff = 0) := by
  decide +kernel

/-- A device with one transmit slot of queue 0 posted for port 2. -/
def ethPosted : Dev := ((ethernet 4).wr (F.ETH_TXQ_TAIL_tail.at 0) 1).memWrB 0x100000002 [2] |>.setF (F.ETH_TXQ_CFG_enable.at 0)

set_option exponentiation.threshold 2100 in
set_option maxRecDepth 200000 in
/-- EthernetPortCommandsComplete: the hypotheses of the last clauses are met. -/
theorem witness_ethPort :
    (ethPosted.ethFlow.txqDead 2 = none ∧ (ethPosted.ethFlow.ethNext 2).map (fun x => x.2) = some (2, 0)
      ∧ ethPosted.ethFlow.txqHead 0 = some 0x100000000
      ∧ ((ethPosted.clrF (F.ETH_STATUS_link_up.at 2)).ethFlow.txqDead 2).isSome = true)
    ∧ (popcount 8 (bits 0x300 8 8) ≤ 2 ∧ ∀ i ∈ List.range 8, bit (bits 0x300 8 8) i = true →
        (((ethernet 4).wr (F.ETH_CTRL_mode.at 4) 1).wr (F.ETH_CTRL_mode.at 5) 1).rd (F.ETH_CTRL_mode.at (4 + i)) = 1)
    ∧ ((ethernet 0).mode = .dormant ∧ (ethernet 0).on F.PMU_RST_CAUSE_thermal_stop = false
      ∧ (((ethernet 0).wr F.ETH_WAKE_CFG_arm 2).wr F.ETH_WAKE_CFG_link_wake 2 |>.wakeSeen 5 none).2 = true)
    ∧ ((ethernet 4).wr (F.ETH_ERR_CFG_retire_thr.at 2) 0).rd (F.ETH_ERR_CFG_retire_thr.at 2) = 0 := by decide +kernel

/-- Concentrator 3 in use on port 5, and a downlink frame waiting for it. -/
def tunnelled : Dev :=
  let d := ((ethernet 4).clrF F.EPL_CTRL_pair_en).setConc 3 (5 * 2 ^ 192 + 2 ^ 200 + 2 ^ 203)
  { d with bol := { d.bol with outq := [{ plcFrame with path := 31, attach := 4 + 3 * 2 ^ 8, dest := 0 }] } }

set_option exponentiation.threshold 2100 in
set_option maxRecDepth 200000 in
/-- EthernetTunnelCommandsComplete: the hypotheses of the clauses on the tunnel are met. -/
theorem witness_ethTunnel :
    (tunnelled.tunSends = true ∧ ceKnown (tunnelled.conc 3) = true ∧ ceNow (tunnelled.conc 3) = 5 ∧ (tunnelled.ethP 5).grams = []
      ∧ (Dev.gramTake 25 31 8176 [] tunnelled).2 ≠ [] ∧ tunnelled.on F.EPL_CTRL_pair_en = false
      ∧ (Dev.gramTake 25 31 8176 [] tunnelled).1.on F.EPL_CTRL_pair_en = false)
    ∧ (tunnelled.wr F.ETH_TUN_CFG_ka_s 10).rd F.ETH_TUN_CFG_ka_s ≠ 0
    ∧ (ceValid (tunnelled.conc 3) = true ∧ ceUp (tunnelled.conc 3) = true
      ∧ (tunnelled.wr F.ETH_TUN_CFG_conc_silent 10).rd F.ETH_TUN_CFG_conc_silent ≠ 0) := by decide +kernel

/-- A SAK record of key 7 for cipher 0 under the root of the key store. -/
def sakRec : List Byte := padTo 96 (leBytes 2 0x5341 ++ [1, 0] ++ leBytes 4 7 ++ leBytes 8 1 ++ zeros 16 ++ leBytes 24 3454643497475930689089426305630595432194167676319972722804)

/-- The key store with MACsec on port 2 and an SA in slot 1. -/
def secured : Dev := (keyStore.setF (F.ETH_SEC_CTRL_enable.at 2)).modEthP 2 (fun (p : EthPort) =>
  { p with sas := [(1, { an := 0, pn := 1, ssci := 0, salt := [], key := zeros 16 })] })

/-- A MACsec command on port 2: its slot, AN, handle, record and length. -/
def saCmd (slot an h len : Nat) (data : List Byte := []) : Desc := keyCmd h len (2 + slot * 2 ^ 8 + an * 2 ^ 16) data

set_option exponentiation.threshold 2100 in
set_option maxRecDepth 200000 in
/-- EthernetTunnelCommandsComplete: the hypotheses of the clauses on MACsec are met. -/
theorem witness_macsec :
    (let c := saCmd 0 1 0x10001 96 sakRec
     wUnusedZero c.w [(4, 20), (24, 27)] = true ∧ wReservedOk c.w = true ∧ wArg c.w 24 1 = 2 ∧ wArg c.w 25 1 = 0 ∧ wArg c.w 26 1 = 1
      ∧ wLen c.w = 96 ∧ sakRec.length = 96 ∧ secured.secOn 2 = true ∧ secured.rd (F.ETH_SEC_CTRL_cipher.at 2) = byteAt sakRec 3
      ∧ secured.unlocked = true ∧ leAt sakRec 0 2 = 0x5341 ∧ byteAt sakRec 2 = 1 ∧ leAt sakRec 4 4 ≠ 0 ∧ leAt sakRec 72 24 = 0
      ∧ leAt sakRec 16 16 = 0 ∧ leAt sakRec 56 16 = 0 ∧ secured.saActive 2 0 = false
      ∧ (secured.keyOf (wHandle c.w)).map (fun e => (e.bad, e.kind, e.kid)) = some (false, 3, 1)
      ∧ sakOf sakRec (zeros 32) 1 (byteAt sakRec 3 % 2 == 1) = some (zeros 16))
    ∧ (wUnusedZero (saCmd 1 0 0 0).w [(24, 26)] = true ∧ wReservedOk (saCmd 1 0 0 0).w = true ∧ wArg (saCmd 1 0 0 0).w 24 1 = 2
      ∧ wArg (saCmd 1 0 0 0).w 25 1 = 1 ∧ (mget? (secured.ethP 2).sas 1).isSome = true ∧ secured.saActive 2 1 = false) := by
  decide +kernel

/-- A device in Run whose Gavotte is mounted and running, with 1 GiB of each region. -/
def archive : Dev :=
  let d := ((inMode 4).wr F.DMC_STATUS_fitted_gib 64).setF F.GAV_STATUS_running
  { d with gav := { d.gav with formatted := true, anchors := [(0, 0)], recGib := 1, extGib := 1, hostGib := 1, eGib := 9 } }

/-- A Gavotte command: its arguments, length and data. -/
def arcCmd (len args : Nat) (data : List Byte := []) : Desc :=
  { via := .ring 0, w := BitVec.ofNat 512 (0x010000100000 * 2 ^ 64 + len * 2 ^ 128 + args * 2 ^ 192), data := data }

/-- The archive with block 0 of die 0 closed and few blocks free. -/
def aged : Dev :=
  let d := ((archive.setF F.GAV_CTRL_gc_en).wr F.GAV_GC_gc_low 100).wr F.GAV_GC_W_wv 1
  { d with gav := { d.gav with blocks := 4, nseq := 10, blks := [(0, { use := .closed, next := 4, nb := 3 })] } }

/-- A collection of block 0 of die 0 in a phase. -/
def collects (p : GcPhase) : Dev :=
  { aged with gav := { aged.gav with gc := [(0, { src := 0, phase := p, sects := [.sect 1 2] })] } }

set_option exponentiation.threshold 2100 in
set_option maxRecDepth 200000 in
/-- GavotteEventsComplete: the hypotheses of the clauses on enabling and mounting are met. -/
theorem witness_gavMount :
    (let d := (archive.wr F.GAV_AREA_CFG_xring 1).wr F.GAV_AREA_CFG_mapc 1
     let d := (d.wr F.GAV_AREA_BASE_HI_base_hi 0x100).wr F.GAV_AREA_BASE_LO_base_lo 1
     let e := d.regWrite32 0xE0000 0x80000000
     d.on F.GAV_CTRL_enable = false ∧ e.on F.GAV_CTRL_enable = true ∧ 1 ≤ e.rd F.GAV_AREA_CFG_xring ∧ e.rd F.GAV_AREA_CFG_xring ≤ 32
      ∧ 1 ≤ e.rd F.GAV_AREA_CFG_mapc ∧ e.rd F.GAV_AREA_CFG_mapc ≤ 32 ∧ e.inDram (e.extBase - 0x8000000)
        (0x8000000 + (e.rd F.GAV_AREA_CFG_xring + e.rd F.GAV_AREA_CFG_mapc) * 0x4000000) = true)
    ∧ (let e := (archive.wr F.GAV_AREA_CFG_mapc 0).regWrite32 0xE0000 0x80000000
      e.on F.GAV_CTRL_enable = true ∧ e.rd F.GAV_AREA_CFG_mapc = 0)
    ∧ (let d := archive.setF F.GAV_STATUS_mounting
      let e := d.gavGeom
      d.on F.GAV_STATUS_mounting = true ∧ e.gav.deadDies.filter e.dieFit = [] ∧ e.gav.formatted = true
        ∧ e.gav.anchors.any (fun a => e.dieUp a.1) = true ∧ e.gav.sdiscs = [])
    ∧ (let d := { archive with gav := { archive.gav with mounted := some true, sysval := [(3, 8), (4, 9)] } }
      let e := (({ d with gav := { d.gav with mounted := none } }).clrF F.GAV_STATUS_mounting).raise 431
      let x := (e.setF F.GAV_STATUS_running).commitLoad
      e.on F.GAV_STATUS_mount_fail = false ∧ x.gav.sysvalDue 3 = false ∧ mget? x.gav.sysval 3 = some 8
        ∧ (x.epochLoad 8).gav.sysvalDue 4 = false ∧ mget? (x.epochLoad 8).gav.sysval 4 = some 9) := by decide +kernel

set_option exponentiation.threshold 2100 in
set_option maxRecDepth 200000 in
/-- GavotteEventsComplete: the hypotheses of the clauses on programming and the journal are met. -/
theorem witness_gavProgram :
    (archive.gavServing = true ∧ 32 * ((archive.gav.recIssued + 1) / 32) + 31 ≤ (archive.wr F.REEL_STG_PUB_LO_stg_pub 31).pubCount)
    ∧ (let d := { archive with gav := { archive.gav with jpend := [.seg 3] } }
      let n := (d.sectorTake 5).map (fun x => x.2)
      let e := ((d.sectorTake 5).map (fun x => x.1)).getD d
      d.on F.GAV_STATUS_running = true ∧ d.gav.jpend.isEmpty = false ∧ n.isSome = true
        ∧ ((d.gav.jpend.take 256).foldl Gav.durable { e.gav with jBlks := [0] }).jSects + 1 < 65536) := by decide +kernel

set_option exponentiation.threshold 2100 in
set_option maxRecDepth 200000 in
/-- GavotteEventsComplete: the hypotheses of the clauses on collection and erases are met. -/
theorem witness_gavCollect :
    (aged.gavServing = true ∧ aged.dieUp 0 = true ∧ mget? aged.gav.gc 0 = none ∧ aged.gav.discards = [] ∧ aged.gav.doomed = []
      ∧ aged.gav.gcNow = [] ∧ aged.on F.GAV_CTRL_gc_en = true ∧ aged.gav.freeCount 0 ≤ aged.rd F.GAV_GC_gc_low ∧ aged.mode ≠ .storm
      ∧ aged.gcBest 0 = some 0)
    ∧ ((mget? (collects .copy).gav.gc 0).map (·.phase) = some .copy)
    ∧ ((collects .journal).hold = false ∧ (collects .journal).gav.doomed.contains 0 = false
      ∧ [JEnt.sect 1 2].any (collects .journal).gav.jpend.contains = false)
    ∧ (2 * (collects .erase).gav.erasesOf 0 < 3 * (collects .erase).peRated) := by decide +kernel

set_option exponentiation.threshold 2100 in
set_option maxRecDepth 200000 in
/-- ArchiveCommandsComplete: the hypotheses of the clauses on archive and host-region commands are met. -/
theorem witness_archive :
    (archive.on F.GAV_STATUS_unformatted = false ∧ archive.gavServing = true ∧ archive.on F.GAV_STATUS_host_ro = false)
    ∧ (let c := arcCmd 256 (1 + 2 * 2 ^ 64)
      wUnusedZero c.w [(8, 20), (24, 36)] = true ∧ wReservedOk c.w = true ∧ wArg c.w 24 8 = 1 ∧ wArg c.w 32 4 = 2
        ∧ wLen c.w = 128 * 2 ∧ archive.rd F.GAV_OLDEST_LO_oldest ≤ 1)
    ∧ (let c := arcCmd 4096 (2 ^ 64) (zeros 4096)
      wUnusedZero c.w [(8, 20), (24, 36)] = true ∧ wReservedOk c.w = true ∧ wLen c.w = 4096 * 1 ∧ wArg c.w 32 4 = 1
        ∧ archive.hostRangeOk c = true ∧ c.data.length = 4096)
    ∧ (let c : Desc := { via := .ring 0, w := BitVec.ofNat 512 (2 ^ 256), data := [] }
      wUnusedZero c.w [(24, 36)] = true ∧ wReservedOk c.w = true ∧ archive.hostRangeOk c = true)
    ∧ (wUnusedZero (0 : BitVec 512) [] = true ∧ wReservedOk (0 : BitVec 512) = true) := by decide +kernel

set_option exponentiation.threshold 2100 in
set_option maxRecDepth 200000 in
/-- ArchiveCommandsComplete: the hypotheses of the clauses on format, sequence discard, collection and lost marks are met. -/
theorem witness_gavCommands :
    (let c : Desc := { via := .ring 0, w := BitVec.ofNat 512 ((0x464D9640 + 2 ^ 32 + 2 ^ 64 + 2 ^ 96) * 2 ^ 192), data := [] }
     wUnusedZero c.w [(24, 40)] = true ∧ wReservedOk c.w = true ∧ wArg c.w 28 4 = 1 ∧ wArg c.w 32 4 = 1 ∧ wArg c.w 36 4 = 1
      ∧ wArg c.w 24 4 = 0x464D9640 ∧ archive.on F.REEL_CTRL_enable = false ∧ 1 + 1 + 1 + 1 ≤ archive.capacityE)
    ∧ (let c : Desc := { via := .ring 0, w := BitVec.ofNat 512 ((1 + 2 * 2 ^ 64) * 2 ^ 192), data := [] }
      wUnusedZero c.w [(24, 40)] = true ∧ wReservedOk c.w = true ∧ archive.rd F.GAV_OLDEST_LO_oldest ≤ wArg c.w 24 8
        ∧ wArg c.w 24 8 ≤ wArg c.w 32 8)
    ∧ (let c : Desc := { via := .ring 0, w := BitVec.ofNat 512 (2 ^ 256), data := [] }
      wArg c.w 24 8 + wArg c.w 32 4 ≤ archive.gav.hostFirst + archive.gav.hostSectors) := by decide +kernel

/-- A device in Run with its link up and the pair formed, in a role. -/
def linked (role : Nat) : Dev :=
  let d := ((inMode 4).setF F.EPL_STATUS_link_up).wr F.EPL_STATUS_role role
  { d with epl := { d.epl with lanes := true, formed := true, rxLast := some 4 } }

/-- A message of the partner, the next in order, at term 0. -/
def heardMsg (p : List Byte) : EplRx := { mflags := 0, txSeq := 5, ackSeq := 0, term := 0, crcOk := true, payload := p }

set_option exponentiation.threshold 2100 in
set_option maxRecDepth 200000 in
/-- PairLinkEventsComplete: the hypotheses of the clauses on the link and HELLO are met. -/
theorem witness_pairLink :
    ((inMode 4).epl.lanes = false ∧ (inMode 4).domOn .epl = true ∧ (inMode 4).epl.downAt = none)
    ∧ ((linked 1).epl.lanes = true ∧ (linked 1).domOn .epl = true)
    ∧ (let d (n : Nat) := { linked 1 with epl := { (linked 1).epl with unacked := [(1, { mtype := 1, mflags := 0, payload := [] })], sends := n } }
      (d 6).on F.EPL_STATUS_link_up = true ∧ (d 6).epl.unacked.isEmpty = false ∧ (d 6).epl.sends < 7 ∧ 7 ≤ (d 7).epl.sends)
    ∧ (let d := { inMode 4 with epl := { (inMode 4).epl with lanes := true } }
      d.epl.lanes = true ∧ d.domOn .epl = true ∧ d.on F.EPL_STATUS_link_up = false)
    ∧ (let d := (linked 1).setF F.EPL_PARTNER_valid
      let m := heardMsg (zeros 64)
      d.on F.EPL_PARTNER_valid = true ∧ m.crcOk = true ∧ d.eplInOrder m = true ∧ leAt m.payload 8 8 = d.epl.partnerSession
        ∧ m.txSeq ≠ 0#32) := by decide +kernel

set_option exponentiation.threshold 2100 in
set_option maxRecDepth 200000 in
/-- PairLinkEventsComplete: the hypotheses of the clauses on leases, the token and roles are met. -/
theorem witness_pairToken :
    (let d := (linked 1).setF F.EPL_STATUS_token
     let h := Dev.eplHeard { d with epl := { d.epl with leases := [(3, 100)] } } (heardMsg (leBytes 4 3))
     let e := h.sample 0x0F 0 0
     d.on F.EPL_STATUS_token = true ∧ d.eplApart = false ∧ d.on F.EPL_PARTNER_retired = false
      ∧ mget? h.epl.leases (leAt (leBytes 4 3) 0 4) = some 100 ∧ e.on F.EPL_STATUS_token = true)
    ∧ (let d := { linked 1 with epl := { (linked 1).epl with expiry := some 9, swap := some (3, none) } }
      d.epl.expiry.isSome = true ∧ d.on F.EPL_STATUS_witness_held = false ∧ d.epl.swap.isSome = true ∧ d.rd F.EPL_STATUS_role = 1)
    ∧ (let d := { linked 2 with epl := { (linked 2).epl with view := some 9 } }
      d.eplApart = false ∧ d.on F.EPL_STATUS_token = false ∧ d.rd F.EPL_STATUS_role = 2 ∧ d.epl.view.isSome = true)
    ∧ (let d := (inMode 4).setF F.EPL_CTRL_pair_en
      d.eplApart = true ∧ d.on F.EPL_CTRL_pair_en = true ∧ d.rd F.EPL_STATUS_role ≠ 3)
    ∧ ((linked 1).setF F.EPL_STATUS_witness_held).on F.EPL_STATUS_witness_held = true := by decide +kernel

/-- A digest entry: an identity of 16 bytes and 8 bytes of digest. -/
def dgEntry : List Byte := leBytes 16 77 ++ leBytes 8 5

set_option exponentiation.threshold 2100 in
set_option maxRecDepth 200000 in
/-- PairMirrorMessagesComplete: the hypotheses of the clauses on digests and mismatch rounds are met. -/
theorem witness_pairDigest :
    (let m := heardMsg (leBytes 8 1 ++ leBytes 2 0 ++ leBytes 2 1 ++ leBytes 4 1 ++ zeros 4)
     let e := (linked 1).eplHeard m
     (linked 1).epl.lanes = true ∧ (linked 1).domOn .epl = true ∧ m.crcOk = true ∧ (linked 1).eplInOrder m = true ∧ e.compares = true
      ∧ leAt m.payload 12 4 ≠ 0 ∧ byteAt m.payload 0 ≠ 0)
    ∧ (let d := { linked 1 with epl := { (linked 1).epl with batch := [dgEntry] } }
      (d.epl.batch.take 4096).isEmpty = false ∧ Dev.compares { d with epl := { d.epl with batch := [], batchNo := 1 } } = true)
    ∧ (let d := { linked 1 with epl := { (linked 1).epl with due := [(3, 0, [dgEntry])], cmp := [(0, dgEntry)] } }
      d.epl.due = (3, 0, [dgEntry]) :: [] ∧ d.epl.resync = none ∧ d.compares = true
        ∧ [dgEntry].filter (fun e => ((d.epl.cmp.find? (fun x => dgIdent x.2 == dgIdent e)).map (·.2)).any (fun x => x != e)) = [])
    ∧ (({ linked 1 with epl := { (linked 1).epl with round := some { batch := 3 } } }).epl.round = some { batch := 3 }) := by
  decide +kernel

set_option exponentiation.threshold 2100 in
set_option maxRecDepth 200000 in
/-- PairMirrorMessagesComplete: the hypotheses of the clauses on mirrored state and resynchronisation are met. -/
theorem witness_pairMirror :
    (let e := (linked 2).eplHeard (heardMsg (zeros 8))
     e.follows = true ∧ byteAt (zeros 8) 4 = 0 ∧ byteAt (leBytes 8 (2 ^ 32)) 4 = 1)
    ∧ (let d := { linked 2 with epl := { (linked 2).epl with held := [(0, zeros 8)] } }
      d.epl.held = (0, zeros 8) :: [])
    ∧ (let k : KeyEnt := { handle := 1, parent := 0, kid := 9, gen := 1, kind := 4, slot := 1, key := [], shadow := some 3 }
      let d := (linked 2).setF F.EPL_CTRL_key_follow
      let d := { d with pav := { d.pav with ram := [(1, k)] } }
      let m := heardMsg ([0, 4] ++ leBytes 2 2 ++ leBytes 4 9)
      let e := d.eplHeard m
      e.follows = true ∧ e.on F.EPL_CTRL_key_follow = true ∧ byteAt m.payload 0 = 0
        ∧ e.keyByKid (byteAt m.payload 1) (leAt m.payload 4 4) = some k ∧ (k.gen + 1) % 65536 = leAt m.payload 2 2)
    ∧ bit (heardMsg []).mflags.toNat 0 = false
    ∧ (let m := heardMsg (itemBytes { id := 7, iver := 1, iflags := 0, data := [1, 2] })
      (itemOf m.payload).isSome = true ∧ ((linked 2).eplHeard m).follows = true)
    ∧ (leAt (zeros 16) 4 4 + ((zeros 16).length - 8) ≤ 0x53000000 ∧ byteAt (zeros 16) 0 ≠ 1)
    ∧ ((linked 1).eplHeard (heardMsg (zeros 8))).mirrors = true
    ∧ (let d := { linked 2 with epl := { (linked 2).epl with resync := some { mode := 0, cmd := none } } }
      let e := d.eplHeard (heardMsg (leBytes 8 1))
      e.follows = true ∧ e.epl.resync = some { mode := 0, cmd := none } ∧ byteAt (leBytes 8 1) 0 = 1)
    ∧ ((linked 1).wr F.EPL_MIRROR_ksum_s 10).rd F.EPL_MIRROR_ksum_s ≠ 0 ∧ (linked 1).eplApart = false
    ∧ (linked 1).on F.EPL_STATUS_partner_retired = false := by decide +kernel

/-- A command of a ring: its arguments. -/
def pairCmd (len args : Nat) : Desc :=
  { via := .ring 0, w := BitVec.ofNat 512 (0x010000100000 * 2 ^ 64 + len * 2 ^ 128 + args * 2 ^ 192), data := [] }

set_option exponentiation.threshold 2100 in
set_option maxRecDepth 200000 in
/-- PairCommandsComplete: the hypotheses of the clauses on window messages and commands are met. -/
theorem witness_pairCommands :
    (let m := heardMsg (zeros 16)
     let d := { linked 1 with epl := { (linked 1).epl with reads := [{ tag := 0, master := 1, addr := 2, size := 4 }] } }
     d.eplInOrder m = true ∧ (d.eplHeard m).epl.reads.find? (fun w => w.tag == leAt m.payload 0 4)
      = some { tag := 0, master := 1, addr := 2, size := 4 })
    ∧ (wUnusedZero (0 : BitVec 512) [] = true ∧ wReservedOk (0 : BitVec 512) = true)
    ∧ (let d := { linked 1 with epl := { (linked 1).epl with ready := true } }
      let c : Desc := { via := .ring 0, w := BitVec.ofNat 512 (50 * 2 ^ 192), data := [] }
      wUnusedZero c.w [(24, 28)] = true ∧ wReservedOk c.w = true ∧ d.rd F.EPL_STATUS_role = 1 ∧ d.eplApart = false
        ∧ d.epl.swap = none ∧ d.epl.ready = true)
    ∧ (let c : Desc := { via := .ring 0, w := BitVec.ofNat 512 ((3 + 1000 * 2 ^ 32) * 2 ^ 192), data := [] }
      wUnusedZero c.w [(24, 32)] = true ∧ wReservedOk c.w = true ∧ 0 < wArg c.w 28 4 ∧ wArg c.w 28 4 ≤ 60000
        ∧ (linked 1).rd F.EPL_STATUS_role < 2 ∧ (linked 1).rd F.EPL_TOKEN_term < wArg c.w 24 4)
    ∧ (let c : Desc := { via := .ring 0, w := BitVec.ofNat 512 (2 ^ 192), data := [] }
      wUnusedZero c.w [(24, 25)] = true ∧ wReservedOk c.w = true ∧ wArg c.w 24 1 ≤ 1 ∧ (linked 2).rd F.EPL_STATUS_role = 2
        ∧ (linked 2).eplApart = false ∧ (linked 2).epl.resync = none)
    ∧ (wUnusedZero (pairCmd 48 0).w [(8, 20)] = true ∧ wReservedOk (pairCmd 48 0).w = true ∧ wLen (pairCmd 48 0).w % 24 = 0)
    ∧ (let d := (inMode 4).setF F.VAL_STATUS_unit_conflict
      d.mode ≠ .boot ∧ d.mode ≠ .recovery ∧ d.on F.VAL_STATUS_unit_conflict = true) := by decide +kernel

/-- A start that finds every slot sound. -/
def soundBoot : BootSeen :=
  { slotFails := 0, repaired := false, keycKat := true, laneFails := 0, unreadable := false, dramGib := 64, coreFails := 0 }

/-- A device in Run with a staging session of 4 KiB open, and its slot verified. -/
def staging : Dev :=
  let d := (((inMode 4).setF F.UPD_SESSION_open).wr F.UPD_SESSION_id 3).wr F.DMC_STATUS_fitted_gib 64
  { d with upd := { d.upd with length := 4096, got := [0], verified := true } }

/-- A command in the session: its length, arguments and data. -/
def stageCmd (len args : Nat) (data : List Byte := []) : Desc := keyCmd 3 len args data

/-- A device running a provisional image of slot 1. -/
def provisionalDev : Dev :=
  let d := (inMode 4).setF F.UPD_STATUS_provisional
  { d with upd := { d.upd with recs := [(0, { seq := 2, next := 1, activeVer := 0x01000000 })] } }

set_option exponentiation.threshold 2100 in
set_option maxRecDepth 200000 in
/-- UpdateAndBootCommandsComplete: the hypotheses of the clauses on starts are met. -/
theorem witness_boot :
    (let d := inMode 1
     let e := { d with upd := { d.upd with booted := true }, pmu := { d.pmu with qspiDtr := true } }
     d.mode = .boot ∧ d.upd.booted = false ∧ (e.slotChoice soundBoot).2 = (some (0, false), 0)
      ∧ (e.slotChoice { soundBoot with slotFails := 3 }).2 = (none, 6) ∧ e.mode = .boot ∧ e.upd.booted = true
      ∧ e.recoveryCause = none) := by decide +kernel

set_option exponentiation.threshold 2100 in
set_option maxRecDepth 200000 in
/-- UpdateAndBootCommandsComplete: the hypotheses of the clauses on staging sessions are met. -/
theorem witness_staging :
    (let d := inMode 4
     let c : Desc := { via := .ring 0, w := BitVec.ofNat 512 (4096 * 2 ^ 192), data := [] }
     wUnusedZero c.w [(24, 36)] = true ∧ wReservedOk c.w = true ∧ d.on F.UPD_SESSION_open = false ∧ d.provisional = false ∧ d.activating = false
      ∧ wArg c.w 24 4 ≤ bundleMax)
    ∧ (let c := stageCmd 4096 0 (zeros 4096)
      wUnusedZero c.w [(4, 20), (24, 28)] = true ∧ wReservedOk c.w = true ∧ staging.on F.UPD_SESSION_open = true
        ∧ descMaster c = staging.rd F.UPD_SESSION_master ∧ descSource c = staging.rd F.UPD_SESSION_source
        ∧ wHandle c.w = staging.rd F.UPD_SESSION_id ∧ wLen c.w = 4096 ∧ wArg c.w 24 4 + 4096 ≤ staging.updRenew.upd.length
        ∧ c.data.length = wLen c.w)
    ∧ (let c : Desc := { via := .ring 0, w := BitVec.ofNat 512 (3 * 2 ^ 32), data := [] }
      let e := staging.updRenew
      wUnusedZero c.w [(4, 8)] = true ∧ wReservedOk c.w = true ∧ descMaster c = staging.rd F.UPD_SESSION_master
        ∧ descSource c = staging.rd F.UPD_SESSION_source ∧ wHandle c.w = staging.rd F.UPD_SESSION_id ∧ e.upd.ops = []
        ∧ e.upd.got.length * 4096 = e.upd.length ∧ e.upd.length ≠ 0 ∧ e.mode ≠ .storm ∧ e.upd.verified = true)
    ∧ (let c : Desc := { via := .ring 0, w := BitVec.ofNat 512 (3 * 2 ^ 32 + (10 + 2 ^ 32) * 2 ^ 192), data := [] }
      wUnusedZero c.w [(4, 8), (24, 29)] = true ∧ wReservedOk c.w = true ∧ wHandle c.w = 3 ∧ wArg c.w 24 4 ≠ 0
        ∧ wArg c.w 28 1 ≤ 1) := by decide +kernel

set_option exponentiation.threshold 2100 in
set_option maxRecDepth 200000 in
/-- UpdateAndBootCommandsComplete: the hypotheses of the clauses on provisional images, settings and programs are met. -/
theorem witness_provisional :
    (provisionalDev.romServes = false ∧ provisionalDev.on F.UPD_STATUS_provisional = true
      ∧ provisionalDev.provisional = true ∧ provisionalDev.upd.hold = false
      ∧ (provisionalDev.wr F.UPD_CTRL_accept_s 60).rd F.UPD_CTRL_accept_s ≠ 0 ∧ provisionalDev.mode.serving = true)
    ∧ (({ provisionalDev with upd := { provisionalDev.upd with hold := true } }).upd.hold = true)
    ∧ (let c := keyCmd 0 4 (7 + 1 * 2 ^ 16) [1, 2, 3, 4]
      wUnusedZero c.w [(8, 20), (24, 28)] = true ∧ wReservedOk c.w = true ∧ itemIdOk (wArg c.w 24 2) = true
        ∧ wArg c.w 27 1 ≤ 1 ∧ wLen c.w ≤ 16384 ∧ c.data.length = wLen c.w
        ∧ 32 + ((provisionalDev.setCopy.put { id := 7, iver := 1, iflags := 0, data := c.data }).items.map (fun i =>
          (itemBytes i).length)).sum ≤ 0x100000)
    ∧ (let c := keyCmd 0 4 7
      wUnusedZero c.w [(8, 20), (24, 26)] = true ∧ wReservedOk c.w = true)
    ∧ (let d := { inMode 4 with upd := { (inMode 4).upd with restart := some false, leaseAt := some 4, ops := [.record {} .none none] } }
      d.upd.restart = some false ∧ Dev.mode { d with upd := { d.upd with restart := none } } ≠ .storm ∧ d.upd.leaseAt = some 4
        ∧ d.upd.ops = .record {} .none none :: []) := by decide +kernel

set_option exponentiation.threshold 2100 in
set_option maxRecDepth 200000 in
/-- ResetAndModeCommandsComplete: the hypotheses of the clauses on resets and modes are met. -/
theorem witness_resets :
    (let d := { (inMode 4).setF F.PMU_WDT_enable with pmu := { (inMode 4).pmu with half := true } }
     d.wdtRuns = true ∧ d.pmu.half = true)
    ∧ (bit (((inMode 4).wr F.PMU_DOM_rst (2 ^ 6)).rd F.PMU_DOM_rst) 6 = true)
    ∧ domOf 6 = some .wlz
    ∧ (wUnusedZero (onRing 0 []).w [(24, 25)] = true ∧ wReservedOk (onRing 0 []).w = true ∧ wArg (onRing 0 []).w 24 1 = 0
      ∧ wArg (onRing (1 * 2 ^ 192) []).w 24 1 = 1 ∧ wArg (onRing (2 * 2 ^ 192) []).w 24 1 = 2
      ∧ wArg (onRing (3 * 2 ^ 192) []).w 24 1 = 3 ∧ wArg (onRing (4 * 2 ^ 192) []).w 24 1 = 4 ∧ (inMode 4).mode = .run)
    ∧ (wUnusedZero (onRing 0 []).w [(24, 26)] = true ∧ wArg (onRing 0 []).w 25 1 = 0)
    ∧ (let c := onRing ((1 + 6 * 2 ^ 8) * 2 ^ 192) []
      wUnusedZero c.w [(24, 26)] = true ∧ wReservedOk c.w = true ∧ wArg c.w 24 1 = 1 ∧ wArg c.w 25 1 = 6) := by decide +kernel

set_option exponentiation.threshold 2100 in
set_option maxRecDepth 200000 in
/-- ResetAndModeCommandsComplete: the hypotheses of the clauses on resources and modes are met. -/
theorem witness_resources :
    (let c (op kind idx : Nat) := onRing ((op + kind * 2 ^ 8 + idx * 2 ^ 32) * 2 ^ 192) []
     wUnusedZero (c 0 1 2).w [(24, 26), (28, 32)] = true ∧ wReservedOk (c 0 1 2).w = true ∧ wArg (c 0 1 2).w 24 1 = 0
      ∧ wArg (c 0 1 2).w 25 1 = 1 ∧ wArg (c 0 1 2).w 28 4 = 2 ∧ resOk 1 2 = true
      ∧ wArg (c 0 0 3).w 25 1 = 0 ∧ resOk 0 3 = true ∧ (inMode 4).rd F.REEL_LANES_retired + 2 ^ 3 ≠ 65535
      ∧ wArg (c 0 6 3).w 25 1 = 6 ∧ resOk 6 3 = true ∧ (inMode 4).rd F.PMU_CORE_retired + 2 ^ 3 ≠ 255
      ∧ wArg (c 1 6 3).w 24 1 = 1 ∧ ((inMode 4).wr F.PMU_CORE_retired 8).resRetired 6 3 = true ∧ wArg (c 2 6 3).w 24 1 = 2)
    ∧ (let d := (inMode 4).setF F.PMU_CTRL_base
      d.mode.serving = true ∧ d.modeTarget ≠ d.mode ∧ ((inMode 4).regWrite32 0x10000 0).mode.serving = true) := by decide +kernel

set_option exponentiation.threshold 2100 in
set_option maxRecDepth 200000 in
/-- PowerSupervisionComplete: the hypotheses of the clauses are met. -/
theorem witness_supervision :
    ((inMode 4).on F.XDI_STATUS_host_present = false ∧ (inMode 4).on F.ETH_COMMON_backhaul_present = false
      ∧ (((inMode 4).setF F.XDI_STATUS_host_present).on F.XDI_STATUS_host_present
        || ((inMode 4).setF F.XDI_STATUS_host_present).on F.ETH_COMMON_backhaul_present) = true)
    ∧ ((inMode 5).mode = .storm ∧ (inMode 5).on F.PMU_STATUS_throttled = false
      ∧ ((inMode 5).setF F.PMU_STATUS_throttled).mode = .storm ∧ ((inMode 5).setF F.PMU_STATUS_throttled).on F.PMU_STATUS_throttled = true)
    ∧ (sgn 8 ((inMode 4).rd F.PMU_TEMP_tj) ≤ ((inMode 4).rd F.PMU_THERM_throttle_c : Int) - 5)
    ∧ ((inMode 4).mode ≠ .dormant ∧ ((inMode 0).setF F.PMU_RST_CAUSE_thermal_stop).mode = .dormant
      ∧ ((inMode 0).setF F.PMU_RST_CAUSE_thermal_stop).on F.PMU_RST_CAUSE_thermal_stop = true)
    ∧ (((inMode 4).wr F.PMU_SUPPLY_vcore_mv 700).on F.PMU_STATUS_core_warn = false
      ∧ (((inMode 4).setF F.PMU_STATUS_core_warn).wr F.PMU_SUPPLY_vcore_mv 720).on F.PMU_STATUS_core_warn = true)
    ∧ ((inMode 4).on F.PMU_STATUS_pwr_warn = false ∧ ((inMode 4).setF F.PMU_STATUS_pwr_warn).on F.PMU_STATUS_pwr_warn = true)
    ∧ ((inMode 4).on F.PMU_WDT_enable = false ∧ ((inMode 4).regWrite32 0x10024 0x80000000).on F.PMU_WDT_enable = true)
    ∧ (BitVec.toNat (0xD06E#32) % 65536 = 0xD06E)
    ∧ (((inMode 4).setF F.PMU_WDT_enable).wdtRuns = true ∧ ((inMode 4).setF F.PMU_WDT_enable).pmu.half = false)
    ∧ (((inMode 0).setF F.PMU_WAKE_rtc_en).on F.PMU_WAKE_rtc_en = true ∧ ((inMode 0).setF F.PMU_WAKE_rtc_en).mode = .dormant
      ∧ ((inMode 0).setF F.PMU_WAKE_rtc_en).on F.PMU_RST_CAUSE_thermal_stop = false)
    ∧ (let d := (inMode 0).setF F.PMU_WAKE_perst_en
      let e := { d with xdi := { d.xdi with perst := false } }
      d.mode = .dormant ∧ e.on F.PMU_WAKE_perst_en = true ∧ e.mode = .dormant ∧ e.on F.PMU_RST_CAUSE_thermal_stop = false)
    ∧ (bit ((inMode 4).rd F.PMU_CORE_retired) 3 = false ∧ (inMode 4).pmu.vbat = true ∧ (inMode 4).pmu.vaon = true) := by decide +kernel

/-- A device in Run with 64 GiB of DRAM, the recorder's area at its start, recording, and a sample waiting. -/
def recording : Dev :=
  let d := ((inMode 4).wr F.DMC_STATUS_fitted_gib 64).setF F.SRB_STATUS_running
  ((d.sample 1 2 3).wr F.SRB_CTRL_snap_s 60).setF (F.SRB_HIST_CFG_enable.at 0)

set_option exponentiation.threshold 2100 in
set_option maxRecDepth 200000 in
/-- RecorderAndLogCommandsComplete: the hypotheses of the clauses on the recorder are met. -/
theorem witness_recorder :
    (let d := ((inMode 4).wr F.DMC_STATUS_fitted_gib 64).wr F.SRB_AREA_BASE_HI_base_hi 0x100
     d.on F.SRB_STATUS_running = false ∧ d.inDram d.srbArea (0x10000 + 64 * d.srbUnits) = true)
    ∧ (recording.on F.SRB_STATUS_running = true ∧ (recording.fifoHead srbFq).isSome = true)
    ∧ (let e := recording.sample 1 2 3
      e.on F.SRB_STATUS_running = true ∧ (e.fifoHead srbFq).isSome = true)
    ∧ (recording.rd F.SRB_CTRL_snap_s ≠ 0 ∧ 120 % recording.rd F.SRB_CTRL_snap_s = 0)
    ∧ (recording.srbRequest true).srb.capture.isEmpty = false := by decide +kernel

set_option exponentiation.threshold 2100 in
set_option maxRecDepth 200000 in
/-- RecorderAndLogCommandsComplete: the hypotheses of the clauses on copies and the drain timeout are met. -/
theorem witness_recorderCopy :
    (let d := ((inMode 4).wr F.DMC_STATUS_fitted_gib 64).wr F.SRB_AREA_BASE_HI_base_hi 0x100
     let r := srbSealed (d.histRecord 0 false)
     let d := { d.memWrB (d.srbUnitAddr 0) r with srb := { d.srb with held := [(0, 0, 5)] } }
     let c := onRing (320 * 2 ^ 128 + (5 * 2 ^ 64) * 2 ^ 192) []
     wUnusedZero c.w [(8, 20), (24, 37)] = true ∧ wReservedOk c.w = true ∧ wArg c.w 32 4 = 5 ∧ wArg c.w 36 1 < 2
      ∧ wLen c.w % 64 = 0 ∧ 5 ≤ wLen c.w / 64 ∧ d.srbTake d.srb.held 5 ≠ [])
    ∧ (let d := ((paired { bufs := [{ w := 0, records := 1, filled := 32, firstTick := 0 }] }).wr (F.XDI_RP_CFG_type.at 5) 6)
      let d := { d with tick := 2000000000000 }
      d.logRing = some 5 ∧ (d.pair 5).bufs = { w := 0, records := 1, filled := 32, firstTick := 0 } :: []
        ∧ 0 + zeroAs (d.rd F.LOG_CTRL_drain_to) 1 * msNs ≤ d.tick) := by decide +kernel

/-- A record of firmware in the hall's memory. -/
def fwRecord : List Byte := leBytes 12 0 ++ [0x40, 0x80, 1, 0] ++ leBytes 12 5 ++ leBytes 4 (crc32c 0xFFFFFFFF (leBytes 12 0 ++ [0x40, 0x80, 1, 0] ++ leBytes 12 5) % 2 ^ 24)

set_option exponentiation.threshold 2100 in
set_option maxRecDepth 200000 in
/-- RecorderAndLogCommandsComplete: the hypotheses of the clauses on the log are met. -/
theorem witness_log :
    (let b := ((inMode 4).memWrB (hallBase + 32) fwRecord).mem.readBytes (hallBase + 1 * 32) 32
     inHall (hallBase + 1 * 32) 32 = true ∧ leAt b 28 3 = crc32c 0xFFFFFFFF (b.take 28) % 2 ^ 24 ∧ 0x80 ≤ byteAt b 13
      ∧ byteAt b 13 ≤ 0xEF ∧ bit (byteAt b 14) 0 = true)
    ∧ (let w := (onRing (32 * 2 ^ 128) []).w
      wUnusedZero w [(8, 20)] = true ∧ wReservedOk w = true ∧ wLen w % 32 = 0 ∧ 32 ≤ wLen w ∧ wLen w ≤ 0x100000)
    ∧ ((inMode 4).trouble 1 2 3 0).log.offered.length = 1
    ∧ (let e := (inMode 4).logAdmit { tick := 0, src := 0, sev := 0, code := 0xF2, p0 := 1, p1 := 2, p2 := 3 }
      wUnusedZero (onRing 0 []).w [(24, 36)] = true ∧ wReservedOk (onRing 0 []).w = true
        ∧ e.rd F.LOG_TAIL_tail ≠ (inMode 4).rd F.LOG_TAIL_tail)
    ∧ ((inMode 4).on F.LOG_STATUS_drain_ring = false ∧ serSub 32 1 ((inMode 4).rd F.LOG_HEAD_head) ≤ (inMode 4).logLevel)
    ∧ (let b : LogBucket := { supp := 1 }
      let d := { inMode 4 with tick := 2000000000, log := { (inMode 4).log with buckets := [(7, b)] } }
      mgetD d.log.buckets 7 {} = b ∧ b.supp ≠ 0 ∧ b.lastTick + sNs ≤ d.tick) := by decide +kernel

/-- Every frame's command answers a next state on this one. -/
def frameState : State := st (inMode 4)

/-- The machine's own steps and invariants have something to say: a step from reset, and one with a command waiting. -/
theorem witness_machine :
    (State.reset.dev.canon = true ∧ State.reset.dev.sys.posted = [] ∧ State.reset.dev.rd F.PAV_TMP_STAT_live = 0 ∧ ∃ t, step State.reset = .next t)
    ∧ (frameState.dev.canon = true ∧ ∃ t, step { frameState with pending := [.pavUnlock, .d3hotEnter] } = .next t) :=
  ⟨⟨by decide, rfl, by decide, _, rfl⟩, ⟨by decide, _, rfl⟩⟩

set_option maxRecDepth 200000 in
/-- RegisterTypeCodes: fields that fill a register, one of them read/write and one cleared by a read; the last register. -/
theorem witness_typeCodes :
    (fieldsAt 0x10030 = [F.PMU_WAKE_AT_at] ∧ F.PMU_WAKE_AT_at.key = 8 * 0x10030 ∧ F.PMU_WAKE_AT_at.width = 32
      ∧ Dev.reset.rd F.PMU_WAKE_AT_at < 2 ^ 32)
    ∧ (∀ x, fldLegal F.PMU_WAKE_AT_at (Dev.reset.rd F.PMU_WAKE_AT_at) x = x)
    ∧ (fieldsAt 0x20 = [F.SYS_HALL_CE_COUNT_count] ∧ F.SYS_HALL_CE_COUNT_count.key = 8 * 0x20 ∧ F.SYS_HALL_CE_COUNT_count.width = 32 ∧ F.SYS_HALL_CE_COUNT_count.ty = .rc)
    ∧ (0x3FFFFFC < 0x4000000 ∧ F.MZK_EPOCH_epoch_s.ty = .rwl ∧ F.MZK_EPOCH_epoch_s.kept = .all
      ∧ F.MSR_BASE_HI_base_hi.ty = .rwl ∧ F.MSR_BASE_HI_base_hi.kept = .hf) :=
  ⟨by decide +kernel, fun _ => rfl, by decide +kernel, by decide⟩

/-- ClaimTakesTheOffer and FixedModeOffersTheLowest: an offer of either class, an offer made, an occupied target, nothing. -/
theorem witness_offers :
    (mget? ({ irqs with icu := { irqs.icu with offer := [(19, 511)] } } : Dev).icu.offer (slotKey 9 true) = some 511)
    ∧ (mget? ({ irqs with icu := { irqs.icu with offer := [(16, 0)] } } : Dev).icu.offer (slotKey 8 false) = some 0
      ∧ mget? ({ irqs with icu := { irqs.icu with offer := [(16, 0)] } } : Dev).icu.offer (slotKey 8 true) = none)
    ∧ (mget? irqs.icu.offer (slotKey 0 true) = none ∧ mget? irqs.icu.offer (slotKey 0 false) = none ∧ irqs.offerFor 0 = none)
    ∧ (pended.classMode 8 = false ∧ pended.offerFor 8 = some (false, 200) ∧ pended.deliverableTo 8 ≠ []
      ∧ mget? pended.icu.slot (slotKey 8 false) = none ∧ modOff (pended.modOf 8) = true)
    ∧ (pended.classMode 8 = false
      ∧ mget? ({ pended with icu := { pended.icu with slot := [(16, 5)] } } : Dev).icu.slot (slotKey 8 false) = some 5) := by
  decide +kernel

/-- HistogramBins: the bins at the edges of each range. -/
theorem witness_bins :
    ((-1 : Int) < 0 ∧ (1 + 61 / 1 ≤ 62 ∧ 62 * 1 ≤ 62) ∧ (0 / 2 ^ 63 = 0) ∧ (2 ^ (2 - 2) ≤ 1 / 2 ^ 0 ∧ 1 / 2 ^ 0 < 2 ^ (2 - 1))
      ∧ (2 ^ (62 - 2) ≤ (2 ^ 61 - 1) / 2 ^ 0 ∧ (2 ^ 61 - 1) / 2 ^ 0 < 2 ^ (62 - 1)) ∧ 2 ^ 61 ≤ 2 ^ 61 / 2 ^ 0) := by decide

/-- ReplayAndGenerationTests: counters at the edges of the window, and generations at the edges of each class. -/
theorem witness_replay :
    (0 < 1 ∧ (63 ≤ 63 ∧ 63 - 0 ≤ 63 ∧ bit 1 63 = false) ∧ (bit 1 (5 - 5) = true) ∧ 63 < 64 - 0
      ∧ replayTest 0 0 0 = .accept true 0 1)
    ∧ (Dev.reset.rd F.REEL_KEY_gen_ahead ≤ 0x7FFF ∧ 1 ≤ Dev.reset.rd F.REEL_KEY_gen_ahead)
    ∧ (Dev.reset.rd F.REEL_KEY_gen_ahead < 0x7FFF ∧ 0x7FFE = (0xFFFF + 0x7FFF) % 2 ^ 16 ∧ 0x7FFF = (0xFFFF + 0x8000) % 2 ^ 16) := by
  decide

/-- FreshestFifoDropsTheOldest: each FIFO full for an item and with room for one. -/
theorem witness_fifoPush :
    (fifoFreshest 0xC0120 = true ∧ fifoFreshest 0x110030 = true ∧ (inMode 4).fifoRoom 0xC0120 0 [0] = false)
    ∧ (fifoFreshest 0x50200 = false ∧ (inMode 4).fifoRoom 0x50200 0 [0] = false)
    ∧ (inMode 4).fifoRoom 0xC0120 64 [0] = true ∧ (0xFFFE ≤ 0xFFFF ∧ 0xFFFE < 0xFFFF) := by decide +kernel

/-- MessageAndCompletionLayouts and PartnerWindowBounds: an empty payload, an 8,192-byte one, and the window's last byte. -/
theorem witness_layouts :
    (([] : List Byte).length ≤ 8192 ∧ (List.replicate 8192 (0 : Byte)).length ≤ 8192 ∧ 0xFF < 2 ^ 8)
    ∧ ((inMode 4).dramBytes ≤ 128 * 0x40000000 ∧ 0x400000000000 ≤ 0x7FFFFFFFFFFF ∧ 0x7FFFFFFFFFFF + 1 ≤ 0x800000000000) :=
  ⟨⟨by decide, Nat.le_of_eq List.length_replicate, by decide⟩, by decide⟩

/-- RegisterResetsFollowKeptOver: a kept field and one that returns, in the last window. -/
theorem witness_keptOver :
    (∃ f ∈ fieldsOfWindow 18, f.stride = 0 ∧ f.kept.ovr .aonpor = false) ∧ (∃ f ∈ fieldsOfWindow 0, f.stride = 0 ∧ f.kept.ovr .mainpor = true) := by
  decide +kernel

/-- The frame statements: each command answers a next state here. -/
theorem witness_frames :
    (∃ t, exec .islandedCondSet frameState = .next t) ∧ (∃ t, exec .islandedCondClear frameState = .next t)
    ∧ (∃ t, exec .d3hotEnter frameState = .next t) ∧ (∃ t, exec .pavUnlock frameState = .next t)
    ∧ (∃ t, exec (.pcieLinkUp true) frameState = .next t) ∧ (frameState.dev.mode ≠ .recovery ∧ ∃ t, exec (.ethTxqPost 7 0) frameState = .next t) ∧ (∃ t, exec (.ethWakeCfgWrite 0) frameState = .next t)
    ∧ (∃ t, exec (.mzkBeaconForce 11) frameState = .next t) ∧ (∃ t, exec (.plcBeaconForce 15) frameState = .next t)
    ∧ (∃ t, exec (.icuModeWrite 9 1) frameState = .next t) ∧ (∃ t, exec (.logSelWrite 0) frameState = .next t)
    ∧ (∃ t, exec (.icuSrcCmdClear 511) frameState = .next t) ∧ (∃ t, exec (.icuSrcCfgWrite 511 0) frameState = .next t)
    ∧ (∃ t, exec (.icuSrcCfgWrite 63 0) frameState = .next t) ∧ (∃ t, exec (.icuOffer 9 ⟨false, 0, 0, 0, false⟩) frameState = .next t) ∧ (∃ t, exec (.icuPendWrite 15 0 0 0) frameState = .next t)
    ∧ (∃ t, exec .msrCheckpointPeriod frameState = .next t) ∧ (∃ t, exec .msrCkptNow frameState = .next t)
    ∧ (∃ t, exec .waltzRunningStart frameState = .next t) ∧ (∃ t, exec .inferNow frameState = .next t)
    ∧ (∃ t, exec (.pulseArm 3) frameState = .next t) ∧ (∃ t, exec (.icuEdgeEvent 0) frameState = .next t)
    ∧ (∃ t, exec (.icuSrcCmdSet 0) frameState = .next t) ∧ (∃ t, exec (.icuClaim 9 0) frameState = .next t)
    ∧ (∃ t, exec (.icuDone 9 0) frameState = .next t) ∧ (∃ t, exec .wdtPrewarn frameState = .next t)
    ∧ (∃ t, exec (.rtcSecWrite 0) frameState = .next t) ∧ (∃ t, exec (.tsuNowRead 0) frameState = .next t)
    ∧ (∃ t, exec (.pulseTrailingEdge 3) frameState = .next t) := by
  refine ⟨?_, ?_, ?_, ?_, ?_, ?_, ?_, ?_, ?_, ?_, ?_, ?_, ?_, ?_, ?_, ?_, ?_, ?_, ?_, ?_, ?_, ?_, ?_, ?_, ?_, ?_, ?_, ?_, ?_⟩ <;> first | exact ⟨_, rfl⟩ | exact ⟨by decide, _, rfl⟩

end Sys2Proof.Tests
end

section
/-! PROOF. Tables whose entries are dropped by their keys, and bits of numbers: what later proofs read of both. -/

namespace Sys2Proof.Machine

/-- Dropping entries by their keys takes away the values of the keys dropped and no other. -/
theorem mget?_filter_key {α : Type} (m : Map α) (p : Nat → Bool) (a : Nat) :
    mget? (m.filter (fun e => p e.1)) a = if p a then mget? m a else none := by
  induction m with
  | nil => simp [mget?]
  | cons e t ih =>
    obtain ⟨k, v⟩ := e
    by_cases hk : k = a
    · subst hk
      cases hp : p k <;> simp [hp, mget?, ih]
    · cases hp : p k <;> simp [hp, mget?, ih, hk]

theorem tget_filter_key (t : Tab) (p : Nat → Bool) (a : Nat) :
    tget (t.filter (fun e => p e.1)) a = if p a then tget t a else 0 := by
  unfold tget
  rw [mget?_filter_key]
  split <;> rfl

theorem bit_eq_testBit (b i : Nat) : bit b i = b.testBit i := Nat.decide_shiftRight_mod_two_eq_one

theorem bits_zero_of_lt {b n : Nat} (h : b < 2 ^ n) : bits b 0 n = b := by
  rw [bits, Nat.shiftRight_zero, Nat.mod_eq_of_lt h]

theorem setBits_zero_of_lt {b n v : Nat} (h : b < 2 ^ n) (hv : v < 2 ^ n) : setBits b 0 n v = v := by
  simp [setBits, Nat.mod_one, Nat.mod_eq_of_lt hv, Nat.shiftRight_eq_div_pow, Nat.div_eq_of_lt h]

/-- Taking away what a number has in common with a mask clears the mask's bits. -/
theorem testBit_sub_and (a b k : Nat) : (a - (a &&& b)).testBit k = (a.testBit k && !b.testBit k) := by
  have hle : a &&& b ≤ a := Nat.and_le_left
  have hlow : (a &&& b) % 2 = 1 ↔ a % 2 = 1 ∧ b % 2 = 1 := Nat.and_mod_two_eq_one
  induction k generalizing a b with
  | zero =>
    have h : (a - (a &&& b)) % 2 = 1 ↔ a % 2 = 1 ∧ ¬ b % 2 = 1 := by omega
    simp only [Nat.testBit_zero, h, Bool.decide_and, decide_not]
  | succ k ih =>
    have hhalf : (a &&& b) / 2 = a / 2 &&& b / 2 := Nat.and_div_two
    have h : (a - (a &&& b)) / 2 = a / 2 - (a / 2 &&& b / 2) := by omega
    simp only [Nat.testBit_add_one, h]
    exact ih _ _ Nat.and_le_left Nat.and_mod_two_eq_one

end Sys2Proof.Machine
end

section
/-! PROOF. Every step keeps the stored data in canonical form (O45, O46), and what reset leaves (O47). -/

namespace Sys2Proof.Machine

/-- Every command keeps the stored data in canonical form: one arm of `exec`, one lemma about its meaning. -/
theorem exec_canon {s u : State} (h : Canon s.dev) : ∀ i : Instr, exec i s = .next u → Canon u.dev
  | .registerWrite .. => execRegisterWrite_canon h u
  | .regPairLoRead .. => execRegPairLoRead_canon h u
  | .regPairHiWrite .. => execRegPairHiWrite_canon h u
  | .regPairLoWrite .. => execRegPairLoWrite_canon h u
  | .rcFieldRead .. => execRcFieldRead_canon h u
  | .fabricAccess .. => execFabricAccess_canon h u
  | .fifoFlush .. => execFifoFlush_canon h u
  | .fifoFlushComplete .. => execFifoFlushComplete_canon h u
  | .packetFifoTransfer .. => execPacketFifoTransfer_canon h u
  | .perstAssert => execPerstAssert_canon h u
  | .perstDeassert => execPerstDeassert_canon h u
  | .pcieHotReset => execPcieHotReset_canon h u
  | .pcieFlr => execPcieFlr_canon h u
  | .pcieLinkDown => execPcieLinkDown_canon h u
  | .pcieLinkUp .. => execPcieLinkUp_canon h u
  | .busMasterDisable => execBusMasterDisable_canon h u
  | .busMasterEnable => execBusMasterEnable_canon h u
  | .hostReadTimeout => execHostReadTimeout_canon h u
  | .d3hotEnter => execD3hotEnter_canon h u
  | .d0Return => execD0Return_canon h u
  | .xdiHostVerWrite .. => execXdiHostVerWrite_canon h u
  | .ringCfgEnable .. => execRingCfgEnable_canon h u
  | .ringCfgDisable .. => execRingCfgDisable_canon h u
  | .ringDisableComplete .. => execRingDisableComplete_canon h u
  | .descriptorFlushTimeout .. => execDescriptorFlushTimeout_canon h u
  | .sqDoorbell .. => execSqDoorbell_canon h u
  | .cqDoorbell .. => execCqDoorbell_canon h u
  | .descriptorFetch .. => execDescriptorFetch_canon h u
  | .fenceRelease .. => execFenceRelease_canon h u
  | .completionPost .. => execCompletionPost_canon h u
  | .nop .. => execNop_canon h u
  | .xdiExpCtrlWrite .. => execXdiExpCtrlWrite_canon h u
  | .expBuf .. => execExpBuf_canon h u
  | .exportRecordDeliver => execExportRecordDeliver_canon h u
  | .batchTimeout .. => execBatchTimeout_canon h u
  | .xdiExpCommitWrite .. => execXdiExpCommitWrite_canon h u
  | .commitJournal => execCommitJournal_canon h u
  | .hmbGrant .. => execHmbGrant_canon h u
  | .hmbRevoke .. => execHmbRevoke_canon h u
  | .hmbRevokeDone => execHmbRevokeDone_canon h u
  | .icuEdgeEvent .. => execIcuEdgeEvent_canon h u
  | .icuLevelAssert .. => execIcuLevelAssert_canon h u
  | .modWindowTimeFire .. => execModWindowTimeFire_canon h u
  | .icuOffer .. => execIcuOffer_canon h u
  | .icuClaim .. => execIcuClaim_canon h u
  | .icuDone .. => execIcuDone_canon h u
  | .icuEnableWrite .. => execIcuEnableWrite_canon h u
  | .icuMaskWrite .. => execIcuMaskWrite_canon h u
  | .icuPendWrite .. => execIcuPendWrite_canon h u
  | .icuSrcCmdSet .. => execIcuSrcCmdSet_canon h u
  | .icuSrcCmdClear .. => execIcuSrcCmdClear_canon h u
  | .icuSrcCfgWrite .. => execIcuSrcCfgWrite_canon h u
  | .icuModeWrite .. => execIcuModeWrite_canon h u
  | .icuHdoneWrite .. => execIcuHdoneWrite_canon h u
  | .msixVectorUnmask .. => execMsixVectorUnmask_canon h u
  | .l1ExitDone => execL1ExitDone_canon h u
  | .pmeRepeat => execPmeRepeat_canon h u
  | .hostReattachMessages => execHostReattachMessages_canon h u
  | .msrEnable .. => execMsrEnable_canon h u
  | .mtrLookup .. => execMtrLookup_canon h u
  | .mtrRead .. => execMtrRead_canon h u
  | .mtrWrite .. => execMtrWrite_canon h u
  | .mtrAdmit .. => execMtrAdmit_canon h u
  | .mtrRelease .. => execMtrRelease_canon h u
  | .mtrRetire .. => execMtrRetire_canon h u
  | .mtrFree .. => execMtrFree_canon h u
  | .mtrMove .. => execMtrMove_canon h u
  | .mtrScan .. => execMtrScan_canon h u
  | .mtrPin .. => execMtrPin_canon h u
  | .msrRecSelWrite .. => execMsrRecSelWrite_canon h u
  | .msrRecCommit .. => execMsrRecCommit_canon h u
  | .sweepVisit .. => execSweepVisit_canon h u
  | .msrCheckpointPeriod => execMsrCheckpointPeriod_canon h u
  | .msrCkptNow => execMsrCkptNow_canon h u
  | .msrCheckpointDone .. => execMsrCheckpointDone_canon h u
  | .msrRebuildDone .. => execMsrRebuildDone_canon h u
  | .msrCleanAll => execMsrCleanAll_canon h u
  | .laneFrame .. => execLaneFrame_canon h u
  | .laneReplayWaitEnd .. => execLaneReplayWaitEnd_canon h u
  | .reelExqHeadWrite .. => execReelExqHeadWrite_canon h u
  | .commitPacket .. => execCommitPacket_canon h u
  | .reservationDurable => execReservationDurable_canon h u
  | .commitStallRelease => execCommitStallRelease_canon h u
  | .stormReqClear => execStormReqClear_canon h u
  | .reelSteerWrite .. => execReelSteerWrite_canon h u
  | .steerHandover .. => execSteerHandover_canon h u
  | .laneTransientFault .. => execLaneTransientFault_canon h u
  | .lanePermanentFault .. => execLanePermanentFault_canon h u
  | .laneHang .. => execLaneHang_canon h u
  | .laneKatNow .. => execLaneKatNow_canon h u
  | .laneKatDone .. => execLaneKatDone_canon h u
  | .reelEnable .. => execReelEnable_canon h u
  | .reelRunningStart => execReelRunningStart_canon h u
  | .valEnable .. => execValEnable_canon h u
  | .valLoad .. => execValLoad_canon h u
  | .valSwap .. => execValSwap_canon h u
  | .valSwapDone => execValSwapDone_canon h u
  | .valInject .. => execValInject_canon h u
  | .valPath .. => execValPath_canon h u
  | .valReseq .. => execValReseq_canon h u
  | .waltzEnable .. => execWaltzEnable_canon h u
  | .waltzRunningStart => execWaltzRunningStart_canon h u
  | .waltzFeed => execWaltzFeed_canon h u
  | .intervalClose => execIntervalClose_canon h u
  | .episodeClose => execEpisodeClose_canon h u
  | .restorationReport => execRestorationReport_canon h u
  | .inferencePeriodic => execInferencePeriodic_canon h u
  | .inferNow => execInferNow_canon h u
  | .inferencePassDone => execInferencePassDone_canon h u
  | .scorePeriodic => execScorePeriodic_canon h u
  | .scoreNow => execScoreNow_canon h u
  | .scoringPassDone => execScoringPassDone_canon h u
  | .waltzRebuildDone => execWaltzRebuildDone_canon h u
  | .wlzNodeLoad .. => execWlzNodeLoad_canon h u
  | .wlzResults .. => execWlzResults_canon h u
  | .wlzRestoreRead .. => execWlzRestoreRead_canon h u
  | .wlzSuspRead .. => execWlzSuspRead_canon h u
  | .wlzInfer .. => execWlzInfer_canon h u
  | .wlzScore .. => execWlzScore_canon h u
  | .wlzAssign .. => execWlzAssign_canon h u
  | .wlzProfile .. => execWlzProfile_canon h u
  | .wlzRebuild .. => execWlzRebuild_canon h u
  | .wlzGroupLoad .. => execWlzGroupLoad_canon h u
  | .bolEnable .. => execBolEnable_canon h u
  | .bolCmd .. => execBolCmd_canon h u
  | .bolApdu .. => execBolApdu_canon h u
  | .bolCampLoad .. => execBolCampLoad_canon h u
  | .bolCampMembers .. => execBolCampMembers_canon h u
  | .bolCampStart .. => execBolCampStart_canon h u
  | .bolCampActivate .. => execBolCampActivate_canon h u
  | .bolCampWait .. => execBolCampWait_canon h u
  | .bolCampReport .. => execBolCampReport_canon h u
  | .bolCampAbort .. => execBolCampAbort_canon h u
  | .bolCampFree .. => execBolCampFree_canon h u
  | .bolGroupSet .. => execBolGroupSet_canon h u
  | .bolCmdStatus .. => execBolCmdStatus_canon h u
  | .ackRequest => execAckRequest_canon h u
  | .ackDelayExpiry => execAckDelayExpiry_canon h u
  | .ackNotice => execAckNotice_canon h u
  | .pushStatusNotice => execPushStatusNotice_canon h u
  | .cmdAttemptTimeout .. => execCmdAttemptTimeout_canon h u
  | .tokenWaitExpiry .. => execTokenWaitExpiry_canon h u
  | .announceRepeat .. => execAnnounceRepeat_canon h u
  | .campaignBlockPace .. => execCampaignBlockPace_canon h u
  | .statusWindowEnd .. => execStatusWindowEnd_canon h u
  | .activateAtReached .. => execActivateAtReached_canon h u
  | .activationWindowEnd .. => execActivationWindowEnd_canon h u
  | .keyRequest .. => execKeyRequest_canon h u
  | .keyImport .. => execKeyImport_canon h u
  | .keyStage .. => execKeyStage_canon h u
  | .keyCommit .. => execKeyCommit_canon h u
  | .keyAbandon .. => execKeyAbandon_canon h u
  | .keyDestroy .. => execKeyDestroy_canon h u
  | .keyInfo .. => execKeyInfo_canon h u
  | .keyList .. => execKeyList_canon h u
  | .keySuccessor .. => execKeySuccessor_canon h u
  | .keyRootWrap .. => execKeyRootWrap_canon h u
  | .keyInit .. => execKeyInit_canon h u
  | .keyZeroise .. => execKeyZeroise_canon h u
  | .pavUnlock => execPavUnlock_canon h u
  | .pavUnlockDone => execPavUnlockDone_canon h u
  | .pavLock => execPavLock_canon h u
  | .pavCacheFlush => execPavCacheFlush_canon h u
  | .pavKatNow .. => execPavKatNow_canon h u
  | .tamperTrip .. => execTamperTrip_canon h u
  | .tamperArm => execTamperArm_canon h u
  | .zeroiseNow => execZeroiseNow_canon h u
  | .tamperLogClear => execTamperLogClear_canon h u
  | .nvmProgramDone .. => execNvmProgramDone_canon h u
  | .plcSuperframeStart .. => execPlcSuperframeStart_canon h u
  | .plcDataSegment .. => execPlcDataSegment_canon h u
  | .plcSack .. => execPlcSack_canon h u
  | .plcAssocReq .. => execPlcAssocReq_canon h u
  | .plcAlive .. => execPlcAlive_canon h u
  | .plcTmReq .. => execPlcTmReq_canon h u
  | .plcTmRsp .. => execPlcTmRsp_canon h u
  | .plcLeave .. => execPlcLeave_canon h u
  | .plcReassemblyExpiry .. => execPlcReassemblyExpiry_canon h u
  | .plcStandingGrantMiss .. => execPlcStandingGrantMiss_canon h u
  | .plcZcEdge .. => execPlcZcEdge_canon h u
  | .plcDlRelease .. => execPlcDlRelease_canon h u
  | .plcDlRetryExpiry .. => execPlcDlRetryExpiry_canon h u
  | .plcEnable .. => execPlcEnable_canon h u
  | .plcListenEnd .. => execPlcListenEnd_canon h u
  | .plcBeaconForce .. => execPlcBeaconForce_canon h u
  | .plcAtSelWrite .. => execPlcAtSelWrite_canon h u
  | .plcTransientFault .. => execPlcTransientFault_canon h u
  | .plcPermanentFault .. => execPlcPermanentFault_canon h u
  | .plcRxBeacon .. => execPlcRxBeacon_canon h u
  | .mzkBeaconSend .. => execMzkBeaconSend_canon h u
  | .mzkRxData .. => execMzkRxData_canon h u
  | .mzkRxMack .. => execMzkRxMack_canon h u
  | .mzkMackTimeout .. => execMzkMackTimeout_canon h u
  | .mzkRxAssocReq .. => execMzkRxAssocReq_canon h u
  | .mzkRxRouteAck .. => execMzkRxRouteAck_canon h u
  | .mzkRouteAckTimeout .. => execMzkRouteAckTimeout_canon h u
  | .mzkRxKeep .. => execMzkRxKeep_canon h u
  | .mzkRxLeave .. => execMzkRxLeave_canon h u
  | .mzkCellSilent .. => execMzkCellSilent_canon h u
  | .mzkEventAnchor .. => execMzkEventAnchor_canon h u
  | .mzkAdvSend .. => execMzkAdvSend_canon h u
  | .mzkRxConnReq .. => execMzkRxConnReq_canon h u
  | .mzkConnUpdInstant .. => execMzkConnUpdInstant_canon h u
  | .mzkSupTimeout .. => execMzkSupTimeout_canon h u
  | .mzkConnHoldExpiry .. => execMzkConnHoldExpiry_canon h u
  | .mzkResumeTimeout .. => execMzkResumeTimeout_canon h u
  | .mzkDcRelease .. => execMzkDcRelease_canon h u
  | .mzkDlRelease .. => execMzkDlRelease_canon h u
  | .mzkEnable .. => execMzkEnable_canon h u
  | .mzkListenEnd .. => execMzkListenEnd_canon h u
  | .mzkBeaconForce .. => execMzkBeaconForce_canon h u
  | .mzkTransientFault .. => execMzkTransientFault_canon h u
  | .mzkPermanentFault .. => execMzkPermanentFault_canon h u
  | .mzkRxBeacon .. => execMzkRxBeacon_canon h u
  | .mzkSilentEvent .. => execMzkSilentEvent_canon h u
  | .tsuSchemeWrite .. => execTsuSchemeWrite_canon h u
  | .tsuRateWrite .. => execTsuRateWrite_canon h u
  | .tsuAdjStep => execTsuAdjStep_canon h u
  | .tsuAdjSlew => execTsuAdjSlew_canon h u
  | .tsuAdjSet => execTsuAdjSet_canon h u
  | .slewEnd => execSlewEnd_canon h u
  | .ppsEdge .. => execPpsEdge_canon h u
  | .ppsHoldover => execPpsHoldover_canon h u
  | .rtcSecondSync => execRtcSecondSync_canon h u
  | .rtcSecWrite .. => execRtcSecWrite_canon h u
  | .pulseArm .. => execPulseArm_canon h u
  | .pulseLeadingEdge .. => execPulseLeadingEdge_canon h u
  | .pulseTrailingEdge .. => execPulseTrailingEdge_canon h u
  | .teBuf .. => execTeBuf_canon h u
  | .teAdj .. => execTeAdj_canon h u
  | .timeEventDeliver => execTimeEventDeliver_canon h u
  | .tsuNowRead .. => execTsuNowRead_canon h u
  | .tsuConvWrite .. => execTsuConvWrite_canon h u
  | .tsuEvtPop => execTsuEvtPop_canon h u
  | .ethEnable .. => execEthEnable_canon h u
  | .ethFrameReceive .. => execEthFrameReceive_canon h u
  | .pauseExpiry .. => execPauseExpiry_canon h u
  | .pauseStorm .. => execPauseStorm_canon h u
  | .pauseResend .. => execPauseResend_canon h u
  | .xonPauseSend .. => execXonPauseSend_canon h u
  | .ethTxqPost .. => execEthTxqPost_canon h u
  | .ethTxDone .. => execEthTxDone_canon h u
  | .tunnelDownlinkSend .. => execTunnelDownlinkSend_canon h u
  | .keepaliveSend => execKeepaliveSend_canon h u
  | .concSilent .. => execConcSilent_canon h u
  | .fdbAgeOut .. => execFdbAgeOut_canon h u
  | .ethConcSelWrite .. => execEthConcSelWrite_canon h u
  | .ethConcCommit => execEthConcCommit_canon h u
  | .saInstall .. => execSaInstall_canon h u
  | .saTxSwitch .. => execSaTxSwitch_canon h u
  | .saDelete .. => execSaDelete_canon h u
  | .ethWakeCfgWrite .. => execEthWakeCfgWrite_canon h u
  | .ethWake .. => execEthWake_canon h u
  | .ethLinkChange .. => execEthLinkChange_canon h u
  | .ethTransientFault .. => execEthTransientFault_canon h u
  | .ethPermanentFault .. => execEthPermanentFault_canon h u
  | .pauseIgnoreEnd .. => execPauseIgnoreEnd_canon h u
  | .gavEnable .. => execGavEnable_canon h u
  | .gavMount .. => execGavMount_canon h u
  | .gavMountDone => execGavMountDone_canon h u
  | .gavSectorProgram => execGavSectorProgram_canon h u
  | .gavPartialFlush => execGavPartialFlush_canon h u
  | .gavProgramDone .. => execGavProgramDone_canon h u
  | .gavJournalSector .. => execGavJournalSector_canon h u
  | .gavSysvalWrite .. => execGavSysvalWrite_canon h u
  | .gavGcStart .. => execGavGcStart_canon h u
  | .gavGcCopyDone .. => execGavGcCopyDone_canon h u
  | .gavGcErase .. => execGavGcErase_canon h u
  | .gavEraseDone .. => execGavEraseDone_canon h u
  | .gavDieFault .. => execGavDieFault_canon h u
  | .arcRead .. => execArcRead_canon h u
  | .arcBlkRead .. => execArcBlkRead_canon h u
  | .arcBlkWrite .. => execArcBlkWrite_canon h u
  | .arcTrim .. => execArcTrim_canon h u
  | .arcSdiscard .. => execArcSdiscard_canon h u
  | .arcFlush .. => execArcFlush_canon h u
  | .gavFormat .. => execGavFormat_canon h u
  | .gavInfo .. => execGavInfo_canon h u
  | .gavSdiscardSeq .. => execGavSdiscardSeq_canon h u
  | .gavGcNow .. => execGavGcNow_canon h u
  | .gavMarkLostClear .. => execGavMarkLostClear_canon h u
  | .eplLinkUp => execEplLinkUp_canon h u
  | .eplLinkDown => execEplLinkDown_canon h u
  | .eplHelloTimer => execEplHelloTimer_canon h u
  | .eplHelloTimeout => execEplHelloTimeout_canon h u
  | .eplRetransmitTimeout => execEplRetransmitTimeout_canon h u
  | .hello .. => execHello_canon h u
  | .lease .. => execLease_canon h u
  | .leaseAck .. => execLeaseAck_canon h u
  | .tokenRelease .. => execTokenRelease_canon h u
  | .digest .. => execDigest_canon h u
  | .digestResult .. => execDigestResult_canon h u
  | .selftest .. => execSelftest_canon h u
  | .recheck .. => execRecheck_canon h u
  | .msrDelta .. => execMsrDelta_canon h u
  | .keyEvent .. => execKeyEvent_canon h u
  | .keySummary .. => execKeySummary_canon h u
  | .settings .. => execSettings_canon h u
  | .bolero .. => execBolero_canon h u
  | .resync .. => execResync_canon h u
  | .winRd .. => execWinRd_canon h u
  | .winRdRsp .. => execWinRdRsp_canon h u
  | .winWr .. => execWinWr_canon h u
  | .leaseRenewTimer => execLeaseRenewTimer_canon h u
  | .leaseExpiry => execLeaseExpiry_canon h u
  | .tokenTakeover => execTokenTakeover_canon h u
  | .deadTimer => execDeadTimer_canon h u
  | .witnessLeaseExpiry => execWitnessLeaseExpiry_canon h u
  | .swapHandover => execSwapHandover_canon h u
  | .digestBatchClose => execDigestBatchClose_canon h u
  | .digestCompare => execDigestCompare_canon h u
  | .selftestDone .. => execSelftestDone_canon h u
  | .mergeDelayApply => execMergeDelayApply_canon h u
  | .keySummaryTimer => execKeySummaryTimer_canon h u
  | .pairInfo .. => execPairInfo_canon h u
  | .pairSwap .. => execPairSwap_canon h u
  | .pairWitnessGrant .. => execPairWitnessGrant_canon h u
  | .pairResync .. => execPairResync_canon h u
  | .pairMismatchRead .. => execPairMismatchRead_canon h u
  | .bootStart .. => execBootStart_canon h u
  | .bootComplete => execBootComplete_canon h u
  | .updOpen .. => execUpdOpen_canon h u
  | .updData .. => execUpdData_canon h u
  | .updVerify .. => execUpdVerify_canon h u
  | .updActivate .. => execUpdActivate_canon h u
  | .updClose .. => execUpdClose_canon h u
  | .updAccept .. => execUpdAccept_canon h u
  | .updRevert .. => execUpdRevert_canon h u
  | .updAcceptDefaults .. => execUpdAcceptDefaults_canon h u
  | .updStatus .. => execUpdStatus_canon h u
  | .updSetPut .. => execUpdSetPut_canon h u
  | .updSetGet .. => execUpdSetGet_canon h u
  | .updLeaseExpiry => execUpdLeaseExpiry_canon h u
  | .updActivateDelay => execUpdActivateDelay_canon h u
  | .updAutoAccept => execUpdAutoAccept_canon h u
  | .settingsRevertHold => execSettingsRevertHold_canon h u
  | .qspiProgramDone .. => execQspiProgramDone_canon h u
  | .aonpor => execAonpor_canon h u
  | .mainpor .. => execMainpor_canon h u
  | .pinrst .. => execPinrst_canon h u
  | .softrst => execSoftrst_canon h u
  | .wdtrst => execWdtrst_canon h u
  | .domrst .. => execDomrst_canon h u
  | .pmuModeSetRun .. => execPmuModeSetRun_canon h u
  | .pmuModeSetCommission .. => execPmuModeSetCommission_canon h u
  | .pmuStormForceSet .. => execPmuStormForceSet_canon h u
  | .pmuStormForceClear .. => execPmuStormForceClear_canon h u
  | .pmuModeSetDormant .. => execPmuModeSetDormant_canon h u
  | .pmuResetSoft .. => execPmuResetSoft_canon h u
  | .pmuResetDomain .. => execPmuResetDomain_canon h u
  | .pmuResourceRetire .. => execPmuResourceRetire_canon h u
  | .pmuResourceRestore .. => execPmuResourceRestore_canon h u
  | .pmuResourceQuery .. => execPmuResourceQuery_canon h u
  | .modeChange => execModeChange_canon h u
  | .islandedCondSet => execIslandedCondSet_canon h u
  | .islandedCondClear => execIslandedCondClear_canon h u
  | .stormBudgetExhausted => execStormBudgetExhausted_canon h u
  | .stormBudgetHalf => execStormBudgetHalf_canon h u
  | .thermalSample .. => execThermalSample_canon h u
  | .thermalThrottleLift => execThermalThrottleLift_canon h u
  | .thermalStop => execThermalStop_canon h u
  | .thermalRestart => execThermalRestart_canon h u
  | .coreWarnSet .. => execCoreWarnSet_canon h u
  | .coreWarnClear .. => execCoreWarnClear_canon h u
  | .coreUndervoltReset .. => execCoreUndervoltReset_canon h u
  | .pwrWarnFall => execPwrWarnFall_canon h u
  | .pwrWarnRise => execPwrWarnRise_canon h u
  | .wdtEnable .. => execWdtEnable_canon h u
  | .wdtKick .. => execWdtKick_canon h u
  | .wdtPrewarn => execWdtPrewarn_canon h u
  | .rtcAlarmWake => execRtcAlarmWake_canon h u
  | .perstWake => execPerstWake_canon h u
  | .pmuOffMaskWrite .. => execPmuOffMaskWrite_canon h u
  | .dramEccCorrected .. => execDramEccCorrected_canon h u
  | .dramEccUncorrectable .. => execDramEccUncorrectable_canon h u
  | .coreEccError .. => execCoreEccError_canon h u
  | .coreProbeTimeout .. => execCoreProbeTimeout_canon h u
  | .vaonLoss => execVaonLoss_canon h u
  | .vaonRestore => execVaonRestore_canon h u
  | .vbatLoss => execVbatLoss_canon h u
  | .vbatRestore => execVbatRestore_canon h u
  | .srbEnable => execSrbEnable_canon h u
  | .srbSample .. => execSrbSample_canon h u
  | .srbFeedWrite .. => execSrbFeedWrite_canon h u
  | .snapshotTimer .. => execSnapshotTimer_canon h u
  | .srbSnapNow => execSrbSnapNow_canon h u
  | .snapshotWritten => execSnapshotWritten_canon h u
  | .srbWselWrite .. => execSrbWselWrite_canon h u
  | .logRecord => execLogRecord_canon h u
  | .logAppend .. => execLogAppend_canon h u
  | .logBuf .. => execLogBuf_canon h u
  | .logBufTimeout => execLogBufTimeout_canon h u
  | .srbCopy .. => execSrbCopy_canon h u
  | .logMark .. => execLogMark_canon h u
  | .logClear .. => execLogClear_canon h u
  | .logCtrlClear .. => execLogCtrlClear_canon h u
  | .logHeadWrite .. => execLogHeadWrite_canon h u
  | .logSelWrite .. => execLogSelWrite_canon h u
  | .suppressedSummaryTimer .. => execSuppressedSummaryTimer_canon h u

/-- A step keeps the stored data in canonical form, with a command in front or none. -/
theorem step_canon {s u : State} (h : Canon s.dev) (hu : step s = .next u) : Canon u.dev := by
  cases hp : s.pending with
  | nil =>
    simp only [step, hp] at hu
    exact ran_canon (Dev.idle_canon h) u hu
  | cons i rest =>
    simp only [step, hp] at hu
    exact exec_canon (s := { s with pending := rest }) h i hu

/-- Settles O45: every command's meaning keeps the form, and so does the idle step. -/
theorem stepsKeepStoredDataCanonical : Obligations.StepsKeepStoredDataCanonical := by
  intro s t hs ht
  exact (step_canon ⟨hs⟩ ht).out

/-- Settles O46: after reset memory, the register table and the FIFO table list nothing. -/
theorem resetIsCanonical : Obligations.ResetIsCanonical := Dev.reset_canon.out

/-- Settles O47: every field reads its Reset column, and the fields named are read by their columns. -/
theorem resetLeavesResetValues : Obligations.ResetLeavesResetValues :=
  ⟨Dev.rd_reset, rfl, rfl, rfl, rfl, rfl, Dev.rd_reset F.SYS_ID_part, Dev.rd_reset F.SYS_ID_stepping, Dev.rd_reset F.SYS_ID_pkg⟩

end Sys2Proof.Machine
end

section
/-! PROOF. Resets of a window: the fields that return and the commits that end (R12, R13; O57). -/

namespace Sys2Proof.Machine

/-- Whether a row of the register tables holds the field at a bit address. -/
def Fld.holds (g : Fld) (k : Nat) : Bool := (g.inWord (k / 32 * 4)).any (fun x => x.key == k)

/-- A field outside a register array lies in its window; its row holds it, and no row with another Kept over column does. -/
theorem plainField_rows : ∀ w < 19, ∀ f ∈ fieldsOfWindow w, f.stride = 0 →
    f.key / 8 / 0x10000 = w ∧ f.holds f.key = true ∧ ∀ g ∈ fieldsOfWindow w, g.kept ≠ f.kept → g.holds f.key = false := by
  decide +kernel

/-- A reset of a whole window leaves the fields its rows keep and returns the others of the window to their reset values. -/
theorem Dev.rd_winReset (d : Dev) (k : RstKind) (w : Nat) (f : Fld) (hw : f.key / 8 / 0x10000 = w) :
    (d.winReset k w).rd f
      = if (fieldsOfWindow w).any (fun g => g.holds f.key && g.kept.ovr k) then d.rd f else f.reset := by
  have hr : (d.winReset k w).regs = d.regs.filter (fun e =>
      !(e.1 / 8 / 0x10000 == w) || (fieldsOfWindow w).any (fun g => g.holds e.1 && g.kept.ovr k)) := by
    unfold Dev.winReset Dev.resetWindow Fld.holds
    split <;> simp
  unfold Dev.rd
  rw [hr, tget_filter_key _ (fun a => !(a / 8 / 0x10000 == w) || (fieldsOfWindow w).any (fun g => g.holds a && g.kept.ovr k))]
  simp only [hw, beq_self_eq_true, Bool.not_true, Bool.false_or]
  split
  · rfl
  · exact Nat.zero_xor _

/-- The rows that hold a field outside an array keep it as its own row does. -/
theorem keeps_eq_own {w : Nat} {f : Fld} (hw : w < 19) (hf : f ∈ fieldsOfWindow w) (hs : f.stride = 0) (k : RstKind) :
    (fieldsOfWindow w).any (fun g => g.holds f.key && g.kept.ovr k) = f.kept.ovr k := by
  obtain ⟨_, hown, hother⟩ := plainField_rows w hw f hf hs
  rw [Bool.eq_iff_iff, List.any_eq_true]
  constructor
  · rintro ⟨g, hg, hk⟩
    rw [Bool.and_eq_true] at hk
    have hsame : g.kept = f.kept :=
      Decidable.byContradiction fun hne => Bool.false_ne_true ((hother g hg hne).symm.trans hk.1)
    exact hsame ▸ hk.2
  · intro hk
    exact ⟨f, hf, by rw [hown, hk, Bool.and_self]⟩

theorem commitKey_lt {off : Nat} (h : off < 0x4000000) : commitKey off < 0x10000 := by
  simp only [commitKey]
  split <;> omega

theorem commitKey_window (off : Nat) : commitKey off / 0x10 = off / 0x10000 := by
  simp only [commitKey]
  split <;> omega

theorem Dev.isCommitted_commitRwl (d : Dev) (off : Nat) (p : Kept) : (d.commitRwl off).isCommitted off p = true := by
  simp only [Dev.isCommitted, Dev.commitRwl]
  split
  · simp
  · simp [tget_tset_other]

/-- A reset of a whole window ends its commits, but one of the host none, and only AONPOR those held apart above 0x10000. -/
theorem Dev.tget_committed_winReset (d : Dev) (k : RstKind) {w x : Nat} (hx : x % 0x10000 / 0x10 = w) :
    tget (d.winReset k w).sys.committed x
      = if Kept.ovr .hf k || (decide (0x10000 ≤ x) && Kept.ovr .all k) then tget d.sys.committed x else 0 := by
  have hc : (d.winReset k w).sys.committed = if Kept.ovr .hf k then d.sys.committed else
      d.sys.committed.filter (fun e => e.1 % 0x10000 / 0x10 != w || (decide (0x10000 ≤ e.1) && Kept.ovr .all k)) := by
    simp only [Dev.winReset, Dev.resetWindow, Kept.ovr]
    split <;> simp_all
  rw [hc]
  by_cases hk : Kept.ovr .hf k = true
  · simp [hk]
  · rw [if_neg hk, tget_filter_key _ (fun a => a % 0x10000 / 0x10 != w || (decide (0x10000 ≤ a) && Kept.ovr .all k))]
    simp [hk, hx]

theorem Dev.isCommitted_winReset (d : Dev) (k : RstKind) {off : Nat} {p : Kept} (h : off < 0x4000000) (hp : p = .hf ∨ p = .all) :
    (d.winReset k (off / 0x10000)).isCommitted off p = (p.ovr k && d.isCommitted off p) := by
  have hlt := commitKey_lt h
  have hwin := commitKey_window off
  unfold Dev.isCommitted
  rcases hp with rfl | rfl
  · have hlow : ¬ 0x10000 ≤ commitKey off + 0 := by omega
    have hcond : (Kept.ovr .hf k || (decide (0x10000 ≤ commitKey off + 0) && Kept.ovr .all k)) = Kept.ovr .hf k := by
      rw [decide_eq_false hlow, Bool.false_and, Bool.or_false]
    rw [if_neg (by decide), Dev.tget_committed_winReset d k (by omega), hcond]
    cases Kept.ovr .hf k <;> simp
  · have hcond : (Kept.ovr .hf k || (decide (0x10000 ≤ commitKey off + 0x10000) && Kept.ovr .all k)) = Kept.ovr .all k := by
      rw [decide_eq_true (Nat.le_add_left _ _), Bool.true_and]
      cases k <;> rfl
    rw [if_pos rfl, Dev.tget_committed_winReset d k (by omega), hcond]
    cases Kept.ovr .all k <;> simp

/-- Settles O57: of the rows that hold the field none keeps it over other resets than its own. -/
theorem registerResetsFollowKeptOver : Obligations.RegisterResetsFollowKeptOver := by
  refine ⟨fun w f k d hw hf hs => ?_, fun k => ⟨rfl, bne_iff_ne⟩⟩
  obtain ⟨hwin, _, _⟩ := plainField_rows w hw f hf hs
  rw [Dev.rd_winReset d k w f hwin, keeps_eq_own hw hf hs]

end Sys2Proof.Machine
end

section
/-! PROOF. The type codes, and registers that one field fills (R12; O48). -/

namespace Sys2Proof.Machine

theorem bit_fldWritten_w1c (c : Bool) (old w k : Nat) : bit (fldWritten .w1c c old w) k = (bit old k && !bit w k) := by
  simp only [bit_eq_testBit]
  exact testBit_sub_and old w k

theorem bit_fldWritten_w1s (c : Bool) (old w k : Nat) : bit (fldWritten .w1s c old w) k = (bit old k || bit w k) := by
  simp only [bit_eq_testBit]
  exact Nat.testBit_or old w k

theorem fldWritten_lt {n old w : Nat} (ty : FTy) (c : Bool) (ho : old < 2 ^ n) (hw : w < 2 ^ n) :
    fldWritten ty c old w < 2 ^ n := by
  cases ty with
  | rw => exact hw
  | w1c => exact Nat.lt_of_le_of_lt (Nat.sub_le _ _) ho
  | w1s => exact Nat.or_lt_two_pow ho hw
  | rwl =>
    cases c with
    | false => exact hw
    | true => exact ho
  | ro | rc | wo => exact ho

/-! ### A register of one 32-bit field -/

theorem Fld.part_whole {off : Nat} {f : Fld} (hk : f.key = 8 * off) (ha : off % 4 = 0) (hw : f.width = 32) :
    f.part off = (0, 0, 32) := by
  have hword : f.key / 32 * 4 = off := by omega
  have hbit : f.key % 32 = 0 := by omega
  simp [Fld.part, hword, hbit, hw]

section
variable {off : Nat} {f : Fld} (hf : fieldsAt off = [f]) (hk : f.key = 8 * off) (ha : off % 4 = 0) (hw : f.width = 32)
include hf hk ha hw

theorem Dev.rd_regWrite32_whole (d : Dev) (v : Nat) (ho : d.rd f < 2 ^ 32) (hv : v < 2 ^ 32)
    (hl : ∀ x, fldLegal f (d.rd f) x = x) :
    (d.regWrite32 off v).rd f = fldWritten f.ty (d.isCommitted off f.kept) (d.rd f) v := by
  have hlt := fldWritten_lt f.ty (d.isCommitted off f.kept) ho hv
  simp only [Dev.regWrite32, hf, List.foldl_cons, List.foldl_nil, Fld.part_whole hk ha hw, hl, Dev.rd_wr_same, hw,
    bits_zero_of_lt ho, bits_zero_of_lt hv, setBits_zero_of_lt ho hlt, Nat.mod_eq_of_lt hlt]

theorem Dev.rd_regClearRc_whole (d : Dev) (ho : d.rd f < 2 ^ 32) :
    (d.regClearRc off).rd f = if f.ty = .rc then 0 else d.rd f := by
  simp only [Dev.regClearRc, hf, List.foldl_cons, List.foldl_nil, Fld.part_whole hk ha hw]
  split
  · rw [setBits_zero_of_lt ho (Nat.two_pow_pos 32), Dev.rd_wr_same, Nat.zero_mod]
  · rfl

end

/-- Settles O48: the type codes bit by bit, then in a register that one field fills, then what a reset leaves of a commit. -/
theorem registerTypeCodes : Obligations.RegisterTypeCodes := by
  refine ⟨fun c old w k => ⟨rfl, rfl, bit_fldWritten_w1c c old w k, bit_fldWritten_w1s c old w k, rfl, rfl⟩, fun d f => rfl,
    fun d off v f hf hk ha hw ho hv hl => Dev.rd_regWrite32_whole hf hk ha hw d v ho hv hl,
    fun d off f hf hk ha hw ho => Dev.rd_regClearRc_whole hf hk ha hw d ho, fun d off p k h hp => ⟨?_, ?_⟩, ?_⟩
  · exact Dev.isCommitted_commitRwl d off p
  · rw [Dev.isCommitted_winReset _ k h hp, Dev.isCommitted_commitRwl, Bool.and_true]
  · decide +kernel

end Sys2Proof.Machine
end

section
/-! PROOF. Commands that change register fields at most (O58). -/

namespace Sys2Proof.Machine

/-- A device that differs from another in register fields at most. -/
def Dev.RegsOnly (d e : Dev) : Prop := ∃ r : Tab, e = { d with regs := r }

namespace Dev.RegsOnly

variable {d e : Dev}

theorem refl (d : Dev) : d.RegsOnly d := ⟨d.regs, rfl⟩

theorem wr (h : d.RegsOnly e) (f : Fld) (v : Nat) : d.RegsOnly (e.wr f v) := by
  obtain ⟨r, rfl⟩ := h
  exact ⟨_, rfl⟩

theorem setF (h : d.RegsOnly e) (f : Fld) : d.RegsOnly (e.setF f) := h.wr f 1

theorem clrF (h : d.RegsOnly e) (f : Fld) : d.RegsOnly (e.clrF f) := h.wr f 0

theorem foldl {α : Type} {g : Dev → α → Dev} (hg : ∀ (e : Dev) (x : α), d.RegsOnly e → d.RegsOnly (g e x)) (l : List α)
    (h : d.RegsOnly e) : d.RegsOnly (l.foldl g e) := by
  induction l generalizing e with
  | nil => exact h
  | cons x t ih => exact ih (hg e x h)

theorem foldN {g : Nat → Dev → Dev} (hg : ∀ (i : Nat) (e : Dev), d.RegsOnly e → d.RegsOnly (g i e)) (n : Nat)
    (h : d.RegsOnly e) : d.RegsOnly (foldN n g e) := by
  induction n with
  | zero => exact h
  | succ n ih => exact hg n _ ih

/-- The frame as the statements write it, of a command whose meaning changes register fields at most. -/
theorem ran_eq {s t : State} (h : s.dev.RegsOnly e) (ht : ran s e = .next t) :
    t = ⟨{ s.dev with regs := t.dev.regs }, s.pending⟩ := by
  obtain rfl : { s with dev := e } = t := Host.Outcome.next.inj ht
  obtain ⟨r, rfl⟩ := h
  rfl

end Dev.RegsOnly

/-! ### Commands that change register fields at most -/

theorem Dev.regsOnly_islandedCondSet (d : Dev) : d.RegsOnly d.islandedCondSet := by
  unfold Dev.islandedCondSet
  split
  · exact (RegsOnly.refl d).setF _
  · exact .refl d

theorem Dev.regsOnly_islandedCondClear (d : Dev) : d.RegsOnly d.islandedCondClear := by
  unfold Dev.islandedCondClear
  split
  · exact (RegsOnly.refl d).clrF _
  · exact .refl d

theorem Dev.regsOnly_d3hotEnter (d : Dev) : d.RegsOnly d.d3hotEnter :=
  RegsOnly.foldl (fun _ _ h => h.setF _) _ ((RegsOnly.refl d).setF _)

/-- R275 has the unlock refused in Recovery, which raises a source. -/
theorem Dev.regsOnly_pavUnlock (d : Dev) (hm : d.mode ≠ .recovery) : d.RegsOnly d.pavUnlock := by
  unfold Dev.pavUnlock
  rw [if_neg (by simpa using hm)]
  exact ((RegsOnly.refl d).setF _).setF _

theorem Dev.regsOnly_ethTxqPost (d : Dev) (q v : Nat) : d.RegsOnly (d.ethTxqPost q v) := (RegsOnly.refl d).wr _ _

theorem Dev.regsOnly_ethWakeCfgWrite (d : Dev) (v : Nat) : d.RegsOnly (d.ethWakeCfgWrite v) := by
  have h : d.RegsOnly ((d.wr F.ETH_WAKE_CFG_link_wake (bits v 16 8)).wr F.ETH_WAKE_CFG_pat_en (bits v 0 4)) :=
    ((RegsOnly.refl d).wr _ _).wr _ _
  simp only [Dev.ethWakeCfgWrite]
  split
  · exact h.wr _ _
  · exact (h.wr _ _).setF _

theorem Dev.regsOnly_mzkBeaconForce (d : Dev) (n : Nat) : d.RegsOnly (d.mzkBeaconForce n) := by
  have h : d.RegsOnly (d.setF (F.MZK_CTRL_beacon_force.at n)) := (RegsOnly.refl d).setF _
  simp only [Dev.mzkBeaconForce]
  split
  · exact ((h.clrF _).setF _).clrF _
  · exact h.clrF _

theorem Dev.regsOnly_plcBeaconForce (d : Dev) (n : Nat) : d.RegsOnly (d.plcBeaconForce n) := by
  have h : d.RegsOnly (d.setF (F.PLK_CTRL_beacon_force.at n)) := (RegsOnly.refl d).setF _
  simp only [Dev.plcBeaconForce]
  split
  · exact ((h.clrF _).setF _).clrF _
  · exact h.clrF _

/-- Of a host source the class alone changes (R79). -/
theorem Dev.regsOnly_icuSrcCfgWrite (d : Dev) {n : Nat} (v : Nat) (hn : n < 64) : d.RegsOnly (d.icuSrcCfgWrite n v) := by
  unfold Dev.icuSrcCfgWrite
  rw [if_pos hn]
  exact (RegsOnly.refl d).wr _ _

theorem Dev.regsOnly_logSelWrite (d : Dev) (v : Nat) : d.RegsOnly (d.logSelWrite v) :=
  RegsOnly.foldN (fun _ _ h => h.wr _ _) 8 (((RegsOnly.refl d).wr _ _).setF _)

/-- Settles O58: each meaning is made of writes of fields. -/
theorem registerOnlyCommandsFrame : Obligations.RegisterOnlyCommandsFrame :=
  ⟨fun s _ => (s.dev.regsOnly_islandedCondSet).ran_eq,
   fun s _ => (s.dev.regsOnly_islandedCondClear).ran_eq,
   fun s _ => (s.dev.regsOnly_d3hotEnter).ran_eq,
   fun s _ hm => (s.dev.regsOnly_pavUnlock hm).ran_eq,
   fun q v s _ => (s.dev.regsOnly_ethTxqPost q.val v.toNat).ran_eq,
   fun v s _ => (s.dev.regsOnly_ethWakeCfgWrite v.toNat).ran_eq,
   fun n s _ => (s.dev.regsOnly_mzkBeaconForce n.val).ran_eq,
   fun n s _ => (s.dev.regsOnly_plcBeaconForce n.val).ran_eq,
   fun _ v s _ hn => (s.dev.regsOnly_icuSrcCfgWrite v.toNat hn).ran_eq,
   fun v s _ => (s.dev.regsOnly_logSelWrite v.toNat).ran_eq⟩

end Sys2Proof.Machine
end

section
/-! PROOF. Accesses of registers: what R38 stops, pairs, and two registers of SYS (O1). -/

namespace Sys2Proof.Machine

/-! ### Register accesses that R38 stops or serves -/

theorem Dev.regWr_of_not_pair (d : Dev) (m off v : Nat) (hlo : isPairLo off = false) (hhi : isPairLo (off - 4) = false) :
    d.regWr m off v = d.regStore m off v := by
  simp [Dev.regWr, hlo, hhi]

theorem Dev.regWrChecked_of_served {d : Dev} {off : Nat} (h : d.regMiss off = none) (m v : Nat) :
    d.regWrChecked m off v = d.regWr m off v := by
  simp only [Dev.regWrChecked, h]

theorem Dev.pairHiWrite_of_served {d : Dev} {off : Nat} (h : d.regMiss off = none) (m v : Nat) :
    d.pairHiWrite m off v = d.regPairHiWrite m off v := by
  simp only [Dev.pairHiWrite, h]

theorem Dev.pairLoWrite_of_served {d : Dev} {off : Nat} (h : d.regMiss off = none) (m v : Nat) :
    d.pairLoWrite m off v = d.regPairLoWrite m off v := by
  simp only [Dev.pairLoWrite, h]

theorem Dev.regRead_of_served {d : Dev} {off : Nat} (h : d.regMiss off = none) (m : Nat) :
    d.regRead m off = (d.regRd m off).1.emit (.readData m off (leBytes 4 (d.regRd m off).2) false) := by
  simp only [Dev.regRead, h]

theorem Dev.pairHiWrite_of_miss {d : Dev} {off k : Nat} (h : d.regMiss off = some k) (m v : Nat) :
    d.pairHiWrite m off v = d.badWrite k m off := by
  simp only [Dev.pairHiWrite, h]

theorem Dev.pairLoWrite_of_miss {d : Dev} {off k : Nat} (h : d.regMiss off = some k) (m v : Nat) :
    d.pairLoWrite m off v = d.badWrite k m off := by
  simp only [Dev.pairLoWrite, h]

theorem Dev.regRead_of_miss {d : Dev} {off k : Nat} (h : d.regMiss off = some k) (m : Nat) :
    d.regRead m off = d.badRead k m off 4 := by
  simp only [Dev.regRead, h]

section
variable {off : Nat} (h1 : off ≠ 0x30020) (h2 : off ≠ 0xC0024) (h3 : off ≠ 0xC0150)
include h1 h2 h3

/-! The three pairs left out have an effect of their own as a whole. -/

theorem Dev.pairStore_lo (d : Dev) (m lo : Nat) : d.pairStore m off lo none = d.regStore m off lo := by
  simp only [Dev.pairStore, h1, h2, h3, if_false]

theorem Dev.pairStore_both (d : Dev) (m lo hi : Nat) :
    d.pairStore m off lo (some hi) = (d.regStore m (off + 4) hi).regStore m off lo := by
  simp only [Dev.pairStore, h1, h2, h3, if_false]

end

/-! ### Registers of SYS -/

theorem Dev.regMiss_sys {d : Dev} {off : Nat} (hfab : d.domOn .fab = true) (hoff : off / 0x10000 = 0) (hr : regHere off = true) :
    d.regMiss off = none := by
  simp [Dev.regMiss, Dev.regOn, hfab, hoff, hr]

theorem Dev.wr_congr (d : Dev) (f : Fld) {v w : Nat} (h : v % 2 ^ f.width = w % 2 ^ f.width) : d.wr f v = d.wr f w := by
  simp only [Dev.wr, h]

theorem fieldsAt_hallCeCount : fieldsAt 0x20 = [F.SYS_HALL_CE_COUNT_count] := by decide +kernel
theorem fieldsAt_aperBaseLo : fieldsAt 0x28 = [F.SYS_APER_BASE_LO_base_lo] := by decide +kernel
theorem fieldsAt_aperBaseHi : fieldsAt 0x2C = [F.SYS_APER_BASE_HI_base_hi] := by decide +kernel

theorem Dev.regWord_hallCeCount (d : Dev) : d.regWord 0x20 = d.rd F.SYS_HALL_CE_COUNT_count % 2 ^ 32 := by
  simp [Dev.regWord, fieldsAt_hallCeCount, Dev.fldReads, Fld.part, F.SYS_HALL_CE_COUNT_count, bits]

theorem Dev.regWord_aperBaseLo (d : Dev) : d.regWord 0x28 = d.rd F.SYS_APER_BASE_LO_base_lo % 4 * 2 ^ 30 := by
  simp [Dev.regWord, fieldsAt_aperBaseLo, Dev.fldReads, Fld.part, F.SYS_APER_BASE_LO_base_lo, bits]

theorem Dev.regWord_aperBaseHi (d : Dev) : d.regWord 0x2C = d.rd F.SYS_APER_BASE_HI_base_hi % 2 ^ 16 := by
  simp [Dev.regWord, fieldsAt_aperBaseHi, Dev.fldReads, Fld.part, F.SYS_APER_BASE_HI_base_hi, bits]

theorem Dev.regClearRc_aperBaseLo (d : Dev) : d.regClearRc 0x28 = d := by
  simp [Dev.regClearRc, fieldsAt_aperBaseLo, F.SYS_APER_BASE_LO_base_lo]

theorem Dev.regClearRc_hallCeCount (d : Dev) : d.regClearRc 0x20 = d.wr F.SYS_HALL_CE_COUNT_count 0 := by
  have hset : setBits (d.rd F.SYS_HALL_CE_COUNT_count) 0 32 0 % 2 ^ 32 = 0 % 2 ^ 32 := by
    simp [setBits, Nat.mod_one]
  simp only [Dev.regClearRc, fieldsAt_hallCeCount, List.foldl_cons, List.foldl_nil]
  exact Dev.wr_congr d F.SYS_HALL_CE_COUNT_count hset

/-- No rule of reads but the type codes names the offset. -/
theorem Dev.regRd_hallCeCount (d : Dev) (m : Nat) :
    d.regRd m 0x20 = (d.wr F.SYS_HALL_CE_COUNT_count 0, d.rd F.SYS_HALL_CE_COUNT_count % 2 ^ 32) := by
  have e : d.regRd m 0x20 = (d.regClearRc 0x20, d.regWord 0x20) := rfl
  rw [e, Dev.regClearRc_hallCeCount, Dev.regWord_hallCeCount]

/-- The offset is the low half of a pair (R547), and no other rule of reads names it. -/
theorem Dev.regRd_aperBaseLo (d : Dev) (m : Nat) :
    d.regRd m 0x28
      = ({ d with sys := { d.sys with capHi := mput d.sys.capHi (holdKey m 0x2C) (d.rd F.SYS_APER_BASE_HI_base_hi % 2 ^ 16) } },
        d.rd F.SYS_APER_BASE_LO_base_lo % 4 * 2 ^ 30) := by
  have e : ∀ e, e = d.regClearRc 0x28 → d.regRd m 0x28
      = ({ e with sys := { e.sys with capHi := mput e.sys.capHi (holdKey m 0x2C) (e.regWord 0x2C) } }, d.regWord 0x28) := by
    rintro _ rfl
    rfl
  rw [e d (Dev.regClearRc_aperBaseLo d).symm, Dev.regWord_aperBaseLo, Dev.regWord_aperBaseHi]

/-- Settles O1: each command's meaning is the register operation its clause names, once R38 lets it through. -/
theorem registerCommandsComplete : Obligations.RegisterCommandsComplete := by
  refine ⟨fun m off v d q ha hm hlo hhi => ?_, fun m off size v d q hbad => ?_, fun m off v d q hm => ?_,
    fun m off v h d e q hm h1 h2 h3 hh he => ?_, fun m off v d e q hm h1 h2 h3 hh he => ?_,
    fun m off v k d q hm => ⟨?_, ?_, ?_, ?_⟩,
    fun m d q hfab _ => ?_, fun m d q hfab => ?_⟩
  · have e : d.registerWrite m.toNat off.toNat 4 v.toNat = d.regStore m.toNat off.toNat (v.toNat % 2 ^ 32) := by
      rw [← Dev.regWr_of_not_pair d _ _ _ hlo hhi, ← Dev.regWrChecked_of_served hm]
      simp [Dev.registerWrite, ha]
    exact congrArg (ran ⟨d, q⟩) e
  · have e : d.registerWrite m.toNat off.toNat size v.toNat = d.badWrite 0 m.toNat off.toNat := by
      rw [Dev.registerWrite, if_pos (by simpa using hbad)]
    exact congrArg (ran ⟨d, q⟩) e
  · exact congrArg (ran ⟨d, q⟩) (Dev.pairHiWrite_of_served hm m.toNat v.toNat)
  · have e' : d.pairLoWrite m.toNat off.toNat v.toNat
        = (e.regStore m.toNat (off.toNat + 4) h).regStore m.toNat off.toNat v.toNat := by
      rw [Dev.pairLoWrite_of_served hm, Dev.regPairLoWrite, hh, ← he, Dev.pairStore_both h1 h2 h3]
    exact congrArg (ran ⟨d, q⟩) e'
  · have e' : d.pairLoWrite m.toNat off.toNat v.toNat = e.regStore m.toNat off.toNat v.toNat := by
      rw [Dev.pairLoWrite_of_served hm, Dev.regPairLoWrite, hh, ← he, Dev.pairStore_lo h1 h2 h3]
    exact congrArg (ran ⟨d, q⟩) e'
  · exact congrArg (ran ⟨d, q⟩) (Dev.pairHiWrite_of_miss hm m.toNat v.toNat)
  · exact congrArg (ran ⟨d, q⟩) (Dev.pairLoWrite_of_miss hm m.toNat v.toNat)
  · exact congrArg (ran ⟨d, q⟩) (Dev.regRead_of_miss hm m.toNat)
  · exact congrArg (ran ⟨d, q⟩) (Dev.regRead_of_miss hm m.toNat)
  · have hm : d.regMiss 0x28 = none := Dev.regMiss_sys hfab rfl (by decide +kernel)
    have e := Dev.regRead_of_served hm m.toNat
    rw [Dev.regRd_aperBaseLo] at e
    exact ⟨_, congrArg (ran ⟨d, q⟩) e, mget?_mput_same _ _ _, rfl, rfl, rfl, rfl⟩
  · have hm : d.regMiss 0x20 = none := Dev.regMiss_sys hfab rfl (by decide +kernel)
    have e := Dev.regRead_of_served hm m.toNat
    rw [Dev.regRd_hallCeCount] at e
    exact congrArg (ran ⟨d, q⟩) e

end Sys2Proof.Machine
end

section
/-! PROOF. Accesses through the fabric to registers, the windows, nothing and configuration space (O3). -/

namespace Sys2Proof.Machine

/-! ### What an internal address reaches (R32) -/

theorem Dev.regionOf_reg (d : Dev) {a n : Nat} (h : a + n ≤ 0x4000000) : d.regionOf a n = .reg a := if_pos h

theorem inHall_above {a : Nat} (n : Nat) (h : 0x103000000 < a) : inHall a n = false := by
  have hend : ¬ a + n ≤ hallBase + 0x3000000 := by
    unfold hallBase
    omega
  simp [inHall, hend]

theorem Dev.regionOf_partner {d : Dev} {a n : Nat} (hlo : 0x400000000000 ≤ a) (hhi : a + n ≤ 0x800000000000)
    (hdram : d.inDram a n = false) : d.regionOf a n = .partner (a - 0x400000000000) := by
  have hhall := inHall_above (a := a) n (by omega)
  simp only [Dev.regionOf, hhall, hdram, Bool.and_eq_true, decide_eq_true_eq]
  rw [if_neg (by omega), if_neg (by omega), if_neg (by omega), if_neg (by decide), if_neg (by decide), if_pos (by omega)]

theorem Dev.regionOf_outbound {d : Dev} {a n : Nat} (hn : 0 < n) (hlo : 0x800000000000 ≤ a) (hhi : a + n ≤ 2 ^ 48)
    (hdram : d.inDram a n = false) : d.regionOf a n = .outbound (a - 0x800000000000) := by
  have hhall := inHall_above (a := a) n (by omega)
  simp only [Dev.regionOf, hhall, hdram, Bool.and_eq_true, decide_eq_true_eq]
  rw [if_neg (by omega), if_neg (by omega), if_neg (by omega), if_neg (by decide), if_neg (by decide), if_neg (by omega),
    if_pos (by omega)]

/-! ### Accesses by the view they come by (R30, R34, R35) -/

/-- Through the internal view every address is its own; the host alone has no atomic operations there. -/
theorem Dev.fabricAccess_internal (d : Dev) {x : Access} (hp : x.port = .internal) (ha : x.atomic = none ∨ x.master ≠ 0) :
    d.fabricAccess x = d.serve x x.addr.toNat := by
  have hamo : ¬ (x.atomic.isSome && decide (x.master.toNat = 0)) = true := by
    rcases ha with h | h
    · simp [h]
    · simpa using fun _ h0 => h (BitVec.eq_of_toNat_eq h0)
  simp only [Dev.fabricAccess, hp, hamo, viewAddr, x.addr.isLt, if_true]
  rfl

theorem Dev.fabricAccess_config (d : Dev) {x : Access} (hp : x.port = .config) : d.fabricAccess x = d.cfgAccess x := by
  simp only [Dev.fabricAccess, hp, if_true]

theorem Dev.fabricAccess_bar0_unmapped (d : Dev) {x : Access} (hp : x.port = .bar0) (hx : 0x4000000 ≤ x.addr.toNat)
    (ha : x.atomic = none) :
    d.fabricAccess x = if x.write then d.badWrite 1 x.master.toNat x.addr.toNat
      else d.badRead 1 x.master.toNat x.addr.toNat x.size := by
  simp [Dev.fabricAccess, hp, ha, viewAddr, Nat.not_lt.2 hx]

/-! ### What serves an access at its region -/

section
variable {d : Dev} {x : Access} {a : Nat}

theorem Dev.serve_reg {off : Nat} (hr : d.regionOf a x.size = .reg off) (ha : x.atomic = none) :
    d.serve x a = d.regAccess x off := by
  simp [Dev.serve, hr, ha]

theorem Dev.serve_partner {p : Nat} (hr : d.regionOf a x.size = .partner p) (ha : x.atomic = none) :
    d.serve x a = d.partnerAccess x p := by
  simp [Dev.serve, hr, ha]

theorem Dev.serve_outbound {o : Nat} (hr : d.regionOf a x.size = .outbound o) (ha : x.atomic = none) :
    d.serve x a = d.outboundAccess x o := by
  simp [Dev.serve, hr, ha]

theorem Dev.serve_reg_atomic {off : Nat} {o : Amo} (hr : d.regionOf a x.size = .reg off) (ha : x.atomic = some o) :
    d.serve x a = (d.errCapture 8 x.master.toNat a x.write).emit (.readData x.master.toNat a [] true) := by
  simp [Dev.serve, hr, ha]

theorem Dev.regAccess_read32 {off : Nat} (hw : x.write = false) (hs : x.size = 4) (ho : off % 4 = 0) :
    d.regAccess x off = d.regRead x.master.toNat off := by
  simp [Dev.regAccess, hw, hs, ho]

theorem Dev.regAccess_write32 {off : Nat} (hw : x.write = true) (hs : x.size = 4) (ho : off % 4 = 0) :
    d.regAccess x off = d.regWrChecked x.master.toNat off (leNat x.data % 2 ^ 32) := by
  simp [Dev.regAccess, Dev.registerWrite, hw, hs, ho]

theorem Dev.partnerAccess_write {p : Nat} (hw : x.write = true) (hs : x.size = 4 ∨ x.size = 8)
    (hl : d.on F.EPL_STATUS_link_up = true) :
    d.partnerAccess x p = d.eplSend 0x11 (leBytes 8 p ++ leBytes 4 x.size ++ zeros 4 ++ padTo 8 (x.data.take x.size)) := by
  have hsize : (x.size != 4 && x.size != 8) = false := by
    rcases hs with h | h <;> simp [h]
  simp [Dev.partnerAccess, hl, hsize, hw]

theorem Dev.partnerAccess_write_down {p : Nat} (hw : x.write = true) (hl : d.on F.EPL_STATUS_link_up = false) :
    d.partnerAccess x p = d.badWrite 3 x.master.toNat (0x400000000000 + p) := by
  simp [Dev.partnerAccess, hl, hw]

theorem Dev.outboundAccess_write {o : Nat} (hw : x.write = true) (hfit : d.outbAddr o + x.size ≤ 2 ^ 64)
    (hh : d.hostReach = true) : d.outboundAccess x o = d.emit (.hostWrite (d.outbAddr o) (padTo x.size x.data)) := by
  simp only [Dev.outboundAccess, if_neg (Nat.not_lt.2 hfit), hh, hw, Bool.not_true, if_true]
  rfl

theorem Dev.cfgAccess_early (h : d.hostReady = false) : d.cfgAccess x = d.emit .cfgRetry := by
  simp [Dev.cfgAccess, h]

theorem Dev.cfgAccess_read (h : d.hostReady = true) (hw : x.write = false) :
    d.cfgAccess x = d.emit (.readData 0 (x.addr.toNat / 4 * 4) (leBytes 4 (d.cfgWord (x.addr.toNat / 4 * 4))) false) := by
  simp [Dev.cfgAccess, h, hw]

end

/-- Settles O3: each clause's address lies in one region, and the region's rule serves the access. -/
theorem fabricWindowsComplete : Obligations.FabricWindowsComplete := by
  refine ⟨fun x d q ha hw hp hs h4 hx => ?_, fun x d q ha hw hp hs h4 hx => ?_, fun x d q ha hw hp hs hlo hhi hd hl => ?_,
    fun x d q ha hw hp hlo hhi hd hl => ?_, fun x d q ha hw hp hn hlo hhi hd hfit hh => ?_, fun x o d q ha hm hp hx => ?_,
    fun x d q hp hx ha => ?_, fun x d q hp h => ?_, fun x d q hp h hw => ?_⟩ <;> refine congrArg (ran ⟨d, q⟩) ?_
  · rw [d.fabricAccess_internal hp (.inl ha), Dev.serve_reg (d.regionOf_reg (by omega)) ha, Dev.regAccess_read32 hw hs h4]
  · rw [d.fabricAccess_internal hp (.inl ha), Dev.serve_reg (d.regionOf_reg (by omega)) ha, Dev.regAccess_write32 hw hs h4]
  · rw [d.fabricAccess_internal hp (.inl ha), Dev.serve_partner (Dev.regionOf_partner hlo hhi hd) ha,
      Dev.partnerAccess_write hw hs hl]
  · rw [d.fabricAccess_internal hp (.inl ha), Dev.serve_partner (Dev.regionOf_partner hlo hhi hd) ha,
      Dev.partnerAccess_write_down hw hl, Nat.add_sub_cancel' hlo]
  · rw [d.fabricAccess_internal hp (.inl ha), Dev.serve_outbound (Dev.regionOf_outbound hn hlo hhi hd) ha,
      Dev.outboundAccess_write hw hfit hh]
  · rw [d.fabricAccess_internal hp (.inr hm), Dev.serve_reg_atomic (d.regionOf_reg hx) ha]
  · exact d.fabricAccess_bar0_unmapped hp hx ha
  · rw [d.fabricAccess_config hp, Dev.cfgAccess_early h]
  · rw [d.fabricAccess_config hp, Dev.cfgAccess_read h hw]

end Sys2Proof.Machine
end

section
/-! PROOF. FIFOs: what a store of contents leaves, and full FIFOs of both kinds (R26; O54). -/

namespace Sys2Proof.Machine

/-! ### What storing a FIFO's contents leaves -/

@[simp] theorem Dev.syncFifo_fifos (d : Dev) (off : Nat) : (d.syncFifo off).fifos = d.fifos := by
  unfold Dev.syncFifo
  split <;> rfl

@[simp] theorem Dev.fifo_bump (d : Dev) (off k : Nat) (f : Fld) : (d.bump f k).fifo off = d.fifo off := rfl

theorem Dev.fifoStore_fifos (d : Dev) (off : Nat) (q : Fifo) : (d.fifoStore off q).fifos = mput d.fifos off q := by
  simp only [Dev.fifoStore, Dev.syncFifo_fifos]
  repeat' split
  all_goals rfl

@[simp] theorem Dev.fifo_fifoStore (d : Dev) (off : Nat) (q : Fifo) : (d.fifoStore off q).fifo off = q := by
  simp only [Dev.fifo, Dev.fifoStore_fifos, mgetD_mput_same]

/-- A FIFO's source shows in ICU_INPUTw alone. -/
theorem Dev.rd_syncFifo_other (d : Dev) (off : Nat) (g : Fld)
    (h : ∀ n, fifoSource off = some n → g.key ≠ (F.ICU_INPUT_input.at (n / 32)).key) : (d.syncFifo off).rd g = d.rd g := by
  unfold Dev.syncFifo
  split
  · rfl
  · next n hn => exact Dev.rd_wrBit_other d _ g _ _ (h n hn)

/-- A store leaves every field but LEVEL, the two watermark bits and the source's input (R28). -/
theorem Dev.rd_fifoStore_other (d : Dev) (off : Nat) (q : Fifo) (g : Fld)
    (hlevel : g.key ≠ (fqFld off F.WLZ_FQ_LEVEL_level).key) (hpeak : g.key ≠ (fqFld off F.WLZ_FQ_LEVEL_peak).key)
    (hhigh : g.key ≠ (fqFld off F.WLZ_FQ_STAT_wm_high_hit).key) (hlow : g.key ≠ (fqFld off F.WLZ_FQ_STAT_wm_low_hit).key)
    (hsrc : ∀ n, fifoSource off = some n → g.key ≠ (F.ICU_INPUT_input.at (n / 32)).key) :
    (d.fifoStore off q).rd g = d.rd g := by
  have hitem (v : Nat) : (({ d with fifos := mput d.fifos off q } : Dev).wr (fqFld off F.WLZ_FQ_LEVEL_level) v).rd g = d.rd g :=
    Dev.rd_wr_other _ _ _ _ hlevel
  simp only [Dev.fifoStore]
  rw [Dev.rd_syncFifo_other _ _ _ hsrc]
  split <;> split <;> split <;>
    simp only [Dev.rd_setF_other _ _ _ hlow, Dev.rd_setF_other _ _ _ hhigh, Dev.rd_wr_other _ _ _ _ hpeak, hitem]

/-! ### The freshest-wins FIFOs -/

theorem fifoFreshest_iff (off : Nat) : fifoFreshest off = true ↔ off = 0xC0120 ∨ off = 0xC0130 ∨ off = 0x110030 := by
  simp [fifoFreshest, or_assoc]

theorem lost_key_ne_input {off n : Nat} (h : fifoFreshest off = true) (hn : fifoSource off = some n) :
    (fqFld off F.WLZ_FQ_STAT_lost).key ≠ (F.ICU_INPUT_input.at (n / 32)).key := by
  rcases (fifoFreshest_iff off).1 h with rfl | rfl | rfl <;> cases hn <;> decide

theorem Dev.rd_lost_fifoStore (d : Dev) {off : Nat} (q : Fifo) (h : fifoFreshest off = true) :
    (d.fifoStore off q).rd (fqFld off F.WLZ_FQ_STAT_lost) = d.rd (fqFld off F.WLZ_FQ_STAT_lost) := by
  refine Dev.rd_fifoStore_other d off q _ ?_ ?_ ?_ ?_ fun n hn => lost_key_ne_input h hn
  all_goals
    unfold fqFld
    simp [F.WLZ_FQ_STAT_lost, F.WLZ_FQ_CTRL_flush, F.WLZ_FQ_LEVEL_level, F.WLZ_FQ_LEVEL_peak, F.WLZ_FQ_STAT_wm_high_hit,
      F.WLZ_FQ_STAT_wm_low_hit]

/-! ### Saturation -/

theorem satAdd_le (m a b : Nat) : satAdd m a b ≤ m := by
  unfold satAdd
  split <;> omega

theorem Dev.rd_bump_same (d : Dev) (f : Fld) (k : Nat) : (d.bump f k).rd f = satAdd (2 ^ f.width - 1) (d.rd f) k := by
  have hlt : satAdd (2 ^ f.width - 1) (d.rd f) k < 2 ^ f.width :=
    Nat.lt_of_le_of_lt (satAdd_le _ _ _) (Nat.sub_lt (Nat.two_pow_pos _) Nat.one_pos)
  rw [Dev.bump, Dev.rd_wr_same, Nat.mod_eq_of_lt hlt]

/-! ### Putting an item in -/

section
variable {d : Dev} {off cap : Nat} {it : List Byte}

theorem Dev.fifoPush_room (h : d.fifoRoom off cap it = true) :
    d.fifoPush off cap it = d.fifoStore off { d.fifo off with items := (d.fifo off).items ++ [it] } := by
  simp only [Dev.fifoPush, h, if_true]

theorem Dev.fifoPush_full_freshest (hf : fifoFreshest off = true) (h : d.fifoRoom off cap it = false) :
    d.fifoPush off cap it = (d.fifoStore off { d.fifo off with items := (d.fifo off).items.drop 1 ++ [it] }).bump
      (fqFld off F.WLZ_FQ_STAT_lost) := by
  simp only [Dev.fifoPush, h, hf, if_true, Bool.false_eq_true, if_false]

theorem Dev.fifoPush_full_other (hf : fifoFreshest off = false) (h : d.fifoRoom off cap it = false) :
    d.fifoPush off cap it = d := by
  simp only [Dev.fifoPush, h, hf, Bool.false_eq_true, if_false]

end

/-- Settles O54: each clause is one branch of putting an item in. -/
theorem freshestFifoDropsTheOldest : Obligations.FreshestFifoDropsTheOldest := by
  refine ⟨fun off cap it d hf h => ⟨?_, ?_⟩, fun off cap it d hf h => Dev.fifoPush_full_other hf h, fun off cap it d h => ?_,
    fun m n hm => ⟨satAdd_le _ _ _, fun hlt => if_pos hlt, ?_⟩⟩
  · rw [Dev.fifoPush_full_freshest hf h, Dev.fifo_bump, Dev.fifo_fifoStore]
  · rw [Dev.fifoPush_full_freshest hf h, Dev.rd_bump_same, Dev.rd_lost_fifoStore d _ hf]
    rfl
  · rw [Dev.fifoPush_room h, Dev.fifo_fifoStore]
  · unfold satAdd
    split <;> omega

end Sys2Proof.Machine
end

section
/-! PROOF. Accesses through the fabric to memory, atomic operations included (O2). -/

namespace Sys2Proof.Machine

/-! ### The regions of memory (R32) -/

theorem Dev.regionOf_sram (d : Dev) {a n : Nat} (hlo : 0x8000000 ≤ a) (hhi : a + n ≤ 0x8040000) : d.regionOf a n = .sram := by
  simp only [Dev.regionOf, Bool.and_eq_true, decide_eq_true_eq]
  rw [if_neg (by omega), if_pos ⟨hlo, hhi⟩]

theorem Dev.regionOf_rom (d : Dev) {a n : Nat} (hlo : 0xC000000 ≤ a) (hhi : a + n ≤ 0xC020000) : d.regionOf a n = .rom := by
  simp only [Dev.regionOf, Bool.and_eq_true, decide_eq_true_eq]
  rw [if_neg (by omega), if_neg (by omega), if_pos ⟨hlo, hhi⟩]

theorem Dev.regionOf_hall (d : Dev) {a n : Nat} (h : inHall a n = true) : d.regionOf a n = .hall := by
  have hbase : 0x100000000 ≤ a := by
    simp only [inHall, Bool.and_eq_true, decide_eq_true_eq] at h
    exact h.1
  simp only [Dev.regionOf, h, Bool.and_eq_true, decide_eq_true_eq]
  rw [if_neg (by omega), if_neg (by omega), if_neg (by omega), if_pos trivial]

theorem Dev.regionOf_dram {d : Dev} {a n : Nat} (h : d.inDram a n = true) : d.regionOf a n = .dram := by
  have hbase : 0x10000000000 ≤ a := by
    simp only [Dev.inDram, Bool.and_eq_true, decide_eq_true_eq] at h
    exact h.1
  have hhall := inHall_above (a := a) n (by omega)
  simp only [Dev.regionOf, h, hhall, Bool.and_eq_true, decide_eq_true_eq]
  rw [if_neg (by omega), if_neg (by omega), if_neg (by omega), if_neg (by decide), if_pos trivial]

/-! ### Accesses that the error correction passes (R38) -/

section
variable {d : Dev} {x : Access} {a : Nat} {hall : Bool}

/-- No word that the access reads is poisoned: the Hall knows none, and a write reads none. -/
theorem Dev.eccCheck_clean (he : x.ecc = .clean) (h : hall = true ∨ x.write = true ∨ d.pmu.poison = []) :
    d.eccCheck x a hall = (d, false) := by
  have hp : (!hall && !x.write && d.pmu.poison.any (fun w => decide (w < a + x.size) && decide (a < w + 4))) = false := by
    rcases h with h | h | h <;> simp [h]
  simp only [Dev.eccCheck, he, hp, Bool.false_eq_true, if_false]

theorem Dev.memAccess_write (he : x.ecc = .clean) (hw : x.write = true) :
    d.memAccess x a hall = (d.bytesWr a (padTo x.size x.data)).unreserve x.master.toNat a x.size := by
  simp only [Dev.memAccess, Dev.eccCheck_clean he (.inr (.inl hw)), hw, if_true]

theorem Dev.memAccess_read (he : x.ecc = .clean) (hw : x.write = false) (h : hall = true ∨ d.pmu.poison = []) :
    d.memAccess x a hall = d.emit (.readData x.master.toNat a (d.bytesRd a x.size) false) := by
  simp only [Dev.memAccess, Dev.eccCheck_clean he (h.imp_right .inr), hw, Bool.false_eq_true, if_false]

/-! ### Atomic operations on the Hall (R35) -/

/-- An atomic operation's access of the Hall counts as a read. -/
theorem Dev.eccCheck_hall_read (he : x.ecc = .clean) : d.eccCheck { x with write := false } a true = (d, false) :=
  Dev.eccCheck_clean he (.inl rfl)

/-- The size and alignment that R35 asks for, as the model tests them. -/
theorem amo_aligned (hs : x.size = 4 ∨ x.size = 8) (ha : a % x.size = 0) :
    (!((decide (x.size = 4) || decide (x.size = 8)) && a % x.size == 0)) = false := by
  simpa [ha] using hs.resolve_left

section
variable (he : x.ecc = .clean) (hs : x.size = 4 ∨ x.size = 8) (ha : a % x.size = 0)
include he hs ha

theorem Dev.amoAccess_amo {o : Amo} (hlr : o ≠ .lr) (hsc : o ≠ .sc) :
    d.amoAccess x o a true = ((d.bytesWr a (leBytes x.size (amoResult o (8 * x.size) (leNat (d.bytesRd a x.size))
      (leNat (padTo x.size x.data))))).unreserve x.master.toNat a x.size).emit
        (.readData x.master.toNat a (d.bytesRd a x.size) false) := by
  simp only [Dev.amoAccess, amo_aligned hs ha, Dev.eccCheck_hall_read he, Bool.false_eq_true, if_false]

theorem Dev.amoAccess_lr :
    d.amoAccess x .lr a true
      = ({ d with sys := { d.sys with reserve := mput d.sys.reserve x.master.toNat (a, x.size) } }).emit
          (.readData x.master.toNat a (d.bytesRd a x.size) false) := by
  simp only [Dev.amoAccess, amo_aligned hs ha, Dev.eccCheck_hall_read he, Bool.false_eq_true, if_false]

theorem Dev.amoAccess_sc_unreserved (hr : mget? d.sys.reserve x.master.toNat = none) :
    d.amoAccess x .sc a true
      = ({ d with sys := { d.sys with reserve := mdel d.sys.reserve x.master.toNat } }).emit
          (.readData x.master.toNat a (leBytes x.size 1) false) := by
  have hok : (none == some (a, x.size)) = false := rfl
  simp only [Dev.amoAccess, amo_aligned hs ha, Dev.eccCheck_hall_read he, hr, hok, Bool.false_eq_true, if_false]
  rfl

end

/-! ### What serves an access of memory -/

theorem Dev.serve_hall (hr : d.regionOf a x.size = .hall) (hf : d.domOn .fab = true) : d.serve x a = d.memServe x a true := by
  simp [Dev.serve, hr, hf]

/-- The SRAM and the ROM take no finding of an error correction from an access. -/
theorem Dev.serve_sram (hr : d.regionOf a x.size = .sram) (hf : d.domOn .fab = true) (ha : x.atomic = none) :
    d.serve x a = d.memAccess { x with ecc := .clean } a true := by
  simp [Dev.serve, hr, hf, Dev.memServe, ha]

theorem Dev.serve_rom_read (hr : d.regionOf a x.size = .rom) (ha : x.atomic = none) (hw : x.write = false) :
    d.serve x a = d.memAccess { x with ecc := .clean } a true := by
  simp [Dev.serve, hr, ha, hw, Dev.memServe]

theorem Dev.serve_rom_write (hr : d.regionOf a x.size = .rom) (hw : x.write = true) :
    d.serve x a = d.badWrite 7 x.master.toNat a := by
  simp [Dev.serve, hr, hw]

/-- DRAM that is not in self-refresh serves at once (R491). -/
theorem Dev.serve_dram (hr : d.regionOf a x.size = .dram) (hd : d.domOn .dmc = true) (hs : d.on F.DMC_STATUS_self_refresh = false) :
    d.serve x a = d.memServe x a false := by
  simp [Dev.serve, hr, hd, Dev.dramWake, hs]

theorem Dev.memServe_plain (ha : x.atomic = none) : d.memServe x a hall = d.memAccess x a hall := by
  simp only [Dev.memServe, ha]

theorem Dev.memServe_atomic {o : Amo} (ha : x.atomic = some o) : d.memServe x a hall = d.amoAccess x o a hall := by
  simp only [Dev.memServe, ha]

/-- The host's AtomicOps reach nothing, whatever they name (R35). -/
theorem Dev.fabricAccess_hostAtomic (d : Dev) (ha : x.atomic.isSome = true) (hm : x.master = 0) (hp : x.port ≠ .config) :
    d.fabricAccess x = d.pciUnsupported.emit (.readData 0 x.addr.toNat [] true) := by
  simp [Dev.fabricAccess, hp, ha, hm]

end

/-- Settles O2: each clause's address lies in one region of memory, which serves the access. -/
theorem memoryAccessesComplete : Obligations.MemoryAccessesComplete := by
  refine ⟨fun x d q ha hw hp he hf hr => ?_, fun x d q ha hw hp he hf hr => ?_, fun x d q ha hw hp hf hlo hhi => ?_,
    fun x d q ha hw hp hf hlo hhi => ?_, fun x d q ha hw hp hlo hhi => ?_, fun x d q ha hw hp hlo hhi => ?_,
    fun x d q ha hw hp he hd hs hr => ?_, fun x d q ha hw hp he hd hs hpo hr => ?_,
    fun x o d q ha hlr hsc hm hp he hf hsz hal hr => ?_, fun x d q ha hm hp he hf hsz hal hr => ?_,
    fun x d q ha hm hp he hf hsz hal hr hres => ?_, fun x d q ha hm hp => ?_⟩ <;> refine congrArg (ran ⟨d, q⟩) ?_
  · rw [d.fabricAccess_internal hp (.inl ha), Dev.serve_hall (d.regionOf_hall hr) hf, Dev.memServe_plain ha,
      Dev.memAccess_write he hw]
  · rw [d.fabricAccess_internal hp (.inl ha), Dev.serve_hall (d.regionOf_hall hr) hf, Dev.memServe_plain ha,
      Dev.memAccess_read he hw (.inl rfl)]
  · rw [d.fabricAccess_internal hp (.inl ha), Dev.serve_sram (d.regionOf_sram hlo hhi) hf ha]
    exact Dev.memAccess_write rfl hw
  · rw [d.fabricAccess_internal hp (.inl ha), Dev.serve_sram (d.regionOf_sram hlo hhi) hf ha]
    exact Dev.memAccess_read rfl hw (.inl rfl)
  · rw [d.fabricAccess_internal hp (.inl ha), Dev.serve_rom_read (d.regionOf_rom hlo hhi) ha hw]
    exact Dev.memAccess_read rfl hw (.inl rfl)
  · rw [d.fabricAccess_internal hp (.inl ha), Dev.serve_rom_write (d.regionOf_rom hlo hhi) hw]
  · rw [d.fabricAccess_internal hp (.inl ha), Dev.serve_dram (Dev.regionOf_dram hr) hd hs, Dev.memServe_plain ha,
      Dev.memAccess_write he hw]
  · rw [d.fabricAccess_internal hp (.inl ha), Dev.serve_dram (Dev.regionOf_dram hr) hd hs, Dev.memServe_plain ha,
      Dev.memAccess_read he hw (.inr hpo)]
  · rw [d.fabricAccess_internal hp (.inr hm), Dev.serve_hall (d.regionOf_hall hr) hf, Dev.memServe_atomic ha,
      Dev.amoAccess_amo he hsz hal hlr hsc]
  · rw [d.fabricAccess_internal hp (.inr hm), Dev.serve_hall (d.regionOf_hall hr) hf, Dev.memServe_atomic ha,
      Dev.amoAccess_lr he hsz hal]
  · rw [d.fabricAccess_internal hp (.inr hm), Dev.serve_hall (d.regionOf_hall hr) hf, Dev.memServe_atomic ha,
      Dev.amoAccess_sc_unreserved he hsz hal hres]
  · exact d.fabricAccess_hostAtomic ha hm hp

end Sys2Proof.Machine
end

section
/-! PROOF. The EPL window's bounds, and what the partner's window leaves out (O56). -/

namespace Sys2Proof.Machine

/-- The largest DRAM ends below the EPL window. -/
theorem Dev.inDram_above {d : Dev} {a : Nat} (n : Nat) (hd : d.dramBytes ≤ 128 * 0x40000000) (h : 0x400000000000 ≤ a) :
    d.inDram a n = false := by
  have hend : ¬ a + n ≤ dramBase + d.dramBytes := by
    unfold dramBase
    omega
  simp [Dev.inDram, hend]

/-- The partner's window reaches nothing from the EPL window upwards (R33). -/
theorem Dev.partnerServe_windows (d : Dev) {a : Nat} (n : Nat) (w : Bool) (l : List Byte) (h : 0x400000000000 ≤ a) :
    d.partnerServe a n w l = if w then d.badWrite 1 0x3F a else d.badRead 1 0x3F a n := if_pos h

/-- Settles O56: DRAM ends below the window, and the partner's accesses of the windows end as R38 says. -/
theorem partnerWindowBounds : Obligations.PartnerWindowBounds := by
  refine ⟨fun a n d hd hlo hhi hn => ⟨Dev.regionOf_partner hlo hhi (Dev.inDram_above n hd hlo), by omega⟩,
    fun a n l d h => ⟨?_, ?_⟩⟩
  · exact d.partnerServe_windows n true l h
  · exact d.partnerServe_windows n false l h

end Sys2Proof.Machine
end

section
/-! PROOF. Flushes of FIFOs, and the passage of a packet out of a crossing FIFO (O4). -/

namespace Sys2Proof.Machine

/-! ### Flushes (R22, R23) -/

theorem Dev.fifoFlushComplete_idle {d : Dev} {off : Nat} (h : (d.fifo off).flushing = false) : d.fifoFlushComplete off = d := by
  simp [Dev.fifoFlushComplete, h]

/-- An element of a register array is named by no offset that is out of step with it. -/
theorem elemOf_eq_none {off base stride : Nat} (count : Nat) (h : base ≤ off → (off - base) % stride ≠ 0) :
    elemOf off base stride count = none := by
  have hc : ¬ ((decide (base ≤ off) && (off - base) % stride == 0 && decide ((off - base) / stride < count)) = true) := by
    simp only [Bool.and_eq_true, decide_eq_true_eq, beq_iff_eq]
    rintro ⟨⟨hb, hs⟩, _⟩
    exact h hb hs
  exact if_neg hc

/-- A FIFO that no lane, no PLC channel, no Ethernet port and no time event uses is emptied, and nothing else follows. -/
theorem Dev.fifoFlushComplete_alone {d : Dev} {off : Nat} (h : (d.fifo off).flushing = true)
    (hlane : elemOf off 0x51040 0x100 16 = none) (htsu : off ≠ tsuFq1) (hplc : elemOf off 0xA0040 0x1000 16 = none)
    (heth : elemOf off 0xD0040 0x1000 12 = none) (heth1 : elemOf off 0xD0050 0x1000 12 = none) :
    d.fifoFlushComplete off = (d.fifoEmpty off).clrF (fqFld off F.WLZ_FQ_CTRL_flush) := by
  simp only [Dev.fifoFlushComplete, h, hlane, htsu, hplc, heth, heth1, Bool.not_true, Bool.false_eq_true, if_false]

theorem Dev.fifoFlushComplete_radio {d : Dev} (n : Fin 12) (h : (d.fifo (0xB0060 + 0x1000 * n.val)).flushing = true) :
    d.fifoFlushComplete (0xB0060 + 0x1000 * n.val)
      = (d.fifoEmpty (0xB0060 + 0x1000 * n.val)).clrF (fqFld (0xB0060 + 0x1000 * n.val) F.WLZ_FQ_CTRL_flush) := by
  have htsu : 0xB0060 + 0x1000 * n.val ≠ tsuFq1 := by
    unfold tsuFq1
    omega
  exact Dev.fifoFlushComplete_alone h (elemOf_eq_none 16 (by omega)) htsu (elemOf_eq_none 16 (by omega))
    (elemOf_eq_none 12 (by omega)) (elemOf_eq_none 12 (by omega))

/-! ### Packets out of the crossing at 0x50200 (R24) -/

section
variable {d : Dev} {dst arrived : Nat} {item : List Byte} (hhead : d.fifoHead 0x50200 = some item)
  (hway : d.packetWay 0x50200 dst item = true) (hroom : d.fifoRoom dst (fifoCap dst) item = true)
include hhead hway hroom

theorem Dev.packetFifoTransfer_whole (hall : item.length ≤ arrived) :
    d.packetFifoTransfer 0x50200 dst arrived true = (d.fifoPop 0x50200).fifoPush dst (fifoCap dst) item := by
  have hplc : elemOf 0x50200 0xA0040 0x1000 16 = none := rfl
  have heth : elemOf 0x50200 0xD0040 0x1000 12 = none := rfl
  simp only [Dev.packetFifoTransfer, hhead, hway, hroom, hplc, heth, Nat.not_lt.2 hall, Bool.not_true, Bool.or_self,
    Bool.false_eq_true, if_false]

theorem Dev.packetFifoTransfer_failed_begun (hb : (d.fifo 0x50200).begun = true) :
    d.packetFifoTransfer 0x50200 dst arrived false = (d.fifoPop 0x50200).fifoAbort 0x50200 := by
  simp only [Dev.packetFifoTransfer, hhead, hway, hroom, hb, Bool.not_true, Bool.not_false, Bool.or_self, Bool.true_or,
    Bool.false_eq_true, if_false, if_true]

end

/-- Settles O4: each clause is one case of a flush's end or of a packet's passage. -/
theorem fifoCommandsComplete : Obligations.FifoCommandsComplete := by
  refine ⟨fun off d q => rfl, fun off d q h => ?_, fun n off d q ho h => ?_, fun dst arrived item d q hhead hway hroom hall => ?_,
    fun dst arrived item d q hhead hway hroom hb => ?_⟩ <;> refine congrArg (ran ⟨d, q⟩) ?_
  · exact Dev.fifoFlushComplete_idle h
  · rw [ho] at h ⊢
    exact Dev.fifoFlushComplete_radio n h
  · exact Dev.packetFifoTransfer_whole hhead hway hroom hall
  · exact Dev.packetFifoTransfer_failed_begun hhead hway hroom hb

end Sys2Proof.Machine
end

section
/-! PROOF. The byte layouts of a pair message (R424) and of a completion (R57): little-endian fields read back (O55). -/

namespace Sys2Proof.Machine

/-! ### Little-endian fields -/

@[simp] theorem length_leBytes (n v : Nat) : (leBytes n v).length = n := by
  induction n generalizing v with
  | zero => rfl
  | succ n ih => exact congrArg (· + 1) (ih (v / 256))

/-- The bytes of a number give back its low 8 n bits. -/
theorem leNat_leBytes (n v : Nat) : leNat (leBytes n v) = v % 2 ^ (8 * n) := by
  induction n generalizing v with
  | zero => exact (Nat.mod_one v).symm
  | succ n ih =>
    have hpow : 2 ^ (8 * (n + 1)) = 256 * 2 ^ (8 * n) := by
      rw [Nat.mul_succ, Nat.pow_add, Nat.mul_comm]
    rw [leBytes, leNat, ih, hpow, Nat.mod_mul, BitVec.toNat_ofNat]

/-- A field that begins past the first string is read from the second. -/
theorem leAt_append_right {l r : List Byte} {o : Nat} (h : l.length ≤ o) (n : Nat) :
    leAt (l ++ r) o n = leAt r (o - l.length) n := by
  simp only [leAt, List.drop_append, List.drop_eq_nil_of_le h, List.nil_append]

/-- The field at the front of a string is the one put there. -/
theorem leAt_leBytes_append (n v : Nat) (r : List Byte) : leAt (leBytes n v ++ r) 0 n = v % 2 ^ (8 * n) := by
  have htake : (leBytes n v ++ r).take n = leBytes n v := List.take_left' (length_leBytes n v)
  rw [leAt, List.drop_zero, htake, leNat_leBytes]

theorem leAt_leBytes (n v : Nat) : leAt (leBytes n v) 0 n = v % 2 ^ (8 * n) := by
  simpa using leAt_leBytes_append n v []

theorem byteAt_eq_leAt (l : List Byte) (i : Nat) : byteAt l i = leAt l i 1 := by
  have htake : (l.drop i).take 1 = (l[i]?).toList := by
    rw [List.take_one, List.head?_drop]
  rw [byteAt, leAt, htake]
  cases l[i]? <;> rfl

/-! ### Pair messages (R424) -/

/-- The 16 B header of a message. -/
def eplHead (m : EplMsg) (seq ack term : Nat) : List Byte :=
  leBytes 1 m.mtype ++ leBytes 1 m.mflags ++ leBytes 2 m.payload.length ++ leBytes 4 seq ++ leBytes 4 ack ++ leBytes 4 term

@[simp] theorem length_eplHead (m : EplMsg) (s a t : Nat) : (eplHead m s a t).length = 16 := by
  simp [eplHead]

/-- A message is its header, its payload and the CRC over both. -/
theorem eplBytes_eq (m : EplMsg) (s a t : Nat) :
    eplBytes m s a t = eplHead m s a t ++ m.payload ++ leBytes 4 (crc32c 0xFFFFFFFF (eplHead m s a t ++ m.payload)) := rfl

theorem eplHead_payload_length (m : EplMsg) (s a t : Nat) : (eplHead m s a t ++ m.payload).length = m.payload.length + 16 := by
  rw [List.length_append, length_eplHead, Nat.add_comm]

theorem length_eplBytes (m : EplMsg) (s a t : Nat) : (eplBytes m s a t).length = m.payload.length + 20 := by
  rw [eplBytes_eq, List.length_append, eplHead_payload_length, length_leBytes]

theorem eplBytes_payload (m : EplMsg) (s a t : Nat) : ((eplBytes m s a t).drop 16).take m.payload.length = m.payload := by
  rw [eplBytes_eq, List.append_assoc, List.drop_left' (length_eplHead m s a t), List.take_left]

/-- The last four bytes are the CRC of all before them. -/
theorem eplBytes_crc (m : EplMsg) (s a t : Nat) :
    leAt (eplBytes m s a t) (m.payload.length + 16) 4
      = crc32c 0xFFFFFFFF ((eplBytes m s a t).take (m.payload.length + 16)) % 2 ^ 32 := by
  have hlen := eplHead_payload_length m s a t
  rw [eplBytes_eq, List.take_left' hlen, leAt_append_right (Nat.le_of_eq hlen), hlen, Nat.sub_self, leAt_leBytes]

/-! ### Completions (R57) -/

theorem length_cplBytes (s r r2 tag h st i p : Nat) : (cplBytes s r r2 tag h st i p).length = 32 := by
  simp [cplBytes]

/-- Settles O55: each field follows the ones before it, whose lengths are fixed, and is small enough for its bytes. -/
theorem messageAndCompletionLayouts : Obligations.MessageAndCompletionLayouts := by
  refine ⟨fun m s a t htype hflags hpay hs ha ht => ⟨length_eplBytes m s a t, ?_, ?_, ?_, ?_, ?_, ?_, eplBytes_payload m s a t,
      eplBytes_crc m s a t⟩,
    fun s r r2 tag h st i p hs hr hr2 htag hh hst hi hp => ⟨length_cplBytes s r r2 tag h st i p, ?_, ?_, ?_, ?_, ?_, ?_, ?_, ?_⟩⟩
  case refine_1 | refine_2 | refine_3 | refine_4 | refine_5 | refine_6 =>
    simp only [eplBytes_eq, eplHead, List.append_assoc, byteAt_eq_leAt, leAt_append_right, leAt_leBytes_append, length_leBytes,
      Nat.reduceLeDiff, Nat.reduceSub, Nat.sub_self, Nat.le_refl]
    exact Nat.mod_eq_of_lt (by omega)
  all_goals
    simp only [cplBytes, List.append_assoc, byteAt_eq_leAt, leAt_append_right, leAt_leBytes_append, leAt_leBytes, length_leBytes,
      Nat.reduceLeDiff, Nat.reduceSub, Nat.sub_self, Nat.le_refl]
    exact Nat.mod_eq_of_lt (by assumption)

end Sys2Proof.Machine
end

section
/-! PROOF. The host's presence: resets, link, bus master, read timeouts and power states (R45, R46, R73, R96; O5). -/

namespace Sys2Proof.Machine

/-! ### Presence (R46) -/

theorem Dev.hostLeaves_present {d : Dev} (h : d.on F.XDI_STATUS_host_present = true) (reason : Nat) :
    d.hostLeaves reason = d.hostGone reason := if_pos h

/-- The three things that the host's presence needs beside its absence. -/
theorem Dev.hostArrives_absent {d : Dev} (ha : d.on F.XDI_STATUS_host_present = false) (hl : d.on F.XDI_STATUS_link_up = true)
    (hb : d.on F.XDI_STATUS_bme = true) (hc : d.xdi.ctoAbsent = false) :
    d.hostArrives = (d.setF F.XDI_STATUS_host_present).incr F.XDI_STATUS_attach_count := by
  simp only [Dev.hostArrives, ha, hl, hb, hc, Bool.not_false, Bool.and_self, if_true]

/-! ### Link and bus master (R45, R46, R73) -/

theorem Dev.pcieLinkUp_unready {d : Dev} (h : d.hostReady = false) (l1 : Bool) : d.pcieLinkUp l1 = d := by
  simp only [Dev.pcieLinkUp, h, Bool.not_false, if_true]

theorem Dev.busMasterEnable_unready {d : Dev} (h : d.hostReady = false) : d.busMasterEnable = d := by
  simp only [Dev.busMasterEnable, h, Bool.false_eq_true, if_false]

section
variable {d : Dev} (hr : d.hostReady = true) (ha : d.on F.XDI_STATUS_host_present = false) (hc : d.xdi.ctoAbsent = false)
include hr ha hc

theorem Dev.pcieLinkUp_attaches (hb : d.on F.XDI_STATUS_bme = true) (hw : d.icu.l1Wait = []) (l1 : Bool) :
    d.pcieLinkUp l1 = ((({ d with icu := { d.icu with linkL1 := l1 } }).setF F.XDI_STATUS_link_up).setF
      F.XDI_STATUS_host_present).incr F.XDI_STATUS_attach_count := by
  simp only [Dev.pcieLinkUp, hr, hw, List.isEmpty_nil, Bool.not_true, Bool.false_eq_true, if_false, if_true]
  refine Dev.hostArrives_absent ?_ (Dev.on_setF_same _ _ (by decide)) ?_ hc
  · rw [Dev.on_setF_other _ _ _ (by decide)]
    exact ha
  · rw [Dev.on_setF_other _ _ _ (by decide)]
    exact hb

theorem Dev.busMasterEnable_attaches (hl : d.on F.XDI_STATUS_link_up = true) :
    d.busMasterEnable = ((d.setF F.XDI_STATUS_bme).setF F.XDI_STATUS_host_present).incr F.XDI_STATUS_attach_count := by
  rw [Dev.busMasterEnable, if_pos hr]
  refine Dev.hostArrives_absent ?_ ?_ (Dev.on_setF_same _ _ (by decide)) hc
  · rwa [Dev.on_setF_other _ _ _ (by decide)]
  · rwa [Dev.on_setF_other _ _ _ (by decide)]

end

theorem Dev.pcieLinkDown_present {d : Dev} (h : d.on F.XDI_STATUS_host_present = true) :
    d.pcieLinkDown = (({ d.hostGone 1 with
      xdi := { (d.hostGone 1).xdi with ctoAbsent := false, ctoRun := 0 }
      icu := { (d.hostGone 1).icu with linkL1 := false } }).clrF F.XDI_STATUS_link_up).clrF F.XDI_STATUS_d3hot := by
  rw [Dev.pcieLinkDown, Dev.hostLeaves_present h]

theorem Dev.busMasterDisable_present {d : Dev} (h : d.on F.XDI_STATUS_host_present = true) :
    d.busMasterDisable
      = ({ d.hostGone 5 with xdi := { (d.hostGone 5).xdi with ctoAbsent := false, ctoRun := 0 } }).clrF F.XDI_STATUS_bme := by
  rw [Dev.busMasterDisable, Dev.hostLeaves_present h]

/-! ### Read timeouts (R44, R46) -/

/-- A timeout counted in its run and reported as AER Completion Timeout. -/
def Dev.timeoutCounted (d : Dev) : Dev :=
  { d with xdi := { d.xdi with
      ctoRun := d.xdi.ctoRun + 1
      cfg := { d.xdi.cfg with aerUncStatus := d.xdi.cfg.aerUncStatus ||| 2 ^ 14 } } }

theorem Dev.hostReadTimeout_counts {d : Dev} (h : d.on F.XDI_STATUS_host_present = true) (hn : d.xdi.ctoRun + 1 ≠ 3) :
    d.hostReadTimeout = d.timeoutCounted := by
  simp only [Dev.hostReadTimeout, h, hn, Bool.not_true, Bool.false_eq_true, if_false, Dev.timeoutCounted]

theorem Dev.hostReadTimeout_third {d : Dev} (h : d.on F.XDI_STATUS_host_present = true) (hn : d.xdi.ctoRun = 2) :
    d.hostReadTimeout = { d.timeoutCounted.hostGone 6 with
      xdi := { (d.timeoutCounted.hostGone 6).xdi with ctoAbsent := true, ctoRun := 0 } } := by
  simp only [Dev.hostReadTimeout, h, hn, Bool.not_true, Bool.false_eq_true, if_false, if_true, Dev.timeoutCounted]

/-! ### PERST# and power states (R45, R73, R96) -/

theorem Dev.mode_run {d : Dev} (h : d.rd F.PMU_STATUS_mode = 4) : d.mode = .run := by
  rw [Dev.mode, h]
  rfl

/-- In Run PERST# deasserted brings the HOST domain up. -/
theorem Dev.perstDeassert_run {d : Dev} (h : d.rd F.PMU_STATUS_mode = 4) :
    d.perstDeassert = ({ d with xdi := { d.xdi with perst := false, trainReady := true } }).wrBit F.PMU_DOM_on 12 true := by
  have hmode : ({ d with xdi := { d.xdi with perst := false } } : Dev).mode = .run := Dev.mode_run h
  simp only [Dev.perstDeassert, hmode]
  rfl

theorem Dev.d0Return_idle {d : Dev} (hp : (List.range 64).filter (d.clrF F.XDI_STATUS_d3hot).active = [])
    (hb : d.on F.XDI_STATUS_bme = true) (hm : d.icu.msixEn = true) :
    d.d0Return = (d.clrF F.XDI_STATUS_d3hot).releaseHeld := by
  have hbme : (d.clrF F.XDI_STATUS_d3hot).on F.XDI_STATUS_bme = true := by
    rwa [Dev.on_clrF_other _ _ _ (by decide)]
  simp only [Dev.d0Return, hp, List.foldl_nil, hbme, Dev.clrF_icu, hm, Bool.and_self, if_true]

/-- Settles O5: each clause is one case of the event's meaning, by what the host's presence was before it. -/
theorem hostPresenceCommandsComplete : Obligations.HostPresenceCommandsComplete := by
  refine ⟨fun d q => rfl, fun d q hm => ?_, fun d e q he => ?_, fun d e q he hl => ?_, fun d e q he hp => ?_,
    fun l d q hr ha hb hc hw => ?_, fun d e q he hp => ?_, fun d q hr ha hl hc => ?_, fun d e q hp hn he => ?_,
    fun d q hp hn => ?_, fun l d q hr => ⟨?_, ?_⟩, fun d e q he => ?_, fun d q hp hb hm => ?_⟩ <;> refine congrArg (ran ⟨d, q⟩) ?_
  · exact Dev.perstDeassert_run hm
  · rw [he]
    rfl
  · rw [he, Dev.pcieFlr, hl]
  · rw [he, Dev.pcieLinkDown_present hp]
  · exact Dev.pcieLinkUp_attaches hr ha hc hb hw l
  · rw [he, Dev.busMasterDisable_present hp]
  · exact Dev.busMasterEnable_attaches hr ha hc hl
  · rw [Dev.hostReadTimeout_third hp hn, he, Dev.timeoutCounted, hn]
  · rw [Dev.hostReadTimeout_counts hp hn, Dev.timeoutCounted]
  · exact Dev.pcieLinkUp_unready hr l
  · exact Dev.busMasterEnable_unready hr
  · rw [he]
    rfl
  · exact Dev.d0Return_idle hp hb hm

end Sys2Proof.Machine
end

section
/-! PROOF. Ring pairs: version, enable and disable, doorbells, fetch, fences and completions (R47, R51–R62; O6). -/

namespace Sys2Proof.Machine

/-! ### Version, enable and disable (R47, R51, R52) -/

theorem Dev.xdiHostVerWrite_free {d : Dev} (h : ∀ n ∈ List.range 64, d.on (F.XDI_RP_CFG_enable.at n) = false) (v : Nat) :
    d.xdiHostVerWrite v = (d.wr F.XDI_HOST_VER_version (bits v 0 16)).negotiateNow := by
  have hany : ((List.range 64).any fun n => d.on (F.XDI_RP_CFG_enable.at n)) = false :=
    List.any_eq_false.2 fun n hn => Bool.eq_false_iff.1 (h n hn)
  simp only [Dev.xdiHostVerWrite, hany, Bool.false_eq_true, if_false]

section
variable {d : Dev} {n v : Nat}

/-- A pair's registers and state as its enable leaves them, before it pauses or starts delivery: empty rings and phase 1. -/
def Dev.pairFresh (d : Dev) (n : Nat) : Dev :=
  (((((d.setF (F.XDI_RP_CFG_enable.at n)).setF (F.XDI_RP_STAT_active.at n)).wr (F.XDI_RP_SQ_HEAD_head.at n) 0).wr
    (F.XDI_RP_CQ_TAIL_tail.at n) 0).wr (F.XDI_RP_CQ_TAIL_phase.at n) 1).setPair n {}

section
variable (hd : (d.pair n).disabling = none) (he : d.on (F.XDI_RP_CFG_enable.at n) = false)
include hd he

/-- A pair whose type delivers no records (type 2 does), so that its enable starts no delivery and D3hot alone pauses it. -/
theorem Dev.ringCfgEnable_ok (hok : (d.storeCfg n v).enableOk n v = true) (ht : bits v 24 4 ≠ 2) :
    d.ringCfgEnable n v = ((d.storeCfg n v).pairFresh n).flag (F.XDI_RP_STAT_paused.at n)
      (((d.storeCfg n v).pairFresh n).on F.XDI_STATUS_d3hot) := by
  have htb : (bits v 24 4 == 2) = false := beq_false_of_ne ht
  simp only [Dev.ringCfgEnable, hd, he, hok, ht, htb, Option.isSome_none, Bool.false_and, Bool.or_false, Bool.false_eq_true,
    if_false, if_true]
  rfl

theorem Dev.ringCfgEnable_bad (hok : (d.storeCfg n v).enableOk n v = false) :
    d.ringCfgEnable n v = (d.storeCfg n v).setF (F.XDI_RP_STAT_bad_cfg.at n) := by
  simp only [Dev.ringCfgEnable, hd, he, hok, Option.isSome_none, Bool.false_eq_true, if_false]

end

/-- A disable of a pair with nothing fetched, on a device that delivers no records. -/
theorem Dev.ringCfgDisable_unfetched {n : Fin 64} {e : Dev} (hon : d.on (F.XDI_RP_CFG_enable.at n.val) = true)
    (he : e = (d.wr (F.XDI_RP_CFG_vector.at n.val) (bits v 16 8)).clrF (F.XDI_RP_CFG_enable.at n.val))
    (hon' : (d.wr (F.XDI_RP_CFG_vector.at n.val) (bits v 16 8)).on (F.XDI_RP_CFG_enable.at n.val) = true)
    (hf : (d.pair n.val).fetched = []) (hk : d.xdi.kRings = []) :
    d.ringCfgDisable n v = e.setPair n.val { e.pair n.val with fetched := [], disabling := some e.tick } := by
  subst he
  have hk' : ((d.wr (F.XDI_RP_CFG_vector.at n.val) (bits v 16 8)).clrF (F.XDI_RP_CFG_enable.at n.val)).xdi.kRings = [] := hk
  simp only [Dev.ringCfgDisable, hon, hon', Bool.true_or, if_true, Dev.pair_clrF, Dev.pair_wr, hf, List.foldl_nil,
    Dev.kRings_setPair, hk', List.contains_nil, Bool.false_eq_true, if_false]

theorem Dev.ringDisableComplete_ended (hd : (d.pair n).disabling.isSome = true) (hs : (d.pair n).started = [])
    (hw : (d.pair n).waiting = []) :
    d.ringDisableComplete n = ((d.setPair n {}).clrF (F.XDI_RP_STAT_active.at n)).clrF (F.XDI_RP_STAT_paused.at n) := by
  simp only [Dev.ringDisableComplete, hd, hs, hw, List.isEmpty_nil, Bool.true_or, Bool.and_self, if_true]
  rfl

theorem Dev.descriptorFlushTimeout_due {n : Fin 64} {idx t : Nat} {f : Fetched} {e : Dev} (hd : (d.pair n.val).disabling = some t)
    (hf : (d.pair n.val).started.find? (fun g => g.idx == idx) = some f) (ht : t + 10 * msNs ≤ d.tick)
    (he : e = (d.setPair n.val { d.pair n.val with bufs := (d.pair n.val).bufs.filter (fun b => b.w != f.w) }).finish
      { via := .ring n, w := f.w, data := [] } { status := stFlushed }) :
    d.descriptorFlushTimeout n idx = if (d.pair n.val).bufs.any (fun b => b.w == f.w) || f.ends.isSome then e
      else { e with xdi := { e.xdi with gone := e.xdi.gone ++ [(n.val, f.w)] } } := by
  subst he
  simp only [Dev.descriptorFlushTimeout, hd, hf, ht, if_true]

/-! ### Doorbells (R61, R62) -/

theorem Dev.sqDoorbell_running (ha : d.active n = true) (hd : (d.pair n).disabling = none) (hv : bits v 0 16 < d.sqSize n) :
    d.sqDoorbell n v = d.setPair n { d.pair n with sqTail := bits v 0 16 } := by
  simp only [Dev.sqDoorbell, ha, hd, Nat.not_le.2 hv, Option.isSome_none, Bool.not_true, Bool.or_self, Bool.false_eq_true,
    if_false]

theorem Dev.cqDoorbell_moved (h : (d.pair n).cqHead ≠ ((d.cqDoorbellBase n v).pair n).cqHead) :
    d.cqDoorbell n v
      = ((d.cqDoorbellBase n v).logAck n (d.pair n).cqHead ((d.cqDoorbellBase n v).pair n).cqHead).logDrain := if_neg h

/-! ### Fetch and fences (R54, R56, R60) -/

/-- One descriptor that arrives takes its place behind those fetched before. -/
theorem Dev.descriptorFetch_one {n : Fin 64} (w : BitVec 512) (ha : d.active n.val = true)
    (hon : d.on (F.XDI_RP_CFG_enable.at n.val) = true) (hr : d.hostReach = true) (hfull : d.cqFull n.val = false)
    (hav : 0 < d.sqAvail n.val) {e : Dev}
    (he : e = ({ d with xdi := { d.xdi with ctoRun := 0 } }).wr (F.XDI_RP_SQ_HEAD_head.at n.val)
      ((d.rd (F.XDI_RP_SQ_HEAD_head.at n.val) + 1) % d.sqSize n.val)) :
    d.descriptorFetch n [w] = Dev.startReady ((d.pair n.val).fetched.length + 2) n (e.setPair n.val { d.pair n.val with
      fetched := (d.pair n.val).fetched ++ [{ idx := d.rd (F.XDI_RP_SQ_HEAD_head.at n.val) % d.sqSize n.val, w := w }] }) := by
  have hroom : [w].length ≤ min 8 (d.sqAvail n.val) := Nat.le_min.2 ⟨Nat.le_of_ble_eq_true rfl, hav⟩
  have htake : [w].take (min 8 (d.sqAvail n.val)) = [w] := List.take_of_length_le hroom
  subst he
  simp only [Dev.descriptorFetch, ha, hon, hr, hfull, htake, Bool.not_true, Bool.false_and, Bool.or_self, Bool.false_eq_true,
    if_false, List.mapIdx_cons, List.mapIdx_nil, List.length_singleton, Nat.add_zero, Dev.pair_setPair, List.length_append]
  rfl

/-- A fence with nothing before it, in a group that nothing has spoiled. -/
theorem Dev.fenceRelease_starts {n : Fin 64} {f : Fetched} {e : Dev} (hf : (d.pair n.val).fetched = [f])
    (hs : (d.pair n.val).started = []) (hg : (d.pair n.val).groupBad = false) (hfence : wFence f.w = true)
    (he : e = d.setPair n.val { d.pair n.val with groupBad := false }) (hok : e.refusedAs n.val f.w = none) :
    d.fenceRelease n = Dev.startReady 1 n (e.setPair n.val { d.pair n.val with fetched := [], started := [f], groupBad := false }) := by
  subst he
  simp only [hf, hs] at hok
  simp only [Dev.fenceRelease, hf, hs, hg, hfence, hok, List.isEmpty_nil, Bool.and_self, if_true, Bool.false_eq_true, if_false,
    List.length_nil, Nat.zero_add]

/-! ### Completions (R57, R59, R60) -/

/-- The oldest completion that waits, with no data of its own, is written behind the last one. -/
theorem Dev.completionPost_written {c : Cpl} {l : List Cpl} {e : Dev} (hw : (d.pair n).waiting = c :: l) (ha : d.active n = true)
    (hr : d.hostReach = true) (hfull : d.cqFull n = false) (hsilent : c.silent = false) (hdata : c.data = [])
    (he : e = (d.emits []).emit (.hostWrite (d.rd (F.XDI_RP_CQ_BASE_HI_base_hi.at n) * 2 ^ 32
        + d.rd (F.XDI_RP_CQ_BASE_LO_base_lo.at n) * 4096 + 32 * d.rd (F.XDI_RP_CQ_TAIL_tail.at n))
      (cplBytes (if d.xdiVer == 0x0200 then c.seq else c.seq % 2 ^ 32) c.result c.result2 c.tag
        (d.rd (F.XDI_RP_SQ_HEAD_head.at n)) c.status c.info (4 * n + d.rd (F.XDI_RP_CQ_TAIL_phase.at n))))) {next ph : Nat}
    (hnext : next = (d.rd (F.XDI_RP_CQ_TAIL_tail.at n) + 1) % d.cqSize n)
    (hph : ph = if next = 0 then 1 - d.rd (F.XDI_RP_CQ_TAIL_phase.at n) else d.rd (F.XDI_RP_CQ_TAIL_phase.at n)) :
    d.completionPost n = (((e.wr (F.XDI_RP_CQ_TAIL_tail.at n) next).wr (F.XDI_RP_CQ_TAIL_phase.at n) ph).setPair n
      { d.pair n with waiting := l }).raiseIrq n c.irqNow := by
  subst he hph hnext
  simp only [Dev.completionPost, hw, ha, hr, hfull, hsilent, hdata, Bool.not_true, Bool.or_self, Bool.false_eq_true, if_false,
    List.map_nil]
  rfl

/-! ### NOP (R55) -/

theorem Dev.endInTurn_other {n : Fin 64} (ht : d.ringType n.val ≠ 2) (w : BitVec 512) (l : List Byte) (st : Nat) :
    d.endInTurn ⟨.ring n, w, l⟩ st = d.fail ⟨.ring n, w, l⟩ st := by
  simp only [Dev.endInTurn, decide_eq_false ht, Bool.false_and, Bool.false_eq_true, if_false]

/-- On a ring of type 2, which completes in ring order, the only descriptor begun is marked and ends at once (R56). -/
theorem Dev.endInTurn_ordered_alone {n : Fin 64} {f : Fetched} (ht : d.ringType n.val = 2) (hs : (d.pair n.val).started = [f])
    (hf : f.ends = none) (l : List Byte) (st : Nat) :
    d.endInTurn ⟨.ring n, f.w, l⟩ st
      = Dev.settleExp 1 n.val (d.setPair n.val { d.pair n.val with started := [{ f with ends := some st }] }) := by
  simp [Dev.endInTurn, ht, hs, hf]

end

/-- Settles O6: each clause is one case of the command's meaning, by the state of the pair before it. -/
theorem ringCommandsComplete : Obligations.RingCommandsComplete := by
  refine ⟨fun v d q h => ?_, fun n v d e q hd hen hok ht he => ?_, fun n v d q hd hen hok => ?_,
    fun n v d e q hon he hon' hf hk => ?_, fun n d q hd hs hw => ?_, fun n idx t f d e q hd hf ht he => ?_,
    fun n v d q ha hd hv => ?_, fun n v d q h => ?_, fun n w d q ha hon hr hfull hav => ⟨_, ?_, _, rfl, rfl⟩,
    fun n f d e q hf hs hg hfence he hok => ?_,
    fun n c l base seq next ph d e q hw ha hr hfull hsilent hdata hst hbase hseq hnext hph he => ?_,
    fun n w l d q ht => ?_, fun n w l f p d q ht hs hw hf hp => ?_⟩ <;> refine congrArg (ran ⟨d, q⟩) ?_
  · exact Dev.xdiHostVerWrite_free h v.toNat
  · rw [Dev.ringCfgEnable_ok hd hen hok (by omega), he]
    rfl
  · rw [Dev.ringCfgEnable_bad hd hen hok]
  · rw [Dev.ringCfgDisable_unfetched hon he hon' hf hk]
  · rw [Dev.ringDisableComplete_ended hd hs hw]
  · exact Dev.descriptorFlushTimeout_due hd hf ht he
  · exact Dev.sqDoorbell_running ha hd hv
  · exact Dev.cqDoorbell_moved h
  · exact Dev.descriptorFetch_one w ha hon hr hfull hav rfl
  · exact Dev.fenceRelease_starts hf hs hg hfence he hok
  · subst hbase hseq
    rw [← hst] at he
    exact Dev.completionPost_written hw ha hr hfull hsilent hdata he hnext hph
  · exact Dev.endInTurn_other ht w l 0
  · subst hw hp
    exact Dev.endInTurn_ordered_alone ht hs hf l 0

end Sys2Proof.Machine
end

section
/-! PROOF. Delivery of records, the commit position and the host memory grant (R63–R72; O7). -/

namespace Sys2Proof.Machine

section
variable {d : Dev}

/-! ### Settings and the commit position (R63, R68) -/

theorem Dev.xdiExpCtrlWrite_free {v : Nat} (h : d.anyExp = false) (hv : bits v 0 5 ≤ 16) :
    d.xdiExpCtrlWrite v = d.wr F.XDI_EXP_CTRL_count (bits v 0 5) := by
  simp only [Dev.xdiExpCtrlWrite, h, Nat.not_lt.2 hv, decide_false, Bool.or_self, Bool.false_eq_true, if_false]

theorem Dev.xdiExpCommitWrite_within {v : Nat} (hlive : v ≤ d.rd F.XDI_EXP_LIVE_LO_live)
    (hcommit : d.rd F.XDI_EXP_COMMIT_LO_commit ≤ v) :
    d.xdiExpCommitWrite v = { d.wr F.XDI_EXP_COMMIT_LO_commit v with
      xdi := { (d.wr F.XDI_EXP_COMMIT_LO_commit v).xdi with commitDirty := true } } := by
  simp only [Dev.xdiExpCommitWrite, Nat.not_lt.2 hlive, Nat.not_lt.2 hcommit, decide_false, Bool.and_false, Bool.or_self,
    Bool.false_eq_true, if_false]

theorem Dev.commitJournal_dirty (h : d.xdi.commitDirty = true) :
    d.commitJournal = { d with
      xdi := { d.xdi with commitDirty := false }
      gav := { d.gav with jpend := d.gav.jpend ++ [JEnt.sysval 2 (d.rd F.XDI_EXP_COMMIT_LO_commit)] } } := if_pos h

/-! ### Buffers, delivery and blocks (R64–R67) -/

/-- The lengths that a buffer of a ring may have: pages in a batch ring, records elsewhere, up to 1 MiB. -/
theorem Dev.expBuf_posts {n : Fin 64} {w : BitVec 512} (l : List Byte) (hz : wUnusedZero w [(8, 20)] = true)
    (hmod : wLen w % (if d.on (F.XDI_RP_CFG_batch.at n.val) then 4096 else 64) = 0)
    (hmin : (if d.on (F.XDI_RP_CFG_batch.at n.val) then 4096 else 64) ≤ wLen w) (hmax : wLen w ≤ 0x100000)
    (hgone : d.xdi.gone.contains (n.val, w) = false) :
    d.expBuf ⟨.ring n, w, l⟩ = d.setPair n.val { d.pair n.val with bufs := (d.pair n.val).bufs ++ [{ w := w }] } := by
  cases hb : d.on (F.XDI_RP_CFG_batch.at n.val) <;> simp only [hb, Bool.false_eq_true, if_false, if_true] at hmod hmin <;>
    simp only [Dev.expBuf, hb, hz, hmod, hmin, hmax, hgone, beq_self_eq_true, decide_true, Bool.and_self, Bool.false_eq_true,
      if_false, if_true]

theorem Dev.expBuf_unused {n : Fin 64} {w : BitVec 512} (l : List Byte) (hz : wUnusedZero w [(8, 20)] = false) :
    d.expBuf ⟨.ring n, w, l⟩ = d.endInTurn ⟨.ring n, w, l⟩ stBadField := by
  simp only [Dev.expBuf, hz, Bool.and_false, Bool.false_eq_true, if_false]

/-- One ring with a free completion entry stalls nothing (R60). -/
theorem Dev.expStalls_one_free {n : Nat} (hk : d.xdi.kRings = [n]) (hfull : d.cqFull n = false) : d.expStalls = d := by
  simp only [Dev.expStalls, hk, List.length_singleton, foldN, List.getElem?_cons_zero, Option.getD_some, hfull, Bool.and_false,
    Bool.false_and, Bool.false_eq_true, if_false]

theorem Dev.exportRecordDeliver_record {n s : Nat} {l : List Byte} {p : Option Nat} {e : Dev} (hopen : d.expOpen = true)
    (hk : d.xdi.kRings = [n]) (hfull : d.cqFull n = false)
    (hscan : d.expScan (2 * (d.rd F.XDI_EXP_LIVE_LO_live + 1 - d.rd F.XDI_EXP_NEXT_LO_next) + 1)
      (d.rd F.XDI_EXP_NEXT_LO_next) [] none = .record n s l p)
    (hblock : d.blockOpen n = false) (hbufs : (d.pair n).bufs ≠ []) (he : e = d.expPut n s (exportRecord l)) :
    d.exportRecordDeliver = ({ e with xdi := { e.xdi with ahead := e.xdi.ahead ++ [s] } }).expAdvance := by
  subst he
  simp only [Dev.exportRecordDeliver, hopen, Dev.expStalls_one_free hk hfull, hscan, hblock, List.isEmpty_eq_false_iff.2 hbufs,
    Bool.not_true, Bool.false_and, Bool.false_eq_true, if_false]

theorem Dev.batchTimeout_open {n : Nat} (hs : d.on F.XDI_EXP_CTRL_started = true) (hk : n ∈ d.xdi.kRings)
    (hb : d.blockOpen n = true) : d.batchTimeout n = d.blockClose n stOkPartial true false := by
  simp only [Dev.batchTimeout, hs, List.contains_iff_mem.2 hk, hb, Bool.and_self, if_true]

/-! ### The host memory grant (R71, R72) -/

theorem Dev.withFields_ok {c : Desc} {used : List (Nat × Nat)} (hz : wUnusedZero c.w used = true) (hr : wReservedOk c.w = true)
    (k : Dev → Dev) : d.withFields c used k = k d := by
  simp only [Dev.withFields, hz, hr, Bool.and_self, if_true]

section
variable {c : Desc} (hr : wReservedOk c.w = true)
include hr

theorem Dev.hmbGrant_legal (hv : 0x0101 ≤ d.xdiVer) (ha : d.on F.XDI_HMB_STAT_active = false)
    (hz : wUnusedZero c.w [(8, 20)] = true) (hmod : wLen c.w % 16 = 0) (hmin : 0 < wLen c.w)
    (hmax : wLen c.w ≤ 65536) (hdata : c.data.length = wLen c.w) (hok : hmbOk c.data = true) {u : Nat}
    (hu : u = ((hmbChunks c.data).map (fun e => e.2)).sum) :
    d.hmbGrant c = ((({ d with xdi := { d.xdi with chunks := hmbChunks c.data } }).setF F.XDI_HMB_STAT_active).wr
      F.XDI_HMB_STAT_units u).okRes c u := by
  subst hu
  simp only [Dev.hmbGrant, Nat.not_lt.2 hv, ha, Dev.withFields_ok hz hr, hmod, hmin, hmax, hdata, hok, beq_self_eq_true,
    bne_self_eq_false, decide_true, Bool.and_self, Bool.not_true, Bool.false_eq_true, if_false, if_true]

theorem Dev.hmbRevoke_waits (hz : wUnusedZero c.w [] = true) (ha : d.on F.XDI_HMB_STAT_active = true) :
    d.hmbRevoke c = { d with xdi := { d.xdi with revoking := d.xdi.revoking ++ [c] } } := by
  simp only [Dev.hmbRevoke, Dev.withFields_ok hz hr, ha, if_true]

end

theorem Dev.hmbRevokeDone_one {c : Desc} (h : d.xdi.revoking = [c]) :
    d.hmbRevokeDone = ((({ d with xdi := { d.xdi with revoking := [], chunks := [] } }).clrF F.XDI_HMB_STAT_active).wr
      F.XDI_HMB_STAT_units 0).okRes c := by
  simp only [Dev.hmbRevokeDone, h, List.isEmpty_cons, Bool.false_eq_true, if_false, List.foldl_cons, List.foldl_nil]

end

/-- Settles O7: each clause is the case of the command's meaning in which nothing stands in its way. -/
theorem exportAndHostMemoryCommandsComplete : Obligations.ExportAndHostMemoryCommandsComplete := by
  refine ⟨fun v d q h hv => ?_, fun n w l d q hz hmod hmin hmax hgone => ?_, fun n w l d q hz => ?_,
    fun n s l p d e q hopen hk hfull hscan hblock hbufs he => ?_, fun n d q hs hk hb => ?_, fun v d e q hlive hcommit he => ?_,
    fun d q h => ?_, fun b c u d0 d q hread hv ha hz hr hmod hmin hmax hdata hok hu => ?_, fun c d q hz hr ha => ?_,
    fun c d q h => ?_⟩
  · exact congrArg (ran ⟨d, q⟩) (Dev.xdiExpCtrlWrite_free h hv)
  · exact congrArg (ran ⟨d, q⟩) (Dev.expBuf_posts l hz hmod hmin hmax hgone)
  · exact congrArg (ran ⟨d, q⟩) (Dev.expBuf_unused l hz)
  · exact congrArg (ran ⟨d, q⟩) (Dev.exportRecordDeliver_record hopen hk hfull hscan hblock hbufs he)
  · exact congrArg (ran ⟨d, q⟩) (Dev.batchTimeout_open hs hk hb)
  · rw [he]
    exact congrArg (ran ⟨d, q⟩) (Dev.xdiExpCommitWrite_within hlive hcommit)
  · exact congrArg (ran ⟨d, q⟩) (Dev.commitJournal_dirty h)
  · exact congrArg (ran ⟨d0, q⟩) ((hread Dev.hmbGrant).trans (Dev.hmbGrant_legal hr hv ha hz hmod hmin hmax hdata hok hu))
  · exact congrArg (ran ⟨d, q⟩) (Dev.hmbRevoke_waits hr hz ha)
  · exact congrArg (fun e : Dev => ran ⟨d, q⟩ e.hostSync) (Dev.hmbRevokeDone_one h)

end Sys2Proof.Machine
end

section
/-! PROOF. The claim of an offer, the offers of fixed mode and the software commands of one source (R82, R85, R90; O49, O50,
O51). -/

namespace Sys2Proof.Machine

/-! ### A bit of a word -/

theorem bit_setBits_one (b i j : Nat) (v : Bool) : bit (setBits b i 1 (b2n v)) j = if j = i then v else bit b j := by
  have hsplit : setBits b i 1 (b2n v) = 2 ^ i * (2 * (b >>> (i + 1)) + b2n v) + b % 2 ^ i := by
    have hv : b2n v % 2 ^ 1 = b2n v := by cases v <;> rfl
    rw [setBits, hv, Nat.pow_succ, Nat.mul_comm (b2n v), Nat.mul_comm (b >>> (i + 1)), Nat.mul_assoc, Nat.mul_add]
    omega
  simp only [bit_eq_testBit, hsplit, Nat.testBit_two_pow_mul_add _ (Nat.mod_lt b (Nat.two_pow_pos i))]
  rcases Nat.lt_trichotomy j i with h | rfl | h
  · rw [if_pos h, if_neg (Nat.ne_of_lt h), Nat.testBit_mod_two_pow, decide_eq_true h, Bool.true_and]
  · cases v <;> simp [b2n, Nat.testBit_zero, Nat.add_mod]
  · obtain ⟨k, rfl⟩ := Nat.exists_eq_add_of_lt h
    have hk : i + k + 1 - i = k + 1 := by omega
    have hhalf : (2 * (b >>> (i + 1)) + b2n v) / 2 = b >>> (i + 1) := by
      cases v
      · simp [b2n]
      · simp [b2n]; omega
    rw [if_neg (by omega), if_neg (by omega), hk, Nat.testBit_add_one, hhalf, Nat.testBit_shiftRight]
    congr 1
    omega

/-- Cutting a number to w bits keeps its bits below w. -/
theorem bit_mod_two_pow {b w j : Nat} (h : j < w) : bit (b % 2 ^ w) j = bit b j := by
  simp [bit_eq_testBit, Nat.testBit_mod_two_pow, h]

/-! ### The pending bits of the sources (R80) -/

theorem key_pending_at (n : Nat) : (F.ICU_PEND_pending.at n).key = 0x100C00 + 32 * n := rfl

theorem Dev.srcBit_wrSrcBit_pending (d : Dev) (n k : Nat) (b : Bool) :
    (d.wrSrcBit F.ICU_PEND_pending n b).srcBit F.ICU_PEND_pending k = if k = n then b else d.srcBit F.ICU_PEND_pending k := by
  unfold Dev.srcBit Dev.wrSrcBit
  by_cases hw : k / 32 = n / 32
  · have hbit : k % 32 = n % 32 ↔ k = n := by omega
    have hlt : k % 32 < (F.ICU_PEND_pending.at (n / 32)).width := Nat.mod_lt k (by decide)
    simp only [hw, Dev.wrBit, Dev.rd_wr_same, bit_mod_two_pow hlt, bit_setBits_one, hbit]
  · have hne : k ≠ n := fun h => hw (h ▸ rfl)
    have hkey : (F.ICU_PEND_pending.at (k / 32)).key ≠ (F.ICU_PEND_pending.at (n / 32)).key := by
      simp only [key_pending_at]
      omega
    rw [Dev.rd_wrBit_other _ _ _ _ _ hkey, if_neg hne]

theorem Dev.srcBit_congr {d e : Dev} (f : Fld) (n : Nat) (h : d.regs = e.regs) : d.srcBit f n = e.srcBit f n := by
  rw [Dev.srcBit, Dev.rd_congr _ h]
  rfl

@[simp] theorem Dev.pendNote_regs (d : Dev) (n : Nat) : (d.pendNote n).regs = d.regs := by
  unfold Dev.pendNote
  split <;> rfl

theorem Dev.srcBit_pendNote (d : Dev) (n k : Nat) (f : Fld) : (d.pendNote n).srcBit f k = d.srcBit f k :=
  Dev.srcBit_congr f k (d.pendNote_regs n)

/-- Settles O51: both commands write one bit of the words of pending bits; the clear also drops an offer, the set notes the tick. -/
theorem sourceCommandTouchesOneBit : Obligations.SourceCommandTouchesOneBit := by
  refine ⟨fun n d q => ⟨_, rfl, ?_, rfl, fun k hk => ?_⟩,
    fun n d q => ⟨(d.pendNote n.val).wrSrcBit F.ICU_PEND_pending n.val true, rfl, ?_, rfl, fun k hk => ?_⟩⟩
  · exact (d.srcBit_wrSrcBit_pending n.val n.val false).trans (if_pos rfl)
  · exact (d.srcBit_wrSrcBit_pending n.val k.val false).trans (if_neg (Fin.val_ne_of_ne hk))
  · rw [Dev.srcBit_wrSrcBit_pending, if_pos rfl]
  · rw [Dev.srcBit_wrSrcBit_pending, if_neg (Fin.val_ne_of_ne hk), Dev.srcBit_pendNote]

/-! ### The offers of fixed mode (R82) -/

/-- Pending sources are listed by rising number: word after word, bit after bit. -/
theorem Dev.pendingSources_sorted (d : Dev) : d.pendingSources.Pairwise (· < ·) := by
  unfold Dev.pendingSources
  rw [List.pairwise_flatMap]
  have hmem (w x : Nat) (hx : x ∈ (if d.rd (F.ICU_PEND_pending.at w) = 0 then []
      else ((List.range 32).filter (fun b => bit (d.rd (F.ICU_PEND_pending.at w)) b)).map (fun b => 32 * w + b))) :
      x / 32 = w := by
    split at hx
    · cases hx
    · obtain ⟨b, hb, rfl⟩ := List.mem_map.1 hx
      have hlt : b < 32 := List.mem_range.1 (List.mem_filter.1 hb).1
      omega
  refine ⟨fun w _ => ?_, List.pairwise_lt_range.imp fun {v w} hvw x hx y hy => ?_⟩
  · dsimp only
    split
    · exact .nil
    · exact ((List.pairwise_lt_range.filter _).map _ fun _ _ h => Nat.add_lt_add_left h _)
  · have hv := hmem v x hx
    have hw := hmem w y hy
    omega

theorem Dev.deliverableTo_sorted (d : Dev) (t : Nat) : (d.deliverableTo t).Pairwise (· < ·) := d.pendingSources_sorted.filter _

/-- The first of a rising list is its least. -/
theorem head_least {l : List Nat} {n : Nat} (hl : l.Pairwise (· < ·)) (h : l.head? = some n) : n ∈ l ∧ ∀ k ∈ l, n ≤ k := by
  cases l with
  | nil => cases h
  | cons a t =>
    obtain rfl : a = n := Option.some.inj h
    refine ⟨List.mem_cons_self, fun k hk => ?_⟩
    rcases List.mem_cons.1 hk with rfl | hk
    · exact Nat.le_refl _
    · exact Nat.le_of_lt (List.rel_of_pairwise_cons hl hk)

section
variable {d : Dev} {t : Nat}

theorem Dev.choose_normal_occupied {n : Nat} (h : mget? d.icu.slot (slotKey t false) = some n) : d.choose t false = none := by
  simp [Dev.choose, h]

variable (hm : d.classMode t = false)
include hm

theorem Dev.choose_fast_fixed : d.choose t true = none := by
  simp [Dev.choose, hm]

/-- In fixed mode the slot of the normal class is the target's only one. -/
theorem Dev.offerFor_fixed : d.offerFor t = (d.choose t false).map (fun n => (false, n)) := by
  rw [Dev.offerFor, Dev.choose_fast_fixed hm]

theorem Dev.choose_normal_fixed {n : Nat} (h : d.choose t false = some n) :
    mget? d.icu.slot (slotKey t false) = none ∧ (d.deliverableTo t).head? = some n := by
  simp only [Dev.choose, hm, Bool.false_or, Bool.false_eq_true, if_false, Option.ite_none_left_eq_some, Bool.or_eq_true,
    not_or] at h
  obtain ⟨⟨hfree, _⟩, hhead⟩ := h
  exact ⟨by simpa using hfree, hhead⟩

theorem Dev.choose_normal_unmoderated (hs : mget? d.icu.slot (slotKey t false) = none) (ho : modOff (d.modOf t) = true) :
    d.choose t false = (d.deliverableTo t).head? := by
  simp [Dev.choose, hs, ho, hm]

end

/-- Settles O50: the offer is the head of the target's deliverable sources, which are listed by rising number. -/
theorem fixedModeOffersTheLowest : Obligations.FixedModeOffersTheLowest := by
  refine ⟨fun t n fast d hm h => ?_, fun t n d hm hs => ?_, fun t d hm hs ho hne => ?_⟩
  · rw [Dev.offerFor_fixed hm] at h
    obtain ⟨k, hk, hkn⟩ := Option.map_eq_some_iff.1 h
    obtain ⟨rfl, rfl⟩ := Prod.mk.inj hkn
    obtain ⟨hfree, hhead⟩ := Dev.choose_normal_fixed hm hk
    obtain ⟨hmem, hleast⟩ := head_least (d.deliverableTo_sorted t) hhead
    exact ⟨rfl, hmem, hleast, hfree⟩
  · rw [Dev.offerFor_fixed hm, Dev.choose_normal_occupied hs, Option.map_none]
  · obtain ⟨n, l, hl⟩ := List.exists_cons_of_ne_nil hne
    refine ⟨n, ?_⟩
    rw [Dev.offerFor_fixed hm, Dev.choose_normal_unmoderated hm hs ho, hl, List.head?_cons, Option.map_some]

/-! ### The claim of an offer (R85) -/

theorem ne_key_at {f g : Fld} (n : Nat) (h : g.key < f.key) : g.key ≠ (f.at n).key :=
  Nat.ne_of_lt (Nat.lt_of_lt_of_le h (Nat.le_add_right _ _))

/-- Showing a target's slots writes its ICU_Tt_STAT alone, whose lowest field is norm_src. -/
theorem Dev.rd_showSlots_other (d : Dev) (t : Nat) {g : Fld} (h : g.key < F.ICU_T_STAT_norm_src.key) :
    (d.showSlots t).rd g = d.rd g := by
  have hother {f : Fld} (hf : F.ICU_T_STAT_norm_src.key ≤ f.key) : g.key ≠ (f.at t).key := ne_key_at t (Nat.lt_of_lt_of_le h hf)
  unfold Dev.showSlots
  rw [Dev.rd_wr_other _ _ _ _ (hother (by decide)), Dev.rd_flag_other _ _ _ _ (hother (by decide)),
    Dev.rd_wr_other _ _ _ _ (hother (by decide)), Dev.rd_flag_other _ _ _ _ (hother (by decide))]

theorem Dev.srcBit_showSlots (d : Dev) (t : Nat) {n : Nat} (hn : n < 512) :
    (d.showSlots t).srcBit F.ICU_PEND_pending n = d.srcBit F.ICU_PEND_pending n := by
  have hkey : (F.ICU_PEND_pending.at (n / 32)).key < F.ICU_T_STAT_norm_src.key := by
    rw [key_pending_at]
    have : F.ICU_T_STAT_norm_src.key = 0x110080 := rfl
    omega
  rw [Dev.srcBit, Dev.rd_showSlots_other _ _ hkey]
  rfl

/-- A target's window, no host vector's, shows in no register. -/
theorem Dev.setWin_target (d : Dev) {t : Nat} (ht : t < 16) (x : Option ModWin) :
    ∃ w, d.setWin t x = { d with icu := { d.icu with win := w } } := by
  simp only [Dev.setWin, ht, if_true]
  exact ⟨_, rfl⟩

theorem Dev.winDrained_frame (d : Dev) {t : Nat} (ht : t < 16) :
    ∃ w, d.winDrained t = { d with icu := { d.icu with win := w } } := by
  unfold Dev.winDrained
  split
  · exact d.setWin_target ht none
  · exact ⟨_, rfl⟩

/-- A claim's transfer of a source: pending no more, active at the target, in its slot, its offer gone. -/
def Dev.moveActive (d : Dev) (t : Nat) (fast : Bool) (n : Nat) : Dev :=
  let e := d.wrSrcBit F.ICU_PEND_pending n false
  { e with icu := { e.icu with
      active := mput e.icu.active n (.target t)
      slot := mput e.icu.slot (slotKey t fast) n
      offer := mdel e.icu.offer (slotKey t fast)
      lastClaim := mput e.icu.lastClaim (slotKey t fast) n } }

/-- What a claim changes before its answer goes out. -/
def Dev.taken (d : Dev) (t : Nat) (fast : Bool) (n : Nat) : Dev :=
  let e := ((d.moveActive t fast n).showSlots t).winDrained t
  if !fast && t < 8 then e.setCore t (fun c => { c with inNormal := true }) else e

/-- Beside the transfer a claim shows the slots, may close the target's window and puts a core in its normal handler. -/
theorem Dev.taken_frame (d : Dev) {t : Nat} (ht : t < 16) (fast : Bool) (n : Nat) : ∃ w c, d.taken t fast n =
    { (d.moveActive t fast n).showSlots t with icu := { (d.moveActive t fast n).icu with win := w, cores := c } } := by
  obtain ⟨w, hw⟩ := ((d.moveActive t fast n).showSlots t).winDrained_frame ht
  unfold Dev.taken
  rw [hw]
  split
  · exact ⟨w, _, rfl⟩
  · exact ⟨w, _, rfl⟩

section
variable {d : Dev} {t : Nat}

theorem Dev.icuClaimTimed_of_some {fast : Bool} {n : Nat} (h : d.claimable t = some (fast, n)) (m : Nat) :
    d.icuClaimTimed t m = ((d.taken t fast n).emit (.readData m (0x22004 + 0x20 * t)
      (leBytes 4 (2 ^ 31 + b2n fast * 2 ^ 30 + n)) false)).sample 0x10 t (d.tick - mgetD d.icu.pendAt n d.tick) := by
  simp only [Dev.icuClaimTimed, Dev.claimSample, Dev.icuClaim, h]
  rfl

theorem Dev.icuClaimTimed_of_none (h : d.claimable t = none) (m : Nat) :
    d.icuClaimTimed t m = d.emit (.readData m (0x22004 + 0x20 * t) (leBytes 4 0) false) := by
  simp only [Dev.icuClaimTimed, Dev.claimSample, Dev.icuClaim, h]

theorem Dev.claimable_of_offer {fast : Bool} {n : Nat} (h : mget? d.icu.offer (slotKey t fast) = some n)
    (hfast : fast = false → mget? d.icu.offer (slotKey t true) = none) : d.claimable t = some (fast, n) := by
  cases fast with
  | true => simp only [Dev.claimable, h]
  | false => simp only [Dev.claimable, hfast rfl, h]

theorem Dev.claimable_of_nothing (hf : mget? d.icu.offer (slotKey t true) = none)
    (hn : mget? d.icu.offer (slotKey t false) = none) (ho : d.offerFor t = none) : d.claimable t = none := by
  simp only [Dev.claimable, hf, hn, ho]

end

/-- Settles O49: the claim is the transfer of the offered source, its answer and its sample. -/
theorem claimTakesTheOffer : Obligations.ClaimTakesTheOffer := by
  refine ⟨fun t m fast n d q ho hn hfast => ?_, fun t m d q hf hn ho => ?_⟩
  · refine ⟨_, congrArg (ran ⟨d, q⟩) (Dev.icuClaimTimed_of_some (Dev.claimable_of_offer ho hfast) m.toNat), ?_⟩
    obtain ⟨w, c, htaken⟩ := d.taken_frame (Nat.lt_trans t.isLt (by decide)) fast n
    have hbit : ((d.moveActive t.val fast n).showSlots t.val).srcBit F.ICU_PEND_pending n = false := by
      rw [Dev.srcBit_showSlots _ _ hn]
      exact (d.srcBit_wrSrcBit_pending n n false).trans (if_pos rfl)
    rw [htaken]
    exact ⟨rfl, hbit, mget?_mput_same _ _ _, mget?_mput_same _ _ _, mget?_mdel_same _ _⟩
  · exact congrArg (ran ⟨d, q⟩) (Dev.icuClaimTimed_of_none (Dev.claimable_of_nothing hf hn ho) m.toNat)

end Sys2Proof.Machine
end

section
/-! PROOF. The commands of the interrupt controller, case by case (R79–R98; O8, O9, O10). -/

namespace Sys2Proof.Machine

section
variable {d : Dev}

/-! ### Events (R80, R92) -/

theorem Dev.icuEdgeEvent_assigned {n : Nat} {e : Dev} (ha : edgeAssigned n = true)
    (he : e = { d with icu := { d.icu with pulse := mput (d.icu.pulse.filter (fun x => x.2 == d.clk)) n d.clk } }) :
    d.icuEdgeEvent n = if d.srcBit F.ICU_ENABLE_enable n then
      ((e.pendNote n).wrSrcBit F.ICU_PEND_pending n true).modEvent n false (e.leftOver (e.srcTarget n)) else e := by
  subst he
  exact if_pos ha

theorem Dev.icuEdgeEvent_unassigned {n : Nat} (ha : edgeAssigned n = false) : d.icuEdgeEvent n = d := by
  simp only [Dev.icuEdgeEvent, ha, Bool.false_eq_true, if_false]

theorem Dev.icuLevelAssert_rises {n : Nat} (hl : isLevelSource n = true) (he : d.srcBit F.ICU_ENABLE_enable n = true)
    (hi : d.levelIn n = true) (ha : mget? d.icu.active n = none) (hp : d.srcBit F.ICU_PEND_pending n = false) :
    d.icuLevelAssert n = ((d.pendNote n).wrSrcBit F.ICU_PEND_pending n true).modEvent n false (d.leftOver (d.srcTarget n)) := by
  simp only [Dev.icuLevelAssert, Dev.sampleLevel, hl, he, hi, ha, hp, Option.isNone_none, Bool.and_self, Bool.false_eq_true,
    if_true, if_false]
  rfl

/-! ### The end of a window's time (R92) -/

theorem Dev.modWindowTimeFire_target {t : Nat} {w : ModWin} (ht : t < 16) (hw : mget? d.icu.win t = some w)
    (hdue : w.openAt + (d.modOf t).2 ≤ d.tick) : d.modWindowTimeFire t = d.setWin t (some { w with fired := true }) := by
  simp only [Dev.modWindowTimeFire, hw, hdue, ht, if_true]

theorem Dev.icu_setWin_some (d : Dev) (t : Nat) (w : ModWin) :
    (d.setWin t (some w)).icu = { d.icu with win := mput d.icu.win t w } := by
  simp only [Dev.setWin]
  split <;> rfl

/-- The window of a vector shows in two fields of its ICU_HVv_STAT; wait_ack is another. -/
theorem Dev.wait_ack_setWin (d : Dev) (v : Nat) (w : Option ModWin) :
    (d.setWin (v + 16) w).on (F.ICU_HV_STAT_wait_ack.at v) = d.on (F.ICU_HV_STAT_wait_ack.at v) := by
  have hv : v + 16 - 16 = v := Nat.add_sub_cancel v 16
  have hwin : (F.ICU_HV_STAT_wait_ack.at v).key ≠ (F.ICU_HV_STAT_window.at v).key :=
    fun h => absurd (Nat.add_right_cancel h) (by decide)
  have hheld : (F.ICU_HV_STAT_wait_ack.at v).key ≠ (F.ICU_HV_STAT_held.at v).key :=
    fun h => absurd (Nat.add_right_cancel h) (by decide)
  simp only [Dev.setWin, Nat.not_lt.2 (Nat.le_add_left 16 v), if_false, hv]
  split
  · rw [Dev.on_wr_other _ _ _ _ hheld, Dev.on_clrF_other _ _ _ hwin]
    rfl
  · rw [Dev.on_wr_other _ _ _ _ hheld, Dev.on_setF_other _ _ _ hwin]
    rfl

theorem Dev.vecRipe_of_fired {v : Nat} {w : ModWin} (h : mget? d.icu.win (v + 16) = some w) (hf : w.fired = true) :
    d.vecRipe v = true := by
  rw [Nat.add_comm] at h
  simp only [Dev.vecRipe, h, hf, Bool.true_or]

theorem Dev.modWindowTimeFire_vector {v : Nat} {w : ModWin} {e : Dev} (hw : mget? d.icu.win (v + 16) = some w)
    (hdue : w.openAt + (d.modOf (v + 16)).2 ≤ d.tick) (he : e = d.setWin (v + 16) (some { w with fired := true })) :
    d.modWindowTimeFire (v + 16) = if d.on (F.ICU_HV_STAT_wait_ack.at v) then e else e.vecFire v := by
  have hripe : e.vecRipe v = true := Dev.vecRipe_of_fired (by rw [he, Dev.icu_setWin_some, mget?_mput_same]) rfl
  have hwait : e.on (F.ICU_HV_STAT_wait_ack.at v) = d.on (F.ICU_HV_STAT_wait_ack.at v) := by
    rw [he, Dev.wait_ack_setWin]
  have hfire : d.modWindowTimeFire (v + 16) = e.vecKick v := by
    simp only [Dev.modWindowTimeFire, hw, hdue, Nat.not_lt.2 (Nat.le_add_left 16 v), if_true, if_false, Nat.add_sub_cancel, he]
  rw [hfire, Dev.vecKick, hripe, hwait]
  cases d.on (F.ICU_HV_STAT_wait_ack.at v) <;> rfl

/-! ### Offers (R82–R84) -/

theorem Dev.offerClass_none {t : Nat} {fast : Bool} (hc : d.choose t fast = none) : d.offerClass t fast = d := by
  unfold Dev.offerClass
  rw [hc]
  split
  · next h => cases h
  · rfl

theorem Dev.offerClass_some {t n : Nat} {fast : Bool} (ho : mget? d.icu.offer (slotKey t fast) = none)
    (hc : d.choose t fast = some n) :
    d.offerClass t fast = { d with icu := { d.icu with offer := mput d.icu.offer (slotKey t fast) n } } := by
  simp only [Dev.offerClass, ho, hc]

/-- What a target shows when it is offered a source: its idle hint, and of a core its trap state too. -/
def Dev.shown (d : Dev) (t : Nat) (x : CoreSeen) : Dev :=
  if t < 8 then (d.flag (F.ICU_T_STAT_wfi.at t) x.wfi).setCore t (fun c => c.see x) else d.flag (F.ICU_T_STAT_wfi.at t) x.wfi

section
variable {t n : Nat} {x : CoreSeen}

theorem Dev.icuOffer_retired (ht : t < 8) (hr : bit (d.rd F.PMU_CORE_retired) t = true) : d.icuOffer t x = d := by
  simp only [Dev.icuOffer, ht, hr, decide_true, Bool.and_self, if_true]

variable (hr : t < 8 → bit (d.rd F.PMU_CORE_retired) t = false)
include hr

theorem Dev.icuOffer_present : d.icuOffer t x =
    match mget? ((d.shown t x).offerClass t true).icu.offer (slotKey t true) with
    | some n => if t < 8 then ((d.shown t x).offerClass t true).setCore t (fun c => c.fastEntry n)
        else (d.shown t x).offerClass t true
    | none => (((d.shown t x).offerClass t true).offerClass t false).winDrained t := by
  have hpresent : (decide (t < 8) && bit (d.rd F.PMU_CORE_retired) t) = false := by
    by_cases ht : t < 8
    · rw [hr ht, Bool.and_false]
    · rw [decide_eq_false ht, Bool.false_and]
  simp only [Dev.icuOffer, hpresent, Bool.false_eq_true, if_false]
  rfl

theorem Dev.icuOffer_normal (hof : mget? (d.shown t x).icu.offer (slotKey t true) = none) (hcf : (d.shown t x).choose t true = none)
    (hon : mget? (d.shown t x).icu.offer (slotKey t false) = none) (hcn : (d.shown t x).choose t false = some n) :
    d.icuOffer t x = ({ d.shown t x with icu := { (d.shown t x).icu with
      offer := mput (d.shown t x).icu.offer (slotKey t false) n } }).winDrained t := by
  rw [Dev.icuOffer_present hr, Dev.offerClass_none hcf, hof, Dev.offerClass_some hon hcn]

theorem Dev.icuOffer_fast (ht : t < 8) (hof : mget? (d.shown t x).icu.offer (slotKey t true) = none)
    (hcf : (d.shown t x).choose t true = some n) :
    d.icuOffer t x = ({ d.shown t x with icu := { (d.shown t x).icu with
      offer := mput (d.shown t x).icu.offer (slotKey t true) n } }).setCore t (fun c => c.fastEntry n) := by
  rw [Dev.icuOffer_present hr, Dev.offerClass_some hof hcf]
  simp only [mget?_mput_same, ht, if_true]

end

/-! ### Completions (R86, R87) -/

theorem Dev.icuDone_active {t src : Nat} {fast : Bool} {e e1 : Dev} (ha : mget? d.icu.active src = some (.target t))
    (hf : fast = (mget? d.icu.slot (slotKey t true) == some src))
    (he : e = ({ d with icu := { d.icu with
      active := mdel d.icu.active src, slot := mdel d.icu.slot (slotKey t fast) } }).showSlots t)
    (he1 : e1 = if t < 8 then e.setCore t (fun c => if fast then c.fastReturn else { c with inNormal := false }) else e) :
    d.icuDone t src = (if isLevelSource src then (e1.applyHeldCfg src).sampleLevel src else e1.applyHeldCfg src).kickSource src := by
  subst hf he he1
  simp only [Dev.icuDone, ha, beq_self_eq_true, if_true]

theorem Dev.icuDone_stray {t src : Nat} (ha : mget? d.icu.active src ≠ some (.target t)) : d.icuDone t src = d.stray src false := by
  simp only [Dev.icuDone, beq_eq_false_iff_ne.2 ha, Bool.false_eq_true, if_false]

end

/-- Settles O8: each clause is one case of the command's meaning. -/
theorem interruptDeliveryCommandsComplete : Obligations.InterruptDeliveryCommandsComplete := by
  refine ⟨fun n d e q ha he => congrArg (ran ⟨d, q⟩) (Dev.icuEdgeEvent_assigned ha he),
    fun n d q ha => congrArg (ran ⟨d, q⟩) (Dev.icuEdgeEvent_unassigned ha),
    fun n d q hl hen hi ha hp => congrArg (ran ⟨d, q⟩) (Dev.icuLevelAssert_rises hl hen hi ha hp),
    fun t w d q ht hw hdue => congrArg (ran ⟨d, q⟩) (Dev.modWindowTimeFire_target ht hw hdue),
    fun v w d e q hw hdue he => congrArg (ran ⟨d, q⟩) (Dev.modWindowTimeFire_vector hw hdue he),
    fun t x n d e q hr he hof hcf hon hcn => ?_,
    fun t x n d e q ht hr he hof hcf => ?_,
    fun t x d q ht hr => congrArg (ran ⟨d, q⟩) (Dev.icuOffer_retired ht hr),
    fun t m fast n d e e1 e2 q hc he he1 he2 => ?_,
    fun t m d q hc => congrArg (ran ⟨d, q⟩) (Dev.icuClaimTimed_of_none hc m.toNat),
    fun t s fast d e e1 q ha hf he he1 => congrArg (ran ⟨d, q⟩) (Dev.icuDone_active ha hf he he1),
    fun t s d q ha => congrArg (ran ⟨d, q⟩) (Dev.icuDone_stray ha),
    fun w v d q => rfl, fun w v d q => rfl, fun w v a b old new d e e1 q hold hnew he he1 => ?_⟩
  · obtain rfl : e = d.shown t.val x := he
    exact congrArg (ran ⟨d, q⟩) (Dev.icuOffer_normal hr hof hcf hon hcn)
  · obtain rfl : e = d.shown t.val x := he.trans (if_pos ht).symm
    exact congrArg (ran ⟨d, q⟩) (Dev.icuOffer_fast (fun _ => hr) ht hof hcf)
  · subst he he1 he2
    exact congrArg (ran ⟨d, q⟩) (Dev.icuClaimTimed_of_some hc m.toNat)
  · subst hold hnew he he1
    rfl

section
variable {d : Dev}

/-! ### Routes and modes (R79, R89, R98) -/

theorem Dev.icuSrcCfgWrite_ring {n : Nat} (hn : n < 64) (v : Nat) :
    d.icuSrcCfgWrite n v = d.wr (F.ICU_SRC_CFG_fast.at n) (bits v 30 1) := if_pos hn

theorem Dev.icuSrcCfgWrite_held {n : Nat} {a : ActAt} (hn : 64 ≤ n) (ha : mget? d.icu.active n = some a) (v : Nat) :
    d.icuSrcCfgWrite n v = { d with icu := { d.icu with heldCfg := mput d.icu.heldCfg n v } } := by
  simp only [Dev.icuSrcCfgWrite, Nat.not_lt.2 hn, ha, Option.isSome_some, if_true, if_false]

/-- The target that a write leaves (R98): 0xB–0xE are ignored, and then nothing moves. -/
theorem Dev.newTarget_routed {n : Nat} (hn : 64 ≤ n) (v : Nat) : d.newTarget n v =
    if 0xB ≤ bits v 12 4 ∧ bits v 12 4 ≤ 0xE then d.rd (F.ICU_SRC_CFG_target.at n) else bits v 12 4 := by
  simp only [Dev.newTarget, Dev.srcTarget, Nat.not_lt.2 hn, if_false, Bool.and_eq_true, decide_eq_true_eq]

theorem Dev.newTarget_moved {n v : Nat} (h : d.newTarget n v ≠ d.srcTarget n) (e : Dev) : e.newTarget n v = d.newTarget n v := by
  unfold Dev.newTarget at *
  split
  · next hc => rw [if_pos hc] at h; exact absurd rfl h
  · rfl

theorem Dev.icuSrcCfgWrite_routes {n v t : Nat} {e : Dev} (hn : 64 ≤ n) (ha : mget? d.icu.active n = none)
    (ht : t = if 0xB ≤ bits v 12 4 ∧ bits v 12 4 ≤ 0xE then d.rd (F.ICU_SRC_CFG_target.at n) else bits v 12 4)
    (he : e = if t = d.rd (F.ICU_SRC_CFG_target.at n) then d else d.withdraw (fun _ k => k == n)) :
    d.icuSrcCfgWrite n v = (((e.wr (F.ICU_SRC_CFG_fast.at n) (bits v 30 1)).wr (F.ICU_SRC_CFG_target.at n) t).wr
      (F.ICU_SRC_CFG_vector.at n) (bits v 0 8)).kickSource n := by
  have htarget : d.srcTarget n = d.rd (F.ICU_SRC_CFG_target.at n) := if_neg (Nat.not_lt.2 hn)
  rw [← Dev.newTarget_routed hn] at ht
  rw [← htarget] at he
  have hstore : d.icuSrcCfgWrite n v = (e.srcCfgStore n v).kickSource n := by
    simp only [Dev.icuSrcCfgWrite, Nat.not_lt.2 hn, ha, Option.isSome_none, Bool.false_eq_true, if_false, bne_iff_ne, ne_eq,
      ite_not, he, ht]
  have hnew : e.newTarget n v = t := by
    by_cases hm : t = d.srcTarget n
    · rw [he, if_pos hm, ht]
    · rw [Dev.newTarget_moved (ht ▸ hm) e, ht]
  rw [hstore, Dev.srcCfgStore, hnew]

theorem Dev.icuModeWrite_rejected {t n : Nat} {fast : Bool} (h : mget? d.icu.slot (slotKey t fast) = some n) (v : Nat) :
    d.icuModeWrite t v = d.setF (F.ICU_T_STAT_mode_rej.at t) := by
  cases fast with
  | true => simp only [Dev.icuModeWrite, h, Option.isSome_some, Bool.true_or, if_true]
  | false => simp only [Dev.icuModeWrite, h, Option.isSome_some, Bool.or_true, if_true]

theorem Dev.icuModeWrite_free {t v : Nat} {e : Dev} (hf : mget? d.icu.slot (slotKey t true) = none)
    (hn : mget? d.icu.slot (slotKey t false) = none)
    (he : e = if d.on (F.ICU_T_MODE_class_mode.at t) = bit v 0 then d else d.withdraw (fun k _ => k / 2 == t)) :
    d.icuModeWrite t v = if t < 8 then e.wr (F.ICU_T_MODE_class_mode.at t) (bits v 0 1) else d := by
  simp only [Dev.icuModeWrite, hf, hn, Option.isSome_none, Bool.or_self, Bool.false_eq_true, if_false, bne_iff_ne, ne_eq,
    ite_not, he]

end

/-- Settles O9: each clause is one case of the command's meaning. -/
theorem sourceRoutingCommandsComplete : Obligations.SourceRoutingCommandsComplete := by
  refine ⟨fun n d q => rfl, fun n d e q he => ?_,
    fun n v d q hn => congrArg (ran ⟨d, q⟩) (Dev.icuSrcCfgWrite_ring hn v.toNat),
    fun n v a d q hn ha => congrArg (ran ⟨d, q⟩) (Dev.icuSrcCfgWrite_held hn ha v.toNat),
    fun n v t d e q hn ha ht he => congrArg (ran ⟨d, q⟩) (Dev.icuSrcCfgWrite_routes hn ha ht he),
    fun t v d e q hf hn he => congrArg (ran ⟨d, q⟩) (Dev.icuModeWrite_free hf hn he),
    fun t v fast n d q h => congrArg (ran ⟨d, q⟩) (Dev.icuModeWrite_rejected h v.toNat)⟩
  subst he
  rfl

section
variable {d : Dev}

/-! ### Messages to the host (R95–R97) -/

/-- A write of an MSI-X mask: a vector's Mask cleared, Function Mask and MSI-X Enable stored. -/
theorem Dev.msixVectorUnmask_eq {v : Option (Fin 256)} {fm en : Bool} {e : Dev}
    (he : e = (match v with
      | some k => d.clrF (F.XDI_MSIX_VCTL_mask.at k.val)
      | none => d)) :
    d.msixVectorUnmask (v.map (·.val)) fm en
      = ({ e with icu := { e.icu with fnMask := fm, msixEn := en } } : Dev).releaseHeld := by
  subst he
  cases v with
  | none => rfl
  | some k => rfl

theorem Dev.releaseHeld_d3hot (h : d.on F.XDI_STATUS_d3hot = true) : d.releaseHeld = d := if_pos h

theorem Dev.releaseHeld_awake (h : d.on F.XDI_STATUS_d3hot = false) : d.releaseHeld = (d.icu.heldMsg.map (fun x => x.1)).foldl
    (fun (d : Dev) k => ({ d with icu := { d.icu with heldMsg := mdel d.icu.heldMsg k } }).msixDue k) d := by
  simp only [Dev.releaseHeld, h, Bool.false_eq_true, if_false]

theorem Dev.hostReattachMessages_nothing (h : d.icu.owing = false ∨ d.on F.XDI_STATUS_host_present = false
    ∨ d.on F.XDI_STATUS_d3hot = true ∨ d.icu.msixEn = false ∨ d.icu.fnMask = true) : d.hostReattachMessages = d := by
  rcases h with h | h | h | h | h <;>
    simp only [Dev.hostReattachMessages, h, Bool.not_true, Bool.false_and, Bool.and_false, Bool.false_eq_true, if_false]

theorem Dev.hostReattachMessages_owed (ho : d.icu.owing = true) (hp : d.on F.XDI_STATUS_host_present = true)
    (h3 : d.on F.XDI_STATUS_d3hot = false) (hen : d.icu.msixEn = true) (hfm : d.icu.fnMask = false) :
    d.hostReattachMessages = d.busyVectors.foldl (fun (x : Dev) v => (((x.deliverableVec v).foldl (fun (y : Dev) n =>
      ({ y with icu := { y.icu with active := mput y.icu.active n (.vector v) } }).wrSrcBit F.ICU_PEND_pending n false)
        (x.setWin (16 + v) none)).setF (F.ICU_HV_STAT_wait_ack.at v)).msixDue v)
      { d with icu := { d.icu with heldMsg := [], owing := false } } := by
  simp only [Dev.hostReattachMessages, ho, hp, h3, hen, hfm, Bool.not_false, Bool.and_self, if_true]

end

/-- Settles O10: each clause is one case of the command's meaning. -/
theorem hostVectorCommandsComplete : Obligations.HostVectorCommandsComplete := by
  refine ⟨fun v d q => rfl, fun v fm en d e q he h3 => ?_, fun v fm en d e q he h3 => ?_, fun d q => rfl, fun d q => rfl,
    fun d q ho hp h3 hen hfm => congrArg (ran ⟨d, q⟩) (Dev.hostReattachMessages_owed ho hp h3 hen hfm),
    fun d q h => congrArg (ran ⟨d, q⟩) (Dev.hostReattachMessages_nothing h)⟩
  · exact congrArg (ran ⟨d, q⟩) ((Dev.msixVectorUnmask_eq he).trans (Dev.releaseHeld_awake h3))
  · exact congrArg (ran ⟨d, q⟩) ((Dev.msixVectorUnmask_eq he).trans (Dev.releaseHeld_d3hot h3))

end Sys2Proof.Machine
end

section
/-! PROOF. Commands that change registers and the own state of one block (O59). -/

namespace Sys2Proof.Machine

/-- The blocks whose own state a command below changes. -/
inductive Own where
  | icu | msr | wlz | tsu

/-- A device with its register fields and a block's own state left out. -/
def Dev.without (b : Own) (d : Dev) : Dev :=
  match b with
  | .icu => { d with regs := [], icu := {} }
  | .msr => { d with regs := [], msr := {} }
  | .wlz => { d with regs := [], wlz := {} }
  | .tsu => { d with regs := [], tsu := {} }

/-- A device with the register fields and a block's own state of another. -/
def Dev.graft (b : Own) (d e : Dev) : Dev :=
  match b with
  | .icu => { d with regs := e.regs, icu := e.icu }
  | .msr => { d with regs := e.regs, msr := e.msr }
  | .wlz => { d with regs := e.regs, wlz := e.wlz }
  | .tsu => { d with regs := e.regs, tsu := e.tsu }

/-- A device that differs from another in register fields and a block's own state at most. -/
def Dev.OwnOnly (b : Own) (d e : Dev) : Prop := e.without b = d.without b

theorem Dev.graft_without (b : Own) (d e : Dev) : (d.without b).graft b e = d.graft b e := by
  cases b <;> rfl

theorem Dev.graft_self (b : Own) (d : Dev) : d.graft b d = d := by
  cases b <;> rfl

namespace Dev.OwnOnly

variable {b : Own} {d e : Dev}

theorem refl (b : Own) (d : Dev) : d.OwnOnly b d := rfl

theorem wr (h : d.OwnOnly b e) (f : Fld) (v : Nat) : d.OwnOnly b (e.wr f v) := by
  cases b <;> exact h

theorem setF (h : d.OwnOnly b e) (f : Fld) : d.OwnOnly b (e.setF f) := h.wr f 1

theorem clrF (h : d.OwnOnly b e) (f : Fld) : d.OwnOnly b (e.clrF f) := h.wr f 0

theorem icu (h : d.OwnOnly .icu e) (x : Icu) : d.OwnOnly .icu { e with icu := x } := h

theorem msr (h : d.OwnOnly .msr e) (x : Msr) : d.OwnOnly .msr { e with msr := x } := h

theorem wlz (h : d.OwnOnly .wlz e) (x : Wlz) : d.OwnOnly .wlz { e with wlz := x } := h

theorem tsu (h : d.OwnOnly .tsu e) (x : Tsu) : d.OwnOnly .tsu { e with tsu := x } := h

theorem foldl {α : Type} {g : Dev → α → Dev} (hg : ∀ (e : Dev) (x : α), d.OwnOnly b e → d.OwnOnly b (g e x)) (l : List α)
    (h : d.OwnOnly b e) : d.OwnOnly b (l.foldl g e) := by
  induction l generalizing e with
  | nil => exact h
  | cons x t ih => exact ih (hg e x h)

theorem mem (h : d.OwnOnly b e) : e.mem = d.mem := by
  have hmem : (e.without b).mem = (d.without b).mem := congrArg Dev.mem h
  cases b <;> exact hmem

/-- The frame as the statements write it: all but the registers and the block's own state is the device's before. -/
theorem ran_eq {s t : State} (h : s.dev.OwnOnly b e) (ht : ran s e = .next t) : t = ⟨s.dev.graft b t.dev, s.pending⟩ := by
  obtain rfl : { s with dev := e } = t := Host.Outcome.next.inj ht
  have he : e = s.dev.graft b e :=
    calc e = (e.without b).graft b e := by rw [graft_without, graft_self]
      _ = (s.dev.without b).graft b e := by rw [h]
      _ = s.dev.graft b e := graft_without b s.dev e
  exact congrArg (fun x => State.mk x s.pending) he

end Dev.OwnOnly

/-! ### The interrupt controller -/

section
variable {d e : Dev}

theorem Dev.OwnOnly.setCore (h : d.OwnOnly .icu e) (t : Nat) (f : CoreIrq → CoreIrq) : d.OwnOnly .icu (e.setCore t f) := h.icu _

theorem Dev.OwnOnly.withdraw (h : d.OwnOnly .icu e) (p : Nat → Nat → Bool) : d.OwnOnly .icu (e.withdraw p) := (h.icu _).wr _ _

theorem Dev.OwnOnly.offerClass (h : d.OwnOnly .icu e) (t : Nat) (fast : Bool) : d.OwnOnly .icu (e.offerClass t fast) := by
  unfold Dev.offerClass
  split
  · exact h.icu _
  · exact h

theorem Dev.OwnOnly.winDrained (h : d.OwnOnly .icu e) {t : Nat} (ht : t < 16) : d.OwnOnly .icu (e.winDrained t) := by
  obtain ⟨w, hw⟩ := e.winDrained_frame ht
  rw [hw]
  exact h.icu _

theorem Dev.ownOnly_shown (d : Dev) (t : Nat) (x : CoreSeen) : d.OwnOnly .icu (d.shown t x) := by
  unfold Dev.shown
  split
  · exact ((OwnOnly.refl .icu d).wr _ _).setCore _ _
  · exact (OwnOnly.refl .icu d).wr _ _

end

theorem Dev.ownOnly_icuSrcCmdClear (d : Dev) (n : Nat) : d.OwnOnly .icu (d.icuSrcCmdClear n) :=
  ((OwnOnly.refl .icu d).wr _ _).icu _

/-- A host that arrives shows in XDI_STATUS alone (R46). -/
theorem Dev.OwnOnly.hostArrives {b : Own} {d e : Dev} (h : d.OwnOnly b e) : d.OwnOnly b e.hostArrives := by
  unfold Dev.hostArrives
  split
  · exact (h.setF _).wr _ _
  · exact h

theorem Dev.ownOnly_pcieLinkUp (d : Dev) (l1 : Bool) : d.OwnOnly .icu (d.pcieLinkUp l1) := by
  unfold Dev.pcieLinkUp
  split
  · exact .refl .icu d
  · exact (((OwnOnly.refl .icu d).icu _).setF _).hostArrives

theorem Dev.ownOnly_icuOffer (d : Dev) {t : Nat} (ht : t < 16) (x : CoreSeen) : d.OwnOnly .icu (d.icuOffer t x) := by
  by_cases hr : t < 8 ∧ bit (d.rd F.PMU_CORE_retired) t = true
  · rw [Dev.icuOffer_retired hr.1 hr.2]
    exact .refl .icu d
  · rw [Dev.icuOffer_present fun h => Bool.eq_false_iff.2 fun hb => hr ⟨h, hb⟩]
    have hfast := (d.ownOnly_shown t x).offerClass t true
    split
    · split
      · exact hfast.setCore _ _
      · exact hfast
    · exact (hfast.offerClass _ _).winDrained ht

theorem Dev.ownOnly_icuModeWrite (d : Dev) (t v : Nat) : d.OwnOnly .icu (d.icuModeWrite t v) := by
  simp only [Dev.icuModeWrite]
  split
  · exact (OwnOnly.refl .icu d).setF _
  · split
    · split
      · exact ((OwnOnly.refl .icu d).withdraw _).wr _ _
      · exact (OwnOnly.refl .icu d).wr _ _
    · exact .refl .icu d

/-! ### The meter table -/

theorem Dev.ownOnly_ckptStart (d : Dev) : d.OwnOnly .msr d.ckptStart := by
  unfold Dev.ckptStart
  split
  · exact ((OwnOnly.refl .msr d).msr _).setF _
  · exact .refl .msr d

theorem Dev.ownOnly_msrCheckpointPeriod (d : Dev) : d.OwnOnly .msr d.msrCheckpointPeriod := by
  unfold Dev.msrCheckpointPeriod
  split
  · exact .refl .msr d
  · exact d.ownOnly_ckptStart

theorem Dev.ownOnly_msrCkptNow (d : Dev) : d.OwnOnly .msr d.msrCkptNow := by
  unfold Dev.msrCkptNow
  split
  · exact d.ownOnly_ckptStart.setF _
  · exact .refl .msr d

/-! ### Waltz -/

section
variable {d e : Dev}

theorem Dev.OwnOnly.nodeAdd (h : d.OwnOnly .wlz e) (n : Nat) (up unsettled : Bool) (ewma : Int) :
    d.OwnOnly .wlz (e.nodeAdd n up unsettled ewma) := by
  simp only [Dev.nodeAdd]
  split
  · exact h.wr _ _
  · exact h.wlz _

/-- A recount reads the records and the profiles, and writes Waltz's counts (R186). -/
theorem Dev.OwnOnly.wlzRecount (h : d.OwnOnly .wlz e) : d.OwnOnly .wlz e.wlzRecount := by
  refine OwnOnly.foldl (fun x r hx => ?_) _ (h.wlz _)
  dsimp only
  split
  · exact hx
  · exact hx.nodeAdd _ _ _ _

theorem Dev.OwnOnly.inferStart (h : d.OwnOnly .wlz e) (c : Option Desc) (g : Option Nat) : d.OwnOnly .wlz (e.inferStart c g) :=
  (h.wlzRecount.wlz _).setF _

end

theorem Dev.ownOnly_inferNow (d : Dev) : d.OwnOnly .wlz d.inferNow := by
  have hset : d.OwnOnly .wlz (d.setF F.WLZ_INFER_infer_now) := (OwnOnly.refl .wlz d).setF _
  simp only [Dev.inferNow]
  split
  · exact .refl .wlz d
  · split
    · exact hset.inferStart _ _
    · exact hset

theorem Dev.ownOnly_waltzRunningStart (d : Dev) : d.OwnOnly .wlz d.waltzRunningStart := by
  have hrun : d.OwnOnly .wlz (d.setF F.WLZ_STATUS_running) := (OwnOnly.refl .wlz d).setF _
  have hcatch (x : Wlz) : d.OwnOnly .wlz (({ d.setF F.WLZ_STATUS_running with wlz := x } : Dev).setF F.WLZ_STATUS_catching_up) :=
    (hrun.wlz x).setF _
  simp only [Dev.waltzRunningStart]
  split
  · exact .refl .wlz d
  · split
    · split
      · exact ((hcatch _).wlz _).setF _
      · exact hcatch _
    · split
      · exact (hrun.wlz _).setF _
      · exact hrun

/-! ### Pulses -/

theorem Dev.ownOnly_pulseArm (d : Dev) (k : Nat) : d.OwnOnly .tsu (d.pulseArm k) := by
  have hd := OwnOnly.refl .tsu d
  simp only [Dev.pulseArm]
  split
  · exact (hd.setF _).clrF _
  · split
    · exact (hd.setF _).clrF _
    · exact (hd.tsu _).setF _

/-- Settles O59: each meaning is made of writes of fields and of updates of the one block's own state. -/
theorem blockStateFrames : Obligations.BlockStateFrames :=
  ⟨fun n s _ => (s.dev.ownOnly_icuSrcCmdClear n.val).ran_eq,
   fun l s _ => (s.dev.ownOnly_pcieLinkUp l).ran_eq,
   fun x seen s _ => (s.dev.ownOnly_icuOffer (Nat.lt_trans x.isLt (by decide)) seen).ran_eq,
   fun x v s _ => (s.dev.ownOnly_icuModeWrite x.val v.toNat).ran_eq,
   fun s _ => s.dev.ownOnly_msrCheckpointPeriod.ran_eq,
   fun s _ => s.dev.ownOnly_msrCkptNow.ran_eq,
   fun s _ => s.dev.ownOnly_waltzRunningStart.ran_eq,
   fun s _ => s.dev.ownOnly_inferNow.ran_eq,
   fun k s _ => (s.dev.ownOnly_pulseArm k.val).ran_eq⟩

end Sys2Proof.Machine
end

section
/-! PROOF. Commands that leave every byte of memory (O60). -/

namespace Sys2Proof.Machine

/-- What every step of a fold leaves, the fold leaves. -/
theorem foldl_keeps {α β : Type} (p : Dev → β) {g : Dev → α → Dev} (hg : ∀ d x, p (g d x) = p d) (l : List α) (d : Dev) :
    p (l.foldl g d) = p d := by
  induction l generalizing d with
  | nil => rfl
  | cons x t ih => exact (ih (g d x)).trans (hg d x)

theorem foldN_keeps {β : Type} (p : Dev → β) {g : Nat → Dev → Dev} (hg : ∀ i d, p (g i d) = p d) (n : Nat) (d : Dev) :
    p (foldN n g d) = p d := by
  induction n with
  | zero => rfl
  | succ n ih => exact (hg n _).trans ih

/-- The frame of memory as the statements write it. -/
theorem read_of_ran {s t : State} {e : Dev} (he : e.mem = s.dev.mem) (ht : ran s e = .next t) (a : Nat) :
    t.dev.mem.read a = s.dev.mem.read a := by
  obtain rfl : { s with dev := e } = t := Host.Outcome.next.inj ht
  exact congrArg (fun m => Memory.read m a) he

/-! ### Messages and windows -/

@[simp] theorem Dev.wrSrcBit_mem (d : Dev) (f : Fld) (n : Nat) (b : Bool) : (d.wrSrcBit f n b).mem = d.mem := rfl

@[simp] theorem Dev.setWin_mem (d : Dev) (dest : Nat) (w : Option ModWin) : (d.setWin dest w).mem = d.mem := by
  simp only [Dev.setWin]
  split
  · rfl
  · split <;> rfl

@[simp] theorem Dev.msixDue_mem (d : Dev) (v : Nat) : (d.msixDue v).mem = d.mem := by
  simp only [Dev.msixDue]
  split
  · rfl
  split
  · split <;> rfl
  split
  · rfl
  split
  · rfl
  split <;> rfl

@[simp] theorem Dev.vecFire_mem (d : Dev) (v : Nat) : (d.vecFire v).mem = d.mem := by
  simp only [Dev.vecFire]
  split
  · exact d.setWin_mem _ _
  · rw [Dev.msixDue_mem, Dev.clrF_mem, Dev.setF_mem, foldl_keeps Dev.mem, Dev.setWin_mem]
    exact fun _ _ => rfl

@[simp] theorem Dev.vecKick_mem (d : Dev) (v : Nat) : (d.vecKick v).mem = d.mem := by
  unfold Dev.vecKick
  split
  · exact d.vecFire_mem v
  · rfl

@[simp] theorem Dev.kickSource_mem (d : Dev) (n : Nat) : (d.kickSource n).mem = d.mem := by
  unfold Dev.kickSource
  split
  · exact d.vecKick_mem _
  · rfl

@[simp] theorem Dev.kickWord_mem (d : Dev) (w : Nat) : (d.kickWord w).mem = d.mem :=
  foldN_keeps Dev.mem (fun _ e => e.kickSource_mem _) 32 d

/-! ### Events -/

@[simp] theorem Dev.modEvent_mem (d : Dev) (n : Nat) (irqNow left : Bool) : (d.modEvent n irqNow left).mem = d.mem := by
  simp only [Dev.modEvent]
  split
  · rw [Dev.vecKick_mem, Dev.setWin_mem]
  split
  · split
    · split
      · rfl
      · exact d.setWin_mem _ _
    · exact d.setWin_mem _ _
  · rfl

@[simp] theorem Dev.pendNote_mem (d : Dev) (n : Nat) : (d.pendNote n).mem = d.mem := by
  unfold Dev.pendNote
  split <;> rfl

@[simp] theorem Dev.pendEvent_mem (d : Dev) (n : Nat) (irqNow : Bool) : (d.pendEvent n irqNow).mem = d.mem := by
  simp only [Dev.pendEvent, Dev.modEvent_mem, Dev.wrSrcBit_mem, Dev.pendNote_mem]

@[simp] theorem Dev.raiseIrq_mem (d : Dev) (n : Nat) (irqNow : Bool) : (d.raiseIrq n irqNow).mem = d.mem := by
  simp only [Dev.raiseIrq]
  split
  · exact Dev.pendEvent_mem _ _ _
  · rfl

@[simp] theorem Dev.raise_mem (d : Dev) (n : Nat) : (d.raise n).mem = d.mem := d.raiseIrq_mem n false

@[simp] theorem Dev.sampleLevel_mem (d : Dev) (n : Nat) : (d.sampleLevel n).mem = d.mem := by
  unfold Dev.sampleLevel
  split
  · split
    · rfl
    · exact d.pendEvent_mem n false
  · rfl

theorem Dev.icuEdgeEvent_mem (d : Dev) (n : Nat) : (d.icuEdgeEvent n).mem = d.mem := by
  unfold Dev.icuEdgeEvent
  split
  · exact d.raise_mem n
  · rfl

theorem Dev.icuPendWrite_mem (d : Dev) (w v hwSet hwClear : Nat) : (d.icuPendWrite w v hwSet hwClear).mem = d.mem := by
  simp only [Dev.icuPendWrite, Dev.kickWord_mem]
  rw [foldN_keeps Dev.mem, Dev.wr_mem, foldN_keeps Dev.mem]
  · intro i e
    split
    · exact e.pendNote_mem _
    · rfl
  · intro i e
    split
    · exact e.modEvent_mem _ _ _
    · rfl

/-! ### Claims, completions and routes -/

@[simp] theorem Dev.fifoStore_mem (d : Dev) (off : Nat) (q : Fifo) : (d.fifoStore off q).mem = d.mem := by
  have hsync (e : Dev) : (e.syncFifo off).mem = e.mem := by
    unfold Dev.syncFifo
    split <;> rfl
  simp only [Dev.fifoStore, hsync]
  split <;> split <;> split <;> rfl

@[simp] theorem Dev.fifoPush_mem (d : Dev) (off cap : Nat) (item : List Byte) : (d.fifoPush off cap item).mem = d.mem := by
  simp only [Dev.fifoPush]
  split
  · exact d.fifoStore_mem _ _
  · split
    · exact d.fifoStore_mem _ _
    · rfl

@[simp] theorem Dev.sample_mem (d : Dev) (meas idx value : Nat) : (d.sample meas idx value).mem = d.mem := by
  simp only [Dev.sample]
  split
  · rw [Dev.fifoPush_mem]
    split <;> rfl
  · rfl

theorem Dev.icuClaimTimed_mem (d : Dev) {t : Nat} (ht : t < 16) (m : Nat) : (d.icuClaimTimed t m).mem = d.mem := by
  rcases hc : d.claimable t with _ | ⟨fast, n⟩
  · rw [Dev.icuClaimTimed_of_none hc, Dev.emit_mem]
  · obtain ⟨w, c, htaken⟩ := d.taken_frame ht fast n
    rw [Dev.icuClaimTimed_of_some hc, Dev.sample_mem, Dev.emit_mem, htaken]
    rfl

@[simp] theorem Dev.applyHeldCfg_mem (d : Dev) (n : Nat) : (d.applyHeldCfg n).mem = d.mem := by
  unfold Dev.applyHeldCfg
  split <;> rfl

theorem Dev.icuDone_mem (d : Dev) (t src : Nat) : (d.icuDone t src).mem = d.mem := by
  have hcore (e : Dev) (f : CoreIrq → CoreIrq) : (if t < 8 then e.setCore t f else e).mem = e.mem := by
    split <;> rfl
  simp only [Dev.icuDone]
  split
  · rw [Dev.kickSource_mem]
    split
    · rw [Dev.sampleLevel_mem, Dev.applyHeldCfg_mem, hcore]
      rfl
    · rw [Dev.applyHeldCfg_mem, hcore]
      rfl
  · rfl

theorem Dev.icuSrcCfgWrite_mem (d : Dev) (n v : Nat) : (d.icuSrcCfgWrite n v).mem = d.mem := by
  simp only [Dev.icuSrcCfgWrite]
  split
  · rfl
  split
  · rfl
  · rw [Dev.kickSource_mem]
    split <;> rfl

/-! ### The watchdog and pulses -/

theorem Dev.wdtPrewarn_mem (d : Dev) : d.wdtPrewarn.mem = d.mem := by
  unfold Dev.wdtPrewarn
  split
  · exact Dev.raise_mem _ 103
  · rfl

theorem Dev.pulseArm_mem (d : Dev) (k : Nat) : (d.pulseArm k).mem = d.mem :=
  (d.ownOnly_pulseArm k).mem

theorem Dev.pulseTrailingEdge_mem (d : Dev) (k : Nat) : (d.pulseTrailingEdge k).mem = d.mem := by
  simp only [Dev.pulseTrailingEdge]
  split
  · rfl
  · split <;> rfl

/-- Settles O60: none of the operations these meanings are made of writes memory. -/
theorem memoryKeepingFrame : Obligations.MemoryKeepingFrame :=
  ⟨fun n s _ => read_of_ran (s.dev.icuEdgeEvent_mem n.val),
   fun n s _ => read_of_ran (s.dev.pendEvent_mem n.val false),
   fun x m s _ => read_of_ran (s.dev.icuClaimTimed_mem (Nat.lt_trans x.isLt (by decide)) m.toNat),
   fun x v s _ => read_of_ran (s.dev.icuDone_mem x.val v.toNat),
   fun s _ => read_of_ran s.dev.wdtPrewarn_mem,
   fun v s _ => read_of_ran (e := s.dev.rtcSecWrite v.toNat) rfl,
   fun m s _ => read_of_ran (e := s.dev.tsuNowRead m.toNat) rfl,
   fun k s _ => read_of_ran (s.dev.pulseArm_mem k.val),
   fun k s _ => read_of_ran (s.dev.pulseTrailingEdge_mem k.val),
   fun n v s _ => read_of_ran (s.dev.icuSrcCfgWrite_mem n.val v.toNat),
   fun w v b c s _ => read_of_ran (s.dev.icuPendWrite_mem w.val v.toNat b.toNat c.toNat)⟩

end Sys2Proof.Machine
end

section
/-! PROOF. The opcodes MTR_* on a served table, case by case (R99–R119, R545; O11). -/

namespace Sys2Proof.Machine

section
variable {d e : Dev} {c : Desc} {r : Nat}

/-! ### What lets an opcode through (R107, R113, R145) -/

/-- An opcode on a record that is not corrupt, and not Free either. -/
theorem Dev.mtrOn_used {i : Nat} (hg : d.msrGet i = (e, some r)) (hs : rg r R.state ≠ stFree) (freeOk : Bool)
    (k : Dev → Nat → Dev) : d.mtrOn c i freeOk k = k e r := by
  simp only [Dev.mtrOn, hg, hs, decide_false, Bool.false_and, Bool.false_eq_true, if_false]

theorem Dev.mtrOn_freeOk {i : Nat} (hg : d.msrGet i = (e, some r)) (k : Dev → Nat → Dev) : d.mtrOn c i true k = k e r := by
  simp only [Dev.mtrOn, hg, Bool.not_true, Bool.and_false, Bool.false_eq_true, if_false]

theorem Dev.mtrChange_unblocked (hb : d.stgBlock 1 0 = none) (k : Dev → Dev) : d.mtrChange c k = k d := by
  simp only [Dev.mtrChange, hb]

section
variable (hen : d.on F.MSR_CTRL_enable = true) (hrdy : d.on F.MSR_STATUS_ready = true)
include hen hrdy

theorem Dev.mtrServed_read (k : Dev → Dev) : d.mtrServed c true k = k d := by
  simp only [Dev.mtrServed, hen, hrdy, Bool.true_or, Bool.and_self, if_true]

/-! ### The opcodes that only read (R119) -/

theorem Dev.mtrLookup_found {i : Nat} (hby : wArg c.w 32 1 = 0) (hz : wUnusedZero c.w [(24, 33)] = true)
    (hr : wReservedOk c.w = true) (hf : d.idtFind (wArg c.w 24 8) = some i) (hg : d.msrGet i = (e, some r))
    (hs : rg r R.state ≠ stFree) : d.mtrLookup c = e.okRes c (i + rg r R.state * 2 ^ 20) (rg r R.eui) := by
  simp only [Dev.mtrLookup, hby, if_true, Dev.withFields_ok hz hr, Dev.mtrServed_read hen hrdy, hf, Dev.mtrOn_used hg hs]

theorem Dev.mtrRead_sound (hz : wUnusedZero c.w [(8, 20), (24, 28)] = true) (hr : wReservedOk c.w = true)
    (hl : 256 ≤ wLen c.w) (hi : argIndex c.w < msrSize) (hg : d.msrGet (argIndex c.w) = (e, some r))
    (hs : rg r R.state ≠ stFree) : d.mtrRead c
      = e.finish c { status := 0, result := rg r R.recGen, data := [(wAddr c.w, leBytes 256 r)] } := by
  simp only [Dev.mtrRead, Dev.withFields_ok hz hr, Nat.not_lt.2 hl, Nat.not_le.2 hi, decide_false, Bool.or_self,
    Bool.false_eq_true, if_false, Dev.mtrServed_read hen hrdy, hg, hs]

/-- A scan of the records held that finds none of them looks as far as its count of indices goes. -/
theorem Dev.mtrScan_empty (hz : wUnusedZero c.w [(8, 20), (24, 33)] = true) (hr : wReservedOk c.w = true)
    (hi : argIndex c.w < msrSize) (hl : wLen c.w % 256 = 0) (hfree : bit (wArg c.w 32 1) 7 = false) (hm : d.msrRecs = []) :
    d.mtrScan c = d.finish c
      { status := 0, result := 0, result2 := min msrSize (argIndex c.w + wArg c.w 28 4), data := [] } := by
  simp only [Dev.mtrScan, Dev.withFields_ok hz hr, Nat.not_le.2 hi, hl, decide_false, bne_self_eq_false, Bool.or_self,
    Bool.false_eq_true, if_false, Dev.mtrServed_read hen hrdy, hfree, hm, List.map_nil, List.filter_nil, List.take_nil,
    List.drop_nil, List.head?_nil, Option.getD_none, List.length_nil, List.isEmpty_nil, if_true]

/-! ### The opcodes that change records (R104, R106, R109, R110, R119, R545) -/

section
variable (hrun : d.mode = .run) (hq : d.msr.queue = [])
include hrun hq

/-- An opcode that changes a record runs at once where nothing waits. -/
theorem Dev.mtrServed_turn (k : Dev → Dev) : d.mtrServed c false (fun d => d.mtrTurn c k) = k d := by
  simp only [Dev.mtrServed, Dev.mtrTurn, hen, hrdy, hrun, hq, Bool.or_true, Bool.and_self, List.isEmpty_nil, if_true]

section
variable (hr : wReservedOk c.w = true) (hi : argIndex c.w < msrSize) (hg : d.msrGet (argIndex c.w) = (e, some r))
include hr hi hg

theorem Dev.mtrWrite_merged (hz : wUnusedZero c.w [(8, 20), (24, 64)] = true) (hl : wLen c.w = 256)
    (hmask : maskLocked (wArg c.w 32 32) = false) (hs : rg r R.state ≠ stFree) (hgen : wArg c.w 28 4 = rg r R.recGen)
    (hdata : c.data.length = 256) {f : Dev}
    (hf : f = e.msrPut (argIndex c.w) (maskMerge r (leNat c.data) (wArg c.w 32 32))) :
    d.mtrWrite c = f.okRes c (rg (f.msrPeek (argIndex c.w)) R.recGen) := by
  subst hf
  simp only [Dev.mtrWrite, Dev.withFields_ok hz hr, hl, Nat.not_le.2 hi, bne_self_eq_false, decide_false, Bool.or_self,
    Bool.and_false, Bool.false_eq_true, if_false, Dev.mtrServed_turn hen hrdy hrun hq, hg, hmask, hs, hgen, hdata]

theorem Dev.mtrTransit_made {tgt reason : Nat} (hz : wUnusedZero c.w [(24, 28)] = true) (hs : rg r R.state ≠ stFree)
    (ht : transitionOk (rg r R.state) tgt reason = true) (hb : e.stgBlock 1 0 = none) (edit : Nat → Nat)
    (after : Dev → Nat → Dev) : d.mtrTransit c tgt reason edit after
      = (after (e.stateChange (argIndex c.w) (edit r) tgt reason (rg r R.state)) r).okRes c := by
  simp only [Dev.mtrTransit, Dev.withFields_ok hz hr, Nat.not_le.2 hi, if_false, Dev.mtrServed_turn hen hrdy hrun hq,
    Dev.mtrOn_used hg hs, ht, if_true, Dev.mtrChange_unblocked hb]

theorem Dev.mtrRelease_quarantined (hz : wUnusedZero c.w [(24, 28)] = true) (hs : rg r R.state = stQuarantined)
    (hb : e.stgBlock 1 0 = none) : d.mtrRelease c
      = (e.stateChange (argIndex c.w) (rs r R.ruleFail 0) stActive 8 stQuarantined).okRes c := by
  have hused : rg r R.state ≠ stFree := hs ▸ by decide
  have ht : transitionOk (rg r R.state) stActive 8 = true := hs ▸ by decide
  rw [Dev.mtrRelease, Dev.mtrTransit_made hen hrdy hrun hq hr hi hg hz hused ht hb, hs]

theorem Dev.mtrRetire_admitted (hz : wUnusedZero c.w [(24, 28)] = true) (hs : rg r R.state ≤ 5)
    (hb : e.stgBlock 1 0 = none) : d.mtrRetire c
      = (e.stateChange (argIndex c.w) r stRetired 9 (rg r R.state)).okRes c := by
  have hused : rg r R.state ≠ stFree := Nat.ne_of_lt (Nat.lt_of_le_of_lt hs (by decide))
  have ht : transitionOk (rg r R.state) stRetired 9 = true := by simp [transitionOk, stRetired, hs]
  rw [Dev.mtrRetire, Dev.mtrTransit_made hen hrdy hrun hq hr hi hg hz hused ht hb]

theorem Dev.mtrFree_retired (hz : wUnusedZero c.w [(24, 28)] = true) (hsound : d.msrCorrupt (argIndex c.w) = false)
    (hs : rg r R.state = stRetired) (hb : e.stgBlock 1 0 = none) {f : Dev}
    (hf : f = (e.stateChange (argIndex c.w) r stFree 0 stRetired).idtRemove (rg r R.eui)) :
    d.mtrFree c = ({ f with msr := f.msr.freePut (argIndex c.w) } : Dev).okRes c := by
  have hused : rg r R.state ≠ stFree := hs ▸ by decide
  have ht : transitionOk (rg r R.state) stFree 0 = true := hs ▸ by decide
  subst hf
  simp only [Dev.mtrFree, hsound, Bool.and_false, Bool.false_eq_true, if_false,
    Dev.mtrTransit_made hen hrdy hrun hq hr hi hg hz hused ht hb, hs]

theorem Dev.mtrMove_room (hz : wUnusedZero c.w [(24, 28), (32, 48)] = true) (hatt : attachOk (wArg c.w 32 8) = true)
    (halt : attachOk (wArg c.w 40 8) = true) (hs : rg r R.state ≠ stFree)
    (hroom : e.attRoom (argIndex c.w) (wArg c.w 32 8) = true) (hb : e.stgBlock 1 0 = none) :
    d.mtrMove c = (e.stateChange (argIndex c.w) (rs (rs r R.attach (wArg c.w 32 8)) R.attachAlt (wArg c.w 40 8))
      (rg r R.state) 0xD (rg r R.state)).okRes c := by
  simp only [Dev.mtrMove, Dev.withFields_ok hz hr, Nat.not_le.2 hi, hatt, halt, Bool.not_true, decide_false, Bool.or_self,
    Bool.false_eq_true, if_false, Dev.mtrServed_turn hen hrdy hrun hq, Dev.mtrOn_used hg hs, hroom, Dev.mtrChange_unblocked hb]

theorem Dev.mtrPin_unpins (hz : wUnusedZero c.w [(24, 29)] = true) (hfl : wArg c.w 28 1 = 0) (hs : rg r R.state ≠ stFree) :
    d.mtrPin c = (e.msrPut (argIndex c.w) (rs r R.pinned 0)).okRes c := by
  simp only [Dev.mtrPin, Dev.withFields_ok hz hr, Nat.not_le.2 hi, hfl, Nat.not_lt_zero, Nat.zero_ne_one, decide_false,
    Bool.false_and, Bool.or_self, Bool.false_eq_true, if_false, Dev.mtrServed_turn hen hrdy hrun hq, Dev.mtrOn_used hg hs]

theorem Dev.mtrPin_within (hz : wUnusedZero c.w [(24, 29)] = true) (hfl : wArg c.w 28 1 = 1) (hs : rg r R.state ≠ stFree)
    (htab : e.rd F.MSR_CACHE_CTRL_pinned < 4096) (hset : e.pinsOf (argIndex c.w) < 8) :
    d.mtrPin c = (e.msrPut (argIndex c.w) (rs r R.pinned 1)).okRes c := by
  simp only [Dev.mtrPin, Dev.withFields_ok hz hr, Nat.not_le.2 hi, hfl, Nat.lt_irrefl, Nat.not_le.2 htab, Nat.not_le.2 hset,
    decide_false, Bool.and_false, Bool.or_self, Bool.false_eq_true, if_false, Dev.mtrServed_turn hen hrdy hrun hq,
    Dev.mtrOn_used hg hs]

end

/-- An admission at any index takes the head of the free list (R100, R545). -/
theorem Dev.mtrAdmit_new {i : Nat} {f g : Dev} (hz : wUnusedZero c.w [(4, 8), (24, 39), (40, 56)] = true)
    (hr : wReservedOk c.w = true) (hany : wArg c.w 32 4 = 2 ^ 31) (hfl : wArg c.w 38 1 ≤ 3)
    (hatt : attachOk (wArg c.w 40 8) = true) (halt : attachOk (wArg c.w 48 8) = true)
    (hnew : d.idtFind (wArg c.w 24 8) = none) (hhead : d.msr.freeHead = some i) (hg : d.msrGet i = (e, some r))
    (hs : rg r R.state = stFree) (hroom : e.attRoom i (wArg c.w 40 8) = true) (hcomm : e.commRoom = true)
    (hb : e.stgBlock 1 0 = none) (hins : e.idtInsert (wArg c.w 24 8) i = (f, true))
    (hgd : g = { f with msr := f.msr.freeTake i }) :
    d.mtrAdmit c = (g.stateChange i (admitRec r i (wArg c.w 24 8) (wHandle c.w) (wArg c.w 36 2) (wArg c.w 38 1 % 2)
      (wArg c.w 38 1 / 2) (wArg c.w 40 8) (wArg c.w 48 8) g.dwnNow) stCommissioning 1 stFree).okRes c i := by
  have hindex : bits (2 ^ 31) 20 11 = 0 := by decide
  have hbit : bit (2 ^ 31) 31 = true := by decide
  subst hgd
  simp only [Dev.mtrAdmit, Dev.withFields_ok hz hr, hany, hindex, hbit, Nat.not_lt.2 hfl, hatt, halt, bne_self_eq_false,
    decide_false, Bool.not_true, Bool.or_self, Bool.false_eq_true, if_false, Dev.mtrServed_turn hen hrdy hrun hq, hnew, hhead,
    Dev.mtrOn_freeOk hg, hs, if_true, hroom, hcomm, Dev.mtrChange_unblocked hb, hins]

end

end

end

/-- Settles O11: each clause is the case of the opcode's meaning in which nothing stands in its way. -/
theorem meterCommandsComplete : Obligations.MeterCommandsComplete := by
  refine ⟨fun c i r d e q hby hz hr hen hrdy hf hg hs => ?_, fun c r d e q hz hr hl hi hen hrdy hg hs => ?_,
    fun b c r d0 d e f q hread hz hr hl hi hen hrdy hrun hq hg hmask hs hgen hdata hf => ?_,
    fun c i r d e f g q hz hr hany hfl hatt halt hen hrdy hrun hq hnew hhead hg hs hroom hcomm hb hins hgd => ?_,
    fun c r d e q hz hr hi hen hrdy hrun hq hg hs hb => ?_, fun c r d e q hz hr hi hen hrdy hrun hq hg hs hb => ?_,
    fun c r d e f q hz hr hi hsound hen hrdy hrun hq hg hs hb hf => ?_,
    fun c r d e q hz hr hi hatt halt hen hrdy hrun hq hg hs hroom hb => ?_,
    fun c d q hz hr hi hl hen hrdy hfree hm => ?_, fun c r d e q hz hr hi hfl hen hrdy hrun hq hg hs => ?_,
    fun c r d e q hz hr hi hfl hen hrdy hrun hq hg hs htab hset => ?_⟩
  · exact congrArg (ran ⟨d, q⟩) (Dev.mtrLookup_found hen hrdy hby hz hr hf hg hs)
  · exact congrArg (ran ⟨d, q⟩) (Dev.mtrRead_sound hen hrdy hz hr hl hi hg hs)
  · exact congrArg (fun e : Dev => ran ⟨d0, q⟩ e.mzkPromote)
      ((hread _).trans (Dev.mtrWrite_merged hen hrdy hrun hq hr hi hg hz hl hmask hs hgen hdata hf))
  · exact congrArg (fun e : Dev => ran ⟨d, q⟩ e.mzkPromote) (Dev.mtrAdmit_new hen hrdy hrun hq hz hr hany hfl hatt halt hnew
      hhead hg hs hroom hcomm hb hins hgd)
  · exact congrArg (ran ⟨d, q⟩) (Dev.mtrRelease_quarantined hen hrdy hrun hq hr hi hg hz hs hb)
  · exact congrArg (fun e : Dev => ran ⟨d, q⟩ e.campPurge) (Dev.mtrRetire_admitted hen hrdy hrun hq hr hi hg hz hs hb)
  · exact congrArg (fun e : Dev => ran ⟨d, q⟩ e.campPurge)
      (Dev.mtrFree_retired hen hrdy hrun hq hr hi hg hz hsound hs hb hf)
  · exact congrArg (ran ⟨d, q⟩) (Dev.mtrMove_room hen hrdy hrun hq hr hi hg hz hatt halt hs hroom hb)
  · exact congrArg (ran ⟨d, q⟩) (Dev.mtrScan_empty hen hrdy hz hr hi hl hfree hm)
  · exact congrArg (ran ⟨d, q⟩) (Dev.mtrPin_unpins hen hrdy hrun hq hr hi hg hz hfl hs)
  · exact congrArg (ran ⟨d, q⟩) (Dev.mtrPin_within hen hrdy hrun hq hr hi hg hz hfl hs htab hset)

end Sys2Proof.Machine
end

section
/-! PROOF. The record window, the sweep, checkpoints, the rebuild and the table's enable (R99, R108, R111, R117, R118; O12). -/

namespace Sys2Proof.Machine

section
variable {d e : Dev}

/-! ### The record window (R108) -/

/-- MSR_REC_CTRL as a write with commit 1 stores it: force, and stale cleared by writing 1 to it. -/
def Dev.recCtrlStore (d : Dev) (v : Nat) : Dev :=
  if bit v 30 then (d.wr F.MSR_REC_CTRL_force (bits v 0 1)).clrF F.MSR_REC_CTRL_stale
  else d.wr F.MSR_REC_CTRL_force (bits v 0 1)

theorem Dev.msrRecCommit_loaded {v : Nat} (he : e = d.recCtrlStore v) (hl : e.on F.MSR_REC_SEL_loaded = true)
    (hc : e.on F.MSR_REC_CTRL_commit = false) :
    d.msrRecCommit v = e.windowCommit (e.rd F.MSR_REC_SEL_index) e.recSnap (e.on F.MSR_REC_CTRL_force) := by
  have hstore : d.msrRecCommit v = if !e.on F.MSR_REC_SEL_loaded || e.on F.MSR_REC_CTRL_commit then e
      else e.windowCommit (e.rd F.MSR_REC_SEL_index) e.recSnap (e.on F.MSR_REC_CTRL_force) := by
    subst he
    rfl
  simp only [hstore, hl, hc, Bool.not_true, Bool.or_self, Bool.false_eq_true, if_false]

theorem Dev.windowCommit_waits {i : Nat} (hw : d.queuedOn i = true) (snap : Nat) (force : Bool) :
    d.windowCommit i snap force = (d.setF F.MSR_REC_CTRL_commit).enqueue (.window i snap force) := if_pos hw

theorem Dev.windowCommit_sound {i : Nat} (hw : d.queuedOn i = false) (he : e = d.clrF F.MSR_REC_CTRL_commit)
    (hs : e.msrCorrupt i = false) (snap : Nat) (force : Bool) :
    d.windowCommit i snap force = if rg (d.msrPeek i) R.recGen = rg snap R.recGen ∨ force = true then
      e.msrPut i (maskMerge (d.msrPeek i) snap (2 ^ 0xF0 - 2 ^ 11)) else e.setF F.MSR_REC_CTRL_stale := by
  subst he
  simp only [Dev.windowCommit, hw, hs, Bool.false_eq_true, if_false, Bool.or_eq_true, decide_eq_true_eq]

/-! ### The sweep (R111) -/

theorem Dev.sweepVisit_active {i : Nat} (hen : d.on F.MSR_CTRL_enable = true) (hrdy : d.on F.MSR_STATUS_ready = true)
    (hsw : d.on F.MSR_CTRL_sweep_en = true) (hrun : d.mode = .run) (hs : rg (d.msrPeek i) R.state = stActive) :
    d.sweepVisit i = d.tryChange i stAdrift 4 := by
  have hruns : (Mode.run.serving && Mode.run != .shadow) = true := rfl
  simp only [Dev.sweepVisit, hen, hrdy, hsw, hrun, hs, Bool.true_and, hruns, Bool.not_true, Bool.false_eq_true, if_false,
    if_true]

/-! ### Checkpoints (R118) -/

theorem Dev.ckptStart_ready (hrdy : d.on F.MSR_STATUS_ready = true) (hw : d.msr.writing = none) :
    d.ckptStart = ({ d with msr := { d.msr with
      writing := some { seq := d.rd F.XDI_EXP_LIVE_LO_live, recs := d.msrRecs } } }).setF F.MSR_STATUS_ckpt_busy := by
  simp only [Dev.ckptStart, hrdy, hw, Option.isNone_none, Bool.and_self, if_true]

section
variable {k : Ckpt} (hw : d.msr.writing = some k) (he : e = (d.clrF F.MSR_STATUS_ckpt_busy).clrF F.MSR_CKPT_ckpt_now)
include hw he

theorem Dev.msrCheckpointDone_stored : d.msrCheckpointDone true = ({ e with
    msr := { e.msr with writing := none, copies := mput e.msr.copies (1 - e.msr.newer) k, newer := 1 - e.msr.newer }
    gav := { e.gav with jpend := e.gav.jpend ++ [JEnt.sysval 4 (k.seq + (1 - e.msr.newer) * 2 ^ 64)] } }).wr
      F.MSR_CKPT_SEQ_LO_ckpt_seq k.seq := by
  subst he
  simp only [Dev.msrCheckpointDone, hw, if_true]
  rfl

theorem Dev.msrCheckpointDone_failed : d.msrCheckpointDone false
    = (({ e with msr := { e.msr with writing := none } }).setF F.MSR_ERR_ckpt_fail).raise 215 := by
  subst he
  simp only [Dev.msrCheckpointDone, hw, Bool.false_eq_true, if_false]

end

theorem Dev.msrRebuildDone_bothBad (h : d.on F.MSR_STATUS_rebuilding = true) : d.msrRebuildDone false false
    = ((d.clrF F.MSR_STATUS_rebuilding).setF F.MSR_STATUS_rebuild_fail).clrF F.MSR_CTRL_enable := by
  simp only [Dev.msrRebuildDone, h, Bool.not_true, Bool.false_eq_true, if_false, ite_self]

/-! ### The table's enable (R99, R118) -/

theorem Dev.msrEnable_stores {v : Nat} (h : d.on F.MSR_CTRL_enable = true ∨ bit v 31 = false) :
    d.msrEnable v = d.regWrite32 0x40000 v := by
  have hstored : (d.on F.MSR_CTRL_enable || !bit v 31) = true := by simpa using h
  exact if_pos hstored

section
variable {v : Nat} (hoff : d.on F.MSR_CTRL_enable = false) (hv : bit v 31 = true) (he : e = d.regWrite32 0x40000 v)
include hoff hv he

theorem Dev.msrEnable_placed {f : Dev} (hbase : e.inDram e.msrBase 0x10000000 = true)
    (hidt : e.inDram e.idtBase 0x2000000 = true) (hf : f = e.commitRwl 0x40000) :
    d.msrEnable v = if f.msr.tableAt = some f.msrBase then (f.setF F.MSR_STATUS_ready).msrPinned.msrRecount
      else (f.clrF F.MSR_STATUS_ready).setF F.MSR_STATUS_rebuilding := by
  subst he hf
  simp only [Dev.msrEnable, hoff, hv, hbase, hidt, Bool.not_true, Bool.or_self, Bool.and_self, Bool.false_eq_true, if_false,
    if_true]

theorem Dev.msrEnable_misplaced (hbad : (e.inDram e.msrBase 0x10000000 && e.inDram e.idtBase 0x2000000) = false) :
    d.msrEnable v = (e.clrF F.MSR_CTRL_enable).setF F.MSR_ERR_area_bad := by
  subst he
  simp only [Dev.msrEnable, hoff, hv, hbad, Bool.not_true, Bool.or_self, Bool.false_eq_true, if_false]

end

end

/-- Settles O12: each clause is one case of the command's meaning. -/
theorem meterTableCommandsComplete : Obligations.MeterTableCommandsComplete := by
  refine ⟨fun v d q => rfl, fun v i d e f q he hi hl hc hw hf hs => ?_, fun v i d e q he hi hl hc hw => ?_,
    fun i d q hen hrdy hsw hrun hs => congrArg (ran ⟨d, q⟩) (Dev.sweepVisit_active hen hrdy hsw hrun hs),
    fun d q hp hrdy hw => ?_, fun d q hrdy hw => ?_,
    fun k d e q hw he => congrArg (ran ⟨d, q⟩) (Dev.msrCheckpointDone_stored hw he),
    fun k d e q hw he => congrArg (ran ⟨d, q⟩) (Dev.msrCheckpointDone_failed hw he),
    fun d q h => congrArg (fun e : Dev => ran ⟨d, q⟩ e.enginesReady) (Dev.msrRebuildDone_bothBad h), fun d q => rfl,
    fun v d e f q hoff hv he hbase hidt hf => ?_, fun v d e q hoff hv he hbad => ?_, fun v d q h => ?_⟩
  · subst hi
    exact congrArg (ran ⟨d, q⟩) ((Dev.msrRecCommit_loaded he hl hc).trans (Dev.windowCommit_sound hw hf hs _ _))
  · subst hi
    exact congrArg (ran ⟨d, q⟩) ((Dev.msrRecCommit_loaded he hl hc).trans (Dev.windowCommit_waits hw _ _))
  · exact congrArg (ran ⟨d, q⟩) ((if_neg hp).trans (Dev.ckptStart_ready hrdy hw))
  · exact congrArg (ran ⟨d, q⟩)
      ((if_pos hrdy).trans (congrArg (fun e : Dev => e.setF F.MSR_CKPT_ckpt_now) (Dev.ckptStart_ready hrdy hw)))
  · exact congrArg (fun e : Dev => ran ⟨d, q⟩ e.enginesReady.wlzRunCheck) (Dev.msrEnable_placed hoff hv he hbase hidt hf)
  · exact congrArg (fun e : Dev => ran ⟨d, q⟩ e.enginesReady.wlzRunCheck) (Dev.msrEnable_misplaced hoff hv he hbad)
  · exact congrArg (fun e : Dev => ran ⟨d, q⟩ e.enginesReady.wlzRunCheck) (Dev.msrEnable_stores h)

end Sys2Proof.Machine
end

section
/-! PROOF. The replay window and the classes of key generations (R139, R140; O53). -/

namespace Sys2Proof.Machine

/-- Adding 2^i to a number whose bit i is clear sets that bit and keeps the others. -/
theorem add_two_pow_eq_setBits {b i : Nat} (h : bit b i = false) : b + 2 ^ i = setBits b i 1 (b2n true) := by
  have heven : b / 2 ^ i % 2 = 0 := by
    have hne : b / 2 ^ i % 2 ≠ 1 := by simpa [bit, Nat.shiftRight_eq_div_pow] using h
    omega
  have hsplit : 2 ^ i * (b / 2 ^ i) + b % 2 ^ i = b := Nat.div_add_mod b (2 ^ i)
  have hupper : 2 ^ i * (b / 2 ^ i) = b / 2 ^ (i + 1) * 2 ^ (i + 1) := by
    rw [Nat.pow_succ, ← Nat.div_div_eq_div_mul, Nat.mul_comm (2 ^ i) 2, ← Nat.mul_assoc,
      Nat.div_mul_cancel (Nat.dvd_of_mod_eq_zero heven), Nat.mul_comm]
  have hone : b2n true % 2 ^ 1 = 1 := rfl
  rw [setBits, hone, Nat.one_mul, Nat.shiftRight_eq_div_pow]
  omega

section
variable {f b c : Nat}

/-! ### The replay test (R139) -/

theorem replayTest_above (h : f < c) :
    replayTest f b c = .accept false c (if c - f < 64 then (b * 2 ^ (c - f) + 1) % 2 ^ 64 else 1) := if_pos h

section
variable (hc : c ≤ f) (hw : f - c ≤ 63)
include hc hw

theorem replayTest_unseen (hb : bit b (f - c) = false) : replayTest f b c = .accept true f (b + 2 ^ (f - c)) := by
  simp only [replayTest, Nat.not_lt.2 hc, hw, hb, if_true, if_false, Bool.false_eq_true]

theorem replayTest_seen (hb : bit b (f - c) = true) : replayTest f b c = .dup := by
  simp only [replayTest, Nat.not_lt.2 hc, hw, hb, if_true, if_false]

end

theorem replayTest_old (h : 63 < f - c) : replayTest f b c = .stale := by
  have hc : ¬ f < c := by omega
  simp only [replayTest, hc, Nat.not_le.2 h, if_false]

/-- The bitmap after a counter above F has the bit of its newest counter set. -/
theorem bit_window_shifted (k : Nat) : bit (if k + 1 < 64 then (b * 2 ^ (k + 1) + 1) % 2 ^ 64 else 1) 0 = true := by
  split
  · rw [bit_mod_two_pow (by decide), bit_eq_testBit, Nat.testBit_zero, Nat.pow_succ, ← Nat.mul_assoc,
      Nat.mul_add_mod_self_right]
    rfl
  · rfl

/-- The window an accepted counter leaves holds that counter: within it, with its bit set. -/
theorem replayTest_accept_holds {late : Bool} {f' b' : Nat} (h : replayTest f b c = .accept late f' b') :
    c ≤ f' ∧ f' - c ≤ 63 ∧ bit b' (f' - c) = true := by
  by_cases habove : f < c
  · rw [replayTest_above habove] at h
    obtain ⟨-, rfl, rfl⟩ := Replay.accept.inj h
    obtain ⟨k, rfl⟩ := Nat.exists_eq_add_of_lt habove
    have hk : f + k + 1 - f = k + 1 := by omega
    simp only [Nat.sub_self, hk, bit_window_shifted, Nat.le_refl, Nat.zero_le, and_self]
  · by_cases hw : f - c ≤ 63
    · cases hb : bit b (f - c) with
      | true => rw [replayTest_seen (Nat.not_lt.1 habove) hw hb] at h; cases h
      | false =>
        rw [replayTest_unseen (Nat.not_lt.1 habove) hw hb] at h
        obtain ⟨-, rfl, rfl⟩ := Replay.accept.inj h
        refine ⟨Nat.not_lt.1 habove, hw, ?_⟩
        rw [add_two_pow_eq_setBits hb, bit_setBits_one, if_pos rfl]
    · rw [replayTest_old (Nat.not_le.1 hw)] at h
      cases h

end

/-! ### The generation test (R140) -/

/-- The class of a generation k ahead of the record's, where gen_ahead is legal. -/
theorem Dev.genTest_ahead {d : Dev} {h k : Nat} (hh : h < 2 ^ 16) (hk : k < 2 ^ 16)
    (hahead : d.rd F.REEL_KEY_gen_ahead ≤ 0x7FFF) : d.genTest ((h + k) % 2 ^ 16) h
      = if k = 0 then 0 else if k ≤ d.rd F.REEL_KEY_gen_ahead then 1 else if k ≤ 0x7FFF then 2 else 3 := by
  have hsub : serSub 16 ((h + k) % 2 ^ 16) h = k := by
    unfold serSub
    omega
  simp only [Dev.genTest, hsub, Nat.min_eq_left hahead]

/-- Settles O53: the branches of the replay test, and the distance between generations. -/
theorem replayAndGenerationTests : Obligations.ReplayAndGenerationTests := by
  refine ⟨fun f b c h => replayTest_above h, fun f b c hc hw hb => ⟨_, replayTest_unseen hc hw hb, ?_, fun k hk => ?_⟩,
    fun f b c hc hw hb => replayTest_seen hc hw hb, fun f b c h => replayTest_old h, fun f b c f' b' late h => ?_,
    ⟨1, rfl⟩, fun g h d hh _ hahead => ⟨fun hgh => ?_, fun k h1 h2 hgk => ?_, fun k h1 h2 hgk => ?_,
      fun k h1 h2 hgk => ?_⟩⟩
  · rw [add_two_pow_eq_setBits hb, bit_setBits_one, if_pos rfl]
  · rw [add_two_pow_eq_setBits hb, bit_setBits_one, if_neg hk]
  · obtain ⟨hc, hw, hb⟩ := replayTest_accept_holds h
    exact replayTest_seen hc hw hb
  · have hg0 : g = (h + 0) % 2 ^ 16 := by omega
    rw [hg0, Dev.genTest_ahead hh (by decide) hahead, if_pos rfl]
  · rw [hgk, Dev.genTest_ahead hh (by omega) hahead, if_neg (by omega), if_pos h2]
  · rw [hgk, Dev.genTest_ahead hh (by omega) hahead, if_neg (by omega), if_neg (by omega), if_pos h2]
  · rw [hgk, Dev.genTest_ahead hh h2 hahead, if_neg (by omega), if_neg (by omega), if_neg (by omega)]

end Sys2Proof.Machine
end

section
/-! PROOF. Lanes at work, exception rings, the commit of a packet, marks, the end of a storm request and the handover of a key
(R134, R135, R136, R144, R146, R147, R152, R154; O13). -/

namespace Sys2Proof.Machine

section
variable {d : Dev} {l : Nat}

/-! ### A lane's frames (R135, R136) -/

section
variable (hr : d.laneReady l = true)
include hr

theorem Dev.laneFrame_keyWait {w : Work} (hw : (d.lane l).work = [w]) (hs : w.stage = .keyWait) :
    d.laneFrame l = d.laneRun l w.item := by
  simp only [Dev.laneFrame, hr, hw, List.find?_cons, hs, beq_self_eq_true, Bool.not_true, Bool.false_eq_true, if_false]

theorem Dev.laneFrame_oldest {item : List Byte} {t : List (List Byte)} (hw : (d.lane l).work = [])
    (hf : (d.fifo (laneFq l)).items = item :: t) : d.laneFrame l = d.laneRun l item := by
  have hroom : 0 < 4 := by decide
  simp only [Dev.laneFrame, hr, hw, hf, List.find?_nil, List.find?_cons, List.any_nil, List.length_nil, hroom, Bool.not_true,
    Bool.not_false, Bool.false_eq_true, if_false, if_true]

end

/-- A frame that waits at the replay check with no other frame in its lane is judged. -/
theorem Dev.laneReplayWaitEnd_alone {item plain : List Byte} {i h : Nat} (hstart : d.reel.started = true)
    (hw : (d.lane l).work = [{ item := item, index := some i, stage := .replayWait plain h }]) :
    d.laneReplayWaitEnd l = d.laneJudge l item plain i h := by
  simp only [Dev.laneReplayWaitEnd, hw, hstart, List.find?_cons, List.takeWhile_cons, bne_self_eq_false, List.any_nil,
    Bool.not_false, Bool.and_self, Bool.false_eq_true, if_true, if_false]

/-! ### A ring's head (R152) -/

/-- Where no lane has work and no disabling waits, nothing is to be posted again. -/
theorem Dev.exqRetry_idle (hw : ∀ l, (d.lane l).work = []) (hoff : d.reel.exqOff = []) : d.exqRetry = d := by
  have hposts (post : Nat → Dev → Work → Dev) :
      (List.range 16).foldl (fun (e : Dev) l => (e.lane l).work.foldl (post l) e) d = d :=
    List.foldlRecOn (motive := (· = d)) _ _ rfl (fun e he l _ => by rw [he, hw l]; rfl)
  have hkept (p : Nat → Bool) : d.reel.exqOff.filter p = d.reel.exqOff := by rw [hoff]; rfl
  have hclears (clear : Dev → Nat → Dev) : d.reel.exqOff.foldl clear d = d := by rw [hoff]; rfl
  simp only [Dev.exqRetry, hposts, hkept, hclears]

/-! ### The commit (R144, R152) -/

/-- A packet that commits is counted and posts its entries; those discarded count as refused. -/
theorem Dev.commitPacket_done {item : List Byte} {i : Option Nat} {p : Packet} {s n : Nat} {es : List (List Byte)} {e : Dev}
    (hw : (d.lane l).work = [{ item := item, index := i, stage := .packet p }]) (hc : d.commitTry p = (e, .done s))
    (hes : e.commitEntries p s (rg (d.msrPeek p.index) R.rekeyDue == 0 && rg (e.msrPeek p.index) R.rekeyDue == 1) = (es, n)) :
    d.commitPacket l = ((e.bump (F.REEL_LANE_OK_committed.at l)).bump (F.REEL_LANE_REFUSED_refused.at l) n).lanePosts l
      { item := item, index := i, stage := .packet p } es := by
  simp only [Dev.commitPacket, hw, List.find?_cons, Option.isSome_some, hc, hes]

/-! ### Marks and stalls (R146, R147) -/

theorem Dev.reservationDurable_raised {m : Nat} {e : Dev} (hm : m = d.cu.resReq) (hnew : ¬ m ≤ d.rd F.REEL_SEQ_RES_LO_seq_res)
    (hreseq : d.val.reseq = none)
    (he : e = ({ d with gav := { d.gav with
      sysval := mput d.gav.sysval 1 m
      jpend := d.gav.jpend.filter (fun j => j != JEnt.sysval 1 m) } }).wr F.REEL_SEQ_RES_LO_seq_res m)
    (hwait : e.on F.REEL_STATUS_res_wait = false) : d.reservationDurable = e := by
  subst hm he
  simp only [Dev.reservationDurable, hnew, hreseq, Dev.wr_val, hwait, Bool.false_eq_true, if_false]

theorem Dev.commitStallRelease_free (hfull : d.on F.REEL_STATUS_stg_full = true) (hb : d.stgBlock 1 0 = none) :
    d.commitStallRelease = d.commitGoOn := by
  have hfree : (none != some false) = true := rfl
  simp only [Dev.commitStallRelease, hfull, hb, hfree, Bool.and_self, if_true]

/-! ### The end of a storm request (R154) -/

/-- With no restoration in the last second, the request ends once its hold is over. -/
theorem Dev.stormReqClear_held {hold : Nat} {e : Dev} (hreq : d.on F.REEL_STATUS_storm_req = true)
    (hhold : zeroAs (d.rd F.REEL_CTRL_storm_hold) 1 = hold) (ht : d.reel.fell + hold * sNs ≤ d.tick)
    (hnone : d.reel.restored = []) (he : e = { d with reel := { d.reel with restored := [] } }) :
    d.stormReqClear = (e.wr F.REEL_RESTORE_CNT_count 0).stormReqShow false := by
  subst he
  simp only [Dev.stormReqClear, hreq, hhold, ht, hnone, decide_true, Bool.and_self, if_true, List.filter_nil, List.map_nil,
    List.sum_nil]

/-! ### The handover of a key (R134, R157) -/

theorem Dev.steerHandover_free {k old : Nat} {e : Dev} (hm : mget? d.reel.moving k = some old) (hh : d.laneHolds old k = false)
    (he : e = { d with reel := { d.reel with moving := mdel d.reel.moving k } }) :
    d.steerHandover k = if e.laneRetired old then e.laneMove old (fun j => j == k) else e := by
  subst he
  simp only [Dev.steerHandover, hm, hh, Bool.false_eq_true, if_false]

end

/-- Settles O13: each clause is one case of the command's meaning. -/
theorem ingestCommandsComplete : Obligations.IngestCommandsComplete := by
  refine ⟨fun l w d q hr hw hs => congrArg (ran ⟨d, q⟩) (Dev.laneFrame_keyWait hr hw hs),
    fun l item t d q hr hw hf => congrArg (ran ⟨d, q⟩) (Dev.laneFrame_oldest hr hw hf),
    fun l item plain i h d q hstart hw => congrArg (ran ⟨d, q⟩) (Dev.laneReplayWaitEnd_alone hstart hw),
    fun e v d f q hf hw hoff => ?_, fun e v d q => rfl, fun l item i p s d e q hw hc hes => ?_,
    fun m d e q hm hnew hreseq he hwait => ?_, fun d q hfull hb => ?_, fun d e q hreq hhold ht hnone he => ?_,
    fun w v d q => rfl, fun k old d e q hm hh he => congrArg (ran ⟨d, q⟩) (Dev.steerHandover_free hm hh he)⟩
  · subst hf
    exact congrArg (ran ⟨d, q⟩) (Dev.exqRetry_idle hw hoff)
  · exact congrArg (fun e : Dev => ran ⟨d, q⟩ e.mzkPromote) (Dev.commitPacket_done hw hc hes)
  · exact congrArg (fun e : Dev => ran ⟨d, q⟩ e.campPurge.mzkPromote)
      (Dev.reservationDurable_raised hm hnew hreseq he hwait)
  · exact congrArg (fun e : Dev => ran ⟨d, q⟩ e.campPurge.mzkPromote) (Dev.commitStallRelease_free hfull hb)
  · have hhold' : zeroAs (d.rd F.REEL_CTRL_storm_hold) 1 = 60 := by rw [hhold]; rfl
    exact congrArg (ran ⟨d, q⟩) (Dev.stormReqClear_held hreq hhold' ht hnone he)

end Sys2Proof.Machine
end

section
/-! PROOF. Lane faults and tests, the enables of Reel and VAL, and the commands of VAL (R146, R156, R158, R160, R164, R171, R176,
R179, R180; O14). -/

namespace Sys2Proof.Machine

section
variable {d e : Dev}

/-! ### Lane faults and tests (R156, R158) -/

/-- The only fault in the window, with no threshold set: counted, raised and logged. -/
theorem Dev.laneTransientFault_first {l : Nat} {f : Dev} (hnone : (d.lane l).faults = [])
    (he : e = (d.setLane l { d.lane l with faults := [d.tick] }).wr (F.REEL_LANE_STAT_transients.at l) 1)
    (hf : f = ((e.bump (F.REEL_LANE_ERR_transient_total.at l)).raise (129 + 4 * l)).trouble (0x10 + l) 1 4 0 l 1)
    (hthr : f.rd F.REEL_ERR_CFG_retire_thr = 0) : d.laneTransientFault l = f := by
  have hcount : min 1 0xFFFF = 1 := rfl
  subst he hf
  simp only [Dev.laneTransientFault, hnone, List.filter_nil, List.nil_append, List.length_singleton, hcount, hthr,
    bne_self_eq_false, Bool.false_and, Bool.false_eq_true, if_false]

/-! ### The enable of Reel and its running (R146, R158) -/

section
variable {v : Nat}

theorem Dev.reelEnable_placed (hoff : d.on F.REEL_CTRL_enable = false) (hv : bit v 31 = true)
    (he : e = (d.regWrite32 0x50000 v).resteer d.laneMap)
    (hring : e.inDram e.stgBase (e.rd F.REEL_STG_SIZE_size_gib * 0x40000000) = true) :
    d.reelEnable v = (e.commitRwl 0x50000).commitRecover := by
  subst he
  simp only [Dev.reelEnable, hoff, hv, hring, Bool.not_true, Bool.or_self, Bool.false_eq_true, if_false, if_true]

theorem Dev.reelEnable_stores (h : d.on F.REEL_CTRL_enable = true ∨ bit v 31 = false) :
    d.reelEnable v = (d.regWrite32 0x50000 v).resteer d.laneMap := by
  have hstored : (d.on F.REEL_CTRL_enable || !bit v 31) = true := by simpa using h
  exact if_pos hstored

end

theorem Dev.reelRunningStart_ready (h : d.reelMayRun = true) :
    d.reelRunningStart = ({ d with reel := { d.reel with started := true } }).setF F.REEL_STATUS_running := if_pos h

/-! ### The enable of VAL (R176) -/

section
variable {v : Nat}

section
variable (hoff : d.on F.VAL_CTRL_enable = false) (hv : bit v 31 = true)
include hoff hv

theorem Dev.valEnable_unmarked (hm : mget? d.gav.sysval 1 = none) :
    d.valEnable v = (d.regWrite32 0x60000 v).commitRwl 0x60000 := by
  simp only [Dev.valEnable, hoff, hv, hm, Option.any_none, Bool.not_false, Bool.and_self, Bool.and_false, Bool.false_eq_true,
    if_false, if_true]

theorem Dev.valEnable_conflict {m : Nat} (hm : mget? d.gav.sysval 1 = some m) (hunit : bits m 63 1 ≠ d.rd F.VAL_PAIR_unit) :
    d.valEnable v = (d.setF F.VAL_STATUS_unit_conflict).raise 196 := by
  simp only [Dev.valEnable, hoff, hv, hm, Option.any_some, bne_iff_ne.2 hunit, Bool.not_false, Bool.and_self, if_true]

end

theorem Dev.valEnable_stores (h : d.on F.VAL_CTRL_enable = true ∨ bit v 31 = false) :
    d.valEnable v = d.regWrite32 0x60000 v := by
  have hlater : (bit v 31 && !d.on F.VAL_CTRL_enable) = false := by
    rcases h with h | h <;> simp [h]
  simp only [Dev.valEnable, hlater, Bool.false_and, Bool.false_eq_true, if_false]

end

/-! ### The commands of VAL (R164, R171, R179, R180) -/

section
variable {c : Desc}

theorem Dev.valServed_run (hrun : d.mode = .run) (k : Dev → Dev) : d.valServed c k = k d := by
  have hserving : (Mode.run == .boot || Mode.run == .recovery) = false := rfl
  simp only [Dev.valServed, hrun, hserving, Bool.false_eq_true, if_false]

section
variable (hr : wReservedOk c.w = true)
include hr

theorem Dev.valPath_found {x : DedupEnt} (hz : wUnusedZero c.w [(24, 28)] = true) (hi : argIndex c.w < msrSize)
    (hx : mget? d.val.filter (argIndex c.w % 65536) = some x) (hxi : x.index = argIndex c.w) : d.valPath c
      = d.okRes c (argIndex c.w + x.path * 2 ^ 20 + x.mask * 2 ^ 24 + x.bestPath * 2 ^ 28)
        (x.bestQ + x.count * 2 ^ 8 + x.fcnt * 2 ^ 32) := by
  simp only [Dev.valPath, Dev.withFields_ok hz hr, Nat.not_le.2 hi, hx, hxi, bne_self_eq_false, Bool.false_eq_true, if_false]

variable (hrun : d.mode = .run)
include hrun

theorem Dev.valLoad_good (hz : wUnusedZero c.w [(8, 20), (24, 25)] = true) (hkeep : wArg c.w 24 1 = 0)
    (hidle : d.on F.VAL_STATUS_swapping = false) (hl : c.data.length = wLen c.w) (hok : bankOk c.data = true) :
    d.valLoad c = ({ d with val := { d.val with
      banks := mput d.val.banks (1 - d.bankNo) (.image (leNat c.data) (leAt c.data 4 4)) } }).okRes c (leAt c.data 4 4) := by
  simp only [Dev.valLoad, Dev.withFields_ok hz hr, Dev.valServed_run hrun, hkeep, hidle, hl, hok, Nat.not_lt_zero,
    Nat.zero_ne_one, bne_self_eq_false, Bool.not_true, Bool.false_eq_true, if_false]

theorem Dev.valSwap_loaded {b : Bank} (hz : wUnusedZero c.w [] = true) (hidle : d.on F.VAL_STATUS_swapping = false)
    (hb : mget? d.val.banks (1 - d.bankNo) = some b)
    (he : e = (d.wr F.VAL_CTRL_bank (1 - d.bankNo)).setF F.VAL_STATUS_swapping) :
    d.valSwap c = { e with val := { e.val with swap := some c } } := by
  subst he
  simp only [Dev.valSwap, Dev.withFields_ok hz hr, Dev.valServed_run hrun, hidle, hb, Option.isNone_some, Bool.false_eq_true,
    if_false]

end

theorem Dev.valSwapDone_ended (hs : d.val.swap = some c)
    (he : e = ((({ d with val := { d.val with swap := none } }).clrF F.VAL_STATUS_swapping).wr F.VAL_STATUS_old_chains 0).raise
      192) : d.valSwapDone = e.okRes c d.bankNo := by
  have hbank : (({ d with val := { d.val with swap := none } } : Dev).clrF F.VAL_STATUS_swapping).bankNo = d.bankNo :=
    Dev.rd_clrF_other _ _ _ (by decide)
  subst he
  simp only [Dev.valSwapDone, hs, hbank]

/-- An injection of a held frame as it stands, at its record's generation, with no rekeying due after its commit. -/
theorem Dev.valInject_commits {i s h : Nat} {key pre fr : List Byte} {f : Frame} {p : Packet} {g : Dev}
    (hz : wUnusedZero c.w [(8, 20), (24, 25)] = true) (hr : wReservedOk c.w = true) (hact : wArg c.w 24 1 = 1)
    (hw : wLen c.w = 640) (hl : c.data.length = 640) (hok : injectOk c.data = true)
    (hi : i = leAt c.data 12 4 % 0x100000) (hpre : pre = (c.data.drop 64).take 32)
    (hfr : fr = (c.data.drop 96).take (leAt pre 20 2)) (hf : f = parseFrame fr) (hrun : d.mode = .run)
    (hsound : d.msrCorrupt i = false) (ht : typeOk f.ftype f.ver f.plen = true)
    (hgen : d.genTest f.keyGen (rg (d.msrPeek i) R.keyGen) = 0)
    (hkey : d.keyServe (rg (d.msrPeek i) R.districtHandle) (rg (d.msrPeek i) R.eui) 1 f.keyGen false = (e, .key key h))
    (hp : p = { lane := byteAt c.data 9, index := i, rd := d.msrPeek i, pre := pre, frame := fr, advance := false, handle := h,
                verdict := 0xD1, inject := true, heldQuar := byteAt c.data 10 == 0xE3 })
    (hc : e.commitTry p = (g, .done s)) (hdue : rg (g.msrPeek i) R.rekeyDue ≠ 1) : d.valInject c = g.okRes c s := by
  have hsame : ((0 : Nat) == 1) = false := rfl
  have hnew : ¬ 2 ≤ (0 : Nat) := by decide
  have hverdict : 0xD0 + 1 = 0xD1 := rfl
  subst hp hf hfr hpre hi
  simp only [Dev.valInject, Dev.withFields_ok hz hr, Dev.valServed_run hrun, hact, hw, hl, hok, hsound, ht, hgen, hsame, hnew,
    hkey, hverdict, hc, beq_false_of_ne hdue, bne_self_eq_false, Bool.false_and, Bool.and_false, Bool.or_self, Bool.not_true,
    Bool.not_false, Bool.false_eq_true, if_false, if_true]

end

end

/-- Settles O14: each clause is the case of the command's meaning in which nothing stands in its way. -/
theorem laneAndRuleCommandsComplete : Obligations.LaneAndRuleCommandsComplete := by
  refine ⟨fun l d e f q hnone he hf hthr => congrArg (ran ⟨d, q⟩) (Dev.laneTransientFault_first hnone he hf hthr),
    fun l d q => rfl, fun l d q => rfl, fun l d q => rfl, fun l d e q he => ⟨?_, ?_⟩,
    fun v d e q hoff hv he hring => ?_, fun v d q h => ?_, fun d q h => congrArg (ran ⟨d, q⟩) (Dev.reelRunningStart_ready h),
    fun v d q hoff hv hm => ?_, fun v m d q hoff hv hm hunit => ?_, fun v d q h => ?_,
    fun b c d0 d q hread hz hr hkeep hrun hidle hl hok => ?_, fun c b d e q hz hr hrun hidle hb he => ?_,
    fun c d e q hs he => congrArg (ran ⟨d, q⟩) (Dev.valSwapDone_ended hs he),
    fun b c i r s k h key pre fr f p d0 d e g q hread hz hr hact hw hl hok hi hpre hfr hf hrd hrun hsound ht hgen hkey hp hc hk
      hdue => ?_, fun c x d q hz hr hi hx hxi => ?_⟩
  · subst he
    rfl
  · subst he
    rfl
  · exact congrArg (fun e : Dev => ran ⟨d, q⟩ e.reelRunningCheck) (Dev.reelEnable_placed hoff hv he hring)
  · exact congrArg (fun e : Dev => ran ⟨d, q⟩ e.reelRunningCheck) (Dev.reelEnable_stores h)
  · exact congrArg (fun e : Dev => ran ⟨d, q⟩ e.reelRunningCheck) (Dev.valEnable_unmarked hoff hv hm)
  · exact congrArg (fun e : Dev => ran ⟨d, q⟩ e.reelRunningCheck) (Dev.valEnable_conflict hoff hv hm hunit)
  · exact congrArg (fun e : Dev => ran ⟨d, q⟩ e.reelRunningCheck) (Dev.valEnable_stores h)
  · exact congrArg (ran ⟨d0, q⟩) ((hread _).trans (Dev.valLoad_good hr hrun hz hkeep hidle hl hok))
  · exact congrArg (ran ⟨d, q⟩) (Dev.valSwap_loaded hr hrun hz hidle hb he)
  · subst hrd hk
    exact congrArg (ran ⟨d0, q⟩) ((hread _).trans (Dev.valInject_commits hz hr hact hw hl hok hi hpre hfr hf hrun hsound ht
      hgen hkey hp hc hdue))
  · exact congrArg (ran ⟨d, q⟩) (Dev.valPath_found hr hz hi hx hxi)

end Sys2Proof.Machine
end

section
/-! PROOF. The tunnel's datagrams and concentrators, and the MACsec commands (R129, R230, R372, R373, R374, R381, R382, R386,
R388; O31). -/

namespace Sys2Proof.Machine

section
variable {d e : Dev}

/-! ### The tunnel (R373, R374) -/

/-- Off a pair, the entries of a datagram carry no expiry. -/
theorem Dev.tunnelDownlinkSend_unpaired {c p : Nat} {fs : List DlFrame} {g : EthGram} (hsends : d.tunSends = true)
    (hknown : ceKnown (d.conc c) = true) (hp : p = ceNow (d.conc c)) (hfree : (d.ethP p).grams = [])
    (htake : Dev.gramTake 25 (28 + c) 8176 [] d = (e, fs)) (hfs : fs ≠ []) (hpair : e.on F.EPL_CTRL_pair_en = false)
    (hg : g = { conc := c, entries := fs.map (fun f => (f, none)) }) :
    d.tunnelDownlinkSend c = (e.modEthP p (fun (p : EthPort) => { p with grams := p.grams ++ [g] })).ethFlow := by
  subst hp hg
  simp only [Dev.tunnelDownlinkSend, hsends, hknown, hfree, htake, List.isEmpty_eq_false_iff.2 hfs, hpair, List.isEmpty_nil,
    Bool.not_true, Bool.or_self, Bool.false_eq_true, if_false, ite_self]

theorem Dev.keepaliveSend_due (hsends : d.tunSends = true) (hka : d.rd F.ETH_TUN_CFG_ka_s ≠ 0) :
    d.keepaliveSend = ((d.eth.concs.filter (fun x => ceKnown x.2)).foldl (fun d x =>
      d.modEthP (ceNow x.2) (fun (p : EthPort) => { p with grams := p.grams ++ [{ conc := x.1, entries := [] }] })) d).ethFlow := by
  simp only [Dev.keepaliveSend, hsends, hka, Bool.not_true, Bool.false_or, decide_false, Bool.false_eq_true, if_false]

theorem Dev.concSilent_lost {c : Nat} (hvalid : ceValid (d.conc c) = true) (hup : ceUp (d.conc c) = true)
    (hsilent : d.rd F.ETH_TUN_CFG_conc_silent ≠ 0) :
    d.concSilent c = (d.setConc c (setBits (d.conc c) 203 1 0)).tunEvent F.ETH_TUN_EVT_conc_lost c := by
  simp only [Dev.concSilent, hvalid, hup, bne_iff_ne.2 hsilent, Bool.and_self, if_true]

/-! ### The MACsec commands (R382) -/

section
variable {c : Desc} {n s : Nat} (hr : wReservedOk c.w = true) (hn : n = wArg c.w 24 1) (hs : s = wArg c.w 25 1) (hport : n < 4)
  (hon : d.secOn n = true)
include hr hn hs hport hon

theorem Dev.saInstall_unwrapped {a x : Nat} {r key : List Byte} {k : KeyEnt} (hz : wUnusedZero c.w [(4, 20), (24, 27)] = true)
    (ha : a = wArg c.w 26 1) (hdata : r = c.data) (hx : x = byteAt r 3) (hw : wLen c.w = 96) (hs9 : s ≤ 9) (ha3 : a ≤ 3)
    (hl : r.length = 96) (hcipher : d.rd (F.ETH_SEC_CTRL_cipher.at n) = x) (hopen : d.unlocked = true)
    (hmagic : leAt r 0 2 = 0x5341) (hver : byteAt r 2 = 1) (hkid : leAt r 4 4 ≠ 0) (hrest : leAt r 72 24 = 0)
    (hssci : x < 2 → leAt r 16 16 = 0) (hwrap : x % 2 ≠ 1 → leAt r 56 16 = 0) (hact : d.saActive n s = false)
    (hk : d.keyOf (wHandle c.w) = some k) (hgood : k.bad = false) (hroot : k.kind = 3)
    (hkey : sakOf r k.key k.kid (x % 2 == 1) = some key)
    (he : e = d.setSa n s { an := a, pn := leAt r 8 8, ssci := leAt r 16 4, salt := (r.drop 20).take 12, key := key }) :
    d.saInstall c = ((e.saShow n).ethFlow).okRes c s := by
  have hssci' : (decide (x < 2) && leAt r 16 16 != 0) = false := by
    by_cases h : x < 2 <;> simp [h, hssci]
  have hwrap' : (!(x % 2 == 1) && leAt r 56 16 != 0) = false := by
    by_cases h : x % 2 = 1 <;> simp [h, hwrap]
  subst he hx hdata hn hs ha
  simp only [Dev.saInstall, Dev.withFields_ok hz hr, hw, hl, Nat.not_lt.2 hs9, Nat.not_lt.2 ha3, Nat.not_le.2 hport, hon, hcipher,
    hopen, hmagic, hver, beq_false_of_ne hkid, hrest, hssci', hwrap', hact, hk, hgood, hroot, Option.filter_some, hkey,
    bne_self_eq_false, beq_self_eq_true, Bool.not_true, Bool.not_false, decide_false, Bool.or_self, Bool.and_self,
    Bool.false_eq_true, if_false, if_true]

variable (hz : wUnusedZero c.w [(24, 26)] = true)
include hz

theorem Dev.saTxSwitch_installed {sa : EthSa} (hs1 : s ≤ 1) (hsa : mget? (d.ethP n).sas s = some sa) : d.saTxSwitch c
    = (((d.wr (F.ETH_SEC_STAT_tx_slot.at n) s).clrF (F.ETH_SEC_STAT_tx_held.at n)).ethFlow).okRes c := by
  subst hn hs
  simp only [Dev.saTxSwitch, Dev.withFields_ok hz hr, Nat.not_lt.2 hs1, Nat.not_le.2 hport, hon, hsa, Option.isNone_some,
    Bool.not_true, decide_false, Bool.or_self, Bool.false_eq_true, if_false]

theorem Dev.saDelete_idle (hs9 : s ≤ 9) (hact : d.saActive n s = false) : d.saDelete c
    = ((d.modEthP n (fun (p : EthPort) => { p with sas := mdel p.sas s })).saShow n).okRes c := by
  subst hn hs
  simp only [Dev.saDelete, Dev.withFields_ok hz hr, Nat.not_lt.2 hs9, Nat.not_le.2 hport, hon, hact, Bool.not_true, decide_false,
    Bool.or_self, Bool.false_eq_true, if_false]

end

end

/-- Settles O31: each clause is the case of the command's meaning in which nothing stands in its way. -/
theorem ethernetTunnelCommandsComplete : Obligations.EthernetTunnelCommandsComplete := by
  refine ⟨fun c fs p g d e q hsends hknown hp hfree htake hfs _ hpair hg => congrArg (ran ⟨d, q⟩)
      (Dev.tunnelDownlinkSend_unpaired hsends hknown hp hfree htake hfs hpair hg),
    fun d q hsends hka => congrArg (ran ⟨d, q⟩) (Dev.keepaliveSend_due hsends hka),
    fun c d q hvalid hup hsilent => congrArg (ran ⟨d, q⟩) (Dev.concSilent_lost hvalid hup hsilent),
    fun v d e q he => ?_, fun d q => rfl,
    fun b c n s a x r key k d0 d f q hread hz hr hn hs ha hdata hx hw hs9 ha3 hl hport hon hcipher hopen hmagic hver hkid hrest
      hssci hwrap hact hk hgood hroot hkey hf => ?_,
    fun c n s sa d q hz hr hn hs hs1 hport hon hsa =>
      congrArg (ran ⟨d, q⟩) (Dev.saTxSwitch_installed hr hn hs hport hon hz hs1 hsa),
    fun c n s d q hz hr hn hs hs9 hport hon hact =>
      congrArg (ran ⟨d, q⟩) (Dev.saDelete_idle hr hn hs hport hon hz hs9 hact)⟩
  · subst he
    rfl
  · exact congrArg (ran ⟨d0, q⟩) ((hread _).trans (Dev.saInstall_unwrapped hr hn hs hport hon hz ha hdata hx hw hs9 ha3 hl
      hcipher hopen hmagic hver hkid hrest hssci hwrap hact hk hgood hroot hkey hf))

end Sys2Proof.Machine
end

section
/-! PROOF. Window messages of the partner, the pair's management commands, and VAL's new sequence space (R176, R423, R426, R433,
R434, R442, R447; O36). -/

namespace Sys2Proof.Machine

section
variable {d e : Dev}

/-! ### Messages of the partner (R423, R426) -/

section
variable {m : EplRx} (hl : d.epl.lanes = true) (hon : d.domOn .epl = true) (hcrc : m.crcOk = true)
  (hseq : d.eplInOrder m = true)
include hl hon hcrc hseq

/-- A sound message, next in order on a link that runs, takes its effect after what every message in order does. -/
theorem Dev.eplIn_inOrder (k : Dev → Dev) : d.eplIn m k = k (d.eplHeard m) := by
  simp only [Dev.eplIn, hl, hon, hcrc, hseq, Bool.not_true, Bool.or_self, Bool.false_eq_true, if_false]

variable (he : e = d.eplHeard m)
include he

theorem Dev.winRd_inOrder {f : Dev} {got : List Out} {bad : Bool} {data : List Byte}
    (hf : f = e.partnerServe (leAt m.payload 0 8) (leAt m.payload 8 4) false []) (hgot : got = f.out.drop e.out.length)
    (hbad : bad = got.any (fun o => match o with | .readData _ _ _ x => x | _ => false))
    (hdata : data = got.flatMap (fun o => match o with | .readData _ _ l _ => l | _ => [])) :
    d.winRd m = Dev.eplSend { f with out := f.out.take e.out.length ++ got.filter (fun o =>
        match o with | .readData _ _ _ _ => false | _ => true) } 0x10 ((m.payload.drop 12).take 4 ++ leBytes 1 (b2n bad)
          ++ zeros 3 ++ padTo 8 (if bad then [] else data)) := by
  subst hdata hbad hgot hf he
  exact Dev.eplIn_inOrder hl hon hcrc hseq _

theorem Dev.winRdRsp_waited {f : Dev} {w : WinWait} {bad : Bool}
    (hw : e.epl.reads.find? (fun w => w.tag == leAt m.payload 0 4) = some w)
    (hbad : bad = (byteAt m.payload 4 != 0 && w.master != 0))
    (hf : f = { e with epl := { e.epl with reads := e.epl.reads.filter (fun x => x.tag != leAt m.payload 0 4) } }) :
    d.winRdRsp m = f.emit (.readData w.master w.addr (if bad then [] else (m.payload.drop 8).take w.size) bad) := by
  subst hf hbad he
  simp only [Dev.winRdRsp, Dev.eplIn_inOrder hl hon hcrc hseq, hw]

theorem Dev.winWr_inOrder {n : Nat} (hn : n = leAt m.payload 8 4) :
    d.winWr m = e.partnerServe (leAt m.payload 0 8) n true ((m.payload.drop 16).take n) := by
  subst hn he
  exact Dev.eplIn_inOrder hl hon hcrc hseq _

end

/-! ### The pair's management commands (R433, R434, R442, R447) -/

section
variable {c : Desc} (hr : wReservedOk c.w = true)
include hr

theorem Dev.pairInfo_legal (hz : wUnusedZero c.w [] = true) : d.pairInfo c
    = d.okRes c (d.rd F.EPL_STATUS_neg_ver + d.rd F.EPL_STATUS_role * 2 ^ 16 + d.rd F.EPL_STATUS_token * 2 ^ 18
        + d.rd F.EPL_STATUS_standby_ready * 2 ^ 19 + d.rd F.EPL_TOKEN_term * 2 ^ 32) (d.rd F.EPL_PARTNER_EUI_LO_eui) :=
  Dev.withFields_ok hz hr _

theorem Dev.pairSwap_ready {t : Nat} (hz : wUnusedZero c.w [(24, 28)] = true) (hrole : d.rd F.EPL_STATUS_role = 1)
    (hlink : d.eplApart = false) (hnone : d.epl.swap = none) (hready : d.epl.ready = true) (ht : t = zeroAs (wArg c.w 24 4) 100)
    (he : e = { d with epl := { d.epl with swap := some (d.tick + t * msNs, some c) } }) :
    d.pairSwap c = (e.tokenHeldEnd.eplSend 4 (leBytes 4 t)).bolShow := by
  subst he ht
  simp only [Dev.pairSwap, Dev.withFields_ok hz hr, hrole, hlink, hnone, hready, bne_self_eq_false, Option.isSome_none,
    Bool.not_true, Bool.false_eq_true, if_false]

/-- A grant is taken for a higher term, or for the term of the grant that stands. -/
theorem Dev.pairWitnessGrant_taken {term ms : Nat} {f : Dev} {renewal : Bool} (hz : wUnusedZero c.w [(24, 32)] = true)
    (hterm : term = wArg c.w 24 4) (hms : ms = wArg c.w 28 4) (hpos : 0 < ms) (hmax : ms ≤ 60000)
    (hrole : d.rd F.EPL_STATUS_role < 2)
    (hrenew : renewal = (d.on F.EPL_STATUS_witness_held && d.epl.grant == some term && term == d.rd F.EPL_TOKEN_term))
    (htaken : (decide (d.rd F.EPL_TOKEN_term < term) || renewal) = true)
    (he : e = (d.wr F.EPL_TOKEN_term term).tokenSet true)
    (hf : f = Dev.setF { e with epl := { e.epl with grant := some term, expiry := some (e.tick + ms * msNs) } }
      F.EPL_STATUS_witness_held) :
    d.pairWitnessGrant c = (if renewal then f else f.epochNew).bolShow.okRes c term := by
  have hmsOk : (decide (ms = 0) || decide (60000 < ms)) = false := by simp [Nat.ne_of_gt hpos, hmax]
  have hroleOk : (decide (d.rd F.EPL_STATUS_role = 2) || decide (d.rd F.EPL_STATUS_role = 3)) = false := by
    simp only [Bool.or_eq_false_iff, decide_eq_false_iff_not]
    omega
  have htermOk : (!decide (d.rd F.EPL_TOKEN_term < term) && !renewal) = false := by rw [← Bool.not_or, htaken, Bool.not_true]
  subst hf he
  simp only [Dev.pairWitnessGrant, Dev.withFields_ok hz hr, ← hterm, ← hms, ← hrenew, hmsOk, hroleOk, htermOk,
    Bool.false_eq_true, if_false]

theorem Dev.pairResync_standby (hz : wUnusedZero c.w [(24, 25)] = true) (hmode : wArg c.w 24 1 ≤ 1)
    (hrole : d.rd F.EPL_STATUS_role = 2) (hlink : d.eplApart = false) (hnone : d.epl.resync = none) :
    d.pairResync c = d.resyncAsk (wArg c.w 24 1) (some c) := by
  simp only [Dev.pairResync, Dev.withFields_ok hz hr, Nat.not_lt.2 hmode, hrole, hlink, hnone, bne_self_eq_false,
    Option.isSome_none, Bool.false_eq_true, if_false]

theorem Dev.pairMismatchRead_whole {got : List (List Byte)} (hz : wUnusedZero c.w [(8, 20)] = true) (hlen : wLen c.w % 24 = 0)
    (hgot : got = d.epl.diverged.take (wLen c.w / 24)) :
    d.pairMismatchRead c = d.finish c { status := 0, result := got.length, data := [(wAddr c.w, got.flatten)] } := by
  subst hgot
  simp only [Dev.pairMismatchRead, Dev.withFields_ok hz hr, hlen, bne_self_eq_false, Bool.false_eq_true, if_false]

end

/-! ### A new sequence space (R176) -/

theorem Dev.valServed_outside_boot {c : Desc} (hboot : d.mode ≠ .boot) (hrec : d.mode ≠ .recovery) (k : Dev → Dev) :
    d.valServed c k = k d := by
  simp only [Dev.valServed, beq_false_of_ne hboot, beq_false_of_ne hrec, Bool.or_self, Bool.false_eq_true, if_false]

theorem Dev.valReseq_conflict {c : Desc} {b : Nat} {f g : Dev} (hz : wUnusedZero c.w [] = true) (hr : wReservedOk c.w = true)
    (hboot : d.mode ≠ .boot) (hrec : d.mode ≠ .recovery) (hconf : d.on F.VAL_STATUS_unit_conflict = true)
    (hb : b = d.rd F.VAL_PAIR_unit * 2 ^ 63)
    (he : e = ((((d.wr F.REEL_SEQ_NEXT_LO_seq_next (b + 1)).wr F.REEL_SEQ_RES_LO_seq_res b).wr F.REEL_STG_PUB_LO_stg_pub b).wr
      F.REEL_WLZ_ACK_LO_wlz_ack b).wr F.XDI_EXP_LIVE_LO_live b)
    (hf : f = (e.wr F.XDI_EXP_COMMIT_LO_commit b).wr F.GAV_FLUSHED_LO_flushed b)
    (hg : g = (Dev.wr { f.wr F.XDI_EXP_NEXT_LO_next (b + 1) with xdi := { f.xdi with ahead := [], gap := none, gapsReported := [] } }
      F.GAV_OLDEST_LO_oldest (b + 1)).clrF F.VAL_STATUS_unit_conflict) :
    d.valReseq c = { g with
      val := { g.val with reseq := some c }, cu := { g.cu with resReq := b + 0x100000, units := [] }
      gav := { g.gav with
        map := g.gav.map.filter (fun e => e.1 < 262144 || 262144 * (1 + g.gav.recGib + g.gav.extGib) ≤ e.1),
        recIssued := 0, recDone := 0,
        jpend := g.gav.jpend ++ [.trim 262144 (262144 * (g.gav.recGib + g.gav.extGib)) g.gav.nseq,
          .sysval 1 (b + 0x100000), .sysval 2 b, .sysval 5 (b + 1)] } } := by
  have hgiven : d.valReseq c = _ := (Dev.withFields_ok hz hr _).trans (Dev.valServed_outside_boot hboot hrec _)
  subst hg hf he hb
  exact hgiven.trans (if_neg (by rw [hconf]; decide))

end

/-- Settles O36: each clause is the case of the command's meaning in which nothing stands in its way. -/
theorem pairCommandsComplete : Obligations.PairCommandsComplete := by
  refine ⟨fun m bad got data d e f q hl hon hcrc hseq he hf hgot hbad hdata =>
      congrArg (ran ⟨d, q⟩) (Dev.winRd_inOrder hl hon hcrc hseq he hf hgot hbad hdata),
    fun m w bad d e f q hl hon hcrc hseq he hw hbad hf =>
      congrArg (ran ⟨d, q⟩) (Dev.winRdRsp_waited hl hon hcrc hseq he hw hbad hf),
    fun m n d e q hl hon hcrc hseq he hn => congrArg (ran ⟨d, q⟩) (Dev.winWr_inOrder hl hon hcrc hseq he hn),
    fun c d q hz hr => congrArg (ran ⟨d, q⟩) (Dev.pairInfo_legal hr hz),
    fun c t d e q hz hr hrole hlink hnone hready ht he =>
      congrArg (ran ⟨d, q⟩) (Dev.pairSwap_ready hr hz hrole hlink hnone hready ht he),
    fun c term ms d e f renewal q hz hr hterm hms hpos hmax hrole hrenew htaken he hf => congrArg (ran ⟨d, q⟩)
      (Dev.pairWitnessGrant_taken hr hz hterm hms hpos hmax hrole hrenew htaken he hf),
    fun c d q hz hr hmode hrole hlink hnone =>
      congrArg (ran ⟨d, q⟩) (Dev.pairResync_standby hr hz hmode hrole hlink hnone),
    fun c got d q hz hr hlen hgot => congrArg (ran ⟨d, q⟩) (Dev.pairMismatchRead_whole hr hz hlen hgot),
    fun c b d e f g q hz hr hboot hrec hconf hb he hf hg =>
      congrArg (ran ⟨d, q⟩) (Dev.valReseq_conflict hz hr hboot hrec hconf hb he hf hg)⟩

end Sys2Proof.Machine
end

section
/-! PROOF. Waltz at work: the enable, running, feeds, closes, episodes and reports (R190, R191, R197, R208, R209, R214, R215;
O15). -/

namespace Sys2Proof.Machine

section
variable {d e : Dev}

/-! ### Enable and running (R191, R214, R215) -/

section
variable {v : Nat} (hoff : d.on F.WLZ_CTRL_enable = false) (he : e = d.regWrite32 0x70000 v)
  (hon : e.on F.WLZ_CTRL_enable = true)
include hoff he hon

theorem Dev.waltzEnable_committed (hbase : baseOk e.baseS = true) (hareas : e.wlzAreasOk = true) :
    d.waltzEnable v = { (e.commitRwl 0x70000).wlzRecount with
      wlz := { (e.commitRwl 0x70000).wlzRecount.wlz with lastReport := none } } := by
  subst he
  simp only [Dev.waltzEnable, hoff, hon, hbase, hareas, Bool.not_true, Bool.or_self, Bool.false_eq_true, if_false]

theorem Dev.waltzEnable_cfgBad (hbase : baseOk e.baseS = false) :
    d.waltzEnable v = ((e.clrF F.WLZ_CTRL_enable).setF F.WLZ_ERR_cfg_bad).raise 233 := by
  subst he
  simp only [Dev.waltzEnable, hoff, hon, hbase, Bool.not_true, Bool.not_false, Bool.or_self, Bool.false_eq_true, if_false,
    if_true]

theorem Dev.waltzEnable_areaBad (hbase : baseOk e.baseS = true) (hareas : e.wlzAreasOk = false) :
    d.waltzEnable v = ((e.clrF F.WLZ_CTRL_enable).setF F.WLZ_ERR_area_bad).raise 233 := by
  subst he
  simp only [Dev.waltzEnable, hoff, hon, hbase, hareas, Bool.not_true, Bool.not_false, Bool.or_self, Bool.false_eq_true,
    if_false, if_true]

end

theorem Dev.waltzRunningStart_ready {f : Dev} (hidle : d.on F.WLZ_STATUS_running = false)
    (hen : d.on F.WLZ_CTRL_enable = true) (hmsr : d.on F.MSR_STATUS_ready = true) (hcount : d.wlz.recounted = true)
    (hserving : d.mode.serving = true) (hdom : d.domOn .wlz = true) (he : e = d.setF F.WLZ_STATUS_running)
    (hf : f = (if d.rd F.REEL_WLZ_ACK_LO_wlz_ack < d.rd F.REEL_STG_PUB_LO_stg_pub then ({ e with wlz := { e.wlz with
        catchUp := some (d.rd F.REEL_WLZ_ACK_LO_wlz_ack + 1, d.rd F.REEL_STG_PUB_LO_stg_pub) } }).setF F.WLZ_STATUS_catching_up
      else e)) :
    d.waltzRunningStart = if f.on F.WLZ_CTRL_auto_rebuild && !f.on F.WLZ_STATUS_hist_valid then
      ({ f with wlz := { f.wlz with rebuild := some (none, 0) } }).setF F.WLZ_STATUS_rebuilding else f := by
  subst hf he
  simp only [Dev.waltzRunningStart, hidle, hen, hmsr, hcount, hserving, hdom, Bool.not_true, Bool.or_self, Bool.false_eq_true,
    if_false]

section
variable (hrun : d.on F.WLZ_STATUS_running = true)
include hrun

/-! ### Feeds (R190) -/

theorem Dev.waltzFeed_restoration {x : List Byte} (h1 : d.fifoHead 0x700B0 = some x) :
    d.waltzFeed = d.feedFrom 0x700B0 x := by
  simp only [Dev.waltzFeed, hrun, h1, Bool.not_true, Bool.false_eq_true, if_false]

theorem Dev.waltzFeed_interval {x : List Byte} (h1 : d.fifoHead 0x700B0 = none) (h0 : d.fifoHead 0x700A0 = some x) :
    d.waltzFeed = d.feedFrom 0x700A0 x := by
  simp only [Dev.waltzFeed, hrun, h1, h0, Bool.not_true, Bool.false_eq_true, if_false]

/-! ### Closes (R197) -/

theorem Dev.intervalClose_applied {b s : Nat} (hat : d.wlz.closeAt = some (b, s)) (hdue : b ≤ d.dueB) (hb : b ≠ 0)
    (happlied : s ≤ d.rd F.REEL_WLZ_ACK_LO_wlz_ack) : d.intervalClose = d.closeNow b := by
  simp only [Dev.intervalClose, hrun, hat, Option.getD_some, Nat.not_lt.2 hdue, hb, happlied, Bool.not_true, Bool.or_self,
    decide_false, Bool.false_eq_true, if_false, if_true]

theorem Dev.intervalClose_waits {b s : Nat} (hnone : d.wlz.closeAt = none) (hlast : d.lastB ≠ 0) (hb : b = d.lastB + 1)
    (hs : s = d.rd F.REEL_SEQ_NEXT_LO_seq_next - 1) (hdue : b ≤ d.dueB) (hahead : d.rd F.REEL_WLZ_ACK_LO_wlz_ack < s) :
    d.intervalClose = ({ d with wlz := { d.wlz with closeAt := some (b, s) } }).setF F.WLZ_STATUS_closing := by
  subst hb hs
  simp only [Dev.intervalClose, hrun, hnone, Option.getD_none, hlast, Nat.not_lt.2 hdue, Nat.not_le.2 hahead,
    Nat.succ_ne_zero, Bool.not_true, Bool.or_self, decide_false, Bool.false_eq_true, if_false]

/-! ### Episodes and their reports (R208, R209) -/

section
variable (hopen : d.on F.WLZ_EPISODE_open = true)
include hopen

theorem Dev.episodeClose_quiet (hquiet : d.wlz.epLast + d.rd F.WLZ_EPISODE_CFG_quiet_s * sNs ≤ d.tick) :
    d.episodeClose = (d.reportWrite.clrF F.WLZ_EPISODE_open).raise 228 := by
  simp only [Dev.episodeClose, hrun, hopen, Nat.not_lt.2 hquiet, Bool.not_true, Bool.or_self, decide_false,
    Bool.false_eq_true, if_false]

/-- With no meter restored the next report follows a period later. -/
theorem Dev.restorationReport_due {ms : Nat} (hdue : d.wlz.reportDue ≤ d.tick) (hnone : d.wlz.epRestored = none)
    (hms : d.rd F.WLZ_EPISODE_CFG_update_ms = ms) (hpos : ms ≠ 0) : d.restorationReport = { d.reportWrite with
      wlz := { d.reportWrite.wlz with reportDue := d.wlz.reportDue + ms * msNs } } := by
  have hupd : zeroAs ms 1000 = ms := if_neg hpos
  simp only [Dev.restorationReport, hrun, hopen, Nat.not_lt.2 hdue, hnone, hms, hupd, Option.map_none, Option.getD_none,
    Nat.not_lt_zero, Bool.not_true, Bool.or_self, decide_false, Bool.false_eq_true, if_false]

end

end

end

/-- Settles O15: each clause is the branch of the meaning that its conditions leave, with what the engine then does. -/
theorem waltzRunCommandsComplete : Obligations.WaltzRunCommandsComplete := by
  exact ⟨fun v d e q hoff he hon hbase hareas =>
      congrArg (ran ⟨d, q⟩) (Dev.waltzEnable_committed hoff he hon hbase hareas),
    fun v d e q hoff he hon hbase => congrArg (ran ⟨d, q⟩) (Dev.waltzEnable_cfgBad hoff he hon hbase),
    fun v d e q hoff he hon hbase hareas => congrArg (ran ⟨d, q⟩) (Dev.waltzEnable_areaBad hoff he hon hbase hareas),
    fun d e f q hidle hen hmsr hcount hserving hdom he hf =>
      congrArg (ran ⟨d, q⟩) (Dev.waltzRunningStart_ready hidle hen hmsr hcount hserving hdom he hf),
    fun x d q hrun h1 => congrArg (fun e : Dev => ran ⟨d, q⟩ e.injectGoOn) (Dev.waltzFeed_restoration hrun h1),
    fun x d q hrun h1 h0 => congrArg (fun e : Dev => ran ⟨d, q⟩ e.injectGoOn) (Dev.waltzFeed_interval hrun h1 h0),
    fun b s d q hrun hat hdue hb happlied => congrArg (ran ⟨d, q⟩) (Dev.intervalClose_applied hrun hat hdue hb happlied),
    fun b s d q hrun hnone hlast hb hs hdue hahead =>
      congrArg (ran ⟨d, q⟩) (Dev.intervalClose_waits hrun hnone hlast hb hs hdue hahead),
    fun d q hrun hopen hquiet => congrArg (ran ⟨d, q⟩) (Dev.episodeClose_quiet hrun hopen hquiet),
    fun d q hrun hopen hdue hnone hms =>
      congrArg (ran ⟨d, q⟩) (Dev.restorationReport_due hrun hopen hdue hnone hms (by decide))⟩

end Sys2Proof.Machine
end

section
/-! PROOF. Waltz's passes: inference and scoring start and end, and a rebuild ends (R203, R204, R206, R207, R215; O16). -/

namespace Sys2Proof.Machine

section
variable {d e : Dev}

/-! ### The starts of passes (R204, R206) -/

section
variable (hmay : d.mayInfer = true)
include hmay

theorem Dev.inferencePeriodic_due (hauto : d.on F.WLZ_CTRL_infer_auto = true) (hper : d.rd F.WLZ_INFER_period ≠ 0)
    (hdue : d.wlz.inferB + d.rd F.WLZ_INFER_period ≤ d.lastB) (hnone : d.wlz.infer = none) :
    d.inferencePeriodic = d.inferStart none none := by
  simp only [Dev.inferencePeriodic, hmay, hauto, bne_iff_ne.2 hper, hdue, hnone, Option.isNone_none, decide_true, Bool.and_self,
    if_true]

theorem Dev.inferNow_idle (hnone : d.wlz.infer = none) :
    d.inferNow = (d.setF F.WLZ_INFER_infer_now).inferStart none none := by
  simp only [Dev.inferNow, hmay, Dev.setF_wlz, hnone, Option.isNone_none, Bool.not_true, Bool.false_eq_true, if_false, if_true]

theorem Dev.scorePeriodic_due (hauto : d.on F.WLZ_CTRL_score_auto = true) (hper : d.rd F.WLZ_SCORE_period ≠ 0)
    (hdue : d.wlz.scoreB + d.rd F.WLZ_SCORE_period ≤ d.lastB) (hnone : d.wlz.score = none) :
    d.scorePeriodic = d.scoreStart none := by
  simp only [Dev.scorePeriodic, hmay, hauto, bne_iff_ne.2 hper, hdue, hnone, Option.isNone_none, decide_true, Bool.and_self,
    if_true]

theorem Dev.scoreNow_idle (hnone : d.wlz.score = none) : d.scoreNow = (d.setF F.WLZ_SCORE_score_now).scoreStart none := by
  simp only [Dev.scoreNow, hmay, Dev.setF_wlz, hnone, Option.isNone_none, Bool.not_true, Bool.false_eq_true, if_false, if_true]

end

/-! ### The ends of passes (R203, R207, R215) -/

section
variable (hrun : d.on F.WLZ_STATUS_running = true)
include hrun

/-- A run without a command ends after the pass in which it placed no meter; in Storm no scoring follows. -/
theorem Dev.inferencePassDone_empty {run : InferRun} {f : Dev} (hinfer : d.wlz.infer = some run) (hrecs : d.msrRecs = [])
    (hmoved : run.moved = 0) (hpasses : run.passes = 0) (hcmd : run.cmd = none)
    (he : e = ({ d with wlz := { d.wlz with infer := none } }).wr F.WLZ_INFER_STAT_passes 1)
    (hf : f = (((((e.wr F.WLZ_INFER_STAT_reassigned 0).wr F.WLZ_RUN_TIME_infer_ms (min 0xFFFF ((d.tick - run.start) / msNs))).setF
      F.WLZ_STATUS_settled).clrF F.WLZ_STATUS_inferring).clrF F.WLZ_INFER_infer_now).raise 229) (hstorm : f.mode = .storm) :
    d.inferencePassDone = f := by
  have hends : (Mode.storm != .storm) = false := rfl
  subst hf he
  simp only [Dev.inferencePassDone, hrun, hinfer, hrecs, hmoved, hpasses, hcmd, List.filter_nil, List.map_nil, List.foldl_nil,
    Nat.lt_irrefl, Nat.zero_add, Dev.wr_tick, Option.map_none, Option.getD_none, hstorm, hends, decide_false, Bool.false_and,
    Bool.not_true, Bool.false_eq_true, if_false]

/-- A pass without a command that scored no meter. -/
theorem Dev.scoringPassDone_empty {t no : Nat} (hscore : d.wlz.score = some (none, t)) (hinfer : d.wlz.infer = none)
    (hrecs : d.msrRecs = []) (hno : no = (d.wlz.passNo + 1) % 65536)
    (he : e = d.memWrB (d.wlzBase 2) (leBytes 2 0x5350 ++ [1, 0] ++ leBytes 2 no ++ zeros 2
      ++ leBytes 4 0 ++ leBytes 4 d.lastB ++ leBytes 4 (crc32c 0xFFFFFFFF []) ++ zeros 44)) :
    d.scoringPassDone = ((({ e with wlz := { e.wlz with
        score := none
        passNo := no
        failed := e.wlz.failed.filter (fun x => !x.2.2.2 && decide (e.lastB ≤ x.2.2.1 + e.revise)) } }).clrF
      F.WLZ_STATUS_scoring).clrF F.WLZ_SCORE_score_now).wr F.WLZ_RUN_TIME_score_ms (min 0xFFFF ((d.tick - t) / msNs)) := by
  subst he hno
  simp only [Dev.scoringPassDone, hrun, hscore, hinfer, hrecs, List.filter_nil, List.map_nil, List.foldl_nil, List.take_nil,
    List.flatMap_nil, List.length_nil, List.append_nil, List.isEmpty_nil, Nat.lt_irrefl, Dev.clrF_tick, Dev.memWrB_tick,
    Option.map_none, Option.getD_none, Bool.not_true, Bool.false_eq_true, if_false, if_true]

theorem Dev.waltzRebuildDone_command {c : Desc} {lo n : Nat} (hrebuild : d.wlz.rebuild = some (some c, lo))
    (hall : d.rebuildAll lo = (e, n)) : d.waltzRebuildDone = ((({ e with wlz := { e.wlz with rebuild := none } }).clrF
      F.WLZ_STATUS_rebuilding).raise 234).okRes c n := by
  simp only [Dev.waltzRebuildDone, hrun, hrebuild, hall, Option.map_some, Option.getD_some, Bool.not_true, Bool.false_eq_true,
    if_false]

end

end

/-- Settles O16: a pass over no meter leaves its folds at their starts; every other clause is one branch of the meaning. -/
theorem waltzPassesComplete : Obligations.WaltzPassesComplete := by
  exact ⟨fun d q hmay hauto hper hdue hnone =>
      congrArg (ran ⟨d, q⟩) (Dev.inferencePeriodic_due hmay hauto hper hdue hnone),
    fun d q hmay hnone => congrArg (ran ⟨d, q⟩) (Dev.inferNow_idle hmay hnone),
    fun run d e f q hrun hinfer hrecs hmoved hpasses hcmd he hf hstorm => congrArg (ran ⟨d, q⟩)
      (Dev.inferencePassDone_empty hrun hinfer hrecs hmoved hpasses hcmd he hf hstorm),
    fun d q hmay hauto hper hdue hnone => congrArg (ran ⟨d, q⟩) (Dev.scorePeriodic_due hmay hauto hper hdue hnone),
    fun d q hmay hnone => congrArg (ran ⟨d, q⟩) (Dev.scoreNow_idle hmay hnone),
    fun t no d e q hrun hscore hinfer hrecs hno he =>
      congrArg (ran ⟨d, q⟩) (Dev.scoringPassDone_empty hrun hscore hinfer hrecs hno he),
    fun c lo n d e q hrun hrebuild hall => congrArg (ran ⟨d, q⟩) (Dev.waltzRebuildDone_command hrun hrebuild hall)⟩

end Sys2Proof.Machine
end

section
/-! PROOF. The WLZ commands of the host on a running Waltz (R184, R188, R200, R217; O17). -/

namespace Sys2Proof.Machine

section
variable {d e : Dev} {c : Desc}

/-! ### Which commands are served (R218) -/

section
variable (hmode : d.mode = .run)
include hmode

theorem Dev.wlzServed_run (k : Dev → Dev) : d.wlzServed c k = k d := by
  have hserving : (Mode.run == .boot || Mode.run == .recovery) = false := rfl
  simp only [Dev.wlzServed, hmode, hserving, Bool.false_eq_true, if_false]

theorem Dev.wlzRunning_run (hrun : d.on F.WLZ_STATUS_running = true) (k : Dev → Dev) : d.wlzRunning c k = k d := by
  simp only [Dev.wlzRunning, Dev.wlzServed_run hmode, hrun, Bool.not_true, Bool.false_eq_true, if_false]

end

/-- With nothing queued on a record its assignment is written at once. -/
theorem Dev.recAssign_unqueued {i : Nat} {l : List (Nat × Nat × Nat)} (hfree : d.queuedOn i = false) : d.recAssign c i l
      = (d.msrPut i (rsAll (d.msrPeek i) l)).okRes c (rg ((d.msrPut i (rsAll (d.msrPeek i) l)).msrPeek i) R.recGen) := by
  simp only [Dev.recAssign, hfree, Bool.false_eq_true, if_false]

section
variable (hr : wReservedOk c.w = true) (hmode : d.mode = .run)
include hr hmode

/-! ### The tables' loads (R184, R188) -/

section
variable (hz : wUnusedZero c.w [(8, 20), (24, 25)] = true)
include hz

theorem Dev.wlzNodeLoad_waits {x : Nat × Nat} (hclose : d.wlz.closeAt = some x) :
    d.wlzNodeLoad c = { d with wlz := { d.wlz with loads := d.wlz.loads ++ [c] } } := by
  simp only [Dev.wlzNodeLoad, Dev.withFields_ok hz hr, Dev.wlzServed_run hmode, hclose, Option.isSome_some, if_true]

variable {n : Nat} (hkeep : wArg c.w 24 1 = 0) (hl : c.data.length = wLen c.w) (hver : byteAt c.data 2 = 1)
  (hcrc : leAt c.data 8 4 = crc32c 0xFFFFFFFF (c.data.drop 64))
include hkeep hl hver hcrc

theorem Dev.wlzNodeLoad_good (hclose : d.wlz.closeAt = none) (hn : n = leAt c.data 4 4) (hmagic : leAt c.data 0 2 = 0x4E54)
    (hn1 : 1 ≤ n) (hmax : n ≤ d.rd F.WLZ_SIZES_nodes) (hlen : wLen c.w = 64 + 64 * n)
    (hgood : nodeBad (leNat c.data) n (d.rd F.WLZ_SIZES_groups) = none) :
    d.wlzNodeLoad c = (d.nodesApply c.data).okRes c n := by
  subst hn
  simp only [Dev.wlzNodeLoad, Dev.withFields_ok hz hr, Dev.wlzServed_run hmode, hclose, hkeep, hl, hver, hcrc, hmagic, hn1, hmax,
    hlen, hgood, Option.isSome_none, Nat.not_lt_zero, Nat.zero_ne_one, bne_self_eq_false, beq_self_eq_true, decide_true,
    Bool.and_self, Bool.not_true, Bool.false_eq_true, if_false]

theorem Dev.wlzGroupLoad_good (hn : n = d.rd F.WLZ_SIZES_groups) (hmagic : leAt c.data 0 2 = 0x4754)
    (hcount : leAt c.data 4 4 = n) (hlen : wLen c.w = 64 + 512 * n + 32992) (hgood : d.groupBad c.data n = none) :
    d.wlzGroupLoad c = (d.groupsApply c.data).okRes c n := by
  subst hn
  simp only [Dev.wlzGroupLoad, Dev.withFields_ok hz hr, Dev.wlzServed_run hmode, hkeep, hl, hver, hcrc, hmagic, hcount, hlen,
    hgood, Nat.not_lt_zero, Nat.zero_ne_one, bne_self_eq_false, beq_self_eq_true, Bool.and_self, Bool.not_true,
    Bool.false_eq_true, if_false]

end

section
variable (hrun : d.on F.WLZ_STATUS_running = true)
include hrun

/-! ### What the host reads (R200, R217) -/

/-- One record asked for, in a buffer for one. -/
theorem Dev.wlzResults_one (hz : wUnusedZero c.w [(8, 20), (24, 40)] = true) (hlen : wLen c.w = 48)
    (hnode : wArg c.w 24 4 < d.nodeCount) (hnodes : wArg c.w 28 4 = 1) (hints : wArg c.w 36 4 = 1)
    (hrange : d.rangeOk (wArg c.w 32 4) = true) : d.wlzResults c = d.drawn.finish c
      { status := 0, result := 1,
        result2 := (wArg c.w 32 4 + 1) % 2 ^ 32 + wArg c.w 24 4 % 2 ^ 16 * 2 ^ 32,
        data := [(wAddr c.w, d.resultRec (wArg c.w 24 4) (wArg c.w 32 4))] } := by
  have hfit : min 1 (d.nodeCount - wArg c.w 24 4) = 1 := Nat.min_eq_left (Nat.sub_pos_of_lt hnode)
  have hrecord : (List.range 1).flatMap (fun j => d.resultRec (wArg c.w 24 4 + j % 1) (wArg c.w 32 4 + j / 1))
      = d.resultRec (wArg c.w 24 4) (wArg c.w 32 4) := List.append_nil _
  have hnext (k : Nat) : k + b2n false * 2 ^ 63 = k := rfl
  have hwhole : (48 % 48 != 0) = false := rfl
  have hroom : min 1 (48 / 48) = 1 := rfl
  simp only [Dev.wlzResults, Dev.withFields_ok hz hr, Dev.wlzRunning_run hmode hrun, hlen, hnodes, hints, hfit, hwhole, hroom,
    hrange, hrecord, hnext, Nat.add_sub_cancel, Nat.one_mul, Nat.lt_irrefl, Bool.and_self, Bool.not_true, Bool.and_false,
    decide_false, Bool.false_eq_true, if_false]

theorem Dev.wlzRestoreRead_none (hz : wUnusedZero c.w [(8, 20)] = true) (hnone : d.wlz.lastReport = none) :
    d.wlzRestoreRead c = d.fail c wlzNoReport := by
  simp only [Dev.wlzRestoreRead, Dev.withFields_ok hz hr, Dev.wlzRunning_run hmode hrun, hnone]

theorem Dev.wlzRestoreRead_report {b a k : Nat} (hz : wUnusedZero c.w [(8, 20)] = true) (hlast : d.wlz.lastReport = some b)
    (ha : a = d.wlzBase 5 + 0x210000 * b) (hk : k = d.memRd (a + 8) 4) (hfits : 64 + k * 32 ≤ wLen c.w) :
    d.wlzRestoreRead c = d.finish c
      { status := 0, result := d.memRd (a + 6) 2, result2 := k, data := [(wAddr c.w, d.mem.readBytes a (64 + k * 32))] } := by
  subst hk ha
  simp only [Dev.wlzRestoreRead, Dev.withFields_ok hz hr, Dev.wlzRunning_run hmode hrun, hlast, Nat.not_lt.2 hfits, if_false]

theorem Dev.wlzSuspRead_fits {a n : Nat} (hz : wUnusedZero c.w [(8, 20), (24, 32)] = true) (ha : a = d.wlzBase 2)
    (hlen : 64 ≤ wLen c.w)
    (hn : n = min (min (wArg c.w 28 4) (d.memRd (a + 8) 4 - wArg c.w 24 4)) ((wLen c.w - 64) / 32)) :
    d.wlzSuspRead c = d.finish c
      { status := 0, result := n, result2 := d.memRd (a + 4) 2,
        data := [(wAddr c.w, d.mem.readBytes a 64 ++ d.mem.readBytes (a + 64 + 32 * wArg c.w 24 4) (32 * n))] } := by
  subst hn ha
  simp only [Dev.wlzSuspRead, Dev.withFields_ok hz hr, Dev.wlzRunning_run hmode hrun, Nat.not_lt.2 hlen, if_false]

theorem Dev.wlzProfile_fits {i : Nat} (hz : wUnusedZero c.w [(8, 20), (24, 28)] = true) (hi : i = wArg c.w 24 4)
    (hsize : i < msrSize) (hlen : 3072 ≤ wLen c.w) :
    d.wlzProfile c = d.finish c { status := 0, data := [(wAddr c.w, leBytes 3072 (d.prof i))] } := by
  subst hi
  simp only [Dev.wlzProfile, Dev.withFields_ok hz hr, Dev.wlzRunning_run hmode hrun, Nat.not_le.2 hsize, Nat.not_lt.2 hlen,
    decide_false, Bool.or_self, Bool.false_eq_true, if_false]

/-! ### Runs for a command (R217) -/

theorem Dev.wlzInfer_idle (hz : wUnusedZero c.w [(24, 25), (28, 30)] = true) (hall : wArg c.w 24 1 = 0)
    (hgroup : wArg c.w 28 2 = 0) (hnone : d.wlz.infer = none) : d.wlzInfer c = d.inferStart (some c) none := by
  have hstorm : (Mode.run == .storm) = false := rfl
  simp only [Dev.wlzInfer, Dev.withFields_ok hz hr, Dev.wlzRunning_run hmode hrun, hmode, hstorm, hall, hgroup, hnone,
    Option.isSome_none, Nat.not_lt_zero, Nat.zero_ne_one, bne_self_eq_false, decide_false, Bool.false_and, Bool.and_false,
    Bool.or_self, Bool.false_eq_true, if_false]

theorem Dev.wlzScore_idle (hz : wUnusedZero c.w [] = true) (hnone : d.wlz.score = none) :
    d.wlzScore c = d.scoreStart (some c) := by
  have hstorm : (Mode.run == .storm) = false := rfl
  simp only [Dev.wlzScore, Dev.withFields_ok hz hr, Dev.wlzRunning_run hmode hrun, hmode, hstorm, hnone, Option.isSome_none,
    Bool.false_eq_true, if_false]

theorem Dev.wlzRebuild_all (hz : wUnusedZero c.w [(24, 28)] = true) (hnone : d.wlz.rebuild = none) (hall : wArg c.w 24 4 = 0) :
    d.wlzRebuild c
      = ({ d with wlz := { d.wlz with rebuild := some (some c, 0) } }).setF F.WLZ_STATUS_rebuilding := by
  have hstorm : (Mode.run == .storm) = false := rfl
  simp only [Dev.wlzRebuild, Dev.withFields_ok hz hr, Dev.wlzRunning_run hmode hrun, hmode, hstorm, hall, hnone,
    Option.isSome_none, bne_self_eq_false, Bool.false_and, Bool.false_eq_true, if_false]

/-! ### The assignment of a phase (R195, R217) -/

/-- With flag 1 alone the meter keeps its node. -/
theorem Dev.wlzAssign_phase {i r : Nat} {f g h : Dev} (hz : wUnusedZero c.w [(24, 32)] = true) (hi : i = wArg c.w 24 4)
    (hsize : i < msrSize) (hphase : wArg c.w 30 1 ≤ 3) (hflags : wArg c.w 31 1 = 2) (hg : d.msrGet i = (e, some r))
    (hs : rg r R.state ≠ stFree) (hf : f = e.profPut i (pfSetFlag (e.prof i) 3 true))
    (hgd : g = { f with wlz := { f.wlz with
      infer := f.wlz.infer.map (fun (x : InferRun) => { x with assigned := i :: x.assigned }) } })
    (hfree : g.queuedOn i = false)
    (hh : h = g.msrPut i (rsAll (g.msrPeek i) (wlzFields [(R.phase, wArg c.w 30 1), (R.phaseConf, 1)]))) :
    d.wlzAssign c = h.okRes c (rg (h.msrPeek i) R.recGen) := by
  have hshadow : (Mode.run == .shadow) = false := rfl
  have hflag0 : bit 2 0 = false := rfl
  have hflag1 : bit 2 1 = true := rfl
  have hflag2 : bit 2 2 = false := rfl
  have hflag3 : bit 2 3 = false := rfl
  have hlegal : ¬ 15 < 2 := by decide
  rw [hh, ← Dev.recAssign_unqueued hfree]
  subst hgd hf hi
  simp only [Dev.wlzAssign, Dev.withFields_ok hz hr, Dev.wlzRunning_run hmode hrun, hmode, hshadow, hflags, hflag0, hflag1,
    hflag2, hflag3, hlegal, Nat.not_le.2 hsize, Nat.not_lt.2 hphase, hg, hs, bne_self_eq_false, decide_false, Bool.false_and,
    Bool.and_false, Bool.or_self, List.nil_append, Bool.false_eq_true, if_false, if_true]

end

end

end

/-- Settles O17: the descriptor is legal and the mode serves it, so that the meaning is left with its one branch. -/
theorem waltzHostCommandsComplete : Obligations.WaltzHostCommandsComplete := by
  exact ⟨fun b c n d0 d q hread hz hr hclose hmode hkeep hl hn hmagic hver hn1 hmax hlen hcrc hgood => congrArg (ran ⟨d0, q⟩)
      ((hread _).trans (Dev.wlzNodeLoad_good hr hmode hz hkeep hl hver hcrc hclose hn hmagic hn1 hmax hlen hgood)),
    fun b c x d0 d q hread hz hr hmode hclose =>
      congrArg (ran ⟨d0, q⟩) ((hread _).trans (Dev.wlzNodeLoad_waits hr hmode hz hclose)),
    fun b c n d0 d q hread hz hr hmode hkeep hl hn hmagic hver hcount hlen hcrc hgood => congrArg (ran ⟨d0, q⟩)
      ((hread _).trans (Dev.wlzGroupLoad_good hr hmode hz hkeep hl hver hcrc hn hmagic hcount hlen hgood)),
    fun c d q hz hr hmode hrun hlen hnode hnodes hints hrange => congrArg (ran ⟨d, q⟩)
      (Dev.wlzResults_one hr hmode hrun hz hlen hnode hnodes hints hrange),
    fun c d q hz hr hmode hrun hnone => congrArg (ran ⟨d, q⟩) (Dev.wlzRestoreRead_none hr hmode hrun hz hnone),
    fun c b a k d q hz hr hmode hrun hlast ha hk hfits =>
      congrArg (ran ⟨d, q⟩) (Dev.wlzRestoreRead_report hr hmode hrun hz hlast ha hk hfits),
    fun c a n d q hz hr hmode hrun ha hlen hn => congrArg (ran ⟨d, q⟩) (Dev.wlzSuspRead_fits hr hmode hrun hz ha hlen hn),
    fun c d q hz hr hmode hrun hall hgroup hnone =>
      congrArg (ran ⟨d, q⟩) (Dev.wlzInfer_idle hr hmode hrun hz hall hgroup hnone),
    fun c d q hz hr hmode hrun hnone => congrArg (ran ⟨d, q⟩) (Dev.wlzScore_idle hr hmode hrun hz hnone),
    fun c i r d e f g h q hz hr hmode hrun hi hsize hphase hflags hg hs hf hgd hfree hh => congrArg (ran ⟨d, q⟩)
      (Dev.wlzAssign_phase hr hmode hrun hz hi hsize hphase hflags hg hs hf hgd hfree hh),
    fun c d q hz hr hmode hrun hsize hlen => congrArg (ran ⟨d, q⟩) (Dev.wlzProfile_fits hr hmode hrun hz rfl hsize hlen),
    fun c d q hz hr hmode hrun hnone hall => congrArg (ran ⟨d, q⟩) (Dev.wlzRebuild_all hr hmode hrun hz hnone hall)⟩

end Sys2Proof.Machine
end

section
/-! PROOF. Bolero's enable and the BOL commands of the host on a running Bolero (R221, R225, R231, R234, R236, R237, R242–R247;
O18). -/

namespace Sys2Proof.Machine

section
variable {d e : Dev}

/-! ### The enable (R245, R246) -/

section
variable {v : Nat} (he : e = d.regWrite32 0x80000 v)
include he

theorem Dev.bolEnable_stops (hoff : e.on F.BOL_CTRL_enable = false) :
    d.bolEnable v = ((e.clrF F.BOL_STATUS_running).clrF F.BOL_STATUS_paused).bolShow := by
  subst he
  simp only [Dev.bolEnable, hoff, Bool.not_false, if_true]

section
variable (hwas : d.on F.BOL_CTRL_enable = false) (hon : e.on F.BOL_CTRL_enable = true)
include hwas hon

theorem Dev.bolEnable_starts (harea : e.inDram e.bolArea 0x53000000 = true) :
    d.bolEnable v = ((e.commitRwl 0x80000).bolSync).bolShow := by
  subst he
  simp only [Dev.bolEnable, hwas, hon, harea, Bool.not_true, Bool.false_eq_true, if_false, if_true]

theorem Dev.bolEnable_outside (harea : e.inDram e.bolArea 0x53000000 = false) :
    d.bolEnable v = ((e.clrF F.BOL_CTRL_enable).setF F.BOL_ERR_area_bad).raise 262 := by
  subst he
  simp only [Dev.bolEnable, hwas, hon, harea, Bool.not_true, Bool.false_eq_true, if_false]

end

end

/-! ### Which commands are served (R247) -/

section
variable {c : Desc} (hrun : d.on F.BOL_STATUS_running = true) (hmode : d.mode = .run)
include hrun hmode

theorem Dev.bolServed_run (reads : Bool) (k : Dev → Dev) : d.bolServed c reads k = k d := by
  have hchanges : (Mode.run != .shadow) = true := rfl
  simp only [Dev.bolServed, hrun, hmode, hchanges, Mode.serving, Bool.or_true, Bool.and_self, if_true]

theorem Dev.campOn_phase {s : Nat} (hs : s = wArg c.w 24 1) (hslot : s ≤ 63) {phases : List Nat}
    (hphase : d.campPhase s ∈ phases) (reads : Bool) (k : Dev → Nat → Dev) : d.campOn c reads phases k = k d s := by
  subst hs
  simp only [Dev.campOn, Nat.not_lt.2 hslot, Dev.bolServed_run hrun hmode, List.contains_iff_mem.2 hphase, if_false, if_true]

variable (hr : wReservedOk c.w = true)
include hr

/-! ### Commands to one meter (R231, R247) -/

section
variable (hi : argIndex c.w < msrSize)
include hi

theorem Dev.bolCmdStatus_answers {o : Nat} (hz : wUnusedZero c.w [(24, 28)] = true) (ho : o = d.bolRd (dlOff (argIndex c.w)) 16) :
    d.bolCmdStatus c = d.okRes c (serSub 16 (byts o 4 2) 1 + byts o 11 1 * 2 ^ 16) (byts o 12 4) := by
  simp only [Dev.bolCmdStatus, ho, Dev.withFields_ok hz hr, Dev.bolServed_run hrun hmode, Nat.not_le.2 hi, if_false]

section
variable {r : Nat} (hg : d.msrGet (argIndex c.w) = (e, some r)) (hstate : cmdState (rg r R.state) false = true)
include hg hstate

theorem Dev.bolCmd_queues (hz : wUnusedZero c.w [(24, 30), (32, 64)] = true) (hflags : wArg c.w 29 1 = 0)
    (hcargs : cargsOk (wArg c.w 28 1) (leBytes 32 (wArg c.w 32 32)) = true) (hfirst : codeNeeds2 (wArg c.w 28 1) = false)
    (hquiet : actuating (wArg c.w 28 1) = false) (hroom : e.cmdRoom (argIndex c.w) = true) : d.bolCmd c = e.cmdAdd
      { index := argIndex c.w, code := wArg c.w 28 1, cargs := leBytes 32 (wArg c.w 32 32), noAck := false, src := .desc c } := by
  have hforce : bit 0 0 = false := rfl
  have hnoAck : bit 0 1 = false := rfl
  simp only [Dev.bolCmd, Dev.withFields_ok hz hr, Dev.bolServed_run hrun hmode, Nat.not_le.2 hi, hflags, hforce, hnoAck, hcargs,
    hg, hstate, hfirst, hquiet, hroom, Nat.not_lt_zero, decide_false, Bool.false_and, Bool.or_self, Bool.not_true,
    Bool.false_eq_true, if_false]

theorem Dev.bolApdu_sends {p : Nat} (hz : wUnusedZero c.w [(8, 20), (24, 28)] = true) (hsome : 0 < wLen c.w)
    (hmax : wLen c.w ≤ 400) (hl : c.data.length = wLen c.w) (hpath : attPath (rg r R.attach) = some p) : d.bolApdu c
      = e.dlPut (mkDl p (rg r R.attach) (argIndex c.w) (.apdu c) 5 0 false false c.data) := by
  simp only [Dev.bolApdu, Dev.withFields_ok hz hr, Dev.bolServed_run hrun hmode, Nat.not_le.2 hi, Nat.ne_of_gt hsome,
    Nat.not_lt.2 hmax, hg, hstate, hl, hpath, bne_self_eq_false, decide_false, Bool.or_self, Bool.not_true, Bool.false_eq_true,
    if_false]

end

end

/-! ### Groups (R225, R237) -/

/-- A bgen that does not repeat takes no new epoch. -/
theorem Dev.bolGroupSet_changed {g b : Nat} {f : Dev} (hz : wUnusedZero c.w [(4, 8), (24, 26)] = true) (hgr : g = wArg c.w 24 2)
    (hmax : g ≤ 4095) (hnew : d.grpHandle g ≠ wHandle c.w) (hb : b = (d.grpBgen g + 1) % 65536) (hb0 : b ≠ 0)
    (he : e = d.ctrFresh (2 ^ 20 + g))
    (hf : f = { e with bol := { e.bol with groups := tset e.bol.groups g (wHandle c.w + b * 2 ^ 32) } }) :
    d.bolGroupSet c
      = (f.grpPut g (wHandle c.w) b (f.rd F.BOL_EPOCH_epoch * 2 ^ 24)).tableSave tabPush f.bol.groups (some c) b := by
  subst hf he hb hgr
  simp only [Dev.bolGroupSet, Dev.withFields_ok hz hr, Dev.bolServed_run hrun hmode, Nat.not_lt.2 hmax, hnew, hb0, decide_false,
    Bool.false_and, Bool.false_eq_true, if_false]

/-! ### Campaigns (R231, R234, R236, R237, R242, R243, R247) -/

section
variable {s : Nat} (hs : s = wArg c.w 24 1) (hslot : s ≤ 63)
include hs hslot

/-- A campaign of kind 0, whose control block takes no bytes of the buffer. -/
theorem Dev.bolCampLoad_image (hz : wUnusedZero c.w [(8, 20), (24, 36)] = true) (htariff : wArg c.w 25 1 ≠ 1)
    (hcmd : wArg c.w 25 1 ≠ 2) (hkind : wArg c.w 25 1 ≤ 2) (hgroup : wArg c.w 26 2 ≤ 4095) (hsome : 0 < wLen c.w)
    (hmax : wLen c.w ≤ 0x800000) (hphase : d.cPhase s = 0) (hl : c.data.length = wLen c.w)
    (he : e = (d.bolWr (cOff s) 96 (1 + wArg c.w 25 1 * 2 ^ 8 + wArg c.w 36 1 * 2 ^ 16 + wArg c.w 26 2 * 2 ^ 48
      + wArg c.w 28 4 * 2 ^ 64 + wArg c.w 32 4 * 2 ^ 96 + wLen c.w * 2 ^ 128 + 0)).bolWr (cOff s + 0x10000) (wLen c.w)
        (leNat c.data)) : d.bolCampLoad c = (e.campShow s).okRes c (e.cBlocks s) := by
  subst he hs
  simp only [Dev.bolCampLoad, hcmd, if_false, Dev.withFields_ok hz hr, Dev.bolServed_run hrun hmode, Nat.not_lt.2 hslot,
    Nat.not_lt.2 hkind, Nat.not_lt.2 hgroup, Nat.ne_of_gt hsome, Nat.not_lt.2 hmax, hphase, hl, beq_false_of_ne htariff,
    beq_false_of_ne hcmd, bne_self_eq_false, decide_false, Bool.false_and, Bool.or_self, Bool.false_eq_true]

/-- The one meter named is new to a campaign that has none. -/
theorem Dev.bolCampMembers_one {i : Nat} (hz : wUnusedZero c.w [(8, 20), (24, 26)] = true) (hnamed : wArg c.w 25 1 = 0)
    (hwhole : wLen c.w % 4 = 0) (hphase : d.cPhase s = 1) (hl : c.data.length = wLen c.w)
    (hlist : (chunks 4 c.data).map (fun e => leAt e 0 4) = [i]) (hi : i < msrSize) (hnone : d.cMembers s = 0) :
    d.bolCampMembers c = (((d.campAdd s i).1.campShow s).okRes c (b2n (!(d.campAdd s i).2)) (b2n (d.campAdd s i).2)) := by
  have hknown : [i].any (fun i => decide (msrSize ≤ i)) = false := by
    simp only [List.any_cons, List.any_nil, Nat.not_le.2 hi, decide_false, Bool.or_self]
  have hnew : ([i].filter (fun i => !([] : List Nat).contains i)).eraseDups = [i] := rfl
  have hmode0 : ¬ 2 < 0 := by decide
  subst hs
  simp only [Dev.bolCampMembers, hnamed, if_true, Dev.withFields_ok hz hr, Dev.bolServed_run hrun hmode, Nat.not_lt.2 hslot,
    hmode0, hwhole, hphase, hl, hlist, hknown, hnone, List.range_zero, List.map_nil, hnew, List.foldl_cons, List.foldl_nil,
    Nat.zero_add, bne_self_eq_false, decide_false, Bool.and_false, Bool.or_self, Bool.false_eq_true, if_false]

/-- A campaign of commands without members starts no path. -/
theorem Dev.bolCampStart_memberless (hz : wUnusedZero c.w [(24, 44)] = true) (hphase : d.cPhase s = 1)
    (he : e = (((d.cWr s 3 3 (zeroAs (wArg c.w 25 1) 6 + wArg c.w 26 1 * 2 ^ 8 + zeroAs (wArg c.w 27 1) 3 * 2 ^ 16)).cWr s 24 12
      (wArg c.w 28 12)).cWr s 36 4 (wArg c.w 40 4)).cWr s 0 1 2) (hnone : e.cMembers s = 0) (hkind : e.cKind s = 2) :
    d.bolCampStart c = (e.campShow s).okRes c := by
  subst he hs
  simp only [Dev.bolCampStart, Dev.withFields_ok hz hr, Dev.bolServed_run hrun hmode, Nat.not_lt.2 hslot, hphase, hnone, hkind,
    List.range_zero, List.foldl_nil, bne_self_eq_false, Bool.false_eq_true, if_false, if_true]

/-- The report of a loaded campaign with members and room in the buffer. -/
theorem Dev.bolCampReport_loaded {n : Nat} (hz : wUnusedZero c.w [(8, 20), (24, 25)] = true) (hwhole : wLen c.w % 8 = 0)
    (hphase : d.campPhase s = 1) (hn : n = min (wLen c.w / 8) (d.cMembers s)) (hsome : n ≠ 0) :
    d.bolCampReport c = d.finish c
      { status := 0, result := n, data := [(wAddr c.w, d.mem.readBytes (d.bolArea + cOff s + mOff 0) (8 * n))] } := by
  have hin : d.campPhase s ∈ [1, 2, 3, 4, 5, 6, 7, 8, 9] := by rw [hphase]; decide
  subst hn
  simp only [Dev.bolCampReport, Dev.withFields_ok hz hr, hwhole, Dev.campOn_phase hrun hmode hs hslot hin, hsome,
    bne_self_eq_false, Bool.false_eq_true, if_false]

section
variable (hz : wUnusedZero c.w [(24, 25)] = true)
include hz

theorem Dev.bolCampActivate_armed (hphase : d.campPhase s = 6) : d.bolCampActivate c = (d.campActivate s).okRes c := by
  have hin : d.campPhase s ∈ [6] := List.mem_singleton.2 hphase
  simp only [Dev.bolCampActivate, Dev.withFields_ok hz hr, Dev.campOn_phase hrun hmode hs hslot hin]

theorem Dev.bolCampWait_loaded (hphase : d.campPhase s = 1) :
    d.bolCampWait c = { d with bol := { d.bol with waiters := d.bol.waiters ++ [(s, c)] } } := by
  have hin : d.campPhase s ∈ [1, 2, 3, 4, 5, 6, 7, 8, 9] := by rw [hphase]; decide
  simp only [Dev.bolCampWait, Dev.withFields_ok hz hr, Dev.campOn_phase hrun hmode hs hslot hin]

/-- The commands of the campaign not yet begun go, and a live campaign that is none of commands cancels on every path. -/
theorem Dev.bolCampAbort_unended (hfrom : 1 ≤ d.campPhase s) (hto : d.campPhase s ≤ 7)
    (he : e = (d.cmdsSet (d.bol.cmds.filter (fun b => b.tries != 0 || (match b.src with
      | .member x _ => x != s
      | _ => true)))).campAborted s) : d.bolCampAbort c
      = (if d.cPhase s = 2 ∧ d.cKind s ≠ 2 then
          (d.cPaths s).foldl (fun d p => foldN 3 (fun _ d => d.pushCtrl s p 3 (zeros 4)) d) e else e).okRes c := by
  have hphases : [1, 2, 3, 4, 5, 6, 7] = List.range' 1 7 := rfl
  have hin : d.campPhase s ∈ [1, 2, 3, 4, 5, 6, 7] := hphases ▸ List.mem_range'_1.2 ⟨hfrom, Nat.lt_succ_of_le hto⟩
  have hcancels : (d.cPhase s == 2 && d.cKind s != 2) = true ↔ d.cPhase s = 2 ∧ d.cKind s ≠ 2 := by
    rw [Bool.and_eq_true, beq_iff_eq, bne_iff_ne]
  rw [he, Dev.bolCampAbort, Dev.withFields_ok hz hr, Dev.campOn_phase hrun hmode hs hslot hin]
  exact congrArg (fun x : Dev => x.okRes c) (ite_congr (propext hcancels) (fun _ => rfl) fun _ => rfl)

theorem Dev.bolCampFree_loaded {f g : Dev} (hphase : d.campPhase s = 1) (he : e = d.campLeave s)
    (hf : f = (e.bolWr (cOff s + mOff 0) (8 * e.cMembers s) 0).bolWr (cOff s + 0x1010000) (4124 * 512) 0)
    (hg : g = (f.bolWr (cOff s + 0x10000) (e.cLen s) 0).bolWr (cOff s + 0) 0x10000 0) : d.bolCampFree c
      = ({ g with bol := { g.bol with
          mpath := g.bol.mpath.filter (fun x => !(x.1 / 2 ^ 20 == s))
          heard := g.bol.heard.filter (fun x => !(x / 2 ^ 20 == s))
          sealedSrc := g.bol.sealedSrc.filter (fun x => x.1 / 65536 != s) } }.campShow s).okRes c := by
  have hin : d.campPhase s ∈ [1, 8, 9] := by rw [hphase]; decide
  subst hg hf he
  simp only [Dev.bolCampFree, Dev.withFields_ok hz hr, Dev.campOn_phase hrun hmode hs hslot hin]

end

end

end

end

/-- Settles O18: the descriptor is legal and Bolero serves it, so that the meaning is left with its one branch. -/
theorem boleroHostCommandsComplete : Obligations.BoleroHostCommandsComplete := by
  exact ⟨fun v d e q hwas he hon harea => congrArg (ran ⟨d, q⟩) (Dev.bolEnable_starts he hwas hon harea),
    fun v d e q hwas he hon harea => congrArg (ran ⟨d, q⟩) (Dev.bolEnable_outside he hwas hon harea),
    fun v d e q he hoff => congrArg (ran ⟨d, q⟩) (Dev.bolEnable_stops he hoff),
    fun c r d e q hz hr hi hflags hcargs hrun hmode hg hstate hfirst hquiet hroom => congrArg (ran ⟨d, q⟩)
      (Dev.bolCmd_queues hrun hmode hr hi hg hstate hz hflags hcargs hfirst hquiet hroom),
    fun b c p r d0 d e q hread hz hr hi hsome hmax hrun hmode hg hstate hl hpath => congrArg (ran ⟨d0, q⟩)
      ((hread _).trans (Dev.bolApdu_sends hrun hmode hr hi hg hstate hz hsome hmax hl hpath)),
    fun b c s d0 d e q hread hz hr hs hslot htariff hcmd hkind hgroup hsome hmax hrun hmode hphase hl he =>
      congrArg (ran ⟨d0, q⟩) ((hread _).trans (Dev.bolCampLoad_image hrun hmode hr hs hslot hz htariff hcmd hkind hgroup hsome
        hmax hphase hl he)),
    fun b c s i d0 d q hread hz hr hnamed hs hslot hwhole hrun hmode hphase hl hlist hi hnone => congrArg (ran ⟨d0, q⟩)
      ((hread _).trans (Dev.bolCampMembers_one hrun hmode hr hs hslot hz hnamed hwhole hphase hl hlist hi hnone)),
    fun c s d e q hz hr hs hslot hrun hmode hphase he hnone hkind => congrArg (ran ⟨d, q⟩)
      (Dev.bolCampStart_memberless hrun hmode hr hs hslot hz hphase he hnone hkind),
    fun c s d q hz hr hs hslot hrun hmode hphase => congrArg (ran ⟨d, q⟩)
      (Dev.bolCampActivate_armed hrun hmode hr hs hslot hz hphase),
    fun c s d q hz hr hs hslot hrun hmode hphase => congrArg (ran ⟨d, q⟩)
      (Dev.bolCampWait_loaded hrun hmode hr hs hslot hz hphase),
    fun c s n d q hz hr hs hslot hwhole hrun hmode hphase hn hsome => congrArg (ran ⟨d, q⟩)
      (Dev.bolCampReport_loaded hrun hmode hr hs hslot hz hwhole hphase hn hsome),
    fun c s d e q hz hr hs hslot hrun hmode hfrom hto he => congrArg (ran ⟨d, q⟩)
      (Dev.bolCampAbort_unended hrun hmode hr hs hslot hz hfrom hto he),
    fun c s d e f g q hz hr hs hslot hrun hmode hphase he hf hg => congrArg (ran ⟨d, q⟩)
      (Dev.bolCampFree_loaded hrun hmode hr hs hslot hz hphase he hf hg),
    fun c g b d e f q hz hr hgr hmax hrun hmode hnew hb hb0 he hf => congrArg (ran ⟨d, q⟩)
      (Dev.bolGroupSet_changed hrun hmode hr hz hgr hmax hnew hb hb0 he hf),
    fun c o d q hz hr hi hrun hmode ho => congrArg (ran ⟨d, q⟩) (Dev.bolCmdStatus_answers hrun hmode hr hi hz ho)⟩

end Sys2Proof.Machine
end

section
/-! PROOF. Bolero's own events: acknowledgements, notices, attempts and the token wait (R228, R229, R231–R233, R236; O19). -/

namespace Sys2Proof.Machine

section
variable {d e : Dev}

/-! ### Acknowledgements (R228, R229) -/

section
variable {x : AckReq} {t : List AckReq} (hsends : e.bolSends = true)
include hsends

section
variable (hpassed : d.bol.passed = x :: t) (he : e = { d with bol := { d.bol with passed := t } })
include hpassed he

theorem Dev.ackRequest_joins (hstorm : e.ackStorm x = false) (hroom : e.bol.ackq.length < 65536) :
    d.ackRequest = { e with bol := { e.bol with ackq := e.bol.ackq ++ [x] } } := by
  subst he
  simp only [Dev.ackRequest, hpassed, hsends, hstorm, Nat.not_le.2 hroom, decide_false, Bool.or_self, Bool.not_true,
    Bool.false_eq_true, if_false]

theorem Dev.ackRequest_dropped (hshed : e.ackStorm x = true ∨ 65536 ≤ e.bol.ackq.length) : d.ackRequest = e.ackDrop := by
  have hdrops : (e.ackStorm x || decide (65536 ≤ e.bol.ackq.length)) = true :=
    Bool.or_eq_true_iff.2 (hshed.imp_right decide_eq_true)
  subst he
  simp only [Dev.ackRequest, hpassed, hsends, hdrops, Bool.not_true, Bool.false_eq_true, if_false, if_true]

end

section
variable {p r : Nat} {f : Dev} (hqueue : d.bol.ackq = x :: t)
  (hdue : x.stamp + zeroAs (d.rd F.BOL_CTRL_ack_delay) 1 * msNs ≤ d.tick) (he : e = { d with bol := { d.bol with ackq := t } })
  (hstorm : e.ackStorm x = false) (hpath : attPath x.attach = some p)
include hqueue hdue he hstorm hpath

theorem Dev.ackDelayExpiry_uplink (htype : x.ftype ≠ 0) (hg : e.msrGet x.index = (f, some r)) : d.ackDelayExpiry
      = f.dlPut (mkDl p x.attach x.index .reply 2 0 false false
          (leBytes 4 (rg r R.frameCounter) ++ leBytes 8 (rg r R.replay))) := by
  subst he
  simp only [Dev.ackDelayExpiry, hqueue, Nat.not_lt.2 hdue, hsends, hstorm, hpath, htype, hg, Bool.not_true, Bool.false_eq_true,
    if_false]

theorem Dev.ackDelayExpiry_join {i : Nat} (htype : x.ftype = 0) (hfound : e.idtFind x.eui = some i)
    (hg : e.msrGet i = (f, some r))
    (hstate : rg r R.state = stActive ∨ rg r R.state = stAdrift ∨ rg r R.state = stQuarantined) : d.ackDelayExpiry
      = f.dlPut (mkDl p x.attach i .reply 0 1 false false (leBytes 3 i ++ leBytes 1 (rg r R.dwnVer) ++ zeros 4)) := by
  have hjoins : (decide (rg r R.state = stActive) || decide (rg r R.state = stAdrift) || decide (rg r R.state = stQuarantined))
      = true := by
    simp only [Bool.or_eq_true, decide_eq_true_eq, or_assoc, hstate]
  subst he
  simp only [Dev.ackDelayExpiry, hqueue, Nat.not_lt.2 hdue, hsends, hstorm, hpath, htype, hfound, hg, hjoins, Bool.not_true,
    Bool.false_eq_true, if_false, if_true]

end

end

/-! ### Notices (R228, R236) -/

section
variable {x : Notice} (hone : d.bol.notices = [x]) (he : e = { d with bol := { d.bol with notices := [x].erase x } })
include hone he

theorem Dev.ackNotice_ends {b : BCmd} {w res : Nat} (htype : x.ftype = 6) (hres : res = byteAt x.body 3)
    (hcmd : e.cmdOf x.index = some b) (hcseq : b.cseq = leAt x.body 0 2) (htries : b.tries ≠ 0)
    (hw : w = leAt x.body 0 2 + res * 2 ^ 16 + leAt x.body 4 4 * 2 ^ 32) : d.ackNotice
      = if res = 0 ∨ res = 1 ∨ res = 5 then (e.cmdAcked b).cmdEnd b 0 1 w b.fcnt else e.cmdEnd b bolRefused 2 w b.fcnt := by
  have hfind : [x].find? (fun y => y.ftype == 6) = some x := List.find?_cons_of_pos (beq_iff_eq.2 htype)
  have hhit : (some b).filter (fun b => b.cseq == leAt x.body 0 2 && b.tries != 0) = some b :=
    Option.filter_eq_some_iff.2 ⟨rfl, by rw [beq_iff_eq.2 hcseq, bne_iff_ne.2 htries, Bool.and_self]⟩
  subst he hres hw
  simp only [Dev.ackNotice, hone, hfind, hcmd, hhit, Bool.or_eq_true, decide_eq_true_eq, or_assoc]

theorem Dev.pushStatusNotice_member {c k r : Nat} (htype : x.ftype = 7) (hr : r = e.msrPeek x.index)
    (hc : c = rg r R.campaign) (hin : rg r R.inCampaign = 1) (hphase : e.cPhase c = 2) (htag : e.cCtag c = leAt x.body 0 4)
    (hk : (List.range (e.cMembers c)).find? (fun k => meIndex (e.mEnt c k) == x.index && meState (e.mEnt c k) != 5) = some k) :
    d.pushStatusNotice = e.pushMember x c k := by
  have hfind : [x].find? (fun y => y.ftype == 7) = some x := List.find?_cons_of_pos (beq_iff_eq.2 htype)
  subst he hc hr
  simp only [Dev.pushStatusNotice, hone, hfind, hin, hphase, htag, hk, decide_true, Bool.and_self, if_true]

end

/-! ### Attempts and the token wait (R231–R233) -/

theorem Dev.cmdAttemptTimeout_next {i : Nat} {b : BCmd} (hcmd : d.cmdOf i = some b) (hsends : d.bolSends = true)
    (htries : b.tries ≠ 0) (hwaits : d.bol.outq.any (fun f => f.index == i && f.why == .cmd b.cseq) = false) :
    d.cmdAttemptTimeout i = d.cmdNext i := by
  simp only [Dev.cmdAttemptTimeout, hcmd, hsends, htries, hwaits, decide_false, Bool.not_true, Bool.or_self, Bool.false_eq_true,
    if_false]

theorem Dev.tokenWaitExpiry_ends {id : Nat} {f : DlFrame} (hf : d.bol.outq.find? (fun f => f.id == id && f.act) = some f)
    (hfree : d.tokenFree = false) : d.tokenWaitExpiry id
      = ({ d with bol := { d.bol with outq := d.bol.outq.filter (fun x => x.id != id) } }).dlToken f := by
  simp only [Dev.tokenWaitExpiry, hf, hfree, Bool.false_eq_true, if_false]

end

/-- Settles O19: each clause is one case of the event's meaning, by what waits for it. -/
theorem boleroEngineCommandsComplete : Obligations.BoleroEngineCommandsComplete := by
  exact ⟨fun x t d e q hpassed he hsends hstorm hroom =>
      congrArg (ran ⟨d, q⟩) (Dev.ackRequest_joins hsends hpassed he hstorm hroom),
    fun x t d e q hpassed he hsends hshed => congrArg (ran ⟨d, q⟩) (Dev.ackRequest_dropped hsends hpassed he hshed),
    fun x t p r d e f q hqueue hdue he hsends hstorm hpath htype hg => congrArg (ran ⟨d, q⟩)
      (Dev.ackDelayExpiry_uplink hsends hqueue hdue he hstorm hpath htype hg),
    fun x t p i r d e f q hqueue hdue he hsends hstorm hpath htype hfound hg hstate => congrArg (ran ⟨d, q⟩)
      (Dev.ackDelayExpiry_join hsends hqueue hdue he hstorm hpath htype hfound hg hstate),
    fun x b w res d e q hone htype hres he hcmd hcseq htries hw => congrArg (ran ⟨d, q⟩)
      (Dev.ackNotice_ends hone he htype hres hcmd hcseq htries hw),
    fun x c k r d e q hone htype he hr hc hin hphase htag hk => congrArg (ran ⟨d, q⟩)
      (Dev.pushStatusNotice_member hone he htype hr hc hin hphase htag hk),
    fun i b d q hcmd hsends htries hwaits =>
      congrArg (ran ⟨d, q⟩) (Dev.cmdAttemptTimeout_next hcmd hsends htries hwaits),
    fun id f d q hf hfree => congrArg (ran ⟨d, q⟩) (Dev.tokenWaitExpiry_ends hf hfree)⟩

end Sys2Proof.Machine
end

section
/-! PROOF. Bolero's campaign paths: announcements, paced blocks, status windows and activation (R233, R236–R238, R240, R241, R243,
R244; O20). -/

namespace Sys2Proof.Machine

/-- A fold whose steps on the list's entries all leave the start as it is. -/
theorem foldl_eq_start {α β : Type} {f : β → α → β} {b : β} {l : List α} (h : ∀ a ∈ l, f b a = b) : l.foldl f b = b := by
  induction l with
  | nil => rfl
  | cons a t ih =>
    rw [List.foldl_cons, h a List.mem_cons_self]
    exact ih fun x hx => h x (List.mem_cons_of_mem a hx)

section
variable {d e : Dev} {c p : Nat}

section
variable (hlive : d.campLive c p = true)
include hlive

/-! ### Announcements (R237) -/

section
variable (hphase : d.pPhase c p = 2)
include hphase

theorem Dev.announceRepeat_repeats (hcount : d.pCount c p < 3) :
    d.announceRepeat c p = ((d.pPut c p 2 0 (d.pCount c p + 1) 0 0).pushAnnounce c p).groupKeysGo := by
  simp only [Dev.announceRepeat, hlive, hphase, hcount, bne_self_eq_false, Bool.not_true, Bool.or_self, Bool.false_eq_true,
    if_false, if_true]

theorem Dev.announceRepeat_ends (hcount : 3 ≤ d.pCount c p)
    (he : e = (d.onPath c p).foldl (fun (d : Dev) k =>
      if d.keyHeldBy (meIndex (d.mEnt c k)) (d.cGroup c) then d else d.mSet c k 5 4) d) :
    d.announceRepeat c p = (e.pPut c p 3 0 0 0 0).campShow c := by
  subst he
  simp only [Dev.announceRepeat, hlive, hphase, Nat.not_lt.2 hcount, bne_self_eq_false, Bool.not_true, Bool.or_self,
    Bool.false_eq_true, if_false]

end

/-! ### Paced blocks (R233, R240, R241) -/

section
variable (hheld : d.pathHeld c p = false)
include hheld

theorem Dev.campaignBlockPace_repair (hphase : d.pPhase c p = 5) : d.campaignBlockPace c p = d.pushRepair c p := by
  have hsource : ¬ 5 = 3 := by decide
  simp only [Dev.campaignBlockPace, hlive, hheld, hphase, hsource, Bool.not_true, Bool.or_self, Bool.false_eq_true, if_false,
    if_true]

theorem Dev.campaignBlockPace_activate (hphase : d.pPhase c p = 7) (hcount : d.pCount c p < 3) : d.campaignBlockPace c p
      = (d.pPut c p 7 (d.pRound c p) (d.pCount c p + 1) 0 (d.pLeft c p)).pushActivate c p := by
  have hsource : ¬ 7 = 3 := by decide
  have hrepair : ¬ 7 = 5 := by decide
  simp only [Dev.campaignBlockPace, hlive, hheld, hphase, hsource, hrepair, hcount, decide_true, Bool.and_self, Bool.not_true,
    Bool.or_self, Bool.false_eq_true, if_false, if_true]

end

/-! ### Windows (R236, R237, R243) -/

/-- Settled members are not counted silent, so that the window only forgets whom it heard. -/
theorem Dev.statusWindowEnd_settled (hphase : d.pPhase c p = 4) (hall : ∀ k ∈ d.onPath c p, settled (d.mEnt c k) = true)
    (he : e = { d with bol := { d.bol with heard := d.bol.heard.filter (fun x =>
      !((d.onPath c p).map (mKey c)).contains x) } }) : d.statusWindowEnd c p = (e.campArm c p).campShow c := by
  have hsettled : (e.onPath c p).all (fun k => settled (e.mEnt c k)) = true := by
    subst he
    exact List.all_eq_true.2 hall
  subst he
  simp only [Dev.statusWindowEnd, hlive, hphase, bne_self_eq_false, Bool.not_true, Bool.or_self, Bool.false_eq_true, if_false]
  rw [foldl_eq_start (b := d) (l := d.onPath c p) fun k hk => if_pos (by rw [hall k hk, Bool.true_or])]
  rw [if_pos hsettled]

theorem Dev.activationWindowEnd_over (hphase : d.pPhase c p = 7) : d.activationWindowEnd c p
      = ((d.pPut c p 7 (d.pRound c p) (d.pCount c p) (d.pPos c p) (setBits (d.pLeft c p) 1 1 1)).pathDone c p).campShow c := by
  simp only [Dev.activationWindowEnd, hlive, hphase, bne_self_eq_false, Bool.not_true, Bool.or_self, Bool.false_eq_true, if_false]

end

/-! ### The time of activation (R237, R244) -/

theorem Dev.activateAtReached_armed (hsends : d.bolSends = true) (hpaused : d.bolPaused = false) (hphase : d.campPhase c = 6)
    (hset : d.cActivateAt c ≠ 0) (hreached : sgn 32 (serSub 32 (d.cActivateAt c) d.dwnNow) ≤ 0) :
    d.activateAtReached c = d.campActivate c := by
  simp only [Dev.activateAtReached, hsends, hpaused, hphase, bne_iff_ne.2 hset, hreached, Bool.not_false, decide_true,
    Bool.and_self, if_true]

end

/-- Settles O20: each clause is the branch of the path's event that its phase and count choose. -/
theorem boleroCampaignPathsComplete : Obligations.BoleroCampaignPathsComplete := by
  exact ⟨fun s p d q hlive hphase hcount => congrArg (ran ⟨d, q⟩) (Dev.announceRepeat_repeats hlive hphase hcount),
    fun s p d e q hlive hphase hcount he => congrArg (ran ⟨d, q⟩) (Dev.announceRepeat_ends hlive hphase hcount he),
    fun s p d q hlive hheld hphase => congrArg (ran ⟨d, q⟩) (Dev.campaignBlockPace_repair hlive hheld hphase),
    fun s p d q hlive hheld hphase hcount =>
      congrArg (ran ⟨d, q⟩) (Dev.campaignBlockPace_activate hlive hheld hphase hcount),
    fun s p d e q hlive hphase hall he => congrArg (ran ⟨d, q⟩) (Dev.statusWindowEnd_settled hlive hphase hall he),
    fun s d q hsends hpaused hphase hset hreached =>
      congrArg (ran ⟨d, q⟩) (Dev.activateAtReached_armed hsends hpaused hphase hset hreached),
    fun s p d q hlive hphase => congrArg (ran ⟨d, q⟩) (Dev.activationWindowEnd_over hlive hphase)⟩

end Sys2Proof.Machine
end

section
/-! PROOF. The commands of the key ring on a store with nothing in progress (R253, R262, R263, R266–R268, R271, R274–R276;
O21). -/

namespace Sys2Proof.Machine

section
variable {d e : Dev} {c : Desc}

/-! ### Which commands are served at once (R275) -/

section
variable (hu : d.on F.PAV_STATUS_unlocking = false) (ho : d.pav.op = none)
include hu ho

/-- Outside Recovery an unlocked store with nothing in progress serves any command. -/
theorem Dev.keyArrive_unlocked (hm : d.mode ≠ .recovery) (hl : d.unlocked = true) (op : Nat) :
    d.keyArrive op c = d.keyNow op c := by
  simp only [Dev.keyArrive, beq_false_of_ne hm, hu, ho, hl, Option.isSome_none, Bool.false_and, Bool.or_self, Bool.not_true,
    Bool.false_eq_true, if_false]

/-- KEY_INFO, KEY_LIST, KEY_INIT and KEY_ZEROISE ask for no mode and no unlocked store. -/
theorem Dev.keyArrive_always {op : Nat} (hop : op = 6 ∨ op = 7 ∨ op = 10 ∨ op = 11) : d.keyArrive op c = d.keyNow op c := by
  have halways : (op == 6 || op == 7 || op == 10 || op == 11) = true := by
    simpa [or_assoc] using hop
  simp only [Dev.keyArrive, halways, hu, ho, Option.isSome_none, Bool.or_self, Bool.not_true, Bool.and_false,
    Bool.false_eq_true, if_false]

end

section
variable (hr : wReservedOk c.w = true)
include hr

/-! ### New keys: import and staging (R262, R263) -/

section
variable {r key : List Byte} {slot : Nat} (hlen : wLen c.w = 64) (hdata : r = c.data) (hsize : r.length = 64)
  (hmagic : leAt r 0 2 = 0x4B57) (hfields : importFieldsBad r = false) (hslot : d.freeSlot = some slot)
include hlen hdata hsize hmagic hfields hslot

theorem Dev.keyImportNow_starts {parent : Option KeyEnt} {entry cnt h k w : Nat}
    (hz : wUnusedZero c.w [(4, 20)] = true) (hparent : parent = d.keyOf (wHandle c.w)) (hk : k = byteAt r 3)
    (hgood : wHandle c.w = 0 ∨ (parent.map (fun e => e.bad)).getD true = false) (hroot : (k == 3) = (wHandle c.w == 0))
    (hkind : (parent.map (fun e => e.kind != 3)).getD false = false)
    (hpkid : leAt r 12 4 = (parent.map (fun e => e.kid)).getD 0)
    (hnew : d.pav.ram.find? (fun e => e.2.kind == k && e.2.kid == leAt r 4 4) = none)
    (hentry : (List.range 8192).find? (fun n => n != 0 && (mget? d.pav.ram n).isNone) = some entry)
    (hmax : (d.pav.ram.filter (fun e => e.2.kind == k)).length < kindMax k)
    (hkey : importKey r ((parent.map (fun e => e.key)).getD deviceImportKey) ((parent.map (fun e => e.kid)).getD 0) = some key)
    (hcnt : cnt = (if d.pav.issue % 65536 = 0 then d.pav.issue + 1 else d.pav.issue))
    (hh : h = cnt % 65536 * 65536 + entry)
    (hw : w = slotBody (kwWrap (d.pav.kek.getD []) key) h (wHandle c.w) (leAt r 4 4) (leAt r 8 2) k (byteAt r 10 % 2)) :
    d.keyImportNow c = d.opStart {
      cmd := c, work := .import,
      ent := { handle := h, parent := wHandle c.w, kid := leAt r 4 4, gen := leAt r 8 2, kind := k, slot := slot, key := key },
      acts := (.ctl ((cnt + 1) % 2 ^ 32) d.pav.check) :: progBody slot w ++ [.word slot 7 (commitWord w 1)] } := by
  have hchain : (wHandle c.w != 0 && (parent.map (fun e => e.bad)).getD true) = false := by
    rcases hgood with hroot | hgood
    · rw [hroot, bne_self_eq_false, Bool.false_and]
    · rw [hgood, Bool.and_false]
  subst hw hh hcnt hk hparent hdata
  simp only [Dev.keyImportNow, Dev.withFields_ok hz hr, hlen, hsize, hmagic, hfields, hchain, hroot, hkind, hpkid, hnew, hentry,
    hslot, hkey, Nat.not_le.2 hmax, bne_self_eq_false, Bool.or_self, Bool.false_eq_true, if_false]

/-- The staged key is kept only when it passes the known-answer check of the command. -/
theorem Dev.keyStageNow_starts {x : KeyEnt} {pkid w : Nat} (hz : wUnusedZero c.w [(4, 20), (24, 56)] = true)
    (hx : d.keyOf (wHandle c.w) = some x) (hshadow : x.shadow = none) (hkind : byteAt r 3 = x.kind) (hkid : leAt r 4 4 = x.kid)
    (hp : pkid = ((d.keyOf x.parent).map (fun p => p.kid)).getD 0) (hpkid : leAt r 12 4 = pkid)
    (hgen : leAt r 8 2 = (x.gen + 1) % 65536) (hmax : (d.pav.ram.filter (fun x => x.2.shadow.isSome)).length < 8)
    (hkey : importKey r (if x.parent = 0 then deviceImportKey else ((d.keyOf x.parent).map (fun p => p.key)).getD []) pkid
      = some key)
    (hw : w = slotBody (kwWrap (d.pav.kek.getD []) key) x.handle x.parent x.kid ((x.gen + 1) % 65536) x.kind (byteAt r 10 % 2)) :
    d.keyStageNow c = if cmac key (leBytes 16 (wArg c.w 24 16)) == leBytes 16 (wArg c.w 40 16)
      then d.opStart { cmd := c, work := .stage, ent := { x with shadow := some slot, newKey := key }, acts := progBody slot w }
      else d.opStart { cmd := c, work := .stageFail, ent := { x with shadow := some slot, newKey := key },
                       acts := progBody slot w ++ (eraseSlot slot).drop 1 } := by
  subst hw hp hdata
  simp only [Dev.keyStageNow, Dev.withFields_ok hz hr, hx, hshadow, hlen, hsize, hmagic, hfields, hkind, hkid, hpkid, hgen, hslot,
    hkey, Nat.not_le.2 hmax, Option.isSome_none, bne_self_eq_false, Bool.or_self, Bool.false_eq_true, if_false]

end

/-! ### A stored key's replacement and end (R263, R266), and what is told of it (R276) -/

section
variable {x : KeyEnt} (hz : wUnusedZero c.w [(4, 8)] = true)
include hz

section
variable (hx : d.keyOf (wHandle c.w) = some x)
include hx

theorem Dev.keyCommitNow_staged {sh : Nat} (hshadow : x.shadow = some sh) : d.keyCommitNow c = d.opStart {
    cmd := c, work := .commit, ent := x,
    acts := .word sh 7 (commitWord (tget d.pav.nvm sh % 2 ^ 448) ((byts (tget d.pav.nvm x.slot) 56 2 + 1) % 65536)) ::
      eraseSlot x.slot } := by
  simp only [Dev.keyCommitNow, Dev.withFields_ok hz hr, hx, hshadow]

theorem Dev.keyAbandonNow_staged {sh : Nat} (hshadow : x.shadow = some sh) :
    d.keyAbandonNow c = d.opStart { cmd := c, work := .abandon, ent := x, acts := (eraseSlot sh).drop 1 } := by
  simp only [Dev.keyAbandonNow, Dev.withFields_ok hz hr, hx, hshadow]

theorem Dev.keyDestroyNow_stored {kids : List KeyEnt} (hkids : kids = ((d.keyFamily x.handle).drop 1).filterMap d.keyOf) :
    d.keyDestroyNow c = d.opStart {
      cmd := c, work := .destroy, ent := x, killed := d.keyFamily x.handle,
      acts := [NvmAct.word x.slot 7 0] ++ kids.map (fun k => .word k.slot 7 0) ++ (eraseSlot x.slot).drop 1
        ++ kids.flatMap (fun k => (eraseSlot k.slot).drop 1)
        ++ (x :: kids).flatMap (fun k => (k.shadow.toList).flatMap (fun s => (eraseSlot s).drop 1)) } := by
  subst hkids
  simp only [Dev.keyDestroyNow, Dev.withFields_ok hz hr, hx]

end

theorem Dev.keyInfoNow_listed {s : Nat} (hx : d.keyCatalog.find? (fun e => e.1.handle == wHandle c.w) = some (x, s)) :
    d.keyInfoNow c = d.okRes c (x.kind + s * 2 ^ 8 + x.gen * 2 ^ 16 + x.kid * 2 ^ 32)
      (x.parent + (if x.key.isEmpty then 0 else keyCheck x.key) * 2 ^ 32) := by
  simp only [Dev.keyInfoNow, Dev.withFields_ok hz hr, hx]

end

/-- A list whose buffer holds all that is left tells the end, 8192, as the next entry. -/
theorem Dev.keyListNow_whole {all got : List (KeyEnt × Nat)} (hz : wUnusedZero c.w [(8, 20), (24, 28)] = true)
    (hlen : wLen c.w % 16 = 0) (hall : all = d.keyCatalog.filter (fun e => wArg c.w 24 4 ≤ e.1.handle % 8192))
    (hgot : got = all.take (wLen c.w / 16)) (hwhole : got.length = all.length) :
    d.keyListNow c = d.finish c {
      status := 0, result := got.length, result2 := 8192,
      data := [(wAddr c.w, got.flatMap (fun e => leBytes 4 e.1.handle ++ leBytes 4 e.1.parent ++ leBytes 4 e.1.kid
        ++ leBytes 2 e.1.gen ++ leBytes 1 e.1.kind ++ leBytes 1 e.2))] } := by
  subst hgot hall
  simp only [Dev.keyListNow, Dev.withFields_ok hz hr, hlen, hwhole, bne_self_eq_false, Bool.false_eq_true, if_false, if_true]

/-! ### District succession (R267) -/

section
variable {dd : KeyEnt} (hz : wUnusedZero c.w [(4, 8), (24, 28)] = true) (hdd : d.keyOf (wHandle c.w) = some dd)
  (hdkind : dd.kind = 4)
include hz hdd hdkind

theorem Dev.keySuccessorNow_sets {ee : KeyEnt} (hee : d.keyOf (wArg c.w 24 4) = some ee) (hekind : ee.kind = 4)
    (hset : wArg c.w 24 4 ≠ 0) (hother : wArg c.w 24 4 ≠ wHandle c.w)
    (hfirst : d.pav.succ.any (fun l => l.1 == wArg c.w 24 4) = false)
    (hmax : (d.pav.succ.filter (fun l => l.1 != wHandle c.w)).length < 4096)
    (he : e = { d with pav := { d.pav with
      succ := d.pav.succ.filter (fun l => l.1 != wHandle c.w) ++ [(wHandle c.w, wArg c.w 24 4)] } }) :
    d.keySuccessorNow c = (e.keyEvent 2 4 dd.gen dd.kid ee.kid).okRes c := by
  subst he
  simp only [Dev.keySuccessorNow, Dev.withFields_ok hz hr, hdd, hdkind, hee, hekind, hset, beq_false_of_ne hother, hfirst,
    Nat.not_le.2 hmax, Option.isNone_some, Option.map_some, Option.getD_some, bne_self_eq_false, decide_false, Bool.and_false,
    Bool.or_self, Bool.false_eq_true, if_false]

theorem Dev.keySuccessorNow_clears (hclear : wArg c.w 24 4 = 0)
    (he : e = { d with pav := { d.pav with succ := d.pav.succ.filter (fun l => l.1 != wHandle c.w) } }) :
    d.keySuccessorNow c = (e.keyEvent 3 4 dd.gen dd.kid 0).okRes c := by
  subst he
  simp only [Dev.keySuccessorNow, Dev.withFields_ok hz hr, hdd, hdkind, hclear, Option.isNone_some, Option.map_some,
    Option.getD_some, bne_self_eq_false, Bool.false_and, Bool.or_self, Bool.false_eq_true, if_false, if_true]

end

/-! ### The root wrap (R268) -/

theorem Dev.keyRootWrapNow_districts {x o : KeyEnt} {eui g : Nat} (hz : wUnusedZero c.w [(4, 20), (24, 38)] = true)
    (hlen : 48 ≤ wLen c.w) (hx : d.keyOf (wHandle c.w) = some x) (hold : d.keyOf (wArg c.w 32 4) = some o)
    (hxgood : x.bad = false) (hogood : o.bad = false) (hxkind : x.kind = 4) (hokind : o.kind = 4) (heui : eui = wArg c.w 24 8)
    (hg : g = wArg c.w 36 2) :
    d.keyRootWrapNow c = (d.bump F.PAV_DERIV_CNT_derivations 2).finish c {
      status := 0,
      data := [(wAddr c.w, leBytes 8 eui ++ leBytes 4 x.kid ++ leBytes 2 g ++ zeros 2
        ++ kwWrap (deriveUnder o 7 eui g) (deriveUnder x 0 eui 0) ++ zeros 8)] } := by
  subst heui hg
  simp only [Dev.keyRootWrapNow, Dev.withFields_ok hz hr, hx, hold, hxgood, hogood, hxkind, hokind, Nat.not_lt.2 hlen,
    bne_self_eq_false, Bool.or_self, Bool.false_eq_true, if_false]

/-! ### The store as a whole (R271, R274) -/

section
variable (hz : wUnusedZero c.w [(24, 28)] = true)
include hz

/-- An initialisation asks for a store that is zeroised or empty. -/
theorem Dev.keyInitNow_starts (hmagic : wArg c.w 24 4 = 0x1E179640)
    (hempty : d.on F.PAV_STATUS_zeroised = true ∨ d.keyCatalog = [])
    (he : e = d.drawn.tamperLog 0x11 (d.freeVal 8) 1 0) : d.keyInitNow c = e.opStart {
      cmd := c, work := .init,
      acts := (List.range 128).map NvmAct.page ++ [.ctlErase],
      ent := { handle := 0, parent := 0, kid := 0, gen := 0, kind := 0, slot := 0, key := [] } } := by
  have hfree : (!d.on F.PAV_STATUS_zeroised && !d.keyCatalog.isEmpty) = false := by
    rcases hempty with hzero | hempty
    · rw [hzero, Bool.not_true, Bool.false_and]
    · rw [hempty, List.isEmpty_nil, Bool.not_true, Bool.and_false]
  subst he
  simp only [Dev.keyInitNow, Dev.withFields_ok hz hr, hmagic, hfree, bne_self_eq_false, Bool.false_eq_true, if_false]

theorem Dev.keyZeroiseNow_confirmed (hmagic : wArg c.w 24 4 = 0x2E509640) : d.keyZeroiseNow c = d.zeroiseCmd.okRes c := by
  simp only [Dev.keyZeroiseNow, Dev.withFields_ok hz hr, hmagic, bne_self_eq_false, Bool.false_eq_true, if_false]

end

end

end

/-- Settles O21: each command is served at once, and its legal descriptor and the state of the store leave its meaning one
branch. -/
theorem keyRingCommandsComplete : Obligations.KeyRingCommandsComplete := by
  exact ⟨fun b c r key parent slot entry cnt h k w d0 d q hread hm hu ho hl hz hr hlen hdata hsize hmagic hfields hparent hk hgood
      hroot hkind hpkid hnew hentry hslot hmax hkey hcnt hh hw => congrArg (ran ⟨d0, q⟩) ((hread _).trans
      ((Dev.keyArrive_unlocked hu ho hm hl 1).trans (Dev.keyImportNow_starts hr hlen hdata hsize hmagic hfields hslot hz hparent
        hk hgood hroot hkind hpkid hnew hentry hmax hkey hcnt hh hw))),
    fun b c r key x slot pkid w d0 d q hread hm hu ho hl hz hr hx hshadow hlen hdata hsize hmagic hfields hkind hkid hp hpkid hgen
      hslot hmax hkey hw => congrArg (ran ⟨d0, q⟩) ((hread _).trans ((Dev.keyArrive_unlocked hu ho hm hl 2).trans
      (Dev.keyStageNow_starts hr hlen hdata hsize hmagic hfields hslot hz hx hshadow hkind hkid hp hpkid hgen hmax hkey hw))),
    fun c x sh d q hm hu ho hl hz hr hx hshadow => congrArg (ran ⟨d, q⟩)
      ((Dev.keyArrive_unlocked hu ho hm hl 3).trans (Dev.keyCommitNow_staged hr hz hx hshadow)),
    fun c x sh d q hm hu ho hl hz hr hx hshadow => congrArg (ran ⟨d, q⟩)
      ((Dev.keyArrive_unlocked hu ho hm hl 4).trans (Dev.keyAbandonNow_staged hr hz hx hshadow)),
    fun c x kids d q hm hu ho hl hz hr hx hkids => congrArg (ran ⟨d, q⟩)
      ((Dev.keyArrive_unlocked hu ho hm hl 5).trans (Dev.keyDestroyNow_stored hr hz hx hkids)),
    fun c x s d q hu ho hz hr hx => congrArg (ran ⟨d, q⟩)
      ((Dev.keyArrive_always hu ho (.inl rfl)).trans (Dev.keyInfoNow_listed hr hz hx)),
    fun c all got d q hu ho hz hr hlen hall hgot hwhole => congrArg (ran ⟨d, q⟩)
      ((Dev.keyArrive_always hu ho (.inr (.inl rfl))).trans (Dev.keyListNow_whole hr hz hlen hall hgot hwhole)),
    fun c dd ee d e q hm hu ho hl hz hr hdd hee hdkind hekind hset hother hfirst hmax he => congrArg (ran ⟨d, q⟩)
      ((Dev.keyArrive_unlocked hu ho hm hl 8).trans
        (Dev.keySuccessorNow_sets hr hz hdd hdkind hee hekind hset hother hfirst hmax he)),
    fun c dd d e q hm hu ho hl hz hr hdd hdkind hclear he => congrArg (ran ⟨d, q⟩)
      ((Dev.keyArrive_unlocked hu ho hm hl 8).trans (Dev.keySuccessorNow_clears hr hz hdd hdkind hclear he)),
    fun c x o eui g d q hm hu ho hl hz hr hlen hx hold hxgood hogood hxkind hokind heui hg => congrArg (ran ⟨d, q⟩)
      ((Dev.keyArrive_unlocked hu ho hm hl 9).trans
        (Dev.keyRootWrapNow_districts hr hz hlen hx hold hxgood hogood hxkind hokind heui hg)),
    fun c d e q hu ho hz hr hmagic hempty he => congrArg (fun (x : Dev) => ran ⟨d, q⟩ x.enginesReady.injectGoOn)
      ((Dev.keyArrive_always hu ho (.inr (.inr (.inl rfl)))).trans (Dev.keyInitNow_starts hr hz hmagic hempty he)),
    fun c d q hu ho hz hr hmagic => congrArg (fun (x : Dev) => ran ⟨d, q⟩ x.keyNext.enginesReady)
      ((Dev.keyArrive_always hu ho (.inr (.inr (.inr rfl)))).trans (Dev.keyZeroiseNow_confirmed hr hz hmagic))⟩

end Sys2Proof.Machine
end

section
/-! PROOF. Key requests, the unlock and the lock of the key store, the known-answer test, tamper events and the words of its NVM
(R257–R261, R263, R266, R271, R273, R275, R279; O22). -/

namespace Sys2Proof.Machine

section
variable {d e f g : Dev}

/-! ### Key requests (R257–R259) -/

theorem Dev.keyAnswer_key {r : KeyReq} {k : List Byte} {h : Nat}
    (hs : d.keyServe r.handle r.eui r.purpose r.gen r.advance = (e, .key k h)) :
    d.keyAnswer r = { e with pav := { e.pav with given := mput e.pav.given r.who { ok := true, key := k, handle := h } } } := by
  simp only [Dev.keyAnswer, hs]

theorem Dev.keyAnswer_fail {r : KeyReq} (hs : d.keyServe r.handle r.eui r.purpose r.gen r.advance = (e, .fail)) :
    d.keyAnswer r
      = { e with pav := { e.pav with given := mput e.pav.given r.who { ok := false, key := [], handle := r.handle } } } := by
  simp only [Dev.keyAnswer, hs]

theorem Dev.keyServe_missing {h : Nat} (hl : d.unlocked = true) (hnone : d.keyOf h = none) (eui purpose gen : Nat) (adv : Bool) :
    d.keyServe h eui purpose gen adv = (d.keyFail, .fail) := by
  simp only [Dev.keyServe, hl, hnone, Bool.not_true, Bool.false_eq_true, if_false]

/-! ### The unlock (R261, R275) -/

theorem Dev.pavUnlock_eq (d : Dev) : d.pavUnlock
    = if d.mode = .recovery then d.raise 289 else (d.setF F.PAV_CTRL_unlock).setF F.PAV_STATUS_unlocking := by
  simp only [Dev.pavUnlock, beq_iff_eq]

theorem Dev.reqsGo_unlocked (hl : f.unlocked = true) (hg : g = { f with pav := { f.pav with reqWait := [] } }) :
    f.reqsGo = f.pav.reqWait.foldl (fun d r => d.keyAnswer r) g := by
  subst hg
  simp only [Dev.reqsGo, hl, Bool.not_true, Bool.false_eq_true, if_false]

/-- A KEK whose check value is the store's opens it, unless the store is zeroised, its test failed or the mode is Recovery. -/
theorem Dev.pavUnlockDone_opens {k : List Byte} (hu : d.on F.PAV_STATUS_unlocking = true) (ho : d.pav.op = none)
    (hkek : d.pav.kek = some k) (hcheck : keyCheck k = d.pav.check)
    (he : e = (d.clrF F.PAV_STATUS_unlocking).clrF F.PAV_CTRL_unlock) (hzero : e.on F.PAV_STATUS_zeroised = false)
    (hkat : e.on F.PAV_STATUS_kat_fail = false) (hm : e.mode ≠ .recovery)
    (hf : f = ((e.clrF F.PAV_STATUS_nvm_bad).unlockStore).raise 289) : d.pavUnlockDone = f.reqsGo.keyNext := by
  have hpav : e.pav = d.pav := by
    rw [he, Dev.clrF_pav, Dev.clrF_pav]
  simp only [Dev.pavUnlockDone, ← he, hf, hu, ho, hpav, hkek, hcheck, hzero, hkat, beq_false_of_ne hm, Option.isSome_none,
    bne_self_eq_false, Bool.not_true, Bool.or_self, Bool.false_eq_true, if_false]

/-! ### Tamper events (R271–R273) -/

theorem Dev.opTamper_idle (ho : d.pav.op = none) (zero : Bool) : d.opTamper zero = d := by
  simp only [Dev.opTamper, ho, Option.filter_none]

section
variable {s x : Nat} {stays : Bool} (he : e = (d.wrBit F.PAV_TMP_STAT_seen s true).wrBit F.PAV_TMP_STAT_live s stays)
  (hcut : e.opCut = false) (hboot : e.mode ≠ .boot)
include he hcut hboot

/-- Outside Boot, with no operation to cut, a trip logs its sensor's class and then alerts or zeroises by it. -/
theorem Dev.tamperTrip_idle {cls a : Nat} (hc : d.sensorClass s = cls) (hon : cls ≠ 0) (ha : 1 + 2 * b2n (cls == 2) = a)
    (hf : f = e.tamperLog s cls a x) (ho : f.pav.op = none) :
    d.tamperTrip s x stays = (if cls = 1 then
        (if f.mode == .dormant then { f with sys := { f.sys with alertDue := true } } else f.raise 290)
      else f.zeroise 1).keyNext := by
  have hbusy : 4 * b2n false = 0 := rfl
  have hstop : 8 * b2n false = 0 := rfl
  simp only [Dev.tamperTrip, hc, hon, ← he, hcut, beq_false_of_ne hboot, Bool.false_and, hbusy, hstop, Nat.add_zero, ha, ← hf,
    Dev.opTamper_idle ho, Bool.false_eq_true, if_false]

theorem Dev.tamperTrip_alert (hc : d.sensorClass s = 1) (ho : (e.tamperLog s 1 1 x).pav.op = none)
    (hm : (e.tamperLog s 1 1 x).mode ≠ .dormant) :
    d.tamperTrip s x stays = ((e.tamperLog s 1 1 x).raise 290).keyNext := by
  have haction : 1 + 2 * b2n (1 == 2) = 1 := rfl
  have hpowered : ¬ ((e.tamperLog s 1 1 x).mode == .dormant) = true := by simpa using hm
  rw [Dev.tamperTrip_idle he hcut hboot hc Nat.one_ne_zero haction rfl ho, if_pos rfl, if_neg hpowered]

theorem Dev.tamperTrip_zeroise (hc : d.sensorClass s = 2) (ho : (e.tamperLog s 2 3 x).pav.op = none) :
    d.tamperTrip s x stays = ((e.tamperLog s 2 3 x).zeroise 1).keyNext := by
  have haction : 1 + 2 * b2n (2 == 2) = 3 := rfl
  rw [Dev.tamperTrip_idle he hcut hboot hc (Nat.succ_ne_zero 1) haction rfl ho, if_neg (by decide)]

end

/-- Arming commits the classes and does nothing more, as no sensor of class Zeroise is tripped. -/
theorem Dev.tamperArm_untripped (he : e = (d.setF F.PAV_TMP_CTRL_arm).commitRwl 0x98000)
    (hnone : (List.range 10).find? (fun s => bit (e.rd F.PAV_TMP_STAT_live) s && e.sensorClass s == 2) = none) :
    d.tamperArm = e := by
  simp only [Dev.tamperArm, ← he, hnone]

theorem Dev.zeroiseCmd_idle (hcut : d.opCut = false) (ho : (d.tamperLog 0x10 2 3 0).pav.op = none) :
    d.zeroiseCmd = (d.tamperLog 0x10 2 3 0).zeroise 2 := by
  have haction : 3 + 4 * b2n false = 3 := rfl
  simp only [Dev.zeroiseCmd, hcut, haction, Dev.opTamper_idle ho]

/-! ### The words of an import (R260, R262) -/

theorem Dev.opDone_import {o : KeyOp} (hwork : o.work = .import) (hl : d.unlocked = true) :
    d.opDone o = (d.putKey o.ent).opEnd o { status := 0, result := o.ent.handle, result2 := keyCheck o.ent.key } := by
  simp only [Dev.opDone, hwork, hl, if_true]

section
variable {o : KeyOp} {s w v : Nat} (ho : d.pav.op = some o) (hwork : o.work = .import) (he : e = d.slotWordPut s w v)
include ho hwork he

/-- An import reaches no commit or destroy point on its way. -/
theorem Dev.nvmProgramDone_importWord {t : List NvmAct} (hacts : o.acts = .word s w v :: t) : d.nvmProgramDone true
    = if t.isEmpty then (e.opDone { o with acts := t }).keyNext else e.opStart { o with acts := t } := by
  have hpoint : (KeyWork.import == .commit || KeyWork.import == .destroy) = false := rfl
  simp only [Dev.nvmProgramDone, ho, hwork, hacts, ← he, hpoint, Bool.not_true, Bool.not_false, Bool.and_false, Bool.or_false,
    Bool.false_eq_true, if_false, if_true]

theorem Dev.nvmProgramDone_importLast (hacts : o.acts = [.word s w v]) (hl : e.unlocked = true) (hf : f = e.putKey o.ent) :
    d.nvmProgramDone true = ((({ f with pav := { f.pav with op := none } }).pavShow).finish o.cmd
      { status := 0, result := o.ent.handle, result2 := keyCheck o.ent.key }).keyNext := by
  subst hf
  exact (Dev.nvmProgramDone_importWord ho hwork he hacts).trans
    (congrArg Dev.keyNext (Dev.opDone_import (o := { o with acts := [] }) hwork hl))

end

end

/-- Settles O22: each event's conditions choose one branch of its meaning. -/
theorem pavaneStoreEventsComplete : Obligations.PavaneStoreEventsComplete := by
  refine ⟨fun r who h eui p g adv d e k hd q hr hs => ?_, fun who h eui p g adv d e q hl hnone he => ?_,
    fun d q => congrArg (ran ⟨d, q⟩) d.pavUnlock_eq, fun d e f g k q hu ho hkek hcheck he hzero hkat hm hf hl hg => ?_,
    fun d q => rfl, fun d q => rfl, fun d q => ⟨rfl, rfl⟩, fun s x stays d e q hc he hcut hboot ho hm => ?_,
    fun s x stays d e q hc he hcut hboot ho => ?_, fun d e q he hnone => congrArg (ran ⟨d, q⟩) (Dev.tamperArm_untripped he hnone),
    fun d q hcut ho => ?_, fun d q => rfl, fun o s w v a t d e q ho hwork hacts he => ?_,
    fun o s w v d e f q ho hwork hacts he hl hf => ?_⟩
  · subst hr
    exact congrArg (ran ⟨d, q⟩) (Dev.keyAnswer_key hs)
  · subst he
    exact congrArg (ran ⟨d, q⟩) (Dev.keyAnswer_fail (Dev.keyServe_missing hl hnone _ _ _ _))
  · exact congrArg (fun (x : Dev) => ran ⟨d, q⟩ x.enginesReady.keyHeldRetry.injectGoOn)
      ((Dev.pavUnlockDone_opens hu ho hkek hcheck he hzero hkat hm hf).trans (by rw [Dev.reqsGo_unlocked hl hg]))
  · exact congrArg (fun (x : Dev) => ran ⟨d, q⟩ x.enginesReady) (Dev.tamperTrip_alert he hcut hboot hc ho hm)
  · exact congrArg (fun (x : Dev) => ran ⟨d, q⟩ x.enginesReady) (Dev.tamperTrip_zeroise he hcut hboot hc ho)
  · exact congrArg (fun (x : Dev) => ran ⟨d, q⟩ x.keyNext.enginesReady) (Dev.zeroiseCmd_idle hcut ho)
  · exact congrArg (fun (x : Dev) => ran ⟨d, q⟩ x.enginesReady.keyHeldRetry.injectGoOn)
      (Dev.nvmProgramDone_importWord ho hwork he hacts)
  · exact congrArg (fun (x : Dev) => ran ⟨d, q⟩ x.enginesReady.keyHeldRetry.injectGoOn)
      (Dev.nvmProgramDone_importLast ho hwork he hacts hl hf)

end Sys2Proof.Machine
end

section
/-! PROOF. The MPDUs a running PLC channel receives: the checks, segments, association, tone maps, SACK and beacons (R285, R286,
R290–R295, R298, R302; O23). -/

namespace Sys2Proof.Machine

section
variable {d e : Dev} {n : Nat} {m : PlcRx}

/-! ### The checks (R285) -/

theorem Dev.plcRx_unsound (hrun : d.plcRuns n = true) (hbad : plcOk m = false)
    (he : e = (d.bump (F.PLK_CNT_NOISE_impulses.at n) m.impulses.toNat).bump (F.PLK_CNT_SEG_seg_bad.at n)) (t : Nat)
    (k : Dev → PlcHdr → Dev) : d.plcRx n t m k = e := by
  simp only [Dev.plcRx, hrun, hbad, he, Bool.false_and, Bool.not_true, Bool.false_eq_true, if_false]

section
variable {h : PlcHdr} (hrun : d.plcRuns n = true) (hok : plcOk m = true) (hh : h = plcHdr m.bytes) (hdst : h.dst = 0)
include hrun hok hh hdst

/-- A sound MPDU of the command's type, addressed to the coordinator, reaches the meaning of its type. -/
theorem Dev.plcRx_taken {t : Nat} (ht : h.mtype = t) (k : Dev → PlcHdr → Dev) : d.plcRx n t m k = k (d.plcHeard n h m) h := by
  simp only [Dev.plcRx, hrun, hok, ← hh, hdst, ht, beq_self_eq_true, Bool.and_self, Bool.not_true, Bool.false_eq_true, if_false,
    if_true]

/-! ### Segments (R294, R295) -/

/-- A frame of one segment that fits the receive buffer begins and completes with it. -/
theorem Dev.plcDataSegment_completes {b : PlcBind} {c : Plc} {o p : PlcPart} {r : List PlcPart} {f : Dev} (ht : h.mtype = 1)
    (he : e = ((d.plcHeard n h m).bump (F.PLK_CNT_SEG_seg_ok.at n)).sample 0x0B n m.margin.toNat)
    (hbound : (e.plc n).bound h.src = some b) (hc : c = e.plc n)
    (hnew : c.passed.any (fun x => x.1 == h.src && x.2.1 == h.fid && x.2.2.1 == h.count) = false)
    (hnone : c.parts.find? (fun p => p.src == h.src && p.fid == h.fid) = none) (hseg : h.seg = 0)
    (ho : o = { src := h.src, fid := h.fid, count := h.count, segs := [], since := c.sf })
    (hr : r = c.parts.filter (fun x => x.src != h.src || x.fid != h.fid))
    (hroom : fifoLevelOf (plcFq n) (e.fifo (plcFq n)).items + ((e.setPlc n { c with parts := o :: r }).fifoParts (plcFq n))
      + (h.data.length + 63) / 64 ≤ 256)
    (hp : p = { src := h.src, fid := h.fid, count := h.count, segs := mput [] h.seg h.data, since := c.sf,
                quality := min 255 m.margin.toNat, stamp := m.stamp.toNat, zc := e.zcOffset n m.stamp.toNat h.zcDelay })
    (hf : f = (e.plcAck n h.src h.fid h.seg).modPlc n (fun (k : Plc) => { k with parts := r ++ [p] }))
    (hall : p.segs.length = p.count) : d.plcDataSegment n m = (f.plcComplete n p).plcRefresh n := by
  subst hf hp ho hr hc
  simp only [hseg] at hall
  rw [Dev.plcDataSegment, Dev.plcRx_taken hrun hok hh hdst ht]
  simp only [← he, hbound, hnew, hnone, hseg, hall, Nat.not_lt.2 hroom, Option.isNone_some, Option.filter_none, List.any_nil,
    Bool.false_and, Bool.false_eq_true, if_false, if_true]

/-! ### SACK and tone maps (R286, R298) -/

theorem Dev.plcSack_marks {isIt done : PlcJob → Bool} (ht : h.mtype = 3) (he : e = d.plcHeard n h m)
    (hisIt : isIt = (fun j => j.fid == some (byteAt h.data 0) && atShort j.frame.attach == h.src))
    (hdone : done = (fun j => isIt j && j.held % 2 ^ (e.plcSegs n j.frame).length == 2 ^ (e.plcSegs n j.frame).length - 1)) :
    d.plcSack n m = e.modPlc n (fun (c : Plc) =>
      { c with uni := (c.uni.map (fun j => if isIt j then { j with held := j.held ||| byteAt h.data 1 } else j)).filter (fun j => !done j)
               binds := mmod c.binds h.src (fun b => { b with noSack := 0 }) }) := by
  subst he hdone hisIt
  exact Dev.plcRx_taken hrun hok hh hdst ht _

theorem Dev.plcTmReq_bound {b b' : PlcBind} (ht : h.mtype = 7) (he : e = d.plcHeard n h m) (hm : e.mode ≠ .shadow)
    (hb : (e.plc n).bound h.src = some b)
    (hb' : b' = { b with ulMod := m.bestMod.toNat, ulMask := m.bestMask.toNat, ulAt := some (e.plc n).sf }) :
    d.plcTmReq n m = (e.modPlc n (fun (c : Plc) => { c with binds := mput c.binds h.src b' })).plcCtl n h.src 8
      (leBytes 1 m.bestMod.toNat ++ zeros 1 ++ leBytes 3 m.bestMask.toNat ++ leBytes 1 m.margin.toNat ++ zeros 2) := by
  rw [Dev.plcTmReq, Dev.plcRx_taken hrun hok hh hdst ht]
  simp only [← he, beq_false_of_ne hm, Dev.tmRsp, hb, hb', Bool.false_eq_true, if_false]

/-! ### Association (R290, R291, R293) -/

theorem Dev.plcAssocReq_bound {a : Nat} {b : PlcBind} (ht : h.mtype = 4) (he : e = d.plcHeard n h m) (hm : e.mode ≠ .shadow)
    (hb : (e.plc n).binds.find? (fun x => x.2.eui == leAt h.data 0 8 && x.2.freed.isNone) = some (a, b)) :
    d.plcAssocReq n m = e.assocRsp n 0xFFFE (leAt h.data 0 8) 0 a b.offset := by
  rw [Dev.plcAssocReq, Dev.plcRx_taken hrun hok hh hdst ht]
  simp only [← he, beq_false_of_ne hm, hb, Bool.false_eq_true, if_false]

/-- An EUI-64 without a record and without an address of its own to come back to takes the one `pickShort` names. -/
theorem Dev.plcAssocReq_new {a o : Nat} {f g : Dev} (ht : h.mtype = 4) (he : e = d.plcHeard n h m) (hm : e.mode ≠ .shadow)
    (hb : (e.plc n).binds.find? (fun x => x.2.eui == leAt h.data 0 8 && x.2.freed.isNone) = none)
    (hopen : e.on (F.PLK_CTRL_assoc_open.at n) = true) (hrec : e.recOf (leAt h.data 0 8) = none)
    (hback : (e.plc n).binds.find? (fun x => x.2.eui == leAt h.data 0 8 && x.2.freed.any (fun t => (e.plc n).sf < t + 1024)) = none)
    (hpick : pickShort 1 2048 1024 (e.plc n).sf none (fun a => (mget? (e.plc n).binds a).map (·.freed)) = some a)
    (ho : o = e.freeVal 10 % 2 ^ (min 10 (e.rd (F.PLK_GRANT_gp_log2.at n))))
    (hf : f = e.drawn.setPlc n { e.plc n with binds := mput (e.plc n).binds a { eui := leAt h.data 0 8, offset := o } })
    (hg : g = (f.plcCount n).plcEvent n F.PLK_EVENT_assoc)
    (helse : g.plk.any (fun x => x.1 != n && x.2.binds.any (fun b => b.2.eui == leAt h.data 0 8 && b.2.freed.isNone)) = false) :
    d.plcAssocReq n m = g.assocRsp n 0xFFFE (leAt h.data 0 8) 0 a o := by
  have hattach : (atKind (rg 0 R.attach) == 1) = false := by decide
  have hattachAlt : (atKind (rg 0 R.attachAlt) == 1) = false := by decide
  have hnamed : ((none : Option Nat) <|> none) = none := rfl
  simp only at hf
  rw [Dev.plcAssocReq, Dev.plcRx_taken hrun hok hh hdst ht]
  simp only [← he, beq_false_of_ne hm, hb, hopen, hrec, hback, hattach, hattachAlt, Option.map_none, Option.getD_none,
    Option.filter_none, hnamed, hpick, ← ho, ← hf, ← hg, helse, Bool.false_and, Bool.or_self, Bool.not_true, Bool.false_eq_true,
    if_false]

theorem Dev.plcAlive_bound {b : PlcBind} (ht : h.mtype = 6) (he : e = d.plcHeard n h m) (hb : (e.plc n).bound h.src = some b) :
    d.plcAlive n m = e := by
  rw [Dev.plcAlive, Dev.plcRx_taken hrun hok hh hdst ht]
  simp only [← he, hb, Option.isNone_some, Bool.false_and, Bool.false_eq_true, if_false]

theorem Dev.plcLeave_bound {b : PlcBind} (ht : h.mtype = 9) (he : e = d.plcHeard n h m) (hb : (e.plc n).bound h.src = some b) :
    d.plcLeave n m = e.plcUnbind n h.src := by
  rw [Dev.plcLeave, Dev.plcRx_taken hrun hok hh hdst ht]
  simp only [← he, hb, Option.isSome_some, if_true]

end

/-! ### Beacons of others (R302) -/

section
variable (hrun : d.plcRuns n = true)
include hrun

theorem Dev.plcRxBeacon_foreign (hm : d.mode ≠ .shadow) (hpartner : (d.plc n).partner = false) (s : Nat) : d.plcRxBeacon n s
    = ((d.setF (F.PLK_STATUS_foreign_bcn.at n)).plcEvent n F.PLK_EVENT_foreign_bcn).modPlc n
        (fun (c : Plc) => { c with alien := true }) := by
  simp only [Dev.plcRxBeacon, hrun, beq_false_of_ne hm, hpartner, Bool.false_and, Bool.not_true, Bool.false_eq_true, if_false]

theorem Dev.plcRxBeacon_shadow (hm : d.mode = .shadow) (s : Nat) : d.plcRxBeacon n s
    = (d.wr (F.PLK_SFN_sfn.at n) s).modPlc n (fun (c : Plc) => { c with fresh := false }) := by
  simp only [Dev.plcRxBeacon, hrun, hm, beq_self_eq_true, Bool.not_true, Bool.false_eq_true, if_false, if_true]

end

end

/-- Settles O23: an MPDU that fails the checks is counted whatever its type; one that meets them reaches its type's meaning, of
which the conditions of its clause choose one branch. -/
theorem plcReceptionCommandsComplete : Obligations.PlcReceptionCommandsComplete := by
  refine ⟨fun n m h b c o p r d e f q hrun hok hh hdst ht he hb hc hnew hnone hseg hcount ho hr hroom hp hf hall => ?_,
    fun n m d e q hrun hbad he => ?_, fun n m h isIt done d e q hrun hok hh hdst ht he hisIt hdone => ?_,
    fun n m h a b d e q hrun hok hh hdst ht he hm hb => ?_,
    fun n m h a o d e f g q hrun hok hh hdst ht he hm hb hopen hrec hback hpick ho hf hg helse => ?_,
    fun n m h b d e q hrun hok hh hdst ht he hb => ?_, fun n m h b b' d e q hrun hok hh hdst ht he hm hb hb' => ?_,
    fun n m h d e q hrun hok hh hdst ht he => ?_, fun n m h b d e q hrun hok hh hdst ht he hb => ?_,
    fun n s d q hrun hm hpartner => congrArg (ran ⟨d, q⟩) (Dev.plcRxBeacon_foreign hrun hm hpartner _),
    fun n s d q hrun hm => congrArg (ran ⟨d, q⟩) (Dev.plcRxBeacon_shadow hrun hm _)⟩
  · exact congrArg (ran ⟨d, q⟩)
      (Dev.plcDataSegment_completes hrun hok hh hdst ht he hb hc hnew hnone hseg ho hr hroom hp hf hall)
  · have hdrop (t : Nat) (k : Dev → PlcHdr → Dev) : ran ⟨d, q⟩ (d.plcRx n.val t m k) = .next ⟨e, q⟩ :=
      congrArg (ran ⟨d, q⟩) (Dev.plcRx_unsound hrun hbad he t k)
    exact ⟨hdrop 1 _, hdrop 3 _, hdrop 4 _, hdrop 6 _, hdrop 7 _, hdrop 8 _, hdrop 9 _⟩
  · exact congrArg (ran ⟨d, q⟩) (Dev.plcSack_marks hrun hok hh hdst ht he hisIt hdone)
  · exact congrArg (ran ⟨d, q⟩) (Dev.plcAssocReq_bound hrun hok hh hdst ht he hm hb)
  · exact congrArg (ran ⟨d, q⟩)
      (Dev.plcAssocReq_new hrun hok hh hdst ht he hm hb hopen hrec hback hpick ho hf hg helse)
  · exact congrArg (ran ⟨d, q⟩) (Dev.plcAlive_bound hrun hok hh hdst ht he hb)
  · exact congrArg (ran ⟨d, q⟩) (Dev.plcTmReq_bound hrun hok hh hdst ht he hm hb hb')
  · subst he
    exact congrArg (ran ⟨d, q⟩) (Dev.plcRx_taken hrun hok hh hdst ht _)
  · exact congrArg (ran ⟨d, q⟩) (Dev.plcLeave_bound hrun hok hh hdst ht he hb)

end Sys2Proof.Machine
end

section
/-! PROOF. A PLC channel's own events: superframes, expiries, zero crossings, downlink frames, listening, the association view and
faults (R282, R283, R285, R287, R292–R294, R298, R300, R302, R303, R305; O24). -/

namespace Sys2Proof.Machine

section
variable {d e f : Dev} {n : Nat}

/-! ### Superframes, expiries and grants (R283, R293, R294) -/

theorem Dev.plcSuperframeStart_sends {sfn : Nat} {b : List Byte} {x : DlPlan} {y : Dev} (hrun : d.plcRuns n = true)
    (he : e = d.modPlc n (fun (c : Plc) => { c with
      sf := c.sf + 1
      passed := c.passed.filter (fun x => c.sf < x.2.2.2 + zeroAs (d.rd (F.PLK_GRANT_reasm_sf.at n)) 1) }))
    (hm : e.mode ≠ .shadow) (hsends : e.plcSends n = true)
    (hsfn : sfn = (if (e.plc n).fresh then e.rd (F.PLK_SFN_sfn.at n) else (e.rd (F.PLK_SFN_sfn.at n) + 1) % 65536))
    (hf : f = (e.wr (F.PLK_SFN_sfn.at n) sfn).modPlc n (fun (c : Plc) => { c with fresh := false }))
    (hx : x = f.plcDownlink n sfn) (hb : x.d.plcBeacon n sfn x.sacks = (y, b)) : d.plcSuperframeStart n
      = y.emits (.plc n (y.rd (F.PLK_CTRL_beacon_mod.at n)) (y.plcMask n) b :: x.out) := by
  simp only [Dev.plcSuperframeStart, hrun, ← he, beq_false_of_ne hm, hsends, ← hsfn, ← hf, ← hx, hb, Bool.not_true,
    Bool.false_eq_true, if_false]

theorem Dev.plcReassemblyExpiry_discards {src fid : Nat} {c : Plc} {p : PlcPart} (hc : c = d.plc n)
    (hp : c.parts.find? (fun p => p.src == src && p.fid == fid) = some p)
    (hold : p.since + zeroAs (d.rd (F.PLK_GRANT_reasm_sf.at n)) 1 ≤ c.sf)
    (he : e = d.setPlc n { c with parts := c.parts.filter (fun x => x.src != src || x.fid != fid) }) :
    d.plcReassemblyExpiry n src fid = (e.bump (F.PLK_CNT_NOISE_reasm_expired.at n)).plcRefresh n := by
  subst he
  simp only [Dev.plcReassemblyExpiry, ← hc, hp, Nat.not_lt.2 hold, if_false]

/-- A grant missed below miss_lost, or without such a limit, is only counted. -/
theorem Dev.plcStandingGrantMiss_counts {a : Nat} {b : PlcBind} (hb : (d.plc n).bound a = some b) (hsends : d.plcSends n = true)
    (he : e = d.bump (F.PLK_CNT_TIMING_missed_grants.at n))
    (hf : f = e.modPlc n (fun (c : Plc) => { c with binds := mput c.binds a { b with misses := b.misses + 1 } }))
    (hlim : f.rd (F.PLK_GRANT_miss_lost.at n) = 0 ∨ b.misses + 1 < f.rd (F.PLK_GRANT_miss_lost.at n)) :
    d.plcStandingGrantMiss n a = f := by
  have hfew := Bool.or_eq_true_iff.2 (hlim.imp decide_eq_true decide_eq_true)
  simp only [Dev.plcStandingGrantMiss, hb, hsends, ← he, ← hf, hfew, Bool.not_true, Bool.false_eq_true, if_false, if_true]

/-! ### Zero crossings (R282) -/

theorem Dev.plcZcEdge_chosen {fall ok : Bool} {run : Nat} {c : Plc} (hedge : d.on (F.PLK_CTRL_zc_edge.at n) = fall)
    (hc : c = d.plc n)
    (hok : ok = (c.zcLast.map (fun t => decide (d.rd (F.PLK_ZC_per_min.at n) * 1000 ≤ d.tick - t
      ∧ d.tick - t ≤ d.rd (F.PLK_ZC_per_max.at n) * 1000))).getD false) (hrun : run = (if ok then min 8 (c.zcRun + 1) else 0))
    (he : e = d.setPlc n { c with
      zcLast := some d.tick, zcRun := run,
      zcCaps := (if c.zcCaps.length = 16 then c.zcCaps.drop 1 else c.zcCaps) ++ [(d.tick, ok)],
      zcGone := satAdd 0xFFFF c.zcGone (b2n (c.zcCaps.length = 16)) }) :
    d.plcZcEdge n fall = if e.on (F.PLK_STATUS_zc_ok.at n) && run != 8
      then (e.flag (F.PLK_STATUS_zc_ok.at n) (run == 8)).plcEvent n F.PLK_EVENT_zc_lost
      else e.flag (F.PLK_STATUS_zc_ok.at n) (run == 8) := by
  simp only [Bool.decide_and] at hok
  subst he
  simp only [Dev.plcZcEdge, hedge, ← hc, ← hok, ← hrun, bne_self_eq_false, Bool.false_eq_true, if_false]

/-! ### Downlink frames (R300) -/

theorem Dev.plcDlRelease_joins {g : DlFrame} {c : Plc} (hrun : d.plcRuns n = true) (hm : d.mode ≠ .shadow) (hc : c = d.plc n)
    (htake : d.dlTake n (fun f => if f.dest = 2 then c.bcast.length < 16 else c.uni.length < 64) = (e, some g)) :
    d.plcDlRelease n = if g.dest = 2 then e.modPlc n (fun (c : Plc) => { c with bcast := c.bcast ++ [{ frame := g }] })
      else if (e.plcDest n g).isNone then e.dlReturned g
      else e.modPlc n (fun (c : Plc) => { c with uni := c.uni ++ [{ frame := g }] }) := by
  simp only [Dev.plcDlRelease, hrun, ← hc, beq_false_of_ne hm, htake, Bool.not_true, Bool.or_self, Bool.false_eq_true, if_false]

/-- A frame of which the meter holds a segment does not count as one without a SACK. -/
theorem Dev.plcDlRetryExpiry_returns {id : Nat} {j : PlcJob} (hj : (d.plc n).uni.find? (fun j => j.frame.id == id) = some j)
    (htries : d.rd (F.PLK_GRANT_dl_retry.at n) ≤ j.tries) (hheld : j.held ≠ 0)
    (he : e = d.modPlc n (fun (c : Plc) => { c with uni := c.uni.filter (fun x => x.frame.id != id) })) :
    d.plcDlRetryExpiry n id = e.plcReturn n j := by
  simp only [Dev.plcDlRetryExpiry, hj, Nat.not_lt.2 htries, hheld, ← he, if_false]

/-! ### Enable, listening and beaconing (R283, R302) -/

/-- The write that sets enable, with a slot layout that fits the superframe, begins the numbering at 0 and the listen. -/
theorem Dev.plcEnable_sound {v : Nat} (hoff : d.on (F.PLK_CTRL_enable.at n) = false)
    (he : e = d.regWrite32 (0xA0000 + 0x1000 * n) v) (hon : e.on (F.PLK_CTRL_enable.at n) = true)
    (hslots : e.rd (F.PLK_SF_bp_slots.at n) + e.rd (F.PLK_SF_dl_slots.at n) + e.rd (F.PLK_SF_cont_slots.at n) ≤ 62)
    (hbeacon : e.rd (F.PLK_SF_bp_slots.at n) ≠ 0) (hslot : 40 ≤ e.rd (F.PLK_SF_slot_q.at n))
    (hf : f = (e.commitRwl (0xA0000 + 0x1000 * n)).setF (F.PLK_STATUS_link_up.at n)) (hm : f.mode ≠ .shadow) :
    d.plcEnable n v = ((f.wr (F.PLK_SFN_sfn.at n) 0).modPlc n (fun (c : Plc) => { c with fresh := true })).plcListen n := by
  simp only [Dev.plcEnable, hoff, ← he, hon, Nat.not_lt.2 hslots, hbeacon, Nat.not_lt.2 hslot, ← hf, beq_false_of_ne hm,
    decide_false, Bool.or_self, Bool.not_true, Bool.false_eq_true, if_false]

theorem Dev.plcListenEnd_listening (hrun : d.plcRuns n = true) (hlisten : d.on (F.PLK_STATUS_listening.at n) = true)
    (hm : d.mode ≠ .shadow)
    (he : e = (d.clrF (F.PLK_STATUS_listening.at n)).modPlc n (fun (c : Plc) => { c with partner := false })) :
    d.plcListenEnd n = if (e.plc n).alien then e else e.setF (F.PLK_STATUS_beaconing.at n) := by
  simp only [Dev.plcListenEnd, hrun, hlisten, beq_false_of_ne hm, ← he, Bool.not_true, Bool.or_self, Bool.false_eq_true,
    if_false]

theorem Dev.plcBeaconForce_running (he : e = d.setF (F.PLK_CTRL_beacon_force.at n)) (hrun : e.plcRuns n = true)
    (hm : e.mode ≠ .shadow) : d.plcBeaconForce n
      = ((e.clrF (F.PLK_STATUS_listening.at n)).setF (F.PLK_STATUS_beaconing.at n)).clrF (F.PLK_CTRL_beacon_force.at n) := by
  simp only [Dev.plcBeaconForce, ← he, hrun, bne_iff_ne.2 hm, Bool.and_self, if_true]

/-! ### The association view (R305) -/

theorem Dev.plcAtSelWrite_bound {v : Nat} {b : PlcBind} (hb : mget? (d.plc n).binds (bits v 0 12) = some b)
    (hheld : b.freed = none) : d.plcAtSelWrite n v
      = ((((((d.wr (F.PLK_AT_SEL_addr.at n) (bits v 0 12)).setF (F.PLK_AT_SEL_valid.at n)).wr (F.PLK_AT_EUI_LO_eui.at n)
          b.eui).wr (F.PLK_AT_INFO_state.at n) 1).wr (F.PLK_AT_INFO_misses.at n) (min b.misses 15)).wr
          (F.PLK_AT_INFO_ul_mod.at n) b.ulMod).wr (F.PLK_AT_INFO_offset.at n) b.offset := by
  simp only [Dev.plcAtSelWrite, hb, hheld]

/-! ### Faults (R303) -/

/-- A transient fault below the retirement threshold, or without one, only joins its window. -/
theorem Dev.plcTransientFault_counts {fs : List Nat}
    (hfs : fs = ((d.plc n).faults.filter (fun t => d.tick < t + zeroAs (d.rd (F.PLK_ERR_CFG_window.at n)) 1 * sNs)) ++ [d.tick])
    (he : e = d.modPlc n (fun (c : Plc) => { c with faults := fs }))
    (hf : f = (e.plcEvent n F.PLK_EVENT_fault).trouble 0x27 1 4 1 n fs.length)
    (hthr : f.rd (F.PLK_ERR_CFG_retire_thr.at n) = 0 ∨ fs.length < f.rd (F.PLK_ERR_CFG_retire_thr.at n)) :
    d.plcTransientFault n = f := by
  have hfew : ¬ (f.rd (F.PLK_ERR_CFG_retire_thr.at n) ≠ 0 ∧ f.rd (F.PLK_ERR_CFG_retire_thr.at n) ≤ fs.length) := by omega
  simp only [Dev.plcTransientFault, ← hfs, ← he, ← hf, Bool.and_eq_true, bne_iff_ne, decide_eq_true_eq, hfew, if_false]

theorem Dev.plcPermanentFault_retires {cause : Nat} (he : e = (if cause = 2 then d.clrF (F.PLK_STATUS_link_up.at n) else d)) :
    d.plcPermanentFault n cause = (e.plcEvent n F.PLK_EVENT_fault).plcRetire n cause := by
  simp only [Dev.plcPermanentFault, ← he]

end

/-- Settles O24: each event's conditions choose one branch of its meaning. -/
theorem plcChannelEventsComplete : Obligations.PlcChannelEventsComplete := by
  exact ⟨fun n sfn b x d e f y q hrun he hm hsends hsfn hf hx hb =>
      congrArg (ran ⟨d, q⟩) (Dev.plcSuperframeStart_sends hrun he hm hsends hsfn hf hx hb),
    fun n src fid c p d e q hc hp hold he => congrArg (ran ⟨d, q⟩) (Dev.plcReassemblyExpiry_discards hc hp hold he),
    fun n a b d e f q hb hsends he hf hlim => congrArg (ran ⟨d, q⟩) (Dev.plcStandingGrantMiss_counts hb hsends he hf hlim),
    fun n fall ok run c d e q hedge hc hok hrun he => congrArg (ran ⟨d, q⟩) (Dev.plcZcEdge_chosen hedge hc hok hrun he),
    fun n g c d e q hrun hm hc htake => congrArg (ran ⟨d, q⟩) (Dev.plcDlRelease_joins hrun hm hc htake),
    fun n id j d e q hj htries hheld he => congrArg (ran ⟨d, q⟩) (Dev.plcDlRetryExpiry_returns hj htries hheld he),
    fun n v d e f q hoff he hon hslots hbeacon hslot hf hm =>
      congrArg (ran ⟨d, q⟩) (Dev.plcEnable_sound hoff he hon hslots hbeacon hslot hf hm),
    fun n d e q hrun hlisten hm he => congrArg (ran ⟨d, q⟩) (Dev.plcListenEnd_listening hrun hlisten hm he),
    fun n d e q he hrun hm => congrArg (ran ⟨d, q⟩) (Dev.plcBeaconForce_running he hrun hm),
    fun n v b d q hb hheld => congrArg (ran ⟨d, q⟩) (Dev.plcAtSelWrite_bound hb hheld),
    fun n fs d e f q hfs he hf hthr => congrArg (ran ⟨d, q⟩) (Dev.plcTransientFault_counts hfs he hf hthr),
    fun n cause d e q he => congrArg (ran ⟨d, q⟩) (Dev.plcPermanentFault_retires he)⟩

end Sys2Proof.Machine
end

section
/-! PROOF. The PSDUs a running radio channel receives: the checks, DATA, MACK, association, routes, KEEP, LEAVE, connection requests
and beacons (R310, R312, R315, R317, R320, R321, R323, R326, R330, R333, R338; O25). -/

namespace Sys2Proof.Machine

/-! ### The checks (R310–R312) -/

theorem Dev.mzkRx_malformed {d : Dev} {n : Nat} {m : MzkRx} (hrun : d.mzkRuns n = true)
    (hnone : radHdr (d.mzkSched n) m.bytes = none) (t : Nat) (modes : Bool → Bool) (k : Dev → RadHdr → Dev) :
    d.mzkRx n t modes m k = d.bump (F.MZK_CNT_RX_rx_bad.at n) := by
  simp only [Dev.mzkRx, hrun, hnone, Bool.not_true, Bool.false_eq_true, if_false]

theorem Dev.mzkRx_otherPan {d : Dev} {n : Nat} {m : MzkRx} {h : RadHdr} (hrun : d.mzkRuns n = true)
    (hh : radHdr (d.mzkSched n) m.bytes = some h) (hpan : h.pan ≠ d.mzkPan n) (t : Nat) (modes : Bool → Bool)
    (k : Dev → RadHdr → Dev) : d.mzkRx n t modes m k = d.bump (F.MZK_CNT_RX_rx_bad.at n) := by
  simp only [Dev.mzkRx, hrun, hh, bne_iff_ne.2 hpan, Bool.true_or, Bool.not_true, Bool.false_eq_true, if_false, if_true]

/-- A running channel receives a PSDU that meets every check: the form of its mode, its PAN, a type, the device's address, the
FCS and the form of the type. -/
structure Dev.MzkHears (d : Dev) (n t : Nat) (sched : Bool) (m : MzkRx) (h : RadHdr) : Prop where
  runs : d.mzkRuns n = true
  mode : d.mzkSched n = sched
  parts : radHdr sched m.bytes = some h
  pan : h.pan = d.mzkPan n
  mtype : h.mtype = t
  dst : h.dst = 0
  final : h.final = 0
  fcs : fcsOk m.bytes = true
  form : h.formOk = true

section
variable {d e f : Dev} {n t : Nat} {s : Bool} {m : MzkRx} {h : RadHdr}

theorem Dev.MzkHears.rx (hx : d.MzkHears n t s m h) {modes : Bool → Bool} (hmodes : modes s = true) (k : Dev → RadHdr → Dev) :
    d.mzkRx n t modes m k = k d h := by
  simp only [Dev.mzkRx, hx.runs, hx.mode, hx.parts, hx.pan, hx.mtype, hx.dst, hx.final, hx.fcs, hx.form, hmodes,
    bne_self_eq_false, Bool.or_self, Bool.not_true, Bool.false_eq_true, if_false, if_true]

/-! ### DATA, KEEP and LEAVE (R312, R317, R321) -/

section
variable {b : RadBind} {pre : List Byte}

theorem Dev.mzkRxData_provisional (hx : d.MzkHears n 1 false m h) (hb : d.mzkWho n h.orig = some b) (hown : b.own.isSome = true)
    (hlevel : h.level = 0) (htype : (parseFrame h.body).ftype = 0)
    (hpre : pre = mkPrefix m.stamp.toNat (d.mzkAttach n h.orig) 0x7FFFFFFF h.body.length (min h.pathq (rxQuality m)) 0 0 0)
    (hroom : d.fifoRoom (mzkFq n) 128 (pre ++ h.body) = true) (he : e = d.mzkHeard n h h.orig m.rssi)
    (hsched : e.mzkSched n = false) :
    d.mzkRxData n m = (e.fifoPush (mzkFq n) 128 (pre ++ h.body)).cellPump n := by
  simp only [Dev.mzkRxData, hx.rx, hb, hown, hlevel, htype, ← hpre, hroom, ← he, hsched, Bool.true_or, Bool.not_true,
    Bool.and_self, decide_true, Bool.false_eq_true, if_false, if_true]

theorem Dev.mzkRxData_secured {frame : List Byte} {acc : Nat → Dev → Dev} (hx : d.MzkHears n 1 false m h)
    (hb : d.mzkWho n h.orig = some b) (hown : b.own = none)
    (hprov : ((d.recOf b.eui).map (fun i => lnkProv (d.lnkOf i))).getD true = false)
    (hsecure : d.mzkSecure n 1 h b = (e, some (frame, acc)))
    (hpre : pre = mkPrefix m.stamp.toNat (e.mzkAttach n h.orig) 0x7FFFFFFF frame.length (min h.pathq (rxQuality m)) 0 0 0)
    (hroom : e.fifoRoom (mzkFq n) 128 (pre ++ frame) = true) (hf : f = (acc (rxQuality m) e).mzkHeard n h h.orig m.rssi)
    (hsched : f.mzkSched n = false) :
    d.mzkRxData n m = (f.fifoPush (mzkFq n) 128 (pre ++ frame)).cellPump n := by
  simp only [Dev.mzkRxData, hx.rx, hb, hown, hprov, hsecure, ← hpre, hroom, ← hf, hsched, Option.isSome_none, Bool.or_self,
    Bool.not_true, Bool.false_eq_true, if_false, if_true]

section
variable {body : List Byte} {acc : Nat → Dev → Dev} (hb : d.mzkWho n h.orig = some b)
include hb

theorem Dev.mzkRxKeep_accepted (hx : d.MzkHears n 8 false m h) (hsecure : d.mzkSecure n 1 h b = (e, some (body, acc)))
    (hf : f = (acc (rxQuality m) e).mzkHeard n h h.orig m.rssi) (hsched : f.mzkSched n = false) :
    d.mzkRxKeep n m = f.cellPump n := by
  simp only [Dev.mzkRxKeep, hx.rx, hb, hsecure, ← hf, hsched, Bool.false_eq_true, if_false]

theorem Dev.mzkRxLeave_accepted (hx : d.MzkHears n 9 false m h) (hsecure : d.mzkSecure n 5 h b = (e, some (body, acc)))
    (hf : f = (acc (rxQuality m) e).mzkHeard n h h.orig m.rssi) :
    d.mzkRxLeave n m = (f.mzkUnbind n h.orig).cellPump' n := by
  simp only [Dev.mzkRxLeave, hx.rx, hb, hsecure, ← hf]

end

/-! ### MACK and ROUTE_ACK (R320, R323) -/

theorem Dev.mzkRxMack_ends {x : RadTx} {l : List RadTx} (hx : d.MzkHears n 3 false m h)
    (he : e = (d.bump (F.MZK_CNT_RX_frames_ok.at n)).sample 0x0C n (uns 64 m.rssi)) (hq : (e.rad n).txq = x :: l)
    (hfly : (e.rad n).flying = true) (hseq : x.seq = byteAt h.body 0) :
    d.mzkRxMack n m = (e.cellDrop n x false).cellPump n := by
  have hmode : (!false) = true := rfl
  simp only [Dev.mzkRxMack, hx.rx hmode, ← he, hq, hfly, hseq, List.head?_cons, Bool.true_and, decide_true, if_true]

theorem Dev.mzkRxRouteAck_advances {x : RadChange} {body : List Byte} {acc : Nat → Dev → Dev} (hx : d.MzkHears n 7 false m h)
    (hb : (d.rad n).bound h.orig = some b) (hsecure : d.mzkSecure n 5 h b = (e, some (body, acc)))
    (hf : f = (acc (rxQuality m) e).mzkHeard n h h.orig m.rssi)
    (hfound : (f.rad n).changes.find? (fun x => (x.toAck.head?.map (·.1)) == some h.orig && x.ver == leAt body 0 2) = some x) :
    d.mzkRxRouteAck n m = (f.changeGo n { x with toAck := x.toAck.drop 1, tries := 0 }).cellPump n := by
  have hmode : (!false) = true := rfl
  simp only [Dev.mzkRxRouteAck, hx.rx hmode, hb, hsecure, ← hf, hfound]

end

/-! ### Association (R321, R323) -/

section
variable (hx : d.MzkHears n 4 false m h)
  (he : e = ((d.bump (F.MZK_CNT_RX_frames_ok.at n)).sample 0x0C n (uns 64 m.rssi)).mzkMackOnly n h) (hm : e.mode ≠ .shadow)
include hx he hm

theorem Dev.mzkRxAssocReq_closed (hclosed : e.on (F.MZK_CTRL_assoc_open.at n) = false) : d.mzkRxAssocReq n m
    = (e.radAssocRsp n (leAt h.body 0 8) 2 0 0xFFFF 0 (some (h.src.getD 0xFFFE)) false).cellPump n := by
  have hmode : (!false) = true := rfl
  simp only [Dev.mzkRxAssocReq, hx.rx hmode, ← he, beq_false_of_ne hm, hclosed, Bool.not_false, Bool.false_eq_true, if_false,
    if_true]

theorem Dev.mzkRxAssocReq_binds {a : Nat} {p : Nat × Nat × Nat} (hopen : e.on (F.MZK_CTRL_assoc_open.at n) = true)
    (hpick : e.radPick n (leAt h.body 0 8) = some a) (hsrc : h.src = none)
    (hparent : e.pickParent n a (some (rxQuality m))
      ((List.range (byteAt h.body 9)).map (fun k => (leAt h.body (10 + 4 * k) 2, byteAt h.body (12 + 4 * k)))) = some p) :
    d.mzkRxAssocReq n m = ((e.radBind n a (leAt h.body 0 8) (b2n (e.known (leAt h.body 0 8)).isNone
      + 2 * b2n (bit (byteAt h.body 8) 1) + 4 * bits (byteAt h.body 8) 2 3) none).changeStart n a p.1 p.2.1 p.2.2).cellPump n := by
  have hmode : (!false) = true := rfl
  simp only [Dev.mzkRxAssocReq, hx.rx hmode, ← he, beq_false_of_ne hm, hopen, hpick, hsrc, hparent, Option.isNone_none,
    Bool.not_true, Bool.false_eq_true, if_false, if_true]

end

/-! ### Connection requests (R326, R330) -/

section
variable {u : Dev} (hx : d.MzkHears n 0xB true m h)
  (hu : u = (d.bump (F.MZK_CNT_RX_frames_ok.at n)).sample 0x0C n (uns 64 m.rssi))
  (he : e = u.modRad n (fun (c : Rad) => { c with accept := false })) (hacc : (u.rad n).accept = true) (hm : e.mode ≠ .shadow)
include hx hu he hacc hm

theorem Dev.mzkRxConnReq_closed (hclosed : e.on (F.MZK_CTRL_assoc_open.at n) = false) : d.mzkRxConnReq n m
    = (e.connRsp n 0 2 0 (u.advCh n ((u.rad n).advIdx + 2)) (0, 0, 0, 0) none).1 := by
  simp only [Dev.mzkRxConnReq, hx.rx, ← hu, ← he, hacc, beq_false_of_ne hm, hclosed, Bool.not_true, Bool.or_self, Bool.not_false,
    Bool.false_eq_true, if_false, if_true]

theorem Dev.mzkRxConnReq_opens {c rf : Nat} {p : Nat × Nat × Nat × Nat} (hopen : e.on (F.MZK_CTRL_assoc_open.at n) = true)
    (hpick : e.radPick n h.ext = some c) (hrf : rf = u.advCh n ((u.rad n).advIdx + 2))
    (hp : p = (((e.rad n).bound c).map (e.connPar n c)).getD (e.connDefault n)) (hpar : e.parOk n p.1 p.2.1 p.2.2.2 = true)
    (hf : f = e.radBind n c h.ext (b2n (e.known h.ext).isNone) (some p)) : d.mzkRxConnReq n m
      = (f.connRsp n c 0 ((f.eventFrom n c p (f.dwnNs f.tick + 2 * p.1 * msNs)) % 65536) rf p (f.known h.ext)).1 := by
  simp only [Dev.mzkRxConnReq, hx.rx, ← hu, ← he, hacc, beq_false_of_ne hm, hopen, hpick, ← hrf, ← hp, hpar, ← hf, Bool.not_true,
    Bool.or_self, Bool.false_eq_true, if_false]

end

/-! ### Beacons of others (R338) -/

section
variable (hrun : d.mzkRuns n = true)
include hrun

theorem Dev.mzkRxBeacon_foreign (hm : d.mode ≠ .shadow) (hpartner : (d.rad n).partner = false) (bseq ver : Nat) :
    d.mzkRxBeacon n bseq ver = ((d.setF (F.MZK_STATUS_foreign_coord.at n)).mzkEvent n F.MZK_EVENT_foreign_coord).modRad n
      (fun (c : Rad) => { c with alien := true }) := by
  simp only [Dev.mzkRxBeacon, hrun, beq_false_of_ne hm, hpartner, Bool.false_and, Bool.not_true, Bool.false_eq_true, if_false]

theorem Dev.mzkRxBeacon_shadow (hm : d.mode = .shadow) (bseq ver : Nat) :
    d.mzkRxBeacon n bseq ver = d.modRad n (fun (c : Rad) => { c with bseq := bseq, routeVer := ver }) := by
  simp only [Dev.mzkRxBeacon, hrun, hm, beq_self_eq_true, Bool.not_true, Bool.false_eq_true, if_false, if_true]

end

end

/-- Settles O25: a PSDU that fails a check is counted whatever its type; one that meets them all reaches its type's meaning, of
which the conditions of its clause choose one branch. -/
theorem radioReceptionCommandsComplete : Obligations.RadioReceptionCommandsComplete := by
  refine ⟨fun n m d q hrun hnone => ?_,
    fun n m h b pre d e q hrun hs hh hpan ht hdst hfin hfcs hform hb hown hlevel htype hpre hroom he hsched => ?_,
    fun n m h b pre frame acc d e f q hrun hs hh hpan ht hdst hfin hfcs hform hb hown hprov hsecure hpre hroom hf hsched => ?_,
    fun n m h t l d e q hrun hs hh hpan ht hdst hfin hfcs hform he hq hfly hseq => ?_,
    fun n m h d e q hrun hs hh hpan ht hdst hfin hfcs hform he hm hclosed => ?_,
    fun n m h a p d e q hrun hs hh hpan ht hdst hfin hfcs hform he hm hopen hpick hsrc hparent => ?_,
    fun n m h b x body acc d e f q hrun hs hh hpan ht hdst hfin hfcs hform hb hsecure hf hfound => ?_,
    fun n m h b body acc d e f q hrun hs hh hpan ht hdst hfin hfcs hform hb hsecure hf hsched => ?_,
    fun n m h b body acc d e f q hrun hs hh hpan ht hdst hfin hfcs hform hb hsecure hf => ?_,
    fun n m h c rf p d u e f q hrun hs hh hpan ht hdst hfin hfcs hform hu he hacc hm _ hopen hpick hrf hp hpar hf => ?_,
    fun n m h d u e q hrun hs hh hpan ht hdst hfin hfcs hform hu he hacc hm _ hclosed => ?_,
    fun n s r d q hrun hm hpartner => congrArg (ran ⟨d, q⟩) (Dev.mzkRxBeacon_foreign hrun hm hpartner _ _),
    fun n s r d q hrun hm => congrArg (ran ⟨d, q⟩) (Dev.mzkRxBeacon_shadow hrun hm _ _),
    fun n m h d q hrun hh hpan => ?_⟩
  · have hdrop (t : Nat) (modes : Bool → Bool) (k : Dev → RadHdr → Dev) :
        ran ⟨d, q⟩ (d.mzkRx n.val t modes m k) = .next ⟨d.bump (F.MZK_CNT_RX_rx_bad.at n.val), q⟩ :=
      congrArg (ran ⟨d, q⟩) (Dev.mzkRx_malformed hrun hnone t modes k)
    exact ⟨hdrop 3 _ _, hdrop 4 _ _, hdrop 7 _ _, hdrop 9 _ _, hdrop 0xB _ _⟩
  · exact congrArg (ran ⟨d, q⟩) (Dev.mzkRxData_provisional ⟨hrun, hs, hh, hpan, ht, hdst, hfin, hfcs, hform⟩ hb hown hlevel htype
      hpre hroom he hsched)
  · exact congrArg (ran ⟨d, q⟩) (Dev.mzkRxData_secured ⟨hrun, hs, hh, hpan, ht, hdst, hfin, hfcs, hform⟩ hb hown hprov hsecure
      hpre hroom hf hsched)
  · exact congrArg (ran ⟨d, q⟩) (Dev.mzkRxMack_ends ⟨hrun, hs, hh, hpan, ht, hdst, hfin, hfcs, hform⟩ he hq hfly hseq)
  · exact congrArg (ran ⟨d, q⟩) (Dev.mzkRxAssocReq_closed ⟨hrun, hs, hh, hpan, ht, hdst, hfin, hfcs, hform⟩ he hm hclosed)
  · exact congrArg (ran ⟨d, q⟩) (Dev.mzkRxAssocReq_binds ⟨hrun, hs, hh, hpan, ht, hdst, hfin, hfcs, hform⟩ he hm hopen hpick
      hsrc hparent)
  · exact congrArg (ran ⟨d, q⟩) (Dev.mzkRxRouteAck_advances ⟨hrun, hs, hh, hpan, ht, hdst, hfin, hfcs, hform⟩ hb hsecure hf
      hfound)
  · exact congrArg (ran ⟨d, q⟩) (Dev.mzkRxKeep_accepted hb ⟨hrun, hs, hh, hpan, ht, hdst, hfin, hfcs, hform⟩ hsecure hf hsched)
  · exact congrArg (ran ⟨d, q⟩) (Dev.mzkRxLeave_accepted hb ⟨hrun, hs, hh, hpan, ht, hdst, hfin, hfcs, hform⟩ hsecure hf)
  · exact congrArg (ran ⟨d, q⟩) (Dev.mzkRxConnReq_opens ⟨hrun, hs, hh, hpan, ht, hdst, hfin, hfcs, hform⟩ hu he hacc hm hopen
      hpick hrf hp hpar hf)
  · exact congrArg (ran ⟨d, q⟩) (Dev.mzkRxConnReq_closed ⟨hrun, hs, hh, hpan, ht, hdst, hfin, hfcs, hform⟩ hu he hacc hm hclosed)
  · have hdrop (t : Nat) (modes : Bool → Bool) (k : Dev → RadHdr → Dev) :
        ran ⟨d, q⟩ (d.mzkRx n.val t modes m k) = .next ⟨d.bump (F.MZK_CNT_RX_rx_bad.at n.val), q⟩ :=
      congrArg (ran ⟨d, q⟩) (Dev.mzkRx_otherPan hrun hh hpan t modes k)
    exact ⟨hdrop 3 _ _, hdrop 4 _ _, hdrop 7 _ _, hdrop 9 _ _, hdrop 0xB _ _⟩

end Sys2Proof.Machine
end

section
/-! PROOF. A radio channel's own events: beacons, retries, routes, silence, the duty cycle, downlink frames, enabling, listening and
faults (R307, R319, R320, R323, R326, R335, R337, R338; O26). -/

namespace Sys2Proof.Machine

section
variable {d e f : Dev} {n : Nat}

/-! ### Beacons (R319) -/

theorem Dev.mzkBeaconSend_cell {flags seq : Nat} {body : List Byte} {g : Dev} (hcell : d.mzkSched n = false)
    (hsends : d.mzkSends n = true) (hduty : d.on (F.MZK_STATUS_dc_hold.at n) = false)
    (he : e = d.modRad n (fun (c : Rad) => { c with bseq := (c.bseq + 1) % 65536 })) (hf : f = e.drawn)
    (hflags : flags = b2n (f.mode == .storm) + 2 * e.freeVal 1 + 4 * b2n (!f.on (F.MZK_CTRL_assoc_open.at n)))
    (hbody : body = leBytes 1 flags ++ zeros 1 ++ leBytes 2 (f.rad n).bseq ++ leBytes 2 (f.rad n).routeVer
      ++ leBytes 2 (f.rd (F.MZK_CELL_cell_silent.at n) / 4) ++ leBytes 1 Config.stormSpread.toNat ++ zeros 3)
    (hseq : f.mzkSeq n = (g, seq)) : d.mzkBeaconSend n
      = ((g.mzkOut n (g.fixedCh n) (g.mzkPreamble n) 1
          (psdu (g.mzkPan n) 0xFFFF seq [] (leBytes 1 0x10 ++ zeros 1 ++ body))).1).cellPump n := by
  simp only [Dev.mzkBeaconSend, hcell, hsends, hduty, ← he, ← hf, ← hflags, ← hbody, hseq, Bool.not_true, Bool.or_self,
    Bool.false_eq_true, if_false]

/-! ### Retries (R320, R335) -/

section
variable {t : RadTx} {l : List RadTx} (hfly : (d.rad n).flying = true) (hq : (d.rad n).txq = t :: l)
include hfly hq

theorem Dev.mzkMackTimeout_retries (htries : t.tries < 3) (hatt : t.attempts < 4) : d.mzkMackTimeout n false
    = (d.modRad n (fun (c : Rad) =>
        { c with txq := { t with tries := t.tries + 1 } :: c.txq.drop 1, flying := false })).cellPump n := by
  simp only [Dev.mzkMackTimeout, hfly, hq, htries, Nat.ne_of_lt hatt, List.head?_cons, Bool.not_true, Bool.false_eq_true,
    if_false, if_true]

theorem Dev.mzkMackTimeout_givesUp (htries : t.tries = 3) (hatt : t.attempts = 3) :
    d.mzkMackTimeout n false = (d.cellDrop n t true).cellPump n := by
  simp only [Dev.mzkMackTimeout, hfly, hq, htries, hatt, List.head?_cons, Nat.lt_irrefl, Bool.not_true, Bool.false_eq_true,
    if_false, if_true]

end

theorem Dev.mzkRouteAckTimeout_again {a : Nat} {x : RadChange}
    (hx : (d.rad n).changes.find? (fun x => x.meter == a) = some x) : d.mzkRouteAckTimeout n a
      = (d.changeGo n (if x.tries < 3 then x else { x with toAck := x.all, tries := 0 })).cellPump n := by
  simp only [Dev.mzkRouteAckTimeout, hx]

/-! ### Silence and the duty cycle (R307, R321) -/

theorem Dev.mzkCellSilent_lost {a : Nat} {b : RadBind} (hb : (d.rad n).bound a = some b) (hcell : d.mzkSched n = false)
    (hsends : d.mzkSends n = true) (hsilent : d.rd (F.MZK_CELL_cell_silent.at n) ≠ 0)
    (he : e = (d.mzkEvent n F.MZK_EVENT_lost).mzkUnbind n a) :
    d.mzkCellSilent n a = (((e.recOf b.eui).map e.attachLost).getD e).cellPump n := by
  simp only [Dev.mzkCellSilent, hb, hcell, hsends, hsilent, ← he, decide_false, Bool.not_true, Bool.or_self, Bool.false_eq_true,
    if_false]

theorem Dev.mzkDcRelease_below (hduty : d.mzkDutyHit n = false) (he : e = d.clrF (F.MZK_STATUS_dc_hold.at n)) :
    d.mzkDcRelease n = if e.mzkSched n then e.schedIdle n else e.cellPump n := by
  simp only [Dev.mzkDcRelease, hduty, ← he, Bool.false_eq_true, if_false]

/-! ### Downlink frames (R335) -/

section
variable {g : DlFrame} {c : Rad} (hrun : d.mzkRuns n = true) (hm : d.mode ≠ .shadow) (hc : c = d.rad n)
  (htake : d.dlTake (16 + n) (fun f => if f.dest = 2 then c.bcast.length < 16
    else c.frames.length - c.bcast.length < 64) = (e, some g)) (hcell : e.mzkSched n = false)
include hrun hm hc htake hcell

theorem Dev.mzkDlRelease_broadcast (hdest : g.dest = 2) : d.mzkDlRelease n
    = (e.modRad n (fun (c : Rad) => { c with bcast := c.bcast ++ [g] })).cellPump n := by
  simp only [Dev.mzkDlRelease, hrun, beq_false_of_ne hm, ← hc, htake, hcell, hdest, Bool.not_true, Bool.or_self,
    Bool.false_eq_true, if_false, if_true]

theorem Dev.mzkDlRelease_unicast (hdest : g.dest ≠ 2) : d.mzkDlRelease n
    = (e.cellPut n { job := .dl g, final := atShort g.attach }).cellPump n := by
  simp only [Dev.mzkDlRelease, hrun, beq_false_of_ne hm, ← hc, htake, hcell, hdest, Bool.not_true, Bool.or_self,
    Bool.false_eq_true, if_false]

end

/-! ### Enabling and listening (R326, R338) -/

theorem Dev.mzkEnable_sound {v : Nat} (hoff : d.on (F.MZK_CTRL_enable.at n) = false)
    (he : e = (d.regWrite32 (0xB0000 + 0x1000 * n) v).clrF (F.MZK_CTRL_beacon_force.at n))
    (hon : e.on (F.MZK_CTRL_enable.at n) = true) (harea : e.inDram e.mzkTbl 0x1000000 = true) (hlo : 4 ≤ e.mzkPreamble n)
    (hhi : e.mzkPreamble n ≤ 1000) (hch : e.fixedCh n ≤ e.mzkTop n)
    (hf : f = ((e.commitRwl (0xB0000 + 0x1000 * n)).commitRwl 0xBC000).setF (F.MZK_STATUS_link_up.at n)) :
    d.mzkEnable n v = (if f.rd (F.MZK_EPOCH_epoch_s.at n) = 0 then f.wr (F.MZK_EPOCH_epoch_s.at n) f.dwnNow
      else f).mzkSyncCh n := by
  simp only [Dev.mzkEnable, hoff, ← he, hon, harea, Nat.not_lt.2 hlo, Nat.not_lt.2 hhi, Nat.not_lt.2 hch, ← hf, decide_false,
    Bool.or_self, Bool.not_true, Bool.false_eq_true, if_false]

section
variable (hrun : d.mzkRuns n = true) (hlisten : d.on (F.MZK_STATUS_listening.at n) = true) (hm : d.mode ≠ .shadow)
  (he : e = (d.clrF (F.MZK_STATUS_listening.at n)).modRad n (fun (c : Rad) => { c with partner := false }))
include hrun hlisten hm he

theorem Dev.mzkListenEnd_alien (halien : (e.rad n).alien = true) : d.mzkListenEnd n = e := by
  simp only [Dev.mzkListenEnd, hrun, hlisten, beq_false_of_ne hm, ← he, halien, Bool.not_true, Bool.or_self, Bool.false_eq_true,
    if_false, if_true]

theorem Dev.mzkListenEnd_alone (halone : (e.rad n).alien = false) (hf : f = e.setF (F.MZK_STATUS_transmitting.at n)) :
    d.mzkListenEnd n = if f.mzkSched n then f.schedIdle n else f.cellPump n := by
  simp only [Dev.mzkListenEnd, hrun, hlisten, beq_false_of_ne hm, ← he, halone, ← hf, Bool.not_true, Bool.or_self,
    Bool.false_eq_true, if_false]

end

theorem Dev.mzkBeaconForce_running (he : e = d.setF (F.MZK_CTRL_beacon_force.at n)) (hrun : e.mzkRuns n = true)
    (hm : e.mode ≠ .shadow) : d.mzkBeaconForce n
      = ((e.clrF (F.MZK_STATUS_listening.at n)).setF (F.MZK_STATUS_transmitting.at n)).clrF (F.MZK_CTRL_beacon_force.at n) := by
  simp only [Dev.mzkBeaconForce, ← he, hrun, bne_iff_ne.2 hm, Bool.and_self, if_true]

/-! ### Faults (R337) -/

/-- A transient fault below the retirement threshold, or without one, only joins its window. -/
theorem Dev.mzkTransientFault_counts {fs : List Nat}
    (hfs : fs = ((d.rad n).faults.filter (fun t => d.tick < t + zeroAs (d.rd (F.MZK_ERR_CFG_window.at n)) 1 * sNs)) ++ [d.tick])
    (he : e = d.modRad n (fun (c : Rad) => { c with faults := fs }))
    (hf : f = (e.mzkEvent n F.MZK_EVENT_fault).trouble 0x28 1 4 2 n fs.length)
    (hthr : f.rd (F.MZK_ERR_CFG_retire_thr.at n) = 0 ∨ fs.length < f.rd (F.MZK_ERR_CFG_retire_thr.at n)) :
    d.mzkTransientFault n = f := by
  have hfew : ¬ (f.rd (F.MZK_ERR_CFG_retire_thr.at n) ≠ 0 ∧ f.rd (F.MZK_ERR_CFG_retire_thr.at n) ≤ fs.length) := by omega
  simp only [Dev.mzkTransientFault, ← hfs, ← he, ← hf, Bool.and_eq_true, bne_iff_ne, decide_eq_true_eq, hfew, if_false]

theorem Dev.mzkPermanentFault_retires {cause : Nat}
    (he : e = (if cause = 2 then d.clrF (F.MZK_STATUS_link_up.at n) else d))
    (hf : f = (if cause = 3 then e.mzkEvent n F.MZK_EVENT_tune_err else e)) :
    d.mzkPermanentFault n cause = (f.mzkEvent n F.MZK_EVENT_fault).mzkRetire n cause := by
  simp only [Dev.mzkPermanentFault, ← he, ← hf]

end

/-- Settles O26: each event's conditions choose one branch of its meaning. -/
theorem radioChannelEventsComplete : Obligations.RadioChannelEventsComplete := by
  exact ⟨fun n flags seq body d e f g q hcell hsends hduty he hf hflags hbody hseq =>
      congrArg (ran ⟨d, q⟩) (Dev.mzkBeaconSend_cell hcell hsends hduty he hf hflags hbody hseq),
    fun n t l d q hfly hq htries hatt => congrArg (ran ⟨d, q⟩) (Dev.mzkMackTimeout_retries hfly hq htries hatt),
    fun n t l d q hfly hq htries hatt => congrArg (ran ⟨d, q⟩) (Dev.mzkMackTimeout_givesUp hfly hq htries hatt),
    fun n a x d q hx => congrArg (ran ⟨d, q⟩) (Dev.mzkRouteAckTimeout_again hx),
    fun n a b d e q hb hcell hsends hsilent he =>
      congrArg (ran ⟨d, q⟩) (Dev.mzkCellSilent_lost hb hcell hsends hsilent he),
    fun n d e q hduty he => congrArg (ran ⟨d, q⟩) (Dev.mzkDcRelease_below hduty he),
    fun n g c d e q hrun hm hc htake hcell hdest =>
      congrArg (ran ⟨d, q⟩) (Dev.mzkDlRelease_broadcast hrun hm hc htake hcell hdest),
    fun n g c d e q hrun hm hc htake hcell hdest =>
      congrArg (ran ⟨d, q⟩) (Dev.mzkDlRelease_unicast hrun hm hc htake hcell hdest),
    fun n v d e f q hoff he hon harea hlo hhi hch hf =>
      congrArg (ran ⟨d, q⟩) (Dev.mzkEnable_sound hoff he hon harea hlo hhi hch hf),
    fun n d e q hrun hlisten hm he halien =>
      congrArg (fun (x : Dev) => ran ⟨d, q⟩ x.mzkPromote) (Dev.mzkListenEnd_alien hrun hlisten hm he halien),
    fun n d e f q hrun hlisten hm he halone hf =>
      congrArg (fun (x : Dev) => ran ⟨d, q⟩ x.mzkPromote) (Dev.mzkListenEnd_alone hrun hlisten hm he halone hf),
    fun n d e q he hrun hm => congrArg (ran ⟨d, q⟩) (Dev.mzkBeaconForce_running he hrun hm),
    fun n fs d e f q hfs he hf hthr => congrArg (ran ⟨d, q⟩) (Dev.mzkTransientFault_counts hfs he hf hthr),
    fun n cause d e f q he hf => congrArg (ran ⟨d, q⟩) (Dev.mzkPermanentFault_retires he hf)⟩

end Sys2Proof.Machine
end

section
/-! PROOF. Schedule mode's own events: anchors, advertisements, silent events, timeouts, parameter changes and suspension (R327,
R329–R334; O27). -/

namespace Sys2Proof.Machine

section
variable {d e : Dev} {n c : Nat} {b : RadBind}

/-! ### A connection's events (R327, R329, R331) -/

section
variable (hb : (d.rad n).bound c = some b) (hsched : d.mzkSched n = true) (hsends : d.mzkSends n = true)
  (hheld : d.connHeld n b = false)
include hb hsched hsends hheld

theorem Dev.mzkEventAnchor_skips {k : Nat} (hreach : d.anchorAt n c (d.connPar n c b) k < (d.rad n).evEnd + d.settleNs n
      ∨ d.on (F.MZK_STATUS_dc_hold.at n) = true) (upd : Option ConnUpd) :
    d.mzkEventAnchor n c k upd = d.bump (F.MZK_CNT_SCHED_skipped.at n) := by
  have hskip := Bool.or_eq_true_iff.2 (hreach.imp_left decide_eq_true)
  simp only [Dev.mzkEventAnchor, hb, hsched, hsends, hheld, hskip, Bool.not_true, Bool.or_self, Bool.false_eq_true, if_false,
    if_true]

theorem Dev.mzkEventAnchor_opens {k : Nat} {t : Int} (ht : t = d.anchorAt n c (d.connPar n c b) k)
    (hfree : ¬ t < (d.rad n).evEnd + d.settleNs n) (hduty : d.on (F.MZK_STATUS_dc_hold.at n) = false) :
    d.mzkEventAnchor n c k none = ((d.modBind n c (fun (b : RadBind) => { b with evAt := t })).modRad n
      (fun (r : Rad) => { r with evEnd := t, accept := false })).connExchange n c k true 0 0 := by
  simp only [Dev.mzkEventAnchor, hb, hsched, hsends, hheld, ← ht, hfree, hduty, decide_false, Bool.not_true, Bool.or_self,
    Bool.false_eq_true, if_false]

/-- With no frame of the connection unacknowledged, a silent event only counts its miss, and begins the recovery at rec_miss. -/
theorem Dev.mzkSilentEvent_counts {k : Nat} (hflight : b.flight = none) (hk : k = satAdd 255 (lnkMisses (d.bindLnk b)) 1)
    (he : e = (d.bump (F.MZK_CNT_SCHED_missed.at n)).setLnk n c (fun e => setByts e 13 1 k)) :
    d.mzkSilentEvent n c = (if k = zeroAs (e.rd (F.MZK_SCHED_rec_miss.at n)) 1 then e.mzkEvent n F.MZK_EVENT_recovery
      else e).schedIdle n := by
  simp only [Dev.mzkSilentEvent, hb, hsched, hsends, hheld, hflight, ← hk, ← he, Bool.not_true, Bool.or_self,
    Bool.false_eq_true, if_false]

/-! ### The supervision timeout (R333) -/

theorem Dev.mzkSupTimeout_lost {f : Dev}
    (he : e = (d.mzkEvent n F.MZK_EVENT_lost).modBind n c (fun (b : RadBind) => { b with lost := true }))
    (hf : f = ((e.recOf b.eui).map e.attachLost).getD e) :
    d.mzkSupTimeout n c = if f.rd (F.MZK_HOLD_conn_hold.at n) = 0 then f.mzkConnFree n c b else f := by
  simp only [Dev.mzkSupTimeout, hb, hsched, hsends, hheld, ← he, ← hf, Bool.not_true, Bool.or_self, Bool.false_eq_true, if_false]

end

theorem Dev.mzkConnHoldExpiry_lost (hb : (d.rad n).bound c = some b) (hlost : b.lost = true) (hsends : d.mzkSends n = true) :
    d.mzkConnHoldExpiry n c = d.mzkConnFree n c b := by
  simp only [Dev.mzkConnHoldExpiry, hb, hlost, hsends, Bool.and_self, if_true]

/-! ### Advertisements (R330) -/

theorem Dev.mzkAdvSend_idle {rf t sn : Nat} {body : List Byte} {acc : Bool} {x : Dev × Bool} (hsched : d.mzkSched n = true)
    (hsends : d.mzkSends n = true) (hduty : d.on (F.MZK_STATUS_dc_hold.at n) = false) (hidle : d.mzkIdle n = none)
    (hacc : acc = d.on (F.MZK_CTRL_assoc_open.at n))
    (ht : t = (d.dwnNs d.tick + d.octets n (d.mzkPreamble n + 2)).toNat)
    (hbody : body = leBytes 4 (d.rd (F.MZK_EPOCH_epoch_s.at n)) ++ leBytes 4 (t / 1000000000) ++ leBytes 4 (t % 1000000000)
      ++ leBytes 2 (d.rd (F.MZK_SCHED_stride_us.at n)) ++ leBytes 1 (d.rd (F.MZK_TIMING_dev_ppm.at n))
      ++ leBytes 1 (b2n (d.mode == .storm) + 2 * b2n acc)) (hrf : rf = d.advCh n (d.rad n).advIdx)
    (hseq : (d.modRad n (fun (c : Rad) => { c with advIdx := (c.advIdx + 1) % 3 })).mzkSeqOpen = (e, sn))
    (hx : x = e.mzkOut n rf (d.mzkPreamble n) 1 (psdu (e.mzkPan n) 0xFFFF sn [] (leBytes 1 0x1A ++ zeros 1 ++ body))) :
    d.mzkAdvSend n = (x.1.modRad n (fun (c : Rad) => { c with accept := x.2 && acc })).schedIdle n := by
  simp only [Dev.mzkAdvSend, hsched, hsends, hduty, hidle, ← hacc, ← ht, ← hbody, ← hrf, hseq, ← hx, Bool.and_true, Bool.not_true,
    Bool.or_self, Bool.false_eq_true, if_false]

/-! ### Parameter changes and suspension (R332, R334) -/

theorem Dev.mzkConnUpdInstant_unrecorded {u : RadUpd} (hb : (d.rad n).bound c = some b) (hupd : b.upd = some u)
    (hflight : b.flight = none) (he : e = d.modBind n c (fun (b : RadBind) =>
      { b with upd := none, par := some (u.interval, u.sup, u.ofs, u.map), flight := none })) (hrec : e.recOf b.eui = none) :
    d.mzkConnUpdInstant n c = e := by
  have hkeep : (if ((none : Option RadOut) == some .upd) = true then none else none) = (none : Option RadOut) := ite_self _
  simp only [Dev.mzkConnUpdInstant, hb, hupd, hflight, hkeep, ← he, hrec]

theorem Dev.mzkResumeTimeout_none (hnone : (d.rad n).bcast = []) :
    d.mzkResumeTimeout n = d.clrF (F.MZK_STATUS_suspended.at n) := by
  simp only [Dev.mzkResumeTimeout, hnone, List.any_nil, Bool.false_eq_true, if_false]

end

/-- Settles O27: each event's conditions choose one branch of its meaning. -/
theorem scheduleModeEventsComplete : Obligations.ScheduleModeEventsComplete := by
  exact ⟨fun n c k u b d q hb hsched hsends hheld hreach =>
      congrArg (ran ⟨d, q⟩) (Dev.mzkEventAnchor_skips hb hsched hsends hheld hreach u),
    fun n c k t b d q hb hsched hsends hheld ht hfree hduty =>
      congrArg (ran ⟨d, q⟩) (Dev.mzkEventAnchor_opens hb hsched hsends hheld ht hfree hduty),
    fun n d e rf t sn body acc x q hsched hsends hduty hidle hacc ht hbody hrf hseq hx =>
      congrArg (ran ⟨d, q⟩) (Dev.mzkAdvSend_idle hsched hsends hduty hidle hacc ht hbody hrf hseq hx),
    fun n c b u d q hb hupd hflight hrec =>
      congrArg (ran ⟨d, q⟩) (Dev.mzkConnUpdInstant_unrecorded hb hupd hflight rfl hrec),
    fun n c b d e f q hb hsched hsends hheld he hf =>
      congrArg (ran ⟨d, q⟩) (Dev.mzkSupTimeout_lost hb hsched hsends hheld he hf),
    fun n c b d q hb hlost hsends => congrArg (ran ⟨d, q⟩) (Dev.mzkConnHoldExpiry_lost hb hlost hsends),
    fun n d q hnone => congrArg (ran ⟨d, q⟩) (Dev.mzkResumeTimeout_none hnone),
    fun n c k b d e q hb hsched hsends hheld hflight hk he =>
      congrArg (ran ⟨d, q⟩) (Dev.mzkSilentEvent_counts hb hsched hsends hheld hflight hk he)⟩

end Sys2Proof.Machine
end

section
/-! PROOF. Device time: schemes and the rate, adjustments, PPS captures, holdover and the RTC (R341, R343, R345–R347, R349–R352,
R354, R362; O28). -/

namespace Sys2Proof.Machine

section
variable {d e f : Dev}

/-! ### Schemes and the rate (R343, R345, R354) -/

theorem Dev.handover_settled (h : d.schemeWanted = d.on F.TSU_STATUS_scheme) : d.handover = d := by
  simp only [Dev.handover, h, beq_self_eq_true, if_true]

theorem Dev.handover_toTick (hwant : d.schemeWanted = true) (hnow : d.on F.TSU_STATUS_scheme = false) (hslew : d.tsu.slew = none)
    (hf : f = d.newSeg (fun g => { g with byTick := true, rate := d.rateReg })) : d.handover
      = ((((f.flag F.TSU_STATUS_scheme true).setF F.TSU_STATUS_acquire).clrF F.TSU_STATUS_handover_pend).raise 381).timeEvent
          4 1 0 := by
  have htrue : b2n true = 1 := rfl
  simp only [Dev.handover, hwant, hnow, hslew, ← hf, htrue, beq_iff_eq, Option.isSome_none, Bool.true_eq_false, Bool.false_eq_true,
    if_false, if_true]

theorem Dev.tsuRateWrite_servo (h : d.rd F.TSU_CTRL_servo = 1) (v : Nat) : d.tsuRateWrite v = d.setF F.TSU_STATUS_rate_rej :=
  if_pos h

theorem Dev.tsuRateWrite_segment {v : Nat} (h : d.rd F.TSU_CTRL_servo ≠ 1) (he : e = d.wr F.TSU_RATE_LO_rate v)
    (hslew : d.tsu.slew = none) : d.tsuRateWrite v = (e.newSeg (fun g =>
      if g.byTick then { g with rate := e.rateReg } else g)).timeEvent 7 0 (ratePpb e.rateReg) := by
  subst he
  simp only [Dev.tsuRateWrite, h, hslew, Dev.wr_tsu, Int.add_zero, if_false]

/-! ### Adjustments (R347) -/

section
variable (hslew : d.tsu.slew = none)
include hslew

theorem Dev.adjust_step (s : Int) (sec ns : Nat) (cmd : Option Desc) : d.adjust 0 s sec ns cmd = (d.applyStep s, .applied) := by
  have hset : ¬ (0 = 2) := by decide
  have hmode : ¬ (0 = 1) := by decide
  simp only [Dev.adjust, hslew, hset, hmode, Option.isSome_none, Bool.false_eq_true, if_false]

theorem Dev.adjust_slew {s : Int} {ppb : Nat} {cmd : Option Desc} (hscheme : d.on F.TSU_STATUS_scheme = true)
    (hppb : ppb = zeroAs (d.rd F.TSU_SLEW_slew_ppb) 1)
    (he : e = { d with tsu := { d.tsu with slew := some { s := s, ppb := ppb, start := d.tick, cmd := cmd } } }) (sec ns : Nat) :
    d.adjust 1 s sec ns cmd = ((e.newSeg (fun g => { g with
      rate := e.rateReg + (if s < 0 then -((ppb : Int) * 2 ^ 32) else (ppb : Int) * 2 ^ 32) })).setF F.TSU_STATUS_slewing,
        .slewing) := by
  have hset : ¬ (1 = 2) := by decide
  simp only [Dev.adjust, hslew, hset, hscheme, ← hppb, ← he, Option.isSome_none, Bool.not_true, Bool.false_eq_true, if_false,
    if_true]

theorem Dev.adjust_set {t sec ns : Nat} (ht : t = sec * 1000000000 + ns) (hlo : dwnEpoch ≤ t / 1000000000)
    (hhi : t / 1000000000 < 2 ^ 48) (he : e = (if d.rd F.TSU_STATUS_tstate < 2 then d.wr F.TSU_STATUS_tstate 1 else d)) (s : Int)
    (cmd : Option Desc) : d.adjust 2 s sec ns cmd = (e.applyStep ((t : Int) - e.devNs), .applied) := by
  simp only [Dev.adjust, hslew, ← ht, Nat.not_lt.2 hlo, Nat.not_le.2 hhi, ← he, decide_false, Bool.or_self, Option.isSome_none,
    Bool.false_eq_true, if_false, if_true]

theorem Dev.tsuAdjStep_steps : d.tsuAdjStep = d.applyStep (sgn 64 (d.rd F.TSU_ADJ_LO_s)) := by
  have hend : (AdjEnd.applied == .slewing) = false := rfl
  simp only [Dev.tsuAdjStep, Dev.adjReg, Dev.adjust_step hslew, hend, Bool.false_eq_true, if_false]

theorem Dev.tsuAdjSlew_starts {s : Int} {ppb : Nat} (hscheme : d.on F.TSU_STATUS_scheme = true)
    (hs : s = sgn 64 (d.rd F.TSU_ADJ_LO_s)) (hppb : ppb = zeroAs (d.rd F.TSU_SLEW_slew_ppb) 1)
    (he : e = { d with tsu := { d.tsu with slew := some { s := s, ppb := ppb, start := d.tick, cmd := none } } }) :
    d.tsuAdjSlew = ((e.newSeg (fun g => { g with
      rate := e.rateReg + (if s < 0 then -((ppb : Int) * 2 ^ 32) else (ppb : Int) * 2 ^ 32) })).setF F.TSU_STATUS_slewing).setF
        F.TSU_ADJ_CTRL_go := by
  have hend : (AdjEnd.slewing == .slewing) = true := rfl
  simp only [Dev.tsuAdjSlew, Dev.adjReg, ← hs, Dev.adjust_slew hslew hscheme hppb he, hend, if_true]

theorem Dev.tsuAdjSet_sets {t : Nat} (ht : t = d.rd F.TSU_SET_SEC_LO_sec * 1000000000 + d.rd F.TSU_SET_NS_ns)
    (hlo : dwnEpoch ≤ t / 1000000000) (hhi : t / 1000000000 < 2 ^ 48)
    (he : e = (if d.rd F.TSU_STATUS_tstate < 2 then d.wr F.TSU_STATUS_tstate 1 else d)) :
    d.tsuAdjSet = e.applyStep ((t : Int) - e.devNs) := by
  have hend : (AdjEnd.applied == .slewing) = false := rfl
  simp only [Dev.tsuAdjSet, Dev.adjReg, Dev.adjust_set hslew ht hlo hhi he, hend, Bool.false_eq_true, if_false]

end

theorem Dev.slewEnd_due {w : Slew} {x z : Nat} {more : Int} {g : Option Int} (hw : d.tsu.slew = some w) (hcmd : w.cmd = none)
    (hx : x = w.start + (w.s.natAbs * 1000000000 + w.ppb - 1) / w.ppb) (hdue : x ≤ d.tick)
    (hz : z = max x ((d.tsu.segs.head?.map (fun g => g.start)).getD 0)) (hmore : more = ((z - x) * w.ppb / 1000000000 : Nat))
    (hg : g = (d.segFor w.start).map (fun g => ({ g with rate := d.rateReg } : Seg).timeAt z + w.s))
    (he : e = { d with tsu := { d.tsu with slew := none } })
    (hf : f = e.newSegAt z (fun y => { y with
      rate := d.rateReg
      base := if (d.tsu.segs.head?.map (fun g => g.start == w.start)).getD false then g.getD y.base
        else y.base - (if w.s < 0 then -more else more) })) :
    d.slewEnd = (((f.clrF F.TSU_STATUS_slewing).clrF F.TSU_ADJ_CTRL_go).raise 380).timeEvent 9 0 w.s := by
  subst hf he
  simp only [Dev.slewEnd, hw, hcmd, ← hx, Nat.not_lt.2 hdue, ← hz, ← hmore, ← hg, if_false]

/-! ### PPS captures and holdover (R351, R352) -/

section
variable {c : Nat} (hedge : d.on F.TSU_CTRL_pps_edge = false) (hlock : d.rd F.TSU_STATUS_tstate ≠ 3)
  (hc : c = d.tick + d.rd F.TSU_ISLCAL_keyc / 4) (he : e = (d.fifoPush 0xC0120 16 (leBytes 8 c)).fifoPop 0xC0120)
include hedge hlock hc he

theorem Dev.ppsEdge_early {p : Nat} (hlast : d.tsu.lastCap = some p)
    (hshort : c - p + d.rd F.TSU_PPS_pps_tol * 1000 < 1000000000) : d.ppsEdge false = e.bump F.TSU_CNT_pps_rej := by
  simp only [Dev.ppsEdge, hedge, beq_false_of_ne hlock, ← hc, hlast, Option.map_some, Nat.not_le.2 hshort, ← he, bne_self_eq_false,
    decide_false, Bool.false_and, Bool.not_false, Bool.false_eq_true, if_false, if_true]

/-- The first capture after a gap is valid; without the hardware servo it is only entered. -/
theorem Dev.ppsEdge_first {x err : Int} (hnone : d.tsu.lastCap = none) (hx : x = e.timeAt c - sgn 16 (e.rd F.TSU_PPS_pps_cal))
    (herr : err = x - (x + 500000000) / 1000000000 * 1000000000)
    (hf : f = ((({ e with tsu := { e.tsu with lastCap := some c, lastValid := c } }).wr F.TSU_PPS_ERR_e (uns 32 err)).wr
      F.TSU_PPS_LAST_LO_tick c).sample 0x0A 0 (uns 64 err)) (hservo : f.rd F.TSU_CTRL_servo ≠ 1) :
    d.ppsEdge false = (f.timeEvent 1 1 err).raise 376 := by
  have hdetail : 1 + 2 * b2n false = 1 := rfl
  simp only [Dev.ppsEdge, hedge, beq_false_of_ne hlock, ← hc, hnone, Option.map_none, ← he, ← hx, ← herr, ← hf,
    beq_false_of_ne hservo, hdetail, bne_self_eq_false, Bool.false_and, Bool.not_true, Bool.false_eq_true, if_false]

end

theorem Dev.ppsHoldover_begins (hlock : d.rd F.TSU_STATUS_tstate ≠ 3) (hold : d.tsu.lastValid + 2000000000 ≤ d.tick)
    (he : e = ((({ d with tsu := { d.tsu with lastCap := none } }).wr F.TSU_STATUS_tstate 3).setF F.TSU_STATUS_acquire).wr
      F.TSU_STATUS_lock_run 0) : d.ppsHoldover = (e.raise 377).timeEvent 2 0 (ratePpb e.rateReg) := by
  simp only [Dev.ppsHoldover, bne_iff_ne.2 hlock, hold, ← he, decide_true, Bool.and_self, if_true]

/-! ### The RTC (R349) -/

theorem Dev.rtcSecondSync_syncs (hscheme : d.on F.TSU_STATUS_scheme = true) (hvalid : d.rd F.TSU_STATUS_tstate ≠ 0)
    (hsync : d.on F.TSU_CTRL_rtc_sync = true) : d.rtcSecondSync = d.rtcSet d.dwnNow := by
  simp only [Dev.rtcSecondSync, hscheme, bne_iff_ne.2 hvalid, hsync, Bool.and_self, if_true]

end

/-- Settles O28: each command's conditions choose one branch of its meaning. -/
theorem deviceTimeCommandsComplete : Obligations.DeviceTimeCommandsComplete := by
  refine ⟨fun x d e q he hsame => ?_, fun d e f q he hwant hnow hslew hf => ?_,
    fun v d q h => congrArg (ran ⟨d, q⟩) (Dev.tsuRateWrite_servo h _),
    fun v d e q h he hslew => congrArg (ran ⟨d, q⟩) (Dev.tsuRateWrite_segment h he hslew),
    fun d q hslew => congrArg (ran ⟨d, q⟩) (Dev.tsuAdjStep_steps hslew),
    fun s ppb d e q hslew hscheme hs hppb he => congrArg (ran ⟨d, q⟩) (Dev.tsuAdjSlew_starts hslew hscheme hs hppb he),
    fun t d e q hslew ht hlo hhi he => congrArg (ran ⟨d, q⟩) (Dev.tsuAdjSet_sets hslew ht hlo hhi he),
    fun w x z more d e f g q hw hcmd hx hdue hz hmore hg he hf =>
      congrArg (ran ⟨d, q⟩) (Dev.slewEnd_due hw hcmd hx hdue hz hmore hg he hf),
    fun p c d e q hedge hlock hc hlast hshort he => congrArg (ran ⟨d, q⟩) (Dev.ppsEdge_early hedge hlock hc he hlast hshort),
    fun c d e f x err q hedge hlock hc hnone he hx herr hf hservo =>
      congrArg (ran ⟨d, q⟩) (Dev.ppsEdge_first hedge hlock hc he hnone hx herr hf hservo),
    fun d e q hlock hold he => congrArg (ran ⟨d, q⟩) (Dev.ppsHoldover_begins hlock hold he),
    fun d q hscheme hvalid hsync => congrArg (ran ⟨d, q⟩) (Dev.rtcSecondSync_syncs hscheme hvalid hsync), fun v d q => rfl⟩
  · subst he
    exact congrArg (ran ⟨d, q⟩) (Dev.handover_settled hsame)
  · subst he
    exact congrArg (ran ⟨d, q⟩) (Dev.handover_toTick hwant hnow hslew hf)

end Sys2Proof.Machine
end

section
/-! PROOF. Pulse outputs, the time-event ring, and the registers that read and convert time (R359, R361–R363, R367; O29). -/

namespace Sys2Proof.Machine

section
variable {d e f : Dev}

/-! ### Pulse outputs (R359–R361) -/

section
variable {k : Nat}

theorem Dev.pulseArm_narrow (h : d.rd (F.TSU_PULSE_WIDTH_width.at k) < 10) :
    d.pulseArm k = (d.setF (F.TSU_PULSE_STAT_cfg_bad.at k)).clrF (F.TSU_PULSE_CTRL_arm.at k) := by
  simp only [Dev.pulseArm, h, decide_true, Bool.true_or, if_true]

theorem Dev.pulseArm_repeating {w per : Nat} {t : Int} (hw : w = d.rd (F.TSU_PULSE_WIDTH_width.at k))
    (hper : per = d.pulsePeriod k) (hwide : 10 ≤ w) (hwithin : w < per) (hslow : 1000 ≤ per)
    (hns : d.rd (F.TSU_PULSE_PER_NS_per_ns.at k) < 1000000000)
    (ht : t = (d.rd (F.TSU_PULSE_START_SEC_LO_sec.at k) * 1000000000 + d.rd (F.TSU_PULSE_START_NS_ns.at k) : Nat)) :
    d.pulseArm k = (d.setPulse k { d.pulse k with
      next := if t < d.devNs then t + ((d.devNs - t - 1) / per + 1) * per else t }).setF (F.TSU_PULSE_CTRL_arm.at k) := by
  have hrepeats : per ≠ 0 := Nat.ne_of_gt (Nat.lt_of_lt_of_le (Nat.succ_pos 999) hslow)
  simp only [Dev.pulseArm, ← hw, ← hper, ← ht, Nat.not_lt.2 hwide, Nat.not_le.2 hwithin, Nat.not_lt.2 hslow, Nat.not_le.2 hns,
    hrepeats, decide_false, Bool.and_false, Bool.or_self, Bool.false_eq_true, if_false]

theorem Dev.pulseLeadingEdge_repeating {p : Pulse} (harm : d.on (F.TSU_PULSE_CTRL_arm.at k) = true) (hp : p = d.pulse k)
    (hdue : p.next ≤ d.devNs) (hrepeats : d.pulsePeriod k ≠ 0) (he : e = d.setPulse k
      { next := p.next + d.pulsePeriod k, trail := some (p.next + d.rd (F.TSU_PULSE_WIDTH_width.at k)), leadTick := d.tick })
    (hf : f = e.emit (.pulse k (true != e.on (F.TSU_PULSE_CTRL_polarity.at k)))) :
    d.pulseLeadingEdge k = if f.on (F.TSU_PULSE_CTRL_pulse_evt.at k) then (f.timeEvent 6 k 0).raise (382 + k) else f := by
  simp only [Dev.pulseLeadingEdge, Dev.pulseDrive, harm, ← hp, hdue, hrepeats, ← he, ← hf, decide_true, Bool.and_self, if_false,
    if_true]

theorem Dev.pulseTrailingEdge_due {p : Pulse} {t : Int} (hp : p = d.pulse k) (htrail : p.trail = some t) (hdue : t ≤ d.devNs)
    (hwide : p.leadTick + 10 ≤ d.tick) (he : e = d.setPulse k { p with trail := none }) :
    d.pulseTrailingEdge k = e.emit (.pulse k (false != e.on (F.TSU_PULSE_CTRL_polarity.at k))) := by
  simp only [Dev.pulseTrailingEdge, Dev.pulseDrive, ← hp, htrail, hdue, hwide, ← he, decide_true, Bool.and_self, if_true]

end

/-! ### The time-event ring (R362, R363) -/

theorem Dev.teBuf_posts {n : Fin 64} {w : BitVec 512} {l : List Byte} (hz : wUnusedZero w [(8, 20)] = true)
    (hr : wReservedOk w = true) (hwhole : wLen w % 32 = 0) (hlo : 32 ≤ wLen w) (hhi : wLen w ≤ 65536) :
    d.teBuf { via := .ring n, w := w, data := l }
      = d.setPair n.val { d.pair n.val with bufs := (d.pair n.val).bufs ++ [{ w := w }] } := by
  have hlegal := Dev.withFields_ok (d := d) (c := { via := .ring n, w := w, data := l }) hz hr
  simp only [Dev.teBuf, hlegal, hwhole, hlo, hhi, beq_self_eq_true, decide_true, Bool.and_self, if_true]

section
variable {c : Desc} (hz : wUnusedZero c.w [(24, 33), (36, 46)] = true) (hr : wReservedOk c.w = true) (hslew : d.tsu.slew = none)
include hz hr hslew

theorem Dev.teAdj_step (hmode : wArg c.w 32 1 = 0) (he : e = d.applyStep (sgn 64 (wArg c.w 24 8))) :
    d.teAdj c = e.okRes c d.tick := by
  rw [Dev.teAdj, Dev.withFields_ok hz hr, hmode, if_neg (by decide), Dev.adjust_step hslew, he]

theorem Dev.teAdj_slew {s : Int} {ppb : Nat} (hmode : wArg c.w 32 1 = 1) (hscheme : d.on F.TSU_STATUS_scheme = true)
    (hs : s = sgn 64 (wArg c.w 24 8)) (hppb : ppb = zeroAs (d.rd F.TSU_SLEW_slew_ppb) 1)
    (he : e = { d with tsu := { d.tsu with slew := some { s := s, ppb := ppb, start := d.tick, cmd := some c } } }) :
    d.teAdj c = (e.newSeg (fun g => { g with
      rate := e.rateReg + (if s < 0 then -((ppb : Int) * 2 ^ 32) else (ppb : Int) * 2 ^ 32) })).setF F.TSU_STATUS_slewing := by
  rw [Dev.teAdj, Dev.withFields_ok hz hr, hmode, if_neg (by decide), ← hs, Dev.adjust_slew hslew hscheme hppb he]

end

/-- An event that leaves room in the buffer for another keeps it at the front. -/
theorem Dev.timeEventDeliver_room {n : Nat} {it : List Byte} {b : PostedBuf} {t : List PostedBuf} {c : Cpl}
    (hn : ((d.enabledOf 7).filter d.active).head? = some n) (hit : d.fifoHead tsuFq1 = some it) (hb : (d.pair n).bufs = b :: t)
    (hhost : d.hostReach = true) (hcq : d.cqFull n = false) (hroom : b.filled + 32 < wLen b.w)
    (he : e = (({ (d.setPair n { d.pair n with bufs := { b with filled := b.filled + 32 } :: t }) with
      tsu := { d.tsu with teLost := 0 } }).fifoPop tsuFq1).evtShow)
    (hc : c = { seq := d.tsu.posted + 1 - (d.fifo tsuFq1).items.length, result := wAddr b.w + b.filled, result2 := d.tsu.teLost,
                tag := wTag b.w, status := 0, info := 0, irqNow := wIrqNow b.w, data := [(wAddr b.w + b.filled, it)] }) :
    d.timeEventDeliver = e.queueCpl n c := by
  have hinfo : 2 * b2n false = 0 := rfl
  subst he hc
  simp only [Dev.timeEventDeliver, hn, hit, hb, hhost, hcq, Nat.not_le.2 hroom, hinfo, decide_false, Bool.not_true, Bool.or_self,
    Bool.false_eq_true, if_false]
  rfl

/-! ### Conversion (R343, R367) -/

theorem Dev.tsuConvWrite_converts {m v ns sec : Nat} {t : Int} (hconv : (d.wr F.TSU_CONV_TICK_LO_tick v).convert v = (e, t))
    (hns : ns = (t % 1000000000).toNat) (hsec : sec = (t / 1000000000).toNat % 2 ^ 48)
    (hf : f = { e with tsu := { e.tsu with convCap := mput e.tsu.convCap m (ns, sec) } }) :
    d.tsuConvWrite m v = (f.wr F.TSU_CONV_NS_ns ns).wr F.TSU_CONV_SEC_LO_sec sec := by
  simp only [Dev.tsuConvWrite, hconv, ← hns, ← hsec, ← hf]

end

/-- Settles O29: each command's conditions choose one branch of its meaning. -/
theorem timeOutputCommandsComplete : Obligations.TimeOutputCommandsComplete := by
  refine ⟨fun k d q h => congrArg (ran ⟨d, q⟩) (Dev.pulseArm_narrow h),
    fun k w per t d q hw hper hwide hwithin hslow hns ht =>
      congrArg (ran ⟨d, q⟩) (Dev.pulseArm_repeating hw hper hwide hwithin hslow hns ht),
    fun k p d e f q harm hp hdue hrepeats he hf =>
      congrArg (ran ⟨d, q⟩) (Dev.pulseLeadingEdge_repeating harm hp hdue hrepeats he hf),
    fun k p t d e q hp htrail hdue hwide he =>
      congrArg (ran ⟨d, q⟩) (Dev.pulseTrailingEdge_due hp htrail hdue hwide he),
    fun n w l d q hz hr hwhole hlo hhi => congrArg (ran ⟨d, q⟩) (Dev.teBuf_posts hz hr hwhole hlo hhi),
    fun c d e q hz hr hmode hslew he => congrArg (ran ⟨d, q⟩) (Dev.teAdj_step hz hr hslew hmode he),
    fun c s ppb d e q hz hr hmode hslew hscheme hs hppb he =>
      congrArg (ran ⟨d, q⟩) (Dev.teAdj_slew hz hr hslew hmode hscheme hs hppb he),
    fun n it b t d e c q hn hit hb hhost hcq hroom he hc =>
      congrArg (ran ⟨d, q⟩) (Dev.timeEventDeliver_room hn hit hb hhost hcq hroom he hc),
    fun m d e q he => ?_,
    fun m v ns sec t d e f q hconv hns hsec hf => congrArg (ran ⟨d, q⟩) (Dev.tsuConvWrite_converts hconv hns hsec hf),
    fun d q => rfl⟩
  subst he
  rfl

end Sys2Proof.Machine
end

section
/-! PROOF. A port's enable, frames, PAUSE, transmit queues, links, wake and faults (R368–R370, R376–R379, R383–R385; O30). -/

namespace Sys2Proof.Machine

section
variable {d e f : Dev} {n : Nat}

/-! ### Enable (R368, R369) -/

theorem Dev.ethEnable_sound {v : Nat} (hoff : d.on (F.ETH_CTRL_enable.at n) = false)
    (he : e = d.regWrite32 (0xD0000 + 0x1000 * n) v) (hon : e.on (F.ETH_CTRL_enable.at n) = true)
    (hcfg : e.ethCfgOk n = true) (hf : f = e.commitRwl (0xD0000 + 0x1000 * n))
    (hkept : f.on (F.ETH_STATUS_retired.at n) = false) (hm : f.mode ≠ .dormant) :
    d.ethEnable n v = (f.setF (F.ETH_STATUS_running.at n)).presence := by
  simp only [Dev.ethEnable, hoff, ← he, hon, hcfg, ← hf, hkept, beq_false_of_ne hm, Bool.not_true, Bool.or_self,
    Bool.false_eq_true, if_false]

/-! ### Reception (R370, R376) -/

section
variable {m : EthRx} (hrun : d.ethRuns n = true)
include hrun

theorem Dev.ethFrameReceive_bad (hbad : m.fcsOk = false ∨ m.bytes.length + 4 < 64
      ∨ d.rd (F.ETH_CTRL_max_frame.at n) < m.bytes.length + 4) :
    d.ethFrameReceive n m = d.bump (F.ETH_CNT_RX1_rx_bad.at n) := by
  have hcounted : (!m.fcsOk || decide (m.bytes.length + 4 < 64)
      || decide (d.rd (F.ETH_CTRL_max_frame.at n) < m.bytes.length + 4)) = true := by
    simpa only [Bool.or_eq_true, Bool.not_eq_true', decide_eq_true_eq, or_assoc] using hbad
  simp only [Dev.ethFrameReceive, hrun, hcounted, Bool.not_true, Bool.false_eq_true, if_false, if_true]

section
variable (hfcs : m.fcsOk = true) (hlo : 64 ≤ m.bytes.length + 4)
  (hhi : m.bytes.length + 4 ≤ d.rd (F.ETH_CTRL_max_frame.at n)) (he : e = d.bump (F.ETH_CNT_RX0_rx_frames.at n))
  (htype : (ethHdr m.bytes).etype ≠ 0x8808) (hplain : e.secOn n = false)
include hfcs hlo hhi he htype hplain

/-- A unicast frame that a filter of a backhaul port matches is steered. -/
theorem Dev.ethFrameReceive_steered {k : Nat} (hfilter : e.ethFilter n (ethHdr m.bytes).dst = some k) (hback : n < 4)
    (huni : bit (ethHdr m.bytes).dst 0 = false) : d.ethFrameReceive n m = e.ethSteer n k 0 m.stamp.toNat m.bytes := by
  simp only [Dev.ethFrameReceive, hrun, hfcs, Nat.not_lt.2 hlo, Nat.not_lt.2 hhi, ← he, htype, hplain, hfilter,
    Nat.not_le.2 hback, huni, decide_false, Bool.false_and, Bool.not_true, Bool.or_self, Bool.false_eq_true, if_false]

theorem Dev.ethFrameReceive_forwarded (hfilter : e.ethFilter n (ethHdr m.bytes).dst = none) :
    d.ethFrameReceive n m = e.ethForward n m.stamp.toNat 0 m.bytes true := by
  simp only [Dev.ethFrameReceive, hrun, hfcs, Nat.not_lt.2 hlo, Nat.not_lt.2 hhi, ← he, htype, hplain, hfilter, decide_false,
    Bool.not_true, Bool.or_self, Bool.false_eq_true, if_false]

end

theorem Dev.ethLinkChange_runs {up : Bool} {r : Nat}
    (he : e = (d.flag (F.ETH_STATUS_link_up.at n) up).flag (F.ETH_STATUS_fec_lock.at n)
      (up && decide (n < 4) && d.on (F.ETH_CTRL_rs_fec.at n) && d.rd (F.ETH_CTRL_mode.at n) == 0))
    (hf : f = (if up then e.wr (F.ETH_STATUS_rate.at n) r else e)) :
    d.ethLinkChange n up r = ((f.ethEvent n F.ETH_EVENT_link_change).presence).ethFlow := by
  simp only [Dev.ethLinkChange, hrun, ← he, ← hf, Bool.not_true, Bool.false_eq_true, if_false]

end

/-! ### PAUSE (R378, R379) -/

theorem Dev.pauseExpiry_clears {c x : Nat}
    (hx : x = (if d.on (F.ETH_CTRL_pfc_en.at n) then setBits (d.ethP n).pause c 1 0 else 0))
    (he : e = d.modEthP n (fun (p : EthPort) => { p with pause := x })) :
    d.pauseExpiry n c = (e.flag (F.ETH_STATUS_paused.at n) (x != 0)).ethFlow := by
  simp only [Dev.pauseExpiry, ← hx, ← he]

theorem Dev.pauseStorm_ignores (hpaused : (d.ethP n).pause ≠ 0) (hmax : d.rd (F.ETH_FLOW2_pause_max.at n) ≠ 0)
    (he : e = (d.setF (F.ETH_STATUS_pause_storm.at n)).ethEvent n F.ETH_EVENT_pause_storm) :
    d.pauseStorm n = ((e.modEthP n (fun (p : EthPort) => { p with pause := 0, ignoring := true })).clrF
      (F.ETH_STATUS_paused.at n)).ethFlow := by
  simp only [Dev.pauseStorm, hpaused, hmax, ← he, decide_false, Bool.or_self, Bool.false_eq_true, if_false]

section
variable {p : Nat} (hxoff : bit (d.ethP n).xoff p = true)
include hxoff

theorem Dev.pauseResend_above (htx : d.on (F.ETH_CTRL_pause_tx_en.at n) = true)
    (habove : d.rd (F.ETH_FLOW_xon.at n) * d.ethUnits n p < d.ethLevel n p * 16) :
    d.pauseResend n p = d.pauseSend n p (d.rd (F.ETH_FLOW_pause_quanta.at n)) := by
  simp only [Dev.pauseResend, htx, hxoff, habove, decide_true, Bool.and_self, if_true]

/-- A final PAUSE goes out under PFC, and otherwise when no other partition holds the sender. -/
theorem Dev.xonPauseSend_final (hbelow : d.ethLevel n p * 16 ≤ d.rd (F.ETH_FLOW_xon.at n) * d.ethUnits n p)
    (he : e = d.modEthP n (fun (x : EthPort) => { x with xoff := setBits x.xoff p 1 0 }))
    (hlast : e.on (F.ETH_CTRL_pfc_en.at n) = true ∨ (e.ethP n).xoff = 0) : d.xonPauseSend n p = e.pauseSend n p 0 := by
  have hgoes : (!e.on (F.ETH_CTRL_pfc_en.at n) && (e.ethP n).xoff != 0) = false := by
    rcases hlast with h | h <;> simp [h]
  simp only [Dev.xonPauseSend, hxoff, hbelow, ← he, hgoes, decide_true, Bool.and_self, Bool.false_eq_true, if_false, if_true]

end

/-! ### Transmit queues (R377) -/

section
variable {k a : Nat} (he : e = d.ethFlow)
include he

theorem Dev.ethTxDone_sends {u : Nat} (hdead : e.txqDead n = none) (hnext : e.ethNext n = some (u, 2, k))
    (hhead : e.txqHead k = some a) (hf : f = e.modEthP n (fun (p : EthPort) => { p with lastQ := k, lastSrc := 2 })) :
    d.ethTxDone n = ((f.ethSend n (f.mem.readBytes (a + 16) (f.memRd a 2))).txqMark k a true).ethFlow := by
  simp only [Dev.ethTxDone, ← he, hdead, hnext, hhead, ← hf]

theorem Dev.ethTxDone_dead (hdead : e.txqDead n = some (k, a)) : d.ethTxDone n = (e.txqMark k a false).ethFlow := by
  simp only [Dev.ethTxDone, ← he, hdead]

end

/-! ### Wake (R383) -/

theorem Dev.ethWakeCfgWrite_arms {v : Nat} (hfew : popcount 8 (bits v 8 8) ≤ 2)
    (hmodes : ∀ i, i < 8 → bit (bits v 8 8) i = true → d.rd (F.ETH_CTRL_mode.at (4 + i)) = 1)
    (he : e = (d.wr F.ETH_WAKE_CFG_link_wake (bits v 16 8)).wr F.ETH_WAKE_CFG_pat_en (bits v 0 4)) :
    d.ethWakeCfgWrite v = e.wr F.ETH_WAKE_CFG_arm (bits v 8 8) := by
  have hall : ((List.range 8).all fun i => !bit (bits v 8 8) i || (d.rd (F.ETH_CTRL_mode.at (4 + i)) == 1
      || (d.rd (F.ETH_CTRL_mode.at (4 + i)) == 0
        && (!d.on (F.ETH_CTRL_an_en.at (4 + i)) || d.rd (F.ETH_STATUS_rate.at (4 + i)) == 2)))) = true := by
    refine List.all_eq_true.2 fun i hi => ?_
    cases harmed : bit (bits v 8 8) i with
    | false => rfl
    | true => rw [hmodes i (List.mem_range.1 hi) harmed]; rfl
  simp only [Dev.ethWakeCfgWrite, hfew, hall, ← he, decide_true, Bool.and_self, if_true]

theorem Dev.ethWake_dormant {fr : Option (List Byte)} (hm : d.mode = .dormant) (hcool : d.on F.PMU_RST_CAUSE_thermal_stop = false)
    (hseen : d.wakeSeen n fr = (e, true)) : d.ethWake n fr = e.wake 1 := by
  simp only [Dev.ethWake, hm, hcool, hseen, bne_self_eq_false, Bool.or_self, Bool.false_eq_true, if_false, if_true]

/-! ### Faults (R385) -/

/-- A transient fault below the retirement threshold, or without one, only joins its window. -/
theorem Dev.ethTransientFault_counts {g : Dev} {fec : Bool} {fs : List Nat}
    (hfs : fs = ((d.ethP n).faults.filter (fun t => d.tick < t + zeroAs (d.rd (F.ETH_ERR_CFG_window.at n)) 1 * sNs)) ++ [d.tick])
    (he : e = d.modEthP n (fun (p : EthPort) => { p with faults := fs }))
    (hf : f = (if fec then e.bump (F.ETH_CNT_CTL2_fec_uncorr.at n) else e))
    (hg : g = (f.ethEvent n F.ETH_EVENT_fault).trouble 0x26 1 4 3 n fs.length)
    (hthr : g.rd (F.ETH_ERR_CFG_retire_thr.at n) = 0 ∨ fs.length < g.rd (F.ETH_ERR_CFG_retire_thr.at n)) :
    d.ethTransientFault n fec = g := by
  have hfew : ¬ (g.rd (F.ETH_ERR_CFG_retire_thr.at n) ≠ 0 ∧ g.rd (F.ETH_ERR_CFG_retire_thr.at n) ≤ fs.length) := by omega
  simp only [Dev.ethTransientFault, ← hfs, ← he, ← hf, ← hg, Bool.and_eq_true, bne_iff_ne, decide_eq_true_eq, hfew, if_false]

end

/-- Settles O30: each event's conditions choose one branch of its meaning. -/
theorem ethernetPortCommandsComplete : Obligations.EthernetPortCommandsComplete := by
  exact ⟨fun n v d e f q hoff he hon hcfg hf hkept hm =>
      congrArg (ran ⟨d, q⟩) (Dev.ethEnable_sound hoff he hon hcfg hf hkept hm),
    fun n m d q hrun hbad => congrArg (ran ⟨d, q⟩) (Dev.ethFrameReceive_bad hrun hbad),
    fun n m k d e q hrun hfcs hlo hhi he htype hplain hfilter hback huni => congrArg (ran ⟨d, q⟩)
      (Dev.ethFrameReceive_steered hrun hfcs hlo hhi he htype hplain hfilter hback huni),
    fun n m d e q hrun hfcs hlo hhi he htype hplain hfilter => congrArg (ran ⟨d, q⟩)
      (Dev.ethFrameReceive_forwarded hrun hfcs hlo hhi he htype hplain hfilter),
    fun n c x d e q hx he => congrArg (ran ⟨d, q⟩) (Dev.pauseExpiry_clears hx he),
    fun n d e q hpaused hmax he => congrArg (ran ⟨d, q⟩) (Dev.pauseStorm_ignores hpaused hmax he),
    fun n p d q htx hxoff habove => congrArg (ran ⟨d, q⟩) (Dev.pauseResend_above hxoff htx habove),
    fun n p d e q hxoff hbelow he hlast => congrArg (ran ⟨d, q⟩) (Dev.xonPauseSend_final hxoff hbelow he hlast),
    fun k v d q => rfl,
    fun n u k a d e f q he hdead hnext hhead hf => congrArg (ran ⟨d, q⟩) (Dev.ethTxDone_sends he hdead hnext hhead hf),
    fun n k a d e q he hdead => congrArg (ran ⟨d, q⟩) (Dev.ethTxDone_dead he hdead),
    fun mac vid d q => rfl,
    fun v d e q hfew hmodes he => congrArg (ran ⟨d, q⟩) (Dev.ethWakeCfgWrite_arms hfew hmodes he),
    fun n fr d e q hm hcool hseen => congrArg (ran ⟨d, q⟩) (Dev.ethWake_dormant hm hcool hseen),
    fun n up r d e f q hrun he hf => congrArg (ran ⟨d, q⟩) (Dev.ethLinkChange_runs hrun he hf),
    fun n fec fs d e f g q hfs he hf hg hthr =>
      congrArg (ran ⟨d, q⟩) (Dev.ethTransientFault_counts hfs he hf hg hthr),
    fun n cause d q => rfl, fun n d q => rfl⟩

end Sys2Proof.Machine
end

section
/-! PROOF. Gavotte's enable and mount, its programs, journal and collections, and die faults (R392–R412, R421; O32). -/

namespace Sys2Proof.Machine

section
variable {d e f : Dev}

/-! ### Enable (R421) -/

section
variable {v : Nat} (hoff : d.on F.GAV_CTRL_enable = false) (he : e = d.regWrite32 0xE0000 v)
  (hon : e.on F.GAV_CTRL_enable = true)
include hoff he hon

theorem Dev.gavEnable_sound (hx1 : 1 ≤ e.rd F.GAV_AREA_CFG_xring) (hx32 : e.rd F.GAV_AREA_CFG_xring ≤ 32)
    (hm1 : 1 ≤ e.rd F.GAV_AREA_CFG_mapc) (hm32 : e.rd F.GAV_AREA_CFG_mapc ≤ 32)
    (harea : e.inDram (e.extBase - 0x8000000)
      (0x8000000 + (e.rd F.GAV_AREA_CFG_xring + e.rd F.GAV_AREA_CFG_mapc) * 0x4000000) = true) :
    d.gavEnable v = (e.commitRwl 0xE0000).setF F.GAV_STATUS_mounting := by
  simp only [Dev.gavEnable, hoff, ← he, hon, hx1, hx32, hm1, hm32, harea, decide_true, Bool.and_self, Bool.false_and,
    Bool.not_true, Bool.or_self, Bool.false_eq_true, if_false, if_true]

theorem Dev.gavEnable_without_map_cache (hm : e.rd F.GAV_AREA_CFG_mapc = 0) :
    d.gavEnable v = (e.clrF F.GAV_CTRL_enable).setF F.GAV_STATUS_area_bad := by
  have hnone : decide (1 ≤ 0) = false := rfl
  simp only [Dev.gavEnable, hoff, ← he, hon, hm, hnone, Bool.false_and, Bool.and_false, Bool.not_true,
    Bool.or_self, Bool.false_eq_true, if_false]

end

/-! ### The mount (R403) -/

theorem Dev.gavMount_sound {dieOk : Bool} {g h : Dev} {unit first top oldest : Nat} (hm : d.on F.GAV_STATUS_mounting = true)
    (he : e = d.gavGeom) (hback : e.gav.deadDies.filter e.dieFit = []) (hform : e.gav.formatted = true)
    (hanchor : e.gav.anchors.any (fun a => e.dieUp a.1) = true) (hsd : e.gav.sdiscs = [])
    (hf : f = ({ e with gav := { e.gav with
      map := e.gav.dmap, mounted := some true, extIssued := e.gav.extDone, discards := [], clean := false } }).anchorsMove.gavCaps)
    (hg : g = f.wr F.GAV_NSEQ_LO_nseq f.gav.nseq)
    (hunit : unit = ((mget? g.gav.sysval 1).getD (g.rd F.VAL_PAIR_unit * 2 ^ 63)) / 2 ^ 63)
    (hfirst : first = max 1 (cnt63 ((mget? g.gav.sysval 5).getD 1))) (htop : top = g.gav.topRecord first unit)
    (hold : oldest = max first (32 * (top / 32 + 1 - g.gav.recRegion)))
    (hh : h = (g.wr F.GAV_FLUSHED_LO_flushed (unit * 2 ^ 63 + top)).wr F.GAV_OLDEST_LO_oldest (unit * 2 ^ 63 + oldest)) :
    d.gavMount true dieOk = ({ h with
      gav := { h.gav with recIssued := top, recDone := top }
      cu := { h.cu with unitNext := max h.cu.unitNext h.gav.extDone } }).spareShow.discardsEnd := by
  have hsame : (if dieOk then { e with gav := ([] : List Nat).foldl (fun g x => g.dieFree x) e.gav }
      else ([] : List Nat).foldl (fun d x => d.dieRetire x (Config.retireCause 4 2).toNat []) e) = e := ite_self e
  have hanchored : (e.gav.formatted && e.gav.anchors.any (fun a => e.dieUp a.1)) = true := by rw [hform, hanchor]; rfl
  have hnosd : e.gav.sdiscs.isEmpty = true := List.isEmpty_iff.2 hsd
  simp only [Dev.gavMount, hm, ← he, hback, hsame, hanchored, hnosd, Bool.not_true, Bool.false_eq_true, if_false, if_true,
    ← hf, ← hg, ← hunit, ← hfirst, ← htop, ← hold, ← hh]

theorem Dev.gavMountDone_unformatted (hm : d.gav.mounted = some false) : d.gavMountDone
    = ((({ d with gav := { d.gav with mounted := none } }).clrF F.GAV_STATUS_mounting).raise 431).setF
        F.GAV_STATUS_unformatted := by
  simp only [Dev.gavMountDone, hm, Bool.not_false, if_true]

/-- The values of Bolero's epoch and MSR's checkpoint come from the journal, as no newer one waits for it (R402). -/
theorem Dev.gavMountDone_sound {v3 v4 : Nat} {x : Dev} (hm : d.gav.mounted = some true)
    (he : e = (({ d with gav := { d.gav with mounted := none } }).clrF F.GAV_STATUS_mounting).raise 431)
    (hgood : e.on F.GAV_STATUS_mount_fail = false) (hx : x = (e.setF F.GAV_STATUS_running).commitLoad)
    (hdue3 : x.gav.sysvalDue 3 = false) (h3 : mget? x.gav.sysval 3 = some v3) (hf : f = x.epochLoad v3)
    (hdue4 : f.gav.sysvalDue 4 = false) (h4 : mget? f.gav.sysval 4 = some v4) : d.gavMountDone
      = (({ f with msr := { f.msr with newer := v4 / 2 ^ 64 } }).wr F.MSR_CKPT_SEQ_LO_ckpt_seq v4).commitRecover := by
  simp only [Dev.gavMountDone, hm, ← he, hgood, ← hx, hdue3, h3, Option.map_some, Option.getD_some, ← hf, hdue4, h4,
    Bool.not_true, Bool.false_eq_true, if_false]

/-! ### Programs and the journal (R395, R400, R402) -/

theorem Dev.gavSectorProgram_full {k : Nat} (hk : k = (d.gav.recIssued + 1) / 32) (hserve : d.gavServing = true)
    (hfull : 32 * k + 31 ≤ d.pubCount) : d.gavSectorProgram = d.recIssue (32 * k + 31) := by
  subst hk
  simp only [Dev.gavSectorProgram, hserve, hfull, Bool.not_true, Bool.false_eq_true, if_false, if_true]

theorem Dev.gavPartialFlush_serving (hserve : d.gavServing = true) : d.gavPartialFlush = d.partialIssue := if_pos hserve

theorem Dev.gavProgramDone_good {p : GavProg} {l : List GavProg} {place : Nat} (hp : d.gav.prog = p :: l)
    (hplace : p.place = some place) :
    d.gavProgramDone true = ({ d with gav := { d.gav with prog := l } }).progGood p place := by
  simp only [Dev.gavProgramDone, hp, hplace, if_true]

theorem Dev.gavJournalSector_durable {place n k : Nat} {now : List JEnt} {g : Gav} (hrun : d.on F.GAV_STATUS_running = true)
    (hsome : d.gav.jpend.isEmpty = false) (hnow : now = d.gav.jpend.take 256) (htake : d.sectorTake 5 = some (e, place, n))
    (hk : k = e.gav.blkAt place)
    (hg : g = now.foldl Gav.durable
      { e.gav with jBlks := if e.gav.jBlks.contains k then e.gav.jBlks else e.gav.jBlks ++ [k] })
    (hfew : g.jSects + 1 < 65536) : d.gavJournalSector true = Dev.afterJournal { e with gav := { g with
      jpend := g.jpend.drop now.length, sects := mput g.sects place { lsn := 2 ^ 64 - 1, nseq := n, kind := 5 },
      jSects := g.jSects + 1 } } := by
  simp only [Dev.gavJournalSector, hrun, hsome, htake, ← hnow, ← hk, ← hg, Nat.not_le.2 hfew, Bool.not_true, Bool.or_self,
    Bool.false_eq_true, if_false]

theorem Dev.gavSysvalWrite_owned {i v : Nat} (h1 : 1 ≤ i) (h5 : i ≤ 5) :
    d.gavSysvalWrite i v = { d with gav := { d.gav with jpend := d.gav.jpend ++ [.sysval i v] } } := by
  simp only [Dev.gavSysvalWrite, h1, h5, decide_true, Bool.and_self, if_true]
  rfl

/-! ### Collection (R405, R406) -/

section
variable {die : Nat} {r : GcRun}

theorem Dev.gavGcStart_best {k : Nat} (hserve : d.gavServing = true) (hup : d.dieUp die = true)
    (hidle : mget? d.gav.gc die = none) (hdisc : d.gav.discards = []) (hdoom : d.gav.doomed = []) (hnow : d.gav.gcNow = [])
    (hen : d.on F.GAV_CTRL_gc_en = true) (hlow : d.gav.freeCount die ≤ d.rd F.GAV_GC_gc_low) (hm : d.mode ≠ .storm)
    (hbest : d.gcBest die = some k)
    (he : e = { d with gav := { d.gav with collecting := if d.gav.collecting.contains die then d.gav.collecting
      else d.gav.collecting ++ [die] } }) :
    d.gavGcStart die = (e.clrF F.GAV_STATUS_gc_deferred).gcBegin die k := by
  have hmust : d.gav.discards.flatMap (·.blocks) ++ d.gav.doomed = [] := by rw [hdisc, hdoom]; rfl
  have hasked : d.gav.gcNow.any (fun x => x.2.contains die) = false := by rw [hnow]; rfl
  simp only [Dev.gavGcStart, hserve, hup, hidle, hmust, hasked, hen, hlow, beq_false_of_ne hm, hbest, ← he,
    List.find?_nil, Option.isSome_none, decide_true, Bool.true_or,
    Bool.and_self, Bool.or_true, Bool.false_and, Bool.not_true, Bool.or_self, Bool.false_eq_true, if_false]

theorem Dev.gavGcCopyDone_copied {reads : List (Nat × Bool)} {g : Dev} {js : List JEnt} {left : Bool}
    (hr : mget? d.gav.gc die = some r) (hphase : r.phase = .copy)
    (he : e = d.hardReads (fun n => (entryPlace (tget d.gav.map n)).any (fun p => d.gav.blkAt p == r.src)) reads)
    (hf : (e.gav.validIn r.src).foldl (fun (a : Dev × List JEnt) x =>
      ((a.1.gcCopy die x.1 x.2).1, a.2 ++ (a.1.gcCopy die x.1 x.2).2)) (e, []) = (f, js))
    (hg : g = (f.gav.segsIn r.src).foldl (fun d s => d.segWrite s) f)
    (hleft : left = (!(g.gav.validIn r.src).isEmpty || !(g.gav.segsIn r.src).isEmpty)) :
    d.gavGcCopyDone die reads true = { g with gav := { g.gav with
      gc := mput g.gav.gc die { r with sects := r.sects ++ js, phase := if left then .copy else .journal } } } := by
  simp only [Dev.gavGcCopyDone, hr, hphase, ← he, hf, ← hg, ← hleft, bne_self_eq_false, Bool.not_true, Bool.false_eq_true,
    if_false]

theorem Dev.gavGcErase_begins (hr : mget? d.gav.gc die = some r) (hphase : r.phase = .journal)
    (hdurable : r.sects.any d.gav.jpend.contains = false) (hhold : d.hold = false) (hdoom : d.gav.doomed.contains r.src = false) :
    d.gavGcErase die = { d with gav := { d.gav with
      blks := mput d.gav.blks r.src { d.gav.blk r.src with use := .erasing }
      gc := mput d.gav.gc die { r with phase := .erase }
      jpend := d.gav.jpend ++ [.eraseBegin die (r.src % 16384)] } } := by
  simp only [Dev.gavGcErase, hr, hphase, hdurable, hhold, hdoom, bne_self_eq_false, Bool.or_self, Bool.false_and,
    Bool.false_eq_true, if_false]
  rfl

theorem Dev.gavEraseDone_freed (hr : mget? d.gav.gc die = some r) (hphase : r.phase = .erase)
    (hwear : 2 * d.gav.erasesOf r.src < 3 * d.peRated) (hdoom : d.gav.doomed.contains r.src = false)
    (he : e = { d with gav := { d.gav.wipe r.src with
      blks := mput (d.gav.wipe r.src).blks r.src { use := .free, erases := (d.gav.blk r.src).erases + 1 } } })
    (hf : f = e.bump F.GAV_CNT_BLK_collected) :
    d.gavEraseDone die true = (f.journal (.free die (r.src % 16384) (f.gav.erasesOf r.src))).gcFinish die r.src := by
  simp only [Dev.gavEraseDone, hr, hphase, Nat.not_le.2 hwear, hdoom, ← he, ← hf, bne_self_eq_false, Bool.not_true,
    Bool.false_eq_true, if_false]

end

/-! ### Die faults (R412) -/

theorem Dev.gavDieFault_permanent {die : Nat} {lost : List Nat} (hup : d.dieUp die = true) :
    d.gavDieFault die true lost = d.dieRetire die (Config.retireCause 4 2).toNat lost := by
  simp only [Dev.gavDieFault, hup, Bool.not_true, Bool.false_eq_true, if_false, if_true]

theorem Dev.gavDieFault_transient {die : Nat} {lost : List Nat} (hup : d.dieUp die = true) :
    d.gavDieFault die false lost = d.trouble gavId 1 4 4 die ((mgetD d.gav.dieEv die []).length) := by
  simp only [Dev.gavDieFault, hup, Bool.not_true, Bool.false_eq_true, if_false]

end

/-- Settles O32: each clause is the case of the event's meaning in which nothing stands in its way. -/
theorem gavotteEventsComplete : Obligations.GavotteEventsComplete := by
  exact ⟨fun v d e q hoff he hon hx1 hx32 hm1 hm32 harea =>
      congrArg (ran ⟨d, q⟩) (Dev.gavEnable_sound hoff he hon hx1 hx32 hm1 hm32 harea),
    fun v d e q hoff he hon hm => congrArg (ran ⟨d, q⟩) (Dev.gavEnable_without_map_cache hoff he hon hm),
    fun dieOk d e f g h unit first top oldest q hm he hback hform hanchor hsd hf hg hunit hfirst htop hold hh =>
      congrArg (ran ⟨d, q⟩) (Dev.gavMount_sound hm he hback hform hanchor hsd hf hg hunit hfirst htop hold hh),
    fun d q hm => congrArg (fun (x : Dev) => ran ⟨d, q⟩ x.enginesReady.campPurge) (Dev.gavMountDone_unformatted hm),
    fun v3 v4 d e x f q hm he hgood hx hdue3 h3 hf hdue4 h4 => congrArg (fun (x : Dev) => ran ⟨d, q⟩ x.enginesReady.campPurge)
      (Dev.gavMountDone_sound hm he hgood hx hdue3 h3 hf hdue4 h4),
    fun k d q hk hserve hfull => congrArg (ran ⟨d, q⟩) (Dev.gavSectorProgram_full hk hserve hfull),
    fun d q hserve => congrArg (ran ⟨d, q⟩) (Dev.gavPartialFlush_serving hserve),
    fun p l place d q hp hplace => congrArg (ran ⟨d, q⟩) (Dev.gavProgramDone_good hp hplace),
    fun place n k d e now g q hrun hsome hnow htake hk hg hfew =>
      congrArg (ran ⟨d, q⟩) (Dev.gavJournalSector_durable hrun hsome hnow htake hk hg hfew),
    fun x v d q h1 h5 => congrArg (ran ⟨d, q⟩) (Dev.gavSysvalWrite_owned h1 h5),
    fun die k d e q hserve hup hidle hdisc hdoom hnow hen hlow hm hbest he => congrArg (ran ⟨d, q⟩)
      (Dev.gavGcStart_best hserve hup hidle hdisc hdoom hnow hen hlow hm hbest he),
    fun die reads r d e f g js left q hr hphase he hf hg hleft =>
      congrArg (ran ⟨d, q⟩) (Dev.gavGcCopyDone_copied hr hphase he hf hg hleft),
    fun die r d q hr hphase hdurable hhold hdoom =>
      congrArg (ran ⟨d, q⟩) (Dev.gavGcErase_begins hr hphase hdurable hhold hdoom),
    fun die r d e f q hr hphase hwear hdoom he hf =>
      congrArg (ran ⟨d, q⟩) (Dev.gavEraseDone_freed hr hphase hwear hdoom he hf),
    fun die lost d q hup => ⟨congrArg (ran ⟨d, q⟩) (Dev.gavDieFault_permanent hup),
      congrArg (ran ⟨d, q⟩) (Dev.gavDieFault_transient hup)⟩⟩

end Sys2Proof.Machine
end

section
/-! PROOF. The archive ring's commands and Gavotte's management commands (R392, R405, R408, R416, R417; O33). -/

namespace Sys2Proof.Machine

section
variable {d e f : Dev} {c : Desc} (hr : wReservedOk c.w = true)
include hr

/-! ### GAV_FORMAT and GAV_INFO (R417) -/

theorem Dev.gavFormat_sound {r x h p : Nat} {g : Dev} (hz : wUnusedZero c.w [(24, 40)] = true) (hrec : r = wArg c.w 28 4)
    (hext : x = wArg c.w 32 4) (hhost : h = wArg c.w 36 4) (hoff : d.on F.REEL_CTRL_enable = false)
    (hmagic : wArg c.w 24 4 = 0x464D9640) (hfit : r + x + h + 1 ≤ d.capacityE)
    (he : e = ({ d with
      gav := d.gavErased r x h, upd := { d.upd with tables := [] }
      msr := { d.msr with copies := [] } }).gavGeom.anchorsWrite.gavCaps)
    (hp : p = e.rd F.REEL_STG_PUB_LO_stg_pub)
    (hf : f = (e.wr F.GAV_FLUSHED_LO_flushed p).wr F.GAV_OLDEST_LO_oldest (p + 1))
    (hg : g = (f.clrF F.GAV_STATUS_unformatted).flag F.GAV_STATUS_running (f.on F.GAV_CTRL_enable)) :
    d.gavFormat c = g.spareShow.okRes c g.gav.eGib := by
  simp only [Dev.gavFormat, Dev.withFields_ok hz hr, hoff, ← hrec, ← hext, ← hhost, hmagic, Nat.not_lt.2 hfit, ← he, ← hp,
    ← hf, ← hg, bne_self_eq_false, decide_false, Bool.or_self, Bool.false_eq_true, if_false]

theorem Dev.gavInfo_legal (hz : wUnusedZero c.w [] = true) : d.gavInfo c
    = d.okRes c (d.rd F.GAV_CAP1_e_gib + d.diesUp.length * 2 ^ 16) (uns 64 (sgn 32 (d.rd F.GAV_SPARE_spare))) :=
  Dev.withFields_ok hz hr _

/-! ### The commands that need a mounted format (R415, R418) -/

section
variable (hform : d.on F.GAV_STATUS_unformatted = false) (hserve : d.gavServing = true)
include hform hserve

omit hr in
theorem Dev.gavServed_mounted (k : Dev → Dev) : d.gavServed c k = k d := by
  simp only [Dev.gavServed, hform, hserve, Bool.not_true, Bool.false_eq_true, if_false]

theorem Dev.arcRead_held {reads : List (Nat × Bool)} {a n : Nat} {rs ok : List RecRead} {body : List Byte}
    (hz : wUnusedZero c.w [(8, 20), (24, 36)] = true) (ha : a = wArg c.w 24 8) (hn : n = wArg c.w 32 4)
    (hlen : wLen c.w = 128 * n) (hheld : d.rd F.GAV_OLDEST_LO_oldest ≤ a)
    (he : e = d.hardReads (fun l => (List.range (n / 32 + 2)).any (fun i => d.gav.recLsn (cnt63 a / 32 + i) == l)) reads)
    (hrs : rs = (List.range n).map (fun i => e.archRead (a + i))) (hok : ok = rs.takeWhile (fun r => r != .lost))
    (hbody : body = ok.flatMap (fun r => match r with | .found l => l | _ => zeros 128)) :
    d.arcRead c reads = if ok.length = n then e.finish c { status := 0, result := n, data := [(wAddr c.w, body)] }
      else e.finish c { status := stMediaError, result := ok.length, result2 := a + ok.length, data := [(wAddr c.w, body)] } := by
  subst hbody
  simp only [Dev.arcRead, Dev.withFields_ok hz hr, Dev.gavServed_mounted hform hserve, ← ha, ← hn, hlen, Nat.not_lt.2 hheld,
    ← he, ← hrs, ← hok, bne_self_eq_false, Bool.false_eq_true, if_false] <;>
  rfl

theorem Dev.arcFlush_published {p : Nat} (hz : wUnusedZero c.w [] = true) (hp : p = d.rd F.REEL_STG_PUB_LO_stg_pub) :
    d.arcFlush c = if p ≤ d.rd F.GAV_FLUSHED_LO_flushed then d.okRes c
      else { d with gav := { d.gav with flushes := d.gav.flushes ++ [(c, p)] } } := by
  simp only [Dev.arcFlush, Dev.withFields_ok hz hr, Dev.gavServed_mounted hform hserve, ← hp]

theorem Dev.gavSdiscardSeq_held {lo hi a b : Nat} {ks part es units : List Nat} (hz : wUnusedZero c.w [(24, 40)] = true)
    (hlo : lo = wArg c.w 24 8) (hhi : hi = wArg c.w 32 8) (hheld : d.rd F.GAV_OLDEST_LO_oldest ≤ lo) (hle : lo ≤ hi)
    (ha : a = cnt63 lo) (hb : b = min (cnt63 hi) d.pubCount)
    (hks : ks = (List.range (b / 32 + 1 - a / 32)).map (fun i => a / 32 + i)) (hpart : part = ks.filter (sdKeeps a b))
    (hunits : units = d.sdUnits a b) (he : e = part.foldl (fun d k => d.sdEraseRecs a b k) d)
    (hes : es = (units.map (· / 64)).eraseDups) (hf : f = es.foldl (fun d x => d.sdEraseUnits units x) e) :
    d.gavSdiscardSeq c = f.discard {
      cmd := some c, seqs := some (lo, hi), part := part.map f.gav.recLsn ++ es.map f.gav.extLsn
      ranges := (ks.filter (fun k => !sdKeeps a b k)).map (fun k => (f.gav.recLsn k, 1)) } := by
  simp only [Dev.gavSdiscardSeq, Dev.withFields_ok hz hr, Dev.gavServed_mounted hform hserve, ← hlo, ← hhi, ← ha, ← hb, ← hks,
    ← hpart, ← hunits, ← he, ← hes, ← hf, Nat.not_lt.2 hheld, Nat.not_lt.2 hle, decide_false, Bool.or_self,
    Bool.false_eq_true, if_false]

theorem Dev.gavGcNow_asked {dies : List Nat} (hz : wUnusedZero c.w [(24, 40)] = true)
    (hdies : dies = d.diesUp.filter (fun x => bit (wArg c.w 24 16) x && d.gav.freeCount x < d.rd F.GAV_GC_gc_high)) :
    d.gavGcNow c = if dies.isEmpty then d.okRes c
      else { d with gav := { d.gav with gcNow := d.gav.gcNow ++ [(c, dies)] } } := by
  simp only [Dev.gavGcNow, Dev.withFields_ok hz hr, Dev.gavServed_mounted hform hserve, ← hdies]

theorem Dev.gavMarkLostClear_within {lsn n : Nat} (hz : wUnusedZero c.w [(24, 36)] = true) (hlsn : lsn = wArg c.w 24 8)
    (hn : n = wArg c.w 32 4) (hin : lsn + n ≤ d.gav.hostFirst + d.gav.hostSectors) : d.gavMarkLostClear c
      = (((d.gav.map.filter (fun e => lsn ≤ e.1 && e.1 < lsn + n && bit e.2 62)).map (·.1)).foldl
          (fun d l => d.mapTrim l 1) d).okRes c := by
  simp only [Dev.gavMarkLostClear, Dev.withFields_ok hz hr, Dev.gavServed_mounted hform hserve, ← hlsn, ← hn,
    Nat.not_lt.2 hin, if_false]

/-! ### The host region (R392, R408) -/

section
variable (hrange : d.hostRangeOk c = true)
include hrange

theorem Dev.arcBlkRead_within {reads : List (Nat × Bool)} {lsn n : Nat} {ok : List (Option Nat)}
    (hz : wUnusedZero c.w [(8, 20), (24, 36)] = true) (hn : n = wArg c.w 32 4) (hlsn : lsn = d.gav.hostFirst + wArg c.w 24 8)
    (hlen : wLen c.w = 4096 * n) (he : e = d.hardReads (fun l => lsn ≤ l && l < lsn + n) reads)
    (hok : ok = ((List.range n).map (fun i => e.gav.readLsn (lsn + i))).takeWhile (·.isSome)) :
    d.arcBlkRead c reads = e.finish c {
      status := if ok.length = n then 0 else stMediaError, result := ok.length
      data := [(wAddr c.w, ok.flatMap (fun v => leBytes 4096 (v.getD 0)))] } := by
  simp only [Dev.arcBlkRead, Dev.withFields_ok hz hr, Dev.gavServed_mounted hform hserve, ← hn, ← hlsn, hlen, hrange, ← he,
    ← hok, bne_self_eq_false, Bool.not_true, Bool.false_eq_true, if_false]

theorem Dev.arcBlkWrite_issues {lsn n : Nat} (hz : wUnusedZero c.w [(8, 20), (24, 36)] = true) (hn : n = wArg c.w 32 4)
    (hsome : n ≠ 0) (hlsn : lsn = d.gav.hostFirst + wArg c.w 24 8) (hlen : wLen c.w = 4096 * n)
    (hdata : c.data.length = 4096 * n) (hrw : d.on F.GAV_STATUS_host_ro = false)
    (he : e = { d with gav := { d.gav with writes := d.gav.writes ++ [(c, n)] } }) :
    d.arcBlkWrite c = ((chunks 4096 c.data).zip (List.range n)).foldl (fun d p =>
      d.progIssue 2 { lsn := lsn + p.2, nseq := 0, kind := 2, data := leNat p.1 } 0 (some c)) e := by
  simp only [Dev.arcBlkWrite, Dev.withFields_ok hz hr, Dev.gavServed_mounted hform hserve, ← hn, ← hlsn, hlen, hdata, hrange,
    hrw, hsome, ← he, bne_self_eq_false, Bool.not_true, Bool.false_eq_true, if_false]

variable (hz : wUnusedZero c.w [(24, 36)] = true)
include hz

theorem Dev.arcTrim_within {lsn n : Nat} (hlsn : lsn = d.gav.hostFirst + wArg c.w 24 8) (hn : n = wArg c.w 32 4)
    (he : e = d.mapTrim lsn n) :
    d.arcTrim c = { e with gav := { e.gav with trims := e.gav.trims ++ [(c, .trim lsn n d.gav.nseq)] } } := by
  simp only [Dev.arcTrim, Dev.withFields_ok hz hr, Dev.gavServed_mounted hform hserve, hrange, ← hlsn, ← hn, ← he,
    Bool.not_true, Bool.false_eq_true, if_false]

theorem Dev.arcSdiscard_within : d.arcSdiscard c
    = d.discard { cmd := some c, ranges := [(d.gav.hostFirst + wArg c.w 24 8, wArg c.w 32 4)] } := by
  simp only [Dev.arcSdiscard, Dev.withFields_ok hz hr, Dev.gavServed_mounted hform hserve, hrange, Bool.not_true,
    Bool.false_eq_true, if_false]

end

end

end

/-- Settles O33: each clause is the case of the command's meaning in which nothing stands in its way. -/
theorem archiveCommandsComplete : Obligations.ArchiveCommandsComplete := by
  exact ⟨fun c reads a n d e rs ok body q hz hr hform hserve ha hn hlen hheld he hrs hok hbody => congrArg (ran ⟨d, q⟩)
      (Dev.arcRead_held hr hform hserve hz ha hn hlen hheld he hrs hok hbody),
    fun c reads lsn n d e ok q hz hr hform hserve hn hlsn hlen hrange he hok => congrArg (ran ⟨d, q⟩)
      (Dev.arcBlkRead_within hr hform hserve hrange hz hn hlsn hlen he hok),
    fun b c lsn n d0 d e q hread hz hr hform hserve hn hsome hlsn hlen hrange hdata hrw he => congrArg (ran ⟨d0, q⟩)
      ((hread _).trans (Dev.arcBlkWrite_issues hr hform hserve hrange hz hn hsome hlsn hlen hdata hrw he)),
    fun c lsn n d e q hz hr hform hserve hrange hlsn hn he => congrArg (ran ⟨d, q⟩)
      (Dev.arcTrim_within hr hform hserve hrange hz hlsn hn he),
    fun c d q hz hr hform hserve hrange => congrArg (ran ⟨d, q⟩) (Dev.arcSdiscard_within hr hform hserve hrange hz),
    fun c p d q hz hr hform hserve hp => congrArg (ran ⟨d, q⟩) (Dev.arcFlush_published hr hform hserve hz hp),
    fun c r x h p d e f g q hz hr hrec hext hhost hoff hmagic hfit he hp hf hg => congrArg (ran ⟨d, q⟩)
      (Dev.gavFormat_sound hr hz hrec hext hhost hoff hmagic hfit he hp hf hg),
    fun c d q hz hr => congrArg (ran ⟨d, q⟩) (Dev.gavInfo_legal hr hz),
    fun c lo hi a b ks part es d e f units q hz hr hform hserve hlo hhi hheld hle ha hb hks hpart hunits he hes hf =>
      congrArg (ran ⟨d, q⟩)
        (Dev.gavSdiscardSeq_held hr hform hserve hz hlo hhi hheld hle ha hb hks hpart hunits he hes hf),
    fun c dies d q hz hr hform hserve hdies => congrArg (ran ⟨d, q⟩) (Dev.gavGcNow_asked hr hform hserve hz hdies),
    fun c lsn n d q hz hr hform hserve hlsn hn hin => congrArg (ran ⟨d, q⟩)
      (Dev.gavMarkLostClear_within hr hform hserve hz hlsn hn hin)⟩

end Sys2Proof.Machine
end

section
/-! PROOF. The pair link, its HELLO, leases, the token and the switches of role (R422, R423, R428, R430–R434; O34). -/

namespace Sys2Proof.Machine

section
variable {d e f : Dev}

/-! ### The link (R422, R423) -/

theorem Dev.eplLinkUp_first (hdark : d.epl.lanes = false) (hon : d.domOn .epl = true) (hnever : d.epl.downAt = none)
    (he : e = { d with epl := { d.epl with lanes := true } }) : d.eplLinkUp = (e.linkShow true).helloEmit := by
  have hnone : d.epl.downAt.isNone = true := Option.isNone_iff_eq_none.2 hnever
  simp only [Dev.eplLinkUp, hdark, hon, ← he, hnone, Bool.not_true, Bool.or_self, Bool.false_eq_true, if_false, if_true]

theorem Dev.eplHelloTimer_running (hl : d.epl.lanes = true) (hon : d.domOn .epl = true) : d.eplHelloTimer
    = if d.on F.EPL_STATUS_link_up && d.on F.EPL_PARTNER_valid then d.eplSend 1 d.helloBody else d.helloEmit := by
  simp only [Dev.eplHelloTimer, hl, hon, Bool.not_true, Bool.or_self, Bool.false_eq_true, if_false]

section
variable (hup : d.on F.EPL_STATUS_link_up = true) (hsome : d.epl.unacked.isEmpty = false)
include hup hsome

theorem Dev.eplRetransmitTimeout_resends (hfew : d.epl.sends < 7)
    (he : e = { d with epl := { d.epl with sends := d.epl.sends + 1 } }) (hf : f = e.bump F.EPL_CNT_LINK_retrans) :
    d.eplRetransmitTimeout = f.epl.unacked.foldl (fun (d : Dev) (x : Nat × EplMsg) => d.eplEmit x.1 x.2) f := by
  simp only [Dev.eplRetransmitTimeout, hup, hsome, Nat.not_le.2 hfew, ← he, ← hf, Bool.not_true, Bool.or_self,
    Bool.false_eq_true, if_false]

theorem Dev.eplRetransmitTimeout_exhausted (hmany : 7 ≤ d.epl.sends) : d.eplRetransmitTimeout = d.eplDown := by
  simp only [Dev.eplRetransmitTimeout, hup, hsome, hmany, Bool.not_true, Bool.or_self, Bool.false_eq_true, if_false, if_true]

end

/-! ### Messages of the partner (R423, R428, R430, R431) -/

section
variable {m : EplRx} (hl : d.epl.lanes = true) (hon : d.domOn .epl = true) (hcrc : m.crcOk = true)
include hl hon hcrc

theorem Dev.hello_downLink (hdown : d.on F.EPL_STATUS_link_up = false) : d.hello m = d.helloExchange m := by
  simp only [Dev.hello, hl, hon, hcrc, hdown, Bool.not_true, Bool.not_false, Bool.or_self, Bool.true_or, Bool.false_eq_true,
    if_false, if_true]

variable (hseq : d.eplInOrder m = true)
include hseq

theorem Dev.hello_knownSession {other : Bool} (hup : d.on F.EPL_STATUS_link_up = true)
    (hvalid : d.on F.EPL_PARTNER_valid = true) (hses : leAt m.payload 8 8 = d.epl.partnerSession) (htx : m.txSeq ≠ 0#32)
    (he : e = (d.eplHeard m).helloShow m.payload)
    (hother : other = (e.on F.EPL_PARTNER_active && (d.eplHigher m || (e.on F.EPL_PARTNER_token && !e.on F.EPL_STATUS_token)))) :
    d.hello m = ((if bit (byteAt m.payload 3) 2 then e.partnerGone else e).eplYield other).swapCheck := by
  have hnumbered : (m.txSeq == 0) = false := beq_false_of_ne htx
  simp only [Dev.hello, hl, hon, hcrc, hup, hvalid, hses, hnumbered, Dev.eplIn_inOrder hl hon hcrc hseq, ← he, ← hother,
    bne_self_eq_false, Bool.false_and, Bool.not_true, Bool.or_self, Bool.false_eq_true, if_false]

theorem Dev.lease_inOrder (he : e = (d.eplHeard m).eplYield (d.eplHigher m))
    (hf : f = (if e.on F.EPL_STATUS_token then e
      else { e with epl := { e.epl with view := some (e.tick + leAt m.payload 4 4 * msNs) } })) :
    d.lease m = f.eplSend 3 (leBytes 4 (leAt m.payload 0 4)) := by
  simp only [Dev.lease, Dev.eplIn_inOrder hl hon hcrc hseq, ← he, ← hf]

theorem Dev.leaseAck_known {t : Nat} (hsent : mget? (d.eplHeard m).epl.leases (leAt m.payload 0 4) = some t)
    (he : e = (d.eplHeard m).sample 0x0F 0 (((d.eplHeard m).tick - t) / 1000)) (hheld : e.on F.EPL_STATUS_token = true) :
    d.leaseAck m = ({ e with epl := { e.epl with
      expiry := some (t + e.leaseNs), leases := e.epl.leases.filter (fun x => t < x.2) } }).clrF F.EPL_STATUS_witness_held := by
  simp only [Dev.leaseAck, Dev.eplIn_inOrder hl hon hcrc hseq, hsent, ← he, hheld, if_true]

theorem Dev.tokenRelease_inOrder (he : e = d.eplHeard m) : d.tokenRelease m
    = { e with epl := { e.epl with handAt := some (e.tick + leAt m.payload 0 4 * msNs) } } := by
  subst he
  exact Dev.eplIn_inOrder hl hon hcrc hseq _

end

/-! ### The lease and the token (R430–R434) -/

theorem Dev.leaseRenewTimer_holder {n : Nat} (hheld : d.on F.EPL_STATUS_token = true) (hlink : d.eplApart = false)
    (hpartner : d.on F.EPL_PARTNER_retired = false) (hn : n = (d.epl.renewNo + 1) % 2 ^ 32)
    (he : e = { d with epl := { d.epl with renewNo := n, leases := mput d.epl.leases n d.tick } }) :
    d.leaseRenewTimer = e.eplSend 2 (leBytes 4 n ++ leBytes 4 (e.rd F.EPL_LEASE_lease_ms)) := by
  simp only [Dev.leaseRenewTimer, hheld, hlink, hpartner, ← hn, ← he, Bool.not_false, Bool.and_self, if_true]

theorem Dev.leaseExpiry_leased (hleased : d.epl.expiry.isSome = true) (hown : d.on F.EPL_STATUS_witness_held = false) :
    d.leaseExpiry = d.tokenSet false := by
  simp only [Dev.leaseExpiry, hleased, hown, Bool.not_false, Bool.and_self, if_true]

/-- The standby that has seen a lease takes the token once it has run out. -/
theorem Dev.tokenTakeover_standby (hlink : d.eplApart = false) (hfree : d.on F.EPL_STATUS_token = false)
    (hrole : d.rd F.EPL_STATUS_role = 2) (hview : d.epl.view.isSome = true)
    (he : e = ((d.wr F.EPL_TOKEN_term (d.rd F.EPL_TOKEN_term + 1)).roleSet 1).tokenSet true) :
    d.tokenTakeover = { e with epl := { e.epl with handed := d.epl.handAt.isSome } } := by
  simp only [Dev.tokenTakeover, hlink, hfree, hrole, hview, ← he, Bool.not_false, beq_self_eq_true, Bool.or_true, Bool.true_or,
    Bool.and_self, if_true]

theorem Dev.deadTimer_apart (hlink : d.eplApart = true) (hpair : d.on F.EPL_CTRL_pair_en = true)
    (hrole : d.rd F.EPL_STATUS_role ≠ 3) :
    d.deadTimer = (Dev.roleSet { d with epl := { d.epl with dead := true } } 1).witnessCheck := by
  simp only [Dev.deadTimer, hlink, hpair, bne_iff_ne.2 hrole, Bool.and_self, if_true]

theorem Dev.witnessLeaseExpiry_held (hheld : d.on F.EPL_STATUS_witness_held = true) :
    d.witnessLeaseExpiry = d.tokenSet false := if_pos hheld

theorem Dev.swapHandover_active (hswap : d.epl.swap.isSome = true) (hrole : d.rd F.EPL_STATUS_role = 1) :
    d.swapHandover = d.roleSet 2 := by
  simp only [Dev.swapHandover, hswap, hrole, beq_self_eq_true, Bool.and_self, if_true]

end

/-- Settles O34: each clause is the case of the event's meaning in which nothing stands in its way. -/
theorem pairLinkEventsComplete : Obligations.PairLinkEventsComplete := by
  exact ⟨fun d e q hdark hon hnever he => congrArg (ran ⟨d, q⟩) (Dev.eplLinkUp_first hdark hon hnever he),
    fun d q => ⟨rfl, rfl⟩,
    fun d q hl hon => congrArg (ran ⟨d, q⟩) (Dev.eplHelloTimer_running hl hon),
    fun d e f q hup hsome hfew he hf => congrArg (ran ⟨d, q⟩) (Dev.eplRetransmitTimeout_resends hup hsome hfew he hf),
    fun d q hup hsome hmany => congrArg (ran ⟨d, q⟩) (Dev.eplRetransmitTimeout_exhausted hup hsome hmany),
    fun m d q hl hon hcrc hdown => congrArg (ran ⟨d, q⟩) (Dev.hello_downLink hl hon hcrc hdown),
    fun m other d e q hl hon hcrc hseq hup hvalid hses htx he hother => congrArg (ran ⟨d, q⟩)
      (Dev.hello_knownSession hl hon hcrc hseq hup hvalid hses htx he hother),
    fun m d e f q hl hon hcrc hseq he hf => congrArg (ran ⟨d, q⟩) (Dev.lease_inOrder hl hon hcrc hseq he hf),
    fun m t d e q hl hon hcrc hseq hsent he hheld =>
      congrArg (ran ⟨d, q⟩) (Dev.leaseAck_known hl hon hcrc hseq hsent he hheld),
    fun m d e q hl hon hcrc hseq he => congrArg (ran ⟨d, q⟩) (Dev.tokenRelease_inOrder hl hon hcrc hseq he),
    fun n d e q hheld hlink hpartner hn he =>
      congrArg (ran ⟨d, q⟩) (Dev.leaseRenewTimer_holder hheld hlink hpartner hn he),
    fun d q hleased hown => congrArg (ran ⟨d, q⟩) (Dev.leaseExpiry_leased hleased hown),
    fun d e q hlink hfree hrole hview he =>
      congrArg (ran ⟨d, q⟩) (Dev.tokenTakeover_standby hlink hfree hrole hview he),
    fun d q hlink hpair hrole => congrArg (ran ⟨d, q⟩) (Dev.deadTimer_apart hlink hpair hrole),
    fun d q hheld => congrArg (ran ⟨d, q⟩) (Dev.witnessLeaseExpiry_held hheld),
    fun d q hswap hrole => congrArg (ran ⟨d, q⟩) (Dev.swapHandover_active hswap hrole)⟩

end Sys2Proof.Machine
end

section
/-! PROOF. Digests and mismatch rounds, mirrored records, keys, settings and Bolero state, resynchronisation (R436–R442; O35). -/

namespace Sys2Proof.Machine

section
variable {d e f : Dev}

/-! ### Messages of the partner -/

section
variable {m : EplRx} (hl : d.epl.lanes = true) (hon : d.domOn .epl = true) (hcrc : m.crcOk = true)
  (hseq : d.eplInOrder m = true) (he : e = d.eplHeard m)
include hl hon hcrc hseq he

/-! #### Comparison of outputs (R436, R437) -/

/-- A batch is complete once the parts at hand hold as many entries as it has. -/
theorem Dev.digest_part {n : Nat} {parts : Map (List Byte)} {all : List Byte} (hcmp : e.compares = true)
    (hn : n = leAt m.payload 0 8) (hparts : parts
      = mput (mgetD e.epl.rx n []) (leAt m.payload 8 2) ((m.payload.drop 16).take (24 * leAt m.payload 10 2)))
    (hall : all = parts.flatMap (·.2)) : d.digest m = if 24 * leAt m.payload 12 4 ≤ all.length
      then { e with epl := { e.epl with rx := mdel e.epl.rx n, due := e.epl.due ++ [(n, e.tick, chunks 24 all)] } }
      else { e with epl := { e.epl with rx := mput e.epl.rx n parts } } := by
  simp only [Dev.digest, Dev.eplIn_inOrder hl hon hcrc hseq, ← he, hcmp, ← hn, ← hparts, ← hall, Bool.not_true,
    Bool.false_eq_true, if_false]

theorem Dev.digestResult_mismatch (hcmp : e.compares = true) (hbad : leAt m.payload 12 4 ≠ 0) :
    d.digestResult m = (e.roundOpen (leAt m.payload 0 8) (chunks 16 (m.payload.drop 20))).roundStep := by
  simp only [Dev.digestResult, Dev.eplIn_inOrder hl hon hcrc hseq, ← he, hcmp, hbad, decide_false, Bool.not_true, Bool.or_self,
    Bool.false_eq_true, if_false]

theorem Dev.selftest_result {bad : Nat} (hcmp : e.compares = true)
    (hf : f = (if e.epl.round.isNone then e.roundOpen (leAt m.payload 8 8) [] else e)) (hres : byteAt m.payload 0 ≠ 0)
    (hbad : bad = (if byteAt m.payload 1 = 0 then 0 else max 1 (leAt m.payload 2 2))) :
    d.selftest m = Dev.roundStep { f with epl := { f.epl with
      round := f.epl.round.map (fun (r : EplRound) => { r with partner := some bad }) } } := by
  simp only [Dev.selftest, Dev.eplIn_inOrder hl hon hcrc hseq, ← he, hcmp, ← hf, hres, ← hbad, Bool.not_true,
    Bool.false_eq_true, if_false]

theorem Dev.recheck_joins {got : List (List Byte)} (hgot : got = chunks 24 ((m.payload.drop 16).take (24 * leAt m.payload 8 2))) :
    d.recheck m = Dev.roundStep { e with epl := { e.epl with
      round := e.epl.round.map (fun (r : EplRound) => { r with theirs := some (r.theirs.getD [] ++ got) }) } } := by
  subst hgot he
  exact Dev.eplIn_inOrder hl hon hcrc hseq _

/-! #### The standby follows (R438–R441) -/

theorem Dev.keySummaryRx_whole {theirs : List (List Byte)} (hlast : bit m.mflags.toNat 0 = false)
    (htheirs : theirs = chunks 8 (e.epl.ksum ++ m.payload)) (hf : f = { e with epl := { e.epl with ksum := [] } }) :
    d.keySummaryRx m
      = if !f.epl.formed || (theirs.all f.keySums.contains && f.keySums.all theirs.contains) then f else f.keySkew := by
  have hwhole : ¬ bit m.mflags.toNat 0 = true := by rw [hlast]; decide
  subst hf htheirs he
  exact (Dev.eplIn_inOrder hl hon hcrc hseq _).trans (if_neg hwhole)

section
variable (hfol : e.follows = true)
include hfol

theorem Dev.msrDelta_commit (hkind : byteAt m.payload 4 = 0) :
    d.msrDelta m = { e with epl := { e.epl with held := e.epl.held ++ [(e.tick, m.payload)] } } := by
  simp only [Dev.msrDelta, Dev.eplIn_inOrder hl hon hcrc hseq, ← he, hfol, hkind, Bool.not_true, Bool.false_eq_true, if_false,
    if_true]

theorem Dev.msrDelta_record (hkind : byteAt m.payload 4 = 1) : d.msrDelta m = e.recordTake m.payload := by
  simp only [Dev.msrDelta, Dev.eplIn_inOrder hl hon hcrc hseq, ← he, hfol, hkind, Nat.one_ne_zero, Bool.not_true,
    Bool.false_eq_true, if_false, if_true]

section
variable {k : KeyEnt} (hen : e.on F.EPL_CTRL_key_follow = true)
  (hkey : e.keyByKid (byteAt m.payload 1) (leAt m.payload 4 4) = some k)
include hen hkey

/-- The partner's commit is repeated on the staged shadow that gives the same generation. -/
theorem Dev.keyEventRx_commit {x : Nat} (hop : byteAt m.payload 0 = 0) (hshadow : k.shadow = some x)
    (hgen : (k.gen + 1) % 65536 = leAt m.payload 2 2) : d.keyEventRx m = (e.followCommit k x).keyHeldRetry := by
  have hcommon : decide (2 ≤ 0) = false := rfl
  simp only [Dev.keyEventRx, Dev.eplIn_inOrder hl hon hcrc hseq, ← he, hfol, hen, hkey, hop, hshadow, hgen, hcommon,
    Bool.false_and, Bool.not_true, Bool.or_self, Bool.false_eq_true, if_false, if_true]

theorem Dev.keyEventRx_destroy (hop : byteAt m.payload 0 = 1) : d.keyEventRx m = (e.followDestroy k).keyHeldRetry := by
  have hcommon : decide (2 ≤ 1) = false := rfl
  simp only [Dev.keyEventRx, Dev.eplIn_inOrder hl hon hcrc hseq, ← he, hfol, hen, hkey, hop, hcommon, Bool.false_and,
    Bool.not_true, Bool.or_self, Bool.false_eq_true, if_false]

end

section
variable {x : SetItem} (hitem : itemOf m.payload = some x)
include hitem

theorem Dev.settingsRx_readable : d.settingsRx m true
    = { e with upd := { e.upd with ops := e.upd.ops ++ [.item x false none 0] } } := by
  simp only [Dev.settingsRx, Dev.eplIn_inOrder hl hon hcrc hseq, ← he, hfol, hitem, Bool.not_true, Bool.false_eq_true, if_false]

theorem Dev.settingsRx_unreadable : d.settingsRx m false = e.setF F.UPD_STATUS_set_skew := by
  simp only [Dev.settingsRx, Dev.eplIn_inOrder hl hon hcrc hseq, ← he, hfol, hitem, Bool.not_true, Bool.not_false,
    Bool.false_eq_true, if_false, if_true]

end

theorem Dev.boleroRx_bytes {off : Nat} (hoff : off = leAt m.payload 4 4) (hin : off + (m.payload.length - 8) ≤ 0x53000000)
    (hkind : byteAt m.payload 0 ≠ 1) (hf : f = e.memWrB (e.bolArea + off) (m.payload.drop 8)) :
    d.boleroRx m = if off < 0x50000000 then (f.campShow (off / 0x1400000)).bolShow else f := by
  simp only [Dev.boleroRx, Dev.eplIn_inOrder hl hon hcrc hseq, ← he, hfol, ← hoff, List.length_drop, Nat.not_lt.2 hin, hkind,
    ← hf, decide_false, Bool.not_true, Bool.or_self, Bool.false_eq_true, if_false]

/-- Records that arrive in a resynchronisation under way apply in order. -/
theorem Dev.resyncRx_records {r : EplResync} {es : List (List Byte)} (hop : byteAt m.payload 0 = 1)
    (hunder : e.epl.resync = some r) (hes : es = (chunks 264 (m.payload.drop 8)).take (leAt m.payload 2 2))
    (hf : f = es.foldl (fun (d : Dev) (b : List Byte) => d.resyncApply b) e) :
    d.resyncRx m = { f with epl := { f.epl with
      resync := f.epl.resync.map (fun (r : EplResync) => { r with got := r.got ++ es.map (fun b => leAt b 0 4) }) } } := by
  simp only [Dev.resyncRx, Dev.eplIn_inOrder hl hon hcrc hseq, ← he, hfol, hop, hunder, ← hes, ← hf, Nat.one_ne_zero,
    Bool.not_true, Bool.false_eq_true, if_false, if_true]

end

theorem Dev.resyncRx_request (hop : byteAt m.payload 0 = 0) (hmir : e.mirrors = true) :
    d.resyncRx m = e.resyncStream (byteAt m.payload 1) := by
  simp only [Dev.resyncRx, Dev.eplIn_inOrder hl hon hcrc hseq, ← he, hop, hmir, if_true]

end

/-! ### The unit's own events (R436–R438) -/

theorem Dev.digestBatchClose_sends {es : List (List Byte)} {n : Nat} (hes : es = d.epl.batch.take 4096)
    (hsome : es.isEmpty = false) (hn : n = d.epl.batchNo)
    (he : e = { d with epl := { d.epl with batch := d.epl.batch.drop 4096, batchNo := (n + 1) % 2 ^ 64 } })
    (hcmp : e.compares = true) :
    d.digestBatchClose = e.eplParts 5 ((chunks (256 * 24) es.flatten).zipIdx.map (fun p =>
      leBytes 8 n ++ leBytes 2 p.2 ++ leBytes 2 (p.1.length / 24) ++ leBytes 4 es.length ++ p.1)) := by
  simp only [Dev.digestBatchClose, ← hes, hsome, ← hn, ← he, hcmp, Bool.not_true, Bool.false_eq_true, if_false]

theorem Dev.digestCompare_agrees {n t unheard : Nat} {es miss : List (List Byte)} {rest : List (Nat × Nat × List (List Byte))}
    {cmp : List (Nat × List Byte)} {own : List Byte → Option (List Byte)} (hdue : d.epl.due = (n, t, es) :: rest)
    (hnone : d.epl.resync = none)
    (hkeep : cmp = d.epl.cmp.filter (fun e => d.tick ≤ e.1 + d.rd F.EPL_DIGEST_cmp_window * sNs))
    (he : e = { d with epl := { d.epl with due := rest, cmp := cmp } }) (hcmp : e.compares = true)
    (hown : own = (fun e => (cmp.find? (fun x => dgIdent x.2 == dgIdent e)).map (·.2)))
    (hmiss : miss = es.filter (fun e => (own e).any (fun x => x != e))) (hagree : miss = [])
    (hunheard : unheard = (es.filter (fun e => (own e).isNone)).length)
    (hf : f = (e.bump F.EPL_CNT_DIG_mismatched 0).bump F.EPL_CNT_DIG_unheard unheard) :
    d.digestCompare = f.eplSend 6 (leBytes 8 n ++ leBytes 4 (es.length - unheard) ++ leBytes 4 0 ++ leBytes 4 unheard) := by
  subst hown
  have hsame : es.filter (fun e => ((cmp.find? (fun x => dgIdent x.2 == dgIdent e)).map (·.2)).any (fun x => x != e)) = [] :=
    hmiss.symm.trans hagree
  have hidle : d.epl.resync.isSome = false := by rw [hnone]; rfl
  have hcount : (es.filter (fun e => ((cmp.find? (fun x => dgIdent x.2 == dgIdent e)).map (·.2)).isNone)).length = unheard :=
    hunheard.symm
  simp only [Dev.digestCompare, hdue, hidle, ← hkeep, ← he, hcmp, hsame, hcount, ← hf, List.length_nil, List.map_nil,
    List.take_nil, List.flatten_nil, List.append_nil, Nat.sub_zero, List.isEmpty_nil, Bool.not_true, Bool.false_eq_true,
    if_false, if_true]

theorem Dev.selftestDone_answers {keyc commit digest : Bool} {laneFail own : Nat} {r : EplRound} {tested : List Nat} {g : Dev}
    (hround : d.epl.round = some r) (htested : tested = (List.range 16).filter (fun l => !d.laneRetired l))
    (he : e = tested.foldl (fun (d : Dev) (l : Nat) => if bit laneFail l then (d.raise (129 + 4 * l)).laneRetire l 5 else d) d)
    (hown : own = b2n (!keyc) + 2 * b2n (!commit) + 4 * b2n (!digest) + 8 * b2n (tested.all (fun l => bit laneFail l)))
    (hf : f = (if keyc then e else e.pavKat false))
    (hg : g = (if own = 0 then f else f.setF F.EPL_STATUS_selftest_fail).raise 454) :
    d.selftestDone keyc commit digest laneFail
      = (Dev.eplSend { g with epl := { g.epl with round := some { r with own := some own } } } 7
          (leBytes 1 1 ++ leBytes 1 (b2n (own != 0)) ++ leBytes 2 own ++ zeros 4 ++ leBytes 8 r.batch)).roundStep := by
  simp only [Dev.selftestDone, hround, ← htested, Dev.laneKatFail, ← he, ← hown, ← hf, ← hg]

theorem Dev.mergeDelayApply_oldest {t : Nat} {p : List Byte} {rest : List (Nat × List Byte)}
    (hheld : d.epl.held = (t, p) :: rest) (he : e = { d with epl := { d.epl with held := rest } }) :
    d.mergeDelayApply = e.commitApply p := by
  simp only [Dev.mergeDelayApply, hheld, ← he]

theorem Dev.keySummaryTimer_sends (hset : d.rd F.EPL_MIRROR_ksum_s ≠ 0) (hlink : d.eplApart = false)
    (hpartner : d.on F.EPL_STATUS_partner_retired = false) : d.keySummaryTimer = d.keySumSend := by
  simp only [Dev.keySummaryTimer, bne_iff_ne.2 hset, hlink, hpartner, Bool.not_false, Bool.and_self, if_true]

end

/-- Settles O35: each clause is the case of the message's meaning in which nothing stands in its way. -/
theorem pairMirrorMessagesComplete : Obligations.PairMirrorMessagesComplete := by
  exact ⟨fun m n parts all d e q hl hon hcrc hseq he hcmp hn hparts hall =>
      congrArg (ran ⟨d, q⟩) (Dev.digest_part hl hon hcrc hseq he hcmp hn hparts hall),
    fun m d e q hl hon hcrc hseq he hcmp hbad =>
      congrArg (ran ⟨d, q⟩) (Dev.digestResult_mismatch hl hon hcrc hseq he hcmp hbad),
    fun m bad d e f q hl hon hcrc hseq he hcmp hf hres hbad =>
      congrArg (ran ⟨d, q⟩) (Dev.selftest_result hl hon hcrc hseq he hcmp hf hres hbad),
    fun m got d e q hl hon hcrc hseq he hgot => congrArg (ran ⟨d, q⟩) (Dev.recheck_joins hl hon hcrc hseq he hgot),
    fun es n d e q hes hsome hn he hcmp => congrArg (ran ⟨d, q⟩) (Dev.digestBatchClose_sends hes hsome hn he hcmp),
    fun n t unheard es miss rest cmp own d e f q hdue hnone hkeep he hcmp hown hmiss hagree hunheard hf =>
      congrArg (ran ⟨d, q⟩) (Dev.digestCompare_agrees hdue hnone hkeep he hcmp hown hmiss hagree hunheard hf),
    fun keyc commit digest laneFail r tested own d e f g q hround htested he hown hf hg =>
      congrArg (ran ⟨d, q⟩) (Dev.selftestDone_answers hround htested he hown hf hg),
    fun m d e q hl hon hcrc hseq he hfol hkind =>
      congrArg (ran ⟨d, q⟩) (Dev.msrDelta_commit hl hon hcrc hseq he hfol hkind),
    fun m d e q hl hon hcrc hseq he hfol hkind =>
      congrArg (ran ⟨d, q⟩) (Dev.msrDelta_record hl hon hcrc hseq he hfol hkind),
    fun t p rest d e q hheld he => congrArg (ran ⟨d, q⟩) (Dev.mergeDelayApply_oldest hheld he),
    fun m k x d e q hl hon hcrc hseq he hfol hen hop hkey hshadow hgen =>
      congrArg (ran ⟨d, q⟩) (Dev.keyEventRx_commit hl hon hcrc hseq he hfol hen hkey hop hshadow hgen),
    fun m k d e q hl hon hcrc hseq he hfol hen hop hkey =>
      congrArg (ran ⟨d, q⟩) (Dev.keyEventRx_destroy hl hon hcrc hseq he hfol hen hkey hop),
    fun m theirs d e f q hl hon hcrc hseq he hlast htheirs hf =>
      congrArg (ran ⟨d, q⟩) (Dev.keySummaryRx_whole hl hon hcrc hseq he hlast htheirs hf),
    fun m x d e q hl hon hcrc hseq he hfol hitem =>
      ⟨congrArg (ran ⟨d, q⟩) (Dev.settingsRx_readable hl hon hcrc hseq he hfol hitem),
        congrArg (ran ⟨d, q⟩) (Dev.settingsRx_unreadable hl hon hcrc hseq he hfol hitem)⟩,
    fun m off d e f q hl hon hcrc hseq he hfol hoff hin hkind hf =>
      congrArg (ran ⟨d, q⟩) (Dev.boleroRx_bytes hl hon hcrc hseq he hfol hoff hin hkind hf),
    fun m d e q hl hon hcrc hseq he hop hmir =>
      congrArg (ran ⟨d, q⟩) (Dev.resyncRx_request hl hon hcrc hseq he hop hmir),
    fun m r es d e f q hl hon hcrc hseq he hop hfol hunder hes hf =>
      congrArg (ran ⟨d, q⟩) (Dev.resyncRx_records hl hon hcrc hseq he hfol hop hunder hes hf),
    fun d q hset hlink hpartner => congrArg (ran ⟨d, q⟩) (Dev.keySummaryTimer_sends hset hlink hpartner)⟩

end Sys2Proof.Machine
end

section
/-! PROOF. Starts, staging sessions, activation, acceptance, settings and QSPI programs (R455, R458, R460–R465; O37). -/

namespace Sys2Proof.Machine

section
variable {d e f : Dev}

/-! ### The start (R458) -/

section
variable {r : BootSeen} (hm : d.mode = .boot) (hfirst : d.upd.booted = false)
  (he : e = { d with upd := { d.upd with booted := true }, pmu := { d.pmu with qspiDtr := true } })
include hm hfirst he

theorem Dev.bootStart_slot {slot res : Nat} {prov : Bool} (hslot : e.slotChoice r = (f, some (slot, prov), res)) :
    d.bootStart r = f.bootSlot r slot prov res := by
  simp only [Dev.bootStart, hm, hfirst, ← he, hslot, bne_self_eq_false, Bool.or_self, Bool.false_eq_true, if_false]

theorem Dev.bootStart_romRecovery {res : Nat} (hslot : e.slotChoice r = (f, none, res)) : d.bootStart r
    = (((f.wr F.UPD_STATUS_boot_result res).setF F.UPD_STATUS_rom_recovery).bootPower r.dramGib.toNat).logStart := by
  simp only [Dev.bootStart, hm, hfirst, ← he, hslot, bne_self_eq_false, Bool.or_self, Bool.false_eq_true, if_false]

end

theorem Dev.bootComplete_serving {g h : Dev} (hm : d.mode = .boot) (hstarted : d.upd.booted = true)
    (hsound : d.recoveryCause = none) (he : e = (d.domSwitch .qda true).domSwitch .qdb true)
    (hf : f = (e.modeEnter e.modeTarget).offMaskApply.enginesReady) (hg : g = { f with pmu := { f.pmu with half := false } })
    (hh : h = (if f.xdi.negDue then g.negotiateNow else g).handover) :
    d.bootComplete = if h.rd F.PMU_RST_CAUSE_kind == 5 && h.rd F.PMU_RST_CAUSE_wake == 1 then h.raise 422 else h := by
  simp only [Dev.bootComplete, hm, hstarted, hsound, ← he, ← hf, ← hg, ← hh, bne_self_eq_false, Bool.not_true, Bool.or_self,
    Bool.false_eq_true, if_false]

/-! ### Staging sessions (R461–R463) -/

section
variable {c : Desc} (hr : wReservedOk c.w = true)
include hr

theorem Dev.updOpen_free {n : Nat} (hz : wUnusedZero c.w [(24, 36)] = true) (hfree : d.on F.UPD_SESSION_open = false)
    (hprov : d.provisional = false) (hact : d.activating = false) (hmax : wArg c.w 24 4 ≤ bundleMax) (hn : n = d.upd.nextId)
    (he : e = { d with upd := { d.upd with
      length := wArg c.w 24 4, bundleId := wArg c.w 28 8, got := [], verified := false,
      nextId := if n = 0xFFFF then 1 else n + 1 } })
    (hf : f = (((e.setF F.UPD_SESSION_open).wr F.UPD_SESSION_source (descSource c)).wr F.UPD_SESSION_master (descMaster c)).wr
      F.UPD_SESSION_id n) :
    d.updOpen c = f.updRenew.okRes c n := by
  simp only [Dev.updOpen, Dev.withFields_ok hz hr, hfree, hprov, hact, Nat.not_lt.2 hmax, ← hn, ← he, ← hf, Bool.or_self,
    Bool.false_eq_true, if_false]

section
variable (hopen : d.on F.UPD_SESSION_open = true) (hmaster : descMaster c = d.rd F.UPD_SESSION_master)
  (hsource : descSource c = d.rd F.UPD_SESSION_source) (hsession : wHandle c.w = d.rd F.UPD_SESSION_id)
include hopen hmaster hsource hsession

omit hr in
theorem Dev.updIn_holder (k : Dev → Dev) : d.updIn c k = k d.updRenew := by
  simp only [Dev.updIn, hopen, hmaster, hsource, hsession, bne_self_eq_false, Bool.not_true, Bool.or_self, Bool.false_eq_true,
    if_false]

theorem Dev.updClose_holder (hz : wUnusedZero c.w [(4, 8)] = true) :
    d.updClose c = (d.updRenew.updSessionEnd true).okRes c :=
  (Dev.withFields_ok hz hr _).trans (Dev.updIn_holder hopen hmaster hsource hsession _)

variable (he : e = d.updRenew)
include he

theorem Dev.updData_stages {off len st : Nat} (hz : wUnusedZero c.w [(4, 20), (24, 28)] = true) (hoff : off = wArg c.w 24 4)
    (hlen : len = wLen c.w) (hoff4 : off % 4096 = 0) (hlen4 : len % 4096 = 0) (hpos : 0 < len) (hmax : len ≤ 0x100000)
    (hin : off + len ≤ e.upd.length) (hdata : c.data.length = len)
    (hblocks : e.updBlocks (off / 4096) (chunks 4096 c.data) = (f, st)) : d.updData c = f.fail c st := by
  simp only [Dev.updData, Dev.withFields_ok hz hr, Dev.updIn_holder hopen hmaster hsource hsession, ← he, ← hoff, ← hlen, hoff4,
    hlen4, Nat.ne_of_gt hpos, Nat.not_lt.2 hmax, Nat.not_lt.2 hin, hdata, hblocks, bne_self_eq_false, decide_false,
    Bool.or_self, Bool.false_eq_true, if_false]

/-- A whole staged bundle is checked in the order of R455, then programmed into the slot that is not in force. -/
theorem Dev.updVerify_whole {b : List Byte} (hz : wUnusedZero c.w [(4, 8)] = true) (hb : b = e.staged) (hidle : e.upd.ops = [])
    (hwhole : e.upd.got.length * 4096 = e.upd.length) (hsome : e.upd.length ≠ 0) :
    d.updVerify c = if !bundleFields b e.upd.length e.upd.bundleId (e.rd F.SYS_ID_stepping) e.upd.revoked then e.fail c updFormat
      else if !bundleSigned b then e.fail c updSignature
      else if !bundleSound b then e.fail c updCheck
      else if byteAt b 20 < e.upd.fuses then e.fail c updRollback
      else { e with upd := { e.upd with
        slots := mdel e.upd.slots e.spareSlot, verified := false, leaseAt := none,
        ops := [.slot c e.spareSlot (slotOf b)] } } := by
  simp only [Dev.updVerify, Dev.withFields_ok hz hr, Dev.updIn_holder hopen hmaster hsource hsession, ← he, ← hb, hidle, hwhole,
    hsome, List.any_nil, List.nil_append, bne_self_eq_false, decide_false, Bool.or_self, Bool.false_eq_true, if_false]

theorem Dev.updActivate_verified {r : BootRec} {s : Nat} {img : SlotImg} (hz : wUnusedZero c.w [(4, 8), (24, 29)] = true)
    (hdelay : wArg c.w 24 4 ≠ 0) (hforce : wArg c.w 28 1 ≤ 1) (hm : e.mode ≠ .storm) (hver : e.upd.verified = true)
    (hs : s = e.spareSlot) (himg : img = (mget? e.upd.slots s).getD { ver := 0, rb := 0, sver := 0, sverMin := 0 })
    (hrec : r = { e.bootRec with
      next := s, tries := 3, nextVer := img.ver, nextRb := img.rb, bflags := e.bootRec.bflags % 2 })
    (hf : f = e.updSessionEnd false) :
    d.updActivate c = { f with upd := { f.upd with
      ops := f.upd.ops ++ [.record r (.activate (wArg c.w 28 1 = 1)) (some c)] } } := by
  simp only [Dev.updActivate, Dev.withFields_ok hz hr, Dev.updIn_holder hopen hmaster hsource hsession, ← he, hdelay,
    Nat.not_lt.2 hforce, beq_false_of_ne hm, hver, ← hs, ← himg, ← hrec, ← hf, decide_false, Bool.false_and, Bool.not_true,
    Bool.or_self, Bool.false_eq_true, if_false]

end

theorem Dev.updStatus_legal (hz : wUnusedZero c.w [] = true) : d.updStatus c
    = d.okRes c (d.rd F.UPD_STATUS_boot_result + d.upd.fuses * 16 + d.rd F.UPD_STATUS_provisional * 4096
        + d.rd F.UPD_SESSION_open * 8192) (d.bootRec.activeVer + d.bootRec.nextVer * 2 ^ 32) :=
  Dev.withFields_ok hz hr _

/-! ### Provisional images and settings items (R460, R464, R465) -/

section
variable (hrom : d.romServes = false)
include hrom

omit hr in
theorem Dev.updServed_outside_rom (k : Dev → Dev) : d.updServed c k = k d := by
  simp only [Dev.updServed, hrom, Bool.false_eq_true, if_false]

theorem Dev.updAccept_provisional (hz : wUnusedZero c.w [] = true) (hruns : d.on F.UPD_STATUS_provisional = true)
    (hprov : d.provisional = true) (hgo : d.upd.hold = false) : d.updAccept c = d.acceptStart (some c) := by
  simp only [Dev.updAccept, Dev.withFields_ok hz hr, Dev.updServed_outside_rom hrom, hruns, hprov, hgo, Bool.not_false,
    Bool.and_self, if_true]

theorem Dev.updRevert_provisional {r : BootRec} (hz : wUnusedZero c.w [] = true) (hprov : d.provisional = true)
    (hrec : r = { d.bootRec with next := 0xFF, tries := 0, lastCause := 4, bflags := d.bootRec.bflags ||| 1 }) :
    d.updRevert c = { d with upd := { d.upd with ops := d.upd.ops ++ [.record r .revert (some c)] } } := by
  simp only [Dev.updRevert, Dev.withFields_ok hz hr, Dev.updServed_outside_rom hrom, hprov, ← hrec, if_true]

theorem Dev.updAcceptDefaults_held {r : BootRec} (hz : wUnusedZero c.w [] = true) (hheld : d.upd.hold = true)
    (hrec : r = { d.bootRec with bflags := d.bootRec.bflags ||| 2 }) :
    d.updAcceptDefaults c = { d with upd := { d.upd with ops := d.upd.ops ++ [.record r .defaults (some c)] } } := by
  simp only [Dev.updAcceptDefaults, Dev.withFields_ok hz hr, Dev.updServed_outside_rom hrom, hheld, ← hrec, if_true]

section
variable (hgo : d.upd.hold = false)
include hgo

theorem Dev.updSetPut_sound {x : SetItem} (hz : wUnusedZero c.w [(8, 20), (24, 28)] = true)
    (hx : x = { id := wArg c.w 24 2, iver := wArg c.w 26 1, iflags := wArg c.w 27 1, data := c.data })
    (hid : itemIdOk x.id = true) (hflags : x.iflags ≤ 1) (hlen : wLen c.w ≤ 16384) (hdata : c.data.length = wLen c.w)
    (hfit : 32 + ((d.setCopy.put x).items.map (fun i => (itemBytes i).length)).sum ≤ 0x100000) :
    d.updSetPut c = { d with upd := { d.upd with ops := d.upd.ops ++ [.item x true (some c) 0] } } := by
  have hidOk : itemIdOk (wArg c.w 24 2) = true := by rw [hx] at hid; exact hid
  have hflagsOk : ¬ 1 < wArg c.w 27 1 := by rw [hx] at hflags; exact Nat.not_lt.2 hflags
  simp only [Dev.updSetPut, Dev.withFields_ok hz hr, Dev.updServed_outside_rom hrom, ← hx, hidOk, hflagsOk, Nat.not_lt.2 hlen,
    hgo, hdata, Nat.not_lt.2 hfit, bne_self_eq_false, decide_false, Bool.not_true, Bool.or_self, Bool.false_eq_true, if_false]

theorem Dev.updSetGet_readable {l : List Byte} (hz : wUnusedZero c.w [(8, 20), (24, 26)] = true)
    (hl : l = ((d.setCopy.items.find? (fun i => i.id == wArg c.w 24 2)).map (·.data)).getD []) :
    d.updSetGet c = d.finish c { status := 0, result := l.length, data := [(wAddr c.w, l.take (wLen c.w))] } := by
  simp only [Dev.updSetGet, Dev.withFields_ok hz hr, Dev.updServed_outside_rom hrom, hgo, ← hl, Bool.false_eq_true, if_false]

end

end

end

/-! ### Minuet's own events (R462–R465) -/

theorem Dev.updLeaseExpiry_leased {t : Nat} (hlease : d.upd.leaseAt = some t) :
    d.updLeaseExpiry = d.updSessionEnd true := by
  simp only [Dev.updLeaseExpiry, hlease, Option.isSome_some, if_true]

theorem Dev.updActivateDelay_ends {force : Bool} (hdue : d.upd.restart = some force)
    (he : e = { d with upd := { d.upd with restart := none } }) (hm : e.mode ≠ .storm) :
    d.updActivateDelay = e.softReset 2 := by
  simp only [Dev.updActivateDelay, hdue, ← he, beq_false_of_ne hm, Bool.false_and, Bool.false_eq_true, if_false]

theorem Dev.updAutoAccept_due (hruns : d.on F.UPD_STATUS_provisional = true) (hprov : d.provisional = true)
    (hgo : d.upd.hold = false) (hset : d.rd F.UPD_CTRL_accept_s ≠ 0) (hserve : d.mode.serving = true) :
    d.updAutoAccept = d.acceptStart none := by
  simp only [Dev.updAutoAccept, hruns, hprov, hgo, bne_iff_ne.2 hset, hserve, Bool.not_false, Bool.and_self, if_true]

theorem Dev.settingsRevertHold_held {r : BootRec} (hheld : d.upd.hold = true)
    (hrec : r = { d.bootRec with next := 0xFF, tries := 0, lastCause := 2, bflags := d.bootRec.bflags ||| 1 }) :
    d.settingsRevertHold = { d with upd := { d.upd with hold := false, ops := d.upd.ops ++ [.record r .revert none] } } := by
  simp only [Dev.settingsRevertHold, hheld, ← hrec, if_true]

theorem Dev.qspiProgramDone_good {o : QspiOp} {rest : List QspiOp} (hops : d.upd.ops = o :: rest)
    (he : e = { d with upd := { d.upd with ops := rest } }) : d.qspiProgramDone true = e.qspiDone o := by
  simp only [Dev.qspiProgramDone, hops, ← he, if_true]

theorem Dev.qspiProgramDone_failed_record {r : BootRec} {a : RecAfter} {rest : List QspiOp}
    (hops : d.upd.ops = .record r a none :: rest) (he : e = { d with upd := { d.upd with ops := rest } }) :
    d.qspiProgramDone false = (e.setF F.UPD_STATUS_prog_fail).raise 470 := by
  simp only [Dev.qspiProgramDone, hops, ← he, QspiOp.desc, Bool.false_eq_true, if_false]

end

/-- Settles O37: each clause is the case of the command's meaning in which nothing stands in its way. -/
theorem updateAndBootCommandsComplete : Obligations.UpdateAndBootCommandsComplete := by
  exact ⟨fun r slot res prov d e f q hm hfirst he hslot => congrArg (ran ⟨d, q⟩) (Dev.bootStart_slot hm hfirst he hslot),
    fun r res d e f q hm hfirst he hslot => congrArg (ran ⟨d, q⟩) (Dev.bootStart_romRecovery hm hfirst he hslot),
    fun d e f g h q hm hstarted hsound he hf hg hh =>
      congrArg (ran ⟨d, q⟩) (Dev.bootComplete_serving hm hstarted hsound he hf hg hh),
    fun c n d e f q hz hr hfree hprov hact hmax hn he hf =>
      congrArg (ran ⟨d, q⟩) (Dev.updOpen_free hr hz hfree hprov hact hmax hn he hf),
    fun b c off len st d0 d e f q hread hz hr hopen hmaster hsource hsession he hoff hlen hoff4 hlen4 hpos hmax hin hdata
        hblocks => congrArg (ran ⟨d0, q⟩) ((hread _).trans (Dev.updData_stages hr hopen hmaster hsource hsession he hz hoff hlen
      hoff4 hlen4 hpos hmax hin hdata hblocks)),
    fun c b d e q hz hr hopen hmaster hsource hsession he hb hidle hwhole hsome => congrArg (ran ⟨d, q⟩)
      (Dev.updVerify_whole hr hopen hmaster hsource hsession he hz hb hidle hwhole hsome),
    fun c r s img d e f q hz hr hopen hmaster hsource hsession he hdelay hforce hm hver hs himg hrec hf =>
      congrArg (ran ⟨d, q⟩) (Dev.updActivate_verified hr hopen hmaster hsource hsession he hz hdelay hforce hm hver hs himg
        hrec hf),
    fun c d q hz hr hopen hmaster hsource hsession =>
      congrArg (ran ⟨d, q⟩) (Dev.updClose_holder hr hopen hmaster hsource hsession hz),
    fun c d q hz hr hrom hruns hprov hgo => congrArg (ran ⟨d, q⟩) (Dev.updAccept_provisional hr hrom hz hruns hprov hgo),
    fun c r d q hz hr hrom hprov hrec => congrArg (ran ⟨d, q⟩) (Dev.updRevert_provisional hr hrom hz hprov hrec),
    fun c r d q hz hr hrom hheld hrec => congrArg (ran ⟨d, q⟩) (Dev.updAcceptDefaults_held hr hrom hz hheld hrec),
    fun c d q hz hr => congrArg (ran ⟨d, q⟩) (Dev.updStatus_legal hr hz),
    fun b c x d0 d q hread hz hr hrom hx hid hflags hlen hgo hdata hfit => congrArg (ran ⟨d0, q⟩)
      ((hread _).trans (Dev.updSetPut_sound hr hrom hgo hz hx hid hflags hlen hdata hfit)),
    fun c l d q hz hr hrom hgo hl => congrArg (ran ⟨d, q⟩) (Dev.updSetGet_readable hr hrom hgo hz hl),
    fun t d q hlease => congrArg (ran ⟨d, q⟩) (Dev.updLeaseExpiry_leased hlease),
    fun force d e q hdue he hm => congrArg (ran ⟨d, q⟩) (Dev.updActivateDelay_ends hdue he hm),
    fun d q hruns hprov hgo hset hserve => congrArg (ran ⟨d, q⟩) (Dev.updAutoAccept_due hruns hprov hgo hset hserve),
    fun r d q hheld hrec => congrArg (ran ⟨d, q⟩) (Dev.settingsRevertHold_held hheld hrec),
    fun o rest d e q hops he => congrArg (ran ⟨d, q⟩) (Dev.qspiProgramDone_good hops he),
    fun r a rest d e q hops he => congrArg (ran ⟨d, q⟩) (Dev.qspiProgramDone_failed_record hops he)⟩

end Sys2Proof.Machine
end

section
/-! PROOF. System and domain resets, the mode and resource commands of the PMU, changes of mode (R471, R478, R480, R485–R487,
R493, R494; O38). -/

namespace Sys2Proof.Machine

section
variable {d e f : Dev}

/-! ### Resets (R485–R487) -/

theorem Dev.aonpor_eq {g : Dev} (he : e = ((d.aonRegs .aonpor).mainReset .aonpor false).memGone 0x08000000 0x08040000)
    (hf : f = { e with
      clk := 0, rtc := {}, sys := { committed := e.sys.committed }, epl := {}
      pav := { e.pav with kek := none, succ := [], tlog := [] }, upd := { e.upd with lastOk := none, recovery := false }
      pmu := { vaon := e.pmu.vaon, vbat := e.pmu.vbat } })
    (hg : g = (f.wr F.PMU_STORM_budget 0x4B0).wr F.EPL_STATUS_role 0) :
    d.aonpor = ((g.wr F.UPD_FUSE_f g.upd.fuses).wr F.UPD_FUSE_revoked g.upd.revoked).tsuStart := by
  subst hg hf he
  rfl

theorem Dev.wdtrst_second_half (hruns : d.wdtRuns = true) (hhalf : d.pmu.half = true) :
    d.wdtrst = ((d.mainReset .wdtrst true).aonRegs .wdtrst).startCause 4 0 0 := by
  simp only [Dev.wdtrst, hruns, hhalf, Bool.and_self, if_true]

section
variable {n : Nat} {x : Dom} (hasked : bit (d.rd F.PMU_DOM_rst) n = true) (hx : domOf n = some x)
  (he : e = (if x == .fab then (d.domReset x).hallFirmware.applySettings inMsrWindow else d.domReset x).wrBit
    F.PMU_DOM_rst n false)
include hasked hx he

theorem Dev.domrst_without_command (hnone : mget? e.pmu.domCmds n = none) : d.domrst n = e := by
  simp only [Dev.domrst, hasked, hx, ← he, hnone, Bool.not_true, Bool.false_eq_true, if_false]

theorem Dev.domrst_completes {c : Desc} (hc : mget? e.pmu.domCmds n = some c) :
    d.domrst n = Dev.okRes { e with pmu := { e.pmu with domCmds := mdel e.pmu.domCmds n } } c := by
  simp only [Dev.domrst, hasked, hx, ← he, hc, Bool.not_true, Bool.false_eq_true, if_false]

end

/-! ### PMU_MODE_SET and PMU_RESET (R480, R494) -/

section
variable {c : Desc} (hr : wReservedOk c.w = true)
include hr

/-- A sound PMU_MODE_SET of the operation named runs it. -/
theorem Dev.modeCmd_op {op : Nat} (hz : wUnusedZero c.w [(24, 25)] = true) (hop : wArg c.w 24 1 = op) (k : Dev → Dev) :
    d.modeCmd c op k = k d := by
  simp only [Dev.modeCmd, Dev.withFields_ok hz hr, hop, bne_self_eq_false, Bool.false_eq_true, if_false]

theorem Dev.pmuResetSoft_legal (hz : wUnusedZero c.w [(24, 26)] = true) (hop : wArg c.w 24 1 = 0) (hdom : wArg c.w 25 1 = 0) :
    d.pmuResetSoft c = Dev.okRes { d with pmu := { d.pmu with soft := some 1 } } c := by
  simp only [Dev.pmuResetSoft, Dev.withFields_ok hz hr, hop, hdom, bne_self_eq_false, Bool.or_self, Bool.false_eq_true, if_false]

theorem Dev.pmuResetDomain_legal {n : Nat} (hz : wUnusedZero c.w [(24, 26)] = true) (hop : wArg c.w 24 1 = 1)
    (hn : n = wArg c.w 25 1) (hmax : n < 15) (haon : n ≠ 0) (hhost : n ≠ 12) : d.pmuResetDomain c
      = Dev.wrBit { d with pmu := { d.pmu with domCmds := mput d.pmu.domCmds n c } } F.PMU_DOM_rst n true := by
  simp only [Dev.pmuResetDomain, Dev.withFields_ok hz hr, hop, ← hn, Nat.not_le.2 hmax, haon, hhost, bne_self_eq_false,
    decide_false, Bool.or_self, Bool.false_eq_true, if_false]

/-! ### PMU_RESOURCE (R493) -/

section
variable {kind idx : Nat} (hz : wUnusedZero c.w [(24, 26), (28, 32)] = true) (hkind : kind = wArg c.w 25 1)
  (hidx : idx = wArg c.w 28 4) (hok : resOk kind idx = true)
include hz hkind hidx hok

/-- A sound PMU_RESOURCE of the operation named runs it. -/
theorem Dev.resCmd_op {op : Nat} (hop : wArg c.w 24 1 = op) (k : Dev → Nat → Nat → Dev) : d.resCmd c op k = k d kind idx := by
  simp only [Dev.resCmd, Dev.withFields_ok hz hr, hop, ← hkind, ← hidx, hok, bne_self_eq_false, Bool.not_true,
    Bool.false_eq_true, if_false]

theorem Dev.pmuResourceRetire_not_last (hop : wArg c.w 24 1 = 0)
    (hlane : kind = 0 → d.rd F.REEL_LANES_retired + 2 ^ idx ≠ 65535) (hcore : kind = 6 → d.rd F.PMU_CORE_retired + 2 ^ idx ≠ 255)
    (he : e = d.resRetire kind idx) : d.pmuResourceRetire c = e.okRes c (e.resResult kind idx) := by
  have hnotLane : (decide (kind = 0) && decide (d.rd F.REEL_LANES_retired + 2 ^ idx = 65535)) = false := by simpa using hlane
  have hnotCore : (decide (kind = 6) && decide (d.rd F.PMU_CORE_retired + 2 ^ idx = 255)) = false := by simpa using hcore
  simp only [Dev.pmuResourceRetire, Dev.resCmd_op hr hz hkind hidx hok hop, hnotLane, hnotCore, ← he, Bool.false_and,
    Bool.or_self, Bool.false_eq_true, if_false]

theorem Dev.pmuResourceRestore_passed (hop : wArg c.w 24 1 = 1) (hrow : kind ≠ 5) (hret : d.resRetired kind idx = true)
    (he : e = d.resRestore kind idx) : d.pmuResourceRestore c true = e.okRes c (e.resResult kind idx) := by
  simp only [Dev.pmuResourceRestore, Dev.resCmd_op hr hz hkind hidx hok hop, hrow, hret, ← he, Bool.not_true,
    Bool.false_eq_true, if_false]

theorem Dev.pmuResourceQuery_legal (hop : wArg c.w 24 1 = 2) : d.pmuResourceQuery c = d.okRes c (d.resResult kind idx) :=
  Dev.resCmd_op hr hz hkind hidx hok hop _

end

end

/-- The completion of a ring's command to enter Dormant is written before the device stops. -/
theorem Dev.pmuModeSetDormant_ring {n : Fin 64} {w : BitVec 512} {l : List Byte} (hz : wUnusedZero w [(24, 25)] = true)
    (hr : wReservedOk w = true) (hop : wArg w 24 1 = 4) (hm : d.mode = .run)
    (he : e = d.okRes { via := .ring n, w := w, data := l } 0) :
    d.pmuModeSetDormant { via := .ring n, w := w, data := l }
      = (foldN (e.pair n.val).waiting.length (fun _ (d : Dev) => d.completionPost n.val) e).dormantEnter false := by
  simp only [Dev.pmuModeSetDormant, Dev.modeCmd_op (c := { via := .ring n, w := w, data := l }) hr hz hop, hm, ← he]

/-! ### Modes and domains (R471, R478) -/

theorem Dev.modeChange_serving (hserve : d.mode.serving = true) (hnew : d.modeTarget ≠ d.mode) :
    d.modeChange = d.modeEnter d.modeTarget := by
  simp only [Dev.modeChange, Dev.modeSettle, hserve, bne_iff_ne.2 hnew, Bool.and_self, if_true]

theorem Dev.pmuOffMaskWrite_serving {v : Nat} (he : e = d.regWrite32 0x10000 v) (hserve : e.mode.serving = true) :
    d.pmuOffMaskWrite v = e.offMaskApply := by
  simp only [Dev.pmuOffMaskWrite, ← he, hserve, if_true]

end

/-- Settles O38: each clause is the case of the command's meaning in which nothing stands in its way. -/
theorem resetAndModeCommandsComplete : Obligations.ResetAndModeCommandsComplete := by
  refine ⟨fun d e f g q he hf hg => congrArg (ran ⟨d, q⟩) (Dev.aonpor_eq he hf hg),
    fun t d q => ⟨rfl, rfl, rfl⟩,
    fun d q hruns hhalf => congrArg (ran ⟨d, q⟩) (Dev.wdtrst_second_half hruns hhalf),
    fun n x d e q hasked hx he => ?_,
    fun c d e q hz hr hop he => ?_,
    fun c d e q hz hr hop he => ?_,
    fun c d e q hz hr hop he => ?_,
    fun c d e q hz hr hop he => ?_,
    fun n w l d e q hz hr hop hm he => congrArg (ran ⟨d, q⟩) (Dev.pmuModeSetDormant_ring hz hr hop hm he),
    fun c d q hz hr hop hdom => congrArg (ran ⟨d, q⟩) (Dev.pmuResetSoft_legal hr hz hop hdom),
    fun c n d q hz hr hop hn hmax haon hhost => congrArg (ran ⟨d, q⟩) (Dev.pmuResetDomain_legal hr hz hop hn hmax haon hhost),
    fun c kind idx d e q hz hr hop hkind hidx hok hlane hcore he => congrArg (ran ⟨d, q⟩)
      (Dev.pmuResourceRetire_not_last hr hz hkind hidx hok hop (absurd · hlane) (absurd · hcore) he),
    fun c idx d e q hz hr hop hkind hidx hok hlast he => congrArg (ran ⟨d, q⟩)
      (Dev.pmuResourceRetire_not_last hr hz hkind.symm hidx hok hop (fun _ => hlast) (absurd · (by decide)) he),
    fun c idx d e q hz hr hop hkind hidx hok hlast he => congrArg (ran ⟨d, q⟩)
      (Dev.pmuResourceRetire_not_last hr hz hkind.symm hidx hok hop (absurd · (by decide)) (fun _ => hlast) he),
    fun c kind idx d e q hz hr hop hkind hidx hok hrow hret he => congrArg (ran ⟨d, q⟩)
      (Dev.pmuResourceRestore_passed hr hz hkind hidx hok hop hrow hret he),
    fun c kind idx d q hz hr hop hkind hidx hok =>
      congrArg (ran ⟨d, q⟩) (Dev.pmuResourceQuery_legal hr hz hkind hidx hok hop),
    fun d q hserve hnew => congrArg (ran ⟨d, q⟩) (Dev.modeChange_serving hserve hnew),
    fun v d e q he hserve => congrArg (ran ⟨d, q⟩) (Dev.pmuOffMaskWrite_serving he hserve)⟩
  · cases hc : mget? e.pmu.domCmds n.val with
    | none => exact congrArg (ran ⟨d, q⟩) (Dev.domrst_without_command hasked hx he hc)
    | some c => exact congrArg (ran ⟨d, q⟩) (Dev.domrst_completes hasked hx he hc)
  all_goals
    subst he
    exact congrArg (ran ⟨d, q⟩) (Dev.modeCmd_op hr hz hop _)

end Sys2Proof.Machine
end

section
/-! PROOF. Islanded condition, Storm budget, thermal limits, supply warnings, watchdog, wakes, and faults of DRAM and cores
(R472, R474–R476, R481–R483, R486, R491, R492, R528, R532; O39). -/

namespace Sys2Proof.Machine

section
variable {d e f : Dev}

/-! ### Islanded condition, budget and thermal limits (R472, R474–R476) -/

theorem Dev.islandedCondSet_alone (hhost : d.on F.XDI_STATUS_host_present = false)
    (hback : d.on F.ETH_COMMON_backhaul_present = false) : d.islandedCondSet = d.setF F.PMU_STATUS_isl_cond := by
  simp only [Dev.islandedCondSet, hhost, hback, Bool.not_false, Bool.and_self, if_true]

theorem Dev.islandedCondClear_connected (hone : (d.on F.XDI_STATUS_host_present || d.on F.ETH_COMMON_backhaul_present) = true) :
    d.islandedCondClear = d.clrF F.PMU_STATUS_isl_cond := if_pos hone

theorem Dev.stormBudgetExhausted_unthrottled (hm : d.mode = .storm) (hfree : d.on F.PMU_STATUS_throttled = false) :
    d.stormBudgetExhausted = (d.budgetTo 0).throttleTo true := by
  simp only [Dev.stormBudgetExhausted, hm, hfree, beq_self_eq_true, Bool.not_false, Bool.and_self, if_true]

theorem Dev.stormBudgetHalf_throttled (hm : d.mode = .storm) (hthr : d.on F.PMU_STATUS_throttled = true) :
    d.stormBudgetHalf = (d.budgetTo (d.budgetMax / 2)).throttleTo false := by
  simp only [Dev.stormBudgetHalf, hm, hthr, beq_self_eq_true, Bool.and_self, if_true]

theorem Dev.thermalSample_eq {t s : Nat} (he : e = (d.wr F.PMU_TEMP_tj t).wr F.PMU_TEMP_sensor s)
    (hf : f = (if sgn 8 (e.rd F.PMU_THERM_tmax) < sgn 8 t then e.wr F.PMU_THERM_tmax t else e)) :
    d.thermalSample t s = if (f.rd F.PMU_THERM_throttle_c : Int) ≤ sgn 8 t then f.thermTo true else f := by
  subst hf he
  rfl

theorem Dev.thermalThrottleLift_cool (hcool : sgn 8 (d.rd F.PMU_TEMP_tj) ≤ (d.rd F.PMU_THERM_throttle_c : Int) - 5) :
    d.thermalThrottleLift = d.thermTo false := if_pos hcool

theorem Dev.thermalStop_awake (hm : d.mode ≠ .dormant) :
    d.thermalStop = (d.trouble minuetId 2 8 2 (d.rd F.PMU_TEMP_tj)).dormantEnter true := by
  simp only [Dev.thermalStop, beq_false_of_ne hm, Bool.false_eq_true, if_false]

/-! ### Wakes (R476, R481) -/

/-- After a thermal stop only the thermal restart wakes the device, and it wakes after nothing else. -/
theorem Dev.wake_dormant {cause : Nat} (hm : d.mode = .dormant) (hstop : d.on F.PMU_RST_CAUSE_thermal_stop = (cause == 4)) :
    d.wake cause = (d.aonRegs .dormantExit).tsuStart.startCause 5 cause 0 := by
  simp only [Dev.wake, hm, hstop, bne_self_eq_false, Bool.or_self, Bool.false_eq_true, if_false]

theorem Dev.rtcAlarmWake_enabled (hen : d.on F.PMU_WAKE_rtc_en = true) (hm : d.mode = .dormant)
    (hstop : d.on F.PMU_RST_CAUSE_thermal_stop = false) :
    d.rtcAlarmWake = (d.aonRegs .dormantExit).tsuStart.startCause 5 2 0 :=
  (if_pos hen).trans (Dev.wake_dormant hm hstop)

theorem Dev.perstWake_enabled (hm : d.mode = .dormant) (he : e = { d with xdi := { d.xdi with perst := false } })
    (hen : e.on F.PMU_WAKE_perst_en = true) (hme : e.mode = .dormant) (hstop : e.on F.PMU_RST_CAUSE_thermal_stop = false) :
    d.perstWake = (e.aonRegs .dormantExit).tsuStart.startCause 5 3 0 := by
  have hwake : e.wake 3 = _ := Dev.wake_dormant hme hstop
  simp only [Dev.perstWake, hm, ← he, hen, hwake, beq_self_eq_true, if_true]

/-! ### The supply and the watchdog (R482, R483, R486, R528, R532) -/

section
variable {mv : Nat} (he : e = d.wr F.PMU_SUPPLY_vcore_mv mv)
include he

theorem Dev.coreWarnSet_first (hclear : e.on F.PMU_STATUS_core_warn = false) :
    d.coreWarnSet mv = (((((e.setF F.PMU_STATUS_core_warn).setF F.PMU_SUPPLY_warn_seen).bump
      F.PMU_SUPPLY_dips).raise 99).trouble minuetId 1 7 1 mv).gavFlushAll := by
  simp only [Dev.coreWarnSet, ← he, hclear, Bool.false_eq_true, if_false]

theorem Dev.coreWarnClear_standing (hset : e.on F.PMU_STATUS_core_warn = true) :
    d.coreWarnClear mv = ((e.clrF F.PMU_STATUS_core_warn).raise 99).trouble minuetId 1 7 0 mv := by
  simp only [Dev.coreWarnClear, ← he, hset, if_true]

end

theorem Dev.pwrWarnFall_first (hclear : d.on F.PMU_STATUS_pwr_warn = false)
    (he : e = ((d.setF F.PMU_STATUS_pwr_warn).setF F.PMU_SUPPLY_pwr_warn_seen).raise 100) :
    d.pwrWarnFall = (e.trouble minuetId 1 7 2 (e.rd F.PMU_SUPPLY_vcore_mv)).gavFlushAll := by
  simp only [Dev.pwrWarnFall, hclear, ← he, Bool.false_eq_true, if_false]

theorem Dev.pwrWarnRise_standing (hset : d.on F.PMU_STATUS_pwr_warn = true)
    (he : e = (d.clrF F.PMU_STATUS_pwr_warn).raise 100) :
    d.pwrWarnRise = e.trouble minuetId 1 7 3 (d.rd F.PMU_SUPPLY_vcore_mv) := by
  simp only [Dev.pwrWarnRise, hset, ← he, if_true]

theorem Dev.wdtEnable_arms {v : Nat} (hoff : d.on F.PMU_WDT_enable = false) (he : e = d.regWrite32 0x10024 v)
    (hon : e.on F.PMU_WDT_enable = true) (hf : f = e.commitRwl 0x10000) :
    d.wdtEnable v = { f with pmu := { e.pmu with half := false } } := by
  simp only [Dev.wdtEnable, hoff, ← he, hon, ← hf, Bool.not_false, Bool.and_self, if_true]

theorem Dev.wdtKick_key {v : Nat} (hkey : v % 65536 = 0xD06E) :
    d.wdtKick v = { d with pmu := { d.pmu with half := false } } := if_pos hkey

theorem Dev.wdtPrewarn_first_half (hruns : d.wdtRuns = true) (hhalf : d.pmu.half = false) : d.wdtPrewarn
    = (Dev.setF { d with pmu := { d.pmu with half := true } } F.PMU_WDT_pre_warned).raise 103 := by
  simp only [Dev.wdtPrewarn, hruns, hhalf, Bool.not_false, Bool.and_self, if_true]

theorem Dev.vaonLoss_on_battery (hbat : d.pmu.vbat = true) : d.vaonLoss = { d with pmu := { d.pmu with vaon := false } } :=
  if_pos hbat

theorem Dev.vbatLoss_on_supply (hsupply : d.pmu.vaon = true) : d.vbatLoss = { d with pmu := { d.pmu with vbat := false } } :=
  if_pos hsupply

/-! ### Faults of DRAM rows and of cores (R491, R492) -/

theorem Dev.dramEccCorrected_eq {row win thr : Nat} {l : List Nat}
    (he : e = (((d.bump F.DMC_ECC_corrected).wr F.DMC_LAST_ERR_row row).raise 480).trouble minuetId 2 0xE 1 row)
    (hwin : win = zeroAs (e.rd F.DMC_ROW_CFG_row_win) 1 * 3600 * sNs)
    (hl : l = (mgetD e.pmu.rowErrs row []).filter (fun t => e.clk < t + win) ++ [e.clk])
    (hf : f = { e with pmu := { e.pmu with rowErrs := mput e.pmu.rowErrs row l } }) (hthr : thr = f.rd F.DMC_ROW_CFG_row_thr) :
    d.dramEccCorrected row = if thr != 0 && thr ≤ l.length then f.rowRetire row (Config.retireCause 5 1).toNat else f := by
  subst hthr hf hl hwin he
  rfl

theorem Dev.dramEccUncorrectable_eq {row addr a : Nat}
    (he : e = (((d.bump F.DMC_ECC_uncorrected).wr F.DMC_LAST_ERR_row row).raise 481).trouble minuetId 2 0xE 2 row)
    (ha : a = addr / 4 * 4) : d.dramEccUncorrectable row addr = Dev.rowRetire { e with pmu := { e.pmu with
      poison := if e.pmu.poison.contains a then e.pmu.poison else e.pmu.poison ++ [a] } } row
        (Config.retireCause 5 2).toNat := by
  subst ha he
  rfl

section
variable {t : Nat} (hserves : bit (d.rd F.PMU_CORE_retired) t = false)
include hserves

theorem Dev.coreEccError_permanent : d.coreEccError t true = d.coreRetire t (Config.retireCause 6 2).toNat := by
  simp only [Dev.coreEccError, hserves, Bool.false_eq_true, if_false, if_true]

theorem Dev.coreEccError_transient {win thr : Nat} {l : List Nat} (hwin : win = zeroAs (d.rd F.PMU_CORE_CFG_window) 1 * sNs)
    (hl : l = (mgetD d.pmu.coreFaults t []).filter (fun x => d.clk < x + win) ++ [d.clk])
    (he : e = { d with pmu := { d.pmu with coreFaults := mput d.pmu.coreFaults t l } })
    (hf : f = ((e.bump F.PMU_CORE_transients).raise 105).trouble minuetId 1 4 6 t l.length)
    (hthr : thr = f.rd F.PMU_CORE_CFG_retire_thr) : d.coreEccError t false
      = if thr != 0 && thr ≤ l.length then f.coreRetire t (Config.retireCause 6 1).toNat else f := by
  simp only [Dev.coreEccError, hserves, ← hwin, ← hl, ← he, ← hf, ← hthr, Bool.false_eq_true, if_false]

end

end

/-- Settles O39: each clause is the case of the event's meaning in which nothing stands in its way. -/
theorem powerSupervisionComplete : Obligations.PowerSupervisionComplete := by
  exact ⟨fun d q hhost hback => congrArg (ran ⟨d, q⟩) (Dev.islandedCondSet_alone hhost hback),
    fun d q hone => congrArg (ran ⟨d, q⟩) (Dev.islandedCondClear_connected hone),
    fun d q hm hfree => congrArg (ran ⟨d, q⟩) (Dev.stormBudgetExhausted_unthrottled hm hfree),
    fun d q hm hthr => congrArg (ran ⟨d, q⟩) (Dev.stormBudgetHalf_throttled hm hthr),
    fun t s d e f q he hf => congrArg (ran ⟨d, q⟩) (Dev.thermalSample_eq he hf),
    fun d q hcool => congrArg (ran ⟨d, q⟩) (Dev.thermalThrottleLift_cool hcool),
    fun d q hm => congrArg (ran ⟨d, q⟩) (Dev.thermalStop_awake hm),
    fun d q hm hstop => congrArg (ran ⟨d, q⟩) (Dev.wake_dormant hm hstop),
    fun mv d e q he hclear => congrArg (ran ⟨d, q⟩) (Dev.coreWarnSet_first he hclear),
    fun mv d e q he hset => congrArg (ran ⟨d, q⟩) (Dev.coreWarnClear_standing he hset),
    fun t d q => rfl,
    fun d e q hclear he => congrArg (ran ⟨d, q⟩) (Dev.pwrWarnFall_first hclear he),
    fun d e q hset he => congrArg (ran ⟨d, q⟩) (Dev.pwrWarnRise_standing hset he),
    fun v d e f q hoff he hon hf => congrArg (ran ⟨d, q⟩) (Dev.wdtEnable_arms hoff he hon hf),
    fun v d q hkey => congrArg (ran ⟨d, q⟩) (Dev.wdtKick_key hkey),
    fun d q hruns hhalf => congrArg (ran ⟨d, q⟩) (Dev.wdtPrewarn_first_half hruns hhalf),
    fun d q hen hm hstop => congrArg (ran ⟨d, q⟩) (Dev.rtcAlarmWake_enabled hen hm hstop),
    fun d e q hm he hen hme hstop => congrArg (ran ⟨d, q⟩) (Dev.perstWake_enabled hm he hen hme hstop),
    fun row win thr l d e f q he hwin hl hf hthr =>
      congrArg (ran ⟨d, q⟩) (Dev.dramEccCorrected_eq he hwin hl hf hthr),
    fun row addr a d e q he ha => congrArg (ran ⟨d, q⟩) (Dev.dramEccUncorrectable_eq he ha),
    fun t d q hserves => congrArg (ran ⟨d, q⟩) (Dev.coreEccError_permanent hserves),
    fun t win thr l d e f q hserves hwin hl he hf hthr =>
      congrArg (ran ⟨d, q⟩) (Dev.coreEccError_transient hserves hwin hl he hf hthr),
    fun t d q => rfl,
    fun d q hbat => congrArg (ran ⟨d, q⟩) (Dev.vaonLoss_on_battery hbat),
    fun d q hsupply => congrArg (ran ⟨d, q⟩) (Dev.vbatLoss_on_supply hsupply),
    fun d q => ⟨rfl, rfl⟩⟩

end Sys2Proof.Machine
end

section
/-! PROOF. The bins of a histogram (R503; O52). -/

namespace Sys2Proof.Machine

theorem histBin_below (lg : Bool) (w : Nat) {base v : Int} (h : v < base) : histBin lg w base v = 0 :=
  if_pos (Int.sub_neg_of_lt h)

section
variable {d : Nat} {base v : Int} (hd : v - base = d)
include hd

theorem histBin_linear {w : Nat} (hw : 1 ≤ w) : histBin false w base v = min 63 (1 + d / w) := by
  have hwidth : zeroAs w 1 = w := if_neg (Nat.one_le_iff_ne_zero.1 hw)
  simp only [histBin, hd, hwidth, Int.natCast_nonneg, not_lt.2, Int.toNat_natCast, Bool.false_eq_true, if_false]

theorem histBin_log2 {h : Nat} (hh : h < 64) :
    histBin true h base v = if d / 2 ^ h = 0 then 1 else min 63 (1 + bitLength (d / 2 ^ h)) := by
  simp only [histBin, hd, Nat.mod_eq_of_lt hh, Nat.shiftRight_eq_div_pow, Int.natCast_nonneg, not_lt.2, Int.toNat_natCast,
    if_false, if_true]

end

theorem bitLength_eq {u k : Nat} (hlo : 2 ^ k ≤ u) (hhi : u < 2 ^ (k + 1)) : bitLength u = k + 1 := by
  have hu : u ≠ 0 := Nat.ne_of_gt (Nat.lt_of_lt_of_le (Nat.two_pow_pos k) hlo)
  rw [bitLength, if_neg hu, (Nat.log2_eq_iff hu).2 ⟨hlo, hhi⟩]

theorem lt_bitLength {u k : Nat} (h : 2 ^ k ≤ u) : k < bitLength u := by
  have hu : u ≠ 0 := Nat.ne_of_gt (Nat.lt_of_lt_of_le (Nat.two_pow_pos k) h)
  rw [bitLength, if_neg hu]
  exact Nat.lt_succ_of_le ((Nat.le_log2 hu).2 h)

/-- Settles O52: the bin is 1 and a quotient or a bit length, capped at 63. -/
theorem histogramBins : Obligations.HistogramBins := by
  refine ⟨fun lg w base v h => histBin_below lg w h, fun w d base v hw hd => ⟨fun hfit => ?_, fun hlast => ?_⟩,
    fun h d base v hh hd => ⟨fun hzero => ?_, fun k hk2 hk62 hlo hhi => ?_, fun hlast => ?_⟩, by decide, by decide, by decide⟩
  · rw [histBin_linear hd hw, Nat.min_eq_right (by omega)]
  · have hq : 62 ≤ d / w := (Nat.le_div_iff_mul_le hw).2 hlast
    rw [histBin_linear hd hw, Nat.min_eq_left (by omega)]
  · rw [histBin_log2 hd hh, if_pos hzero]
  · obtain ⟨j, rfl⟩ := Nat.exists_eq_add_of_le' hk2
    have hu : d / 2 ^ h ≠ 0 := Nat.ne_of_gt (Nat.lt_of_lt_of_le (Nat.two_pow_pos j) hlo)
    rw [histBin_log2 hd hh, if_neg hu, bitLength_eq hlo hhi, Nat.min_eq_right (by omega)]
    omega
  · have hu : d / 2 ^ h ≠ 0 := Nat.ne_of_gt (Nat.lt_of_lt_of_le (Nat.two_pow_pos 61) hlast)
    rw [histBin_log2 hd hh, if_neg hu, Nat.min_eq_left (by have := lt_bitLength hlast; omega)]

end Sys2Proof.Machine
end

section
/-! PROOF. The sound recorder and the trouble log (R501, R502, R505, R506, R511–R515, R520–R522; O40). -/

namespace Sys2Proof.Machine

section
variable {d e f : Dev}

/-! ### The recorder (R501, R502, R505, R506, R520) -/

theorem Dev.srbEnable_sound {last : Option (Nat × Nat × Nat)} (hoff : d.on F.SRB_STATUS_running = false)
    (harea : d.inDram d.srbArea (0x10000 + 64 * d.srbUnits) = true) (hlast : last = d.srbScan.getLast?)
    (he : e = (d.setF F.SRB_CTRL_enable).commitRwl 0x110000)
    (hf : f = (Dev.wr { e with srb := { e.srb with
      held := d.srbScan, capture := [], ringPos := (last.map (fun x => x.2.1 + x.2.2)).getD 0 } }
        F.SRB_NEXT_LO_rseq ((last.map (fun x => x.1 + 1)).getD 0)).srbShowOldest) :
    d.srbEnable = (foldN 32 (fun s d => (d.histRestart s).extRestart s) f).setF F.SRB_STATUS_running := by
  simp only [Dev.srbEnable, hoff, harea, ← hlast, ← he, ← hf, Bool.not_true, Bool.false_eq_true, if_false]

theorem Dev.srbTakeItem_front {it : List Byte} (hfront : d.fifoHead srbFq = some it) : d.srbTakeItem
    = (d.fifoPop srbFq).srbCount (leAt it 0 1) (leAt it 1 1) (sgn 64 (leAt it 2 8)) (leAt it 10 8) := by
  simp only [Dev.srbTakeItem, hfront]

theorem Dev.srbSample_waiting {it : List Byte} (hrun : d.on F.SRB_STATUS_running = true) (hfront : d.fifoHead srbFq = some it) :
    d.srbSample none = (d.fifoPop srbFq).srbCount (leAt it 0 1) (leAt it 1 1) (sgn 64 (leAt it 2 8)) (leAt it 10 8) :=
  (if_pos hrun).trans (Dev.srbTakeItem_front hfront)

/-- A hardware sample enters the FIFO before its oldest item is counted. -/
theorem Dev.srbSample_hardware {m i v : Nat} {it : List Byte} (he : e = d.sample m i v)
    (hrun : e.on F.SRB_STATUS_running = true) (hfront : e.fifoHead srbFq = some it) : d.srbSample (some (m, i, v))
      = (e.fifoPop srbFq).srbCount (leAt it 0 1) (leAt it 1 1) (sgn 64 (leAt it 2 8)) (leAt it 10 8) := by
  subst he
  exact Dev.srbSample_waiting hrun hfront

theorem Dev.snapshotTimer_due {sec n : Nat} (hn : n = d.rd F.SRB_CTRL_snap_s) (hset : n ≠ 0) (hdue : sec % n = 0) :
    d.snapshotTimer sec = d.srbRequest false := by
  simp only [Dev.snapshotTimer, ← hn, bne_iff_ne.2 hset, hdue, beq_self_eq_true, Bool.and_self, if_true]

theorem Dev.srbSnapNow_running (hrun : d.on F.SRB_STATUS_running = true) :
    d.srbSnapNow = (d.setF F.SRB_CTRL_snap_now).srbRequest true := if_pos hrun

theorem Dev.snapshotWritten_captured (hsome : d.srb.capture.isEmpty = false) : d.snapshotWritten = d.srbWriteCapture := by
  simp only [Dev.snapshotWritten, hsome, Bool.false_eq_true, if_false]

theorem Dev.srbWselWrite_eq {v : Nat} {r : List Byte}
    (he : e = ((d.wr F.SRB_WSEL_idx (bits v 0 5)).flag F.SRB_WSEL_tracker (bit v 5)).setF F.SRB_WSEL_loaded)
    (hrec : r = srbSealed (if bit v 5 then e.extRecord (bits v 0 5) false else e.histRecord (bits v 0 5) false)) :
    d.srbWselWrite v = foldN 80 (fun w d => d.wr (F.SRB_WIN_w.at w) (leAt r (4 * w) 4)) e := by
  subst hrec he
  rfl

/-- After a copy that took records, the next rseq to ask for follows the last of them. -/
theorem Dev.srbCopy_taken {c : Desc} {units : Nat} {rest : List (Nat × Nat × Nat)} {got : List (Nat × List Byte)}
    (hz : wUnusedZero c.w [(8, 20), (24, 37)] = true) (hr : wReservedOk c.w = true) (hunits : units = wArg c.w 32 4)
    (hflags : wArg c.w 36 1 < 2) (hlen : wLen c.w % 64 = 0) (hfit : units ≤ wLen c.w / 64)
    (he : e = (if wArg c.w 36 1 == 1 then (d.srbRequest true).srbWriteCapture else d))
    (hrest : rest = e.srb.held.filter (fun x => wArg c.w 24 8 ≤ x.1)) (hgot : got = e.srbTake rest units) (hsome : got ≠ []) :
    d.srbCopy c = e.finish c {
      status := 0, result := got.length, result2 := (got.getLast?.map (·.1 + 1)).getD 0
      data := [(wAddr c.w, got.flatMap (·.2))] } := by
  obtain ⟨y, hy⟩ := Option.isSome_iff_exists.1 (List.getLast?_isSome.2 hsome)
  simp only [Dev.srbCopy, Dev.withFields_ok hz hr, ← hunits, hflags, hlen, hfit, ← he, ← hrest, ← hgot, hy, Option.map_some,
    Option.getD_some, beq_self_eq_true, decide_true, Bool.and_self, if_true]

/-! ### The trouble log (R511–R515, R521, R522) -/

theorem Dev.logRecord_oldest {x : LogEv} {rest : List LogEv} (hoff : d.log.offered = x :: rest)
    (he : e = { d with log := { d.log with offered := rest } }) : d.logRecord = (e.logAdmit x).logDrain := by
  simp only [Dev.logRecord, hoff, ← he]

theorem Dev.logAppend_sound {m v a t : Nat} {b : List Byte} (ha : a = hallBase + bits v 5 21 * 32) (hin : inHall a 32 = true)
    (hb : b = d.mem.readBytes a 32) (hcrc : leAt b 28 3 = crc32c 0xFFFFFFFF (b.take 28) % 2 ^ 24) (hlo : 0x80 ≤ byteAt b 13)
    (hhi : byteAt b 13 ≤ 0xEF) (hfw : bit (byteAt b 14) 0 = true) (ht : t = leAt b 0 8) : d.logAppend m v = (d.logAdmit {
      tick := if t = 0 then d.tick else t, src := m, sev := byteAt b 12 / 64, code := byteAt b 13
      p0 := leAt b 16 4, p1 := leAt b 20 4, p2 := leAt b 24 4 } (byteAt b 14)).logDrain := by
  simp only [Dev.logAppend, ← ha, hin, ← hb, hcrc, hlo, hhi, hfw, ← ht, beq_self_eq_true, decide_true, Bool.and_self,
    Bool.not_true, Bool.false_eq_true, if_false, if_true]

theorem Dev.logBuf_posts {n : Fin 64} {w : BitVec 512} {l : List Byte} (hz : wUnusedZero w [(8, 20)] = true)
    (hr : wReservedOk w = true) (hlen : wLen w % 32 = 0) (hmin : 32 ≤ wLen w) (hmax : wLen w ≤ 0x100000) :
    d.logBuf { via := .ring n, w := w, data := l }
      = (d.setPair n.val { d.pair n.val with bufs := (d.pair n.val).bufs ++ [{ w := w }] }).logDrain := by
  simp only [Dev.logBuf, Dev.withFields_ok (d := d) (c := { via := .ring n, w := w, data := l }) hz hr, hlen, hmin, hmax,
    beq_self_eq_true, decide_true, Bool.and_self, if_true]

theorem Dev.logBufTimeout_due {n : Nat} {b : PostedBuf} {rest : List PostedBuf} (hring : d.logRing = some n)
    (hbufs : (d.pair n).bufs = b :: rest) (hsome : b.records ≠ 0)
    (hdue : b.firstTick + zeroAs (d.rd F.LOG_CTRL_drain_to) 1 * msNs ≤ d.tick) :
    d.logBufTimeout = d.logBufEnd n b stOkPartial := by
  simp only [Dev.logBufTimeout, hring, hbufs, bne_iff_ne.2 hsome, hdue, decide_true, Bool.and_self, if_true]

section
variable {c : Desc} (hr : wReservedOk c.w = true)
include hr

theorem Dev.logMark_written {t : Nat} (hz : wUnusedZero c.w [(24, 36)] = true) (he : e = d.logAdmit {
      tick := d.tick, src := 0, sev := 0, code := 0xF2, p0 := wArg c.w 24 4, p1 := wArg c.w 28 4, p2 := wArg c.w 32 4 })
    (ht : t = e.rd F.LOG_TAIL_tail) (hmoved : t ≠ d.rd F.LOG_TAIL_tail) :
    d.logMark c = (e.okRes c ((t + 2 ^ 32 - 1) % 2 ^ 32)).logDrain := by
  simp only [Dev.logMark, Dev.withFields_ok hz hr, ← he, ← ht, hmoved, if_false]

theorem Dev.logClear_legal (hz : wUnusedZero c.w [] = true) : d.logClear c = (d.logEmpty 0).okRes c d.logLevel :=
  Dev.withFields_ok hz hr _

end

theorem Dev.logHeadWrite_within {v : Nat} (hfree : d.on F.LOG_STATUS_drain_ring = false)
    (hin : serSub 32 v (d.rd F.LOG_HEAD_head) ≤ d.logLevel) : d.logHeadWrite v = d.logHeadTo v := by
  simp only [Dev.logHeadWrite, hfree, Nat.not_lt.2 hin, decide_false, Bool.or_self, Bool.false_eq_true, if_false]

theorem Dev.logSelWrite_eq {v : Nat} (he : e = (d.wr F.LOG_SEL_slot (bits v 0 15)).setF F.LOG_SEL_loaded) : d.logSelWrite v
    = foldN 8 (fun i d' => d'.wr (F.LOG_REC_w.at i) (bits (tget d.log.slots (bits v 0 15)) (32 * i) 32)) e := by
  subst he
  rfl

theorem Dev.suppressedSummaryTimer_due {x : Nat} {b : LogBucket} (hb : b = mgetD d.log.buckets x {}) (hsome : b.supp ≠ 0)
    (hdue : b.lastTick + sNs ≤ d.tick) : d.suppressedSummaryTimer x = (d.logSuppSummary x).logDrain := by
  simp only [Dev.suppressedSummaryTimer, ← hb, bne_iff_ne.2 hsome, hdue, decide_true, Bool.and_self, if_true]

end

/-- Settles O40: each clause is the case of the command's meaning in which nothing stands in its way. -/
theorem recorderAndLogCommandsComplete : Obligations.RecorderAndLogCommandsComplete := by
  exact ⟨fun last d e f q hoff harea hlast he hf =>
      congrArg (ran ⟨d, q⟩) (Dev.srbEnable_sound hoff harea hlast he hf),
    fun it d q hrun hfront => congrArg (ran ⟨d, q⟩) (Dev.srbSample_waiting hrun hfront),
    fun m i v it d e q he hrun hfront => congrArg (ran ⟨d, q⟩) (Dev.srbSample_hardware he hrun hfront),
    fun v d q => rfl,
    fun sec n d q hn hset hdue => congrArg (ran ⟨d, q⟩) (Dev.snapshotTimer_due hn hset hdue),
    fun d q hrun => congrArg (ran ⟨d, q⟩) (Dev.srbSnapNow_running hrun),
    fun d q hsome => congrArg (ran ⟨d, q⟩) (Dev.snapshotWritten_captured hsome),
    fun v d e r q he hrec => congrArg (ran ⟨d, q⟩) (Dev.srbWselWrite_eq he hrec),
    fun x rest d e q hoff he => congrArg (ran ⟨d, q⟩) (Dev.logRecord_oldest hoff he),
    fun m v a t b d q ha hin hb hcrc hlo hhi hfw ht =>
      congrArg (ran ⟨d, q⟩) (Dev.logAppend_sound ha hin hb hcrc hlo hhi hfw ht),
    fun n w l d q hz hr hlen hmin hmax => congrArg (ran ⟨d, q⟩) (Dev.logBuf_posts hz hr hlen hmin hmax),
    fun n b rest d q hring hbufs hsome hdue => congrArg (ran ⟨d, q⟩) (Dev.logBufTimeout_due hring hbufs hsome hdue),
    fun c units d e rest got q hz hr hunits hflags hlen hfit he hrest hgot hsome => congrArg (ran ⟨d, q⟩)
      (Dev.srbCopy_taken hz hr hunits hflags hlen hfit he hrest hgot hsome),
    fun c d e t q hz hr he ht hmoved => congrArg (ran ⟨d, q⟩) (Dev.logMark_written hr hz he ht hmoved),
    fun c d q hz hr => congrArg (ran ⟨d, q⟩) (Dev.logClear_legal hr hz),
    fun m d q => rfl,
    fun v d q hfree hin => congrArg (ran ⟨d, q⟩) (Dev.logHeadWrite_within hfree hin),
    fun v d e q he => congrArg (ran ⟨d, q⟩) (Dev.logSelWrite_eq he),
    fun x b d q hb hsome hdue => congrArg (ran ⟨d, q⟩) (Dev.suppressedSummaryTimer_due hb hsome hdue)⟩

end Sys2Proof.Machine
end

section
/-! PROOF. Every command answers, the queue drains in order, and what a step does with and without a command in front (R341, R349;
O41–O44). -/

namespace Sys2Proof.Machine

/-! ### One step -/

theorem step_cons (i : Instr) (d : Dev) (q : List Instr) : step ⟨d, i :: q⟩ = exec i ⟨d, q⟩ := rfl

theorem step_nil (d : Dev) : step ⟨d, []⟩ = ran ⟨d, []⟩ d.idle := rfl

theorem Dev.postedDrain_none {d : Dev} (h : d.sys.posted = []) : d.postedDrain = d := by
  have hsys : ({ d.sys with posted := [] } : Sys) = d.sys := by rw [← h]
  rw [Dev.postedDrain, h, hsys, List.foldl_nil]

theorem Dev.tamperSettle_untripped {d : Dev} (h : d.rd F.PAV_TMP_STAT_live = 0) : d.tamperSettle = d := by
  simp only [Dev.tamperSettle, h, if_true]

/-- Settles O41: a step matches on the queue. -/
theorem stepRunsTheFrontCommand : Obligations.StepRunsTheFrontCommand := step_cons

/-- Settles O42: with nothing on its way and no sensor tripped, only the two counts are left of the idle step. -/
theorem idlePassesOneNanosecond : Obligations.IdlePassesOneNanosecond := by
  refine ⟨step_nil, fun d hposted hlive => ?_⟩
  rw [step_nil, Dev.idle, Dev.postedDrain_none hposted, Dev.tamperSettle_untripped hlive]
  rfl

/-! ### Runs -/

/-- Each command answers an effect on the device that its operands and the device give: none stops the block, and none reads or
touches the queue behind it. Once an arm is written as `ran`, the projections of the state reduce and the queue is gone from
the effect. -/
theorem exec_effect (i : Instr) (d : Dev) : ∃ e : Dev, ∀ q : List Instr, exec i ⟨d, q⟩ = ran ⟨d, q⟩ e := by
  cases i <;> (constructor; intro q; change ran ⟨d, q⟩ _ = _; dsimp only)

/-- Settles O43: the effect is on the device alone. -/
theorem everyCommandAnswers : Obligations.EveryCommandAnswers := by
  rintro i ⟨d, q⟩
  obtain ⟨e, he⟩ := exec_effect i d
  exact ⟨⟨e, q⟩, he q, rfl⟩

theorem run_cons {i : Instr} {d e : Dev} {q : List Instr} (he : exec i ⟨d, q⟩ = ran ⟨d, q⟩ e) (k : Nat) :
    Host.Core.run Sys2Proof.core (k + 1) ⟨d, i :: q⟩ = Host.Core.run Sys2Proof.core k ⟨e, q⟩ := by
  have hstep : Sys2Proof.core.step ⟨d, i :: q⟩ = .next ⟨e, q⟩ := he
  simp only [Host.Core.run, hstep]

/-- Settles O44, by induction on the commands that run. -/
theorem queueDrainsInOrder : Obligations.QueueDrainsInOrder := by
  intro l
  induction l with
  | nil => exact fun d => ⟨d, fun r => rfl⟩
  | cons i l ih =>
    intro d
    obtain ⟨e, he⟩ := exec_effect i d
    obtain ⟨f, hf⟩ := ih e
    exact ⟨f, fun r => (run_cons (he (l ++ r)) l.length).trans (hf r)⟩

end Sys2Proof.Machine
end
